-- ==== Sys2Proof/Word.lean ====
section
/-!
DEFINITION. Word.lean: the word types of the ZV40 and their plainest readings.

A point of the signal space is 32 bits wide (R6); multi-byte formats are little-endian (R5).
-/
namespace Sys2Proof

/-- The raw content of one point of the signal space (R6). -/
abbrev Word := BitVec 32

/-- One byte of a ZV40-defined format. -/
abbrev Byte := BitVec 8

/-- The word that holds a natural number, modulo 2^32. -/
def Word.ofNat (n : Nat) : Word := BitVec.ofNat 32 n

/-- The word that holds an integer in two's complement, modulo 2^32. -/
def Word.ofInt (z : Int) : Word := BitVec.ofInt 32 z

end Sys2Proof
end

