-- ==== Sys2Proof/Points.lean ====
section
/-!
DEFINITION. Points.lean: the names of the points of the signal space (R21 to R28, R534).

One constructor of `Field` per catalogue path of the manual's tables, without its indices; a point is a field with
two indices. Index `i` names the entity: a drive, a round, a channel; an arm as drive × 24 + arm, a winding set as
drive × 4 + set, a round position as round × 256 + position, an arm slot as round × 16 + slot, a CAN map as
controller × 64 + map, a CAN object as controller × 256 + object, an envelope point as agent × 3 + tier, a cell by its
address, a plant-logic point by its signal space index. Index `j` names an element of an array, or the word of a
64-bit quantity: 0 for `.lo`, 1 for `.hi` (R27). For `cell` it is the offset in the cell block (R25), for `pos` the
offset in the position's 8 points, for `slot` the offset in the slot's 96 points (Table 1.5).
-/
namespace Sys2Proof

/-- Point types (R6): `q n` and `uq n` hold `n` fraction bits. `guarded`: the type of the guarded input (Table 17.9), read as
its raw word where no input is at hand. -/
inductive PtTy where
  | u32 | s32 | f32 | q (n : Nat) | uq (n : Nat) | guarded
  deriving DecidableEq, Repr

/-- The named points of the catalogue, each one path of the manual's point tables. -/
inductive Field where
  | devEpoch | devTime | devTimeState | devTimeErrorNs | devEpochSetting | devTimeSource | devTimeSlewPpm
  | devTimeSourceTimeoutMs | devSyncInDiv | devTimeSet | devSyncOutDiv | devCatalogueVersion | devPdReportCheck
  | devPdReportEntity | devPdReportIndex | devPdReportDetail | devPdReportLaneDrives | devMode | devModePrev
  | devOverrideCount | devSafeCause | devWakeCause | devWakeRace | devBootBank | devSelftest | devModeCmd
  | devOverrideReason | devOverrideEnable | devHaltTimeoutMs | devStoDiscrepancyMs | devSupWdtMs | devLogicWdtMs
  | devWakeMask | devWakeDiMask | devWakeDiLevel | devWakeTime | devHifVersion | devHifSession | devHifWdtMs
  | devHifWdtState | devHifPrCount | devHifPrPeak | devHifAccepted | devHifLate | devHifFull | devHifSuperseded
  | devHifCplDiscarded | devHifRingFaults | envPolicy | envPoints | envSetGen | envNeedBytes | envSeq
  | envSealedEpoch | envSealNs | envSkipped | envSkipCause | envBPBudgetBytes | jrnPartitionGib | jrnCkptMs
  | jrnState | jrnSpanMs | jrnLost | jrnRawBps | jrnStoredBps | jrnTrigCode | jrnTrigSafe | jrnPreMs | jrnPostMs
  | jcapFirst | jcapLast | jcapTriggers | repEpochs | repDivEpoch | repDivLane | repDivLanes | repDivRecorded
  | repDivComputed | pairEnable | pairRole | pairProtection | pairEligible | pairGeneration | pairLinkNs | pairHash
  | pairMismatches | pairTakeovers | pairLastTakeover | pairResyncMs | pairWarmAgeMs | pairHandoverHold
  | pairAdoptedCmds | pairTimeOffsetNs | pairAutoResync | devKernelCompat | logicDdrMib | logicIrqGrant
  | logicAccessFaults | logicRestarts | devStoSeen | coreLoad | coreStackFaults | coreDeadLetters | supVctlAV
  | supVctlBV | supHoldupV | supRailV | supHoldupReady | grdInput | grdFilter | grdFilterArg | grdStaleMs | grdAction
  | grdDrives | grdLo | grdHi | grdHyst | grdSubst | grdValue | grdState | grdCellsBad | grdEpisodes | grdFirstBad
  | thmWarnC | thmThrottleC | thmShutdownC | thmHystK | thmK | thmFloor | thmFaultFactor | devThermalTempC
  | devThermalFactor | soWindowUs | soSeq | soReports | soOpenPeak | soEarlyCloses | soIngestDropped | soRingLost
  | pmSeq | pmCode | pmCount | pmBitmap | hwHwInsert | hwDoOverload | hwFwSecurityFloor | hwFwKeySlots
  | hwPdRequireSigned | hwDi | hwSto | hwDoState | hwSyncTerm | hwDo | encPwrMode | encPwrState | ainMode | ainValue
  | sdmOsr | sdmValue 
  | rndState | rndEnds | rndTurn | rndDelayNs | rndDelayANs | rndDelayBNs | rndCloseANs | rndCloseBNs | rndLate
  | rndCellsPresent | rndCellsActive | rndSlotCrc | rndSlotMissing | rndBreaks | rndSlowTimeouts | rndSoDropped
  | rndFirstPosition | rndCoastLimit | rndLostEpochs | rndChargeTimeoutMs | rndRestoreEpochs | laneDrive
  | laneInService | laneCyclesLimit | laneCyclesUsed | laneSkipEpochs | laneSkipRunMax | laneHash | pos | slot
  | glCyclesUsed | glHash | cell | logicPt 
  | drvType | drvPolePairs | drvRatedPowerW | drvRatedTorqueNm | drvRatedSpeedRpm | drvRatedCurrentA
  | drvRatedVoltageV | drvRatedFluxVs | drvRsOhm | drvSigmaLsH | drvLmH | drvLrH | drvTrS | drvLdH | drvLqH
  | drvPsiVs | drvMSetH | drvMtpa | drvCtrlMode | drvTorqueRef | drvSpeedRef | drvAccelMax | drvTorqueRefEff
  | drvSpeedRefEff | drvCcMode | drvCcGain | drvCcDelayMin | drvPiKpVPerA | drvPiTiUs | drvILimit | drvITrip
  | drvICont | drvI2tTauS | drvIConsensus | drvFluxRef | drvFluxMin | drvFluxBwHz | drvBlendSpeed | drvFwMargin
  | drvFwGain | drvSpeedMax | drvVNeedV | drvSpdBwHz | drvSpdRatio | drvPosKp | drvSpdFf | drvSpdDiv | drvJKgm2
  | drvJMin | drvJMax | drvJAdapt | drvJRate | drvJAlphaMin | drvLtoBwHz | drvSlPllHz | drvSlMinSpeed
  | drvSlLowCurrent | drvHfi | drvHfiV | drvFbUse | drvFbInUse | drvFbPlaus | drvFbPlausEpochs | drvFbRejoinDeg
  | drvSpeedTrip | drvVdcRef | drvIqLineRef | drvVdcBwHz | drvPllHz | drvLineRideMs | drvIdentCmd | drvIdentMotion
  | drvIdState | drvIdStep | drvIdRsOhm | drvIdSigmaLsH | drvIdLmH | drvIdTrS | drvIdLdH | drvIdLqH | drvIdPsiVs
  | drvIdAngle | drvStatus | drvSkipConsecutive | drvSkipTotal | drvCompEpochs | drvSpeedEst | drvSpeedSl
  | drvAngleEst | drvAngleSl | drvSwitchAngleErr | drvTorqueEst | drvLoadTorqueEst | drvLoadTorqueSlope | drvFluxEst
  | drvJEst | drvI2t | drvCapVmaxV | drvCapSpeed | drvCapTorque | drvLaneCost | setEnable | setShare | setISource
  | setId | setIq | setIdRef | setIqRef | setVd | setVq | setVmax 
  | drvTopology | drvModMode | drvInterleave | drvNlmBand | drvNlmIDead | drvTrimGain | drvTrimMax | drvShareGain
  | drvBalMode | drvBalKTotal | drvBalKHoriz | drvBalKVert | drvBalTiMs | drvBalCmV | drvBalCmHz | drvArmLH
  | drvArmROhm | drvCircGain | drvCircLimit | drvVcapRefPct | drvBalDevWarn | drvBalDevTrip | drvSpreadMax
  | drvLimpFloor | drvRejoinBand | drvVcapRefEff | drvRedExceeded | armArmId | armRole | armSet | armNReq | armKRed
  | armCarrierCode | armShift | armRChopOhm | armCellAddr | armPtrim | armInService | armLost | armRefRaw | armNIns
  | armVSum | armVAvg | armVMin | armVMax | armEnergyPu | armICircRef | armICirc | armRephase | armPChopW
  | armSwitchHz 
  | drvRegime | drvLimpCause | drvHalting | drvFaultCause | drvRunCmd | drvBlockCmd | drvFaultReset | drvHaltDecel
  | drvStopSpeed | drvStopMs | drvLimpTorque | drvLimpSpeed | drvLimpSkipClear | drvHaulSign | drvShockResp
  | drvShockSlope | drvShockLevel | drvShockClearLevel | drvShockConfirm | drvShockClearMs | drvAbsorbSlew
  | drvAbsorbDip | drvHoldGain | drvHoldILimit | drvHoldMs | drvRenderTension | drvRenderSpeedMax | drvRenderCmd
  | drvShockCount | drvCrashEnable | drvCrashCmd | drvCrashPhase | drvCrashSpeed | drvCrashTorque | drvCrashAccel
  | drvCrashZeroSpeed | drvCrashWindmillMs | drvReleaseEnable | drvBrakeAux | drvReleaseCmd | drvReleaseState
  | drvBrakeLiftMs | drvReleaseRampMs | drvReleaseSpeedMax | drvCellCF | drvPMechW | drvPAllowW | drvRegenPlacedW
  | shaftMembers | shaftLeaderOrder | shaftLeader | shaftRunCmd | shaftCtrlMode | shaftRenderCmd | shaftCrashCmd
  | shaftReleaseCmd | shaftSpeedRef | shaftTorqueRef | shaftWeight | shaftRatio | shaftDampNms | shaftDampMax
  | shaftSlackTorque | shaftSlackSpeed | shaftSlackMs | shaftSlackResp | shaftDecoupleSpeed | shaftDecoupleMs
  | shaftTorqueTotalNm | shaftSpeedRadS | shaftLoadTorqueNm | shaftShareShortNm | pwrPavailSrc | pwrBoSrc | pwrBoBit
  | pwrBoLevel | pwrBoThreshold | pwrBoHyst | pwrPavailScaleW | pwrPavailW | pwrPMotorW | pwrPMarginW
  | pwrPReturnMaxW | pwrRestoreRate | pwrBoPrio | pwrBoHoldMs | pwrBoActive | pwrShedLevel | pwrResMaxPct
  | pwrResReturnW | pwrResStoredJ | pwrResHeadroomJ | pwrResOffset | pwrChopCapW | pwrSurplusW | pwrRouteW 
  | fbKind | fbInvert | fbLines | fbFilterNs | fbZGate | fbIndexTol | fbSpeedMode | fbWindowEpochs | fbStandstillMs
  | fbSsiBits | fbSsiClkKhz | fbSsiDelayNs | fbSsiPosMsb | fbSsiPosLsb | fbSsiGray | fbSsiParity | fbSsiErrBit
  | fbSsiJump | fbScOffsetSinMv | fbScOffsetCosMv | fbScGainRatio | fbTerm | fbState | fbFaultCause | fbStatus
  | fbPos | fbEdgeTime | fbSpeedCps | fbIndexPos | fbIndexCount | fbIndexMisses | fbErrors | fbScAmplitudeMv
  | fbPairOffset | fbClearCmd | cmpEnable | cmpSrc | cmpDir | cmpPolicy | cmpValue | cmpStep | cmpDoPin | cmpPulseNs
  | cmpToken | cmpState | cmpFlags | cmpFiredTime | cmpFiredCount | ptSrc 
  | prfTargetKind | prfTargetIdx | prfType | prfTargetPos | prfTargetV | prfVMax | prfAMax | prfDMax | prfJMax
  | prfStopDecel | prfCmd | prfStartToken | prfStartTime | prfIssueToken | prfItinLoop | prfItinCount | prfItinSeg
  | prfItinTime | prfOrigin | prfHomeMode | prfHomeDir | prfHomeDi | prfHomeDiLevel | prfHomeSpeed | prfHomeCreep
  | prfHomeOffset | prfHomeFinal | prfHomeBackoff | prfHomeMaxTravel | prfHardstopLevel | prfHardstopMs | prfState
  | prfStatus | prfSuspendCause | prfPos | prfVel | prfAcc | prfRemaining | axisKind | axisSource | axisFbSrc
  | axisFbNum | axisFbDen | axisIRunA | axisIMaxA | axisRPhaseOhm | axisLPhaseH | axisKeVS | axisUstep
  | axisUstepRateMax | axisResNow | axisStepDi | axisDirDi | axisExtRes | axisExtFirstUs | axisSxSpeed | axisSxHyst
  | axisToffUs | axisHoldDelayMs | axisHoldPct | axisBoostDev | axisStallDev | axisBoostMax | axisPolePairs
  | axisElecOffset | axisIKp | axisIKi | axisPosKp | axisSpdKp | axisSpdKi | axisHmode | axisDuty | axisOnCmd
  | axisFastOff | axisPullinA | axisHoldA | axisPullinMs | axisGearSrc | axisGearNum | axisGearDen | axisGearOffset
  | axisLwMin | axisLwMax | axisLwLayer | axisGearLag | axisPos | axisDeviation | axisCurrentA | axisStatus 
  | auxPwmHz | auxDeadNs | auxBlankNs | auxDesatV | auxShuntMohm | auxShuntA | auxBootPrechargeUs | auxBootRefreshUs
  | auxBootPulseNs | auxRetryMs | auxRetryMax | auxRetryResetS | auxState | auxCause | auxTries | auxStatus
  | auxDutyMaxEff | auxBootV | auxCurrentA | auxTempFactor | auxInterlockHits | auxTripsTotal | auxClearCmd
  | vauxVauxV | vauxVauxUvV | vauxVauxOvV | vauxVauxHystV | vauxChopOnV | vauxChopHystV | vauxChopBlankNs
  | vauxChopState | vauxChopTries | vauxChopDuty | vauxChopClearCmd | txKind | txBeta | txBridges | txTempC
  | txFactor 
  | drvHostLoss | drvHostHoldMs | drvHostState | drvHostReclaim | drvTxMask | drvThermalFactor 
  | canMode | canNbrp | canNtseg1 | canNtseg2 | canNsjw | canDbrp | canDtseg1 | canDtseg2 | canDsjw | canTdcOffset
  | canTerm | canNbitRate | canDbitRate | canTdcNs | canState | canTec | canRec | canRxFrames | canRxUnmatched
  | canRxRemote | canTxFrames | canErrors | canBusOffs | canTxDiscarded | canTxRefused | canFrankMode | canFrankObj
  | canFrankPeriodMs | canFrankDelayNs | canFrankSeq | canFrankRejects | canFrankErrorNs | mapObj | mapBit | mapLen
  | mapSigned | mapScale | mapOffset | mapTarget | objDir | objId | objMask | objFmt | objLen | objPeriodMs
  | objRxTimeoutMs | objTxCmd | objStatus | objCount | objTime | objData
  deriving DecidableEq, Repr

/-- A point of the signal space: a field and its two indices. -/
structure Pt where
  f : Field
  i : Nat
  j : Nat
  deriving DecidableEq, Repr

/-- Order of points: by field, then entity, then element. -/
def Pt.lt (p q : Pt) : Bool :=
  if p.f.ctorIdx = q.f.ctorIdx then
    if p.i = q.i then decide (p.j < q.j) else decide (p.i < q.i)
  else decide (p.f.ctorIdx < q.f.ctorIdx)

end Sys2Proof
end

