-- ==== Sys2Proof/LaneState.lean ====
section
/-!
DEFINITION. LaneState.lean: what the drive lanes and the profile unit keep from one epoch to the next beside their
points (chapters 4, 6 and 8). Checkpoints of the mailbag carry it (R384), so commands that feed records name it too.
-/
namespace Sys2Proof.Machine

/-- A sparse table of records by unit number. -/
abbrev Tab (α : Type) := List (Nat × α)

/-- An arm entry of a REF section (Table 3.3). -/
structure ArmEntry where
  slot : Nat
  /-- 0 blocked, 1 phase-shifted carrier, 2 nearest level -/
  mode : Nat
  trims : Bool
  neg : Bool
  ref : Int
  step : Int
  phase : Nat
  mask : Nat
  deriving DecidableEq, Repr

/-- An arm entry that blocks the cells of its slot. -/
def ArmEntry.blocked (slot : Nat) : ArmEntry :=
  { slot := slot, mode := 0, trims := false, neg := false, ref := 0, step := 0, phase := 0, mask := 0 }

/-- The memory of a shock governor (R190 to R195): a drive's own, or the one that the group lane runs for a shaft group. -/
structure Gov where
  /-- consecutive epochs with the slope and with the level criterion -/
  slopeN : Nat
  levelN : Nat
  /-- a shock is declared, and since when its clearing conditions hold -/
  shock : Bool
  clearAt : Option Nat
  /-- Absorb limits act -/
  absorb : Bool
  /-- when Hold began, and whether it is used up until the shock clears -/
  holdAt : Option Nat
  holdUsed : Bool
  deriving DecidableEq, Repr

/-- A governor that has judged nothing. -/
def Gov.init : Gov :=
  { slopeN := 0, levelN := 0, shock := false, clearAt := none, absorb := false, holdAt := none, holdUsed := false }

/-- What a drive holds beside its points: the memory of its lane (chapter 4), of the shock governor, of Crash and of
Release (chapter 6). Times are device times in ns. -/
structure Drv where
  /-- consecutive computed epochs since the last skip (R182) -/
  computed : Nat
  /-- the last epoch computed; 0 before the first (R40, R356) -/
  lastComp : Nat
  /-- this epoch's inputs were complete and the lane computes it -/
  complete : Bool
  /-- causes of Table 6.4 now present, bit per code (R184, R187) -/
  causes : Nat
  /-- epoch of the last change of regime, and the regime with which that epoch began (R180, R186) -/
  turnAt : Option Nat
  began : Nat
  /-- since when |speed_est| has been below `stop_speed`, or a line converter's ramp has run (R183, R221) -/
  stopAt : Option Nat
  /-- start value and start time of a ramp to 0 (R183, R220, R221) -/
  rampFrom : Rat
  rampAt : Nat
  /-- consecutive epochs with the slope and with the level criterion (R190) -/
  slopeN : Nat
  levelN : Nat
  /-- a shock is declared, and since when its clearing conditions hold (R190, R195) -/
  shock : Bool
  clearAt : Option Nat
  /-- Absorb limits act (R192) -/
  absorb : Bool
  /-- when Hold began, and whether it is used up until the shock clears (R193) -/
  holdAt : Option Nat
  holdUsed : Bool
  /-- Render by a shock, Render by command (R194) -/
  renderShock : Bool
  renderCmd : Bool
  /-- times and speeds of Crash phase 1 or 4, newest first (R217) -/
  crashHist : List (Nat × Rat)
  /-- t0 of the apply-epoch of ARM, of RELEASE (R219, R220) -/
  armAt : Nat
  relAt : Nat
  /-- RELEASE came from Stopped (Table 6.8) -/
  relStopped : Bool
  /-- END: 0 none, 1 stopping the drum, 2 brake off and waiting, 3 ramping; and when the brake went off (R221) -/
  endStep : Nat
  endAt : Nat
  /-- the brake load is energised (R218, R220) -/
  brakeOn : Bool
  /-- T_eff of the last computed epoch and exact effective speed reference, % rated (R116) -/
  tEff : Rat
  refEff : Rat
  /-- delay compensation in epochs, and the LATE flag of this epoch (R44, R45) -/
  comp : Nat
  lateFlag : Bool
  /-- I²t state and whether it reduces the limit (R120) -/
  theta : Rat
  i2tOn : Bool
  /-- flux weakening integrator and filtered voltage ratio (R126) -/
  fwInt : Rat
  fwFilt : Rat
  /-- flux estimate, flux angle in turns, d reference of the flux controller in A (R123) -/
  psi : Rat
  psiAngle : Rat
  fluxInt : Rat
  /-- speed loop integrator and its held output (R128) -/
  spdX : Rat
  spdOut : Rat
  /-- proportional part and feedforward of the last computed epoch, % of the loop's base (R199) -/
  track : Rat
  /-- inertia estimate and whether it stands at a bound (R129) -/
  jHat : Rat
  jBound : Bool
  /-- load torque observer: speed, load torque, its last two values, last torque (R130) -/
  omHat : Rat
  tlHat : Rat
  tl1 : Rat
  tl2 : Rat
  /-- last measured speed, for acceleration (R129) -/
  omLast : Rat
  /-- plausibility count, epochs of low-speed exit, first epoch computed (R133 to R135) -/
  plausN : Nat
  lowN : Nat
  low : Bool
  started : Bool
  /-- overspeed and overcurrent counts (R137) -/
  overN : Nat
  overI : Nat
  /-- since when VLIMIT has been clear (Table 4.10) -/
  vlimAt : Nat
  /-- line converter: lost epochs, healthy epochs, when lost, V_dc integrator, PLL angle and frequency (R136) -/
  lineN : Nat
  healthyN : Nat
  lineLost : Option Nat
  vdcInt : Rat
  pllAngle : Rat
  pllHz : Rat
  /-- when the identification step began, and the rotor angle in turns at that instant (R138, R139) -/
  idAt : Nat
  idFrom : Rat
  /-- allowance of motoring power and braking torque limit posted by the group lane (R207, R213) -/
  allow : Rat
  brakeMax : Rat
  /-- stored energy of the drive's own reserve pool (R212) -/
  stored : Rat
  /-- when host_hold began (R324) -/
  holdHost : Option Nat
  /-- the drive runs under a thermal shutdown of a class 2 or 3 sensor (R480) -/
  hot : Bool
  /-- state of the sensorless observer: speed in % rated, angle in turns, and what the kernel version adds (R131) -/
  obs : List Rat
  /-- of this epoch: speed in use in rad/s, measured acceleration, frame angle in turns, electromagnetic torque in N·m,
  present current limit in % rated, acceleration of the reference (R116, R120, R128) -/
  omega : Rat
  alpha : Rat
  ang : Rat
  tE : Rat
  iLim : Rat
  alphaRef : Rat
  /-- torque in % rated: demand of the demand path, after the current limit and the shock governor, after sharing
  (R116) -/
  tDem : Rat
  tGov : Rat
  tShr : Rat
  /-- the demand that the effective torque is compared with: the drive's own, or its share of the group's (R116) -/
  tAsk : Rat
  /-- inertia and load torque that the speed loop of this epoch takes: those of the kernels' last run (Table 4.3) -/
  jLoop : Rat
  tlLoop : Rat
  /-- power s(d) − r(d) placed, unplaced rest limits the braking torque (R213, R214) -/
  braking : Bool
  /-- chopper power demand posted by the group lane, W (R166, R214) -/
  chopW : Rat
  /-- reserve offset of the drive's pool, a fraction (R165, R212) -/
  resOff : Rat
  /-- the cap of R165 acted in the last epoch -/
  capped : Bool
  /-- high-frequency injection: sign of the last pulse, last q current, its response (R134) -/
  hfiNeg : Bool
  hfiQ : Rat
  hfiD : Rat
  /-- line converter: amplitude of the line voltage, d and q of it, V; epochs of a PLL out of range (R136) -/
  vLd : Rat
  vLq : Rat
  /-- the power group no longer counts this line converter in service: `LINE_PLL_LOSS` stands (R206) -/
  pllOut : Bool
  /-- rejoin of the feedback channel waits for conditions (R135) -/
  wantFb : Bool
  /-- the payout speed stood above its limit in the last epoch (R194) -/
  paying : Bool
  /-- the power group limits the drive's motoring power (R206, R207) -/
  limited : Bool
  /-- the speed loop's next evaluation presets its integrator so that its demand equals the last effective torque
  (R115) -/
  preset : Bool
  /-- identification is to abort at the next epoch (R138) -/
  idAbort : Bool
  /-- rotor flux of the current model, V·s; flux vector of the voltage model, and the current vector of the last computed
  epoch, on the axes α and β (R123) -/
  psiCm : Rat
  vmA : Rat
  vmB : Rat
  iaLast : Rat
  ibLast : Rat
  /-- integral of the flux controller (R123) -/
  fluxPi : Rat
  deriving DecidableEq, Repr

/-- A drive that has computed nothing. -/
def Drv.init : Drv :=
  { computed := 0, lastComp := 0, complete := false, causes := 0, turnAt := none, began := 0, stopAt := none, rampFrom := 0, rampAt := 0,
    slopeN := 0, levelN := 0, shock := false, clearAt := none, absorb := false, holdAt := none, holdUsed := false,
    renderShock := false, renderCmd := false, crashHist := [], armAt := 0, relAt := 0, relStopped := false,
    endStep := 0, endAt := 0, brakeOn := false, tEff := 0, refEff := 0, comp := 1, lateFlag := false, theta := 0,
    i2tOn := false, fwInt := 0, fwFilt := 0, psi := 0, psiAngle := 0, fluxInt := 0, spdX := 0, spdOut := 0,
    track := 0, jHat := 0, jBound := false, omHat := 0, tlHat := 0, tl1 := 0, tl2 := 0, omLast := 0, plausN := 0,
    lowN := 0, low := false, started := false, overN := 0, overI := 0, vlimAt := 0, lineN := 0, healthyN := 0,
    lineLost := none, vdcInt := 0, pllAngle := 0, pllHz := 0, idAt := 0, idFrom := 0, allow := 0, brakeMax := 0, stored := 0,
    holdHost := none, hot := false, obs := [], omega := 0,
    alpha := 0, ang := 0, tE := 0, iLim := 0, alphaRef := 0, tDem := 0, tGov := 0, tShr := 0, tAsk := 0, jLoop := 0, tlLoop := 0, braking := false,
    chopW := 0, resOff := 0, capped := false, hfiNeg := false, hfiQ := 0, hfiD := 0, vLd := 0, vLq := 0,
    pllOut := false, wantFb := false, paying := false, limited := false, preset := false, idAbort := false, psiCm := 0, vmA := 0, vmB := 0,
    iaLast := 0, ibLast := 0, fluxPi := 0 }

/-- A planned position, velocity and acceleration in the counts of R252. -/
structure Sigma where
  p : Rat
  v : Rat
  a : Rat
  deriving DecidableEq, Repr

/-- At rest at 0. -/
def Sigma.zero : Sigma := { p := 0, v := 0, a := 0 }

/-- A stretch of a plan: its duration in s, acceleration at its start, and jerk. -/
structure Seg where
  dur : Rat
  acc : Rat
  jerk : Rat
  deriving DecidableEq, Repr

/-- A plan: its start, its stretches, its end, and the time passed since its start in s. -/
structure Plan where
  start : Sigma
  segs : List Seg
  fin : Sigma
  t : Rat
  /-- the first stretch brakes away from a reversed motion (`REVERSING`) -/
  reversing : Bool
  deriving DecidableEq, Repr

/-- The plan of an engine at rest. -/
def Plan.rest : Plan := { start := Sigma.zero, segs := [], fin := Sigma.zero, t := 0, reversing := false }

/-- A profile engine beside its points (chapter 8). -/
structure Eng where
  /-- the last three setpoints: σ of this evaluation, of the one before, and of the one before that (R254) -/
  s0 : Sigma
  s1 : Sigma
  s2 : Sigma
  plan : Plan
  /-- type, target and limits in use since the last GO (R259) -/
  ty : Nat
  tgt : Rat
  tv : Rat
  vMax : Rat
  aMax : Rat
  dMax : Rat
  jMax : Rat
  /-- ABORT, or a stop of homing, brought the engine to Stopping (R260); a failed homing, with its cause -/
  aborted : Bool
  failed : Nat
  /-- the engine tracks its target's actual position (R261) -/
  tracks : Bool
  /-- tables: points in use and shadow (time µs, position, velocity), time of the table clock in s, start of the pass,
  and whether the engine still moves to the table (R258) -/
  table : List (Nat × Int × Rat)
  shadow : List (Nat × Int × Rat)
  tabT : Rat
  tabBase : Rat
  approach : Bool
  /-- homing: stage (0 none), source count at HOME, index count at the start of a stage, ms of hard stop (R263) -/
  stage : Nat
  homeFrom : Int
  idx0 : Nat
  stopNs : Nat
  /-- origin that the setpoints are counted from, and the one at HOME, which a homing that fails restores (R252, R264) -/
  org : Int
  homeOrg : Int
  /-- position source: last angle and turns of a drive without feedback, in 1/65,536 turn (R252) -/
  angle : Nat
  turns : Rat
  deriving DecidableEq, Repr

/-- An engine that has planned nothing. -/
def Eng.init : Eng :=
  { s0 := Sigma.zero, s1 := Sigma.zero, s2 := Sigma.zero, plan := Plan.rest, ty := 1, tgt := 0, tv := 0, vMax := 0,
    aMax := 0, dMax := 0, jMax := 0, aborted := false, failed := 0, tracks := false, table := [], shadow := [],
    tabT := 0, tabBase := 0, approach := false, stage := 0, homeFrom := 0, idx0 := 0, stopNs := 0, org := 0, homeOrg := 0, angle := 0,
    turns := 0 }

/-- An auxiliary axis beside its points (chapter 8). Positions in the counts of R252. -/
structure Axis where
  /-- commanded position at t0 of this epoch, at the next t0, and at the one after (R254) -/
  pos : Rat
  next : Rat
  after : Rat
  /-- bridges Ready since; offset between measured and commanded position captured then (R271) -/
  enabled : Bool
  off : Rat
  /-- device time of the last change of commanded position, start of the current reduction (R270) -/
  movedAt : Nat
  reduced : Option Nat
  /-- device time of the last epoch with boost (R271) -/
  boostAt : Option Nat
  stalled : Bool
  faulted : Bool
  /-- position that the current vector realises (R267) -/
  vec : Rat
  /-- voltage amplitude in Surface or current amplitude in Express, with the integrator of the amplitude (R269);
  current reference of a BLDC axis or DC motor, with the integrator of its speed loop (R272) -/
  amp : Rat
  ampI : Rat
  spdI : Rat
  /-- step/direction: last accepted edge and its direction; position before the steps still being spread, and those:
  start, duration and counts (R268) -/
  stepAt : Option Nat
  stepNeg : Bool
  base : Rat
  moves : List (Nat × Nat × Rat)
  /-- coil: switched on since; past its pull-in; decaying after a fast switch-off (R273) -/
  pullAt : Option Nat
  pulled : Bool
  decaying : Bool
  /-- gearing: the last p, and whether its loss was reported (R275) -/
  gearP : Int
  gearLost : Bool
  deriving DecidableEq, Repr

/-- An axis that has not moved. -/
def Axis.init : Axis :=
  { pos := 0, next := 0, after := 0, enabled := false, off := 0, movedAt := 0, reduced := none, boostAt := none,
    stalled := false, faulted := false, vec := 0, amp := 0, ampI := 0, spdI := 0, stepAt := none,
    stepNeg := false, base := 0, moves := [], pullAt := none, pulled := false, decaying := false, gearP := 0,
    gearLost := false }

/-- What a lane keeps of a winding set (sections 4.3 to 4.5 and 5.5), in V, A and s. -/
structure SetSt where
  /-- voltages of the last three computed epochs as the modulation realised them, newest first: in their frames (R117, R118)
  and on the axes α and β (R123, R131) -/
  vdq : List (Rat × Rat)
  vab : List (Rat × Rat)
  /-- current references of the last computed epoch -/
  idRef : Rat
  iqRef : Rat
  /-- measured currents, and the predicted ones -/
  id : Rat
  iq : Rat
  idHat : Rat
  iqHat : Rat
  /-- measured phase currents -/
  ia : Rat
  ib : Rat
  ic : Rat
  /-- integrals of the PI controller, and whether the voltage limit acted on the set in the last computed epoch (R121) -/
  piD : Rat
  piQ : Rat
  vHit : Bool
  /-- slope of the set's own prediction, A/s (Table 4.4) -/
  didt : Rat
  diqt : Rat
  /-- |v_out| / V_lim of the last computed epoch (R126) -/
  ratio : Rat
  /-- V_max of the set (R125) -/
  vMax : Rat
  /-- integrals of the horizontal terms of legs a, b, c and of the total term, and legs whose clamp acts, bit per leg
  (R159, R160) -/
  hor : List Rat
  clampOn : Nat
  /-- phase voltages of the last computed epoch -/
  va : Rat
  vb : Rat
  vc : Rat
  deriving DecidableEq, Repr

/-- A set that has carried nothing. -/
def SetSt.init : SetSt :=
  { vdq := [], vab := [], idRef := 0, iqRef := 0, id := 0, iq := 0, idHat := 0, iqHat := 0, ia := 0,
    ib := 0, ic := 0, piD := 0, piQ := 0, vHit := false, didt := 0, diqt := 0, ratio := 0, vMax := 0, hor := [], clampOn := 0,
    va := 0, vb := 0, vc := 0 }

/-- What a lane keeps of an arm (chapter 5). Cells are named by their arm-local index. -/
structure ArmSt where
  /-- cells that have left service and not rejoined (R167, R172), and those in service at the last computed epoch -/
  out : List Nat
  svc : List Nat
  /-- cells whose ranks the carrier offsets follow (R153, R171) -/
  ranked : List Nat
  /-- an entry with a mode other than 0 has been sent since link-up (R153) -/
  started : Bool
  /-- consecutive epochs outside and inside the consensus, by cell; cells left out of the median (R112) -/
  far : Tab Nat
  near : Tab Nat
  left : List Nat
  /-- consecutive epochs without a valid report; part of the predicted current that circulates in the arm's leg, A (R112) -/
  blind : Nat
  iCirc : Rat
  /-- arm current of this epoch, A -/
  i : Rat
  /-- modulation index and mask of the last computed epoch, and charge direction (R152, R156) -/
  m : Rat
  mask : Nat
  charging : Bool
  /-- a bypass that the ZV40 commanded, by cell: 1 until its directive leaves, then the epoch by which the cell must confirm it,
  2 once that has passed without (R169) -/
  bypass : Tab Nat
  /-- voltage trims of the present epoch, fraction of the index, by cell; phase trims last sent (R162, R164) -/
  trims : Tab Rat
  sent : Tab Int
  /-- a re-phasing is under way, and the device time at which the last of its offsets to leave applies (R171) -/
  phasing : Bool
  offsetsAt : Nat
  /-- t0 and switchings per cell of the epochs of the last 10 ms (Table 5.4) -/
  sw : List (Nat × Rat)
  /-- conditions that stood in the last computed epoch: energy warning, spread, chopper saturated, circulating clamp -/
  warn : Bool
  spread : Bool
  sat : Bool
  /-- the last entry, which a skipped epoch repeats (R40, R177) -/
  entry : ArmEntry
  deriving DecidableEq, Repr

/-- An arm that has carried nothing. -/
def ArmSt.init : ArmSt :=
  { out := [], svc := [], ranked := [], started := false, far := [], near := [], left := [], blind := 0, iCirc := 0, i := 0, m := 0,
    mask := 0, charging := true, bypass := [], trims := [], sent := [], phasing := false, offsetsAt := 0, sw := [], warn := false,
    spread := false, sat := false, entry := ArmEntry.blocked 0 }

/-- What the group lane keeps of a shaft group (section 6.3). -/
structure ShaftSt where
  /-- effective group torque of the last epoch at the shaft, N·m; its demand -/
  tEff : Rat
  tDem : Rat
  /-- since when the rope is slack, and that it has been declared (R203); speed reference held at 0 by `slack_resp` 1 -/
  slackAt : Option Nat
  slack : Bool
  zeroRef : Bool
  /-- since when a member's speed is apart, by member (R204) -/
  apart : Tab (Option Nat)
  /-- last epoch with a shortfall, and an episode is open (R200) -/
  shortAt : Nat
  short : Bool
  /-- the group's shock governor (R196) -/
  gov : Gov
  deriving DecidableEq, Repr

def ShaftSt.init : ShaftSt :=
  { tEff := 0, tDem := 0, slackAt := none, slack := false, zeroRef := false, apart := [], shortAt := 0, short := false,
    gov := Gov.init }

/-- What the group lane keeps of a power group (sections 6.4 and 6.5). -/
structure PowerSt where
  /-- blackout input active, and when it cleared (R208) -/
  bo : Bool
  boCleared : Option Nat
  /-- stored energy of the shared pool (R212) -/
  stored : Rat
  /-- steps 2 and 4 acted in the last epoch (R214); shedding stood (R207) -/
  chop : Bool
  limit : Bool
  shed : Bool
  deriving DecidableEq, Repr

def PowerSt.init : PowerSt :=
  { bo := false, boCleared := none, stored := 0, chop := false, limit := false, shed := false }

/-- The memory of one guard (R473) or of one cell under a cell guard (R477). -/
structure Guard where
  /-- the last three samples, newest first; for debounce the run of equal samples -/
  hist : List Word
  run : Nat
  /-- filter output and its exact value for first order -/
  out : Word
  y : Rat
  primed : Bool
  low : Bool
  high : Bool
  stale : Bool
  escalated : Bool
  /-- last valid guard value -/
  valid : Word
  /-- epoch of the last fresh sample -/
  fresh : Nat
  deriving DecidableEq, Repr

/-- A guard that has judged nothing. -/
def Guard.init : Guard :=
  { hist := [], run := 0, out := 0, y := 0, primed := false, low := false, high := false, stale := false,
    escalated := false, valid := 0, fresh := 0 }

/-- The engines' internal state of a checkpoint (R384, sections 16 to 33): drive lanes, profile unit, auxiliary axes,
guards and thermal levels that the lanes judge by, and the points of class D that they keep as memory. -/
structure LaneImage where
  drvs : Tab Drv
  sets : Tab SetSt
  arms : Tab ArmSt
  shafts : Tab ShaftSt
  powers : Tab PowerSt
  engs : Tab Eng
  axes : Tab Axis
  guards : Tab Guard
  levels : Tab Nat
  held : List (Pt × Word)
  deriving DecidableEq, Repr

/-- No engine has run. -/
def LaneImage.none : LaneImage := { drvs := [], sets := [], arms := [], shafts := [], powers := [], engs := [], axes := [], guards := [], levels := [], held := [] }

end Sys2Proof.Machine
end

