-- ==== Sys2Proof/Syntax.lean ====
section
/-!
DEFINITION. Syntax.lean: the commands of the block, one constructor per row of the opcode table, with the operands
that the row's rule names.

A command is one event at the block's boundary: a write or a descriptor of an agent, the arrival of a frame or
message, a level or edge on a pin, the lapse of a time that a rule names, or a fixed point of the epoch. Unit numbers
are bounded by their types (Table 0.1), so no command names a unit that the hardware lacks; the contents of a
descriptor are plain numbers, because the manual says what a wrong one does.
-/
namespace Sys2Proof

abbrev RoundNo := Fin 16
abbrev CellAddr := Fin 4096
abbrev ArmNo := Fin 24
abbrev SetNo := Fin 4
abbrev DriveNo := Fin 32
abbrev FbNo := Fin 16
abbrev CmpNo := Fin 32
abbrev PtNo := Fin 4
abbrev AuxNo := Fin 12
/-- A half-bridge, or the VAUX chopper as number 12. -/
abbrev AuxUnit := Fin 13
abbrev EngineNo := Fin 48
abbrev CanNo := Fin 4
abbrev ObjNo := Fin 256
abbrev CoreNo := Fin 4
abbrev ShaftNo := Fin 8

/-- The two ends of a round (section 3.1). -/
inductive End where
  | a | b
  deriving DecidableEq, Repr

/-- The agents that issue commands of their own (R13). -/
inductive Agent where
  | host | logic
  deriving DecidableEq, Repr

/-- The fields of a command descriptor that every opcode has (Table 11.6a). `formOk` says that every byte outside the
fields of its form is 0 and its payload length is valid; `opcode` is the code read where it is none of Table 11.7. -/
structure DescHdr where
  major : Nat
  minor : Nat
  formOk : Bool
  opcode : Option Nat
  notice : Bool
  quiet : Bool
  tag : Nat
  /-- apply-epoch, 0 for the earliest possible -/
  apply : Nat
  deriving DecidableEq, Repr

/-- A command applied in an epoch, as section 7 of an epoch record holds it (R383): agent, ring, opcode, tag, and the
signal space index and value of each item as it took effect. -/
structure Applied where
  agent : Nat
  ring : Nat
  opcode : Nat
  tag : Nat
  items : List (Nat × Nat)
  deriving DecidableEq, Repr

/-- One of the sections 1 to 6 of an epoch record: kind, unit and words of its body (Table 13.2). -/
structure InSec where
  kind : Nat
  unit : Nat
  words : List Nat
  deriving DecidableEq, Repr

/-- One record of a mailbag export as REPLAY_FEED passes it (R382, R397): kind, epoch, mode, commands applied
(signal space index and value), lane hashes, lane inputs by section, stored points and engine state of a checkpoint,
and digest and kernel version of a configuration record. -/
structure FedRec where
  kind : Nat
  flags : Nat
  epoch : Nat
  time : Nat
  mode : Nat
  cmds : List Applied
  hashes : List Nat
  inputs : List InSec
  state : List (Pt × Word)
  image : Machine.LaneImage
  digest : List Byte
  kernel : Nat
  deriving DecidableEq, Repr

/-- One export block as REPLAY_FEED passes it (R393): whether its layout and CRCs hold, flags [0] and [1], records. -/
structure FedBlock where
  ok : Bool
  firstFlag : Bool
  lastFlag : Bool
  recs : List FedRec
  deriving DecidableEq, Repr

/-- The opcodes of host interface 1.2 with their payloads (Table 11.7). -/
inductive Op where
  | nop
  | cancel (tag ring : Nat)
  | writePoints (items : List (Nat × Word))
  | writeMasked (items : List (Nat × Word × Word))
  | readPoints (addr : Nat) (idx : List Nat)
  | subscribeP (idx : List Nat)
  | unsubscribeP (idx : List Nat)
  | setM (ranges : List (Nat × Nat))
  | requestF
  | envPolicy (tier policy : Nat)
  | loadPd (bytes : List Byte) (length : Nat)
  | roundLinkup (mask : Nat)
  | cellBypass (addr close : Nat)
  | cellGates (addr release : Nat)
  | slowRead (addr off count : Nat)
  | itinLoad (engine : Nat) (pts : List (Nat × Int × Int))
  | canRecover (ctl : Nat)
  | canAbort (ctl obj : Nat)
  | journalFreeze (pre post : Nat)
  | journalExport (first last : Nat)
  | journalRelease
  | replayFeed (blocks : List FedBlock)
  | pairHandover
  | pairResync
  | fwWrite (data : List Byte) (length off : Nat)
  | fwCommit (length : Nat)
  deriving DecidableEq, Repr

/-- A command descriptor as the ZV40 fetches it. -/
structure Desc where
  hdr : DescHdr
  op : Op
  deriving DecidableEq, Repr

/-- A TRIM entry (R69). -/
structure TrimEntry where
  pos : Nat
  kind : Nat
  value : Int
  deriving DecidableEq, Repr

/-- A SLOWREQ entry (R70). -/
structure SlowReq where
  pos : Nat
  off : Nat
  count : Nat
  tag : Nat
  deriving DecidableEq, Repr

/-- The words of a SLOWRESP and the CRC-32 behind them (R72, R87). -/
structure SlowBody where
  vals : List Word
  crc : Nat
  deriving DecidableEq, Repr

/-- The directives of Table 3.4. -/
inductive Directive where
  | delay (e : End) (ns : Nat)
  | assign (slot idx : Nat)
  | version (v : Nat)
  | carrier (phase setting : Nat)
  | bypass (close : Bool)
  | gates (release : Bool)
  | coast (limit : Nat)
  | charge
  deriving DecidableEq, Repr

/-- A DIRECT entry: to one position, or to every cell of the round (R71). -/
structure DirEntry where
  pos : Option Nat
  dir : Directive
  deriving DecidableEq, Repr

/-- A 66-bit block of a lane (R64): a control block with its type and seven bytes, or a data block of eight bytes. -/
inductive Block where
  | control (type : Nat) (bytes : List Byte)
  | data (bytes : List Byte)
  deriving DecidableEq, Repr

/-- A downstream epoch frame of one end (Table 3.2 and the sections after it). -/
structure Frame where
  franking : Nat
  epoch : Nat
  generation : Nat
  token : Nat
  check : Nat
  offset : Nat
  setting : Nat
  linkup : Bool
  lo : Nat
  hi : Nat
  arms : List Machine.ArmEntry
  trims : List TrimEntry
  slows : List SlowReq
  dirs : List DirEntry
  deriving DecidableEq, Repr

/-- What a module relays to its partner on the pair link (Table 14.1): bytes 0–13 of a slot, or an upstream block. -/
inductive Relay where
  | slot (pos : Nat) (bytes : List Byte)
  | close
  | slow (pos tag status : Nat) (vals : List Word) (crc : Nat)
  | discovery (pos : Nat) (serial : BitVec 64) (versions : Word) (placed crcOk : Bool)
  | cls (pos : Nat) (bytes : List Byte)
  | echo (pos rtt : Nat)
  | brk (pos : Nat) (port : End)
  deriving DecidableEq, Repr

/-- What the block samples at an epoch boundary (Table 2.1 step 1, R38): analog inputs, sigma-delta filters,
discrete inputs and the measured temperatures, supplies and stage quantities, each in the unit of its point. -/
structure Samples where
  /-- AIN0–AIN7, in the unit of `device.ain[n].value` -/
  ain : List Rat
  /-- SDM0–SDM15 -/
  sdm : List Rat
  /-- DI0–DI15 as a bit set -/
  di : Nat
  /-- TS_DIE0/1, TS_BRD0–3 in °C -/
  temp : List Rat
  /-- TX0–TX11 in °C -/
  tx : List Rat
  /-- VCTL_A, VCTL_B, hold-up store and the eight rails in V -/
  supply : List Rat
  /-- currents of AUX0–AUX11 in A, and VAUX in V -/
  auxI : List Rat
  vaux : Rat
  /-- sine and cosine voltages of FB0–FB7 in mV -/
  sinCos : List (Rat × Rat)
  /-- the permit-token generator differs from its D2 reference (Table 10.4, cause 5) -/
  tokenDiffers : Bool
  /-- FB0–FB15 with a differential voltage below 200 mV on a used pair, bit per channel -/
  lowV : Nat
  /-- analog inputs (bit 16 + n) and sigma-delta inputs (bit 24 + n) that delivered no sample -/
  missing : Nat
  deriving DecidableEq, Repr

/-- Where a register write goes: BAR0, the ring registers of plant logic, or the interrupt controller by a core. -/
inductive RegSpace where
  | bar0
  | logicRings
  | irq (c : CoreNo)
  deriving DecidableEq, Repr

/-- The kinds of access of a core (R455). -/
inductive AccessKind where
  | fetch | load | store
  deriving DecidableEq, Repr

/-- A CAN frame on the bus (R435). -/
structure CanFrame where
  id : Nat
  ext : Bool
  fd : Bool
  brs : Bool
  remote : Bool
  data : List Byte
  deriving DecidableEq, Repr

/-- How a transmission attempt ends (R438); a bit error lies inside the data field or outside it (R442). -/
inductive TxResult where
  | success | arbitrationLost | bitError (inData : Bool) | ackError
  deriving DecidableEq, Repr

/-- A REPORT block of link-up (R91): a discovery reply with serial number, version bitmask, whether the cell took a position
(R63, R102) and whether its CRC-16 verifies; or the 32 bytes of a class report. -/
inductive CellReport where
  | discovery (serial : BitVec 64) (versions : Word) (placed crcOk : Bool)
  | cls (bytes : List Byte)
  deriving DecidableEq, Repr

/-- What Winil fuses in one-time-programmable memory (R518, R539): a key slot with the hash of its key, a slot's
revoke bit, or the signed-description bit. -/
inductive OtpItem where
  | keySlot (n : Fin 4) (hash : List Byte)
  | revoke (n : Fin 4)
  | signedBit
  deriving DecidableEq, Repr

/-- The units of the self-test (Table 10.3a). -/
inductive TestUnit where
  | lane (n : Fin 16)
  | groupLane
  | memory
  | tokenGenerator
  | sto
  | roundEnd (r : RoundNo) (e : End)
  | feedback (n : FbNo)
  | can (c : CanNo)
  | aux (b : AuxNo)
  | analog (n : Fin 8)
  deriving DecidableEq, Repr

/-- The commands of the block: one constructor per row of the opcode table, each with the rule that gives it. -/
inductive Instr where
  /-- POWER_GOOD (R302): A control input stays in range through the 20 ms soft start and the power-on sequence begins:
  D0 and D13 run, then the TCXO and D1, boot, DDR4 training, self-test, Supervisor start and Configure. -/
  | powerGood (permit : BitVec 48) (posB : Bool) (failed : List TestUnit)
  /-- PERST_RELEASE (R302): Deassertion of PCIe PERST# starts link training; configuration requests are answered no
  earlier than 100 ms after it. -/
  | perstRelease
  /-- EPOCH_BOUNDARY (R36): At each multiple of T_E in device time the epoch counter increments, cells sample and
  apply, feedback latches, inputs are sampled and the permit-token register steps. -/
  | epochBoundary (smp : Samples)
  /-- INPUT_CUTOFF (R39): At 0.40 T_E the completeness of each drive's inputs is judged, commands for the epoch apply,
  guards are judged, and the lanes, group lane and profile unit compute. -/
  | inputCutoff
  /-- DOWNSTREAM_SEND (R67): At 0.75 T_E the epoch frame with header, token, arm entries, trims, slow requests and
  directives leaves both ends of each round. -/
  | downstreamSend
  /-- LEDGER_COMMIT (R355): At 0.80 T_E every value committed in the epoch becomes visible together, and envelopes and
  the epoch record are composed. -/
  | ledgerCommit
  /-- HALT_COMPLETE (R309): At the first epoch in which every drive is at rest, Faulted or Blocked, Halt ends and the
  ZV40 enters Ready. -/
  | haltComplete
  /-- HALT_TIMEOUT (R309): Halt not ended within halt_timeout_ms enters Ready anyway and blocks every drive. -/
  | haltTimeout
  /-- ENVELOPE_SEALED (R369): The trailer write of an envelope completes, the envelope is sealed and the ring mirror
  is written. -/
  | envelopeSealed (agent : Agent) (tier : Fin 3) (t : Nat)
  /-- UPSTREAM_SLOT (R79): A 16-byte cell slot arrives at a round end and is checked and taken into the cell's points. -/
  | upstreamSlot (r : RoundNo) (e : End) (pos : Fin 256) (bytes : List Byte) (t : Nat)
  /-- UPSTREAM_CLOSURE (R83): The CLOSE block of the range's far cell arrives and the upstream closure of the end is
  achieved. -/
  | upstreamClosure (r : RoundNo) (e : End) (t : Nat)
  /-- SLOWRESP (R87): A SLOWRESP answering a block read arrives and its points commit together. -/
  | slowResp (r : RoundNo) (pos : Fin 256) (tag status : Nat) (body : SlowBody)
  /-- SLOW_TIMEOUT (R87): A slow transaction unanswered for 4 epochs is reissued, and after 3 reissues is abandoned. -/
  | slowTimeout (r : RoundNo)
  /-- REPORT (R91): A discovery reply or class report from a cell arrives during link-up. -/
  | report (r : RoundNo) (e : End) (pos : Fin 256) (rep : CellReport)
  /-- ECHORET (R92): An ECHORET arrives and gives a round-trip measurement for a cell's cumulative delay. -/
  | echoRet (r : RoundNo) (e : End) (pos : Fin 256) (rtt : Nat)
  /-- BREAK_BLOCK (R100): A BREAK block arrives, and the new ranges are set before the next downstream send. -/
  | breakBlock (r : RoundNo) (e : End) (pos : Fin 256) (port : End)
  /-- END_LOCK_LOST (R100): A round end loses block lock and a break is detected. -/
  | endLockLost (r : RoundNo) (e : End)
  /-- ROUND_RESTORED (R101): After restore_epochs without a BREAK and with lock regained, the balanced ranges are
  restored in one epoch. -/
  | roundRestored (r : RoundNo)
  /-- LATE_ROUND_EXIT (R45): A round whose delay has stayed at or below 0.20 T_E for 4000 epochs returns to apply
  offset 1. -/
  | lateRoundExit (r : RoundNo)
  /-- CELL_LOST (R96): A position without a slot for lost_epochs consecutive epochs becomes Lost, or Absent if it was
  Bypassed. -/
  | cellLost (c : CellAddr)
  /-- SEGMENT_LANE_UP (R103): A lane coming up at an end beyond the last cell runs link-up steps 1 to 5 on the new
  segment. -/
  | segmentLaneUp (r : RoundNo) (e : End) (count : Nat)
  /-- LINKUP_STEP_COMPLETE (R91): A round link-up step completes at an epoch boundary or cut-off and the next step
  starts. -/
  | linkupStepComplete (r : RoundNo)
  /-- ROUND_LINKUP_FAIL (R91): A link-up step not completed within its timeout puts the round in Failed. -/
  | roundLinkupFail (r : RoundNo)
  /-- ROUND_CHARGE_TIMEOUT (R94): Assigned cells not Ready at charge_timeout_ms are sent GATES 0 and counted lost. -/
  | roundChargeTimeout (r : RoundNo)
  /-- BYPASS_NOT_CONFIRMED (R169): A cell that has not reported bypass closed 2 epochs after its BYPASS applies puts
  its drive in Faulted. -/
  | bypassNotConfirmed (c : CellAddr)
  /-- SKIP_LIMP (R41): skip_consecutive reaching 3 puts the drive in Limp with deadline-drop limits. -/
  | skipLimp (d : DriveNo)
  /-- SKIP_HALT (R41): skip_consecutive reaching 8 starts Halt-style deceleration to Stopped. -/
  | skipHalt (d : DriveNo)
  /-- SKIP_FAULT (R187): skip_consecutive reaching 16 puts the drive in Faulted with cause 11. -/
  | skipFault (d : DriveNo)
  /-- LIMP_SKIP_CLEAR (R182): After limp_skip_clear computed epochs the deadline-drop Limp cause clears. -/
  | limpSkipClear (d : DriveNo)
  /-- SHOCK_CLEARED (R195): A shock clears once the load has stayed below the clear level with low slope for
  shock_clear_ms. -/
  | shockCleared (d : DriveNo)
  /-- HOLD_EXPIRED (R193): Hold ends at hold_ms or when I²t reaches i_cont², and Absorb follows. -/
  | holdExpired (d : DriveNo)
  /-- HALT_STOP_REACHED (R183): A halting drive below stop_speed for stop_ms clears halting and blocks its gates. -/
  | haltStopReached (d : DriveNo)
  /-- CRASH_WINDMILL (R217): In Crash phase 1, speed falling less than 1 % over crash_windmill_ms enters windmill
  hold. -/
  | crashWindmill (d : DriveNo)
  /-- RELEASE_ARM_EXPIRED (R219): An ARM not followed by RELEASE within 2 s lapses. -/
  | releaseArmExpired (d : DriveNo)
  /-- BRAKE_LIFT_ELAPSED (R220): brake_lift_ms after RELEASE the state becomes releasing and torque ramps to 0. -/
  | brakeLiftElapsed (d : DriveNo)
  /-- RELEASE_END_SEQUENCE (R221): The END sequence stops the drum, de-energises the brake, ramps torque to 0 and
  enters Stopped. -/
  | releaseEndSequence (d : DriveNo)
  /-- SLACK_ROPE (R203): Low shaft load at speed held for slack_ms declares rope slack and applies slack_resp. -/
  | slackRope (g : ShaftNo)
  /-- SHAFT_DECOUPLED (R204): A member whose speed deviates beyond decouple_speed for decouple_ms enters Faulted with
  cause 8. -/
  | shaftDecoupled (d : DriveNo)
  /-- HOST_HOLD_EXPIRED (R324): After host_hold_ms of host loss under Hold the drive acts as on run_cmd 0. -/
  | hostHoldExpired (d : DriveNo)
  /-- IDENT_STEP_DONE (R138): An identification step ends after its duration and the next step starts, or
  identification completes or fails. `angle` is what step 2 finds, in turns; `vals` the parameters of the other steps. -/
  | identStepDone (d : DriveNo) (angle : Rat) (vals : List Rat)
  /-- LINE_RIDE_EXPIRED (R136): A line lost longer than line_ride_ms puts the line converter in Faulted. -/
  | lineRideExpired (d : DriveNo)
  /-- WRITE_POINTS (R340): Writes n points at the apply-epoch, all items or none. -/
  | writePoints (agent : Agent) (ring : Fin 8) (hdr : DescHdr) (items : List (Nat × Word))
  /-- WRITE_MASKED (R340): Writes masked bits of n points at the apply-epoch. -/
  | writeMasked (agent : Agent) (ring : Fin 8) (hdr : DescHdr) (items : List (Nat × Word × Word))
  /-- READ_POINTS (R340): Writes the values of n points committed at the apply-epoch to a host buffer. -/
  | readPoints (agent : Agent) (ring : Fin 8) (hdr : DescHdr) (addr : Nat) (idx : List Nat)
  /-- NOP (R340): Completes at the commit of its apply-epoch. -/
  | nop (agent : Agent) (ring : Fin 8) (hdr : DescHdr)
  /-- CANCEL (R340): Removes a poste restante entry by tag and ring. -/
  | cancel (agent : Agent) (ring : Fin 8) (hdr : DescHdr) (tag cmdRing : Nat)
  /-- SUBSCRIBE_P (R361): Adds points to the agent's tier P set from the apply-epoch. -/
  | subscribeP (agent : Agent) (ring : Fin 8) (hdr : DescHdr) (idx : List Nat)
  /-- UNSUBSCRIBE_P (R361): Removes points from the agent's tier P set from the apply-epoch. -/
  | unsubscribeP (agent : Agent) (ring : Fin 8) (hdr : DescHdr) (idx : List Nat)
  /-- SET_M (R362): Replaces the agent's whole tier M set. -/
  | setM (agent : Agent) (ring : Fin 8) (hdr : DescHdr) (ranges : List (Nat × Nat))
  /-- REQUEST_F (R370): Requests a tier F envelope sealed at the apply-epoch. -/
  | requestF (agent : Agent) (ring : Fin 8) (hdr : DescHdr)
  /-- ENV_POLICY (R372): Sets the Lossless or Newest policy of a tier. -/
  | envPolicy (agent : Agent) (ring : Fin 8) (hdr : DescHdr) (tier policy : Nat)
  /-- LOAD_PD (R33): Starts loading a plant description from host memory in Configure. -/
  | loadPd (agent : Agent) (ring : Fin 8) (hdr : DescHdr) (bytes : List Byte) (length : Nat)
  /-- PD_VALIDATION_DONE (R34): Validation ends: the description replaces the active one, or the load completes with
  the first failing check's status. -/
  | pdValidationDone
  /-- ROUND_LINKUP (R305): Starts link-up of the named rounds. -/
  | roundLinkup (agent : Agent) (ring : Fin 8) (hdr : DescHdr) (mask : Nat)
  /-- CELL_BYPASS (R340): Queues a BYPASS directive for a cell. -/
  | cellBypass (agent : Agent) (ring : Fin 8) (hdr : DescHdr) (addr close : Nat)
  /-- CELL_GATES (R340): Queues a GATES directive for a cell. -/
  | cellGates (agent : Agent) (ring : Fin 8) (hdr : DescHdr) (addr release : Nat)
  /-- SLOW_READ (R89): Requests a slow-channel block read of a cell ahead of the sweep. -/
  | slowRead (agent : Agent) (ring : Fin 8) (hdr : DescHdr) (addr off count : Nat)
  /-- ITIN_LOAD (R258): Loads an itinerary into an engine's shadow table. -/
  | itinLoad (agent : Agent) (ring : Fin 8) (hdr : DescHdr) (engine : Nat) (pts : List (Nat × Int × Int))
  /-- CAN_RECOVER (R440): Starts the bus-off recovery sequence of a controller. -/
  | canRecover (agent : Agent) (ring : Fin 8) (hdr : DescHdr) (ctl : Nat)
  /-- CAN_ABORT (R438): Withdraws the pending transmission of a send object. -/
  | canAbort (agent : Agent) (ring : Fin 8) (hdr : DescHdr) (ctl obj : Nat)
  /-- JOURNAL_FREEZE (R389): Triggers a capture around its apply-epoch. -/
  | journalFreeze (agent : Agent) (ring : Fin 8) (hdr : DescHdr) (pre post : Nat)
  /-- JOURNAL_EXPORT (R392): Starts exporting a range of mailbag records to ring 20. -/
  | journalExport (agent : Agent) (ring : Fin 8) (hdr : DescHdr) (first last : Nat)
  /-- JOURNAL_RELEASE (R391): Returns held captures to the live window. -/
  | journalRelease (agent : Agent) (ring : Fin 8) (hdr : DescHdr)
  /-- REPLAY_FEED (R397): Passes a buffer of export blocks to a running replay. -/
  | replayFeed (agent : Agent) (ring : Fin 8) (hdr : DescHdr) (blocks : List FedBlock)
  /-- PAIR_HANDOVER (R423): Starts a planned hand-over of the principal role. -/
  | pairHandover (agent : Agent) (ring : Fin 8) (hdr : DescHdr)
  /-- PAIR_RESYNC (R417): Starts a resynchronisation by full state transfer. -/
  | pairResync (agent : Agent) (ring : Fin 8) (hdr : DescHdr)
  /-- FW_WRITE (R520): Writes firmware data to the inactive bank and reads it back. -/
  | fwWrite (agent : Agent) (ring : Fin 8) (hdr : DescHdr) (data : List Byte) (length off : Nat)
  /-- FW_COMMIT (R520): Verifies the inactive bank and writes its trailer with the next sequence number. -/
  | fwCommit (agent : Agent) (ring : Fin 8) (hdr : DescHdr) (length : Nat)
  /-- ACCEPT_ON_ROOM (R345): A descriptor waiting for completion-ring room is judged once room appears. -/
  | acceptOnRoom (agent : Agent) (ring : Fin 8)
  /-- MODE_CMD_CONFIGURE (R301): mode_cmd 1 enters Configure from Ready, Safe or Replay. -/
  | modeCmdConfigure
  /-- MODE_CMD_READY (R307): mode_cmd 2 enters Ready from Configure, Run or Safe when its conditions hold. -/
  | modeCmdReady
  /-- MODE_CMD_RUN (R308): mode_cmd 3 enters Run and starts the token generator. -/
  | modeCmdRun
  /-- MODE_CMD_OVERRIDE (R314): mode_cmd 4 with a reason enters Override from Run. -/
  | modeCmdOverride (reason : Nat)
  /-- MODE_CMD_HALT (R301): mode_cmd 5 enters Halt from Run or Override. -/
  | modeCmdHalt
  /-- MODE_CMD_DORMANT (R317): mode_cmd 0 requests sleep when a wake source is enabled. -/
  | modeCmdDormant
  /-- MODE_CMD_REPLAY (R397): mode_cmd 7 enters Replay from Configure and pauses recording. -/
  | modeCmdReplay
  /-- SLEEP_EFFECTIVE (R319): The cores enter retention and Dormant begins within 5 ms of the apply-epoch. -/
  | sleepEffective (fired : Nat)
  /-- WAKE (R318): A wake source brings the ZV40 from Dormant to Configure, or to Safe for a Safe cause, and rounds
  link up again. -/
  | wake (fired : Nat)
  /-- CAN_WAKE_PATTERN (R447): A transceiver detects the ISO 11898-2 wake-up pattern in Dormant. -/
  | canWakePattern (c : CanNo)
  /-- RUN_CMD_ON (R184): run_cmd 1 takes a Stopped drive to Normal or Limp. -/
  | runCmdOn (d : DriveNo)
  /-- RUN_CMD_OFF (R183): run_cmd 0 starts Halt-style deceleration. -/
  | runCmdOff (d : DriveNo)
  /-- BLOCK_CMD_ON (R184): block_cmd 1 puts the drive in Blocked. -/
  | blockCmdOn (d : DriveNo)
  /-- BLOCK_CMD_OFF (R184): block_cmd 0 takes a Blocked drive to Stopped. -/
  | blockCmdOff (d : DriveNo)
  /-- FAULT_RESET (R187): fault_reset 1 takes a Faulted drive with no cause present to Stopped. -/
  | faultReset (d : DriveNo)
  /-- RENDER_CMD_ON (R194): render_cmd 1 puts the drive in commanded Render. -/
  | renderCmdOn (d : DriveNo)
  /-- RENDER_CMD_OFF (R194): render_cmd 0 ends commanded Render. -/
  | renderCmdOff (d : DriveNo)
  /-- CRASH_CMD_ON (R216): crash_cmd 1 starts the crash-stop sequence. -/
  | crashCmdOn (d : DriveNo)
  /-- CRASH_CMD_OFF (R217): crash_cmd 0 aborts Crash to Normal or Limp. -/
  | crashCmdOff (d : DriveNo)
  /-- RELEASE_ARM (R219): release_cmd 1 arms emergency release for 2 s. -/
  | releaseArm (d : DriveNo)
  /-- RELEASE_RELEASE (R220): release_cmd 2 starts the emergency release and energises the brake load. -/
  | releaseRelease (d : DriveNo)
  /-- RELEASE_END (R221): release_cmd 3 starts the END sequence. -/
  | releaseEnd (d : DriveNo)
  /-- IDENT_START (R138): ident_cmd 1 starts standstill identification of a Stopped drive. -/
  | identStart (d : DriveNo)
  /-- IDENT_ABORT (R138): ident_cmd 2 aborts identification at the next epoch. -/
  | identAbort (d : DriveNo)
  /-- HOST_RECLAIM (R325): host_reclaim 1 returns a drive on the CAN backup path to host control. -/
  | hostReclaim (d : DriveNo)
  /-- FB_USE_WRITE (R135): fb_use 1 lets a drive rejoin its feedback channel when it agrees with the observer. -/
  | fbUseWrite (d : DriveNo) (v : Fin 2)
  /-- SET_ENABLE_WRITE (R110): A write of set enable adds or removes a winding set from the apply-epoch. -/
  | setEnableWrite (d : DriveNo) (k : SetNo) (v : Fin 2)
  /-- CTRL_MODE_WRITE (R115): A change of ctrl_mode takes effect and presets the speed-loop integrator. -/
  | ctrlModeWrite (d : DriveNo) (v : Fin 4)
  /-- TIME_SET (R47): A write of time_set steps device time in Configure. -/
  | timeSet (t : BitVec 64)
  /-- FB_CLEAR_CMD (R242): clear_cmd returns a faulted feedback channel to healthy when no hard cause is present. -/
  | fbClearCmd (n : FbNo)
  /-- CMP_VALUE_LOAD (R248): A new compare value is loaded at cut-off and judged behind or armed. -/
  | cmpValueLoad (n : CmpNo) (v : BitVec 64)
  /-- PT_SRC_CHANGE (R244): A change of pass-through source takes effect at cut-off. -/
  | ptSrcChange (n : PtNo) (v : Word)
  /-- PROFILE_GO (R256): GO starts or replans an engine's motion, or waits on a token or start time. -/
  | profileGo (e : EngineNo)
  /-- PROFILE_STOP (R260): STOP decelerates an engine to Suspended. -/
  | profileStop (e : EngineNo)
  /-- PROFILE_RESUME (R260): RESUME plans toward the stored target from the setpoint. -/
  | profileResume (e : EngineNo)
  /-- PROFILE_ABORT (R260): ABORT decelerates an engine to Idle with remaining 0. -/
  | profileAbort (e : EngineNo)
  /-- PROFILE_HOME (R263): HOME starts the homing sequence of home_mode. -/
  | profileHome (e : EngineNo)
  /-- ISSUE_TOKEN (R262): A write of issue_token starts every engine waiting on that token. -/
  | issueToken (e : EngineNo) (token : Fin 32)
  /-- AUX_CLEAR_CMD (R291): clear_cmd takes a bridge in Retry wait or Latched to Precharge. -/
  | auxClearCmd (b : AuxNo)
  /-- CHOP_CLEAR_CMD (R293): chop_clear_cmd clears the VAUX chopper fault. -/
  | chopClearCmd
  /-- CAN_TX_CMD_SEND (R437): tx_cmd 1 queues an on-demand send at 0.80 T_E of the apply-epoch. -/
  | canTxCmdSend (c : CanNo) (o : ObjNo)
  /-- CAN_TX_CMD_ABORT (R438): tx_cmd 2 aborts an object's pending frame. -/
  | canTxCmdAbort (c : CanNo) (o : ObjNo)
  /-- CAN_MODE_WRITE (R441): A change of can mode takes effect at the next bus idle. -/
  | canModeWrite (c : CanNo) (v : Fin 3)
  /-- DO_WRITE (R540): A write of device.do drives a DO output from the commit of its apply-epoch. -/
  | doWrite (n : Fin 8) (v : Fin 2)
  /-- ENC_PWR_MODE_WRITE (R507): A write of enc_pwr mode switches an encoder supply group on, off or back on after a
  trip. -/
  | encPwrModeWrite (g : Fin 4) (v : Fin 3)
  /-- REGISTER_WRITE (R8): A write to a register without behaviour of its own updates it by its access code. -/
  | registerWrite (space : RegSpace) (off : Nat) (v : Word)
  /-- DEVICE_RESET (R311): The RESET key 0x0000_D1E5 restarts the whole module from step 1 of the power-on sequence. -/
  | deviceReset (failed : List TestUnit)
  /-- HOST_INTERFACE_RESET (R351): The RESET key 0x0000_0F1C ends the host session. -/
  | hostInterfaceReset
  /-- HIF_REQ_WRITE (R335): A write to HIF_REQ ends any session and negotiates a new one. -/
  | hifReqWrite (v : Word)
  /-- RING_ENABLE (R333): A write of ENABLE 1 checks and starts a ring, or sets FAULT. -/
  | ringEnable (agent : Agent) (n : Fin 21) (cfg : Word)
  /-- RING_DISABLE (R333): A write of ENABLE 0 stops a ring and clears FAULT. -/
  | ringDisable (agent : Agent) (n : Fin 21)
  /-- WDT_CTRL_WRITE (R350): A write of the watchdog period restarts or stops the host watchdog, or is refused. -/
  | wdtCtrlWrite (v : Word)
  /-- DOORBELL (R337): A doorbell write advances the host index of a ring, or stops it with fault 3. -/
  | doorbell (agent : Agent) (n : Fin 21) (v : Word)
  /-- HEARTBEAT (R350): A write to the letterbox heartbeat restarts the host watchdog. -/
  | heartbeat
  /-- LOGIC_HEARTBEAT (R456): A write to the logic letterbox heartbeat restarts the plant-logic watchdog. -/
  | logicHeartbeat
  /-- HOST_WDT_EXPIRY (R350): No letterbox write within the period expires the host watchdog and the host is lost. -/
  | hostWdtExpiry
  /-- LINK_DOWN (R351): PCIe link loss or surprise removal ends the session and loses the host. -/
  | linkDown
  /-- FUNCTION_LEVEL_RESET (R351): A function-level reset ends the session. -/
  | functionLevelReset
  /-- MSIX_UNMASK (R331): A withheld MSI-X message is sent when its vector mask clears. -/
  | msixUnmask (v : Fin 64)
  /-- MODERATION_TIMEOUT (R349): MODERATION.USEC elapsing after an unsignalled entry sends the ring's vector. -/
  | moderationTimeout (agent : Agent) (n : Fin 21)
  /-- SUP_WDT (R321): Supervisor watchdog expiry resets cores 0–1, enters Halt in Run or Override, or sets Safe cause
  9 on a second expiry. -/
  | supWdt
  /-- SUPERVISOR_RESTARTED (R321): Supervisor runs again within 500 ms and serves the rings. -/
  | supervisorRestarted
  /-- LOGIC_WDT (R322): Plant-logic watchdog expiry resets cores 2–3 and restarts plant logic. -/
  | logicWdt
  /-- STO_CHANGE (R311): An STO input changes level: a low stops the token generator within 5 µs and enters Safe. -/
  | stoChange (a b : Bool)
  /-- STO_DISCREPANCY (R311): STO channels differing for longer than sto_discrepancy_ms set Safe cause 3. -/
  | stoDiscrepancy
  /-- D1_TICK_LOST (R57): No D1 tick for 1 µs stops the permit-token generator and enters Safe. -/
  | d1TickLost
  /-- MEMORY_ERROR (R311): An uncorrectable memory error in lane, ring or ledger memory enters Safe with cause 8. -/
  | memoryError (core : Bool)
  /-- VCTL_CHANGE (R482): A control input crosses its low or high threshold or returns. -/
  | vctlChange (b : Bool) (mv : Nat)
  /-- HOLDUP_EXHAUSTED (R482): The hold-up store falls below 28 V with both inputs low and Safe cause 7 is set. -/
  | holdupExhausted
  /-- RAIL_FAULT (R482): An internal rail leaves its window for 10 µs and Safe cause 7 is set. -/
  | railFault (n : Fin 8)
  /-- INSERT_RELEASED (R515): INSERT_N open for 10 µs turns off the input stage, and the module surrenders or idles by
  role. -/
  | insertReleased
  /-- INSERT_CLOSED (R497): INSERT_N closed for 5 ms starts the input stage soft start. -/
  | insertClosed
  /-- TIME_SOURCE_EVENT (R48): A time source event gives an error measurement that is slewed out. -/
  | timeSourceEvent (error : Int)
  /-- SYNC_IN_EDGE (R49): A SYNC_IN rising edge is timestamped and gives the source error. -/
  | syncInEdge (t : Nat)
  /-- TIME_SOURCE_LOST (R48): No source event for time_source_timeout_ms enters holdover. -/
  | timeSourceLost
  /-- FB_EDGE (R228): A filtered feedback edge is timestamped and counted. -/
  | fbEdge (n : FbNo) (t : Nat) (lines : Fin 8)
  /-- COMPARE_PULSE_END (R247): The compare DO output deasserts after pulse_ns. -/
  | comparePulseEnd (n : CmpNo)
  /-- INDEX_PULSE (R240): A qualified index stores the position and checks the count between index pulses. -/
  | indexPulse (n : FbNo) (t : Nat)
  /-- FB_WIRE_BREAK (R241): Differential voltage below 200 mV for 1 µs declares the channel faulted with cause 2. -/
  | fbWireBreak (n : FbNo)
  /-- SSI_FRAME (R232): An SSI frame is delivered when its last bit is sampled and is extended or judged invalid. -/
  | ssiFrame (n : FbNo) (bits : Nat) (idle : Bool)
  /-- FB_STANDSTILL (R236): No edge for standstill_ms puts the channel at standstill. -/
  | fbStandstill (n : FbNo)
  /-- AUX_DESAT (R286): A desaturation fault after blanking takes the bridge to high impedance. -/
  | auxDesat (b : AuxNo) (high : Bool)
  /-- AUX_SHUNT (R287): The hard shunt comparator drives both gates low within 150 ns. -/
  | auxShunt (b : AuxNo)
  /-- BOOT_UV (R285): Bootstrap voltage below 8.0 V with the high side on takes the bridge to high impedance. -/
  | bootUv (b : AuxNo)
  /-- AUX_FAULT_SETTLED (R289): 10 µs after a fault it is settled as a try: Retry wait, or Latched at retry_max. -/
  | auxFaultSettled (b : AuxUnit)
  /-- AUX_RETRY_ELAPSED (R289): retry_ms after the fault the bridge enters Precharge. -/
  | auxRetryElapsed (b : AuxUnit)
  /-- AUX_TRIES_RESET (R289): Ready for retry_reset_s without a fault returns tries to 0. -/
  | auxTriesReset (b : AuxUnit)
  /-- AUX_PRECHARGE_DONE (R283): After boot_precharge_us the bridge enters Ready if the bootstrap is charged, else
  faults with cause 4. -/
  | auxPrechargeDone (b : AuxNo) (mv : Nat)
  /-- AUX_INTERLOCK (R282): Both gate commands asserted together are held low and counted. -/
  | auxInterlock (b : AuxNo)
  /-- VAUX_LIMIT (R292): VAUX crossing its UV or OV threshold, or gate supply loss, holds every bridge; the return
  releases them. -/
  | vauxLimit (mv : Nat) (gateSupply : Bool)
  /-- CHOP_SWITCH (R293): The VAUX chopper turns on at chop_on_v and off below it by chop_hyst_v. -/
  | chopSwitch (mv : Nat)
  /-- CHOP_FAULT (R293): Chopper desaturation faults the chopper with retries by R289. -/
  | chopFault
  /-- EXT_STEP_PULSE (R268): A step pulse on step_di moves a stepper's commanded position. -/
  | extStepPulse (a : AuxNo) (t width : Nat) (neg : Bool)
  /-- STEPPER_HOLD_REDUCE (R270): No position change for hold_delay_ms reduces the current to hold_pct. -/
  | stepperHoldReduce (a : AuxNo)
  /-- DO_OVERLOAD (R502): A DO output in current limit for 100 µs turns off for 100 ms. -/
  | doOverload (n : Fin 8)
  /-- DO_OVERLOAD_RETRY (R502): 100 ms after an overload the DO output tries again. -/
  | doOverloadRetry (n : Fin 8)
  /-- ENC_PWR_FAULT (R507): An encoder supply above 350 mA for 1 ms turns off. -/
  | encPwrFault (g : Fin 4)
  /-- AIN_BURDEN_OPEN (R508): Current above 25 mA for 1 ms opens the burden of a current input. -/
  | ainBurdenOpen (n : Fin 8)
  /-- AIN_BURDEN_RECLOSE (R508): 1 s after opening the burden recloses. -/
  | ainBurdenReclose (n : Fin 8)
  /-- CAN_FRAME_RECEIVED (R435): A received frame is accepted by the lowest matching receive object or counted
  unmatched. -/
  | canFrameReceived (c : CanNo) (fr : CanFrame) (sof t : Nat)
  /-- CAN_PERIODIC_SEND (R437): A periodic send object queues its frame at t0 of a multiple of period_ms. -/
  | canPeriodicSend (c : CanNo) (o : ObjNo)
  /-- CAN_TX_ATTEMPT_END (R438): A transmission attempt ends in success, lost arbitration or error, and the frame is
  retried or done. -/
  | canTxAttemptEnd (c : CanNo) (o : ObjNo) (res : TxResult) (sof t : Nat)
  /-- CAN_RECOVERED (R440): The recovery sequence completes and the controller is error-active. -/
  | canRecovered (c : CanNo)
  /-- CAN_RX_TIMEOUT (R436): No accepted frame for rx_timeout_ms makes the receive guard stale. -/
  | canRxTimeout (c : CanNo) (o : ObjNo)
  /-- FRANKING_MESSAGE_SEND (R445): A franking master queues franking message k every frank_period_ms. -/
  | frankingMessageSend (c : CanNo)
  /-- IRQ_SOURCE_FIRE (R460): A source becomes pending and is presented to a core by priority and target order. -/
  | irqSourceFire (id : Fin 1024) (level : Bool)
  /-- IRQ_WITHDRAWN (R466): A presented source is withdrawn, leaving a dead letter for a privileged source. -/
  | irqWithdrawn (id : Fin 1024)
  /-- CLAIM (R465): A core's claim write takes its presented source onto its stack. -/
  | claim (c : CoreNo)
  /-- EOI (R467): An EOI write pops the matching top of stack, or records a stack fault. -/
  | eoi (c : CoreNo) (v : Word)
  /-- PENDING_SET (R460): Writing 1 sets a source pending. -/
  | pendingSet (c : CoreNo) (k : Fin 32) (v : Word)
  /-- PENDING_CLR (R460): Writing 1 clears a source's pending bit. -/
  | pendingClr (c : CoreNo) (k : Fin 32) (v : Word)
  /-- ENABLE_SET (R464): Writing 1 enables a source. -/
  | enableSet (c : CoreNo) (k : Fin 32) (v : Word)
  /-- ENABLE_CLR (R466): Writing 1 disables a source. -/
  | enableClr (c : CoreNo) (k : Fin 32) (v : Word)
  /-- STACK_FAULT_CLEAR (R468): Writing 1 to STACK_FAULT clears it and withdraws source 5. -/
  | stackFaultClear (c b : CoreNo) (v : Word)
  /-- WFI (R454): A core executing WFI sleeps until an enabled source for it becomes pending. -/
  | wfi (c : CoreNo)
  /-- CORE_WAKE (R469): A sleeping core wakes within 2 µs of a pending source in its mask. -/
  | coreWake (c : CoreNo)
  /-- LOGIC_ACCESS_FAULT (R455): A plant-logic access outside its partition faults with no effect. -/
  | logicAccessFault (c : CoreNo) (addr : Nat) (size : Nat) (kind : AccessKind)
  /-- SORTING_REPORT (R484): A report reaches the sorting office and opens or joins a postmark. -/
  | sortingReport (code kind idx param t : Nat)
  /-- POSTMARK_CLOSE (R486): A postmark closes at its window end and becomes one event record on both event rings. -/
  | postmarkClose (t : Nat)
  /-- EVENT_RECORD_DRAIN (R347): A record waiting in the sorting office is written once its event ring has room. -/
  | eventRecordDrain
  /-- SO_RING_OVERFLOW (R489): At the end of a discard episode a SO_RING_OVERFLOW record is queued to both rings. -/
  | soRingOverflow (agent : Agent)
  /-- JOURNAL_TRIGGER (R389): A trigger event or Safe entry opens or extends a capture. -/
  | journalTrigger (t : Nat)
  /-- JOURNAL_FROZEN (R389): The post-window of a capture is recorded and the capture is complete. -/
  | journalFrozen (n : Fin 4)
  /-- JOURNAL_EXPORT_BLOCK (R393): An export block is written to ring 20 when a slot has been returned. -/
  | journalExportBlock
  /-- JOURNAL_EXPORT_DONE (R392): The last export block is sealed and the export completes. -/
  | journalExportDone
  /-- JOURNAL_LOST (R387): An uncorrectable error in the partition loses records and forces a checkpoint. -/
  | journalLost (lost : List Nat)
  /-- REPLAY_EPOCH (R398): One recorded epoch is processed per live epoch and its hashes are compared. -/
  | replayEpoch
  /-- REPLAY_DONE (R400): Replay ends bit-exact, at a differing configuration record or on mode_cmd 1. -/
  | replayDone
  /-- PAIR_ROLE_DECISION (R411): On entering Configure a module decides principal or counterfoil, waiting 1 s or 2 s
  when alone. -/
  | pairRoleDecision (partner : Fin 3) (traffic : Bool)
  /-- PAIR_JOIN (R412): A counterfoil receives and validates the principal's description and joins in shadow or warm
  protection. -/
  | pairJoin (desc : List Byte) (kernel t epoch : Nat)
  /-- END_B_STREAM (R406): The counterfoil receives the principal's end-B stream and transmits it on end B. -/
  | endBStream (frames : List (RoundNo × Frame))
  /-- END_B_STREAM_ABSENT (R410): No end-B stream by 0.75 T_E − 50 ns idles the counterfoil's ends. -/
  | endBStreamAbsent
  /-- SLOT_RELAY (R405): A relayed slot or upstream block from the partner arrives. -/
  | slotRelay (r : RoundNo) (e : End) (rel : Relay) (t : Nat)
  /-- INPUT_MESSAGE (R414): The principal's input message arrives and feeds the counterfoil's lanes. -/
  | inputMessage (epoch : Nat) (secs : List InSec) (verdicts : List (RoundNo × Bool × Bool)) (nos : List Nat)
  /-- UNFED_EPOCH (R415): No input message at 0.40 T_E + 2 µs makes the epoch unfed. -/
  | unfedEpoch
  /-- COMMAND_FORWARD (R414): A command forwarded by the principal arrives at the counterfoil. -/
  | commandForward (no epoch tag : Nat) (agent : Agent) (ring : Fin 8) (op : Op)
  /-- HASH_MESSAGE (R416): A hash message arrives and the state hashes are compared. -/
  | hashMessage (epoch : Nat) (hash : BitVec 64) (mode : Fin 8) (gen : BitVec 16) (prot : Fin 4)
  /-- TIME_MESSAGE (R405): A time message arrives and gives offset and link latency. -/
  | timeMessage (offset : Int) (lp : Nat)
  /-- PAIR_LINK_LOST (R430): No time or hash message for 2 epochs declares the pair link lost. -/
  | pairLinkLost
  /-- PAIR_LINK_SLOW (R405): Measured L_p above 400 ns treats the link as lost. -/
  | pairLinkSlow (lp : Nat)
  /-- STATE_ENVELOPE (R418): A warm state envelope arrives and is converted and kept. -/
  | stateEnvelope (epoch : Nat) (readable : Bool) (pts : List (Pt × Word)) (image : Machine.LaneImage)
  /-- RESYNC_TRANSFER_DONE (R417): The state transfer ends and the counterfoil catches up to the live epoch. -/
  | resyncTransferDone (epoch : Nat) (pts : List (Pt × Word)) (image : Machine.LaneImage)
  /-- SURRENDER (R421): A SURRENDER naming an epoch arrives and fixes the role change. -/
  | surrender (h : Nat) (fault : Bool)
  /-- PAIR_DEMOTED (R421): A principal seeing a generation discard or a higher generation gives up its role. -/
  | pairDemoted
  /-- WARM_TAKEOVER_RESUME (R422): 8 ms after an unplanned warm takeover the drives resume closed-loop control. -/
  | warmTakeoverResume
  /-- LOGIC_RESTARTED (R322): Plant logic runs again after its cores were reset, and for drives whose run_cmd it owns
  this counts as the commanding agent's return. -/
  | logicRestarted
  /-- RAIL_RESTORED (R482): An internal rail returns within ±4 % of nominal, raising SUPPLY_RESTORED and clearing Safe
  cause 7. -/
  | railRestored (n : Fin 8)
  /-- POWER_LOST (R496): The hold-up store is spent, or the power contacts break, and the module stops with every
  output at high impedance until the next power good. -/
  | powerLost
  /-- CAN_RX_ERROR (R439): A reception on a CAN bus ends in a detected error; rec rises and the controller may become
  error-passive. -/
  | canRxError (c : CanNo) (dominantAfter : Bool)
  /-- PULL_IN_ELAPSED (R273): pullin_ms after a coil load is switched on, its regulation changes from pullin_a to
  hold_a. -/
  | pullInElapsed (a : AuxNo)
  /-- OTP_FUSE (R518): Winil fuses an integrator key slot, its revoke bit or the signed-description bit over the
  service Ethernet port in Configure. -/
  | otpFuse (item : OtpItem)
  /-- DISCOVER_ARRIVED (R91): A DISCOVER walk arrives at the opposite end of its round, and that walk of link-up step
  1 ends. `next` is the next position, none where the exhausted bit is set (Table 3.1). -/
  | discoverArrived (r : RoundNo) (e : End) (next : Option (Fin 256))
  /-- PCIE_LINK_UP (R352): The PCIe link finishes training, or trains again after a loss or re-enumeration, at the
  rate and width that set the tier P budget. -/
  | pcieLinkUp (gen : Fin 4) (width : Fin 5)
  deriving DecidableEq, Repr

end Sys2Proof
end

