-- ==== Sys2Proof/PlantDesc.lean ====
section
/-!
DEFINITION. PlantDesc.lean: the plant description as decoded data (section 1.7, Table 1.11).

The encoding of the parts is Winil's, one for each format version (R533); `Config.parseParts` stands for it. This
file names what the parts say.
-/
namespace Sys2Proof

/-- A round position that the plant names: the cell class it expects, the lowest protocol version and its arm. -/
structure PosDesc where
  round : Nat
  pos : Nat
  cls : Nat
  minProto : Nat
  arm : Option Nat
  deriving DecidableEq, Repr

/-- An arm (Table 1.11): `set` is a winding set 0–3 or 0xFF for a chopper arm, `role` a role of Table 5.1. -/
structure ArmDesc where
  id : Nat
  round : Nat
  drive : Nat
  idx : Nat
  set : Nat
  role : Nat
  nReq : Nat
  kRed : Nat
  deriving DecidableEq, Repr

/-- A drive (Table 1.11). -/
structure DriveDesc where
  drive : Nat
  type : Nat
  topology : Nat
  modMode : Nat
  nSets : Nat
  setOffset : Nat
  lane : Option Nat
  power : Nat
  prio : Nat
  shaft : Option Nat
  fb : Option Nat
  /-- counts of the feedback channel in one mechanical turn, as a fraction (R226) -/
  cprNum : Nat
  cprDen : Nat
  /-- phase current inputs per winding set for source 1: three sigma-delta numbers each, and amperes at full scale (R111) -/
  iSdm : List (List Nat)
  iScale : Nat
  /-- line voltage inputs: sigma-delta 0–15 or 16 + analog input; volts per unit of the input (R136) -/
  vLine : List Nat
  vScale : Nat
  hostLoss : Nat
  /-- cost of the drive in lane cycles is computed from these of its parameters (R140) -/
  ctrlOpts : Nat
  deriving DecidableEq, Repr

/-- A shaft group (R20). -/
structure ShaftDesc where
  group : Nat
  members : List Nat
  deriving DecidableEq, Repr

/-- A reference from one entity to another (check 7): the holder's kind and number as R541 codes them, and the unit
that it names: its kind (0 round, 1 drive, 2 feedback channel, 3 auxiliary half-bridge, 4 CAN controller,
5 profile engine, 6 auxiliary axis, 7 point, 8 analog input, 9 compare unit, 10 pass-through output) and its
number. -/
structure RefDesc where
  holder : Nat
  holderIdx : Nat
  kind : Nat
  idx : Nat
  deriving DecidableEq, Repr

/-- A unit that the description enables: kind as in `RefDesc`, number. -/
structure UnitDesc where
  kind : Nat
  idx : Nat
  deriving DecidableEq, Repr

/-- A plant-logic point declaration (R31): index, path, type, unit, the value of one least-significant bit in that unit, and
writer class L (true) or H (false). -/
structure LogicDesc where
  index : Nat
  path : String
  ty : PtTy
  unit : String
  scale : Rat
  byLogic : Bool
  deriving DecidableEq, Repr

/-- The parts of a plant description (Table 1.11). -/
structure Plant where
  rounds : List Nat
  pos : List PosDesc
  arms : List ArmDesc
  drives : List DriveDesc
  shafts : List ShaftDesc
  powers : List Nat
  units : List UnitDesc
  refs : List RefDesc
  nGuards : Nat
  /-- guards declared: number, and the signal space index (or cell guard code) of the input -/
  guards : List (Nat × Nat)
  /-- number of messages and of maps that the description declares for a CAN controller (R434, R448) -/
  canMsgs : List (Nat × Nat)
  canMaps : List (Nat × Nat)
  logic : List LogicDesc
  /-- points of class H/L that plant logic owns (R32) -/
  logicOwned : List Pt
  /-- values of class C points: signal space index and raw word (R533) -/
  values : List (Nat × Word)
  deriving DecidableEq, Repr

/-- The plant without a description. -/
def Plant.none : Plant :=
  { rounds := [], pos := [], arms := [], drives := [], shafts := [], powers := [], units := [], refs := [],
    nGuards := 0, guards := [], canMsgs := [], canMaps := [], logic := [], logicOwned := [], values := [] }

end Sys2Proof
end

