-- ==== Sys2Proof/Config.lean ====
section
/-!
DEFINITION. Config.lean: what the manual leaves to Winil's files, to the image, to the board and to the kernels,
and the values it leaves open. Every constant here is opaque: nothing can be proved about its value, and a statement
that mentions one holds for every value of it.
-/
namespace Sys2Proof.Config

/-! ## Files that Winil delivers (R533, R534) -/

/-- The catalogue file of the version in use: the named point at a signal space index that this manual does not fix
(R534). `namedAt` in Machine/Operands.lean takes from it one place for each point, inside the block of the point's own entity. -/
opaque catalogue : Nat → Option Pt

/-- The decoding of the parts of a plant description from the bytes after its header, or the offset of the first
fault from the first byte of the description (R533, R541). -/
opaque parseParts : List Byte → Except Nat Plant

/-- Whether a signature (96 bytes) over header bytes 0–55 verifies against an integrator key of a fused, unrevoked
slot (R533, R518); the second argument is the set of those slots. -/
opaque signatureOk : List Byte → List Byte → Nat → Bool

/-! ## Image and board (Table 11.3) -/

/-- `HW_REV.REV`. -/
opaque hwRev : BitVec 8

/-- Running firmware version PATCH, MINOR, MAJOR of the image in a bank. -/
opaque fwVersion : Nat → BitVec 24

/-- Control-kernel version of the running image. -/
opaque kernelVersion : BitVec 16

/-- Catalogue version of the running image. -/
opaque catalogueVersion : BitVec 16

/-- Size in bytes of the plant-logic image (Table 16.1). -/
opaque imageSize : Nat

/-- Stored size of a record in the journal partition, from its size and epoch (R387: the stored form is internal). -/
opaque storedSize : Nat → Nat → Nat

/-- Bytes of a checkpoint record before compression, from its epoch: the form of the engines' state is the kernel
version's (R384). -/
opaque checkpointSize : Nat → Nat

/-- Third word of the device inputs of an epoch record (Table 13.2, "wake and watchdog flags", whose bits are not
stated), from `wake_cause`, the host watchdog's expiry, and whether Supervisor and plant logic run. -/
opaque watchdogFlags : Nat → Bool → Bool → Bool → Nat

/-- Whether the writes to a flash bank form an image of a length that verifies, with the fused and unrevoked integrator
key slots; its security version where it does (R303, R517, R518). The encoding of an image is not printed. -/
opaque verifyImage : List (Nat × List Byte) → Nat → Nat → Option (Fin 64)

/-- Kernel versions that the running image accepts (R412), by place 0–7. -/
opaque kernelCompat : Nat → BitVec 16

/-! ## Values the manual leaves open -/

/-- The `n`-th free value drawn: a word that nothing fixes. -/
opaque freeWord : Nat → Word

/-- The `n`-th free value drawn where the rules give a number no value. -/
opaque freeRat : Nat → Rat

/-! ## Lane arithmetic (R113: fixed point, format not stated) -/

/-- What a lane's fixed-point format keeps of an exact result. -/
opaque laneRound : Rat → Rat

/-- Sine of an angle in turns as a lane computes it. -/
opaque laneSin : Rat → Rat

/-- Cosine of an angle in turns as a lane computes it. -/
opaque laneCos : Rat → Rat

/-- Square root as a lane computes it. -/
opaque laneSqrt : Rat → Rat

/-- Exponential as a lane computes it. -/
opaque laneExp : Rat → Rat

/-- Angle in turns of a vector (x, y) as a lane computes it. -/
opaque laneAtan2 : Rat → Rat → Rat

/-- Correction of the sine and cosine of a channel by its offsets and gain, whose form R243 leaves open: sine,
cosine, both offsets, gain. -/
opaque sinCosCorrect : Rat → Rat → Rat → Rat → Rat → Rat × Rat

/-- The circle constant as a lane holds it. -/
opaque lanePi : Rat

/-- One epoch of the sensorless observer (R131, whose equations the manual does not give): drive type, machine
parameters (Rs, σLs, Lm, Lr, τr, Ld, Lq, ψpm, pole pairs, PLL bandwidth), its state, and its inputs (the voltage applied in the
epoch on the axes α and β, measured phase currents, T_E in s). The state begins with speed in % rated and angle in turns. -/
opaque observer : Nat → List Rat → List Rat → List Rat → List Rat

/-- One epoch of the angle that high-frequency injection finds (R134, whose demodulation the manual does not give): last
angle in turns, successive q-current responses, amplitude. -/
opaque hfiAngle : Rat → Rat → Rat → Rat → Rat

/-- Grid phase-locked loop of a line converter (R136, whose equations the manual does not give): bandwidth in Hz, angle
in turns, frequency in Hz, the three line voltages, T_E in s; the new angle and frequency. -/
opaque pll : Rat → Rat → Rat → List Rat → Rat → Rat × Rat

/-- Number of the test pulse in an epoch of an identification step (Table 4.6: when each pulse of steps 2 and 3 comes is not stated):
step, epochs since its start. -/
opaque identPulse : Nat → Nat → Option Nat

/-- Amplitude of the pulses of identification step 2, as a fraction of rated voltage (Table 4.6: not stated). -/
opaque identAmp : Rat

/-- Time in s from the start of identification step 4 to the end of its 50 % current (Table 4.6: not stated). -/
opaque identHold : Rat

/-- Current that turns the rotor in identification step 5, % rated (Table 4.6: not stated). -/
opaque identTurn : Rat

/-- One epoch of a PI loop that the manual gives by its bandwidth only (R123, R136): bandwidth in Hz, plant parameters,
error, integral, T_E in s; output and new integral. -/
opaque piLoop : Rat → List Rat → Rat → Rat → Rat → Rat × Rat

/-- What a computation of the rules gives for a dividend where ordinary data make its divisor 0; no rule states it. -/
opaque quotZero : Rat → Rat

/-- The word in which a lane posts a value to the group lane or takes it from there (R113: format not stated). -/
opaque laneWord : Rat → BitVec 32

/-- Order of the words that a lane hashes (R386: fixed by the kernel version): a permutation of their places. -/
opaque laneOrder : List Nat → List Nat

end Sys2Proof.Config
end

