-- ==== Sys2Proof/Machine/Arith.lean ====
section
/-!
DEFINITION. Arith.lean: rounding (R532), the number formats of points (R6), byte order (R5), the frame check
sequences of the rounds (R67, R79), the state hash function (R109) and SHA-256 (R533).

Values inside the lanes are exact rationals; a value meets a format only where it enters a point or a frame.
-/
namespace Sys2Proof.Arith

/-! ## Rounding -/

/-- Nearest integer, an exact half away from zero (R532). -/
def round (x : Rat) : Int :=
  if 0 ≤ x then (x + 1 / 2).floor else -((-x + 1 / 2).floor)

/-- The value limited to the interval from `lo` to `hi`. -/
def clamp (lo hi x : Rat) : Rat := if x < lo then lo else if hi < x then hi else x

/-- Absolute value. -/
def absR (x : Rat) : Rat := if x < 0 then -x else x

/-- Sign as −1, 0 or 1. -/
def sgn (x : Rat) : Rat := if 0 < x then 1 else if x < 0 then -1 else 0

/-- The lower of two values. -/
def minR (x y : Rat) : Rat := if x ≤ y then x else y

/-- The higher of two values. -/
def maxR (x y : Rat) : Rat := if x ≤ y then y else x

/-- Quotient; a free value where the divisor is 0, for which the rules state none. -/
def quot (x y : Rat) : Rat := if y = 0 then Config.quotZero x else x / y

/-- A share of a total; of a total of nothing it is nothing. -/
def ratio (x y : Rat) : Rat := if y = 0 then 0 else x / y

/-- Two to an integer power. -/
def pow2 (e : Int) : Rat := if 0 ≤ e then ((2 ^ e.toNat : Nat) : Rat) else 1 / ((2 ^ (-e).toNat : Nat) : Rat)

/-- A wrapping angle of 2^32 per turn from a value in turns (R51's angle points are u32 turns). -/
def turnsWord (x : Rat) : Word := Word.ofInt (round (x * 4294967296))

/-! ## Point formats (R6) -/

/-- Exponent of a positive rational: the `e` with 2^e ≤ x < 2^(e+1). -/
def log2Floor (x : Rat) : Int :=
  let e := (Nat.log2 x.num.toNat : Int) - (Nat.log2 x.den : Int)
  if pow2 e ≤ x then e else e - 1

/-- The magnitude bits of the nearest binary32, an exact half away from zero; overflow gives the largest
finite value (the manual states no infinity for any point). -/
def f32Mag (x : Rat) : Nat :=
  if x = 0 then 0 else
    let e := max (log2Floor x) (-126)
    let m := (round (x * pow2 (23 - e))).toNat
    let bits := if m < 2 ^ 23 then m
                else if m < 2 ^ 24 then ((e + 127).toNat * 2 ^ 23) + (m - 2 ^ 23)
                else ((e + 128).toNat * 2 ^ 23)
    min bits 0x7F7FFFFF

/-- Nearest IEEE 754 binary32 of a rational (R6, R532). -/
def encF32 (x : Rat) : Word :=
  if 0 ≤ x then Word.ofNat (f32Mag x) else Word.ofNat (2 ^ 31 + f32Mag (-x))

/-- Whether a binary32 word is a number (neither infinity nor NaN). -/
def finiteF32 (w : Word) : Bool := (w.toNat / 2 ^ 23) % 256 != 255

/-- The rational a binary32 word stands for; a word that is no number reads as 0. -/
def decF32 (w : Word) : Rat :=
  let n : Nat := w.toNat
  let ex : Nat := (n / 2 ^ 23) % 256
  let fr : Nat := n % 2 ^ 23
  let mag : Rat :=
    if ex = 255 then 0
    else if ex = 0 then (fr : Rat) * pow2 (-149)
    else ((fr + 2 ^ 23 : Nat) : Rat) * pow2 ((ex : Int) - 150)
  if n < 2 ^ 31 then mag else -mag

/-- Signed fixed point with `n` fraction bits, saturating at the word's range. -/
def encQ (n : Nat) (x : Rat) : Word :=
  Word.ofInt (max (-2147483648) (min 2147483647 (round (x * pow2 n))))

/-- Value of a signed fixed-point word with `n` fraction bits. -/
def decQ (n : Nat) (w : Word) : Rat := (w.toInt : Rat) / pow2 n

/-- Unsigned fixed point with `n` fraction bits, saturating. -/
def encUQ (n : Nat) (x : Rat) : Word :=
  Word.ofInt (max 0 (min 4294967295 (round (x * pow2 n))))

/-- Value of an unsigned fixed-point word with `n` fraction bits. -/
def decUQ (n : Nat) (w : Word) : Rat := (w.toNat : Rat) / pow2 n

/-! ## Bytes, little-endian (R5) -/

/-- The `n` low bytes of a number, lowest first. -/
def leBytes : Nat → Nat → List Byte
  | 0, _ => []
  | n + 1, v => BitVec.ofNat 8 v :: leBytes n (v / 256)

/-- The number a list of bytes spells, lowest first. -/
def leNat : List Byte → Nat
  | [] => 0
  | b :: bs => b.toNat + 256 * leNat bs

/-- A field of `n` bytes at an offset of a document. -/
def field (bs : List Byte) (off n : Nat) : Nat := leNat ((bs.drop off).take n)

/-- Bits [hi:lo] of a number. -/
def bits (w hi lo : Nat) : Nat := (w / 2 ^ lo) % 2 ^ (hi + 1 - lo)

/-- One bit of a number. -/
def bit (w k : Nat) : Bool := (w / 2 ^ k) % 2 == 1

/-- The number with one bit set or cleared. -/
def setBit (w k : Nat) (b : Bool) : Nat :=
  if bit w k == b then w else if b then w + 2 ^ k else w - 2 ^ k

/-- 1 for true, 0 for false. -/
def b2n (b : Bool) : Nat := if b then 1 else 0

/-- How many of the low `n` bits are set. -/
def popcount : Nat → Nat → Nat
  | 0, _ => 0
  | n + 1, w => w % 2 + popcount n (w / 2)

/-! ## Check sequences and hashes -/

/-- One bit step of a most-significant-first CRC of width `n`. -/
def crcStep (n poly reg : Nat) : Nat → Nat
  | 0 => reg
  | k + 1 =>
    let r := reg * 2
    crcStep n poly (if r < 2 ^ n then r else Nat.xor (r % 2 ^ n) poly) k

/-- CRC-16 over bytes, polynomial 0x1021, initial value 0xFFFF, most significant bit first. -/
def crc16 (bs : List Byte) : Nat :=
  bs.foldl (fun reg b => crcStep 16 0x1021 (Nat.xor reg (b.toNat * 256)) 8) 0xFFFF

/-- One bit step of the reflected CRC-32. -/
def crc32Step (reg : Nat) : Nat → Nat
  | 0 => reg
  | k + 1 => crc32Step (if reg % 2 = 1 then Nat.xor (reg / 2) 0xEDB88320 else reg / 2) k

/-- CRC-32 over bytes, reflected polynomial 0xEDB8_8320, initial and final complement. -/
def crc32 (bs : List Byte) : Nat :=
  Nat.xor (bs.foldl (fun reg b => crc32Step (Nat.xor reg b.toNat) 8) 0xFFFFFFFF) 0xFFFFFFFF

/-- 64-bit FNV-1a over 32-bit words (R386). -/
def fnv1a (ws : List Nat) : Nat :=
  ws.foldl (fun h w => (Nat.xor h w * 0x100000001B3) % 2 ^ 64) 0xCBF29CE484222325

/-! ## SHA-256 (R533: the digest of a plant description)

The manual names the function and prints nothing of it; its numbers are derived here from what defines them, on natural numbers
below 2^32. -/

/-- The greatest number whose `k`-th power does not pass `x`, found bit by bit from bit `n - 1` down onto what stands. -/
def rootFrom (k x : Nat) : Nat → Nat → Nat
  | 0, r => r
  | n + 1, r => rootFrom k x n (if (r + 2 ^ n) ^ k ≤ x then r + 2 ^ n else r)

/-- The first 32 bits behind the binary point of the `k`-th root of a number below 2^9. -/
def rootBits (k p : Nat) : Nat := rootFrom k (p * 2 ^ (32 * k)) 37 0 % 2 ^ 32

/-- The primes below a bound, ascending. -/
def primesBelow (n : Nat) : List Nat :=
  (List.range n).filter (fun p => decide (2 ≤ p) && (List.range p).all (fun d => decide (d < 2) || decide (0 < p % d)))

/-- Sum on 32 bits. -/
def sum32 (xs : List Nat) : Nat := xs.sum % 2 ^ 32

/-- Exclusive or of a 32-bit number turned right by each of some distances. -/
def turns32 (x : Nat) (ns : List Nat) : Nat :=
  ns.foldl (fun acc n => Nat.xor acc (x / 2 ^ n + x % 2 ^ n * 2 ^ (32 - n))) 0

/-- The word of a message schedule that follows the sixteen newest, given newest first. -/
def nextWord (w : List Nat) : Nat :=
  let near := w.getD 1 0
  let far := w.getD 14 0
  sum32 [w.getD 15 0, w.getD 6 0, Nat.xor (turns32 far [7, 18]) (far / 8), Nat.xor (turns32 near [17, 19]) (near / 1024)]

/-- The schedule of a block of sixteen words followed by `n` more, newest first. -/
def schedule (w : List Nat) : Nat → List Nat
  | 0 => w
  | n + 1 => let u := schedule w n; nextWord u :: u

/-- One step over the eight working numbers: each moves down one place, the first and the fifth are made anew. -/
def digestStep (v : List Nat) (add : Nat) : List Nat :=
  match v with
  | [a, b, c, d, e, f, g, h] =>
    let pick := Nat.xor g (Nat.land e (Nat.xor f g))
    let most := Nat.lor (Nat.land a b) (Nat.land c (Nat.lor a b))
    let t := sum32 [h, add, pick, turns32 e [6, 11, 25]]
    [sum32 [t, most, turns32 a [2, 13, 22]], a, b, c, sum32 [d, t], e, f, g]
  | _ => v

/-- The chaining value after a block of sixteen words. -/
def digestBlock (v block : List Nat) : List Nat :=
  let adds := List.zipWith (fun p w => rootBits 3 p + w) (primesBelow 312) (schedule block.reverse 48).reverse
  List.zipWith (fun x y => sum32 [x, y]) v (adds.foldl digestStep v)

/-- A list cut into pieces of `k` elements, `n` of them. -/
def pieces {α : Type} (k : Nat) : Nat → List α → List (List α)
  | 0, _ => []
  | n + 1, xs => xs.take k :: pieces k n (xs.drop k)

/-- SHA-256 of a byte list, as its 32 bytes: a set bit, zeros up to eight bytes before a multiple of 64, the length in bits. -/
def sha256 (bs : List Byte) : List Byte :=
  let whole := (bs.length + 9 + 63) / 64
  let doc := bs ++ 0x80 :: (List.replicate (whole * 64 - bs.length - 9) 0 ++ (leBytes 8 (8 * bs.length)).reverse)
  let words := (pieces 4 (whole * 16) doc).map (fun q => leNat q.reverse)
  let last := (pieces 16 whole words).foldl digestBlock ((primesBelow 20).map (rootBits 2))
  last.flatMap (fun x => (leBytes 4 x).reverse)

end Sys2Proof.Arith
end

