-- ==== Sys2Proof/Machine/Catalogue.lean ====
section
/-!
DEFINITION. Catalogue.lean: type, writer class, Change condition, range and reset value of every named point
(R6, R28, R29, R32; Tables 1.9 and 1.10), as the point tables of the manual give them.
-/
namespace Sys2Proof

/-- Encodes a value in a point type, rounding as R532 says. -/
def PtTy.enc (t : PtTy) (x : Rat) : Word :=
  match t with
  | .u32 | .guarded => Word.ofInt (max 0 (Arith.round x))
  | .s32 => Word.ofInt (Arith.round x)
  | .f32 => Arith.encF32 x
  | .q n => Arith.encQ n x
  | .uq n => Arith.encUQ n x

/-- The value a raw word stands for in a point type. -/
def PtTy.dec (t : PtTy) (w : Word) : Rat :=
  match t with
  | .u32 | .guarded => (w.toNat : Rat)
  | .s32 => (w.toInt : Rat)
  | .f32 => Arith.decF32 w
  | .q n => Arith.decQ n w
  | .uq n => Arith.decUQ n w

/-- Whether a raw word is a number of the type. -/
def PtTy.isNumber (t : PtTy) (w : Word) : Bool :=
  match t with
  | .f32 => Arith.finiteF32 w
  | _ => true

/-- Value of one least-significant bit, in the point's unit (Table 1.9); none for binary32, which has no fixed one. -/
def PtTy.scale (t : PtTy) : Option Rat :=
  match t with
  | .f32 => none
  | .q n | .uq n => some (1 / Arith.pow2 n)
  | _ => some 1

/-- Whether the type is one of R6 on 32 bits. -/
def PtTy.wf (t : PtTy) : Bool :=
  match t with
  | .q n | .uq n => decide (n ≤ 32)
  | _ => true

end Sys2Proof

namespace Sys2Proof.Machine

/-- Writer classes (Table 1.10). `canData`: class D in a receive object, H/L in a send object (R450). -/
inductive Writer where
  | d | h | l | hl | c | canData
  deriving DecidableEq, Repr

/-- Change conditions (Table 1.9): when a write is accepted. -/
inductive Change where
  | never | any | stopped | configure | confReady | idle | stoppedAxis
  deriving DecidableEq, Repr

/-- Range of a point's values, in its unit. -/
inductive Rng where
  | any
  | ge (lo : Rat)
  | gt (lo : Rat)
  | btw (lo hi : Rat)
  deriving DecidableEq, Repr

/-- The block in which a field lies (Tables 1.4 to 1.8). `aux0` is block 0 of the half-bridges. -/
inductive Home where
  | device | lane | logic | guard | round | pos | slot | drive | set | arm | cell | fb | cmp | pt | aux | aux0 | axis
  | can | canMap | canObj | engine | shaft | power | groupLane
  deriving DecidableEq, Repr

/-- Catalogue entry of a field (Table 1.9). `dflt` is the value a point holds until something writes it. A unit that names a
scale ("1 ns") gives the value of one least-significant bit with it; elsewhere that is `PtTy.scale`. -/
structure Entry where
  path : String
  ty : PtTy
  unit : String
  wr : Writer
  chg : Change
  rng : Rng
  dflt : Rat
  home : Home
  deriving DecidableEq, Repr

/-- Whether a value lies in a range. -/
def Rng.holds (r : Rng) (x : Rat) : Bool :=
  match r with
  | .any => true
  | .ge lo => decide (lo ≤ x)
  | .gt lo => decide (lo < x)
  | .btw lo hi => decide (lo ≤ x) && decide (x ≤ hi)

/-- The catalogue. -/
def entry (f : Field) : Entry :=
  match f with
  | .devEpoch => ⟨"device.epoch.lo/.hi", .u32, "", .d, .never, .any, 0, .device⟩
  | .devTime => ⟨"device.time.lo/.hi", .u32, "1 ns", .d, .never, .any, 0, .device⟩
  | .devTimeState => ⟨"device.time_state", .u32, "", .d, .never, .any, 0, .device⟩
  | .devTimeErrorNs => ⟨"device.time_error_ns", .s32, "1 ns", .d, .never, .any, 0, .device⟩
  | .devEpochSetting => ⟨"device.epoch_setting", .u32, "", .c, .configure, .btw 0 2, 2, .device⟩
  | .devTimeSource => ⟨"device.time_source", .u32, "", .c, .configure, .btw 0 6, 0, .device⟩
  | .devTimeSlewPpm => ⟨"device.time_slew_ppm", .u32, "1 ppm", .c, .configure, .btw 1 100, 50, .device⟩
  | .devTimeSourceTimeoutMs => ⟨"device.time_source_timeout_ms", .u32, "1 ms", .c, .configure, .btw 1 10000, 100, .device⟩
  | .devSyncInDiv => ⟨"device.sync_in_div", .u32, "epochs", .c, .configure, .btw 1 65536, 1, .device⟩
  | .devTimeSet => ⟨"device.time_set.lo/.hi", .u32, "1 ns", .h, .configure, .any, 0, .device⟩
  | .devSyncOutDiv => ⟨"device.sync_out_div", .u32, "epochs", .hl, .any, .btw 0 65536, 0, .device⟩
  | .devCatalogueVersion => ⟨"device.catalogue_version", .u32, "", .d, .never, .any, 0, .device⟩
  | .devPdReportCheck => ⟨"device.pd_report.check", .u32, "", .d, .never, .any, 0, .device⟩
  | .devPdReportEntity => ⟨"device.pd_report.entity", .u32, "", .d, .never, .any, 0, .device⟩
  | .devPdReportIndex => ⟨"device.pd_report.index", .u32, "", .d, .never, .any, 0, .device⟩
  | .devPdReportDetail => ⟨"device.pd_report.detail", .u32, "", .d, .never, .any, 0, .device⟩
  | .devPdReportLaneDrives => ⟨"device.pd_report.lane_drives", .u32, "", .d, .never, .any, 0, .device⟩
  | .devMode => ⟨"device.mode", .u32, "", .d, .never, .any, 0, .device⟩
  | .devModePrev => ⟨"device.mode_prev", .u32, "", .d, .never, .any, 0, .device⟩
  | .devOverrideCount => ⟨"device.override_count", .u32, "", .d, .never, .any, 0, .device⟩
  | .devSafeCause => ⟨"device.safe_cause", .u32, "", .d, .never, .any, 0, .device⟩
  | .devWakeCause => ⟨"device.wake_cause", .u32, "", .d, .never, .any, 0, .device⟩
  | .devWakeRace => ⟨"device.wake_race", .u32, "", .d, .never, .any, 0, .device⟩
  | .devBootBank => ⟨"device.boot_bank", .u32, "", .d, .never, .any, 0, .device⟩
  | .devSelftest => ⟨"device.selftest", .u32, "", .d, .never, .any, 0, .device⟩
  | .devModeCmd => ⟨"device.mode_cmd", .u32, "", .hl, .any, .btw 0 7, 0, .device⟩
  | .devOverrideReason => ⟨"device.override_reason", .u32, "", .hl, .any, .any, 0, .device⟩
  | .devOverrideEnable => ⟨"device.override_enable", .u32, "", .c, .configure, .btw 0 1, 0, .device⟩
  | .devHaltTimeoutMs => ⟨"device.halt_timeout_ms", .u32, "ms", .c, .configure, .btw 1000 600000, 60000, .device⟩
  | .devStoDiscrepancyMs => ⟨"device.sto_discrepancy_ms", .u32, "ms", .c, .configure, .btw 1 1000, 20, .device⟩
  | .devSupWdtMs => ⟨"device.sup_wdt_ms", .u32, "ms", .c, .configure, .btw 10 1000, 100, .device⟩
  | .devLogicWdtMs => ⟨"device.logic_wdt_ms", .u32, "ms", .c, .configure, .btw 10 10000, 0, .device⟩
  | .devWakeMask => ⟨"device.wake_mask", .u32, "", .hl, .confReady, .any, 128, .device⟩
  | .devWakeDiMask => ⟨"device.wake_di_mask", .u32, "", .hl, .confReady, .any, 0, .device⟩
  | .devWakeDiLevel => ⟨"device.wake_di_level", .u32, "", .hl, .confReady, .any, 0, .device⟩
  | .devWakeTime => ⟨"device.wake_time.lo/.hi", .u32, "1 ns", .hl, .confReady, .any, 0, .device⟩
  | .devHifVersion => ⟨"device.hif.version", .u32, "", .d, .never, .any, 0, .device⟩
  | .devHifSession => ⟨"device.hif.session", .u32, "", .d, .never, .any, 0, .device⟩
  | .devHifWdtMs => ⟨"device.hif.wdt_ms", .u32, "ms", .d, .never, .any, 0, .device⟩
  | .devHifWdtState => ⟨"device.hif.wdt_state", .u32, "", .d, .never, .any, 0, .device⟩
  | .devHifPrCount => ⟨"device.hif.pr_count", .u32, "entries", .d, .never, .any, 0, .device⟩
  | .devHifPrPeak => ⟨"device.hif.pr_peak", .u32, "entries", .d, .never, .any, 0, .device⟩
  | .devHifAccepted => ⟨"device.hif.accepted", .u32, "", .d, .never, .any, 0, .device⟩
  | .devHifLate => ⟨"device.hif.late", .u32, "", .d, .never, .any, 0, .device⟩
  | .devHifFull => ⟨"device.hif.full", .u32, "", .d, .never, .any, 0, .device⟩
  | .devHifSuperseded => ⟨"device.hif.superseded", .u32, "", .d, .never, .any, 0, .device⟩
  | .devHifCplDiscarded => ⟨"device.hif.cpl_discarded", .u32, "", .d, .never, .any, 0, .device⟩
  | .devHifRingFaults => ⟨"device.hif.ring_faults", .u32, "", .d, .never, .any, 0, .device⟩
  | .envPolicy => ⟨"device.envi.policy", .u32, "", .d, .never, .any, 0, .device⟩
  | .envPoints => ⟨"device.envi.points", .u32, "points", .d, .never, .any, 0, .device⟩
  | .envSetGen => ⟨"device.envi.set_gen", .u32, "", .d, .never, .any, 0, .device⟩
  | .envNeedBytes => ⟨"device.envi.need_bytes", .u32, "bytes", .d, .never, .any, 0, .device⟩
  | .envSeq => ⟨"device.envi.seq.lo/.hi", .u32, "", .d, .never, .any, 0, .device⟩
  | .envSealedEpoch => ⟨"device.envi.sealed_epoch.lo/.hi", .u32, "", .d, .never, .any, 0, .device⟩
  | .envSealNs => ⟨"device.envi.seal_ns", .u32, "1 ns", .d, .never, .any, 0, .device⟩
  | .envSkipped => ⟨"device.envi.skipped", .u32, "", .d, .never, .any, 0, .device⟩
  | .envSkipCause => ⟨"device.envi.skip_cause", .u32, "", .d, .never, .any, 0, .device⟩
  | .envBPBudgetBytes => ⟨"device.envi.p_budget_bytes", .u32, "bytes", .d, .never, .any, 0, .device⟩
  | .jrnPartitionGib => ⟨"device.journal.partition_gib", .u32, "GiB", .c, .configure, .btw 1 24, 24, .device⟩
  | .jrnCkptMs => ⟨"device.journal.ckpt_ms", .u32, "ms", .c, .configure, .btw 20 1000, 100, .device⟩
  | .jrnState => ⟨"device.journal.state", .u32, "", .d, .never, .any, 0, .device⟩
  | .jrnSpanMs => ⟨"device.journal.span_ms", .u32, "ms", .d, .never, .any, 0, .device⟩
  | .jrnLost => ⟨"device.journal.lost", .u32, "", .d, .never, .any, 0, .device⟩
  | .jrnRawBps => ⟨"device.journal.raw_bps", .f32, "B/s", .d, .never, .any, 0, .device⟩
  | .jrnStoredBps => ⟨"device.journal.stored_bps", .f32, "B/s", .d, .never, .any, 0, .device⟩
  | .jrnTrigCode => ⟨"device.journal.trig_code[j]", .u32, "", .hl, .any, .btw 0 65535, 0, .device⟩
  | .jrnTrigSafe => ⟨"device.journal.trig_safe", .u32, "", .hl, .any, .btw 0 1, 1, .device⟩
  | .jrnPreMs => ⟨"device.journal.pre_ms", .u32, "ms", .hl, .any, .btw 0 60000, 5000, .device⟩
  | .jrnPostMs => ⟨"device.journal.post_ms", .u32, "ms", .hl, .any, .btw 0 60000, 2000, .device⟩
  | .jcapFirst => ⟨"device.journal.cap[i].first.lo/.hi", .u32, "", .d, .never, .any, 0, .device⟩
  | .jcapLast => ⟨"device.journal.cap[i].last.lo/.hi", .u32, "", .d, .never, .any, 0, .device⟩
  | .jcapTriggers => ⟨"device.journal.cap[i].triggers", .u32, "", .d, .never, .any, 0, .device⟩
  | .repEpochs => ⟨"device.replay.epochs", .u32, "", .d, .never, .any, 0, .device⟩
  | .repDivEpoch => ⟨"device.replay.div_epoch.lo/.hi", .u32, "", .d, .never, .any, 0, .device⟩
  | .repDivLane => ⟨"device.replay.div_lane", .u32, "", .d, .never, .any, 0, .device⟩
  | .repDivLanes => ⟨"device.replay.div_lanes", .u32, "", .d, .never, .any, 0, .device⟩
  | .repDivRecorded => ⟨"device.replay.div_recorded.lo/.hi", .u32, "", .d, .never, .any, 0, .device⟩
  | .repDivComputed => ⟨"device.replay.div_computed.lo/.hi", .u32, "", .d, .never, .any, 0, .device⟩
  | .pairEnable => ⟨"device.pair.enable", .u32, "", .c, .configure, .btw 0 1, 0, .device⟩
  | .pairRole => ⟨"device.pair.role", .u32, "", .d, .never, .any, 0, .device⟩
  | .pairProtection => ⟨"device.pair.protection", .u32, "", .d, .never, .any, 3, .device⟩
  | .pairEligible => ⟨"device.pair.eligible", .u32, "", .d, .never, .any, 0, .device⟩
  | .pairGeneration => ⟨"device.pair.generation", .u32, "", .d, .never, .any, 0, .device⟩
  | .pairLinkNs => ⟨"device.pair.link_ns", .u32, "1 ns", .d, .never, .any, 0, .device⟩
  | .pairHash => ⟨"device.pair.hash.lo/.hi", .u32, "", .d, .never, .any, 0, .device⟩
  | .pairMismatches => ⟨"device.pair.mismatches", .u32, "", .d, .never, .any, 0, .device⟩
  | .pairTakeovers => ⟨"device.pair.takeovers", .u32, "", .d, .never, .any, 0, .device⟩
  | .pairLastTakeover => ⟨"device.pair.last_takeover.lo/.hi", .u32, "", .d, .never, .any, 0, .device⟩
  | .pairResyncMs => ⟨"device.pair.resync_ms", .u32, "ms", .d, .never, .any, 0, .device⟩
  | .pairWarmAgeMs => ⟨"device.pair.warm_age_ms", .u32, "ms", .d, .never, .any, 0, .device⟩
  | .pairHandoverHold => ⟨"device.pair.handover_hold", .u32, "epochs", .d, .never, .any, 0, .device⟩
  | .pairAdoptedCmds => ⟨"device.pair.adopted_cmds", .u32, "", .d, .never, .any, 0, .device⟩
  | .pairTimeOffsetNs => ⟨"device.pair.time_offset_ns", .s32, "1 ns", .d, .never, .any, 0, .device⟩
  | .pairAutoResync => ⟨"device.pair.auto_resync", .u32, "", .hl, .any, .btw 0 1, 1, .device⟩
  | .devKernelCompat => ⟨"device.kernel_compat[j]", .u32, "", .d, .never, .any, 0, .device⟩
  | .logicDdrMib => ⟨"device.logic.ddr_mib", .u32, "MiB", .c, .configure, .btw 256 8192, 1024, .device⟩
  | .logicIrqGrant => ⟨"device.logic.irq_grant[j]", .u32, "", .c, .configure, .any, 0, .device⟩
  | .logicAccessFaults => ⟨"device.logic.access_faults", .u32, "", .d, .never, .any, 0, .device⟩
  | .logicRestarts => ⟨"device.logic.restarts", .u32, "", .d, .never, .any, 0, .device⟩
  | .devStoSeen => ⟨"device.sto_seen", .u32, "", .d, .never, .any, 0, .device⟩
  | .coreLoad => ⟨"device.core[i].load", .uq 16, "", .d, .never, .any, 0, .device⟩
  | .coreStackFaults => ⟨"device.core[i].stack_faults", .u32, "", .d, .never, .any, 0, .device⟩
  | .coreDeadLetters => ⟨"device.core[i].dead_letters", .u32, "", .d, .never, .any, 0, .device⟩
  | .supVctlAV => ⟨"device.supply.vctl_a_v", .f32, "V", .d, .never, .any, 0, .device⟩
  | .supVctlBV => ⟨"device.supply.vctl_b_v", .f32, "V", .d, .never, .any, 0, .device⟩
  | .supHoldupV => ⟨"device.supply.holdup_v", .f32, "V", .d, .never, .any, 0, .device⟩
  | .supRailV => ⟨"device.supply.rail_v[j]", .f32, "V", .d, .never, .any, 0, .device⟩
  | .supHoldupReady => ⟨"device.supply.holdup_ready", .u32, "", .d, .never, .any, 0, .device⟩
  | .grdInput => ⟨"device.guard[i].input", .u32, "", .c, .configure, .any, 0, .guard⟩
  | .grdFilter => ⟨"device.guard[i].filter", .u32, "", .c, .configure, .btw 0 3, 0, .guard⟩
  | .grdFilterArg => ⟨"device.guard[i].filter_arg", .u32, "samples or ms", .c, .configure, .btw 0 60000, 0, .guard⟩
  | .grdStaleMs => ⟨"device.guard[i].stale_ms", .u32, "ms", .c, .configure, .btw 0 60000, 0, .guard⟩
  | .grdAction => ⟨"device.guard[i].action", .u32, "", .c, .configure, .btw 0 4, 0, .guard⟩
  | .grdDrives => ⟨"device.guard[i].drives", .u32, "", .c, .configure, .any, 0, .guard⟩
  | .grdLo => ⟨"device.guard[i].lo", .guarded, "unit of the input", .c, .configure, .any, 0, .guard⟩
  | .grdHi => ⟨"device.guard[i].hi", .guarded, "unit of the input", .c, .configure, .any, 0, .guard⟩
  | .grdHyst => ⟨"device.guard[i].hyst", .guarded, "unit of the input", .c, .configure, .any, 0, .guard⟩
  | .grdSubst => ⟨"device.guard[i].subst", .guarded, "unit of the input", .c, .configure, .any, 0, .guard⟩
  | .grdValue => ⟨"device.guard[i].value", .guarded, "unit of the input", .d, .never, .any, 0, .guard⟩
  | .grdState => ⟨"device.guard[i].state", .u32, "", .d, .never, .any, 0, .guard⟩
  | .grdCellsBad => ⟨"device.guard[i].cells_bad", .u32, "", .d, .never, .any, 0, .guard⟩
  | .grdEpisodes => ⟨"device.guard[i].episodes", .u32, "", .d, .never, .any, 0, .guard⟩
  | .grdFirstBad => ⟨"device.guard[i].first_bad", .u32, "", .d, .never, .any, 4294967295, .guard⟩
  | .thmWarnC => ⟨"device.thermal.class[i].warn_c", .f32, "°C", .c, .configure, .btw (-40) 200, 0, .device⟩
  | .thmThrottleC => ⟨"device.thermal.class[i].throttle_c", .f32, "°C", .c, .configure, .btw (-40) 200, 0, .device⟩
  | .thmShutdownC => ⟨"device.thermal.class[i].shutdown_c", .f32, "°C", .c, .configure, .btw (-40) 200, 0, .device⟩
  | .thmHystK => ⟨"device.thermal.class[i].hyst_k", .f32, "K", .c, .configure, .btw 1 20, 0, .device⟩
  | .thmK => ⟨"device.thermal.class[i].k", .f32, "1/K", .c, .configure, .btw 0 1, 0, .device⟩
  | .thmFloor => ⟨"device.thermal.class[i].floor", .f32, "", .c, .configure, .btw 0 1, 0, .device⟩
  | .thmFaultFactor => ⟨"device.thermal.class[i].fault_factor", .f32, "", .c, .configure, .btw 0 1, (1 / 2), .device⟩
  | .devThermalTempC => ⟨"device.thermal.temp_c[j]", .f32, "°C", .d, .never, .any, 0, .device⟩
  | .devThermalFactor => ⟨"device.thermal.factor", .uq 16, "", .d, .never, .any, 1, .device⟩
  | .soWindowUs => ⟨"device.so.window_us", .u32, "µs", .hl, .any, .btw 1 100, 10, .device⟩
  | .soSeq => ⟨"device.so.seq.lo/.hi", .u32, "", .d, .never, .any, 0, .device⟩
  | .soReports => ⟨"device.so.reports", .u32, "", .d, .never, .any, 0, .device⟩
  | .soOpenPeak => ⟨"device.so.open_peak", .u32, "", .d, .never, .any, 0, .device⟩
  | .soEarlyCloses => ⟨"device.so.early_closes", .u32, "", .d, .never, .any, 0, .device⟩
  | .soIngestDropped => ⟨"device.so.ingest_dropped", .u32, "", .d, .never, .any, 0, .device⟩
  | .soRingLost => ⟨"device.so.ring_lost[j]", .u32, "", .d, .never, .any, 0, .device⟩
  | .pmSeq => ⟨"device.so.pm[i].seq.lo/.hi", .u32, "", .d, .never, .any, 0, .device⟩
  | .pmCode => ⟨"device.so.pm[i].code", .u32, "", .d, .never, .any, 0, .device⟩
  | .pmCount => ⟨"device.so.pm[i].count", .u32, "", .d, .never, .any, 0, .device⟩
  | .pmBitmap => ⟨"device.so.pm[i].bitmap[j]", .u32, "", .d, .never, .any, 0, .device⟩
  | .hwHwInsert => ⟨"device.hw.insert", .u32, "", .d, .never, .any, 0, .device⟩
  | .hwDoOverload => ⟨"device.do.overload", .u32, "", .d, .never, .any, 0, .device⟩
  | .hwFwSecurityFloor => ⟨"device.fw.security_floor", .u32, "", .d, .never, .any, 0, .device⟩
  | .hwFwKeySlots => ⟨"device.fw.key_slots", .u32, "", .d, .never, .any, 0, .device⟩
  | .hwPdRequireSigned => ⟨"device.pd_require_signed", .u32, "", .d, .never, .any, 0, .device⟩
  | .hwDi => ⟨"device.di", .u32, "", .d, .never, .any, 0, .device⟩
  | .hwSto => ⟨"device.sto", .u32, "", .d, .never, .any, 0, .device⟩
  | .hwDoState => ⟨"device.do_state", .u32, "", .d, .never, .any, 0, .device⟩
  | .hwSyncTerm => ⟨"device.sync_term", .u32, "", .c, .configure, .btw 0 1, 0, .device⟩
  | .hwDo => ⟨"device.do[j]", .u32, "", .hl, .any, .btw 0 1, 0, .device⟩
  | .encPwrMode => ⟨"device.enc_pwr[i].mode", .u32, "", .hl, .any, .btw 0 2, 0, .device⟩
  | .encPwrState => ⟨"device.enc_pwr[i].state", .u32, "", .d, .never, .any, 0, .device⟩
  | .ainMode => ⟨"device.ain[i].mode", .u32, "", .c, .configure, .btw 0 1, 0, .device⟩
  | .ainValue => ⟨"device.ain[i].value", .f32, "V or mA", .d, .never, .any, 0, .device⟩
  | .sdmOsr => ⟨"device.sdm[i].osr", .u32, "", .c, .configure, .btw 16 256, 64, .device⟩
  | .sdmValue => ⟨"device.sdm[i].value", .q 31, "full scale", .d, .never, .any, 0, .device⟩
  | .rndState => ⟨"round[i].state", .u32, "", .d, .never, .any, 0, .round⟩
  | .rndEnds => ⟨"round[i].ends", .u32, "", .d, .never, .any, 0, .round⟩
  | .rndTurn => ⟨"round[i].turn", .u32, "", .d, .never, .any, 256, .round⟩
  | .rndDelayNs => ⟨"round[i].delay_ns", .u32, "1 ns", .d, .never, .any, 0, .round⟩
  | .rndDelayANs => ⟨"round[i].delay_a_ns", .u32, "1 ns", .d, .never, .any, 0, .round⟩
  | .rndDelayBNs => ⟨"round[i].delay_b_ns", .u32, "1 ns", .d, .never, .any, 0, .round⟩
  | .rndCloseANs => ⟨"round[i].close_a_ns", .u32, "1 ns", .d, .never, .any, 4294967295, .round⟩
  | .rndCloseBNs => ⟨"round[i].close_b_ns", .u32, "1 ns", .d, .never, .any, 4294967295, .round⟩
  | .rndLate => ⟨"round[i].late", .u32, "", .d, .never, .any, 0, .round⟩
  | .rndCellsPresent => ⟨"round[i].cells_present", .u32, "", .d, .never, .any, 0, .round⟩
  | .rndCellsActive => ⟨"round[i].cells_active", .u32, "", .d, .never, .any, 0, .round⟩
  | .rndSlotCrc => ⟨"round[i].slot_crc", .u32, "", .d, .never, .any, 0, .round⟩
  | .rndSlotMissing => ⟨"round[i].slot_missing", .u32, "", .d, .never, .any, 0, .round⟩
  | .rndBreaks => ⟨"round[i].breaks", .u32, "", .d, .never, .any, 0, .round⟩
  | .rndSlowTimeouts => ⟨"round[i].slow_timeouts", .u32, "", .d, .never, .any, 0, .round⟩
  | .rndSoDropped => ⟨"round[i].so_dropped", .u32, "", .d, .never, .any, 0, .round⟩
  | .rndFirstPosition => ⟨"round[i].first_position", .u32, "", .c, .configure, .btw 0 255, 0, .round⟩
  | .rndCoastLimit => ⟨"round[i].coast_limit", .u32, "epochs", .c, .configure, .btw 1 8, 4, .round⟩
  | .rndLostEpochs => ⟨"round[i].lost_epochs", .u32, "epochs", .c, .configure, .btw 4 1000, 16, .round⟩
  | .rndChargeTimeoutMs => ⟨"round[i].charge_timeout_ms", .u32, "1 ms", .c, .configure, .btw 1000 600000, 60000, .round⟩
  | .rndRestoreEpochs => ⟨"round[i].restore_epochs", .u32, "epochs", .c, .configure, .btw 1000 100000, 4000, .round⟩
  | .laneDrive => ⟨"lane[i].drive[j]", .u32, "", .d, .never, .any, 255, .lane⟩
  | .laneInService => ⟨"lane[i].in_service", .u32, "", .d, .never, .any, 0, .lane⟩
  | .laneCyclesLimit => ⟨"lane[i].cycles_limit", .u32, "cycles", .d, .never, .any, 0, .lane⟩
  | .laneCyclesUsed => ⟨"lane[i].cycles_used", .u32, "cycles", .d, .never, .any, 0, .lane⟩
  | .laneSkipEpochs => ⟨"lane[i].skip_epochs", .u32, "epochs", .d, .never, .any, 0, .lane⟩
  | .laneSkipRunMax => ⟨"lane[i].skip_run_max", .u32, "epochs", .d, .never, .any, 0, .lane⟩
  | .laneHash => ⟨"lane[i].hash.lo/.hi", .u32, "", .d, .never, .any, 0, .lane⟩
  | .pos => ⟨"round[i].pos[j]", .u32, "", .d, .never, .any, 0, .pos⟩
  | .slot => ⟨"round[i].slot[j]", .u32, "", .d, .never, .any, 0, .slot⟩
  | .glCyclesUsed => ⟨"grouplane.gl_cycles_used", .u32, "cycles", .d, .never, .any, 0, .groupLane⟩
  | .glHash => ⟨"grouplane.gl_hash.lo/.hi", .u32, "", .d, .never, .any, 0, .groupLane⟩
  | .cell => ⟨"cell[i].cell[j]", .u32, "", .d, .never, .any, 0, .cell⟩
  | .logicPt => ⟨"logic.logic_pt", .u32, "", .hl, .any, .any, 0, .logic⟩
  | .drvType => ⟨"drive[i].type", .u32, "", .c, .configure, .btw 0 3, 0, .drive⟩
  | .drvPolePairs => ⟨"drive[i].pole_pairs", .u32, "", .c, .configure, .btw 1 64, 1, .drive⟩
  | .drvRatedPowerW => ⟨"drive[i].rated_power_w", .f32, "W", .c, .configure, .any, 0, .drive⟩
  | .drvRatedTorqueNm => ⟨"drive[i].rated_torque_nm", .f32, "N·m", .c, .configure, .any, 0, .drive⟩
  | .drvRatedSpeedRpm => ⟨"drive[i].rated_speed_rpm", .f32, "r/min", .c, .configure, .any, 0, .drive⟩
  | .drvRatedCurrentA => ⟨"drive[i].rated_current_a", .f32, "A", .c, .configure, .any, 0, .drive⟩
  | .drvRatedVoltageV => ⟨"drive[i].rated_voltage_v", .f32, "V", .c, .configure, .any, 0, .drive⟩
  | .drvRatedFluxVs => ⟨"drive[i].rated_flux_vs", .f32, "V·s", .c, .configure, .any, 0, .drive⟩
  | .drvRsOhm => ⟨"drive[i].rs_ohm", .f32, "Ω", .hl, .stopped, .any, 0, .drive⟩
  | .drvSigmaLsH => ⟨"drive[i].sigma_ls_h", .f32, "H", .hl, .stopped, .any, 0, .drive⟩
  | .drvLmH => ⟨"drive[i].lm_h", .f32, "H", .hl, .stopped, .any, 0, .drive⟩
  | .drvLrH => ⟨"drive[i].lr_h", .f32, "H", .hl, .stopped, .any, 0, .drive⟩
  | .drvTrS => ⟨"drive[i].tr_s", .f32, "s", .hl, .stopped, .any, 0, .drive⟩
  | .drvLdH => ⟨"drive[i].ld_h", .f32, "H", .hl, .stopped, .any, 0, .drive⟩
  | .drvLqH => ⟨"drive[i].lq_h", .f32, "H", .hl, .stopped, .any, 0, .drive⟩
  | .drvPsiVs => ⟨"drive[i].psi_vs", .f32, "V·s", .hl, .stopped, .any, 0, .drive⟩
  | .drvMSetH => ⟨"drive[i].m_set_h", .f32, "H", .hl, .stopped, .any, 0, .drive⟩
  | .drvMtpa => ⟨"drive[i].mtpa[j]", .q 16, "% rated", .hl, .stopped, .any, 0, .drive⟩
  | .drvCtrlMode => ⟨"drive[i].ctrl_mode", .u32, "", .hl, .any, .btw 0 3, 0, .drive⟩
  | .drvTorqueRef => ⟨"drive[i].torque_ref", .q 16, "% rated", .hl, .any, .any, 0, .drive⟩
  | .drvSpeedRef => ⟨"drive[i].speed_ref", .q 16, "% rated", .hl, .any, .any, 0, .drive⟩
  | .drvAccelMax => ⟨"drive[i].accel_max", .q 16, "% rated/s", .hl, .any, .any, 10, .drive⟩
  | .drvTorqueRefEff => ⟨"drive[i].torque_ref_eff", .q 16, "% rated", .d, .never, .any, 0, .drive⟩
  | .drvSpeedRefEff => ⟨"drive[i].speed_ref_eff", .q 16, "% rated", .d, .never, .any, 0, .drive⟩
  | .drvCcMode => ⟨"drive[i].cc_mode", .u32, "", .hl, .stopped, .btw 0 1, 0, .drive⟩
  | .drvCcGain => ⟨"drive[i].cc_gain", .uq 16, "", .hl, .any, .btw (1 / 10) 1, (3 / 5), .drive⟩
  | .drvCcDelayMin => ⟨"drive[i].cc_delay_min", .u32, "epochs", .c, .configure, .btw 1 2, 1, .drive⟩
  | .drvPiKpVPerA => ⟨"drive[i].pi_kp_v_per_a", .f32, "V/A", .hl, .stopped, .any, 0, .drive⟩
  | .drvPiTiUs => ⟨"drive[i].pi_ti_us", .f32, "µs", .hl, .stopped, .any, 0, .drive⟩
  | .drvILimit => ⟨"drive[i].i_limit", .q 16, "% rated", .hl, .any, .btw 10 300, 150, .drive⟩
  | .drvITrip => ⟨"drive[i].i_trip", .q 16, "% rated", .hl, .any, .btw 50 350, 180, .drive⟩
  | .drvICont => ⟨"drive[i].i_cont", .q 16, "% rated", .hl, .any, .btw 10 150, 100, .drive⟩
  | .drvI2tTauS => ⟨"drive[i].i2t_tau_s", .f32, "s", .c, .configure, .btw 1 3600, 300, .drive⟩
  | .drvIConsensus => ⟨"drive[i].i_consensus", .q 16, "% full scale", .c, .configure, .btw 1 50, 5, .drive⟩
  | .drvFluxRef => ⟨"drive[i].flux_ref", .q 16, "% rated", .hl, .any, .btw 20 120, 100, .drive⟩
  | .drvFluxMin => ⟨"drive[i].flux_min", .q 16, "% rated", .hl, .any, .btw 5 100, 20, .drive⟩
  | .drvFluxBwHz => ⟨"drive[i].flux_bw_hz", .f32, "Hz", .hl, .stopped, .btw 1 100, 20, .drive⟩
  | .drvBlendSpeed => ⟨"drive[i].blend_speed", .q 16, "% rated", .hl, .stopped, .btw 1 20, 5, .drive⟩
  | .drvFwMargin => ⟨"drive[i].fw_margin", .q 16, "%", .hl, .any, .btw 2 20, 8, .drive⟩
  | .drvFwGain => ⟨"drive[i].fw_gain", .f32, "per epoch", .hl, .any, .btw (1 / 100) 10, (1 / 2), .drive⟩
  | .drvSpeedMax => ⟨"drive[i].speed_max", .f32, "% rated", .c, .configure, .any, 0, .drive⟩
  | .drvVNeedV => ⟨"drive[i].v_need_v", .f32, "V", .c, .configure, .any, 0, .drive⟩
  | .drvSpdBwHz => ⟨"drive[i].spd_bw_hz", .f32, "Hz", .hl, .any, .btw (1 / 2) 200, (1 / 2), .drive⟩
  | .drvSpdRatio => ⟨"drive[i].spd_ratio", .f32, "", .hl, .any, .btw 2 20, 4, .drive⟩
  | .drvPosKp => ⟨"drive[i].pos_kp", .f32, "1/s", .hl, .any, .any, 0, .drive⟩
  | .drvSpdFf => ⟨"drive[i].spd_ff", .u32, "", .hl, .any, .any, 0, .drive⟩
  | .drvSpdDiv => ⟨"drive[i].spd_div", .u32, "epochs", .hl, .stopped, .btw 1 8, 1, .drive⟩
  | .drvJKgm2 => ⟨"drive[i].j_kgm2", .f32, "kg·m²", .hl, .stopped, .any, 0, .drive⟩
  | .drvJMin => ⟨"drive[i].j_min", .f32, "kg·m²", .hl, .stopped, .any, 0, .drive⟩
  | .drvJMax => ⟨"drive[i].j_max", .f32, "kg·m²", .hl, .stopped, .any, 0, .drive⟩
  | .drvJAdapt => ⟨"drive[i].j_adapt", .u32, "", .hl, .any, .btw 0 1, 0, .drive⟩
  | .drvJRate => ⟨"drive[i].j_rate", .f32, "", .hl, .any, .btw (1 / 10000) (1 / 10), (1 / 200), .drive⟩
  | .drvJAlphaMin => ⟨"drive[i].j_alpha_min", .f32, "rad/s²", .hl, .any, .any, 0, .drive⟩
  | .drvLtoBwHz => ⟨"drive[i].lto_bw_hz", .f32, "Hz", .hl, .stopped, .btw 5 500, 50, .drive⟩
  | .drvSlPllHz => ⟨"drive[i].sl_pll_hz", .f32, "Hz", .hl, .stopped, .btw 10 500, 100, .drive⟩
  | .drvSlMinSpeed => ⟨"drive[i].sl_min_speed", .q 16, "% rated", .hl, .stopped, .btw 1 10, 3, .drive⟩
  | .drvSlLowCurrent => ⟨"drive[i].sl_low_current", .q 16, "% rated", .hl, .stopped, .any, 0, .drive⟩
  | .drvHfi => ⟨"drive[i].hfi", .u32, "", .hl, .stopped, .btw 0 1, 0, .drive⟩
  | .drvHfiV => ⟨"drive[i].hfi_v", .f32, "V", .hl, .stopped, .any, 0, .drive⟩
  | .drvFbUse => ⟨"drive[i].fb_use", .u32, "", .hl, .any, .btw 0 1, 1, .drive⟩
  | .drvFbInUse => ⟨"drive[i].fb_in_use", .u32, "", .d, .never, .any, 0, .drive⟩
  | .drvFbPlaus => ⟨"drive[i].fb_plaus", .q 16, "% rated", .hl, .any, .any, 10, .drive⟩
  | .drvFbPlausEpochs => ⟨"drive[i].fb_plaus_epochs", .u32, "epochs", .hl, .any, .btw 1 64, 8, .drive⟩
  | .drvFbRejoinDeg => ⟨"drive[i].fb_rejoin_deg", .f32, "°", .hl, .any, .any, 5, .drive⟩
  | .drvSpeedTrip => ⟨"drive[i].speed_trip", .q 16, "% rated", .hl, .any, .btw 100 200, 120, .drive⟩
  | .drvVdcRef => ⟨"drive[i].vdc_ref", .f32, "V", .hl, .any, .any, 0, .drive⟩
  | .drvIqLineRef => ⟨"drive[i].iq_line_ref", .q 16, "% rated", .hl, .any, .any, 0, .drive⟩
  | .drvVdcBwHz => ⟨"drive[i].vdc_bw_hz", .f32, "Hz", .hl, .any, .btw 1 200, 1, .drive⟩
  | .drvPllHz => ⟨"drive[i].pll_hz", .f32, "Hz", .hl, .any, .any, 0, .drive⟩
  | .drvLineRideMs => ⟨"drive[i].line_ride_ms", .u32, "ms", .hl, .any, .btw 0 2000, 100, .drive⟩
  | .drvIdentCmd => ⟨"drive[i].ident_cmd", .u32, "", .hl, .stopped, .btw 1 2, 0, .drive⟩
  | .drvIdentMotion => ⟨"drive[i].ident_motion", .u32, "", .hl, .stopped, .btw 0 1, 0, .drive⟩
  | .drvIdState => ⟨"drive[i].id.state", .u32, "", .d, .never, .any, 0, .drive⟩
  | .drvIdStep => ⟨"drive[i].id.step", .u32, "", .d, .never, .any, 0, .drive⟩
  | .drvIdRsOhm => ⟨"drive[i].id.rs_ohm", .f32, "Ω", .d, .never, .any, 0, .drive⟩
  | .drvIdSigmaLsH => ⟨"drive[i].id.sigma_ls_h", .f32, "H", .d, .never, .any, 0, .drive⟩
  | .drvIdLmH => ⟨"drive[i].id.lm_h", .f32, "H", .d, .never, .any, 0, .drive⟩
  | .drvIdTrS => ⟨"drive[i].id.tr_s", .f32, "s", .d, .never, .any, 0, .drive⟩
  | .drvIdLdH => ⟨"drive[i].id.ld_h", .f32, "H", .d, .never, .any, 0, .drive⟩
  | .drvIdLqH => ⟨"drive[i].id.lq_h", .f32, "H", .d, .never, .any, 0, .drive⟩
  | .drvIdPsiVs => ⟨"drive[i].id.psi_vs", .f32, "V·s", .d, .never, .any, 0, .drive⟩
  | .drvIdAngle => ⟨"drive[i].id.angle", .u32, "2^−32 turn", .d, .never, .any, 0, .drive⟩
  | .drvStatus => ⟨"drive[i].status", .u32, "", .d, .never, .any, 0, .drive⟩
  | .drvSkipConsecutive => ⟨"drive[i].skip_consecutive", .u32, "", .d, .never, .any, 0, .drive⟩
  | .drvSkipTotal => ⟨"drive[i].skip_total", .u32, "", .d, .never, .any, 0, .drive⟩
  | .drvCompEpochs => ⟨"drive[i].comp_epochs", .u32, "epochs", .d, .never, .any, 0, .drive⟩
  | .drvSpeedEst => ⟨"drive[i].speed_est", .q 16, "% rated", .d, .never, .any, 0, .drive⟩
  | .drvSpeedSl => ⟨"drive[i].speed_sl", .q 16, "% rated", .d, .never, .any, 0, .drive⟩
  | .drvAngleEst => ⟨"drive[i].angle_est", .u32, "2^−32 electrical turn", .d, .never, .any, 0, .drive⟩
  | .drvAngleSl => ⟨"drive[i].angle_sl", .u32, "2^−32 electrical turn", .d, .never, .any, 0, .drive⟩
  | .drvSwitchAngleErr => ⟨"drive[i].switch_angle_err", .s32, "2^−32 electrical turn", .d, .never, .any, 0, .drive⟩
  | .drvTorqueEst => ⟨"drive[i].torque_est", .q 16, "% rated", .d, .never, .any, 0, .drive⟩
  | .drvLoadTorqueEst => ⟨"drive[i].load_torque_est", .q 16, "% rated", .d, .never, .any, 0, .drive⟩
  | .drvLoadTorqueSlope => ⟨"drive[i].load_torque_slope", .q 16, "% rated/ms", .d, .never, .any, 0, .drive⟩
  | .drvFluxEst => ⟨"drive[i].flux_est", .q 16, "% rated", .d, .never, .any, 0, .drive⟩
  | .drvJEst => ⟨"drive[i].j_est", .f32, "kg·m²", .d, .never, .any, 0, .drive⟩
  | .drvI2t => ⟨"drive[i].i2t", .f32, "(% rated)²", .d, .never, .any, 0, .drive⟩
  | .drvCapVmaxV => ⟨"drive[i].cap_vmax_v", .f32, "V", .d, .never, .any, 0, .drive⟩
  | .drvCapSpeed => ⟨"drive[i].cap_speed", .q 16, "% rated", .d, .never, .any, 0, .drive⟩
  | .drvCapTorque => ⟨"drive[i].cap_torque", .q 16, "% rated", .d, .never, .any, 0, .drive⟩
  | .drvLaneCost => ⟨"drive[i].lane_cost", .u32, "cycles", .d, .never, .any, 0, .drive⟩
  | .setEnable => ⟨"drive[i].set[k].enable", .u32, "", .hl, .any, .btw 0 1, 1, .set⟩
  | .setShare => ⟨"drive[i].set[k].share", .uq 16, "", .hl, .stopped, .btw (1 / 16) 16, 1, .set⟩
  | .setISource => ⟨"drive[i].set[k].i_source", .u32, "", .c, .configure, .btw 0 1, 0, .set⟩
  | .setId => ⟨"drive[i].set[k].id", .q 16, "% rated", .d, .never, .any, 0, .set⟩
  | .setIq => ⟨"drive[i].set[k].iq", .q 16, "% rated", .d, .never, .any, 0, .set⟩
  | .setIdRef => ⟨"drive[i].set[k].id_ref", .q 16, "% rated", .d, .never, .any, 0, .set⟩
  | .setIqRef => ⟨"drive[i].set[k].iq_ref", .q 16, "% rated", .d, .never, .any, 0, .set⟩
  | .setVd => ⟨"drive[i].set[k].vd", .f32, "V", .d, .never, .any, 0, .set⟩
  | .setVq => ⟨"drive[i].set[k].vq", .f32, "V", .d, .never, .any, 0, .set⟩
  | .setVmax => ⟨"drive[i].set[k].vmax", .f32, "V", .d, .never, .any, 0, .set⟩
  | .drvTopology => ⟨"drive[i].topology", .u32, "", .c, .configure, .btw 0 2, 0, .drive⟩
  | .drvModMode => ⟨"drive[i].mod_mode", .u32, "", .c, .configure, .btw 1 2, 1, .drive⟩
  | .drvInterleave => ⟨"drive[i].interleave", .u32, "", .c, .configure, .btw 0 1, 0, .drive⟩
  | .drvNlmBand => ⟨"drive[i].nlm_band", .q 16, "% rated cell voltage", .hl, .any, .btw 0 5, (1 / 2), .drive⟩
  | .drvNlmIDead => ⟨"drive[i].nlm_i_dead", .q 16, "% full scale", .hl, .any, .btw 0 10, 2, .drive⟩
  | .drvTrimGain => ⟨"drive[i].trim_gain", .f32, "", .hl, .any, .btw 0 10, (1 / 2), .drive⟩
  | .drvTrimMax => ⟨"drive[i].trim_max", .q 16, "%", .hl, .any, .btw 0 20, 5, .drive⟩
  | .drvShareGain => ⟨"drive[i].share_gain", .f32, "", .hl, .any, .btw 0 10, (1 / 5), .drive⟩
  | .drvBalMode => ⟨"drive[i].bal_mode", .u32, "", .c, .configure, .btw 0 1, 0, .drive⟩
  | .drvBalKTotal => ⟨"drive[i].bal_k_total", .f32, "A/pu", .hl, .stopped, .btw 0 10000, 300, .drive⟩
  | .drvBalKHoriz => ⟨"drive[i].bal_k_horiz", .f32, "A/pu", .hl, .stopped, .btw 0 10000, 300, .drive⟩
  | .drvBalKVert => ⟨"drive[i].bal_k_vert", .f32, "A/pu", .hl, .stopped, .btw 0 10000, 400, .drive⟩
  | .drvBalTiMs => ⟨"drive[i].bal_ti_ms", .f32, "ms", .hl, .stopped, .btw 1 10000, 200, .drive⟩
  | .drvBalCmV => ⟨"drive[i].bal_cm_v", .f32, "V", .hl, .stopped, .any, 0, .drive⟩
  | .drvBalCmHz => ⟨"drive[i].bal_cm_hz", .f32, "Hz", .hl, .stopped, .any, 50, .drive⟩
  | .drvArmLH => ⟨"drive[i].arm_l_h", .f32, "H", .hl, .stopped, .any, 0, .drive⟩
  | .drvArmROhm => ⟨"drive[i].arm_r_ohm", .f32, "Ω", .hl, .stopped, .any, 0, .drive⟩
  | .drvCircGain => ⟨"drive[i].circ_gain", .uq 16, "", .hl, .any, .btw (1 / 10) 1, (3 / 5), .drive⟩
  | .drvCircLimit => ⟨"drive[i].circ_limit", .q 16, "% rated", .hl, .any, .btw 5 100, 30, .drive⟩
  | .drvVcapRefPct => ⟨"drive[i].vcap_ref_pct", .q 16, "% rated", .hl, .any, .btw 80 112, 100, .drive⟩
  | .drvBalDevWarn => ⟨"drive[i].bal_dev_warn", .q 16, "pu", .hl, .any, .btw (1 / 50) (1 / 2), (1 / 10), .drive⟩
  | .drvBalDevTrip => ⟨"drive[i].bal_dev_trip", .q 16, "pu", .hl, .any, .btw (1 / 20) (4 / 5), (1 / 5), .drive⟩
  | .drvSpreadMax => ⟨"drive[i].spread_max", .q 16, "% rated", .hl, .any, .btw 1 50, 10, .drive⟩
  | .drvLimpFloor => ⟨"drive[i].limp_floor", .q 16, "% of N", .hl, .any, .btw 50 100, 75, .drive⟩
  | .drvRejoinBand => ⟨"drive[i].rejoin_band", .q 16, "% rated", .hl, .any, .btw 1 20, 5, .drive⟩
  | .drvVcapRefEff => ⟨"drive[i].vcap_ref_eff", .q 16, "% rated", .d, .never, .any, 0, .drive⟩
  | .drvRedExceeded => ⟨"drive[i].red_exceeded", .u32, "", .d, .never, .any, 0, .drive⟩
  | .armArmId => ⟨"drive[i].arm[k].arm_id", .u32, "", .c, .configure, .btw 0 255, 0, .arm⟩
  | .armRole => ⟨"drive[i].arm[k].role", .u32, "", .c, .configure, .any, 0, .arm⟩
  | .armSet => ⟨"drive[i].arm[k].set", .u32, "", .c, .configure, .btw 0 255, 0, .arm⟩
  | .armNReq => ⟨"drive[i].arm[k].n_req", .u32, "cells", .c, .configure, .any, 0, .arm⟩
  | .armKRed => ⟨"drive[i].arm[k].k_red", .u32, "cells", .c, .configure, .any, 0, .arm⟩
  | .armCarrierCode => ⟨"drive[i].arm[k].carrier_code", .u32, "", .c, .configure, .any, 0, .arm⟩
  | .armShift => ⟨"drive[i].arm[k].shift", .u32, "1/65,536 period", .c, .configure, .any, 0, .arm⟩
  | .armRChopOhm => ⟨"drive[i].arm[k].r_chop_ohm", .f32, "Ω", .c, .configure, .any, 0, .arm⟩
  | .armCellAddr => ⟨"drive[i].arm[k].cell_addr[j]", .u32, "", .d, .never, .any, 4294967295, .arm⟩
  | .armPtrim => ⟨"drive[i].arm[k].ptrim[j]", .s32, "1/65,536 period", .hl, .any, .btw (-32768) 32767, 0, .arm⟩
  | .armInService => ⟨"drive[i].arm[k].in_service", .u32, "cells", .d, .never, .any, 0, .arm⟩
  | .armLost => ⟨"drive[i].arm[k].lost", .u32, "cells", .d, .never, .any, 0, .arm⟩
  | .armRefRaw => ⟨"drive[i].arm[k].ref_raw", .s32, "", .d, .never, .any, 0, .arm⟩
  | .armNIns => ⟨"drive[i].arm[k].n_ins", .u32, "cells", .d, .never, .any, 0, .arm⟩
  | .armVSum => ⟨"drive[i].arm[k].v_sum", .f32, "V", .d, .never, .any, 0, .arm⟩
  | .armVAvg => ⟨"drive[i].arm[k].v_avg", .f32, "V", .d, .never, .any, 0, .arm⟩
  | .armVMin => ⟨"drive[i].arm[k].v_min", .f32, "V", .d, .never, .any, 0, .arm⟩
  | .armVMax => ⟨"drive[i].arm[k].v_max", .f32, "V", .d, .never, .any, 0, .arm⟩
  | .armEnergyPu => ⟨"drive[i].arm[k].energy_pu", .q 16, "pu", .d, .never, .any, 0, .arm⟩
  | .armICircRef => ⟨"drive[i].arm[k].i_circ_ref", .q 16, "% rated", .d, .never, .any, 0, .arm⟩
  | .armICirc => ⟨"drive[i].arm[k].i_circ", .q 16, "% rated", .d, .never, .any, 0, .arm⟩
  | .armRephase => ⟨"drive[i].arm[k].rephase", .u32, "directives", .d, .never, .any, 0, .arm⟩
  | .armPChopW => ⟨"drive[i].arm[k].p_chop_w", .f32, "W", .d, .never, .any, 0, .arm⟩
  | .armSwitchHz => ⟨"drive[i].arm[k].switch_hz", .f32, "Hz", .d, .never, .any, 0, .arm⟩
  | .drvRegime => ⟨"drive[i].regime", .u32, "", .d, .never, .any, 0, .drive⟩
  | .drvLimpCause => ⟨"drive[i].limp_cause", .u32, "", .d, .never, .any, 0, .drive⟩
  | .drvHalting => ⟨"drive[i].halting", .u32, "", .d, .never, .any, 0, .drive⟩
  | .drvFaultCause => ⟨"drive[i].fault_cause", .u32, "", .d, .never, .any, 0, .drive⟩
  | .drvRunCmd => ⟨"drive[i].run_cmd", .u32, "", .hl, .any, .btw 0 1, 0, .drive⟩
  | .drvBlockCmd => ⟨"drive[i].block_cmd", .u32, "", .hl, .any, .btw 0 1, 0, .drive⟩
  | .drvFaultReset => ⟨"drive[i].fault_reset", .u32, "", .hl, .any, .btw 0 1, 0, .drive⟩
  | .drvHaltDecel => ⟨"drive[i].halt_decel", .q 16, "% rated/s", .hl, .any, .btw 1 1000, 20, .drive⟩
  | .drvStopSpeed => ⟨"drive[i].stop_speed", .q 16, "% rated", .hl, .any, .btw (1 / 10) 10, 1, .drive⟩
  | .drvStopMs => ⟨"drive[i].stop_ms", .u32, "ms", .hl, .any, .btw 1 10000, 200, .drive⟩
  | .drvLimpTorque => ⟨"drive[i].limp_torque", .q 16, "% rated", .hl, .any, .btw 10 100, 50, .drive⟩
  | .drvLimpSpeed => ⟨"drive[i].limp_speed", .q 16, "% rated", .hl, .any, .btw 10 100, 50, .drive⟩
  | .drvLimpSkipClear => ⟨"drive[i].limp_skip_clear", .u32, "epochs", .c, .configure, .btw 100 100000, 4000, .drive⟩
  | .drvHaulSign => ⟨"drive[i].haul_sign", .s32, "", .c, .configure, .btw (-1) 1, 0, .drive⟩
  | .drvShockResp => ⟨"drive[i].shock_resp", .u32, "", .hl, .stopped, .btw 0 3, 0, .drive⟩
  | .drvShockSlope => ⟨"drive[i].shock_slope", .q 16, "% rated/ms", .hl, .any, .btw (1 / 2) 100, 5, .drive⟩
  | .drvShockLevel => ⟨"drive[i].shock_level", .q 16, "% rated", .hl, .any, .btw 50 300, 130, .drive⟩
  | .drvShockClearLevel => ⟨"drive[i].shock_clear_level", .q 16, "% rated", .hl, .any, .btw 10 300, 100, .drive⟩
  | .drvShockConfirm => ⟨"drive[i].shock_confirm", .u32, "epochs", .hl, .any, .btw 1 2, 2, .drive⟩
  | .drvShockClearMs => ⟨"drive[i].shock_clear_ms", .u32, "ms", .hl, .any, .btw 1 10000, 200, .drive⟩
  | .drvAbsorbSlew => ⟨"drive[i].absorb_slew", .q 16, "% rated/ms", .hl, .any, .btw (1 / 10) 100, 2, .drive⟩
  | .drvAbsorbDip => ⟨"drive[i].absorb_dip", .q 16, "% rated", .hl, .any, .btw 0 30, 5, .drive⟩
  | .drvHoldGain => ⟨"drive[i].hold_gain", .uq 16, "", .hl, .any, .btw 1 8, 2, .drive⟩
  | .drvHoldILimit => ⟨"drive[i].hold_i_limit", .q 16, "% rated", .hl, .any, .btw 10 340, 150, .drive⟩
  | .drvHoldMs => ⟨"drive[i].hold_ms", .u32, "ms", .hl, .any, .btw 1 5000, 500, .drive⟩
  | .drvRenderTension => ⟨"drive[i].render_tension", .q 16, "% rated", .hl, .any, .btw 10 200, 110, .drive⟩
  | .drvRenderSpeedMax => ⟨"drive[i].render_speed_max", .q 16, "% rated", .hl, .any, .btw 1 100, 30, .drive⟩
  | .drvRenderCmd => ⟨"drive[i].render_cmd", .u32, "", .hl, .any, .btw 0 1, 0, .drive⟩
  | .drvShockCount => ⟨"drive[i].shock_count", .u32, "", .d, .never, .any, 0, .drive⟩
  | .drvCrashEnable => ⟨"drive[i].crash_enable", .u32, "", .c, .configure, .btw 0 1, 0, .drive⟩
  | .drvCrashCmd => ⟨"drive[i].crash_cmd", .u32, "", .hl, .any, .btw 0 1, 0, .drive⟩
  | .drvCrashPhase => ⟨"drive[i].crash_phase", .u32, "", .d, .never, .any, 0, .drive⟩
  | .drvCrashSpeed => ⟨"drive[i].crash_speed", .q 16, "% rated", .hl, .any, .btw (-100) 100, 0, .drive⟩
  | .drvCrashTorque => ⟨"drive[i].crash_torque", .q 16, "% rated", .hl, .any, .btw 10 300, 100, .drive⟩
  | .drvCrashAccel => ⟨"drive[i].crash_accel", .q 16, "% rated/s", .hl, .any, .btw 1 1000, 20, .drive⟩
  | .drvCrashZeroSpeed => ⟨"drive[i].crash_zero_speed", .q 16, "% rated", .hl, .any, .btw 1 10, 3, .drive⟩
  | .drvCrashWindmillMs => ⟨"drive[i].crash_windmill_ms", .u32, "ms", .hl, .any, .btw 100 10000, 2000, .drive⟩
  | .drvReleaseEnable => ⟨"drive[i].release_enable", .u32, "", .c, .configure, .btw 0 1, 0, .drive⟩
  | .drvBrakeAux => ⟨"drive[i].brake_aux", .u32, "", .c, .configure, .btw 0 255, 255, .drive⟩
  | .drvReleaseCmd => ⟨"drive[i].release_cmd", .u32, "", .hl, .any, .btw 1 3, 0, .drive⟩
  | .drvReleaseState => ⟨"drive[i].release_state", .u32, "", .d, .never, .any, 0, .drive⟩
  | .drvBrakeLiftMs => ⟨"drive[i].brake_lift_ms", .u32, "ms", .c, .configure, .btw 10 5000, 300, .drive⟩
  | .drvReleaseRampMs => ⟨"drive[i].release_ramp_ms", .u32, "ms", .hl, .any, .btw 10 5000, 200, .drive⟩
  | .drvReleaseSpeedMax => ⟨"drive[i].release_speed_max", .q 16, "% rated", .hl, .any, .btw 1 100, 50, .drive⟩
  | .drvCellCF => ⟨"drive[i].cell_c_f", .f32, "F", .c, .configure, .any, 0, .drive⟩
  | .drvPMechW => ⟨"drive[i].p_mech_w", .f32, "W", .d, .never, .any, 0, .drive⟩
  | .drvPAllowW => ⟨"drive[i].p_allow_w", .f32, "W", .d, .never, .any, 0, .drive⟩
  | .drvRegenPlacedW => ⟨"drive[i].regen_placed_w", .f32, "W", .d, .never, .any, 0, .drive⟩
  | .shaftMembers => ⟨"shaft[i].members", .u32, "", .c, .configure, .any, 0, .shaft⟩
  | .shaftLeaderOrder => ⟨"shaft[i].leader_order[j]", .u32, "", .c, .configure, .btw 0 255, 255, .shaft⟩
  | .shaftLeader => ⟨"shaft[i].leader", .u32, "", .d, .never, .any, 0, .shaft⟩
  | .shaftRunCmd => ⟨"shaft[i].run_cmd", .u32, "", .hl, .any, .btw 0 1, 0, .shaft⟩
  | .shaftCtrlMode => ⟨"shaft[i].ctrl_mode", .u32, "", .hl, .any, .btw 0 3, 0, .shaft⟩
  | .shaftRenderCmd => ⟨"shaft[i].render_cmd", .u32, "", .hl, .any, .btw 0 1, 0, .shaft⟩
  | .shaftCrashCmd => ⟨"shaft[i].crash_cmd", .u32, "", .hl, .any, .btw 0 1, 0, .shaft⟩
  | .shaftReleaseCmd => ⟨"shaft[i].release_cmd", .u32, "", .hl, .any, .btw 1 3, 0, .shaft⟩
  | .shaftSpeedRef => ⟨"shaft[i].speed_ref", .q 16, "% rated", .hl, .any, .any, 0, .shaft⟩
  | .shaftTorqueRef => ⟨"shaft[i].torque_ref", .q 16, "% rated", .hl, .any, .any, 0, .shaft⟩
  | .shaftWeight => ⟨"shaft[i].weight[j]", .uq 16, "", .hl, .any, .btw 0 16, 1, .shaft⟩
  | .shaftRatio => ⟨"shaft[i].ratio[j]", .f32, "", .c, .configure, .any, 1, .shaft⟩
  | .shaftDampNms => ⟨"shaft[i].damp_nms", .f32, "N·m·s/rad", .hl, .any, .ge 0, 0, .shaft⟩
  | .shaftDampMax => ⟨"shaft[i].damp_max", .q 16, "% rated", .hl, .any, .btw 0 50, 10, .shaft⟩
  | .shaftSlackTorque => ⟨"shaft[i].slack_torque", .q 16, "% rated", .hl, .any, .btw 0 50, 5, .shaft⟩
  | .shaftSlackSpeed => ⟨"shaft[i].slack_speed", .q 16, "% rated", .hl, .any, .btw 0 50, 2, .shaft⟩
  | .shaftSlackMs => ⟨"shaft[i].slack_ms", .u32, "ms", .hl, .any, .btw 10 10000, 500, .shaft⟩
  | .shaftSlackResp => ⟨"shaft[i].slack_resp", .u32, "", .hl, .any, .btw 0 2, 0, .shaft⟩
  | .shaftDecoupleSpeed => ⟨"shaft[i].decouple_speed", .q 16, "% rated", .hl, .any, .btw 1 50, 10, .shaft⟩
  | .shaftDecoupleMs => ⟨"shaft[i].decouple_ms", .u32, "ms", .hl, .any, .btw 1 1000, 50, .shaft⟩
  | .shaftTorqueTotalNm => ⟨"shaft[i].torque_total_nm", .f32, "N·m", .d, .never, .any, 0, .shaft⟩
  | .shaftSpeedRadS => ⟨"shaft[i].speed_rad_s", .f32, "rad/s", .d, .never, .any, 0, .shaft⟩
  | .shaftLoadTorqueNm => ⟨"shaft[i].load_torque_nm", .f32, "N·m", .d, .never, .any, 0, .shaft⟩
  | .shaftShareShortNm => ⟨"shaft[i].share_short_nm", .f32, "N·m", .d, .never, .any, 0, .shaft⟩
  | .pwrPavailSrc => ⟨"power[i].pavail_src", .u32, "", .c, .configure, .any, 0, .power⟩
  | .pwrBoSrc => ⟨"power[i].bo_src", .u32, "", .c, .configure, .any, 0, .power⟩
  | .pwrBoBit => ⟨"power[i].bo_bit", .u32, "", .c, .configure, .btw 0 63, 0, .power⟩
  | .pwrBoLevel => ⟨"power[i].bo_level", .u32, "", .c, .configure, .btw 0 1, 0, .power⟩
  | .pwrBoThreshold => ⟨"power[i].bo_threshold", .f32, "unit of the analog input", .c, .configure, .any, 0, .power⟩
  | .pwrBoHyst => ⟨"power[i].bo_hyst", .f32, "unit of the analog input", .c, .configure, .ge 0, 0, .power⟩
  | .pwrPavailScaleW => ⟨"power[i].pavail_scale_w", .f32, "W", .c, .configure, .any, 0, .power⟩
  | .pwrPavailW => ⟨"power[i].pavail_w", .f32, "W", .d, .never, .any, 0, .power⟩
  | .pwrPMotorW => ⟨"power[i].p_motor_w", .f32, "W", .d, .never, .any, 0, .power⟩
  | .pwrPMarginW => ⟨"power[i].p_margin_w", .f32, "W", .hl, .any, .ge 0, 0, .power⟩
  | .pwrPReturnMaxW => ⟨"power[i].p_return_max_w", .f32, "W", .hl, .any, .ge 0, 0, .power⟩
  | .pwrRestoreRate => ⟨"power[i].restore_rate", .q 16, "%/s", .hl, .any, .btw 1 1000, 20, .power⟩
  | .pwrBoPrio => ⟨"power[i].bo_prio", .u32, "", .hl, .any, .btw 0 7, 3, .power⟩
  | .pwrBoHoldMs => ⟨"power[i].bo_hold_ms", .u32, "ms", .hl, .any, .btw 0 60000, 1000, .power⟩
  | .pwrBoActive => ⟨"power[i].bo_active", .u32, "", .d, .never, .any, 0, .power⟩
  | .pwrShedLevel => ⟨"power[i].shed_level", .u32, "", .d, .never, .any, 0, .power⟩
  | .pwrResMaxPct => ⟨"power[i].res_max_pct", .q 16, "% rated", .hl, .any, .btw 0 12, 12, .power⟩
  | .pwrResReturnW => ⟨"power[i].res_return_w", .f32, "W", .hl, .any, .ge 0, 50000, .power⟩
  | .pwrResStoredJ => ⟨"power[i].res_stored_j", .f32, "J", .d, .never, .any, 0, .power⟩
  | .pwrResHeadroomJ => ⟨"power[i].res_headroom_j", .f32, "J", .d, .never, .any, 0, .power⟩
  | .pwrResOffset => ⟨"power[i].res_offset", .q 16, "% rated", .d, .never, .any, 0, .power⟩
  | .pwrChopCapW => ⟨"power[i].chop_cap_w", .f32, "W", .d, .never, .any, 0, .power⟩
  | .pwrSurplusW => ⟨"power[i].surplus_w", .f32, "W", .d, .never, .any, 0, .power⟩
  | .pwrRouteW => ⟨"power[i].route_w[j]", .f32, "W", .d, .never, .any, 0, .power⟩
  | .fbKind => ⟨"fb[i].kind", .u32, "", .c, .configure, .btw 0 4, 0, .fb⟩
  | .fbInvert => ⟨"fb[i].invert", .u32, "", .c, .configure, .btw 0 1, 0, .fb⟩
  | .fbLines => ⟨"fb[i].lines", .u32, "", .c, .configure, .btw 1 1048576, 1, .fb⟩
  | .fbFilterNs => ⟨"fb[i].filter_ns", .u32, "ns", .c, .configure, .btw 0 40, 10, .fb⟩
  | .fbZGate => ⟨"fb[i].z_gate", .u32, "", .c, .configure, .btw 0 1, 0, .fb⟩
  | .fbIndexTol => ⟨"fb[i].index_tol", .u32, "counts", .c, .configure, .btw 0 1024, 2, .fb⟩
  | .fbSpeedMode => ⟨"fb[i].speed_mode", .u32, "", .c, .configure, .btw 0 1, 1, .fb⟩
  | .fbWindowEpochs => ⟨"fb[i].window_epochs", .u32, "epochs", .c, .configure, .btw 1 64, 4, .fb⟩
  | .fbStandstillMs => ⟨"fb[i].standstill_ms", .u32, "ms", .c, .configure, .btw 1 1000, 100, .fb⟩
  | .fbSsiBits => ⟨"fb[i].ssi_bits", .u32, "", .c, .configure, .btw 8 40, 8, .fb⟩
  | .fbSsiClkKhz => ⟨"fb[i].ssi_clk_khz", .u32, "kHz", .c, .configure, .btw 100 4000, 100, .fb⟩
  | .fbSsiDelayNs => ⟨"fb[i].ssi_delay_ns", .u32, "ns", .c, .configure, .btw 0 2000, 0, .fb⟩
  | .fbSsiPosMsb => ⟨"fb[i].ssi_pos_msb", .u32, "", .c, .configure, .btw 0 39, 0, .fb⟩
  | .fbSsiPosLsb => ⟨"fb[i].ssi_pos_lsb", .u32, "", .c, .configure, .btw 0 39, 0, .fb⟩
  | .fbSsiGray => ⟨"fb[i].ssi_gray", .u32, "", .c, .configure, .btw 0 1, 0, .fb⟩
  | .fbSsiParity => ⟨"fb[i].ssi_parity", .u32, "", .c, .configure, .btw 0 1, 0, .fb⟩
  | .fbSsiErrBit => ⟨"fb[i].ssi_err_bit", .u32, "", .c, .configure, .btw 0 255, 255, .fb⟩
  | .fbSsiJump => ⟨"fb[i].ssi_jump", .u32, "counts", .c, .configure, .btw 0 2147483647, 0, .fb⟩
  | .fbScOffsetSinMv => ⟨"fb[i].sc_offset_sin_mv", .f32, "mV", .hl, .any, .any, 0, .fb⟩
  | .fbScOffsetCosMv => ⟨"fb[i].sc_offset_cos_mv", .f32, "mV", .hl, .any, .any, 0, .fb⟩
  | .fbScGainRatio => ⟨"fb[i].sc_gain_ratio", .f32, "", .hl, .any, .any, 0, .fb⟩
  | .fbTerm => ⟨"fb[i].term", .u32, "", .c, .configure, .btw 0 2, 0, .fb⟩
  | .fbState => ⟨"fb[i].state", .u32, "", .d, .never, .any, 0, .fb⟩
  | .fbFaultCause => ⟨"fb[i].fault_cause", .u32, "", .d, .never, .any, 0, .fb⟩
  | .fbStatus => ⟨"fb[i].status", .u32, "", .d, .never, .any, 0, .fb⟩
  | .fbPos => ⟨"fb[i].pos.lo/.hi", .s32, "counts", .d, .never, .any, 0, .fb⟩
  | .fbEdgeTime => ⟨"fb[i].edge_time.lo/.hi", .u32, "1 ns", .d, .never, .any, 0, .fb⟩
  | .fbSpeedCps => ⟨"fb[i].speed_cps", .f32, "counts/s", .d, .never, .any, 0, .fb⟩
  | .fbIndexPos => ⟨"fb[i].index_pos.lo/.hi", .s32, "counts", .d, .never, .any, 0, .fb⟩
  | .fbIndexCount => ⟨"fb[i].index_count", .u32, "counts", .d, .never, .any, 0, .fb⟩
  | .fbIndexMisses => ⟨"fb[i].index_misses", .u32, "counts", .d, .never, .any, 0, .fb⟩
  | .fbErrors => ⟨"fb[i].errors", .u32, "", .d, .never, .any, 0, .fb⟩
  | .fbScAmplitudeMv => ⟨"fb[i].sc_amplitude_mv", .f32, "mV", .d, .never, .any, 0, .fb⟩
  | .fbPairOffset => ⟨"fb[i].pair_offset", .s32, "counts", .d, .never, .any, 0, .fb⟩
  | .fbClearCmd => ⟨"fb[i].clear_cmd", .u32, "", .hl, .any, .btw 0 1, 0, .fb⟩
  | .cmpEnable => ⟨"cmp[i].enable", .u32, "", .hl, .any, .btw 0 1, 0, .cmp⟩
  | .cmpSrc => ⟨"cmp[i].src", .u32, "", .hl, .any, .btw 0 15, 0, .cmp⟩
  | .cmpDir => ⟨"cmp[i].dir", .u32, "", .hl, .any, .btw 1 3, 1, .cmp⟩
  | .cmpPolicy => ⟨"cmp[i].policy", .u32, "", .hl, .any, .btw 0 1, 0, .cmp⟩
  | .cmpValue => ⟨"cmp[i].value.lo/.hi", .s32, "counts", .hl, .any, .any, 0, .cmp⟩
  | .cmpStep => ⟨"cmp[i].step", .s32, "counts", .hl, .any, .any, 0, .cmp⟩
  | .cmpDoPin => ⟨"cmp[i].do_pin", .u32, "", .hl, .any, .btw 0 255, 255, .cmp⟩
  | .cmpPulseNs => ⟨"cmp[i].pulse_ns", .u32, "ns", .hl, .any, .btw 100 1000000, 100, .cmp⟩
  | .cmpToken => ⟨"cmp[i].token", .u32, "", .hl, .any, .btw 0 255, 255, .cmp⟩
  | .cmpState => ⟨"cmp[i].state", .u32, "", .d, .never, .any, 0, .cmp⟩
  | .cmpFlags => ⟨"cmp[i].flags", .u32, "", .d, .never, .any, 0, .cmp⟩
  | .cmpFiredTime => ⟨"cmp[i].fired_time.lo/.hi", .u32, "1 ns", .d, .never, .any, 0, .cmp⟩
  | .cmpFiredCount => ⟨"cmp[i].fired_count", .u32, "", .d, .never, .any, 0, .cmp⟩
  | .ptSrc => ⟨"pt[i].src", .u32, "", .hl, .any, .btw 0 255, 255, .pt⟩
  | .prfTargetKind => ⟨"profile[i].target_kind", .u32, "", .c, .configure, .btw 0 3, 0, .engine⟩
  | .prfTargetIdx => ⟨"profile[i].target_idx", .u32, "", .c, .configure, .any, 0, .engine⟩
  | .prfType => ⟨"profile[i].type", .u32, "", .hl, .any, .btw 1 4, 0, .engine⟩
  | .prfTargetPos => ⟨"profile[i].target_pos.lo/.hi", .s32, "counts", .hl, .any, .any, 0, .engine⟩
  | .prfTargetV => ⟨"profile[i].target_v", .f32, "counts/s", .hl, .any, .any, 0, .engine⟩
  | .prfVMax => ⟨"profile[i].v_max", .f32, "counts/s", .hl, .any, .gt 0, 0, .engine⟩
  | .prfAMax => ⟨"profile[i].a_max", .f32, "counts/s²", .hl, .any, .gt 0, 0, .engine⟩
  | .prfDMax => ⟨"profile[i].d_max", .f32, "counts/s²", .hl, .any, .gt 0, 0, .engine⟩
  | .prfJMax => ⟨"profile[i].j_max", .f32, "counts/s³", .hl, .any, .ge 0, 0, .engine⟩
  | .prfStopDecel => ⟨"profile[i].stop_decel", .f32, "counts/s²", .hl, .any, .gt 0, 0, .engine⟩
  | .prfCmd => ⟨"profile[i].cmd", .u32, "", .hl, .any, .btw 1 5, 0, .engine⟩
  | .prfStartToken => ⟨"profile[i].start_token", .u32, "", .hl, .any, .btw 0 255, 255, .engine⟩
  | .prfStartTime => ⟨"profile[i].start_time.lo/.hi", .u32, "1 ns", .hl, .any, .any, 0, .engine⟩
  | .prfIssueToken => ⟨"profile[i].issue_token", .u32, "", .hl, .any, .btw 0 31, 0, .engine⟩
  | .prfItinLoop => ⟨"profile[i].itin_loop", .u32, "", .hl, .any, .btw 0 1, 0, .engine⟩
  | .prfItinCount => ⟨"profile[i].itin_count", .u32, "", .d, .never, .any, 0, .engine⟩
  | .prfItinSeg => ⟨"profile[i].itin_seg", .u32, "", .d, .never, .any, 0, .engine⟩
  | .prfItinTime => ⟨"profile[i].itin_time", .u32, "µs", .d, .never, .any, 0, .engine⟩
  | .prfOrigin => ⟨"profile[i].origin.lo/.hi", .s32, "counts", .hl, .idle, .any, 0, .engine⟩
  | .prfHomeMode => ⟨"profile[i].home_mode", .u32, "", .hl, .idle, .btw 1 4, 0, .engine⟩
  | .prfHomeDir => ⟨"profile[i].home_dir", .s32, "", .hl, .idle, .btw (-1) 1, 0, .engine⟩
  | .prfHomeDi => ⟨"profile[i].home_di", .u32, "", .hl, .idle, .btw 0 15, 0, .engine⟩
  | .prfHomeDiLevel => ⟨"profile[i].home_di_level", .u32, "", .hl, .idle, .btw 0 1, 0, .engine⟩
  | .prfHomeSpeed => ⟨"profile[i].home_speed", .f32, "counts/s", .hl, .idle, .gt 0, 0, .engine⟩
  | .prfHomeCreep => ⟨"profile[i].home_creep", .f32, "counts/s", .hl, .idle, .gt 0, 0, .engine⟩
  | .prfHomeOffset => ⟨"profile[i].home_offset.lo/.hi", .s32, "counts", .hl, .idle, .any, 0, .engine⟩
  | .prfHomeFinal => ⟨"profile[i].home_final.lo/.hi", .s32, "counts", .hl, .idle, .any, 0, .engine⟩
  | .prfHomeBackoff => ⟨"profile[i].home_backoff.lo/.hi", .s32, "counts", .hl, .idle, .any, 0, .engine⟩
  | .prfHomeMaxTravel => ⟨"profile[i].home_max_travel.lo/.hi", .s32, "counts", .hl, .idle, .any, 0, .engine⟩
  | .prfHardstopLevel => ⟨"profile[i].hardstop_level", .q 16, "%", .hl, .idle, .btw 5 200, 5, .engine⟩
  | .prfHardstopMs => ⟨"profile[i].hardstop_ms", .u32, "ms", .hl, .idle, .btw 1 1000, 1, .engine⟩
  | .prfState => ⟨"profile[i].state", .u32, "", .d, .never, .any, 0, .engine⟩
  | .prfStatus => ⟨"profile[i].status", .u32, "", .d, .never, .any, 0, .engine⟩
  | .prfSuspendCause => ⟨"profile[i].suspend_cause", .u32, "", .d, .never, .any, 0, .engine⟩
  | .prfPos => ⟨"profile[i].pos.lo/.hi", .s32, "counts", .d, .never, .any, 0, .engine⟩
  | .prfVel => ⟨"profile[i].vel", .f32, "counts/s", .d, .never, .any, 0, .engine⟩
  | .prfAcc => ⟨"profile[i].acc", .f32, "counts/s²", .d, .never, .any, 0, .engine⟩
  | .prfRemaining => ⟨"profile[i].remaining.lo/.hi", .s32, "counts", .d, .never, .any, 0, .engine⟩
  | .axisKind => ⟨"auxaxis[i].kind", .u32, "", .c, .configure, .btw 0 3, 0, .axis⟩
  | .axisSource => ⟨"auxaxis[i].source", .u32, "", .c, .configure, .btw 0 2, 0, .axis⟩
  | .axisFbSrc => ⟨"auxaxis[i].fb_src", .u32, "", .c, .configure, .btw 0 255, 255, .axis⟩
  | .axisFbNum => ⟨"auxaxis[i].fb_num", .u32, "", .c, .configure, .btw 1 65535, 1, .axis⟩
  | .axisFbDen => ⟨"auxaxis[i].fb_den", .u32, "", .c, .configure, .btw 1 65535, 1, .axis⟩
  | .axisIRunA => ⟨"auxaxis[i].i_run_a", .f32, "A", .hl, .any, .any, 0, .axis⟩
  | .axisIMaxA => ⟨"auxaxis[i].i_max_a", .f32, "A", .hl, .any, .any, 0, .axis⟩
  | .axisRPhaseOhm => ⟨"auxaxis[i].r_phase_ohm", .f32, "Ω", .hl, .stoppedAxis, .any, 0, .axis⟩
  | .axisLPhaseH => ⟨"auxaxis[i].l_phase_h", .f32, "H", .hl, .stoppedAxis, .any, 0, .axis⟩
  | .axisKeVS => ⟨"auxaxis[i].ke_v_s", .f32, "V·s", .hl, .stoppedAxis, .any, 0, .axis⟩
  | .axisUstep => ⟨"auxaxis[i].ustep", .u32, "", .hl, .any, .btw 1 256, 1, .axis⟩
  | .axisUstepRateMax => ⟨"auxaxis[i].ustep_rate_max", .u32, "microsteps/s", .hl, .any, .btw 1000 1000000, 200000, .axis⟩
  | .axisResNow => ⟨"auxaxis[i].res_now", .u32, "", .d, .never, .any, 0, .axis⟩
  | .axisStepDi => ⟨"auxaxis[i].step_di", .u32, "", .c, .configure, .btw 0 7, 0, .axis⟩
  | .axisDirDi => ⟨"auxaxis[i].dir_di", .u32, "", .c, .configure, .btw 0 15, 0, .axis⟩
  | .axisExtRes => ⟨"auxaxis[i].ext_res", .u32, "", .c, .configure, .btw 1 256, 1, .axis⟩
  | .axisExtFirstUs => ⟨"auxaxis[i].ext_first_us", .u32, "µs", .c, .configure, .btw 10 1000, 50, .axis⟩
  | .axisSxSpeed => ⟨"auxaxis[i].sx_speed", .f32, "full steps/s", .hl, .any, .any, 0, .axis⟩
  | .axisSxHyst => ⟨"auxaxis[i].sx_hyst", .f32, "full steps/s", .hl, .any, .any, 0, .axis⟩
  | .axisToffUs => ⟨"auxaxis[i].toff_us", .u32, "µs", .hl, .any, .btw 1 100, 1, .axis⟩
  | .axisHoldDelayMs => ⟨"auxaxis[i].hold_delay_ms", .u32, "ms", .hl, .any, .btw 1 60000, 500, .axis⟩
  | .axisHoldPct => ⟨"auxaxis[i].hold_pct", .q 16, "%", .hl, .any, .btw 0 100, 50, .axis⟩
  | .axisBoostDev => ⟨"auxaxis[i].boost_dev", .f32, "full steps", .hl, .any, .any, 0, .axis⟩
  | .axisStallDev => ⟨"auxaxis[i].stall_dev", .f32, "full steps", .hl, .any, .any, 0, .axis⟩
  | .axisBoostMax => ⟨"auxaxis[i].boost_max", .uq 16, "", .hl, .any, .btw 1 4, 1, .axis⟩
  | .axisPolePairs => ⟨"auxaxis[i].pole_pairs", .u32, "", .c, .configure, .any, 0, .axis⟩
  | .axisElecOffset => ⟨"auxaxis[i].elec_offset", .u32, "2^−32 turn", .c, .configure, .any, 0, .axis⟩
  | .axisIKp => ⟨"auxaxis[i].i_kp", .f32, "SI", .hl, .any, .any, 0, .axis⟩
  | .axisIKi => ⟨"auxaxis[i].i_ki", .f32, "SI", .hl, .any, .any, 0, .axis⟩
  | .axisPosKp => ⟨"auxaxis[i].pos_kp", .f32, "SI", .hl, .any, .any, 0, .axis⟩
  | .axisSpdKp => ⟨"auxaxis[i].spd_kp", .f32, "SI", .hl, .any, .any, 0, .axis⟩
  | .axisSpdKi => ⟨"auxaxis[i].spd_ki", .f32, "SI", .hl, .any, .any, 0, .axis⟩
  | .axisHmode => ⟨"auxaxis[i].hmode", .u32, "", .c, .configure, .btw 1 3, 1, .axis⟩
  | .axisDuty => ⟨"auxaxis[i].duty", .q 16, "%", .hl, .any, .btw (-100) 100, 0, .axis⟩
  | .axisOnCmd => ⟨"auxaxis[i].on_cmd", .u32, "", .hl, .any, .btw 0 1, 0, .axis⟩
  | .axisFastOff => ⟨"auxaxis[i].fast_off", .u32, "", .c, .configure, .btw 0 1, 0, .axis⟩
  | .axisPullinA => ⟨"auxaxis[i].pullin_a", .f32, "A", .hl, .any, .any, 0, .axis⟩
  | .axisHoldA => ⟨"auxaxis[i].hold_a", .f32, "A", .hl, .any, .any, 0, .axis⟩
  | .axisPullinMs => ⟨"auxaxis[i].pullin_ms", .u32, "ms", .hl, .any, .any, 0, .axis⟩
  | .axisGearSrc => ⟨"auxaxis[i].gear_src", .u32, "", .c, .configure, .btw 0 255, 255, .axis⟩
  | .axisGearNum => ⟨"auxaxis[i].gear_num", .u32, "", .c, .configure, .btw 1 65535, 1, .axis⟩
  | .axisGearDen => ⟨"auxaxis[i].gear_den", .u32, "", .c, .configure, .btw 1 65535, 1, .axis⟩
  | .axisGearOffset => ⟨"auxaxis[i].gear_offset.lo/.hi", .s32, "counts", .hl, .any, .any, 0, .axis⟩
  | .axisLwMin => ⟨"auxaxis[i].lw_min.lo/.hi", .s32, "counts", .hl, .any, .any, 0, .axis⟩
  | .axisLwMax => ⟨"auxaxis[i].lw_max.lo/.hi", .s32, "counts", .hl, .any, .any, 0, .axis⟩
  | .axisLwLayer => ⟨"auxaxis[i].lw_layer", .u32, "", .d, .never, .any, 0, .axis⟩
  | .axisGearLag => ⟨"auxaxis[i].gear_lag", .s32, "counts", .d, .never, .any, 0, .axis⟩
  | .axisPos => ⟨"auxaxis[i].pos.lo/.hi", .s32, "counts", .d, .never, .any, 0, .axis⟩
  | .axisDeviation => ⟨"auxaxis[i].deviation", .f32, "full steps", .d, .never, .any, 0, .axis⟩
  | .axisCurrentA => ⟨"auxaxis[i].current_a", .f32, "A", .d, .never, .any, 0, .axis⟩
  | .axisStatus => ⟨"auxaxis[i].status", .u32, "", .d, .never, .any, 0, .axis⟩
  | .auxPwmHz => ⟨"auxhb[i].pwm_hz", .u32, "Hz", .c, .configure, .btw 8000 100000, 20000, .aux⟩
  | .auxDeadNs => ⟨"auxhb[i].dead_ns", .u32, "ns", .c, .configure, .btw 20 2000, 200, .aux⟩
  | .auxBlankNs => ⟨"auxhb[i].blank_ns", .u32, "ns", .c, .configure, .btw 250 4000, 1000, .aux⟩
  | .auxDesatV => ⟨"auxhb[i].desat_v", .f32, "V", .c, .configure, .btw 2 10, 7, .aux⟩
  | .auxShuntMohm => ⟨"auxhb[i].shunt_mohm", .f32, "mΩ", .c, .configure, .btw (1 / 2) 100, (1 / 2), .aux⟩
  | .auxShuntA => ⟨"auxhb[i].shunt_a", .f32, "A", .c, .configure, .btw (1 / 2) 200, (1 / 2), .aux⟩
  | .auxBootPrechargeUs => ⟨"auxhb[i].boot_precharge_us", .u32, "µs", .c, .configure, .btw 10 10000, 200, .aux⟩
  | .auxBootRefreshUs => ⟨"auxhb[i].boot_refresh_us", .u32, "µs", .c, .configure, .btw 10 1000, 100, .aux⟩
  | .auxBootPulseNs => ⟨"auxhb[i].boot_pulse_ns", .u32, "ns", .c, .configure, .btw 200 5000, 500, .aux⟩
  | .auxRetryMs => ⟨"auxhb[i].retry_ms", .u32, "ms", .c, .configure, .btw 1 1000, 10, .aux⟩
  | .auxRetryMax => ⟨"auxhb[i].retry_max", .u32, "", .c, .configure, .btw 1 15, 3, .aux⟩
  | .auxRetryResetS => ⟨"auxhb[i].retry_reset_s", .u32, "s", .c, .configure, .btw 1 3600, 60, .aux⟩
  | .auxState => ⟨"auxhb[i].state", .u32, "", .d, .never, .any, 0, .aux⟩
  | .auxCause => ⟨"auxhb[i].cause", .u32, "", .d, .never, .any, 0, .aux⟩
  | .auxTries => ⟨"auxhb[i].tries", .u32, "", .d, .never, .any, 0, .aux⟩
  | .auxStatus => ⟨"auxhb[i].status", .u32, "", .d, .never, .any, 0, .aux⟩
  | .auxDutyMaxEff => ⟨"auxhb[i].duty_max_eff", .uq 16, "", .d, .never, .any, 0, .aux⟩
  | .auxBootV => ⟨"auxhb[i].boot_v", .f32, "V", .d, .never, .any, 0, .aux⟩
  | .auxCurrentA => ⟨"auxhb[i].current_a", .f32, "A", .d, .never, .any, 0, .aux⟩
  | .auxTempFactor => ⟨"auxhb[i].temp_factor", .uq 16, "", .d, .never, .any, 1, .aux⟩
  | .auxInterlockHits => ⟨"auxhb[i].interlock_hits", .u32, "", .d, .never, .any, 0, .aux⟩
  | .auxTripsTotal => ⟨"auxhb[i].trips_total", .u32, "", .d, .never, .any, 0, .aux⟩
  | .auxClearCmd => ⟨"auxhb[i].clear_cmd", .u32, "", .hl, .any, .btw 0 1, 0, .aux⟩
  | .vauxVauxV => ⟨"auxhb[0].vaux_v", .f32, "V", .d, .never, .any, 0, .aux0⟩
  | .vauxVauxUvV => ⟨"auxhb[0].vaux_uv_v", .f32, "V", .c, .configure, .btw 10 160, 10, .aux0⟩
  | .vauxVauxOvV => ⟨"auxhb[0].vaux_ov_v", .f32, "V", .c, .configure, .btw 14 175, 175, .aux0⟩
  | .vauxVauxHystV => ⟨"auxhb[0].vaux_hyst_v", .f32, "V", .c, .configure, .btw (1 / 2) 20, 2, .aux0⟩
  | .vauxChopOnV => ⟨"auxhb[0].chop_on_v", .f32, "V", .c, .configure, .btw 14 170, 170, .aux0⟩
  | .vauxChopHystV => ⟨"auxhb[0].chop_hyst_v", .f32, "V", .c, .configure, .btw (1 / 2) 20, 2, .aux0⟩
  | .vauxChopBlankNs => ⟨"auxhb[0].chop_blank_ns", .u32, "ns", .c, .configure, .btw 250 4000, 1000, .aux0⟩
  | .vauxChopState => ⟨"auxhb[0].chop_state", .u32, "", .d, .never, .any, 0, .aux0⟩
  | .vauxChopTries => ⟨"auxhb[0].chop_tries", .u32, "", .d, .never, .any, 0, .aux0⟩
  | .vauxChopDuty => ⟨"auxhb[0].chop_duty", .uq 16, "", .d, .never, .any, 0, .aux0⟩
  | .vauxChopClearCmd => ⟨"auxhb[0].chop_clear_cmd", .u32, "", .hl, .any, .btw 0 1, 0, .aux0⟩
  | .txKind => ⟨"auxhb[0].tx[i].kind", .u32, "", .c, .configure, .btw 0 3, 0, .aux0⟩
  | .txBeta => ⟨"auxhb[0].tx[i].beta", .f32, "K", .c, .configure, .btw 2000 6000, 3435, .aux0⟩
  | .txBridges => ⟨"auxhb[0].tx[i].bridges", .u32, "", .c, .configure, .any, 0, .aux0⟩
  | .txTempC => ⟨"auxhb[0].tx[i].temp_c", .f32, "°C", .d, .never, .any, 0, .aux0⟩
  | .txFactor => ⟨"auxhb[0].tx[i].factor", .uq 16, "", .d, .never, .any, 1, .aux0⟩
  | .drvHostLoss => ⟨"drive[i].host_loss", .u32, "", .c, .configure, .btw 0 2, 0, .drive⟩
  | .drvHostHoldMs => ⟨"drive[i].host_hold_ms", .u32, "ms", .hl, .any, .btw 0 60000, 2000, .drive⟩
  | .drvHostState => ⟨"drive[i].host_state", .u32, "", .d, .never, .any, 0, .drive⟩
  | .drvHostReclaim => ⟨"drive[i].host_reclaim", .u32, "", .h, .any, .btw 0 1, 0, .drive⟩
  | .drvTxMask => ⟨"drive[i].tx_mask", .u32, "", .c, .configure, .any, 0, .drive⟩
  | .drvThermalFactor => ⟨"drive[i].thermal_factor", .uq 16, "", .d, .never, .any, 1, .drive⟩
  | .canMode => ⟨"can[i].mode", .u32, "", .hl, .any, .btw 0 2, 0, .can⟩
  | .canNbrp => ⟨"can[i].nbrp", .u32, "", .c, .configure, .btw 1 256, 1, .can⟩
  | .canNtseg1 => ⟨"can[i].ntseg1", .u32, "", .c, .configure, .btw 2 256, 2, .can⟩
  | .canNtseg2 => ⟨"can[i].ntseg2", .u32, "", .c, .configure, .btw 2 128, 2, .can⟩
  | .canNsjw => ⟨"can[i].nsjw", .u32, "", .c, .configure, .btw 1 128, 1, .can⟩
  | .canDbrp => ⟨"can[i].dbrp", .u32, "", .c, .configure, .btw 1 32, 1, .can⟩
  | .canDtseg1 => ⟨"can[i].dtseg1", .u32, "", .c, .configure, .btw 1 32, 1, .can⟩
  | .canDtseg2 => ⟨"can[i].dtseg2", .u32, "", .c, .configure, .btw 1 16, 1, .can⟩
  | .canDsjw => ⟨"can[i].dsjw", .u32, "", .c, .configure, .btw 1 16, 1, .can⟩
  | .canTdcOffset => ⟨"can[i].tdc_offset", .u32, "", .c, .configure, .btw 0 127, 0, .can⟩
  | .canTerm => ⟨"can[i].term", .u32, "", .c, .configure, .btw 0 2, 0, .can⟩
  | .canNbitRate => ⟨"can[i].nbit_rate", .f32, "bit/s", .d, .never, .any, 0, .can⟩
  | .canDbitRate => ⟨"can[i].dbit_rate", .f32, "bit/s", .d, .never, .any, 0, .can⟩
  | .canTdcNs => ⟨"can[i].tdc_ns", .f32, "ns", .d, .never, .any, 0, .can⟩
  | .canState => ⟨"can[i].state", .u32, "", .d, .never, .any, 0, .can⟩
  | .canTec => ⟨"can[i].tec", .u32, "", .d, .never, .any, 0, .can⟩
  | .canRec => ⟨"can[i].rec", .u32, "", .d, .never, .any, 0, .can⟩
  | .canRxFrames => ⟨"can[i].rx_frames", .u32, "", .d, .never, .any, 0, .can⟩
  | .canRxUnmatched => ⟨"can[i].rx_unmatched", .u32, "", .d, .never, .any, 0, .can⟩
  | .canRxRemote => ⟨"can[i].rx_remote", .u32, "", .d, .never, .any, 0, .can⟩
  | .canTxFrames => ⟨"can[i].tx_frames", .u32, "", .d, .never, .any, 0, .can⟩
  | .canErrors => ⟨"can[i].errors", .u32, "", .d, .never, .any, 0, .can⟩
  | .canBusOffs => ⟨"can[i].bus_offs", .u32, "", .d, .never, .any, 0, .can⟩
  | .canTxDiscarded => ⟨"can[i].tx_discarded", .u32, "", .d, .never, .any, 0, .can⟩
  | .canTxRefused => ⟨"can[i].tx_refused", .u32, "", .d, .never, .any, 0, .can⟩
  | .canFrankMode => ⟨"can[i].frank_mode", .u32, "", .c, .configure, .btw 0 2, 0, .can⟩
  | .canFrankObj => ⟨"can[i].frank_obj", .u32, "", .c, .configure, .btw 0 255, 0, .can⟩
  | .canFrankPeriodMs => ⟨"can[i].frank_period_ms", .u32, "ms", .c, .configure, .btw 1 1000, 10, .can⟩
  | .canFrankDelayNs => ⟨"can[i].frank_delay_ns", .u32, "ns", .c, .configure, .btw 0 100000, 0, .can⟩
  | .canFrankSeq => ⟨"can[i].frank_seq", .u32, "", .d, .never, .any, 0, .can⟩
  | .canFrankRejects => ⟨"can[i].frank_rejects", .u32, "", .d, .never, .any, 0, .can⟩
  | .canFrankErrorNs => ⟨"can[i].frank_error_ns", .s32, "ns", .d, .never, .any, 0, .can⟩
  | .mapObj => ⟨"can[i].map[k].obj", .u32, "", .c, .configure, .btw 0 65535, 65535, .canMap⟩
  | .mapBit => ⟨"can[i].map[k].bit", .u32, "", .c, .configure, .btw 0 511, 0, .canMap⟩
  | .mapLen => ⟨"can[i].map[k].len", .u32, "", .c, .configure, .btw 1 32, 1, .canMap⟩
  | .mapSigned => ⟨"can[i].map[k].signed", .u32, "", .c, .configure, .btw 0 1, 0, .canMap⟩
  | .mapScale => ⟨"can[i].map[k].scale", .f32, "", .c, .configure, .any, 0, .canMap⟩
  | .mapOffset => ⟨"can[i].map[k].offset", .f32, "", .c, .configure, .any, 0, .canMap⟩
  | .mapTarget => ⟨"can[i].map[k].target", .u32, "", .c, .configure, .any, 0, .canMap⟩
  | .objDir => ⟨"can[i].obj[k].dir", .u32, "", .c, .configure, .btw 1 2, 0, .canObj⟩
  | .objId => ⟨"can[i].obj[k].id", .u32, "", .c, .configure, .btw 0 536870911, 0, .canObj⟩
  | .objMask => ⟨"can[i].obj[k].mask", .u32, "", .c, .configure, .btw 0 536870911, 0, .canObj⟩
  | .objFmt => ⟨"can[i].obj[k].fmt", .u32, "", .c, .configure, .btw 0 15, 0, .canObj⟩
  | .objLen => ⟨"can[i].obj[k].len", .u32, "bytes", .c, .configure, .btw 0 64, 0, .canObj⟩
  | .objPeriodMs => ⟨"can[i].obj[k].period_ms", .u32, "ms", .hl, .any, .btw 0 60000, 0, .canObj⟩
  | .objRxTimeoutMs => ⟨"can[i].obj[k].rx_timeout_ms", .u32, "ms", .c, .configure, .btw 0 60000, 0, .canObj⟩
  | .objTxCmd => ⟨"can[i].obj[k].tx_cmd", .u32, "", .hl, .any, .btw 1 2, 0, .canObj⟩
  | .objStatus => ⟨"can[i].obj[k].status", .u32, "", .d, .never, .any, 0, .canObj⟩
  | .objCount => ⟨"can[i].obj[k].count", .u32, "", .d, .never, .any, 0, .canObj⟩
  | .objTime => ⟨"can[i].obj[k].time.lo/.hi", .u32, "1 ns", .d, .never, .any, 0, .canObj⟩
  | .objData => ⟨"can[i].obj[k].data[j]", .u32, "", .canData, .any, .any, 0, .canObj⟩

/-- Fields wider than 32 bits, of which each entity has two consecutive points `.lo` and `.hi` (R27). -/
def wide (f : Field) : Bool :=
  match f with
  | .devEpoch | .devTime | .devTimeSet | .devWakeTime | .envSeq | .envSealedEpoch | .jcapFirst | .jcapLast
  | .repDivEpoch | .repDivRecorded | .repDivComputed | .pairHash | .pairLastTakeover | .soSeq | .pmSeq | .laneHash
  | .glHash | .fbPos | .fbEdgeTime | .fbIndexPos | .cmpValue | .cmpFiredTime | .prfTargetPos | .prfStartTime
  | .prfOrigin | .prfHomeOffset | .prfHomeFinal | .prfHomeBackoff | .prfHomeMaxTravel | .prfPos | .prfRemaining
  | .axisGearOffset | .axisLwMin | .axisLwMax | .axisPos | .objTime => true
  | _ => false

/-- The raw word of the points of a field at reset: the reset value or default of its table. -/
def fieldDflt (f : Field) : Word := (entry f).ty.enc (entry f).dflt

/-- The raw word a point holds until something writes it. A position without an arm and an unused arm slot show
0xFFFF_FFFF as their arm (R106, R537). -/
def ptDflt (p : Pt) : Word :=
  if (p.f = .pos ∧ p.j = 3) ∨ (p.f = .slot ∧ p.j = 7) then 0xFFFFFFFF else fieldDflt p.f

end Sys2Proof.Machine
end

