-- ==== Sys2Proof/Machine/State.lean ====
section
/-!
DEFINITION. State.lean: everything the manual gives the ZV40 to hold, as plain data.

The points of the signal space are the home of every value the catalogue names (`pts`, with the committed copy
`led`); the records below hold what the rules need beside the catalogue. Tables are lists keyed by unit number,
strictly rising, with nothing listed for a unit whose record is the initial one.
-/
namespace Sys2Proof.Machine

/-- The stored points: strictly rising by `Pt.lt`, no entry equal to what an unlisted point reads as. -/
abbrev Store := List (Pt × Word)

/-- Why the block could stop with a fault. No meaning of this model raises one: the manual gives every command an
effect or none. -/
inductive Fault where
  /-- Raised by nobody; kept so that the type has a value. Safe. -/
  | none
  deriving DecidableEq, Repr

/-- Why a command could be refused. -/
inductive Refusal where
  /-- A command without a meaning yet, by its mnemonic in the opcode table. Raised only by `exec`'s refused arms.
  Safe: the block stops where the hardware would go on. -/
  | notModelled (mnemonic : String)
  deriving DecidableEq, Repr

/-- Device time, epochs and the time source (chapter 2). Times are in nanoseconds of device time. -/
structure Clock where
  /-- device time to which the block has advanced (R47) -/
  now : Nat
  /-- device time of the present epoch boundary t0 (R36) -/
  t0 : Nat
  /-- the 48-bit epoch counter (R36) -/
  epoch : Nat
  /-- whether D1 runs: from step 2 of the power-on sequence (R302) -/
  running : Bool
  /-- whether a first boundary has set the counter to 0 (R302) -/
  started : Bool
  /-- place in the epoch: 0 before the input cut-off, 1 before the downstream send, 2 before the commit, 3 after it
  (Table 2.1) -/
  phase : Nat
  /-- T_E in force (R3) -/
  te : Nat
  /-- T_E that the next boundary puts in force (R36) -/
  teNext : Option Nat
  /-- device time after a step that the present epoch made (R47) -/
  stepTo : Option Nat
  /-- source error still to be slewed out, in ps, positive when device time is ahead (R48) -/
  slewLeft : Int
  /-- consecutive measurements with |error| ≤ 20 ns, held at 16 (R48) -/
  good : Nat
  /-- device time of the last source event (R48) -/
  srcAt : Nat
  /-- an episode of |error| > 1 ms is open (R531) -/
  offEpisode : Bool
  /-- SYNC_OUT divider in effect (R50) -/
  syncDiv : Nat
  /-- device time at which SYNC_OUT falls: 1 µs after it last rose (R50) -/
  syncFall : Nat
  deriving DecidableEq, Repr

/-- An outstanding slow transaction (R87); `host` marks a read that a command requested (R89). -/
structure SlowTx where
  req : SlowReq
  age : Nat
  reissues : Nat
  host : Bool
  deriving DecidableEq, Repr

/-- A round (chapter 3). Ranges are inclusive pairs of positions. -/
structure Rnd where
  /-- link-up step running, 0 none; of a segment added at an end in Run (R103) -/
  step : Nat
  seg : Option End
  /-- the step waits for the epoch boundary at which it starts; its start time (R91) -/
  waits : Bool
  stepAt : Nat
  /-- walks of step 1: ended, and the epoch of the last REPORT of each -/
  walkA : Bool
  walkB : Bool
  reportA : Nat
  reportB : Nat
  /-- end A's walk arrived at end B, and one more than the last position that it passed; end B's walk arrived at end A (R91, R92) -/
  through : Bool
  top : Nat
  throughB : Bool
  /-- positions whose cell was Bypassed when the link-up began (R91) -/
  bypassed : List Nat
  /-- cells that step 4 accepted into an arm (R153) -/
  accepted : List Nat
  /-- CARRIER offset last sent to a cell, by position (R153, R171) -/
  carriers : Tab (Option Nat)
  /-- positions reached from each end, and class reports received -/
  reachA : List Nat
  reachB : List Nat
  classes : List Nat
  /-- class points that each cell's class report declares, by position (R87) -/
  classN : Tab Nat
  /-- directives of the present step have left in a frame -/
  dirsSent : Bool
  /-- ECHO answers: count and sum of delays in ns, by position × 2 + end -/
  echoes : Tab (Nat × Nat)
  /-- directives waiting for a frame -/
  dirq : List DirEntry
  /-- serving ranges, and those that the frames of the last epoch carried (R61, R83) -/
  rangeA : Option (Nat × Nat)
  rangeB : Option (Nat × Nat)
  sentA : Option (Nat × Nat)
  sentB : Option (Nat × Nat)
  /-- closures of this epoch, valid slots of this epoch as position × 2 + end, and the event bytes that its slots gave, each with
  its position, until the round end delivers them (R83, R485) -/
  closedA : Bool
  closedB : Bool
  slots : List Nat
  codes : List (Nat × Nat)
  /-- positions whose slot of this epoch failed its CRC (Table 3.14) -/
  bad : List Nat
  /-- positions whose cell is Blocked by an invalid token, as its slots showed (R169) -/
  rejected : List Nat
  /-- block lock of each end -/
  lockA : Bool
  lockB : Bool
  /-- a break is recorded; a break was detected in this epoch; positions that reported a lost port -/
  broken : Bool
  detected : Bool
  lostB : Option Nat
  lostA : Option Nat
  /-- consecutive epochs without a BREAK and with lock (R101) -/
  calm : Nat
  /-- consecutive epochs with a delay of at most 0.20 T_E (R45) -/
  shortN : Nat
  /-- position after which the trim rotation continues (R69) -/
  trimPos : Nat
  /-- epoch from which a round that failed for its delay reports its cells Lost (R46) -/
  deadAt : Option Nat
  /-- sweep position and offset, outstanding transactions, reads requested by command, tag counter (R87, R89) -/
  sweepPos : Nat
  sweepOff : Nat
  txs : List SlowTx
  reads : List SlowReq
  tag : Nat
  /-- delay measurement: count and sum of 64 slots, by position × 2 and end (R86) -/
  meas : Tab (Nat × Nat)
  /-- consecutive epochs without a slot, by position (R96) -/
  missing : Tab Nat
  /-- the frames of the last send, as the cells hold them -/
  frameA : Option Frame
  frameB : Option Frame
  deriving DecidableEq, Repr

/-- A round before link-up. -/
def Rnd.init : Rnd :=
  { step := 0, seg := none, waits := false, stepAt := 0, walkA := false, walkB := false, reportA := 0, reportB := 0,
    through := false, top := 0, throughB := false, bypassed := [], accepted := [], carriers := [], reachA := [], reachB := [], classes := [], classN := [], dirsSent := false, echoes := [], dirq := [], rangeA := none,
    rangeB := none, sentA := none, sentB := none, closedA := false, closedB := false, slots := [], codes := [], bad := [], rejected := [],
    lockA := true, lockB := true, broken := false, detected := false, lostB := none, lostA := none,
    calm := 0, shortN := 0, trimPos := 255, deadAt := none, sweepPos := 255, sweepOff := 0, txs := [], reads := [], tag := 0, meas := [],
    missing := [], frameA := none, frameB := none }

/-- What a frame brings a cell for an apply instant (R43, R73): its epoch, the entry of its arm slot, the apply offset, and
whether the token was valid. -/
structure CellDue where
  at' : Nat
  epoch : Nat
  entry : Option ArmEntry
  offset : Nat
  tokenOk : Bool
  deriving DecidableEq, Repr

/-- A trim or a directive that takes effect at an instant (R73). -/
structure CellLater where
  at' : Nat
  trim : Option TrimEntry
  dir : Option Directive
  deriving DecidableEq, Repr

/-- A cell as the frames sent to it and its slots leave it: the obligations of chapter 3 and section 5.6. -/
structure CellSt where
  /-- state code of Table 3.10 -/
  state : Nat
  /-- gates blocked (Table 3.6 [4]) -/
  blocked : Bool
  /-- negotiated version, generation obeyed, serving end, apply offset in use (R61, R78) -/
  version : Nat
  gen : Nat
  serving : End
  offset : Nat
  /-- coast limit of the last COAST (R98); ASSIGN; CARRIER; DELAY from each end -/
  coast : Nat
  slot : Nat
  idx : Nat
  carrier : Nat
  setting : Nat
  delayA : Nat
  delayB : Nat
  /-- trims in use (R163) -/
  trimV : Int
  trimP : Int
  /-- last valid S and the epoch of its frame; the next token is accepted on the waiver; last token valid (R76) -/
  lastS : Nat
  lastEpoch : Nat
  waiver : Bool
  tokenOk : Bool
  /-- coasting epochs so far; a frame with a valid token has arrived since coasting began (R98) -/
  coastN : Nat
  tokenSeen : Bool
  /-- references extrapolated or held by coasting (Table 3.6 [7]) -/
  held : Bool
  /-- the entry in use, its reference, carrier phase and the instant at which that phase was set (R97, R150) -/
  entry : Option ArmEntry
  ref : Int
  phase : Nat
  phaseAt : Nat
  /-- what waits for a boundary -/
  due : List CellDue
  later : List CellLater
  /-- frames whose header arrives after the boundary that follows their departure, with their end and whether they come late for
  their instant (R44) -/
  flight : List (Frame × End × Bool)
  /-- events not yet reported, oldest first (R107) -/
  events : List Nat
  /-- coasting episodes, tokens rejected, frames discarded for generation and as late (Table 3.8) -/
  episodes : Nat
  permitRejects : Nat
  genRejects : Nat
  lateDiscards : Nat
  /-- sections discarded for CRC (R72); the sections that the line damages on the way to this cell, bit per section: header, REF
  body, TRIM, SLOWREQ, DIRECT. No command writes the second (DESIGN CHOICE, log entry 114) -/
  crcErrors : Nat
  noise : Nat
  /-- what a nearest-level entry makes the cell insert, and since when (R151) -/
  ins : Int
  insAt : Nat
  /-- `v_cap` and `i_arm` as last sampled, and latched trips (Table 3.5, Table 3.6 [11:8]) -/
  vcap : Nat
  iArm : Int
  trips : Nat
  deriving DecidableEq, Repr

/-- A cell without a position. -/
def CellSt.init : CellSt :=
  { state := 0, blocked := true, version := 0, gen := 0, serving := .a, offset := 1, coast := 4, slot := 0xFF, idx := 0,
    carrier := 0, setting := 0, delayA := 0, delayB := 0, trimV := 0, trimP := 0, lastS := 0, lastEpoch := 0, waiver := true,
    tokenOk := false, coastN := 0, tokenSeen := false, held := false, entry := none, ref := 0, phase := 0, phaseAt := 0,
    due := [], later := [], flight := [], events := [], episodes := 0, permitRejects := 0, genRejects := 0, lateDiscards := 0,
    crcErrors := 0, noise := 0, ins := 0, insAt := 0, vcap := 0, iArm := 0, trips := 0 }


/-- An accepted edge of a feedback channel: timestamp, direction (+1 or −1) and the count after it (R228, R230). -/
structure FbEdge where
  t : Nat
  dir : Int
  cnt : Int
  deriving DecidableEq, Repr

/-- What a feedback channel holds beside its points (chapter 7). -/
structure Fb where
  /-- the live 64-bit count (kinds 1 and 3; crossings in units of 4096 for kind 4; the last sample for kind 2) -/
  count : Int
  /-- fraction below a crossing, counts, for kind 4 (R243) -/
  frac : Int
  /-- levels of the lines after the filter -/
  lines : Nat
  /-- timestamp of the last accepted edge of each line, none before the first (R229) -/
  lineAt : Tab Nat
  /-- edges of the window and the last ones of the present direction, newest first (R235) -/
  edges : List FbEdge
  /-- latched positions, newest first (R235) -/
  hist : List Int
  /-- reversal edges inside the window (R238) -/
  revs : List Nat
  /-- the last edge of all, also before standstill: its time and direction; 0 and +1 before the first -/
  lastAt : Nat
  lastNeg : Bool
  /-- standstill (R236), and the latch at which it was left (R237) -/
  still : Bool
  leftAt : Nat
  /-- illegal transitions of the last second (R229) -/
  bad : List Nat
  /-- count at the previous index of the interval, whether the interval saw a reversal, missing pulses counted (R240) -/
  idxAt : Option Int
  idxRev : Bool
  idxMissing : Nat
  /-- SSI: last valid field value, frame delivered or judged invalid in this epoch, consecutive counts (R233, R234) -/
  ssiLast : Option Nat
  ssiGot : Bool
  ssiBad : Bool
  missN : Nat
  badN : Nat
  /-- the last valid SSI sample: its epoch, its position and the speed reported with it (R233, R234) -/
  ssiAt : Nat
  ssiPos : Int
  ssiSpeed : Rat
  /-- consecutive epochs with the amplitude or switch-state condition of causes 6 and 7 (Table 7.3) -/
  condN : Nat
  /-- the differential voltage of a used pair is below 200 mV (cause 2) -/
  lowV : Bool
  /-- pair offset of the previous epoch (R246) -/
  pairPrev : Int
  /-- the status flags as they stand, which the next latch publishes (R230) -/
  flags : Nat
  /-- configured by a description whose epoch has not committed yet: the channel has not started (R231) -/
  waits : Bool
  deriving DecidableEq, Repr

/-- A channel that has counted nothing: at standstill (R236). -/
def Fb.init : Fb :=
  { count := 0, frac := 0, lines := 0, lineAt := [], edges := [], hist := [], revs := [], lastAt := 0, lastNeg := false,
    still := true, leftAt := 0, bad := [], idxAt := none, idxRev := false, idxMissing := 0, ssiLast := none,
    ssiGot := false, ssiBad := false, missN := 0, badN := 0, ssiAt := 0, ssiPos := 0, ssiSpeed := 0, condN := 0, lowV := false, pairPrev := 0,
    flags := 1, waits := false }

/-- A position-compare unit beside its points (R247, R248). -/
structure CmpSt where
  /-- end of the output pulse -/
  pulse : Option Nat
  deriving DecidableEq, Repr

/-- A unit that never fired. -/
def CmpSt.init : CmpSt := { pulse := none }


/-- A half-bridge beside its points, or the VAUX chopper as number 12 (chapter 9). -/
structure Br where
  /-- timestamp of the last fault of causes 1 to 4, and whether it awaits settling (R289) -/
  faultAt : Nat
  pending : Bool
  /-- the retry timer runs or has run out unused (R289, R292) -/
  retry : Bool
  /-- the cause of the fault or latch, 0 none (Table 9.3) -/
  fault : Nat
  /-- holding causes present, bit per code 6 to 9 (R292, R294) -/
  holds : Nat
  /-- start of Precharge; since when Ready without a fault -/
  preAt : Nat
  readyAt : Nat
  /-- device time of the last `AUX_INTERLOCK` (R282), none before the first -/
  interAt : Option Nat
  deriving DecidableEq, Repr

/-- A bridge that belongs to no axis (state 0). -/
def Br.init : Br :=
  { faultAt := 0, pending := false, retry := false, fault := 0, holds := 0, preAt := 0, readyAt := 0, interAt := none }

/-- The VAUX supply and its chopper (R292, R293). -/
structure Vaux where
  /-- causes 7 to 9 present, bit per code -/
  holds : Nat
  /-- the chopper switch is on, and since when it has its present level -/
  on : Bool
  at' : Nat
  /-- its switchings of the last 10 ms, newest first: time and new level -/
  hist : List (Nat × Bool)
  deriving DecidableEq, Repr

/-- The device-wide conditions of chapter 10. -/
structure Dev where
  /-- power is good: the power-on sequence has run (R302) -/
  powered : Bool
  /-- BAR0 `STATUS.BOOT`: 0 firmware running, 1 boot in progress, 2 boot recovery (R303, R330) -/
  boot : Nat
  /-- PERST# is deasserted (R302) -/
  perst : Bool
  /-- a plant description is active (R34) -/
  pdActive : Bool
  /-- digest of the active description (R35) -/
  pdDigest : List Byte
  /-- epoch in which the active description took effect (R356) -/
  pdEpoch : Nat
  /-- a load whose validation has not ended (R34): the bytes named by LOAD_PD and the length it states -/
  loading : Option (List Byte × Nat)
  /-- STO input levels (R311) -/
  stoA : Bool
  stoB : Bool
  /-- device time since which the STO channels differ (R311) -/
  stoDiffAt : Option Nat
  /-- the permit-token generator runs (R298) -/
  tokenOn : Bool
  /-- the 48-bit permit register of D13 (R75) -/
  permit : Nat
  /-- epoch in which Halt began (R309) -/
  haltEpoch : Nat
  /-- a sleep request accepted and not yet effective (R319) -/
  sleepReq : Bool
  /-- Safe entered or Halt begun by a cause of this epoch: a mode command of the epoch loses (R300) -/
  modeTaken : Bool
  /-- the commands of the epoch hold a Halt, and the last `override_reason` that they write, 0 for none (R300, R314) -/
  haltCmd : Bool
  reasonDue : Nat
  /-- Safe causes that arose in Dormant, as bits of Table 10.4 (R320) -/
  dormantCauses : Nat
  /-- device time of the last wake, 0 before the first (R447) -/
  wokeAt : Nat
  /-- device time of the last OVERRIDE_ENTERED or OVERRIDE_ACTIVE (R314) -/
  overrideAt : Nat
  /-- a non-zero write of `override_reason` was applied in this epoch (R314) -/
  reasonEpoch : Option Nat
  /-- Supervisor runs (R321) -/
  supUp : Bool
  /-- device time of the last Supervisor watchdog expiry (R321) -/
  supWdtAt : Option Nat
  /-- Halt to begin at the next boundary without a command (R321) -/
  haltDue : Bool
  /-- plant logic runs (R322) -/
  logicUp : Bool
  /-- device time of the last restart of the plant-logic watchdog (R322, R456) -/
  logicBeat : Nat
  /-- host lost and not yet returned (R323) -/
  hostLost : Bool
  /-- epoch from whose computation the loss policies apply (R324) -/
  hostLostEpoch : Nat
  /-- drive lanes in service, bit n (R304); bit 16 is the group lane -/
  lanesOk : Nat
  /-- round ends in service, bit 2r for A, 2r + 1 for B (R304) -/
  endsOk : Nat
  /-- units unavailable after self-test (R304): unit kind and number -/
  unitsOut : List UnitDesc
  deriving DecidableEq, Repr

/-- A ring of Table 11.5a, for the host or on chip (R332, R456). Indices count modulo twice the size (R334). -/
structure Ring where
  base : Nat
  logSize : Nat
  cpl : Nat
  vector : Nat
  irqEn : Bool
  enable : Bool
  /-- the ZV40's index: consumer of a command ring, producer otherwise -/
  idx : Nat
  /-- the agent's index, as its doorbell last gave it -/
  peer : Nat
  fault : Bool
  code : Nat
  mirror : Nat
  entryBytes : Nat
  modCount : Nat
  modUsec : Nat
  /-- entries written since the last message (R349) -/
  unsig : Nat
  /-- device time of the first entry not yet signalled (R349) -/
  unsigAt : Nat
  /-- completions or export blocks written since the ring was enabled (R346, R393) -/
  seq : Nat
  /-- completions that accepted commands can still produce on this ring (R345) -/
  reserved : Nat
  /-- a fetched descriptor that waits for completion room (R345) -/
  waiting : Option Desc
  deriving DecidableEq, Repr

/-- A ring after power-on (Table 11.5). -/
def Ring.init : Ring :=
  { base := 0, logSize := 0, cpl := 0, vector := 0, irqEn := false, enable := false, idx := 0, peer := 0,
    fault := false, code := 0, mirror := 0, entryBytes := 0, modCount := 1, modUsec := 0, unsig := 0, unsigAt := 0,
    seq := 0, reserved := 0, waiting := none }

/-- An accepted command (R342): an entry of poste restante, or one whose final completion is still due. -/
structure Cmd where
  /-- number of the acceptance -/
  id : Nat
  /-- 0 host, 1 plant logic (R383) -/
  agent : Nat
  ring : Nat
  /-- key of the bound completion ring -/
  cpl : Nat
  /-- command ring slot of the descriptor -/
  slot : Nat
  hdr : DescHdr
  op : Op
  /-- the apply-epoch in which it takes effect -/
  epoch : Nat
  /-- session in which it was accepted (R351) -/
  session : Nat
  /-- it waits in poste restante and counts there (R343) -/
  kept : Bool
  deriving DecidableEq, Repr

/-- What an applied command still waits for before its final completion (Table 11.7, column Final). -/
inductive Await where
  /-- the ledger commit of an epoch -/
  | commit (epoch : Nat)
  /-- the frame of an epoch that carries the directive of a cell, then its commit -/
  | directive (addr kind : Nat)
  /-- a SLOWRESP of a cell -/
  | slow (addr off count : Nat)
  /-- the end of validation -/
  | load
  /-- every named round in Discovery -/
  | linkup (mask : Nat)
  /-- the controller out of bus-off -/
  | canUp (c : Nat)
  /-- withdrawal of an object's transmission -/
  | canGone (c o : Nat)
  /-- the post-window of a capture -/
  | capture (i : Nat)
  /-- the last export block -/
  | exported
  /-- the records of a replay up to a number taken (R397) -/
  | feed (upTo : Nat)
  /-- the partner's take-over -/
  | handover
  /-- the end of a state transfer -/
  | resync
  /-- the seal of the tier F envelope of an epoch -/
  | sealF (epoch : Nat)
  /-- nothing: ready to be written -/
  | ready
  deriving DecidableEq, Repr

/-- A final completion to be written (R346). -/
structure FinCpl where
  cmd : Cmd
  wait : Await
  status : Nat
  item : Nat
  value : Nat
  deriving DecidableEq, Repr

/-- One write of a point in the present epoch: the command that made it and the item's place, none for a derived command
(R13, R30, R344). -/
structure WriteLog where
  cmd : Option Nat
  item : Nat
  pt : Pt
  deriving DecidableEq, Repr

/-- The host interface (chapter 11). -/
structure HostIf where
  /-- PCIe link trained: generation and width; 0 without a link (R328) -/
  linkGen : Nat
  linkWidth : Nat
  reqMinor : Nat
  reqMajor : Nat
  /-- `HIF_NEG.STATE`: 0 none, 1 accepted, 2 refused -/
  negState : Nat
  negMinor : Nat
  negMajor : Nat
  session : Nat
  prDrop : Bool
  wdtMs : Nat
  /-- device time of the last restart of the host watchdog -/
  wdtAt : Nat
  wdtExpired : Bool
  offRefused : Bool
  expiries : Nat
  /-- `MSIX_MAP[c]`: vector and enable (R331) -/
  msixMap : Tab (Nat × Bool)
  /-- MSI-X table entries: address, data and mask bit; unlisted entries are masked -/
  msixTab : Tab (Nat × Nat × Bool)
  /-- withheld messages, bit per vector (R331) -/
  msixPend : Nat
  /-- host rings 0–20 and on-chip rings 32 + n (R456) -/
  rings : Tab Ring
  /-- poste restante in the order of acceptance (R343) -/
  pr : List Cmd
  /-- an episode of PR_FULL is open (R345) -/
  prFull : Bool
  /-- cause 3 of Table 11.4 has been signalled above 3072 entries -/
  prHigh : Bool
  /-- final completions not yet written, in the order of acceptance (R346) -/
  fins : List FinCpl
  /-- writes of the present epoch, in the order in which they took effect -/
  wlog : List WriteLog
  /-- number of the last acceptance (R343) -/
  acc : Nat
  deriving DecidableEq, Repr

/-- One agent's envelopes of one tier (chapter 12). -/
structure Tier where
  /-- signal space indices of the set, ascending (tier P and M) -/
  set : List Nat
  /-- the next envelope carries SET_CHANGED (R361) / DESC_CHANGED (R363) -/
  setChanged : Bool
  descChanged : Bool
  /-- envelopes skipped since the last one written, and the cause of the last skip (R372) -/
  skips : Nat
  skipCause : Nat
  /-- a skip episode is open (R372) -/
  episode : Bool
  /-- seal epoch of the previous envelope written; 0 for the first since the enable (Table 12.2) -/
  prevEpoch : Nat
  /-- an envelope is being written: its number, its epoch and the device time of that epoch's boundary (R369) -/
  writing : Option (Nat × Nat × Nat)
  /-- a REQUEST_F applies in the present epoch (R370) -/
  requested : Bool
  deriving DecidableEq, Repr

/-- A tier's record after power-on. -/
def Tier.init : Tier :=
  { set := [], setChanged := false, descChanged := false, skips := 0, skipCause := 0, episode := false,
    prevEpoch := 0, writing := none, requested := false }

/-- A record of the mailbag (R382): kind 1 epoch, 2 checkpoint, 3 configuration; its epoch, flags, mode, time and
the sections that the rules compare or replay. -/
structure MailRec where
  kind : Nat
  flags : Nat
  epoch : Nat
  time : Nat
  mode : Nat
  /-- section 7: the commands applied, as agent, ring, opcode, tag and items (R383) -/
  cmds : List Applied
  /-- section 8: the 17 lane hashes (R383) -/
  hashes : List Nat
  /-- sections 1 to 6: section kind, unit and the words of its body -/
  inputs : List InSec
  /-- section 34 of a checkpoint: points of classes C, H, L and H/L; sections 16 to 33 -/
  state : List (Pt × Word)
  image : LaneImage
  /-- section 40 of a configuration record: digest, kernel and catalogue versions, epoch setting -/
  digest : List Byte
  kernel : Nat
  /-- size of the record, uncompressed and as stored -/
  bytes : Nat
  stored : Nat
  deriving DecidableEq, Repr

/-- A capture (R389): held, its first and last epoch, the last epoch to be recorded, and being exported. -/
structure Capture where
  held : Bool
  first : Nat
  last : Nat
  post : Nat
  recording : Bool
  exporting : Bool
  recs : List MailRec
  deriving DecidableEq, Repr

/-- An empty capture place. -/
def Capture.init : Capture :=
  { held := false, first := 0, last := 0, post := 0, recording := false, exporting := false, recs := [] }

/-- A running export: the records still to send and whether the first block is out (R392, R393). -/
structure Export where
  cmd : Cmd
  recs : List MailRec
  first : Bool
  cap : Option Nat
  deriving DecidableEq, Repr

/-- The mailbag journal and replay (chapter 13). -/
structure Journal where
  /-- the live window, oldest first; it begins with a checkpoint (R387) -/
  live : List MailRec
  caps : Tab Capture
  /-- a checkpoint is due after the next epoch record (R387, Table 13.4) -/
  ckptDue : Bool
  /-- flag [2] of the next epoch record (R387) -/
  gap : Bool
  /-- commands applied in the present epoch (R383) -/
  applied : List Applied
  modeChanged : Bool
  exports : List Export
  /-- configuration records since power-on, oldest first (R385) -/
  configs : List MailRec
  /-- sections 1 to 6 of the present epoch's record, as the cut-off took them (R38, R383) -/
  inputs : List InSec
  /-- hashes of the 17 lanes in the present epoch (R386) -/
  hashes : List Nat
  deriving DecidableEq, Repr

/-- Replay (section 13.6). `phase`: 0 not replaying, 1 waiting for the first block, 2 running. -/
structure Replay where
  phase : Nat
  /-- records fed and not yet processed -/
  queue : List MailRec
  /-- records fed and taken since the replay began -/
  fed : Nat
  taken : Nat
  /-- the last block of the export has been fed -/
  lastFed : Bool
  /-- recorded epoch processed last -/
  epoch : Nat
  /-- its recorded time -/
  time : Nat
  /-- recorded device mode under which the drives now stand -/
  mode : Nat
  /-- a recorded epoch has been processed in the present live epoch (R398) -/
  done : Bool
  /-- points and engines as they stood when the replay began, to which the module returns when it ends -/
  saved : Option (List (Pt × Word) × LaneImage)
  deriving DecidableEq, Repr

/-- Not replaying. -/
def Replay.idle : Replay :=
  { phase := 0, queue := [], fed := 0, taken := 0, lastFed := false, epoch := 0, time := 0, mode := 1, done := false,
    saved := none }

/-- Inputs of one epoch as the principal sent them (R414): epoch, sections 1 and 3 to 6, verdict of both ends of each round,
acceptance numbers of the commands that apply. -/
structure PairInput where
  epoch : Nat
  secs : List InSec
  verdicts : List (Nat × Bool × Bool)
  nos : List Nat
  deriving DecidableEq, Repr

/-- A complete state that a counterfoil holds, from a state transfer or a state envelope (R417, R418): the epoch of its
capture, its points and its engines. -/
structure PairImage where
  epoch : Nat
  pts : List (Pt × Word)
  image : LaneImage
  deriving DecidableEq, Repr

/-- The redundant pair beside its points (chapter 14). -/
structure PairSt where
  /-- partner heard (`PAIR.PARTNER`), and the epoch of its last time or hash message (R430) -/
  heard : Bool
  heardAt : Nat
  /-- joined: a counterfoil whose description is validated, or a principal whose partner is (R412) -/
  joined : Bool
  /-- device time of the entry into Configure after power-on (R411) -/
  listenAt : Nat
  /-- transmitters of this module's ends at electrical idle (R410); departure instants in a row without a frame -/
  endsIdle : Bool
  noFrame : Nat
  /-- an end-B stream has begun in this epoch; epochs of the last stream and of the last hash message (R420) -/
  streamed : Bool
  lastStream : Nat
  lastHash : Nat
  /-- rounds whose BREAK from the lowest present position has arrived since their last stream (R420) -/
  silent : List Nat
  /-- the input message of this epoch has fed the lanes; the epoch is unfed (R414, R415) -/
  fed : Bool
  unfed : Bool
  /-- commands forwarded and not yet applied (R414) -/
  fwd : List Cmd
  /-- epoch and hash that the partner sent last, its generation; own hash of the last commit, none for an unfed epoch
  (R416) -/
  partnerHash : Option (Nat × Nat)
  partnerGen : Nat
  ownHash : Option (Nat × Nat)
  /-- resynchronisation: 0 none, 1 state transfer, 2 until the first match; when it began; when the last one ended (R417) -/
  resync : Nat
  resyncAt : Nat
  resyncEnd : Option Nat
  /-- input messages kept for the catch-up (R417) -/
  stored : List PairInput
  /-- newest complete state and its arrival (R418, R420) -/
  image : Option PairImage
  imageAt : Nat
  /-- a resynchronisation starts at the next boundary (R416); the present episode without a seen round is reported (R421) -/
  resyncDue : Bool
  blind : Bool
  /-- epoch and kind of the SURRENDER received: 2 planned, 3 fault report, 4 extraction (R420, R423, R515) -/
  surrender : Option (Nat × Nat)
  /-- the principal's hand-over: the epoch H, the epoch of its SURRENDER, and the counterfoil's confirmation (R423) -/
  handover : Option (Nat × Nat)
  confirmed : Bool
  /-- epochs of the takeover interval, first and last (R377) -/
  bridge : Option (Nat × Nat)
  /-- device time until which every arm entry carries mode 0 after an unplanned warm takeover (R422) -/
  blockUntil : Option Nat
  deriving DecidableEq, Repr

/-- A module that has no partner. -/
def PairSt.init : PairSt :=
  { heard := false, heardAt := 0, joined := false, listenAt := 0, endsIdle := false, noFrame := 0, streamed := false,
    lastStream := 0, lastHash := 0, silent := [], fed := false, unfed := false, fwd := [], partnerHash := none,
    partnerGen := 0, ownHash := none, resync := 0, resyncAt := 0, resyncEnd := none, stored := [], image := none,
    imageAt := 0, resyncDue := false, blind := false, surrender := none, handover := none, confirmed := false, bridge := none, blockUntil := none }

/-- A pending frame of a send object (R437): its data, whether it is on the bus, and newer data waiting behind it; for a
franking message its sequence number. -/
structure TxFrame where
  obj : Nat
  data : List Byte
  onBus : Bool
  next : Option (List Byte)
  frank : Option Nat
  deriving DecidableEq, Repr

/-- A frame accepted by an object, waiting for the cut-off of its epoch (R38, R435). -/
structure RxFrame where
  obj : Nat
  frame : CanFrame
  t : Nat
  deriving DecidableEq, Repr

/-- A CAN controller beside its points (chapter 15). -/
structure Can where
  /-- mode in force, and a change that waits for bus idle (R441) -/
  mode : Nat
  modeDue : Option Nat
  /-- another node's frame is on the bus, after a lost arbitration -/
  busy : Bool
  pend : List TxFrame
  /-- objects whose frame is withdrawn after the attempt on the bus (R438) -/
  aborts : List Nat
  /-- consecutive attempts of an object ended by a bit error in the data field; by an acknowledgement error (R442, R443) -/
  bitErrs : Tab Nat
  ackErrs : Tab Nat
  /-- frames accepted since the last cut-off, oldest first -/
  rx : List RxFrame
  /-- device time of the last frame accepted, by object (R436) -/
  rxAt : Tab Nat
  /-- sends commanded for the commit of this epoch (R437) -/
  sendDue : List Nat
  /-- franking: next sequence of a master; last message whose start of frame was timestamped; a rejection episode is
  open (R445, R446) -/
  frankNext : Nat
  frankLast : Option (Nat × Nat)
  frankBad : Bool
  /-- maps ended by a host write (R449) -/
  mapsOff : List Nat
  deriving DecidableEq, Repr

/-- A controller that is off. -/
def Can.init : Can :=
  { mode := 0, modeDue := none, busy := false, pend := [], aborts := [], bitErrs := [], ackErrs := [], rx := [],
    rxAt := [], sendDue := [], frankNext := 0, frankLast := none, frankBad := false, mapsOff := [] }

/-- Registers and bits of one interrupt source (Table 16.4, R460). -/
structure Src where
  prio : Nat
  mode : Nat
  filter : Nat
  mask : Nat
  last : Nat
  /-- pending by a fire of an edge source or by `PENDING_SET` -/
  pend : Bool
  /-- the condition of a level source holds -/
  cond : Bool
  enabled : Bool
  active : Bool
  deriving DecidableEq, Repr

/-- A source after reset (Table 16.4). -/
def Src.init : Src :=
  { prio := 0, mode := 0, filter := 0, mask := 0, last := 0, pend := false, cond := false, enabled := false,
    active := false }

/-- One core of the interrupt controller (Table 16.5) and its sleep. -/
structure CoreIf where
  claimed : Nat
  threshold : Nat
  stackFault : Bool
  asleep : Bool
  /-- a source of its mask became pending: the core is waking (R469) -/
  waking : Bool
  deadPending : Bool
  presented : Nat
  deadId : Nat
  faultEoi : Nat
  faultTop : Nat
  /-- running-priority stack, top first: ID and priority (R465) -/
  stack : List (Nat × Nat)
  /-- device time of the last change of `asleep`, and time awake since the last load period (R470) -/
  since : Nat
  awake : Nat
  /-- the core's `mtimecmp` register (R452) -/
  mtimecmp : Nat
  deriving DecidableEq, Repr

/-- A core after reset. -/
def CoreIf.init : CoreIf :=
  { claimed := 0, threshold := 0, stackFault := false, asleep := false, waking := false, deadPending := false,
    presented := 0, deadId := 0, faultEoi := 0, faultTop := 0, stack := [], since := 0, awake := 0,
    mtimecmp := 0xFFFFFFFFFFFFFFFF }

/-- The interrupt controller (chapter 16). -/
structure Irq where
  srcs : Tab Src
  cores : Tab CoreIf
  deriving DecidableEq, Repr

/-- A report or a reporter of a postmark: index, parameter and timestamp (R484). -/
structure Rep where
  idx : Nat
  param : Nat
  time : Nat
  deriving DecidableEq, Repr

/-- An open postmark (R486). -/
structure Postmark where
  code : Nat
  kind : Nat
  /-- anchor t1 and window W in ns -/
  t1 : Nat
  w : Nat
  first : Rep
  last : Rep
  count : Nat
  differ : Bool
  /-- reporter indices, for the bitmap (R488) -/
  idxs : List Nat
  deriving DecidableEq, Repr

/-- An event record (Table 17.5). -/
structure EvRec where
  seq : Nat
  code : Nat
  kind : Nat
  firstIdx : Nat
  lastIdx : Nat
  count : Nat
  time : Nat
  param : Nat
  slot : Nat
  flags : Nat
  span : Nat
  deriving DecidableEq, Repr

/-- The sorting office (section 17.5). -/
structure Sorting where
  opened : List Postmark
  /-- last sequence assigned (R487) -/
  seq : Nat
  /-- bitmap slot that the next record with count ≥ 2 takes (R488) -/
  slot : Nat
  /-- records waiting for the host (0) and the plant-logic (1) event ring (R489) -/
  q0 : List EvRec
  q1 : List EvRec
  /-- records discarded in the present episode of each ring (R489) -/
  lost0 : Nat
  lost1 : Nat
  /-- reports of units other than round ends taken in this epoch, and dropped (R485) -/
  taken : Nat
  dropped : Nat
  deriving DecidableEq, Repr


/-- A flash bank (R303, R517): trailer sequence number, whether its image verifies, its security version, and the
bytes written to it since its last erase, oldest first. -/
structure Bank where
  seq : Nat
  valid : Bool
  security : Nat
  data : List (Nat × List Byte)
  deriving DecidableEq, Repr

/-- Module hardware beside its points (chapter 18). -/
structure Hw where
  /-- DO outputs turned off by overload, and when (R502) -/
  doOff : Tab (Option Nat)
  /-- when an output last tried again (R502) -/
  doTry : Tab Nat
  /-- current inputs whose burden is open, and since when (R508) -/
  burden : Tab (Option Nat)
  /-- hashes of the fused integrator keys, by slot (R518) -/
  keys : Tab (List Byte)
  /-- `PAIR_POS` strap at the last power good: position B (R499) -/
  posB : Bool
  /-- control inputs below and above their range, bit 0 A, bit 1 B; rails out of their window, bit per rail (R481) -/
  vLow : Nat
  vHigh : Nat
  rails : Nat
  /-- analog inputs (bit 16 + n) and sigma-delta inputs (bit 24 + n) without a sample in this epoch (R39) -/
  missing : Nat
  /-- the input stage is on (R497, R515) -/
  inputOn : Bool
  /-- flash banks 0 and 1, and the bank in use (R303) -/
  bank0 : Bank
  bank1 : Bank
  bankB : Bool
  /-- BAR0 `BOOT_DETAIL` (R330) -/
  bootDetail : Nat
  deriving DecidableEq, Repr

/-- A completion as written (Table 11.9). -/
structure Cpl where
  seq : Nat
  tag : Nat
  status : Nat
  opcode : Nat
  epoch : Nat
  slot : Nat
  ring : Nat
  /-- acceptance notice -/
  notice : Bool
  item : Nat
  value : Nat
  deriving DecidableEq, Repr

/-- A block of an envelope (Table 12.3): first index, commit epoch, values. -/
structure EnvBlock where
  first : Nat
  commit : Nat
  vals : List Word
  deriving DecidableEq, Repr

/-- An envelope (Tables 12.2 and 12.3). -/
structure Envelope where
  seq : Nat
  tier : Nat
  flags : Nat
  epoch : Nat
  setGen : Nat
  time : Nat
  length : Nat
  skipped : Nat
  skipCause : Nat
  prevEpoch : Nat
  mode : Nat
  protection : Nat
  blocks : List EnvBlock
  deriving DecidableEq, Repr

/-- What the block drives at its boundary, in the order in which it drives it. -/
inductive Out where
  /-- a completion written to a completion ring (host 0–7, on chip 32–39) -/
  | completion (ring : Nat) (c : Cpl)
  /-- the index mirror of a ring: index and epoch (R334) -/
  | mirror (ring idx epoch : Nat)
  /-- an MSI-X message (R331) -/
  | msix (vector : Nat)
  /-- an event record written to ring 16 of the host (16) or on chip (48) (R487) -/
  | record (ring : Nat) (r : EvRec)
  /-- header and blocks of an envelope, then, by `seal`, its trailer (R369) -/
  | envelope (ring : Nat) (e : Envelope)
  | seal (ring seq : Nat)
  /-- the trailer of the oldest slot of a Newest ring overwritten with 0 (R374) -/
  | invalidate (ring : Nat)
  /-- the result of a READ_POINTS: address and values -/
  | readResult (addr : Nat) (vals : List Word)
  /-- an export block: sequence, first and last epoch, flags, records (R393) -/
  | exportBlock (seq first last flags : Nat) (recs : List MailRec)
  /-- SYNC_OUT rises at a boundary and stays high for a time in ns (R50) -/
  | syncOut (t high : Nat)
  /-- the permit-token generator stops (R311, R57) -/
  | tokenStop (t : Nat)
  /-- cores of a mask are reset (R321, R322, R457) -/
  | coreReset (mask : Nat)
  /-- a frame leaves an end of a round, as the blocks of its sections (R64, R67) -/
  | frame (round : Nat) (e : End) (f : Frame) (wire : List Block)
  /-- an end sends control blocks: DISCOVER or ECHO of link-up, or IDLE and nothing else (Table 3.1, R46, R317) -/
  | blocks (round : Nat) (e : End) (bs : List Block)
  /-- PCIE_WAKE_N is pulled low for 100 ms (R498) -/
  | pcieWake (t : Nat)
  /-- a CAN frame sent, ended at a time (R438) -/
  | canFrame (c : Nat) (fr : CanFrame) (t : Nat)

  /-- an end of a round goes to electrical idle (R410) -/
  | endIdle (round : Nat) (e : End)
  /-- pair link messages (Table 14.1): input message and forwarded command (acceptance number), hash message with mode,
  generation and protection, state of an epoch, SURRENDER, description -/
  | pairInput (m : PairInput)
  | pairForward (no : Nat)
  | pairHash (epoch hash mode gen prot : Nat)
  | pairState (epoch : Nat)
  | pairSurrender (h : Nat) (fault : Bool)
  deriving DecidableEq, Repr

/-- The state of the block. -/
structure State where
  /-- commands that wait, first in first out; the model's own queue -/
  pending : List Instr
  /-- device time and epochs (chapter 2) -/
  clk : Clock
  /-- the points of the signal space as the block holds them (section 1.5) -/
  pts : Store
  /-- the ledger: the points as the last commit made them visible (R355) -/
  led : Store
  /-- commit epochs of gathered points (R356) -/
  cep : List (Pt × Nat)
  /-- device-wide conditions (chapter 10) -/
  dev : Dev
  /-- the active plant description (section 1.7) -/
  plant : Plant
  /-- interrupt controller and cores (chapter 16) -/
  irq : Irq
  /-- the sorting office (section 17.5) -/
  so : Sorting
  /-- guard memories by guard number; by 65536 + guard × 4096 + cell under a cell guard (section 17.1) -/
  guards : Tab Guard
  /-- thermal levels entered, bit 0 warning, 1 throttle, 2 shutdown, by sensor; by 4096 + cell for a cell (R478) -/
  levels : Tab Nat
  /-- host interface (chapter 11) -/
  host : HostIf
  /-- envelopes by agent × 3 + tier (chapter 12) -/
  env : Tab Tier
  /-- mailbag journal (chapter 13) -/
  jrn : Journal
  /-- replay (section 13.6) -/
  rep : Replay
  /-- redundant pair (chapter 14) -/
  pair : PairSt
  /-- rounds by round number (chapter 3) -/
  rnds : Tab Rnd
  /-- the cells of the rounds by address, as the frames sent to them and their slots leave them (chapter 3) -/
  cells : Tab CellSt
  /-- drive records by drive number (chapters 4 and 6) -/
  drvs : Tab Drv
  /-- winding sets by drive × 4 + set (chapters 4 and 5) -/
  sets : Tab SetSt
  /-- arms by drive × 24 + arm (chapter 5) -/
  arms : Tab ArmSt
  /-- shaft groups (section 6.3) -/
  shafts : Tab ShaftSt
  /-- power groups (sections 6.4 and 6.5) -/
  powers : Tab PowerSt
  /-- feedback channels (chapter 7) -/
  fbs : Tab Fb
  /-- position-compare units (section 7.7) -/
  cmps : Tab CmpSt
  /-- levels on the pass-through outputs PT0–PT3, bit 0 A, 1 B, 2 Z (R244) -/
  ptOut : Tab Nat
  /-- start tokens issued and not yet acted on, bit per token (R262) -/
  tokens : Nat
  /-- module hardware (chapter 18) -/
  hw : Hw
  /-- half-bridges by number, the VAUX chopper as 12 (chapter 9) -/
  brs : Tab Br
  /-- VAUX and its chopper (section 9.6) -/
  vaux : Vaux
  /-- profile engines (chapter 8) -/
  engs : Tab Eng
  /-- auxiliary axes by first bridge (chapter 8) -/
  axes : Tab Axis
  /-- CAN controllers (chapter 15) -/
  cans : Tab Can
  /-- counter of the free values drawn; the model's own -/
  free : Nat
  /-- what the block has driven, newest first; the model's own record of its outputs -/
  out : List Out
  deriving DecidableEq, Repr

/-- The block right after power-on reset, before power is good: every point at the value its table states or its
log entry names, no command waiting, nothing running (R8, R302). -/
def State.reset : State where
  pending := []
  clk := { now := 0, t0 := 0, epoch := 0, running := false, started := false, phase := 0, te := 100000, teNext := none, stepTo := none, slewLeft := 0, good := 0, srcAt := 0, offEpisode := false, syncDiv := 0, syncFall := 0 }
  pts := []
  led := []
  cep := []
  dev := { powered := false, boot := 1, perst := false, pdActive := false, pdDigest := [], pdEpoch := 0, loading := none, stoA := false, stoB := false, stoDiffAt := none, tokenOn := false, permit := 1, haltEpoch := 0, sleepReq := false, modeTaken := false, haltCmd := false, reasonDue := 0, dormantCauses := 0, wokeAt := 0, overrideAt := 0, reasonEpoch := none, supUp := false, supWdtAt := none, haltDue := false, logicUp := false, logicBeat := 0, hostLost := false, hostLostEpoch := 0, lanesOk := 0x1FFFF, endsOk := 0xFFFFFFFF, unitsOut := [] }
  plant := .none
  irq := { srcs := [], cores := [] }
  so := { opened := [], seq := 0, slot := 0, q0 := [], q1 := [], lost0 := 0, lost1 := 0, taken := 0, dropped := 0 }
  guards := []
  levels := []
  host := { linkGen := 0, linkWidth := 0, reqMinor := 0, reqMajor := 0, negState := 0, negMinor := 0, negMajor := 0, session := 0, prDrop := false, wdtMs := 0, wdtAt := 0, wdtExpired := false, offRefused := false, expiries := 0, msixMap := [], msixTab := [], msixPend := 0, rings := [], pr := [], prFull := false, prHigh := false, fins := [], wlog := [], acc := 0 }
  env := []
  jrn := { live := [], caps := [], ckptDue := false, gap := false, applied := [], modeChanged := false, exports := [], configs := [], inputs := [], hashes := [] }
  rep := Replay.idle
  pair := PairSt.init
  rnds := []
  cells := []
  drvs := []
  sets := []
  arms := []
  shafts := []
  powers := []
  fbs := []
  cmps := []
  ptOut := []
  tokens := 0
  hw := { doOff := [], doTry := [], burden := [], keys := [], posB := false, vLow := 0, vHigh := 0, rails := 0, missing := 0, inputOn := false, bank0 := { seq := 1, valid := true, security := 0, data := [] }, bank1 := { seq := 0, valid := false, security := 0, data := [] }, bankB := false, bootDetail := 0xFFF }
  brs := []
  vaux := { holds := 0, on := false, at' := 0, hist := [] }
  engs := []
  axes := []
  cans := []
  free := 0
  out := []

/-- The state with its `pending` replaced. -/
def State.withPending (s : State) (v : List Instr) : State := { s with pending := v }

/-- The state with its `clk` replaced. -/
def State.withClk (s : State) (v : Clock) : State := { s with clk := v }

/-- The state with its `pts` replaced. -/
def State.withPts (s : State) (v : Store) : State := { s with pts := v }

/-- The state with its `led` replaced. -/
def State.withLed (s : State) (v : Store) : State := { s with led := v }

/-- The state with its `cep` replaced. -/
def State.withCep (s : State) (v : List (Pt × Nat)) : State := { s with cep := v }

/-- The state with its `dev` replaced. -/
def State.withDev (s : State) (v : Dev) : State := { s with dev := v }

/-- The state with its `plant` replaced. -/
def State.withPlant (s : State) (v : Plant) : State := { s with plant := v }

/-- The state with its `irq` replaced. -/
def State.withIrq (s : State) (v : Irq) : State := { s with irq := v }

/-- The state with its `so` replaced. -/
def State.withSo (s : State) (v : Sorting) : State := { s with so := v }

/-- The state with its `guards` replaced. -/
def State.withGuards (s : State) (v : Tab Guard) : State := { s with guards := v }

/-- The state with its `levels` replaced. -/
def State.withLevels (s : State) (v : Tab Nat) : State := { s with levels := v }

/-- The state with its `host` replaced. -/
def State.withHost (s : State) (v : HostIf) : State := { s with host := v }

/-- The state with its `env` replaced. -/
def State.withEnv (s : State) (v : Tab Tier) : State := { s with env := v }

/-- The state with its `jrn` replaced. -/
def State.withJrn (s : State) (v : Journal) : State := { s with jrn := v }

/-- The state with its `rep` replaced. -/
def State.withRep (s : State) (v : Replay) : State := { s with rep := v }

/-- The state with its `pair` replaced. -/
def State.withPair (s : State) (v : PairSt) : State := { s with pair := v }

/-- The state with its `rnds` replaced. -/
def State.withRnds (s : State) (v : Tab Rnd) : State := { s with rnds := v }

/-- The state with its `cells` replaced. -/
def State.withCells (s : State) (v : Tab CellSt) : State := { s with cells := v }

/-- The state with its `drvs` replaced. -/
def State.withDrvs (s : State) (v : Tab Drv) : State := { s with drvs := v }

/-- The state with its `sets` replaced. -/
def State.withSets (s : State) (v : Tab SetSt) : State := { s with sets := v }

/-- The state with its `arms` replaced. -/
def State.withArms (s : State) (v : Tab ArmSt) : State := { s with arms := v }

/-- The state with its `shafts` replaced. -/
def State.withShafts (s : State) (v : Tab ShaftSt) : State := { s with shafts := v }

/-- The state with its `powers` replaced. -/
def State.withPowers (s : State) (v : Tab PowerSt) : State := { s with powers := v }

/-- The state with its `fbs` replaced. -/
def State.withFbs (s : State) (v : Tab Fb) : State := { s with fbs := v }

/-- The state with its `cmps` replaced. -/
def State.withCmps (s : State) (v : Tab CmpSt) : State := { s with cmps := v }

/-- The state with its `ptOut` replaced. -/
def State.withPtOut (s : State) (v : Tab Nat) : State := { s with ptOut := v }

/-- The state with its `tokens` replaced. -/
def State.withTokens (s : State) (v : Nat) : State := { s with tokens := v }

/-- The state with its `hw` replaced. -/
def State.withHw (s : State) (v : Hw) : State := { s with hw := v }

/-- The state with its `brs` replaced. -/
def State.withBrs (s : State) (v : Tab Br) : State := { s with brs := v }

/-- The state with its `vaux` replaced. -/
def State.withVaux (s : State) (v : Vaux) : State := { s with vaux := v }

/-- The state with its `engs` replaced. -/
def State.withEngs (s : State) (v : Tab Eng) : State := { s with engs := v }

/-- The state with its `axes` replaced. -/
def State.withAxes (s : State) (v : Tab Axis) : State := { s with axes := v }

/-- The state with its `cans` replaced. -/
def State.withCans (s : State) (v : Tab Can) : State := { s with cans := v }

/-- The state with its `free` replaced. -/
def State.withFree (s : State) (v : Nat) : State := { s with free := v }

/-- The state with its `out` replaced. -/
def State.withOut (s : State) (v : List Out) : State := { s with out := v }


end Sys2Proof.Machine
end

