-- ==== Sys2Proof/Machine/Ops.lean ====
section
/-!
DEFINITION. Ops.lean: the named operations over the store of points, the record tables and the clock. Every meaning
reads and writes points through these.
-/
namespace Sys2Proof.Machine

/-! ## Lists -/

/-- Inserts an element before the first that it does not follow. -/
def insertBy {α : Type} (le : α → α → Bool) (x : α) : List α → List α
  | [] => [x]
  | y :: ys => if le x y then x :: y :: ys else y :: insertBy le x ys

/-- Sorts a list; equals keep their order. -/
def sortBy {α : Type} (le : α → α → Bool) : List α → List α
  | [] => []
  | x :: xs => insertBy le x (sortBy le xs)

/-! ## Record tables -/

/-- The record of a unit; `d` is the record of a unit that nothing is listed for. -/
def Tab.get {α : Type} (d : α) : Tab α → Nat → α
  | [], _ => d
  | (k, v) :: r, n => if k = n then v else Tab.get d r n

/-- The table without the records of a unit. -/
def Tab.erase {α : Type} : Tab α → Nat → Tab α
  | [], _ => []
  | (k, u) :: r, n => if k = n then Tab.erase r n else (k, u) :: Tab.erase r n

/-- Replaces the record of a unit, keeping the table strictly rising and free of initial records. -/
def Tab.put {α : Type} [DecidableEq α] (d : α) : Tab α → Nat → α → Tab α
  | [], n, v => if v = d then [] else [(n, v)]
  | (k, u) :: r, n, v =>
    if n < k then (if v = d then Tab.erase ((k, u) :: r) n else (n, v) :: (k, u) :: r)
    else if k = n then (if v = d then Tab.erase r n else (n, v) :: r)
    else (k, u) :: Tab.put d r n v

/-! ## The store of points -/

/-- The raw word of a point; an unlisted point holds the value of its table (R22, R356). -/
def Store.get : Store → Pt → Word
  | [], p => ptDflt p
  | (q, w) :: r, p => if q = p then w else Store.get r p

/-- The store without the entries of a point. -/
def Store.erase : Store → Pt → Store
  | [], _ => []
  | (q, v) :: r, p => if q = p then Store.erase r p else (q, v) :: Store.erase r p

/-- Writes a point, keeping the canonical form. -/
def Store.put : Store → Pt → Word → Store
  | [], p, w => if w = ptDflt p then [] else [(p, w)]
  | (q, v) :: r, p, w =>
    if p.lt q then (if w = ptDflt p then Store.erase ((q, v) :: r) p else (p, w) :: (q, v) :: r)
    else if q = p then (if w = ptDflt p then Store.erase r p else (p, w) :: r)
    else (q, v) :: Store.put r p w

/-- Whether a store is strictly rising. -/
def Store.rising : Store → Bool
  | [] => true
  | [_] => true
  | a :: b :: r => Pt.lt a.1 b.1 && Store.rising (b :: r)

/-- The canonical form of a store: strictly rising, no entry equal to what an unlisted point reads as. -/
def Store.wf (st : Store) : Bool := Store.rising st && st.all (fun e => e.2 != ptDflt e.1)

/-! ## Reading points -/

/-- The raw word of a point as the block holds it. -/
def State.w (s : State) (f : Field) (i : Nat := 0) (j : Nat := 0) : Word := Store.get s.pts ⟨f, i, j⟩

/-- A point read as an unsigned integer. -/
def State.n (s : State) (f : Field) (i : Nat := 0) (j : Nat := 0) : Nat := (s.w f i j).toNat

/-- A point read as a signed integer. -/
def State.z (s : State) (f : Field) (i : Nat := 0) (j : Nat := 0) : Int := (s.w f i j).toInt

/-- A point read as the value its type gives it. -/
def State.r (s : State) (f : Field) (i : Nat := 0) (j : Nat := 0) : Rat := (entry f).ty.dec (s.w f i j)

/-- A 64-bit quantity of two points (R27). -/
def State.n64 (s : State) (f : Field) (i : Nat := 0) : Nat := s.n f i 0 + 2 ^ 32 * s.n f i 1

/-- A signed 64-bit quantity of two points. -/
def State.z64 (s : State) (f : Field) (i : Nat := 0) : Int := (BitVec.ofNat 64 (s.n64 f i)).toInt

/-! ## Writing points -/

/-- Writes the raw word of a point. -/
def State.put (s : State) (f : Field) (i : Nat) (w : Word) (j : Nat := 0) : State :=
  s.withPts (Store.put s.pts ⟨f, i, j⟩ w)

/-- Writes an unsigned integer, modulo 2^32. -/
def State.putN (s : State) (f : Field) (i v : Nat) (j : Nat := 0) : State := s.put f i (Word.ofNat v) j

/-- Writes a signed integer, modulo 2^32. -/
def State.putZ (s : State) (f : Field) (i : Nat) (v : Int) (j : Nat := 0) : State := s.put f i (Word.ofInt v) j

/-- Writes a value in the point's type, rounded by R532. -/
def State.putR (s : State) (f : Field) (i : Nat) (v : Rat) (j : Nat := 0) : State := s.put f i ((entry f).ty.enc v) j

/-- Writes a 64-bit quantity into its two points (R27). -/
def State.put64 (s : State) (f : Field) (i v : Nat) : State :=
  (s.putN f i (v % 2 ^ 32) 0).putN f i (v / 2 ^ 32) 1

/-- Writes a signed 64-bit quantity. -/
def State.putZ64 (s : State) (f : Field) (i : Nat) (v : Int) : State := s.put64 f i (BitVec.ofInt 64 v).toNat

/-- Adds one to a counter point, modulo 2^32 (R525). -/
def State.inc (s : State) (f : Field) (i : Nat := 0) (j : Nat := 0) : State := s.putN f i (s.n f i j + 1) j

/-- Adds to a counter point, modulo 2^32. -/
def State.addN (s : State) (f : Field) (i v : Nat) (j : Nat := 0) : State := s.putN f i (s.n f i j + v) j

/-! ## Outputs, free values, time -/

/-- Records what the block drives. -/
def State.emit (s : State) (o : Out) : State := s.withOut (o :: s.out)

/-- The next free word and the state after drawing it. -/
def State.drawWord (s : State) : Word × State := (Config.freeWord s.free, s.withFree (s.free + 1))

/-- The next free number and the state after drawing it. -/
def State.drawRat (s : State) : Rat × State := (Config.freeRat s.free, s.withFree (s.free + 1))

/-- T_E in force, in nanoseconds. -/
def State.te (s : State) : Nat := s.clk.te

/-- The epoch setting whose T_E is in force (R3). -/
def settingOf (te : Nat) : Nat := if te = 25000 then 0 else if te = 50000 then 1 else 2

/-- The present epoch. -/
def State.epoch (s : State) : Nat := s.clk.epoch

/-- Device time to which the block has advanced. -/
def State.now (s : State) : Nat := s.clk.now

/-- Advances device time to an instant of the present epoch; an instant already past changes nothing. -/
def State.advance (s : State) (t : Nat) : State := s.withClk { s.clk with now := max s.clk.now t }

/-- Whole epochs in a number of milliseconds, rounded up. -/
def epochsOfMs (te ms : Nat) : Nat := (ms * 1000000 + te - 1) / te

/-- Whether the firmware runs (`STATUS.BOOT` 0). -/
def State.up (s : State) : Bool := s.dev.powered && s.dev.boot == 0

/-- The device mode code of Table 10.1. -/
def State.mode (s : State) : Nat := s.n .devMode

/-- Whether permit tokens flow: Run, Override or Halt (R298). -/
def modeRuns (m : Nat) : Bool := m == 3 || m == 4 || m == 5

/-- Runs a function over the numbers below a bound, lowest first. -/
def forN : Nat → (Nat → State → State) → State → State
  | 0, _, s => s
  | n + 1, f, s => f n (forN n f s)

/-- Runs a function over a list, first element first. -/
def forL {α : Type} : List α → (α → State → State) → State → State
  | [], _, s => s
  | a :: as, f, s => forL as f (f a s)

/-- Runs a function when a condition holds. -/
def whenS (c : Bool) (f : State → State) (s : State) : State := if c then f s else s

end Sys2Proof.Machine
end

