-- ==== Sys2Proof/Machine/Irq.lean ====
section
/-!
DEFINITION. Irq.lean: the interrupt controller and the cores (chapter 16): sources, presentation, claim, completion,
withdrawal, sleep and wake. `irqFire` and `irqLevel` are what every other unit calls when it signals a source.
-/
namespace Sys2Proof.Machine

/-! ## Sources -/

/-- Whether an ID names a source (R458, Table 16.2). -/
def irqValid (id : Nat) : Bool :=
  (1 ≤ id && id ≤ 10) || (12 ≤ id && id ≤ 125) || (128 ≤ id && id ≤ 147) || (160 ≤ id && id ≤ 243)

/-- Sources 1 to 5, which leave a dead letter when withdrawn (R466). -/
def irqPrivileged (id : Nat) : Bool := 1 ≤ id && id ≤ 5

/-- Sources that plant logic may own by grant (Table 16.2). -/
def irqGrantable (id : Nat) : Bool := irqValid id && 6 ≤ id && id ≤ 223

/-- DI and SYNC_IN sources, whose kind and filter `SRC_CFG` selects (R460). -/
def irqPin (id : Nat) : Bool := 16 ≤ id && id ≤ 32

def State.src (s : State) (id : Nat) : Src := Tab.get Src.init s.irq.srcs id

def State.core (s : State) (c : Nat) : CoreIf := Tab.get CoreIf.init s.irq.cores c

def State.putSrc (s : State) (id : Nat) (v : Src) : State :=
  s.withIrq { s.irq with srcs := Tab.put Src.init s.irq.srcs id v }

def State.putCore (s : State) (c : Nat) (v : CoreIf) : State :=
  s.withIrq { s.irq with cores := Tab.put CoreIf.init s.irq.cores c v }

/-- Whether a source is of kind level (Table 16.2; for pins, `SRC_CFG.MODE` 2). -/
def State.irqIsLevel (s : State) (id : Nat) : Bool :=
  irqPrivileged id && id != 2 || irqPin id && (s.src id).mode == 2

/-- Whether plant logic owns a source (R459; the on-chip rings' sources are always its own). -/
def State.irqLogicOwned (s : State) (id : Nat) : Bool :=
  (224 ≤ id && id ≤ 243) || (irqGrantable id && Arith.bit (s.n .logicIrqGrant 0 (id / 32)) (id % 32))

/-- Whether a core may write the registers of a source (R459). -/
def State.irqMayWrite (s : State) (c id : Nat) : Bool := irqValid id && (c < 2 || s.irqLogicOwned id)

/-- Target-mask bits that are not RSV for a source: the cores of its owner's partition (R459). Supervisor may write
every source's registers, of cores 2–3 for a source of plant logic too. -/
def State.irqMaskBits (s : State) (id : Nat) : Nat := if s.irqLogicOwned id then 12 else 3

/-- The pending bit of a source (R460). -/
def Src.pending (x : Src) : Bool := x.pend || x.cond

/-! ## Presentation -/

/-- Priority on top of a core's stack; 0 when empty (Table 16.5). -/
def CoreIf.running (k : CoreIf) : Nat := (k.stack.head?.map (·.2)).getD 0

/-- Whether a source can be presented to a core (R464; an active source is not presented, R467). -/
def State.canPresent (s : State) (id c : Nat) : Bool :=
  let x := s.src id
  let k := s.core c
  irqValid id && x.pending && x.enabled && !x.active && decide (max k.running k.threshold < x.prio) && Arith.bit x.mask c

/-- The cores in the order in which the controller tries them for a source: `LAST` + 1 onward (R464). -/
def irqOrder (last : Nat) : List Nat := [(last + 1) % 4, (last + 2) % 4, (last + 3) % 4, last % 4]

/-- Sources that are pending, enabled and not active, most urgent first, lower IDs first among equals. -/
def State.irqCandidates (s : State) : List Nat :=
  let ids := (s.irq.srcs.filter (fun e => irqValid e.1 && e.2.pending && e.2.enabled && !e.2.active && 0 < e.2.prio)).map (·.1)
  sortBy (fun a b => decide ((s.src b).prio < (s.src a).prio ∨ ((s.src b).prio = (s.src a).prio ∧ a ≤ b))) ids

/-- The core that a source is given, among cores that hold nothing yet: the one that has it, else the first in
`LAST` order (R464). `held` lists cores already given a source. -/
def State.irqPick (s : State) (held : List (Nat × Nat)) (id : Nat) : Option Nat :=
  let free := fun c => s.canPresent id c && !(held.any (fun h => h.1 == c))
  match [0, 1, 2, 3].find? (fun c => free c && (s.core c).presented == id) with
  | some c => some c
  | none => (irqOrder (s.src id).last).find? free

/-- The presentation that R464 gives in a state: pairs of core and source. -/
def State.irqAssign (s : State) : List (Nat × Nat) :=
  s.irqCandidates.foldl (fun held id =>
    match s.irqPick held id with
    | some c => held ++ [(c, id)]
    | none => held) []

/-- The source that a presentation gives a core; 0 for none. -/
def irqGiven (a : List (Nat × Nat)) (c : Nat) : Nat := ((a.find? (fun h => h.1 == c)).map (·.2)).getD 0

/-- The privileged source that core `c` loses without being able to take it any more, 0 for none (R466): a
displaced source, which `c` could still take, is not withdrawn. -/
def State.irqWithdrawnFrom (s : State) (c : Nat) : Nat :=
  let old := (s.core c).presented
  if irqPrivileged old && !s.canPresent old c then old else 0

/-- Whether the cores are in retention (R469). -/
def State.retained (s : State) : Bool := s.up && s.mode == 0

/-- Presents sources to cores anew and leaves the dead letters of R466; `claimed` is a source that a claim has just
taken, which is no withdrawal. Answers the cores that got a dead letter, with the IDs. -/
def State.presentAnew (s : State) (claimed : Nat) : State × List (Nat × Nat) :=
  let a := s.irqAssign
  let dead := ([0, 1, 2, 3].map (fun c => (c, s.irqWithdrawnFrom c))).filter (fun e => e.2 != 0 && e.2 != claimed)
  let s1 := forN 4 (fun c t =>
    let k := t.core c
    let d := irqGiven dead c
    let k := if d = 0 then k else { k with deadPending := true, deadId := d }
    let k := { k with presented := irqGiven a c }
    t.putCore c k) s
  (s1, dead)

/-- Presents sources anew, but in Dormant, where the cores are in retention: what becomes pending is presented after the wake
(R469). -/
def State.represent (s : State) (claimed : Nat) : State × List (Nat × Nat) :=
  if s.retained then (s, []) else s.presentAnew claimed

/-! ## Sleep -/

/-- Marks every sleeping core that a source may go to as waking (R469): enabled, priority 1 or more, in the mask. -/
def State.irqWakeFor (s : State) (id : Nat) : State :=
  let x := s.src id
  if x.enabled && 0 < x.prio && x.pending && !s.retained then
    forN 4 (fun c t =>
      let k := t.core c
      if k.asleep && (Arith.bit x.mask c || k.presented == id) then t.putCore c { k with waking := true } else t) s
  else s

/-! ## What units call -/

/-- Re-presents after a change of the sources listed in `ids`. Dead letters count in `device.core[c].dead_letters`
and queue an `IRQ_DEAD_LETTER` report, which `raise` sends (`irqDead` collects them). -/
def State.irqSettle (s : State) (ids : List Nat) (claimed : Nat := 0) : State × List (Nat × Nat) :=
  let (s1, dead) := s.represent claimed
  let s2 := forL dead (fun d t => t.inc .coreDeadLetters d.1) s1
  (forL ids (fun id t => t.irqWakeFor id) s2, dead)

/-- An edge source fires (R460). Firing withdraws nothing, so there is no dead letter. -/
def State.irqFire (s : State) (id : Nat) : State :=
  if irqValid id then
    ((s.putSrc id { s.src id with pend := true }).irqSettle [id]).1
  else s

/-- An edge source fires once for each ID of a list. -/
def State.irqFireAll (s : State) (ids : List Nat) : State := forL ids (fun id t => t.irqFire id) s

/-! ## Registers (Tables 16.3 to 16.5) -/

/-- Bits of a word of 32 as IDs of bitmap word `k`. -/
def irqIds (k : Nat) (w : Word) : List Nat :=
  (List.range 32).filterMap (fun i => if Arith.bit w.toNat i then some (32 * k + i) else none)

/-- A word of 32 bits from a test on IDs. -/
def irqWord (k : Nat) (p : Nat → Bool) : Nat :=
  (List.range 32).foldl (fun acc i => if p (32 * k + i) then acc + 2 ^ i else acc) 0

/-- `STATUS` of a core (Table 16.5). -/
def CoreIf.status (k : CoreIf) : Nat :=
  Arith.b2n k.stackFault + 2 * Arith.b2n k.asleep + 4 * Arith.b2n k.deadPending + 2 ^ 8 * k.stack.length + 2 ^ 16 * k.running

/-- What a 4-byte read of the controller returns (R462, Tables 16.3 to 16.5). -/
def State.irqRead (s : State) (off : Nat) : Nat :=
  if off < 0x1000 then
    let x := s.src (off / 4)
    if irqValid (off / 4) then x.prio + 2 ^ 8 * x.mode + 2 ^ 16 * x.filter else 0
  else if off < 0x2000 then
    let id := (off - 0x1000) / 4
    if irqValid id then (s.src id).mask + 2 ^ 8 * (s.src id).last else 0
  else if off < 0x2100 then irqWord ((off - 0x2000) % 0x80 / 4) (fun id => (s.src id).pending)
  else if off < 0x2200 then irqWord ((off - 0x2100) % 0x80 / 4) (fun id => (s.src id).enabled)
  else if off < 0x2280 then irqWord ((off - 0x2200) / 4) (fun id => (s.src id).active)
  else if off < 0x2300 then irqWord ((off - 0x2280) / 4) s.irqLogicOwned
  else if 0x4000 ≤ off && off < 0x4400 then
    let k := s.core ((off - 0x4000) / 0x100)
    let o := (off - 0x4000) % 0x100
    if o = 0x04 then k.claimed
    else if o = 0x0C then k.threshold
    else if o = 0x10 then k.status
    else if o = 0x14 then k.presented
    else if o = 0x18 then k.deadId
    else if o = 0x1C then k.faultEoi + 2 ^ 16 * k.faultTop
    else if 0x40 ≤ o && o ≤ 0xB8 then
      match k.stack.reverse[(o - 0x40) / 4]? with
      | some e => e.1 + 2 ^ 16 * e.2
      | none => 0
    else 0
  else 0

end Sys2Proof.Machine
end

