-- ==== Sys2Proof/Machine/Rings.lean ====
section
/-!
DEFINITION. Rings.lean: ring indices, mirrors, moderation and interrupts of the rings (R331, R333, R334, R349), for
the host and on chip.
-/
namespace Sys2Proof.Machine

/-- Agent number: 0 host, 1 plant logic (R383). -/
def agentNo : Agent → Nat
  | .host => 0
  | .logic => 1

/-- Key of an agent's ring `n` in the ring table: host rings 0–20, on-chip rings 32 + n (R456). -/
def ringKey (agent n : Nat) : Nat := if agent = 0 then n else 32 + n

/-- The ring number of a key. -/
def ringNo (key : Nat) : Nat := key % 32

def State.ring (s : State) (key : Nat) : Ring := Tab.get Ring.init s.host.rings key

def State.putRing (s : State) (key : Nat) (r : Ring) : State :=
  s.withHost { s.host with rings := Tab.put Ring.init s.host.rings key r }

/-- Number of entries of a ring (Table 11.5). -/
def Ring.size (r : Ring) : Nat := 2 ^ r.logSize

/-- Whether the ring is in use: enabled and not stopped by a fault. -/
def Ring.live (r : Ring) : Bool := r.enable && !r.fault

/-- Entries between a producer index and a consumer index, both counted modulo twice the size (R334). -/
def ringDist (size p c : Nat) : Nat := (p + 2 * size - c) % (2 * size)

/-- Entries that the agent has produced and the ZV40 has not consumed. -/
def Ring.avail (r : Ring) : Nat := ringDist r.size r.peer r.idx

/-- Entries that the ZV40 has produced and the agent has not returned. -/
def Ring.used (r : Ring) : Nat := ringDist r.size r.idx r.peer

/-- Free places of a ring that the ZV40 writes. -/
def Ring.room (r : Ring) : Nat := r.size - r.used

/-- Index value as a doorbell or mirror spells it: slot in [15:0], generation in [16] (R334). -/
def Ring.spell (r : Ring) (v : Nat) : Nat := v % r.size + 2 ^ 16 * (v / r.size)

/-- The index that a doorbell word spells, none when its slot is not one of the ring. -/
def Ring.unspell (r : Ring) (w : Nat) : Option Nat :=
  if w % 2 ^ 16 < r.size then some (w % 2 ^ 16 + r.size * (w / 2 ^ 16 % 2)) else none

/-- Entry size of a ring: fixed on command, completion and event rings (Table 11.5). -/
def Ring.bytes (r : Ring) (n : Nat) : Nat :=
  if n < 8 then 64 else if n < 17 then 32 else r.entryBytes

/-! ## Interrupts of the host (R331, R349) -/

/-- Whether a vector is unmasked in the MSI-X table; entries are masked until the host clears the mask bit. -/
def State.msixOpen (s : State) (v : Nat) : Bool :=
  match s.host.msixTab.find? (fun e => e.1 == v) with
  | some e => !e.2.2.2
  | none => false

/-- Sends a message, or sets its pending bit while the vector is masked (R331). -/
def State.msix (s : State) (v : Nat) : State :=
  if s.msixOpen v then s.emit (.msix v)
  else s.withHost { s.host with msixPend := Arith.setBit s.host.msixPend v true }

/-- Signals an interrupt cause of Table 11.4 through `MSIX_MAP`. -/
def State.msixCause (s : State) (c : Nat) : State :=
  match s.host.msixMap.find? (fun e => e.1 == c) with
  | some e => if e.2.2 then s.msix e.2.1 else s
  | none => s

/-- Sends a ring's interrupt: its vector for the host, source 224 + n on chip (R349, R456). -/
def State.ringSignal (s : State) (key : Nat) : State :=
  if key < 32 then s.msix (s.ring key).vector else s.irqFire (224 + ringNo key)

/-- Mirror write of a ring's index (R334). -/
def State.mirror (s : State) (key : Nat) : State :=
  let r := s.ring key
  s.emit (.mirror key (r.spell r.idx) (s.epoch % 2 ^ 32))

/-- The ZV40 has written one entry at its slot: the index advances, the mirror follows, and the ring signals under
its moderation (R334, R349). -/
def State.ringWrote (s : State) (key : Nat) : State :=
  let r := s.ring key
  let r1 := { r with idx := (r.idx + 1) % (2 * r.size), seq := r.seq + 1, unsig := r.unsig + 1,
                     unsigAt := if r.unsig = 0 then s.now else r.unsigAt }
  let s1 := (s.putRing key r1).mirror key
  if r1.irqEn && decide (r1.modCount ≤ r1.unsig) then
    (s1.putRing key { r1 with unsig := 0 }).ringSignal key
  else s1

/-- The ZV40 has consumed one descriptor of a command ring. -/
def State.ringTook (s : State) (key : Nat) : State :=
  let r := s.ring key
  (s.putRing key { r with idx := (r.idx + 1) % (2 * r.size), waiting := none }).mirror key

/-! ## Final completions (R346) -/

/-- Gives the final completions that `p` selects a status, item and value, and what they still wait for. -/
def State.settle (s : State) (p : FinCpl → Bool) (status item value : Nat) (w : Await) : State :=
  s.withHost { s.host with fins := s.host.fins.map (fun f =>
    if p f then { f with status := status, item := item, value := value, wait := w } else f) }

/-- Whether a completion waits for records of a replay. -/
def Await.isFeed : Await → Bool
  | .feed _ => true
  | _ => false

/-- The item field of a completion that names no item (Table 11.9). -/
def noItem : Nat := 0xFFFF

/-! ## Writes of the present epoch (R13, R30) -/

/-- Notes that a command, or a derived command, wrote a point in this epoch. -/
def State.logWrite (s : State) (cmd : Option Nat) (item : Nat) (p : Pt) : State :=
  s.withHost { s.host with wlog := s.host.wlog ++ [{ cmd := cmd, item := item, pt := p }] }

/-! ## Gathered points (R356) -/

/-- Records the commit epoch of a point, in the order of points. -/
def cepPut : List (Pt × Nat) → Pt → Nat → List (Pt × Nat)
  | [], p, e => [(p, e)]
  | (q, v) :: r, p, e => if p.lt q then (p, e) :: (q, v) :: r else if q = p then (p, e) :: r else (q, v) :: cepPut r p e

/-- Writes a gathered point: it commits with the present epoch (R90, R356). -/
def State.gather (s : State) (f : Field) (i : Nat) (w : Word) (j : Nat) : State :=
  (s.put f i w j).withCep (cepPut s.cep ⟨f, i, j⟩ s.epoch)

end Sys2Proof.Machine
end

