-- ==== Sys2Proof/Machine/So.lean ====
section
/-!
DEFINITION. So.lean: the sorting office (section 17.5) and the captures that events trigger (section 13.3). `raise`
is what every unit calls to raise an event.
-/
namespace Sys2Proof.Machine

/-! ## Reporter kinds (Table 17.6) -/

def kDevice : Nat := 0
def kRound : Nat := 1
def kCell : Nat := 2
def kDrive : Nat := 3
def kFb : Nat := 4
def kCmp : Nat := 5
def kAux : Nat := 6
def kAxis : Nat := 7
def kCan : Nat := 8
def kEngine : Nat := 9
def kShaft : Nat := 10
def kPower : Nat := 11
def kRing : Nat := 12
def kCore : Nat := 13
def kSensor : Nat := 14

/-! ## Records -/

/-- Writes an event record to an event ring, or queues it behind the records that wait, or discards and counts it
(R347, R489). `key` is 16 for the host and 48 for plant logic. -/
def State.deliver (s : State) (key : Nat) (e : EvRec) : State :=
  let q := if key = 16 then s.so.q0 else s.so.q1
  let r := s.ring key
  if q.isEmpty && r.live && 0 < r.room then
    let s1 := (s.emit (.record key e)).ringWrote key
    if key = 48 then s1.irqFire 10 else s1
  else if q.length < 1024 then
    if key = 16 then s.withSo { s.so with q0 := s.so.q0 ++ [e] } else s.withSo { s.so with q1 := s.so.q1 ++ [e] }
  else if key = 16 then (s.withSo { s.so with lost0 := s.so.lost0 + 1 }).inc .soRingLost 0 0
  else (s.withSo { s.so with lost1 := s.so.lost1 + 1 }).inc .soRingLost 0 1

/-- Writes the waiting records of one event ring while it has room (R347). -/
def State.drain (key : Nat) : Nat → State → State
  | 0, s => s
  | n + 1, s =>
    let r := s.ring key
    if r.live && 0 < r.room then
      match (if key = 16 then s.so.q0 else s.so.q1) with
      | [] => s
      | e :: q =>
        let s1 := s.withSo (if key = 16 then { s.so with q0 := q } else { s.so with q1 := q })
        let s2 := (s1.emit (.record key e)).ringWrote key
        State.drain key n (if key = 48 then s2.irqFire 10 else s2)
    else s

/-- Bitmap word `k` of a set of reporter indices (R488). -/
def bitmapWord (k : Nat) (idxs : List Nat) : Nat :=
  (List.range 32).foldl (fun acc i => if idxs.contains (32 * k + i) then acc + 2 ^ i else acc) 0

/-- Fills a bitmap slot (R488). -/
def State.putBitmap (s : State) (slot : Nat) (e : EvRec) (idxs : List Nat) : State :=
  let s1 := ((s.put64 .pmSeq slot e.seq).putN .pmCode slot e.code).putN .pmCount slot e.count
  forN 128 (fun k t => t.putN .pmBitmap slot (bitmapWord k idxs) k) s1

/-- Closes a postmark: it becomes the next event record (R487, R488, Table 17.5). -/
def State.closePostmark (s : State) (p : Postmark) (early : Bool) : State :=
  let many := decide (2 ≤ p.count)
  let e : EvRec :=
    { seq := s.so.seq + 1, code := p.code, kind := p.kind, firstIdx := p.first.idx, lastIdx := p.last.idx,
      count := min p.count 65535, time := p.first.time, param := p.first.param,
      slot := if many then s.so.slot else 0xFF,
      flags := Arith.b2n many + 2 * Arith.b2n p.differ + 4 * Arith.b2n early + 8 * Arith.b2n (decide (65535 < p.count))
               + 16 * Arith.b2n (s.mode == 7),
      span := (p.last.time - p.first.time) / 10 }
  let s1 := (s.withSo { s.so with seq := e.seq, slot := if many then (s.so.slot + 1) % 16 else s.so.slot }).put64 .soSeq 0 e.seq
  let s2 := if many then s1.putBitmap s.so.slot e p.idxs else s1
  (s2.deliver 16 e).deliver 48 e

/-! ## Reports -/

/-- Whether an open postmark can take a report (R486). -/
def Postmark.takes (p : Postmark) (code kind t : Nat) : Bool :=
  p.code == code && p.kind == kind && decide (p.t1 ≤ t + p.w) && decide (t ≤ p.t1 + p.w)

/-- A postmark with one more report (R484, R486). -/
def Postmark.add (p : Postmark) (r : Rep) : Postmark :=
  let before := fun (a b : Rep) => decide (a.time < b.time ∨ (a.time = b.time ∧ a.idx < b.idx))
  { p with first := if before r p.first then r else p.first
           last := if before p.last r then r else p.last
           count := p.count + 1
           differ := p.differ || r.param != p.first.param
           idxs := if p.idxs.contains r.idx then p.idxs else r.idx :: p.idxs }

/-- Adds a report to the first of the postmarks that can take it; they stand in ascending t1. -/
def joinPostmark (code kind : Nat) (r : Rep) : List Postmark → Option (List Postmark)
  | [] => none
  | p :: ps =>
    if p.takes code kind r.time then some (p.add r :: ps)
    else (joinPostmark code kind r ps).map (p :: ·)

/-- The postmark that a report opens. -/
def State.newPostmark (s : State) (code kind : Nat) (r : Rep) : Postmark :=
  { code := code, kind := kind, t1 := r.time, w := 1000 * s.n .soWindowUs, first := r, last := r, count := 1,
    differ := false, idxs := [r.idx] }

/-- Order of open postmarks: ascending t1, then code (R486, R487). -/
def Postmark.le (a b : Postmark) : Bool := decide (a.t1 < b.t1 ∨ (a.t1 = b.t1 ∧ a.code ≤ b.code))

/-- Opens a postmark. -/
def State.openPostmark (s : State) (p : Postmark) : State :=
  let o := insertBy Postmark.le p s.so.opened
  let s1 := s.withSo { s.so with opened := o }
  if s1.n .soOpenPeak < o.length then s1.putN .soOpenPeak 0 o.length else s1

/-- A report joins or opens a postmark; a 65th closes the earliest first, and that is itself reported (R486). The
number bounds the reports that one report can cause. -/
def State.ingest : Nat → Nat → Nat → Rep → State → State
  | fuel, code, kind, r, s =>
    match joinPostmark code kind r s.so.opened with
    | some o => s.withSo { s.so with opened := o }
    | none =>
      match s.so.opened with
      | p :: ps =>
        if 64 ≤ s.so.opened.length then
          let s1 := ((s.withSo { s.so with opened := ps }).closePostmark p true).inc .soEarlyCloses
          let s2 := s1.openPostmark (s1.newPostmark code kind r)
          match fuel with
          | 0 => s2
          | n + 1 => State.ingest n 0x0C62 kDevice { idx := 0, param := p.code, time := s.now } (s2.inc .soReports)
        else s.openPostmark (s.newPostmark code kind r)
      | [] => s.openPostmark (s.newPostmark code kind r)

/-- A report reaches the sorting office; at most 256 of one epoch come from units other than the round ends, and a
report beyond them is counted (R485). -/
def State.report (s : State) (code kind idx param t : Nat) : State :=
  if s.so.taken < 256 then
    State.ingest 2 code kind { idx := idx, param := param % 2 ^ 32, time := t }
      ((s.withSo { s.so with taken := s.so.taken + 1 }).inc .soReports)
  else (s.withSo { s.so with dropped := s.so.dropped + 1 }).inc .soIngestDropped

/-! ## Captures (R389, R390) -/

def State.capture (s : State) (i : Nat) : Capture := Tab.get Capture.init s.jrn.caps i

/-- Replaces a capture and publishes its points (Table 13.5). -/
def State.putCapture (s : State) (i : Nat) (c : Capture) : State :=
  ((s.withJrn { s.jrn with caps := Tab.put Capture.init s.jrn.caps i c }).put64 .jcapFirst i
    (if c.held then c.first else 0)).put64 .jcapLast i (if c.held then c.last else 0)

/-- Epoch of a timestamp: the present epoch's boundary bounds it from above (R389). -/
def State.epochAt (s : State) (t : Nat) : Nat :=
  if s.clk.t0 ≤ t then s.epoch + (t - s.clk.t0) / s.te
  else s.epoch - (s.clk.t0 - t + s.te - 1) / s.te

/-- Publishes `device.journal.state` (Table 13.5). -/
def State.jrnPublish (s : State) : State :=
  let recOn := s.mode == 1 || s.mode == 2 || modeRuns s.mode || s.mode == 6
  let v := if !recOn then 3 else if !s.jrn.exports.isEmpty then 2
           else if s.jrn.caps.any (fun e => e.2.recording) then 1 else 0
  s.putN .jrnState 0 v

/-- Epoch of the checkpoint at which a capture from epoch `want` starts, and whether it reaches that far back. -/
def captureStart (live : List MailRec) (want : Nat) : Nat × Bool :=
  let cks := (live.filter (fun m => m.kind == 2)).map (·.epoch)
  match (cks.filter (fun e => decide (e ≤ want))).getLast? with
  | some e => (e, true)
  | none => (cks.head?.getD want, false)

/-- The records of a window from the checkpoint of an epoch on, up to another epoch. -/
def recsFrom (live : List MailRec) (first last : Nat) : List MailRec :=
  (live.dropWhile (fun m => !(m.kind == 2 && m.epoch == first))).filter (fun m => decide (m.epoch ≤ last))

/-- The newest epoch among some records. -/
def lastEpoch (recs : List MailRec) : Nat := recs.foldl (fun a m => max a m.epoch) 0

/-- A trigger at epoch `t` with windows in ms: extends the capture that still records, opens the lowest free one, or
is refused when four are held (R389, R390). Answers the capture. -/
def State.captureTrigger (s : State) (t pre post : Nat) : State × Option Nat :=
  let last := t + epochsOfMs s.te post
  match s.jrn.caps.find? (fun e => e.2.recording) with
  | some (i, c) => (((s.putCapture i { c with post := max c.post last }).inc .jcapTriggers i).jrnPublish, some i)
  | none =>
    match [0, 1, 2, 3].find? (fun i => !(s.capture i).held) with
    | none => (s.report 0x0B03 kDevice 0 0 s.now, none)
    | some i =>
      let (first, reach) := captureStart s.jrn.live (t - epochsOfMs s.te pre)
      let recs := recsFrom s.jrn.live first last
      let s1 := (s.putCapture i { Capture.init with held := true, first := first, last := lastEpoch recs, post := last,
                                                    recording := true, recs := recs }).putN .jcapTriggers i 1
      ((if reach then s1 else s1.report 0x0B02 kDevice 0 0 s.now).jrnPublish, some i)

/-! ## Raising events -/

/-- The interrupt source that an event fires by its code and reporter (Table 16.2): rounds for every event of
Table 3.15, shaft and power groups for every event of Table 6.12, profile engines for the five events named there. -/
def eventIrq (code kind idx : Nat) : Option Nat :=
  if (code / 256 = 1 ∨ code / 256 = 2) ∧ kind = kRound then some (208 + idx)
  else if code / 256 = 2 ∧ kind = kCell then some (208 + idx / 256)
  else if code / 256 = 3 ∧ kind = kShaft then some (192 + idx)
  else if code / 256 = 3 ∧ kind = kPower then some (200 + idx)
  else none

/-- Whether a code is one of the journal's trigger codes (R389). -/
def State.isTrigger (s : State) (code : Nat) : Bool :=
  (List.range 16).any (fun k => s.n .jrnTrigCode 0 k == code && code != 0)

/-- Raises an event with a timestamp: report, interrupt source and journal trigger (R389, R484). An event that a
capture raises for itself starts no further capture. -/
def State.raiseAt (s : State) (code kind idx param t : Nat) : State :=
  let s1 := s.report code kind idx param t
  let s2 := match eventIrq code kind idx with
            | some id => s1.irqFire id
            | none => s1
  if s2.isTrigger code then (s2.captureTrigger (s2.epochAt t) (s2.n .jrnPreMs) (s2.n .jrnPostMs)).1 else s2

/-- Raises an event of a hardware unit or of firmware, timestamped now. -/
def State.raise (s : State) (code kind idx param : Nat) : State := s.raiseAt code kind idx param s.now

/-- Raises an event of a lane, timestamped t0 of the epoch computed (R484). -/
def State.raiseLane (s : State) (code kind idx param : Nat) : State := s.raiseAt code kind idx param s.clk.t0

/-- Parameter word of a signed integer. -/
def zParam (z : Int) : Nat := (Word.ofInt z).toNat

/-! ## Level sources of the interrupt controller -/

/-- Raises `IRQ_DEAD_LETTER` for each dead letter (R466, Table 16.8). -/
def State.deadLetters (s : State) (dead : List (Nat × Nat)) : State :=
  forL dead (fun d t => t.raise 0x0C02 kCore d.1 d.2) s

/-- Re-presents after a change of sources, with the dead letters reported. -/
def State.irqUpdate (s : State) (ids : List Nat) (claimed : Nat := 0) : State :=
  let (s1, dead) := s.irqSettle ids claimed
  s1.deadLetters dead

/-- The condition of a level source begins or ends (R460). -/
def State.irqLevel (s : State) (id : Nat) (on : Bool) : State :=
  if irqValid id then (s.putSrc id { s.src id with cond := on }).irqUpdate [id] else s

end Sys2Proof.Machine
end

