-- ==== Sys2Proof/Machine/Flags.lean ====
section
/-!
DEFINITION. Flags.lean: the status words whose bits the machine sets and clears one at a time.
-/
namespace Sys2Proof.Machine

/-- Writes a bit of `drive[d].status` (Tables 4.8 and 6.5). -/
def State.drvFlag (s : State) (d bit : Nat) (on : Bool) : State :=
  s.putN .drvStatus d (Arith.setBit (s.n .drvStatus d) bit on)

/-- A bit of `drive[d].status`. -/
def State.hasFlag (s : State) (d bit : Nat) : Bool := Arith.bit (s.n .drvStatus d) bit

/-- Writes a status bit of an engine. -/
def State.engFlag (s : State) (e bit : Nat) (on : Bool) : State :=
  s.putN .prfStatus e (Arith.setBit (s.n .prfStatus e) bit on)

/-- Writes a status bit of an axis (Table 8.6). -/
def State.axFlag (s : State) (a bit : Nat) (on : Bool) : State :=
  s.putN .axisStatus a (Arith.setBit (s.n .axisStatus a) bit on)

/-- Sets or clears bit k of the status of object o of controller c (Table 15.3). -/
def State.objFlag (s : State) (c o k : Nat) (on : Bool) : State :=
  s.putN .objStatus (c * 256 + o) (Arith.setBit (s.n .objStatus (c * 256 + o)) k on)

/-- Sets or clears the bit of a Safe cause (Table 10.4). -/
def State.safeBit (s : State) (code : Nat) (on : Bool) : State :=
  s.putN .devSafeCause 0 (Arith.setBit (s.n .devSafeCause) (code - 1) on)

end Sys2Proof.Machine
end

