-- ==== Sys2Proof/Machine/Regimes.lean ====
section
/-!
DEFINITION. Regimes.lean: drive regimes, their transitions and their commands (sections 6.1 and 6.5 to 6.7).
-/
namespace Sys2Proof.Machine

/-! ## Drives -/

def State.drv (s : State) (d : Nat) : Drv := Tab.get Drv.init s.drvs d

def State.putDrv (s : State) (d : Nat) (v : Drv) : State := s.withDrvs (Tab.put Drv.init s.drvs d v)

/-- Drives that the active description configures, ascending. -/
def State.drives (s : State) : List Nat := s.plant.drives.map (·.drive)

def State.driveDesc (s : State) (d : Nat) : Option DriveDesc := s.plant.drives.find? (fun x => x.drive == d)

/-- A line converter (type 3 of Table 4.1, `drive[d].type`). -/
def State.isLine (s : State) (d : Nat) : Bool := s.n .drvType d == 3

/-- The shaft group of a drive (R20). -/
def State.shaftOf (s : State) (d : Nat) : Option Nat :=
  (s.plant.shafts.find? (fun g => g.members.contains d)).map (·.group)

/-- Members of a shaft group, ascending. -/
def State.shaftMembers (s : State) (g : Nat) : List Nat :=
  ((s.plant.shafts.find? (fun x => x.group == g)).map (·.members)).getD []

/-- The drive whose points serve a drive's loops, its governor and its loss policy: the first of the group's `leader_order`, else
the drive itself (R196, R197, R324). -/
def State.policyDrive (s : State) (d : Nat) : Nat :=
  match s.shaftOf d with
  | some g => if s.n .shaftLeaderOrder g 0 < 32 then s.n .shaftLeaderOrder g 0 else d
  | none => d

/-- Ratio of a member to its group's shaft; 1 outside a group (R198). -/
def State.ratioOf (s : State) (d : Nat) : Rat :=
  match s.shaftOf d with
  | some g => s.r .shaftRatio g (((s.shaftMembers g).findIdx? (· == d)).getD 0)
  | none => 1

/-- Rated torque of a group at its shaft, N·m (R196). -/
def State.groupRated (s : State) (g : Nat) : Rat :=
  (s.shaftMembers g).foldl (fun x m => x + s.r .drvRatedTorqueNm m * s.ratioOf m) 0

/-- The control mode that a drive follows (R115, R197). -/
def State.ctrlMode (s : State) (d : Nat) : Nat :=
  match s.shaftOf d with
  | some g => s.n .shaftCtrlMode g
  | none => s.n .drvCtrlMode d

/-- The last effective torque that a drive's speed loop takes over: in a shaft group the group's, in % of its rated torque (R115,
R199). -/
def State.lastTorque (s : State) (d : Nat) : Rat :=
  match s.shaftOf d with
  | some g => 100 * Arith.quot (Tab.get ShaftSt.init s.shafts g).tEff (s.groupRated g)
  | none => (s.drv d).tEff

/-- Rated phase peak voltage. -/
def State.phasePeak (s : State) (d : Nat) : Rat := s.r .drvRatedVoltageV d * Arith.quot (Config.laneSqrt 2) (Config.laneSqrt 3)

/-! ## Shock governors (R190, R196) -/

/-- A drive's own governor. -/
def Drv.gov (k : Drv) : Gov :=
  { slopeN := k.slopeN, levelN := k.levelN, shock := k.shock, clearAt := k.clearAt, absorb := k.absorb, holdAt := k.holdAt,
    holdUsed := k.holdUsed }

def Drv.withGov (k : Drv) (v : Gov) : Drv :=
  { k with slopeN := v.slopeN, levelN := v.levelN, shock := v.shock, clearAt := v.clearAt, absorb := v.absorb,
           holdAt := v.holdAt, holdUsed := v.holdUsed }

/-- The governor whose response a drive follows: its group's, else its own (R196). -/
def State.govOf (s : State) (d : Nat) : Gov :=
  match s.shaftOf d with
  | some g => (Tab.get ShaftSt.init s.shafts g).gov
  | none => (s.drv d).gov

def State.putGov (s : State) (d : Nat) (v : Gov) : State :=
  match s.shaftOf d with
  | some g => s.withShafts (Tab.put ShaftSt.init s.shafts g { Tab.get ShaftSt.init s.shafts g with gov := v })
  | none => s.putDrv d ((s.drv d).withGov v)

/-- The drives that follow the same governor as a drive. -/
def State.governed (s : State) (d : Nat) : List Nat :=
  match s.shaftOf d with
  | some g => s.shaftMembers g
  | none => [d]

def State.regime (s : State) (d : Nat) : Nat := s.n .drvRegime d

def State.halting (s : State) (d : Nat) : Bool := s.n .drvHalting d == 1

/-- Regimes in which the gates switch (Table 6.1). -/
def regimeRuns (r : Nat) : Bool := 1 ≤ r && r ≤ 5

/-- Whether the drive's gates switch: by its regime, while halting, or while identifying (Table 6.1). -/
def State.switching (s : State) (d : Nat) : Bool :=
  modeRuns s.mode && (regimeRuns (s.regime d) || (s.regime d == 0 && (s.halting d || s.n .drvIdState d == 1)))

/-- A drive at rest: Stopped with `halting` 0, Faulted or Blocked (R309, R310). -/
def State.atRest (s : State) (d : Nat) : Bool :=
  (s.regime d == 0 && !s.halting d) || s.regime d == 6 || s.regime d == 7

/-! ## Transitions (Tables 6.1 and 6.3) -/

/-- Drops what belongs to the regime that a drive leaves: Render and Crash restart the speed reference from the
present speed and the integrator from the last torque (R194, R217); gates blocked during Release leave the brake as it
is and are reported (R222). -/
def State.leaveRegime (s : State) (d new : Nat) : State :=
  let k := s.drv d
  let old := s.regime d
  let k := if old = 3 ∨ old = 4 then { k with spdX := s.lastTorque d, refEff := s.r .drvSpeedEst d, renderShock := false,
                                              renderCmd := false, crashHist := [] } else k
  let s1 := s.putDrv d k
  let s2 := if old = 4 then s1.putN .drvCrashPhase d 0 else s1
  if old = 5 ∧ (new = 6 ∨ new = 7) then s2.raiseLane 0x0333 kDrive d 0 else s2

/-- Order in which a drive takes regimes whose conditions arise in one epoch (R186). -/
def regimeRank (r : Nat) : Nat :=
  match r with
  | 7 => 0
  | 6 => 1
  | 0 => 2
  | 5 => 3
  | 4 => 4
  | 3 => 5
  | _ => 6

/-- The regime with which a drive began the present epoch: what Table 6.2 admits is judged against it (R186). -/
def State.began (s : State) (d : Nat) : Nat := if (s.drv d).turnAt = some s.epoch then (s.drv d).began else s.regime d

/-- Whether a drive may enter a regime: not after one of the same epoch that ranks before it (R186). -/
def State.mayTurn (s : State) (d new : Nat) : Bool :=
  !((s.drv d).turnAt == some s.epoch && decide (regimeRank (s.regime d) < regimeRank new))

/-- A drive enters a regime; a change is reported and fires source 160 + d (R180, Table 16.2). -/
def State.enterRegime (s : State) (d new : Nat) : State :=
  let old := s.regime d
  if old = new ∨ ¬s.mayTurn d new then s
  else
    let s1 := (s.leaveRegime d new).putN .drvRegime d new
    let s2 := (s1.putN .drvHalting d 0).putDrv d { s1.drv d with turnAt := some s.epoch, began := s.began d }
    (s2.raiseLane 0x0324 kDrive d (old + 2 ^ 8 * new)).irqFire (160 + d)

/-- Normal, or Limp while a `limp_cause` bit is set (R182). -/
def State.normalOrLimp (s : State) (d : Nat) : Nat := if s.n .drvLimpCause d = 0 then 1 else 2

/-- Halt-style deceleration begins (R183): Stopped with `halting` 1. A drive in speed mode, or in Render, goes on from its own
reference; one in profile mode from the profile's speed, one in torque mode or in Crash from its present speed, with the
integrator preset so that its first demand is its last effective torque (R115). -/
def State.haltStart (s : State) (d : Nat) : State :=
  if !s.mayTurn d 0 then s
  else
    let old := s.regime d
    let mode := s.ctrlMode d
    let last := (s.drv d).tEff
    let s1 := (s.enterRegime d 0).putN .drvHalting d 1
    let k := s1.drv d
    let own := old == 3 || (old != 4 && mode != 0)
    s1.putDrv d { k with stopAt := if s1.isLine d then some s1.now else none, rampFrom := last, rampAt := s1.now,
                         refEff := if own then k.refEff else s1.r .drvSpeedEst d,
                         preset := k.preset || old == 4 || (old != 3 && mode != 1) }

/-- Whether a member of a shaft group is in service: its regime switches and it does not halt alone (R198). -/
def State.inService (s : State) (d : Nat) : Bool := s.switching d

/-- A member of a shaft group that must halt on its own cause stops at once with `halting` 0, unless it is the last
member in service (R205); a drive in no group decelerates. -/
def State.haltAlone (s : State) (d : Nat) : State :=
  match s.shaftOf d with
  | some g =>
    if (s.shaftMembers g).any (fun m => m != d && s.inService m) then s.enterRegime d 0 else s.haltStart d
  | none => s.haltStart d

/-- Sets a `limp_cause` bit; a drive in Normal goes to Limp (R182, Table 6.3). -/
def State.setLimp (s : State) (d bit : Nat) : State :=
  let s1 := s.putN .drvLimpCause d (Arith.setBit (s.n .drvLimpCause d) bit true)
  if s1.regime d = 1 then s1.enterRegime d 2 else s1

/-- Clears a `limp_cause` bit; a drive in Limp without a cause goes to Normal. -/
def State.clearLimp (s : State) (d bit : Nat) : State :=
  let s1 := s.putN .drvLimpCause d (Arith.setBit (s.n .drvLimpCause d) bit false)
  if s1.regime d = 2 ∧ s1.n .drvLimpCause d = 0 then s1.enterRegime d 1 else s1

/-- Causes 1 to 8 of Table 6.4 are soft. -/
def causeSoft (c : Nat) : Bool := 1 ≤ c && c ≤ 8

/-- Marks a cause of Table 6.4 as present or gone. -/
def State.markCause (s : State) (d c : Nat) (on : Bool) : State :=
  s.putDrv d { s.drv d with causes := Arith.setBit (s.drv d).causes c on }

/-- A cause of Table 6.4 arises: the drive enters Faulted and keeps the first cause's code (R187); a soft cause in
Override or in Release is only reported (R188, R222); a Blocked drive stays Blocked (Table 6.3). -/
def State.faultDrive (s : State) (d c : Nat) : State :=
  let s0 := s.markCause d c true
  if s0.regime d = 7 then s0
  else if causeSoft c ∧ (s0.mode = 4 ∨ s0.regime d = 5) then s0.raiseLane 0x0325 kDrive d c
  else
    let s1 := if s0.n .drvFaultCause d = 0 then s0.putN .drvFaultCause d c else s0
    s1.enterRegime d 6

/-! ## Commands (Table 6.2) -/

/-- Makes the transition that a command asks for, unless the epoch has taken the drive to a regime that ranks first (R186). -/
def State.turn (s : State) (d new : Nat) (eff : State → State) : State := if s.mayTurn d new then eff s else s

/-- The first cause of Table 6.4 that stands and is applied in the present mode; 0 for none (R187, R188). -/
def State.standing (s : State) (d : Nat) : Nat :=
  ((List.range' 1 11).find? (fun c => Arith.bit (s.drv d).causes c && !(causeSoft c && s.mode == 4))).getD 0

/-- A Blocked drive becomes Stopped, and Faulted where a cause stands (Table 6.3, R187). -/
def State.unblock (s : State) (d : Nat) : State :=
  let s1 := s.enterRegime d 0
  if s1.standing d = 0 then s1 else s1.faultDrive d (s1.standing d)

/-- Conditions of `run_cmd` 1 (R184). -/
def State.runOnOk (s : State) (d : Nat) : Bool := s.began d == 0 && !s.halting d && (s.drv d).causes == 0

/-- `run_cmd` 1 takes a Stopped drive to Normal or Limp; in device Halt it decelerates at once (R189). -/
def State.runOn (s : State) (d : Nat) : State :=
  s.turn d (s.normalOrLimp d) fun s =>
    let s1 := s.putDrv d { s.drv d with refEff := s.r .drvSpeedEst d, spdX := 0, stopAt := none }
    let s2 := if s1.n .drvHostState d = 2 then s1.putN .drvHostState d 0 else s1
    let s3 := s2.enterRegime d (s2.normalOrLimp d)
    if s3.mode = 5 then s3.haltStart d else s3

/-- Regimes in which `run_cmd` 0 is accepted. -/
def State.runOffOk (s : State) (d : Nat) : Bool := let r := s.began d; r == 0 || (1 ≤ r && r ≤ 4)

/-- `run_cmd` 0 starts Halt-style deceleration and has no effect in Stopped. -/
def State.runOff (s : State) (d : Nat) : State := if s.regime d = 0 then s else s.haltStart d

def State.blockOn (s : State) (d : Nat) : State := s.enterRegime d 7

def State.blockOffOk (s : State) (d : Nat) : Bool := s.began d == 7 && (s.mode == 3 || s.mode == 4)

def State.blockOff (s : State) (d : Nat) : State := s.turn d 0 fun s => s.unblock d

def State.faultResetOk (s : State) (d : Nat) : Bool := s.began d == 6 && (s.drv d).causes == 0

def State.faultResetDo (s : State) (d : Nat) : State := s.turn d 0 fun s => (s.putN .drvFaultCause d 0).enterRegime d 0

def State.renderOnOk (s : State) (d : Nat) : Bool := s.began d == 1 || s.began d == 2

/-- Commanded Render (R194). -/
def State.renderOn (s : State) (d : Nat) : State :=
  s.turn d 3 fun s =>
    let s1 := s.enterRegime d 3
    s1.putDrv d { s1.drv d with renderCmd := true }

def State.renderOffOk (s : State) (d : Nat) : Bool := s.began d == 3

/-- The end of commanded Render: back to Normal or Limp; while a shock is declared the drive stays in Render until it clears
(Table 6.3). -/
def State.renderOff (s : State) (d : Nat) : State :=
  s.turn d (s.normalOrLimp d) fun s =>
    let k := s.drv d
    if (s.govOf d).shock then s.putDrv d { k with renderCmd := false, renderShock := true }
    else
      let s1 := s.putDrv d { k with renderCmd := false }
      s1.enterRegime d (s1.normalOrLimp d)

def State.crashOnOk (s : State) (d : Nat) : Bool :=
  (s.began d == 1 || s.began d == 2) && s.n .drvCrashEnable d == 1

/-- Crash begins with phase 1 (R216). -/
def State.crashOn (s : State) (d : Nat) : State :=
  s.turn d 4 fun s =>
    let s1 := (s.enterRegime d 4).putN .drvCrashPhase d 1
    s1.putDrv d { s1.drv d with crashHist := [(s1.now, s1.r .drvSpeedEst d)] }

def State.crashOffOk (s : State) (d : Nat) : Bool := s.began d == 4

/-- Crash aborted: Normal or Limp, the speed reference starting from the present speed (R217). -/
def State.crashOff (s : State) (d : Nat) : State := s.enterRegime d (s.normalOrLimp d)

/-- ARM is accepted in Normal, Limp, Render and Stopped (R219). -/
def State.armOk (s : State) (d : Nat) : Bool := s.began d ≤ 3

def State.releaseArmDo (s : State) (d : Nat) : State :=
  let s1 := s.putN .drvReleaseState d 1
  (s1.putDrv d { s1.drv d with armAt := s1.clk.t0 }).raiseLane 0x0330 kDrive d 0

/-- RELEASE is accepted no later than 2 s after the ARM's apply-epoch, in the regimes of Table 6.3 (R220). -/
def State.releaseOk (s : State) (d : Nat) : Bool :=
  s.began d ≤ 3 && s.n .drvReleaseState d == 1 && decide (s.clk.t0 ≤ (s.drv d).armAt + 2000000000)

/-- The emergency release starts: regime Release, `release_state` 2, brake load energised (Table 6.8 step 1). -/
def State.releaseDo (s : State) (d : Nat) : State :=
  s.turn d 5 fun s =>
    let stopped := s.regime d == 0
    let s1 := (s.enterRegime d 5).putN .drvReleaseState d 2
    let k := s1.drv d
    let k := { k with relAt := s1.clk.t0, relStopped := stopped, rampFrom := s1.lastTorque d, brakeOn := true, endStep := 0 }
    (s1.putDrv d (if stopped then { k with spdX := 0, refEff := 0 } else k)).raiseLane 0x0332 kDrive d 0

def State.endOk (s : State) (d : Nat) : Bool := s.began d == 5

/-- END: `release_state` 4, the speed reference goes to 0 at `halt_decel` (R221). -/
def State.endDo (s : State) (d : Nat) : State :=
  let s1 := s.putN .drvReleaseState d 4
  s1.putDrv d { s1.drv d with endStep := 1, stopAt := none, refEff := s1.r .drvSpeedEst d }

/-- Device Halt begins: every drive in Normal, Limp, Render or Crash decelerates; Release goes on (R189). -/
def State.haltAll (s : State) : State :=
  forL s.drives (fun d t => if 1 ≤ t.regime d ∧ t.regime d ≤ 4 then t.haltStart d else t) s

/-- The device enters a mode without tokens: every drive is Blocked (Table 10.1, Table 6.3). -/
def State.blockAll (s : State) : State := forL s.drives (fun d t => t.enterRegime d 7) s

/-- The device enters Run or Override: Blocked drives with `block_cmd` 0 are Stopped (R189, Table 6.3), or Faulted where a cause
stands (R187). -/
def State.unblockAll (s : State) : State :=
  forL s.drives (fun d t => if t.regime d = 7 ∧ t.n .drvBlockCmd d = 0 then t.unblock d else t) s

/-! ## Commands of a drive or of its group (R197) -/

/-- Whether a drive takes a command point of its own: a member of a shaft group takes its group's (R197). -/
def State.ownsCmd (s : State) (d : Nat) : Bool := s.drives.contains d && (s.shaftOf d).isNone

/-- A write of one of the command points takes effect when Table 6.2 admits it; otherwise nothing changes (R184). -/
def State.command (s : State) (f : Field) (d v : Nat) (ok : Bool) (eff : State → State) : State :=
  if ok then eff (s.putN f d v) else s

def execRunCmdOn (d : DriveNo) (s : State) : Host.Outcome State Fault Refusal :=
  .next (s.command .drvRunCmd d 1 (s.ownsCmd d && s.runOnOk d) (fun t => t.runOn d))

def execRunCmdOff (d : DriveNo) (s : State) : Host.Outcome State Fault Refusal :=
  .next (s.command .drvRunCmd d 0 (s.ownsCmd d && s.runOffOk d) (fun t => t.runOff d))

def execBlockCmdOn (d : DriveNo) (s : State) : Host.Outcome State Fault Refusal :=
  .next (s.command .drvBlockCmd d 1 (s.drives.contains d.val) (fun t => t.blockOn d))

def execBlockCmdOff (d : DriveNo) (s : State) : Host.Outcome State Fault Refusal :=
  .next (s.command .drvBlockCmd d 0 (s.drives.contains d.val && s.blockOffOk d) (fun t => t.blockOff d))

def execFaultReset (d : DriveNo) (s : State) : Host.Outcome State Fault Refusal :=
  .next (s.command .drvFaultReset d 1 (s.drives.contains d.val && s.faultResetOk d) (fun t => t.faultResetDo d))

def execRenderCmdOn (d : DriveNo) (s : State) : Host.Outcome State Fault Refusal :=
  .next (s.command .drvRenderCmd d 1 (s.ownsCmd d && s.z .drvHaulSign d != 0 && s.renderOnOk d) (fun t => t.renderOn d))

def execRenderCmdOff (d : DriveNo) (s : State) : Host.Outcome State Fault Refusal :=
  .next (s.command .drvRenderCmd d 0 (s.ownsCmd d && s.renderOffOk d) (fun t => t.renderOff d))

def execCrashCmdOn (d : DriveNo) (s : State) : Host.Outcome State Fault Refusal :=
  .next (s.command .drvCrashCmd d 1 (s.ownsCmd d && s.crashOnOk d) (fun t => t.crashOn d))

def execCrashCmdOff (d : DriveNo) (s : State) : Host.Outcome State Fault Refusal :=
  .next (s.command .drvCrashCmd d 0 (s.ownsCmd d && s.crashOffOk d) (fun t => t.crashOff d))

def execReleaseArm (d : DriveNo) (s : State) : Host.Outcome State Fault Refusal :=
  .next (s.command .drvReleaseCmd d 1 (s.ownsCmd d && s.armOk d) (fun t => t.releaseArmDo d))

def execReleaseRelease (d : DriveNo) (s : State) : Host.Outcome State Fault Refusal :=
  .next (s.command .drvReleaseCmd d 2 (s.ownsCmd d && s.releaseOk d) (fun t => t.releaseDo d))

def execReleaseEnd (d : DriveNo) (s : State) : Host.Outcome State Fault Refusal :=
  .next (s.command .drvReleaseCmd d 3 (s.ownsCmd d && s.endOk d) (fun t => t.endDo d))

/-! ## Lapses and thresholds -/

/-- Milliseconds in ns. -/
def msNs (ms : Nat) : Nat := ms * 1000000

/-- `skip_consecutive` has reached 3: deadline-drop Limp (R41, R182). -/
def execSkipLimp (d : DriveNo) (s : State) : Host.Outcome State Fault Refusal :=
  .next (if 3 ≤ s.n .drvSkipConsecutive d ∧ ¬Arith.bit (s.n .drvLimpCause d) 1 then s.setLimp d 1 else s)

/-- `skip_consecutive` has reached 8: Halt-style deceleration to Stopped (R41, Table 6.3). -/
def execSkipHalt (d : DriveNo) (s : State) : Host.Outcome State Fault Refusal :=
  .next (if 8 ≤ s.n .drvSkipConsecutive d ∧ 1 ≤ s.began d ∧ s.began d ≤ 4 then s.haltAlone d else s)

/-- `skip_consecutive` has reached 16: Faulted with cause 11 (R187). -/
def execSkipFault (d : DriveNo) (s : State) : Host.Outcome State Fault Refusal :=
  .next (if 16 ≤ s.n .drvSkipConsecutive d ∧ s.drives.contains d.val then s.faultDrive d 11 else s)

/-- After `limp_skip_clear` computed epochs the deadline-drop cause clears (R182). -/
def execLimpSkipClear (d : DriveNo) (s : State) : Host.Outcome State Fault Refusal :=
  .next (if Arith.bit (s.n .drvLimpCause d) 1 ∧ s.n .drvLimpSkipClear d ≤ (s.drv d).computed then s.clearLimp d 1 else s)

/-- The status word without some flags. -/
def State.clearFlags (s : State) (d : Nat) (bits : List Nat) : State :=
  s.putN .drvStatus d (bits.foldl (fun st b => Arith.setBit st b false) (s.n .drvStatus d))

/-- A drive after the shock that it follows has cleared: without its flags, and out of shock-caused Render unless a command keeps
it there (Table 6.3). -/
def State.afterShock (s : State) (d : Nat) : State :=
  let k := s.drv d
  let s1 := (s.putDrv d { k with renderShock := false }).clearFlags d [16, 17, 18, 19, 20, 22]
  if s1.regime d = 3 ∧ k.renderShock ∧ ¬k.renderCmd then s1.enterRegime d (s1.normalOrLimp d) else s1

/-- A governor whose shock has cleared: Hold may start again (R193, R195). -/
def Gov.cleared (v : Gov) : Gov := { v with shock := false, clearAt := none, absorb := false, holdAt := none, holdUsed := false }

/-- A declared shock clears (R195): of a shaft group for all its members (R196). -/
def State.shockClear (s : State) (d : Nat) : State :=
  (forL (s.governed d) (fun m t => t.afterShock m) (s.putGov d (s.govOf d).cleared)).raiseLane 0x0321 kDrive d 0

/-- Whether the clearing conditions of a governor have held long enough. -/
def State.shockOver (s : State) (h : Nat) (v : Gov) : Bool :=
  v.shock && (match v.clearAt with | some t => decide (t + msNs (s.n .drvShockClearMs h) ≤ s.now) | none => false)

/-- SHOCK_CLEARED of a drive: its own governor's, of which a member of a group applies no response, and the group's where the
drive heads it (R195, R196). -/
def execShockCleared (d : DriveNo) (s : State) : Host.Outcome State Fault Refusal :=
  .next (
    let member := (s.shaftOf d).isSome
    let s1 := if member ∧ s.shockOver d (s.drv d).gov then
        (s.putDrv d ((s.drv d).withGov (s.drv d).gov.cleared)).raiseLane 0x0321 kDrive d 0
      else s
    if s1.policyDrive d = d ∧ s1.shockOver d (s1.govOf d) then s1.shockClear d else s1)

/-- Hold ends at `hold_ms` (1) or when I²t reaches `i_cont`² outside Override (2); Absorb follows (R193). -/
def State.holdEnd (s : State) (d why : Nat) : State :=
  let s1 := s.putGov d { s.govOf d with holdAt := none, holdUsed := true, absorb := true }
  (forL (s1.governed d) (fun m t =>
    t.putN .drvStatus m (Arith.setBit (Arith.setBit (t.n .drvStatus m) 20 false) 19 true)) s1).raiseLane 0x0322 kDrive d why

/-- HOLD_EXPIRED of a drive or of the group that it heads (R193, R196). -/
def execHoldExpired (d : DriveNo) (s : State) : Host.Outcome State Fault Refusal :=
  .next (match (s.govOf d).holdAt with
    | some t =>
      if s.policyDrive d ≠ d then s
      else if t + msNs (s.n .drvHoldMs d) ≤ s.now then s.holdEnd d 1
      else if s.mode ≠ 4 ∧ (s.governed d).any (fun m => decide ((s.r .drvICont m) * (s.r .drvICont m) ≤ (s.drv m).theta)) then
        s.holdEnd d 2
      else s
    | none => s)

/-- A halting drive that has stayed below `stop_speed` for `stop_ms`, or a line converter after its 10 ms ramp, clears
`halting` and blocks its gates (R183). -/
def execHaltStopReached (d : DriveNo) (s : State) : Host.Outcome State Fault Refusal :=
  .next (match (s.drv d).stopAt with
    | some t =>
      let need := if s.isLine d then 10000000 else msNs (s.n .drvStopMs d)
      if s.halting d ∧ t + need ≤ s.now then
        (s.putN .drvHalting d 0).putDrv d { s.drv d with stopAt := none, tEff := 0, refEff := 0, spdX := 0 }
      else s
    | none => s)

/-- In Crash phase 1, |ω| has fallen by less than 1 % rated over the last `crash_windmill_ms` (R217). -/
def execCrashWindmill (d : DriveNo) (s : State) : Host.Outcome State Fault Refusal :=
  .next (
    let k := s.drv d
    let now := Arith.absR (s.r .drvSpeedEst d)
    let old := k.crashHist.find? (fun e => decide (e.1 + msNs (s.n .drvCrashWindmillMs d) ≤ s.now))
    match old with
    | some e =>
      if s.regime d = 4 ∧ s.n .drvCrashPhase d = 1 ∧ Arith.absR e.2 - now < 1 then
        ((s.putN .drvCrashPhase d 4).putDrv d { k with crashHist := [(s.now, now)] }).raiseLane 0x032E kDrive d 0
      else s
    | none => s)

/-- An ARM not followed by RELEASE within 2 s lapses (R219). -/
def execReleaseArmExpired (d : DriveNo) (s : State) : Host.Outcome State Fault Refusal :=
  .next (if s.n .drvReleaseState d = 1 ∧ (s.drv d).armAt + 2000000000 < s.now then
           (s.putN .drvReleaseState d 0).raiseLane 0x0331 kDrive d 0
         else s)

/-- `brake_lift_ms` after RELEASE the torque starts to ramp to 0 (Table 6.8 step 2). -/
def execBrakeLiftElapsed (d : DriveNo) (s : State) : Host.Outcome State Fault Refusal :=
  .next (
    let k := s.drv d
    if s.regime d = 5 ∧ s.n .drvReleaseState d = 2 ∧ k.relAt + msNs (s.n .drvBrakeLiftMs d) ≤ s.now then
      (s.putN .drvReleaseState d 3).putDrv d { k with rampFrom := s.lastTorque d, rampAt := s.now }
    else s)

/-- The END sequence goes on (R221): the drum has stopped and the brake load is de-energised; `brake_lift_ms` later the
torque ramps to 0; after the ramp the drive is Stopped. One command makes the step that is due. -/
def execReleaseEndSequence (d : DriveNo) (s : State) : Host.Outcome State Fault Refusal :=
  .next (
    let k := s.drv d
    if s.regime d ≠ 5 then s
    else match k.endStep, k.stopAt with
      | 1, some t =>
        if t + msNs (s.n .drvStopMs d) ≤ s.now then
          s.putDrv d { k with endStep := 2, endAt := s.now, brakeOn := false, stopAt := none }
        else s
      | 2, _ =>
        if k.endAt + msNs (s.n .drvBrakeLiftMs d) ≤ s.now then
          s.putDrv d { k with endStep := 3, rampFrom := s.lastTorque d, rampAt := s.now }
        else s
      | 3, _ =>
        if k.rampAt + msNs (s.n .drvReleaseRampMs d) ≤ s.now then
          ((s.putDrv d { k with endStep := 0, tEff := 0 }).enterRegime d 0).putN .drvReleaseState d 0
        else s
      | _, _ => s)

end Sys2Proof.Machine
end

