-- ==== Sys2Proof/Machine/Feedback.lean ====
section
/-!
DEFINITION. Feedback.lean: the feedback channels, position compare and pass-through (chapter 7).
-/
namespace Sys2Proof.Machine

def State.fb (s : State) (n : Nat) : Fb := Tab.get Fb.init s.fbs n

def State.putFb (s : State) (n : Nat) (v : Fb) : State := s.withFbs (Tab.put Fb.init s.fbs n v)

def State.cmp (s : State) (u : Nat) : CmpSt := Tab.get CmpSt.init s.cmps u

def State.putCmp (s : State) (u : Nat) (v : CmpSt) : State := s.withCmps (Tab.put CmpSt.init s.cmps u v)

/-- Whether a channel is configured and has started, and its receivers are powered: every mode but Dormant (R226, R231). -/
def State.fbOn (s : State) (n : Nat) : Bool := s.n .fbKind n != 0 && s.n .fbState n != 0 && !(s.fb n).waits && s.mode != 0

/-- Counts that one edge is worth (Table 7.1, R228). -/
def fbWeight (kind : Nat) : Int := if kind = 4 then 4096 else 1

/-- Sets or clears a status flag of a channel, which its next latch publishes in `fb[n].status` (R230, Table 7.4). -/
def State.fbFlag (s : State) (n bit : Nat) (on : Bool) : State :=
  s.putFb n { s.fb n with flags := Arith.setBit (s.fb n).flags bit on }

/-! ## Faults (R241) -/

/-- A channel is declared faulted; the first cause stays (R241). -/
def State.fbFault (s : State) (n cause : Nat) : State :=
  if s.n .fbState n = 1 then
    (((s.putN .fbState n 2).putN .fbFaultCause n cause).raise 0x0402 kFb n cause).irqFire (128 + n)
  else s

/-- An illegal transition: it does not change the count; sixteen within 1 s fault the channel (R229). -/
def State.fbIllegal (s : State) (n t : Nat) : State :=
  let x := s.fb n
  let bad := t :: x.bad.filter (fun u => decide (t < u + 1000000000))
  let s1 := (((s.putFb n { x with bad := bad }).inc .fbErrors n).fbFlag n 3 true).raise 0x0403 kFb n 0
  if 16 ≤ bad.length then s1.fbFault n 3 else s1

/-! ## Index check (R240) -/

/-- A mismatch of the index check, with the measured count. -/
def State.idxMismatch (s : State) (n : Nat) (count : Int) : State :=
  let s1 := (s.inc .fbIndexMisses n).raise 0x0401 kFb n (zParam count)
  if 3 ≤ s1.n .fbIndexMisses n then s1.fbFault n 1 else s1

/-- Edges between two indices (kinds 1 and 4), four for each line. -/
def State.idxEdges (s : State) (n : Nat) : Nat := 4 * s.n .fbLines n

/-- A missing index counts as a mismatch each time the count passes a multiple of 4 × `lines` by the tolerance. -/
def State.idxPassed (s : State) (n : Nat) : State :=
  let x := s.fb n
  match x.idxAt with
  | some p =>
    let d := (x.count - p) / fbWeight (s.n .fbKind n)
    if ¬x.idxRev ∧ s.idxEdges n * (x.idxMissing + 1) + s.n .fbIndexTol n < d.natAbs then
      (s.putFb n { x with idxMissing := x.idxMissing + 1 }).idxMismatch n d
    else s
  | none => s

/-- Position of a channel in counts at this instant. -/
def Fb.pos (x : Fb) : Int := x.count + x.frac

/-- A qualified index: it stores the position and, without a reversal since the previous one, checks the count. -/
def State.fbIndex (s : State) (n : Nat) : State :=
  let x := s.fb n
  let s1 := (((s.putZ64 .fbIndexPos n x.pos).inc .fbIndexCount n).putFb n
    { x with idxAt := some x.count, idxRev := false, idxMissing := 0 }).fbFlag n 4 true
  match x.idxAt with
  | some p =>
    if x.idxRev then s1
    else
      let d := (x.count - p) / fbWeight (s.n .fbKind n)
      let off := (d.natAbs : Int) - s.idxEdges n
      if off.natAbs ≤ s.n .fbIndexTol n then (s1.putN .fbIndexMisses n 0).fbFlag n 3 false
      else s1.idxMismatch n d
  | none => s1

def execIndexPulse (n : FbNo) (t : Nat) (s : State) : Host.Outcome State Fault Refusal :=
  .next (let k := s.n .fbKind n
         let s := s.advance t
         let gate := s.n .fbZGate n == 0 || (s.fb n).lines % 4 == 3
         if s.fbOn n && (k == 1 || k == 4) && gate then s.fbIndex n else s)

/-! ## Position compare (R247, R248) -/

/-- Whether a compare unit names an output pin and is enabled (R247). -/
def State.cmpOwns (s : State) (pin : Nat) : Bool :=
  (List.range 32).any (fun u => s.n .cmpEnable u == 1 && s.n .cmpDoPin u == pin)

/-- Level that a DO output is commanded to: the units' pulses when a unit owns it, else `device.do` (R540). -/
def State.doLevel (s : State) (pin : Nat) : Bool :=
  if s.cmpOwns pin then
    (List.range 32).any (fun u => s.n .cmpEnable u == 1 && s.n .cmpDoPin u == pin && (s.cmp u).pulse.isSome)
  else s.n .hwDo pin == 1

/-- Direction codes of R247. -/
def dirAdmits (dir : Nat) (neg : Bool) : Bool := dir == 3 || (dir == 1 && !neg) || (dir == 2 && neg)

/-- Whether a value lies behind the position of its channel (R248). -/
def State.cmpBehind (s : State) (u : Nat) (v : Int) : Bool :=
  let n := s.n .cmpSrc u
  let x := s.fb n
  let p := x.pos
  match s.n .cmpDir u with
  | 1 => decide (v ≤ p)
  | 2 => decide (p ≤ v)
  | _ => decide (v = p) || (!x.still && (if x.lastNeg then decide (p < v) else decide (v < p)))

/-- A unit fires at an instant: pulse, token, interrupt, time and count, event; then it disarms, or loads the next
value (R247). The number bounds how often a catch-up fires at one instant. -/
def State.cmpFire (u t : Nat) : Nat → State → State
  | 0, s => s
  | fuel + 1, s =>
    let s1 := s.putCmp u { s.cmp u with pulse := if s.n .cmpDoPin u ≤ 7 then some (t + s.n .cmpPulseNs u) else none }
    let s2 := if s.n .cmpToken u ≤ 31 then s1.withTokens (Arith.setBit s1.tokens (s.n .cmpToken u) true) else s1
    let s3 := (((s2.put64 .cmpFiredTime u t).inc .cmpFiredCount u).putN .cmpFlags u 0).irqFire (33 + u)
    let s4 := (s3.putN .cmpState u 2).raiseAt 0x0408 kCmp u 0 t
    let step := s.z .cmpStep u
    if step = 0 then s4
    else
      let v := s.z64 .cmpValue u + step
      let s5 := s4.putZ64 .cmpValue u v
      if s5.cmpBehind u v then
        let s6 := (s5.putN .cmpFlags u 1).raiseAt 0x0409 kCmp u 0 t
        if s6.n .cmpPolicy u = 1 then State.cmpFire u t fuel s6 else s6.putN .cmpState u 1
      else s5.putN .cmpState u 1

/-- Fires that bring a value past a position which stands still, in steps towards it; steps away from it never do, and end here too
(DESIGN CHOICE, log entry 127: R247 sets no end to such a catch-up). -/
def State.cmpFuel (s : State) (u : Nat) (v : Int) : Nat :=
  (v - (s.fb (s.n .cmpSrc u)).pos).natAbs / max 1 (s.z .cmpStep u).natAbs + 2

/-- `enable` 0 disarms a unit; a later load arms it again (Table 7.5). -/
def State.cmpEnableDo (s : State) (u v : Nat) : State := if v = 0 then s.putN .cmpState u 0 else s

/-- A new value is loaded at an input cut-off (R248). -/
def State.cmpLoad (s : State) (u : Nat) (v : Int) : State :=
  let s1 := s.putZ64 .cmpValue u v
  if s1.cmpBehind u v then
    let s2 := (s1.putN .cmpFlags u 1).raise 0x0409 kCmp u 0
    if s2.n .cmpEnable u = 0 then s2
    else if s2.n .cmpPolicy u = 1 then State.cmpFire u s2.now (s2.cmpFuel u v) s2
    else s2.putN .cmpState u 1
  else
    let s2 := s1.putN .cmpFlags u 0
    if s2.n .cmpEnable u = 0 then s2 else s2.putN .cmpState u 1

def execCmpValueLoad (n : CmpNo) (v : BitVec 64) (s : State) : Host.Outcome State Fault Refusal :=
  .next (s.cmpLoad n v.toInt)

/-- Whether an armed unit fires on a channel whose position has just gone from `prev` to `pos`: equality after an edge
for kinds 1 and 3, reached or passed in an admitted direction for kinds 2 and 4 (R247). -/
def State.cmpHit (s : State) (u : Nat) (prev pos : Int) : Bool :=
  let v := s.z64 .cmpValue u
  let k := s.n .fbKind (s.n .cmpSrc u)
  let neg := decide (pos < prev)
  s.n .cmpEnable u == 1 && s.n .cmpState u == 1 && decide (pos ≠ prev) && dirAdmits (s.n .cmpDir u) neg
  && (if k = 1 ∨ k = 3 then decide (pos = v)
      else if neg then decide (pos ≤ v) && decide (v < prev) else decide (v ≤ pos) && decide (prev < v))

/-- Judges the compare units of a channel at an instant. -/
def State.cmpCheck (s : State) (n : Nat) (prev : Int) (t : Nat) : State :=
  forN 32 (fun u s =>
    if s.n .cmpSrc u = n ∧ s.n .cmpEnable u = 1 then
      if s.cmpHit u prev (s.fb n).pos then State.cmpFire u t (s.cmpFuel u (s.z64 .cmpValue u)) s else s
    else s) s

def execComparePulseEnd (n : CmpNo) (s : State) : Host.Outcome State Fault Refusal :=
  .next (match (s.cmp n).pulse with
    | some e => if e ≤ s.now then s.putCmp n { s.cmp n with pulse := none } else s
    | none => s)

/-! ## Edges (R228, R229) -/

/-- Place of a switch state (bit 0 U, bit 1 V, bit 2 W) in the sequence U→V→W; none for 000 and 111. -/
def hallPlace (l : Nat) : Option Nat :=
  match l with
  | 1 => some 0
  | 3 => some 1
  | 2 => some 2
  | 6 => some 3
  | 4 => some 4
  | 5 => some 5
  | _ => none

/-- Place of the levels of A and B (sine and cosine for kind 4) in the sequence in which A leads B. -/
def quadPlace (l : Nat) : Nat :=
  match l % 4 with
  | 0 => 0
  | 1 => 1
  | 3 => 2
  | _ => 3

/-- Direction of a transition between levels: +1 or −1, none when it is not to a neighbour. -/
def fbStep (kind old new : Nat) : Option Int :=
  if kind = 3 then
    match hallPlace old, hallPlace new with
    | some a, some b => if (a + 1) % 6 = b then some 1 else if (b + 1) % 6 = a then some (-1) else none
    | _, _ => none
  else if (quadPlace old + 1) % 4 = quadPlace new then some 1
  else if (quadPlace new + 1) % 4 = quadPlace old then some (-1)
  else none

/-- Lines of a transition: those used for counting whose level changed. -/
def changedLines (kind old new : Nat) : List Nat :=
  (if kind = 3 then [0, 1, 2] else [0, 1]).filter (fun i => Arith.bit old i != Arith.bit new i)

/-- Whether a transition breaks R229: two lines change within one nanosecond, an edge follows the previous edge of its
line by less than 45 ns, or the new state is no neighbour. -/
def State.fbBadEdge (s : State) (n t new : Nat) : Bool :=
  let x := s.fb n
  let kind := s.n .fbKind n
  let ch := changedLines kind x.lines new
  let sameNs := kind != 3 && (2 ≤ ch.length || x.lineAt.any (fun e => e.2 == t && !ch.contains e.1))
  let close := ch.any (fun i => x.lineAt.any (fun e => e.1 == i && decide (t < e.2 + 45)))
  sameNs || close || (fbStep kind x.lines new).isNone

/-- Distance of the position from the coarse count at a counted edge: a crossing of kind 4 downwards leaves the position at the upper end
of the quadrant that it enters, unless the fraction is forced to 0 (R243, DEDUCED, log entry 128). -/
def crossFrac (kind flags : Nat) (dir : Int) (inverted : Bool) : Int :=
  if kind = 4 ∧ Arith.bit flags 5 = false ∧ dir < 0 then (if inverted then -4096 else 4096) else 0

/-- A counted edge (R228, R230, R238). -/
def State.fbCount (s : State) (n t : Nat) (dir : Int) : State :=
  let x := s.fb n
  let kind := s.n .fbKind n
  let frac := crossFrac kind x.flags dir (s.n .fbInvert n == 1)
  let dir := if s.n .fbInvert n = 1 then -dir else dir
  let cnt := x.count + dir * fbWeight kind
  let neg := decide (dir < 0)
  let rev := x.lastAt != 0 && x.lastNeg != neg
  let prev := x.pos
  let x1 := { x with count := cnt, frac := frac, edges := { t := t, dir := dir, cnt := cnt } :: x.edges, lastAt := t,
                     lastNeg := neg, revs := if rev then t :: x.revs else x.revs,
                     idxRev := x.idxRev || rev, idxMissing := if rev then 0 else x.idxMissing }
  let s1 := (s.putFb n x1).fbFlag n 7 neg
  let s2 := if kind = 1 ∨ kind = 4 then s1.idxPassed n else s1
  s2.cmpCheck n prev t

/-- New levels of the lines of a channel, each pair repeated by the pass-through outputs that name it (R228, R244); a change of the
index or reference line alone is no edge that counts. -/
def State.fbEdge (s : State) (n t new : Nat) : State :=
  let x := s.fb n
  let kind := s.n .fbKind n
  let ch := changedLines kind x.lines new
  let bad := s.fbBadEdge n t new
  let step := fbStep kind x.lines new
  let at' := ch.foldl (fun m i => Tab.put 0 m i t) x.lineAt
  let s1 := s.putFb n { x with lines := new, lineAt := at' }
  let s2 := forN 4 (fun k u => if u.n .ptSrc k = n then u.withPtOut (Tab.put 0 u.ptOut k new) else u) s1
  if ch.isEmpty then s2
  else
    match bad, step with
    | false, some d => s2.fbCount n t d
    | _, _ => s2.fbIllegal n t

/-- The differential voltage of a used pair stayed below 200 mV for 1 µs: cause 2, declared at once (Table 7.3). -/
def execFbWireBreak (n : FbNo) (s : State) : Host.Outcome State Fault Refusal :=
  .next (let k := s.n .fbKind n
         if s.fbOn n && (k == 1 || k == 2 || k == 3) then
           (s.putFb n { s.fb n with lowV := true }).fbFault n 2
         else s)

/-! ## SSI (R232 to R234) -/

/-- Gray code to binary. -/
def grayDec : Nat → Nat → Nat
  | 0, g => g
  | k + 1, g => Nat.xor g (grayDec k (g / 2))

/-- Whether the number of ones among the low `k` bits is even. -/
def evenParity (k w : Nat) : Bool := Arith.popcount k w % 2 == 0

/-- Width of the position field. -/
def State.ssiWidth (s : State) (n : Nat) : Nat := s.n .fbSsiPosMsb n + 1 - s.n .fbSsiPosLsb n

/-- Position field of a frame, decoded. -/
def State.ssiField (s : State) (n w : Nat) : Nat :=
  let f := w / 2 ^ s.n .fbSsiPosLsb n % 2 ^ s.ssiWidth n
  if s.n .fbSsiGray n = 1 then grayDec (s.ssiWidth n) f else f

/-- Signed difference of least magnitude of two fields; at exactly half the range both signs have it, and a free bit
chooses (R233). -/
def State.ssiDiff (s : State) (n old new : Nat) : Int × State :=
  let m := 2 ^ s.ssiWidth n
  let d := (new + m - old) % m
  if 2 * d < m then ((d : Int), s)
  else if 2 * d = m then
    let (w, s1) := s.drawWord
    (if w.getLsbD 0 then (d : Int) else (d : Int) - m, s1)
  else ((d : Int) - m, s)

/-- Whether a delivered frame is invalid, the difference from the previous valid sample given (R233). -/
def State.ssiInvalid (s : State) (n w : Nat) (diff : Int) (first : Bool) : Bool :=
  let eb := s.n .fbSsiErrBit n
  (s.n .fbSsiParity n == 1 && !evenParity (s.n .fbSsiBits n) w)
  || (eb != 0xFF && Arith.bit w eb)
  || (!first && s.n .fbSsiJump n != 0 && decide (s.n .fbSsiJump n < diff.natAbs))

/-- A valid SSI sample: the first valid frame gives the position, a later one moves the last valid position by its difference, which
counts as one edge (R233, R235). -/
def State.ssiTake (s : State) (n field : Nat) (diff : Int) (first : Bool) : State :=
  let x := s.fb n
  let sg : Int := if s.n .fbInvert n = 1 then -1 else 1
  let cnt := if first then sg * field else x.ssiPos + sg * diff
  let x1 := { x with count := cnt, ssiPos := cnt, ssiLast := some field, ssiGot := true, ssiBad := false, badN := 0, missN := 0,
                     ssiAt := s.epoch }
  let neg := decide (sg * diff < 0)
  let rev := x.lastAt != 0 && x.lastNeg != neg
  let x2 := if first ∨ diff = 0 then x1
            else { x1 with edges := { t := s.clk.t0, dir := if neg then -1 else 1, cnt := cnt } :: x.edges,
                           lastAt := s.clk.t0, lastNeg := neg, revs := if rev then s.clk.t0 :: x.revs else x.revs }
  let s1 := ((s.putFb n x2).fbFlag n 6 false).fbFlag n 7 x2.lastNeg
  s1.cmpCheck n x.pos s1.now

/-- An invalid SSI frame: the sample is the last valid position advanced by the last speed over the elapsed time (R234). -/
def State.ssiReject (s : State) (n : Nat) : State :=
  let x := s.fb n
  let adv := Arith.round (x.ssiSpeed * (((s.epoch - x.ssiAt) * s.te : Nat) : Rat) / 1000000000)
  let s1 := ((s.putFb n { x with count := x.ssiPos + adv, ssiGot := true, ssiBad := true, badN := x.badN + 1, missN := 0 }).fbFlag n 6
    true).raise 0x0404 kFb n 0
  s1.cmpCheck n x.pos s1.now

/-- Publishes the position, the flags and the speed of a channel's sample (R230). -/
def State.fbPublish (s : State) (n : Nat) (speed : Rat) : State :=
  let x := s.fb n
  (((s.putZ64 .fbPos n x.pos).put64 .fbEdgeTime n x.lastAt).putN .fbStatus n x.flags).putR .fbSpeedCps n speed

/-! ## Speed (R235 to R238) -/

/-- Edges of the present direction, newest first, back to and with the last reversal edge. -/
def presentRun : List FbEdge → List FbEdge
  | [] => []
  | e :: es => e :: (es.takeWhile (fun x => x.dir == e.dir))

/-- Whether two consecutive edges have the same direction. -/
def twoAlike : List FbEdge → Bool
  | a :: b :: es => a.dir == b.dir || twoAlike (b :: es)
  | _ => false

/-- Seconds of a number of nanoseconds. -/
def secs (ns : Int) : Rat := (ns : Rat) / 1000000000

/-- Speed between two edges, in counts per second; edges at one instant have no quotient and give 0. -/
def edgeSpeed (a b : FbEdge) : Rat := Arith.quot ((b.cnt - a.cnt : Int) : Rat) (secs ((b.t : Int) - (a.t : Int)))

/-- Edge-time speed at a latch, and whether `REVERSAL` shows (R235, R238). -/
def edgeTime (edges : List FbEdge) (t0 w : Nat) (everRev : Bool) : Rat × Bool :=
  match presentRun edges with
  | last :: prev :: more =>
    let run := last :: prev :: more
    let win := run.filter (fun e => decide (t0 < e.t + w))
    match win with
    | _ :: _ :: _ => (edgeSpeed (win.getLastD last) last, false)
    | _ =>
      let v := edgeSpeed prev last
      let lim := Arith.quot 1 (secs ((t0 : Int) - (last.t : Int)))
      (if t0 = last.t then v else Arith.clamp (-lim) lim v, false)
  | _ => (0, everRev)

/-- Count-window speed at a latch (R235, R237): 0 until the first full window, with `START`. -/
def countWindow (hist : List Int) (pos : Int) (windowEpochs w : Nat) : Rat :=
  Arith.quot ((pos - hist.getD (windowEpochs - 1) pos : Int) : Rat) (secs (w : Int))

/-- Keeps what later windows need of the edges: those of the window and the two newest of the present direction. -/
def trimEdges (edges : List FbEdge) (t0 w : Nat) : List FbEdge :=
  let keep := (edges.takeWhile (fun e => decide (t0 < e.t + w))).length
  edges.take (max keep (min (presentRun edges).length 2))

/-- The speed of the sample latched at t0, with its flags (section 7.4). -/
def State.fbSpeed (s : State) (n : Nat) : State :=
  let x := s.fb n
  let t0 := s.clk.t0
  let w := s.n .fbWindowEpochs n * s.te
  let leaves := x.still && twoAlike x.edges
  let x1 := if leaves then { x with still := false, leftAt := t0 } else x
  let revs := x1.revs.filter (fun t => decide (t0 < t + w))
  let x2 := { x1 with revs := revs, edges := trimEdges x1.edges t0 w, hist := (x1.pos :: x1.hist).take 65 }
  let s1 := s.putFb n x2
  if x2.still then (((s1.fbFlag n 0 true).fbFlag n 1 false).fbFlag n 2 false).fbPublish n 0
  else
    let s2 := s1.fbFlag n 0 false
    if s.n .fbSpeedMode n = 1 then
      let (v, r) := edgeTime x1.edges t0 w true
      ((s2.fbFlag n 1 false).fbFlag n 2 r).fbPublish n v
    else if t0 < x2.leftAt + w then ((s2.fbFlag n 1 true).fbFlag n 2 (!revs.isEmpty)).fbPublish n 0
    else ((s2.fbFlag n 1 false).fbFlag n 2 (!revs.isEmpty)).fbPublish n
      (countWindow x.hist x.pos (s.n .fbWindowEpochs n) w)

/-- An edge whose timestamp is at or before the last boundary but which the filter accepted after it belongs to the sample of that
boundary, which is taken again (R228, R230). -/
def State.fbRelatch (s : State) (n t : Nat) : State :=
  if t ≤ s.clk.t0 ∧ s.clk.phase = 0 then (s.putFb n { s.fb n with hist := (s.fb n).hist.drop 1 }).fbSpeed n else s

def execFbEdge (n : FbNo) (t : Nat) (lines : Fin 8) (s : State) : Host.Outcome State Fault Refusal :=
  .next (let k := s.n .fbKind n
         let s := s.advance t
         if s.fbOn n && (k == 1 || k == 3 || k == 4) then (s.fbEdge n t lines).fbRelatch n t else s)

/-- The speed reported with a valid SSI sample is the last speed of later substitutes (R234). -/
def State.ssiKeep (s : State) (n : Nat) : State := s.putFb n { s.fb n with ssiSpeed := s.r .fbSpeedCps n }

def execSsiFrame (n : FbNo) (bits : Nat) (idle : Bool) (s : State) : Host.Outcome State Fault Refusal :=
  .next (
    let x := s.fb n
    if s.fbOn n && s.n .fbKind n == 2 && idle && !x.ssiGot && s.clk.phase == 0 then
      let f := s.ssiField n bits
      let first := x.ssiLast.isNone
      let (d, s1) := s.ssiDiff n (x.ssiLast.getD 0) f
      if s1.ssiInvalid n bits d first then (s1.ssiReject n).fbSpeed n else ((s1.ssiTake n f d first).fbSpeed n).ssiKeep n
    else s)

/-- What input cut-off finds of an SSI channel: a missing frame is reported, and the second missing or the third
invalid one in a row faults the channel (R234). -/
def State.ssiCutoff (s : State) (n : Nat) : State :=
  let x := s.fb n
  if s.fbOn n && s.n .fbKind n == 2 then
    if x.ssiGot then (if 3 ≤ x.badN then s.fbFault n 5 else s)
    else
      let s1 := (s.putFb n { x with missN := x.missN + 1, badN := 0 }).raise 0x0405 kFb n 0
      if 2 ≤ x.missN + 1 then s1.fbFault n 4 else s1
  else s

/-! ## The latch (R230, R243) -/

/-- Amplitude and fraction of a sin/cos channel at t0, after the correction of R243 whose form the manual leaves open. -/
def State.sinCosSample (s : State) (n : Nat) (sc : Rat × Rat) : Rat × Rat :=
  let c := Config.sinCosCorrect sc.1 sc.2 (s.r .fbScOffsetSinMv n) (s.r .fbScOffsetCosMv n) (s.r .fbScGainRatio n)
  (Config.laneSqrt (c.1 * c.1 + c.2 * c.2), Config.laneAtan2 c.2 c.1)

/-- Signal frequency of a kind 4 channel above which the fraction is forced to 0, with the hysteresis of R243. -/
def State.fbCoarse (s : State) (n : Nat) : Bool :=
  let hz := Arith.absR (s.r .fbSpeedCps n) / 16384
  if Arith.bit (s.fb n).flags 5 then decide (480000 ≤ hz) else decide (500000 < hz)

/-- Kind 4 at t0: amplitude, interpolated position and fault cause 6 (R243, Table 7.3). -/
def State.fbLatch4 (s : State) (n : Nat) (sc : Rat × Rat) : State :=
  let (amp, turn) := s.sinCosSample n sc
  let coarse := s.fbCoarse n
  let x := s.fb n
  let f : Int := if coarse then 0 else (turn * 16384).floor % 4096
  let f := if s.n .fbInvert n = 1 then -f else f
  let out := decide (amp < 200) || decide (750 < amp)
  let x1 := { x with frac := f, condN := if out then x.condN + 1 else 0 }
  let s1 := ((s.putFb n x1).putR .fbScAmplitudeMv n amp).fbFlag n 5 coarse
  let s2 := if 2 ≤ x1.condN then s1.fbFault n 6 else s1
  s2.cmpCheck n x.pos s2.clk.t0

/-- Kind 3 at t0: fault cause 7 (Table 7.3). -/
def State.fbLatch3 (s : State) (n : Nat) : State :=
  let x := s.fb n
  let out := x.lines % 8 == 0 || x.lines % 8 == 7
  let x1 := { x with condN := if out then x.condN + 1 else 0 }
  let s1 := s.putFb n x1
  if 2 ≤ x1.condN then s1.fbFault n 7 else s1

/-- Latches every configured channel at an epoch boundary; an SSI channel starts its frame there (R230, R232). -/
def State.latchFeedback (s : State) (smp : Samples) : State :=
  forN 16 (fun n s =>
    let s := s.putFb n { s.fb n with lowV := Arith.bit smp.lowV n }
    if s.fbOn n then
      match s.n .fbKind n with
      | 2 => s.putFb n { s.fb n with ssiGot := false, ssiBad := false }
      | 3 => (s.fbLatch3 n).fbSpeed n
      | 4 => (s.fbLatch4 n (smp.sinCos.getD n (0, 0))).fbSpeed n
      | _ => s.fbSpeed n
    else s) s

/-- No edge for `standstill_ms`: the channel is at standstill, in both modes (R236). -/
def State.fbStill (s : State) (n : Nat) : State :=
  let s1 := s.putFb n { s.fb n with still := true, edges := [], revs := [] }
  ((s1.fbFlag n 0 true).fbFlag n 1 false).fbFlag n 2 false

def execFbStandstill (n : FbNo) (s : State) : Host.Outcome State Fault Refusal :=
  .next (let x := s.fb n
         if s.fbOn n && !x.still && decide (x.lastAt + msNs (s.n .fbStandstillMs n) ≤ s.now) then s.fbStill n else s)

/-! ## Configuration and commands -/

/-- A channel is configured by a description that has taken effect: healthy, at standstill, without counted errors; `fresh` restarts
the count at 0, from the commit of the epoch on (R231, Table 7.4). -/
def State.fbConfigure (s : State) (n : Nat) (fresh : Bool) : State :=
  let s1 := if fresh then (s.putFb n { Fb.init with lines := (s.fb n).lines, waits := true }).putN .fbIndexMisses n 0 else s
  let s2 := ((s1.putN .fbState n 1).putN .fbFaultCause n 0).putN .fbErrors n 0
  if fresh then s2 else s2.fbStill n

/-- Channels of a description start at the commit of the epoch in which it took effect (R231). -/
def State.fbStart (s : State) : State := forN 16 (fun n t => if (t.fb n).waits then t.putFb n { t.fb n with waits := false } else t) s

/-- Whether this module switches a 120 Ω termination in that a `term` point places: by its position in a pair, outside one whenever the
point is not 0 (R245, R432). -/
def State.terminates (s : State) (term : Nat) : Bool :=
  if s.n .pairRole = 0 then term != 0 else term == (if s.hw.posB then 2 else 1)

/-- Termination of a feedback channel at this module (R245). -/
def State.fbTerminated (s : State) (n : Nat) : Bool := s.terminates (s.n .fbTerm n)

/-- At a wake from Dormant a channel keeps its count with `POS_DOUBT` and is at standstill (R231, R236). -/
def State.fbWake (s : State) : State :=
  forN 16 (fun n s => if s.n .fbState n = 0 then s else (s.fbStill n).fbFlag n 3 true) s

/-- Whether no condition of causes 2, 6 and 7 is present (R242). -/
def State.fbClearOk (s : State) (n : Nat) : Bool :=
  let x := s.fb n
  s.n .fbState n != 0 && !x.lowV && (x.condN == 0 || !(s.n .fbKind n == 3 || s.n .fbKind n == 4))

/-- A write of 1 to `clear_cmd` takes effect (R242). -/
def State.fbClear (s : State) (n : Nat) : State :=
  let x := s.fb n
  let s1 := s.putFb n { x with bad := [], missN := 0, badN := 0, condN := 0 }
  let s2 := ((s1.putN .fbState n 1).putN .fbFaultCause n 0).putN .fbIndexMisses n 0
  let s3 := s2.fbStill n
  let k := s.n .fbKind n
  let s4 := if (k = 1 ∨ k = 4) ∧ Arith.bit (s3.fb n).flags 4 then s3.fbFlag n 3 true else s3
  (s4.raise 0x0406 kFb n 0).irqFire (128 + n)

def execFbClearCmd (n : FbNo) (s : State) : Host.Outcome State Fault Refusal :=
  .next (if s.fbClearOk n then (s.putN .fbClearCmd n 1).fbClear n else s)

/-- A pass-through output changes its source: the levels hold until the new source's next edge (R244). -/
def execPtSrcChange (n : PtNo) (v : Word) (s : State) : Host.Outcome State Fault Refusal :=
  .next (if v.toNat ≤ 15 ∨ v.toNat = 0xFF then s.put .ptSrc n v else s)

end Sys2Proof.Machine
end

