-- ==== Sys2Proof/Machine/ModuleHw.lean ====
section
/-!
DEFINITION. ModuleHw.lean: discrete outputs, encoder supplies, current inputs and one-time-programmable memory
(chapter 18).
-/
namespace Sys2Proof.Machine

/-- The configured condition for DO outputs to leave high impedance: firmware runs and the module is no counterfoil
(R502, R425). -/
def State.doPowered (s : State) : Bool := s.up && s.n .pairRole != 2

/-- Whether an output is turned off by an overload (R502). -/
def State.doTripped (s : State) (n : Nat) : Bool := (Tab.get none s.hw.doOff n).isSome

/-- Level that DOn drives: the units' pulses, else `device.do` as committed (R540, R502). -/
def State.doDrives (s : State) (n : Nat) : Bool :=
  s.doPowered && !s.doTripped n
  && (if s.cmpOwns n then s.doLevel n else (Store.get s.led ⟨.hwDo, n, 0⟩).toNat == 1)

/-- A write of `device.do[n]` is accepted while no enabled compare unit names the pin (R540). -/
def State.doWriteOk (s : State) (n : Nat) : Bool := !s.cmpOwns n

def execDoWrite (n : Fin 8) (v : Fin 2) (s : State) : Host.Outcome State Fault Refusal :=
  .next (if s.doWriteOk n then s.putN .hwDo n v else s)

/-- 100 µs in the current limit: the output turns off; the event is raised once per episode (R502). -/
def execDoOverload (n : Fin 8) (s : State) : Host.Outcome State Fault Refusal :=
  .next (
    if s.doDrives n then
      let s1 := s.withHw { s.hw with doOff := Tab.put none s.hw.doOff n (some s.now) }
      if Arith.bit (s.n .hwDoOverload) n then s1
      else (s1.putN .hwDoOverload 0 (Arith.setBit (s.n .hwDoOverload) n true)).raise 0x0811 kDevice 0 n
    else s)

/-- 100 ms later the output tries again (R502). -/
def execDoOverloadRetry (n : Fin 8) (s : State) : Host.Outcome State Fault Refusal :=
  .next (match Tab.get none s.hw.doOff n with
    | some t =>
      if t + 100000000 ≤ s.now then
        s.withHw { s.hw with doOff := Tab.put none s.hw.doOff n none, doTry := Tab.put 0 s.hw.doTry n s.now }
      else s
    | none => s)

/-- At a boundary: an overload episode ends when the output has driven for 100 µs after its last try; the manual does
not say when it ends. -/
def State.doEpisodes (s : State) : State :=
  forN 8 (fun n s =>
    if Arith.bit (s.n .hwDoOverload) n ∧ ¬s.doTripped n ∧ Tab.get 0 s.hw.doTry n + 100000 ≤ s.now then
      s.putN .hwDoOverload 0 (Arith.setBit (s.n .hwDoOverload) n false)
    else s) s

/-- Switches an encoder supply group; a non-zero mode also ends a trip (R507). -/
def State.encPwr (s : State) (g v : Nat) : State :=
  (s.putN .encPwrMode g v).putN .encPwrState g (if v = 0 then 0 else 1)

def execEncPwrModeWrite (g : Fin 4) (v : Fin 3) (s : State) : Host.Outcome State Fault Refusal := .next (s.encPwr g v)

def execEncPwrFault (g : Fin 4) (s : State) : Host.Outcome State Fault Refusal :=
  .next (if s.n .encPwrState g = 1 then (s.putN .encPwrState g 2).raise 0x0812 kDevice 0 g else s)

/-- The burden of a current input opens (R508). -/
def execAinBurdenOpen (n : Fin 8) (s : State) : Host.Outcome State Fault Refusal :=
  .next (if s.n .ainMode n = 1 ∧ (Tab.get none s.hw.burden n).isNone then
           (s.withHw { s.hw with burden := Tab.put none s.hw.burden n (some s.now) }).raise 0x0813 kSensor (32 + n) 0
         else s)

/-- One second later it recloses (R508). -/
def execAinBurdenReclose (n : Fin 8) (s : State) : Host.Outcome State Fault Refusal :=
  .next (match Tab.get none s.hw.burden n with
    | some t => if t + 1000000000 ≤ s.now then s.withHw { s.hw with burden := Tab.put none s.hw.burden n none } else s
    | none => s)

/-- Key slots fused and not revoked, bit per slot (R518). -/
def State.keysValid (s : State) : Nat :=
  (List.range 4).foldl (fun m k =>
    if Arith.bit (s.n .hwFwKeySlots) k && !Arith.bit (s.n .hwFwKeySlots) (k + 4) then m + 2 ^ k else m) 0

/-- Winil fuses one-time-programmable memory, only in Configure; a fused slot never changes and a revoke stays (R518,
R539). -/
def State.fuse (s : State) (i : OtpItem) : State :=
  if s.mode = 1 then
    match i with
    | .keySlot n h =>
      if Arith.bit (s.n .hwFwKeySlots) n then s
      else (s.putN .hwFwKeySlots 0 (Arith.setBit (s.n .hwFwKeySlots) n true)).withHw
        { s.hw with keys := Tab.put [] s.hw.keys n h }
    | .revoke n => s.putN .hwFwKeySlots 0 (Arith.setBit (s.n .hwFwKeySlots) (n + 4) true)
    | .signedBit => if s.keysValid = 0 then s else s.putN .hwPdRequireSigned 0 1
  else s

def execOtpFuse (item : OtpItem) (s : State) : Host.Outcome State Fault Refusal := .next (s.fuse item)

/-- The STO inputs as their point shows them (R540). -/
def State.stoPublish (s : State) : State := s.putN .hwSto 0 (Arith.b2n s.dev.stoA + 2 * Arith.b2n s.dev.stoB)

/-- Analog, sigma-delta and discrete inputs at t0 (Table 2.1, R508, R509, R540). An input with an open burden reads as
open, a value the manual does not state. -/
def State.sampleInputs (s : State) (smp : Samples) : State :=
  let s1 := forN 8 (fun n s =>
    if (Tab.get none s.hw.burden n).isSome then
      let (v, s1) := s.drawRat
      s1.putR .ainValue n v
    else if Arith.bit smp.missing (16 + n) then s
    else s.putR .ainValue n (smp.ain.getD n 0)) s
  let s2 := forN 16 (fun n s =>
    if Arith.bit smp.missing (24 + n) then s else s.putR .sdmValue n (smp.sdm.getD n 0)) s1
  let s3 := (s2.putN .hwDi 0 smp.di).stoPublish
  let s3 := s3.withHw { s3.hw with missing := smp.missing }
  s3.putN .hwDoState 0 ((List.range 8).foldl (fun m n => if s3.doDrives n then m + 2 ^ n else m) 0)

end Sys2Proof.Machine
end

