-- ==== Sys2Proof/Machine/AuxPower.lean ====
section
/-!
DEFINITION. AuxPower.lean: the auxiliary half-bridges, VAUX and its chopper (chapter 9).
-/
namespace Sys2Proof.Machine

def State.br (s : State) (n : Nat) : Br := Tab.get Br.init s.brs n

def State.putBr (s : State) (n : Nat) (v : Br) : State := s.withBrs (Tab.put Br.init s.brs n v)

/-! ## Axes and their bridges (Table 8.4) -/

/-- Number of bridges of an axis kind. -/
def axisBridges (kind : Nat) : Nat :=
  match kind with
  | 1 => 4
  | 2 => 3
  | 3 => 2
  | _ => 0

/-- Bridges of an axis. -/
def State.bridgesOf (s : State) (a : Nat) : List Nat := (List.range (axisBridges (s.n .axisKind a))).map (a + ·)

/-- The axis that a bridge belongs to. -/
def State.axisOf (s : State) (n : Nat) : Option Nat := (List.range 12).find? (fun a => (s.bridgesOf a).contains n)

/-- The lowest code among a bridge's fault cause and holding causes (R292). -/
def Br.cause (x : Br) : Nat :=
  if x.fault ≠ 0 then x.fault else (([6, 7, 8, 9].find? (Arith.bit x.holds)).getD 0)

/-- Number of the bridge whose configuration points a unit uses: the chopper uses block 0 (R293). -/
def auxCfg (n : Nat) : Nat := if n = 12 then 0 else n

/-- State code of a bridge or of the chopper (Table 9.2). -/
def State.brState (s : State) (n : Nat) : Nat := if n = 12 then s.n .vauxChopState else s.n .auxState n

def State.brTries (s : State) (n : Nat) : Nat := if n = 12 then s.n .vauxChopTries else s.n .auxTries n

def State.putTries (s : State) (n v : Nat) : State := if n = 12 then s.putN .vauxChopTries 0 v else s.putN .auxTries n v

/-- A bridge or the chopper enters a state; leaving Ready fires its source (Tables 9.2 and 16.2). -/
def State.setBr (s : State) (n st : Nat) (x : Br) : State :=
  let old := s.brState n
  let s1 := s.putBr n x
  if n = 12 then s1.putN .vauxChopState 0 st
  else
    let s2 := (s1.putN .auxState n st).putN .auxCause n x.cause
    if old = 2 ∧ st ≠ 2 then s2.irqFire (113 + n) else s2

/-- A unit starts anew: a bridge in Precharge, or Held while a cause holds it; the chopper, which has no bootstrap, in
Ready. -/
def State.brRestart (s : State) (n : Nat) : State :=
  let x := { s.br n with retry := false, fault := 0, pending := false, preAt := s.now, readyAt := s.now }
  s.setBr n (if n = 12 then 2 else if x.holds = 0 then 1 else 5) x

/-- The chopper switch takes a level at an instant; its switchings of the last 10 ms are kept (R293). -/
def Vaux.switched (v : Vaux) (on : Bool) (now : Nat) : Vaux :=
  let keep := v.hist.takeWhile (fun e => decide (now < e.1 + 10000000))
  { v with on := on, at' := now, hist := ((now, on) :: keep) ++ (v.hist.drop keep.length).take 1 }

/-! ## Faults (R286 to R290) -/

/-- Event of a fault cause (Table 9.7). -/
def auxFaultEvent (n cause : Nat) : Nat × Nat :=
  if n = 12 then (0x050C, 0)
  else if cause = 4 then (0x0503, 0) else if cause = 3 then (0x0502, 0) else (0x0501, cause)

/-- The earlier unsettled fault that makes a fault a phase-to-phase short (R290). -/
def State.shortWith (s : State) (n : Nat) : Option Nat :=
  match s.axisOf n with
  | some a => (s.bridgesOf a).find? (fun m => m != n && (s.br m).pending && decide (s.now ≤ (s.br m).faultAt + 10000))
  | none => none

/-- Every bridge of the axis is Latched with cause 5; neither fault counts as a try (R290). -/
def State.phaseShort (s : State) (a m n : Nat) : State :=
  let s1 := forL (s.bridgesOf a) (fun b t => t.setBr b 4 { t.br b with pending := false, retry := false, fault := 5 }) s
  s1.raise 0x0506 kAxis a (min m n + 2 ^ 8 * max m n)

/-- A fault of causes 1 to 4: the bridge goes to high impedance at once (R289). -/
def State.auxFault (s : State) (n cause : Nat) : State :=
  let x := { s.br n with faultAt := s.now, pending := true, retry := true, fault := cause }
  let (code, param) := auxFaultEvent n cause
  let s1 := (s.setBr n 3 x).raise code kAux (auxCfg n) param
  let s2 := if n = 12 then s1.irqFire 125 else s1.inc .auxTripsTotal n
  match s2.shortWith n, s2.axisOf n with
  | some m, some a => if n = 12 then s2 else s2.phaseShort a m n
  | _, _ => s2

/-- A switch faults only while its gate can be on: Ready, or the low side in Precharge. -/
def State.auxLive (s : State) (n : Nat) : Bool := s.brState n == 1 || s.brState n == 2

def execAuxDesat (b : AuxNo) (high : Bool) (s : State) : Host.Outcome State Fault Refusal :=
  .next (if s.auxLive b then s.auxFault b (if high then 1 else 2) else s)

def execAuxShunt (b : AuxNo) (s : State) : Host.Outcome State Fault Refusal :=
  .next (if s.auxLive b then s.auxFault b 3 else s)

def execBootUv (b : AuxNo) (s : State) : Host.Outcome State Fault Refusal :=
  .next (if s.brState b = 2 then s.auxFault b 4 else s)

def execChopFault (s : State) : Host.Outcome State Fault Refusal :=
  .next (if s.brState 12 = 2 then (s.withVaux (if s.vaux.on then s.vaux.switched false s.now else s.vaux)).auxFault 12 1 else s)

/-- 10 µs after its timestamp a fault is settled as a try: Retry wait, or Latched at `retry_max` (R289). -/
def State.auxSettle (s : State) (n : Nat) : State :=
  let x := s.br n
  let k := auxCfg n
  if x.pending ∧ x.faultAt + 10000 ≤ s.now then
    if s.brTries n < s.n .auxRetryMax k then
      let s1 := (s.putBr n { x with pending := false }).putTries n (s.brTries n + 1)
      s1.raise 0x0504 kAux k (s1.brTries n)
    else (s.setBr n 4 { x with pending := false, retry := false }).raise 0x0505 kAux k 0
  else s

def execAuxFaultSettled (b : AuxUnit) (s : State) : Host.Outcome State Fault Refusal := .next (s.auxSettle b)

/-- Whether the retry timer of a settled fault has run out. -/
def State.retryDue (s : State) (n : Nat) : Bool :=
  let x := s.br n
  x.retry && !x.pending && decide (x.faultAt + msNs (s.n .auxRetryMs (auxCfg n)) ≤ s.now)

def execAuxRetryElapsed (b : AuxUnit) (s : State) : Host.Outcome State Fault Refusal :=
  .next (if s.brState b = 3 ∧ s.retryDue b then s.brRestart b else s)

def execAuxTriesReset (b : AuxUnit) (s : State) : Host.Outcome State Fault Refusal :=
  .next (if s.brState b = 2 ∧ (s.br b).readyAt + 1000000000 * s.n .auxRetryResetS (auxCfg b) ≤ s.now then s.putTries b 0
         else s)

/-- After `boot_precharge_us` the bridge enters Ready with at least 9.5 V on the bootstrap, else cause 4 (R283). -/
def execAuxPrechargeDone (b : AuxNo) (mv : Nat) (s : State) : Host.Outcome State Fault Refusal :=
  .next (
    if s.brState b = 1 ∧ (s.br b).preAt + 1000 * s.n .auxBootPrechargeUs b ≤ s.now then
      let s1 := s.putR .auxBootV b ((mv : Rat) / 1000)
      if 9500 ≤ mv then s1.setBr b 2 { s1.br b with readyAt := s1.now } else s1.auxFault b 4
    else s)

/-- Both gate commands asserted together: held low and counted, raised at most once per second (R282). -/
def execAuxInterlock (b : AuxNo) (s : State) : Host.Outcome State Fault Refusal :=
  .next (
    let s1 := s.inc .auxInterlockHits b
    let x := s1.br b
    let due := match x.interAt with
      | some t => decide (t + 1000000000 ≤ s1.now)
      | none => true
    if due then (s1.putBr b { x with interAt := some s1.now }).raise 0x0508 kAux b 0 else s1)

/-! ## Holding (R292, R294) -/

/-- A holding cause arises at a bridge that is configured; a Latched one stays Latched. -/
def State.auxHold (s : State) (n cause : Nat) : State :=
  let st := s.brState n
  let x := { s.br n with holds := Arith.setBit (s.br n).holds cause true }
  if st = 0 then s.putBr n x
  else if st = 4 then (s.putBr n x).putN .auxCause n x.cause
  else s.setBr n 5 x

/-- A holding cause ends; when none is left a bridge goes to Retry wait if its timer still runs, else to Precharge. -/
def State.auxRelease (s : State) (n cause : Nat) : State :=
  let x := { s.br n with holds := Arith.setBit (s.br n).holds cause false }
  let s1 := (s.putBr n x).putN .auxCause n x.cause
  if s1.brState n = 5 ∧ x.holds = 0 then
    if x.retry && !s1.retryDue n then s1.setBr n 3 x else s1.brRestart n
  else s1

/-- Every configured bridge. -/
def State.bridges (s : State) : List Nat := (List.range 12).filter (fun n => s.n .auxState n != 0)

/-- One of causes 7 to 9 begins or ends for the whole stage (R292). -/
def State.stageHold (s : State) (cause code : Nat) (on : Bool) : State :=
  if Arith.bit s.vaux.holds cause == on then s
  else
    let s1 := s.withVaux { s.vaux with holds := Arith.setBit s.vaux.holds cause on }
    if on then
      ((forL s1.bridges (fun n t => t.auxHold n cause) s1).raise code kAux 0 0).irqFire 125
    else forL s1.bridges (fun n t => t.auxRelease n cause) s1

/-- A VAUX measurement or a change of the module's gate supply (R292); `gateSupply` says that it has reached 11.0 V, or
has not fallen below 10.5 V since. -/
def State.vauxLimit (s : State) (mv : Nat) (gateSupply : Bool) : State :=
  let v : Rat := (mv : Rat) / 1000
  let hy := s.r .vauxVauxHystV
  let uv := if Arith.bit s.vaux.holds 7 then decide (v < s.r .vauxVauxUvV + hy) else decide (v < s.r .vauxVauxUvV)
  let ov := if Arith.bit s.vaux.holds 8 then decide (s.r .vauxVauxOvV - hy < v) else decide (s.r .vauxVauxOvV < v)
  (((s.putR .vauxVauxV 0 v).stageHold 7 0x0509 uv).stageHold 8 0x050A ov).stageHold 9 0x050B (!gateSupply)

def execVauxLimit (mv : Nat) (gateSupply : Bool) (s : State) : Host.Outcome State Fault Refusal :=
  .next (s.vauxLimit mv gateSupply)

/-! ## Chopper (R293) -/

/-- On-fraction of the chopper over the 10 ms before an instant: its switchings, newest first. -/
def chopOnTime : List (Nat × Bool) → Nat → Nat → Nat
  | [], _, _ => 0
  | (t, l) :: es, stop, start =>
    if t ≤ start then (if l then stop - start else 0)
    else (if l then stop - t else 0) + chopOnTime es t start

/-- The chopper switch takes a level at an instant. -/
def State.chopSet (s : State) (on : Bool) : State := s.withVaux (s.vaux.switched on s.now)

/-- The chopper turns on at `chop_on_v` and off at `chop_on_v` − `chop_hyst_v`, each level for at least 2 µs. -/
def State.chopSwitch (s : State) (mv : Nat) : State :=
  let v : Rat := (mv : Rat) / 1000
  let s1 := s.putR .vauxVauxV 0 v
  let x := s1.vaux
  let on := if x.on then decide (s1.r .vauxChopOnV - s1.r .vauxChopHystV < v) else decide (s1.r .vauxChopOnV ≤ v)
  if s1.brState 12 ≠ 2 ∨ on = x.on ∨ s1.now < x.at' + 2000 then s1 else s1.chopSet on

def execChopSwitch (mv : Nat) (s : State) : Host.Outcome State Fault Refusal := .next (s.chopSwitch mv)

/-- `chop_duty`: the on-fraction over the last 10 ms. -/
def State.chopPublish (s : State) : State :=
  s.putR .vauxChopDuty 0 ((chopOnTime s.vaux.hist s.now (s.now - 10000000) : Rat) / 10000000)

/-! ## Clearing (R291) -/

/-- Whether a clear is accepted: not in Held. -/
def State.auxClearOk (s : State) (n : Nat) : Bool := s.brState n != 5

/-- `clear_cmd`: a phase-to-phase short clears on every bridge of the axis together. -/
def State.auxClear (s : State) (n : Nat) : State :=
  let st := s.brState n
  if st = 3 ∨ st = 4 then
    let group := match s.axisOf n with
      | some a => if st = 4 ∧ (s.br n).fault = 5 ∧ n ≠ 12 then s.bridgesOf a else [n]
      | none => [n]
    (forL group (fun m t => (t.brRestart m).putTries m 0) s).raise 0x0507 kAux (auxCfg n) 0
  else s

def execAuxClearCmd (b : AuxNo) (s : State) : Host.Outcome State Fault Refusal :=
  .next (if s.auxClearOk b then (s.putN .auxClearCmd b 1).auxClear b else s)

def execChopClearCmd (s : State) : Host.Outcome State Fault Refusal :=
  .next (if s.auxClearOk 12 then (s.putN .vauxChopClearCmd 0 1).auxClear 12 else s)

/-! ## Duty and carrier (R280, R281, R284) -/

/-- Ticks of 5 ns in a carrier period. -/
def State.pwmTicks (s : State) (n : Nat) : Nat := (Arith.round ((200000000 : Rat) / (s.n .auxPwmHz n : Rat))).toNat

/-- Carrier periods in a refresh interval, at least 1. -/
def State.refreshN (s : State) (n : Nat) : Nat := max 1 (s.n .auxBootRefreshUs n * s.n .auxPwmHz n / 1000000)

/-- Duty that leaves room for a refresh pulse. -/
def State.dutyRef (s : State) (n : Nat) : Rat :=
  1 - (s.n .auxPwmHz n : Rat) * ((s.n .auxBootPulseNs n + 2 * s.n .auxDeadNs n : Nat) : Rat) / 1000000000

/-- Effective maximum mean duty. -/
def State.dutyMax (s : State) (n : Nat) : Rat :=
  let k := s.refreshN n
  (((k : Rat) - 1) + s.dutyRef n) / (k : Rat)

/-- Mean duty that the stage applies for a commanded duty, and whether the cap acted (R284). -/
def State.dutyApplied (s : State) (n : Nat) (d : Rat) : Rat × Bool :=
  let k : Rat := (s.refreshN n : Rat)
  if s.dutyRef n < d then (((k - 1) * d + s.dutyRef n) / k, true) else (d, false)

/-- Duty of the carrier period around an instant: the last period of each refresh interval runs at no more than the duty that leaves
room for a pulse (R284). The intervals are counted from device time 0 (DEDUCED, log entry 38). -/
def State.dutyAt (s : State) (n t : Nat) (d : Rat) : Rat :=
  let p := 5 * s.pwmTicks n
  let k := s.refreshN n
  if (t + p / 2) / p % k = k - 1 then Arith.minR d (s.dutyRef n) else d

/-- Gate levels, high and low side, at an instant in a carrier whose count passes zero where device time is a multiple of the period:
the high side is commanded on for the duty around zero, a turn-on waits out the dead time after the other side's turn-off, and an
on-time that would be shorter than 20 ns does not take place (R280, R281). -/
def State.gatesAt (s : State) (n t : Nat) (d : Rat) : Bool × Bool :=
  let p := 5 * s.pwmTicks n
  let per : Rat := (p : Rat)
  let dead : Rat := (s.n .auxDeadNs n : Rat)
  let ph : Rat := ((t % p : Nat) : Rat)
  let fromZero := if 2 * ph < per then ph else ph - per
  let half := d * per / 2
  let hiRuns := decide (20 ≤ d * per - dead) || decide (1 ≤ d)
  let loRuns := decide (20 ≤ (1 - d) * per - dead) || decide (d ≤ 0)
  let hiOn := decide (1 ≤ d) || (hiRuns && decide (-half + (if loRuns then dead else 0) ≤ fromZero) && decide (fromZero < half))
  let loOn := decide (d ≤ 0) || (loRuns && decide (half + (if hiRuns then dead else 0) ≤ ph) && decide (ph < per - half))
  (hiOn, loOn)

/-- Duty, cap and gate levels of a bridge at t0: both low outside Ready, the low side on in Precharge (Table 9.2, Table 9.5). -/
def State.bridgeOut (s : State) (n : Nat) (duty : Option Rat) : State :=
  let s1 := s.putR .auxDutyMaxEff n (s.dutyMax n)
  let st := s.brState n
  let cap := (duty.map (fun d => (s.dutyApplied n d).2)).getD false
  let g := match duty with
    | some d => if st = 2 then s.gatesAt n s.clk.t0 (s.dutyAt n s.clk.t0 d) else (false, false)
    | none => (false, false)
  s1.putN .auxStatus n (Arith.b2n cap + 2 * Arith.b2n g.1 + 4 * Arith.b2n (st == 1 || g.2))

/-- An axis is configured: its bridges enter Precharge (Table 9.2); a bridge of no axis is Off, and so is every
bridge of a counterfoil (R425). -/
def State.stageConfigure (s : State) : State :=
  let s1 := forN 12 (fun n t =>
    match t.axisOf n with
    | some _ =>
      if t.n .pairRole = 2 then t.setBr n 0 { Br.init with holds := (t.br n).holds }
      else if t.brState n = 0 then
        (t.putBr n { Br.init with holds := Nat.lor t.vaux.holds (Nat.land (t.br n).holds 64) }).brRestart n
      else t
    | none => t.setBr n 0 Br.init) s
  if s1.brState 12 = 0 then s1.brRestart 12 else s1

end Sys2Proof.Machine
end

