-- ==== Sys2Proof/Machine/Profiles.lean ====
section
/-!
DEFINITION. Profiles.lean: the profile engines (sections 8.1 to 8.6).
-/
namespace Sys2Proof.Machine

def State.eng (s : State) (e : Nat) : Eng := Tab.get Eng.init s.engs e

def State.putEng (s : State) (e : Nat) (v : Eng) : State := s.withEngs (Tab.put Eng.init s.engs e v)

def State.ax (s : State) (a : Nat) : Axis := Tab.get Axis.init s.axes a

def State.putAx (s : State) (a : Nat) (v : Axis) : State := s.withAxes (Tab.put Axis.init s.axes a v)

/-! ## Plans (R255, R256) -/

/-- Limits of a plan. -/
structure Limits where
  vMax : Rat
  aMax : Rat
  dMax : Rat
  jMax : Rat
  deriving DecidableEq, Repr

def Eng.limits (x : Eng) : Limits := { vMax := x.vMax, aMax := x.aMax, dMax := x.dMax, jMax := x.jMax }

/-- Signed braking distance from a velocity. -/
def brakeDist (v d : Rat) : Rat := Arith.quot (v * Arith.absR v) (2 * d)

/-- A stretch that brakes a velocity to rest at `d`. -/
def brakeSeg (v d : Rat) : Seg := { dur := Arith.quot (Arith.absR v) d, acc := -(Arith.sgn v * d), jerk := 0 }

/-- Time-optimal stretches over a distance in the direction of a velocity from which it can stop, without a jerk limit:
down to v_max or up to the peak, along it, and down to rest. -/
def trapezoid (l : Limits) (dist v : Rat) : List Seg :=
  let dir := if dist = 0 then Arith.sgn v else Arith.sgn dist
  let w := Arith.absR v
  let len := Arith.absR dist
  if l.vMax < w then
    let t := Arith.quot (w - l.vMax) l.dMax
    let gone := (w + l.vMax) / 2 * t
    let cruise := Arith.quot (len - gone - Arith.quot (l.vMax * l.vMax) (2 * l.dMax)) l.vMax
    [{ dur := t, acc := -(dir * l.dMax), jerk := 0 }, { dur := Arith.maxR 0 cruise, acc := 0, jerk := 0 },
     brakeSeg (dir * l.vMax) l.dMax]
  else
    let peak2 := Arith.quot (2 * l.aMax * l.dMax * len + l.dMax * w * w) (l.aMax + l.dMax)
    let vp := if l.vMax * l.vMax ≤ peak2 then l.vMax else Config.laneSqrt peak2
    let up := Arith.quot (vp - w) l.aMax
    let cruise := Arith.ratio (len - Arith.quot (vp * vp - w * w) (2 * l.aMax) - Arith.quot (vp * vp) (2 * l.dMax)) vp
    [{ dur := up, acc := dir * l.aMax, jerk := 0 }, { dur := Arith.maxR 0 cruise, acc := 0, jerk := 0 },
     brakeSeg (dir * vp) l.dMax]

/-! ### Limited jerk (Table 8.1)

R255 asks for time-optimal plans and gives no equations. The equations here follow from its limits; the number of halvings below, and
that the acceleration passes 0 where the speed does, are the model's (DESIGN CHOICE, log entry 39). -/

/-- Setpoint after whole stretches. -/
def segsEnd (x : Sigma) (segs : List Seg) : Sigma :=
  segs.foldl (fun (y : Sigma) g =>
    { p := y.p + y.v * g.dur + g.acc * g.dur * g.dur / 2 + g.jerk * g.dur * g.dur * g.dur / 6,
      v := y.v + g.acc * g.dur + g.jerk * g.dur * g.dur / 2, a := g.acc + g.jerk * g.dur }) x

/-- Shortest stretches from a velocity and acceleration to another velocity without acceleration, the speed not passing through 0:
the acceleration rises to its peak, holds there, and falls to 0. -/
def jerkVel (l : Limits) (v a v1 : Rat) : List Seg :=
  let j := l.jMax
  let dir := Arith.sgn (v1 - (v + Arith.quot (a * Arith.absR a) (2 * j)))
  if dir = 0 then [{ dur := Arith.quot (Arith.absR a) j, acc := a, jerk := -(Arith.sgn a * j) }]
  else
    let lim := if 0 ≤ dir * v then l.aMax else l.dMax
    let a1 := dir * a
    let pk2 := j * dir * (v1 - v) + a1 * a1 / 2
    let full := decide (lim * lim ≤ pk2)
    let pk := if full then lim else Config.laneSqrt (Arith.maxR 0 pk2)
    [{ dur := Arith.quot (Arith.absR (pk - a1)) j, acc := a, jerk := dir * Arith.sgn (pk - a1) * j },
     { dur := if full then Arith.quot (pk2 - lim * lim) (j * lim) else 0, acc := dir * pk, jerk := 0 },
     { dur := Arith.quot pk j, acc := dir * pk, jerk := -(dir * j) }]

/-- The same to a velocity of either sign: through rest where the sign changes (R256). -/
def jerkChange (l : Limits) (v a v1 : Rat) : List Seg :=
  if v * v1 < 0 then jerkVel l v a 0 ++ jerkVel l 0 0 v1 else jerkVel l v a v1

/-- Stretches over a distance from which the engine can stop in time, by way of a peak speed. -/
def jerkVia (l : Limits) (x : Sigma) (dist vp : Rat) : List Seg :=
  let v := Arith.sgn dist * vp
  let up := jerkChange l x.v x.a v
  let down := jerkVel l v 0 0
  let left := Arith.absR dist - Arith.absR ((segsEnd { x with p := 0 } (up ++ down)).p)
  up ++ { dur := Arith.maxR 0 (Arith.ratio left vp), acc := 0, jerk := 0 } :: down

/-- Distance that a peak speed takes without a cruise, in the direction to go. -/
def jerkReach (l : Limits) (x : Sigma) (dir vp : Rat) : Rat :=
  dir * (segsEnd { x with p := 0 } (jerkChange l x.v x.a (dir * vp) ++ jerkVel l (dir * vp) 0 0)).p

/-- Highest peak speed between two bounds that a distance admits, by halving. -/
def peakSpeed (fits : Rat → Bool) : Nat → Rat → Rat → Rat
  | 0, lo, _ => lo
  | n + 1, lo, hi => let m := (lo + hi) / 2
                     if fits m then peakSpeed fits n m hi else peakSpeed fits n lo m

/-- Shortest stretches over a distance to rest: the highest peak speed, at most v_max, that the distance admits. -/
def jerkDist (l : Limits) (x : Sigma) (dist : Rat) : List Seg :=
  let fits := fun (vp : Rat) => decide (jerkReach l x (Arith.sgn dist) vp ≤ Arith.absR dist)
  jerkVia l x dist (if fits l.vMax then l.vMax else peakSpeed fits 64 0 l.vMax)

/-- Stretches of a jerk-limited plan to rest over a distance: a velocity that points away, or from which the engine cannot stop in time,
first goes to rest (R256). -/
def jerkPos (l : Limits) (x : Sigma) (dist : Rat) : List Seg :=
  if dist = 0 ∧ x.v = 0 ∧ x.a = 0 then []
  else
    let stop := jerkVel l x.v x.a 0
    let rest := dist - (segsEnd { x with p := 0 } stop).p
    if x.v * dist < 0 ∨ dist * rest ≤ 0 then
      if rest = 0 then stop else stop ++ jerkDist l { p := 0, v := 0, a := 0 } rest
    else jerkDist l x dist

/-- A plan from a setpoint to rest at a position: a velocity that points away, or from which the engine cannot stop in
time, is braked through zero first (R256). -/
def planPos (l : Limits) (jerk : Bool) (x : Sigma) (p : Rat) : Plan :=
  let fin : Sigma := { p := p, v := 0, a := 0 }
  let dist := p - x.p
  let away := decide (x.v * dist < 0)
  if jerk then { start := x, segs := jerkPos l x dist, fin := fin, t := 0, reversing := away }
  else
    let past := decide (Arith.absR dist < Arith.absR (brakeDist x.v l.dMax))
    if away || past then
      let rest := dist - brakeDist x.v l.dMax
      { start := x, segs := brakeSeg x.v l.dMax :: trapezoid l rest 0, fin := fin, t := 0, reversing := away }
    else { start := x, segs := if dist = 0 ∧ x.v = 0 then [] else trapezoid l dist x.v, fin := fin, t := 0,
           reversing := false }

/-- Duration of a plan. -/
def Plan.length (x : Plan) : Rat := x.segs.foldl (fun t g => t + g.dur) 0

/-- Setpoint after a stretch of time within some stretches. -/
def runSegs : List Seg → Sigma → Rat → Option Sigma
  | [], _, _ => none
  | g :: gs, x, t =>
    let at' := fun (u : Rat) => ({ p := x.p + x.v * u + g.acc * u * u / 2 + g.jerk * u * u * u / 6,
                                   v := x.v + g.acc * u + g.jerk * u * u / 2, a := g.acc + g.jerk * u } : Sigma)
    if t < g.dur then some (at' t) else runSegs gs (at' g.dur) (t - g.dur)

/-- A plan to a speed: up at a_max, down at d_max, through zero at d_max (R255); a jerk limit makes it a jerk plan. -/
def planVel (l : Limits) (x : Sigma) (v : Rat) : Plan :=
  let segs : List Seg :=
    if 0 < l.jMax then jerkChange l x.v x.a v
    else
      let down := decide (x.v * v < 0) || decide (Arith.absR v < Arith.absR x.v)
      let mid := if x.v * v < 0 then 0 else if down then v else x.v
      let s1 : Seg := { dur := Arith.quot (Arith.absR (mid - x.v)) l.dMax, acc := Arith.sgn (mid - x.v) * l.dMax, jerk := 0 }
      let s2 : Seg := { dur := Arith.quot (Arith.absR (v - mid)) l.aMax, acc := Arith.sgn (v - mid) * l.aMax, jerk := 0 }
      [s1, s2]
  { start := x, segs := segs, fin := { p := x.p, v := v, a := 0 }, t := 0, reversing := decide (x.v * v < 0) }

/-- A plan to rest at a deceleration (R260). -/
def planStop (l : Limits) (jerk : Bool) (x : Sigma) (decel : Rat) : Plan :=
  let segs := if jerk then jerkVel { l with dMax := decel } x.v x.a 0 else [brakeSeg x.v decel]
  { start := x, segs := segs, fin := { p := x.p, v := 0, a := 0 }, t := 0, reversing := false }

/-- Rounds a setpoint to the engine's fixed point, whose format the manual does not give (R255). -/
def Sigma.round (x : Sigma) : Sigma :=
  { p := Config.laneRound x.p, v := Config.laneRound x.v, a := Config.laneRound x.a }

/-- Advances a plan; `pos` says that it ends at a position. Answers the setpoint and whether the plan has ended. A plan reverses while
the velocity still has the sign that it began with (R256). -/
def Plan.step (x : Plan) (pos : Bool) (dt : Rat) : Plan × Sigma × Bool :=
  let t := x.t + dt
  let x1 := { x with t := t }
  match runSegs x.segs x.start t with
  | some y => ({ x1 with reversing := x.reversing && decide (0 < y.v * x.start.v) }, y.round, false)
  | none =>
    let x1 := { x1 with reversing := false }
    if pos then (x1, x.fin, true)
    else
      let e := segsEnd x.start x.segs
      let past := t - x.length
      (x1, Sigma.round { p := e.p + x.fin.v * past, v := x.fin.v, a := 0 }, true)

/-! ## Position sources (R252) -/

/-- Whether a drive has a feedback channel. -/
def State.driveFb (s : State) (d : Nat) : Option Nat := (s.driveDesc d).bind (·.fb)

/-- Source count of a drive, in the counts of R252. -/
def State.driveSrc (s : State) (e d : Nat) : Int :=
  match s.driveFb d with
  | some n => s.z64 .fbPos n
  | none => (s.eng e).turns.floor

/-- Source count of an engine's target. -/
def State.engSrc (s : State) (e : Nat) : Int :=
  let i := s.n .prfTargetIdx e
  match s.n .prfTargetKind e with
  | 1 => s.driveSrc e i
  | 2 => if s.n .axisKind i = 1 then (s.ax i).pos.floor else s.z64 .fbPos (s.n .axisFbSrc i)
  | 3 =>
    let d := s.n .shaftLeaderOrder i 0
    let k := ((s.shaftMembers i).findIdx? (· == d)).getD 0
    (Arith.quot (s.driveSrc e d : Rat) (s.r .shaftRatio i k)).floor
  | _ => 0

/-- Position of the engine: source minus origin. -/
def State.engActual (s : State) (e : Nat) : Int := s.engSrc e - s.z64 .prfOrigin e

/-- The channel whose index a homing uses. -/
def State.engChannel (s : State) (e : Nat) : Option Nat :=
  let i := s.n .prfTargetIdx e
  match s.n .prfTargetKind e with
  | 1 => s.driveFb i
  | 2 => if s.n .axisFbSrc i ≤ 15 then some (s.n .axisFbSrc i) else none
  | 3 => s.driveFb (s.n .shaftLeaderOrder i 0)
  | _ => none

/-- Why the target cannot follow, 0 when it can (R261): 1 regime or mode, 2 axis fault, 3 stall. -/
def State.cannotFollow (s : State) (e : Nat) : Nat :=
  let i := s.n .prfTargetIdx e
  let runs := fun d => 1 ≤ s.regime d && s.regime d ≤ 3
  match s.n .prfTargetKind e with
  | 1 => if runs i && s.n .drvCtrlMode i == 2 then 0 else 1
  | 2 => if (s.ax i).stalled then 3 else if (s.ax i).faulted then 2 else 0
  | 3 => if runs (s.n .shaftLeader i) && s.n .shaftCtrlMode i == 2 then 0 else 1
  | _ => 0

/-- The engine that names a target (R251). -/
def State.engineOf (s : State) (kind idx : Nat) : Option Nat :=
  (List.range 48).find? (fun e => s.n .prfTargetKind e == kind && s.n .prfTargetIdx e == idx)

/-- A new origin: the setpoints keep their places, counted from it (R252). -/
def State.engRebase (s : State) (e : Nat) : State :=
  let x := s.eng e
  let sh : Rat := ((x.org - s.z64 .prfOrigin e : Int) : Rat)
  let moved := fun (y : Sigma) => { y with p := y.p + sh }
  s.putEng e { x with org := s.z64 .prfOrigin e, s0 := moved x.s0, s1 := moved x.s1, s2 := moved x.s2 }

/-! ## Starting and stopping (R256 to R262) -/

/-- Raises an engine event and its interrupt source (Tables 8.7 and 16.2). -/
def State.engEvent (s : State) (e code param : Nat) : State := (s.raise code kEngine e param).irqFire (65 + e)

/-- Whether the limits written lie in their ranges (R257). -/
def State.engLimitsOk (s : State) (e : Nat) : Bool :=
  let vm := s.r .prfVMax e
  decide (0 < vm) && decide (0 < s.r .prfAMax e) && decide (0 < s.r .prfDMax e) && decide (0 ≤ s.r .prfJMax e)
  && decide (0 < s.r .prfStopDecel e) && decide (Arith.absR (s.r .prfTargetV e) ≤ vm)
  && (s.n .prfType e != 3 || decide (0 < s.r .prfJMax e))
  && (s.n .prfType e != 4 || !((s.eng e).shadow.isEmpty && (s.eng e).table.isEmpty))

/-- Whether a start time can be met by a GO applied in the present epoch (R262). -/
def State.startTimeOk (s : State) (e : Nat) : Bool :=
  let t := s.n64 .prfStartTime e
  t == 0 || (t % s.te == 0 && decide (s.clk.t0 + s.te ≤ t))

/-- States that accept each command (Table 8.2). -/
def engAccepts (cmd st : Nat) : Bool :=
  match cmd with
  | 1 => st == 0 || st == 2 || st == 3 || st == 4
  | 2 => st == 1 || st == 2 || st == 5
  | 3 => st == 4
  | 4 => st == 1 || st == 2 || st == 3 || st == 4 || st == 5
  | 5 => st == 0 || st == 4
  | _ => false

/-- Completion status of an engine command, 0 when it is accepted: MODE for the wrong state or a target that cannot
follow, RANGE for limits or a start time (Table 8.2, R257, R261, R262). -/
def State.engCmdStatus (s : State) (e cmd : Nat) : Nat :=
  if !engAccepts cmd (s.n .prfState e) then 0x0301
  else if cmd = 1 then (if s.engLimitsOk e && s.startTimeOk e then 0 else 0x0201)
  else if cmd = 3 then (if s.cannotFollow e = 0 then 0 else 0x0301)
  else 0

/-- Takes the staged type, target and limits into use. -/
def State.engTake (s : State) (e : Nat) : Eng :=
  { s.eng e with ty := s.n .prfType e, tgt := (s.z64 .prfTargetPos e : Rat), tv := s.r .prfTargetV e,
                 vMax := s.r .prfVMax e, aMax := s.r .prfAMax e, dMax := s.r .prfDMax e, jMax := s.r .prfJMax e,
                 tracks := false, aborted := false, failed := 0, stage := 0 }

/-- Table position and velocity at a time within a pass: the cubic Hermite polynomial between two points (R258). -/
def hermite : List (Nat × Int × Rat) → Rat → Sigma
  | (t0, p0, v0) :: (t1, p1, v1) :: more, t =>
    let h : Rat := ((t1 : Rat) - t0) / 1000000
    let u := Arith.quot (t - (t0 : Rat) / 1000000) h
    if u < 1 ∨ more.isEmpty then
      let d : Rat := (p1 : Rat) - p0
      let c2 := 3 * d - h * (2 * v0 + v1)
      let c3 := h * (v0 + v1) - 2 * d
      { p := p0 + h * v0 * u + c2 * u * u + c3 * u * u * u,
        v := v0 + Arith.quot (2 * c2 * u + 3 * c3 * u * u) h,
        a := Arith.quot (2 * c2 + 6 * c3 * u) (h * h) }
    else hermite ((t1, p1, v1) :: more) t
  | (_, p0, _) :: [], _ => { p := p0, v := 0, a := 0 }
  | [], _ => Sigma.zero

/-- Segment of a table at a time. -/
def tableSeg (tb : List (Nat × Int × Rat)) (t : Rat) : Nat :=
  (tb.filter (fun e => decide ((e.1 : Rat) / 1000000 ≤ t))).length - 1

/-- Last time of a table in s, and the position difference of one pass. -/
def tableEnd (tb : List (Nat × Int × Rat)) : Rat := ((tb.getLast?.map (fun e => (e.1 : Rat))).getD 0) / 1000000
def tableSpan (tb : List (Nat × Int × Rat)) : Rat :=
  ((tb.getLast?.map (fun e => (e.2.1 : Rat))).getD 0) - ((tb.head?.map (fun e => (e.2.1 : Rat))).getD 0)

/-- Starts the motion of the type in use from the present setpoint. For an itinerary the shadow table is swapped into
use by a GO and the engine first moves to the table, unless it stands there (R258). -/
def State.engStart (s : State) (e : Nat) (x : Eng) (go : Bool) : State :=
  let l := x.limits
  let x := if x.ty = 4 ∧ go ∧ ¬x.shadow.isEmpty then { x with table := x.shadow, shadow := [], tabT := 0, tabBase := 0 }
           else if x.ty = 4 ∧ go then { x with tabT := 0, tabBase := 0 } else x
  let x := match x.ty with
    | 2 => { x with plan := planVel l x.s0 x.tv }
    | 3 => { x with plan := planPos l true x.s0 x.tgt }
    | 4 =>
      let y := hermite x.table x.tabT
      let plan := planPos l (decide (0 < l.jMax)) x.s0 (y.p + x.tabBase)
      { x with approach := !plan.segs.isEmpty, plan := plan }
    | _ => { x with plan := planPos l false x.s0 x.tgt }
  let s1 := (s.putEng e x).putN .prfState e 2
  (((s1.putN .prfSuspendCause e 0).putN .prfItinCount e x.table.length).engFlag e 2 false).putZ64 .prfRemaining e 0

/-- GO: from Idle it starts or waits; in Moving, Stopping and Suspended it starts or replans at once, and does not wait, as Table 8.2
lists no way from there to Waiting (R256, R259, R262; DEDUCED, log entry 129). -/
def State.engGo (s : State) (e : Nat) : State :=
  let st := s.n .prfState e
  let x := s.engTake e
  let waits := decide (s.n .prfStartToken e ≤ 31) || s.n64 .prfStartTime e != 0
  if st = 0 ∧ waits then (s.putEng e x).putN .prfState e 1 else s.engStart e x true

/-- Deceleration at `stop_decel`, with the jerk limit for types 3 and 4 (R260). -/
def State.engBrake (s : State) (e : Nat) (aborted : Bool) : State :=
  let x := s.eng e
  let jerk := (x.ty == 3 || x.ty == 4) && decide (0 < x.jMax)
  let x1 := { x with plan := planStop x.limits jerk x.s0 (s.r .prfStopDecel e), aborted := aborted, approach := false }
  (s.putEng e x1).putN .prfState e 3

/-- STOP: Waiting goes Idle, Moving and Homing decelerate (Table 8.2). -/
def State.engStop (s : State) (e : Nat) : State :=
  match s.n .prfState e with
  | 1 => s.putN .prfState e 0
  | 5 => s.engBrake e true
  | _ => s.engBrake e false

/-- RESUME: plans towards the stored target from the setpoint (R260). -/
def State.engResume (s : State) (e : Nat) : State :=
  let x := { s.eng e with tracks := false, aborted := false }
  s.engStart e x false

/-- ABORT (Table 8.2). -/
def State.engAbort (s : State) (e : Nat) : State :=
  match s.n .prfState e with
  | 1 => s.putN .prfState e 0
  | 4 => (s.putN .prfState e 0).putZ64 .prfRemaining e 0
  | 3 => (s.putEng e { s.eng e with aborted := true }).putZ64 .prfRemaining e 0
  | _ => (s.engBrake e true).putZ64 .prfRemaining e 0

/-- A homing motion at a signed speed. -/
def State.homeRun (s : State) (e stage : Nat) (v : Rat) : State :=
  let x := s.eng e
  let idx := match s.engChannel e with
    | some n => s.n .fbIndexCount n
    | none => 0
  (s.putEng e { x with stage := stage, idx0 := idx, plan := planVel { x.limits with jMax := 0 } x.s0 v, stopNs := 0 }).putN
    .prfState e 5

/-- Homing fails with a cause: the engine decelerates and enters Idle with `HOMED` cleared and the origin that it had at HOME (R264). -/
def State.homeFail (s : State) (e cause : Nat) : State :=
  let s0 := (s.putZ64 .prfOrigin e (s.eng e).homeOrg).engRebase e
  let s1 := s0.putEng e { s0.eng e with failed := cause }
  ((s1.engBrake e true).engFlag e 1 false).engEvent e 0x0523 cause

/-- Direction of a homing search as a number. -/
def State.homeDirOf (s : State) (e : Nat) : Rat := if s.z .prfHomeDir e < 0 then -1 else 1

/-- Cause 3: the mode needs an index or a channel that the source lacks (R264). -/
def State.homeUnfit (s : State) (e : Nat) : Bool :=
  let m := s.n .prfHomeMode e
  let kindOk := match s.engChannel e with
    | some n => s.n .fbKind n == 1 || s.n .fbKind n == 4
    | none => false
  ((m == 1 || m == 3) && !kindOk)
  || (m == 4 && s.n .prfTargetKind e == 2 && s.n .axisKind (s.n .prfTargetIdx e) == 1 && (s.engChannel e).isNone)

/-- HOME starts the sequence of `home_mode` (R263). -/
def State.engHome (s : State) (e : Nat) : State :=
  let x := { s.engTake e with homeFrom := s.engSrc e, homeOrg := s.z64 .prfOrigin e }
  let s1 := s.putEng e x
  if s1.homeUnfit e then s1.homeFail e 3
  else
    let v := if s1.n .prfHomeMode e = 4 then s1.r .prfHomeCreep e else s1.r .prfHomeSpeed e
    s1.homeRun e 1 (s1.homeDirOf e * v)

/-- A command of `profile[e].cmd` takes effect. -/
def State.engCmd (s : State) (e cmd : Nat) : State :=
  if s.engCmdStatus e cmd = 0 then
    let s1 := s.putN .prfCmd e cmd
    match cmd with
    | 1 => s1.engGo e
    | 2 => s1.engStop e
    | 3 => s1.engResume e
    | 4 => s1.engAbort e
    | _ => s1.engHome e
  else s

def execProfileGo (e : EngineNo) (s : State) : Host.Outcome State Fault Refusal := .next (s.engCmd e 1)

def execProfileStop (e : EngineNo) (s : State) : Host.Outcome State Fault Refusal := .next (s.engCmd e 2)

def execProfileResume (e : EngineNo) (s : State) : Host.Outcome State Fault Refusal := .next (s.engCmd e 3)

def execProfileAbort (e : EngineNo) (s : State) : Host.Outcome State Fault Refusal := .next (s.engCmd e 4)

def execProfileHome (e : EngineNo) (s : State) : Host.Outcome State Fault Refusal := .next (s.engCmd e 5)

/-- A token is issued; engines that wait on it start in the evaluation of this epoch (R262). -/
def State.issueTok (s : State) (e t : Nat) : State :=
  (s.putN .prfIssueToken e t).withTokens (Arith.setBit s.tokens t true)

def execIssueToken (e : EngineNo) (token : Fin 32) (s : State) : Host.Outcome State Fault Refusal :=
  .next (s.issueTok e token)

/-! ## Evaluation (R253) -/

/-- Whether an engine in Waiting starts in the present epoch (R262). -/
def State.engStarts (s : State) (e : Nat) : Bool :=
  let k := s.n .prfStartToken e
  let t := s.n64 .prfStartTime e
  (decide (k ≤ 31) && Arith.bit s.tokens k) || (t != 0 && t == s.clk.t0 + s.te)

/-- Publishes a setpoint (Table 8.5). -/
def State.engPublish (s : State) (e : Nat) : State :=
  let x := s.eng e
  let s1 := ((s.putZ64 .prfPos e (Arith.round x.s0.p)).putR .prfVel e x.s0.v).putR .prfAcc e x.s0.a
  let s2 := (s1.putN .prfItinSeg e (tableSeg x.table x.tabT)).putZ .prfItinTime e (x.tabT * 1000000).floor
  s2.engFlag e 0 (x.plan.reversing && s2.n .prfState e != 0)

/-- An engine is suspended by its target: `remaining` from the actual position, and the setpoint tracks it (R261). -/
def State.engSuspend (s : State) (e cause : Nat) : State :=
  let x := s.eng e
  let act : Rat := (s.engActual e : Rat)
  let rem : Rat := if x.ty = 1 ∨ x.ty = 3 then x.tgt - act else 0
  let s1 := s.putEng e { x with tracks := true, s0 := { p := act, v := 0, a := 0 }, approach := false, plan := Plan.rest }
  (((s1.putN .prfState e 4).putN .prfSuspendCause e cause).putZ64 .prfRemaining e (Arith.round rem)).engEvent e 0x0521
    cause

/-- At rest in Stopping: Idle after an ABORT or a stop of homing, else Suspended with what remains (R260). -/
def State.engRested (s : State) (e : Nat) : State :=
  let x := s.eng e
  if x.aborted then (s.putN .prfState e 0).putZ64 .prfRemaining e 0
  else
    let rem : Rat := if x.ty = 1 ∨ x.ty = 3 then x.tgt - x.s0.p else 0
    (s.putN .prfState e 4).putZ64 .prfRemaining e (Arith.round rem)

/-- The itinerary advances by one epoch (R258). -/
def State.itinStep (s : State) (e : Nat) (dt : Rat) : State :=
  let x := s.eng e
  let t := x.tabT + dt
  let stop := tableEnd x.table
  let loop := s.n .prfItinLoop e == 1
  if t < stop then
    let y := hermite x.table t
    s.putEng e { x with tabT := t, s0 := Sigma.round { y with p := y.p + x.tabBase } }
  else if loop then
    let k := (Arith.ratio t stop).floor
    let base := x.tabBase + k * tableSpan x.table
    let y := hermite x.table (t - k * stop)
    s.putEng e { x with tabT := t - k * stop, tabBase := base, s0 := Sigma.round { y with p := y.p + base } }
  else
    let y := hermite x.table stop
    ((s.putEng e { x with tabT := stop, s0 := { p := y.p + x.tabBase, v := 0, a := 0 } }).putN .prfState e 0).engEvent e
      0x0524 0

/-- Moving by one epoch. -/
def State.engMove (s : State) (e : Nat) (dt : Rat) : State :=
  let x := s.eng e
  if x.ty = 4 ∧ ¬x.approach then s.itinStep e dt
  else
    let (pl, y, done) := x.plan.step (x.ty != 2) dt
    let s1 := s.putEng e { x with plan := pl, s0 := y, approach := x.approach && !done }
    if done ∧ (x.ty = 1 ∨ x.ty = 3) then ((s1.putN .prfState e 0).engFlag e 2 true).engEvent e 0x0520 0 else s1

/-- Whether a stepper stands against its hard stop, found by the stall rule (R264). -/
def State.stalledAxis (s : State) (e : Nat) : Bool := s.n .prfTargetKind e == 2 && (s.ax (s.n .prfTargetIdx e)).stalled

/-- The event of a homing: the origin makes the position there `home_offset`; then the engine moves to `home_final`. A stepper that
stalled at its hard stop stands at the measured position, and its setpoint with it (R271). -/
def State.homeEvent (s : State) (e : Nat) (src : Int) : State :=
  let s1 := (s.putZ64 .prfOrigin e (src - s.z64 .prfHomeOffset e)).engRebase e
  let x1 := if s.stalledAxis e then { s1.eng e with s0 := { p := (s.z64 .prfHomeOffset e : Rat), v := 0, a := 0 } } else s1.eng e
  if s.n .prfHomeMode e = 4 then
    let back := x1.s0.p - s.homeDirOf e * (s.z64 .prfHomeBackoff e : Rat)
    s1.putEng e { x1 with stage := 8, plan := planPos x1.limits (decide (0 < x1.jMax)) x1.s0 back }
  else
    s1.putEng e { x1 with stage := 9, plan := planPos x1.limits (decide (0 < x1.jMax)) x1.s0
                                                 (s.z64 .prfHomeFinal e : Rat) }

/-- Level of the homing switch as sampled at t0. -/
def State.homeSwitch (s : State) (e : Nat) : Bool :=
  Arith.bit (s.n .hwDi) (s.n .prfHomeDi e) == (s.n .prfHomeDiLevel e == 1)

/-- Position of a qualified index since the present stage began. -/
def State.homeIndex (s : State) (e : Nat) : Option Int :=
  match s.engChannel e with
  | some n => if s.n .fbIndexCount n = (s.eng e).idx0 then none else some (s.z64 .fbIndexPos n)
  | none => none

/-- Whether torque or current shows a hard stop; a stepper detects it by the stall rule (R263, R264). -/
def State.hardStop (s : State) (e : Nat) : Bool :=
  let i := s.n .prfTargetIdx e
  let lvl := s.r .prfHardstopLevel e
  match s.n .prfTargetKind e with
  | 1 => decide (lvl ≤ Arith.absR (s.r .drvTorqueEst i))
  | 3 => decide (lvl ≤ Arith.absR (s.r .drvTorqueEst (s.n .shaftLeader i)))
  | 2 => if s.n .axisKind i = 1 then (s.ax i).stalled || decide (s.r .axisStallDev i ≤ s.r .axisDeviation i)
         else decide (lvl * s.r .axisIMaxA i ≤ 100 * Arith.absR (s.r .axisCurrentA i))
  | _ => false

/-- What a homing stage finds in this epoch, before it moves on. -/
def State.homeJudge (s : State) (e : Nat) : State :=
  let x := s.eng e
  let mode := s.n .prfHomeMode e
  let dir := s.homeDirOf e
  let creep := s.r .prfHomeCreep e
  match x.stage with
  | 1 =>
    if mode = 1 then
      match s.homeIndex e with
      | some p => s.homeEvent e p
      | none => s
    else if mode = 4 then
      if s.hardStop e then
        if msNs (s.n .prfHardstopMs e) ≤ x.stopNs then s.homeEvent e (s.engSrc e)
        else s.putEng e { x with stopNs := x.stopNs + s.te }
      else s.putEng e { x with stopNs := 0 }
    else if s.homeSwitch e then s.homeRun e 2 (-(dir * creep)) else s
  | 2 =>
    if s.homeSwitch e then s
    else if mode = 3 then s.homeRun e 3 (-(dir * creep))
    else s.homeEvent e (s.engSrc e)
  | 3 =>
    match s.homeIndex e with
    | some p => s.homeEvent e p
    | none => s
  | _ => s

/-- Homing by one epoch (R263, R264). -/
def State.engHoming (s : State) (e : Nat) (dt : Rat) : State :=
  let travel := (s.engSrc e - (s.eng e).homeFrom).natAbs
  let stall := (s.n .prfTargetKind e == 2 && s.n .prfHomeMode e == 4)
  let cause := s.cannotFollow e
  if cause ≠ 0 ∧ ¬(cause = 3 ∧ stall) then s.homeFail e 2
  else if (s.z64 .prfHomeMaxTravel e).natAbs < travel then s.homeFail e 1
  else
    let s1 := s.homeJudge e
    let x := s1.eng e
    let (pl, y, done) := x.plan.step (decide (8 ≤ x.stage)) dt
    let s2 := s1.putEng e { x with plan := pl, s0 := y }
    if done ∧ x.stage = 8 then
      let x2 := s2.eng e
      s2.putEng e { x2 with stage := 9, plan := planPos x2.limits (decide (0 < x2.jMax)) x2.s0
                                                   (s.z64 .prfHomeFinal e : Rat) }
    else if done ∧ x.stage = 9 then
      let i := s2.n .prfTargetIdx e
      let s3 := if s2.n .prfTargetKind e = 2 then s2.putN .axisStatus i (Arith.setBit (s2.n .axisStatus i) 5 false) else s2
      (((s3.putEng e { s3.eng e with stage := 0 }).putN .prfState e 0).engFlag e 1 true).engEvent e 0x0522 0
    else s2

/-- One evaluation of an engine (R253 to R264). -/
def State.engEval (s : State) (e : Nat) : State :=
  let dt : Rat := (s.te : Rat) / 1000000000
  let x := s.eng e
  let s1 := s.putEng e { x with s1 := x.s0, s2 := x.s1 }
  let st := s1.n .prfState e
  let cause := s1.cannotFollow e
  let s2 :=
    if cause ≠ 0 ∧ (st = 1 ∨ st = 2 ∨ (st = 3 ∧ x.failed = 0) ∨ (st = 4 ∧ !x.tracks)) then s1.engSuspend e cause
    else match st with
      | 1 => if s1.engStarts e then (s1.engStart e (s1.eng e) true).engMove e dt else s1
      | 2 => s1.engMove e dt
      | 3 =>
        let y := s1.eng e
        let (pl, z, done) := y.plan.step false dt
        let t := s1.putEng e { y with plan := pl, s0 := if done then { z with v := 0, a := 0 } else z }
        if done then t.engRested e else t
      | 4 => if (s1.eng e).tracks then
               s1.putEng e { s1.eng e with s0 := { p := (s1.engActual e : Rat), v := 0, a := 0 } }
             else s1
      | 5 => s1.engHoming e dt
      | _ => s1
  s2.engPublish e

/-- The turns of the drive that an engine takes its source from, integrated from `angle_est`, for a drive without feedback (R252). -/
def State.engTurns (s : State) (e d : Nat) : State :=
  let x := s.eng e
  let now := s.n .drvAngleEst d
  let diff := (BitVec.ofInt 32 ((now : Int) - x.angle)).toInt
  let mech : Rat := (diff : Rat) / 65536 / (s.n .drvPolePairs d : Rat)
  s.putEng e { x with angle := now, turns := x.turns + mech }

/-- The profile unit evaluates every engine whose target is not 0 (R253), and the tokens of this epoch are spent. -/
def State.profileUnit (s : State) : State :=
  (forN 48 (fun e s =>
    if s.n .prfTargetKind e = 0 then s
    else (match s.n .prfTargetKind e with
      | 1 => s.engTurns e (s.n .prfTargetIdx e)
      | 3 => s.engTurns e (s.n .shaftLeaderOrder (s.n .prfTargetIdx e) 0)
      | _ => s).engEval e) s).withTokens 0

/-- New limits written while an engine is Moving replan from its present state (R256). -/
def State.engNewLimits (s : State) (e : Nat) : State :=
  if s.n .prfState e = 2 ∧ s.engLimitsOk e then
    let x := { s.eng e with vMax := s.r .prfVMax e, aMax := s.r .prfAMax e, dMax := s.r .prfDMax e,
                            jMax := s.r .prfJMax e }
    if x.ty = 4 then s.putEng e x else s.engStart e x false
  else s

end Sys2Proof.Machine
end

