-- ==== Sys2Proof/Machine/AuxAxes.lean ====
section
/-!
DEFINITION. AuxAxes.lean: steppers, BLDC axes, H-bridge loads and gearing (sections 8.7 to 8.10).
-/
namespace Sys2Proof.Machine

/-- Whether every bridge of the axis is Ready (R288, R292). -/
def State.axReady (s : State) (a : Nat) : Bool := (s.bridgesOf a).all (fun n => s.n .auxState n == 2)

/-- Whether a stepper has a feedback channel. -/
def State.axHasFb (s : State) (a : Nat) : Bool := decide (s.n .axisFbSrc a ≤ 15)

/-- Lowest temperature factor of the axis's bridges (R294). -/
def State.axFactor (s : State) (a : Nat) : Rat :=
  (s.bridgesOf a).foldl (fun m n => Arith.minR m (s.r .auxTempFactor n)) 1

/-- Measured position before the offset: the channel's counts × `fb_num` / `fb_den` (R271). -/
def State.axMeasuredRaw (s : State) (a : Nat) : Rat :=
  (s.z64 .fbPos (s.n .axisFbSrc a) : Rat) * (s.n .axisFbNum a : Rat) / (s.n .axisFbDen a : Rat)

def State.axMeasured (s : State) (a : Nat) : Rat := s.axMeasuredRaw a - (s.ax a).off

/-! ## Faults of an axis (R266) -/

/-- Sets every commanded position of an axis. -/
def Axis.hold (x : Axis) (p : Rat) : Axis := { x with pos := p, next := p, after := p, base := p, moves := [] }

/-- The coil of a load is switched on: pull-in begins (R273). -/
def State.coilOn (s : State) (a : Nat) : State :=
  s.putAx a { s.ax a with pullAt := some s.now, pulled := false, decaying := false }

/-- The coil is switched off: its voltage reverses until the current is low when `fast_off` is 1 (R273). -/
def State.coilOff (s : State) (a : Nat) : State :=
  s.putAx a { s.ax a with pullAt := none, pulled := false, decaying := s.n .axisFastOff a == 1 }

/-- Follows the bridges of an axis: fault, return, and the offset captured when the axis is enabled. -/
def State.axBridges (s : State) (a : Nat) : State :=
  let x := s.ax a
  if s.axReady a then
    let p := if s.n .axisKind a = 1 then x.pos else (s.z64 .fbPos (s.n .axisFbSrc a) : Rat)
    let off := if s.axHasFb a then s.axMeasuredRaw a - x.pos else 0
    if x.faulted then
      let s1 := (s.putAx a { (x.hold p) with faulted := false, enabled := true }).axFlag a 4 false
      if s.n .axisKind a = 3 ∧ s.n .axisHmode a = 2 ∧ s.n .axisOnCmd a = 1 then s1.coilOn a else s1
    else if x.enabled then s
    else s.putAx a { x with enabled := true, off := off }
  else if x.enabled ∧ ¬x.faulted then
    let s1 := ((s.putAx a { x with faulted := true }).axFlag a 4 true).raise 0x0533 kAxis a 0
    if s.n .axisKind a = 1 ∧ ¬s.axHasFb a then s1.axFlag a 5 true else s1
  else s

/-! ## Step and direction inputs (R268) -/

/-- Counts that a spread step has moved by an instant. -/
def moveDone (t : Nat) (m : Nat × Nat × Rat) : Rat :=
  if m.2.1 = 0 ∨ m.1 + m.2.1 ≤ t then (if m.1 ≤ t then m.2.2 else 0)
  else if t ≤ m.1 then 0
  else m.2.2 * (((t - m.1 : Nat) : Rat) / (m.2.1 : Rat))

/-- Interpolated position of an axis at an instant. -/
def Axis.extAt (x : Axis) (t : Nat) : Rat := x.moves.foldl (fun p m => p + moveDone t m) x.base

/-- Position after every accepted step. -/
def Axis.extGoal (x : Axis) : Rat := x.moves.foldl (fun p m => p + m.2.2) x.base

/-- An accepted step: spread over the interval since the step before it in the same direction within 20 ms, otherwise
completed within `ext_first_us`, counts of the old direction first. -/
def State.extStep (s : State) (a t : Nat) (neg : Bool) : State :=
  let x := s.ax a
  let c : Rat := (if neg then -1 else 1) * (256 / (s.n .axisExtRes a : Rat))
  let p := x.extAt t
  let rest := x.extGoal - p
  let first := 1000 * s.n .axisExtFirstUs a
  let moves := match x.stepAt with
    | some u =>
      if x.stepNeg = neg ∧ t ≤ u + 20000000 then [(t, t - u, rest + c)]
      else
        let w := (Arith.round ((first : Rat) * Arith.ratio (Arith.absR rest) (Arith.absR rest + Arith.absR c))).toNat
        [(t, w, rest), (t + w, first - w, c)]
    | none => [(t, first, rest + c)]
  s.putAx a { x with base := p, moves := moves, stepAt := some t, stepNeg := neg }

/-- Edges closer than 20 µs, or pulses shorter than 5 µs, are ignored and reported. -/
def State.extPulse (s : State) (a t width : Nat) (neg : Bool) : State :=
  if s.n .axisKind a = 1 ∧ s.n .axisSource a = 2 then
    let t := t / 1000 * 1000
    let close := match (s.ax a).stepAt with
      | some u => decide (t < u + 20000)
      | none => false
    if close || decide (width < 5000) then s.raise 0x0532 kAxis a 0 else s.extStep a t neg
  else s

def execExtStepPulse (a : AuxNo) (t width : Nat) (neg : Bool) (s : State) : Host.Outcome State Fault Refusal :=
  .next (s.extPulse a t width neg)

/-! ## Gearing (R275) -/

/-- Position, folds and travel of the level-wind for a drum position. -/
def gearPos (u lo hi : Int) : Int × Int :=
  let w := hi - lo
  let m := u % (2 * w)
  (lo + (if m ≤ w then m else 2 * w - m), u / w)

/-- The carriage position that a geared axis reaches at t0(E+2); without travel, or with a faulted source, p holds. -/
def State.gearStep (s : State) (a : Nat) : Int × State :=
  let x := s.ax a
  let src := s.n .axisGearSrc a
  let lo := s.z64 .axisLwMin a
  let hi := s.z64 .axisLwMax a
  if s.n .fbState src = 2 then
    (x.gearP, if x.gearLost then s else (s.putAx a { x with gearLost := true }).raise 0x0534 kAxis a 0)
  else if hi ≤ lo then (x.gearP, s)
  else
    let u := s.z64 .axisGearOffset a + (s.z64 .fbPos src * s.n .axisGearNum a) / (s.n .axisGearDen a : Int) - lo
    let (p, layer) := gearPos u lo hi
    (p, (s.putAx a { x with gearLost := false, gearP := p }).putZ .axisLwLayer a layer)

/-! ## Steppers (R267, R269 to R271) -/

/-- Largest power of two up to `r` for which a rate holds; 1 when none does. -/
def lowerRes (ok : Nat → Bool) : Nat → Nat → Nat
  | 0, _ => 1
  | n + 1, r => if ok r then r else lowerRes ok n (r / 2)

/-- Microstep resolution for a velocity in counts/s (R267). -/
def State.stepRes (s : State) (a : Nat) (v : Rat) : Nat :=
  let top := s.n .axisUstep a
  if s.n .axisSource a = 2 then top
  else
    let rate := fun (r : Nat) => Arith.absR v * (r : Rat) / 256
    let lim : Rat := (s.n .axisUstepRateMax a : Rat)
    let now := if s.n .axisResNow a = 0 then top else min top (s.n .axisResNow a)
    let r := lowerRes (fun r => decide (rate r ≤ lim)) 9 now
    if r = now ∧ 2 * r ≤ top ∧ rate (2 * r) ≤ lim * 9 / 10 then 2 * r else r

/-- Whether two positions lie on different sides of a multiple of `k` counts, or the first lies on one. -/
def crosses (k : Nat) (p q : Rat) : Bool :=
  (p / (k : Rat)).floor != (q / (k : Rat)).floor || ((p / (k : Rat)).floor : Rat) == p / (k : Rat)

/-- Commanded position as the current vector realises it: rounded down to a multiple of 256/r counts (R267). -/
def vectorPos (p : Rat) (r : Nat) : Rat :=
  let g : Rat := 256 / (r : Rat)
  (p / g).floor * g

/-- Current factor of the standstill reduction at an instant (R270). -/
def State.holdFactor (s : State) (a : Nat) : Rat :=
  match (s.ax a).reduced with
  | some t =>
    let x := Arith.minR 1 (((s.now - t : Nat) : Rat) / 20000000)
    1 - x * (1 - s.r .axisHoldPct a / 100)
  | none => 1

/-- Whether the axis's engine searches a hard stop: there a stall is its sign, and no fault (R264). -/
def State.homesOnStop (s : State) (a : Nat) : Bool :=
  match s.engineOf 2 a with
  | some e => s.n .prfState e == 5 && s.n .prfHomeMode e == 4 && (s.eng e).stage == 1
  | none => false

/-- Deviation, boost and stall of a stepper with feedback (R271). Answers the current as a multiple of `i_run_a`. -/
def State.stepDev (s : State) (a : Nat) : Rat × State :=
  let x := s.ax a
  if !s.axHasFb a || x.faulted then (1, s)
  else
    let meas := s.axMeasured a
    let dev := Arith.absR (x.pos - meas) / 256
    let s1 := s.putR .axisDeviation a dev
    let lo := s.r .axisBoostDev a
    let hi := s.r .axisStallDev a
    let homing := s.homesOnStop a
    if hi ≤ dev ∨ (homing ∧ x.stalled) then
      let again := Arith.bit (s.n .axisStatus a) 3
      let s2 := if again || homing then s1 else s1.raise 0x0530 kAxis a 0
      let s3 := (s2.axFlag a 3 true).axFlag a 1 false
      if s.mode = 4 then (s.r .axisBoostMax a, s3.putAx a { x with reduced := none })
      else (1, s3.putAx a { (x.hold meas) with stalled := true, reduced := none })
    else
      let s2 := s1.axFlag a 3 false
      if lo ≤ dev then
        let k := 1 + (s.r .axisBoostMax a - 1) * Arith.quot (dev - lo) (hi - lo)
        let fresh := match x.boostAt with
          | some t => decide (t + 100000000 ≤ s.now)
          | none => true
        let s3 := (s2.putAx a { x with boostAt := some s.now, stalled := false, reduced := none }).axFlag a 2 true |>.axFlag a 1 false
        (k, if fresh then s3.raise 0x0531 kAxis a 0 else s3)
      else (1, (s2.putAx a { x with stalled := false }).axFlag a 2 false)

/-- Regulation of a stepper: resolution, Surface or Express, current and amplitude (R267, R269, R270). -/
def State.stepRegulate (s : State) (a : Nat) (k : Rat) : State :=
  let x := s.ax a
  let dt : Rat := (s.te : Rat) / 1000000000
  let v := (x.next - x.pos) / dt
  let fs := Arith.absR v / 256
  let r := s.stepRes a v
  let s1 := if s.n .axisResNow a = 0 ∨ crosses 256 x.pos x.next then s.putN .axisResNow a r else s
  let express := Arith.bit (s.n .axisStatus a) 0
  let want := if express then decide (s.r .axisSxSpeed a - s.r .axisSxHyst a ≤ fs) else decide (s.r .axisSxSpeed a < fs)
  let s2 := if want ≠ express ∧ crosses 512 x.pos x.next then s1.axFlag a 0 want else s1
  let now := Arith.bit (s2.n .axisStatus a) 0
  let lim := s2.r .axisIMaxA a
  let i := Arith.minR (s2.r .axisIRunA a * k) lim * s2.axFactor a * (if k = 1 then s2.holdFactor a else 1)
  let w := 2 * Config.lanePi * fs / 4
  let wl := w * s2.r .axisLPhaseH a
  let rp := s2.r .axisRPhaseOhm a
  let meas := s2.r .axisCurrentA a
  let ampI := Config.laneRound (x.ampI + 2 * Config.lanePi * 20 * dt * rp * (i - meas))
  let amp := if now then i
             else Config.laneRound (i * Config.laneSqrt (rp * rp + wl * wl) + s2.r .axisKeVS a * w + ampI)
  s2.putAx a { x with vec := vectorPos x.pos (s2.n .axisResNow a), amp := amp, ampI := if now then 0 else ampI }

/-- `hold_delay_ms` without a change of commanded position (R270). -/
def execStepperHoldReduce (a : AuxNo) (s : State) : Host.Outcome State Fault Refusal :=
  .next (
    let x := s.ax a
    if s.n .axisKind a = 1 ∧ x.reduced = none ∧ x.movedAt + msNs (s.n .axisHoldDelayMs a) ≤ s.now
       ∧ ¬Arith.bit (s.n .axisStatus a) 2 then
      (s.putAx a { x with reduced := some s.now }).axFlag a 1 true
    else s)

/-! ## BLDC axes and H-bridge loads (R272 to R274) -/

/-- Position and speed loops of a BLDC axis or DC motor on the setpoint of R254: the current reference. -/
def State.servoStep (s : State) (a : Nat) : State :=
  let x := s.ax a
  let dt : Rat := (s.te : Rat) / 1000000000
  let vSet := (x.next - x.pos) / dt
  let actual : Rat := (s.z64 .fbPos (s.n .axisFbSrc a) : Rat)
  let ref := vSet + s.r .axisPosKp a * (x.pos - actual)
  let err := ref - s.r .fbSpeedCps (s.n .axisFbSrc a)
  let lim := s.r .axisIMaxA a * s.axFactor a
  let acc := Arith.clamp (-lim) lim (x.spdI + s.r .axisSpdKi a * err * dt)
  s.putAx a { x with spdI := Config.laneRound acc,
                     amp := Config.laneRound (Arith.clamp (-lim) lim (s.r .axisSpdKp a * err + acc)) }

/-- The drive in Release that has a load as its brake (R218, R274). -/
def State.brakeOf (s : State) (a : Nat) : Option Nat :=
  (List.range 32).find? (fun d => s.n .drvReleaseEnable d == 1 && s.n .drvBrakeAux d == a / 2 && s.regime d == 5)

/-- Whether a write of a load's `on_cmd` by an agent is admitted: not while a drive in Release owns it. -/
def State.onCmdFree (s : State) (a : Nat) : Bool := !(s.n .axisKind a == 3 && (s.brakeOf a).isSome)

/-- A load follows the brake of a drive in Release (R274). -/
def State.brakeFollow (s : State) (a : Nat) : State :=
  match s.brakeOf a with
  | some d => s.putN .axisOnCmd a (Arith.b2n (s.drv d).brakeOn)
  | none => s

/-- A coil load by one epoch (R273). -/
def State.coilStep (s : State) (a : Nat) : State :=
  let x := s.ax a
  let on := s.n .axisOnCmd a == 1
  let s1 := if on && x.pullAt.isNone then s.coilOn a else if !on && x.pullAt.isSome then s.coilOff a else s
  let y := s1.ax a
  let amp := if y.pullAt.isSome then (if y.pulled then s.r .axisHoldA a else s.r .axisPullinA a) * s.axFactor a else 0
  let low := decide (Arith.absR (s.r .axisCurrentA a) < s.r .axisHoldA a / 20)
  s1.putAx a { y with amp := amp, decaying := y.decaying && !low }

/-- `pullin_ms` after switching on, the regulation changes to `hold_a` (R273). -/
def execPullInElapsed (a : AuxNo) (s : State) : Host.Outcome State Fault Refusal :=
  .next (match (s.ax a).pullAt with
    | some t =>
      if s.n .axisKind a = 3 ∧ s.n .axisHmode a = 2 ∧ t + msNs (s.n .axisPullinMs a) ≤ s.now then
        s.putAx a { s.ax a with pulled := true }
      else s
    | none => s)

/-! ## The epoch of an axis -/

/-- Commanded position that an axis is to reach at t0(E+2), by its source; a faulted or stalled axis holds (R254, R266, R271). -/
def State.axTarget (s : State) (a : Nat) : Rat × State :=
  let x := s.ax a
  if x.faulted || x.stalled then (x.after, s)
  else match s.n .axisSource a with
    | 1 => if s.n .axisKind a = 3 then (x.after, s)
           else
             let (p, s1) := s.gearStep a
             ((p : Rat), s1.putZ .axisGearLag a (Arith.round (x.pos - p)))
    | 2 => (x.extAt (s.clk.t0 + 2 * s.te), s)
    | _ => match s.engineOf 2 a with
           | some e => ((s.eng e).s0.p + (s.z64 .prfOrigin e : Rat), s)
           | none => (x.after, s)

/-- Duties that an axis gives its bridges, none for high impedance. The current loops run in D10 on currents sampled
at each carrier centre, which no command of this block carries: their duties are free values; the duty mode of a load
is exact (R272, R273). -/
def State.axDuty (s : State) (a : Nat) : State :=
  let x := s.ax a
  let brs := s.bridgesOf a
  if x.faulted || !x.enabled then forL brs (fun n t => t.bridgeOut n none) s
  else if s.n .axisKind a = 3 ∧ s.n .axisHmode a = 1 then
    let d := s.r .axisDuty a / 100 * s.axFactor a
    (s.bridgeOut a (some (Arith.maxR 0 d))).bridgeOut (a + 1) (some (Arith.maxR 0 (-d)))
  else if s.n .axisKind a = 3 ∧ s.n .axisHmode a = 2 ∧ x.pullAt.isNone ∧ ¬x.decaying then
    forL brs (fun n t => t.bridgeOut n none) s
  else forL brs (fun n t =>
    let (v, t1) := t.drawRat
    t1.bridgeOut n (some (Arith.clamp 0 1 v))) s

/-- One axis at an evaluation: its bridges, then its loops. -/
def State.axEval (s : State) (a : Nat) : State :=
  let s1 := (if s.n .axisKind a = 3 then s.brakeFollow a else s).axBridges a
  match s1.n .axisKind a with
  | 1 =>
    let (k, s2) := s1.stepDev a
    s2.stepRegulate a k
  | 2 => s1.servoStep a
  | 3 => match s1.n .axisHmode a with
         | 2 => s1.coilStep a
         | 3 => s1.servoStep a
         | _ => s1
  | _ => s1

/-- Axes in use. -/
def State.axesUsed (s : State) : List Nat := (List.range 12).filter (fun a => s.n .axisKind a != 0)

/-- Every axis before the profile unit evaluates (bridges, deviation, loops). -/
def State.axisUnit (s : State) : State := forL s.axesUsed (fun a t => t.axEval a) s

/-- After the profile unit: the position that each axis reaches at t0(E+2), and its duties. -/
def State.axisPlan (s : State) : State :=
  forL s.axesUsed (fun a t =>
    let (p, t1) := t.axTarget a
    (t1.putAx a { t1.ax a with after := p }).axDuty a) s

/-- At a boundary an axis stands at the position it was moving to (R254); a change restores the current (R270). -/
def State.axisBoundary (s : State) (smp : Samples) : State :=
  let s1 := forN 12 (fun n t => t.putR .auxCurrentA n (smp.auxI.getD n 0)) s
  let s2 := s1.putR .vauxVauxV 0 smp.vaux
  forL s2.axesUsed (fun a t =>
    let x := t.ax a
    let p := if t.n .axisSource a = 2 ∧ t.n .axisKind a = 1 then x.extAt t.clk.t0 else x.next
    let moved := decide (p ≠ x.pos) || decide (x.after ≠ p)
    let y := { x with pos := p, next := x.after, movedAt := if moved then t.clk.t0 else x.movedAt,
                      reduced := if moved then none else x.reduced }
    let peak := match t.n .axisKind a with
      | 1 => let ia := smp.auxI.getD a 0
             let ib := smp.auxI.getD (a + 2) 0
             Config.laneSqrt (ia * ia + ib * ib)
      | _ => (t.bridgesOf a).foldl (fun m n => Arith.maxR m (Arith.absR (smp.auxI.getD n 0))) 0
    let t1 := ((t.putAx a y).putZ64 .axisPos a (Arith.round p)).putR .axisCurrentA a peak
    if moved then t1.axFlag a 1 false else t1) s2

end Sys2Proof.Machine
end

