-- ==== Sys2Proof/Machine/Image.lean ====
section
/-!
DEFINITION. Image.lean: the state that a checkpoint, a state transfer and a state envelope carry (R384, R417, R418).
-/
namespace Sys2Proof.Machine

/-- Whether a point belongs to section 34: classes C, H, L and H/L. -/
def checkpointed (p : Pt) : Bool :=
  match (entry p.f).wr with
  | .d => false
  | _ => true

/-- Whether a point of class D is memory of a lane, the group lane or the profile unit, or an estimate by which they judge. -/
def laneHeld (p : Pt) : Bool :=
  !checkpointed p && (match (entry p.f).home with
    | .drive | .set | .arm | .lane | .groupLane | .shaft | .power | .engine | .axis | .round | .pos | .cell | .guard => true
    | _ => false)

/-- The engines' state from which the next epoch is computed. -/
def State.image (s : State) : LaneImage :=
  { drvs := s.drvs, sets := s.sets, arms := s.arms, shafts := s.shafts, powers := s.powers, engs := s.engs, axes := s.axes,
    guards := s.guards, levels := s.levels, held := s.pts.filter (fun e => laneHeld e.1) }

/-- A point takes a raw word. -/
def State.putPt (s : State) (p : Pt) (w : Word) : State := s.withPts (Store.put s.pts p w)

/-- The block takes a carried state: its points of section 34 and of the engines, and the engines themselves. -/
def State.takeImage (s : State) (pts : List (Pt × Word)) (i : LaneImage) : State :=
  let keep := s.pts.filter (fun e => !checkpointed e.1 && !laneHeld e.1)
  let s1 := forL (pts ++ i.held) (fun e t => t.putPt e.1 e.2) (s.withPts keep)
  ((((((((s1.withDrvs i.drvs).withSets i.sets).withArms i.arms).withShafts i.shafts).withPowers i.powers).withEngs
    i.engs).withAxes i.axes).withGuards i.guards).withLevels i.levels

/-- The carried points of the present state. -/
def State.heldPts (s : State) : List (Pt × Word) := s.pts.filter (fun e => checkpointed e.1)

end Sys2Proof.Machine
end

