-- ==== Sys2Proof/Machine/IrqCmd.lean ====
section
/-!
DEFINITION. IrqCmd.lean: the commands of the interrupt controller and the cores (chapter 16).
-/
namespace Sys2Proof.Machine

/-! ## Firing and withdrawal -/

/-- A source fires. For a pin, `level` is the level that its glitch filter has accepted: the rising edge fires in mode
0, every change in mode 1, and mode 2 makes it a level source (R460, R461); mode 3 has no meaning in the manual, so a
free bit says whether it fires. Any other level source takes `level` as its condition; any other edge source fires. -/
def State.sourceFire (s : State) (id : Nat) (level : Bool) : State :=
  if irqPin id then
    match (s.src id).mode with
    | 0 => if level then s.irqFire id else s
    | 1 => s.irqFire id
    | 2 => s.irqLevel id level
    | _ => let (w, s1) := s.drawWord
           if w.getLsbD 0 then s1.irqFire id else s1
  else if s.irqIsLevel id then s.irqLevel id level
  else s.irqFire id

def execIrqSourceFire (id : Fin 1024) (level : Bool) (s : State) : Host.Outcome State Fault Refusal :=
  .next (s.sourceFire id level)

/-- The condition of a level source ends, which withdraws it where it is presented and no claim took it (R460, R466).
An edge source keeps its pending bit, so for it this event cannot occur. -/
def State.sourceWithdrawn (s : State) (id : Nat) : State := if s.irqIsLevel id then s.irqLevel id false else s

def execIrqWithdrawn (id : Fin 1024) (s : State) : Host.Outcome State Fault Refusal := .next (s.sourceWithdrawn id)

/-! ## Claim and completion -/

/-- A core claims the source presented to it, or takes its dead letter (R465, R466). -/
def State.claim (s : State) (c : Nat) : State :=
  let k := s.core c
  if k.deadPending then s.putCore c { k with claimed := 1023, deadPending := false }
  else if k.presented = 0 then s.putCore c { k with claimed := 0 }
  else
    let id := k.presented
    let x := s.src id
    let s1 := s.putSrc id { x with active := true, pend := false, last := c }
    (s1.putCore c { k with claimed := id, stack := (id, x.prio) :: k.stack }).irqUpdate [] id

def execClaim (c : CoreNo) (s : State) : Host.Outcome State Fault Refusal := .next (s.claim c)

/-- A mismatched EOI is not applied and leaves its trace (R468). -/
def State.stackFaulted (s : State) (c id top : Nat) : State :=
  let k := s.core c
  let s1 := (s.putCore c { k with stackFault := true, faultEoi := id, faultTop := top }).inc .coreStackFaults c
  (s1.raise 0x0C01 kCore c (id + 2 ^ 16 * top)).irqLevel 5 true

/-- A core ends the service of an ID: the matching top of its stack is popped; anything else is a stack fault (R467,
R468). -/
def State.eoi (s : State) (c id : Nat) : State :=
  let k := s.core c
  if id = 0 ∨ id = 1023 then s
  else match k.stack with
    | (top, _) :: rest =>
      if top = id then
        ((s.putCore c { k with stack := rest }).putSrc id { s.src id with active := false }).irqUpdate [id]
      else s.stackFaulted c id top
    | [] => s.stackFaulted c id 0

/-- Supervisor acknowledges source 1 by its own write of `device.sto_seen` (Table 16.2). DESIGN CHOICE: no command
makes that write, so it goes with Supervisor's EOI of the source; the point takes the levels seen. -/
def State.stoSeen (s : State) : State :=
  (s.putN .devStoSeen 0 (Arith.b2n s.dev.stoA + 2 * Arith.b2n s.dev.stoB)).irqLevel 1 false

def execEoi (c : CoreNo) (v : Word) (s : State) : Host.Outcome State Fault Refusal :=
  .next (if v.toNat % 1024 = 1 ∧ c < 2 then (s.eoi c 1).stoSeen else s.eoi c (v.toNat % 1024))

/-! ## Bitmap registers -/

/-- The IDs of a bitmap write that the writing core may write (R459). -/
def State.irqWritable (s : State) (c k : Nat) (v : Word) : List Nat := (irqIds k v).filter (s.irqMayWrite c)

def State.pendingSet (s : State) (c k : Nat) (v : Word) : State :=
  let ids := s.irqWritable c k v
  (forL ids (fun id t => t.putSrc id { t.src id with pend := true }) s).irqUpdate ids

def execPendingSet (c : CoreNo) (k : Fin 32) (v : Word) (s : State) : Host.Outcome State Fault Refusal :=
  .next (s.pendingSet c k v)

def State.pendingClr (s : State) (c k : Nat) (v : Word) : State :=
  (forL (s.irqWritable c k v) (fun id t => t.putSrc id { t.src id with pend := false }) s).irqUpdate []

def execPendingClr (c : CoreNo) (k : Fin 32) (v : Word) (s : State) : Host.Outcome State Fault Refusal :=
  .next (s.pendingClr c k v)

def State.enableSet (s : State) (c k : Nat) (v : Word) : State :=
  let ids := s.irqWritable c k v
  (forL ids (fun id t => t.putSrc id { t.src id with enabled := true }) s).irqUpdate ids

def execEnableSet (c : CoreNo) (k : Fin 32) (v : Word) (s : State) : Host.Outcome State Fault Refusal :=
  .next (s.enableSet c k v)

def State.enableClr (s : State) (c k : Nat) (v : Word) : State :=
  (forL (s.irqWritable c k v) (fun id t => t.putSrc id { t.src id with enabled := false }) s).irqUpdate []

def execEnableClr (c : CoreNo) (k : Fin 32) (v : Word) (s : State) : Host.Outcome State Fault Refusal :=
  .next (s.enableClr c k v)

/-! ## Core registers -/

/-- Whether core `c` may write `THRESHOLD` and `STATUS` of core block `b` (R463). -/
def mayWriteBlock (c b : Nat) : Bool := c < 2 || 2 ≤ b

/-- Core `c` writes `STATUS` of core block `b`: a 1 in bit 0 clears `STACK_FAULT`, and source 5 lasts while any core's
bit is set (R468). -/
def State.stackFaultClear (s : State) (c b : Nat) (v : Word) : State :=
  if mayWriteBlock c b && v.getLsbD 0 then
    let s1 := s.putCore b { s.core b with stackFault := false }
    s1.irqLevel 5 ([0, 1, 2, 3].any (fun i => (s1.core i).stackFault))
  else s

def execStackFaultClear (c b : CoreNo) (v : Word) (s : State) : Host.Outcome State Fault Refusal :=
  .next (s.stackFaultClear c b v)

/-- Adds the time since the last change to a core's time awake (R470). -/
def CoreIf.account (k : CoreIf) (now : Nat) : CoreIf :=
  { k with awake := if k.asleep then k.awake else k.awake + (now - k.since), since := now }

/-- Whether an enabled source of priority 1 or more with the core in its mask is pending (R469). -/
def State.wakeSource (s : State) (c : Nat) : Bool :=
  s.irq.srcs.any (fun e => irqValid e.1 && e.2.pending && e.2.enabled && 0 < e.2.prio && Arith.bit e.2.mask c)

/-- A core executes WFI and sleeps (R454). A source already pending for it makes it wake. -/
def State.wfi (s : State) (c : Nat) : State :=
  s.putCore c { (s.core c).account s.now with asleep := true, waking := s.wakeSource c }

def execWfi (c : CoreNo) (s : State) : Host.Outcome State Fault Refusal := .next (s.wfi c)

/-- A sleeping core for which a source became pending runs again (R469). -/
def State.coreWake (s : State) (c : Nat) : State :=
  let k := s.core c
  if k.asleep && k.waking then s.putCore c { k.account s.now with asleep := false, waking := false } else s

def execCoreWake (c : CoreNo) (s : State) : Host.Outcome State Fault Refusal := .next (s.coreWake c)

/-- `device.core[c].load` at the end of a 10 ms period: the fraction not asleep (R470). -/
def State.coreLoads (s : State) : State :=
  forN 4 (fun c t =>
    let k := (t.core c).account t.now
    (t.putCore c { k with awake := 0 }).putR .coreLoad c (Arith.minR 1 ((k.awake : Rat) / 10000000))) s

/-! ## Register writes without behaviour of their own (R462, Table 16.4) -/

/-- A core's 4-byte write to `SRC_CFG`, `TARGET` or `THRESHOLD`. A priority or target write re-presents (R466); what a threshold takes from
a core is no withdrawal, and a pin that leaves the level mode has no condition (R460, R466). -/
def State.irqRegWrite (s : State) (c off : Nat) (v : Word) : State :=
  let n := v.toNat
  if off % 4 ≠ 0 then s
  else if off < 0x1000 then
    let id := off / 4
    if s.irqMayWrite c id then
      let x := s.src id
      let x := if irqPin id then { x with mode := Arith.bits n 9 8, filter := Arith.bits n 23 16,
                                          cond := x.cond && Arith.bits n 9 8 == 2 } else x
      (s.putSrc id { x with prio := n % 32 }).irqUpdate [id]
    else s
  else if off < 0x2000 then
    let id := (off - 0x1000) / 4
    if s.irqMayWrite c id then
      (s.putSrc id { s.src id with mask := Nat.land n (s.irqMaskBits id) }).irqUpdate [id]
    else s
  else if 0x4000 ≤ off ∧ off < 0x4400 ∧ (off - 0x4000) % 0x100 = 0x0C then
    let b := (off - 0x4000) / 0x100
    if mayWriteBlock c b then
      (s.putCore b { s.core b with threshold := n % 32 }).irqUpdate [] (s.core b).presented else s
  else s

/-! ## The plant-logic partition (R455, Table 16.1) -/

/-- Whether cores 2–3 may make an access: it lies wholly in a region that allows its kind. -/
def State.logicMay (s : State) (addr size : Nat) (kind : AccessKind) : Bool :=
  let inside := fun base len => decide (base ≤ addr ∧ addr + size ≤ base + len)
  let fetch := kind == AccessKind.fetch
  let load := kind == AccessKind.load
  let store := kind == AccessKind.store
  inside 0x100000000 (s.n .logicDdrMib * 2 ^ 20) || inside 0x20000000 (2 ^ 21)
  || (inside 0x0C000000 (2 ^ 16) && !fetch) || (inside 0x30000000 4096 && !fetch)
  || (inside 0x30010000 16384 && store) || (inside 0x40000000 Config.imageSize && (fetch || load))

/-- An access of a core of plant logic outside its partition has no effect and is reported (R455). An access inside
it, or by a Supervisor core, does not fault. -/
def State.logicAccess (s : State) (c addr size : Nat) (kind : AccessKind) : State :=
  if c < 2 || s.logicMay addr size kind then s
  else (s.inc .logicAccessFaults).raise 0x0C03 kCore c (c + 2 ^ 8 * (addr % 2 ^ 24))

def execLogicAccessFault (c : CoreNo) (addr : Nat) (size : Nat) (kind : AccessKind) (s : State) :
    Host.Outcome State Fault Refusal := .next (s.logicAccess c addr size kind)

end Sys2Proof.Machine
end

