-- ==== Sys2Proof/Machine/Wire.lean ====
section
/-!
DEFINITION. Wire.lean: what leaves and reaches a lane of a round, byte by byte (R5, R64 to R72): control blocks, the sections of a
frame with their entries and check sequences, and the body of a SLOWRESP.
-/
namespace Sys2Proof.Machine

/-! ## Control blocks (Table 3.1) -/

/-- A control block of a type with its first bytes; the others are 0. -/
def ctlBlock (type : Nat) (bs : List Byte) : Block := .control type (bs ++ List.replicate (7 - bs.length) 0)

/-- IDLE. -/
def idleBlock : Block := ctlBlock 0x1E []

/-- DISCOVER: next position, or the exhausted bit where none is left, and the authority generation. -/
def discoverBlock (next generation : Nat) : Block :=
  ctlBlock 0xD8 (Arith.leBytes 1 (next % 256) ++ Arith.leBytes 1 (Arith.b2n (decide (256 ≤ next))) ++ Arith.leBytes 2 generation)

/-- ECHO: target position and sequence number. -/
def echoBlock (pos seq : Nat) : Block := ctlBlock 0xD9 (Arith.leBytes 1 pos ++ Arith.leBytes 1 seq)

/-! ## Entries -/

/-- The six words of an arm entry, little-endian (Table 3.3). -/
def arWords (e : ArmEntry) : List Nat :=
  [e.slot + 2 ^ 8 * (e.mode + 4 * Arith.b2n e.trims + 16 * Arith.b2n e.neg) + 2 ^ 16 * ((Word.ofInt e.ref).toNat % 2 ^ 16),
   (Word.ofInt e.step).toNat % 2 ^ 16 + 2 ^ 16 * e.phase]
  ++ (List.range 4).map (fun k => e.mask / 2 ^ (32 * k) % 2 ^ 32)

/-- The 24 bytes of an arm entry (R68). -/
def armBytes (e : ArmEntry) : List Byte := (arWords e).flatMap (Arith.leBytes 4)

/-- The 4 bytes of a TRIM entry (R69). -/
def trimBytes (e : TrimEntry) : List Byte :=
  Arith.leBytes 1 e.pos ++ Arith.leBytes 1 e.kind ++ Arith.leBytes 2 (Word.ofInt e.value).toNat

/-- The 8 bytes of a SLOWREQ entry: operation 0x01 is a block read (R70). -/
def slowBytes (q : SlowReq) : List Byte :=
  Arith.leBytes 1 q.pos ++ Arith.leBytes 1 0x01 ++ Arith.leBytes 2 q.off ++ Arith.leBytes 1 q.count ++ Arith.leBytes 1 q.tag ++
    Arith.leBytes 2 0

/-- Type code of a directive (Table 3.4). -/
def dirCode : Directive → Nat
  | .delay _ _ => 0x01
  | .assign _ _ => 0x02
  | .version _ => 0x03
  | .carrier _ _ => 0x04
  | .bypass _ => 0x05
  | .gates _ => 0x06
  | .coast _ => 0x07
  | .charge => 0x09

/-- Arguments of a directive from byte 2 on (Table 3.4). -/
def dirArgs : Directive → List Byte
  | .delay e ns => Arith.leBytes 1 (match e with | .a => 0 | .b => 1) ++ Arith.leBytes 4 ns
  | .assign slot idx => Arith.leBytes 1 slot ++ Arith.leBytes 1 idx
  | .version v => Arith.leBytes 1 v
  | .carrier phase setting => Arith.leBytes 2 phase ++ Arith.leBytes 1 setting
  | .bypass close => Arith.leBytes 1 (Arith.b2n close)
  | .gates release => Arith.leBytes 1 (Arith.b2n release)
  | .coast limit => Arith.leBytes 1 limit
  | .charge => []

/-- The 8 bytes of a DIRECT entry; bit 7 of the type addresses every cell (R71). -/
def dirBytes (q : DirEntry) : List Byte :=
  let head := match q.pos with
    | some p => Arith.leBytes 1 (dirCode q.dir) ++ Arith.leBytes 1 p
    | none => Arith.leBytes 1 (dirCode q.dir + 0x80) ++ [0]
  head ++ dirArgs q.dir ++ List.replicate (6 - (dirArgs q.dir).length) 0

/-! ## Sections (R64, R66, R72) -/

/-- The 32-byte header of a frame (Table 3.2). -/
def frameHeader (f : Frame) : List Byte :=
  let bs := Arith.leBytes 8 f.franking ++ Arith.leBytes 6 f.epoch ++ Arith.leBytes 2 f.generation ++ Arith.leBytes 6 f.token
    ++ Arith.leBytes 2 f.check ++ Arith.leBytes 1 (f.offset + 4 * f.setting + 16 * Arith.b2n f.linkup)
    ++ Arith.leBytes 1 f.lo ++ Arith.leBytes 1 f.hi ++ Arith.leBytes 1 f.arms.length
    ++ Arith.leBytes 1 (f.dirs.length + 16 * f.slows.length) ++ Arith.leBytes 1 f.trims.length
  bs ++ Arith.leBytes 2 (Arith.crc16 bs)

/-- The blocks of a section: its start block names the data blocks; they carry the body, zeros up to a whole block, and the
trailer. -/
def sectionBlocks (type : Nat) (body : List Byte) : List Block :=
  let pad := List.replicate ((8 - body.length % 8) % 8) (0 : Byte)
  let trailer := Arith.leBytes 4 (Arith.crc32 body) ++ Arith.leBytes 2 body.length ++ Arith.leBytes 1 type ++ [0]
  let bytes := body ++ pad ++ trailer
  let n := bytes.length / 8
  ctlBlock type (Arith.leBytes 1 n) :: (Arith.pieces 8 n bytes).map .data

/-- A section other than REF, omitted when it has no entry (R64). -/
def entryBlocks (type : Nat) (entries : List (List Byte)) : List Block :=
  if entries.isEmpty then [] else sectionBlocks type entries.flatten

/-- A frame on the wire: REF, TRIM, SLOWREQ, DIRECT (R64). -/
def frameWire (f : Frame) : List Block :=
  sectionBlocks 0xD0 (frameHeader f ++ (f.arms.map armBytes).flatten) ++ entryBlocks 0xD1 (f.trims.map trimBytes)
    ++ entryBlocks 0xD2 (f.slows.map slowBytes) ++ entryBlocks 0xD3 (f.dirs.map dirBytes)

/-- CRC-32 over the points of a SLOWRESP body (R87). -/
def slowCrc (vals : List Word) : Nat := Arith.crc32 (vals.flatMap (fun w => Arith.leBytes 4 w.toNat))

end Sys2Proof.Machine
end

