-- ==== Sys2Proof/Machine/Cells.lean ====
section
/-!
DEFINITION. Cells.lean: the cell side of a round: permit tokens and generations (R75 to R78), what a frame does to a cell (R43,
R73, R88), the cell states (Table 3.11a), coasting (R97, R98), trims, carrier and modulation index (R150, R151, R163), and the
queue of a cell's events (R107).

A cell is another device. Its record holds what the rules make of the frames that this module sends; the physical side
(capacitor, current, trips, supply) comes from its slots, which also set the state that the cell reports.
-/
namespace Sys2Proof.Machine

/-! ## Permit token (R75) -/

/-- One step of the 48-bit register. -/
def lfsrStep (x : Nat) : Nat :=
  (2 * x + (Arith.b2n (Arith.bit x 47) + Arith.b2n (Arith.bit x 46) + Arith.b2n (Arith.bit x 20) + Arith.b2n (Arith.bit x 19)) % 2) % 2 ^ 48

/-- Check field of a token: CRC-16 over S, the low epoch word and the generation. -/
def tokenCheck (x epoch gen : Nat) : Nat := Arith.crc16 (Arith.leBytes 6 x ++ Arith.leBytes 4 epoch ++ Arith.leBytes 2 gen)

/-- The register after a number of steps. -/
def lfsrSteps : Nat → Nat → Nat
  | 0, x => x
  | n + 1, x => lfsrSteps n (lfsrStep x)

/-! ## Generation (R78) -/

/-- Whether a generation is newer than the highest one obeyed. -/
def genNewer (g h : Nat) : Bool := let d := (g + 65536 - h % 65536) % 65536; decide (1 ≤ d ∧ d ≤ 32767)

/-- Whether a cell obeys a frame of a generation. -/
def genObeyed (g h : Nat) : Bool := g == h || genNewer g h

/-! ## Positions (R4, R62) -/

/-- Address of the cell at a position (R4). -/
def cellAt (r p : Nat) : Nat := r * 256 + p

/-- Cumulative delay of a position from an end, in ns (R62). -/
def State.cum (s : State) (r p : Nat) : End → Nat
  | .a => s.n .pos (cellAt r p) 4
  | .b => s.n .pos (cellAt r p) 5

/-! ## The record -/

def State.cellSt (s : State) (a : Nat) : CellSt := Tab.get CellSt.init s.cells a

def State.putCellSt (s : State) (a : Nat) (c : CellSt) : State := s.withCells (Tab.put CellSt.init s.cells a c)

/-- A state in which the gates switch (Table 3.10). -/
def cellSwitches (st : Nat) : Bool := st == 5 || st == 7

/-- Enters a state; outside Active and Coasting the gates are blocked or bypassed (Table 3.10). -/
def CellSt.to (c : CellSt) (st : Nat) : CellSt := { c with state := st, blocked := !cellSwitches st }

/-- Queues an event: at least 8 wait; then the newest is dropped, and the last one queued becomes 0x0B if the gates blocked
(R107). -/
def CellSt.report (c : CellSt) (e : Nat) : CellSt :=
  if c.events.length < 8 then { c with events := c.events ++ [e] }
  else if c.blocked then { c with events := c.events.dropLast ++ [0x0B] }
  else c

/-- The cell takes or confirms a position in a DISCOVER (R76, R78, R96, R98); a Bypassed cell stays Bypassed and enters nothing. -/
def CellSt.discover (c : CellSt) (gen : Nat) : CellSt :=
  if c.state = 6 then c else { c with gen := gen, waiver := true, due := [], later := [], flight := [], coast := 4 }.to 1

/-! ## Directives (Table 3.4, Table 3.11a) -/

/-- Whether a cell may become Ready: no latched trip, and `v_cap` at the ready threshold or above, in per cent of rated. -/
def CellSt.canReady (c : CellSt) (ready : Nat) : Bool := c.trips == 0 && decide (ready * 32768 ≤ c.vcap * 100)

/-- A directive takes effect; one that Table 3.11a gives no transition from the cell's state changes nothing. -/
def CellSt.direct (c : CellSt) (ready : Nat) : Directive → CellSt
  | .delay .a ns => { c with delayA := ns }
  | .delay .b ns => { c with delayB := ns }
  | .assign slot idx => { c with slot := slot, idx := idx }
  | .version v => if c.state = 1 then (if v = 0 then c.to 8 else { c with version := v }.to 2) else c
  | .carrier phase setting => { c with carrier := phase, setting := setting }
  | .bypass true => if c.state = 4 ∨ c.state = 5 ∨ c.state = 7 ∨ c.state = 8 then (c.to 6).report 0x05 else c
  | .bypass false => if c.state = 6 ∧ c.canReady ready then c.to 4 else c
  | .gates false => if 2 ≤ c.state ∧ c.state ≤ 5 ∨ c.state = 7 then c.to 8 else c
  | .gates true => if c.state = 8 ∧ c.canReady ready then c.to 4 else c
  | .coast n => if 1 ≤ n ∧ n ≤ 8 then { c with coast := n } else c
  | .charge => if c.state = 2 then c.to 3 else c

/-- The directives of a frame that address a position (R71). -/
def frameDirs (f : Frame) (p : Nat) : List Directive :=
  (f.dirs.filter (fun d => match d.pos with | some q => q == p | none => true)).map (·.dir)

/-- A trim takes effect: kind 1 the voltage trim, kind 2 the carrier phase trim, which only version 3 cells obey (R69, R88). -/
def CellSt.trim (c : CellSt) (e : TrimEntry) : CellSt :=
  if e.kind = 1 then { c with trimV := e.value }
  else if e.kind = 2 ∧ c.version = 3 then { c with trimP := e.value }
  else c

/-! ## A frame arrives -/

/-- Whether the token of a frame is valid for a cell (R76). `newer`: the frame carries a newer generation. -/
def CellSt.tokenValid (c : CellSt) (f : Frame) (newer : Bool) : Bool :=
  let n := f.epoch - c.lastEpoch
  decide (tokenCheck f.token f.epoch f.generation = f.check) && f.token != 0
    && (newer || c.waiver || ((c.state == 4 || c.state == 8) && c.blocked)
        || (decide (c.lastEpoch < f.epoch ∧ n ≤ 8) && lfsrSteps n c.lastS == f.token))

/-- A valid header's generation and token are taken (R76 to R78); a switching cell with an invalid token blocks. -/
def CellSt.header (c : CellSt) (f : Frame) (e : End) : CellSt :=
  let ok := c.tokenValid f (genNewer f.generation c.gen)
  let c1 := { c with gen := f.generation, serving := e, offset := f.offset, tokenOk := ok, waiver := f.token == 0,
                     lastS := if ok then f.token else c.lastS, lastEpoch := if ok then f.epoch else c.lastEpoch,
                     tokenSeen := c.tokenSeen || ok }
  if ok || !cellSwitches c.state then c1
  else { c1.to 8 with permitRejects := c.permitRejects + 1 }.report 0x07

/-- Enters Coasting with a number of coasting epochs behind it (R97). -/
def CellSt.startCoast (c : CellSt) (n : Nat) : CellSt :=
  { c.to 7 with blocked := c.blocked, coastN := n, tokenSeen := false, held := true, episodes := c.episodes + 1 }.report 0x0A

/-- The frame without the sections whose CRC fails at a cell; the REF section keeps its header (R72). -/
def soundFrame (f : Frame) (noise : Nat) : Frame :=
  { f with arms := if Arith.bit noise 1 then [] else f.arms, trims := if Arith.bit noise 2 then [] else f.trims,
           slows := if Arith.bit noise 3 then [] else f.slows, dirs := if Arith.bit noise 4 then [] else f.dirs }

/-- How many sections of a frame with a sound header a cell discards for their CRC; an omitted section has none (R64, R72). -/
def damagedSections (f : Frame) (noise : Nat) : Nat :=
  Arith.b2n (Arith.bit noise 1) + Arith.b2n (Arith.bit noise 2 && !f.trims.isEmpty) +
    Arith.b2n (Arith.bit noise 3 && !f.slows.isEmpty) + Arith.b2n (Arith.bit noise 4 && !f.dirs.isEmpty)

/-- Takes the rest of an epoch frame in: REF applies at W + (offset − 1) T_E, trims and directives one epoch later (R73); a REF
section that arrives after its instant is discarded (R43), and one whose body failed its CRC makes an Active cell coast
(Table 3.11a). -/
def CellSt.take (c : CellSt) (f : Frame) (p te : Nat) (late : Bool) : CellSt :=
  let inst := f.franking + (f.offset - 1) * te
  let mine := (f.trims.filter (fun t => t.pos == p)).map (fun t => (⟨inst + te, some t, none⟩ : CellLater))
    ++ (frameDirs f p).map (fun d => (⟨inst + te, none, some d⟩ : CellLater))
  let c1 := { c with later := c.later ++ mine }
  if Arith.bit c.noise 1 then (if c.state = 5 then c1.startCoast 0 else c1)
  else if late then { c1 with lateDiscards := c.lateDiscards + 1 }.report 0x09
  else { c1 with due := c.due ++ [⟨inst, f.epoch, f.arms.find? (fun a => a.slot == c.slot), f.offset, c.tokenOk⟩] }

/-- A frame reaches a cell. One whose header fails its CRC is discarded (R72), and so is one of an older generation (R78); a
link-up frame's directives take effect on receipt (R73). -/
def CellSt.receive (c : CellSt) (g : Frame) (e : End) (p te ready : Nat) (late : Bool) : CellSt :=
  let f := soundFrame g c.noise
  if Arith.bit c.noise 0 then { c with crcErrors := c.crcErrors + 1 }
  else if genObeyed f.generation c.gen then
    let c1 := { c.header f e with crcErrors := c.crcErrors + damagedSections g c.noise }
    if f.linkup then (frameDirs f p).foldl (fun x d => x.direct ready d) c1 else c1.take f p te late
  else { c with genRejects := c.genRejects + 1 }.report 0x08

/-! ## Boundaries (R43, R97, R98) -/

/-- The frame that applies at an instant: of the frames due, the one with the highest epoch number (R43). -/
def CellSt.applies (c : CellSt) (t0 : Nat) : Option CellDue :=
  (c.due.filter (fun d => decide (d.at' ≤ t0))).foldl (fun b d =>
    match b with
    | some (x : CellDue) => if x.epoch < d.epoch then some d else some x
    | none => some d) none

/-- What a nearest-level entry makes a cell insert: its bit of the mask, negatively where the entry says so (R157). -/
def CellSt.level (c : CellSt) (a : ArmEntry) : Int := if Arith.bit a.mask c.idx then (if a.neg then -1 else 1) else 0

/-- An arm entry applies: reference and carrier phase are set; mode 0 blocks the gates for the epoch (R68, R150, R163). A change
of level sooner than the minimum on-time after the last one is held back (R151). -/
def CellSt.useEntry (c : CellSt) (e : Option ArmEntry) (t0 tMin : Nat) : CellSt :=
  match e with
  | some a =>
    let p := if a.trims then c.trimP else 0
    let c1 := { c with entry := some a, ref := a.ref, phase := ((a.phase + c.carrier : Int) + p).emod 65536 |>.toNat, phaseAt := t0,
                       blocked := c.blocked || a.mode == 0 }
    let v := if a.mode = 2 then c.level a else 0
    if v = c.ins ∨ t0 < c.insAt + tMin then c1 else { c1 with ins := v, insAt := t0 }
  | none => c

/-- A cell at a boundary at which no reference applies: it enters Coasting, coasts on, or leaves Coasting for Blocked (R97, R98).
In the first coasting epoch it holds its references; later `step` is added to a phase-shifted-carrier reference, which stays in
its s16 format: the rule states no wrap (DESIGN CHOICE, log entry 115). -/
def CellSt.coastStep (c : CellSt) : CellSt :=
  if c.state = 5 then c.startCoast 1
  else if c.state = 7 ∧ c.coastN = 0 then { c with coastN := 1, held := true }
  else if c.state = 7 then
    if (c.coastN = 2 ∧ !c.tokenSeen) ∨ c.coast ≤ c.coastN then (c.to 8).report 0x0B
    else
      let add := match c.entry with | some a => if a.mode = 1 then a.step else 0 | none => 0
      { c with coastN := c.coastN + 1, held := true, ref := max (-32768) (min 32767 (c.ref + add)) }
  else c

/-- Trims and directives whose instant has come (R73). -/
def CellSt.takeLater (c : CellSt) (t0 ready : Nat) : CellSt :=
  let now := c.later.filter (fun x => decide (x.at' ≤ t0))
  now.foldl (fun x l =>
    let y := match l.trim with | some t => x.trim t | none => x
    match l.dir with | some d => y.direct ready d | none => y)
    { c with later := c.later.filter (fun x => !decide (x.at' ≤ t0)), held := false }

/-- The references of a frame apply: a Ready cell with an arm slot and an entry of mode 1 or 2 becomes Active (Table 3.11a). -/
def CellSt.apply (c : CellSt) (d : CellDue) (t0 tMin : Nat) : CellSt :=
  let starts := c.state == 4 && c.slot != 0xFF && (match d.entry with | some a => a.mode == 1 || a.mode == 2 | none => false)
  if d.tokenOk && (cellSwitches c.state || starts) then ({ c with coastN := 0 }.to 5).useEntry d.entry t0 tMin else c

/-- A boundary. A cell whose last valid frame had offset 2 and that has no frame due holds its references without coasting (R43,
R97). -/
def CellSt.boundary (c : CellSt) (t0 ready tMin : Nat) : CellSt :=
  let c1 := c.takeLater t0 ready
  let c2 := { c1 with due := c1.due.filter (fun x => !decide (x.at' ≤ t0)) }
  match c1.applies t0 with
  | some d => c2.apply d t0 tMin
  | none => if c1.offset = 1 ∨ c1.state = 7 then c2.coastStep else c2

/-! ## Slots -/

/-- What a valid slot shows of its cell (Tables 3.5 and 3.6): the state it reports, its physical side, and that the oldest event
has been reported. -/
def CellSt.shows (c : CellSt) (st status vcap : Nat) (iArm : Int) : CellSt :=
  { c with state := st, blocked := Arith.bit status 4, trips := status / 2 ^ 8 % 16, vcap := vcap, iArm := iArm,
           coastN := if st = 7 ∧ c.state ≠ 7 then 1 else c.coastN, events := c.events.drop 1 }

/-! ## Switching (R150, R151, R163) -/

/-- Sign of a voltage trim, by the cell's own current unless the carrier setting fixes it; `full`: a full-bridge cell. -/
def CellSt.trimSign (c : CellSt) (full : Bool) : Int :=
  if Arith.bit c.setting 7 then 1
  else if c.iArm.natAbs * 100 < 2 * 32768 then 0
  else if full then c.iArm.sign * c.ref.sign else c.iArm.sign

/-- Modulation index, in units of 2^-15: m + t × s, clamped to the range of the cell; raw 0x7FFF counts as 1 at a half bridge. -/
def CellSt.index (c : CellSt) (full : Bool) : Int :=
  let t := match c.entry with | some a => if a.trims then c.trimV else 0 | none => 0
  let m := c.ref + t * c.trimSign full
  if full then max (-32768) (min 32768 m) else if 0x7FFF ≤ m then 32768 else max 0 m

/-- Carrier phase at an instant, in periods: it advances by 1 / (P × T_E) from the last apply instant. -/
def CellSt.phaseNow (c : CellSt) (t te : Nat) (period : Nat) : Rat :=
  let x : Rat := (c.phase : Rat) / 65536 + ((t - c.phaseAt : Nat) : Rat) / ((period * te : Nat) : Rat)
  x - (x.floor : Rat)

/-- The carrier, a symmetric triangle from 0 to 1. -/
def triangle (x : Rat) : Rat := if x < 1 / 2 then 2 * x else 2 - 2 * x

/-- The index that a cell switches by: an insertion that the comparison would end sooner than the minimum on-time is not made, and
a removal that it would end as soon is not made either (R151). `part` is the share of the carrier period that one insertion of
index 1 fills: the whole of it at a half bridge, half of it at a full bridge. -/
def holdIndex (m part : Rat) (span tMin : Nat) : Rat :=
  let a := Arith.absR m
  if a * part * span < tMin then 0
  else if (1 - a) * part * span < tMin then Arith.sgn m
  else m

/-- What a switching cell inserts at an instant: 0 or 1 for a half bridge, −1 to 1 for a full bridge (R151, R157). -/
def CellSt.inserts (c : CellSt) (full : Bool) (t te period tMin : Nat) : Int :=
  match c.entry with
  | none => 0
  | some a =>
    if c.blocked then 0
    else if a.mode = 2 then c.ins
    else
      let m := holdIndex ((c.index full : Rat) / 32768) (if full then 1 / 2 else 1) (period * te) tMin
      let x := triangle (c.phaseNow t te period)
      if full then
        (if 2 * x - 1 < m then 1 else 0) - (if 2 * x - 1 < -m then 1 else 0)
      else if x < m then 1 else 0

/-- What the cell at an address inserts at an instant, by its own minimum on-time and carrier (R151). -/
def State.cellInserts (s : State) (a t : Nat) (period : Nat) : Int :=
  (s.cellSt a).inserts (s.n .cell a 0x07 == 2) t s.te period (s.n .cell a 0x25)

/-! ## The cells of a round -/

/-- Blocks of a REF section with a number of arm entries: the start block, and header, entries and trailer in blocks of 8 bytes
(R66, R74). -/
def refBlocks (arms : Nat) : Nat := 1 + (32 + 24 * arms + 8) / 8

/-- Arrival of a REF section's last block at a cell, in tenths of a nanosecond: 13.2 ns a block (R58). -/
def refTail (depart cum arms : Nat) : Nat := (depart + cum) * 10 + refBlocks arms * 132

/-- Arrival of a header's last block: the start block and four blocks of the header. -/
def headTail (depart cum : Nat) : Nat := (depart + cum) * 10 + 5 * 132

/-- Positions that a frame serves: the range that it names; from end A the cell at `serve_hi`, from end B the cell at `serve_lo` does
not forward it (R61). -/
def frameReaches (f : Frame) (p : Nat) : Bool := decide (f.lo ≤ p ∧ p ≤ f.hi)

/-- A frame reaches one cell. A REF section that arrives less than 30 ns before its instant applies or counts as late as the
cell's maker chose (R74): a free choice. -/
def State.cellFrame (s : State) (r : Nat) (e : End) (f : Frame) (p : Nat) : State :=
  let a := cellAt r p
  let c := s.cellSt a
  if c.state = 0 ∨ c.state = 9 then s
  else
    let tail := refTail s.now (s.cum r p e) f.arms.length
    let inst := (f.franking + (f.offset - 1) * s.te) * 10
    let near := decide (inst < tail + 300 ∧ tail ≤ inst)
    let late := if near then s.drawWord.1.toNat % 2 == 1 else decide (inst < tail)
    let s1 := if near then s.drawWord.2 else s
    if f.franking * 10 < headTail s.now (s.cum r p e) then s1.putCellSt a { c with flight := c.flight ++ [(f, e, late)] }
    else s1.putCellSt a (c.receive f e p s.te (s.n .cell a 0x08) late)

/-- A frame that left an end reaches its cells. -/
def State.cellsReceive (s : State) (r : Nat) (e : End) (f : Frame) : State :=
  forL ((List.range 256).filter (frameReaches f)) (fun p t => t.cellFrame r e f p) s

/-- A cell at a boundary, and the frames that reach it between this boundary and the next although they left before. -/
def State.cellBoundary (s : State) (a : Nat) (c : CellSt) : CellSt :=
  let rdy := s.n .cell a 0x08
  c.flight.foldl (fun x q => x.receive q.1 q.2.1 (a % 256) s.te rdy q.2.2) ({ c with flight := [] }.boundary s.clk.t0 rdy (s.n .cell a 0x25))

/-- The cells at an epoch boundary. A counterfoil does not see the frames that its partner sends, and follows their slots only. -/
def State.cellsBoundary (s : State) : State :=
  if s.n .pairRole = 2 then s
  else s.withCells ((s.cells.map (fun e => (e.1, s.cellBoundary e.1 e.2))).filter (fun e => e.2 != CellSt.init))

/-- A slot shows its cell. -/
def State.cellShows (s : State) (r : Nat) (bs : List Byte) : State :=
  let a := cellAt r (Arith.field bs 13 1)
  let status := Arith.field bs 4 4
  s.putCellSt a ((s.cellSt a).shows (status % 16) status (Arith.field bs 0 2) (BitVec.ofNat 16 (Arith.field bs 2 2)).toInt)

/-- A cell takes or confirms a position (R91, R96). -/
def State.cellDiscover (s : State) (r p : Nat) : State :=
  s.putCellSt (cellAt r p) ((s.cellSt (cellAt r p)).discover (s.n .pairGeneration))

end Sys2Proof.Machine
end

