-- ==== Sys2Proof/Machine/Rounds.lean ====
section
/-!
DEFINITION. Rounds.lean: the rounds as the ZV40 holds them (chapter 3): position directory, serving ranges, slots,
closures, breaks, late-round operation, and the slow channel.
-/
namespace Sys2Proof.Machine

def State.rnd (s : State) (r : Nat) : Rnd := Tab.get Rnd.init s.rnds r

def State.putRnd (s : State) (r : Nat) (v : Rnd) : State := s.withRnds (Tab.put Rnd.init s.rnds r v)

/-! ## Position directory (R106) -/

/-- State code of a position (Table 3.10). -/
def State.posState (s : State) (r p : Nat) : Nat := s.n .pos (cellAt r p) 0

/-- Writes a cell's state code into the position directory and the common profile. -/
def State.putCellState (s : State) (r p st : Nat) : State :=
  (s.putN .pos (cellAt r p) st 0).putN .cell (cellAt r p) st 0x0A

/-- Cells that answer on the round: states 1 to 8. -/
def statePresent (st : Nat) : Bool := 1 ≤ st && st ≤ 8

/-- Present positions of a round, ascending. -/
def State.present (s : State) (r : Nat) : List Nat :=
  (List.range 256).filter (fun p => statePresent (s.posState r p))

def State.putCum (s : State) (r p ns : Nat) : End → State
  | .a => s.putN .pos (cellAt r p) ns 4
  | .b => s.putN .pos (cellAt r p) ns 5

/-- What the description says of a position. -/
def State.posDesc (s : State) (r p : Nat) : Option PosDesc := s.plant.pos.find? (fun x => x.round == r && x.pos == p)

/-- Arms of a round in ascending arm ID; their order numbers the arm slots (R16). -/
def State.roundArms (s : State) (r : Nat) : List ArmDesc :=
  sortBy (fun a b => decide (a.id ≤ b.id)) (s.plant.arms.filter (fun a => a.round == r))

/-- Positions of an arm's cells, ascending; their order numbers the arm-local indices. -/
def State.armPositions (s : State) (a : ArmDesc) : List Nat :=
  sortBy (fun x y => decide (x ≤ y)) ((s.plant.pos.filter (fun x => x.round == a.round && x.arm == some a.id)).map (·.pos))

/-- Whether the description assigns a position to an arm. -/
def State.assigned (s : State) (r p : Nat) : Bool := ((s.posDesc r p).bind (·.arm)).isSome

/-! ## Serving ranges (R61, R62) -/

/-- The end of every round that is cabled to this module in a pair (R403). The rules of chapter 14 name end B for the
counterfoil's end; the model reads the same of end A when the counterfoil stands at position A (DEDUCED). -/
def State.ownEnd (s : State) : End := if s.hw.posB then .b else .a

/-- The partner's end. -/
def State.otherEnd (s : State) : End := if s.hw.posB then .a else .b

/-- Whether frames can reach an end: in a pair the partner's end only while the partner has joined (R412). -/
def State.endHere (s : State) (e : End) : Bool := s.n .pairRole == 0 || e == s.ownEnd || s.pair.joined

/-- A paired module's round transmitters go to electrical idle (R410). -/
def State.idleEnds (s : State) : State :=
  if s.pair.endsIdle then s
  else (forN 16 (fun r t => t.emit (.endIdle r t.ownEnd)) s).withPair { s.pair with endsIdle := true }

/-- Whether an end can serve: in service after self-test, with block lock, and reached by frames. -/
def State.endOk2 (s : State) (r : Nat) : End → Bool
  | .a => Arith.bit s.dev.endsOk (2 * r) && (s.rnd r).lockA && s.endHere .a
  | .b => Arith.bit s.dev.endsOk (2 * r + 1) && (s.rnd r).lockB && s.endHere .b

/-- One-way delay of an end over some positions: the largest cumulative delay (R62). -/
def State.oneWay (s : State) (r : Nat) (e : End) (ps : List Nat) : Nat := ps.foldl (fun m p => max m (s.cum r p e)) 0

/-- One-way delay of the round when end B serves from position `t` on. -/
def State.splitCost (s : State) (r : Nat) (ps : List Nat) (t : Nat) : Nat :=
  max (s.oneWay r .a (ps.filter (fun p => decide (p < t)))) (s.oneWay r .b (ps.filter (fun p => decide (t ≤ p))))

/-- The first position that end B serves: the smallest round delay, on a tie the extra cell to end A (R62). -/
def State.splitAt (s : State) (r : Nat) (ps : List Nat) : Nat :=
  let last := ps.getLastD 0 + 1
  ((ps ++ [last]).foldl (fun (best : Nat × Nat) t =>
    let c := s.splitCost r ps t
    if c ≤ best.1 then (c, t) else best) (s.splitCost r ps (ps.headD 0), ps.headD 0)).2

/-- The contiguous range of some positions. -/
def rangeOf (ps : List Nat) : Option (Nat × Nat) :=
  match ps with
  | [] => none
  | p :: _ => some (p, ps.getLastD p)

/-- The ranges of R62 for some positions and the ends that can serve. -/
def State.balanced (s : State) (r : Nat) (ps : List Nat) (okA okB : Bool) : Option (Nat × Nat) × Option (Nat × Nat) :=
  if okA && okB then
    let t := s.splitAt r ps
    (rangeOf (ps.filter (fun p => decide (p < t))), rangeOf (ps.filter (fun p => decide (t ≤ p))))
  else if okA then (rangeOf ps, none)
  else if okB then (none, rangeOf ps)
  else (none, none)

/-- Whether a position lies in a range. -/
def inRange (g : Option (Nat × Nat)) (p : Nat) : Bool :=
  match g with
  | some (lo, hi) => decide (lo ≤ p ∧ p ≤ hi)
  | none => false

/-- The range that an end serves. -/
def Rnd.range (x : Rnd) : End → Option (Nat × Nat)
  | .a => x.rangeA
  | .b => x.rangeB

/-- Publishes the one-way delays: of each end the largest cumulative delay in its range, of the round the larger (R62). -/
def State.publishDelays (s : State) (r : Nat) : State :=
  let ps := s.present r
  let da := s.oneWay r .a (ps.filter (inRange (s.rnd r).rangeA))
  let db := s.oneWay r .b (ps.filter (inRange (s.rnd r).rangeB))
  ((s.putN .rndDelayANs r da).putN .rndDelayBNs r db).putN .rndDelayNs r (max da db)

/-- Sets the ranges and publishes what follows from them (Table 3.14): ends, turn, delays. -/
def State.setRanges (s : State) (r : Nat) (g : Option (Nat × Nat) × Option (Nat × Nat)) : State :=
  let s1 := s.putRnd r { s.rnd r with rangeA := g.1, rangeB := g.2 }
  let s2 := ((s1.putN .rndEnds r (Arith.b2n g.1.isSome + 2 * Arith.b2n g.2.isSome)).putN .rndTurn r
    ((g.2.map (·.1)).getD 256)).publishDelays r
  forL (s.present r) (fun p t => if inRange g.2 p then t.putN .pos (cellAt r p) 1 6
                      else if inRange g.1 p then t.putN .pos (cellAt r p) 0 6 else t) s2

/-- Ranges of a whole round without a break. -/
def State.rebalance (s : State) (r : Nat) : State :=
  s.setRanges r (s.balanced r (s.present r) (s.endOk2 r .a) (s.endOk2 r .b))

/-- Counts of present and Active cells (Table 3.14). -/
def State.countCells (s : State) (r : Nat) : State :=
  let ps := s.present r
  (s.putN .rndCellsPresent r ps.length).putN .rndCellsActive r (ps.filter (fun p => s.posState r p == 5)).length

/-! ## Slots (R79 to R82, R538) -/

/-- Gathers a cell's event byte until the round end delivers it (R107, R485). -/
def State.cellEvent (s : State) (r p e : Nat) : State :=
  let x := s.rnd r
  if e = 0 ∨ (0x70 ≤ e ∧ e ≤ 0x7F) then s else s.putRnd r { x with codes := x.codes ++ [(e, p)] }

/-- The event bytes gathered, ascending, each once. -/
def Rnd.eventCodes (x : Rnd) : List Nat :=
  (List.range 256).filter (fun e => x.codes.any (fun c => c.1 == e))

/-- One report of the round end: event byte e is code 0x0200 + e, timestamped t0, with the positions that gave it
(R107, R484, R485). -/
def State.cellReport (s : State) (r e : Nat) : State :=
  let ps := (List.range 256).filter (fun p => (s.rnd r).codes.contains (e, p))
  let s1 := forL ps (fun p t => State.ingest 2 (0x0200 + e) kCell { idx := cellAt r p, param := e, time := t.clk.t0 } t)
    (s.inc .soReports)
  let s2 := s1.irqFire (208 + r)
  if s2.isTrigger (0x0200 + e) then (s2.captureTrigger s2.epoch (s2.n .jrnPreMs) (s2.n .jrnPostMs)).1 else s2

/-- A round end delivers what the slots of an epoch gave: at most 64 codes, in ascending order; the cell reports beyond
them are counted and `SO_INGEST_OVERFLOW` is raised (R485). -/
def State.deliverCells (s : State) (r : Nat) : State :=
  let x := s.rnd r
  let es := x.eventCodes
  let past := (x.codes.filter (fun c => (es.drop 64).contains c.1)).length
  let s1 := forL (es.take 64) (fun e t => t.cellReport r e) s
  let s2 := s1.putRnd r { s1.rnd r with codes := [] }
  if past = 0 then s2
  else ((s2.addN .rndSoDropped r past).addN .soIngestDropped 0 past).raise 0x0C60 kRound r past

/-- One more delay measurement from a slot that reached the serving end of its cell in an Active round; after 64 a difference above
1 ns is kept and sent by DELAY, and the one-way delays follow it (R62, R86). -/
def State.slotDelay (s : State) (r p : Nat) (e : End) (t : Nat) : State :=
  let x := s.rnd r
  if s.n .rndState r ≠ 6 ∨ inRange (x.range e) p = false then s else
  let k := p * 2 + (match e with | .a => 0 | .b => 1)
  let m := Tab.get (0, 0) x.meas k
  let sent := s.cum r p e
  let d2 := (t - s.clk.t0 - 1000) + sent
  let m := (m.1 + 1, m.2 + d2)
  if m.1 < 64 then s.putRnd r { x with meas := Tab.put (0, 0) x.meas k m }
  else
    let d := Arith.round ((m.2 : Rat) / 128)
    let s1 := s.putRnd r { x with meas := Tab.put (0, 0) x.meas k (0, 0) }
    if 1 < Arith.absR ((m.2 : Rat) / 128 - sent) then
      let s2 := s1.putCum r p d.toNat e
      (s2.putRnd r { s2.rnd r with dirq := (s2.rnd r).dirq ++ [⟨some p, .delay e d.toNat⟩] }).publishDelays r
    else s1

/-- Fields of a 16-byte slot (Table 3.5). -/
def slotOk (bs : List Byte) : Bool := bs.length == 16 && Arith.crc16 (bs.take 14) == Arith.field bs 14 2

/-- A valid slot is taken into the cell's points: slot points and rotation word commit with this epoch; the state code
goes to the position directory; lost ports and cells that an invalid token blocked are noted (R79 to R81, R90, R100, R169, R538). -/
def State.takeSlot (s : State) (r : Nat) (e : End) (bs : List Byte) (t : Nat) : State :=
  let p := Arith.field bs 13 1
  let a := cellAt r p
  let status := Arith.field bs 4 4
  let s1 := ((s.gather .cell a (Word.ofNat (Arith.field bs 0 2)) 0x0B).gather .cell a
    (Word.ofInt (BitVec.ofNat 16 (Arith.field bs 2 2)).toInt) 0x0C).gather .cell a (Word.ofNat status) 0x0D
  let s2 := s1.gather .cell a (Word.ofNat (Arith.field bs 8 4)) (0x10 + status / 2 ^ 28)
  let ev := Arith.field bs 12 1
  let s3 := if ev = 0 then s2 else (s2.gather .cell a (Word.ofNat (0x0200 + ev)) 0x0E).cellEvent r p ev
  let s4 := s3.putCellState r p (status % 16)
  let x := s4.rnd r
  let token := status % 16 == 8 && (ev == 7 || x.rejected.contains p || (s3.posState r p != 8 && !Arith.bit status 6))
  let others := x.rejected.filter (· != p)
  let x := { x with rejected := if token then p :: others else others, slots := (p * 2 + (match e with | .a => 0 | .b => 1)) :: x.slots,
                    missing := Tab.put 0 x.missing p 0,
                    lostB := if Arith.bit status 14 then some (max (x.lostB.getD p) p) else x.lostB,
                    lostA := if Arith.bit status 13 then some (min (x.lostA.getD p) p) else x.lostA }
  ((s4.putRnd r x).cellShows r bs).slotDelay r p e t

/-- A slot failing its CRC is discarded, counted and reported (Table 3.14, Table 3.15). -/
def State.badSlot (s : State) (r p : Nat) : State :=
  ((s.putRnd r { s.rnd r with bad := p :: (s.rnd r).bad }).inc .rndSlotCrc r).raise 0x0109 kRound r 0

/-- UPSTREAM_SLOT. While records are replayed the slots of the live cells reach nothing (R398). -/
def execUpstreamSlot (r : RoundNo) (e : End) (pos : Fin 256) (bytes : List Byte) (t : Nat) (s : State) :
    Host.Outcome State Fault Refusal :=
  .next (let s1 := s.advance t
         if s1.mode = 7 ∧ s1.rep.phase = 2 then s1
         else if slotOk bytes then s1.takeSlot r e bytes t else s1.badSlot r pos)

/-! ## Closure (R83, R84) -/

/-- The upstream closure of an end: its time is published, and served positions from which no slot came are counted; one that came
and failed its CRC counts apart (Table 3.14). -/
def State.closure (s : State) (r : Nat) (e : End) (t : Nat) : State :=
  let s0 := s.advance t
  let x := s0.rnd r
  let g := match e with | .a => x.sentA | .b => x.sentB
  let x := match e with | .a => { x with closedA := true } | .b => { x with closedB := true }
  let dt := t - s0.clk.t0
  let s1 := match e with | .a => (s0.putRnd r x).putN .rndCloseANs r dt | .b => (s0.putRnd r x).putN .rndCloseBNs r dt
  let gone := (s1.present r).filter (fun p => inRange g p && 2 ≤ s1.posState r p
    && !(x.slots.contains (p * 2) || x.slots.contains (p * 2 + 1) || x.bad.contains p))
  s1.addN .rndSlotMissing r gone.length

/-- Input cut-off of a round: a cell without a valid slot in this epoch lost it, whether it was missing or failed its CRC
(Table 3.8, R106). -/
def State.countLost (s : State) (r : Nat) : State :=
  if s.n .rndState r = 6 ∧ s.mode ≠ 7 then
    let x := s.rnd r
    let gone := (s.present r).filter (fun p => 2 ≤ s.posState r p && !(x.slots.contains (p * 2) || x.slots.contains (p * 2 + 1)))
    forL gone (fun p u => (u.addN .pos (cellAt r p) 1 7).addN .cell (cellAt r p) 1 0x0F) s
  else s

def execUpstreamClosure (r : RoundNo) (e : End) (t : Nat) (s : State) : Host.Outcome State Fault Refusal :=
  .next (s.closure r e t)

/-- An end is in use while it serves a non-empty range of a round in state 6 (R39). -/
def State.endInUse (s : State) (r : Nat) (e : End) : Bool :=
  s.n .rndState r == 6 && (match e with | .a => (s.rnd r).sentA | .b => (s.rnd r).sentB).isSome

/-- Whether every end in use of a round has delivered its closure (R39). -/
def State.roundClosed (s : State) (r : Nat) : Bool :=
  (!s.endInUse r .a || (s.rnd r).closedA) && (!s.endInUse r .b || (s.rnd r).closedB)

/-! ## Breaks (R100, R101) -/

def execEndLockLost (r : RoundNo) (e : End) (s : State) : Host.Outcome State Fault Refusal :=
  .next (let x := s.rnd r
         let x := match e with | .a => { x with lockA := false } | .b => { x with lockB := false }
         s.putRnd r { x with detected := true, broken := true, calm := 0 })

/-- Whether a BREAK shows a counterfoil the principal's silence: it comes from the cell farthest from the counterfoil's end
and names the port toward the principal (R420). -/
def State.showsSilence (s : State) (r : Nat) (e : End) (pos : Nat) (port : End) : Bool :=
  s.n .pairRole == 2 && e == s.ownEnd && port == s.otherEnd
  && (let ps := s.present r
      some pos == (if s.hw.posB then ps.head? else ps.getLast?))

/-- A BREAK block names the position and the port that lost lock (Table 3.1). -/
def State.breakBlock (s : State) (r : Nat) (e : End) (pos : Nat) (port : End) : State :=
  if s.showsSilence r e pos port then
    s.withPair { s.pair with silent := if s.pair.silent.contains r then s.pair.silent else r :: s.pair.silent }
  else
         let x := s.rnd r
         let x := match port with
                  | .a => { x with lostA := some (min (x.lostA.getD pos) pos) }
                  | .b => { x with lostB := some (max (x.lostB.getD pos) pos) }
         s.putRnd r { x with detected := true, broken := true, calm := 0 }

def execBreakBlock (r : RoundNo) (e : End) (pos : Fin 256) (port : End) (s : State) : Host.Outcome State Fault Refusal :=
  .next (s.breakBlock r e pos port)

/-- Positions with a slot in this epoch at an end. -/
def Rnd.slotsAt (x : Rnd) (e : End) : List Nat :=
  let k := match e with | .a => 0 | .b => 1
  (x.slots.filter (fun v => v % 2 == k)).map (· / 2)

/-- The ranges after a break: each end reaches up to the reported port or, without a report, to the last position
that it heard; an end without lock serves nothing; an overlap is divided by R62 (R100). -/
def State.breakRanges (s : State) (r : Nat) : Option (Nat × Nat) × Option (Nat × Nat) :=
  let x := s.rnd r
  let ps := s.present r
  let lo := ps.headD 0
  let hi := ps.getLastD 0
  let heardA := x.slotsAt .a
  let heardB := x.slotsAt .b
  let topA : Option Nat := match x.lostB with
    | some p => some p
    | none => if heardA.isEmpty then none else some (heardA.foldl max 0)
  let botB : Option Nat := match x.lostA with
    | some p => some p
    | none => if heardB.isEmpty then none else some (heardB.foldl min 255)
  let a := if s.endOk2 r .a then topA.map (fun p => (lo, min p hi)) else none
  let b := if s.endOk2 r .b then botB.map (fun p => (max p lo, hi)) else none
  match a, b with
  | some (l, h), some (l2, h2) =>
    if l2 ≤ h then
      let mid := ps.filter (fun p => decide (l2 ≤ p ∧ p ≤ h))
      let t := s.splitAt r mid
      (rangeOf (ps.filter (fun p => decide (l ≤ p ∧ p < t))), rangeOf (ps.filter (fun p => decide (t ≤ p ∧ p ≤ h2))))
    else (a, b)
  | _, _ => (a, b)

/-- The third way in which a break shows: an end in use that has delivered no closure at the cut-off (R100). -/
def State.closureMissed (s : State) (r : Nat) : State :=
  if s.roundClosed r then s else s.putRnd r { s.rnd r with detected := true, broken := true, calm := 0 }

/-- Sets the ranges of a break before the downstream send of its epoch and raises `ROUND_BREAK` (R100). The ports reported lost are
those of the slots and BREAK blocks since the last send. -/
def State.applyBreak (s : State) (r : Nat) : State :=
  let s0 := s.putRnd r { s.rnd r with detected := false, lostA := none, lostB := none }
  if (s.rnd r).detected && s.n .rndState r == 6 then
    let g := s.breakRanges r
    let s1 := (s0.setRanges r g).inc .rndBreaks r
    s1.raise 0x0101 kRound r ((g.1.map (·.2)).getD 0x1FF + 2 ^ 16 * (g.2.map (·.1)).getD 0x1FF)
  else s0

/-- Whether both ports next to a recorded break show lock again: the last port of each range, by its cell's status (R101). -/
def State.lockRegained (s : State) (r : Nat) : Bool :=
  let x := s.rnd r
  x.lockA && x.lockB && s.endHere .a && s.endHere .b
  && (match x.rangeA with | some (_, p) => !Arith.bit (s.n .cell (cellAt r p) 0x0D) 14 | none => true)
  && (match x.rangeB with | some (p, _) => !Arith.bit (s.n .cell (cellAt r p) 0x0D) 13 | none => true)

/-- The balanced ranges come back after `restore_epochs` calm epochs (R101). -/
def execRoundRestored (r : RoundNo) (s : State) : Host.Outcome State Fault Refusal :=
  .next (let x := s.rnd r
         if x.broken ∧ s.lockRegained r ∧ s.n .rndRestoreEpochs r ≤ x.calm then
           let s1 := s.putRnd r { x with broken := false, lostA := none, lostB := none, calm := 0 }
           (s1.rebalance r).raise 0x0105 kRound r 0
         else s)

/-! ## Lost positions (R46, R96, R104) -/

/-- Whether a position counts as gone: it had no slot for `lost_epochs` epochs (R96), or its round failed for its delay and the
coasting of its cells has ended: without frames they have no token for two epochs (R46, R76). -/
def State.cellGone (s : State) (r p : Nat) : Bool :=
  statePresent (s.posState r p)
  && (decide (s.n .rndLostEpochs r ≤ Tab.get 0 (s.rnd r).missing p)
      || (s.n .rndState r == 7 && (match (s.rnd r).deadAt with | some e => decide (e ≤ s.epoch) | none => false)))

/-- A position that is gone: Absent without an event if it was Bypassed, else Lost. -/
def State.cellLost (s : State) (r p : Nat) : State :=
  if s.posState r p = 6 then s.putCellState r p 0
  else (s.putCellState r p 9).raiseLane 0x0273 kCell (cellAt r p) 0

def execCellLost (c : CellAddr) (s : State) : Host.Outcome State Fault Refusal :=
  .next (let r := c.val / 256
         let p := c.val % 256
         if s.cellGone r p then s.cellLost r p
         else s)

/-! ## Late-round operation (R44 to R46) -/

/-- T_E fractions of the delay limits, compared exactly: 0.22, 0.20 and 1.22 T_E. -/
def overDelay (d te num : Nat) : Bool := decide (num * te < 100 * d)

/-- Decided before the downstream send: entry into late-round operation, the count toward leaving it, and the end of a
round that cannot deliver in time (R44 to R46). -/
def State.judgeDelay (s : State) (r : Nat) : State :=
  let d := s.n .rndDelayNs r
  let x := s.rnd r
  if s.n .rndState r ≠ 6 then s
  else if overDelay d s.te 122 then
    let s1 := (s.putN .rndState r 7).putN .rndLate r 0
    let s2 := (s1.setRanges r (none, none)).raise 0x0102 kRound r d
    s2.putRnd r { s2.rnd r with deadAt := some (s2.epoch + 1 + min 2 (s2.n .rndCoastLimit r)) }
  else if s.n .rndLate r = 0 then
    if overDelay d s.te 22 then ((s.putN .rndLate r 1).putRnd r { x with shortN := 0 }).raise 0x0103 kRound r 1
    else s
  else s.putRnd r { x with shortN := if overDelay d s.te 20 then 0 else x.shortN + 1 }

def execLateRoundExit (r : RoundNo) (s : State) : Host.Outcome State Fault Refusal :=
  .next (let x := s.rnd r
         if s.n .rndLate r = 1 ∧ 4000 ≤ x.shortN then
           ((s.putN .rndLate r 0).putRnd r { x with shortN := 0 }).raise 0x0103 kRound r 0
         else s)

/-! ## Slow channel (R87, R89) -/

/-- Takes the answer of a transaction: points from offset 0x20 on commit together with this epoch (R89, R90). -/
def State.takeSlow (s : State) (r p off : Nat) : List Word → State
  | [] => s
  | w :: ws =>
    let s1 := if 0x20 ≤ off then s.gather .cell (cellAt r p) w off else s
    State.takeSlow s1 r p (off + 1) ws

/-- Whether a final completion waits for this slow read. -/
def awaitsSlow (addr off count : Nat) (f : FinCpl) : Bool := f.wait == Await.slow addr off count

/-- The answer of a transaction; one with a status other than 0 or a failing CRC-32 is no valid response (R72, R87). -/
def State.slowResp (s : State) (r pos tag status : Nat) (vals : List Word) (crc : Nat) : State :=
         let x := s.rnd r
         match x.txs.find? (fun t => t.req.tag == tag && t.req.pos == pos && t.age != 0) with
         | some t =>
           if status = 0 ∧ vals.length = t.req.count ∧ crc = slowCrc vals then
             let s1 := (s.putRnd r { x with txs := x.txs.filter (fun u => u != t) }).takeSlow r pos t.req.off vals
             if t.host then
               s1.settle (awaitsSlow (cellAt r pos) t.req.off t.req.count) 0 noItem 0 (.commit s.epoch)
             else s1
           else s
         | none => s

def execSlowResp (r : RoundNo) (pos : Fin 256) (tag status : Nat) (body : SlowBody) (s : State) :
    Host.Outcome State Fault Refusal := .next (s.slowResp r pos tag status body.vals body.crc)

/-- Transactions unanswered for 4 epochs go out again, up to 3 times; then they are abandoned (R87). -/
def State.slowTimeout (s : State) (r : Nat) : State :=
  let x := s.rnd r
  let late := fun (t : SlowTx) => decide (5 ≤ t.age)
  let gone := x.txs.filter (fun t => late t && decide (3 ≤ t.reissues))
  let keep := (x.txs.filter (fun t => !(late t && decide (3 ≤ t.reissues)))).map
    (fun t => if late t then { t with age := 0, reissues := t.reissues + 1 } else t)
  forL gone (fun t u =>
    let u1 := (u.inc .rndSlowTimeouts r).raise 0x0108 kRound r (t.req.pos + 2 ^ 16 * t.req.off)
    if t.host then u1.settle (awaitsSlow (cellAt r t.req.pos) t.req.off t.req.count) 0x0402 noItem 1 .ready else u1)
    (s.putRnd r { x with txs := keep })

def execSlowTimeout (r : RoundNo) (s : State) : Host.Outcome State Fault Refusal := .next (s.slowTimeout r)

def State.sweepEnd (s : State) (r p : Nat) : Nat := 0x40 + Tab.get 0 (s.rnd r).classN p

/-- Whether a position takes slow requests: version 2 or 3, present, and served by an end (R88, R89). -/
def State.slowCapable (s : State) (r p : Nat) : Bool :=
  let x := s.rnd r
  2 ≤ s.n .pos (cellAt r p) 1 && statePresent (s.posState r p) && (inRange x.rangeA p || inRange x.rangeB p)

/-- The sweep's next transaction after a position and offset, wrapping to the lowest position. -/
def State.sweepNext (s : State) (r : Nat) : Option (Nat × Nat × Nat) :=
  let x := s.rnd r
  let ps := (s.present r).filter (s.slowCapable r)
  if s.slowCapable r x.sweepPos ∧ 0x20 ≤ x.sweepOff ∧ x.sweepOff < s.sweepEnd r x.sweepPos then
    some (x.sweepPos, x.sweepOff, min 16 (s.sweepEnd r x.sweepPos - x.sweepOff))
  else match ps.find? (fun p => decide (x.sweepPos < p)) with
    | some p => some (p, 0x20, 16)
    | none => (ps.head?).map (fun p => (p, 0x20, 16))

/-- Fills the transactions of one frame, reads of commands before the sweep, at most 8, the sweep naming no points twice (R89). -/
def State.slowFill (r : Nat) : Nat → State → State
  | 0, s => s
  | n + 1, s =>
    let x := s.rnd r
    if 8 ≤ (x.txs.filter (fun t => t.age == 0)).length then s
    else match x.reads with
      | q :: qs =>
        let t : SlowTx := { req := { q with tag := x.tag }, age := 0, reissues := 0, host := true }
        State.slowFill r n (s.putRnd r { x with reads := qs, txs := x.txs ++ [t], tag := (x.tag + 1) % 256 })
      | [] =>
        match s.sweepNext r with
        | some (p, off, k) =>
          let t : SlowTx := { req := { pos := p, off := off, count := k, tag := x.tag }, age := 0, reissues := 0, host := false }
          if x.txs.any (fun u => u.age == 0 && u.req.pos == p && u.req.off == off && !u.host) then s
          else State.slowFill r n (s.putRnd r { x with txs := x.txs ++ [t], tag := (x.tag + 1) % 256,
                                                       sweepPos := p, sweepOff := off + 16 })
        | none => s

end Sys2Proof.Machine
end

