-- ==== Sys2Proof/Machine/Linkup.lean ====
section
/-!
DEFINITION. Linkup.lean: round link-up (sections 3.6 and 3.9): discovery, delay, negotiation, class comparison and
charging, and the carrier offsets that it assigns (R153).

Steps start at epoch boundaries (`linkupBoundary`, called by EPOCH_BOUNDARY); LINKUP_STEP_COMPLETE ends a step whose
answers have arrived; the answers arrive as DISCOVER_ARRIVED, REPORT, ECHORET and UPSTREAM_SLOT.
-/
namespace Sys2Proof.Machine

/-! ## Carriers (R149, R153) -/

/-- Carrier period in epochs of a carrier setting, 0 for none (Table 5.2). -/
def carrierPeriod (code : Nat) : Nat :=
  let c := code % 128
  if c ≤ 64 then c else 64 + 16 * (c - 64)

/-- CARRIER offset of rank `r` among `m` cells (R153): paralleled cells with and without interleave, full-bridge and
half-bridge series cells. -/
def carrierOffset (m r : Nat) (parallel interleave full : Bool) : Nat :=
  if parallel && !interleave then 0
  else
    let parts := if !parallel && full then 2 * m else m
    (Arith.round ((65536 * r : Nat) / (parts : Rat))).toNat % 65536

/-- An arm of paralleled cells: every arm of a two-level drive but a chopper arm (Table 5.1). -/
def State.armParallel (s : State) (a : ArmDesc) : Bool := s.n .drvTopology a.drive == 0 && a.role != 9

/-- Point index of an arm: drive × 24 + drive-local arm index. -/
def armIx (a : ArmDesc) : Nat := a.drive * 24 + a.idx

/-- Whether the cells at some positions are full-bridge cells, by their class report (Table 3.8, offset 0x07). -/
def State.fullBridge (s : State) (r : Nat) (ps : List Nat) : Bool :=
  match ps with
  | [] => false
  | p :: _ => s.n .cell (cellAt r p) 0x07 == 2

/-- Positions with the offsets that R153 gives them, in ascending arm-local index. -/
def State.carrierPlan (s : State) (a : ArmDesc) (ps : List Nat) : List (Nat × Nat) :=
  let par := s.armParallel a
  let il := s.n .drvInterleave a.drive == 1
  let fb := s.fullBridge a.round ps
  (ps.zipIdx).map (fun e => (e.1, carrierOffset ps.length e.2 par il fb))

/-- Queues a directive; the frames take the queue by priority (R170). -/
def State.direct (s : State) (r : Nat) (p : Option Nat) (d : Directive) : State :=
  let x := s.rnd r
  s.putRnd r { x with dirq := x.dirq ++ [⟨p, d⟩] }

/-- Queues a CARRIER directive; the offset counts as sent when a frame carries it. -/
def State.sendCarrier (s : State) (a : ArmDesc) (p off : Nat) : State :=
  s.direct a.round (some p) (.carrier off (s.n .armCarrierCode (armIx a) % 256))

/-- Slot number of an arm on its round: arms in ascending arm ID (R16). -/
def State.armSlot (s : State) (a : ArmDesc) : Nat := ((s.roundArms a.round).map (·.id)).findIdx (· == a.id)

/-- Arm-local index of a position. -/
def State.localIdx (s : State) (a : ArmDesc) (p : Nat) : Nat := (s.armPositions a).findIdx (· == p)

/-- The arm to which the description assigns a position. -/
def State.armAt (s : State) (r p : Nat) : Option ArmDesc :=
  match (s.posDesc r p).bind (·.arm) with
  | some id => s.plant.arms.find? (fun a => a.id == id && a.round == r)
  | none => none

/-! ## Starting -/

/-- Empties the position directory of a round: every position Absent, with the arm that the description gives it
(R106). -/
def State.clearDirectory (s : State) (r : Nat) : State :=
  forN 256 (fun p t =>
    let a := cellAt r p
    let t1 := (((t.putCellState r p 0).putN .pos a 0 1).putN .pos a 0 2).putN .pos a
      ((((t.posDesc r p).bind (·.arm)).getD 0xFFFFFFFF)) 3
    ((((t1.putN .pos a 0 4).putN .pos a 0 5).putN .pos a 0 6).putN .pos a 0 7).putN .cell a 0 0x0F) s

/-- A link-up begins: step 1 starts at the next boundary (R91). Late-round operation and a recorded break end with
the old link, and the count of breaks starts again (Table 3.14). -/
def State.linkupBegin (s : State) (r : Nat) : State :=
  let x := s.rnd r
  let s1 := s.putRnd r { Rnd.init with step := 1, waits := true, tag := x.tag, lockA := true, lockB := true }
  ((s1.setRanges r (none, none)).putN .rndLate r 0).putN .rndBreaks r 0

/-- Positions reached by either walk, ascending. -/
def Rnd.reached (x : Rnd) : List Nat :=
  sortBy (fun a b => decide (a ≤ b)) (x.reachA ++ x.reachB.filter (fun p => !x.reachA.contains p))

/-- Sends DISCOVER from an end; a next position above 255 goes out as the exhausted bit (Table 3.1). -/
def State.sendDiscover (s : State) (r : Nat) (e : End) (next : Nat) : State :=
  s.emit (.blocks r e [discoverBlock next (s.n .pairGeneration)])

/-- P of R92: one more than the highest position that the description expects. -/
def State.expectedTop (s : State) (r : Nat) : Nat :=
  ((s.plant.pos.filter (fun d => d.round == r)).map (fun d => d.pos + 1)).foldl max 0

/-- First position that a walk offers, 256 for none left: `first_position` from end A (R63); for a segment the neighbour of the
present cells (R103). What end B's walk offers decides nothing where end A's walk passed; elsewhere it is P − 1, from which R92
counts down (DESIGN CHOICE, log entry 116: the rules state it for end A only). -/
def State.walkStart (s : State) (r : Nat) (e : End) : Nat :=
  match (s.rnd r).seg, e with
  | none, .a => s.n .rndFirstPosition r
  | none, .b => if s.expectedTop r = 0 then 256 else s.expectedTop r - 1
  | some .a, _ => match s.present r with
    | [] => s.n .rndFirstPosition r
    | p :: _ => if p = 0 then 256 else p - 1
  | some .b, _ => match (s.present r).getLast? with
    | none => s.n .rndFirstPosition r
    | some p => p + 1

/-- Step 1 starts: end A sends DISCOVER, or end B when end A cannot; a segment is walked from its own end. -/
def State.startDiscovery (s : State) (r : Nat) : State :=
  let x := s.rnd r
  match x.seg with
  | some e =>
    let s1 := s.putRnd r { x with walkA := e != .a, walkB := e != .b, reportA := s.epoch, reportB := s.epoch }
    s1.sendDiscover r e (s.walkStart r e)
  | none =>
    let gone := (s.present r).filter (fun p => s.posState r p == 6)
    let s0 := s.clearDirectory r
    let okA := s0.endOk2 r .a
    let okB := s0.endOk2 r .b
    let s1 := s0.putRnd r { x with walkA := !okA, walkB := !okB, reportA := s0.epoch, reportB := s0.epoch, bypassed := gone }
    if okA then s1.sendDiscover r .a (s1.walkStart r .a) else if okB then s1.sendDiscover r .b (s1.walkStart r .b) else s1

/-- Step 2 starts: 16 ECHO blocks from each end to every position that it reached. -/
def State.startDelay (s : State) (r : Nat) : State :=
  let x := s.rnd r
  let echoes := fun (p : Nat) => (List.range 16).map (echoBlock p)
  let s1 := forL x.reachA (fun p t => t.emit (.blocks r .a (echoes p))) s
  forL x.reachB (fun p t => t.emit (.blocks r .b (echoes p))) s1

/-- Protocol version for a cell: the highest of 1 to 3 that it offers, 0 when that is below the position's minimum
(R93). -/
def State.chooseVersion (s : State) (r p : Nat) : Nat :=
  let m := s.n .cell (cellAt r p) 0x01
  let v := if Arith.bit m 3 then 3 else if Arith.bit m 2 then 2 else if Arith.bit m 1 then 1 else 0
  match s.posDesc r p with
  | some d => if v < d.minProto then 0 else v
  | none => v

/-- Step 3 starts: a VERSION directive to each cell; a refusal is reported (R93, Table 3.10a). -/
def State.startNegotiate (s : State) (r : Nat) : State :=
  forL (s.rnd r).reached (fun p t =>
    let v := t.chooseVersion r p
    let t1 := (t.putN .pos (cellAt r p) v 1).direct r (some p) (.version v)
    if v = 0 then t1.raise 0x0272 kCell (cellAt r p) 0 else t1) s

/-- Step 5 starts: CHARGE to every cell. -/
def State.startCharge (s : State) (r : Nat) : State :=
  match (s.rnd r).seg with
  | none => s.direct r none .charge
  | some _ => forL (s.rnd r).reached (fun p t => t.direct r (some p) .charge) s

/-- Offsets of a cell block that read 0 with the commit epoch of link-up: the slow points of a version 1 cell and the
class points beyond its class report (R89, R538). The points are written so that their commit epoch is this one. -/
def State.zeroTail (s : State) (r p : Nat) : State :=
  let v1 := s.n .pos (cellAt r p) 1 == 1
  let n := Tab.get 0 (s.rnd r).classN p
  let s1 := if v1 then forN 32 (fun k t => t.gather .cell (cellAt r p) 0 (0x20 + k)) s else s
  forN 960 (fun k t => if v1 || n ≤ k then t.gather .cell (cellAt r p) 0 (0x40 + k) else t) s1

/-- Step 6: the round is Active; a segment joins the range of its end (R91, R103). -/
def State.startActive (s : State) (r : Nat) : State :=
  let x := s.rnd r
  let s1 := forL x.reached (fun p t => t.zeroTail r p) s
  let s2 := s1.putRnd r { s1.rnd r with step := 0, seg := none, missing := [] }
  match x.seg with
  | none => (s2.putN .rndState r 6).countCells r
  | some e =>
    let grow := fun (g : Option (Nat × Nat)) =>
      match g, rangeOf x.reached with
      | some (a, b), some (c, d) => some (min a c, max b d)
      | none, h => h
      | g, none => g
    (s2.setRanges r (match e with | .a => (grow x.rangeA, x.rangeB) | .b => (x.rangeA, grow x.rangeB))).countCells r

/-- What happens at an epoch boundary: a step that waits starts; a walk without a REPORT for 2 epochs ends, and end
B's walk follows end A's (R91). -/
def State.linkupBoundary (s : State) (r : Nat) : State :=
  let x := s.rnd r
  if x.step = 0 then s
  else if x.waits then
    let s1 := s.putRnd r { x with waits := false, stepAt := s.now, dirsSent := false }
    let s2 := if x.seg.isNone then s1.putN .rndState r x.step else s1
    match x.step with
    | 1 => s2.startDiscovery r
    | 2 => s2.startDelay r
    | 3 => s2.startNegotiate r
    | 4 => s2
    | 5 => s2.startCharge r
    | _ => s2.startActive r
  else if x.step = 1 then
    if !x.walkA then
      if x.reportA + 2 ≤ s.epoch then
        let s1 := s.putRnd r { x with walkA := true, reportB := s.epoch }
        if x.walkB then s1 else s1.sendDiscover r .b (s1.walkStart r .b)
      else s
    else if !x.walkB && decide (x.reportB + 2 ≤ s.epoch) then s.putRnd r { x with walkB := true }
    else s
  else s

/-! ## Answers -/

/-- DISCOVER_ARRIVED: the walk from the other end has arrived at end `e`; end B's walk follows end A's (R91). -/
def execDiscoverArrived (r : RoundNo) (e : End) (next : Option (Fin 256)) (s : State) : Host.Outcome State Fault Refusal :=
  .next (
    let x := s.rnd r
    if x.step = 1 ∧ x.waits = false ∧ x.seg = none then
      match e with
      | .b =>
        let s1 := s.putRnd r { x with walkA := true, through := true, top := (next.map (·.val)).getD 256, reportB := s.epoch }
        if x.walkB then s1 else s1.sendDiscover r .b (s1.walkStart r .b)
      | .a => s.putRnd r { x with walkB := true, throughB := true }
    else s)

/-- Serial number of a position (Table 3.8). -/
def State.serialOf (s : State) (r p : Nat) : Nat := s.n .cell (cellAt r p) 0x02 + 2 ^ 32 * s.n .cell (cellAt r p) 0x03

/-- The position of a cell that answers end B while end A's walk did not reach it: P − 1 − h, h the cells nearer to end B, whose
replies came before (R92); none where that is no position or another cell holds it (DESIGN CHOICE, log entry 116). -/
def State.placeFromB (s : State) (r : Nat) (serial : Nat) : Option Nat :=
  let x := s.rnd r
  let only := x.reachB.filter (fun p => !x.reachA.contains p)
  match only.find? (fun p => s.serialOf r p == serial) with
  | some p => some p
  | none =>
    let k := only.length + 1
    if k ≤ s.expectedTop r ∧ x.reachA.contains (s.expectedTop r - k) = false then some (s.expectedTop r - k) else none

/-- The position that a discovery reply gives its cell in a link-up of the whole round: the one it names, or that of R92. -/
def State.placeOf (s : State) (r : Nat) (e : End) (p serial : Nat) : Option Nat :=
  let x := s.rnd r
  if e = .b ∧ x.through = false ∧ ¬(x.reachA.contains p ∧ s.serialOf r p = serial) then s.placeFromB r serial else some p

/-- A discovery reply (REPORT kind 1): the position is present, its serial number and versions are published
(Table 3.8). A cell that was Bypassed when the link-up began stays so (R91). -/
def State.discovered (s : State) (r : Nat) (e : End) (p : Nat) (serial : BitVec 64) (versions : Word) : State :=
  let a := cellAt r p
  let x := s.rnd r
  let kept := x.bypassed.contains p && s.serialOf r p == serial.toNat
  let x := match e with
    | .a => { x with reachA := if x.reachA.contains p then x.reachA else x.reachA ++ [p], reportA := s.epoch }
    | .b => { x with reachB := if x.reachB.contains p then x.reachB else x.reachB ++ [p], reportB := s.epoch }
  let s1 := s.putRnd r x
  let s2 := ((s1.put .cell a versions 0x01).putN .cell a (serial.toNat % 2 ^ 32) 0x02).putN .cell a (serial.toNat / 2 ^ 32) 0x03
  let s3 := s2.putN .pos a (((s2.posDesc r p).bind (·.arm)).getD 0xFFFFFFFF) 3
  (s3.cellDiscover r p).putCellState r p (if kept then 6 else 1)

/-- A cell that took no position: one for which none is left raises `ROUND_FULL` (R63, R103), one added between positions
`CELL_UNPLACED` (R102). -/
def State.unplaced (s : State) (r p : Nat) : State :=
  let room : Bool := match (s.rnd r).seg with | some e => decide (s.walkStart r e < 256) | none => true
  if s.n .rndState r = 6 ∧ room then
    s.raise 0x0274 kCell (cellAt r p) 0
  else s.raise 0x0104 kRound r 0

/-- Whether a position lies beyond the present cells at the end of a segment (R103). -/
def State.beyond (s : State) (r : Nat) (e : End) (p : Nat) : Bool :=
  (s.present r).all (fun q => match e with | .a => decide (p < q) | .b => decide (q < p))
    || (match e with | .a => (s.rnd r).reachA.contains p | .b => (s.rnd r).reachB.contains p)

/-- A discovery reply. In the walk of a segment a cell that holds its position already changes nothing, and a strange one
among them has no place (R102; how a cell between positions shows is DEDUCED, log entry 117). -/
def State.discoveryReply (s : State) (r : Nat) (e : End) (p : Nat) (serial : BitVec 64) (versions : Word) (placed : Bool) : State :=
  let x := s.rnd r
  let walking := x.step = 1 ∧ x.waits = false
  if placed = false then (if walking ∨ s.n .rndState r = 6 then s.unplaced r p else s)
  else if ¬walking then s
  else
    match x.seg with
    | none => match s.placeOf r e p serial.toNat with
      | some q => s.discovered r e q serial versions
      | none => s.raise 0x0104 kRound r 0
    | some _ =>
      if s.beyond r e p then s.discovered r e p serial versions
      else if s.serialOf r p = serial.toNat then s
      else s.raise 0x0274 kCell (cellAt r p) 0

/-- Length and check of a class report (section 3.6). -/
def classOk (bs : List Byte) : Bool := bs.length == 32 && Arith.crc16 (bs.take 30) == Arith.field bs 30 2

/-- A class report (REPORT kind 2) fills the common profile (Table 3.8). -/
def State.classReport (s : State) (r p : Nat) (bs : List Byte) : State :=
  let a := cellAt r p
  let s1 := (((s.putN .cell a (Arith.field bs 0 4) 0x00).putN .cell a (Arith.field bs 4 4) 0x04).putN .cell a
    (Arith.field bs 8 4) 0x05).putN .cell a (Arith.field bs 12 4) 0x06
  let s2 := ((s1.putN .cell a (Arith.field bs 16 1) 0x07).putN .cell a (Arith.field bs 17 1) 0x08).putN .cell a
    (Arith.field bs 20 4) 0x09
  let s3 := s2.putN .pos a (Arith.field bs 0 4) 2
  let x := s3.rnd r
  s3.putRnd r { x with classes := if x.classes.contains p then x.classes else p :: x.classes,
                       classN := Tab.put 0 x.classN p (Arith.field bs 18 2) }

/-- REPORT: taken in the step that it answers (R91). -/
def State.cellReported (s : State) (r : Nat) (e : End) (pos : Nat) (rep : CellReport) : State :=
    let x := s.rnd r
    match rep with
    | .discovery serial versions placed crcOk => if crcOk then s.discoveryReply r e pos serial versions placed else s
    | .cls bytes => if x.step = 4 ∧ x.waits = false ∧ classOk bytes then s.classReport r pos bytes else s

def execReport (r : RoundNo) (e : End) (pos : Fin 256) (rep : CellReport) (s : State) :
    Host.Outcome State Fault Refusal := .next (s.cellReported r e pos rep)

/-- ECHORET: one round trip of a position, in ns; its delay is half of it less 100 ns (R92, Table 3.9). -/
def State.echoRet (s : State) (r : Nat) (e : End) (pos rtt : Nat) : State :=
    let x := s.rnd r
    let k := pos * 2 + (match e with | .a => 0 | .b => 1)
    let m := Tab.get (0, 0) x.echoes k
    if x.step = 2 ∧ x.waits = false ∧ m.1 < 16 then
      s.putRnd r { x with echoes := Tab.put (0, 0) x.echoes k (m.1 + 1, m.2 + rtt) }
    else s

def execEchoRet (r : RoundNo) (e : End) (pos : Fin 256) (rtt : Nat) (s : State) : Host.Outcome State Fault Refusal :=
  .next (s.echoRet r e pos rtt)

/-! ## Ends of steps -/

/-- Average delay of 16 round trips (Table 3.9 step 2). -/
def echoDelay (sum : Nat) : Nat := (Arith.round (((sum : Rat) / 16 - 100) / 2)).toNat

/-- Step 2 ends: cumulative delays are known, DELAY directives follow, and the ranges are set; when end A's walk did
not reach end B the round has a break at link-up (R62, R92). -/
def State.endDelay (s : State) (r : Nat) : State :=
  let x := s.rnd r
  let put := fun (e : End) (k : Nat) (p : Nat) (t : State) =>
    let d := echoDelay (Tab.get (0, 0) x.echoes (p * 2 + k)).2
    (t.putCum r p d e).direct r (some p) (.delay e d)
  let s1 := forL x.reachA (put .a 0) s
  let s2 := forL x.reachB (put .b 1) s1
  match x.seg with
  | some _ => s2
  | none =>
    if x.through then s2.rebalance r
    else
      let g := (rangeOf (sortBy (fun a b => decide (a ≤ b)) x.reachA),
                rangeOf (sortBy (fun a b => decide (a ≤ b)) (x.reachB.filter (fun p => !x.reachA.contains p))))
      let s3 := (s2.setRanges r g).inc .rndBreaks r
      let s4 := s3.putRnd r { s3.rnd r with broken := true, calm := 0 }
      s4.raise 0x0101 kRound r ((g.1.map (·.2)).getD 0x1FF + 2 ^ 16 * (g.2.map (·.1)).getD 0x1FF)

/-- Whether a cell's class or highest carrier frequency disagrees with what the description expects (R94, R149). -/
def State.classBad (s : State) (r p : Nat) (d : PosDesc) (a : ArmDesc) : Bool :=
  let per := carrierPeriod (s.n .armCarrierCode (armIx a))
  s.n .cell (cellAt r p) 0x00 != d.cls
    || (per != 0 && decide (s.n .cell (cellAt r p) 0x09 * per * s.te < 1000000000))

/-- Step 4 for one cell: refused cells stay Blocked; a mismatch gets GATES 0; the others ASSIGN and COAST (R12, R94). -/
def State.compareCell (s : State) (r p : Nat) : State :=
  let coast := s.n .rndCoastLimit r
  if s.n .pos (cellAt r p) 1 = 0 then s
  else
    match s.posDesc r p, s.armAt r p with
    | some d, some a =>
      if s.classBad r p d a then (s.direct r (some p) (.gates false)).raise 0x0271 kCell (cellAt r p) 0
      else
        let s1 := (s.direct r (some p) (.assign (s.armSlot a) (s.localIdx a p))).direct r (some p) (.coast coast)
        let x := s1.rnd r
        s1.putRnd r { x with accepted := x.accepted ++ [p] }
    | _, _ => (s.direct r (some p) (.assign 0xFF 0)).direct r (some p) (.coast coast)

/-- Cells that step 5 waits for: the accepted ones among those reached. -/
def Rnd.charging (x : Rnd) : List Nat := x.accepted.filter (fun p => x.reached.contains p)

/-- Step 4 ends: cells and description are compared, missing cells reported, and carriers assigned (R94, R153). -/
def State.endClass (s : State) (r : Nat) : State :=
  let x := s.rnd r
  let gone := if x.seg.isSome then []
              else (s.plant.pos.filter (fun d => d.round == r && !x.reached.contains d.pos)).map (·.pos)
  let s1 := forL gone (fun p t => t.raise 0x0270 kCell (cellAt r p) 0) s
  let s2 := forL x.reached (fun p t => t.compareCell r p) s1
  forL (s2.roundArms r) (fun a t =>
    let ps := (t.armPositions a).filter (fun p => (t.rnd r).accepted.contains p)
    forL (t.carrierPlan a ps) (fun e u => if x.reached.contains e.1 then u.sendCarrier a e.1 e.2 else u) t) s2

/-- Whether the REPORT of every cell that a walk passed has arrived: end A's names them by its next position, and end B's passed
the same cells (R91). -/
def Rnd.allReported (x : Rnd) (first : Nat) : Bool :=
  (!x.through || (List.range x.top).all (fun p => decide (p < first) || x.reachA.contains p))
    && (!x.throughB || x.reachA.all (fun p => x.reachB.contains p))

/-- Whether the answers of the present step have all arrived (R91). -/
def State.linkupDone (s : State) (r : Nat) : Bool :=
  let x := s.rnd r
  let echoed := fun (k p : Nat) => decide (16 ≤ (Tab.get (0, 0) x.echoes (p * 2 + k)).1)
  if x.waits then false
  else match x.step with
    | 1 => x.walkA && x.walkB && x.allReported (s.n .rndFirstPosition r)
    | 2 => x.reachA.all (echoed 0) && x.reachB.all (echoed 1)
    | 3 => x.reached.all (fun p => let st := s.posState r p; st == 2 || st == 8 || st == 6)
    | 4 => x.reached.all (fun p => x.classes.contains p)
    | 5 => x.charging.all (fun p => let st := s.posState r p; st == 4 || st == 5 || st == 6)
    | _ => false

/-- The present step ends with its results; the next one starts at the next boundary (R91). -/
def State.linkupNext (s : State) (r : Nat) : State :=
  let s1 := match (s.rnd r).step with
    | 2 => s.endDelay r
    | 4 => s.endClass r
    | _ => s
  s1.putRnd r { s1.rnd r with step := (s1.rnd r).step + 1, waits := true }

def execLinkupStepComplete (r : RoundNo) (s : State) : Host.Outcome State Fault Refusal :=
  .next (if s.linkupDone r then s.linkupNext r else s)

/-! ## Failures -/

/-- The round enters Failed and serves nothing; its expected positions count as Absent (R91, R307). -/
def State.linkupFail (s : State) (r : Nat) : State :=
  let x := s.rnd r
  let s1 := (s.clearDirectory r).putRnd r { x with step := 0, seg := none, waits := false, dirq := [] }
  ((s1.putN .rndState r 7).setRanges r (none, none)).raise 0x0106 kRound r x.step

/-- ROUND_LINKUP_FAIL: steps 1 to 4 have 100 ms from their start (Table 3.9). -/
def execRoundLinkupFail (r : RoundNo) (s : State) : Host.Outcome State Fault Refusal :=
  .next (
    let x := s.rnd r
    if 1 ≤ x.step ∧ x.step ≤ 4 ∧ x.waits = false ∧ x.stepAt + 100000000 ≤ s.now ∧ s.linkupDone r = false then
      s.linkupFail r
    else s)

/-- ROUND_CHARGE_TIMEOUT: cells not Ready get GATES 0 and count as lost; the round goes on to Active (R94). -/
def execRoundChargeTimeout (r : RoundNo) (s : State) : Host.Outcome State Fault Refusal :=
  .next (
    let x := s.rnd r
    let late := x.charging.filter (fun p => let st := s.posState r p; !(st == 4 || st == 5 || st == 6))
    if x.step = 5 ∧ x.waits = false ∧ x.stepAt + msNs (s.n .rndChargeTimeoutMs r) ≤ s.now ∧ late.isEmpty = false then
      let s1 := forL late (fun p t => t.direct r (some p) (.gates false)) s
      (s1.raise 0x0107 kRound r late.length).linkupNext r
    else s)

/-- SEGMENT_LANE_UP: an end of an Active round has lock again; with `count` new cells beyond the last one, steps 1 to 5
run on them from that end, which serves no cell yet (R103). -/
def execSegmentLaneUp (r : RoundNo) (e : End) (count : Nat) (s : State) : Host.Outcome State Fault Refusal :=
  .next (
    if s.n .rndState r = 6 then
      let x := s.rnd r
      let x := match e with | .a => { x with lockA := true } | .b => { x with lockB := true }
      if count = 0 ∨ x.step ≠ 0 ∨ (x.range e).isSome then s.putRnd r x
      else s.putRnd r { x with step := 1, seg := some e, waits := true, reachA := [], reachB := [], classes := [], echoes := [],
                               through := false, top := 0, throughB := false }
    else s)

end Sys2Proof.Machine
end

