-- ==== Sys2Proof/Machine/Time.lean ====
section
/-!
DEFINITION. Time.lean: device time and its sources (section 2.5): steps, source events, holdover, SYNC_IN and SYNC_OUT.
-/
namespace Sys2Proof.Machine

/-- The source in use (Table 2.3): a counterfoil follows its principal whatever `device.time_source` says (R54). -/
def State.timeSource (s : State) : Nat := if s.n .pairRole == 2 then 6 else s.n .devTimeSource

/-- An integer limited to the range of an s32 point. -/
def satS32 (z : Int) : Int := max (-2147483648) (min 2147483647 z)

/-- A stored instant moved by a step, so that the time run since it is unchanged. -/
def shiftT (delta : Int) (t : Nat) : Nat := ((t : Int) + delta).toNat

/-- Device time is stepped (R47): the epoch in progress ends at the next multiple of T_E after the new value.
DESIGN CHOICE: the watchdogs and timeouts that run in Configure keep the time run so far. -/
def State.stepTime (s : State) (t : Nat) : State :=
  let d : Int := (t : Int) - s.now
  let s1 := s.withClk { s.clk with now := t, stepTo := some t, slewLeft := 0, srcAt := shiftT d s.clk.srcAt }
  let s2 := s1.withHost { s1.host with wdtAt := shiftT d s1.host.wdtAt }
  s2.withDev { s2.dev with logicBeat := shiftT d s2.dev.logicBeat, supWdtAt := s2.dev.supWdtAt.map (shiftT d),
                           stoDiffAt := s2.dev.stoDiffAt.map (shiftT d) }

/-- The source in use is no longer `old`: without a source the time runs free; a new one is acquired, and its timeout runs from
here (R48; the rule does not say from when). -/
def State.sourceChosen (s : State) (old : Nat) : State :=
  if s.timeSource = old then s
  else (s.withClk { s.clk with good := 0, srcAt := s.now, offEpisode := false }).putN .devTimeState 0
    (if s.timeSource = 0 then 0 else 1)

/-- Whether an error is above 1 ms. -/
def farOff (e : Int) : Bool := decide (1000000 < e.natAbs)

/-- A source event with its error, positive when device time is ahead (R48): the error is published and slewed out;
16 consecutive measurements of at most 20 ns lock; an error above 1 ms outside Configure is reported once per
episode (R531). DESIGN CHOICE (log entry 112): the parameter in µs is the error in ns divided by 1000 and truncated toward zero. -/
def State.sourceEvent (s : State) (e : Int) : State :=
  let good := if e.natAbs ≤ 20 then min (s.clk.good + 1) 16 else 0
  let off := farOff e && s.mode != 1
  let s1 := s.withClk { s.clk with slewLeft := e * 1000, srcAt := s.now, good := good,
                                   offEpisode := off || (s.clk.offEpisode && farOff e) }
  let s2 := (s1.putZ .devTimeErrorNs 0 (satS32 e)).putN .devTimeState 0 (if good = 16 then 2 else 1)
  if off && !s.clk.offEpisode then s2.raise 0x0C51 kDevice 0 (zParam (satS32 (e.tdiv 1000))) else s2

/-- A source event of a franking follower: in Configure an error above 1 ms is removed by a step (R446). -/
def State.frankEvent (s : State) (e : Int) : State :=
  let s1 := s.sourceEvent e
  if farOff e && s.mode == 1 then s1.stepTime (s1.now - e).toNat else s1

/-- TIME_SOURCE_EVENT: the selected source gives an error measurement. -/
def execTimeSourceEvent (error : Int) (s : State) : Host.Outcome State Fault Refusal :=
  .next (if s.up && s.timeSource != 0 then s.sourceEvent error else s)

/-- Error that a SYNC_IN edge at device time `t` gives: its distance from the nearest multiple of
`sync_in_div` × T_E (R49). -/
def syncError (t period : Nat) : Int :=
  if period = 0 then 0 else (t : Int) - period * Arith.round ((t : Rat) / period)

/-- SYNC_IN_EDGE: an edge is a source event while SYNC_IN is the source (R49). -/
def execSyncInEdge (t : Nat) (s : State) : Host.Outcome State Fault Refusal :=
  .next (if s.up && s.timeSource == 1 then s.sourceEvent (syncError t (s.n .devSyncInDiv * s.te)) else s)

/-- TIME_SOURCE_LOST: the source has delivered nothing for `time_source_timeout_ms`: holdover (R48). -/
def execTimeSourceLost (s : State) : Host.Outcome State Fault Refusal :=
  .next (
    if s.up && s.timeSource != 0 && s.n .devTimeState != 3
       && decide (s.clk.srcAt + msNs (s.n .devTimeSourceTimeoutMs) ≤ s.now) then
      ((s.withClk { s.clk with good := 0 }).putN .devTimeState 0 3).raise 0x0C50 kDevice 0 (s.n .devTimeSource)
    else s)

/-- Effect of a write of `device.time_set` at its apply-epoch (R47). -/
def State.timeSetDo (s : State) (t : Nat) : State := (s.put64 .devTimeSet 0 t).stepTime t

/-- TIME_SET: in Configure only (R47). -/
def execTimeSet (t : BitVec 64) (s : State) : Host.Outcome State Fault Refusal :=
  .next (if s.mode == 1 && s.up then s.timeSetDo t.toNat else s)

/-- What one epoch slews out: at most `time_slew_ppm` of T_E (R48), in ps. -/
def State.slewEpoch (s : State) : State :=
  let m : Int := ((s.n .devTimeSlewPpm * s.te / 1000 : Nat) : Int)
  s.withClk { s.clk with slewLeft := s.clk.slewLeft - max (-m) (min m s.clk.slewLeft) }

/-- High time of SYNC_OUT in ns (R50). -/
def syncHighNs : Nat := 1000

/-- SYNC_OUT at a boundary (R50): a new divider takes effect at an epoch that is a multiple of it; the pin rises at t0
of every epoch whose number is a multiple of the divider in effect. -/
def State.syncOut (s : State) : State :=
  let d := s.n .devSyncOutDiv
  let eff := if d = 0 then 0 else if s.epoch % d = 0 then d else s.clk.syncDiv
  let rise := eff != 0 && s.epoch % eff == 0
  let s1 := s.withClk { s.clk with syncDiv := eff, syncFall := if rise then s.clk.t0 + syncHighNs else s.clk.syncFall }
  if rise then s1.emit (.syncOut s1.clk.t0 syncHighNs) else s1

/-- Level of the SYNC_OUT pin at the device time to which the block has advanced. -/
def State.syncPin (s : State) : Bool := decide (s.now < s.clk.syncFall)

end Sys2Proof.Machine
end

