-- ==== Sys2Proof/Machine/Modes.lean ====
section
/-!
DEFINITION. Modes.lean: the device modes and every way between them (chapter 10): mode commands, Halt, Safe and its
causes, Override, Dormant and wake, and what a drive does when its commanding agent is lost.
-/
namespace Sys2Proof.Machine

/-! ## Changing mode (R298, R299) -/

/-- D13 stops the token generator (R57, R311). -/
def State.stopTokens (s : State) : State :=
  if s.dev.tokenOn then (s.withDev { s.dev with tokenOn := false }).emit (.tokenStop s.now) else s

/-- Soft protections act again on leaving Override: a drive in which a soft cause is present enters Faulted (R316). -/
def State.softAgain (s : State) : State :=
  forL s.drives (fun d t =>
    match ([1, 2, 3, 4, 5, 6, 7, 8] : List Nat).find? (fun c => Arith.bit (t.drv d).causes c) with
    | some c => if t.regime d = 7 ∨ t.regime d = 6 then t else t.faultDrive d c
    | none => t) s

/-- A Safe cause stands or falls: its bit, and interrupt cause 4 where `STATUS.SAFE` changes with it (Tables 10.4, 11.3 and 11.4). -/
def State.safeMark (s : State) (code : Nat) (on : Bool) : State :=
  let s1 := s.safeBit code on
  if (s1.n .devSafeCause == 0) == (s.n .devSafeCause == 0) then s1 else s1.msixCause 4

/-- After Dormant the sources that became pending in it wake the cores that they go to (R469). -/
def State.irqWakeAll (s : State) (old : Nat) : State :=
  if old = 0 then forL (s.irqCandidates) (fun id t => t.irqWakeFor id) s else s

/-- The device enters a mode: the token generator runs in Run, Override and Halt only; drives are blocked or released
with it; `MODE_CHANGE`, interrupt source 8 and the host causes follow (R189, R298, R299, R331). -/
def State.setMode (s : State) (m : Nat) : State :=
  let old := s.mode
  if old = m then s
  else
    let s1 := (s.putN .devModePrev 0 old).putN .devMode 0 m
    let s2 := s1.withJrn { s1.jrn with modeChanged := true }
    let s3 := (((s2.raise 0x0C40 kDevice 0 (old + 2 ^ 8 * m)).irqFire 8).irqWakeAll old).msixCause 0
    let s5 := if modeRuns m then s3.withDev { s3.dev with tokenOn := true } else s3.stopTokens
    let s6 := if modeRuns m ∧ ¬modeRuns old then s5.unblockAll
              else if modeRuns old ∧ ¬modeRuns m then s5.blockAll else s5
    let s7 := if old = 4 ∧ m = 3 then s6.raise 0x0C45 kDevice 0 0 else s6
    let s8 := if old = 4 ∧ modeRuns m then s7.softAgain else s7
    s8.jrnPublish

/-! ## Safe (section 10.5) -/

/-- Whether the command point of the mode keeps its present value over a replay. -/
def ofModeCmd (p : Pt) : Bool := p.f == .devModeCmd || p.f == .devOverrideReason

/-- A replay is over: points and engines return to what they held when it began. A feed that still runs, which no rule of
section 13.6 completes then, ends with MODE. -/
def State.replayLeave (s : State) : State :=
  let s1 := match s.rep.saved with
    | some (pts, i) =>
      ((s.takeImage (pts.filter (fun e => !ofModeCmd e.1)) i).put .devModeCmd 0 (s.w .devModeCmd)).put .devOverrideReason 0
        (s.w .devOverrideReason)
    | none => s
  (s1.settle (fun f => f.wait.isFeed) 0x0301 noItem 0 .ready).withRep Replay.idle

/-- A Safe cause other than a low STO input arises on a counterfoil: it is not eligible, idles its ends and reports
`PROTECTION` 2 (R427, Table 14.6). -/
def State.pairUnsafe (s : State) : State :=
  let s1 := (s.idleEnds.putN .pairEligible 0 0).raise 0x0904 kDevice 0 0
  if s1.n .pairProtection = 2 then s1 else (s1.putN .pairProtection 0 2).msixCause 2

/-- A cause of Table 10.4 arises (R311; R427 for a counterfoil): its bit and event, and Safe at once unless the device is there already; a
journal trigger when `trig_safe` is 1 (R389). In Dormant the cause waits for the wake that it brings about (R320). -/
def State.enterSafe (s : State) (code : Nat) : State :=
  let s1 := s.safeMark code true
  if s1.n .pairRole = 2 ∧ 3 ≤ code then s1.pairUnsafe
  else if s1.mode = 0 then s1.withDev { s1.dev with dormantCauses := Arith.setBit s1.dev.dormantCauses (code - 1) true }
  else
    let s2 := (s1.raise 0x0C43 kDevice 0 code).stopTokens
    if s2.mode = 6 then s2
    else
      let s3 := if s2.n .jrnTrigSafe = 1 then (s2.captureTrigger s2.epoch (s2.n .jrnPreMs) (s2.n .jrnPostMs)).1 else s2
      let s4 := if s3.mode = 7 then s3.replayLeave.blockAll else s3
      let s5 := s4.withDev { s4.dev with modeTaken := true, sleepReq := false, haltDue := false }
      s5.setMode 6

/-- A Safe cause while the firmware runs; before that, only its bit. -/
def State.safeCause (s : State) (code : Nat) : State := if s.up then s.enterSafe code else s.safeMark code true

/-- The Safe causes that still stand against leaving Safe or Configure: cause 3 yields once both channels are high
(Table 10.4). -/
def State.causesStanding (s : State) : Nat :=
  if s.dev.stoA && s.dev.stoB then Arith.setBit (s.n .devSafeCause) 2 false else s.n .devSafeCause

/-- STO_CHANGE: the levels of the STO inputs (R311, R320, R500). A low stops the tokens and is a Safe cause; a high
clears it; source 1 is pending until Supervisor acknowledges (Table 16.2). -/
def State.stoChange (s : State) (a b : Bool) : State :=
  let changed := s.dev.stoA != a || s.dev.stoB != b
  let fellA := s.dev.stoA && !a
  let fellB := s.dev.stoB && !b
  let s1 := s.withDev { s.dev with stoA := a, stoB := b,
                                   stoDiffAt := if a == b then none else some (s.dev.stoDiffAt.getD s.now) }
  let s2 := if fellA || fellB then s1.stopTokens else s1
  let s3 := if a then s2.safeMark 1 false else if fellA then s2.safeCause 1 else s2
  let s4 := if b then s3.safeMark 2 false else if fellB then s3.safeCause 2 else s3
  if changed && s.up then s4.irqLevel 1 true else s4

def execStoChange (a b : Bool) (s : State) : Host.Outcome State Fault Refusal :=
  .next (if s.dev.powered then s.stoChange a b
         else s.withDev { s.dev with stoA := a, stoB := b, stoDiffAt := if a == b then none else some s.now })

/-- STO_DISCREPANCY: the channels have differed for longer than `sto_discrepancy_ms` (Table 10.4, cause 3). -/
def execStoDiscrepancy (s : State) : Host.Outcome State Fault Refusal :=
  .next (match s.dev.stoDiffAt with
    | some t => if s.up ∧ t + msNs (s.n .devStoDiscrepancyMs) < s.now ∧ ¬Arith.bit (s.n .devSafeCause) 2 then s.safeCause 3 else s
    | none => s)

/-- D1_TICK_LOST (R57): the generator stops and Safe cause 4 stands until a device reset. -/
def execD1TickLost (s : State) : Host.Outcome State Fault Refusal :=
  .next (if s.up then s.stopTokens.safeCause 4 else s)

/-! ## Halt (R309) -/

/-- Halt begins, by a command or by the Supervisor watchdog. -/
def State.haltBegin (s : State) : State :=
  let s1 := s.withDev { s.dev with haltEpoch := s.epoch, modeTaken := true }
  (s1.setMode 5).haltAll

/-- Every drive is Stopped with `halting` 0, Faulted or Blocked. -/
def State.allAtRest (s : State) : Bool := s.drives.all s.atRest

def execHaltComplete (s : State) : Host.Outcome State Fault Refusal :=
  .next (if s.mode = 5 ∧ s.allAtRest then s.setMode 2 else s)

/-- HALT_TIMEOUT: Halt has lasted `halt_timeout_ms`; Ready is entered anyway and every drive is blocked. -/
def execHaltTimeout (s : State) : Host.Outcome State Fault Refusal :=
  .next (if s.mode = 5 ∧ msNs (s.n .devHaltTimeoutMs) ≤ (s.epoch - s.dev.haltEpoch) * s.te ∧ ¬s.allAtRest then
           (s.raise 0x0C42 kDevice 0 0).setMode 2
         else s)

/-! ## Replay (R397, R400) -/

/-- Recording pauses and the lanes wait for records. -/
def State.replayBegin (s : State) : State :=
  let s1 := (s.withRep { Replay.idle with phase := 1, saved := some (s.heldPts, s.image) }).putN .repEpochs 0 0
  let s2 := ((s1.put64 .repDivEpoch 0 0).putN .repDivLane 0 0).putN .repDivLanes 0 0
  ((s2.put64 .repDivRecorded 0 0).put64 .repDivComputed 0 0).setMode 7

/-- Replay ends: the running feed completes with OK and a value, and the module returns to Configure. -/
def State.replayEnd (s : State) (value : Nat) : State :=
  let s1 := s.settle (fun f => f.wait.isFeed) 0 noItem value .ready
  (((s1.replayLeave).raise (if value = 1 then 0x0B07 else 0x0B08) kDevice 0 (if value = 1 then s1.n .repDivLane else value)).setMode 1).blockAll

/-! ## Mode commands (R301, Table 10.2) -/

/-- What R307 asks of description, rounds, STO inputs and Safe causes. -/
def State.readyOk (s : State) : Bool :=
  s.dev.pdActive && s.plant.rounds.all (fun r => s.n .rndState r == 6 || s.n .rndState r == 7)
  && s.dev.stoA && s.dev.stoB && s.causesStanding == 0

/-- Status codes of mode commands (Table 11.10). -/
def stMode : Nat := 0x0301
def stRange : Nat := 0x0201

/-- The completion status of `mode_cmd` v at its apply-epoch: 0 when Table 10.2 lists the transition and its condition
holds. A command loses against an entry into Safe or a Halt of the same epoch, commanded earlier or later in it (R300). -/
def State.modeJudge (s : State) (v reason : Nat) : Nat :=
  let m := s.mode
  let ok := fun (b : Bool) => if b then 0 else stMode
  if s.dev.modeTaken || (s.dev.haltCmd && v != 5 && (m == 3 || m == 4)) then stMode
  else match v with
    | 0 => if (m == 1 || m == 2) then (if s.n .devWakeMask % 128 = 0 then stRange else 0) else stMode
    | 1 => ok (m == 2 || m == 6 || m == 7)
    | 2 => ok ((m == 1 && s.readyOk) || (m == 3 && s.allAtRest) || (m == 6 && s.readyOk))
    | 3 => ok ((m == 2 && s.dev.stoA && s.dev.stoB && s.n .devSafeCause == 0) || m == 4 || m == 5)
    | 4 => if m == 3 && s.n .devOverrideEnable == 1 then (if reason = 0 then stRange else 0) else stMode
    | 5 => ok (m == 3 || m == 4)
    | 7 => ok (m == 1 && s.dev.pdActive && s.jrn.exports.isEmpty)
    | _ => stMode

/-- Cause 3 ends with `mode_cmd` 1 or 2 once both channels are high (Table 10.4). -/
def State.clearDiscrepancy (s : State) : State :=
  if s.dev.stoA && s.dev.stoB then s.safeMark 3 false else s

/-- Leaving Safe for Ready sends GATES 1 to every cell (R313). -/
def State.releaseCells (s : State) : State :=
  forL (s.plant.rounds.filter (fun r => s.n .rndState r == 6)) (fun r t => t.direct r none (.gates true)) s

/-- The effect of an accepted `mode_cmd`. -/
def State.modeDo (s : State) (v reason : Nat) : State :=
  let s := s.putN .devModeCmd 0 v
  match v with
  | 0 => (s.withDev { s.dev with sleepReq := true }).putN .devWakeRace 0 0
  | 1 => if s.mode = 7 then s.replayEnd 3 else (s.clearDiscrepancy).setMode 1
  | 2 =>
    let s1 := s.clearDiscrepancy
    (if s1.mode = 6 then s1.releaseCells else s1).setMode 2
  | 3 => s.setMode 3
  | 4 =>
    let s1 := ((s.putN .devOverrideReason 0 reason).inc .devOverrideCount).raise 0x0C44 kDevice 0 reason
    (s1.withDev { s1.dev with overrideAt := s1.clk.t0 }).setMode 4
  | 5 => s.haltBegin
  | 7 => s.replayBegin
  | _ => s

/-- A mode command takes effect when it is admitted; otherwise it changes nothing (its completion says so). -/
def State.modeCmd (s : State) (v reason : Nat) : State := if s.modeJudge v reason = 0 then s.modeDo v reason else s

def execModeCmdConfigure (s : State) : Host.Outcome State Fault Refusal := .next (s.modeCmd 1 0)

def execModeCmdReady (s : State) : Host.Outcome State Fault Refusal := .next (s.modeCmd 2 0)

def execModeCmdRun (s : State) : Host.Outcome State Fault Refusal := .next (s.modeCmd 3 0)

def execModeCmdOverride (reason : Nat) (s : State) : Host.Outcome State Fault Refusal := .next (s.modeCmd 4 reason)

def execModeCmdHalt (s : State) : Host.Outcome State Fault Refusal := .next (s.modeCmd 5 0)

def execModeCmdDormant (s : State) : Host.Outcome State Fault Refusal := .next (s.modeCmd 0 0)

def execModeCmdReplay (s : State) : Host.Outcome State Fault Refusal := .next (s.modeCmd 7 0)

/-- `OVERRIDE_ACTIVE` every 60 s while Override lasts (R314); called at each boundary. -/
def State.overrideTick (s : State) : State :=
  if s.mode = 4 ∧ s.dev.overrideAt + 60000000000 ≤ s.clk.t0 then
    (s.withDev { s.dev with overrideAt := s.dev.overrideAt + 60000000000 }).raise 0x0C46 kDevice 0 (s.n .devOverrideReason)
  else s

/-! ## Dormant and wake (section 10.7) -/

/-- Wake sources that count: those enabled in `wake_mask`, bit 7 always, and the franked timer when its time has come
(Table 10.6). The discrete input source counts while `wake_di_mask` names an input; that it stood at the level of
`wake_di_level` for 1 ms is what its bit reports. -/
def State.wakeBits (s : State) (fired : Nat) : Nat :=
  let fired := if s.n64 .devWakeTime ≤ s.now then Arith.setBit fired 6 true else fired
  let fired := if s.n .devWakeDiMask = 0 then Arith.setBit fired 5 false else fired
  Nat.land (fired % 256) (s.n .devWakeMask % 128 + 128)

/-- SLEEP_EFFECTIVE: the cores enter retention, unless a wake source fired since the apply-epoch (R319). A Safe entry
has already ended the request. -/
def State.sleepEffective (s : State) (fired : Nat) : State :=
  if ¬s.dev.sleepReq then s
  else
    let s1 := s.withDev { s.dev with sleepReq := false }
    if s1.mode ≠ 1 ∧ s1.mode ≠ 2 then s1
    else if s1.wakeBits fired ≠ 0 then (s1.putN .devWakeRace 0 1).raise 0x0C41 kDevice 0 0
    else s1.setMode 0

def execSleepEffective (fired : Nat) (s : State) : Host.Outcome State Fault Refusal := .next (s.sleepEffective fired)

/-- Lowest bit set among the low twelve. -/
def lowBit (w : Nat) : Nat := ((List.range 12).find? (fun k => Arith.bit w k)).getD 0

/-- The module leaves Dormant: to Safe with `SAFE_ENTERED` when a Safe cause took part, to Configure otherwise; every
round links up again (R318, R320). `wake_cause` shows the bit as a mask. -/
def State.wakeUp (s : State) (bits : Nat) : State :=
  let safe := s.dev.dormantCauses != 0 || Arith.bit bits 7
  let s0 := s.withDev { s.dev with wokeAt := s.now }
  let s1 := (s0.putN .devWakeCause 0 (if safe then 128 else 2 ^ lowBit bits)).emit (.pcieWake s.now)
  let s2 := (forL s1.plant.rounds (fun r t => t.linkupBegin r) s1).fbWake
  if safe then
    let codes := (List.range 9).filter (fun k => Arith.bit s2.dev.dormantCauses k)
    let s3 := forL codes (fun k t => t.raise 0x0C43 kDevice 0 (k + 1)) s2
    let s4 := if s3.n .jrnTrigSafe = 1 then (s3.captureTrigger s3.epoch (s3.n .jrnPreMs) (s3.n .jrnPostMs)).1 else s3
    (s4.withDev { s4.dev with dormantCauses := 0 }).setMode 6
  else s2.setMode 1

/-- Whether a wake is due: an enabled source fired, or a Safe cause arose in Dormant. -/
def State.wakeDue (s : State) (fired : Nat) : Bool :=
  s.mode == 0 && s.up && (s.wakeBits fired != 0 || s.dev.dormantCauses != 0)

def execWake (fired : Nat) (s : State) : Host.Outcome State Fault Refusal :=
  .next (if s.wakeDue fired then s.wakeUp (s.wakeBits fired) else s)

/-- CAN_WAKE_PATTERN: the pattern of an enabled transceiver wakes the module (R447). -/
def execCanWakePattern (c : CanNo) (s : State) : Host.Outcome State Fault Refusal :=
  .next (if s.mode == 0 && s.up && Arith.bit (s.n .devWakeMask) c then s.wakeUp (s.wakeBits (2 ^ c.val)) else s)

/-! ## Loss of a commanding agent (section 10.9, R322) -/

/-- Whether plant logic owns the `run_cmd` of a drive (R32), through its group for a member. -/
def State.logicRuns (s : State) (d : Nat) : Bool :=
  match s.shaftOf d with
  | some g => s.plant.logicOwned.contains ⟨.shaftRunCmd, g, 0⟩
  | none => s.plant.logicOwned.contains ⟨.drvRunCmd, d, 0⟩

/-- Whether the agent that commands a drive is lost. -/
def State.agentLost (s : State) (d : Nat) : Bool := if s.logicRuns d then !s.dev.logicUp else s.dev.hostLost

/-- The drive acts as on `run_cmd` 0 by the loss: `host_state` 2. -/
def State.lossHalt (s : State) (d : Nat) : State :=
  let s1 := if s.runOffOk d then s.runOff d else s
  (s1.putN .drvHostState d 2).putDrv d { s1.drv d with holdHost := none }

/-- The policy of a drive applies from the first cut-off after the loss, in Run, Override and Halt, to drives that are
not at rest; Crash and Release come first (R323, R324, Table 10.7). -/
def State.lossPolicy (s : State) (d : Nat) : State :=
  if modeRuns s.mode ∧ s.agentLost d ∧ ¬s.atRest d ∧ s.regime d ≠ 4 ∧ s.regime d ≠ 5 ∧ s.n .drvHostState d = 0 then
    match s.n .drvHostLoss (s.policyDrive d) with
    | 0 => (s.putN .drvHostState d 1).putDrv d { s.drv d with holdHost := some s.now }
    | 1 => s.lossHalt d
    | _ => (s.putN .drvHostState d 3).raise 0x0A42 kDrive d 0
  else s

def State.lossPolicies (s : State) : State := forL s.drives (fun d t => t.lossPolicy d) s

/-- HOST_HOLD_EXPIRED: `host_hold_ms` after the loss a holding drive acts as on `run_cmd` 0, its group with it (R324). -/
def State.holdLapsed (s : State) (d : Nat) : Bool :=
  match (s.drv d).holdHost with
  | some t => s.n .drvHostState d == 1 && decide (t + msNs (s.n .drvHostHoldMs (s.policyDrive d)) ≤ s.now)
  | none => false

def execHostHoldExpired (d : DriveNo) (s : State) : Host.Outcome State Fault Refusal :=
  .next (
    if s.holdLapsed d then
      let all := match s.shaftOf d with | some g => (s.shaftMembers g).filter (fun m => s.n .drvHostState m == 1) | none => [d.val]
      (forL all (fun m t => t.lossHalt m) s).raise 0x0A43 kDrive d 0
    else s)

/-- A commanding agent returns: a drive still holding goes on (R325). -/
def State.agentReturn (s : State) (logic : Bool) : State :=
  forL (s.drives.filter (fun d => s.logicRuns d == logic && s.n .drvHostState d == 1)) (fun d t =>
    (t.putN .drvHostState d 0).putDrv d { t.drv d with holdHost := none }) s

/-- Loss of the host (R323); source 9 of Table 16.2. -/
def State.loseHost (s : State) : State :=
  if s.dev.hostLost then s
  else ((s.withDev { s.dev with hostLost := true, hostLostEpoch := s.epoch }).raise 0x0A40 kDevice 0 0).irqFire 9

/-- Return of the host (R325). -/
def State.returnHost (s : State) : State :=
  if ¬s.dev.hostLost then s
  else (((s.withDev { s.dev with hostLost := false }).raise 0x0A41 kDevice 0 0).irqFire 9).agentReturn false

/-- A reclaim is accepted on the CAN backup path once the host is back (R325). -/
def State.reclaimOk (s : State) (d : Nat) : Bool := s.n .drvHostState d == 3 && !s.dev.hostLost

/-- The drive uses the host's values again, its speed-loop integrator preset as R115 gives. -/
def State.reclaim (s : State) (d : Nat) : State :=
  let k := s.drv d
  ((s.putN .drvHostReclaim d 1).putN .drvHostState d 0).putDrv d { k with preset := true }

def execHostReclaim (d : DriveNo) (s : State) : Host.Outcome State Fault Refusal :=
  .next (if s.drives.contains d.val && s.reclaimOk d then s.reclaim d else s)

/-! ## Plant-logic watchdog (R322, R457) -/

/-- Cores 2 and 3 are reset: on-chip rings stop and descriptors not yet accepted are abandoned; their stacks are empty;
the sources of plant logic lose their active and enable bits (R457). -/
def State.resetLogicCores (s : State) : State :=
  let s1 := s.emit (.coreReset 12)
  let s2 := forN 20 (fun n t =>
    let r := t.ring (32 + n)
    if r.enable then t.putRing (32 + n) { r with enable := false, waiting := none } else t) s1
  let s3 := forL [2, 3] (fun c t => t.putCore c { t.core c with stack := [], claimed := 0, asleep := false, waking := false }) s2
  let ids := (s3.irq.srcs.map (·.1)).filter s3.irqLogicOwned
  (forL ids (fun id t => t.putSrc id { t.src id with active := false, enabled := false }) s3).irqUpdate []

/-- LOGIC_WDT: the watchdog of plant logic has run out; a period of 0 disables it. -/
def execLogicWdt (s : State) : Host.Outcome State Fault Refusal :=
  .next (
    let ms := s.n .devLogicWdtMs
    if s.up ∧ s.dev.logicUp ∧ ms ≠ 0 ∧ s.dev.logicBeat + msNs ms ≤ s.now then
      let s1 := s.resetLogicCores
      ((s1.withDev { s1.dev with logicUp := false }).raise 0x0C48 kDevice 0 0)
    else s)

/-- LOGIC_RESTARTED: plant logic runs again, which counts as the return of the agent (R322). -/
def execLogicRestarted (s : State) : Host.Outcome State Fault Refusal :=
  .next (
    if s.up ∧ ¬s.dev.logicUp then
      ((s.withDev { s.dev with logicUp := true, logicBeat := s.now }).inc .logicRestarts).agentReturn true
    else s)

/-- LOGIC_HEARTBEAT restarts the plant-logic watchdog (R456). -/
def execLogicHeartbeat (s : State) : Host.Outcome State Fault Refusal :=
  .next (if s.dev.logicUp then s.withDev { s.dev with logicBeat := s.now } else s)

end Sys2Proof.Machine
end

