-- ==== Sys2Proof/Machine/Operands.lean ====
section
/-!
DEFINITION. Operands.lean: the operands of commands that name points: signal space indices, the blocks that hold them,
which are defined, and who may write them, when and with what values (section 1.5, R21 to R32).
-/
namespace Sys2Proof.Machine

/-! ## Blocks of the signal space (Tables 1.3 to 1.7) -/

/-- First index and length of the part of the device region that Table 1.4 gives a point; the whole of it, up to the lanes,
for a point that the table's words do not name. -/
def devSpan (f : Field) : Nat × Nat :=
  match f with
  | .devCatalogueVersion | .devMode | .devModePrev | .devEpoch | .devTime | .devPdReportCheck | .devPdReportEntity
  | .devPdReportIndex | .devPdReportDetail | .devPdReportLaneDrives => (0, 0x1000)
  | .devThermalTempC | .supVctlAV | .supVctlBV | .supHoldupV | .supRailV => (0x1000, 0x1000)
  | .ainMode | .ainValue | .sdmOsr | .sdmValue | .hwDi | .hwDo | .hwDoState | .hwSto => (0x2000, 0x1000)
  | .jrnPartitionGib | .jrnCkptMs | .jrnState | .jrnSpanMs | .jrnLost | .jrnRawBps | .jrnStoredBps | .jrnTrigCode | .jrnTrigSafe
  | .jrnPreMs | .jrnPostMs | .jcapFirst | .jcapLast | .jcapTriggers | .pairEnable | .pairRole | .pairProtection | .pairEligible
  | .pairGeneration | .pairLinkNs | .pairHash | .pairMismatches | .pairTakeovers | .pairLastTakeover | .pairResyncMs
  | .pairWarmAgeMs | .pairHandoverHold | .pairAdoptedCmds | .pairTimeOffsetNs | .pairAutoResync => (0x3000, 0x1000)
  | .devHifVersion | .devHifSession | .devHifWdtMs | .devHifWdtState | .devHifPrCount | .devHifPrPeak | .devHifAccepted
  | .devHifLate | .devHifFull | .devHifSuperseded | .devHifCplDiscarded | .devHifRingFaults | .soReports | .soOpenPeak
  | .soEarlyCloses | .soIngestDropped | .soRingLost => (0x4000, 0x1000)
  | _ => (0, 0x10000)

/-- First offset and length of the part of a drive block that Table 1.6 gives a point; all four parts for a point that the
table's words do not name. -/
def drvSpan (f : Field) : Nat × Nat :=
  match f with
  | .drvRegime | .drvStatus | .drvSkipConsecutive | .drvSkipTotal | .drvCapVmaxV | .drvCapSpeed | .drvCapTorque => (0, 0x100)
  | .drvTorqueRef | .drvTorqueRefEff | .drvSpeedRef | .drvSpeedRefEff => (0x100, 0x100)
  | .drvSpeedEst | .drvSpeedSl | .drvAngleEst | .drvAngleSl | .drvTorqueEst | .drvLoadTorqueEst | .drvLoadTorqueSlope | .drvFluxEst
  | .drvJEst => (0x200, 0x200)
  | _ => if (entry f).wr = .c then (0x400, 0xC00) else (0, 0x1000)

/-- First index and length of the block, or of the part of it that the manual fixes, that holds a point. -/
def blockOf (p : Pt) : Nat × Nat :=
  match (entry p.f).home with
  | .device => devSpan p.f
  | .guard => (0x6000 + p.i * 0x10, 0x10)
  | .lane => (0x10000 + p.i * 0x1000, 0x1000)
  | .logic => (p.i, 1)
  | .round => (0x40000 + p.i * 0x1000, 0x200)
  | .pos => (0x40000 + p.i / 256 * 0x1000 + 0x200 + p.i % 256 * 8 + p.j, 1)
  | .slot => (0x40000 + p.i / 16 * 0x1000 + 0xA00 + p.i % 16 * 96 + p.j, 1)
  | .fb => (0x50000 + p.i * 0x800, 0x800)
  | .cmp => (0x58000 + p.i * 0x100, 0x100)
  | .pt => (0x5A000 + p.i * 0x100, 0x100)
  | .aux => (0x60000 + p.i * 0x200, 0x200)
  | .aux0 => (0x60000, 0x200)
  | .axis => (0x62000 + p.i * 0x400, 0x400)
  | .can => (0x68000 + p.i * 0x2000, 0x100)
  | .canMap => (0x68000 + p.i / 64 * 0x2000 + 0x100 + p.i % 64 * 8, 8)
  | .canObj =>
    let base := 0x68000 + p.i / 256 * 0x2000
    let o := p.i % 256
    if p.f = .objData then (base + 0x1000 + o * 0x10 + p.j, 1)
    else if p.f = .objStatus ∨ p.f = .objCount ∨ p.f = .objTime then (base + 0xB00 + o * 4, 4)
    else (base + 0x300 + o * 8, 8)
  | .engine => (0x70000 + p.i * 0x200, 0x200)
  | .shaft => (0x78000 + p.i * 0x200, 0x200)
  | .power => (0x79000 + p.i * 0x200, 0x200)
  | .groupLane => (0x7A000, 0x1000)
  | .drive =>
    let (b, n) := drvSpan p.f
    (0x80000 + p.i * 0x8000 + b, n)
  | .set => (0x80000 + p.i / 4 * 0x8000 + 0x1000 + p.i % 4 * 0x400, 0x400)
  | .arm => (0x80000 + p.i / 24 * 0x8000 + 0x2000 + p.i % 24 * 0x400, 0x400)
  | .cell => (0x180000 + p.i * 0x400 + p.j, 1)

/-- The point at an index whose place this manual fixes (R534): cells, positions, arm slots, CAN data, plant logic. -/
def fixedAt (x : Nat) : Option Pt :=
  if 0x180000 ≤ x ∧ x < 0x580000 then some ⟨.cell, (x - 0x180000) / 0x400, (x - 0x180000) % 0x400⟩
  else if 0x20000 ≤ x ∧ x < 0x40000 then some ⟨.logicPt, x, 0⟩
  else if 0x40000 ≤ x ∧ x < 0x50000 then
    let r := (x - 0x40000) / 0x1000
    let o := (x - 0x40000) % 0x1000
    if o < 0x200 then none
    else if o < 0xA00 then some ⟨.pos, r * 256 + (o - 0x200) / 8, (o - 0x200) % 8⟩
    else if (o - 0xA00) % 96 < 8 then some ⟨.slot, r * 16 + (o - 0xA00) / 96, (o - 0xA00) % 96⟩ else none
  else if 0x68000 ≤ x ∧ x < 0x70000 ∧ 0x1000 ≤ (x - 0x68000) % 0x2000 then
    let c := (x - 0x68000) / 0x2000
    let o := (x - 0x68000) % 0x2000 - 0x1000
    some ⟨.objData, c * 256 + o / 16, o % 16⟩
  else none

/-- Named points of a cell block: the common profile up to 0x2C and the class points (Table 3.8, R538). -/
def cellNamed (p : Pt) : Bool := p.f != .cell || p.j ≤ 0x2C || 0x40 ≤ p.j

/-- The point that the catalogue file lists at an index, inside the point's own block; of a quantity wider than 32 bits it lists
the low word at an even index, and the high word follows it (R27). -/
def listedAt (x : Nat) : Option Pt :=
  let here := fun (y : Nat) => (Config.catalogue y).filter (fun p =>
    decide ((blockOf p).1 ≤ y ∧ y < (blockOf p).1 + (blockOf p).2 ∧ (blockOf p).2 ≠ 1))
  let low := fun (y : Nat) => (here y).filter (fun p => wide p.f && y % 2 == 0)
  match (if x % 2 = 1 then low (x - 1) else none) with
  | some p => some { p with j := 1 }
  | none => match low x with
    | some p => some { p with j := 0 }
    | none => (here x).filter (fun p => !wide p.f)

/-- The one place that the catalogue file gives a point: the first in its block that lists it (R26, R534). -/
def placeOf (p : Pt) : Option Nat :=
  ((List.range (blockOf p).2).map (fun k => (blockOf p).1 + k)).find? (fun x => listedAt x == some p)

/-- The named point at an index (R534): fixed by this manual, or as the catalogue file places it. -/
def namedAt (x : Nat) : Option Pt :=
  match fixedAt x with
  | some p => if cellNamed p then some p else none
  | none => (listedAt x).filter (fun p => placeOf p == some x)

/-- Signal space index of a named point (R534); the first of its block for a point that the file does not list. -/
def ptIndex (p : Pt) : Nat := if (blockOf p).2 = 1 then (blockOf p).1 else (placeOf p).getD (blockOf p).1

/-- Whether the description enables a unit. -/
def State.unitOn (s : State) (kind n : Nat) : Bool := s.plant.units.contains { kind := kind, idx := n }

/-- Whether an index lies in a defined block (R22, R24). -/
def State.defined (s : State) (x : Nat) : Bool :=
  if x < 0x40000 then true
  else if x < 0x50000 then s.plant.rounds.contains ((x - 0x40000) / 0x1000)
  else if x < 0x58000 then s.unitOn 2 ((x - 0x50000) / 0x800) && s.n .fbKind ((x - 0x50000) / 0x800) != 0
  else if x < 0x5A000 then s.unitOn 9 ((x - 0x58000) / 0x100)
  else if x < 0x5A400 then s.unitOn 10 ((x - 0x5A000) / 0x100)
  else if x < 0x60000 then true
  else if x < 0x61800 then s.unitOn 3 ((x - 0x60000) / 0x200)
  else if x < 0x62000 then true
  else if x < 0x65000 then s.unitOn 6 ((x - 0x62000) / 0x400)
  else if x < 0x68000 then true
  else if x < 0x70000 then s.unitOn 4 ((x - 0x68000) / 0x2000)
  else if x < 0x76000 then s.unitOn 5 ((x - 0x70000) / 0x200)
  else if x < 0x78000 then true
  else if x < 0x79000 then s.plant.shafts.any (fun g => g.group == (x - 0x78000) / 0x200)
  else if x < 0x7A000 then s.plant.powers.contains ((x - 0x79000) / 0x200)
  else if x < 0x80000 then true
  else if x < 0x180000 then s.plant.drives.any (fun d => d.drive == (x - 0x80000) / 0x8000)
  else if x < 0x580000 then
    s.plant.pos.any (fun p => p.round * 256 + p.pos == (x - 0x180000) / 0x400)
  else false

/-- A plant-logic point that the description declares (R31). -/
def State.logicDesc (s : State) (x : Nat) : Option LogicDesc := s.plant.logic.find? (fun l => l.index == x)

/-- Axis points of one kind only, and that kind: 1 stepper, 2 BLDC or DC motor loops, 3 H-bridge loads (Table 8.6). -/
def axisOnly (f : Field) : Option (List Nat) :=
  match f with
  | .axisIRunA | .axisRPhaseOhm | .axisLPhaseH | .axisKeVS | .axisUstep | .axisUstepRateMax | .axisSxSpeed
  | .axisSxHyst | .axisToffUs | .axisHoldDelayMs | .axisHoldPct | .axisBoostDev | .axisStallDev | .axisBoostMax =>
    some [1]
  | .axisIKp | .axisIKi | .axisPosKp | .axisSpdKp | .axisSpdKi => some [2, 3]
  | .axisDuty | .axisOnCmd | .axisPullinA | .axisHoldA | .axisPullinMs => some [3]
  | _ => none

/-- Whether a named point is a point of the unit as configured: a declared plant-logic point (R31), a point that
applies to the kind of its axis (R277). -/
def State.applies (s : State) (p : Pt) : Bool :=
  if p.f = .logicPt then (s.logicDesc p.i).isSome
  else match axisOnly p.f with
    | some ks => ks.contains (s.n .axisKind p.i)
    | none => true

/-- The named point at a defined index; none for a spare point (R22). -/
def State.pointAt (s : State) (x : Nat) : Option Pt :=
  match namedAt x with
  | some p => if s.applies p then some p else none
  | none => none

/-- Raw value at an index in a store; a spare point reads 0 (R22). -/
def State.readAt (s : State) (st : Store) (x : Nat) : Word :=
  match s.pointAt x with
  | some p => Store.get st p
  | none => 0

/-- Points that tiers M and F only may carry (R535): the diagnostics range and the slow-channel points by their index, postmark
bitmaps by their name. -/
def mfOnly (x : Nat) (p : Option Pt) : Bool :=
  (0x5000 ≤ x && x < 0x10000) || (0x180000 ≤ x && x < 0x580000 && 0x20 ≤ (x - 0x180000) % 0x400) || p.any (fun q => q.f == .pmBitmap)

/-! ## Who may write (Table 1.10, R29, R32) -/

/-- Whether an agent owns a point. `agent`: 0 host, 1 plant logic. -/
def State.ownsPt (s : State) (agent : Nat) (p : Pt) : Bool :=
  let shared := if s.plant.logicOwned.contains p then agent == 1 else agent == 0
  if p.f = .logicPt then
    match s.logicDesc p.i with
    | some l => if l.byLogic then agent == 1 else agent == 0
    | none => false
  else match (entry p.f).wr with
    | .d | .c => false
    | .h => agent == 0
    | .l => agent == 1
    | .hl => shared
    | .canData => s.n .objDir p.i == 1 && shared

/-! ## What values (R28, R29) -/

/-- Type of an offset of the common cell profile (Table 3.8). -/
def cellTy (off : Nat) : PtTy := if off = 0x0B then .uq 15 else if off = 0x0C then .q 15 else .u32

/-- Type of a point: as the description declares it for a plant-logic point (R31), else as the catalogue gives it. -/
def State.ptTy (s : State) (p : Pt) : PtTy :=
  if p.f = .logicPt then ((s.logicDesc p.i).map (·.ty)).getD .u32
  else if p.f = .cell then cellTy p.j
  else (entry p.f).ty

/-- Unit of a point (Table 1.9). -/
def State.ptUnit (s : State) (p : Pt) : String :=
  if p.f = .logicPt then ((s.logicDesc p.i).map (·.unit)).getD "" else (entry p.f).unit

/-- Value of one least-significant bit of a point, in its unit (Table 1.9). -/
def State.ptScale (s : State) (p : Pt) : Option Rat :=
  if p.f = .logicPt then (s.logicDesc p.i).map (·.scale) else (s.ptTy p).scale

/-- Whether a raw word lies in a field's catalogue range. A word that is no number of a binary32 point does not. -/
def inRangeRaw (f : Field) (w : Word) : Bool :=
  let e := entry f
  e.ty.isNumber w && e.rng.holds (e.ty.dec w)

/-- Whether a raw word lies in a point's range (R29), a plant-logic point's by its declared type. -/
def State.inRangePt (s : State) (p : Pt) (w : Word) : Bool := (s.ptTy p).isNumber w && inRangeRaw p.f w

end Sys2Proof.Machine
end

