-- ==== Sys2Proof/Machine/Guards.lean ====
section
/-!
DEFINITION. Guards.lean: input guards, temperatures and supplies (sections 17.1 to 17.3).

`guardsJudge` and `thermalJudge` run at input cut-off; the supply monitors act when their thresholds are crossed.
-/
namespace Sys2Proof.Machine

/-! ## Derived commands (R475, R480) -/

/-- A write of 0 to `run_cmd` of a drive that the ZV40 itself applies (R475, R480). It names the drive's own point, so of a shaft
group it stops this member alone (R13, R205). -/
def State.deriveRunOff (s : State) (d : Nat) : State :=
  if s.runOffOk d then
    let t := (s.putN .drvRunCmd d 0).logWrite none 0 ⟨.drvRunCmd, d, 0⟩
    if (s.shaftOf d).isSome && s.regime d != 0 then t.haltAlone d else t.runOff d
  else s

/-- A write of 5 to `device.mode_cmd` that the ZV40 itself applies; one that Table 10.2 does not admit has no effect (R475). -/
def State.deriveHalt (s : State) : State :=
  if s.modeJudge 5 0 = 0 then (s.modeDo 5 0).logWrite none 0 ⟨.devModeCmd, 0, 0⟩ else s

/-! ## Reporters (Table 17.6) -/

/-- Reporter kind and index of a guarded point. A reference point reports as the entity that it belongs to, one of another region as
the device. -/
def reporterOf (p : Pt) : Nat × Nat :=
  match p.f with
  | .ainValue => (kSensor, 32 + p.i)
  | .sdmValue => (kSensor, 48 + p.i)
  | .hwDi => (kSensor, 80)
  | .devThermalTempC => (kSensor, p.j)
  | .txTempC => (kSensor, 8 + p.i)
  | .supVctlAV => (kSensor, 64)
  | .supVctlBV => (kSensor, 65)
  | .supHoldupV => (kSensor, 66)
  | .supRailV => (kSensor, 67 + p.j)
  | .fbSpeedCps => (kFb, p.i)
  | .objData => (kCan, p.i / 256)
  | .cell => (kCell, p.i)
  | f => match (entry f).home with
    | .drive => (kDrive, p.i)
    | .set => (kDrive, p.i / 4)
    | .arm => (kDrive, p.i / 24)
    | .engine => (kEngine, p.i)
    | .axis => (kAxis, p.i)
    | .aux => (kAux, p.i)
    | .shaft => (kShaft, p.i)
    | .power => (kPower, p.i)
    | .canObj => (kCan, p.i / 256)
    | _ => (kDevice, 0)

/-! ## The four steps of a guard (R473) -/

/-- Middle of three samples, the lower of two, or the one. -/
def median (dec : Word → Rat) (xs : List Word) : Word :=
  let ys := sortBy (fun a b => decide (dec a ≤ dec b)) xs
  ys.getD ((ys.length - 1) / 2) 0

/-- Step 1: the filter, which starts from the first sample. -/
def Guard.filter (g : Guard) (dec : Word → Rat) (enc : Rat → Word) (kind arg te : Nat) (x : Word) : Guard :=
  if !g.primed then { g with hist := [x], run := 1, out := x, y := dec x, primed := true }
  else match kind with
    | 1 =>
      let run := if g.hist.head? = some x then g.run + 1 else 1
      { g with hist := [x], run := run, out := if arg ≤ run then x else g.out }
    | 2 =>
      let h := (x :: g.hist).take 3
      { g with hist := h, out := median dec h }
    | 3 =>
      let y := g.y + Arith.quot te (arg * 1000000 : Nat) * (dec x - g.y)
      { g with y := y, out := enc y }
    | _ => { g with out := x }

/-- Step 2: the range window with its hysteresis. -/
def Guard.range (g : Guard) (v lo hi hyst : Rat) : Guard :=
  if v < lo then { g with low := true, high := false }
  else if hi < v then { g with low := false, high := true }
  else if (g.low || g.high) && !(decide (lo + hyst ≤ v) && decide (v ≤ hi - hyst)) then g
  else { g with low := false, high := false }

/-- Whether a guard is out of range or stale. -/
def Guard.bad (g : Guard) : Bool := g.low || g.high || g.stale

/-- Step 4: the guard value. Action 1 substitutes, every other action holds the last valid value. -/
def Guard.value (g : Guard) (action : Nat) (subst : Word) : Word :=
  if !g.bad then g.out else if action = 1 then subst else g.valid

/-- The sample of a guard taken through steps 1 to 3 in epoch `e`; `stale` is judged by the caller. -/
def Guard.take (g : Guard) (dec : Word → Rat) (enc : Rat → Word) (kind arg te : Nat) (x : Word) (lo hi hyst : Rat)
    (stale : Bool) : Guard :=
  let g1 := g.filter dec enc kind arg te x
  let g2 := { g1.range (dec g1.out) lo hi hyst with stale := stale }
  if g2.bad then g2 else { g2 with valid := g2.out, escalated := false }

/-! ## Guarded points -/

def State.guard (s : State) (k : Nat) : Guard := Tab.get Guard.init s.guards k

def State.putGuard (s : State) (k : Nat) (g : Guard) : State := s.withGuards (Tab.put Guard.init s.guards k g)

/-- Guard numbers that the description declares, ascending. -/
def State.guardNos (s : State) : List Nat := sortBy (fun a b => decide (a ≤ b)) (s.plant.guards.map (·.1))

/-- A cell guard: [31:28] of its input are 0xF (Table 17.1). -/
def cellGuardInput (x : Nat) : Bool := x / 2 ^ 28 == 15

/-- The guard of a point, if it has one. -/
def State.guardOf (s : State) (p : Pt) : Option Nat :=
  s.guardNos.find? (fun g => !cellGuardInput (s.n .grdInput g) && s.pointAt (s.n .grdInput g) == some p)

/-- What the lanes, the groups, the maps and the profile engines read of a point: its guard value where it has a guard
that has judged it, else the point (R474). -/
def State.gw (s : State) (f : Field) (i : Nat := 0) (j : Nat := 0) : Word :=
  match s.guardOf ⟨f, i, j⟩ with
  | some g => if (s.guard g).primed then s.w .grdValue g else s.w f i j
  | none => s.w f i j

/-- The guard value of a point in its type. -/
def State.gr (s : State) (f : Field) (i : Nat := 0) (j : Nat := 0) : Rat := (entry f).ty.dec (s.gw f i j)

/-- Whether the guard of a point reports out of range or stale. -/
def State.guardBad (s : State) (f : Field) (i : Nat := 0) (j : Nat := 0) : Bool :=
  match s.guardOf ⟨f, i, j⟩ with
  | some g => (s.guard g).bad
  | none => false

/-- Whether the sample of this epoch is fresh (Table 17.2); a reference is fresh in the epoch of an accepted write,
which `guardTouch` notes. -/
def State.freshNow (s : State) (p : Pt) (g : Guard) : Bool :=
  match p.f with
  | .fbSpeedCps => s.n .fbKind p.i != 2 || (s.fb p.i).ssiAt == s.epoch
  | .objData => true
  | f => match (entry f).wr with
    | .h | .l | .hl => g.fresh == s.epoch
    | _ => true

/-- An accepted write to a reference that has a guard (Table 17.2). -/
def State.guardTouch (s : State) (p : Pt) : State :=
  match s.guardOf p with
  | some g => s.putGuard g { s.guard g with fresh := s.epoch }
  | none => s

/-- What entering or leaving a condition raises and does (R475): actions 3 and 4 act once when the guard enters from
neither condition. `own` is false for CAN objects, which report staleness by events of their own. -/
def State.guardEvents (s : State) (g : Nat) (rep : Nat × Nat) (old new : Guard) (own : Bool) : State :=
  let r0 := old.low || old.high
  let r1 := new.low || new.high
  let s1 := if !r0 && r1 then s.raise 0x0D01 rep.1 rep.2 g else if r0 && !r1 then s.raise 0x0D02 rep.1 rep.2 g else s
  let s2 := if !own then s1
            else if !old.stale && new.stale then s1.raise 0x0D03 rep.1 rep.2 g
            else if old.stale && !new.stale then s1.raise 0x0D04 rep.1 rep.2 g else s1
  if !old.bad && new.bad then
    let s3 := s2.inc .grdEpisodes g
    match s3.n .grdAction g with
    | 3 =>
      let ds := s3.drives.filter (fun d => Arith.bit (s3.n .grdDrives g) d)
      (forL ds (fun d t => t.deriveRunOff d) s3).raise 0x0D05 rep.1 rep.2 g
    | 4 => s3.deriveHalt.raise 0x0D05 rep.1 rep.2 g
    | _ => s3
  else s2

/-- `.state` of a guard (Table 17.9). -/
def guardState (g : Guard) (action : Nat) : Nat :=
  Arith.b2n g.low + 2 * Arith.b2n g.high + 4 * Arith.b2n g.stale + 8 * Arith.b2n (g.bad && action == 1) + 16 * Arith.b2n g.escalated

/-- Marks an episode in which action 3 or 4 has acted. -/
def Guard.escalate (g : Guard) (old : Guard) (action : Nat) : Guard :=
  if !old.bad && g.bad && (action == 3 || action == 4) then { g with escalated := true } else g

/-- One guard of a point, judged on the sample of this epoch (R473); before the first fresh one its age counts from the epoch
in which the description took effect. -/
def State.guardJudge (s : State) (g : Nat) (p : Pt) : State :=
  let old := s.guard g
  let dec := (s.ptTy p).dec
  let action := s.n .grdAction g
  let fresh := if s.freshNow p old then s.epoch else if old.primed then old.fresh else s.dev.pdEpoch
  let ms := s.n .grdStaleMs g
  let stale := if p.f = .objData then Arith.bit (s.n .objStatus p.i) 0
               else ms != 0 && decide (epochsOfMs s.te ms ≤ s.epoch - fresh)
  let g1 := ({ old with fresh := fresh }).take dec ((s.ptTy p).enc) (s.n .grdFilter g) (s.n .grdFilterArg g) s.te
    (s.w p.f p.i p.j) (dec (s.w .grdLo g)) (dec (s.w .grdHi g)) (dec (s.w .grdHyst g)) stale
  let g2 := g1.escalate old action
  let s1 := ((s.putGuard g g2).put .grdValue g (g2.value action (s.w .grdSubst g))).putN .grdState g (guardState g2 action)
  s1.guardEvents g (reporterOf p) old g2 (p.f != .objData)

/-! ## Cell guards (Table 17.2, R477) -/

/-- Key of a cell's memory under a cell guard. -/
def cellGuardKey (g a : Nat) : Nat := 65536 + g * 4096 + a

/-- A half word of a rotation word as a signed integer. -/
def half16 (w : Word) (hi : Bool) : Int := (BitVec.ofNat 16 (if hi then w.toNat / 65536 else w.toNat % 65536)).toInt

/-- Highest of the four temperatures of a cell, in 0.1 °C (Table 3.7, indices 0 and 1). -/
def State.cellTemp (s : State) (a : Nat) : Int :=
  let w0 := s.w .cell a 0x10
  let w1 := s.w .cell a 0x11
  max (max (half16 w0 false) (half16 w0 true)) (max (half16 w1 false) (half16 w1 true))

/-- Whether this epoch brought a cell's slot, and for temperatures one of the rotation indices 0 and 1. -/
def State.cellFresh (s : State) (r p field : Nat) : Bool :=
  let x := s.rnd r
  (x.slots.contains (p * 2) || x.slots.contains (p * 2 + 1))
    && (field == 0 || s.n .cell (cellAt r p) 0x0D / 2 ^ 28 ≤ 1)

/-- One cell under a cell guard, from its first sample on. -/
def State.cellGuardJudge (s : State) (g r field p : Nat) : State :=
  let a := cellAt r p
  if !(s.guard (cellGuardKey g a)).primed && !s.cellFresh r p field then s else
  let k := cellGuardKey g a
  let old := s.guard k
  let signed := field != 0
  let dec := fun (w : Word) => if signed then (w.toInt : Rat) else (w.toNat : Rat)
  let enc := fun (x : Rat) => Word.ofInt (Arith.round x)
  let x := if signed then Word.ofInt (s.cellTemp a) else s.w .cell a 0x0B
  let fresh := if s.cellFresh r p field then s.epoch else old.fresh
  let ms := s.n .grdStaleMs g
  let stale := ms != 0 && decide (epochsOfMs s.te ms ≤ s.epoch - fresh)
  let g1 := ({ old with fresh := fresh }).take dec enc (s.n .grdFilter g) (s.n .grdFilterArg g) s.te x
    (dec (s.w .grdLo g)) (dec (s.w .grdHi g)) (dec (s.w .grdHyst g)) stale
  let g2 := g1.escalate old (s.n .grdAction g)
  (s.putGuard k g2).guardEvents g (kCell, a) old g2 true

/-- A cell guard over every assigned cell of its round: `.cells_bad`, `.first_bad`, and the value and state of the first
bad cell, else of the lowest. -/
def State.cellGuardsJudge (s : State) (g : Nat) : State :=
  let input := s.n .grdInput g
  let r := input / 65536 % 16
  let ps := sortBy (fun a b => decide (a ≤ b)) ((s.plant.pos.filter (fun d => d.round == r && d.arm.isSome)).map (·.pos))
  let s1 := forL ps (fun p t => t.cellGuardJudge g r (input % 256) p) s
  let bad := ps.filter (fun p => (s1.guard (cellGuardKey g (cellAt r p))).bad)
  let s2 := (s1.putN .grdCellsBad g bad.length).putN .grdFirstBad g (match bad with | p :: _ => cellAt r p | [] => 0xFFFFFFFF)
  match bad ++ ps with
  | p :: _ =>
    let m := s2.guard (cellGuardKey g (cellAt r p))
    (s2.put .grdValue g (m.value (s2.n .grdAction g) 0)).putN .grdState g (guardState m (s2.n .grdAction g))
  | [] => s2

/-- `v_cap` of a cell as the lanes take it: from its cell guard, which holds the last valid value while its slot is
missing, else from its slot point (R477). -/
def State.vCapRaw (s : State) (r p : Nat) : Nat :=
  match s.guardNos.find? (fun g => let x := s.n .grdInput g; cellGuardInput x && x / 65536 % 16 == r && x % 256 == 0) with
  | some g =>
    let m := s.guard (cellGuardKey g (cellAt r p))
    if m.primed then (m.value (s.n .grdAction g) 0).toNat else s.n .cell (cellAt r p) 0x0B
  | none => s.n .cell (cellAt r p) 0x0B

/-- Every guard, in ascending number, at input cut-off. -/
def State.guardsJudge (s : State) : State :=
  forL s.guardNos (fun g t =>
    if cellGuardInput (t.n .grdInput g) then t.cellGuardsJudge g
    else match t.pointAt (t.n .grdInput g) with
      | some p => t.guardJudge g p
      | none => t) s

/-! ## Temperatures (section 17.2) -/

/-- Key of a sensor's levels: die and board 0–5, TX 8–19, cells from 4096. -/
def cellLevelKey (a : Nat) : Nat := 4096 + a

def State.level (s : State) (k : Nat) : Nat := Tab.get 0 s.levels k

def State.putLevel (s : State) (k v : Nat) : State := s.withLevels (Tab.put 0 s.levels k v)

/-- Whether a level is entered or kept at a temperature: entered at its threshold, left below it by `hyst` (R478). -/
def levelNow (was : Bool) (t th hyst : Rat) : Bool := if was then decide (th - hyst ≤ t) else decide (th ≤ t)

/-- One sensor of class `c` at temperature `t`: levels entered raise their events, leaving the warning level raises
`THERMAL_NORMAL`; a sensor whose guard is bad keeps its levels and raises `SENSOR_FAULT` once (R478, R479).
Bits of a level word: 0 warning, 1 throttle, 2 shutdown, 3 sensor fault. -/
def State.sensorJudge (s : State) (k kind idx c : Nat) (t : Rat) (bad : Bool) : State :=
  let old := s.level k
  if bad then
    if Arith.bit old 3 then s else (s.putLevel k (Arith.setBit old 3 true)).raiseLane 0x0706 kind idx 0
  else
    let h := s.r .thmHystK c
    let w := levelNow (Arith.bit old 0) t (s.r .thmWarnC c) h
    let th := levelNow (Arith.bit old 1) t (s.r .thmThrottleC c) h
    let sd := levelNow (Arith.bit old 2) t (s.r .thmShutdownC c) h
    let p := zParam (Arith.round (t * 10))
    let s1 := s.putLevel k (Arith.b2n w + 2 * Arith.b2n th + 4 * Arith.b2n sd)
    let s2 := if w && !Arith.bit old 0 then s1.raiseLane 0x0701 kind idx p else s1
    let s3 := if th && !Arith.bit old 1 then s2.raiseLane 0x0702 kind idx p else s2
    let s4 := if sd && !Arith.bit old 2 then s3.raiseLane 0x0703 kind idx p else s3
    if !w && Arith.bit old 0 then s4.raiseLane 0x0704 kind idx p else s4

/-- Throttle factor of a sensor of class `c` (R479). -/
def State.sensorFactor (s : State) (c : Nat) (t : Rat) (bad : Bool) : Rat :=
  if bad then s.r .thmFaultFactor c
  else Arith.clamp (s.r .thmFloor c) 1 (1 - s.r .thmK c * (t - s.r .thmThrottleC c))

/-- TX inputs that are measured (R294). -/
def State.txUsed (s : State) : List Nat := (List.range 12).filter (fun i => s.n .txKind i != 0)

/-- Cells of a drive as round and position. -/
def State.driveCells (s : State) (d : Nat) : List (Nat × Nat) :=
  (s.plant.arms.filter (fun a => a.drive == d)).flatMap (fun a => (s.armPositions a).map (fun p => (a.round, p)))

/-- Whether the cell at a position is in service: Active or Coasting (R167). -/
def State.cellServes (s : State) (r p : Nat) : Bool := let st := s.posState r p; st == 5 || st == 7

/-- A cell's temperature in °C and whether its temperature guard is bad. -/
def State.cellHeat (s : State) (r p : Nat) : Rat × Bool :=
  let a := cellAt r p
  match s.guardNos.find? (fun g => let x := s.n .grdInput g; cellGuardInput x && x / 65536 % 16 == r && x % 256 == 1) with
  | some g =>
    let m := s.guard (cellGuardKey g a)
    if m.primed then (((m.value (s.n .grdAction g) 0).toInt : Rat) / 10, m.bad) else ((s.cellTemp a : Rat) / 10, false)
  | none => ((s.cellTemp a : Rat) / 10, false)

/-- Class of a die or board sensor. -/
def boardClass (j : Nat) : Nat := if j < 2 then 0 else 1

/-- Judges every sensor (R478). -/
def State.sensorsJudge (s : State) : State :=
  let s1 := forN 6 (fun j t => t.sensorJudge j kSensor j (boardClass j) (t.gr .devThermalTempC 0 j) (t.guardBad .devThermalTempC 0 j)) s
  let s2 := forL s1.txUsed (fun i t => t.sensorJudge (8 + i) kSensor (8 + i) 2 (t.gr .txTempC i) (t.guardBad .txTempC i)) s1
  forL s2.drives (fun d t => forL (t.driveCells d) (fun c u =>
    let (h, bad) := u.cellHeat c.1 c.2
    u.sensorJudge (cellLevelKey (cellAt c.1 c.2)) kCell (cellAt c.1 c.2) 3 h bad) t) s2

/-- Whether a class 2 or 3 sensor of a drive stands at shutdown (R480). -/
def State.driveHot (s : State) (d : Nat) : Bool :=
  s.txUsed.any (fun i => Arith.bit (s.n .drvTxMask d) i && Arith.bit (s.level (8 + i)) 2)
  || (s.driveCells d).any (fun c => Arith.bit (s.level (cellLevelKey (cellAt c.1 c.2))) 2)

/-- Factor of the device: the lowest over die and board sensors (R479). -/
def State.deviceFactor (s : State) : Rat :=
  (List.range 6).foldl (fun f j =>
    Arith.minR f (s.sensorFactor (boardClass j) (s.gr .devThermalTempC 0 j) (s.guardBad .devThermalTempC 0 j))) 1

/-- Factor of a drive before R480. -/
def State.driveFactor (s : State) (d : Nat) (dev : Rat) : Rat :=
  let f1 := (s.txUsed.filter (fun i => Arith.bit (s.n .drvTxMask d) i)).foldl
    (fun f i => Arith.minR f (s.sensorFactor 2 (s.gr .txTempC i) (s.guardBad .txTempC i))) dev
  ((s.driveCells d).filter (fun c => s.cellServes c.1 c.2)).foldl
    (fun f c => let (h, bad) := s.cellHeat c.1 c.2; Arith.minR f (s.sensorFactor 3 h bad)) f1

/-- The class floor at which Override holds a drive's factor: the lowest over the classes whose sensors stand at shutdown (R480). -/
def State.hotFloor (s : State) (d : Nat) : Rat :=
  let tx := s.txUsed.any (fun i => Arith.bit (s.n .drvTxMask d) i && Arith.bit (s.level (8 + i)) 2)
  let cell := (s.driveCells d).any (fun c => Arith.bit (s.level (cellLevelKey (cellAt c.1 c.2))) 2)
  Arith.minR (if tx then s.r .thmFloor 2 else 1) (if cell then s.r .thmFloor 3 else 1)

/-- A drive under its sensors: the factor, and outside Override a shutdown stops it (R480). -/
def State.driveThermal (s : State) (d : Nat) (dev : Rat) : State :=
  let hot := s.driveHot d
  let was := (s.drv d).hot
  let past := s.mode == 4
  let f := s.driveFactor d dev
  let s1 := s.putR .drvThermalFactor d (if !hot then f else if past then Arith.minR f (s.hotFloor d) else 0)
  let s2 := s1.putDrv d { s1.drv d with hot := hot }
  if hot && !was then (if past then s2.raiseLane 0x0705 kDrive d 0 else s2.deriveRunOff d) else s2

/-- Auxiliary bridges under the TX inputs (R294, R295): factors, and cause 6 outside Override. -/
def State.bridgeThermal (s : State) : State :=
  let s1 := forL s.txUsed (fun i t => t.putR .txFactor i (t.sensorFactor 2 (t.gr .txTempC i) (t.guardBad .txTempC i))) s
  forL s1.bridges (fun b t =>
    let ins := t.txUsed.filter (fun i => Arith.bit (t.n .txBridges i) b)
    let t1 := t.putR .auxTempFactor b (ins.foldl (fun f i => Arith.minR f (t.r .txFactor i)) 1)
    let hot := ins.any (fun i => Arith.bit (t.level (8 + i)) 2)
    let held := Arith.bit (t1.br b).holds 6
    if hot && t1.mode != 4 then (if held then t1 else t1.auxHold b 6)
    else if held then t1.auxRelease b 6 else t1) s1

/-- TX inputs that enter shutdown in Override report that cause 6 is not applied (R295). -/
def State.bridgeOverridden (s old : State) : State :=
  forL s.txUsed (fun i t =>
    if t.mode = 4 ∧ t.n .txBridges i ≠ 0 ∧ Arith.bit (t.level (8 + i)) 2 ∧ ¬Arith.bit (old.level (8 + i)) 2 then
      t.raiseLane 0x050D kAux (lowBit (t.n .txBridges i)) i
    else t) s

/-- Safe cause 6: a die or board sensor at shutdown (Table 10.4). -/
def State.boardThermal (s : State) : State :=
  let hot := (List.range 6).any (fun j => Arith.bit (s.level j) 2)
  let on := Arith.bit (s.n .devSafeCause) 5
  if hot && !on then s.safeCause 6 else if !hot && on then s.safeMark 6 false else s

/-- Whether any sensor stands at shutdown: source 3 of Table 16.2. -/
def State.anyShutdown (s : State) : Bool := s.levels.any (fun e => Arith.bit e.2 2)

/-- All temperatures at input cut-off. -/
def State.thermalJudge (s : State) : State :=
  let s1 := s.sensorsJudge
  let dev := s1.deviceFactor
  let s2 := s1.putR .devThermalFactor 0 dev
  let s3 := forL s2.drives (fun d t => t.driveThermal d dev) s2
  ((s3.bridgeThermal.bridgeOverridden s).boardThermal).irqLevel 3 s1.anyShutdown

/-- Board temperatures and TX inputs as sampled at t0 (Table 17.2, R294). -/
def State.sampleTemps (s : State) (smp : Samples) : State :=
  let s1 := forN 6 (fun j t => t.putR .devThermalTempC 0 (smp.temp.getD j 0) j) s
  forL s1.txUsed (fun i t => t.putR .txTempC i (smp.tx.getD i 0)) s1

/-! ## Supplies (section 17.3) -/

/-- Supply monitors as sampled for the epoch (Table 17.4) and the readiness of the hold-up store (R496). -/
def State.sampleSupply (s : State) (smp : Samples) : State :=
  let v := fun k => smp.supply.getD k 0
  let s1 := ((s.putR .supVctlAV 0 (v 0)).putR .supVctlBV 0 (v 1)).putR .supHoldupV 0 (v 2)
  let s2 := forN 8 (fun j t => t.putR .supRailV 0 (v (3 + j)) j) s1
  if 46 < v 2 then s2.putN .supHoldupReady 0 1 else if v 2 < 44 then s2.putN .supHoldupReady 0 0 else s2

/-- Source 4 of Table 16.2. -/
def State.supplyIrq (s : State) : State := s.irqLevel 4 (s.hw.vLow != 0 || s.hw.rails != 0)

/-- Cause 7 ends with the rails in range and an input back (Table 10.4). -/
def State.supplyBack (s : State) : State :=
  if s.hw.rails = 0 ∧ s.hw.vLow ≠ 3 then s.safeMark 7 false else s

/-- VCTL_CHANGE: a control input (false A, true B) at `mv` millivolts (R481, R482). -/
def State.vctlChange (s : State) (b : Bool) (mv : Nat) : State :=
  let k := Arith.b2n b
  let low := if Arith.bit s.hw.vLow k then decide (mv < 16500) else decide (mv < 16000)
  let high := if Arith.bit s.hw.vHigh k then decide (153500 < mv) else decide (154000 < mv)
  let wasLow := Arith.bit s.hw.vLow k
  let wasHigh := Arith.bit s.hw.vHigh k
  let wasBoth := s.hw.vLow == 3
  let s1 := s.withHw { s.hw with vLow := Arith.setBit s.hw.vLow k low, vHigh := Arith.setBit s.hw.vHigh k high }
  let s2 := if low && !wasLow then s1.raise (0x0801 + k) kSensor (64 + k) 0 else s1
  let s3 := if high && !wasHigh then s2.raise (0x0803 + k) kSensor (64 + k) 0 else s2
  let s4 := if (wasLow && !low) || (wasHigh && !high) then s3.raise 0x0805 kSensor (64 + k) 0 else s3
  let s5 := if s4.hw.vLow == 3 && !wasBoth then s4.raise 0x0806 kSensor 66 0 else s4
  s5.supplyBack.supplyIrq

def execVctlChange (b : Bool) (mv : Nat) (s : State) : Host.Outcome State Fault Refusal :=
  .next (if s.up then s.vctlChange b mv else s)

/-- HOLDUP_EXHAUSTED: the store falls below 28 V with both inputs low (R482). -/
def execHoldupExhausted (s : State) : Host.Outcome State Fault Refusal :=
  .next (if s.up ∧ s.hw.vLow = 3 then s.safeCause 7 else s)

/-- RAIL_FAULT: a rail has been out of its window for 10 µs (R481, R482). -/
def execRailFault (n : Fin 8) (s : State) : Host.Outcome State Fault Refusal :=
  .next (
    if s.up ∧ ¬Arith.bit s.hw.rails n then
      let s1 := s.withHw { s.hw with rails := Arith.setBit s.hw.rails n true }
      ((s1.raise 0x0807 kSensor (67 + n) n).safeCause 7).supplyIrq
    else s)

/-- RAIL_RESTORED: a rail is back within ±4 % (Table 17.4). -/
def execRailRestored (n : Fin 8) (s : State) : Host.Outcome State Fault Refusal :=
  .next (
    if s.up ∧ Arith.bit s.hw.rails n then
      let s1 := s.withHw { s.hw with rails := Arith.setBit s.hw.rails n false }
      (s1.raise 0x0805 kSensor (67 + n) 0).supplyBack.supplyIrq
    else s)

end Sys2Proof.Machine
end

