-- ==== Sys2Proof/Machine/Arms.lean ====
section
/-!
DEFINITION. Arms.lean: arms and winding sets as the lanes see them: cells in service, redundancy, rejoining and bypass
(section 5.9), measured currents (R111, R112), sums and energies (R159, R168), voltage capability (R125).
-/
namespace Sys2Proof.Machine

def State.arm (s : State) (ix : Nat) : ArmSt := Tab.get ArmSt.init s.arms ix

def State.putArm (s : State) (ix : Nat) (v : ArmSt) : State := s.withArms (Tab.put ArmSt.init s.arms ix v)

def State.wset (s : State) (ix : Nat) : SetSt := Tab.get SetSt.init s.sets ix

def State.putSet (s : State) (ix : Nat) (v : SetSt) : State := s.withSets (Tab.put SetSt.init s.sets ix v)

/-- What the fixed-point format of the lanes keeps (R113). -/
def rd (x : Rat) : Rat := Config.laneRound x

def sumR (xs : List Rat) : Rat := xs.foldl (· + ·) 0

/-- Lowest of some values; of none, a free value. -/
def minL (xs : List Rat) : Rat := xs.foldl Arith.minR (xs.headD (Config.quotZero 0))

/-- Highest of some values; of none, a free value. -/
def maxL (xs : List Rat) : Rat := xs.foldl Arith.maxR (xs.headD (Config.quotZero 0))

def meanR (xs : List Rat) : Rat := Arith.quot (sumR xs) xs.length

/-- T_E in seconds. -/
def State.teS (s : State) : Rat := (s.te : Rat) / 1000000000

/-! ## Structure (R146, R147) -/

/-- Arms of a drive in drive-local order. -/
def State.driveArms (s : State) (d : Nat) : List ArmDesc :=
  sortBy (fun a b => decide (a.idx ≤ b.idx)) (s.plant.arms.filter (fun a => a.drive == d))

/-- Arms of a winding set. -/
def State.setArms (s : State) (d k : Nat) : List ArmDesc := (s.driveArms d).filter (fun a => a.set == k && a.role != 9)

/-- The arm of a set with a role. -/
def State.roleArm (s : State) (d k role : Nat) : Option ArmDesc := (s.setArms d k).find? (fun a => a.role == role)

/-- Number of winding sets of a drive. -/
def State.nSets (s : State) (d : Nat) : Nat := ((s.driveDesc d).map (·.nSets)).getD 0

/-- Enabled winding sets (R110). -/
def State.enabledSets (s : State) (d : Nat) : List Nat :=
  (List.range (s.nSets d)).filter (fun k => s.n .setEnable (d * 4 + k) == 1)

/-- Share of a set in the torque: its part of the shares of the enabled sets (R110). -/
def State.setShareOf (s : State) (d k : Nat) : Rat :=
  if s.n .setEnable (d * 4 + k) = 1 then
    Arith.quot (s.r .setShare (d * 4 + k)) (sumR ((s.enabledSets d).map (fun j => s.r .setShare (d * 4 + j))))
  else 0

/-- Shares of the enabled sets over the shares of all (R127). -/
def State.shareRatio (s : State) (d : Nat) : Rat :=
  Arith.quot (sumR ((s.enabledSets d).map (fun j => s.r .setShare (d * 4 + j))))
    (sumR ((List.range (s.nSets d)).map (fun j => s.r .setShare (d * 4 + j))))

/-- Whether an arm's cells are in series: every arm but those of a two-level set (Table 5.1). -/
def State.armSeries (s : State) (a : ArmDesc) : Bool := !s.armParallel a

/-- Modulation mode of an arm (R148). -/
def State.armMode (s : State) (a : ArmDesc) : Nat :=
  if a.role == 9 || s.n .drvTopology a.drive == 0 then 1 else s.n .drvModMode a.drive

/-- Cells of an arm as arm-local index and position. -/
def State.armCells (s : State) (a : ArmDesc) : List (Nat × Nat) := (s.armPositions a).zipIdx.map (fun e => (e.2, e.1))

/-! ## The electrical model (Tables 4.2 and 4.4) -/

/-- Electrical angular frequency, rad/s: of the machine with slip, or of the line. -/
def State.omegaE (s : State) (d : Nat) : Rat :=
  let k := s.drv d
  let x := s.wset (d * 4)
  if s.isLine d then 2 * Config.lanePi * k.pllHz
  else
    let slip := if s.n .drvType d = 0 then Arith.quot (s.r .drvLmH d * x.iq) (s.r .drvTrS d * k.psi) else 0
    s.r .drvPolePairs d * k.omega + slip

/-- Resistance of a drive's current model (Table 4.4). -/
def State.rModel (s : State) (d : Nat) : Rat :=
  if s.n .drvType d = 0 then
    let kr := Arith.quot (s.r .drvLmH d) (s.r .drvLrH d)
    s.r .drvRsOhm d + kr * kr * Arith.quot (s.r .drvLrH d) (s.r .drvTrS d)
  else s.r .drvRsOhm d

/-- Inductances of the d and q axis (Table 4.4). -/
def State.lModel (s : State) (d : Nat) : Rat × Rat :=
  if s.n .drvType d = 0 then (s.r .drvSigmaLsH d, s.r .drvSigmaLsH d)
  else (s.r .drvLdH d, s.r .drvLqH d)

/-- Back-EMF of the d and q axis of a set, with the coupling of the other sets (Table 4.4). -/
def State.eEmf (s : State) (d k : Nat) : Rat × Rat :=
  let x := s.drv d
  let w := s.omegaE d
  let kr := Arith.quot (s.r .drvLmH d) (s.r .drvLrH d)
  let rr := Arith.quot (s.r .drvLrH d) (s.r .drvTrS d)
  let (ed, eq) := match s.n .drvType d with
    | 0 => (-(Arith.quot kr (s.r .drvLrH d) * rr * x.psi), w * kr * x.psi)
    | 3 => (x.vLd, x.vLq)
    | _ => (0, w * s.r .drvPsiVs d)
  let others := (List.range (s.nSets d)).filter (· != k)
  let m := s.r .drvMSetH d
  (ed + m * sumR (others.map (fun j => (s.wset (d * 4 + j)).didt)), eq + m * sumR (others.map (fun j => (s.wset (d * 4 + j)).diqt)))

/-- Cross coupling at a current (Table 4.4). -/
def xCpl (w ld lq i q : Rat) : Rat × Rat := (-(w * lq * q), w * ld * i)

/-- One step of the prediction of R117. -/
def predict (te r ld lq w : Rat) (e v i : Rat × Rat) : Rat × Rat :=
  let c := xCpl w ld lq i.1 i.2
  (i.1 + Arith.quot te ld * (v.1 - r * i.1 - e.1 - c.1), i.2 + Arith.quot te lq * (v.2 - r * i.2 - e.2 - c.2))

/-- d and q of three phase quantities in a frame at an angle in turns, amplitude-invariant. -/
def dqOf (a b c t : Rat) : Rat × Rat :=
  let third : Rat := 1 / 3
  (2 / 3 * (a * Config.laneCos t + b * Config.laneCos (t - third) + c * Config.laneCos (t + third)),
   -(2 / 3 * (a * Config.laneSin t + b * Config.laneSin (t - third) + c * Config.laneSin (t + third))))

/-- Frame angle of a set: displaced from set 0 by k times the set offset (R11, R110). -/
def State.setAngle (s : State) (d k : Nat) (t : Rat) : Rat :=
  t - (k : Rat) * ((((s.driveDesc d).map (·.setOffset)).getD 0 : Nat) : Rat) / 360

/-- Phase values of a dq pair in a frame at an angle. -/
def abcOf (v : Rat × Rat) (t : Rat) : Rat × Rat × Rat :=
  let f := fun (a : Rat) => v.1 * Config.laneCos a - v.2 * Config.laneSin a
  (f t, f (t - 1 / 3), f (t + 1 / 3))

/-- The voltage computed a number of computed epochs ago, newest first; none yet is 0. -/
def SetSt.v (x : SetSt) (j : Nat) : Rat × Rat := x.vdq.getD j (0, 0)

/-- Places, newest first, of the voltages counted as applied in some epochs from the `first` after the last computed one on: the
voltage computed k epochs earlier, and after skipped epochs the last one again (R117, R122). -/
def appliedIx (k first n : Nat) : List Nat := (List.range n).map (fun j => k - (first + j))

/-- Voltages of the epochs from the present sample to the apply instant, oldest first (R117, R118, R122). -/
def SetSt.applied (x : SetSt) (k gap : Nat) : List (Rat × Rat) := (appliedIx k gap k).map x.v

/-- Voltages on the axes α and β of the epochs from the last sample to the present one, oldest first. -/
def SetSt.between (x : SetSt) (k gap : Nat) : List (Rat × Rat) := (appliedIx k 0 gap).map (fun j => x.vab.getD j (0, 0))

/-- The current of a set at the present sample as the last computed epoch's prediction has it (R112, R117, R122). -/
def State.predictedDq (s : State) (d k gap : Nat) : Rat × Rat :=
  let x := s.wset (d * 4 + k)
  let (ld, lq) := s.lModel d
  ((appliedIx (s.drv d).comp 0 gap).map x.v).foldl
    (fun i v => predict s.teS (s.rModel d) ld lq (s.omegaE d) (s.eEmf d k) v i) (x.id, x.iq)

/-- The current that the controller predicted for an arm at the present sample (Table 4.2); of an arm without a winding set no
controller predicts one, and the value is free. -/
def State.predictedArm (s : State) (a : ArmDesc) (gap : Nat) : Rat :=
  if a.role = 9 then Config.quotZero 0
  else
    let d := a.drive
    let t := (s.drv d).ang + Arith.quot (s.omegaE d) (2 * Config.lanePi) * s.teS * gap
    let i := abcOf (s.predictedDq d a.set gap) (s.setAngle d a.set t)
    let ph := if a.role % 3 = 0 then i.1 else if a.role % 3 = 1 then i.2.1 else i.2.2
    if a.role < 3 then ph
    else (s.arm (armIx a)).iCirc + (if a.role < 6 then ph / 2 else -(ph / 2))

/-- Computed epochs since the previous one: 1 when none was skipped (R122). -/
def State.gapOf (s : State) (d : Nat) : Nat :=
  let k := s.drv d
  if k.started then max 1 (s.epoch - k.lastComp) else 1

/-! ## Cell quantities (R538, R477) -/

/-- Rated voltage of a cell in V. -/
def State.vRated (s : State) (r p : Nat) : Rat := (s.n .cell (cellAt r p) 0x05 : Rat) / 1000

/-- Full-scale current of a cell in A. -/
def State.iFull (s : State) (r p : Nat) : Rat := (s.n .cell (cellAt r p) 0x06 : Rat) / 1000

/-- Capacitor voltage of a cell in V, from its guard or slot. -/
def State.vCell (s : State) (r p : Nat) : Rat := (s.vCapRaw r p : Rat) / 32768 * s.vRated r p

/-- Arm current that a cell reports, A. -/
def State.iCell (s : State) (r p : Nat) : Rat := ((s.z .cell (cellAt r p) 0x0C : Int) : Rat) / 32768 * s.iFull r p

/-- Whether a valid slot of a position came in this epoch. -/
def State.slotNow (s : State) (r p : Nat) : Bool := (s.rnd r).slots.contains (p * 2) || (s.rnd r).slots.contains (p * 2 + 1)

/-! ## Cells in service (R167, R168, R172) -/

/-- Whether a round is Active, so that its cells can be in service. -/
def State.roundServes (s : State) (r : Nat) : Bool := s.n .rndState r == 6

/-- Whether a cell counts as in service for the lane: Active or Coasting, or Ready without having left service. -/
def State.cellIn (s : State) (a : ArmDesc) (x : ArmSt) (c : Nat × Nat) : Bool :=
  let st := s.posState a.round c.2
  s.roundServes a.round && (st == 5 || st == 7 || (st == 4 && !x.out.contains c.1))

/-- Cells of an arm in service. -/
def State.armIn (s : State) (a : ArmDesc) : List (Nat × Nat) := (s.armCells a).filter (s.cellIn a (s.arm (armIx a)))

/-- Mean voltage of some cells of an arm. -/
def State.meanV (s : State) (a : ArmDesc) (cs : List (Nat × Nat)) : Rat := meanR (cs.map (fun c => s.vCell a.round c.2))

/-- A lost cell back in Ready rejoins when its voltage lies in the band and no re-phasing is pending; with no cell in
service there is no mean and it rejoins at once (R172). -/
def State.rejoin (s : State) (a : ArmDesc) : State :=
  let ix := armIx a
  let x := s.arm ix
  let cs := s.armIn a
  let v := s.meanV a cs
  let band := s.r .drvRejoinBand a.drive / 100
  let back := (s.armCells a).filter (fun c => x.out.contains c.1 && s.posState a.round c.2 == 4 && !x.phasing
    && (cs.isEmpty || decide (Arith.absR (s.vCell a.round c.2 - v) ≤ band * s.vRated a.round c.2)))
  forL back (fun c t =>
    let t1 := t.putArm ix { t.arm ix with out := (t.arm ix).out.filter (· != c.1) }
    let y := t1.rnd a.round
    let t2 := if y.accepted.contains c.2 then t1
              else (t1.direct a.round (some c.2) (.assign (t1.armSlot a) c.1)).putRnd a.round
                { (t1.direct a.round (some c.2) (.assign (t1.armSlot a) c.1)).rnd a.round with accepted := y.accepted ++ [c.2] }
    t2.raiseLane 0x0316 kCell (cellAt a.round c.2) 0) s

/-- The cells of an arm that have left service in this epoch are marked (R168), and reported as far as they are within redundancy
(Table 5.5); a cell Active or Coasting again is no longer marked, nor is any cell while its round links up. -/
def State.leaveService (s : State) (a : ArmDesc) : State :=
  let ix := armIx a
  let x := s.arm ix
  let st := fun (c : Nat × Nat) => s.posState a.round c.2
  let on := fun c => s.roundServes a.round && (st c == 4 || st c == 5 || st c == 7)
  let gone := (s.armCells a).filter (fun c => !on c && !x.out.contains c.1)
  let back := fun (i : Nat) => (s.armCells a).any (fun c => c.1 == i && s.roundServes a.round && (st c == 5 || st c == 7))
  let left := if s.roundServes a.round then gone.filter (fun c => x.svc.contains c.1) else []
  let room := a.kRed - ((s.armCells a).length - x.svc.length)
  let s1 := s.putArm ix { x with out := if s.roundServes a.round then (x.out.filter (fun i => !back i)) ++ gone.map (·.1) else [] }
  forL (left.take room) (fun c t => t.raiseLane 0x0310 kCell (cellAt a.round c.2) 0) s1

/-- The cells in service are those that the next epoch compares with. -/
def State.keepService (s : State) (a : ArmDesc) : State :=
  s.putArm (armIx a) { s.arm (armIx a) with svc := (s.armIn a).map (·.1) }

/-- A cause of Table 6.4 begins or ends in an epoch: its event, Faulted or `SOFT_TRIP_OVERRIDDEN` at its beginning. -/
def State.judgeCause (s : State) (d c : Nat) (now : Bool) (ev : State → State) : State :=
  let was := Arith.bit (s.drv d).causes c
  if now && !was then (ev s).faultDrive d c
  else if !now && was then s.markCause d c false
  else s

/-- Lost cells of an arm (R167). -/
def State.armLost (s : State) (a : ArmDesc) : Nat := (s.armCells a).length - (s.armIn a).length

/-- Redundancy of a drive: `red_exceeded`, the Limp cause and its events (R174). -/
def State.redundancy (s : State) (d : Nat) : State :=
  let arms := s.driveArms d
  let s1 := forL arms (fun a t => (t.putN .armInService (armIx a) (t.armIn a).length).putN .armLost (armIx a) (t.armLost a)) s
  let old := s1.n .drvRedExceeded d
  let s2 := forL arms (fun a t =>
    let past := decide (a.kRed < t.armLost a)
    let was := Arith.bit (t.n .drvRedExceeded d) a.idx
    let t1 := t.putN .drvRedExceeded d (Arith.setBit (t.n .drvRedExceeded d) a.idx past)
    if past && !was then t1.raiseLane 0x0311 kDrive d a.idx else t1) s1
  let new := s2.n .drvRedExceeded d
  if new ≠ 0 then s2.setLimp d 0
  else if old ≠ 0 then (s2.clearLimp d 0).raiseLane 0x0312 kDrive d 0
  else s2

/-- Faulted causes of arms: floor, chopper without cells, two-level arm without cells (R173, R175). -/
def State.armFaults (s : State) (d : Nat) : State :=
  let arms := s.driveArms d
  let low := arms.filter (fun a => decide (((s.armIn a).length : Rat) < s.r .drvLimpFloor d / 100 * (a.nReq : Rat)))
  let s1 := s.judgeCause d 4 (!low.isEmpty) (fun t => forL low (fun a u => u.raiseLane 0x0313 kDrive d a.idx) t)
  let s2 := s1.judgeCause d 6 (arms.any (fun a => a.role == 9 && (s.armIn a).isEmpty)) id
  s2.judgeCause d 10 (arms.any (fun a => s.armParallel a && !(s.armCells a).isEmpty && (s.armIn a).isEmpty)) id

/-- Current limit of a two-level drive, % rated (R173). -/
def State.parallelLimit (s : State) (d : Nat) (lim : Rat) : Rat :=
  ((s.driveArms d).filter s.armParallel).foldl (fun m a =>
    Arith.minR m (100 * Arith.quot ((s.armIn a).length : Rat) (a.nReq : Rat))) lim

/-! ## Bypass of blocked cells (R169) -/

/-- A cell of a series arm that reports Blocked for a reason other than an invalid token, while its drive switches, gets
BYPASS 1 in the next frame. -/
def State.bypassBlocked (s : State) (a : ArmDesc) : State :=
  let ix := armIx a
  if s.armParallel a || !s.switching a.drive then s
  else
    let x := s.arm ix
    let blocked := (s.armCells a).filter (fun c => s.posState a.round c.2 == 8
      && !(s.rnd a.round).rejected.contains c.2 && Tab.get 0 x.bypass c.1 == 0)
    forL blocked (fun c t =>
      let t1 := t.direct a.round (some c.2) (.bypass true)
      t1.putArm ix { t1.arm ix with bypass := Tab.put 0 (t1.arm ix).bypass c.1 1 }) s

/-- A BYPASS 1 that leaves in a frame must be confirmed within 2 epochs after the frame applies (R73, R169). -/
def State.bypassSent (s : State) (r p : Nat) : State :=
  match s.armAt r p with
  | some a =>
    let x := s.arm (armIx a)
    let i := s.localIdx a p
    if Tab.get 0 x.bypass i = 1 then
      s.putArm (armIx a) { x with bypass := Tab.put 0 x.bypass i (s.epoch + (if s.n .rndLate r = 1 then 5 else 4)) }
    else s
  | none => s

/-- Bypasses that cells have confirmed, or whose cells are no longer Blocked, are no longer waited for. -/
def State.bypassSeen (s : State) (a : ArmDesc) : State :=
  let ix := armIx a
  forL (s.armCells a) (fun c t =>
    let x := t.arm ix
    if Tab.get 0 x.bypass c.1 ≠ 0 ∧ (Arith.bit (t.n .cell (cellAt a.round c.2) 0x0D) 5 ∨ t.posState a.round c.2 ≠ 8) then
      t.putArm ix { x with bypass := Tab.put 0 x.bypass c.1 0 }
    else t) s

/-- Cause 9 is present while a cell of the drive stands unconfirmed (R169, R184). -/
def State.bypassCause (s : State) (d : Nat) : State :=
  if Arith.bit (s.drv d).causes 9 ∧ ¬(s.driveArms d).any (fun a => (s.arm (armIx a)).bypass.any (fun e => e.2 == 2)) then
    s.markCause d 9 false
  else s

/-- BYPASS_NOT_CONFIRMED: a cell sent BYPASS 1 has not reported its bypass closed within 2 epochs after the frame
applied: its drive enters Faulted with cause 9. -/
def execBypassNotConfirmed (c : CellAddr) (s : State) : Host.Outcome State Fault Refusal :=
  .next (
    let r := c.val / 256
    let p := c.val % 256
    match s.armAt r p with
    | some a =>
      let ix := armIx a
      let x := s.arm ix
      let i := s.localIdx a p
      let due := Tab.get 0 x.bypass i
      if 3 ≤ due ∧ due ≤ s.epoch ∧ ¬Arith.bit (s.n .cell c 0x0D) 5 then
        ((s.putArm ix { x with bypass := Tab.put 0 x.bypass i 2 }).raiseLane 0x0314 kCell c 0).faultDrive a.drive 9
      else s
    | none => s)

/-! ## Measured currents (R111, R112) -/

/-- Median of some values; the mean of the two middle ones of an even number. Of none the value is free: R112 gives none for an arm
whose reports have all been left out (log entry 118). -/
def medianR (xs : List Rat) : Rat :=
  let ys := sortBy (fun a b => decide (a ≤ b)) xs
  let n := ys.length
  if n = 0 then Config.quotZero 0 else (ys.getD ((n - 1) / 2) 0 + ys.getD (n / 2) 0) / 2

/-- The consensus of a series arm of three or more cells: counts consecutive epochs outside and inside the tolerance, which an epoch
without the cell's report ends; a cell 16 epochs outside is left out and reported, 16 epochs inside taken back. -/
def State.consensus (s : State) (a : ArmDesc) (valid : List (Nat × Nat)) (med : Rat) : State :=
  let ix := armIx a
  let tol := s.r .drvIConsensus a.drive / 100
  forL (s.armCells a) (fun c t =>
    let x := t.arm ix
    let seen := valid.contains c
    let far := decide (tol * t.iFull a.round c.2 < Arith.absR (t.iCell a.round c.2 - med))
    let nf := if seen && far then Tab.get 0 x.far c.1 + 1 else 0
    let nn := if seen && !far then Tab.get 0 x.near c.1 + 1 else 0
    let x := { x with far := Tab.put 0 x.far c.1 (min nf 16), near := Tab.put 0 x.near c.1 (min nn 16) }
    if 16 ≤ nf ∧ ¬x.left.contains c.1 then
      (t.putArm ix { x with left := c.1 :: x.left }).raiseLane 0x0305 kCell (cellAt a.round c.2) 0
    else if 16 ≤ nn then t.putArm ix { x with left := x.left.filter (· != c.1) }
    else t.putArm ix x) s

/-- The current of an arm in this epoch. Without a valid report in an Active round it is the one that the current controller
predicted for this instant, with `CUR_SUBST` and CURRENT_UNOBSERVED (R112). -/
def State.measureArm (s : State) (a : ArmDesc) : State :=
  let ix := armIx a
  let x := s.arm ix
  let cs := s.armCells a
  let valid := cs.filter (fun c => s.slotNow a.round c.2)
  if valid.isEmpty then
    let i := rd (s.predictedArm a (s.gapOf a.drive))
    if s.roundServes a.round then
      let s1 := s.putArm ix { x with i := i, blind := min (x.blind + 1) 2, far := [], near := [] }
      (s1.drvFlag a.drive 12 true).raiseLane 0x0306 kDrive a.drive a.idx
    else s.putArm ix { x with i := i, blind := 0, far := [], near := [] }
  else
    let reads := fun (l : List (Nat × Nat)) => l.map (fun c => s.iCell a.round c.2)
    if s.armParallel a then
      s.putArm ix { x with i := (cs.length : Rat) * meanR (reads valid), blind := 0 }
    else if cs.length < 3 then s.putArm ix { x with i := meanR (reads valid), blind := 0 }
    else
      let med := medianR (reads (valid.filter (fun c => !x.left.contains c.1)))
      (s.putArm ix { x with i := med, blind := 0 }).consensus a valid med

/-- Phase currents of a set in A, from cells or from sigma-delta inputs (Table 4.2). -/
def State.phaseCurrents (s : State) (d k : Nat) : Rat × Rat × Rat :=
  let i := fun role => ((s.roleArm d k role).map (fun a => (s.arm (armIx a)).i)).getD 0
  if s.n .setISource (d * 4 + k) = 1 then
    let g := fun n => ((s.driveDesc d).map (fun x => s.gr .sdmValue ((x.iSdm.getD k []).getD n 0) * (x.iScale : Rat))).getD 0
    (g 0, g 1, g 2)
  else if s.n .drvTopology d = 2 then (i 3 - i 6, i 4 - i 7, i 5 - i 8)
  else (i 0, i 1, i 2)

/-- Circulating current of a leg of a modular multilevel set (Table 4.2). -/
def State.legCirc (s : State) (d k leg : Nat) : Rat :=
  let i := fun role => ((s.roleArm d k role).map (fun a => (s.arm (armIx a)).i)).getD 0
  (i (3 + leg) + i (6 + leg)) / 2

/-! ## Sums and energies (section 5.5, Table 4.5, Table 5.4) -/

/-- Capacitor voltages of some cells. -/
def State.volts (s : State) (a : ArmDesc) (cs : List (Nat × Nat)) : List Rat := cs.map (fun c => s.vCell a.round c.2)

/-- Rated voltage of an arm's cells: that of its first cell. -/
def State.armRated (s : State) (a : ArmDesc) : Rat := ((s.armPositions a).head?.map (s.vRated a.round)).getD 0

/-- The effective capacitor voltage reference, capped at the lowest `v_reserve` of the drive's cells in service (R165). -/
def State.vcapRef (s : State) (d : Nat) : State :=
  let k := s.drv d
  let want := s.r .drvVcapRefPct d + 100 * k.resOff
  let res := (s.driveArms d).flatMap (fun a => (s.armIn a).map (fun c => (s.n .cell (cellAt a.round c.2) 0x24 : Rat)))
  let cap := if res.isEmpty then want else Arith.minR want (minL res)
  let hit := decide (cap < want)
  let s1 := (s.putDrv d { k with capped := hit }).putR .drvVcapRefEff d cap
  if hit && !k.capped then s1.raiseLane 0x031B kDrive d 0 else s1

/-- Reference voltage of a cell: `vcap_ref_eff` of the rated voltage (R165). -/
def State.vRefOf (s : State) (a : ArmDesc) : Rat := s.r .drvVcapRefEff a.drive / 100 * s.armRated a

/-- Per-unit energy of an arm over its cells in service. -/
def State.armEnergy (s : State) (a : ArmDesc) : Rat :=
  let v := s.vRefOf a
  Arith.quot (sumR ((s.volts a (s.armIn a)).map (fun x => x * x))) (((a.nReq + a.kRed : Nat) : Rat) * v * v)

/-- Publishes the sums of an arm; reports its spread and energy warning when they begin (R175). -/
def State.armFigures (s : State) (a : ArmDesc) : State :=
  let ix := armIx a
  let vs := s.volts a (s.armIn a)
  let e := s.armEnergy a
  let s1 := ((((s.putR .armVSum ix (sumR vs)).putR .armVAvg ix (meanR vs)).putR .armVMin ix (minL vs)).putR .armVMax ix
    (maxL vs)).putR .armEnergyPu ix e
  let spread := !vs.isEmpty && decide (s.r .drvSpreadMax a.drive / 100 * s.armRated a < maxL vs - minL vs)
  let warn := decide (s.r .drvBalDevWarn a.drive < Arith.absR (s1.r .armEnergyPu ix - 1))
  let x := s1.arm ix
  let s2 := s1.putArm ix { x with spread := spread, warn := warn }
  let s3 := if spread && !x.spread then s2.raiseLane 0x0318 kDrive a.drive a.idx else s2
  if warn && !x.warn then s3.raiseLane 0x0317 kDrive a.drive 1 else s3

/-- Whether an arm's energy, as published, calls for a trip (R175). -/
def State.energyTrip (s : State) (a : ArmDesc) : Bool :=
  decide (s.r .drvBalDevTrip a.drive < Arith.absR (s.r .armEnergyPu (armIx a) - 1))

/-- Cells of an arm that count for the voltage capability: Active or Coasting (R125). -/
def State.capCells (s : State) (a : ArmDesc) : List (Nat × Nat) :=
  (s.armCells a).filter (fun c => s.roundServes a.round && s.cellServes a.round c.2)

/-- Sum of voltages of the cells that count. -/
def State.capSum (s : State) (a : ArmDesc) : Rat := sumR (s.volts a (s.capCells a))

/-- Voltage of the cells that an arm inserts, of those that count: the cells of its last mask, or for a carrier arm the fraction |m|
of its sum (R125). -/
def State.insertedSum (s : State) (a : ArmDesc) : Rat :=
  let x := s.arm (armIx a)
  let cs := s.capCells a
  if s.armMode a = 2 then sumR ((cs.filter (fun c => Arith.bit x.mask c.1)).map (fun c => s.vCell a.round c.2))
  else Arith.absR x.m * sumR (s.volts a cs)

/-- Mean over the legs of the summed voltages of the cells inserted in upper and lower arm (Table 4.5). -/
def State.legSum (s : State) (d k : Nat) : Rat :=
  meanR ([0, 1, 2].map (fun leg =>
    sumR ((s.setArms d k).filterMap (fun a => if a.role == 3 + leg || a.role == 6 + leg then some (s.insertedSum a) else none))))

/-- DC link voltage of a set as its modulation takes it: lowest cell of a two-level set (R158), the legs' inserted sum of a modular
multilevel set (Table 4.5). -/
def State.vdc (s : State) (d k : Nat) : Rat :=
  match s.n .drvTopology d with
  | 0 => minL ((s.setArms d k).flatMap (fun a => s.volts a (s.capCells a)))
  | 2 => s.legSum d k
  | _ => 0

/-- DC-link voltage that a line converter controls: the mean summed `v_cap` of its arms' inserted cells (R136), over the legs of a
modular multilevel set and over the arms of a cascaded H-bridge set. The paralleled cells of a two-level arm stand across the link
side by side, and their mean counts (DEDUCED, log entry 124). -/
def State.vLink (s : State) (d : Nat) : Rat :=
  match s.n .drvTopology d with
  | 0 => meanR ((s.setArms d 0).flatMap (fun a => s.volts a (s.capCells a)))
  | 2 => s.legSum d 0
  | _ => meanR ((s.setArms d 0).map s.insertedSum)

/-- V_max of a set (Table 4.5). -/
def State.vMaxOf (s : State) (d k : Nat) : Rat :=
  let sum := fun role => ((s.roleArm d k role).map s.capSum).getD 0
  match s.n .drvTopology d with
  | 0 => Arith.quot (s.vdc d k) (Config.laneSqrt 3)
  | 1 => minL [sum 0, sum 1, sum 2]
  | _ => minL ([0, 1, 2].map (fun leg => Arith.minR (sum (3 + leg)) (sum (6 + leg)) - s.vdc d k / 2))

/-- V_lim of a set (R119). -/
def State.vLim (s : State) (d k : Nat) : Rat := (1 - s.r .drvFwMargin d / 100) * (s.wset (d * 4 + k)).vMax

/-! ## Everything about a drive's arms at the start of its computation -/

/-- What the slots of the epoch say about a drive's cells, in the order of the rules. -/
def State.armsInput (s : State) (d : Nat) : State :=
  let s0 := s.drvFlag d 12 false
  let s1 := forL (s0.driveArms d) (fun a t => (((t.leaveService a).rejoin a).bypassSeen a).bypassBlocked a) s0
  let s2 := forL (s1.driveArms d) (fun a t => (t.measureArm a).keepService a) (s1.bypassCause d)
  let s3 := (s2.redundancy d).armFaults d
  let s4 := s3.judgeCause d 3 ((s3.driveArms d).any (fun a => decide (2 ≤ (s3.arm (armIx a)).blind))) id
  let s5 := forL (s4.driveArms d) (fun a t => t.armFigures a) (s4.vcapRef d)
  let s6 := s5.judgeCause d 5 ((s5.driveArms d).any s5.energyTrip) (fun t => t.raiseLane 0x0317 kDrive d 2)
  forN (s6.nSets d) (fun k t =>
    let ix := d * 4 + k
    let v := t.vMaxOf d k
    (t.putSet ix { t.wset ix with vMax := v }).putR .setVmax ix v) s6

end Sys2Proof.Machine
end

