-- ==== Sys2Proof/Machine/Can.lean ====
section
/-!
DEFINITION. Can.lean: the CAN FD controllers (chapter 15): message objects, bus states, the franking message, maps.

Error counting follows ISO 11898-1, which R439 names and the manual does not restate (PRESUMED: a transmit error adds
8, except an acknowledgement error of an error-passive node; a success takes 1; a receive error adds 1, or 8 when a
dominant bit follows the error flag; error-passive from 128, bus-off from 256).
-/
namespace Sys2Proof.Machine

def State.can (s : State) (c : Nat) : Can := Tab.get Can.init s.cans c

def State.putCan (s : State) (c : Nat) (v : Can) : State := s.withCans (Tab.put Can.init s.cans c v)

/-- Point index of an object, of a map. -/
def objIx (c o : Nat) : Nat := c * 256 + o
def mapIx (c m : Nat) : Nat := c * 64 + m

/-- Whether the controller drives and acknowledges: normal mode, neither bus-off nor recovering, device awake. -/
def State.canNormal (s : State) (c : Nat) : Bool :=
  (s.can c).mode == 1 && s.n .canState c != 3 && s.n .canState c != 4 && s.mode != 0

/-! ## Status of an object (Table 15.3) -/

/-- Bits [1] and [2]: pending, on the bus. -/
def State.objPending (s : State) (c o : Nat) : State :=
  let f := (s.can c).pend.find? (fun x => x.obj == o)
  (s.objFlag c o 1 f.isSome).objFlag c o 2 (match f with | some x => x.onBus | none => false)

/-- One more frame replaced: bits [31:16], modulo 65,536 (R437). -/
def State.objReplaced (s : State) (c o : Nat) : State :=
  let w := s.n .objStatus (objIx c o)
  s.putN .objStatus (objIx c o) (w % 65536 + (w / 65536 + 1) % 65536 * 65536)

/-! ## Bus states (R439, R441, Table 15.2) -/

/-- Sets the published state; a change fires source 144 + c. -/
def State.canSetState (s : State) (c v : Nat) : State :=
  if s.n .canState c = v then s else (s.putN .canState c v).irqFire (144 + c)

/-- The state that mode and counters give a controller that is neither bus-off nor recovering. -/
def State.canPlain (s : State) (c : Nat) : Nat :=
  match (s.can c).mode with
  | 0 => 0
  | 1 => if 128 ≤ s.n .canTec c ∨ 128 ≤ s.n .canRec c then 2 else 1
  | _ => 5

/-- Discards every pending frame (R438). -/
def State.canDiscard (s : State) (c : Nat) : State :=
  let x := s.can c
  let os := x.pend.map (·.obj)
  let n := x.pend.length + (x.pend.filter (fun f => f.next.isSome)).length
  let s1 := (s.putCan c { x with pend := [], aborts := [] }).addN .canTxDiscarded c n
  let s2 := forL os (fun o t => t.objPending c o) s1
  s2.settle (fun f => match f.wait with | .canGone k _ => k == c | _ => false) 0 noItem 0 .ready

/-- Follows the counters: bus-off discards what is pending; error-passive and error-active are reported on change. -/
def State.canCount (s : State) (c : Nat) : State :=
  let st := s.n .canState c
  if st ≠ 1 ∧ st ≠ 2 then s
  else if 256 ≤ s.n .canTec c then
    let x := s.can c
    let n := x.pend.length + (x.pend.filter (fun f => f.next.isSome)).length
    (((s.canDiscard c).inc .canBusOffs c).canSetState c 3).raise 0x0603 kCan c n
  else
    let v := s.canPlain c
    let s1 := s.canSetState c v
    if st = 1 ∧ v = 2 then s1.raise 0x0601 kCan c 0 else if st = 2 ∧ v = 1 then s1.raise 0x0602 kCan c 0 else s1

/-- The mode that a controller runs in: listen-only on a counterfoil (R441, R424). -/
def State.canWanted (s : State) (v : Nat) : Nat := if s.n .pairRole = 2 then 2 else v

/-- A mode comes into force at bus idle; leaving normal mode discards what is pending (R438, R441). -/
def State.canModeNow (s : State) (c v : Nat) : State :=
  let x := s.can c
  let s1 := if x.mode = 1 ∧ v ≠ 1 then s.canDiscard c else s
  let s2 := s1.putCan c { s1.can c with mode := v, modeDue := none }
  let st := s2.n .canState c
  if st = 3 ∨ st = 4 then s2 else s2.canSetState c (s2.canPlain c)

/-! ## Order on the bus (R437) -/

/-- Order in which the bus arbitrates identifiers: the base identifier, then standard before extended, then the
extension. -/
def busKey (id : Nat) (ext : Bool) : Nat :=
  if ext then id / 2 ^ 18 * 2 ^ 19 + 2 ^ 18 + id % 2 ^ 18 else id % 2 ^ 11 * 2 ^ 19

def State.objKey (s : State) (c o : Nat) : Nat :=
  busKey (s.n .objId (objIx c o)) (Arith.bit (s.n .objFmt (objIx c o)) 0)

/-- The pending frame that wins: lowest key, then lowest object. -/
def State.canBest (s : State) (c : Nat) : Option TxFrame :=
  (sortBy (fun (a b : TxFrame) => decide (s.objKey c a.obj < s.objKey c b.obj
    ∨ (s.objKey c a.obj = s.objKey c b.obj ∧ a.obj ≤ b.obj))) (s.can c).pend).head?

/-- At bus idle: a waiting mode comes into force, and the best pending frame starts arbitration. DESIGN CHOICE: the bus
counts as idle unless a frame of this controller is on it or it has just lost arbitration. -/
def State.canIdle (s : State) (c : Nat) : State :=
  let x := s.can c
  if x.busy || x.pend.any (·.onBus) then s
  else
    let s1 := match x.modeDue with | some v => s.canModeNow c v | none => s
    if !s1.canNormal c then s1
    else match s1.canBest c with
      | some f =>
        let y := s1.can c
        (s1.putCan c { y with pend := y.pend.map (fun g => if g.obj = f.obj then { g with onBus := true } else g) }).objPending c f.obj
      | none => s1

/-! ## Sending (R437, R438) -/

/-- Data bytes of a send object in a store: `len` bytes, low byte first in each point. -/
def objBytes (st : Store) (c o len : Nat) : List Byte :=
  ((List.range 16).flatMap (fun k => Arith.leBytes 4 (Store.get st ⟨.objData, objIx c o, k⟩).toNat)).take len

/-- A send falls due: it is queued, replaces data that has not started arbitration, or waits behind the frame on the
bus; a controller that may not send refuses and counts it (R437, R441). -/
def State.canQueue (s : State) (c o : Nat) (data : List Byte) (frank : Option Nat) : State :=
  if !s.canNormal c then s.inc .canTxRefused c
  else
    let x := s.can c
    match x.pend.find? (fun f => f.obj == o) with
    | some f =>
      let g := if f.onBus then { f with next := some data } else { f with data := data, frank := frank }
      let s1 := s.putCan c { x with pend := x.pend.map (fun h => if h.obj = o then g else h) }
      if f.onBus ∧ f.next = none then s1 else s1.objReplaced c o
    | none =>
      let f : TxFrame := { obj := o, data := data, onBus := false, next := none, frank := frank }
      ((s.putCan c { x with pend := x.pend ++ [f] }).objPending c o).canIdle c

/-- Whether an object sends. -/
def State.objSends (s : State) (c o : Nat) : Bool := s.unitOn 4 c && s.n .objDir (objIx c o) == 1

/-- CAN_PERIODIC_SEND: at t0 of an epoch whose device time is a multiple of `period_ms`, with the data of the last
commit (R437). -/
def execCanPeriodicSend (c : CanNo) (o : ObjNo) (s : State) : Host.Outcome State Fault Refusal :=
  .next (
    let ms := s.n .objPeriodMs (objIx c o)
    if s.objSends c o ∧ ms ≠ 0 ∧ s.clk.t0 % msNs ms = 0 ∧ s.mode ≠ 0 then
      s.canQueue c o (objBytes s.led c o (s.n .objLen (objIx c o))) none
    else s)

/-- An on-demand send at the commit of its apply-epoch, with the data committed then (R437). -/
def State.canSendNow (s : State) (c o : Nat) : State :=
  if s.objSends c o ∧ s.n .objPeriodMs (objIx c o) = 0 then
    s.canQueue c o (objBytes s.pts c o (s.n .objLen (objIx c o))) none
  else s

def execCanTxCmdSend (c : CanNo) (o : ObjNo) (s : State) : Host.Outcome State Fault Refusal :=
  .next ((s.putN .objTxCmd (objIx c o) 1).canSendNow c o)

/-- An abort: a frame not on the bus is withdrawn at once, the frame on the bus after its attempt; the episodes of the
object end (R438, R442, R443). Answers whether nothing is left to wait for. -/
def State.canAbortObj (s : State) (c o : Nat) : State × Bool :=
  let x := s.can c
  let s0 := (s.objFlag c o 3 false).objFlag c o 4 false
  match x.pend.find? (fun f => f.obj == o) with
  | some f =>
    if f.onBus then
      (s0.putCan c { x with pend := x.pend.map (fun h => if h.obj = o then { h with next := none } else h),
                            aborts := if x.aborts.contains o then x.aborts else o :: x.aborts }, false)
    else ((s0.putCan c { x with pend := x.pend.filter (fun h => h.obj != o) }).objPending c o, true)
  | none => (s0, true)

def execCanTxCmdAbort (c : CanNo) (o : ObjNo) (s : State) : Host.Outcome State Fault Refusal :=
  .next ((s.putN .objTxCmd (objIx c o) 2).canAbortObj c o).1

/-- The frame that an object sends. -/
def State.objFrame (s : State) (c : Nat) (f : TxFrame) : CanFrame :=
  let fmt := s.n .objFmt (objIx c f.obj)
  { id := s.n .objId (objIx c f.obj), ext := Arith.bit fmt 0, fd := Arith.bit fmt 1, brs := Arith.bit fmt 2, remote := false, data := f.data }

/-- The frame that waited behind one on the bus takes its place; behind a franking message waits the next one, whose number is its
first byte (R437, R444). -/
def TxFrame.follow (h : TxFrame) (d : List Byte) : TxFrame :=
  { h with data := d, onBus := false, next := none, frank := h.frank.map (fun _ => (d.headD 0).toNat) }

/-- An attempt ends in success. -/
def State.txDone (s : State) (c : Nat) (f : TxFrame) (sof t : Nat) : State :=
  let o := f.obj
  let x := s.can c
  let rest := match f.next with
    | some d => x.pend.map (fun h => if h.obj = o then h.follow d else h)
    | none => x.pend.filter (fun h => h.obj != o)
  let y := { x with pend := rest, aborts := x.aborts.filter (· != o), bitErrs := Tab.put 0 x.bitErrs o 0,
                    ackErrs := Tab.put 0 x.ackErrs o 0,
                    frankLast := match f.frank with | some k => some (k, sof) | none => x.frankLast }
  let s1 := (s.putCan c y).emit (.canFrame c (s.objFrame c f) t)
  let s2 := (((s1.inc .canTxFrames c).inc .objCount (objIx c o)).put64 .objTime (objIx c o) t).putN .canTec c (s1.n .canTec c - 1)
  let s3 := ((s2.objFlag c o 3 false).objFlag c o 4 false).objPending c o
  let s4 := match f.frank with | some k => s3.putN .canFrankSeq c k | none => s3
  let s5 := s4.settle (fun g => g.wait == .canGone c o) 0 noItem 0 .ready
  (s5.canCount c).canIdle c

/-- An attempt ends in an error: counters, episodes, then a retry unless the object is aborted or the controller has
gone bus-off (R438, R442, R443). -/
def State.txFailed (s : State) (c : Nat) (f : TxFrame) (res : TxResult) : State :=
  let o := f.obj
  let x := s.can c
  let inData := res == .bitError true
  let ack := res == .ackError
  let nb := if inData then Tab.get 0 x.bitErrs o + 1 else 0
  let na := if ack then Tab.get 0 x.ackErrs o + 1 else 0
  let gone := x.aborts.contains o
  let y := { x with bitErrs := Tab.put 0 x.bitErrs o nb, ackErrs := Tab.put 0 x.ackErrs o na,
                    aborts := x.aborts.filter (· != o),
                    pend := if gone then x.pend.filter (fun h => h.obj != o)
                            else x.pend.map (fun h => if h.obj = o then (match h.next with
                              | some d => h.follow d
                              | none => { h with onBus := false }) else h) }
  let s1 := ((s.putCan c y).inc .canErrors c).objPending c o
  let s2 := if ack && s.n .canState c == 2 then s1 else s1.putN .canTec c (s1.n .canTec c + 8)
  let s3 := if nb = 4 ∧ ¬Arith.bit (s2.n .objStatus (objIx c o)) 3 then (s2.objFlag c o 3 true).raise 0x0607 kCan c o else s2
  let s4 := if na = 128 ∧ ¬Arith.bit (s3.n .objStatus (objIx c o)) 4 then (s3.objFlag c o 4 true).raise 0x0608 kCan c o else s3
  let s5 := if gone then s4.settle (fun g => g.wait == .canGone c o) 0 noItem 0 .ready else s4
  (s5.canCount c).canIdle c

/-- Arbitration is lost: the frame waits for the bus, or is withdrawn if its object is aborted. -/
def State.txLost (s : State) (c : Nat) (f : TxFrame) : State :=
  let o := f.obj
  let x := s.can c
  let gone := x.aborts.contains o
  let y := { x with busy := true, aborts := x.aborts.filter (· != o), bitErrs := Tab.put 0 x.bitErrs o 0,
                    ackErrs := Tab.put 0 x.ackErrs o 0,
                    pend := if gone then x.pend.filter (fun h => h.obj != o)
                            else x.pend.map (fun h => if h.obj = o then { h with onBus := false } else h) }
  let s1 := (s.putCan c y).objPending c o
  if gone then s1.settle (fun g => g.wait == .canGone c o) 0 noItem 0 .ready else s1

/-- CAN_TX_ATTEMPT_END: the attempt of the frame on the bus ends. -/
def execCanTxAttemptEnd (c : CanNo) (o : ObjNo) (res : TxResult) (sof t : Nat) (s : State) :
    Host.Outcome State Fault Refusal :=
  .next (
    match (s.can c).pend.find? (fun f => f.obj == o.val && f.onBus) with
    | some f =>
      let s1 := s.advance t
      match res with
      | .success => s1.txDone c f sof t
      | .arbitrationLost => s1.txLost c f
      | _ => s1.txFailed c f res
    | none => s)

/-! ## Mode and recovery (R440, R441) -/

/-- A write of `can[c].mode`: in force at the next bus idle. -/
def State.canModeWrite (s : State) (c v : Nat) : State :=
  let s1 := s.putN .canMode c v
  let x := s1.can c
  (s1.putCan c { x with modeDue := some (s1.canWanted v) }).canIdle c

def execCanModeWrite (c : CanNo) (v : Fin 3) (s : State) : Host.Outcome State Fault Refusal := .next (s.canModeWrite c v)

/-- CAN_RECOVER starts the recovery sequence of a bus-off controller (R440). Answers whether it runs. -/
def State.canRecoverStart (s : State) (c : Nat) : State × Bool :=
  if s.n .canState c = 3 then (s.canSetState c 4, true) else (s, s.n .canState c == 4)

/-- CAN_RECOVERED: the sequence completes; counters are 0 and the controller is error-active (R440). -/
def State.canRecovered (s : State) (c : Nat) : State :=
  let s1 := (s.putN .canTec c 0).putN .canRec c 0
  let s2 := (s1.canSetState c (s1.canPlain c)).raise 0x0604 kCan c 0
  (s2.settle (fun f => f.wait == .canUp c) 0 noItem 0 .ready).canIdle c

def execCanRecovered (c : CanNo) (s : State) : Host.Outcome State Fault Refusal :=
  .next (if s.n .canState c = 4 then s.canRecovered c else s)

/-! ## Franking (R444 to R446) -/

/-- Bytes of franking message `k` (R444). -/
def frankBytes (k setting : Nat) (ts : Option Nat) : List Byte :=
  let body := Arith.leBytes 1 (k % 256) ++ Arith.leBytes 1 (Arith.b2n ts.isSome + 2 * setting) ++ Arith.leBytes 2 0 ++ Arith.leBytes 8 (ts.getD 0)
  body ++ Arith.leBytes 2 (Arith.crc16 body) ++ Arith.leBytes 2 0

/-- Timestamp of the message before `k`, if it completed. -/
def Can.frankPrev (x : Can) : Option Nat :=
  match x.frankLast with
  | some (q, ts) => if (q + 1) % 256 = x.frankNext then some ts else none
  | none => none

/-- FRANKING_MESSAGE_SEND: at t0 of an epoch whose device time is a multiple of `frank_period_ms` (R445). -/
def execFrankingMessageSend (c : CanNo) (s : State) : Host.Outcome State Fault Refusal :=
  .next (
    if s.unitOn 4 c ∧ s.n .canFrankMode c = 1 ∧ s.n .pairRole ≠ 2 ∧ s.mode ≠ 0
       ∧ s.clk.t0 % msNs (s.n .canFrankPeriodMs c) = 0 then
      let x := s.can c
      let k := x.frankNext
      (s.putCan c { x with frankNext := (k + 1) % 256 }).canQueue c (s.n .canFrankObj c)
        (frankBytes k (settingOf s.te) x.frankPrev) (some k)
    else s)

/-- Whether a frame is a franking message on the controller's franking identifier. -/
def State.isFrank (s : State) (c : Nat) (fr : CanFrame) : Bool :=
  let i := objIx c (s.n .canFrankObj c)
  s.n .canFrankMode c != 0 && fr.fd && fr.data.length == 16 && fr.id == s.n .objId i && fr.ext == Arith.bit (s.n .objFmt i) 0

/-- A follower takes a franking message whose start of frame it timestamped at `sof` (R446). -/
def State.frankTake (s : State) (c : Nat) (bs : List Byte) (sof : Nat) : State :=
  let x := s.can c
  let q := Arith.field bs 0 1
  let crc := Arith.crc16 (bs.take 12) == Arith.field bs 12 2
  let valid := Arith.bit (Arith.field bs 1 1) 0
  let tf := match x.frankLast with | some (k, ts) => if (k + 1) % 256 = q then some ts else none | none => none
  let y := if crc then { x with frankLast := some (q, sof) } else x
  match crc && valid, tf with
  | true, some ts =>
    let e : Int := (ts : Int) - s.n .canFrankDelayNs c - Arith.field bs 4 8
    let s1 := ((s.putCan c { y with frankBad := false }).putN .canFrankSeq c q).putZ .canFrankErrorNs c (satS32 e)
    if s1.timeSource = 2 + c then s1.frankEvent e else s1
  | _, _ =>
    let s1 := (s.putCan c { y with frankBad := true }).inc .canFrankRejects c
    if x.frankBad then s1 else s1.raise 0x0609 kCan c 0

/-! ## Receiving (R435, R436) -/

/-- The receive object that accepts a frame: the lowest whose identifier, kind and format agree (R435). -/
def State.rxObject (s : State) (c : Nat) (fr : CanFrame) : Option Nat :=
  (List.range 256).find? (fun o =>
    let i := objIx c o
    let fmt := s.n .objFmt i
    s.n .objDir i == 2 && Nat.land (Nat.xor fr.id (s.n .objId i)) (s.n .objMask i) == 0
      && fr.ext == Arith.bit fmt 0 && (Arith.bit fmt 3 || fr.fd == Arith.bit fmt 1))

/-- The receive error counter after a successful reception: 1 less; from above 127 a value from 119 to 127, which
ISO 11898-1 leaves to the controller. -/
def State.canRxOk (s : State) (c : Nat) : State :=
  let r := s.n .canRec c
  if (s.can c).mode ≠ 1 then s
  else if 127 < r then
    let (w, s1) := s.drawWord
    (s1.putN .canRec c (119 + w.toNat % 9)).canCount c
  else s.putN .canRec c (r - 1)

/-- Whether a controller receives: on, not bus-off, awake, and past the 300 ms after a wake (R439, R447). -/
def State.canHears (s : State) (c sof : Nat) : Bool :=
  (s.can c).mode != 0 && s.n .canState c != 3 && s.n .canState c != 4 && s.mode != 0
    && (s.dev.wokeAt == 0 || decide (s.dev.wokeAt + 300000000 ≤ sof))

/-- CAN_FRAME_RECEIVED: counted; accepted frames stand among the inputs of the epoch (R38, R431, R435). -/
def State.canReceive (s : State) (c : Nat) (fr : CanFrame) (sof t : Nat) : State :=
  let s0 := s.canRxOk c
  let s1 :=
    if fr.remote then s0.inc .canRxRemote c
    else
      let s2 := s0.inc .canRxFrames c
      let s3 := if s2.isFrank c fr then
                  (if s2.n .canFrankMode c = 1 then s2.raise 0x060A kCan c 0 else s2.frankTake c fr.data sof) else s2
      match s3.rxObject c fr with
      | some o =>
        let x := s3.can c
        s3.putCan c { x with rx := x.rx ++ [⟨o, fr, t⟩], rxAt := Tab.put 0 x.rxAt o t }
      | none => s3.inc .canRxUnmatched c
  (s1.putCan c { s1.can c with busy := false }).canIdle c

def execCanFrameReceived (c : CanNo) (fr : CanFrame) (sof t : Nat) (s : State) : Host.Outcome State Fault Refusal :=
  .next (if s.unitOn 4 c && s.canHears c sof then (s.advance t).canReceive c fr sof t else s)

/-- CAN_RX_ERROR: a reception ends in an error (R439). In listen-only mode the counters do not change (R441). -/
def execCanRxError (c : CanNo) (dominantAfter : Bool) (s : State) : Host.Outcome State Fault Refusal :=
  .next (
    if s.unitOn 4 c && s.canHears c s.now then
      let s1 := s.inc .canErrors c
      let s2 := if (s1.can c).mode = 1 then
                  (s1.putN .canRec c (s1.n .canRec c + (if dominantAfter then 8 else 1))).canCount c
                else s1
      (s2.putCan c { s2.can c with busy := false }).canIdle c
    else s)

/-- An accepted frame is placed in its object at the cut-off of its epoch: data padded to 64 bytes, end time, count; the
first one after staleness clears it (R435, R436). -/
def State.rxPlace (s : State) (c : Nat) (f : RxFrame) : State :=
  let i := objIx c f.obj
  let bs := f.frame.data ++ List.replicate (64 - f.frame.data.length) 0
  let s1 := forN 16 (fun k t => t.putN .objData i (Arith.field bs (4 * k) 4) k) s
  let s2 := (s1.put64 .objTime i f.t).inc .objCount i
  if Arith.bit (s2.n .objStatus i) 0 then ((s2.objFlag c f.obj 0 false).raise 0x0606 kCan c f.obj).irqFire (144 + c) else s2

/-- `rx_overwrite`: frames of the epoch beyond the last, bits [15:8]. -/
def State.rxOverwrite (s : State) (c o n : Nat) : State :=
  let w := s.n .objStatus (objIx c o)
  s.putN .objStatus (objIx c o) (w % 256 + min (n - 1) 255 * 256 + w / 65536 * 65536)

/-- CAN inputs at cut-off: every accepted frame in order. The frames stay listed for the maps and the mailbag. -/
def State.canCutoff (s : State) (c : Nat) : State :=
  let fs := (s.can c).rx
  let s1 := forL fs (fun f t => t.rxPlace c f) s
  forN 256 (fun o t =>
    if t.n .objDir (objIx c o) = 2 then t.rxOverwrite c o (fs.filter (fun f => f.obj == o)).length else t) s1

/-- The drives whose backup path uses an object: targets of its maps (R448). -/
def State.mapDrives (s : State) (c o : Nat) : List Nat :=
  (List.range 64).filterMap (fun m =>
    if s.n .mapObj (mapIx c m) = o ∧ o ≠ 0xFFFF then
      let x := s.n .mapTarget (mapIx c m)
      if 0x80000 ≤ x ∧ x < 0x180000 then some ((x - 0x80000) / 0x8000) else none
    else none)

/-- CAN_RX_TIMEOUT: no accepted frame for `rx_timeout_ms`: the object is stale, and drives on its backup path act as on
`run_cmd` 0 (R324, R436, R449). Its guard acts at the next cut-off. -/
def execCanRxTimeout (c : CanNo) (o : ObjNo) (s : State) : Host.Outcome State Fault Refusal :=
  .next (
    let i := objIx c o
    let ms := s.n .objRxTimeoutMs i
    if s.unitOn 4 c ∧ s.n .objDir i = 2 ∧ ms ≠ 0 ∧ ¬Arith.bit (s.n .objStatus i) 0
       ∧ Tab.get 0 (s.can c).rxAt o + msNs ms ≤ s.now then
      let s1 := ((s.objFlag c o 0 true).raise 0x0605 kCan c o).irqFire (144 + c)
      forL (s1.mapDrives c o) (fun d t => if t.n .drvHostState d = 3 then t.lossHalt d else t) s1
    else s)

/-! ## Maps (R448, R449) -/

/-- Value of a map's field in the data of its object. -/
def State.mapRaw (s : State) (c m : Nat) : Int :=
  let i := mapIx c m
  let o := s.n .mapObj i
  let data := (List.range 16).foldr (fun k acc => (s.gw .objData (objIx c o) k).toNat + 2 ^ 32 * acc) 0
  let len := s.n .mapLen i
  let v := data / 2 ^ s.n .mapBit i % 2 ^ len
  if s.n .mapSigned i = 1 ∧ 2 ^ (len - 1) ≤ v then (v : Int) - 2 ^ len else v

/-- Encodes a value in a point type, rounded and saturated (R448). -/
def satEnc (t : PtTy) (x : Rat) : Word :=
  match t with
  | .u32 | .guarded => Word.ofInt (max 0 (min 4294967295 (Arith.round x)))
  | .s32 => Word.ofInt (max (-2147483648) (min 2147483647 (Arith.round x)))
  | _ => t.enc x

/-- The writes that the maps of a controller make in this epoch: those whose object accepted a frame, whose target
drive is on the CAN path, and that no host write has ended. -/
def State.mapWrites (s : State) (c : Nat) : List (Nat × Word) :=
  (List.range 64).filterMap (fun m =>
    let i := mapIx c m
    let o := s.n .mapObj i
    let x := s.n .mapTarget i
    if o ≠ 0xFFFF ∧ (s.can c).rx.any (fun f => f.obj == o) ∧ ¬Arith.bit (s.n .objStatus (objIx c o)) 0
       ∧ 0x80000 ≤ x ∧ x < 0x180000 ∧ s.n .drvHostState ((x - 0x80000) / 0x8000) = 3 ∧ ¬(s.can c).mapsOff.contains m then
      match s.pointAt x with
      | some p => some (x, satEnc (entry p.f).ty ((s.mapRaw c m : Rat) * s.r .mapScale i + s.r .mapOffset i))
      | none => none
    else none)

/-- A host write to a mapped point after the host's return ends that map's writes (R449). -/
def State.mapEnds (s : State) (x : Nat) : State :=
  if s.dev.hostLost then s
  else forN 4 (fun c t =>
    let ms := (List.range 64).filter (fun m => t.n .mapTarget (mapIx c m) == x && t.n .mapObj (mapIx c m) != 0xFFFF)
    if ms.isEmpty then t else t.putCan c { t.can c with mapsOff := ms ++ (t.can c).mapsOff }) s

/-- Maps act again when a drive goes to the CAN path. -/
def State.mapsReset (s : State) (d : Nat) : State :=
  forN 4 (fun c t =>
    t.putCan c { t.can c with mapsOff := (t.can c).mapsOff.filter (fun m =>
      let x := t.n .mapTarget (mapIx c m)
      !(decide (0x80000 ≤ x) && (x - 0x80000) / 0x8000 == d)) }) s

/-! ## Configuration (R433) -/

/-- Bit rate from prescaler and segments of the 80 MHz clock. -/
def bitRate (brp t1 t2 : Nat) : Rat := Arith.quot 80000000 ((brp * (1 + t1 + t2) : Nat) : Rat)

/-- Whether the termination of a controller's bus is on (R432). -/
def State.canTerminated (s : State) (c : Nat) : Bool := s.unitOn 4 c && s.terminates (s.n .canTerm c)

/-- A controller at the activation of a description: counters start again, rates are derived; the transmitter delay is
measured, so its value is free. Bus-off and a recovery outlast the load, with their error counters (R439). -/
def State.canConfigure (s : State) (c : Nat) : State :=
  let off := s.n .canState c == 3 || s.n .canState c == 4
  let s0 := if off then s else (s.putN .canTec c 0).putN .canRec c 0
  let s1 := forL [Field.canRxFrames, .canRxUnmatched, .canRxRemote, .canTxFrames, .canErrors, .canBusOffs,
    .canTxDiscarded, .canTxRefused, .canFrankSeq, .canFrankRejects, .canFrankErrorNs] (fun f t => t.putN f c 0) s0
  let s2 := (s1.putR .canNbitRate c (bitRate (s1.n .canNbrp c) (s1.n .canNtseg1 c) (s1.n .canNtseg2 c))).putR .canDbitRate c
    (bitRate (s1.n .canDbrp c) (s1.n .canDtseg1 c) (s1.n .canDtseg2 c))
  let (w, s3) := s2.drawRat
  let rxAt := (List.range 256).filterMap (fun o => if s.n .objDir (objIx c o) = 2 then some (o, s.now) else none)
  let m := s3.canWanted (s3.n .canMode c)
  let s4 := (s3.putR .canTdcNs c w).putCan c { Can.init with mode := m, rxAt := rxAt.filter (fun e => e.2 != 0) }
  if off then s4 else s4.canSetState c (s4.canPlain c)

end Sys2Proof.Machine
end

