-- ==== Sys2Proof/Machine/Demand.lean ====
section
/-!
DEFINITION. Demand.lean: the demand path of a drive (Table 4.3): feedback and sensorless operation, references, speed
and position loop, inertia adaptation, load-torque observer, and the shock governor (sections 4.5 to 4.9 and 6.2).

Torques and speeds of the points are in % rated; the loops work in rad/s and N·m (R128).
-/
namespace Sys2Proof.Machine

/-! ## Scales (R109) -/

/-- Rated speed in rad/s mechanical. -/
def State.wRated (s : State) (d : Nat) : Rat := s.r .drvRatedSpeedRpm d * 2 * Config.lanePi / 60

/-- 100 % rated current: √2 times the rated rms current, A. -/
def State.iRated (s : State) (d : Nat) : Rat := Config.laneSqrt 2 * s.r .drvRatedCurrentA d

/-- A torque in N·m of a drive as % rated. -/
def State.tPct (s : State) (d : Nat) (t : Rat) : Rat := 100 * Arith.quot t (s.r .drvRatedTorqueNm d)

/-- A speed in % rated as rad/s. -/
def State.wOf (s : State) (d : Nat) (x : Rat) : Rat := x / 100 * s.wRated d

/-- The drive whose points serve a drive's loops: the first of its group's `leader_order` (R196, R197). -/
def State.headOf (s : State) (d : Nat) : Nat := s.policyDrive d

/-- The torque that 100 % means in a drive's loop: the group's at the shaft for a member, else its own. -/
def State.loopBase (s : State) (d : Nat) : Rat :=
  match s.shaftOf d with
  | some g => s.groupRated g
  | none => s.r .drvRatedTorqueNm d

/-! ## Completeness (R39, R40) -/

/-- Whether the inputs of a drive are complete at cut-off. -/
def State.inputsComplete (s : State) (d : Nat) : Bool :=
  let rounds := (s.driveArms d).all (fun a => s.roundClosed a.round)
  let fb := match s.driveFb d with
    | some n => s.n .fbKind n != 2 || s.n .fbState n != 1 || (s.fb n).ssiGot
    | none => true
  let miss := fun x => Arith.bit s.hw.missing (if x < 16 then 24 + x else x)
  let line := match s.driveDesc d with
    | some x =>
      !(s.isLine d && x.vLine.any miss)
      && (List.range x.nSets).all (fun k => s.n .setISource (d * 4 + k) != 1 || !((x.iSdm.getD k []).any miss))
    | none => true
  rounds && fb && line

/-! ## Feedback and sensorless operation (R131 to R135) -/

/-- Machine parameters as the observer takes them. -/
def State.machine (s : State) (d : Nat) : List Rat :=
  [s.r .drvRsOhm d, s.r .drvSigmaLsH d, s.r .drvLmH d, s.r .drvLrH d, s.r .drvTrS d, s.r .drvLdH d, s.r .drvLqH d,
   s.r .drvPsiVs d, s.r .drvPolePairs d, s.r .drvSlPllHz d]

/-- Runs a function a number of times. -/
def iterate {α : Type} (f : α → α) : Nat → α → α
  | 0, x => x
  | n + 1, x => iterate f n (f x)

/-- The observer runs once for every epoch since the last computed one, with the voltage applied in that epoch (R122, R131). -/
def State.runObserver (s : State) (d gap : Nat) : State :=
  let k := s.drv d
  let x := s.wset (d * 4)
  let go := fun st (v : Rat × Rat) => Config.observer (s.n .drvType d) (s.machine d) st [v.1, v.2, x.ia, x.ib, x.ic, s.teS]
  let obs := (x.between k.comp gap).foldl go k.obs
  ((s.putDrv d { k with obs := obs }).putR .drvSpeedSl d (obs.getD 0 0)).put .drvAngleSl d (Arith.turnsWord (obs.getD 1 0))

/-- Speed of the assigned channel in % rated (R226). -/
def State.fbSpeedPct (s : State) (d n : Nat) : Rat :=
  match s.driveDesc d with
  | some x => 100 * Arith.quot (s.gr .fbSpeedCps n * (x.cprDen : Rat) * 60) ((x.cprNum : Rat) * s.r .drvRatedSpeedRpm d)
  | none => 0

/-- Electrical angle of the assigned channel in turns. -/
def State.fbTurns (s : State) (d n : Nat) : Rat :=
  match s.driveDesc d with
  | some x =>
    let t := Arith.quot ((s.z64 .fbPos n : Rat) * (x.cprDen : Rat) * s.r .drvPolePairs d) (x.cprNum : Rat)
    t - (t.floor : Rat)
  | none => 0

/-- Distance of two angles in turns, at most a half. -/
def turnDist (a b : Rat) : Rat :=
  let x := a - b
  let y := x - (x.floor : Rat)
  if y ≤ 1 / 2 then y else 1 - y

/-- The drive takes speed and angle from the observer (R132, R135). -/
def State.toSensorless (s : State) (d n : Nat) : State :=
  let err := Arith.turnsWord (s.fbTurns d n) - s.w .drvAngleSl d
  ((((s.putN .drvFbInUse d 0).drvFlag d 2 true).put .drvSwitchAngleErr d err).raiseLane 0x0302 kDrive d 0)

/-- Plausibility of a healthy channel against the observer, used or not, above `sl_min_speed` (R133). Which of the two speeds must
exceed it the rule does not say; the observer's does here (DESIGN CHOICE, log entry 122), so a channel stuck at 0 is found. -/
def State.plausible (s : State) (d n : Nat) : State :=
  let k := s.drv d
  let sl := s.r .drvSpeedSl d
  let far := decide (s.r .drvFbPlaus d < Arith.absR (s.fbSpeedPct d n - sl)) && decide (s.r .drvSlMinSpeed d < Arith.absR sl)
  let c := if s.n .fbState n = 1 ∧ k.started ∧ far then k.plausN + 1 else 0
  let s1 := s.putDrv d { k with plausN := c }
  if 0 < c ∧ s.n .drvFbPlausEpochs d ≤ c then s1.fbFault n 8 else s1

/-- Which source a drive uses in this epoch, by what was declared of its channel before the epoch's cut-off (R132, R135). A write of 0
to `fb_use` takes a drive that uses its channel to the observer as a fault would (DESIGN CHOICE, log entry 123). -/
def State.chooseFb (s : State) (d n : Nat) : State :=
  let k := s.drv d
  let healthy := s.n .fbState n == 1
  if !k.started then
    if healthy ∧ s.n .drvFbUse d = 1 then (s.putN .drvFbInUse d 1).drvFlag d 2 false
    else ((s.putN .drvFbInUse d 0).drvFlag d 2 true).putDrv d { k with wantFb := s.n .drvFbUse d == 1 }
  else if s.n .drvFbInUse d = 1 then
    if healthy ∧ s.n .drvFbUse d = 1 then s else s.toSensorless d n
  else
    let close := decide (turnDist (s.fbTurns d n) (k.obs.getD 1 0) ≤ s.r .drvFbRejoinDeg d / 360)
      && decide (Arith.absR (s.fbSpeedPct d n - s.r .drvSpeedSl d) ≤ s.r .drvFbPlaus d)
    if k.wantFb ∧ healthy ∧ s.n .drvFbUse d = 1 ∧ close then
      (((s.putN .drvFbInUse d 1).drvFlag d 2 false).putDrv d { k with wantFb := false, plausN := 0 }).raiseLane 0x030D kDrive d 0
    else s

/-- The source of this epoch, then the plausibility of the channel, which acts from the next epoch on (R132 to R135). -/
def State.selectFb (s : State) (d : Nat) : State :=
  match s.driveFb d with
  | none => (s.putN .drvFbInUse d 0).drvFlag d 2 true
  | some n =>
    let s1 := (s.chooseFb d n).plausible d n
    s1.drvFlag d 13 (s1.n .fbState n == 2)

/-- Whether a drive holds its angle by high-frequency injection (R134). -/
def State.hfiOn (s : State) (d : Nat) : Bool :=
  s.hasFlag d 2 && s.n .drvType d == 2 && s.n .drvHfi d == 1
    && decide (Arith.absR (s.r .drvSpeedSl d) < s.r .drvSlMinSpeed d)

/-- Low-speed operation of a sensorless drive (R134): entered below `sl_min_speed`, left after 64 epochs above it. -/
def State.slLow (s : State) (d : Nat) : State :=
  let k := s.drv d
  let below := decide (Arith.absR (s.r .drvSpeedSl d) < s.r .drvSlMinSpeed d)
  let use := s.hasFlag d 2 && !(s.n .drvType d == 2 && s.n .drvHfi d == 1)
  if !use then (s.putDrv d { k with low := false, lowN := 0 }).drvFlag d 3 false
  else if k.low then
    let n := if below then 0 else k.lowN + 1
    if 64 ≤ n then (s.putDrv d { k with low := false, lowN := 0 }).drvFlag d 3 false
    else s.putDrv d { k with lowN := n }
  else if below then
    ((s.putDrv d { k with low := true, lowN := 0, ang := k.ang }).drvFlag d 3 true).raiseLane 0x0303 kDrive d 0
  else s

/-- Frame angle of an identification step in turns, where the step gives one (Table 4.6): the phase-a axis for its test currents and
for the pulses of step 2, and one that turns with 2 % of rated speed in step 5. -/
def State.testTurn (s : State) (d : Nat) : Option Rat :=
  if s.n .drvIdState d ≠ 1 then none
  else match s.n .drvIdStep d with
    | 3 => none
    | 5 => some (s.r .drvPolePairs d * s.r .drvRatedSpeedRpm d / 60 * 2 / 100 * (((s.now - (s.drv d).idAt : Nat) : Rat) / 1000000000))
    | _ => some 0

/-- Rotor angle by feedback or by the observer, turns. -/
def State.rotorTurn (s : State) (d : Nat) : Rat :=
  match s.driveFb d with
  | some n => if s.n .drvFbInUse d = 1 then s.fbTurns d n else (s.drv d).obs.getD 1 0
  | none => (s.drv d).obs.getD 1 0

/-- Speed and frame angle that the lane uses (R131 to R134). The flux angle of an induction machine with feedback goes on from the
last estimate at the frame's frequency. -/
def State.takeSpeed (s : State) (d gap : Nat) : State :=
  let k := s.drv d
  let p := s.r .drvPolePairs d
  let low := k.low && s.switching d
  let pct : Rat := if low then k.refEff
    else match s.driveFb d with
      | some n => if s.n .drvFbInUse d = 1 then s.fbSpeedPct d n else s.r .drvSpeedSl d
      | none => s.r .drvSpeedSl d
  let w := s.wOf d pct
  let a := Arith.quot (w - k.omLast) (s.teS * gap)
  let s1 := s.putDrv d { k with omega := w, alpha := rd a, omLast := w }
  let turn : Rat := match s.testTurn d with
    | some t => t
    | none =>
      if low then k.ang + k.refEff / 100 * s.r .drvRatedSpeedRpm d / 60 * p * s.teS * gap
      else if s.hfiOn d then Config.hfiAngle k.ang k.hfiQ k.hfiD (s.r .drvHfiV d)
      else if s.n .drvType d = 0 ∧ s.n .drvFbInUse d = 1 then
        k.psiAngle + Arith.quot (s1.omegaE d) (2 * Config.lanePi) * s.teS * gap
      else s.rotorTurn d
  let turn := turn - (turn.floor : Rat)
  ((s1.putDrv d { s1.drv d with ang := turn }).putR .drvSpeedEst d pct).put .drvAngleEst d (Arith.turnsWord turn)

/-! ## Currents and torque (R109, R110, R130) -/

/-- Measures the phase currents of every set. -/
def State.takePhases (s : State) (d : Nat) : State :=
  forN (s.nSets d) (fun k t =>
    let (a, b, c) := t.phaseCurrents d k
    t.putSet (d * 4 + k) { t.wset (d * 4 + k) with ia := a, ib := b, ic := c }) s

/-- The currents of every set in its frame. -/
def State.takeCurrents (s : State) (d : Nat) : State :=
  forN (s.nSets d) (fun k t =>
    let ix := d * 4 + k
    let x := t.wset ix
    let (i, q) := dqOf x.ia x.ib x.ic (t.setAngle d k (t.drv d).ang)
    let base := t.iRated d
    ((t.putSet ix { x with id := rd i, iq := rd q }).putR .setId ix (100 * Arith.quot i base)).putR
      .setIq ix (100 * Arith.quot q base)) s

/-- Electromagnetic torque from the measured currents, N·m (R130). -/
def State.torqueOf (s : State) (d : Nat) : Rat :=
  let p := s.r .drvPolePairs d
  sumR ((List.range (s.nSets d)).map (fun k =>
    let x := s.wset (d * 4 + k)
    if s.n .drvType d = 0 then 3 / 2 * p * Arith.quot (s.r .drvLmH d) (s.r .drvLrH d) * (s.drv d).psi * x.iq
    else 3 / 2 * p * (s.r .drvPsiVs d * x.iq + (s.r .drvLdH d - s.r .drvLqH d) * x.id * x.iq)))

def State.takeTorque (s : State) (d : Nat) : State :=
  let t := s.torqueOf d
  (s.putDrv d { s.drv d with tE := rd t }).putR .drvTorqueEst d (s.tPct d t)

/-! ## Limits (R120, R127, R137) -/

/-- Largest set current amplitude, % rated. -/
def State.iAmp (s : State) (d : Nat) : Rat :=
  maxL ((List.range (s.nSets d)).map (fun k =>
    let x := s.wset (d * 4 + k)
    100 * Arith.quot (Config.laneSqrt (x.id * x.id + x.iq * x.iq)) (s.iRated d)))

/-- The I²t model (R120); the limit is not applied in Override (R137). -/
def State.i2t (s : State) (d : Nat) : State :=
  let k := s.drv d
  let i := s.iAmp d
  let th := rd (k.theta + Arith.quot s.teS (s.r .drvI2tTauS d) * (i * i - k.theta))
  let top := s.r .drvICont d * s.r .drvICont d
  let on := if k.i2tOn then !decide (th < 95 / 100 * top) else decide (top ≤ th)
  let s1 := (s.putDrv d { k with theta := th, i2tOn := on }).putR .drvI2t d th
  if on && !k.i2tOn then s1.raiseLane 0x030E kDrive d 0 else s1

/-- Present current limit in % rated: `i_limit`, `i_cont` or `hold_i_limit`, times the thermal factor, and the limit of
a two-level drive with lost cells (R120, R173, R193, R479). -/
def State.currentLimit (s : State) (d : Nat) : Rat :=
  let h := s.headOf d
  let base := if (s.govOf d).holdAt.isSome then s.r .drvHoldILimit h
              else if (s.drv d).i2tOn && s.mode != 4 then s.r .drvICont d else s.r .drvILimit d
  s.parallelLimit d base * s.r .drvThermalFactor d

/-- Publishes the capability (R127) and keeps the present limit. -/
def State.capability (s : State) (d : Nat) : State :=
  let lim := s.currentLimit d
  let v := minL ((s.enabledSets d).map (fun k => s.vLim d k))
  let s1 := (s.putDrv d { s.drv d with iLim := lim }).putR .drvCapVmaxV d v
  let s2 := s1.putR .drvCapSpeed d (s.r .drvSpeedMax d * Arith.minR 1 (Arith.quot v (s.r .drvVNeedV d)))
  s2.putR .drvCapTorque d (100 * Arith.minR 1 (lim / 100) * s.shareRatio d)

/-- Soft trips (R137): two consecutive epochs each. -/
def State.softTrips (s : State) (d : Nat) : State :=
  let k := s.drv d
  let fast := decide (s.r .drvSpeedTrip d < Arith.absR (s.r .drvSpeedEst d))
  let big := (List.range (s.nSets d)).any (fun j =>
    let x := s.wset (d * 4 + j)
    [x.ia, x.ib, x.ic].any (fun i => decide (s.r .drvITrip d / 100 * s.iRated d < Arith.absR i)))
  let nv := if fast then min (k.overN + 1) 2 else 0
  let ni := if big then min (k.overI + 1) 2 else 0
  let s1 := s.putDrv d { k with overN := nv, overI := ni }
  let s2 := s1.judgeCause d 1 (decide (2 ≤ nv)) (fun t => t.raiseLane 0x0308 kDrive d 0)
  s2.judgeCause d 2 (decide (2 ≤ ni)) (fun t => t.raiseLane 0x0307 kDrive d 0)

/-! ## References (R116, R182, R183, R194, R216 to R221) -/

/-- A value moved toward a target by at most a step. -/
def slewTo (x target step : Rat) : Rat := x + Arith.clamp (-step) step (target - x)

/-- The commanded speed of a drive or of its group, % rated. -/
def State.speedCmd (s : State) (d : Nat) : Rat :=
  match s.shaftOf d with
  | some g => s.gr .shaftSpeedRef g
  | none => s.gr .drvSpeedRef d

/-- The commanded torque, % of the base of its loop. -/
def State.torqueCmd (s : State) (d : Nat) : Rat :=
  match s.shaftOf d with
  | some g => s.gr .shaftTorqueRef g
  | none => s.gr .drvTorqueRef d

/-- Counts of one mechanical turn of a drive's position (R252). -/
def State.countsPerTurn (s : State) (d : Nat) : Rat :=
  match s.driveFb d with
  | some _ => ((s.driveDesc d).map (fun x => Arith.quot (x.cprNum : Rat) (x.cprDen : Rat))).getD 65536
  | none => 65536

/-- The engine that a drive in profile mode follows: its own, or its group's (R251). -/
def State.followEngine (s : State) (d : Nat) : Option Nat :=
  match s.shaftOf d with
  | some g => s.engineOf 3 g
  | none => s.engineOf 1 d

/-- Profile references of this epoch: speed in % rated, acceleration in rad/s², position error in rad (R128, R254). -/
def State.profileRef (s : State) (d : Nat) : Rat × Rat × Rat :=
  match s.followEngine d with
  | some e =>
    let x := (s.eng e).s1
    let turn := s.countsPerTurn (s.headOf d)
    let rad := Arith.quot (2 * Config.lanePi) turn
    (100 * Arith.quot (Arith.quot x.v turn * 60) (s.r .drvRatedSpeedRpm d), x.a * rad,
     (x.p - (s.engActual e : Rat)) * rad)
  | none => (0, 0, 0)

/-- Whether the speed reference of a group stays at 0 after rope slack (R203). -/
def State.slackZero (s : State) (d : Nat) : Bool :=
  match s.shaftOf d with
  | some g => (Tab.get ShaftSt.init s.shafts g).zeroRef
  | none => false

/-- Target and slew, in % rated and % rated/s, of the effective speed reference. -/
def State.refTarget (s : State) (d : Nat) : Rat × Rat :=
  let h := s.headOf d
  let cap := s.r .drvCapSpeed d
  if s.halting d then (0, s.r .drvHaltDecel h)
  else if s.regime d = 5 then (0, s.r .drvHaltDecel h)
  else if s.regime d = 4 ∧ (s.n .drvCrashPhase d = 2 ∨ s.n .drvCrashPhase d = 3) then (s.r .drvCrashSpeed d, s.r .drvCrashAccel d)
  else if s.slackZero d then (0, s.r .drvHaltDecel h)
  else (Arith.clamp (-cap) cap (s.speedCmd d), s.r .drvAccelMax h)

/-- The effective speed reference (R116): clamped and slewed, or the profile's unless rope slack holds it at 0 (R203); under
deadline-drop Limp also limited to ±`limp_speed` (R182). While the gates are blocked it is 0, for which the rule gives no value
(DESIGN CHOICE, log entry 119). -/
def State.refStep (s : State) (d gap : Nat) : State :=
  let k := s.drv d
  let limp := fun (x : Rat) => if Arith.bit (s.n .drvLimpCause d) 1 then Arith.clamp (-(s.r .drvLimpSpeed d)) (s.r .drvLimpSpeed d) x else x
  if !s.switching d then
    (s.putDrv d { k with refEff := 0, alphaRef := 0 }).putR .drvSpeedRefEff d 0
  else
    let prof := s.ctrlMode d == 2 && 1 ≤ s.regime d && s.regime d ≤ 3 && !s.slackZero d
    let (pv, pa, _) := s.profileRef d
    let (tgt, rate) := s.refTarget d
    let new := limp (if prof then Arith.clamp (-(s.r .drvCapSpeed d)) (s.r .drvCapSpeed d) pv else slewTo k.refEff tgt (rate * s.teS * gap))
    let acc := if prof then pa else s.wOf d (Arith.quot (new - k.refEff) (s.teS * gap))
    (s.putDrv d { k with refEff := new, alphaRef := acc }).putR .drvSpeedRefEff d new

/-! ## The speed and position loop (R128, R192, R193, R199) -/

/-- Speed error in rad/s that Absorb leaves of one: nothing inside the dip band (R192). -/
def dipped (band e : Rat) : Rat := if Arith.absR e ≤ band then 0 else e - Arith.sgn e * band

/-- Speed reference of the loop in rad/s at the motor, with the position term in profile mode and the payout limits of
Render and Release. -/
def State.omegaRef (s : State) (d : Nat) : Rat :=
  let k := s.drv d
  let h := s.headOf d
  let haul : Rat := (s.z .drvHaulSign h : Int)
  if s.regime d = 3 ∧ k.paying then s.wOf d (-haul * s.r .drvRenderSpeedMax h)
  else if s.regime d = 5 ∧ s.n .drvReleaseState d = 3 then s.wOf d (-haul * s.r .drvReleaseSpeedMax h)
  else
    let prof := s.ctrlMode d == 2 && 1 ≤ s.regime d && s.regime d ≤ 3 && !s.slackZero d
    let (_, _, e) := s.profileRef d
    s.wOf d k.refEff + (if prof then s.r .drvPosKp h * e else 0)

/-- Present current limit as a torque, % of the loop's base (R128). -/
def State.tMax (s : State) (d : Nat) : Rat :=
  match s.shaftOf d with
  | some g =>
    100 * Arith.quot (sumR ((s.shaftMembers g).map (fun m =>
      s.r .drvRatedTorqueNm m * s.ratioOf m * (s.drv m).iLim / 100 * s.shareRatio m))) (s.groupRated g)
  | none => (s.drv d).iLim * s.shareRatio d

/-- Speed error outside the dip band counts as the band's excess; the band is the head's, referred to the shaft (R192, R196). -/
def State.dipBand (s : State) (d : Nat) : Rat :=
  Arith.absR (Arith.quot (s.wOf d (s.r .drvAbsorbDip (s.headOf d))) (s.ratioOf d))

/-- Speed error of the loop, rad/s at the shaft. -/
def State.speedErr (s : State) (d : Nat) : Rat := Arith.quot (s.omegaRef d - (s.drv d).omega) (s.ratioOf d)

/-- The speed loop of a drive: proportional part, feedforward, and the integrator's step, in % of its base. -/
def State.loopTerms (s : State) (d : Nat) : Rat × Rat × Rat :=
  let k := s.drv d
  let h := s.headOf d
  let base := s.loopBase d
  let ratio := s.ratioOf d
  let gain := if (s.govOf d).holdAt.isSome then s.r .drvHoldGain h else 1
  let bw := 2 * Config.lanePi * s.r .drvSpdBwHz h
  let ts := (s.n .drvSpdDiv h : Rat) * s.teS
  let e := if (s.govOf d).absorb then dipped (s.dipBand d) (s.speedErr d) else s.speedErr d
  let kp := k.jLoop * bw * gain
  let ff := (if Arith.bit (s.n .drvSpdFf h) 0 then k.jLoop * Arith.quot k.alphaRef ratio else 0)
            + (if Arith.bit (s.n .drvSpdFf h) 1 then k.tlLoop * ratio else 0)
  let pct := fun (x : Rat) => 100 * Arith.quot x base
  (pct (kp * e), pct ff, pct (kp * Arith.quot (ts * bw) (s.r .drvSpdRatio h) * e))

/-- Whether an epoch is one in which the speed loop runs (R128). -/
def State.loopEpoch (s : State) (d : Nat) : Bool := s.epoch % max 1 (s.n .drvSpdDiv (s.headOf d)) == 0

/-- Evaluates the loop: outside its division it keeps its output; the integrator does not grow toward a limit under `TLIMIT`, and
is frozen by Absorb (R128, R192). After a change of mode the first demand is the last effective torque (R115). -/
def State.speedLoop (s : State) (d : Nat) : State :=
  let k := s.drv d
  if !s.loopEpoch d then
    let t := if k.preset then s.lastTorque d else k.spdOut
    s.putDrv d { k with tDem := t, spdOut := t }
  else
    let (kpE, ff, dx) := s.loopTerms d
    let lim := s.tMax d
    let toLimit := s.hasFlag d 7 && decide (0 < dx * (k.tAsk - k.tEff))
    let dx := if (s.govOf d).absorb || toLimit then 0 else dx
    let x := rd (if k.preset then s.lastTorque d - kpE - ff else Arith.clamp (-lim) lim (k.spdX + dx))
    let out := rd (kpE + x + ff)
    s.putDrv d { k with spdX := x, spdOut := out, tDem := out, preset := false, track := kpE + ff }

/-- Tracking form of a member that does not lead: its integrator stands at the last effective group torque less the proportional
part and feedforward of that epoch, so its demand is that torque corrected by its own speed error since (R199, R201). -/
def State.trackLoop (s : State) (d : Nat) : State :=
  let k := s.drv d
  let (kpE, ff, _) := s.loopTerms d
  let x := rd (s.lastTorque d - k.track)
  s.putDrv d { k with spdX := x, spdOut := kpE + x + ff, tDem := kpE + x + ff, track := kpE + ff, preset := false }

/-! ## Where the torque demand comes from (R115, R194, R216, R220, R221) -/

/-- Torque of Crash in phases 1, 2 and 4, % rated (Table 6.7). -/
def State.crashTorque (s : State) (d : Nat) : Option Rat :=
  let t := s.r .drvCrashTorque d
  match s.n .drvCrashPhase d with
  | 1 | 4 => some (-(Arith.sgn (s.drv d).omega) * t)
  | 2 => some (Arith.sgn (s.r .drvCrashSpeed d) * t)
  | _ => none

/-- Fraction left of a ramp to 0 that began at an instant. -/
def rampLeft (now at' ms : Nat) : Rat := if ms = 0 then 0 else Arith.clamp 0 1 (1 - Arith.quot ((now - at' : Nat) : Rat) ((msNs ms : Nat) : Rat))

/-- Payout speed of a drive, % rated, positive away from hauling. -/
def State.payout (s : State) (d : Nat) : Rat :=
  -((s.z .drvHaulSign (s.headOf d) : Int) : Rat) * s.r .drvSpeedEst d

/-- Torque of Release where the sequence gives one, % of the base (Table 6.8, R221). -/
def State.releaseTorque (s : State) (d : Nat) : Option Rat :=
  let k := s.drv d
  match s.n .drvReleaseState d with
  | 2 => if k.relStopped then none else some k.rampFrom
  | 3 =>
    let left := rampLeft s.now k.rampAt (s.n .drvReleaseRampMs d)
    if left = 0 ∧ s.r .drvReleaseSpeedMax d < s.payout d then none else some (k.rampFrom * left)
  | 4 => if k.endStep = 3 then some (k.rampFrom * rampLeft s.now k.rampAt (s.n .drvReleaseRampMs d)) else none
  | _ => none

/-- Torque that the regime's sequence gives, % of the base. -/
def State.seqTorque (s : State) (d : Nat) : Option Rat :=
  if s.regime d = 4 then s.crashTorque d else if s.regime d = 5 then s.releaseTorque d else none

/-- Whether a drive's demand comes from its speed loop: in speed and profile mode, while halting, in Render, and where Crash and
Release run it (Table 6.1). -/
def State.loopActive (s : State) (d : Nat) : Bool :=
  s.switching d && (s.seqTorque d).isNone && (s.ctrlMode d != 0 || s.halting d || (3 ≤ s.regime d && s.regime d ≤ 5))

/-! ## Inertia and load torque (R129, R130) -/

/-- The inertia estimate, by the points of the drive that heads the group (R129, R197). The loop of this epoch goes on with the last
estimates, which the kernels after it replace (Table 4.3). -/
def State.inertia (s : State) (d : Nat) : State :=
  let h := s.headOf d
  let s0 := s.putDrv d { s.drv d with jLoop := (s.drv d).jHat, tlLoop := (s.drv d).tlHat }
  let k := s0.drv d
  let amin := s.r .drvJAlphaMin h
  let act := s.n .drvJAdapt h == 1 && s.loopActive d && s.loopEpoch d && decide (amin < Arith.absR k.alpha)
    && !(s.govOf d).shock && !s.hasFlag d 7
  if !act then s0.putR .drvJEst d k.jHat
  else
    let j := k.jHat + s.r .drvJRate h * Arith.quot ((k.tE - k.tlHat - k.jHat * k.alpha) * k.alpha) (k.alpha * k.alpha + amin * amin)
    let lo := s.r .drvJMin h
    let hi := s.r .drvJMax h
    let bound := decide (j ≤ lo ∨ hi ≤ j)
    let s1 := ((s0.putDrv d { k with jHat := rd (Arith.clamp lo hi j), jBound := bound }).putR .drvJEst d (Arith.clamp lo hi j)).drvFlag d 11 bound
    if bound && !k.jBound then s1.raiseLane 0x0309 kDrive d 0 else s1

/-- One epoch of the load-torque observer. -/
def ltoStep (te wo w t : Rat) (k : Drv) : Drv :=
  let e := w - k.omHat
  let om := k.omHat + Arith.quot te k.jHat * (t - k.tlHat) + 2 * wo * te * e
  let tl := k.tlHat - k.jHat * wo * wo * te * e
  { k with omHat := rd om, tlHat := rd tl, tl1 := k.tlHat, tl2 := k.tl1 }

def State.loadObserver (s : State) (d gap : Nat) : State :=
  let k := s.drv d
  let wo := 2 * Config.lanePi * s.r .drvLtoBwHz d
  let k1 := iterate (ltoStep s.teS wo k.omega k.tE) gap k
  let slope := Arith.quot (k1.tlHat - k1.tl2) (2 * s.teS)
  ((s.putDrv d k1).putR .drvLoadTorqueEst d (s.tPct d k1.tlHat)).putR .drvLoadTorqueSlope d (s.tPct d slope / 1000)

/-! ## The shock governor (R190 to R196) -/

/-- The slope, level and clearing conditions of a governor on a load torque in % and its slope in %/ms, by a drive's points. -/
def State.shockSigns (s : State) (h : Nat) (tl slope : Rat) : Bool × Bool × Bool :=
  let up := Arith.sgn tl * slope
  (decide (s.r .drvShockSlope h < up), decide (s.r .drvShockLevel h < Arith.absR tl),
   decide (Arith.absR tl < s.r .drvShockClearLevel h) && decide (up < s.r .drvShockSlope h / 2))

/-- One epoch of a governor: it counts its criteria, declares a shock and times its clearing. Answers the parameter of a declaration,
0 for none (R190, R195). -/
def Gov.judge (v : Gov) (need now : Nat) (c : Bool × Bool × Bool) : Gov × Nat :=
  let ns := if c.1 then min (v.slopeN + 1) 2 else 0
  let nl := if c.2.1 then min (v.levelN + 1) 2 else 0
  let hit := Arith.b2n (decide (need ≤ ns)) + 2 * Arith.b2n (decide (need ≤ nl))
  let v1 := { v with slopeN := ns, levelN := nl, clearAt := if v.shock && c.2.2 then some (v.clearAt.getD now) else none }
  if hit ≠ 0 ∧ !v.shock then ({ v1 with shock := true, clearAt := none }, hit) else (v1, 0)

/-- A declaration is counted and reported. -/
def State.shockSeen (s : State) (d hit : Nat) : State :=
  if hit = 0 then s else (s.inc .drvShockCount d).raiseLane 0x0320 kDrive d hit

/-- The response to a declared shock begins (R192 to R194), for all drives that follow the governor. -/
def State.shockBegin (s : State) (d : Nat) : State :=
  let v := s.govOf d
  match s.n .drvShockResp d with
  | 1 => s.putGov d { v with absorb := true }
  | 2 => s.putGov d (if v.holdUsed then { v with absorb := true } else { v with holdAt := some s.now })
  | 3 => forL (s.governed d) (fun m t =>
      if (t.regime m = 1 ∨ t.regime m = 2) ∧ t.mayTurn m 3 then
        (t.enterRegime m 3).putDrv m { (t.enterRegime m 3).drv m with renderShock := true }
      else t) s
  | _ => s

/-- The flags of Table 6.5 that a governor sets, in the drives that follow it and compute the epoch (R40, R191, R196). -/
def State.govFlags (s : State) (d : Nat) (sl lv : Bool) : State :=
  let v := s.govOf d
  forL ((s.governed d).filter (fun m => (s.drv m).complete)) (fun m t =>
    ((((t.drvFlag m 16 v.shock).drvFlag m 17 (sl && v.shock)).drvFlag m 18 (lv && v.shock)).drvFlag m 19 v.absorb).drvFlag m 20
      v.holdAt.isSome) s

/-- The governor whose response acts: of a drive in no group, or of a shaft group under the drive that heads it. -/
def State.governor (s : State) (d : Nat) (tl slope : Rat) : State :=
  let c := s.shockSigns d tl slope
  let (v, hit) := (s.govOf d).judge (s.n .drvShockConfirm d) s.now c
  let s1 := (s.putGov d v).shockSeen d hit
  (if hit = 0 then s1 else s1.shockBegin d).govFlags d c.1 c.2.1

/-- A member's own governor runs; its response is not applied (R196). -/
def State.governOwn (s : State) (d : Nat) : State :=
  let c := s.shockSigns d (s.r .drvLoadTorqueEst d) (s.r .drvLoadTorqueSlope d)
  let (v, hit) := (s.drv d).gov.judge (s.n .drvShockConfirm d) s.now c
  (s.putDrv d ((s.drv d).withGov v)).shockSeen d hit

/-! ## Torque demand (R115, R116) -/

/-- The torque demand before limits: regime sequence, torque command, or the loop (R115). -/
def State.demand (s : State) (d : Nat) : State :=
  let set := fun (t : Rat) => s.putDrv d { s.drv d with tDem := t, spdOut := t }
  if !s.switching d then s.putDrv d { s.drv d with tDem := 0, spdX := 0, spdOut := 0, track := 0 }
  else match s.seqTorque d with
    | some t => set t
    | none =>
      if !s.loopActive d then set (s.torqueCmd d)
      else match s.shaftOf d with
        | some g => if s.n .shaftLeader g = d then s.speedLoop d else s.trackLoop d
        | none => s.speedLoop d

/-- Steps 1 and 2 of R116: current limit, then the shock governor's Absorb slew and the tension cap of Render, on a
torque in %; `last` is the effective torque of the previous epoch. -/
def State.governTorque (s : State) (d : Nat) (t lim last : Rat) : Rat × Bool :=
  let h := s.headOf d
  let t1 := Arith.clamp (-lim) lim t
  let step := s.r .drvAbsorbSlew h * s.teS * 1000
  let t2 := if (s.govOf d).absorb then slewTo last t1 step else t1
  let haul : Rat := (s.z .drvHaulSign h : Int)
  let cap := s.r .drvRenderTension h
  if s.regime d = 3 ∧ ¬(s.drv d).paying ∧ cap < haul * t2 then (haul * cap, true) else (t2, false)

/-- Render watches the payout speed (R194). -/
def State.payWatch (s : State) (d : Nat) : State :=
  let k := s.drv d
  let fast := s.regime d == 3 && decide (s.r .drvRenderSpeedMax (s.headOf d) < s.payout d)
  let s1 := s.putDrv d { k with paying := fast }
  if fast && !k.paying then s1.raiseLane 0x0323 kDrive d 0 else s1

/-- Phases of Crash (Table 6.7); a new phase starts its own history. -/
def State.crashPhases (s : State) (d : Nat) : State :=
  if s.regime d ≠ 4 then s
  else
    let k := s.drv d
    let w := s.r .drvSpeedEst d
    let keep := k.crashHist.filter (fun e => decide (s.now ≤ e.1 + 2 * msNs (s.n .drvCrashWindmillMs d)))
    let s1 := s.putDrv d { k with crashHist := (s.now, w) :: keep }
    let go := fun (ph : Nat) => (s1.putN .drvCrashPhase d ph).putDrv d { s1.drv d with crashHist := [(s.now, w)] }
    match s.n .drvCrashPhase d with
    | 1 => if Arith.absR w < s.r .drvCrashZeroSpeed d then (go 2).putDrv d { (go 2).drv d with refEff := w } else s1
    | 2 => if Arith.sgn w = Arith.sgn (s.r .drvCrashSpeed d) ∧ s.r .drvCrashZeroSpeed d ≤ Arith.absR w then
             (go 3).putDrv d { (go 3).drv d with refEff := w, preset := true } else s1
    | 3 => if Arith.absR (w - s.r .drvCrashSpeed d) < 2 then
             (s1.enterRegime d (s1.normalOrLimp d)).raiseLane 0x032F kDrive d 0 else s1
    | _ => if keep.any (fun e => decide (s.now ≤ e.1 + msNs (s.n .drvCrashWindmillMs d)) && decide (1 ≤ Arith.absR e.2 - Arith.absR w))
           then go 1 else s1

/-- Since when a drive that must stop has been below `stop_speed` (R183, R221). -/
def State.stopWatch (s : State) (d : Nat) : State :=
  let k := s.drv d
  if s.isLine d then s
  else if s.halting d ∨ (s.regime d = 5 ∧ k.endStep = 1) then
    if Arith.absR (s.r .drvSpeedEst d) < s.r .drvStopSpeed d then s.putDrv d { k with stopAt := some (k.stopAt.getD s.now) }
    else s.putDrv d { k with stopAt := none }
  else s

/-- What follows the shock governor: the limit and the loop under its response, and `DIP_EXCEEDED` (R190 to R194). -/
def State.demandEnd (s : State) (d : Nat) : State :=
  let s1 := ((s.capability d).payWatch d).demand d
  s1.drvFlag d 22 ((s1.govOf d).absorb && s1.loopActive d && decide (s1.dipBand d < Arith.absR (s1.speedErr d)))

/-- The demand path of a motor drive (Table 4.3). The speed loop acts on the response that the governor declares in this epoch
(R190), so it is evaluated after the governor, on the estimates of the kernels' last run. Of a member of a shaft group the group
lane does both (R196). -/
def State.demandMotor (s : State) (d : Nat) : State :=
  let gap := s.gapOf d
  let s1 := ((((((s.takePhases d).runObserver d gap).selectFb d).slLow d).takeSpeed d gap).takeCurrents d).takeTorque d
  let s2 := (((s1.i2t d).capability d).softTrips d).stopWatch d
  let s3 := (s2.crashPhases d).refStep d gap
  let s4 := (s3.inertia d).loadObserver d gap
  if (s4.shaftOf d).isSome then s4.governOwn d
  else
    let s5 := (s4.governor d (s4.r .drvLoadTorqueEst d) (s4.r .drvLoadTorqueSlope d)).demandEnd d
    let k := s5.drv d
    let (t, cap) := s5.governTorque d k.tDem (k.iLim * s5.shareRatio d) k.tEff
    (s5.putDrv d { k with tGov := t, tShr := t, tAsk := k.tDem }).drvFlag d 21 cap

end Sys2Proof.Machine
end

