-- ==== Sys2Proof/Machine/GroupLane.lean ====
section
/-!
DEFINITION. GroupLane.lean: the group lane (sections 6.3 to 6.5): shaft groups, power groups, energy routing, and the
two commands that end a watch on a shaft group.
-/
namespace Sys2Proof.Machine

def State.shaft (s : State) (g : Nat) : ShaftSt := Tab.get ShaftSt.init s.shafts g

def State.putShaft (s : State) (g : Nat) (v : ShaftSt) : State := s.withShafts (Tab.put ShaftSt.init s.shafts g v)

def State.power (s : State) (g : Nat) : PowerSt := Tab.get PowerSt.init s.powers g

def State.putPower (s : State) (g : Nat) (v : PowerSt) : State := s.withPowers (Tab.put PowerSt.init s.powers g v)

/-! ## Shaft groups (R198 to R204) -/

/-- Writes the record of a drive that computes the epoch; one that skips it keeps its own (R40). -/
def State.putRun (s : State) (d : Nat) (v : Drv) : State := if (s.drv d).complete then s.putDrv d v else s

/-- Writes a point of a drive that computes the epoch. -/
def State.putRunR (s : State) (f : Field) (d : Nat) (x : Rat) : State := if (s.drv d).complete then s.putR f d x else s

/-- Writes a status flag of a drive that computes the epoch. -/
def State.runFlag (s : State) (d bit : Nat) (on : Bool) : State := if (s.drv d).complete then s.drvFlag d bit on else s

/-- Members in service (R198). One whose eighth skip in a row is this epoch's has no share in it, unless it is the last (R205). -/
def State.membersIn (s : State) (g : Nat) : List Nat :=
  let on := (s.shaftMembers g).filter s.inService
  let go := on.filter (fun d => decide (s.n .drvSkipConsecutive d < 8))
  if go.isEmpty then on else go

/-- Place of a member in the group's point arrays (R224). -/
def State.memberIx (s : State) (g d : Nat) : Nat := ((s.shaftMembers g).findIdx? (· == d)).getD 0

/-- Speed of a member at the shaft, rad/s. -/
def State.shaftW (s : State) (d : Nat) : Rat := Arith.quot (s.drv d).omega (s.ratioOf d)

/-- Mean speed of the members in service. -/
def State.shaftMean (s : State) (g : Nat) : Rat := meanR ((s.membersIn g).map s.shaftW)

/-- Whether a member may lead (R201). -/
def State.eligible (s : State) (d : Nat) : Bool :=
  (let r := s.regime d; 1 ≤ r && r ≤ 5) && !s.halting d && decide (s.n .drvSkipConsecutive d < 3)

/-- Members in the order of leadership. -/
def State.leadOrder (s : State) (g : Nat) : List Nat :=
  ((List.range 8).map (fun k => s.n .shaftLeaderOrder g k)).filter (fun d => (s.shaftMembers g).contains d)

/-- The leader of this epoch (R201): the first eligible member; without one the lead stays. -/
def State.newLeader (s : State) (g : Nat) : Nat := ((s.leadOrder g).find? s.eligible).getD (s.n .shaftLeader g)

/-- The member whose demand is the group torque: the leader, or the next eligible one that computed the epoch. -/
def State.torqueFrom (s : State) (g : Nat) : Nat :=
  let l := s.newLeader g
  if (s.drv l).complete then l
  else ((s.leadOrder g).find? (fun d => s.eligible d && (s.drv d).complete)).getD l

/-- Rope slack is watched (R203). -/
def State.slackWatch (s : State) (g : Nat) : State :=
  let x := s.shaft g
  let load := sumR ((s.shaftMembers g).map (fun d => (s.drv d).tlHat * s.ratioOf d))
  let w := s.shaftMean g
  let h := (s.leadOrder g).headD 0
  let now := decide (Arith.absR load < s.r .shaftSlackTorque g / 100 * s.groupRated g)
    && decide (Arith.absR (Arith.quot (s.wOf h (s.r .shaftSlackSpeed g)) (s.ratioOf h)) < Arith.absR w)
  s.putShaft g { x with slackAt := if now then some (x.slackAt.getD s.now) else none, slack := x.slack && now }

/-- Members whose speeds are apart are watched (R204). -/
def State.apartWatch (s : State) (g : Nat) : State :=
  let ms := s.membersIn g
  let w := s.shaftMean g
  forL (s.shaftMembers g) (fun d t =>
    let x := t.shaft g
    let far := decide (2 ≤ ms.length) && ms.contains d
      && decide (Arith.absR (Arith.quot (t.wOf d (t.r .shaftDecoupleSpeed g)) (t.ratioOf d)) < Arith.absR (t.shaftW d - w))
    let t1 := t.putShaft g { x with apart := Tab.put none x.apart d (if far then some ((Tab.get none x.apart d).getD t.now) else none) }
    if far || !(t1.drv d).complete then t1 else t1.markCause d 8 false) s

/-- Torque of a member at the shaft before its limits: its share of the group torque and its damping (R200, R202). -/
def State.shareRaw (s : State) (g d : Nat) (tg : Rat) : Rat :=
  let wsum := sumR ((s.membersIn g).map (fun m => s.r .shaftWeight g (s.memberIx g m)))
  let cap := s.r .shaftDampMax g / 100 * s.r .drvRatedTorqueNm d * Arith.absR (s.ratioOf d)
  Arith.quot (tg * s.r .shaftWeight g (s.memberIx g d)) wsum
    + Arith.clamp (-cap) cap (-(s.r .shaftDampNms g) * (s.shaftW d - s.shaftMean g))

/-- The group's governor and watches, on the sums of its members (R196, R203, R204), and the members' demands under its response. -/
def State.shaftWatch (s : State) (g : Nat) : State :=
  let h := (s.leadOrder g).headD 0
  let pct := fun (x : Rat) => 100 * Arith.quot x (s.groupRated g)
  let load := sumR ((s.shaftMembers g).map (fun d => (s.drv d).tlHat * s.ratioOf d))
  let slope := sumR ((s.shaftMembers g).map (fun d =>
    Arith.quot ((s.drv d).tlHat - (s.drv d).tl2) (2 * s.teS) * s.ratioOf d))
  let s1 := (((s.governor h (pct load) (pct slope / 1000)).slackWatch g).apartWatch g).putR .shaftLoadTorqueNm g load
  forL ((s1.shaftMembers g).filter (fun d => (s1.drv d).complete)) (fun d t => t.demandEnd d) s1

/-- The leader of the epoch, and the inertia that its members take from it (R199, R201). -/
def State.shaftLead (s : State) (g : Nat) : State :=
  let old := s.n .shaftLeader g
  let l := s.newLeader g
  let s1 := if l ≠ old then (s.putN .shaftLeader g l).raiseLane 0x0326 kShaft g (old + 2 ^ 8 * l) else s
  let j := (s1.drv l).jHat
  forL (s1.shaftMembers g) (fun d t => t.putRun d { t.drv d with jHat := j }) s1

/-- Shares of a group torque: what the members are to give after the current limit and the governor, and what they were asked for
(R116, R200). -/
def State.shaftShare (s : State) (g : Nat) (ask tg : Rat) : State :=
  forL (s.shaftMembers g) (fun d t =>
    let k := t.drv d
    let on := (t.membersIn g).contains d
    let own := fun (x : Rat) => if on then t.tPct d (Arith.quot (t.shareRaw g d x) (t.ratioOf d)) else 0
    let lim := k.iLim * t.shareRatio d
    t.putRun d { k with tGov := own tg, tShr := Arith.clamp (-lim) lim (own tg), tAsk := own ask }) s

/-- A shaft group up to the sharing of its torque (R196, R199 to R202). -/
def State.shaftStep (s : State) (g : Nat) : State :=
  let s1 := (s.shaftWatch g).shaftLead g
  let base := s1.groupRated g
  let src := s1.torqueFrom g
  let dem := (s1.drv src).tDem
  let (t, cap) := s1.governTorque src dem (s1.tMax src) (s1.lastTorque src)
  let tg := t / 100 * base
  let s2 := forL (s1.shaftMembers g) (fun d u => u.runFlag d 21 cap) (s1.putShaft g { s1.shaft g with tDem := tg })
  let s3 := s2.shaftShare g (dem / 100 * base) tg
  s3.putR .shaftSpeedRadS g (s3.shaftMean g)

/-- SLACK_ROPE: the rope has been slack for `slack_ms` (R203). -/
def execSlackRope (g : ShaftNo) (s : State) : Host.Outcome State Fault Refusal :=
  .next (
    let x := s.shaft g
    match x.slackAt with
    | some t =>
      if t + msNs (s.n .shaftSlackMs g) ≤ s.now ∧ ¬x.slack then
        let s1 := (s.putShaft g { x with slack := true }).raiseLane 0x0328 kShaft g 0
        match s1.n .shaftSlackResp g with
        | 1 => s1.putShaft g { s1.shaft g with zeroRef := true }
        | 2 => forL (s1.shaftMembers g) (fun d u => if 1 ≤ u.regime d ∧ u.regime d ≤ 4 then u.haltStart d else u) s1
        | _ => s1
      else s
    | none => s)

/-- SHAFT_DECOUPLED: a member's speed has been apart for `decouple_ms`: Faulted with cause 8 (R204). -/
def execShaftDecoupled (d : DriveNo) (s : State) : Host.Outcome State Fault Refusal :=
  .next (
    match s.shaftOf d with
    | some g =>
      match Tab.get none (s.shaft g).apart d with
      | some t =>
        if t + msNs (s.n .shaftDecoupleMs g) ≤ s.now then
          s.judgeCause d 8 true (fun u => u.raiseLane 0x0329 kDrive d 0)
        else s
      | none => s
    | none => s)

/-! ## Sources of power groups (R206, R208) -/

/-- Motor drives of a power group, and its line converters. -/
def State.powerDrives (s : State) (g : Nat) : List Nat := (s.plant.drives.filter (fun d => d.power == g)).map (·.drive)

def State.motors (s : State) (g : Nat) : List Nat := (s.powerDrives g).filter (fun d => !s.isLine d)

def State.converters (s : State) (g : Nat) : List Nat := (s.powerDrives g).filter s.isLine

/-- Shedding priority of a drive. -/
def State.prioOf (s : State) (d : Nat) : Nat := ((s.driveDesc d).map (·.prio)).getD 0

/-- Guarded value of a source word (Table 6.11), none for kind 0. -/
def State.sourceValue (s : State) (src : Nat) : Option Rat :=
  let n := src % 256
  match src / 2 ^ 28 with
  | 1 => some (s.gr .ainValue n)
  | 2 => some (s.gr .objData (objIx (src / 256 % 4) n))
  | 3 => some (if Arith.bit (s.gw .hwDi).toNat n then 1 else 0)
  | _ => none

/-- Power available to a group, none when unlimited (R206). -/
def State.pavail (s : State) (g : Nat) : Option Rat :=
  let cs := s.converters g
  let ok := cs.filter (fun d => (s.regime d == 1 || s.regime d == 2) && !(s.drv d).pllOut)
  let frac : Rat := if cs.isEmpty then 1 else Arith.quot (ok.length : Rat) (cs.length : Rat)
  (s.sourceValue (s.n .pwrPavailSrc g)).map (fun v => v * s.r .pwrPavailScaleW g * frac)

/-- Whether the blackout input is active now (R208). -/
def State.boNow (s : State) (g : Nat) : Bool :=
  let src := s.n .pwrBoSrc g
  let lvl := s.n .pwrBoLevel g == 1
  let th := s.r .pwrBoThreshold g
  let hy := s.r .pwrBoHyst g
  let n := src % 256
  match src / 2 ^ 28 with
  | 1 =>
    let v := s.gr .ainValue n
    if (s.power g).bo then (if lvl then decide (th - hy ≤ v) else decide (v ≤ th + hy))
    else if lvl then decide (th ≤ v) else decide (v ≤ th)
  | 2 =>
    let b := s.n .pwrBoBit g
    Arith.bit (s.gw .objData (objIx (src / 256 % 4) n) (b / 32)).toNat (b % 32) == lvl
  | 3 => Arith.bit (s.gw .hwDi).toNat n == lvl
  | _ => false

/-- Judges the blackout input and its hold (R208). -/
def State.blackout (s : State) (g : Nat) : State :=
  let x := s.power g
  let on := s.boNow g
  let s1 := (s.putPower g { x with bo := on, boCleared := if on then none else if x.bo then some s.now else x.boCleared }).putN
    .pwrBoActive g (Arith.b2n on)
  if on && !x.bo then s1.raiseLane 0x032B kPower g 0 else s1

/-- Whether the zero allowance of a blackout holds. -/
def State.boHolds (s : State) (g : Nat) : Bool :=
  let x := s.power g
  x.bo || (match x.boCleared with | some t => decide (s.now < t + msNs (s.n .pwrBoHoldMs g)) | none => false)

/-! ## Shedding (R207) -/

/-- Mechanical power of a drive after sharing, W. -/
def State.pMech (s : State) (d : Nat) : Rat := (s.drv d).tShr / 100 * s.r .drvRatedTorqueNm d * (s.drv d).omega

/-- Motoring demand of some drives. -/
def State.motoring (s : State) (ds : List Nat) : Rat := sumR (ds.map (fun d => Arith.maxR 0 (s.pMech d)))

/-- Grants by falling priority: drive and allowance. -/
def State.grants (s : State) (g : Nat) : Nat → Rat → List (Nat × Rat)
  | 0, _ => []
  | n + 1, avail =>
    let ds := (s.motors g).filter (fun d => s.prioOf d == n)
    let dem := s.motoring ds
    let grant := if avail < 0 then 0 else Arith.clamp 0 dem avail
    ds.map (fun d => (d, Arith.ratio (grant * Arith.maxR 0 (s.pMech d)) dem)) ++ s.grants g n (avail - grant)

/-- The highest priority whose members received less than they demanded, 8 when none did (R207). -/
def State.shedLevel (s : State) (got : List (Nat × Rat)) : Nat :=
  (got.filter (fun e => decide (e.2 < Arith.maxR 0 (s.pMech e.1)))).foldl (fun m e =>
    if m = 8 then s.prioOf e.1 else max m (s.prioOf e.1)) 8

/-- Allowances of a group's motors; a fall acts at once, a rise at `restore_rate`, and a drive under the blackout input has none
(R207, R208). Without a limit of the source every motor may take what it demands, and nothing limits its torque. -/
def State.allowances (s : State) (g : Nat) (av : Option Rat) : List (Nat × Rat) :=
  let black := fun d => s.boHolds g && decide (s.prioOf d ≤ s.n .pwrBoPrio g)
  match av with
  | none => (s.motors g).map (fun d => (d, if black d then 0 else Arith.maxR 0 (s.pMech d)))
  | some v =>
    let rise := Arith.maxR 0 (s.r .pwrRestoreRate g / 100 * v * s.teS)
    (s.grants g 8 (v - s.r .pwrPMarginW g)).map (fun e =>
      (e.1, if black e.1 then 0 else Arith.minR e.2 ((s.drv e.1).allow + rise)))

/-- Shedding of a power group (R206 to R208). -/
def State.shed (s : State) (g : Nat) : State :=
  let s0 := s.blackout g
  let s1 := s0.putR .pwrPMotorW g (s0.motoring (s0.motors g))
  let av := s1.pavail g
  let s2 := match av with
    | none => s1.drawWord.2.put .pwrPavailW g s1.drawWord.1
    | some v => s1.putR .pwrPavailW g v
  let got := s2.allowances g av
  let black := fun d => s2.boHolds g && decide (s2.prioOf d ≤ s2.n .pwrBoPrio g)
  let lvl := s2.shedLevel got
  let s3 := forL got (fun e t =>
    ((t.putRun e.1 { t.drv e.1 with limited := av.isSome || black e.1, allow := rd e.2 }).putRunR .drvPMechW e.1 (t.pMech e.1)).putRunR
      .drvPAllowW e.1 (rd e.2)) s2
  let s4 := (s3.putN .pwrShedLevel g lvl).putPower g { s3.power g with shed := decide (lvl < 8) }
  if lvl < 8 ∧ ¬(s3.power g).shed then s4.raiseLane 0x032A kPower g lvl else s4

/-! ## Reserve pools (R211, R212) -/

/-- Whether a drive forms a pool of its own. -/
def State.ownPool (s : State) (d : Nat) : Bool := s.n .drvTopology d != 0

/-- Cells of some drives in service that belong to a pool. -/
def State.poolCells (s : State) (ds : List Nat) : List (Nat × Nat × Nat) :=
  ds.flatMap (fun d => ((s.driveArms d).filter (fun a => a.role != 9)).flatMap (fun a =>
    (s.armIn a).map (fun c => (d, a.round, c.2))))

/-- E_nom of a pool. -/
def State.eNom (s : State) (ds : List Nat) : Rat :=
  sumR ((s.poolCells ds).map (fun c =>
    let v := s.r .drvVcapRefPct c.1 / 100 * s.vRated c.2.1 c.2.2
    s.r .drvCellCF c.1 * v * v / 2))

/-- o_max of a pool, a fraction. -/
def State.oMax (s : State) (g : Nat) (ds : List Nat) : Rat :=
  (s.poolCells ds).foldl (fun m c =>
    Arith.minR m (((s.n .cell (cellAt c.2.1 c.2.2) 0x24 : Rat) - s.r .drvVcapRefPct c.1) / 100)) (s.r .pwrResMaxPct g / 100)

/-- Headroom of a pool with a stored energy, J. -/
def State.headroom (s : State) (g : Nat) (ds : List Nat) (stored : Rat) : Rat :=
  let o := s.oMax g ds
  s.eNom ds * ((1 + o) * (1 + o) - 1) - stored

/-- Offset of a pool, a fraction. -/
def State.poolOffset (s : State) (ds : List Nat) (stored : Rat) : Rat :=
  Config.laneSqrt (1 + Arith.ratio stored (s.eNom ds)) - 1

/-- Pools of a group: the drives of each, and the drive whose record holds its energy; none for the shared pool. -/
def State.pools (s : State) (g : Nat) : List (List Nat × Option Nat) :=
  let ds := s.powerDrives g
  (ds.filter s.ownPool).map (fun d => ([d], some d)) ++ [(ds.filter (fun d => !s.ownPool d), none)]

/-! ## Routing (R213, R214) -/

/-- Power dissipation that the chopper cells of a drive can take (R166). -/
def State.chopCap (s : State) (d : Nat) : Rat :=
  sumR (((s.driveArms d).filter (fun a => a.role == 9)).map (fun a =>
    sumR ((s.volts a (s.armIn a)).map (fun v => Arith.quot (v * v) (s.r .armRChopOhm (armIx a))))))

/-- Regenerated power not yet placed, by drive. -/
abbrev Rest := List (Nat × Rat)

def restSum (r : Rest) : Rat := sumR (r.map (·.2))

/-- Places a power proportionally; the rounding remainder falls to the lowest drive number. -/
def placeR (r : Rest) (take : Rat) : Rest :=
  let tot := restSum r
  if tot = 0 then r
  else
    let q := r.map (fun e => (e.1, rd (e.2 - Arith.quot (take * e.2) tot)))
    match q with
    | [] => []
    | e :: es => (e.1, e.2 + ((tot - take) - restSum q)) :: es

/-- Step 1 for one pool. -/
def State.routePool (s : State) (g : Nat) (q : List Nat × Option Nat) (r : Rest) : State × Rest × Rat :=
  let mine := r.filter (fun e => q.1.contains e.1)
  let stored := match q.2 with | some d => (s.drv d).stored | none => (s.power g).stored
  let h := s.headroom g q.1 stored
  let total := restSum mine
  let take := Arith.maxR 0 (Arith.minR (Arith.quot h s.teS) total)
  let back := Arith.minR stored (s.r .pwrResReturnW g * s.teS)
  let e := rd (if total = 0 then stored - back else stored + take * s.teS)
  let placed := placeR mine take
  let r' := r.map (fun x => match placed.find? (fun y => y.1 == x.1) with | some y => y | none => x)
  let s1 := match q.2 with
    | some d => s.putRun d { s.drv d with stored := e }
    | none => s.putPower g { s.power g with stored := e }
  let o := s1.poolOffset q.1 e
  let s2 := forL q.1 (fun d t => t.putRun d { t.drv d with resOff := rd o }) s1
  let s3 := match q.2 with
    | some _ => s2
    | none => ((s2.putR .pwrResStoredJ g e).putR .pwrResHeadroomJ g (s2.headroom g q.1 e)).putR .pwrResOffset g (100 * o)
  (s3, r', take)

/-- All pools of a group. -/
def State.routePools (g : Nat) : List (List Nat × Option Nat) → State → Rest → State × Rest × Rat
  | [], s, r => (s, r, 0)
  | q :: qs, s, r =>
    let (s1, r1, t1) := s.routePool g q r
    let (s2, r2, t2) := State.routePools g qs s1 r1
    (s2, r2, t1 + t2)

/-- Routing of a power group in the order of Table 6.6. -/
def State.route (s : State) (g : Nat) : State :=
  let surplus : Rest := (s.motors g).map (fun d => (d, Arith.maxR 0 (-(s.pMech d))))
  let live := surplus.filter (fun e => decide (0 < e.2))
  let (s1, r1, w0) := State.routePools g (s.pools g) s live
  let caps := (s1.powerDrives g).map (fun d => (d, s1.chopCap d))
  let cap2 := sumR (caps.map (·.2))
  let w1 := Arith.minR cap2 (restSum r1)
  let r2 := placeR r1 w1
  let motoring := (s1.motors g).filter (fun d => decide (0 < s1.pMech d))
  let cap3 := sumR (motoring.map (fun d => (s1.drv d).allow)) + s1.r .pwrPReturnMaxW g
  let w2 := Arith.minR cap3 (restSum r2)
  let r3 := placeR r2 w2
  let w3 := restSum r3
  let x := s1.power g
  let s2 := forL caps (fun e t => t.putRun e.1 { t.drv e.1 with chopW := Arith.ratio (w1 * e.2) cap2 }) s1
  let s3 := forL (s2.motors g) (fun d t =>
    let sd := ((surplus.find? (fun e => e.1 == d)).map (·.2)).getD 0
    let rr := ((r3.find? (fun e => e.1 == d)).map (·.2)).getD 0
    let w := Arith.maxR (Arith.absR (t.drv d).omega) (t.wOf d 1)
    let cut := decide (0 < rr)
    ((t.putRun d { t.drv d with braking := cut, brakeMax := rd (Arith.quot (sd - rr) w) }).putRunR .drvRegenPlacedW d (sd - rr)).runFlag
      d 23 cut) s2
  let s4 := ((((s3.putR .pwrChopCapW g cap2).putR .pwrSurplusW g (restSum surplus)).putR .pwrRouteW g w0 0).putR .pwrRouteW g w1 1)
  let s5 := ((s4.putR .pwrRouteW g w2 2).putR .pwrRouteW g w3 3).putPower g { s4.power g with chop := decide (0 < w1), limit := decide (0 < w3) }
  let s6 := if 0 < w1 ∧ ¬x.chop then s5.raiseLane 0x032C kPower g 0 else s5
  if 0 < w3 ∧ ¬x.limit then s6.raiseLane 0x032D kPower g 0 else s6

/-! ## Effective torque (R116, R200) -/

/-- The limit of a drive's torque in the direction it has, N·m at the motor: allowance when motoring, routing when
braking (R207, R214). -/
def State.powerLimit (s : State) (d : Nat) (t : Rat) : Rat :=
  let k := s.drv d
  let w := Arith.maxR (Arith.absR k.omega) (s.wOf d 1)
  let tn := t / 100 * s.r .drvRatedTorqueNm d
  let lim : Option Rat := if 0 < tn * k.omega then (if k.limited then some (Arith.quot k.allow w) else none)
    else if tn * k.omega < 0 then (if k.braking then some k.brakeMax else none) else none
  match lim with
  | some l => s.tPct d (Arith.clamp (-l) l tn)
  | none => t

/-- The regime limits: deadline-drop Limp and Crash (R182, R216). -/
def State.regimeLimit (s : State) (d : Nat) (t : Rat) : Rat :=
  let t1 := if Arith.bit (s.n .drvLimpCause d) 1 then Arith.clamp (-(s.r .drvLimpTorque d)) (s.r .drvLimpTorque d) t else t
  if s.regime d = 4 then Arith.clamp (-(s.r .drvCrashTorque d)) (s.r .drvCrashTorque d) t1 else t1

/-- Everything that limits a drive's torque after sharing. Of `cap_torque` (R200) the share of the enabled sets counts, since the
current limit itself may stand above 100 % (DEDUCED, log entry 62). -/
def State.limited (s : State) (d : Nat) (t : Rat) : Rat :=
  let l := (s.drv d).iLim * s.shareRatio d
  if s.switching d then s.regimeLimit d (s.powerLimit d (Arith.clamp (-l) l t)) else 0

/-- Torque at the shaft of a drive's torque in %. -/
def State.atShaft (s : State) (d : Nat) (p : Rat) : Rat := p / 100 * s.r .drvRatedTorqueNm d * s.ratioOf d

/-- What the members of a group give: the shortfall of clamped members is offered once to the others by weight, up to their limits.
Answers the torques in % and the shortfall that remains at the shaft (R200). -/
def State.reoffer (s : State) (g : Nat) : List (Nat × Rat) × Rat :=
  let pairs := (s.membersIn g).map (fun d => (d, (s.drv d).tGov, s.limited d (s.drv d).tGov))
  let short := sumR (pairs.map (fun e => s.atShaft e.1 (e.2.1 - e.2.2)))
  let wsum := sumR ((pairs.filter (fun e => e.2.1 = e.2.2)).map (fun e => s.r .shaftWeight g (s.memberIx g e.1)))
  let fin := pairs.map (fun e =>
    if e.2.1 = e.2.2 then
      let extra := Arith.quot (short * s.r .shaftWeight g (s.memberIx g e.1)) wsum
      (e.1, s.limited e.1 (e.2.2 + s.tPct e.1 (Arith.quot extra (s.ratioOf e.1))))
    else (e.1, e.2.2))
  let taken := sumR ((pairs.zip fin).map (fun e => s.atShaft e.1.1 (e.2.2 - e.1.2.2)))
  (fin, short - taken)

/-- Sets the effective torque of every member, and publishes a shortfall that remains: `SHARE_SHORT` once for each episode, which
100 ms without one end (R200). -/
def State.shareFinal (s : State) (g : Nat) : State :=
  let (fin, left) := s.reoffer g
  let s1 := forL (s.shaftMembers g) (fun d t =>
    t.putRun d { t.drv d with tShr := rd (((fin.find? (fun e => e.1 == d)).map (·.2)).getD 0) }) s
  let total := sumR (fin.map (fun e => s.atShaft e.1 e.2))
  let x := s1.shaft g
  let isShort := decide (left ≠ 0)
  let stays := isShort || (x.short && decide (s1.now < x.shortAt + 100000000))
  let s2 := ((s1.putShaft g { x with tEff := total, short := stays, shortAt := if isShort then s1.now else x.shortAt }).putR
    .shaftTorqueTotalNm g total).putR .shaftShareShortNm g left
  if isShort && !x.short then s2.raiseLane 0x0327 kShaft g 0 else s2

/-- The effective torque of a drive, with `TLIMIT` where it differs from the demand (R116). -/
def State.effective (s : State) (d : Nat) : State :=
  let k := s.drv d
  let t := if (s.shaftOf d).isSome then (if s.switching d then k.tShr else 0) else s.limited d k.tShr
  ((s.putDrv d { k with tEff := t }).putR .drvTorqueRefEff d t).drvFlag d 7 (s.switching d && decide (1 / 10 < Arith.absR (t - k.tAsk)))

/-- The group lane of one epoch (R209). -/
def State.groupLane (s : State) : State :=
  let groups := s.plant.shafts.map (·.group)
  let s1 := forL groups (fun g t => t.shaftStep g) s
  let s2 := forL s1.plant.powers (fun g t => (t.shed g).route g) s1
  forL groups (fun g t => t.shareFinal g) s2

end Sys2Proof.Machine
end

