-- ==== Sys2Proof/Machine/Control.lean ====
section
/-!
DEFINITION. Control.lean: the control path and the tail of a drive (Table 4.3): flux and flux weakening, current
references, current control, balancing and modulation (sections 4.3, 4.4, 4.8 and chapter 5). The current controller works on the
demand that the demand path leaves, and the tail corrects its voltage for the effective torque (R114); both stand in `setControl`.
-/
namespace Sys2Proof.Machine

/-! ## Flux and flux weakening (R123, R126) -/

/-- Axes α and β of three phase quantities, amplitude-invariant. -/
def abOf (a b c : Rat) : Rat × Rat := ((2 * a - b - c) / 3, Arith.quot (b - c) (Config.laneSqrt 3))

/-- One epoch of the voltage model on one axis: the integral of its voltage, high-pass filtered at 0.5 Hz by a first-order leak
(DESIGN CHOICE of the discrete form, log entry 125). -/
def vmStep (te e psi : Rat) : Rat := psi + te * (e - Config.lanePi * psi)

/-- Flux vector of the voltage model after the epochs since the last computed one (R122, R123): the integral of
v − Rs × i − σLs × di/dt on the axes α and β. -/
def State.fluxVm (s : State) (d gap : Nat) (i : Rat × Rat) : Rat × Rat :=
  let k := s.drv d
  let te := s.teS
  let slope := fun (x y : Rat) => Arith.quot (x - y) (te * gap)
  let e := fun (v x y : Rat) => v - s.r .drvRsOhm d * x - s.r .drvSigmaLsH d * slope x y
  ((s.wset (d * 4)).between k.comp gap).foldl
    (fun p v => (vmStep te (e v.1 i.1 k.iaLast) p.1, vmStep te (e v.2 i.2 k.ibLast) p.2)) (k.vmA, k.vmB)

/-- The rotor flux of an induction machine and its angle: the voltage model's vector and the current model's, which goes on from the
last estimate at the frame's frequency, blended by |ω|; skipped epochs count with the last voltage (R122, R123). -/
def State.fluxStep (s : State) (d gap : Nat) : State :=
  if s.n .drvType d ≠ 0 then s
  else
    let k := s.drv d
    let x := s.wset (d * 4)
    let te := s.teS
    let cm := iterate (fun p => p + te * Arith.quot (s.r .drvLmH d * x.id - p) (s.r .drvTrS d)) gap k.psiCm
    let at' := k.psiAngle + Arith.quot (s.omegaE d) (2 * Config.lanePi) * te * gap
    let i := abOf x.ia x.ib x.ic
    let vm := s.fluxVm d gap i
    let w := Arith.minR 1 (Arith.quot (Arith.absR (s.r .drvSpeedEst d)) (s.r .drvBlendSpeed d))
    let a := w * vm.1 + (1 - w) * cm * Config.laneCos at'
    let b := w * vm.2 + (1 - w) * cm * Config.laneSin at'
    let psi := rd (Config.laneSqrt (a * a + b * b))
    let turn := Config.laneAtan2 a b
    (s.putDrv d { k with psiCm := rd cm, vmA := rd vm.1, vmB := rd vm.2, psi := psi, iaLast := i.1, ibLast := i.2,
                         psiAngle := rd (turn - (turn.floor : Rat)) }).putR
      .drvFluxEst d (100 * Arith.quot psi (s.r .drvRatedFluxVs d))

/-- Flux weakening on the largest voltage ratio of the sets (R126). The filter of time constant 4 × T_E takes a quarter of the
difference in each computed epoch (DESIGN CHOICE of the discrete form, log entry 121). -/
def State.weaken (s : State) (d : Nat) : State :=
  if s.isLine d then s
  else
    let k := s.drv d
    let ratio := maxL (0 :: (s.enabledSets d).map (fun j => (s.wset (d * 4 + j)).ratio))
    let f := rd (k.fwFilt + (ratio - k.fwFilt) / 4)
    let g := s.r .drvFwGain d
    let top := if s.n .drvType d = 0 then s.r .drvFluxRef d - s.r .drvFluxMin d else s.r .drvILimit d
    let x := if 98 / 100 < f then k.fwInt + g * 100 * (f - 98 / 100)
             else if f < 95 / 100 then k.fwInt - g * 100 * (95 / 100 - f) else k.fwInt
    let x := rd (Arith.clamp 0 (Arith.maxR 0 top) x)
    (s.putDrv d { k with fwFilt := f, fwInt := x }).drvFlag d 8 (x != 0)

/-! ## Line converters (R136) -/

/-- Line voltages as sampled, V. -/
def State.lineVolts (s : State) (d : Nat) : List Rat :=
  match s.driveDesc d with
  | some x => x.vLine.map (fun n => (if n < 16 then s.gr .sdmValue n else s.gr .ainValue (n - 16)) * (x.vScale : Rat))
  | none => []

/-- Phase-locked loop, loss and return of the line. -/
def State.lineWatch (s : State) (d : Nat) : State :=
  let k := s.drv d
  let vs := s.lineVolts d
  let (a, f) := Config.pll (s.r .drvPllHz d) k.pllAngle k.pllHz vs s.teS
  let (vd, vq) := dqOf (vs.getD 0 0) (vs.getD 1 0) (vs.getD 2 0) a
  let amp2 := vd * vd + vq * vq
  let half := s.r .drvRatedVoltageV d / 2
  let low := decide (3 * amp2 < 2 * half * half)
  let off := decide (f < 40 ∨ 70 < f)
  let n := if low then min (k.lineN + 1) 2 else 0
  let bad := decide (2 ≤ n) || off
  let ok := if low || off then 0 else min (k.healthyN + 1) 64
  let k1 := { k with pllAngle := rd a, pllHz := rd f, vLd := rd vd, vLq := rd vq, lineN := n, healthyN := ok, ang := a }
  match k.lineLost with
  | none =>
    if bad then (s.putDrv d { k1 with lineLost := some s.now, pllOut := true }).raiseLane 0x030C kDrive d 0
    else s.putDrv d k1
  | some t =>
    if 64 ≤ ok then (s.putDrv d { k1 with lineLost := none, pllOut := false }).markCause d 7 false
    else s.putDrv d { k1 with lineLost := some t }

/-- LINE_RIDE_EXPIRED: the line has stayed lost longer than `line_ride_ms`: Faulted with cause 7. -/
def execLineRideExpired (d : DriveNo) (s : State) : Host.Outcome State Fault Refusal :=
  .next (match (s.drv d).lineLost with
    | some t => if t + msNs (s.n .drvLineRideMs d) < s.now then s.judgeCause d 7 true id else s
    | none => s)

/-- Current references of a line converter, A: the DC-link loop on the active axis, within the current limit and the return limit of
its power group, and the reactive reference within the remaining amplitude; also whether the current limit cut one (R120, R136). -/
def State.lineRefs (s : State) (d : Nat) : Rat × Rat × Bool × State :=
  let k := s.drv d
  let lim := k.iLim / 100 * s.iRated d
  let ref := s.r .drvVdcRef d * (if s.ownPool d then 1 else 1 + k.resOff)
  let (u, x) := Config.piLoop (s.r .drvVdcBwHz d) [s.r .drvCellCF d] (ref - s.vLink d) k.vdcInt s.teS
  let g := ((s.driveDesc d).map (·.power)).getD 0
  let top := Arith.quot (Arith.quot (s.r .pwrPReturnMaxW g) ((s.converters g).length : Rat)) (3 / 2 * k.vLd)
  let act := Arith.clamp (-lim) lim (-u)
  let cutD := act != -u
  let act := Arith.minR top act
  let rest := Config.laneSqrt (Arith.maxR 0 (lim * lim - act * act))
  let q := s.r .drvIqLineRef d / 100 * s.iRated d
  let re := Arith.clamp (-rest) rest q
  let left : Rat := if k.lineLost.isSome then 0 else if s.halting d then rampLeft s.now k.rampAt 10 else 1
  (act * left, re * left, k.lineLost.isNone && (cutD || re != q), s.putDrv d { k with vdcInt := rd x })

/-- The demand path of a line converter (Table 4.3). -/
def State.demandLine (s : State) (d : Nat) : State :=
  let s1 := (((s.takePhases d).lineWatch d).takeCurrents d)
  let k := s1.drv d
  let s2 := (s1.i2t d).capability d
  let s3 := if s2.halting d ∧ k.stopAt.isNone then s2.putDrv d { s2.drv d with stopAt := some s2.now } else s2
  (s3.softTrips d).putDrv d { (s3.softTrips d).drv d with tDem := 0, tGov := 0, tShr := 0, tAsk := 0 }

/-! ## Current references (R123, R124, R134, R138) -/

/-- i_d in % rated of the MTPA table at a torque in % rated (R124). -/
def State.mtpa (s : State) (d : Nat) (t : Rat) : Rat :=
  let step := s.r .drvILimit d / 64
  let x := Arith.quot (Arith.absR t) step
  let j := min 63 x.floor.toNat
  let a := s.r .drvMtpa d j
  let b := s.r .drvMtpa d (j + 1)
  a + (b - a) * Arith.clamp 0 1 (x - (j : Rat))

/-- Time since the present identification step began, s. -/
def State.idTime (s : State) (d : Nat) : Rat := ((s.now - (s.drv d).idAt : Nat) : Rat) / 1000000000

def State.identifying (s : State) (d : Nat) : Bool := s.n .drvIdState d == 1

/-- Test current of an identification step along its frame's d axis, % rated (Table 4.6): 25 % for 200 ms and then 50 % in step 1,
50 % and then 0 in step 4. When the 50 % end, and what step 5 carries, the table does not say. -/
def State.testCurrent (s : State) (d : Nat) : Rat :=
  match s.n .drvIdStep d with
  | 1 => if s.idTime d < 1 / 5 then 25 else 50
  | 4 => if s.idTime d < Config.identHold then 50 else 0
  | 5 => Config.identTurn
  | _ => 0

/-- Number of the test pulse of an identification step in the present epoch, none between pulses (Table 4.6: a pulse lasts one epoch;
when each comes is not stated). -/
def State.testPulse (s : State) (d : Nat) : Option Nat := Config.identPulse (s.n .drvIdStep d) ((s.now - (s.drv d).idAt) / s.te)

/-- Test voltage of an identification step in its frame, V: 12 pulses at 30° steps in step 2, of an amplitude that the table does not
state, and ±20 % of rated voltage along d and q in step 3. -/
def State.testVoltage (s : State) (d : Nat) : Rat × Rat :=
  let u := s.r .drvRatedVoltageV d
  match s.n .drvIdStep d, s.testPulse d with
  | 2, some j =>
    let t : Rat := ((j % 12 : Nat) : Rat) / 12
    (Config.identAmp * u * Config.laneCos t, Config.identAmp * u * Config.laneSin t)
  | 3, some j =>
    let v := (if j % 2 = 0 then 1 else -1) * (u / 5)
    if j % 4 < 2 then (v, 0) else (0, v)
  | _, _ => (0, 0)

/-- References of a set in A at a torque in % rated, before the limit. -/
def State.setRefs (s : State) (d k : Nat) (torque : Rat) : Rat × Rat :=
  let x := s.drv d
  let base := s.iRated d
  let t := torque / 100 * s.r .drvRatedTorqueNm d * s.setShareOf d k
  let p := s.r .drvPolePairs d
  if s.identifying d then (s.testCurrent d / 100 * base, 0)
  else if s.hasFlag d 3 then (s.r .drvSlLowCurrent d / 100 * base, 0)
  else if s.n .drvType d = 0 then
    (x.fluxInt, Arith.quot t (3 / 2 * p * Arith.quot (s.r .drvLmH d) (s.r .drvLrH d) * x.psi))
  else
    let all := Arith.quot (s.r .setShare (d * 4 + k)) (sumR ((List.range (s.nSets d)).map (fun j => s.r .setShare (d * 4 + j))))
    let i0 := s.mtpa d (torque * Arith.quot (s.setShareOf d k) all)
    let i1 := if x.fwInt = 0 then i0 else Arith.minR i0 (-x.fwInt)
    let i := i1 / 100 * base
    (i, Arith.quot t (3 / 2 * p * (s.r .drvPsiVs d + (s.r .drvLdH d - s.r .drvLqH d) * i)))

/-- The flux controller of an induction machine: its output is the d reference in A (R123). -/
def State.fluxControl (s : State) (d : Nat) : State :=
  if s.n .drvType d ≠ 0 then s
  else
    let k := s.drv d
    let ref := Arith.maxR (s.r .drvFluxMin d) (s.r .drvFluxRef d - k.fwInt) / 100 * s.r .drvRatedFluxVs d
    let (u, x) := Config.piLoop (s.r .drvFluxBwHz d) [s.r .drvLmH d, s.r .drvTrS d] (ref - k.psi) k.fluxPi s.teS
    if s.switching d then s.putDrv d { k with fluxInt := rd u, fluxPi := rd x }
    else s.putDrv d { k with fluxInt := 0, fluxPi := 0 }

/-- The limit of R120: d keeps its value up to the limit, q takes the remainder. -/
def limitDq (lim i q : Rat) : Rat × Rat × Bool :=
  let i1 := Arith.clamp (-lim) lim i
  let rest := Config.laneSqrt (Arith.maxR 0 (lim * lim - i1 * i1))
  let q1 := Arith.clamp (-rest) rest q
  (i1, q1, i1 != i || q1 != q)

/-! ## Current control (R114 to R121) -/

/-- The voltage of a set before its limit: deadbeat (R117) or PI (R121); with the predicted current and its slope. The PI integrals
run on while the gates are blocked, with reference 0, for which R121 gives no rule (DESIGN CHOICE, log entry 120). -/
def State.currentLaw (s : State) (d k gap : Nat) (ref : Rat × Rat) : (Rat × Rat) × SetSt :=
  let x := s.wset (d * 4 + k)
  let te := s.teS
  let (ld, lq) := s.lModel d
  let r := s.rModel d
  let w := s.omegaE d
  let e := s.eEmf d k
  let vs := x.applied (s.drv d).comp gap
  let i0 := (x.id, x.iq)
  let i1 := vs.foldl (fun i v => predict te r ld lq w e v i) i0
  let n := (vs.length : Rat)
  let x := { x with idHat := rd i1.1, iqHat := rd i1.2, didt := rd (Arith.quot (i1.1 - i0.1) (n * te)), diqt := rd (Arith.quot (i1.2 - i0.2) (n * te)) }
  if s.n .drvCcMode d = 1 then
    let c := xCpl w ld lq i0.1 i0.2
    let kp := s.r .drvPiKpVPerA d
    let ki := Arith.quot (kp * te * 1000000) (s.r .drvPiTiUs d)
    let ed := ref.1 - i0.1
    let eq := ref.2 - i0.2
    let di := if x.vHit && decide (0 < ki * ed * (x.v 0).1) then 0 else ki * ed
    let dq := if x.vHit && decide (0 < ki * eq * (x.v 0).2) then 0 else ki * eq
    let x := { x with piD := rd (x.piD + di), piQ := rd (x.piQ + dq) }
    ((rd (e.1 + c.1 + kp * ed + x.piD), rd (e.2 + c.2 + kp * eq + x.piQ)), x)
  else
    let c := xCpl w ld lq i1.1 i1.2
    let g := s.r .drvCcGain d
    ((rd (r * i1.1 + e.1 + c.1 + Arith.quot (g * ld * (ref.1 - i1.1)) te),
      rd (r * i1.2 + e.2 + c.2 + Arith.quot (g * lq * (ref.2 - i1.2)) te)), x)

/-- Correction of a set's voltage for a change of its references: g × L × Δi_ref / T_E (R114). -/
def State.refCorrection (s : State) (d : Nat) (dem eff : Rat × Rat) : Rat × Rat :=
  let (ld, lq) := s.lModel d
  let g := s.r .drvCcGain d
  (Arith.quot (g * ld * (eff.1 - dem.1)) s.teS, Arith.quot (g * lq * (eff.2 - dem.2)) s.teS)

/-- The voltage limit of R119. -/
def limitV (lim : Rat) (v : Rat × Rat) : (Rat × Rat) × Bool :=
  if lim * lim < v.1 * v.1 + v.2 * v.2 then
    let a := Arith.clamp (-lim) lim v.1
    let b := Config.laneSqrt (Arith.maxR 0 (lim * lim - a * a))
    ((a, Arith.clamp (-b) b v.2), true)
  else (v, false)

/-- Frame angle of the voltage to be applied, turns (R117). -/
def State.angleOut (s : State) (d : Nat) : Rat :=
  let k := s.drv d
  k.ang + Arith.quot (s.omegaE d) (2 * Config.lanePi) * s.teS * ((k.comp : Rat) + 1 / 2)

/-- Limited current references of a set in its frame for the demand and for the effective torque, whether the limit cut the latter,
and the state after a line converter's voltage loop (R114, R120, R136). -/
def State.refsOf (s : State) (d k : Nat) : (Rat × Rat) × (Rat × Rat) × Bool × State :=
  if s.isLine d then
    let l := s.lineRefs d
    ((l.1, l.2.1), (l.1, l.2.1), l.2.2.1, l.2.2.2)
  else
    let lim := (s.drv d).iLim / 100 * s.iRated d
    let r0 := s.setRefs d k (s.drv d).tGov
    let r1 := s.setRefs d k (s.drv d).tEff
    let c0 := limitDq lim r0.1 r0.2
    let c1 := limitDq lim r1.1 r1.2
    ((c0.1, c0.2.1), (c1.1, c1.2.1), c1.2.2, s)

/-- The voltage of a set with what is added to it: the test voltages of an identification and the high-frequency injection
(R134, R138); 0 while it is off. -/
def State.withTests (s : State) (d : Nat) (on : Bool) (v : Rat × Rat) : Rat × Rat :=
  let pulse := if s.identifying d then s.testVoltage d else (0, 0)
  let hfi := if s.hfiOn d && on then (if (s.drv d).hfiNeg then -(s.r .drvHfiV d) else s.r .drvHfiV d) else 0
  if on then (v.1 + pulse.1 + hfi, v.2 + pulse.2) else (0, 0)

/-- References, voltage and limit of one set; `VLIMIT`, `ILIMIT` and their event. -/
def State.setControl (s : State) (d k gap : Nat) : State :=
  let ix := d * 4 + k
  let on := s.n .setEnable ix == 1 && s.switching d
  let rf := s.refsOf d k
  let s0 := rf.2.2.2
  let dem := if on then rf.1 else (0, 0)
  let eff := if on then rf.2.1 else (0, 0)
  let law := s0.currentLaw d k gap dem
  let cor := s0.refCorrection d dem eff
  let v := s0.withTests d on (law.1.1 + cor.1, law.1.2 + cor.2)
  let vl := s0.vLim d k
  let lv := limitV vl v
  let v1 := lv.1
  let hit := lv.2 && on
  let x := { law.2 with idRef := eff.1, iqRef := eff.2, vHit := hit,
                        ratio := rd (Arith.quot (Config.laneSqrt (v.1 * v.1 + v.2 * v.2)) vl), vdq := (v1 :: law.2.vdq).take 3 }
  let base := s0.iRated d
  let s1 := ((((s0.putSet ix x).putR .setIdRef ix (100 * Arith.quot eff.1 base)).putR .setIqRef ix (100 * Arith.quot eff.2 base)).putR
    .setVd ix v1.1).putR .setVq ix v1.2
  let s2 := if on && rf.2.2.1 then s1.drvFlag d 6 true else s1
  if hit then
    let kd := s2.drv d
    let s3 := if kd.vlimAt + 100000000 ≤ s2.now then s2.raiseLane 0x0304 kDrive d 0 else s2
    (s3.drvFlag d 5 true).putDrv d { s3.drv d with vlimAt := s3.now }
  else s2

/-! ## Balancing (R159 to R161) -/

/-- Energy of the upper and lower arm of a leg. -/
def State.legE (s : State) (d k leg : Nat) : Rat × Rat :=
  let e := fun role => ((s.roleArm d k role).map s.armEnergy).getD 0
  (e (3 + leg), e (6 + leg))

/-- Common-mode voltage of a set (R159). -/
def State.cmVolt (s : State) (d : Nat) (amp : Rat) : Rat :=
  if amp < s.phasePeak d / 10 then
    s.r .drvBalCmV d * Config.laneSin (s.r .drvBalCmHz d * ((s.clk.t0 : Nat) : Rat) / 1000000000)
  else 0

/-- Publishes the circulating current of a leg and its reference, in per cent of rated, at the leg's upper arm. -/
def State.circPublish (s : State) (d k l : Nat) (ref i : Rat) : State :=
  match s.roleArm d k (3 + l) with
  | some a => (s.putR .armICircRef (armIx a) (100 * Arith.quot ref (s.iRated d))).putR .armICirc (armIx a) (100 * Arith.quot i (s.iRated d))
  | none => s

/-- An integral that may not grow: its new value where that is the smaller (R160). -/
def shrunk (old new : Rat) : Rat := if Arith.absR old < Arith.absR new then old else new

/-- Arm voltages of a modular multilevel set: circulating-current references and control. Answers the role and voltage of
every arm, and the leg currents that the sorter expects. -/
def State.legs (s : State) (d k : Nat) (va vb vc amp : Rat) : State × List (Nat × Rat) × List Rat :=
  let ix := d * 4 + k
  let x := s.wset ix
  let vdc := s.vdc d k
  let lim := s.r .drvCircLimit d / 100 * s.iRated d
  let es := [0, 1, 2].map (fun l => s.legE d k l)
  let legM := es.map (fun e => (e.1 + e.2) / 2)
  let mean := meanR legM
  let ti := Arith.quot (s.teS * 1000) (s.r .drvBalTiMs d)
  let cm := s.cmVolt d amp
  let hat := if amp < s.phasePeak d / 10 then s.r .drvBalCmV d else amp
  let p := 3 / 2 * ((x.v 0).1 * x.id + (x.v 0).2 * x.iq)
  let vs := [va, vb, vc]
  let refsOf := fun (it : Rat) (ih : List Rat) => [0, 1, 2].map (fun l =>
    let e := es.getD l (0, 0)
    Arith.quot p (3 * vdc) + s.r .drvBalKTotal d * (1 - mean) + it + s.r .drvBalKHoriz d * (mean - legM.getD l 0) + ih.getD l 0
      + s.r .drvBalKVert d * (e.1 - e.2) * Arith.quot (vs.getD l 0 + cm) hat)
  let t0 := x.hor.getD 3 0
  let t1 := Arith.clamp (-lim) lim (t0 + s.r .drvBalKTotal d * (1 - mean) * ti)
  let h1 := [0, 1, 2].map (fun l => Arith.clamp (-lim) lim (x.hor.getD l 0 + s.r .drvBalKHoriz d * (mean - legM.getD l 0) * ti))
  let cutLegs := (refsOf t1 h1).map (fun r => decide (lim < Arith.absR r))
  let it := if cutLegs.contains true then shrunk t0 t1 else t1
  let ih := [0, 1, 2].map (fun l => if cutLegs.getD l false then shrunk (x.hor.getD l 0) (h1.getD l 0) else h1.getD l 0)
  let refs := refsOf it ih
  let cut := fun (l : Nat) => cutLegs.getD l false || decide (lim < Arith.absR (refs.getD l 0))
  let refs1 := refs.map (Arith.clamp (-lim) lim)
  let circ := [0, 1, 2].map (fun l => s.legCirc d k l)
  let vcirc := [0, 1, 2].map (fun l =>
    s.r .drvArmROhm d * circ.getD l 0 + s.r .drvCircGain d * Arith.quot (s.r .drvArmLH d * (refs1.getD l 0 - circ.getD l 0)) s.teS)
  let arms := [0, 1, 2].flatMap (fun l =>
    let v := vs.getD l 0 + cm
    [(3 + l, rd (vdc / 2 - v - vcirc.getD l 0)), (6 + l, rd (vdc / 2 + v - vcirc.getD l 0))])
  let on := [0, 1, 2].foldl (fun m l => if cut l then m + 2 ^ l else m) 0
  let s1 := s.putSet ix { x with hor := ih.map rd ++ [rd it], clampOn := on }
  let s2 := forL [0, 1, 2] (fun l t =>
    let t1 := t.circPublish d k l (refs1.getD l 0) (circ.getD l 0)
    if cut l && !Arith.bit x.clampOn l then t1.raiseLane 0x0319 kDrive d 0 else t1) s1
  (s2, arms, refs1)

/-- Zero-sequence voltage of a cascaded H-bridge set with floating cells (R161). -/
def State.zeroSeq (s : State) (d k : Nat) : Rat :=
  if s.n .drvBalMode d = 1 then
    let x := s.wset (d * 4 + k)
    let es := [0, 1, 2].map (fun l => ((s.roleArm d k l).map s.armEnergy).getD 0)
    let mean := meanR es
    let amp := Config.laneSqrt (x.id * x.id + x.iq * x.iq)
    s.r .drvBalKHoriz d * (Arith.quot ((mean - es.getD 0 0) * x.ia + (mean - es.getD 1 0) * x.ib + (mean - es.getD 2 0) * x.ic) amp)
  else 0

/-! ## Modulation (R152 to R158, R162, R163) -/

/-- Q1.15 of a reference, saturated (R152). -/
def q15 (x : Rat) : Int := max (-32768) (min 32767 (Arith.round (x * 32768)))

/-- Voltage trims of the cells of a mode 1 arm (R158, R162). -/
def State.trimsOf (s : State) (a : ArmDesc) : Tab Rat :=
  let cs := s.armIn a
  let d := a.drive
  if s.armParallel a then
    let mean := Arith.absR (meanR (cs.map (fun c => s.iCell a.round c.2)))
    cs.map (fun c => (c.1, -(s.r .drvShareGain d) * Arith.quot (Arith.absR (s.iCell a.round c.2) - mean) (s.iFull a.round c.2)))
  else
    let v := s.meanV a cs
    let cap := s.r .drvTrimMax d / 100
    let sign : Rat := if a.role = 9 then 1 else -1
    cs.map (fun c => (c.1, Arith.clamp (-cap) cap (sign * s.r .drvTrimGain d * Arith.quot (s.vCell a.round c.2 - v) (s.vRated a.round c.2))))

/-- Keeps the switchings of the last 10 ms and publishes their mean frequency (Table 5.4). -/
def State.countSwitching (s : State) (ix : Nat) (per : Rat) : State :=
  let x := s.arm ix
  let l := (s.clk.t0, per) :: x.sw.filter (fun e => decide (s.clk.t0 < e.1 + 10000000))
  (s.putArm ix { x with sw := l }).putR .armSwitchHz ix (100 * sumR (l.map (·.2)))

/-- A carrier arm at an arm voltage or, for a two-level or chopper arm, at an index (R152, R158, R166). -/
def State.sendCarrierRef (s : State) (a : ArmDesc) (m : Rat) : State :=
  let ix := armIx a
  let x := s.arm ix
  let raw := q15 m
  let step := q15 (Arith.clamp (-1 / 16) (1 / 16) (m - x.m))
  let e : ArmEntry := { slot := s.armSlot a, mode := 1, trims := true, neg := false, ref := raw, step := step, phase := 0, mask := 0 }
  let per := carrierPeriod (s.n .armCarrierCode ix)
  let s1 := s.putArm ix { x with m := rd m, entry := e, trims := s.trimsOf a }
  (((s1.putZ .armRefRaw ix raw).putN .armNIns ix 0).countSwitching ix (Arith.quot 1 per))

/-- Selects the `n` first of some cells by a key, equal keys by ascending index (R156). -/
def selectN (n : Nat) (high : Bool) (ks : List (Nat × Rat)) : List Nat :=
  ((sortBy (fun (a b : Nat × Rat) => if high then decide (b.2 ≤ a.2) else decide (a.2 ≤ b.2)) ks).take n).map (·.1)

/-- A nearest-level arm at an arm voltage, with the current it will carry (R155 to R157). Answers the voltage counted as
applied. -/
def State.sendMask (s : State) (a : ArmDesc) (v ip : Rat) : State × Rat :=
  let ix := armIx a
  let x := s.arm ix
  let d := a.drive
  let cs := s.armIn a
  let full := s.fullBridge a.round (cs.map (·.2))
  let mean := s.meanV a cs
  let n := if v < 0 ∧ ¬full then 0 else min cs.length (Arith.round (Arith.quot (Arith.absR v) mean)).toNat
  let neg := full && decide (v < 0)
  let fs := ((s.armPositions a).head?.map (s.iFull a.round)).getD 0
  let dead := s.r .drvNlmIDead d / 100 * fs
  let ip1 := if neg then -ip else ip
  let charging := if dead < ip1 then true else if ip1 < -dead then false else x.charging
  let b := s.r .drvNlmBand d / 100 * s.armRated a
  let keys := cs.map (fun c =>
    let bi : Rat := if Arith.bit x.mask c.1 then b else 0
    (c.1, if charging then s.vCell a.round c.2 - bi else s.vCell a.round c.2 + bi))
  let sel := selectN n (!charging) keys
  let mask := sel.foldl (fun m i => Arith.setBit m i true) 0
  let sum := sumR ((cs.filter (fun c => sel.contains c.1)).map (fun c => s.vCell a.round c.2))
  let flips := ((List.range 128).filter (fun i => Arith.bit mask i != Arith.bit x.mask i)).length
  let e : ArmEntry := { slot := s.armSlot a, mode := 2, trims := false, neg := neg, ref := (n : Int), step := 0, phase := 0, mask := mask }
  let s1 := s.putArm ix { x with mask := mask, charging := charging, entry := e, trims := [] }
  let s2 := ((s1.putZ .armRefRaw ix n).putN .armNIns ix n).countSwitching ix (Arith.quot ((flips : Rat) / 2) cs.length)
  (s2, if neg then -sum else sum)

/-- An arm whose gates are blocked. Its trims go on (R162), and so do its measured figures (Table 5.4). -/
def State.sendBlocked (s : State) (a : ArmDesc) : State :=
  let ix := armIx a
  let x := s.arm ix
  let t := if s.armMode a = 1 then s.trimsOf a else []
  let s1 := s.putArm ix { x with m := 0, mask := 0, iCirc := 0, entry := .blocked (s.armSlot a), trims := t }
  let s2 := ((s1.putZ .armRefRaw ix 0).putN .armNIns ix 0).countSwitching ix 0
  if a.role = 3 ∨ a.role = 4 ∨ a.role = 5 then s2.circPublish a.drive a.set (a.role - 3) 0 (s2.legCirc a.drive a.set (a.role - 3)) else s2

/-- A series arm at an arm voltage; answers the voltage counted as applied (R152, R155). -/
def State.sendSeries (s : State) (a : ArmDesc) (v ip : Rat) : State × Rat :=
  if s.armMode a = 2 then s.sendMask a v ip
  else
    let sum := sumR (s.volts a (s.armIn a))
    let m := Arith.quot v sum
    let s1 := s.sendCarrierRef a m
    (s1, Arith.clamp (-1) (32767 / 32768) m * sum)

/-- Sends a list of series arms by role; answers the applied voltages. -/
def State.sendRoles (d k : Nat) (ip : Nat → Rat) : List (Nat × Rat) → State → State × List (Nat × Rat)
  | [], s => (s, [])
  | (role, v) :: rest, s =>
    match s.roleArm d k role with
    | some a =>
      let (s1, u) := s.sendSeries a v (ip role)
      let (s2, l) := State.sendRoles d k ip rest s1
      (s2, (role, u) :: l)
    | none => State.sendRoles d k ip rest s

/-- The voltage that the modulation realised takes the place of the computed one (R152, R155), in the frame and on the axes α and β. -/
def State.realised (s : State) (d k : Nat) (a b c : Rat) : State :=
  let ix := d * 4 + k
  let x := s.wset ix
  let (v, q) := dqOf a b c (s.setAngle d k (s.angleOut d))
  let ab := abOf a b c
  s.putSet ix { x with vdq := (rd v, rd q) :: x.vdq.drop 1, vab := ((rd ab.1, rd ab.2) :: x.vab).take 3, va := rd a, vb := rd b, vc := rd c }

/-- Modulates one set (R152 to R158). -/
def State.modulateSet (s : State) (d k : Nat) : State :=
  let ix := d * 4 + k
  if !(s.switching d && s.n .setEnable ix == 1) then (forL (s.setArms d k) (fun a t => t.sendBlocked a) s).realised d k 0 0 0
  else
    let x := s.wset ix
    let t := s.setAngle d k (s.angleOut d)
    let vs := abcOf (x.v 0) t
    let va := vs.1
    let vb := vs.2.1
    let vc := vs.2.2
    let is := abcOf (x.idHat, x.iqHat) t
    let ia := is.1
    let ib := is.2.1
    let ic := is.2.2
    let amp := Config.laneSqrt ((x.v 0).1 * (x.v 0).1 + (x.v 0).2 * (x.v 0).2)
    let iOf := fun (l : Nat) => if l = 0 then ia else if l = 1 then ib else ic
    match s.n .drvTopology d with
    | 0 =>
      let vdc := s.vdc d k
      let v0 := -(maxL [va, vb, vc] + minL [va, vb, vc]) / 2
      let s1 := forL [(0, va), (1, vb), (2, vc)] (fun e u =>
        match u.roleArm d k e.1 with
        | some a => u.sendCarrierRef a (1 / 2 + Arith.quot (e.2 + v0) vdc)
        | none => u) s
      s1.realised d k va vb vc
    | 1 =>
      let v0 := s.zeroSeq d k
      let sr := State.sendRoles d k iOf [(0, va + v0), (1, vb + v0), (2, vc + v0)] s
      let s1 := sr.1
      let us := sr.2
      let u := fun (l : Nat) => ((us.find? (fun e => e.1 == l)).map (·.2)).getD 0 - v0
      s1.realised d k (u 0) (u 1) (u 2)
    | _ =>
      let lg := s.legs d k va vb vc amp
      let s1 := lg.1
      let arms := lg.2.1
      let refs := lg.2.2
      let ip := fun (role : Nat) => if role < 6 then refs.getD (role - 3) 0 + iOf (role - 3) / 2
                                    else refs.getD (role - 6) 0 - iOf (role - 6) / 2
      let sr := State.sendRoles d k ip arms s1
      let s2 := sr.1
      let us := sr.2
      let u := fun (role : Nat) => ((us.find? (fun e => e.1 == role)).map (·.2)).getD 0
      let cm := s2.cmVolt d amp
      let ph := fun (l : Nat) => (u (6 + l) - u (3 + l)) / 2 - cm
      let s3 := forL (s2.setArms d k) (fun a t => t.putArm (armIx a) { t.arm (armIx a) with iCirc := refs.getD ((a.role - 3) % 3) 0 }) s2
      s3.realised d k (ph 0) (ph 1) (ph 2)

/-- Chopper arms of a drive at the power that the group lane posted (R166). -/
def State.chopArms (s : State) (d : Nat) : State :=
  let cap := s.chopCap d
  forL ((s.driveArms d).filter (fun a => a.role == 9)) (fun a t =>
    let ix := armIx a
    if !t.switching d then (t.sendBlocked a).putR .armPChopW ix 0
    else
      let g := sumR ((t.volts a (t.armIn a)).map (fun v => Arith.quot (v * v) (t.r .armRChopOhm ix)))
      let p := Arith.quot ((t.drv d).chopW * g) cap
      let m := Arith.quot p g
      let x := t.arm ix
      let sat := decide (1 < m)
      let m1 := Arith.clamp 0 1 m
      let t1 := t.sendCarrierRef a m1
      let t2 := (t1.putArm ix { t1.arm ix with sat := sat }).putR .armPChopW ix (m1 * g)
      if sat && !x.sat then t2.raiseLane 0x031A kDrive d 0 else t2) s

/-! ## Re-phasing (R153, R171) -/

/-- CARRIER directives of an arm that wait for a frame. -/
def State.carriersDue (s : State) (a : ArmDesc) : List DirEntry :=
  let ps := s.armPositions a
  (s.rnd a.round).dirq.filter (fun e => match e.pos, e.dir with
    | some p, .carrier _ _ => ps.contains p
    | _, _ => false)

/-- Cells whose ranks count: those that link-up step 4 accepted until the first entry of the arm, then those in service (R153). -/
def State.rankedCells (s : State) (a : ArmDesc) : List Nat :=
  let cs := if (s.arm (armIx a)).started then s.armIn a
            else (s.armCells a).filter (fun c => (s.rnd a.round).accepted.contains c.2)
  cs.map (·.1)

/-- The ranks follow the cells in service: new offsets go to the cells whose offset changes; a further change restarts the
computation (R171). -/
def State.rephase (s : State) (a : ArmDesc) : State :=
  let ix := armIx a
  let x := s.arm ix
  let now := s.rankedCells a
  if s.armMode a = 2 ∨ s.armParallel a ∨ ¬x.started ∨ now = x.ranked then s.putArm ix { x with ranked := now }
  else
    let due := s.carriersDue a
    let y := s.rnd a.round
    let s1 := s.putRnd a.round { y with dirq := y.dirq.filter (fun e => !due.contains e) }
    let plan := (s1.carrierPlan a ((s.armIn a).map (·.2))).filter (fun e => Tab.get none y.carriers e.1 != some e.2)
    let s2 := forL plan (fun e t => t.sendCarrier a e.1 e.2) s1
    (s2.putArm ix { s2.arm ix with ranked := now, phasing := x.phasing || !plan.isEmpty }).putN .armRephase ix plan.length

/-! ## Control path and tail of a drive -/

/-- Delay compensation of this epoch (R118): `LATE` in the epoch of a change, `COMP2` while it is two. -/
def State.delayComp (s : State) (d : Nat) : State :=
  let k := s.drv d
  let late := (s.driveArms d).any (fun a => s.n .rndLate a.round == 1)
  let c := max (s.n .drvCcDelayMin d) (if late then 2 else 1)
  let ch := k.started && c != k.comp
  (((s.putDrv d { k with comp := c, lateFlag := ch }).drvFlag d 0 ch).drvFlag d 1 (c == 2)).putN .drvCompEpochs d c

/-- High-frequency injection alternates every epoch (R134). -/
def State.hfiStep (s : State) (d : Nat) : State :=
  let k := s.drv d
  let q := (s.wset (d * 4)).iq
  s.putDrv d { k with hfiNeg := !k.hfiNeg, hfiD := q - k.hfiQ, hfiQ := q }

/-- The control path (Table 4.3). -/
def State.controlPath (s : State) (d : Nat) : State :=
  let gap := s.gapOf d
  let s1 := ((s.fluxStep d gap).delayComp d).weaken d
  ((s1.drvFlag d 4 (s1.n .drvCcMode d == 1)).drvFlag d 5 false).drvFlag d 6 false

/-- The tail (Table 4.3): effective torque, current control, arm entries. -/
def State.tailPath (s : State) (d : Nat) : State :=
  let gap := s.gapOf d
  let s0 := if s.isLine d then (s.putR .drvTorqueRefEff d 0).putDrv d { s.drv d with tEff := 0 } else s.effective d
  let s1 := (s0.vcapRef d).fluxControl d
  let s2 := forN (s1.nSets d) (fun k t => t.setControl d k gap) s1
  let s3 := forN (s2.nSets d) (fun k t => t.modulateSet d k) s2
  let s4 := (s3.chopArms d).hfiStep d
  forL (s4.driveArms d) (fun a t => t.rephase a) s4

/-! ## Commands on a drive's control (R110, R115, R135) -/

/-- Whether a write of `ctrl_mode` fits the drive's type and has its engine (R115, R251). -/
def State.ctrlModeOk (s : State) (d v : Nat) : Bool :=
  if s.isLine d then v == 3 else v != 3 && (v != 2 || (s.engineOf 1 d).isSome)

/-- A new control mode at its apply-epoch: the next demand equals the last effective torque (R115). -/
def State.setCtrlMode (s : State) (d v : Nat) : State :=
  if s.n .drvCtrlMode d = v then s
  else (s.putN .drvCtrlMode d v).putDrv d { s.drv d with preset := true }

def execCtrlModeWrite (d : DriveNo) (v : Fin 4) (s : State) : Host.Outcome State Fault Refusal :=
  .next (if s.ownsCmd d && s.ctrlModeOk d v then s.setCtrlMode d v else s)

/-- `fb_use` at its apply-epoch: a 1 asks for the channel, a 0 keeps the drive sensorless (R135). -/
def State.setFbUse (s : State) (d v : Nat) : State :=
  (s.putN .drvFbUse d v).putDrv d { s.drv d with wantFb := v == 1 && s.n .drvFbInUse d != 1 }

def execFbUseWrite (d : DriveNo) (v : Fin 2) (s : State) : Host.Outcome State Fault Refusal :=
  .next (if s.drives.contains d.val && (v.val == 0 || (s.driveFb d).isSome) then s.setFbUse d v else s)

def execSetEnableWrite (d : DriveNo) (k : SetNo) (v : Fin 2) (s : State) : Host.Outcome State Fault Refusal :=
  .next (if s.drives.contains d.val then s.putN .setEnable (d * 4 + k) v else s)

/-! ## Identification (R138, R139) -/

/-- Whether a drive makes an identification step (Table 4.6). -/
def State.idApplies (s : State) (d step : Nat) : Bool :=
  let ty := s.n .drvType d
  let pm := ty == 1 || ty == 2
  match step with
  | 1 | 3 => true
  | 2 => pm && (s.driveFb d).isNone
  | 4 => ty == 0
  | 5 => pm && s.n .drvIdentMotion d == 1
  | _ => false

/-- The next step after one, 0 for none. -/
def State.idNext (s : State) (d step : Nat) : Nat := (([1, 2, 3, 4, 5] : List Nat).find? (fun k => decide (step < k) && s.idApplies d k)).getD 0

def State.identOk (s : State) (d : Nat) : Bool :=
  s.regime d == 0 && !s.halting d && s.mode == 3 && s.n .drvIdState d != 1

/-- A step begins: its time and the rotor's angle at its start. -/
def State.idBegin (s : State) (d step : Nat) : State :=
  (s.putN .drvIdStep d step).putDrv d { s.drv d with idAt := s.now, idFrom := s.rotorTurn d }

def State.identDo (s : State) (d : Nat) : State :=
  ((((s.putN .drvIdentCmd d 1).putN .drvIdState d 1).drvFlag d 10 true).putDrv d { s.drv d with idAbort := false }).idBegin d 1

def execIdentStart (d : DriveNo) (s : State) : Host.Outcome State Fault Refusal :=
  .next (if s.drives.contains d.val && s.identOk d then s.identDo d else s)

/-- Identification stops without a result (R139). -/
def State.identFail (s : State) (d : Nat) : State :=
  ((s.putN .drvIdState d 3).drvFlag d 10 false).raiseLane 0x030B kDrive d (s.n .drvIdStep d)

/-- A write of 2 aborts at the next epoch. -/
def State.identAbortDo (s : State) (d : Nat) : State :=
  let s1 := s.putN .drvIdentCmd d 2
  if s1.identifying d then s1.putDrv d { s1.drv d with idAbort := true } else s1

def execIdentAbort (d : DriveNo) (s : State) : Host.Outcome State Fault Refusal :=
  .next (if s.drives.contains d.val && s.regime d == 0 && !s.halting d then s.identAbortDo d else s)

/-- Result points of a step, in the order of its results. -/
def State.idPoints (s : State) (d step : Nat) : List (Field × Field) :=
  match step with
  | 1 => [(.drvIdRsOhm, .drvRsOhm)]
  | 3 => if s.n .drvType d = 0 then [(.drvIdSigmaLsH, .drvSigmaLsH)] else [(.drvIdLdH, .drvLdH), (.drvIdLqH, .drvLqH)]
  | 4 => [(.drvIdTrS, .drvTrS), (.drvIdLmH, .drvLmH)]
  | 5 => [(.drvIdPsiVs, .drvPsiVs)]
  | _ => []

/-- Whether results lie within 0.2 to 5 times the values of the description. -/
def State.idFits (s : State) (d step : Nat) (vals : List Rat) : Bool :=
  ((s.idPoints d step).zipIdx).all (fun e =>
    let r := s.r e.1.2 d
    let v := vals.getD e.2 0
    decide (r / 5 ≤ v) && decide (v ≤ 5 * r))

/-- Duration of a step in ns (Table 4.6); step 5 lasts as long as its turn. -/
def idDuration (step : Nat) : Nat :=
  match step with
  | 1 => 400000000
  | 2 => 50000000
  | 3 => 100000000
  | 4 => 1000000000
  | _ => 0

/-- IDENT_STEP_DONE: the present step ends after its duration with its results, and the next one or the identification's end follows;
a result outside its range ends it (R138, R139). -/
def State.identStep (s : State) (d : Nat) (angle : Rat) (vals : List Rat) : State :=
  let step := s.n .drvIdStep d
  if !s.identifying d || decide (s.now < (s.drv d).idAt + idDuration step) then s
  else if s.idFits d step vals then
    let s1 := forL ((s.idPoints d step).zipIdx) (fun e t => t.putR e.1.1 d (vals.getD e.2 0)) s
    let s2 := if step = 2 then s1.put .drvIdAngle d (Arith.turnsWord angle) else s1
    let nx := s2.idNext d step
    if nx = 0 then ((s2.putN .drvIdState d 2).drvFlag d 10 false).raiseLane 0x030A kDrive d 0
    else s2.idBegin d nx
  else s.identFail d

def execIdentStepDone (d : DriveNo) (angle : Rat) (vals : List Rat) (s : State) : Host.Outcome State Fault Refusal :=
  .next (s.identStep d angle vals)

/-- Whether a measured current exceeds 150 % of the test value of the step, where Table 4.6 states one (R139). -/
def State.idOver (s : State) (d : Nat) : Bool :=
  let step := s.n .drvIdStep d
  (step == 1 || step == 4) && decide (0 < s.testCurrent d) && decide (3 / 2 * s.testCurrent d < s.iAmp d)

/-- Whether the rotor has turned more than 1/16 electrical turn in steps 1 to 4 (R139). -/
def State.idTurned (s : State) (d : Nat) : Bool :=
  decide (s.n .drvIdStep d ≤ 4) && decide (1 / 16 < turnDist (s.rotorTurn d) (s.drv d).idFrom)

/-- A drive that left Stopped, whose abort is due, whose current is too high or whose rotor turns, stops identifying (R139). -/
def State.identWatch (s : State) (d : Nat) : State :=
  if s.identifying d && (s.regime d != 0 || (s.drv d).idAbort || s.idOver d || s.idTurned d) then
    (s.identFail d).putDrv d { (s.identFail d).drv d with idAbort := false }
  else s

end Sys2Proof.Machine
end

