-- ==== Sys2Proof/Machine/Lanes.lean ====
section
/-!
DEFINITION. Lanes.lean: one epoch of the drive lanes and the group lane (R40, R113, R209) and the hashes of their results
(R386).
-/
namespace Sys2Proof.Machine

/-! ## One epoch of the lanes -/

/-- The lane that carries a drive, when it is in service. -/
def State.laneOf (s : State) (d : Nat) : Option Nat :=
  match (s.driveDesc d).bind (·.lane) with
  | some n => if Arith.bit s.dev.lanesOk n then some n else none
  | none => none

/-- Drives that a lane in service carries, ascending. -/
def State.laneDrives (s : State) (n : Nat) : List Nat :=
  sortBy (fun a b => decide (a ≤ b)) (s.drives.filter (fun d => s.laneOf d == some n))

/-- All drives that lanes carry, ascending. -/
def State.carried (s : State) : List Nat :=
  sortBy (fun a b => decide (a ≤ b)) (s.drives.filter (fun d => (s.laneOf d).isSome))

/-- A drive skips the epoch: its entries repeat, without voltage trims, and nothing that it computes changes (R40, R177).
Gates that a command has blocked meanwhile stay blocked. -/
def State.skipDrive (s : State) (d : Nat) : State :=
  let s1 := ((s.raiseLane 0x0301 kDrive d 0).inc .drvSkipConsecutive d).inc .drvSkipTotal d
  let s2 := s1.putDrv d { s1.drv d with computed := 0, complete := false }
  forL (s2.driveArms d) (fun a t =>
    let t1 := if t.switching d then t else t.sendBlocked a
    t1.putArm (armIx a) { t1.arm (armIx a) with trims := [] }) s2

/-- Lane points of an epoch in which a drive of the lane skipped (Table 4.11). -/
def State.laneSkips (s : State) (n : Nat) : State :=
  let runs := ((s.laneDrives n).filter (fun d => !(s.drv d).complete)).map (fun d => s.n .drvSkipConsecutive d)
  if runs.isEmpty then s
  else (s.inc .laneSkipEpochs n).putN .laneSkipRunMax n (runs.foldl max (s.n .laneSkipRunMax n))

/-- The demand path of one drive, after what the slots say about its cells: with the epoch computed, its run of skips is over and
cause 11 no longer present. -/
def State.demandPath (s : State) (d : Nat) : State :=
  let s1 := (((s.drvFlag d 9 (s.n .drvSkipConsecutive d != 0)).putN .drvSkipConsecutive d 0).markCause d 11 false).armsInput d
  if s1.isLine d then s1.demandLine d else s1.demandMotor d

/-- A drive has computed the epoch. -/
def State.endDrive (s : State) (d : Nat) : State :=
  let s1 := s.identWatch d
  let k := s1.drv d
  s1.putDrv d { k with lastComp := s1.epoch, started := true, computed := k.computed + 1 }

/-- Judges the completeness of each drive (R39). -/
def State.judgeInputs (s : State) : State :=
  forL s.carried (fun d t => t.putDrv d { t.drv d with complete := t.inputsComplete d }) s

/-- The lanes compute an epoch: demand paths, control paths, group lane, tails (Table 4.3). -/
def State.lanesCompute (s : State) : State :=
  let run := s.carried.filter (fun d => (s.drv d).complete)
  let skip := s.carried.filter (fun d => !(s.drv d).complete)
  let s1 := forL skip (fun d t => t.skipDrive d) s
  let s2 := forL (List.range 16) (fun n t => t.laneSkips n) s1
  let s3 := forL run (fun d t => t.demandPath d) s2
  let s4 := (forL run (fun d t => t.controlPath d) s3).groupLane
  forL run (fun d t => t.endDrive d) (forL run (fun d t => t.tailPath d) s4)

/-! ## Hashes (R386) -/

/-- Points of class D that a drive commits every epoch. -/
def driveFields : List Field :=
  [.drvTorqueRefEff, .drvSpeedRefEff, .drvFbInUse, .drvIdState, .drvIdStep, .drvIdRsOhm, .drvIdSigmaLsH, .drvIdLmH,
   .drvIdTrS, .drvIdLdH, .drvIdLqH, .drvIdPsiVs, .drvIdAngle, .drvStatus, .drvSkipConsecutive, .drvSkipTotal,
   .drvCompEpochs, .drvSpeedEst, .drvSpeedSl, .drvAngleEst, .drvAngleSl, .drvSwitchAngleErr, .drvTorqueEst]
  ++ [.drvLoadTorqueEst, .drvLoadTorqueSlope, .drvFluxEst, .drvJEst, .drvI2t, .drvCapVmaxV, .drvCapSpeed, .drvCapTorque,
   .drvVcapRefEff, .drvRedExceeded, .drvRegime, .drvLimpCause, .drvHalting, .drvFaultCause, .drvShockCount,
   .drvCrashPhase, .drvReleaseState, .drvThermalFactor]

/-- Points of class D of a winding set. -/
def setFields : List Field := [.setId, .setIq, .setIdRef, .setIqRef, .setVd, .setVq, .setVmax]

/-- Points of class D of an arm. -/
def armFields : List Field :=
  [.armInService, .armLost, .armRefRaw, .armNIns, .armVSum, .armVAvg, .armVMin, .armVMax, .armEnergyPu, .armICircRef,
   .armICirc, .armRephase, .armPChopW, .armSwitchHz]

/-- Points of class D that the group lane commits for a drive, a shaft group and a power group. -/
def groupFields : List Field × List Field × List Field :=
  ([.drvPMechW, .drvPAllowW, .drvRegenPlacedW],
   [.shaftLeader, .shaftTorqueTotalNm, .shaftSpeedRadS, .shaftLoadTorqueNm, .shaftShareShortNm],
   [.pwrPavailW, .pwrPMotorW, .pwrBoActive, .pwrShedLevel, .pwrResStoredJ, .pwrResHeadroomJ, .pwrResOffset, .pwrChopCapW,
    .pwrSurplusW])

/-- The words of an arm's entry and of its cells' trims. -/
def State.entryWords (s : State) (a : ArmDesc) : List Nat :=
  let x := s.arm (armIx a)
  arWords x.entry ++ x.trims.flatMap (fun t => [t.1, (Word.ofInt (q15 t.2)).toNat])

/-- The values that a drive posts to the group lane and those that it takes from there. -/
def State.postedWords (s : State) (d : Nat) : List Nat :=
  let k := s.drv d
  [k.tDem, k.tGov, k.tShr, k.omega, k.tlHat, k.tl2, k.jHat, k.iLim, k.allow, k.brakeMax, k.chopW, k.resOff].map
    (fun x => (Config.laneWord x).toNat)

/-- The points that a drive commits. -/
def State.driveWords (s : State) (d : Nat) : List Nat :=
  driveFields.map (fun f => s.n f d)
  ++ (List.range (s.nSets d)).flatMap (fun k => setFields.map (fun f => s.n f (d * 4 + k)))
  ++ (s.driveArms d).flatMap (fun a => armFields.map (fun f => s.n f (armIx a)))

/-- Hash of a drive lane: of a drive that skipped only the entries, of a lane without a drive nothing. -/
def State.laneHash (s : State) (n : Nat) : Nat :=
  if !Arith.bit s.dev.lanesOk n then 0
  else Arith.fnv1a (Config.laneOrder ((s.laneDrives n).flatMap (fun d =>
    (s.driveArms d).flatMap s.entryWords ++ (if (s.drv d).complete then s.postedWords d ++ s.driveWords d else []))))

/-- Hash of the group lane. -/
def State.groupHash (s : State) : Nat :=
  if !Arith.bit s.dev.lanesOk 16 then 0
  else
    let (fd, fs, fp) := groupFields
    Arith.fnv1a (Config.laneOrder (s.carried.flatMap (fun d => s.postedWords d ++ fd.map (fun f => s.n f d))
      ++ (s.plant.shafts.map (·.group)).flatMap (fun g => fs.map (fun f => s.n f g))
      ++ s.plant.powers.flatMap (fun g => fp.map (fun f => s.n f g) ++ (List.range 4).map (fun j => s.n .pwrRouteW g j))))

/-- An empty lane and a group lane without work record the start value; `laneOrder` of nothing is nothing. -/
def State.hashOf (s : State) (n : Nat) : Nat :=
  if n = 16 then s.groupHash
  else if Arith.bit s.dev.lanesOk n && (s.laneDrives n).isEmpty then 0xCBF29CE484222325
  else s.laneHash n

/-- The 17 hashes of the epoch are kept for its record and published; the points of an empty lane read 0 (R536). -/
def State.hashLanes (s : State) : State :=
  let hs := (List.range 17).map s.hashOf
  let s1 := s.withJrn { s.jrn with hashes := hs }
  let s2 := forL (List.range 16) (fun n t => t.put64 .laneHash n (if (s.laneDrives n).isEmpty then 0 else hs.getD n 0)) s1
  s2.put64 .glHash 0 (hs.getD 16 0)

/-- One live epoch of the lanes after the input cut-off; without an active description there is nothing to compute. -/
def State.lanesRun (s : State) : State :=
  if s.dev.pdActive then s.judgeInputs.lanesCompute.hashLanes else s.hashLanes

end Sys2Proof.Machine
end

