-- ==== Sys2Proof/Machine/Frames.lean ====
section
/-!
DEFINITION. Frames.lean: the downstream send at 0.75 T_E (R67): epoch frames and link-up frames (sections 3.2 and 3.3),
trims, slow requests and directives in their order (R69, R89, R170), and what counts as sent afterwards.
-/
namespace Sys2Proof.Machine

/-! ## Time of the next boundary -/

/-- The next multiple of a period after an instant. -/
def nextMultiple (t p : Nat) : Nat := (t / p + 1) * p

/-- Device time of the next boundary: the next multiple of T_E after the present one, or after a step (R36, R47). -/
def State.nextT0 (s : State) : Nat := nextMultiple (s.clk.stepTo.getD s.clk.t0) s.te

/-- Time advances to an instant of the epoch in progress, which ends no later than at the next boundary (R47). -/
def State.advanceTo (s : State) (t : Nat) : State := s.advance (min t s.nextT0)

/-! ## Permit token (R75) -/

/-- Token and check of the present epoch; all zeros while the generator is stopped. -/
def State.token (s : State) : Nat × Nat :=
  if s.dev.tokenOn then (s.dev.permit, tokenCheck s.dev.permit s.epoch (s.n .pairGeneration)) else (0, 0)

/-! ## Directives (R170) -/

/-- Priority of a directive, lower first. -/
def dirPriority : Directive → Nat
  | .bypass _ | .gates _ => 0
  | .delay _ _ => 1
  | .version _ => 2
  | .assign _ _ => 3
  | .carrier _ _ => 4
  | .coast _ => 5
  | .charge => 6

/-- The end that serves a position, or during link-up the end that reached it. -/
def Rnd.endFor (x : Rnd) (p : Nat) : End :=
  if inRange x.rangeA p then .a
  else if inRange x.rangeB p then .b
  else if x.reachA.contains p then .a else .b

/-- Whether a CARRIER directive waits for its drive's next computed epoch (R177). Those of link-up step 4 do not. -/
def State.carrierHeld (s : State) (r : Nat) (e : DirEntry) : Bool :=
  match e.pos, e.dir with
  | some p, .carrier _ _ =>
    match s.armAt r p with
    | some a => s.roundServes r && decide (4 ≤ s.posState r p) && (s.laneOf a.drive).isSome && !(s.drv a.drive).complete
    | none => false
  | _, _ => false

/-- The entries of one end's frame: by priority, then by age, at most 8. An entry to every cell goes into both frames. -/
def State.dirsFor (s : State) (r : Nat) (e : End) : List DirEntry :=
  let x := s.rnd r
  let mine := x.dirq.filter (fun q => !s.carrierHeld r q && (match q.pos with | some p => x.endFor p == e | none => true))
  (sortBy (fun (a b : DirEntry) => decide (dirPriority a.dir ≤ dirPriority b.dir)) mine).take 8

/-- Device time at which a directive of the next frame of a round applies (R73). -/
def State.dirApplies (s : State) (r : Nat) : Nat := s.nextT0 + (if s.n .rndLate r = 1 then 2 else 1) * s.te

/-- A CARRIER that leaves: the offset of its cell, and when the last offset of its arm applies. -/
def State.carrierSent (s : State) (r p off : Nat) : State :=
  let s1 := s.putRnd r { s.rnd r with carriers := Tab.put none (s.rnd r).carriers p (some off) }
  match s1.armAt r p with
  | some a => s1.putArm (armIx a) { s1.arm (armIx a) with offsetsAt := s1.dirApplies r }
  | none => s1

/-- What a directive that leaves does to the records kept of it: offsets sent, final completions that wait for it, and the epochs in
which a bypass must be confirmed. -/
def State.dirSent (s : State) (r : Nat) (q : DirEntry) : State :=
  match q.pos, q.dir with
  | some p, .carrier off _ => s.carrierSent r p off
  | some p, .bypass on =>
    (if on then s.bypassSent r p else s).settle (fun f => f.wait == .directive (cellAt r p) 5) 0 noItem 0 (.commit s.epoch)
  | some p, .gates _ => s.settle (fun f => f.wait == .directive (cellAt r p) 6) 0 noItem 0 (.commit s.epoch)
  | _, _ => s

/-- The queue without one occurrence of each entry that left. -/
def State.dropSent (s : State) (r : Nat) (sent : List DirEntry) : State :=
  let x := s.rnd r
  let q := sent.foldl (fun (l : List DirEntry) e => l.erase e) x.dirq
  s.putRnd r { x with dirq := q, dirsSent := x.dirsSent || q.isEmpty }

/-! ## Trims (R69, R162, R164) -/

/-- Positions of the round's assigned cells that are present, ascending. -/
def State.trimCells (s : State) (r : Nat) : List Nat := (s.present r).filter (s.assigned r)

/-- The cells of this epoch's rotation: up to 32 after the last one sent. -/
def State.trimTurn (s : State) (r : Nat) : List Nat :=
  let cs := s.trimCells r
  let x := s.rnd r
  ((cs.filter (fun p => decide (x.trimPos < p))) ++ cs.filter (fun p => decide (p ≤ x.trimPos))).take 32

/-- The entry for one position. -/
def State.trimFor (s : State) (r p : Nat) : TrimEntry :=
  match s.armAt r p with
  | none => { pos := p, kind := 0, value := 0 }
  | some a =>
    let ix := armIx a
    let i := s.localIdx a p
    let x := s.arm ix
    let ph := s.z .armPtrim ix i
    if !(s.drv a.drive).complete || s.armMode a != 1 then { pos := p, kind := 0, value := 0 }
    else if s.n .pos (cellAt r p) 1 = 3 ∧ Tab.get 0 x.sent i ≠ ph then { pos := p, kind := 2, value := ph }
    else { pos := p, kind := 1, value := q15 (Tab.get 0 x.trims i) }

/-- A phase trim that left is the one last sent. -/
def State.trimSent (s : State) (r : Nat) (e : TrimEntry) : State :=
  if e.kind = 2 then
    match s.armAt r e.pos with
    | some a => s.putArm (armIx a) { s.arm (armIx a) with sent := Tab.put 0 (s.arm (armIx a)).sent (s.localIdx a e.pos) e.value }
    | none => s
  else s

/-! ## Arm entries (R66, R68, R154) -/

/-- Base phase of an entry that applies at an epoch. -/
def State.basePhase (s : State) (a : ArmDesc) (ea : Nat) : Nat :=
  let p := carrierPeriod (s.n .armCarrierCode (armIx a))
  ((Arith.round (65536 * (((ea % p : Nat) : Rat) / (p : Rat)))) + (s.n .armShift (armIx a) : Int)).toNat % 65536

/-- The entry of an arm as the frame carries it: mode 0 where the drive's gates are blocked, since the cut-off too (R181), where no
token flows, and for 8 ms after an unplanned takeover from warm protection (R422). -/
def State.armEntry (s : State) (a : ArmDesc) (offset : Nat) : ArmEntry :=
  let e := (s.arm (armIx a)).entry
  if !s.dev.tokenOn || !s.switching a.drive || e.mode = 0 || s.pair.blockUntil.isSome then .blocked (s.armSlot a)
  else if e.mode = 1 then { e with slot := s.armSlot a, phase := s.basePhase a (s.epoch + offset) }
  else { e with slot := s.armSlot a }

/-- Arms of a round with a cell in a range, in ascending slot. -/
def State.armsServed (s : State) (r : Nat) (g : Nat × Nat) : List ArmDesc :=
  (s.roundArms r).filter (fun a => (s.armPositions a).any (fun p => decide (g.1 ≤ p ∧ p ≤ g.2)))

/-! ## The frame of one end -/

/-- Whether a round sends link-up frames: every step before Active, and in Replay. -/
def State.linkupFrames (s : State) (r : Nat) : Bool := s.n .rndState r != 6 || s.mode == 7

/-- Whether steps 1 to 5 run on a segment at an end of an Active round (R103). -/
def Rnd.segmentAt (x : Rnd) (e : End) : Bool := x.step != 0 && x.seg == some e

/-- Whether an end sends link-up frames: with its round, or for its segment (R91). -/
def State.linkupEnd (s : State) (r : Nat) (e : End) : Bool := s.linkupFrames r || (s.rnd r).segmentAt e

/-- Positions that an end's header names: its range. Before link-up or a segment has one, those that the end has reached, of which
end A keeps the ones that both reached; an end without any names a range of nothing, `serve_hi` 0 from end A and `serve_lo` 255
from end B. So the two never overlap (R61; DESIGN CHOICE, log entry 113: no rule gives the fields before step 2). -/
def Rnd.headerRange (x : Rnd) (e : End) : Nat × Nat :=
  match x.range e with
  | some g => g
  | none =>
    let sort := sortBy (fun (a b : Nat) => decide (a ≤ b))
    match e with
    | .a => (rangeOf (sort x.reachA)).getD (1, 0)
    | .b => (rangeOf (sort (x.reachB.filter (fun p => !x.reachA.contains p)))).getD (255, 254)

/-- The frame of one end of a round (Table 3.2). -/
def State.frameFor (s : State) (r : Nat) (e : End) (trims : List TrimEntry) (slows : List SlowReq) : Frame :=
  let x := s.rnd r
  let g := x.headerRange e
  let offset := if s.n .rndLate r = 1 then 2 else 1
  let link := s.linkupEnd r e
  let (tok, chk) := if link then (0, 0) else s.token
  { franking := s.nextT0, epoch := s.epoch, generation := s.n .pairGeneration, token := tok, check := chk,
    offset := offset, setting := settingOf s.te, linkup := link, lo := g.1, hi := g.2,
    arms := if link then [] else (s.armsServed r g).map (fun a => s.armEntry a offset),
    trims := trims.filter (fun t => x.endFor t.pos == e), slows := slows.filter (fun q => x.endFor q.pos == e),
    dirs := s.dirsFor r e }

/-- Whether an end sends frames: in link-up every end that can, afterwards every end that serves a range or links a segment up. -/
def State.endSends (s : State) (r : Nat) (e : End) : Bool :=
  s.endOk2 r e && (s.n .rndState r != 6 || ((s.rnd r).range e).isSome || (s.rnd r).segmentAt e)

/-- Arms whose entries left with a mode other than 0 have started (R153). -/
def State.armsStarted (s : State) (r : Nat) (f : Frame) : State :=
  forL (s.roundArms r) (fun a t =>
    if f.arms.any (fun e => e.slot == t.armSlot a && e.mode != 0) then
      t.putArm (armIx a) { t.arm (armIx a) with started := true } else t) s

/-- The arm slot block of an entry that left in a frame: its words, the epoch and the arm (R537). -/
def State.slotPublish (s : State) (r epoch : Nat) (e : ArmEntry) : State :=
  let i := r * 16 + e.slot
  let s1 := (arWords e).zipIdx.foldl (fun t w => t.gather .slot i (Word.ofNat w.1) w.2) s
  let s2 := s1.gather .slot i (Word.ofNat epoch) 6
  match (s2.roundArms r)[e.slot]? with
  | some a => s2.gather .slot i (Word.ofNat a.id) 7
  | none => s2

/-- `rephase` counts the directives that are still to be sent (R171). -/
def State.rephaseCount (s : State) (r : Nat) : State :=
  forL (s.roundArms r) (fun a t => if (t.arm (armIx a)).phasing then t.putN .armRephase (armIx a) (t.carriersDue a).length else t) s

/-- Re-phasings end at the boundary at which their last offsets apply (R171, Table 5.7). -/
def State.rephased (s : State) : State :=
  forL s.plant.arms (fun a t =>
    let x := t.arm (armIx a)
    if x.phasing && (t.carriersDue a).isEmpty && decide (x.offsetsAt ≤ t.clk.t0) then
      (t.putArm (armIx a) { x with phasing := false }).raiseLane 0x0315 kDrive a.drive a.idx
    else t) s

/-- A frame leaves an end and reaches its cells. -/
def State.sendFrame (s : State) (r : Nat) (e : End) (f : Frame) : State :=
  let s1 := (s.emit (.frame r e f (frameWire f))).armsStarted r f
  (forL f.arms (fun x t => t.slotPublish r f.epoch x) s1).cellsReceive r e f

/-- One round's send: trims and requests are chosen, the frames of both ends leave, and what they carried counts as sent. -/
def State.sendRound (s : State) (r : Nat) : State :=
  let active := !s.linkupFrames r
  let s1 := if active then State.slowFill r 9 s else s
  let trims := if active then (s1.trimTurn r).map (s1.trimFor r) else []
  let slows := if active then ((s1.rnd r).txs.filter (fun t => t.age == 0)).map (·.req) else []
  let okA := s1.endSends r .a
  let okB := s1.endSends r .b
  let fa := s1.frameFor r .a trims slows
  let fb := s1.frameFor r .b trims slows
  let s2 := if okA then s1.sendFrame r .a fa else s1.emit (.blocks r .a [idleBlock])
  let s3 := if okB then s2.sendFrame r .b fb else s2.emit (.blocks r .b [idleBlock])
  let sent := (if okA then fa.dirs else []) ++ (if okB then fb.dirs.filter (fun q => !(okA && q.pos.isNone)) else [])
  let s4 := forL sent (fun q t => t.dirSent r q) (s3.dropSent r sent)
  let s5 := forL trims (fun q t => t.trimSent r q) s4
  let y := s5.rnd r
  (s5.putRnd r { y with sentA := if okA then y.rangeA else none, sentB := if okB then y.rangeB else none,
                        frameA := if okA then some fa else none, frameB := if okB then some fb else none,
                        trimPos := ((trims.getLast?).map (·.pos)).getD y.trimPos,
                        txs := y.txs.map (fun t => { t with age := t.age + 1 }) }).rephaseCount r

/-- A round that carries no frames: before a description names it, in Failed, and in Dormant (R46, R317). -/
def State.idleRound (s : State) (r : Nat) : State :=
  let y := s.rnd r
  ((s.putRnd r { y with sentA := none, sentB := none, frameA := none, frameB := none }).emit (.blocks r .a [idleBlock])).emit (.blocks r .b [idleBlock])

/-- A counterfoil follows the ranges that the principal's frames serve. -/
def State.followRound (s : State) (r : Nat) : State :=
  let s1 := (s.applyBreak r).judgeDelay r
  let x := s1.rnd r
  s1.putRnd r { x with sentA := x.rangeA, sentB := x.rangeB }

/-- What leaves a round at 0.75 T_E. A counterfoil sends nothing of its own (R406). -/
def State.sendAll (s : State) : State :=
  forL (List.range 16) (fun r t =>
    if !t.plant.rounds.contains r then t
    else if t.n .pairRole = 2 then t.followRound r
    else
      let t1 := (t.applyBreak r).judgeDelay r
      if t1.mode = 0 ∨ t1.n .rndState r = 7 then t1.idleRound r else t1.sendRound r) s

/-- Whether epochs are being processed: D1 runs and the firmware with it. -/
def State.ticking (s : State) : Bool := s.up && s.clk.running && s.clk.started

/-- DOWNSTREAM_SEND (R67): once in an epoch, after the input cut-off. -/
def execDownstreamSend (s : State) : Host.Outcome State Fault Refusal :=
  .next (if s.ticking ∧ s.clk.phase = 1 then
           let s1 := s.advance ((s.nextT0 - s.te / 4 + 3) / 4 * 4)
           (s1.withClk { s1.clk with phase := 2 }).sendAll
         else s)

end Sys2Proof.Machine
end

