-- ==== Sys2Proof/Machine/Journal.lean ====
section
/-!
DEFINITION. Journal.lean: the mailbag journal (sections 13.1 to 13.4) and the time-driven commands of the sorting
office (section 17.5).
-/
namespace Sys2Proof.Machine

/-! ## Bodies of sections (R382) -/

/-- Bytes as little-endian words, the last one filled up with zeros. -/
def wordsLE : Nat → List Byte → List Nat
  | 0, _ => []
  | n + 1, bs => if bs.isEmpty then [] else Arith.leNat (bs.take 4) :: wordsLE n (bs.drop 4)

/-- The words of a byte string. -/
def bodyWords (bs : List Byte) : List Nat := wordsLE bs.length bs

/-- The bytes of some words. -/
def wordBytes (ws : List Nat) : List Byte := ws.flatMap (Arith.leBytes 4)

/-- Bytes of a section: its header and a body padded to 8 bytes. -/
def sectionSize (words : Nat) : Nat := 8 + (words + 1) / 2 * 8

/-! ## Inputs of an epoch (R38, Table 13.2) -/

/-- Section 1, device inputs. -/
def State.secDevice (s : State) : InSec :=
  { kind := 1, unit := 0,
    words := [Arith.b2n s.dev.hostLost + 2 * Arith.b2n s.host.wdtExpired, s.n .devSafeCause,
              Arith.b2n s.dev.stoA + 2 * Arith.b2n s.dev.stoB,
              Config.watchdogFlags (s.n .devWakeCause) s.host.wdtExpired s.dev.supUp s.dev.logicUp] }

/-- Lowest and highest position that the ends of a round served in this epoch. -/
def Rnd.served (x : Rnd) : Nat × Nat :=
  match x.sentA, x.sentB with
  | some (a, _), some (_, d) => (a, d)
  | some g, none => g
  | none, some g => g
  | none, none => (0, 0)

/-- Positions with a valid slot in this epoch, ascending. -/
def Rnd.slotPositions (x : Rnd) : List Nat :=
  (List.range 256).filter (fun p => x.slots.contains (p * 2) || x.slots.contains (p * 2 + 1))

/-- Bytes 0–12 of a position's slot, as its points hold them (Tables 3.5 and 3.8). -/
def State.slotBytes (s : State) (r p : Nat) : List Byte :=
  let a := cellAt r p
  let st := s.n .cell a 0x0D
  Arith.leBytes 2 (s.n .cell a 0x0B) ++ Arith.leBytes 2 (s.n .cell a 0x0C) ++ Arith.leBytes 4 st
    ++ Arith.leBytes 4 (s.n .cell a (0x10 + st / 2 ^ 28))
    ++ Arith.leBytes 1 (((s.rnd r).codes.find? (fun c => c.2 == p)).map (·.1) |>.getD 0)

/-- Section 2, one round. -/
def State.secRound (s : State) (r : Nat) : InSec :=
  let x := s.rnd r
  let off2 := (x.frameA.any (fun f => f.offset == 2)) || (x.frameB.any (fun f => f.offset == 2))
  let status := Arith.b2n x.closedA + 2 * Arith.b2n x.closedB + 4 * Arith.b2n x.sentA.isSome + 8 * Arith.b2n x.sentB.isSome
    + 16 * Arith.b2n (s.n .rndLate r == 1) + 32 * Arith.b2n off2
  let ps := x.slotPositions
  { kind := 2, unit := r,
    words := bodyWords (Arith.leBytes 4 status ++ Arith.leBytes 1 x.served.1 ++ Arith.leBytes 1 x.served.2 ++ Arith.leBytes 2 0
      ++ (List.range 8).flatMap (fun k => Arith.leBytes 4 (bitmapWord k ps)) ++ ps.flatMap (fun p => s.slotBytes r p)) }

/-- Feedback channels that the description configures, ascending. -/
def State.fbUnits (s : State) : List Nat := (List.range 16).filter (fun n => s.unitOn 2 n)

/-- Section 3, feedback. -/
def State.secFeedback (s : State) : InSec :=
  { kind := 3, unit := 0,
    words := s.fbUnits.flatMap (fun n =>
      [s.n .fbPos n 0, s.n .fbPos n 1, s.n .fbEdgeTime n 0, s.n .fbEdgeTime n 1, s.n .fbStatus n, s.n .fbSpeedCps n,
       s.n .fbState n, 0]) }

/-- The analog points in the order of section 4. -/
def analogPts : List Pt :=
  (List.range 16).map (fun k => ⟨.sdmValue, k, 0⟩) ++ (List.range 8).map (fun k => ⟨.ainValue, k, 0⟩)
  ++ (List.range 6).map (fun k => ⟨.devThermalTempC, 0, k⟩) ++ (List.range 12).map (fun k => ⟨.txTempC, k, 0⟩)
  ++ [⟨.supVctlAV, 0, 0⟩, ⟨.supVctlBV, 0, 0⟩, ⟨.supHoldupV, 0, 0⟩]
  ++ (List.range 8).map (fun k => ⟨.supRailV, 0, k⟩) ++ [⟨.vauxVauxV, 0, 0⟩]

/-- Section 4, analog: the raw words of the sampled points. -/
def State.secAnalog (s : State) : InSec :=
  { kind := 4, unit := 0, words := analogPts.map (fun p => (Store.get s.pts p).toNat) }

/-- Section 5, discrete. -/
def State.secDiscrete (s : State) : InSec :=
  { kind := 5, unit := 0, words := [s.n .hwDi % 65536, s.n .hwDoState % 256] }

/-- One received frame in section 6. -/
def canItem (c : Nat) (f : RxFrame) : List Byte :=
  Arith.leBytes 1 c ++ Arith.leBytes 1 (Arith.b2n f.frame.fd + 2 * Arith.b2n f.frame.brs + 4 * Arith.b2n f.frame.ext)
  ++ Arith.leBytes 2 f.obj ++ Arith.leBytes 4 f.frame.id ++ Arith.leBytes 8 f.t ++ Arith.leBytes 1 f.frame.data.length
  ++ Arith.leBytes 7 0 ++ f.frame.data ++ List.replicate ((8 - f.frame.data.length % 8) % 8) 0

/-- Section 6, CAN: the frames received for this epoch. -/
def State.secCan (s : State) : InSec :=
  { kind := 6, unit := 0, words := bodyWords ((List.range 4).flatMap (fun c => (s.can c).rx.flatMap (canItem c))) }

/-- Sections 1 to 6 of the present epoch; a section without items is omitted (R382). -/
def State.inputSections (s : State) : List InSec :=
  ([s.secDevice] ++ (s.plant.rounds.filter (fun r => s.n .rndState r == 6)).map s.secRound
    ++ [s.secFeedback, s.secAnalog, s.secDiscrete, s.secCan]).filter (fun x => !x.words.isEmpty)

/-! ## Records (R381, R384, R385) -/

/-- Whether the device records (R381). -/
def State.records (s : State) : Bool := s.up && (let m := s.mode; 1 ≤ m && m ≤ 6)

/-- Bytes of an epoch record (R382, Table 13.2). -/
def epochBytes (inputs : List InSec) (cmds : List Applied) : Nat :=
  32 + (inputs.map (fun x => sectionSize x.words.length)).sum
    + (if cmds.isEmpty then 0 else sectionSize ((cmds.map (fun c => 4 + 2 * c.items.length)).sum))
    + sectionSize 34

/-- The epoch record of the present epoch (Table 13.1). `flags`: [0] takeover interval, [3] unfed. -/
def State.epochRecord (s : State) (flags : Nat) : MailRec :=
  let n := epochBytes s.jrn.inputs s.jrn.applied
  { kind := 1, flags := flags + 2 * Arith.b2n s.jrn.modeChanged + 4 * Arith.b2n s.jrn.gap, epoch := s.epoch, time := s.clk.t0,
    mode := s.mode, cmds := s.jrn.applied, hashes := s.jrn.hashes, inputs := s.jrn.inputs, state := [],
    image := .none, digest := [], kernel := 0, bytes := n, stored := Config.storedSize n s.epoch }

/-- A checkpoint after the present epoch (R384). -/
def State.checkpoint (s : State) : MailRec :=
  let n := Config.checkpointSize s.epoch
  { kind := 2, flags := 0, epoch := s.epoch, time := s.clk.t0, mode := s.mode, cmds := [], hashes := [], inputs := [],
    state := s.heldPts, image := s.image, digest := [], kernel := 0, bytes := n,
    stored := Config.storedSize n s.epoch }

/-- A configuration record (R385). -/
def State.configRecord (s : State) : MailRec :=
  { kind := 3, flags := 0, epoch := s.epoch, time := s.clk.t0, mode := s.mode, cmds := [], hashes := [], inputs := [],
    state := [], image := .none, digest := s.dev.pdDigest, kernel := Config.kernelVersion.toNat, bytes := 88,
    stored := Config.storedSize 88 s.epoch }

/-! ## The partition (R387, R388, R390) -/

def storedSum (recs : List MailRec) : Nat := (recs.map (·.stored)).sum

/-- Bytes of the partition. -/
def State.partition (s : State) : Nat := s.n .jrnPartitionGib * 2 ^ 30

/-- Stored bytes of the captures held. -/
def State.capturedBytes (s : State) : Nat := (s.jrn.caps.map (fun e => storedSum e.2.recs)).sum

/-- Discards the oldest records up to the next checkpoint; a window without another checkpoint stays. -/
def discardOldest (live : List MailRec) : List MailRec :=
  let r := (live.drop 1).dropWhile (fun m => m.kind != 2)
  if r.isEmpty then live else r

/-- The live window fits the space that the captures leave. -/
def fitLive (cap : Nat) : Nat → List MailRec → List MailRec
  | 0, l => l
  | n + 1, l => if storedSum l ≤ cap then l else fitLive cap n (discardOldest l)

def State.fitWindow (s : State) : State :=
  s.withJrn { s.jrn with live := fitLive (s.partition - s.capturedBytes) s.jrn.live.length s.jrn.live }

/-- Moves the start of a capture to a later checkpoint while the captures exceed half the partition (R390). -/
def State.shortenCapture (i : Nat) : Nat → State → State
  | 0, s => s
  | n + 1, s =>
    let c := s.capture i
    let r := discardOldest c.recs
    if s.partition < 2 * s.capturedBytes ∧ r.length < c.recs.length then
      State.shortenCapture i n (s.putCapture i { c with recs := r, first := (r.head?.map (·.epoch)).getD 0 })
    else s

/-- A record is appended to the live window and to the capture that still records. -/
def State.append (s : State) (m : MailRec) : State :=
  let s1 := s.withJrn { s.jrn with live := s.jrn.live ++ [m] }
  match s1.jrn.caps.find? (fun e => e.2.recording && decide (m.epoch ≤ e.2.post)) with
  | some (i, c) =>
    let s2 := s1.putCapture i { c with recs := c.recs ++ [m], last := max c.last m.epoch }
    let s3 := State.shortenCapture i (c.recs.length + 1) s2
    if (s3.capture i).recs.length < c.recs.length + 1 then s3.raise 0x0B02 kDevice 0 0 else s3
  | none => s1

/-- Bytes recorded in the last second, by a measure of records. -/
def State.lastSecond (s : State) (f : MailRec → Nat) : Nat :=
  ((s.jrn.live.filter (fun m => decide (s.clk.t0 < m.time + 1000000000))).map f).sum

/-- Publishes span and rates (R388). -/
def State.jrnFigures (s : State) : State :=
  let s1 := match s.jrn.live.find? (fun m => m.kind == 2) with
    | some c => s.putN .jrnSpanMs 0 ((s.clk.t0 - (c.time + s.te)) / 1000000)
    | none => s.putN .jrnSpanMs 0 0
  ((s1.putR .jrnRawBps 0 (s1.lastSecond (·.bytes))).putR .jrnStoredBps 0 (s1.lastSecond (·.stored))).jrnPublish

/-- Writes a configuration record, followed at once by a checkpoint (R385). -/
def State.writeConfig (s : State) : State :=
  let m := s.configRecord
  let s1 := (s.withJrn { s.jrn with configs := s.jrn.configs ++ [m] }).append m
  s1.append s1.checkpoint

/-- Whether a checkpoint follows the epoch record of this epoch (R384, R387). -/
def State.ckptNow (s : State) : Bool :=
  let k := s.n .jrnCkptMs * 1000000 / s.te
  s.jrn.ckptDue || s.epoch % k == 0

/-- Records the epoch after its commit (R381). -/
def State.recordEpoch (s : State) (flags : Nat) : State :=
  if s.records then
    let s1 := s.append (s.epochRecord flags)
    let s2 := if s1.jrn.configs.isEmpty then s1.writeConfig
              else if s1.ckptNow then s1.append s1.checkpoint else s1
    let s3 := s2.withJrn { s2.jrn with ckptDue := false, gap := false, applied := [], modeChanged := false, inputs := [] }
    s3.fitWindow.jrnFigures
  else s.withJrn { s.jrn with applied := [], modeChanged := false, inputs := [] }

/-! ## Captures (R389 to R391) -/

/-- JOURNAL_TRIGGER: a trigger event or Safe entry at a time opens or extends a capture with the windows of the points
(R389). -/
def execJournalTrigger (t : Nat) (s : State) : Host.Outcome State Fault Refusal :=
  .next (if s.up then (s.captureTrigger (s.epochAt t) (s.n .jrnPreMs) (s.n .jrnPostMs)).1 else s)

/-- The post-window of a capture is recorded: the capture is complete and the commands that wait for it are too. -/
def State.journalFrozen (s : State) (i : Nat) : State :=
  let c := s.capture i
  if c.held ∧ c.recording ∧ c.post ≤ c.last then
    let s1 := (s.putCapture i { c with recording := false }).jrnPublish
    (s1.settle (fun f => f.wait == .capture i) 0 noItem 0 .ready).raise 0x0B01 kDevice 0 i
  else s

def execJournalFrozen (i : Fin 4) (s : State) : Host.Outcome State Fault Refusal := .next (s.journalFrozen i)

/-- Merges records back by epoch; records that both hold stand once. -/
def mergeRecs (a b : List MailRec) : List MailRec :=
  let old := (b.headD { kind := 0, flags := 0, epoch := 0, time := 0, mode := 0, cmds := [], hashes := [], inputs := [],
                        state := [], image := .none, digest := [], kernel := 0, bytes := 0, stored := 0 }).epoch
  a.filter (fun m => decide (m.epoch < old)) ++ b

/-- JOURNAL_RELEASE at the commit of its apply-epoch (R391). -/
def State.journalReleaseDo (s : State) : State :=
  let free := s.jrn.caps.filter (fun e => e.2.held && !e.2.recording && !(s.jrn.exports.any (fun x => x.cap == some e.1)))
  if free.isEmpty then s.raise 0x0B05 kDevice 0 0
  else
    let s1 := forL free (fun e t =>
      let live := if t.jrn.live.isEmpty then e.2.recs else mergeRecs e.2.recs t.jrn.live
      ((t.withJrn { t.jrn with live := live }).putCapture e.1 Capture.init).putN .jcapTriggers e.1 0) s
    s1.fitWindow.jrnFigures.raise 0x0B05 kDevice 0 free.length

/-! ## Export (R392, R393) -/

/-- The records of a window that an export of epochs `first` to `last` sends, none when the window does not hold them. -/
def exportRecs (recs : List MailRec) (first last : Nat) : Option (List MailRec) :=
  let cks := recs.filter (fun m => m.kind == 2 && decide (m.epoch ≤ first))
  let has := recs.any (fun m => m.kind == 1 && m.epoch == last)
  match cks.getLast? with
  | some c =>
    if has ∧ first ≤ last then
      some ((recs.dropWhile (fun m => !(m.kind == 2 && m.epoch == c.epoch))).filter
        (fun m => decide (m.epoch < last) || (m.kind == 1 && m.epoch == last)))
    else none
  | none => none

/-- Where an export finds its range: a held capture, or the live window (R392). -/
def State.exportRange (s : State) (first last : Nat) : Option (Option Nat × List MailRec) :=
  match s.jrn.caps.find? (fun e => e.2.held && (exportRecs e.2.recs first last).isSome) with
  | some (i, c) => (exportRecs c.recs first last).map (fun l => (some i, l))
  | none => (exportRecs s.jrn.live first last).map (fun l => (none, l))

/-- The configuration record in force at the first checkpoint of some records. -/
def State.configFor (s : State) (recs : List MailRec) : List MailRec :=
  let e := (recs.head?.map (·.epoch)).getD 0
  ((s.jrn.configs.filter (fun m => decide (m.epoch ≤ e))).getLast?).toList

/-- JOURNAL_EXPORT takes effect: the records it will send are fixed, which protects them from discard (R392). -/
def State.journalExportDo (s : State) (cmd : Cmd) (range : Option Nat × List MailRec) : State :=
  (s.withJrn { s.jrn with exports := s.jrn.exports ++
    [{ cmd := cmd, recs := s.configFor range.2 ++ range.2, first := true, cap := range.1 }] }).jrnPublish

/-- Whole records that fit a block. -/
def fitBlock : Nat → List MailRec → List MailRec
  | _, [] => []
  | room, m :: ms => if m.bytes ≤ room then m :: fitBlock (room - m.bytes) ms else []

/-- The running export ends with a status; the next one may start. -/
def State.endExport (s : State) (status : Nat) : State :=
  match s.jrn.exports with
  | [] => s
  | x :: xs =>
    ((s.withJrn { s.jrn with exports := xs }).settle (fun f => f.wait == .exported && f.cmd == x.cmd) status noItem 0
      .ready).jrnPublish

/-- JOURNAL_EXPORT_BLOCK: one block is written to ring 20 when it has room; a record too long for a slot ends the export
with FORMAT (R393). -/
def State.exportBlock (s : State) : State :=
  let r := s.ring 20
  match s.jrn.exports with
  | [] => s
  | x :: xs =>
    if r.live ∧ 0 < r.room ∧ ¬x.recs.isEmpty then
      let blk := fitBlock (r.entryBytes - 64) x.recs
      if blk.isEmpty then s.endExport 0x0202
      else
        let rest := x.recs.drop blk.length
        let epochs := blk.map (·.epoch)
        let flags := Arith.b2n x.first + 2 * Arith.b2n rest.isEmpty + 4 * Arith.b2n ((blk.head?.map (·.kind)) == some 3)
        let s1 := s.withJrn { s.jrn with exports := { x with recs := rest, first := false } :: xs }
        (s1.emit (.exportBlock (r.seq + 1) (epochs.foldl min (epochs.headD 0)) (epochs.foldl max 0) flags blk)).ringWrote 20
    else s

def execJournalExportBlock (s : State) : Host.Outcome State Fault Refusal := .next s.exportBlock

/-- JOURNAL_EXPORT_DONE: the last block is sealed (R392, Table 13.6). -/
def execJournalExportDone (s : State) : Host.Outcome State Fault Refusal :=
  .next (match s.jrn.exports with
    | x :: _ => if x.recs.isEmpty then (s.endExport 0).raise 0x0B06 kDevice 0 0 else s
    | [] => s)

/-! ## Loss (R387) -/

/-- JOURNAL_LOST: an uncorrectable memory error loses the epoch records of some epochs; a checkpoint follows the next
record, which carries flag [2]. -/
def State.journalLose (s : State) (lost : List Nat) : State :=
  let keep := fun (ms : List MailRec) => ms.filter (fun m => !(m.kind == 1 && lost.contains m.epoch))
  ((s.withJrn { s.jrn with live := keep s.jrn.live, caps := s.jrn.caps.map (fun e => (e.1, { e.2 with recs := keep e.2.recs })),
                           ckptDue := true, gap := true }).addN .jrnLost 0 lost.length).raise
    0x0B04 kDevice 0 lost.length

def execJournalLost (lost : List Nat) (s : State) : Host.Outcome State Fault Refusal :=
  .next (if s.up then s.journalLose lost else s)

/-! ## The sorting office (R484 to R489) -/

/-- SORTING_REPORT: a report of a unit with its code, reporter, parameter and timestamp. -/
def execSortingReport (code kind idx param t : Nat) (s : State) : Host.Outcome State Fault Refusal :=
  .next (if s.up then s.raiseAt code kind idx param t else s)

/-- Start of the epoch that contains an instant. -/
def State.epochStart (s : State) (t : Nat) : Nat :=
  if s.clk.t0 ≤ t then s.clk.t0 + (t - s.clk.t0) / s.te * s.te else s.clk.t0 - (s.clk.t0 - t + s.te - 1) / s.te * s.te

/-- When a postmark closes (R486): 1 µs after its window, or, for rounds and cells, at the input cut-off of the epoch in
which its window ends. -/
def State.closeTime (s : State) (p : Postmark) : Nat :=
  if p.kind = kRound ∨ p.kind = kCell then s.epochStart (p.t1 + p.w) + s.te * 2 / 5 else p.t1 + p.w + 1000

/-- Closes every postmark that is due at an instant, in ascending t1, then code (R487). -/
def State.closeDue (s : State) (t : Nat) : State :=
  let due := s.so.opened.filter (fun p => decide (s.closeTime p ≤ t))
  let s1 := s.withSo { s.so with opened := s.so.opened.filter (fun p => !decide (s.closeTime p ≤ t)) }
  forL due (fun p u => u.closePostmark p false) s1

/-- POSTMARK_CLOSE: the postmarks whose windows have ended at an instant become records. -/
def execPostmarkClose (t : Nat) (s : State) : Host.Outcome State Fault Refusal :=
  .next (if s.up then (s.advance t).closeDue t else s)

/-- EVENT_RECORD_DRAIN: records that wait are written while their event ring has room (R347). -/
def execEventRecordDrain (s : State) : Host.Outcome State Fault Refusal :=
  .next (State.drain 48 1024 (State.drain 16 1024 s))

/-- SO_RING_OVERFLOW: the queue of a ring that discarded records has room again (R489). -/
def State.ringOverflow (s : State) (agent : Nat) : State :=
  let lost := if agent = 0 then s.so.lost0 else s.so.lost1
  let q := if agent = 0 then s.so.q0 else s.so.q1
  if lost ≠ 0 ∧ q.length < 1024 then
    let s1 := s.withSo (if agent = 0 then { s.so with lost0 := 0 } else { s.so with lost1 := 0 })
    s1.raise 0x0C61 kRing 16 (lost % 2 ^ 31 + 2 ^ 31 * agent)
  else s

def execSoRingOverflow (agent : Agent) (s : State) : Host.Outcome State Fault Refusal :=
  .next (s.ringOverflow (agentNo agent))

end Sys2Proof.Machine
end

