-- ==== Sys2Proof/Machine/Apply.lean ====
section
/-!
DEFINITION. Apply.lean: a write of one point: the checks of Table 11.8 that concern a point (R29, R184, R197 and the
rules that the point tables name), and what the write does at its apply-epoch.
-/
namespace Sys2Proof.Machine

def stLate : Nat := 0x0101
def stSuperseded : Nat := 0x0102
def stFormat : Nat := 0x0202
def stVersion : Nat := 0x0203
def stOwner : Nat := 0x0302
def stFull : Nat := 0x0401
def stNoCell : Nat := 0x0402

/-- The status that a condition gives when it does not hold. -/
def need (ok : Bool) (status : Nat) : Nat := if ok then 0 else status

/-- The first status that is not OK. -/
def firstBad : List Nat → Nat
  | [] => 0
  | a :: r => if a = 0 then firstBad r else a

/-! ## Range (check 4) -/

/-- Whether an agent could ever write the point by a command. -/
def State.commandable (s : State) (p : Pt) : Bool :=
  match (entry p.f).wr with
  | .d | .c => false
  | .canData => s.n .objDir p.i == 1
  | _ => true

/-- Values that a rule forbids beside the range of the catalogue. -/
def State.valueOk (s : State) (p : Pt) (w : Word) : Bool :=
  let v := w.toNat
  match p.f with
  | .drvCtrlMode => s.ctrlModeOk p.i v
  | .shaftCtrlMode => v != 3 && (v != 2 || (s.engineOf 3 p.i).isSome)
  | .drvShockResp => v != 3 || s.z .drvHaulSign p.i != 0
  | .drvRenderCmd => v != 1 || s.z .drvHaulSign p.i != 0
  | .shaftRenderCmd => v != 1 || (s.shaftMembers p.i).all (fun d => s.z .drvHaulSign d != 0)
  | .drvFbUse => v == 0 || (s.driveFb p.i).isSome
  | .axisUstep => ([1, 2, 4, 8, 16, 32, 64, 128, 256] : List Nat).contains v
  | .ptSrc => decide (v ≤ 15) || v == 0xFF
  | .cmpDoPin => decide (v ≤ 7) || v == 0xFF
  | .cmpToken | .prfStartToken => decide (v ≤ 31) || v == 0xFF
  | .prfHomeDir => w.toInt == 1 || w.toInt == -1
  | _ => true

/-- Check 4 for one item: the index is defined and the value lies in range (R23, R29). -/
def State.itemRange (s : State) (x : Nat) (w : Word) : Nat :=
  if x < 2 ^ 23 ∧ s.defined x then
    match s.pointAt x with
    | some p => if s.commandable p then need (s.inRangePt p w && s.valueOk p w) stRange else 0
    | none => 0
  else stRange

/-- Check 5 for one item: the agent owns the point (R29), the pin is not a compare unit's (R247), the load is not a
brake in use (R274). A spare point has no writer (R22). -/
def State.itemOwner (s : State) (agent x : Nat) : Nat :=
  match s.pointAt x with
  | some p =>
    need (s.ownsPt agent p && (p.f != .hwDo || s.doWriteOk p.i) && (p.f != .axisOnCmd || s.onCmdFree p.i)) stOwner
  | none => stOwner

/-! ## Mode, regime and Change conditions (check 6) -/

/-- Drive whose regime the Change condition of a point asks for. -/
def driveOf (p : Pt) : Nat :=
  match (entry p.f).home with
  | .set => p.i / 4
  | .arm => p.i / 24
  | _ => p.i

/-- The Change condition of a point (R29): Stopped means regime Stopped with `halting` 0; an axis is stopped while it
commands no motion. -/
def State.changeOk (s : State) (p : Pt) : Bool :=
  match (entry p.f).chg with
  | .never => false
  | .any => true
  | .stopped => s.regime (driveOf p) == 0 && !s.halting (driveOf p)
  | .configure => s.mode == 1
  | .confReady => s.mode == 1 || s.mode == 2
  | .idle => s.n .prfState p.i == 0
  | .stoppedAxis => let x := s.ax p.i; x.pos == x.next && x.next == x.after

/-- Points of a drive that its shaft group's points replace (R197). -/
def groupPoint (f : Field) : Bool :=
  f == .drvRunCmd || f == .drvCtrlMode || f == .drvSpeedRef || f == .drvTorqueRef || f == .drvRenderCmd
  || f == .drvCrashCmd || f == .drvReleaseCmd

/-- Whether a drive admits a value of one of its regime commands (Table 6.2, R219 to R221). -/
def State.regimeOk (s : State) (f : Field) (d v : Nat) : Bool :=
  match f, v with
  | .drvRunCmd, 0 => s.runOffOk d
  | .drvRunCmd, _ => s.runOnOk d
  | .drvBlockCmd, 0 => s.blockOffOk d
  | .drvBlockCmd, _ => true
  | .drvFaultReset, 1 => s.faultResetOk d
  | .drvFaultReset, _ => false
  | .drvRenderCmd, 0 => s.renderOffOk d
  | .drvRenderCmd, _ => s.renderOnOk d
  | .drvCrashCmd, 0 => s.crashOffOk d
  | .drvCrashCmd, _ => s.crashOnOk d
  | .drvReleaseCmd, 1 => s.armOk d
  | .drvReleaseCmd, 2 => s.releaseOk d
  | .drvReleaseCmd, _ => s.endOk d
  | _, _ => true

/-- What an admitted regime command does. -/
def State.regimeDo (s : State) (f : Field) (d v : Nat) : State :=
  match f, v with
  | .drvRunCmd, 0 => s.runOff d
  | .drvRunCmd, _ => s.runOn d
  | .drvBlockCmd, 0 => s.blockOff d
  | .drvBlockCmd, _ => s.blockOn d
  | .drvFaultReset, _ => s.faultResetDo d
  | .drvRenderCmd, 0 => s.renderOff d
  | .drvRenderCmd, _ => s.renderOn d
  | .drvCrashCmd, 0 => s.crashOff d
  | .drvCrashCmd, _ => s.crashOn d
  | .drvReleaseCmd, 1 => s.releaseArmDo d
  | .drvReleaseCmd, 2 => s.releaseDo d
  | .drvReleaseCmd, _ => s.endDo d
  | _, _ => s

/-- The drive command that a group's command point stands for (R197). -/
def groupCmd (f : Field) : Option Field :=
  match f with
  | .shaftRunCmd => some .drvRunCmd
  | .shaftRenderCmd => some .drvRenderCmd
  | .shaftCrashCmd => some .drvCrashCmd
  | .shaftReleaseCmd => some .drvReleaseCmd
  | _ => none

/-- Members of a group whose regime admits a group command. -/
def State.admitting (s : State) (f : Field) (g v : Nat) : List Nat :=
  (s.shaftMembers g).filter (fun d => s.regimeOk f d v)

/-- The reason that counts for an entry into Override: written non-zero in this epoch, before the mode command or after it (R314). -/
def State.reasonNow (s : State) : Nat :=
  if s.dev.reasonEpoch = some s.epoch then s.n .devOverrideReason else s.dev.reasonDue

/-- State of the plant that a value is judged against (check 6, and the ranges that other points bound). -/
def State.stateStatus (s : State) (p : Pt) (w : Word) : Nat :=
  let v := w.toNat
  match p.f with
  | .devModeCmd => s.modeJudge v s.reasonNow
  | .drvHoldILimit => need (decide ((entry p.f).ty.dec w ≤ s.r .drvITrip p.i - 10)) stRange
  | .prfTargetV => need (decide (Arith.absR ((entry p.f).ty.dec w) ≤ s.r .prfVMax p.i)) stRange
  | .axisBoostDev => need (decide ((entry p.f).ty.dec w < s.r .axisStallDev p.i)) stRange
  | .axisStallDev => need (decide (s.r .axisBoostDev p.i < (entry p.f).ty.dec w)) stRange
  | .drvIdentCmd => need (v != 1 || s.identOk p.i) stMode
  | .drvHostReclaim => need (v == 0 || s.reclaimOk p.i) stMode
  | .prfCmd => s.engCmdStatus p.i v
  | .fbClearCmd => need (v == 0 || s.fbClearOk p.i) stMode
  | .auxClearCmd => need (v == 0 || s.auxClearOk p.i) stMode
  | .vauxChopClearCmd => need (v == 0 || s.auxClearOk 12) stMode
  | .drvRunCmd | .drvBlockCmd | .drvFaultReset | .drvRenderCmd | .drvCrashCmd | .drvReleaseCmd =>
    need (s.regimeOk p.f p.i v) stMode
  | f => match groupCmd f with
    | some h => need (!(s.admitting h p.i v).isEmpty) stMode
    | none => 0

/-- The status of one item at its apply-epoch against the state that earlier writes have left; 0 when it is admitted. -/
def State.itemMode (s : State) (x : Nat) (w : Word) : Nat :=
  match s.pointAt x with
  | some p =>
    firstBad [need (s.changeOk p) stMode, need (!(groupPoint p.f && (s.shaftOf p.i).isSome)) stMode, s.stateStatus p w]
  | none => 0

/-! ## Effects -/

/-- A new control mode of a group: every member's next demand equals its last effective torque (R115, R197). -/
def State.setShaftMode (s : State) (g v : Nat) : State :=
  if s.n .shaftCtrlMode g = v then s
  else forL (s.shaftMembers g) (fun d t => t.putDrv d { t.drv d with preset := true }) (s.putN .shaftCtrlMode g v)

/-- A send command of an object waits for the commit of its epoch (R437). -/
def State.canSendDue (s : State) (i : Nat) : State :=
  let x := s.can (i / 256)
  s.putCan (i / 256) { x with sendDue := x.sendDue ++ [i % 256] }

/-- The effect of an admitted write of one point. -/
def State.writeEffect (s : State) (p : Pt) (w : Word) : State :=
  let v := w.toNat
  let s1 := s.put p.f p.i w p.j
  match p.f with
  | .devModeCmd => s.modeDo v s.reasonNow
  | .devWakeMask => s.putN .devWakeMask p.i (v % 128 + 128)
  | .devOverrideReason => if v = 0 then s1 else s1.withDev { s1.dev with reasonEpoch := some s1.epoch }
  | .drvCtrlMode => s.setCtrlMode p.i v
  | .shaftCtrlMode => s.setShaftMode p.i v
  | .shaftSpeedRef => s1.putShaft p.i { s1.shaft p.i with zeroRef := false }
  | .drvFbUse => s.setFbUse p.i v
  | .drvJKgm2 =>
    (s1.putDrv p.i { s1.drv p.i with jHat := s1.r .drvJKgm2 p.i }).putR .drvJEst p.i (s1.r .drvJKgm2 p.i)
  | .drvIdentCmd => if v = 1 then s.identDo p.i else s.identAbortDo p.i
  | .drvHostReclaim => if v = 1 then s.reclaim p.i else s1
  | .prfCmd => s.engCmd p.i v
  | .prfIssueToken => s.issueTok p.i v
  | .fbClearCmd => if v = 1 then s1.fbClear p.i else s1
  | .prfOrigin => s1.engRebase p.i
  | .cmpEnable => s1.cmpEnableDo p.i v
  | .auxClearCmd => if v = 1 then s1.auxClear p.i else s1
  | .vauxChopClearCmd => if v = 1 then s1.auxClear 12 else s1
  | .encPwrMode => s.encPwr p.i v
  | .canMode => s.canModeWrite p.i v
  | .objTxCmd => if v = 1 then s1.canSendDue p.i else (s1.canAbortObj (p.i / 256) (p.i % 256)).1
  | .drvRunCmd | .drvBlockCmd | .drvFaultReset | .drvRenderCmd | .drvCrashCmd | .drvReleaseCmd => s1.regimeDo p.f p.i v
  | f => match groupCmd f with
    | some h => forL (s.admitting h p.i v) (fun d t => t.regimeDo h d v) s1
    | none => s1

/-- A write of an agent takes effect: the point and what hangs on it, a guard on it is fresh (Table 17.2), and a host
write ends a CAN map of the point (R449). -/
def State.applyItem (s : State) (agent x : Nat) (w : Word) (cmd : Option Nat) (item : Nat) : State :=
  match s.pointAt x with
  | some p =>
    let s1 := ((s.writeEffect p w).guardTouch p).logWrite cmd item p
    if agent = 0 then s1.mapEnds x else s1
  | none => s

/-- What a write with a mask makes of a word; a plain write has the mask of all ones (Table 11.7). -/
def masked (old mask value : Word) : Word := (old &&& ~~~mask) ||| (value &&& mask)

/-- The value that an item writes, from what every earlier write of the epoch has left. -/
def State.newValue (s : State) (e : Nat × Word × Word) : Word := masked (s.readAt s.pts e.1) e.2.1 e.2.2

/-- Applies the items of one write, each with its mask, in payload order, or none of them: the state after and the values
written, or the status and index of the first item refused (R344). -/
def State.applyItems (agent : Nat) (cmd : Option Nat) :
    List (Nat × Word × Word) → Nat → List (Nat × Nat) → State → Except (Nat × Nat) (State × List (Nat × Nat))
  | [], _, done, s => .ok (s, done)
  | e :: r, k, done, s =>
    let w := s.newValue e
    let st := firstBad [s.itemRange e.1 w, s.itemMode e.1 w]
    if st = 0 then State.applyItems agent cmd r (k + 1) (done ++ [(e.1, w.toNat)]) (s.applyItem agent e.1 w cmd k)
    else .error (st, k)

/-- First item, in payload order, that a check refuses. -/
def firstItem {α : Type} (check : α → Nat) : List α → Nat → Nat × Nat
  | [], _ => (0, noItem)
  | a :: r, k => if check a = 0 then firstItem check r (k + 1) else (check a, k)

/-- Whether a point was written in this epoch. -/
def State.wrote (s : State) (f : Field) (i : Nat) : Bool := s.host.wlog.any (fun e => e.pt.f == f && e.pt.i == i)

/-- Engines whose limits were written in this epoch replan (R256). -/
def State.newLimits (s : State) : State :=
  forN 48 (fun e t =>
    if s.wrote .prfVMax e || s.wrote .prfAMax e || s.wrote .prfDMax e || s.wrote .prfJMax e then t.engNewLimits e
    else t) s

/-- What the writes of an epoch do once all commands have applied: a compare value loads with both of its words (R248),
`device.time_set` steps the time (R47), new limits replan an engine (R256). -/
def State.afterWrites (s : State) : State :=
  let s1 := forN 32 (fun u t => if s.wrote .cmpValue u then t.cmpLoad u (t.z64 .cmpValue u) else t) s
  (if s.wrote .devTimeSet 0 then s1.timeSetDo (s1.n64 .devTimeSet) else s1).newLimits

/-- The maps of the CAN controllers write the points of drives on the backup path, after every other command of the
epoch; a write that its point does not admit is not made (R13, R449). -/
def State.mapsWrite (s : State) : State :=
  forN 4 (fun c t =>
    forL (t.mapWrites c) (fun e u =>
      if u.itemRange e.1 e.2 = 0 ∧ u.itemMode e.1 e.2 = 0 then u.applyItem 2 e.1 e.2 none 0 else u) t) s

end Sys2Proof.Machine
end

