-- ==== Sys2Proof/Machine/Cpls.lean ====
section
/-!
DEFINITION. Cpls.lean: completions (sections 11.7 and 11.8): acceptance notices, final completions, supersession, and
what waits in poste restante.
-/
namespace Sys2Proof.Machine

/-- Code of an operation (Table 11.7). -/
def opCode : Op → Nat
  | .nop => 0x0001
  | .cancel _ _ => 0x0002
  | .writePoints _ => 0x0010
  | .writeMasked _ => 0x0011
  | .readPoints _ _ => 0x0012
  | .subscribeP _ => 0x0020
  | .unsubscribeP _ => 0x0021
  | .setM _ => 0x0022
  | .requestF => 0x0023
  | .envPolicy _ _ => 0x0024
  | .loadPd _ _ => 0x0030
  | .roundLinkup _ => 0x0031
  | .cellBypass _ _ => 0x0032
  | .cellGates _ _ => 0x0033
  | .slowRead _ _ _ => 0x0034
  | .itinLoad _ _ => 0x0040
  | .canRecover _ => 0x0050
  | .canAbort _ _ => 0x0051
  | .journalFreeze _ _ => 0x0060
  | .journalExport _ _ => 0x0061
  | .journalRelease => 0x0062
  | .replayFeed _ => 0x0063
  | .pairHandover => 0x0070
  | .pairResync => 0x0071
  | .fwWrite _ _ _ => 0x0080
  | .fwCommit _ => 0x0081

/-- Opcode that a completion of the command names: the code read, where it is none of Table 11.7. -/
def Cmd.code (c : Cmd) : Nat := c.hdr.opcode.getD (opCode c.op)

/-! ## Writing completions (R345, R346) -/

/-- Whether the session that posted a command still runs (R351); plant logic has none. -/
def State.sessionLive (s : State) (c : Cmd) : Bool :=
  c.agent != 0 || (s.host.negState == 1 && c.session == s.host.session)

/-- The command gives back one reserved place of its completion ring. -/
def State.unreserve (s : State) (c : Cmd) : State :=
  if s.sessionLive c then
    let r := s.ring c.cpl
    s.putRing c.cpl { r with reserved := r.reserved - 1 }
  else s

/-- Counts a final completion by its status (Table 11.12). -/
def State.cplCount (s : State) (status : Nat) : State :=
  if status = stLate then s.inc .devHifLate
  else if status = stFull then s.inc .devHifFull
  else if status = stSuperseded then s.inc .devHifSuperseded
  else s

/-- Writes one completion into its ring. A ring that is stopped, or a session that has ended, takes none (R333, R351). -/
def State.cplWrite (s : State) (c : Cmd) (notice : Bool) (status item value epoch : Nat) : State :=
  let s1 := s.unreserve c
  let r := s1.ring c.cpl
  if s1.sessionLive c && r.live && decide (0 < r.room) then
    let e : Cpl := { seq := (r.seq + 1) % 2 ^ 32, tag := c.hdr.tag, status := status, opcode := c.code, epoch := epoch,
                     slot := c.slot, ring := c.ring, notice := notice, item := item, value := value }
    let s2 := (s1.emit (.completion c.cpl e)).ringWrote c.cpl
    if notice then s2 else s2.cplCount status
  else s1

/-- The final completion of a command: a QUIET command writes none when the status is OK (Table 11.6a). -/
def State.finalWrite (s : State) (c : Cmd) (status item value epoch : Nat) : State :=
  if c.hdr.quiet ∧ status = 0 then s.unreserve c else s.cplWrite c false status item value epoch

/-- A rejection, or a completion at once, with the present epoch (Table 11.9). -/
def State.complete (s : State) (c : Cmd) (status item value : Nat) : State := s.finalWrite c status item value s.epoch

/-- Notes the final completion of an applied command until it is final; that of an ended session is discarded. -/
def State.finish (s : State) (c : Cmd) (w : Await) (status : Nat := 0) (item : Nat := noItem) (value : Nat := 0) : State :=
  if s.sessionLive c then
    s.withHost { s.host with fins := s.host.fins ++ [{ cmd := c, wait := w, status := status, item := item, value := value }] }
  else s

/-- A command that fails at its apply-epoch. -/
def State.failed (s : State) (c : Cmd) (status : Nat) (item : Nat := noItem) (value : Nat := 0) : State :=
  s.finish c (.commit s.epoch) status item value

/-! ## Supersession (R30, R344, R13) -/

/-- Items of a command whose points a later write of another command, or of a derived command, wrote. -/
def overwritten (id : Nat) : List WriteLog → List Nat
  | [] => []
  | e :: r =>
    if e.cmd = some id ∧ r.any (fun f => f.pt == e.pt && f.cmd != some id) then e.item :: overwritten id r
    else overwritten id r

/-- The status of a write at the commit of its epoch. -/
def State.superseded (s : State) (f : FinCpl) : FinCpl :=
  if f.status = 0 ∧ f.wait = .commit s.epoch then
    match overwritten f.cmd.id s.host.wlog with
    | [] => f
    | k :: ks => { f with status := stSuperseded, item := ks.foldl min k, value := (k :: ks).length }
  else f

/-! ## At the commit -/

/-- Whether a final completion can be written at a commit. -/
def FinCpl.due (f : FinCpl) (epoch : Nat) : Bool :=
  match f.wait with
  | .commit e => decide (e ≤ epoch)
  | .ready => true
  | _ => false

/-- Results of READ_POINTS: the values that the commit made visible (R359). -/
def State.readResults (s : State) (f : FinCpl) : State :=
  match f.cmd.op with
  | .readPoints addr idx => if f.status = 0 then s.emit (.readResult addr (idx.map (fun x => s.readAt s.led x))) else s
  | _ => s

/-- Writes the final completions that are due, in the order of acceptance among those due together (R346). -/
def State.writeFins (s : State) : State :=
  let all := s.host.fins.map s.superseded
  let s1 := s.withHost { s.host with fins := all.filter (fun f => !f.due s.epoch) }
  forL (all.filter (fun f => f.due s.epoch)) (fun f t =>
    (t.readResults f).finalWrite f.cmd f.status f.item f.value f.cmd.epoch) s1

/-! ## Poste restante (R343, R345) -/

/-- Commands that wait in poste restante and count there. -/
def State.prCount (s : State) : Nat := (s.host.pr.filter (·.kept)).length

/-- Publishes the occupancy; an episode of PR_FULL ends below 4000 entries, cause 3 is signalled above 3072 (R331,
R345). -/
def State.prPublish (s : State) : State :=
  let n := s.prCount
  let s1 := (s.putN .devHifPrCount 0 n).putN .devHifPrPeak 0 (max n (s.n .devHifPrPeak))
  let high := decide (3072 < n)
  let s2 := s1.withHost { s1.host with prFull := s1.host.prFull && decide (4000 ≤ n), prHigh := high }
  if high && !s.host.prHigh then s2.msixCause 3 else s2

/-- Takes a list of commands out of those that wait. -/
def State.prRemove (s : State) (ids : List Nat) : State :=
  (s.withHost { s.host with pr := s.host.pr.filter (fun c => !ids.contains c.id) }).prPublish

end Sys2Proof.Machine
end

