-- ==== Sys2Proof/Machine/Ledger.lean ====
section
/-!
DEFINITION. Ledger.lean: the ledger and the envelopes (chapter 12): commit epochs, sets of the tiers, blocks, sizes and
the rate budget, composing, writing, skipping and sealing.
-/
namespace Sys2Proof.Machine

/-! ## Defined points (R22, R24) -/

/-- Blocks of a region: base, length, number of blocks, and which are defined. -/
def blocksOf (base len : Nat) (n : Nat) (on : Nat → Bool) : List (Nat × Nat) :=
  ((List.range n).filter on).map (fun k => (base + k * len, len))

/-- The defined index ranges, ascending. -/
def State.definedRanges (s : State) : List (Nat × Nat) :=
  [(0, 0x40000)]
  ++ blocksOf 0x40000 0x1000 16 (fun r => s.plant.rounds.contains r)
  ++ blocksOf 0x50000 0x800 16 (s.unitOn 2)
  ++ blocksOf 0x58000 0x100 32 (s.unitOn 9)
  ++ blocksOf 0x5A000 0x100 4 (s.unitOn 10)
  ++ [(0x5A400, 0x5C00)]
  ++ blocksOf 0x60000 0x200 12 (s.unitOn 3)
  ++ [(0x61800, 0x800)]
  ++ blocksOf 0x62000 0x400 12 (s.unitOn 6)
  ++ [(0x65000, 0x3000)]
  ++ blocksOf 0x68000 0x2000 4 (s.unitOn 4)
  ++ blocksOf 0x70000 0x200 48 (s.unitOn 5)
  ++ [(0x76000, 0x2000)]
  ++ blocksOf 0x78000 0x200 8 (fun g => s.plant.shafts.any (fun x => x.group == g))
  ++ blocksOf 0x79000 0x200 8 (fun g => s.plant.powers.contains g)
  ++ [(0x7A000, 0x6000)]
  ++ blocksOf 0x80000 0x8000 32 (fun d => s.plant.drives.any (fun x => x.drive == d))
  ++ blocksOf 0x180000 0x400 4096 (fun c => s.plant.pos.any (fun p => p.round * 256 + p.pos == c))

/-- Number of defined points. -/
def State.definedCount (s : State) : Nat := (s.definedRanges.map (·.2)).sum

/-- Every defined index, ascending. -/
def State.definedList (s : State) : List Nat := s.definedRanges.flatMap (fun e => List.range' e.1 e.2)

/-! ## Commit epochs (R356) -/

/-- Points of Commit class gathered: slot copies, slot-fed, rotating and slow-channel points of cells (R90). -/
def gatheredPt (p : Pt) : Bool :=
  p.f == .slot || (p.f == .cell && ((decide (0x0B ≤ p.j) && decide (p.j ≤ 0x0E)) || decide (0x10 ≤ p.j)))

/-- The epoch that envelopes of the present commit carry: the recorded one in Replay (R376). -/
def State.sealEpoch (s : State) : Nat := if s.mode = 7 then s.rep.epoch else s.epoch

/-- Commit epoch of a point in the present commit: of a drive's own points the last epoch that it computed, of its regime also that in
which it entered it (R180). -/
def State.cepOf (s : State) : Option Pt → Nat
  | none => s.sealEpoch
  | some p =>
    if gatheredPt p then
      match s.cep.find? (fun e => e.1 == p) with
      | some e => e.2
      | none => s.dev.pdEpoch
    else
      let h := (entry p.f).home
      if (entry p.f).wr = .d ∧ (h = .drive ∨ h = .set ∨ h = .arm) then
        let k := s.drv (driveOf p)
        let c := if k.started then k.lastComp else s.dev.pdEpoch
        if p.f = .drvRegime then max c (k.turnAt.getD 0) else c
      else s.sealEpoch

/-! ## Blocks and lengths (R365, R367) -/

/-- Adds a point to the blocks built so far, the last block first. -/
def envAdd (acc : List EnvBlock) (x c : Nat) (w : Word) : List EnvBlock :=
  match acc with
  | b :: bs =>
    if b.first + b.vals.length = x ∧ b.commit = c ∧ b.vals.length < 1024 then { b with vals := b.vals ++ [w] } :: bs
    else { first := x, commit := c, vals := [w] } :: b :: bs
  | [] => [{ first := x, commit := c, vals := [w] }]

/-- The blocks of points given by index, commit epoch and value. -/
def envBlocks (pts : List (Nat × Nat × Word)) : List EnvBlock :=
  (pts.foldl (fun acc e => envAdd acc e.1 e.2.1 e.2.2) []).reverse

/-- Bytes of a block. -/
def EnvBlock.bytes (b : EnvBlock) : Nat := 16 + (b.vals.length + 1) / 2 * 8

/-- Bytes of an envelope. -/
def envBytes (bs : List EnvBlock) : Nat := 96 + (bs.map EnvBlock.bytes).sum

/-- First index of the block of the entity in which an index lies (Tables 1.3, 1.4 and 1.7). -/
def entityBase (x : Nat) : Nat :=
  let al := fun (base len : Nat) => base + (x - base) / len * len
  if x < 0x10000 then 0
  else if x < 0x20000 then al 0x10000 0x1000
  else if x < 0x40000 then 0x20000
  else if x < 0x50000 then al 0x40000 0x1000
  else if x < 0x58000 then al 0x50000 0x800
  else if x < 0x60000 then al 0x58000 0x100
  else if x < 0x62000 then al 0x60000 0x200
  else if x < 0x68000 then al 0x62000 0x400
  else if x < 0x70000 then al 0x68000 0x2000
  else if x < 0x7A000 then al 0x70000 0x200
  else if x < 0x80000 then 0x7A000
  else if x < 0x180000 then al 0x80000 0x8000
  else al 0x180000 0x400

/-- Greatest length that an envelope of a set can take: every gathered point in a block of its own, the others broken at
the boundary of an entity's block and next to a gathered point (R367). -/
def State.needBytes (s : State) (set : List Nat) : Nat :=
  envBytes (envBlocks (set.map (fun x =>
    (x, (match s.pointAt x with | some p => if gatheredPt p then 2 * x + 1 else 2 * entityBase x | none => 2 * entityBase x), 0))))

/-! ## Tiers and sets (R360 to R363) -/

def State.tier (s : State) (k : Nat) : Tier := Tab.get Tier.init s.env k

def State.putTier (s : State) (k : Nat) (v : Tier) : State := s.withEnv (Tab.put Tier.init s.env k v)

/-- Key of an agent's tier. -/
def tierKey (agent tier : Nat) : Nat := agent * 3 + tier

/-- Indices that the envelopes of a tier carry, ascending. -/
def State.tierSet (s : State) (agent tier : Nat) : List Nat :=
  if tier = 2 then s.definedList else (s.tier (tierKey agent tier)).set

/-- Data rate of the trained link as a share of Gen3 x4. -/
def linkShare (gen width : Nat) : Rat :=
  (width : Rat) / 4 * (match gen with | 1 => 65 / 256 | 2 => 65 / 128 | 3 => 1 | _ => 0)

/-- Tier P rate budget in bytes: 2.0 GB/s × T_E at the present link (R369). On chip no link narrows it. -/
def State.pBudget (s : State) (agent : Nat) : Nat :=
  let full : Rat := 2 * s.te
  (if agent = 0 then full * linkShare s.host.linkGen s.host.linkWidth else full).floor.toNat

/-- Publishes size and needs of an agent's tier, and its budget. -/
def State.envPublish (s : State) (agent tier : Nat) : State :=
  let k := tierKey agent tier
  let n := if tier = 2 then s.definedCount else (s.tier k).set.length
  ((s.putN .envPoints k n).putN .envNeedBytes k (s.needBytes (s.tierSet agent tier))).putN .envBPBudgetBytes agent
    (s.pBudget agent)

/-- Merges indices into an ascending set, each once. -/
def setAdd : List Nat → List Nat → List Nat
  | set, [] => set
  | set, x :: r => setAdd (if set.contains x then set else insertBy (fun a b => decide (a ≤ b)) x set) r

/-- The set that SET_M names. -/
def rangeSet (ranges : List (Nat × Nat)) : List Nat := setAdd [] (ranges.flatMap (fun e => List.range' e.1 e.2))

/-- The set of an agent's tier after a set command; none for another command. -/
def State.newSet (s : State) (agent : Nat) : Op → Option (Nat × List Nat)
  | .subscribeP idx => some (0, setAdd (s.tier (tierKey agent 0)).set idx)
  | .unsubscribeP idx => some (0, (s.tier (tierKey agent 0)).set.filter (fun x => !idx.contains x))
  | .setM ranges => some (1, rangeSet ranges)
  | _ => none

/-- FULL when a set would exceed the limits of Table 12.1, the slots of its ring or the budget (R362). -/
def State.setRoom (s : State) (agent : Nat) (op : Op) : Nat :=
  match op with
  | .unsubscribeP _ => 0
  | _ =>
    match s.newSet agent op with
    | some (t, set) =>
      let other := (s.tier (tierKey (1 - agent) t)).set.length
      let size := s.needBytes set
      need (decide (set.length + other ≤ (if t = 0 then 4096 else 524288))
            && decide (size ≤ (s.ring (ringKey agent (17 + t))).entryBytes)
            && (t != 0 || decide (size ≤ s.pBudget agent))) stFull
    | none => 0

/-- A set change takes effect: the next envelope of the tier carries SET_CHANGED (R361). -/
def State.setDo (s : State) (agent : Nat) (op : Op) : State :=
  match s.newSet agent op with
  | some (t, set) =>
    let k := tierKey agent t
    let x := s.tier k
    if x.set = set then s
    else ((s.putTier k { x with set := set, setChanged := true }).putN .envSetGen k ((s.n .envSetGen k + 1) % 65536)).envPublish agent t
  | none => s

/-- A load removes undefined points from every set; the first envelope of each tier after it carries DESC_CHANGED (R363);
the sizes are those of the new description, and a tier F size above the slots of an enabled ring 19 is reported (R368). -/
def State.setsPruned (s : State) : State :=
  let keys : List (Nat × Nat) := [(0, 0), (0, 1), (1, 0), (1, 1)]
  let gone := (keys.map (fun e => ((s.tier (tierKey e.1 e.2)).set.filter (fun x => !s.defined x)).length)).sum
  let s1 := forL keys (fun e t =>
    let k := tierKey e.1 e.2
    let x := t.tier k
    let kept := x.set.filter t.defined
    if kept.length = x.set.length then t
    else (t.putTier k { x with set := kept }).putN .envSetGen k ((t.n .envSetGen k + 1) % 65536)) s
  let s2 := forN 6 (fun k t => (t.putTier k { t.tier k with descChanged := true }).envPublish (k / 3) (k % 3)) s1
  let s3 := if gone = 0 then s2 else s2.raise 0x0A12 kDevice 0 gone
  let large := ([0, 1] : List Nat).any (fun a =>
    (s3.ring (ringKey a 19)).live && decide ((s3.ring (ringKey a 19)).entryBytes < s3.n .envNeedBytes (tierKey a 2)))
  if large then s3.raise 0x0A11 kDevice 0 0 else s3

/-! ## Composing (R364, R370, R372 to R374, R376 to R378) -/

/-- Whether a tier's envelope is due at the present epoch, in Replay at the recorded one (Table 12.1, R370, R398). -/
def State.sealDue (s : State) (agent tier : Nat) : Bool :=
  match tier with
  | 0 => true
  | 1 => s.sealEpoch % (10000000 / s.te) == 0
  | _ => s.sealEpoch % (1000000000 / s.te) == 0 || (s.tier (tierKey agent 2)).requested

/-- Whether an epoch from `a` to `b` falls in the takeover interval (R377). -/
def State.bridged (s : State) (a b : Nat) : Bool :=
  match s.pair.bridge with
  | some (x, y) => decide (a ≤ y) && decide (x ≤ b)
  | none => false

/-- Header flags (Table 12.2). -/
def State.envFlags (s : State) (agent tier : Nat) : Nat :=
  let x := s.tier (tierKey agent tier)
  let first := if x.prevEpoch = 0 then s.epoch else x.prevEpoch + 1
  Arith.b2n (s.bridged first s.epoch) + 2 * Arith.b2n (tier == 2 && x.requested) + 4 * Arith.b2n x.setChanged
  + 8 * Arith.b2n x.descChanged + 16 * Arith.b2n (s.mode == 7)

/-- The blocks of an envelope, from the ledger. -/
def State.envContents (s : State) (agent tier : Nat) : List EnvBlock :=
  envBlocks ((s.tierSet agent tier).map (fun x => (x, s.cepOf (s.pointAt x), s.readAt s.led x)))

/-- Header and blocks of the envelope number `seq` of a tier. -/
def State.envOf (s : State) (agent tier seq : Nat) : Envelope :=
  let k := tierKey agent tier
  let x := s.tier k
  let bs := s.envContents agent tier
  { seq := seq, tier := tier, flags := s.envFlags agent tier, epoch := s.sealEpoch, setGen := s.n .envSetGen k,
    time := if s.mode = 7 then s.rep.time else s.clk.t0, length := envBytes bs, skipped := x.skips, skipCause := if x.skips = 0 then 0 else x.skipCause,
    prevEpoch := x.prevEpoch, mode := s.mode, protection := s.n .pairProtection, blocks := bs }

/-- Whether a final completion of an agent waits for a tier F envelope that was requested in an epoch from `lo` to `hi`. -/
def FinCpl.sealIn (f : FinCpl) (agent lo hi : Nat) : Bool :=
  f.cmd.agent == agent && (match f.wait with | .sealF e => decide (lo ≤ e) && decide (e ≤ hi) | _ => false)

/-- The first request epoch that the tier F envelope now composed serves: those before it wait for the one still being written. -/
def State.sealFrom (s : State) (agent : Nat) : Nat :=
  match (s.tier (tierKey agent 2)).writing with
  | some (_, e, _) => e + 1
  | none => 0

/-- An envelope is not written (R372); a REQUEST_F that waits for it completes with FULL and the cause. -/
def State.envSkip (s : State) (agent tier cause : Nat) : State :=
  let k := tierKey agent tier
  let x := s.tier k
  let s1 := s.putTier k { x with skips := x.skips + 1, skipCause := cause, episode := true }
  let s2 := (s1.inc .envSkipped k).putN .envSkipCause k cause
  let s3 := if x.episode then s2 else s2.raise 0x0A10 kDevice 0 (tier + 2 ^ 8 * cause)
  if tier = 2 then
    s3.settle (fun f => f.sealIn agent (s.sealFrom agent) s.epoch) stFull noItem cause (.commit s.epoch)
  else s3

/-- The cause for which a due envelope is not written, 0 for none (Table 12.4). -/
def State.envCause (s : State) (agent tier : Nat) (e : Envelope) : Nat :=
  let k := tierKey agent tier
  let r := s.ring (ringKey agent (17 + tier))
  if s.n .pairRole = 2 ∧ s.n .pairProtection ≠ 0 then 4
  else if (s.tier k).writing.isSome then 2
  else if r.entryBytes < (if tier = 2 then s.n .envNeedBytes k else e.length) then 3
  else if s.n .envPolicy k = 0 ∧ r.room = 0 then 1
  else 0

/-- Newest: the oldest slot of a full ring is invalidated and counts as returned (R374). -/
def State.envRoom (s : State) (key : Nat) : State :=
  let r := s.ring key
  if r.room = 0 then (s.emit (.invalidate key)).putRing key { r with peer := (r.peer + 1) % (2 * r.size) } else s

/-- Writes header and blocks of an envelope into its slot (R369). -/
def State.envWrite (s : State) (agent tier : Nat) (e : Envelope) : State :=
  let k := tierKey agent tier
  let key := ringKey agent (17 + tier)
  let s1 := (s.envRoom key).emit (.envelope key e)
  s1.putTier k { s1.tier k with skips := 0, skipCause := 0, episode := false, prevEpoch := e.epoch, setChanged := false,
                                descChanged := false, writing := some (e.seq, s.epoch, s.clk.t0) }

/-- One envelope is composed: it takes the next number, and is written or skipped (R370). A ring that is stopped takes
none; a REQUEST_F then completes with FULL. -/
def State.compose (s : State) (agent tier : Nat) : State :=
  let k := tierKey agent tier
  let seq := s.n64 .envSeq k + 1
  let s1 := s.put64 .envSeq k seq
  let s2 :=
    if (s1.ring (ringKey agent (17 + tier))).live then
      let e := s1.envOf agent tier seq
      let c := s1.envCause agent tier e
      if c = 0 then s1.envWrite agent tier e else s1.envSkip agent tier c
    else if tier = 2 then
      s1.settle (fun f => f.sealIn agent 0 s.epoch) stFull noItem 0 (.commit s.epoch)
    else s1
  if tier = 2 then s2.putTier k { s2.tier k with requested := false } else s2

/-- Composes every envelope due at a commit, tier P of both agents first (R360, R370); none in Dormant, and none in a live
epoch in which Replay pauses (R398). -/
def State.composeAll (s : State) : State :=
  if s.mode = 0 ∨ (s.mode = 7 ∧ ¬s.rep.done) then s
  else forL [0, 1, 2] (fun tier u => forL [0, 1] (fun a v => if v.sealDue a tier then v.compose a tier else v) u) s

/-! ## Sealing (R369) -/

/-- The trailer of the envelope being written goes out, then the mirror; the oldest skipped slots stay counted. -/
def State.envSeal (s : State) (agent tier t : Nat) : State :=
  let k := tierKey agent tier
  let key := ringKey agent (17 + tier)
  match (s.tier k).writing with
  | some (seq, epoch, t0) =>
    if (s.ring key).live ∧ t0 ≤ t then
      let s1 := (s.advance t).putTier k { s.tier k with writing := none }
      let s2 := ((s1.emit (.seal key seq)).ringWrote key).put64 .envSealedEpoch k (s.tier k).prevEpoch
      (s2.putN .envSealNs k (t - t0)).settle (fun f => tier == 2 && f.sealIn agent 0 epoch) 0 noItem 0
        .ready
    else s
  | none => s

/-- ENVELOPE_SEALED (R369). -/
def execEnvelopeSealed (agent : Agent) (tier : Fin 3) (t : Nat) (s : State) : Host.Outcome State Fault Refusal :=
  .next (s.envSeal (agentNo agent) tier t)

end Sys2Proof.Machine
end

