-- ==== Sys2Proof/Machine/PairLink.lean ====
section
/-!
DEFINITION. PairLink.lean: role, protection and what a principal sends (R411, R416, R417, R419, R423, R426).
-/
namespace Sys2Proof.Machine

/-- A field of `PAIR` takes a value; a change signals cause 2 (R426, Table 11.4). -/
def State.setPairField (s : State) (f : Field) (v : Nat) : State :=
  if s.n f = v then s else (s.putN f 0 v).msixCause 2

/-- `PAIR.PARTNER` shows whether the partner is heard; `epoch` of the last message where it is (Table 11.3). -/
def State.hear (s : State) (on : Bool) : State :=
  let s1 := s.withPair { s.pair with heard := on, heardAt := if on then s.epoch else s.pair.heardAt }
  if s.pair.heard = on then s1 else s1.msixCause 2

def State.isPrincipal (s : State) : Bool := s.n .pairRole == 1

def State.isCounterfoil (s : State) : Bool := s.n .pairRole == 2

/-- Whether a counterfoil is eligible to take over (R420). -/
def State.eligibleNow (s : State) : Bool :=
  s.isCounterfoil && s.pair.joined
  && (s.n .pairProtection == 0 || s.n .pairProtection == 1 || (s.dev.pdActive && s.pair.image.isSome))
  && Nat.land (s.n .devSafeCause) 0x1FC == 0 && s.n .hwHwInsert == 1

/-- Publishes `device.pair.eligible`. -/
def State.pubEligible (s : State) : State := s.putN .pairEligible 0 (Arith.b2n s.eligibleNow)

/-- `PROTECTION` changes; 2 and 0 raise their events (Table 14.6). -/
def State.setProt (s : State) (p : Nat) : State :=
  if s.n .pairProtection = p then s.pubEligible
  else
    let s1 := s.setPairField .pairProtection p
    let s2 := if p = 2 then s1.raise 0x0904 kDevice 0 0 else if p = 0 then s1.raise 0x0905 kDevice 0 0 else s1
    s2.pubEligible

/-- Epochs of hold of a planned hand-over in warm protection: the least k with (k + 0.6) × T_E ≥ 1.5 ms (R419). -/
def holdEpochs (te : Nat) : Nat := (1500000 - te * 3 / 5 + te - 1) / te

/-- A joined principal forwards an accepted command (Table 14.1). -/
def State.forward (s : State) (c : Cmd) : State := if s.isPrincipal && s.pair.joined then s.emit (.pairForward c.id) else s

/-- PAIR_HANDOVER takes effect: SURRENDER naming H, the first epoch at least 8 epochs on, after the hold when warm (R419,
R423). -/
def State.handoverBegin (s : State) : State :=
  let h := s.epoch + 8 + (if s.n .pairProtection = 1 then holdEpochs s.te else 0)
  (s.withPair { s.pair with handover := some (h, s.epoch), confirmed := false }).emit (.pairSurrender h false)

/-- A resynchronisation starts: the principal sends its state (R417). -/
def State.resyncBegin (s : State) : State :=
  let s1 := s.withPair { s.pair with resync := 1, resyncAt := s.now }
  if s.isPrincipal then s1.emit (.pairState s.epoch) else s1

/-- The principal surrenders to its partner for an epoch (Table 14.2, R515). -/
def State.surrender (s : State) (h : Nat) (fault : Bool) : State :=
  if s.isPrincipal then
    (s.withPair { s.pair with handover := some (h, s.epoch), confirmed := false }).emit (.pairSurrender h fault)
  else s

end Sys2Proof.Machine
end

