-- ==== Sys2Proof/Machine/Host.lean ====
section
/-!
DEFINITION. Host.lean: the opcodes of Table 11.7: how a descriptor is fetched and judged (Table 11.8), poste restante,
what immediate opcodes do at acceptance and what every other one does at its apply-epoch (sections 11.5 to 11.7).
-/
namespace Sys2Proof.Machine

/-! ## Opcodes -/

/-- Minor version that introduced an opcode (Table 11.7). -/
def opMinor : Op → Nat
  | .writeMasked _ | .pairResync => 2
  | .slowRead _ _ _ | .canAbort _ _ | .journalRelease => 1
  | _ => 0

/-- Opcodes whose apply-epoch must be 0 (Table 11.7). -/
def opImmediate : Op → Bool
  | .cancel _ _ | .loadPd _ _ | .roundLinkup _ | .journalExport _ _ | .replayFeed _ | .fwWrite _ _ _ | .fwCommit _ => true
  | _ => false

/-- Opcodes that act on the plant (R341). -/
def opPlant : Op → Bool
  | .writePoints _ | .writeMasked _ | .loadPd _ _ | .roundLinkup _ | .cellBypass _ _ | .cellGates _ _ | .itinLoad _ _
  | .canRecover _ | .canAbort _ _ | .replayFeed _ => true
  | _ => false

/-- Items of a write with their masks; none for another operation. -/
def opItems : Op → Option (List (Nat × Word × Word))
  | .writePoints items => some (items.map (fun e => (e.1, BitVec.allOnes 32, e.2)))
  | .writeMasked items => some items
  | _ => none

/-- Cell that an operation names. -/
def opCell : Op → Option Nat
  | .cellBypass a _ | .cellGates a _ | .slowRead a _ _ => some a
  | _ => none

/-- First epoch whose input cut-off follows now (Table 11.8, check 3). -/
def State.e0 (s : State) : Nat := if s.clk.phase = 0 then s.epoch else s.epoch + 1

/-! ## Checks (Table 11.8). A judgement is a status and an item; status 0 passes. -/

abbrev Verdict := Nat × Nat

def pass : Verdict := (0, noItem)

/-- A check without items. -/
def verdict (ok : Bool) (status : Nat) : Verdict := if ok then pass else (status, noItem)

/-- The first judgement that fails. -/
def firstFail : List Verdict → Verdict
  | [] => pass
  | v :: r => if v.1 = 0 then firstFail r else v

/-- Agreed minor version of an agent: plant logic is built with the image. -/
def State.agreedMinor (s : State) (agent : Nat) : Nat := if agent = 0 then s.host.negMinor else 2

/-- Rules of an itinerary (R258). -/
def State.itinOk (s : State) (e : Nat) (pts : List (Nat × Int × Int)) : Bool :=
  let ts := pts.map (·.1)
  let vs := pts.map (fun p => Word.ofInt p.2.2)
  decide (2 ≤ pts.length) && decide (pts.length ≤ 1024) && ts.headD 1 == 0
  && (ts.zip (ts.drop 1)).all (fun p => decide (p.1 < p.2)) && vs.all Arith.finiteF32
  && (s.n .prfItinLoop e == 1 || (vs.getLast?.map (fun w => decide (Arith.decF32 w = 0))).getD false)

/-- The part of check 1 that a later state can change: the rules of an itinerary (R258, R342). -/
def State.checkItin (s : State) (op : Op) : Verdict :=
  verdict (match op with | .itinLoad e pts => s.itinOk e pts | _ => true) stFormat

/-- Check 1: the descriptor's form. -/
def State.check1 (s : State) (agent : Nat) (d : Desc) : Verdict :=
  firstFail [verdict (d.hdr.major == 1 && decide (d.hdr.minor ≤ s.agreedMinor agent) && d.hdr.formOk && d.hdr.opcode.isNone) stFormat,
    s.checkItin d.op]

/-- Check 2: the opcode is part of the agreed version (R336). -/
def State.check2 (s : State) (agent : Nat) (d : Desc) : Verdict :=
  verdict (decide (opMinor d.op ≤ s.agreedMinor agent)) stVersion

/-- Check 3: the apply-epoch is not past. -/
def check3 (apply e0 : Nat) : Verdict := verdict (apply == 0 || decide (e0 ≤ apply)) stLate

/-- Whether a count of items is one that Table 11.7 admits. -/
def countOk (n : Nat) : Bool := decide (1 ≤ n) && decide (n ≤ 4096)

/-- Items of which each must be admitted, and their count. -/
def itemsVerdict {α : Type} (check : α → Nat) (items : List α) : Verdict :=
  if countOk items.length then firstItem check items 0 else (stRange, noItem)

/-- Flash bank size in bytes (R517). -/
def bankBytes : Nat := 128 * 2 ^ 20

/-- Check 4: counts, indices, addresses, values and the apply-epoch. -/
def State.check4 (s : State) (op : Op) (apply e0 : Nat) : Verdict :=
  let defd := fun (x : Nat) => need (decide (x < 2 ^ 23) && s.defined x) stRange
  firstFail [
    verdict (if opImmediate op then apply == 0 else decide (apply ≤ e0 + 2 ^ 32)) stRange,
    match op with
    | .cancel _ ring => verdict (decide (ring ≤ 7)) stRange
    | .writePoints items => itemsVerdict (fun e => s.itemRange e.1 e.2) items
    | .writeMasked items => itemsVerdict (fun e => defd e.1) items
    | .readPoints _ idx => itemsVerdict defd idx
    | .subscribeP idx => itemsVerdict (fun x => firstBad [defd x, need (!mfOnly x (s.pointAt x)) stRange]) idx
    | .unsubscribeP idx => itemsVerdict defd idx
    | .setM ranges =>
      itemsVerdict (fun e => need (decide (e.1 + e.2 ≤ 2 ^ 23) && (List.range' e.1 e.2).all s.defined) stRange) ranges
    | .envPolicy tier policy => verdict (decide (tier ≤ 2) && decide (policy ≤ 1)) stRange
    | .loadPd _ length => verdict (decide (length ≤ 64 * 2 ^ 20)) stRange
    | .roundLinkup mask =>
      verdict (mask != 0 && (List.range 16).all (fun r => !Arith.bit mask r || s.plant.rounds.contains r)) stRange
    | .cellBypass a v | .cellGates a v => verdict (decide (a < 4096) && decide (v ≤ 1)) stRange
    | .slowRead a off n =>
      verdict (decide (a < 4096) && decide (1 ≤ n) && decide (n ≤ 16) && decide (off + n ≤ 0x400)) stRange
    | .itinLoad e _ => verdict (decide (e < 48) && s.unitOn 5 e) stRange
    | .canRecover c => verdict (decide (c < 4) && s.unitOn 4 c) stRange
    | .canAbort c o => verdict (decide (c < 4) && s.unitOn 4 c && decide (o < 256)) stRange
    | .journalFreeze pre post => verdict (decide (pre ≤ 60000) && decide (post ≤ 60000)) stRange
    | .journalExport first last => verdict (s.exportRange first last).isSome stRange
    | .fwWrite _ length off =>
      verdict (length % 4096 == 0 && off % 4096 == 0 && decide (off + length ≤ bankBytes)) stRange
    | .fwCommit length => verdict (decide (length ≤ bankBytes)) stRange
    | _ => pass]

/-- Check 5: the agent owns every point written (R29). -/
def State.check5 (s : State) (agent : Nat) (op : Op) : Verdict :=
  match opItems op with
  | some items => firstItem (fun e => s.itemOwner agent e.1) items 0
  | none => pass

/-- Whether an index is `device.mode_cmd`. -/
def State.isModeCmd (s : State) (x : Nat) : Bool := s.pointAt x == some ⟨.devModeCmd, 0, 0⟩

/-- Whether the role and Replay admit an opcode (R341). -/
def State.roleOk (s : State) (op : Op) : Bool :=
  if !opPlant op then true
  else if s.isCounterfoil then false
  else if s.mode = 7 then
    match op with
    | .replayFeed _ => true
    | _ => match opItems op with
      | some items => items.all (fun e => s.isModeCmd e.1)
      | none => false
  else true

/-- Device modes in which an opcode is accepted (Table 11.7). -/
def State.modeOk (s : State) (op : Op) : Bool :=
  let m := s.mode
  match op with
  | .nop | .cancel _ _ | .writePoints _ | .writeMasked _ => true
  | .loadPd _ _ | .roundLinkup _ => m == 1
  | .cellBypass _ _ | .cellGates _ _ | .slowRead _ _ _ => decide (1 ≤ m) && decide (m ≤ 6)
  | .replayFeed _ => m == 7
  | .pairHandover => s.isPrincipal && (s.n .pairProtection == 0 || s.n .pairProtection == 1)
  | .pairResync => s.n .pairRole != 0
  | _ => m != 0

/-- Check 6: mode and role; the conditions of single points are judged as their items apply. SLOW_READ asks for a cell of
version 2 or 3 (Table 11.7). -/
def State.check6 (s : State) (op : Op) : Verdict :=
  verdict (s.roleOk op && s.modeOk op
    && (match op with
        | .slowRead a _ _ => s.n .pos a 0 == 0 || s.n .pos a 0 == 9 || decide (2 ≤ s.n .pos a 1)
        | _ => true)) stMode

/-- Check 7: a named cell exists (section 11.6). -/
def State.check7 (s : State) (op : Op) : Verdict :=
  match opCell op with
  | some a =>
    verdict (s.plant.rounds.contains (a / 256) && s.posState (a / 256) (a % 256) != 0 && s.posState (a / 256) (a % 256) != 9)
      stNoCell
  | none => pass

/-- What a set change must find at acceptance and again at its apply-epoch (R362). -/
def State.checkSet (s : State) (agent : Nat) (op : Op) : Verdict := verdict (s.setRoom agent op == 0) stFull

/-! ## Immediate opcodes -/

/-- CANCEL: the oldest entry of poste restante with the tag on the ring is removed and completes with SUPERSEDED. -/
def State.cancelDo (s : State) (c : Cmd) (tag ring : Nat) : State :=
  match s.host.pr.find? (fun x => x.kept && x.agent == c.agent && x.ring == ring && x.hdr.tag == tag) with
  | some x => ((s.prRemove [x.id]).complete x stSuperseded noItem 0).complete c 0 noItem 0
  | none => s.complete c stLate noItem 0

/-- The bank that firmware writes go to: the one not in use (R520). -/
def State.idleBank (s : State) : Bank := if s.hw.bankB then s.hw.bank0 else s.hw.bank1

def State.putIdleBank (s : State) (b : Bank) : State :=
  s.withHw (if s.hw.bankB then { s.hw with bank0 := b } else { s.hw with bank1 := b })

/-- FW_WRITE: the data is written and read back; the bank no longer verifies until FW_COMMIT (R520). -/
def State.fwWriteDo (s : State) (c : Cmd) (data : List Byte) (off : Nat) : State :=
  let b := s.idleBank
  (s.putIdleBank { b with valid := false, data := b.data.filter (fun e => e.1 != off) ++ [(off, data)] }).complete c 0 noItem 0

/-- FW_COMMIT: the image verifies and is not below the floor, and the trailer takes the next sequence number (R303, R519,
R520); otherwise FORMAT. -/
def State.fwCommitDo (s : State) (c : Cmd) (length : Nat) : State :=
  let b := s.idleBank
  let used := if s.hw.bankB then s.hw.bank1 else s.hw.bank0
  match Config.verifyImage b.data length s.keysValid with
  | some v =>
    if s.n .hwFwSecurityFloor ≤ v.val then
      (s.putIdleBank { b with valid := true, security := v.val, seq := used.seq + 1 }).complete c 0 noItem 0
    else s.complete c stFormat noItem 0
  | none => s.complete c stFormat noItem 0

/-- Replay ends without one of the results of R399 and R400: the module returns to Configure (R397). -/
def State.replayStop (s : State) : State :=
  (s.replayLeave.setMode 1).blockAll

/-- A fed record as the journal holds it. -/
def fedRec (f : FedRec) : MailRec :=
  { kind := f.kind, flags := f.flags, epoch := f.epoch, time := f.time, mode := f.mode, cmds := f.cmds, hashes := f.hashes,
    inputs := f.inputs, state := f.state, image := f.image, digest := f.digest, kernel := f.kernel, bytes := 0, stored := 0 }

/-- Whether the first block begins as R397 asks. -/
def feedStarts (recs : List FedRec) (firstFlag : Bool) : Bool :=
  firstFlag && (match recs with | a :: b :: _ => a.kind == 3 && b.kind == 2 | _ => false)

/-- REPLAY_FEED: its blocks are checked and its records wait to be processed (R397). -/
def State.feedDo (s : State) (c : Cmd) (blocks : List FedBlock) : State :=
  let recs := blocks.flatMap (·.recs)
  let good := blocks.all (·.ok) && (s.rep.phase != 1 || feedStarts recs ((blocks.head?.map (·.firstFlag)).getD false))
  let config := recs.head?
  if !good then (s.complete c stFormat noItem 0).replayStop
  else if s.rep.phase = 1 ∧ (config.any (fun m => m.digest != s.dev.pdDigest || m.kernel != Config.kernelVersion.toNat)) then
    (s.complete c stVersion noItem 0).replayStop
  else
    let fed := s.rep.fed + recs.length
    let s1 := s.withRep { s.rep with phase := 2, queue := s.rep.queue ++ recs.map fedRec, fed := fed,
                                     lastFed := s.rep.lastFed || blocks.any (·.lastFlag) }
    if recs.isEmpty then s1.complete c 0 noItem 0 else s1.finish c (.feed fed)

/-- What an immediate opcode does at acceptance. A second description while one is being validated completes with FULL. -/
def State.immediate (s : State) (c : Cmd) : State :=
  match c.op with
  | .cancel tag ring => s.cancelDo c tag ring
  | .loadPd bytes length =>
    if s.dev.loading.isSome then s.complete c stFull noItem 0
    else (s.withDev { s.dev with loading := some (bytes, length) }).finish c .load
  | .roundLinkup mask =>
    (forL ((List.range 16).filter (fun r => Arith.bit mask r)) (fun r t => t.linkupBegin r) s).finish c (.linkup mask)
  | .journalExport first last =>
    match s.exportRange first last with
    | some range => (s.finish c .exported).journalExportDo c range
    | none => s.complete c stRange noItem 0
  | .replayFeed blocks => s.feedDo c blocks
  | .fwWrite data _ off => s.fwWriteDo c data off
  | .fwCommit length => s.fwCommitDo c length
  | _ => s

/-! ## Acceptance (R342, R345) -/

/-- Opcodes that the boot ROM serves (section 11.4). -/
def opBoot : Op → Bool
  | .fwWrite _ _ _ | .fwCommit _ => true
  | _ => false

/-- Checks 1 to 5 and 7 at acceptance, and the rules of sets. -/
def State.judge (s : State) (agent : Nat) (d : Desc) : Verdict :=
  firstFail [s.check1 agent d, s.check2 agent d, check3 d.hdr.apply s.e0, s.check4 d.op d.hdr.apply s.e0,
    s.check5 agent d.op, s.check7 d.op, s.checkSet agent d.op]

/-- The command is kept: it waits for its apply-epoch, with a notice when it asked for one (R343). -/
def State.keep (s : State) (c : Cmd) : State :=
  let s1 := (s.withHost { s.host with pr := s.host.pr ++ [c] }).prPublish.forward c
  if c.kept && c.hdr.notice then s1.cplWrite c true 0 noItem 0 c.epoch else s1

/-- A rejection gives back the places of completions that it cannot produce. -/
def State.reject (s : State) (c : Cmd) (places : Nat) (v : Verdict) : State :=
  let k := s.ring c.cpl
  (s.putRing c.cpl { k with reserved := k.reserved - (places - 1) }).complete c v.1 v.2 0

/-- What follows the judgement of a descriptor: rejection, immediate effect, or a place among those that wait; PR_FULL is reported once in
an episode (R345). -/
def State.settleJudged (s : State) (c : Cmd) (places : Nat) (v : Verdict) : State :=
  if s.dev.boot = 2 ∧ (¬opBoot c.op ∨ c.hdr.opcode.isSome) then s.reject c places (stMode, noItem)
  else if v.1 ≠ 0 then s.reject c places v
  else if opImmediate c.op then
    let m := if s.dev.boot = 2 then pass else s.check6 c.op
    if m.1 ≠ 0 then s.reject c places m else s.immediate c
  else if c.kept ∧ 4096 ≤ s.prCount then
    let s1 := if s.host.prFull then s else (s.withHost { s.host with prFull := true }).raise 0x0A05 kDevice 0 0
    s1.reject c places (stFull, noItem)
  else s.keep c

/-- A descriptor at the front of its ring: it waits while its completions have no room (R345), else it is judged and
consumed. -/
def State.accept (s : State) (agent ring : Nat) (d : Desc) : State :=
  let key := ringKey agent ring
  let r := s.ring key
  let cpl := ringKey agent (8 + r.cpl)
  let kept := !opImmediate d.op && decide (s.e0 < d.hdr.apply)
  let places := if kept && d.hdr.notice then 2 else 1
  let k := s.ring cpl
  if k.live && decide (k.reserved + places ≤ k.room) then
    let c : Cmd := { id := s.host.acc + 1, agent := agent, ring := ring, cpl := cpl, slot := r.idx % r.size, hdr := d.hdr,
                     op := d.op, epoch := max d.hdr.apply s.e0, session := s.host.session, kept := kept }
    let s1 := (s.putRing key { r with waiting := none }).putRing cpl { k with reserved := k.reserved + places }
    let s2 := (s1.withHost { s1.host with acc := s1.host.acc + 1 }).inc .devHifAccepted
    (s2.settleJudged c places (s.judge agent d)).ringTook key
  else s.putRing key { r with waiting := some d }

/-- Whether the rings of an agent are served: by Supervisor, or in boot recovery by the boot ROM, which serves CMD0 only
(R302, R321, section 11.4). -/
def State.serves (s : State) (agent ring : Nat) : Bool :=
  if s.up then agent == 1 || s.dev.supUp else s.dev.powered && s.dev.boot == 2 && agent == 0 && ring == 0

/-- The next descriptor of a command ring is fetched. There is none where the ring is stopped or empty, or where an earlier
one waits for room. -/
def State.fetch (s : State) (agent ring : Nat) (d : Desc) : State :=
  let r := s.ring (ringKey agent ring)
  if s.serves agent ring && r.live && decide (0 < r.avail) && r.waiting.isNone then s.accept agent ring d else s

/-- ACCEPT_ON_ROOM: completion slots were returned; the descriptor that waits is judged again (R345). -/
def execAcceptOnRoom (agent : Agent) (ring : Fin 8) (s : State) : Host.Outcome State Fault Refusal :=
  .next (let a := agentNo agent
         let r := s.ring (ringKey a ring)
         match r.waiting with
         | some d => if s.serves a ring && r.live then s.accept a ring d else s
         | none => s)

/-! ## At the apply-epoch (R342, R343) -/

/-- The mailbag records a command that took effect (R383). -/
def State.recorded (s : State) (c : Cmd) (items : List (Nat × Nat)) : State :=
  s.withJrn { s.jrn with applied := s.jrn.applied ++
    [{ agent := c.agent, ring := c.ring, opcode := c.code, tag := c.hdr.tag, items := items }] }

/-- A write applies all its items or none (R344). -/
def State.writeDo (s : State) (c : Cmd) (items : List (Nat × Word × Word)) : State :=
  match State.applyItems c.agent (some c.id) items 0 [] s with
  | .ok (s1, done) => (s1.recorded c done).finish c (.commit s.epoch)
  | .error (st, k) => s.failed c st k

/-- A read of a cell joins the transactions of its round (R89). -/
def State.slowReadDo (s : State) (c : Cmd) (a off n : Nat) : State :=
  let x := s.rnd (a / 256)
  (s.putRnd (a / 256) { x with reads := x.reads ++ [{ pos := a % 256, off := off, count := n, tag := 0 }] }).finish c
    (.slow a off n)

/-- An itinerary fills the engine's shadow table (R258). -/
def State.itinDo (s : State) (e : Nat) (pts : List (Nat × Int × Int)) : State :=
  s.putEng e { s.eng e with shadow := pts.map (fun p => (p.1, p.2.1, Arith.decF32 (Word.ofInt p.2.2))) }

/-- Whether a cell belongs to a two-level arm, which is never sent BYPASS (R169). -/
def State.twoLevelCell (s : State) (a : Nat) : Bool := ((s.armAt (a / 256) (a % 256)).map s.armParallel).getD false

/-- The effect of an opcode that has passed every check at its apply-epoch. CELL_BYPASS to a cell of a two-level arm sends nothing and
ends with its apply-epoch (DESIGN CHOICE, log entry 126: R169 forbids the directive and no rule gives another status). -/
def State.effect (s : State) (c : Cmd) : State :=
  let now : Await := .commit s.epoch
  match c.op with
  | .writePoints items => s.writeDo c (items.map (fun e => (e.1, BitVec.allOnes 32, e.2)))
  | .writeMasked items => s.writeDo c items
  | .subscribeP _ | .unsubscribeP _ | .setM _ => ((s.setDo c.agent c.op).recorded c []).finish c now
  | .requestF =>
    let k := tierKey c.agent 2
    ((s.putTier k { s.tier k with requested := true }).recorded c []).finish c (.sealF s.epoch)
  | .envPolicy tier policy => ((s.putN .envPolicy (tierKey c.agent tier) policy).recorded c []).finish c now
  | .cellBypass a v =>
    if s.twoLevelCell a then (s.recorded c []).finish c now
    else ((s.direct (a / 256) (some (a % 256)) (.bypass (v == 1))).recorded c []).finish c (.directive a 5)
  | .cellGates a v => ((s.direct (a / 256) (some (a % 256)) (.gates (v == 1))).recorded c []).finish c (.directive a 6)
  | .slowRead a off n => (s.recorded c []).slowReadDo c a off n
  | .itinLoad e pts => ((s.itinDo e pts).recorded c []).finish c now
  | .canRecover n =>
    let (s1, runs) := s.canRecoverStart n
    (s1.recorded c []).finish c (if runs then .canUp n else now)
  | .canAbort n o =>
    let (s1, gone) := s.canAbortObj n o
    (s1.recorded c []).finish c (if gone then now else .canGone n o)
  | .journalFreeze pre post =>
    match s.captureTrigger s.epoch pre post with
    | (s1, some i) => (s1.recorded c []).finish c (.capture i)
    | (s1, none) => s1.failed c stFull
  | .pairHandover => (s.handoverBegin.recorded c []).finish c .handover
  | .pairResync => (s.resyncBegin.recorded c []).finish c .resync
  | _ => (s.recorded c []).finish c now

/-- A command at its apply-epoch: LATE when that epoch has passed, the checks 1, 4, 5, 6 and 7 again, then its effect. Of check 1
only the itinerary's rules can change while it waits; the version is the one agreed by the session that posted it (R351). -/
def State.applyCmd (s : State) (c : Cmd) : State :=
  let v := firstFail [s.checkItin c.op, verdict (decide (s.epoch ≤ c.epoch)) stLate, s.check4 c.op 0 0, s.check5 c.agent c.op, s.check6 c.op,
    s.check7 c.op, s.checkSet c.agent c.op]
  if v.1 ≠ 0 then s.failed c v.1 v.2 else s.effect c

/-- Values that some commands write to a point of the device. -/
def State.valuesFor (s : State) (f : Field) (due : List Cmd) : List Nat :=
  (due.flatMap (fun c => (opItems c.op).getD [])).filterMap (fun e =>
    if s.pointAt e.1 = some ⟨f, 0, 0⟩ then some (s.newValue e).toNat else none)

/-- What the mode commands of an epoch must know of each other: whether one of them is a Halt, and the reason written with them
(R300, R314). -/
def State.modesDue (s : State) (due : List Cmd) : State :=
  let reasons := (s.valuesFor .devOverrideReason due).filter (· != 0)
  s.withDev { s.dev with haltCmd := (s.valuesFor .devModeCmd due).contains 5, reasonDue := (reasons.getLast?).getD 0 }

/-- The commands due at an input cut-off take effect in the order in which they were accepted (R343). -/
def State.applyDue (s : State) : State :=
  let due := s.host.pr.filter (fun c => decide (c.epoch ≤ s.epoch))
  let s1 := if due.isEmpty then s else (s.modesDue (due.filter (fun c => c.epoch == s.epoch))).prRemove (due.map (·.id))
  forL due (fun c t => t.applyCmd c) s1

/-! ## The rows of Table 11.7 -/

def execWritePoints (agent : Agent) (ring : Fin 8) (hdr : DescHdr) (items : List (Nat × Word)) (s : State) :
    Host.Outcome State Fault Refusal :=
  .next (s.fetch (agentNo agent) ring { hdr := hdr, op := .writePoints items })

def execWriteMasked (agent : Agent) (ring : Fin 8) (hdr : DescHdr) (items : List (Nat × Word × Word)) (s : State) :
    Host.Outcome State Fault Refusal :=
  .next (s.fetch (agentNo agent) ring { hdr := hdr, op := .writeMasked items })

def execReadPoints (agent : Agent) (ring : Fin 8) (hdr : DescHdr) (addr : Nat) (idx : List Nat) (s : State) :
    Host.Outcome State Fault Refusal :=
  .next (s.fetch (agentNo agent) ring { hdr := hdr, op := .readPoints addr idx })

def execNop (agent : Agent) (ring : Fin 8) (hdr : DescHdr) (s : State) : Host.Outcome State Fault Refusal :=
  .next (s.fetch (agentNo agent) ring { hdr := hdr, op := .nop })

def execCancel (agent : Agent) (ring : Fin 8) (hdr : DescHdr) (tag cmdRing : Nat) (s : State) :
    Host.Outcome State Fault Refusal :=
  .next (s.fetch (agentNo agent) ring { hdr := hdr, op := .cancel tag cmdRing })

def execSubscribeP (agent : Agent) (ring : Fin 8) (hdr : DescHdr) (idx : List Nat) (s : State) :
    Host.Outcome State Fault Refusal :=
  .next (s.fetch (agentNo agent) ring { hdr := hdr, op := .subscribeP idx })

def execUnsubscribeP (agent : Agent) (ring : Fin 8) (hdr : DescHdr) (idx : List Nat) (s : State) :
    Host.Outcome State Fault Refusal :=
  .next (s.fetch (agentNo agent) ring { hdr := hdr, op := .unsubscribeP idx })

def execSetM (agent : Agent) (ring : Fin 8) (hdr : DescHdr) (ranges : List (Nat × Nat)) (s : State) :
    Host.Outcome State Fault Refusal :=
  .next (s.fetch (agentNo agent) ring { hdr := hdr, op := .setM ranges })

def execRequestF (agent : Agent) (ring : Fin 8) (hdr : DescHdr) (s : State) : Host.Outcome State Fault Refusal :=
  .next (s.fetch (agentNo agent) ring { hdr := hdr, op := .requestF })

def execEnvPolicy (agent : Agent) (ring : Fin 8) (hdr : DescHdr) (tier policy : Nat) (s : State) :
    Host.Outcome State Fault Refusal :=
  .next (s.fetch (agentNo agent) ring { hdr := hdr, op := .envPolicy tier policy })

def execLoadPd (agent : Agent) (ring : Fin 8) (hdr : DescHdr) (bytes : List Byte) (length : Nat) (s : State) :
    Host.Outcome State Fault Refusal :=
  .next (s.fetch (agentNo agent) ring { hdr := hdr, op := .loadPd bytes length })

def execRoundLinkup (agent : Agent) (ring : Fin 8) (hdr : DescHdr) (mask : Nat) (s : State) :
    Host.Outcome State Fault Refusal :=
  .next (s.fetch (agentNo agent) ring { hdr := hdr, op := .roundLinkup mask })

def execCellBypass (agent : Agent) (ring : Fin 8) (hdr : DescHdr) (addr close : Nat) (s : State) :
    Host.Outcome State Fault Refusal :=
  .next (s.fetch (agentNo agent) ring { hdr := hdr, op := .cellBypass addr close })

def execCellGates (agent : Agent) (ring : Fin 8) (hdr : DescHdr) (addr release : Nat) (s : State) :
    Host.Outcome State Fault Refusal :=
  .next (s.fetch (agentNo agent) ring { hdr := hdr, op := .cellGates addr release })

def execSlowRead (agent : Agent) (ring : Fin 8) (hdr : DescHdr) (addr off count : Nat) (s : State) :
    Host.Outcome State Fault Refusal :=
  .next (s.fetch (agentNo agent) ring { hdr := hdr, op := .slowRead addr off count })

def execItinLoad (agent : Agent) (ring : Fin 8) (hdr : DescHdr) (engine : Nat) (pts : List (Nat × Int × Int)) (s : State) :
    Host.Outcome State Fault Refusal :=
  .next (s.fetch (agentNo agent) ring { hdr := hdr, op := .itinLoad engine pts })

def execCanRecover (agent : Agent) (ring : Fin 8) (hdr : DescHdr) (ctl : Nat) (s : State) :
    Host.Outcome State Fault Refusal :=
  .next (s.fetch (agentNo agent) ring { hdr := hdr, op := .canRecover ctl })

def execCanAbort (agent : Agent) (ring : Fin 8) (hdr : DescHdr) (ctl obj : Nat) (s : State) :
    Host.Outcome State Fault Refusal :=
  .next (s.fetch (agentNo agent) ring { hdr := hdr, op := .canAbort ctl obj })

def execJournalFreeze (agent : Agent) (ring : Fin 8) (hdr : DescHdr) (pre post : Nat) (s : State) :
    Host.Outcome State Fault Refusal :=
  .next (s.fetch (agentNo agent) ring { hdr := hdr, op := .journalFreeze pre post })

def execJournalExport (agent : Agent) (ring : Fin 8) (hdr : DescHdr) (first last : Nat) (s : State) :
    Host.Outcome State Fault Refusal :=
  .next (s.fetch (agentNo agent) ring { hdr := hdr, op := .journalExport first last })

def execJournalRelease (agent : Agent) (ring : Fin 8) (hdr : DescHdr) (s : State) : Host.Outcome State Fault Refusal :=
  .next (s.fetch (agentNo agent) ring { hdr := hdr, op := .journalRelease })

def execReplayFeed (agent : Agent) (ring : Fin 8) (hdr : DescHdr) (blocks : List FedBlock) (s : State) :
    Host.Outcome State Fault Refusal :=
  .next (s.fetch (agentNo agent) ring { hdr := hdr, op := .replayFeed blocks })

def execPairHandover (agent : Agent) (ring : Fin 8) (hdr : DescHdr) (s : State) : Host.Outcome State Fault Refusal :=
  .next (s.fetch (agentNo agent) ring { hdr := hdr, op := .pairHandover })

def execPairResync (agent : Agent) (ring : Fin 8) (hdr : DescHdr) (s : State) : Host.Outcome State Fault Refusal :=
  .next (s.fetch (agentNo agent) ring { hdr := hdr, op := .pairResync })

def execFwWrite (agent : Agent) (ring : Fin 8) (hdr : DescHdr) (data : List Byte) (length off : Nat) (s : State) :
    Host.Outcome State Fault Refusal :=
  .next (s.fetch (agentNo agent) ring { hdr := hdr, op := .fwWrite data length off })

def execFwCommit (agent : Agent) (ring : Fin 8) (hdr : DescHdr) (length : Nat) (s : State) :
    Host.Outcome State Fault Refusal :=
  .next (s.fetch (agentNo agent) ring { hdr := hdr, op := .fwCommit length })

end Sys2Proof.Machine
end

