-- ==== Sys2Proof/Machine/HostIf.lean ====
section
/-!
DEFINITION. HostIf.lean: the host interface beside its opcodes: BAR0 reads, sessions and their end, ring registers, the
letterbox, the host watchdog, MSI-X and the on-chip ring registers (chapter 11, R456).
-/
namespace Sys2Proof.Machine

/-! ## Points of Table 11.12 -/

/-- Publishes version, session and watchdog. -/
def State.hifPublish (s : State) : State :=
  let h := s.host
  let ver := if h.negState = 1 then h.negMajor * 256 + h.negMinor else 0
  let wdt := if h.wdtMs = 0 then 0 else if h.wdtExpired then 2 else 1
  (((s.putN .devHifVersion 0 ver).putN .devHifSession 0 h.session).putN .devHifWdtMs 0 h.wdtMs).putN .devHifWdtState 0 wdt

/-! ## BAR0 (Tables 11.2 to 11.5) -/

/-- `STATUS`. -/
def State.barStatus (s : State) : Nat :=
  s.mode + 2 ^ 3 * Arith.b2n s.dev.pdActive + 2 ^ 4 * s.dev.boot + 2 ^ 8 * Arith.b2n s.dev.stoA + 2 ^ 9 * Arith.b2n s.dev.stoB
  + 2 ^ 10 * Arith.b2n s.dev.hostLost + 2 ^ 11 * Arith.b2n (s.n .devSafeCause != 0)

/-- A word of a ring's register block (Table 11.5). -/
def State.ringReg (s : State) (key off : Nat) : Nat :=
  let r := s.ring key
  let size := r.size
  match off with
  | 0x00 => r.base % 2 ^ 32
  | 0x04 => r.base / 2 ^ 32
  | 0x08 => r.logSize + 2 ^ 8 * r.cpl + 2 ^ 16 * r.vector + 2 ^ 22 * Arith.b2n r.irqEn + 2 ^ 31 * Arith.b2n r.enable
  | 0x0C => r.idx % size + 2 ^ 16 * (r.idx / size % 2) + 2 ^ 17 * Arith.b2n r.fault + 2 ^ 24 * r.code
  | 0x10 => r.mirror % 2 ^ 32
  | 0x14 => r.mirror / 2 ^ 32
  | 0x18 => r.bytes (ringNo key)
  | 0x1C => r.modCount + 2 ^ 16 * r.modUsec
  | _ => 0

/-- A word of the MSI-X table entry of a vector. -/
def State.msixWord (s : State) (v off : Nat) : Nat :=
  let e := Tab.get (0, 0, true) s.host.msixTab v
  match off with
  | 0 => e.1 % 2 ^ 32
  | 4 => e.1 / 2 ^ 32
  | 8 => e.2.1
  | _ => Arith.b2n e.2.2

/-- `MSIX_MAP[c]` as a word. -/
def State.msixMapWord (s : State) (c : Nat) : Nat :=
  let e := Tab.get (0, false) s.host.msixMap c
  e.1 + 2 ^ 31 * Arith.b2n e.2

/-- What an aligned 4-byte read of BAR0 returns (R329, R330). -/
def State.barRead (s : State) (off : Nat) : Nat :=
  if off < 0x200 then
    match off with
    | 0x0000 => 0x010A5A40
    | 0x0004 => Config.hwRev.toNat
    | 0x0008 =>
      if s.dev.boot = 0 then (Config.fwVersion (Arith.b2n s.hw.bankB)).toNat + 2 ^ 24 * Arith.b2n s.hw.bankB else 0xFF000000
    | 0x000C => Config.kernelVersion.toNat + 2 ^ 16 * Config.catalogueVersion.toNat
    | 0x0014 => s.barStatus
    | 0x0018 => s.hw.bootDetail
    | 0x0020 => s.epoch % 2 ^ 32
    | 0x0024 => s.epoch / 2 ^ 32 % 2 ^ 16
    | 0x0028 => s.clk.t0 % 2 ^ 32
    | 0x002C => s.clk.t0 / 2 ^ 32 % 2 ^ 32
    | 0x0030 =>
      s.n .pairRole + 2 ^ 2 * Arith.b2n s.hw.posB + 2 ^ 3 * Arith.b2n s.pair.heard + 2 ^ 4 * s.n .pairProtection
      + 2 ^ 16 * s.n .pairGeneration
    | 0x0100 => 0x00000102
    | 0x0104 => s.host.reqMinor + 2 ^ 8 * s.host.reqMajor
    | 0x0108 => s.host.negState + 2 ^ 8 * s.host.negMinor + 2 ^ 16 * s.host.negMajor
    | 0x010C => s.host.session
    | 0x0110 => Arith.b2n s.host.prDrop
    | 0x0120 => s.host.wdtMs
    | 0x0124 =>
      Arith.b2n (s.host.wdtMs != 0 && !s.host.wdtExpired) + 2 * Arith.b2n s.host.wdtExpired + 4 * Arith.b2n s.host.offRefused
      + 2 ^ 16 * s.host.expiries
    | 0x0130 => s.prCount + 2 ^ 16 * s.n .devHifPrPeak
    | _ => 0
  else if off < 0x214 then s.msixMapWord ((off - 0x200) / 4)
  else if 0x1000 ≤ off ∧ off < 0x1000 + 21 * 0x40 then s.ringReg ((off - 0x1000) / 0x40) (off % 0x40)
  else if 0x8000 ≤ off ∧ off < 0x8400 then s.msixWord ((off - 0x8000) / 16) (off % 16)
  else if off = 0x9000 then s.host.msixPend % 2 ^ 32
  else if off = 0x9004 then s.host.msixPend / 2 ^ 32
  else 0

/-- Bytes that a read of BAR0 returns from byte `off` on: a read of any width returns the addressed bytes, and both words of an 8-byte
register stand at the same instant (R329). -/
def State.barBytes (s : State) (off n : Nat) : List Byte :=
  (List.range' off n).map (fun a => BitVec.ofNat 8 (s.barRead (a / 4 * 4) / 2 ^ (8 * (a % 4))))

/-- What a read of the letterbox page returns (R337). -/
def letterboxRead (_off : Nat) : Nat := 0

/-! ## Ring faults, enable and disable (R333, R337, R368, R456) -/

/-- A ring stops with a fault code (Table 11.5); it is counted and reported (R354). -/
def State.ringFault (s : State) (key code : Nat) : State :=
  let s1 := s.putRing key { s.ring key with enable := false, fault := true, code := code, waiting := none }
  (s1.inc .devHifRingFaults).raise 0x0A04 kRing (ringNo key) code

/-- Whether an agent has an open session: plant logic always (R456). -/
def State.sessionOpen (s : State) (agent : Nat) : Bool := agent != 0 || s.host.negState == 1

/-- Whether a piece of memory lies in the plant-logic DDR4 or SRAM region (Table 16.1). -/
def State.inLogicRam (s : State) (base len : Nat) : Bool :=
  (decide (0x100000000 ≤ base) && decide (base + len ≤ 0x100000000 + s.n .logicDdrMib * 2 ^ 20))
  || (decide (0x20000000 ≤ base) && decide (base + len ≤ 0x20000000 + 2 ^ 21))

/-- Whether `ENTRY_BYTES` of ring n is valid; ring 19 must hold the tier F envelope (Table 11.5, R368). -/
def State.entryOk (s : State) (agent n b : Nat) : Bool :=
  decide (n < 17)
  || (b % 64 == 0 && decide (64 ≤ b) && decide (b ≤ 0x0FFFFFC0)
      && (n != 19 || decide (s.n .envNeedBytes (tierKey agent 2) ≤ b)))

/-- The first check that a ring fails when it is enabled, by its fault code; 0 for none. -/
def State.ringCheck (s : State) (agent n : Nat) (r : Ring) : Nat :=
  if !s.sessionOpen agent then 5
  else if r.logSize < 4 ∨ 16 < r.logSize then 1
  else if r.base = 0 ∨ r.mirror = 0 ∨ r.base % 64 ≠ 0 ∨ r.mirror % 8 ≠ 0 then 2
  else if !s.entryOk agent n r.entryBytes then 6
  else if agent = 1 ∧ ¬(s.inLogicRam r.base (r.bytes n * r.size) ∧ s.inLogicRam r.mirror 8) then 4
  else 0

/-- Fields of `CFG` other than `ENABLE`, as a write sets them while the ring is stopped. -/
def Ring.configure (r : Ring) (n : Nat) (cfg : Nat) : Ring :=
  { r with logSize := cfg % 32, cpl := if n < 8 then Arith.bits cfg 10 8 else 0, vector := Arith.bits cfg 21 16,
           irqEn := Arith.bit cfg 22 }

/-- Tier of an envelope ring. -/
def ringTier (n : Nat) : Option Nat := if 17 ≤ n ∧ n ≤ 19 then some (n - 17) else none

/-- A tier's record when its ring starts: no envelope was written to it yet (R371, R372). -/
def State.tierStart (s : State) (agent n : Nat) : State :=
  match ringTier n with
  | some t =>
    let k := tierKey agent t
    s.putTier k { s.tier k with skips := 0, skipCause := 0, episode := false, prevEpoch := 0, writing := none }
  | none => s

/-- A ring starts with both indices at slot 0, generation 0 (R333). -/
def State.ringStart (s : State) (agent n : Nat) (r : Ring) : State :=
  let key := ringKey agent n
  let s1 := s.putRing key { r with enable := true, fault := false, code := 0, idx := 0, peer := 0, unsig := 0,
                                   unsigAt := 0, seq := 0, reserved := 0, waiting := none }
  (s1.tierStart agent n).mirror key

/-- Whether an agent has ring n (R456). -/
def ringExists (agent n : Nat) : Bool := decide (n < (if agent = 0 then 21 else 20))

/-- A write of `CFG` with `ENABLE` 1: ignored while the ring is enabled; otherwise the ring is checked and starts, or stops
with a fault. -/
def State.ringEnable (s : State) (agent n cfg : Nat) : State :=
  let key := ringKey agent n
  let r := s.ring key
  if !ringExists agent n || !s.dev.powered || r.enable then s
  else
    let r1 := r.configure n cfg
    let c := s.ringCheck agent n r1
    if c = 0 then s.ringStart agent n r1 else (s.putRing key r1).ringFault key c

def execRingEnable (agent : Agent) (n : Fin 21) (cfg : Word) (s : State) : Host.Outcome State Fault Refusal :=
  .next (s.ringEnable (agentNo agent) n cfg.toNat)

/-- Stops a ring: descriptors not yet accepted are abandoned, and an envelope being written to it is never sealed. -/
def State.ringStop (s : State) (key : Nat) : State :=
  let r := s.ring key
  let s1 := s.putRing key { r with enable := false, fault := false, code := 0, waiting := none }
  match ringTier (ringNo key) with
  | some t =>
    let k := tierKey (key / 32) t
    s1.putTier k { s1.tier k with writing := none }
  | none => s1

/-- A write of `CFG` with `ENABLE` 0 stops the ring and clears `FAULT`; other fields are ignored while it was enabled. -/
def State.ringDisable (s : State) (agent n : Nat) : State :=
  if ringExists agent n && s.dev.powered then s.ringStop (ringKey agent n) else s

def execRingDisable (agent : Agent) (n : Fin 21) (s : State) : Host.Outcome State Fault Refusal :=
  .next (s.ringDisable (agentNo agent) n)

/-! ## Sessions (R335, R351, R352) -/

/-- Commands of the host among those that wait in poste restante. -/
def State.hostWaiting (s : State) : List Cmd := s.host.pr.filter (fun c => c.agent == 0)

/-- The completions of the ending session that will never be written: those noted, and those of its commands that still wait;
those of an earlier session were counted when it ended. -/
def State.discarded (s : State) : Nat :=
  (s.host.fins.filter (fun f => f.cmd.agent == 0)).length + (s.hostWaiting.filter s.sessionLive).length

/-- Every host ring stops, without a fault. -/
def State.hostRingsStop (s : State) : State :=
  forN 21 (fun n t => t.ringStop n) s

/-- The session ends with a cause (R351): rings stop, completions are discarded and counted, and the entries of poste restante
go when `PR_DROP_ON_LOSS` asks for it. -/
def State.sessionEnd (s : State) (cause : Nat) : State :=
  if s.host.negState ≠ 1 then (s.withHost { s.host with negState := 0, negMinor := 0, negMajor := 0 }).hifPublish
  else
    let lost := s.discarded
    let s1 := s.hostRingsStop
    let s2 := s1.withHost { s1.host with negState := 0, negMinor := 0, negMajor := 0,
                                         fins := s1.host.fins.filter (fun f => f.cmd.agent != 0) }
    let s3 := s2.withJrn { s2.jrn with exports := s2.jrn.exports.filter (fun x => x.cmd.agent != 0) }
    let s4 := (s3.jrnPublish.addN .devHifCplDiscarded 0 lost).raise 0x0A03 kDevice 0 cause
    let s5 := if lost = 0 then s4 else s4.raise 0x0A06 kDevice 0 lost
    let s6 := if s5.host.prDrop then s5.prRemove (s5.hostWaiting.map (·.id)) else s5
    s6.hifPublish

/-- HIF_REQ_WRITE: ends any session, then negotiates (R335). -/
def State.negotiate (s : State) (v : Nat) : State :=
  let minor := v % 256
  let major := v / 256 % 256
  let s1 := (s.sessionEnd 3)
  let s2 := s1.withHost { s1.host with reqMinor := minor, reqMajor := major }
  if major = 1 then
    ((s2.withHost { s2.host with negState := 1, negMajor := 1, negMinor := min minor 2,
                                 session := (s2.host.session + 1) % 2 ^ 32 }).hifPublish).raise
      0x0A01 kDevice 0 (2 ^ 8 + min minor 2)
  else
    (s2.withHost { s2.host with negState := 2 }).hifPublish.raise 0x0A02 kDevice 0 (v % 2 ^ 16)

/-- Whether the endpoint answers: firmware or the boot ROM runs (R302, R303). -/
def State.endpointUp (s : State) : Bool := s.dev.powered && (s.dev.boot == 0 || s.dev.boot == 2)

def execHifReqWrite (v : Word) (s : State) : Host.Outcome State Fault Refusal :=
  .next (if s.endpointUp then s.negotiate v.toNat else s)

/-- HOST_INTERFACE_RESET and FUNCTION_LEVEL_RESET end the session with cause 2. -/
def State.interfaceReset (s : State) : State := if s.endpointUp then s.sessionEnd 2 else s

def execHostInterfaceReset (s : State) : Host.Outcome State Fault Refusal := .next s.interfaceReset

def execFunctionLevelReset (s : State) : Host.Outcome State Fault Refusal := .next s.interfaceReset

/-- LINK_DOWN: the session ends and the host is lost (R323, R351). -/
def State.linkDown (s : State) : State :=
  if s.endpointUp then
    let s1 := s.sessionEnd 1
    let s2 := s1.withHost { s1.host with linkGen := 0, linkWidth := 0 }
    let s3 := s2.putN .envBPBudgetBytes 0 (s2.pBudget 0)
    if s3.up then s3.loseHost else s3
  else s.withHost { s.host with linkGen := 0, linkWidth := 0 }

def execLinkDown (s : State) : Host.Outcome State Fault Refusal := .next s.linkDown

/-- PCIE_LINK_UP: the link trains at a rate and width once PERST# is deasserted (R302, R328, R352); the tier P budget
follows (R369). Width code 1 is x1, 2 is x2, 4 is x4; another code is no width of the endpoint. -/
def State.pcieUp (s : State) (gen width : Nat) : State :=
  if s.dev.powered ∧ s.dev.perst ∧ gen ≠ 0 ∧ (width = 1 ∨ width = 2 ∨ width = 4) then
    let s1 := s.withHost { s.host with linkGen := gen, linkWidth := width }
    s1.putN .envBPBudgetBytes 0 (s1.pBudget 0)
  else s

def execPcieLinkUp (gen : Fin 4) (width : Fin 5) (s : State) : Host.Outcome State Fault Refusal :=
  .next (s.pcieUp gen width)

/-! ## Host watchdog and letterbox (R337, R350) -/

/-- WDT_CTRL_WRITE: a non-zero period restarts the watchdog, so that it is no longer expired; a lost host returns by the letterbox
only (R325, R350). -/
def State.wdtWrite (s : State) (v : Nat) : State :=
  let ms := v % 1024
  if 1000 < ms then s
  else if ms = 0 then
    if modeRuns s.mode then s.withHost { s.host with offRefused := true }
    else (s.withHost { s.host with wdtMs := 0 }).hifPublish
  else (s.withHost { s.host with wdtMs := ms, wdtAt := s.now, wdtExpired := false }).hifPublish

def execWdtCtrlWrite (v : Word) (s : State) : Host.Outcome State Fault Refusal :=
  .next (if s.endpointUp then s.wdtWrite v.toNat else s)

/-- HOST_WDT_EXPIRY: no letterbox write within the period (R350, R323). -/
def State.wdtExpire (s : State) : State :=
  let h := s.host
  if s.up ∧ h.wdtMs ≠ 0 ∧ ¬h.wdtExpired ∧ h.wdtAt + msNs h.wdtMs ≤ s.now then
    ((s.withHost { h with wdtExpired := true, expiries := min (h.expiries + 1) 0xFFFF }).hifPublish.msixCause 1).loseHost
  else s

def execHostWdtExpiry (s : State) : Host.Outcome State Fault Refusal := .next s.wdtExpire

/-- Every write to the letterbox page restarts the host watchdog, returns a lost host, and wakes the module where the doorbell
source is enabled (R337, R317, R325). -/
def State.letterbox (s : State) : State :=
  let s1 := (s.withHost { s.host with wdtAt := s.now, wdtExpired := false }).hifPublish
  if ¬s1.up then s1
  else
    let s2 := s1.returnHost
    if s2.mode = 0 ∧ Arith.bit (s2.n .devWakeMask) 4 then s2.wakeUp (s2.wakeBits 16) else s2

/-- HEARTBEAT. -/
def execHeartbeat (s : State) : Host.Outcome State Fault Refusal :=
  .next (if s.endpointUp then s.letterbox else s)

/-- Whether the policy of a ring lets a host index lag: an envelope ring under Newest (R374). -/
def State.newestRing (s : State) (agent n : Nat) : Bool :=
  match ringTier n with
  | some t => s.n .envPolicy (tierKey agent t) == 1
  | none => false

/-- The host index that a doorbell word gives a ring; none for an invalid one (R334, R337, R374). -/
def State.doorbellIdx (s : State) (agent n w : Nat) : Option Nat :=
  let r := s.ring (ringKey agent n)
  match r.unspell w with
  | none => none
  | some x =>
    if n < 8 then if ringDist r.size x r.idx ≤ r.size then some x else none
    else if s.newestRing agent n then if ringDist r.size r.idx x ≤ r.used then some x else some r.peer
    else if ringDist r.size r.idx x ≤ r.size then some x else none

/-- A doorbell write of an agent; a stopped ring ignores it. -/
def State.ringBell (s : State) (agent n w : Nat) : State :=
  let key := ringKey agent n
  if ringExists agent n && (s.ring key).live then
    match s.doorbellIdx agent n w with
    | some x => s.putRing key { s.ring key with peer := x }
    | none => s.ringFault key 3
  else s

def execDoorbell (agent : Agent) (n : Fin 21) (v : Word) (s : State) : Host.Outcome State Fault Refusal :=
  .next (match agent with
    | .host => if s.endpointUp then s.letterbox.ringBell 0 n v.toNat else s
    | .logic => if s.dev.powered then s.ringBell 1 n v.toNat else s)

/-! ## MSI-X and moderation (R331, R349) -/

/-- The mask bit of a vector; clearing it sends a withheld message. -/
def State.msixMask (s : State) (v : Nat) (mask : Bool) : State :=
  let e := Tab.get (0, 0, true) s.host.msixTab v
  let s1 := s.withHost { s.host with msixTab := Tab.put (0, 0, true) s.host.msixTab v (e.1, e.2.1, mask) }
  if !mask && Arith.bit s1.host.msixPend v then
    (s1.withHost { s1.host with msixPend := Arith.setBit s1.host.msixPend v false }).emit (.msix v)
  else s1

def execMsixUnmask (v : Fin 64) (s : State) : Host.Outcome State Fault Refusal :=
  .next (if s.endpointUp then s.msixMask v false else s)

/-- MODERATION_TIMEOUT: the longest delay after the first unsignalled entry has passed. -/
def State.modTimeout (s : State) (key : Nat) : State :=
  let r := s.ring key
  if r.live && r.irqEn && decide (0 < r.unsig) && r.modUsec != 0 && decide (r.unsigAt + 1000 * r.modUsec ≤ s.now) then
    (s.putRing key { r with unsig := 0 }).ringSignal key
  else s

def execModerationTimeout (agent : Agent) (n : Fin 21) (s : State) : Host.Outcome State Fault Refusal :=
  .next (s.modTimeout (ringKey (agentNo agent) n))

/-! ## Register writes (R8, R329) -/

/-- A word replaced in a 64-bit base address: the low word (`lo`) or the high word. -/
def setHalf (old w : Nat) (lo : Bool) : Nat := if lo then old / 2 ^ 32 * 2 ^ 32 + w else old % 2 ^ 32 + 2 ^ 32 * w

/-- A write into a ring's register block; the registers that `ENABLE` 1 locks ignore it (R333). `COUNT` 0 is outside its
range and leaves `COUNT` as it is. -/
def State.ringRegWrite (s : State) (agent n off w : Nat) : State :=
  let key := ringKey agent n
  let r := s.ring key
  let set := fun (x : Ring) => if r.enable then s else s.putRing key x
  match off with
  | 0x00 => set { r with base := setHalf r.base (w / 64 * 64) true }
  | 0x04 => set { r with base := setHalf r.base w false }
  | 0x08 => if Arith.bit w 31 then s.ringEnable agent n w
            else
              let s1 := if r.enable then s else s.putRing key (r.configure n w)
              s1.ringDisable agent n
  | 0x10 => set { r with mirror := setHalf r.mirror (w / 8 * 8) true }
  | 0x14 => set { r with mirror := setHalf r.mirror w false }
  | 0x18 => if 17 ≤ n then set { r with entryBytes := w % 2 ^ 28 } else s
  | 0x1C => s.putRing key { r with modCount := if w % 2 ^ 16 = 0 then r.modCount else w % 2 ^ 16, modUsec := w / 2 ^ 16 }
  | _ => s

/-- A write into the MSI-X table. -/
def State.msixTabWrite (s : State) (v off w : Nat) : State :=
  let e := Tab.get (0, 0, true) s.host.msixTab v
  let put := fun (x : Nat × Nat × Bool) => s.withHost { s.host with msixTab := Tab.put (0, 0, true) s.host.msixTab v x }
  match off with
  | 0 => put (setHalf e.1 (w / 4 * 4) true, e.2)
  | 4 => put (setHalf e.1 w false, e.2)
  | 8 => put (e.1, w, e.2.2)
  | _ => s.msixMask v (Arith.bit w 0)

/-- An aligned 4-byte write to BAR0. Read-only and RSV places ignore it; the device reset key is a command of its own. -/
def State.barWrite (s : State) (off : Nat) (v : Word) : State :=
  let w := v.toNat
  if off % 4 ≠ 0 then s
  else if off = 0x0010 then (if w = 0x0F1C then s.interfaceReset else s)
  else if off = 0x0104 then s.negotiate w
  else if off = 0x0110 then s.withHost { s.host with prDrop := Arith.bit w 0 }
  else if off = 0x0120 then s.wdtWrite w
  else if 0x200 ≤ off ∧ off < 0x214 then
    s.withHost { s.host with msixMap := Tab.put (0, false) s.host.msixMap ((off - 0x200) / 4) (w % 64, Arith.bit w 31) }
  else if 0x1000 ≤ off ∧ off < 0x1000 + 21 * 0x40 then s.ringRegWrite 0 ((off - 0x1000) / 0x40) (off % 0x40) w
  else if 0x8000 ≤ off ∧ off < 0x8400 then s.msixTabWrite ((off - 0x8000) / 16) (off % 16) w
  else s

/-- REGISTER_WRITE: a write to a register of BAR0, of the on-chip ring registers, or, by a core, of the interrupt
controller. -/
def execRegisterWrite (space : RegSpace) (off : Nat) (v : Word) (s : State) : Host.Outcome State Fault Refusal :=
  .next (match space with
    | .bar0 => if s.endpointUp then s.barWrite off v else s
    | .logicRings =>
      if s.dev.powered && off % 4 == 0 && decide (off < 20 * 0x40) then s.ringRegWrite 1 (off / 0x40) (off % 0x40) v.toNat else s
    | .irq c => if s.dev.powered then s.irqRegWrite c off v else s)

end Sys2Proof.Machine
end

