-- ==== Sys2Proof/Machine/Plant.lean ====
section
/-!
DEFINITION. Plant.lean: validation of a plant description (R33, R34, R533, R541) and its activation (R24, R231, R305,
R363, R536). The parts reach this file decoded (`Config.parseParts`).
-/
namespace Sys2Proof.Machine

/-- What the report points of a failed load hold (R541), with the completion status. -/
structure PdFault where
  check : Nat
  status : Nat
  entity : Nat
  index : Nat
  detail : Nat
  lanes : Nat
  deriving DecidableEq, Repr

/-- A fault of a check, without lane drives. -/
def pdFault (check status entity index detail : Nat) : PdFault :=
  { check := check, status := status, entity := entity, index := index, detail := detail, lanes := 0 }

/-- The first fault of a list of conditions. -/
def firstSome {α : Type} : List (Option α) → Option α
  | [] => none
  | some a :: _ => some a
  | none :: r => firstSome r

/-- A fault unless a condition holds. -/
def mustBe {α : Type} (ok : Bool) (a : α) : Option α := if ok then none else some a

/-- A field of the header. -/
def hdrField (bs : List Byte) (off n : Nat) : Nat := Arith.leNat ((bs.drop off).take n)

/-- The offset of a field that must be 0 and is not (R541). -/
def zeroFault (bs : List Byte) (lo hi : Nat) : Option Nat :=
  mustBe (((bs.drop lo).take (hi - lo)).all (fun b => b == 0)) lo

/-! ## Checks 1 to 3 (Table 1.11a, R533, R539) -/

/-- Header fault of check 1 as a byte offset, in the order of Table 1.12. -/
def headerFault (bs : List Byte) (length : Nat) : Option Nat :=
  let signed := Arith.bit (hdrField bs 9 1) 0
  firstSome [
    mustBe (decide (256 ≤ length) && bs.length == length && hdrField bs 16 8 == length) 16,
    mustBe (decide (hdrField bs 8 1 ≤ 2)) 8,
    mustBe (decide (hdrField bs 9 1 ≤ 1)) 9,
    zeroFault bs 10 16,
    if signed then none else zeroFault bs 56 152,
    zeroFault bs 152 256,
    mustBe ((bs.drop 24).take 32 == Arith.sha256 (bs.drop 256)) 24]

/-- Check 2: the signature. -/
def State.signatureFault (s : State) (bs : List Byte) : Option PdFault :=
  let signed := Arith.bit (hdrField bs 9 1) 0
  if !signed then mustBe (s.n .hwPdRequireSigned != 1) (pdFault 2 stFormat 0 0 1)
  else mustBe (Config.signatureOk ((bs.drop 56).take 96) (bs.take 56) s.keysValid) (pdFault 2 stFormat 0 0 2)

/-- Check 3: the three versions; `kernelOk` says which control-kernel versions match (R412). -/
def versionFault (bs : List Byte) (kernelOk : Nat → Bool) : Option PdFault :=
  let f := fun v => pdFault 3 stVersion 0 0 v
  firstSome [
    mustBe (hdrField bs 0 4 == 1) (f (hdrField bs 0 4)),
    mustBe (kernelOk (hdrField bs 4 2)) (f (hdrField bs 4 2)),
    mustBe (hdrField bs 6 2 == Config.catalogueVersion.toNat) (f (hdrField bs 6 2))]

/-! ## Check 4: counts (Table 0.1, R434, R448) -/

/-- Count that a list of unit numbers asks for: their number, or one above the highest. -/
def countOf (ns : List Nat) : Nat := (ns.map (· + 1)).foldl max ns.length

/-- One above the highest number of a list; 0 for none. -/
def aboveAll (ns : List Nat) : Nat := (ns.map (· + 1)).foldl max 0

/-- A count above its maximum. -/
def overCount (kind index found limit : Nat) : Option PdFault :=
  mustBe (decide (found ≤ limit)) (pdFault 4 stRange kind index found)

/-- Maximum number of units of a kind (Table 0.1). -/
def unitMax (kind : Nat) : Nat :=
  match kind with
  | 2 => 16
  | 3 => 12
  | 4 => 4
  | 5 => 48
  | 6 => 12
  | 9 => 32
  | 10 => 4
  | _ => 0

/-- Check 4. -/
def countFault (p : Plant) : Option PdFault :=
  let arms := fun q => p.arms.filter q
  firstSome ([overCount 1 0 (countOf p.rounds) 16]
    ++ p.rounds.map (fun r => overCount 1 r (countOf ((p.pos.filter (fun x => x.round == r)).map (·.pos))) 256)
    ++ [overCount 2 0 (countOf (p.arms.map (·.id))) 256]
    ++ p.rounds.map (fun r => overCount 1 r (arms (fun a => a.round == r)).length 16)
    ++ [overCount 3 0 (countOf (p.drives.map (·.drive))) 32]
    ++ p.drives.map (fun d => overCount 3 d.drive (countOf ((arms (fun a => a.drive == d.drive)).map (·.idx))) 24)
    ++ p.arms.map (fun a => overCount 2 a.id (a.nReq + a.kRed) 128)
    ++ p.drives.map (fun d =>
         overCount 3 d.drive ((arms (fun a => a.drive == d.drive)).map (fun a => a.nReq + a.kRed)).sum 512)
    ++ p.drives.map (fun d => overCount 3 d.drive d.nSets 4)
    ++ [overCount 4 0 (aboveAll (p.drives.filterMap (·.lane))) 16]
    ++ (List.range 16).map (fun n => overCount 4 n (p.drives.filter (fun d => d.lane == some n)).length 2)
    ++ [overCount 5 0 (countOf (p.shafts.map (·.group))) 8]
    ++ p.shafts.map (fun g => overCount 5 g.group g.members.length 8)
    ++ [overCount 6 0 (countOf p.powers) 8]
    ++ [2, 3, 4, 5, 6, 9, 10].map (fun k =>
         overCount 7 0 (countOf ((p.units.filter (fun u => u.kind == k)).map (·.idx))) (unitMax k))
    ++ p.canMsgs.map (fun e => mustBe (decide (e.2 ≤ 256)) (pdFault 4 stFull 7 e.1 e.2))
    ++ p.canMaps.map (fun e => overCount 7 e.1 e.2 64))

/-! ## Check 5: hierarchies and topologies (R10 to R12, R15 to R17, R146, R147, R161) -/

/-- Arms per winding set and first role of a topology (Table 5.1). -/
def armsPerSet (topology : Nat) : Nat × Nat := if topology = 2 then (6, 3) else (3, 0)

/-- Arms of a drive by their local index. -/
def drvArms (p : Plant) (d : Nat) : List ArmDesc :=
  sortBy (fun a b => decide (a.idx ≤ b.idx)) (p.arms.filter (fun a => a.drive == d))

/-- Positions that name an arm. -/
def armCells (p : Plant) (id : Nat) : List PosDesc := p.pos.filter (fun x => x.arm == some id)

/-- Whether an arm stands at its place with its role and set. -/
def armPlaced (d : DriveDesc) (a : ArmDesc) : Bool :=
  let (per, base) := armsPerSet d.topology
  if a.idx < d.nSets * per then a.set == a.idx / per && a.role == base + a.idx % per
  else a.role == 9 && a.set == 0xFF

/-- Whether an arm has its cells: N + k positions on its own round, within its limit, and N and k as its set has them. -/
def armFilled (p : Plant) (d : DriveDesc) (a : ArmDesc) : Bool :=
  let cells := armCells p a.id
  let n := a.nReq + a.kRed
  let first := ((drvArms p d.drive).find? (fun b => b.set == a.set)).getD a
  decide (1 ≤ a.nReq) && cells.length == n && cells.all (fun c => c.round == a.round)
  && decide (n ≤ (if d.topology = 0 ∧ a.role ≠ 9 then 4 else 128))
  && (a.role == 9 || (a.nReq == first.nReq && a.kRed == first.kRed))

/-- Drive-level code of check 5 (R541); 0 for none. `bal` is `bal_mode`. -/
def driveCode (p : Plant) (d : DriveDesc) (bal : Nat) : Nat :=
  let arms := drvArms p d.drive
  if 3 < d.type then 1
  else if 2 < d.topology ∨ ¬(d.modMode = 1 ∨ d.modMode = 2) then 2
  else if ¬(1 ≤ d.nSets ∧ d.nSets ≤ 4) ∨ (d.type = 3 ∧ d.nSets ≠ 1)
      ∨ (2 ≤ d.nSets ∧ ¬([0, 15, 20, 30] : List Nat).contains d.setOffset) then 3
  else if arms.map (·.idx) ≠ List.range arms.length ∨ arms.length < d.nSets * (armsPerSet d.topology).1
      ∨ ¬arms.all (armPlaced d) then 4
  else if bal = 1 ∧ d.type ≠ 3 then 5
  else if 7 < d.power ∨ 7 < d.prio then 6
  else 0

/-- Whether an element stands more than once in a list. -/
def twice {α : Type} [DecidableEq α] (x : α) (l : List α) : Bool := decide (2 ≤ (l.filter (fun y => decide (y = x))).length)

/-- Whether the Drives part and the Groups part say the same of a drive's shaft group, and name at most one (R10). -/
def shaftAgrees (p : Plant) (d : DriveDesc) : Bool :=
  let gs := p.shafts.filter (fun g => g.members.contains d.drive)
  decide (gs.length ≤ 1) && (match d.shaft with
    | some n => gs.any (fun g => g.group == n) || !p.shafts.any (fun g => g.group == n)
    | none => gs.isEmpty)

/-- Check 5. R541 has no code of its own for a drive whose shaft group is not one (R10), so it reports 4; a shaft or power group
declared twice, or a member named twice, reports under the group's own entity code. Both are choices of the model (log entry 111). -/
def hierFault (p : Plant) (bal : Nat → Nat) : Option PdFault :=
  let drv := fun d c => mustBe (c == 0) (pdFault 5 stRange 3 d c)
  let arm := fun (a : ArmDesc) ok => mustBe ok (pdFault 5 stRange 2 a.id a.id)
  firstSome (
    p.drives.map (fun d => drv d.drive (driveCode p d (bal d.drive)))
    ++ p.drives.map (fun d => drv d.drive (if shaftAgrees p d then 0 else 4))
    ++ p.shafts.map (fun g => mustBe (!twice g.group (p.shafts.map (·.group)) && g.members.all (fun m => !twice m g.members))
         (pdFault 5 stRange 5 g.group g.group))
    ++ p.powers.map (fun g => mustBe (!twice g p.powers) (pdFault 5 stRange 6 g g))
    ++ p.drives.map (fun d => drv d.drive (if twice d.drive (p.drives.map (·.drive)) then 4 else 0))
    ++ p.pos.map (fun x => mustBe (p.rounds.contains x.round
         && !twice (x.round, x.pos) (p.pos.map (fun y => (y.round, y.pos)))
         && (match x.arm with | some id => p.arms.any (fun a => a.id == id && a.round == x.round) | none => true))
         (pdFault 5 stRange 1 x.round x.pos))
    ++ p.arms.map (fun a => arm a (p.rounds.contains a.round && !twice a.id (p.arms.map (·.id))
         && (match p.drives.find? (fun d => d.drive == a.drive) with
             | some d => armFilled p d a
             | none => false))))

/-! ## Check 6: lane cost (R18, R140, Table 4.7) -/

/-- Whether an arm of a drive is a nearest-level arm. -/
def isNearest (d : DriveDesc) (a : ArmDesc) : Bool := a.role != 9 && d.topology != 0 && d.modMode == 2

/-- Cycles of an arm: its control kernel and its entry. -/
def armCost (d : DriveDesc) (a : ArmDesc) : Nat :=
  16 + (if a.role = 9 then 40 else if d.topology = 0 then 20 else if d.modMode = 2 then 272 + 3 * (a.nReq + a.kRed) else 60)

/-- Lane cost of a drive, in lane cycles. -/
def laneCost (p : Plant) (d : DriveDesc) : Nat :=
  let beyond := d.nSets - 1
  let demand := if d.type = 3 then 210 else (if d.fb.isSome then 30 else 0) + 300 + 120 + 80 + 90 + 110
  let flux := if d.type = 3 then 220 else (if d.type = 0 then 380 else 160) + 90
  let sets := match d.topology with | 1 => 120 * d.nSets | 2 => (200 + 150) * d.nSets | _ => 0
  180 + demand + 240 * d.nSets + 100 * beyond + flux + sets + 60 + 20 * beyond + 40
  + ((drvArms p d.drive).map (armCost d)).sum

/-- Lane cycles per epoch (Table 0.2). -/
def laneCycles (setting : Nat) : Nat := match setting with | 0 => 4375 | 1 => 8750 | _ => 17500

/-- Drives that a description places on a lane, ascending. -/
def onLane (p : Plant) (n : Nat) : List DriveDesc :=
  sortBy (fun a b => decide (a.drive ≤ b.drive)) (p.drives.filter (fun d => d.lane == some n))

/-- Cycles that a lane offers: none while it is out of service (R304). -/
def State.laneOffer (s : State) (setting n : Nat) : Nat := if Arith.bit s.dev.lanesOk n then laneCycles setting else 0

/-- The two drive numbers of a lane, 0xFF for an empty place. -/
def lanePair (p : Plant) (n : Nat) : Nat × Nat :=
  let ds := (onLane p n).map (·.drive)
  (ds.getD 0 0xFF, ds.getD 1 0xFF)

/-- Check 6. -/
def State.laneFault (s : State) (p : Plant) (setting : Nat) : Option PdFault :=
  firstSome ((List.range 16).map (fun n =>
    let used := ((onLane p n).map (laneCost p)).sum
    let offer := s.laneOffer setting n
    let (a, b) := lanePair p n
    mustBe (decide (used ≤ offer)) { pdFault 6 stFull 4 n (used - offer) with lanes := a + 2 ^ 8 * b }))

/-! ## Check 7: references (R20, R226, R304) -/

/-- Whether a description configures what a reference names; `fbKind` is `fb[n].kind`. -/
def refOk (p : Plant) (fbKind : Nat → Nat) (defined : Nat → Bool) (r : RefDesc) : Bool :=
  match r.kind with
  | 0 => p.rounds.contains r.idx
  | 1 => p.drives.any (fun d => d.drive == r.idx)
  | 2 => p.units.contains { kind := 2, idx := r.idx } && fbKind r.idx != 0
  | 7 => defined r.idx
  | 8 => decide (r.idx < 24)
  | k => p.units.contains { kind := k, idx := r.idx }

/-- Check 7: every reference of the parts names an entity that the description declares. -/
def State.refFault (s : State) (p : Plant) (fbKind : Nat → Nat) (defined : Nat → Bool) : Option PdFault :=
  let bad := fun ent idx d => pdFault 7 stRange ent idx d
  let motor := fun m => (p.drives.find? (fun d => d.drive == m)).any (fun d => d.type != 3 && d.lane.isSome)
  firstSome (
    p.shafts.map (fun g => mustBe (!g.members.isEmpty) (bad 5 g.group 0))
    ++ p.shafts.flatMap (fun g => g.members.map (fun m => mustBe (motor m) (bad 5 g.group m)))
    ++ p.drives.map (fun d => mustBe (p.powers.contains d.power) (bad 3 d.drive d.power))
    ++ p.drives.map (fun d => match d.shaft with
        | some n => mustBe (p.shafts.any (fun g => g.group == n)) (bad 3 d.drive n)
        | none => none)
    ++ p.drives.map (fun d => match d.fb with
        | some n => mustBe (refOk p fbKind defined { holder := 3, holderIdx := d.drive, kind := 2, idx := n }) (bad 3 d.drive n)
        | none => none)
    ++ p.refs.map (fun r => mustBe (refOk p fbKind defined r) (bad r.holder r.holderIdx r.idx))
    ++ p.units.map (fun u => mustBe (!s.dev.unitsOut.contains u) (bad 7 u.idx u.idx))
    ++ (p.refs.filterMap (fun r => if r.kind = 8 then some r.idx else none)
        ++ p.drives.flatMap (fun d => d.vLine ++ d.iSdm.flatten)).map
         (fun n => mustBe (!s.dev.unitsOut.contains { kind := 8, idx := n }) (bad 7 n n)))

/-! ## Check 8: plant-logic points and owners (R31, R32) -/

/-- Check 8: the first declaration outside the range or that shares index or path with an earlier one, or an owner named for a
point that is not of class H/L; the data points of a CAN send object are (Table 15.3). -/
def ownerFault (p : Plant) : Option PdFault :=
  let bad := fun x => pdFault 8 stOwner 8 x x
  let rec go : List LogicDesc → List LogicDesc → Option PdFault
    | _, [] => none
    | seen, l :: r =>
      if 0x20000 ≤ l.index ∧ l.index < 0x40000 ∧ ¬seen.any (fun k => k.index == l.index || k.path == l.path) then
        go (l :: seen) r
      else some (bad l.index)
  match go [] p.logic with
  | some f => some f
  | none => firstSome (p.logicOwned.map (fun q => mustBe ((entry q.f).wr == Writer.hl || (entry q.f).wr == Writer.canData)
      (bad (ptIndex q))))

/-! ## The values of a description -/

/-- Points of the tables whose default depends on their index: the temperature classes (Table 17.3). -/
def State.classDefaults (s : State) : State :=
  let put := fun (c : Nat) (v : List Rat) (t : State) =>
    (((((t.putR .thmWarnC c (v.getD 0 0)).putR .thmThrottleC c (v.getD 1 0)).putR .thmShutdownC c (v.getD 2 0)).putR .thmHystK c
      (v.getD 3 0)).putR .thmK c (v.getD 4 0)).putR .thmFloor c (v.getD 5 0)
  put 3 [80, 90, 105, 3, 1 / 30, 1 / 2] (put 2 [110, 130, 155, 5, 28 / 1000, 3 / 10]
    (put 1 [85, 95, 110, 5, 4 / 100, 4 / 10] (put 0 [100, 110, 125, 5, 4 / 100, 4 / 10] s)))

/-- Every point of class C back at its default. -/
def State.clearC (s : State) : State :=
  (s.withPts (s.pts.filter (fun e => (entry e.1.f).wr != .c))).classDefaults

/-- Points of class C that repeat what the parts say of drives, arms and shaft groups. -/
def State.mirrorParts (s : State) : State :=
  let s1 := forL s.plant.drives (fun d t =>
    (((t.putN .drvType d.drive d.type).putN .drvTopology d.drive d.topology).putN .drvModMode d.drive d.modMode).putN
      .drvHostLoss d.drive d.hostLoss) s
  let s2 := forL s.plant.arms (fun a t =>
    let i := a.drive * 24 + a.idx
    ((((t.putN .armArmId i a.id).putN .armRole i a.role).putN .armSet i a.set).putN .armNReq i a.nReq).putN .armKRed i a.kRed) s1
  forL s.plant.shafts (fun g t => t.putN .shaftMembers g.group ((g.members.map (fun m => 2 ^ m)).sum)) s2

/-- The block as a description would have it, before activation: its parts, and every point of class C at the value of the
description or at its default. -/
def State.candidate (s : State) (p : Plant) (setting : Nat) : State :=
  let s1 := ((s.withPlant p).clearC.putN .devEpochSetting 0 setting).mirrorParts
  forL p.values (fun e t => match t.pointAt e.1 with
    | some q => if (entry q.f).wr = .c then t.put q.f q.i e.2 q.j else t
    | none => t) s1

/-! ## Check 9: values (R34 and the rules that name check 9) -/

/-- Whether a value of class C lies in its range, with the conditions that ranges state beside their bounds. -/
def cValueOk (f : Field) (w : Word) : Bool :=
  match f with
  | .devLogicWdtMs => w == 0 || inRangeRaw f w
  | .sdmOsr => ([16, 32, 64, 128, 256] : List Nat).contains w.toNat
  | .auxDeadNs => inRangeRaw f w && w.toNat % 5 == 0
  | .objLen => decide (w.toNat ≤ 8) || ([12, 16, 20, 24, 32, 48, 64] : List Nat).contains w.toNat
  | .drvBrakeAux => decide (w.toNat ≤ 5) || w.toNat == 0xFF
  | .shaftLeaderOrder => decide (w.toNat ≤ 31) || w.toNat == 0xFF
  | .armSet => decide (w.toNat ≤ 3) || w.toNat == 0xFF
  | .armRole => decide (w.toNat ≤ 9)
  | .axisFbSrc | .axisGearSrc => decide (w.toNat ≤ 15) || w.toNat == 0xFF
  | .mapObj => decide (w.toNat ≤ 255) || w.toNat == 0xFFFF
  | .fbSsiErrBit => decide (w.toNat ≤ 39) || w.toNat == 0xFF
  | .pwrPavailSrc | .pwrBoSrc => decide (w.toNat / 2 ^ 28 ≤ 3) && decide (Arith.bits w.toNat 27 10 = 0)
  | _ => inRangeRaw f w

/-- T_E of an epoch setting in ns. -/
def settingNs (setting : Nat) : Nat := match setting with | 0 => 25000 | 1 => 50000 | _ => 100000

/-- Feedback channels: kind 4 on FB0 to FB7 only, edge-time never and the window bound for SSI (R226, R232, R235). -/
def State.fbRules (s : State) (te : Nat) : List (Option Pt) :=
  let win : Rat := (2 : Rat) * te / 5 - 500
  (List.range 16).flatMap (fun n =>
    if !s.unitOn 2 n then []
    else if s.n .fbKind n = 4 then [mustBe (decide (n < 8)) ⟨.fbKind, n, 0⟩]
    else if s.n .fbKind n = 2 then
      [mustBe (s.n .fbSpeedMode n == 0) ⟨.fbSpeedMode, n, 0⟩,
       mustBe (inRangeRaw .fbSsiBits (s.w .fbSsiBits n) && inRangeRaw .fbSsiClkKhz (s.w .fbSsiClkKhz n)
         && decide (Arith.quot (((s.n .fbSsiBits n : Rat) + 1) * 1000000) (s.n .fbSsiClkKhz n) + s.n .fbSsiDelayNs n ≤ win))
         ⟨.fbSsiBits, n, 0⟩]
    else [])

/-- No two engines name one target (R251). -/
def State.engineRules (s : State) : List (Option Pt) :=
  (List.range 48).map (fun e =>
    mustBe (s.n .prfTargetKind e == 0 || (List.range e).all (fun k =>
      !(s.n .prfTargetKind k == s.n .prfTargetKind e && s.n .prfTargetIdx k == s.n .prfTargetIdx e))) ⟨.prfTargetIdx, e, 0⟩)

/-- Bridges of an axis kind, and the first bridges that it may have (Table 8.4). -/
def axisSpan (kind : Nat) : Nat × List Nat :=
  match kind with
  | 1 => (4, [0, 4, 8])
  | 2 => (3, [0, 3, 6, 9])
  | 3 => (2, [0, 2, 4, 6, 8, 10])
  | _ => (0, [])

/-- Axes: their first bridges, no bridge in two, one PWM frequency (R265, R280); shunts (R501); VAUX (R293). -/
def State.axisRules (s : State) : List (Option Pt) :=
  (List.range 12).flatMap (fun a =>
    let (n, firsts) := axisSpan (s.n .axisKind a)
    if n = 0 then []
    else
      [mustBe (firsts.contains a) ⟨.axisKind, a, 0⟩,
       mustBe ((List.range a).all (fun b => decide (b + (axisSpan (s.n .axisKind b)).1 ≤ a))) ⟨.axisKind, a, 0⟩]
      ++ (List.range n).map (fun k => mustBe (s.n .auxPwmHz (a + k) == s.n .auxPwmHz a) ⟨.auxPwmHz, a + k, 0⟩))
  ++ (List.range 12).map (fun n => mustBe (decide (s.r .auxShuntA n * s.r .auxShuntMohm n ≤ 400)) ⟨.auxShuntA, n, 0⟩)
  ++ [mustBe (decide (s.r .vauxVauxUvV < s.r .vauxChopOnV - s.r .vauxChopHystV)
        && decide (s.r .vauxChopOnV < s.r .vauxVauxOvV)) ⟨.vauxChopOnV, 0, 0⟩]

/-- CAN bit timing (R433) in periods of 12.5 ns, and maps (R448). -/
def State.canRules (s : State) : List (Option Pt) :=
  (List.range 4).flatMap (fun c =>
    if !s.unitOn 4 c then []
    else
      let nom := s.n .canNbrp c * (1 + s.n .canNtseg1 c + s.n .canNtseg2 c)
      let dat := s.n .canDbrp c * (1 + s.n .canDtseg1 c + s.n .canDtseg2 c)
      [mustBe (decide (s.n .canNsjw c ≤ s.n .canNtseg2 c)) ⟨.canNsjw, c, 0⟩,
       mustBe (decide (s.n .canDsjw c ≤ s.n .canDtseg2 c)) ⟨.canDsjw, c, 0⟩,
       mustBe (decide (80 ≤ nom) && decide (nom ≤ 8000)) ⟨.canNbrp, c, 0⟩,
       mustBe (decide (10 ≤ dat) && decide (dat ≤ nom)) ⟨.canDbrp, c, 0⟩]
      ++ (List.range 256).map (fun o =>
        let i := c * 256 + o
        mustBe (s.n .objDir i != 1 || decide (s.n .objLen i ≤ 8) || Arith.bit (s.n .objFmt i) 1) ⟨.objLen, i, 0⟩)
      ++ (List.range 64).map (fun m =>
        let i := c * 64 + m
        let o := s.n .mapObj i
        mustBe (o == 65535 || (decide (o < 256) && s.n .objDir (c * 256 + o) == 2)) ⟨.mapObj, i, 0⟩)
      ++ (List.range 64).map (fun m =>
        let i := c * 64 + m
        mustBe (s.n .mapObj i == 65535 || (match s.pointAt (s.n .mapTarget i) with
          | some q =>
            let h := (entry q.f).home
            (h == .drive || h == .set || h == .arm) && s.n .drvHostLoss (driveOf q) == 2 && s.ownsPt 0 q
          | none => false)) ⟨.mapTarget, i, 0⟩))

/-- The guarded point that a guard's input names; none for a cell guard. -/
def State.guardPt (s : State) (g : Nat) : Option Pt :=
  if s.n .grdInput g / 2 ^ 28 = 0xF then none else s.pointAt (s.n .grdInput g)

/-- Whether a point takes the debounce filter: discrete inputs and status words (R473). -/
def debounceOk (f : Field) : Bool :=
  f == .hwDi || f == .objData || f == .drvStatus || f == .fbStatus || f == .prfStatus || f == .auxStatus || f == .objStatus
  || f == .logicPt

/-- Whether a point is one that Table 17.2 gives a guard. -/
def guardable (f : Field) : Bool :=
  f == .ainValue || f == .sdmValue || f == .devThermalTempC || f == .txTempC || f == .supVctlAV || f == .supVctlBV
  || f == .supHoldupV || f == .supRailV || f == .hwDi || f == .fbSpeedCps || f == .objData
  || (match (entry f).wr with | .h | .l | .hl => true | _ => false)

/-- Guards (R472, R473, R476, R294). -/
def State.guardRules (s : State) : List (Option Pt) :=
  [mustBe (decide (s.plant.nGuards ≤ 2048)) ⟨.grdInput, 2048, 0⟩]
  ++ s.plant.guards.flatMap (fun e =>
    let g := e.1
    let cellGuard := s.n .grdInput g / 2 ^ 28 == 0xF
    let f := (s.guardPt g).map (·.f)
    [mustBe (decide (g < 2048) && !twice e.2 (s.plant.guards.map (·.2))) ⟨.grdInput, g, 0⟩,
     mustBe (cellGuard || f.any guardable) ⟨.grdInput, g, 0⟩,
     mustBe (s.n .grdFilter g != 1 || f.any debounceOk) ⟨.grdFilter, g, 0⟩,
     mustBe (match s.n .grdFilter g with
       | 1 => decide (1 ≤ s.n .grdFilterArg g) && decide (s.n .grdFilterArg g ≤ 255)
       | 3 => decide (1 ≤ s.n .grdFilterArg g)
       | _ => true) ⟨.grdFilterArg, g, 0⟩,
     mustBe (!(f == some .ainValue || f == some .sdmValue) || s.n .grdStaleMs g == 0) ⟨.grdStaleMs, g, 0⟩,
     mustBe (!cellGuard || s.n .grdAction g == 0 || s.n .grdAction g == 2 || s.n .grdAction g == 3) ⟨.grdAction, g, 0⟩,
     mustBe ((s.guardPt g).all (fun p => decide (0 ≤ (s.ptTy p).dec (s.w .grdHyst g)))) ⟨.grdHyst, g, 0⟩,
     mustBe ((s.guardPt g).all (fun p => p.f != .txTempC || s.n .txKind p.i != 0)) ⟨.grdInput, g, 0⟩])

/-- Whether a source may be granted to plant logic (R459): neither 1 to 5 nor a reserved ID. -/
def grantOk (k : Nat) (w : Nat) : Bool :=
  (List.range 32).all (fun i => !Arith.bit w i || irqGrantable (32 * k + i))

/-- The other rules of check 9: temperature classes, paired plants, grants, a brake for Release (R218). -/
def State.otherRules (s : State) : List (Option Pt) :=
  (List.range 4).map (fun c => mustBe (decide (s.r .thmWarnC c < s.r .thmThrottleC c)
      && decide (s.r .thmThrottleC c < s.r .thmShutdownC c)) ⟨.thmWarnC, c, 0⟩)
  ++ (if s.n .pairEnable = 1 then s.plant.rounds.map (fun r => mustBe (decide (3 ≤ s.n .rndCoastLimit r)) ⟨.rndCoastLimit, r, 0⟩)
      else [])
  ++ (List.range 32).map (fun k => mustBe (grantOk k (s.n .logicIrqGrant 0 k)) ⟨.logicIrqGrant, 0, k⟩)
  ++ s.plant.drives.map (fun d => mustBe (s.n .drvReleaseEnable d.drive != 1 || s.n .drvBrakeAux d.drive != 0xFF)
      ⟨.drvReleaseEnable, d.drive, 0⟩)

/-- Check 9 on a candidate: each value given, then the rules over several points. -/
def State.valueFault (s : State) (te : Nat) : Option PdFault :=
  let bad := fun x => pdFault 9 stRange 8 x x
  firstSome (
    s.plant.values.map (fun e => mustBe (s.defined e.1 && match s.pointAt e.1 with
      | some q => (entry q.f).wr == Writer.c && cValueOk q.f e.2
      | none => false) (bad e.1))
    ++ (s.fbRules te ++ s.engineRules ++ s.axisRules ++ s.canRules ++ s.guardRules ++ s.otherRules).map
        (fun o => o.map (fun p => bad (ptIndex p))))

/-! ## Validation (R34) -/

/-- The nine checks, in order: the first fault, or the candidate that passes them all. -/
def State.validate (s : State) (bs : List Byte) (length : Nat) (kernelOk : Nat → Bool) : Except PdFault State :=
  match headerFault bs length with
  | some off => .error (pdFault 1 stFormat 0 0 off)
  | none =>
    match Config.parseParts (bs.drop 256) with
    | .error off => .error (pdFault 1 stFormat 0 0 off)
    | .ok p =>
      let setting := hdrField bs 8 1
      let t := s.candidate p setting
      match firstSome [s.signatureFault bs, versionFault bs kernelOk, countFault p, hierFault p (fun d => t.n .drvBalMode d),
        s.laneFault p setting, s.refFault p (fun n => t.n .fbKind n) t.defined, ownerFault p,
        t.valueFault (settingNs setting)] with
      | some f => .error f
      | none => .ok t

/-! ## Activation -/

/-- The report points of a load (R541). -/
def State.pdReport (s : State) (f : PdFault) : State :=
  ((((s.putN .devPdReportCheck 0 f.check).putN .devPdReportEntity 0 f.entity).putN .devPdReportIndex 0 f.index).putN
    .devPdReportDetail 0 f.detail).putN .devPdReportLaneDrives 0 f.lanes

/-- Lane points of the active description (Table 4.11); of an empty lane, the marker of an empty place or 0 (R536). -/
def State.lanePublish (s : State) : State :=
  let s1 := forN 16 (fun n t =>
    let (a, b) := lanePair t.plant n
    let busy := !(onLane t.plant n).isEmpty
    let t1 := ((t.putN .laneDrive n a 0).putN .laneDrive n b 1).putN .laneInService n
      (Arith.b2n (busy && Arith.bit t.dev.lanesOk n))
    (((t1.putN .laneCyclesLimit n (if busy then t1.laneOffer (t1.n .devEpochSetting) n else 0)).putN .laneCyclesUsed n
      (((onLane t.plant n).map (laneCost t.plant)).sum)).putN .laneSkipEpochs n 0).putN .laneSkipRunMax n 0) s
  forL s1.plant.drives (fun d t => t.putN .drvLaneCost d.drive (laneCost t.plant d)) s1

/-- What a description says of a round: its positions and arms (R305). -/
def roundEntries (p : Plant) (r : Nat) : List PosDesc × List ArmDesc :=
  (p.pos.filter (fun x => x.round == r), p.arms.filter (fun a => a.round == r))

/-- Rounds that link up when a description takes effect: those whose entries differ and those not yet linked; a failed one
waits for its command (R305). -/
def State.toLink (s : State) (old : Plant) : List Nat :=
  s.plant.rounds.filter (fun r =>
    !old.rounds.contains r || decide (roundEntries old r ≠ roundEntries s.plant r) || s.n .rndState r == 0)

/-- Drives of a new description start Blocked, with the memories of their lanes empty; arms on rounds that keep their link keep
what link-up found. A drive that gains a channel uses it from the start (R135), and a drive that the old description did not have
gets 10 % of its rated phase peak as `bal_cm_v` (Table 5.3). -/
def State.freshDrives (s old : State) (linked : List Nat) : State :=
  let keep := (s.plant.arms.filter (fun a => s.plant.rounds.contains a.round && !linked.contains a.round)).map
    (fun a => a.drive * 24 + a.idx)
  let s1 := ((((s.withDrvs []).withSets []).withShafts []).withPowers []).withArms
    (s.arms.filterMap (fun e => if keep.contains e.1 then
      (let x : ArmSt := { ArmSt.init with out := e.2.out, svc := e.2.svc, ranked := e.2.ranked, started := e.2.started }
       if x = ArmSt.init then none else some (e.1, x)) else none))
  forL s1.drives (fun d t =>
    let t1 := (((t.putN .drvRegime d 7).putN .drvHalting d 0).putN .drvFaultCause d 0).putN .drvLimpCause d 0
    let t2 := ((t1.putR .drvThermalFactor d 1).put .drvVcapRefEff d (t1.w .drvVcapRefPct d)).putN .drvHostState d 0
    let t3 := if (t2.driveFb d).isNone then (t2.putN .drvFbUse d 0).putN .drvFbInUse d 0
              else if (old.driveFb d).isSome then t2 else t2.putN .drvFbUse d 1
    let t3 := if old.drives.contains d then t3 else t3.putR .drvBalCmV d (t3.phasePeak d / 10)
    (t3.putDrv d { t3.drv d with jHat := t3.r .drvJKgm2 d }).putR .drvJEst d (t3.r .drvJKgm2 d)) s1

/-- Feedback channels, the auxiliary stage and CAN controllers as the new description configures them; the trips of the bridges are
counted anew (Table 9.5). -/
def State.configureUnits (s old : State) : State :=
  let s1 := forN 16 (fun n t =>
    if t.unitOn 2 n ∧ t.n .fbKind n ≠ 0 then
      t.fbConfigure n (old.n .fbState n == 0 || old.n .fbKind n != t.n .fbKind n || old.n .fbInvert n != t.n .fbInvert n
        || old.n .fbLines n != t.n .fbLines n)
    else (t.putFb n Fb.init).putN .fbState n 0) (forN 12 (fun n t => t.putN .auxTripsTotal n 0) s)
  forN 4 (fun c t => if t.unitOn 4 c then t.canConfigure c else t.putCan c Can.init) s1.stageConfigure

/-- The points that the description itself determines: the cell addresses of every arm, and unused arm slots on the rounds
whose arms may have changed (R537, Table 5.4). -/
def State.armPoints (s : State) (rounds : List Nat) : State :=
  let s1 := forL rounds (fun r t => forN 16 (fun k u => forN 8 (fun j v =>
    v.put .slot (r * 16 + k) (ptDflt ⟨.slot, r * 16 + k, j⟩) j) u) t) s
  let s2 := forN 768 (fun ix t => if t.n .armCellAddr ix = 0xFFFFFFFF then t
    else forN 128 (fun j u => u.putN .armCellAddr ix 0xFFFFFFFF j) t) s1
  forL s2.plant.arms (fun a t =>
    (t.armPositions a).zipIdx.foldl (fun u p => u.putN .armCellAddr (armIx a) (cellAt a.round p.1) p.2) t) s2

/-- Activation, part 1: the units of the description start from their new configuration (R32, R33, R198). -/
def State.activateUnits (s old : State) (link : List Nat) : State :=
  let s3 := ((s.freshDrives old link).configureUnits old).withGuards []
  forL s3.plant.shafts (fun g u => u.putN .shaftLeader g.group (u.n .shaftLeaderOrder g.group 0)) s3

/-- Activation, part 2: the points that the description gives their values; `gl_cycles_used` is a free word (log entry 88). -/
def State.activatePoints (s : State) (rounds : List Nat) : State :=
  let s5 := (s.armPoints rounds).withFree ((s.armPoints rounds).free + 1)
  ((s5.put .glCyclesUsed 0 (Config.freeWord (s.armPoints rounds).free)).lanePublish).withLevels []

/-- Activation, part 3: changed rounds begin their link-up and the epoch setting is armed. -/
def State.activateLinks (s : State) (link : List Nat) : State :=
  let s7 := (if s.n .pairRole = 2 then s else forL link (fun r u => u.linkupBegin r) s).withCep []
  s7.withClk { s7.clk with teNext := some (settingNs (s7.n .devEpochSetting)) }

/-- A description takes effect as a whole (R34): `t` is the candidate, `digest` its digest. -/
def State.activate (s t : State) (digest : List Byte) : State :=
  let old := s.plant
  let s1 := t.withDev { t.dev with pdActive := true, pdDigest := digest, pdEpoch := t.epoch, loading := none }
  let gone := old.rounds.filter (fun r => !s1.plant.rounds.contains r)
  let s2 := forL gone (fun r u => (u.putRnd r Rnd.init).putN .rndState r 0) s1
  let link := s2.toLink old
  let s8 := ((s2.activateUnits s link).activatePoints (gone ++ link)).activateLinks link
  ((s8.sourceChosen s.timeSource).setsPruned.pdReport (pdFault 0 0 0 0 0)).writeConfig

/-- PD_VALIDATION_DONE: the description that a LOAD_PD named replaces the active one, or the load completes with the status of
the first check that fails and its detail (R34, Table 11.9). DEDUCED from R33: outside Configure the load completes with
MODE. -/
def State.pdDone (s : State) : State :=
  match s.dev.loading with
  | none => s
  | some (bs, length) =>
    let s1 := s.withDev { s.dev with loading := none }
    let done := fun (t : State) st v => t.settle (fun f => f.wait == .load) st noItem v .ready
    if s.mode ≠ 1 then done s1 stMode 0
    else match s1.validate bs length (fun k => k == Config.kernelVersion.toNat) with
      | .ok t => done (s1.activate t ((bs.drop 24).take 32)) 0 0
      | .error f => done (s1.pdReport f) f.status f.detail

def execPdValidationDone (s : State) : Host.Outcome State Fault Refusal := .next s.pdDone

end Sys2Proof.Machine
end

