-- ==== Sys2Proof/Machine/Replay.lean ====
section
/-!
DEFINITION. Replay.lean: what a recorded epoch puts in place of the live inputs, and the replay of a journal (section 13.6).
A counterfoil takes the sections of an input message in the same way (R414).
-/
namespace Sys2Proof.Machine

/-! ## Recorded inputs (Table 13.2) -/

/-- Bytes of a section's body. -/
def secBytes (x : InSec) : List Byte := wordBytes x.words

/-- One recorded slot of 13 bytes. -/
def State.replaySlot (s : State) (r p : Nat) (bs : List Byte) : State :=
  let a := cellAt r p
  let status := Arith.field bs 4 4
  let s1 := ((s.gather .cell a (Word.ofNat (Arith.field bs 0 2)) 0x0B).gather .cell a
    (Word.ofInt (BitVec.ofNat 16 (Arith.field bs 2 2)).toInt) 0x0C).gather .cell a (Word.ofNat status) 0x0D
  let s2 := (s1.gather .cell a (Word.ofNat (Arith.field bs 8 4)) (0x10 + status / 2 ^ 28)).putCellState r p (status % 16)
  s2.putRnd r { s2.rnd r with slots := (p * 2) :: (s2.rnd r).slots }

/-- The slots of a round section, in ascending position. -/
def State.replaySlots (r : Nat) : List Nat → List Byte → State → State
  | [], _, s => s
  | p :: ps, bs, s => State.replaySlots r ps (bs.drop 13) (s.replaySlot r p (bs.take 13))

/-- A round section: closures, serving ends and slots as recorded; what the round holds beside them stays. -/
def State.replayRound (s : State) (r : Nat) (bs : List Byte) : State :=
  let status := Arith.field bs 0 4
  let range := some (Arith.field bs 4 1, Arith.field bs 5 1)
  let map := bs.drop 8
  let ps := (List.range 256).filter (fun p => Arith.bit (Arith.leNat (map.take 32)) p)
  let x := { s.rnd r with closedA := Arith.bit status 0, closedB := Arith.bit status 1, slots := [],
                          sentA := if Arith.bit status 2 then range else none, sentB := if Arith.bit status 3 then range else none }
  State.replaySlots r ps (map.drop 32)
    (((s.putRnd r x).putN .rndState r 6).putN .rndLate r (Arith.b2n (Arith.bit status 4)))

/-- The feedback channels of a section. -/
def State.replayFb (s : State) (ws : List Nat) : State :=
  forL s.fbUnits.zipIdx (fun e t =>
    let n := e.1
    let w := fun k => ws.getD (8 * e.2 + k) 0
    let t1 := ((((t.putN .fbPos n (w 0) 0).putN .fbPos n (w 1) 1).putN .fbEdgeTime n (w 2) 0).putN .fbEdgeTime n (w 3) 1)
    let t2 := ((t1.putN .fbStatus n (w 4)).putN .fbSpeedCps n (w 5)).putN .fbState n (w 6)
    t2.putFb n { t2.fb n with ssiGot := true, ssiAt := t2.epoch, flags := w 4 }) s

/-- Received CAN frames of a section. -/
def canItems : Nat → List Byte → List (Nat × RxFrame)
  | 0, _ => []
  | n + 1, bs =>
    if bs.length < 24 then []
    else
      let len := Arith.field bs 16 1
      let flags := Arith.field bs 1 1
      let fr : CanFrame := { fd := Arith.bit flags 0, brs := Arith.bit flags 1, ext := Arith.bit flags 2, id := Arith.field bs 4 4,
                             remote := false, data := (bs.drop 24).take len }
      (Arith.field bs 0 1, { frame := fr, obj := Arith.field bs 2 2, t := Arith.field bs 8 8 })
        :: canItems n (bs.drop (24 + (len + 7) / 8 * 8))

/-- A recorded frame is placed in its object, and stays listed for the maps of its controller. -/
def State.replayFrame (s : State) (c : Nat) (f : RxFrame) : State :=
  let s1 := s.rxPlace c f
  s1.putCan c { s1.can c with rx := (s1.can c).rx ++ [f] }

/-- The device inputs: host state and Safe causes; the return of the host ends a hold (R325). -/
def State.replayDevice (s : State) (ws : List Nat) : State :=
  let lost := Arith.bit (ws.getD 0 0) 0
  let l := ws.getD 2 0
  let s1 := (s.putN .devSafeCause 0 (ws.getD 1 0)).withDev
    { s.dev with hostLost := lost, stoA := Arith.bit l 0, stoB := Arith.bit l 1 }
  if s.dev.hostLost && !lost then s1.agentReturn false else s1

/-- A recorded section becomes an input of the epoch. -/
def State.replaySection (s : State) (x : InSec) : State :=
  match x.kind with
  | 1 => s.replayDevice x.words
  | 2 => s.replayRound x.unit (secBytes x)
  | 3 => s.replayFb x.words
  | 4 => forL (analogPts.zip x.words) (fun e t => t.putPt e.1 (Word.ofNat e.2)) s
  | 5 => (s.putN .hwDi 0 (x.words.getD 0 0)).putN .hwDoState 0 (x.words.getD 1 0)
  | 6 => forL (canItems x.words.length (secBytes x)) (fun e t => t.replayFrame e.1 e.2) s
  | _ => s

/-! ## Recorded commands and modes (R398) -/

/-- The drives follow a change of the device mode that a record shows (R189, R316). -/
def State.modeShown (s : State) (old new : Nat) : State :=
  if old = new then s
  else
    let s1 := s.putN .devMode 0 new
    let s2 := if modeRuns new ∧ ¬modeRuns old then s1.unblockAll
              else if modeRuns old ∧ ¬modeRuns new then s1.blockAll else s1
    let s3 := if new = 5 then s2.haltAll else s2
    if old = 4 ∧ modeRuns new then s3.softAgain else s3

/-- Whether a write of a point reaches the lanes, the group lane or the profile unit; writes of other points acted on hardware
of the recorded device. -/
def laneWrite (p : Pt) : Bool :=
  match (entry p.f).home with
  | .drive | .set | .arm | .shaft | .power | .engine | .axis => true
  | _ => false

/-- A recorded write acts as recorded: the point takes the recorded value, and what hangs on it follows; a recorded mode command
brings the mode of the record. -/
def State.replayWrite (s : State) (mode : Nat) (p : Pt) (w : Word) : State :=
  if p.f = .devModeCmd then (s.modeShown s.mode mode).putPt p w
  else if laneWrite p then (s.writeEffect p w).guardTouch p
  else (s.putPt p w).guardTouch p

/-- The recorded commands of an epoch in their order. -/
def State.replayCommands (s : State) (mode : Nat) (cs : List Applied) : State :=
  (forL (cs.flatMap (·.items)) (fun e t =>
    match t.pointAt e.1 with
    | some p => (t.replayWrite mode p (Word.ofNat e.2)).logWrite none 0 p
    | none => t) (s.withHost { s.host with wlog := [] })).newLimits

/-- Whether commands hold a mode command. -/
def State.namesMode (s : State) (cs : List Applied) : Bool :=
  (cs.flatMap (·.items)).any (fun e => (s.pointAt e.1).any (fun p => p.f == .devModeCmd))

/-! ## One recorded epoch -/

/-- What the lanes compute of an epoch after its inputs are in place. -/
def State.computeEpoch (s : State) : State :=
  (s.guardsJudge.thermalJudge.lossPolicies).lanesRun.axisUnit.profileUnit.axisPlan

/-- Live CAN frames and missing samples count for nothing where other inputs take their place. -/
def State.clearInputs (s : State) : State :=
  (s.withCans (s.cans.map (fun e => (e.1, { e.2 with rx := [] })))).withHw { s.hw with missing := 0 }

/-- A recorded epoch, computed by the lanes with its epoch, time and mode. The live device keeps its clock, rounds, modes,
sorting office and interface: only points and engines follow the record. -/
def State.replayCompute (s : State) (m : MailRec) : State :=
  let s0 := (((s.withClk { s.clk with epoch := m.epoch, t0 := m.time, now := m.time + s.te * 2 / 5 }).withRnds []).putN .devMode 0
    s.rep.mode).clearInputs
  let s1 := if s0.namesMode m.cmds then s0 else s0.modeShown s.rep.mode m.mode
  let s2 := (forL m.inputs (fun x t => t.replaySection x) s1).replayCommands m.mode m.cmds
  let s3 := s2.mapsWrite.computeEpoch
  let s4 := ((((((s3.withClk s.clk).withRnds s.rnds).withDev s.dev).withSo s.so).withIrq s.irq).withOut s.out).withHost s.host
  let s5 := (s4.withJrn { s.jrn with hashes := s3.jrn.hashes }).withPair s.pair
  ((s5.putN .devMode 0 s.mode).put .devModePrev 0 (s.w .devModePrev)).put .devSafeCause 0 (s.w .devSafeCause)

/-- The lanes whose hashes differ, ascending (R399). -/
def hashDiff (a b : List Nat) : List Nat := (List.range 17).filter (fun n => a.getD n 0 != b.getD n 0)

/-- The divergence report, and the end of the replay (R399). -/
def State.diverged (s : State) (m : MailRec) (ls : List Nat) : State :=
  let n := ls.headD 0
  let s1 := ((s.put64 .repDivEpoch 0 m.epoch).putN .repDivLane 0 n).putN .repDivLanes 0 (ls.foldl (fun a k => a + 2 ^ k) 0)
  let s2 := (s1.put64 .repDivRecorded 0 (m.hashes.getD n 0)).put64 .repDivComputed 0 (s.jrn.hashes.getD n 0)
  s2.replayEnd 1

/-- A record is taken from the queue. -/
def State.feedTake (s : State) (queue : List MailRec) : State :=
  s.withRep { s.rep with queue := queue, taken := s.rep.taken + 1 }

/-- The feeds whose last record has been taken complete (R397). -/
def State.feedsDone (s : State) : State :=
  s.settle (fun f => match f.wait with | .feed k => decide (k ≤ s.rep.taken) | _ => false) 0 noItem 0 .ready

/-- The records up to the next epoch record are taken, and that epoch is computed and compared. A configuration record of
another description stops before it (R400); a checkpoint in the stream is loaded. -/
def State.replayNext : Nat → State → State
  | 0, s => s
  | n + 1, s =>
    match s.rep.queue with
    | [] => s
    | m :: ms =>
      if m.kind = 3 then
        if m.digest = s.dev.pdDigest then State.replayNext n (s.feedTake ms).feedsDone else s
      else
        let s1 := s.feedTake ms
        if m.kind = 2 then
          State.replayNext n ((s1.takeImage m.state m.image).withRep { s1.rep with mode := m.mode }).feedsDone
        else
          let s2 := (s1.replayCompute m).inc .repEpochs
          let s3 := s2.withRep { s2.rep with epoch := m.epoch, time := m.time, mode := m.mode, done := true }
          let ls := hashDiff s3.jrn.hashes m.hashes
          if ls.isEmpty then s3.feedsDone else s3.diverged m ls

/-- REPLAY_EPOCH: one recorded epoch for each live epoch; none while the next record has not been fed. -/
def execReplayEpoch (s : State) : Host.Outcome State Fault Refusal :=
  .next (if s.mode = 7 ∧ s.rep.phase = 2 ∧ ¬s.rep.done then State.replayNext s.rep.queue.length s else s)

/-- REPLAY_DONE: the last record has been compared (value 0), or a configuration record names another description (value
2). The end by `mode_cmd` 1 (value 3) is that command's effect. -/
def State.replayDone (s : State) : State :=
  match s.rep.queue with
  | [] => if s.rep.lastFed then s.replayEnd 0 else s
  | m :: _ => if m.kind = 3 ∧ m.digest ≠ s.dev.pdDigest then s.replayEnd 2 else s

def execReplayDone (s : State) : Host.Outcome State Fault Refusal :=
  .next (if s.mode = 7 ∧ s.rep.phase = 2 then s.replayDone else s)

end Sys2Proof.Machine
end

