-- ==== Sys2Proof/Machine/Pair.lean ====
section
/-!
DEFINITION. Pair.lean: the redundant pair (chapter 14): roles, joining, the end-B stream and the relays, shadow and warm
execution, resynchronisation, takeover and hand-over.
-/
namespace Sys2Proof.Machine

/-! ## Roles (R411, R424 to R426) -/

/-- The CAN controllers and the auxiliary stage as the role has them (R424, R425). -/
def State.roleUnits (s : State) : State :=
  (forN 4 (fun c t =>
    if t.unitOn 4 c then
      (t.putCan c { t.can c with modeDue := some (t.canWanted (t.n .canMode c)) }).canIdle c
    else t) s).stageConfigure

/-- The module takes a role; a change fires source 2 (Table 16.2), and a counterfoil follows source 6 (R54). -/
def State.takeRole (s : State) (role : Nat) : State :=
  if s.n .pairRole = role then s
  else ((((s.setPairField .pairRole role).irqFire 2).roleUnits).pubEligible).sourceChosen s.timeSource

/-- A module that becomes counterfoil before it has joined: its transmitters are idle (R410). -/
def State.startCounterfoil (s : State) : State := ((s.takeRole 2).setProt 2).idleEnds

/-- A module that starts as principal is unprotected (R411). -/
def State.startPrincipal (s : State) : State := (s.takeRole 1).setProt 2

/-- Time for which a module without a partner listens (R411). -/
def State.listenNs (s : State) : Nat := if s.hw.posB then 2000000000 else 1000000000

/-- PAIR_ROLE_DECISION (R411): `partner` 0 none heard, 1 a module without a role, 2 a principal; `traffic` says that a round
end received anything but IDLE blocks in the window. DESIGN CHOICE: a module without a partner and without a description
that names a pair stays single. -/
def State.roleDecision (s : State) (partner : Nat) (traffic : Bool) : State :=
  if !s.up || s.mode != 1 || s.n .pairRole != 0 then s
  else
    let s1 := s.hear (partner != 0)
    match partner with
    | 0 =>
      if s1.n .pairEnable = 1 ∧ s1.pair.listenAt + s1.listenNs ≤ s1.now then
        if traffic then (s1.startCounterfoil).raise 0x090A kDevice 0 0 else s1.startPrincipal
      else s
    | 1 => if s1.hw.posB then s1.startCounterfoil else s1.startPrincipal
    | _ => s1.startCounterfoil

def execPairRoleDecision (partner : Fin 3) (traffic : Bool) (s : State) : Host.Outcome State Fault Refusal :=
  .next (s.roleDecision partner traffic)

/-! ## Joining (R412, R413) -/

/-- Control-kernel versions that the running image accepts. -/
def State.kernelAccepted (s : State) (k : Nat) : Bool :=
  k == Config.kernelVersion.toNat || (k != 0 && (List.range 8).any (fun j => s.n .devKernelCompat 0 j == k))

/-- The counterfoil steps to the principal's time, and the epoch that begins at the next boundary takes the principal's
number; the first record after the step carries flag [2] (R413). `te` is the principal's T_E. -/
def State.adoptTime (s : State) (t epoch te : Nat) : State :=
  let s1 := (s.withClk { s.clk with te := te }).stepTime t
  (s1.withClk { s1.clk with epoch := epoch - 1 }).withJrn { s1.jrn with gap := true }

/-- The counterfoil has joined (R412): nothing of the partner is due yet. -/
def State.joinDone (s : State) (warm : Bool) : State :=
  let s0 := s.hear true
  let s1 := s0.withPair { s0.pair with joined := true, lastStream := s.epoch, lastHash := s.epoch, fwd := [], stored := [],
                                       image := none, resync := if warm then 0 else 1, resyncAt := s.now }
  (s1.setProt (if warm then 1 else 2)).raise 0x090B kDevice 0 (Arith.b2n warm)

/-- A counterfoil takes the principal's description and kernel version. -/
def State.joinCounterfoil (s : State) (desc : List Byte) (kernel t epoch : Nat) : State :=
  let s1 := if s.pair.joined then s else s.adoptTime t epoch (settingNs (hdrField desc 8 1))
  match s1.validate desc desc.length s1.kernelAccepted with
  | .error f => ((s1.withPair { s1.pair with joined := false }).setProt 2).raise 0x090C kDevice 0 f.check
  | .ok c => (s1.activate c ((desc.drop 24).take 32)).joinDone (kernel != Config.kernelVersion.toNat)

/-- The principal's partner has joined: end-B streams begin, and with the same kernel a resynchronisation. -/
def State.joinPrincipal (s : State) (kernel : Nat) : State :=
  let s0 := s.hear true
  let s1 := s0.withPair { s0.pair with joined := true }
  if kernel = Config.kernelVersion.toNat then s1.resyncBegin else s1.setProt 1

/-- PAIR_JOIN (R412, R413). -/
def State.pairJoin (s : State) (desc : List Byte) (kernel t epoch : Nat) : State :=
  if !s.up then s
  else if s.isPrincipal then s.joinPrincipal kernel
  else if s.isCounterfoil ∧ s.mode = 1 then s.joinCounterfoil desc kernel t epoch
  else s

def execPairJoin (desc : List Byte) (kernel t epoch : Nat) (s : State) : Host.Outcome State Fault Refusal :=
  .next (s.pairJoin desc kernel t epoch)

/-! ## The end-B stream and the relays (R405, R406, R410) -/

/-- A frame as it leaves a counterfoil's end: the zero token while an STO input is low (R427). -/
def State.streamFrame (s : State) (f : Frame) : Frame :=
  if s.dev.stoA && s.dev.stoB then f else { f with token := 0, check := 0 }

/-- What a frame for this module's end shows of its round: serving range, late-round operation, state. -/
def State.frameShows (s : State) (r : Nat) (f : Frame) : State :=
  let x := s.rnd r
  let g := if f.linkup then none else some (f.lo, f.hi)
  let s1 := s.putRnd r (match s.ownEnd with
    | .a => { x with rangeA := g, sentA := g, frameA := some f }
    | .b => { x with rangeB := g, sentB := g, frameB := some f })
  if f.linkup then s1
  else ((s1.putN .rndState r 6).putN .rndLate r (Arith.b2n (f.offset == 2))).setPairField .pairGeneration f.generation

/-- The end-B stream begins: its frames leave this module's ends (R406). -/
def State.stream (s : State) (frames : List (RoundNo × Frame)) : State :=
  let s1 := s.withPair { s.pair with endsIdle := false, streamed := true, lastStream := s.epoch, silent := [] }
  forL frames (fun e t => (t.emit (.frame e.1 t.ownEnd (t.streamFrame e.2) (frameWire (t.streamFrame e.2)))).frameShows e.1 e.2) s1

def execEndBStream (frames : List (RoundNo × Frame)) (s : State) : Host.Outcome State Fault Refusal :=
  .next (if s.up && s.isCounterfoil && s.pair.joined && s.n .hwHwInsert == 1 then s.stream frames else s)

/-- END_B_STREAM_ABSENT: no stream by 0.75 T_E − 50 ns idles the counterfoil's ends (R410). -/
def execEndBStreamAbsent (s : State) : Host.Outcome State Fault Refusal :=
  .next (if s.up && s.isCounterfoil && !s.pair.streamed then s.idleEnds else s)

/-- A slot or block relayed by the partner is taken as if it had arrived at the partner's end here. -/
def State.relayed (s : State) (r : Nat) (e : End) (rel : Relay) (t : Nat) : State :=
  match rel with
  | .slot _ bytes => if bytes.length = 14 then (s.advance t).takeSlot r e bytes t else s
  | .close => s.closure r e t
  | .slow pos tag status vals crc => s.slowResp r pos tag status vals crc
  | .discovery pos serial versions placed crcOk => s.cellReported r e pos (.discovery serial versions placed crcOk)
  | .cls pos bytes => s.cellReported r e pos (.cls bytes)
  | .echo pos rtt => s.echoRet r e pos rtt
  | .brk pos port => s.breakBlock r e pos port

def execSlotRelay (r : RoundNo) (e : End) (rel : Relay) (t : Nat) (s : State) : Host.Outcome State Fault Refusal :=
  .next (if s.up && s.n .pairRole != 0 && s.pair.heard then s.relayed r e rel t else s)

/-! ## Shadow execution (R246, R414, R415) -/

/-- Session number of a forwarded command: none of this module's, so it completes on no ring (R426). -/
def fwdSession : Nat := 2 ^ 32

/-- COMMAND_FORWARD: a command that the principal accepted waits for its epoch. -/
def execCommandForward (no epoch tag : Nat) (agent : Agent) (ring : Fin 8) (op : Op) (s : State) :
    Host.Outcome State Fault Refusal :=
  .next (
    if s.up && s.isCounterfoil && s.pair.joined then
      let hdr : DescHdr := { major := 1, minor := 0, formOk := true, opcode := none, notice := false, quiet := true,
                             tag := tag, apply := epoch }
      let c : Cmd := { id := 2 ^ 64 + no, agent := agentNo agent, ring := ring, cpl := 0, slot := 0, hdr := hdr, op := op,
                       epoch := epoch, session := fwdSession, kept := false }
      s.withPair { s.pair with fwd := s.pair.fwd ++ [c] }
    else s)

/-- A forwarded command takes effect under the checks of its apply-epoch; only one that acts on the plant concerns the
counterfoil. -/
def State.applyFwd (s : State) (c : Cmd) : State :=
  let d := { c with epoch := s.epoch }
  let v := firstFail [s.check4 d.op 0 0, s.check5 d.agent d.op, s.check7 d.op, verdict (s.modeOk d.op) stMode]
  if v.1 = 0 ∧ opPlant d.op ∧ ¬opImmediate d.op then s.effect d else s

/-- Forwarded commands apply in the order of acceptance and complete on no ring. -/
def State.applyForwarded (s : State) (p : Cmd → Bool) : State :=
  let due := s.pair.fwd.filter p
  let s1 := forL due (fun c t => t.applyFwd c) (s.withPair { s.pair with fwd := s.pair.fwd.filter (fun c => !p c) })
  s1.withHost { s1.host with fins := s1.host.fins.filter (fun f => f.cmd.session != fwdSession) }

/-- The principal's feedback has replaced the own samples of `s`: each channel's pair offset, and its report (R246). -/
def State.pairOffsets (t s : State) : State :=
  forL s.fbUnits (fun n u =>
    let off := u.z64 .fbPos n - s.z64 .fbPos n
    let x := u.fb n
    let u1 := (u.putFb n { x with pairPrev := off }).putZ .fbPairOffset n (satS32 off)
    if 2 < (off - x.pairPrev).natAbs then u1.raise 0x0407 kFb n 0 else u1) t

/-- The verdicts of the principal's cut-off: an end counts as closed unless it is in use and did not close. -/
def State.verdicts (s : State) (vs : List (Nat × Bool × Bool)) : State :=
  forL vs (fun v t => t.putRnd v.1 { t.rnd v.1 with closedA := v.2.1, closedB := v.2.2 }) s

/-- Host state of a device section. -/
def secHostLost (secs : List InSec) (d : Bool) : Bool :=
  match secs.find? (fun x => x.kind == 1) with
  | some x => Arith.bit (x.words.getD 0 0) 0
  | none => d

/-- The inputs of an epoch as the principal sent them stand in place of this module's own (R414). -/
def State.feedInputs (s : State) (m : PairInput) : State :=
  let s1 := forL (m.secs.filter (fun x => x.kind != 1)) (fun x t => t.replaySection x) s.clearInputs
  let s2 := (s1.pairOffsets s).verdicts m.verdicts
  let lost := secHostLost m.secs s.dev.hostLost
  let s3 := s2.withDev { s2.dev with hostLost := lost }
  if s.dev.hostLost && !lost then s3.agentReturn false else s3

/-- The lanes compute an epoch from an input message; the module's own host stays as it is. -/
def State.computeFed (s : State) (m : PairInput) : State :=
  let s1 := (s.feedInputs m).applyForwarded (fun c => m.nos.any (fun n => c.id == 2 ^ 64 + n))
  let s2 := s1.withJrn { s1.jrn with inputs := s1.inputSections }
  let s3 := s2.afterWrites.mapsWrite.computeEpoch
  s3.withDev { s3.dev with hostLost := s.dev.hostLost }

/-- An input message kept for the catch-up carries the slots of its epoch too. -/
def State.keepInput (s : State) (m : PairInput) : State :=
  let slots := (s.plant.rounds.filter (fun r => s.n .rndState r == 6)).map s.secRound
  let all := s.pair.stored ++ [{ m with secs := m.secs ++ slots }]
  s.withPair { s.pair with stored := all.drop (all.length - 2400) }

/-- One stored epoch is computed with its own number and time (R417). -/
def State.catchOne (s : State) : State :=
  match s.pair.stored with
  | [] => s
  | m :: ms =>
    let s0 := s.withPair { s.pair with stored := ms }
    let t0 := s.clk.t0 - (s.epoch - m.epoch) * s.te
    let s1 := (s0.withClk { s.clk with epoch := m.epoch, t0 := t0 }).computeFed m
    if m.epoch = s.epoch then s1.withClk s.clk else (s1.withClk s.clk).withRnds s.rnds

/-- INPUT_MESSAGE: in shadow it feeds the lanes; while the counterfoil resynchronises it is kept, and two stored epochs are
computed; in warm protection the lanes are idle (R414, R417, R418). -/
def State.inputMessage (s : State) (m : PairInput) : State :=
  let s1 := s.withPair { s.pair with fed := true }
  if s.n .pairProtection = 0 then s1.computeFed m
  else if s.n .pairProtection = 1 then s1
  else
    let s2 := s1.keepInput m
    if s2.pair.resync = 2 then s2.catchOne.catchOne else s2

def execInputMessage (epoch : Nat) (secs : List InSec) (verdicts : List (RoundNo × Bool × Bool)) (nos : List Nat)
    (s : State) : Host.Outcome State Fault Refusal :=
  .next (
    if s.up && s.isCounterfoil && s.pair.joined && epoch == s.epoch && !s.pair.fed && !s.pair.unfed then
      s.inputMessage { epoch := epoch, secs := secs, verdicts := verdicts.map (fun v => (v.1.val, v.2)), nos := nos }
    else s)

/-- Hashes of lanes that handed over nothing (R386). -/
def emptyHashes : List Nat := List.replicate 17 0xCBF29CE484222325

/-- UNFED_EPOCH: nothing is computed, and the record carries sections 1 and 8 only (R415). -/
def execUnfedEpoch (s : State) : Host.Outcome State Fault Refusal :=
  .next (
    if s.up && s.isCounterfoil && s.pair.joined && !s.pair.fed && !s.pair.unfed then
      (s.withPair { s.pair with unfed := true }).withJrn { s.jrn with hashes := emptyHashes, inputs := [s.secDevice] }
    else s)

/-! ## State hashes (R416) -/

/-- The state hash of seventeen lane hashes. -/
def stateHash (hs : List Nat) : Nat := Arith.fnv1a (hs.flatMap (fun h => [h % 2 ^ 32, h / 2 ^ 32]))

/-- Whether the lanes of this module computed the present epoch live, so that its hash is compared. -/
def State.computedLive (s : State) : Bool :=
  if s.isCounterfoil then
    s.pair.fed && !s.pair.unfed && (s.n .pairProtection == 0 || (s.pair.resync == 2 && s.pair.stored.isEmpty))
  else true

/-- The hashes of one epoch agree: a resynchronisation that waited for it ends (R417). -/
def State.hashMatch (s : State) : State :=
  if s.pair.resync = 2 then
    let s1 := s.withPair { s.pair with resync := 0, resyncEnd := some s.now }
    (s1.putN .pairResyncMs 0 ((s.now - s.pair.resyncAt) / 1000000)).setProt 0
  else s

/-- The hashes of epoch `e` differ (R416, R417). -/
def State.hashMismatch (s : State) (e : Nat) : State :=
  let s1 := ((s.raise 0x0903 kDevice 0 (e % 2 ^ 32)).inc .pairMismatches).setProt 2
  let again := match s.pair.resyncEnd with
    | some t => decide (s.now ≤ t + 1000000000)
    | none => false
  let s2 := s1.withPair { s1.pair with resync := 0, resyncDue := !again && s1.n .pairAutoResync == 1 }
  if again then s2.raise 0x0906 kDevice 0 0 else s2

/-- Own and partner's hash of one epoch are compared once, outside warm protection; a hash of an unfed epoch is not. -/
def State.hashCompare (s : State) : State :=
  match s.pair.ownHash, s.pair.partnerHash with
  | some (e, h), some (f, g) =>
    if e = f ∧ s.n .pairProtection ≠ 1 ∧ (s.n .pairProtection = 0 ∨ s.pair.resync = 2) then
      let s1 := s.withPair { s.pair with ownHash := none, partnerHash := none }
      if g = stateHash emptyHashes then s1 else if h = g then s1.hashMatch else s1.hashMismatch e
    else s
  | _, _ => s

/-- After its commit each module of a pair publishes and sends its state hash (R416); one that did not compute the epoch sends
that of empty lanes. -/
def State.hashSend (s : State) : State :=
  if s.n .pairRole = 0 then s
  else
    let live := s.computedLive
    let h := stateHash (if live then s.jrn.hashes else emptyHashes)
    let s1 := if live then s.put64 .pairHash 0 h else s
    let s2 := s1.emit (.pairHash s.epoch h s.mode (s.n .pairGeneration) (s.n .pairProtection))
    (s2.withPair { s2.pair with ownHash := if live then some (s.epoch, h) else none }).hashCompare

/-! ## Giving up the role (R421) -/

/-- Whether a generation is newer than another (R78). -/
def newerGen (g h : Nat) : Bool := let d := (g + 65536 - h) % 65536; decide (1 ≤ d) && decide (d ≤ 32767)

/-- The principal gives up its role: transmitters idle, counterfoil at `PROTECTION` 2. -/
def State.demote (s : State) : State :=
  let s1 := s.settle (fun f => f.wait == .handover) stMode noItem 0 .ready
  let s2 := s1.withPair { s1.pair with handover := none, confirmed := false, lastStream := s.epoch, lastHash := s.epoch }
  (((s2.takeRole 2).setProt 2).idleEnds).raise 0x0902 kDevice 0 0

/-- PAIR_DEMOTED: a slot's event byte 0x08, or a higher generation in a hash message (R421). -/
def State.mustDemote (s : State) : Bool :=
  s.isPrincipal && (newerGen s.pair.partnerGen (s.n .pairGeneration)
    || s.plant.rounds.any (fun r => (s.rnd r).codes.any (fun c => c.1 == 8)))

def execPairDemoted (s : State) : Host.Outcome State Fault Refusal := .next (if s.up && s.mustDemote then s.demote else s)

/-- The counterfoil mirrors the principal's mode; in Safe by its own STO inputs it stays there (R412, R427). -/
def State.mirrorMode (s : State) (m : Nat) : State :=
  if s.isCounterfoil ∧ s.mode ≠ m ∧ ¬(s.mode = 6 ∧ ¬(s.dev.stoA ∧ s.dev.stoB)) then
    let s1 := s.setMode m
    if m = 5 then s1.haltAll else s1
  else s

/-- HASH_MESSAGE: the heartbeat, with hash, mode, generation and protection (Table 14.1). -/
def State.hashMessage (s : State) (epoch hash mode gen : Nat) : State :=
  let s0 := s.hear true
  let s1 := s0.withPair { s0.pair with lastHash := s.epoch, partnerGen := gen, partnerHash := some (epoch, hash) }
  let s2 := if s1.pair.joined then (s1.mirrorMode mode).hashCompare else s1
  if s2.mustDemote then s2.demote else s2

def execHashMessage (epoch : Nat) (hash : BitVec 64) (mode : Fin 8) (gen : BitVec 16) (_prot : Fin 4) (s : State) :
    Host.Outcome State Fault Refusal :=
  .next (if s.up && s.n .pairRole != 0 then s.hashMessage epoch hash.toNat mode gen.toNat else s)

/-! ## The link itself (R54, R405) -/

/-- TIME_MESSAGE: link latency, and on a counterfoil the offset that it slews out. -/
def execTimeMessage (offset : Int) (lp : Nat) (s : State) : Host.Outcome State Fault Refusal :=
  .next (
    if s.up && s.n .pairRole != 0 then
      let s1 := (s.hear true).putN .pairLinkNs 0 lp
      if s1.isCounterfoil then (s1.putZ .pairTimeOffsetNs 0 (satS32 offset)).sourceEvent offset
      else s1.putZ .pairTimeOffsetNs 0 0
    else s)

/-- A paired module loses its link: a principal serves from its own ends alone and is unprotected; a counterfoil idles its
ends (Table 14.4). -/
def State.linkLose (s : State) : State :=
  let s1 := s.hear false
  if s1.isPrincipal then
    let s2 := s1.withPair { s1.pair with joined := false, resync := 0, resyncDue := false }
    let was := s1.pair.joined
    (forL s2.plant.rounds (fun r t =>
      if was ∧ t.n .rndState r = 6 then t.putRnd r { t.rnd r with detected := true, broken := true, calm := 0 } else t) s2).setProt 2
  else s1.idleEnds

/-- PAIR_LINK_LOST: no time or hash message for 2 epochs (Table 14.6). -/
def execPairLinkLost (s : State) : Host.Outcome State Fault Refusal :=
  .next (if s.up && s.n .pairRole != 0 && s.pair.heard && decide (s.pair.heardAt + 2 ≤ s.epoch) then
           (s.raise 0x0907 kDevice 0 0).linkLose else s)

/-- PAIR_LINK_SLOW: a latency above 400 ns; both modules treat the link as lost (R405). -/
def execPairLinkSlow (lp : Nat) (s : State) : Host.Outcome State Fault Refusal :=
  .next (if s.up && s.n .pairRole != 0 && s.pair.heard && decide (400 < lp) then
           ((s.putN .pairLinkNs 0 lp).raise 0x0908 kDevice 0 lp).linkLose else s)

/-! ## State transfers (R417, R418) -/

/-- Device time at which the state of an epoch was captured: its commit. -/
def State.captureTime (s : State) (epoch : Nat) : Nat := s.clk.t0 - (s.epoch - epoch) * s.te + s.te * 4 / 5

/-- STATE_ENVELOPE: in warm protection the newest state is kept; commands that it contains need not be applied any more. -/
def State.stateEnvelope (s : State) (epoch : Nat) (readable : Bool) (pts : List (Pt × Word)) (i : LaneImage) : State :=
  if readable then
    let s1 := s.withPair { s.pair with image := some { epoch := epoch, pts := pts, image := i }, imageAt := s.captureTime epoch,
                                       fwd := s.pair.fwd.filter (fun c => decide (epoch < c.epoch)) }
    (s1.putN .pairWarmAgeMs 0 ((s1.now - s1.pair.imageAt) / 1000000)).pubEligible
  else ((s.withPair { s.pair with image := none }).setProt 2).raise 0x090C kDevice 0 10

def execStateEnvelope (epoch : Nat) (readable : Bool) (pts : List (Pt × Word)) (image : LaneImage) (s : State) :
    Host.Outcome State Fault Refusal :=
  .next (if s.up && s.isCounterfoil && s.pair.joined then s.stateEnvelope epoch readable pts image else s)

/-- RESYNC_TRANSFER_DONE: PAIR_RESYNC completes; the counterfoil loads the state of epoch E_t, and the messages from E_t + 1 on
wait to be computed. -/
def State.transferDone (s : State) (epoch : Nat) (pts : List (Pt × Word)) (i : LaneImage) : State :=
  let s1 := s.settle (fun f => f.wait == .resync) 0 noItem 0 .ready
  if s1.isCounterfoil then
    let s2 := s1.takeImage pts i
    let s3 := s2.withPair { s2.pair with resync := 2, image := some { epoch := epoch, pts := pts, image := i },
                                         imageAt := s.captureTime epoch,
                                         stored := s.pair.stored.filter (fun m => decide (epoch < m.epoch)) }
    (s3.withJrn { s3.jrn with ckptDue := true }).pubEligible
  else s1.withPair { s1.pair with resync := 2 }

def execResyncTransferDone (epoch : Nat) (pts : List (Pt × Word)) (image : LaneImage) (s : State) :
    Host.Outcome State Fault Refusal :=
  .next (if s.up && s.n .pairRole != 0 && s.pair.joined then s.transferDone epoch pts image else s)

/-! ## Takeover (R420 to R423) -/

/-- SURRENDER. A counterfoil keeps the epoch and, while it is eligible, confirms it; DEDUCED: an epoch three or more ahead is
that of a planned hand-over. A principal that hears its own hand-over named has its confirmation; any other SURRENDER names
it and ends its role (R421). -/
def State.surrenderHeard (s : State) (h : Nat) (fault : Bool) : State :=
  if s.isCounterfoil then
    let kind := if fault then 3 else if s.epoch + 3 ≤ h then 2 else 4
    let s1 := s.withPair { s.pair with surrender := some (h, kind) }
    if s1.eligibleNow then s1.emit (.pairSurrender h fault) else s1
  else if s.isPrincipal then
    match s.pair.handover with
    | some (k, _) => if k = h then s.withPair { s.pair with confirmed := true } else s.demote
    | none => s.demote
  else s

def execSurrender (h : Nat) (fault : Bool) (s : State) : Host.Outcome State Fault Refusal :=
  .next (if s.up then s.surrenderHeard h fault else s)

/-- Rounds that a counterfoil sees: Active, served by its own end, without a recorded break (R420). -/
def State.seenRounds (s : State) : List Nat :=
  s.plant.rounds.filter (fun r => s.n .rndState r == 6 && ((s.rnd r).range s.ownEnd).isSome && !(s.rnd r).broken)

/-- The first criterion: two epochs without stream and hash message, and every seen round shows silence. -/
def State.principalSilent (s : State) : Bool :=
  let seen := s.seenRounds
  decide (s.pair.lastStream + 2 < s.epoch) && decide (s.pair.lastHash + 2 < s.epoch)
  && !seen.isEmpty && seen.all (fun r => s.pair.silent.contains r)

/-- The partner's end of a seen round counts as broken, so that this module's end serves every position (R422). -/
def State.breakOther (s : State) (r : Nat) : State :=
  let x := s.rnd r
  let ps := s.present r
  s.putRnd r (if s.hw.posB then { x with detected := true, broken := true, calm := 0, lostA := ps.head? }
              else { x with detected := true, broken := true, calm := 0, lostB := ps.getLast? })

/-- Positions continue from the own latches plus the last offset (R246). -/
def State.keepPositions (s : State) : State :=
  forL s.fbUnits (fun n t =>
    let x := t.fb n
    let d := x.pairPrev
    t.putFb n { x with count := x.count + d, ssiPos := x.ssiPos + d, edges := x.edges.map (fun e => { e with cnt := e.cnt + d }),
                       hist := x.hist.map (· + d), idxAt := x.idxAt.map (· + d), pairPrev := 0 }) s

/-- The state that the new principal starts from: in shadow its own, else the newest one that it holds. -/
def State.startState (s : State) : State :=
  if s.n .pairProtection = 0 then s
  else match s.pair.image with
    | some i => s.takeImage i.pts i.image
    | none => s

/-- Fields of `PairSt` that a change of role clears. -/
def PairSt.fresh (p : PairSt) (joined : Bool) : PairSt :=
  { p with joined := joined, endsIdle := false, silent := [], surrender := none, stored := [], resync := 0,
           resyncDue := false, partnerHash := none, ownHash := none, handover := none, confirmed := false, blind := false }

/-- A takeover at t0 of the present epoch (R422, R423): `cause` of the event, planned or not, and the first epoch of its
interval (R377). Unplanned without shadow protection, the arms block for 8 ms. -/
def State.takeover (s : State) (cause : Nat) (planned : Bool) (first : Nat) : State :=
  let seen := s.seenRounds
  let cold := s.n .pairProtection ≠ 0 ∧ ¬planned
  let s0 := s.startState.keepPositions.hear planned
  let s1 := s0.setPairField .pairGeneration ((s0.n .pairGeneration + 1) % 65536)
  let s2 := s1.withPair
    { s1.pair.fresh planned with bridge := some (first, s.epoch), blockUntil := if cold then some (s.now + 8000000) else none }
  let s3 := (if planned then s2 else forL seen (fun r t => t.breakOther r) s2).takeRole 1
  let s4 := (if planned then s3.pubEligible else s3.setProt 2).withDev
    { s3.dev with hostLost := s.host.linkGen == 0 || s.host.wdtExpired }
  let s5 := ((s4.put64 .pairLastTakeover 0 s.epoch).inc .pairTakeovers).addN .pairAdoptedCmds 0 s.pair.fwd.length
  s5.raise 0x0901 kDevice 0 cause

/-- PAIR_BLIND once for each stretch of boundaries without a seen round (R421). -/
def State.blindWatch (s : State) : State :=
  let b := s.seenRounds.isEmpty
  let s1 := s.withPair { s.pair with blind := b }
  if b && !s.pair.blind then s1.raise 0x0909 kDevice 0 0 else s1

/-- A counterfoil's evaluation at a boundary (R420). -/
def State.judgeTakeover (s : State) : State :=
  if !s.eligibleNow then s
  else match s.pair.surrender with
    | some (h, kind) =>
      if h = s.epoch then s.takeover (if kind = 3 then 3 else 2) (kind == 2) s.epoch
      else if s.principalSilent then s.takeover 1 false (s.epoch - 2)
      else s.blindWatch
    | none => if s.principalSilent then s.takeover 1 false (s.epoch - 2) else s.blindWatch

/-- A hand-over that is not confirmed within 4 epochs, or whose counterfoil is no longer eligible, is cancelled (R423). -/
def State.handoverCancel (s : State) : State :=
  (s.settle (fun f => f.wait == .handover) stMode noItem 0 .ready).withPair { s.pair with handover := none, confirmed := false }

/-- At H the principal becomes counterfoil with its protection unchanged, and PAIR_HANDOVER completes at the commit of H. -/
def State.handoverDone (s : State) : State :=
  let s1 := s.settle (fun f => f.wait == .handover) 0 noItem 0 (.commit s.epoch)
  let s0 := s1.hear true
  let s2 := s0.withPair { s0.pair.fresh true with bridge := some (s.epoch, s.epoch), lastStream := s.epoch, lastHash := s.epoch,
                                                  fwd := [], image := none }
  (s2.put64 .pairLastTakeover 0 s.epoch).takeRole 2

/-- Whether a hand-over to H that was begun in an epoch is a planned one (R423). -/
def plannedH (h begun : Nat) : Bool := decide (begun + 8 ≤ h)

/-- A principal's hand-over at a boundary: planned, or its surrender after a fault or an extraction (R421, R423, R515). -/
def State.handoverBoundary (s : State) : State :=
  match s.pair.handover with
  | none => s
  | some (h, e0) =>
    if plannedH h e0 then
      if (!s.pair.confirmed && decide (e0 + 4 ≤ s.epoch)) || !s.pair.joined || 2 ≤ s.n .pairProtection then s.handoverCancel
      else if h ≤ s.epoch then s.handoverDone else s
    else if h ≤ s.epoch then
      (if s.pair.confirmed then s.demote else s.withPair { s.pair with handover := none })
    else s

/-- What a boundary does to a pair. -/
def State.pairBoundary (s : State) : State :=
  let s0 := s.withPair { s.pair with streamed := false, fed := false, unfed := false }
  let s1 := if s0.pair.resyncDue then ((s0.withPair { s0.pair with resyncDue := false }).resyncBegin) else s0
  let s2 := if s1.pair.image.isSome then s1.putN .pairWarmAgeMs 0 ((s1.now - s1.pair.imageAt) / 1000000) else s1
  if s2.isCounterfoil then s2.judgeTakeover else if s2.isPrincipal then s2.handoverBoundary else s2

/-! ## The epochs around a warm takeover (R419, R422) -/

/-- Whether the present epoch is one in which the principal holds its drives before a warm hand-over. -/
def State.holding (s : State) : Bool :=
  match s.pair.handover with
  | some (h, e0) =>
    s.isPrincipal && plannedH h e0 && s.n .pairProtection == 1 && decide (h ≤ s.epoch + holdEpochs s.te) && decide (s.epoch < h)
  | none => false

/-- A hold epoch: the references of phase-shifted-carrier arms advance by `step`, as a coasting cell advances them. -/
def State.holdArms (s : State) : State :=
  forL s.plant.arms (fun a t =>
    let x := t.arm (armIx a)
    if x.entry.mode = 1 then t.putArm (armIx a) { x with entry := { x.entry with ref := x.entry.ref + x.entry.step } } else t) s

/-- While the arms are blocked after a cold takeover, each drive runs its observers on live samples. -/
def State.observe (s : State) (d : Nat) : State :=
  let gap := s.gapOf d
  let s1 := s.armsInput d
  let s2 := if s1.isLine d then ((s1.takePhases d).lineWatch d).takeCurrents d
            else (((((((s1.takePhases d).runObserver d gap).selectFb d).slLow d).takeSpeed d gap).takeCurrents d).takeTorque
              d).loadObserver d gap
  s2.endDrive d

def State.observeAll (s : State) : State :=
  let s1 := s.judgeInputs
  (forL (s1.carried.filter (fun d => (s1.drv d).complete)) (fun d t => t.observe d) s1).hashLanes

/-- WARM_TAKEOVER_RESUME: after 8 ms the drives resume in the regime of the loaded state, the speed loop's integrator preset to
the load-torque estimate (R422). -/
def State.warmResume (s : State) : State :=
  match s.pair.blockUntil with
  | some t =>
    if t ≤ s.now then
      forL s.drives (fun d u => u.putDrv d { u.drv d with tEff := u.tPct d (u.drv d).tlHat, preset := true })
        (s.withPair { s.pair with blockUntil := none })
    else s
  | none => s

def execWarmTakeoverResume (s : State) : Host.Outcome State Fault Refusal := .next s.warmResume

/-! ## Insertion and extraction (R497, R515) -/

/-- INSERT_RELEASED: the input stage is off; a principal surrenders to the epoch after the next, a counterfoil idles. -/
def State.insertReleased (s : State) : State :=
  let s1 := (((s.withHw { s.hw with inputOn := false }).putN .hwHwInsert 0 0).raise 0x0810 kDevice 0 0)
  if s1.isPrincipal then s1.surrender (s1.epoch + 2) false
  else if s1.isCounterfoil then s1.idleEnds.pubEligible
  else s1

def execInsertReleased (s : State) : Host.Outcome State Fault Refusal :=
  .next (if s.up && s.n .hwHwInsert == 1 then s.insertReleased else s.withHw { s.hw with inputOn := false })

/-- INSERT_CLOSED: the input stage starts again; roles stay as they are. -/
def execInsertClosed (s : State) : Host.Outcome State Fault Refusal :=
  .next (let s1 := s.withHw { s.hw with inputOn := true }
         if s1.dev.powered then (s1.putN .hwHwInsert 0 1).pubEligible else s1)

end Sys2Proof.Machine
end

