-- ==== Sys2Proof/Machine/Boot.lean ====
section
/-!
DEFINITION. Boot.lean: power good, device reset, loss of power, and the Supervisor watchdog (sections 10.3 and 10.8, R496).
Device time stands still through the steps of Table 10.3: they end within one command (DESIGN CHOICE).
-/
namespace Sys2Proof.Machine

/-! ## Without power (R513, R518, R519, R539) -/

/-- Points of one-time-programmable memory. -/
def otpPoint (p : Pt) : Bool := p.f == .hwFwKeySlots || p.f == .hwFwSecurityFloor || p.f == .hwPdRequireSigned

/-- What outlives power and reset: flash, one-time-programmable memory, the levels at the pins, the cells, and the model's own
queue, record and counter. The permit register never restarts from a fixed value (R75); a power-on seeds it anew. -/
def State.dark (s : State) : State :=
  let keep := s.pts.filter (fun e => otpPoint e.1)
  let s1 := ((((State.reset.withPending s.pending).withOut s.out).withFree s.free).withPts keep).withCells s.cells
  let s2 := (s1.withLed keep).withHw
    { s1.hw with keys := s.hw.keys, bank0 := s.hw.bank0, bank1 := s.hw.bank1, posB := s.hw.posB, inputOn := s.hw.inputOn }
  s2.withDev { s2.dev with stoA := s.dev.stoA, stoB := s.dev.stoB, perst := s.dev.perst, permit := s.dev.permit }

/-- Every output goes to high impedance and every transmitter to electrical idle. -/
def State.outputsOff (s : State) : State :=
  let s1 := (s.stopTokens.emit (.coreReset 15))
  forN 16 (fun r t => (t.emit (.endIdle r .a)).emit (.endIdle r .b)) s1

/-- POWER_LOST: the hold-up store is spent or the contacts break. -/
def execPowerLost (s : State) : Host.Outcome State Fault Refusal :=
  .next (if s.dev.powered then s.outputsOff.dark else s)

/-! ## Choosing a bank (R303, R330, R519) -/

/-- Verification code of a bank (`BOOT_DETAIL`): an image that does not verify shows one of codes 2 to 4, which the model leaves
free; one below the floor counts as signature invalid. -/
def bankCode (b : Bank) (floor free : Nat) : Nat :=
  if b.valid then (if b.security < floor then 2 else 0)
  else if b.data.isEmpty then 1 else 2 + free % 3

/-- The bank that boots, with the result code of each bank: the higher sequence number first, the other only when that one
fails (R303). -/
def chooseBank (b0 b1 : Bank) (floor f0 f1 : Nat) : Option Bool × Nat × Nat :=
  let c0 := bankCode b0 floor f0
  let c1 := bankCode b1 floor f1
  if b0.seq < b1.seq then
    (if c1 = 0 then (some true, 15, 0) else (if c0 = 0 then some false else none, c0, c1))
  else (if c0 = 0 then (some false, 0, 15) else (if c1 = 0 then some true else none, c0, c1))

/-- Whether the bank that boots is not the one tried first. -/
def fellBack (b0 b1 : Bank) (bank : Bool) : Bool := bank != decide (b0.seq < b1.seq)

/-! ## Self-test (R304, Table 10.3a) -/

/-- Bit of a unit in `device.selftest`, and its index. -/
def testBit : TestUnit → Nat × Nat
  | .lane n => (n, n)
  | .groupLane => (16, 0)
  | .memory => (17, 0)
  | .tokenGenerator => (18, 0)
  | .sto => (19, 0)
  | .roundEnd r e => (20, r * 2 + (match e with | .a => 0 | .b => 1))
  | .feedback n => (21, n)
  | .can c => (22, c)
  | .aux b => (23, b)
  | .analog n => (24, n)

/-- Whether a failure is critical. -/
def testCritical : TestUnit → Bool
  | .groupLane | .memory | .tokenGenerator | .sto => true
  | _ => false

/-- A failed unit goes out of service and is reported. -/
def State.testFailed (s : State) (u : TestUnit) : State :=
  let (b, i) := testBit u
  let s1 := s.putN .devSelftest 0 (Arith.setBit (s.n .devSelftest) b true)
  let out := fun (k n : Nat) => s1.withDev { s1.dev with unitsOut := { kind := k, idx := n } :: s1.dev.unitsOut }
  let s2 := match u with
    | .lane n => s1.withDev { s1.dev with lanesOk := Arith.setBit s1.dev.lanesOk n false }
    | .groupLane => s1.withDev { s1.dev with lanesOk := Arith.setBit s1.dev.lanesOk 16 false }
    | .roundEnd r e =>
      s1.withDev { s1.dev with endsOk := Arith.setBit s1.dev.endsOk (r * 2 + (match e with | .a => 0 | .b => 1)) false }
    | .feedback n => out 2 n
    | .can c => out 4 c
    | .aux n => out 3 n
    | .analog n => out 8 (16 + n)
    | _ => s1
  s2.raise 0x0C49 kDevice 0 (b + 2 ^ 8 * i)

/-! ## Power good (R302) -/

/-- Points that the running image and the board give. -/
def State.imagePoints (s : State) : State :=
  let s1 := (s.putN .devCatalogueVersion 0 Config.catalogueVersion.toNat).putN .devBootBank 0 (Arith.b2n s.hw.bankB)
  let s2 := forN 8 (fun j t => t.putN .devKernelCompat 0 (Config.kernelCompat j).toNat j) s1
  (s2.putN .pairHandoverHold 0 (holdEpochs s2.te)).classDefaults

/-- The envelopes before any set: tier P follows policy Newest. -/
def State.envStart (s : State) : State :=
  forN 6 (fun k t => (if k % 3 = 0 then t.putN .envPolicy k 1 else t).envPublish (k / 3) (k % 3)) s

/-- Firmware starts from a bank: steps 4 to 7 of Table 10.3. -/
def State.firmware (s : State) (bank fell : Bool) (failed : List TestUnit) : State :=
  let s1 := s.withHw { s.hw with bankB := bank }
  let s2 := (s1.withDev { s1.dev with boot := 0, supUp := true, logicUp := true, logicBeat := s1.now }).withPair
    { s1.pair with listenAt := s1.now }
  let s3 := (s2.putN .devMode 0 1).putN .hwHwInsert 0 1
  let s4 := s3.imagePoints.envStart.hifPublish.jrnPublish
  let s5 := (if fell then s4.raise 0x0C4A kDevice 0 0 else s4)
  let s6 := (forL failed (fun u t => t.testFailed u) s5).lanePublish
  let s7 := if failed.any testCritical then s6.enterSafe 9 else s6
  let s8 := if s7.dev.stoA then s7 else s7.enterSafe 1
  let s9 := if s8.dev.stoB then s8 else s8.enterSafe 2
  let used := if bank then s9.hw.bank1 else s9.hw.bank0
  s9.putN .hwFwSecurityFloor 0 (max (s9.n .hwFwSecurityFloor) used.security)

/-- The power-on sequence of Table 10.3 from step 1. -/
def State.powerUp (s : State) (permit : Nat) (failed : List TestUnit) : State :=
  let s0 := s.withHw { s.hw with inputOn := true }
  let (w0, s1) := s0.drawWord
  let (w1, s2) := s1.drawWord
  let (pick, c0, c1) := chooseBank s2.hw.bank0 s2.hw.bank1 (s2.n .hwFwSecurityFloor) w0.toNat w1.toNat
  let sel := match pick with | some b => Arith.b2n b | none => 15
  let s3 := s2.withHw { s2.hw with bootDetail := c0 + 2 ^ 4 * c1 + 2 ^ 8 * sel }
  let s4 := (s3.withClk { s3.clk with running := true }).withDev
    { s3.dev with powered := true, permit := permit, stoDiffAt := if s3.dev.stoA == s3.dev.stoB then none else some 0 }
  match pick with
  | some b => s4.firmware b (fellBack s4.hw.bank0 s4.hw.bank1 b) failed
  | none => s4.withDev { s4.dev with boot := 2 }

/-- POWER_GOOD: the seed of the permit register, the strap (R499) and the units that fail self-test come from outside. A seed of 0
cannot occur: S = 0 is never a state of the register (R75). -/
def execPowerGood (permit : BitVec 48) (posB : Bool) (failed : List TestUnit) (s : State) :
    Host.Outcome State Fault Refusal :=
  .next (if s.dev.powered ∨ permit = 0 then s
         else
           let s1 := s.dark
           (s1.withHw { s1.hw with posB := posB }).powerUp permit.toNat failed)

/-- PERST_RELEASE: the link may train (R302). -/
def execPerstRelease (s : State) : Host.Outcome State Fault Refusal := .next (s.withDev { s.dev with perst := true })

/-- DEVICE_RESET: the reset key restarts the module from step 1 with time and epoch counter at 0 (R311). The permit register
and the strap value stay. -/
def execDeviceReset (failed : List TestUnit) (s : State) : Host.Outcome State Fault Refusal :=
  .next (if s.endpointUp then s.outputsOff.dark.powerUp s.dev.permit failed else s)

/-! ## Memory errors (R311, Table 14.2) -/

/-- MEMORY_ERROR: an uncorrectable error in lane, ring or ledger memory is Safe cause 8, which cannot arise in Dormant (R320);
one in Supervisor or plant-logic memory (`core`) is a fault that a principal reports, and no rule gives it another effect. -/
def execMemoryError (core : Bool) (s : State) : Host.Outcome State Fault Refusal :=
  .next (if !s.up || s.mode == 0 then s
         else if core then s.surrender (s.epoch + 2) true else s.safeCause 8)

/-! ## Supervisor watchdog (R321) -/

/-- Cores 0 and 1 are reset: their stacks are empty, and what they served is no longer active. -/
def State.resetSupCores (s : State) : State :=
  let s1 := s.emit (.coreReset 3)
  let ids := ([0, 1] : List Nat).flatMap (fun c => (s1.core c).stack.map (·.1))
  let s2 := forL ids (fun id t => t.putSrc id { t.src id with active := false }) s1
  (forL [0, 1] (fun c t => t.putCore c { t.core c with stack := [], claimed := 0, asleep := false, waking := false }) s2).irqUpdate []

/-- A second expiry within 10 s of the first sets Safe cause 9; the first one ends in Halt at the next boundary in Run or
Override, or on a principal in a fault report. -/
def State.supExpire (s : State) : State :=
  let s1 := s.resetSupCores
  let again := match s1.dev.supWdtAt with
    | some t => decide (s1.now ≤ t + 10000000000)
    | none => false
  let s2 := s1.withDev { s1.dev with supUp := false, supWdtAt := if again then s1.dev.supWdtAt else some s1.now }
  if again then s2.safeCause 9
  else if s2.isPrincipal then s2.surrender (s2.epoch + 2) true
  else if s2.mode = 3 ∨ s2.mode = 4 then s2.withDev { s2.dev with haltDue := true }
  else s2

def execSupWdt (s : State) : Host.Outcome State Fault Refusal := .next (if s.up && s.dev.supUp then s.supExpire else s)

/-- SUPERVISOR_RESTARTED: Supervisor serves the rings again; commands in poste restante whose apply-epoch has passed complete
with LATE. -/
def State.supRestart (s : State) : State :=
  let s1 := (s.withDev { s.dev with supUp := true }).raise 0x0C47 kDevice 0 0
  let late := s1.host.pr.filter (fun c => decide (c.epoch < s1.e0))
  let s2 := if late.isEmpty then s1 else s1.prRemove (late.map (·.id))
  forL late (fun c t => t.failed c stLate) s2

def execSupervisorRestarted (s : State) : Host.Outcome State Fault Refusal :=
  .next (if s.up && !s.dev.supUp then s.supRestart else s)

end Sys2Proof.Machine
end

