-- ==== Sys2Proof/Machine/Epoch.lean ====
section
/-!
DEFINITION. Epoch.lean: the timeline of an epoch (Table 2.1): boundary, input cut-off and ledger commit. The downstream send
stands in Frames.lean.
-/
namespace Sys2Proof.Machine

/-! ## Boundary (R36, Table 2.1 step 1) -/

/-- The clock at the next boundary: the counter starts at 0 at the first one, which is the instant 0 at which device time
starts, and a new epoch setting is in force (R36, R302). -/
def State.clockStep (s : State) : State :=
  let t := s.nextT0
  let t0 := if s.clk.started then t else (s.clk.now + s.te - 1) / s.te * s.te
  s.withClk { s.clk with now := max s.clk.now t0, t0 := t0, epoch := if s.clk.started then s.clk.epoch + 1 else 0,
                         started := true, phase := 0, te := s.clk.teNext.getD s.clk.te, teNext := none, stepTo := none }

/-- The permit register steps at every boundary, whether the generator runs or not; it never restarts (R75). -/
def State.permitStep (s : State) : State := s.withDev { s.dev with permit := lfsrStep s.dev.permit }

/-- A difference of the token generator from its reference is Safe cause 5; it cannot arise in Dormant (R311, R320). -/
def State.tokenJudge (s : State) (differs : Bool) : State := if differs ∧ s.mode ≠ 0 then s.safeCause 5 else s

/-- A principal's ends go idle when two departure instants in a row had no frame (R410). -/
def State.departures (s : State) : State :=
  let missed := s.clk.started && decide (s.clk.phase < 2) && s.n .pairRole == 1 && s.mode != 0
  let n := if missed then s.pair.noFrame + 1 else 0
  let s1 := s.withPair { s.pair with noFrame := n, endsIdle := s.pair.endsIdle && (n != 0 || s.n .pairRole != 1) }
  if n = 2 then s1.idleEnds else s1

/-- What the slots of the epoch that ends say of a round: positions without one (R96), and calm epochs after a break (R101). -/
def State.countRound (s : State) (r : Nat) : State :=
  let x := s.rnd r
  let live := s.n .rndState r == 6 && s.mode != 7 && s.mode != 0
  let ps := (s.present r).filter (fun p => live && !(x.slots.contains (p * 2) || x.slots.contains (p * 2 + 1)))
  let x1 := { x with missing := ps.foldl (fun m p => Tab.put 0 m p (Tab.get 0 m p + 1)) x.missing,
                     calm := if x.broken && !x.detected && s.lockRegained r then x.calm + 1 else 0 }
  s.putRnd r x1

/-- A round at the start of an epoch: nothing has arrived yet, and no end has delivered its closure (Table 3.14). -/
def State.freshRound (s : State) (r : Nat) : State :=
  let s1 := s.putRnd r { s.rnd r with slots := [], bad := [], closedA := false, closedB := false }
  (s1.putN .rndCloseANs r 0xFFFFFFFF).putN .rndCloseBNs r 0xFFFFFFFF

/-- The sorting office counts the reports of each epoch anew; reports dropped in the last one are reported (R485). -/
def State.officeEpoch (s : State) : State :=
  let n := s.so.dropped
  let s1 := s.withSo { s.so with taken := 0, dropped := 0 }
  if n = 0 then s1 else s1.raise 0x0C60 kDevice 0 n

/-- Fields that hold for one epoch only. -/
def State.freshEpoch (s : State) : State :=
  let s1 := (s.withDev { s.dev with modeTaken := false, haltCmd := false, reasonDue := 0 }).withHost { s.host with wlog := [] }
  s1.withRep { s1.rep with done := false }

/-- Halt begins at the boundary after a Supervisor watchdog expiry (R321). -/
def State.haltAfterWdt (s : State) : State :=
  if s.dev.haltDue then
    let s1 := s.withDev { s.dev with haltDue := false }
    if s1.mode = 3 ∨ s1.mode = 4 then s1.haltBegin else s1
  else s

/-- ROUND_LINKUP completes when every round that it names is in Discovery (Table 11.7). -/
def State.linkupsBegun (s : State) : State :=
  s.settle (fun f => match f.wait with
    | .linkup m => (List.range 16).all (fun r => !Arith.bit m r || !((s.rnd r).step == 1 && (s.rnd r).waits))
    | _ => false) 0 noItem 0 .ready

/-- Inputs that the block samples at t0 (Table 2.1, R38). -/
def State.sampleAll (s : State) (smp : Samples) : State :=
  ((((s.latchFeedback smp).sampleInputs smp).sampleTemps smp).sampleSupply smp).axisBoundary smp

/-- Time of the boundary as the points show it (R48). -/
def State.timePublish (s : State) : State := (s.put64 .devEpoch 0 s.epoch).put64 .devTime 0 s.clk.t0

/-- Everything that a boundary does after the clock has stepped. -/
def State.boundary (s : State) (smp : Samples) : State :=
  let s1 := (forN 16 (fun r t => t.freshRound r) s).freshEpoch.officeEpoch.timePublish
  let s2 := ((s1.tokenJudge smp.tokenDiffers).sampleAll smp).doEpisodes.chopPublish.rephased
  let s3 := s2.pairBoundary
  let s4 := if s3.n .pairRole = 2 then s3 else (forN 16 (fun r t => t.linkupBoundary r) s3).linkupsBegun
  (s4.overrideTick.slewEpoch.syncOut.haltAfterWdt).irqFire 6

/-- EPOCH_BOUNDARY: from step 2 of the power-on sequence on, in every mode; in Dormant the epoch advances and the supplies and
temperatures and the STO inputs are watched (R36, R317, R320). -/
def State.epochBoundary (s : State) (smp : Samples) : State :=
  let s1 := (forN 16 (fun r t => t.countRound r) s.departures).clockStep.permitStep.cellsBoundary
  if s1.mode = 0 then ((s1.timePublish.stoPublish.sampleTemps smp).sampleSupply smp).slewEpoch.syncOut else s1.boundary smp

def execEpochBoundary (smp : Samples) (s : State) : Host.Outcome State Fault Refusal :=
  .next (if s.up && s.clk.running then s.epochBoundary smp else s)

/-! ## Input cut-off (R14, R38, R39, Table 2.1 steps 3 to 8) -/

/-- The verdicts of the round ends that a principal sends. -/
def State.verdictsOf (s : State) : List (Nat × Bool × Bool) :=
  s.plant.rounds.map (fun r =>
    (r, !s.endInUse r .a || (s.rnd r).closedA, !s.endInUse r .b || (s.rnd r).closedB))

/-- The input message of a principal: sections 1 and 3 to 6, and the commands that apply (Table 14.1). -/
def State.sendInputs (s : State) : State :=
  if s.isPrincipal && s.pair.joined then
    s.emit (.pairInput { epoch := s.epoch, secs := s.jrn.inputs.filter (fun x => x.kind != 2), verdicts := s.verdictsOf,
                         nos := (s.host.pr.filter (fun c => decide (c.epoch ≤ s.epoch))).map (·.id) })
  else s

/-- Commands that a new principal adopted, then its own commands of the epoch (R422); Supervisor must run (R321). -/
def State.applyAll (s : State) : State :=
  let s1 := if s.isPrincipal then s.applyForwarded (fun c => decide (c.epoch ≤ s.epoch)) else s
  if s1.dev.supUp then s1.applyDue else s1

/-- What the lanes do in the epoch: nothing in a hold epoch but to advance the references (R419); observers only while the arms
are blocked after a cold takeover (R422). -/
def State.lanesStep (s : State) : State :=
  if s.holding then (((s.guardsJudge.thermalJudge).holdArms).hashLanes).axisUnit.profileUnit.axisPlan
  else if s.pair.blockUntil.isSome then (s.guardsJudge.thermalJudge).observeAll.axisUnit.profileUnit.axisPlan
  else s.computeEpoch

/-- What arrived for the epoch is in place: SSI samples judged, CAN frames in their objects (R38). -/
def State.takeInputs (s : State) : State :=
  let s1 := forN 16 (fun n t => if t.unitOn 2 n then t.ssiCutoff n else t) s
  forN 4 (fun c t => if t.unitOn 4 c then t.canCutoff c else t) s1

/-- CAN frames have been used. -/
def State.rxDone (s : State) : State := s.withCans (s.cans.map (fun e => (e.1, { e.2 with rx := [] })))

/-- A cut-off outside a counterfoil. In Replay the lanes wait for records, and commands still apply (R397). -/
def State.cutoffOwn (s : State) : State :=
  let s1 := s.takeInputs
  let s2 := (s1.withJrn { s1.jrn with inputs := s1.inputSections }).sendInputs
  let s3 := s2.applyAll.afterWrites.mapsWrite
  let s4 := if s3.mode = 7 then s3 else s3.lanesStep
  s4.rxDone

/-- On a counterfoil the input message feeds the lanes; its own commands are judged here (R341, R414). -/
def State.cutoffFollow (s : State) : State :=
  let s1 := if s.dev.supUp then s.applyDue else s
  if s1.pair.joined then s1 else (s1.withJrn { s1.jrn with hashes := emptyHashes }).rxDone

/-- The cut-off of an epoch. -/
def State.cutoff (s : State) : State :=
  let s1 := s.advanceTo (s.clk.t0 + s.te * 2 / 5)
  let s2 := s1.withClk { s1.clk with phase := 1 }
  if s2.mode = 0 then s2
  else
    let s3 := (forN 16 (fun r t => (if t.isCounterfoil then t.countLost r else (t.countLost r).closureMissed r).deliverCells r) s2).closeDue s2.now
    if s3.isCounterfoil then s3.cutoffFollow else s3.cutoffOwn

def execInputCutoff (s : State) : Host.Outcome State Fault Refusal :=
  .next (if s.ticking ∧ s.clk.phase = 0 then s.cutoff else s)

/-! ## Ledger commit (R355, Table 2.1 step 10) -/

/-- Every value committed becomes visible together; the cell counts of the rounds are those of this moment (Table 3.14). -/
def State.publishLedger (s : State) : State :=
  let s1 := forL s.plant.rounds (fun r t => t.countCells r) s
  s1.withLed s1.pts

/-- On-demand sends of CAN objects at the commit of their apply-epoch (R437). -/
def State.canSends (s : State) : State :=
  forN 4 (fun c t =>
    let x := t.can c
    forL x.sendDue (fun o u => u.canSendNow c o) (t.putCan c { x with sendDue := [] })) s

/-- Whether a journal release applied in this epoch (R391). -/
def State.released (s : State) : Bool := s.jrn.applied.any (fun a => a.opcode == 0x0062)

/-- Flags of the epoch record: [0] in a takeover interval, [3] unfed (Table 13.1, R415). -/
def State.recordFlags (s : State) : Nat := Arith.b2n (s.bridged s.epoch s.epoch) + 8 * Arith.b2n s.pair.unfed

/-- A warm principal sends its state every 1 ms (R418). -/
def State.warmSend (s : State) : State :=
  if s.isPrincipal ∧ s.pair.joined ∧ s.n .pairProtection = 1 ∧ s.epoch % (1000000 / s.te) = 0 then s.emit (.pairState s.epoch)
  else s

/-- What follows the commit: interrupt source 7, CAN sends, completions, envelopes, hash message and the mailbag. -/
def State.afterCommit (s : State) : State :=
  let s1 := (s.irqFire 7).canSends.writeFins
  let s2 := (if s1.n .pairRole = 0 then s1 else (s1.hashSend).warmSend).composeAll
  let s3 := if s2.released then s2.journalReleaseDo else s2
  s3.recordEpoch s3.recordFlags

/-- The commit of an epoch. In Dormant only what D0, D1 and D13 show becomes visible (R317, R320). -/
def State.commit (s : State) : State :=
  let s1 := s.advanceTo (s.clk.t0 + s.te * 4 / 5)
  let s2 := s1.withClk { s1.clk with phase := 3 }
  if s2.mode = 0 then s2.publishLedger else s2.publishLedger.fbStart.afterCommit

/-- LEDGER_COMMIT: once in an epoch, after the downstream send. -/
def execLedgerCommit (s : State) : Host.Outcome State Fault Refusal :=
  .next (if s.ticking ∧ s.clk.phase = 2 then s.commit else s)

end Sys2Proof.Machine
end

