-- ==== Sys2Proof/Machine/Dispatch.lean ====
section
/-! DEFINITION. Dispatch.lean: one arm per command, each one direct call of its meaning. -/
namespace Sys2Proof.Machine

def exec (i : Instr) (s : State) : Host.Outcome State Fault Refusal :=
  match i with
  | .powerGood permit posB failed => Sys2Proof.Machine.execPowerGood permit posB failed s
  | .perstRelease => Sys2Proof.Machine.execPerstRelease s
  | .epochBoundary smp => Sys2Proof.Machine.execEpochBoundary smp s
  | .inputCutoff => Sys2Proof.Machine.execInputCutoff s
  | .downstreamSend => Sys2Proof.Machine.execDownstreamSend s
  | .ledgerCommit => Sys2Proof.Machine.execLedgerCommit s
  | .haltComplete => Sys2Proof.Machine.execHaltComplete s
  | .haltTimeout => Sys2Proof.Machine.execHaltTimeout s
  | .envelopeSealed agent tier t => Sys2Proof.Machine.execEnvelopeSealed agent tier t s
  | .upstreamSlot r e pos bytes t => Sys2Proof.Machine.execUpstreamSlot r e pos bytes t s
  | .upstreamClosure r e t => Sys2Proof.Machine.execUpstreamClosure r e t s
  | .slowResp r pos tag status body => Sys2Proof.Machine.execSlowResp r pos tag status body s
  | .slowTimeout r => Sys2Proof.Machine.execSlowTimeout r s
  | .report r e pos rep => Sys2Proof.Machine.execReport r e pos rep s
  | .echoRet r e pos rtt => Sys2Proof.Machine.execEchoRet r e pos rtt s
  | .breakBlock r e pos port => Sys2Proof.Machine.execBreakBlock r e pos port s
  | .endLockLost r e => Sys2Proof.Machine.execEndLockLost r e s
  | .roundRestored r => Sys2Proof.Machine.execRoundRestored r s
  | .lateRoundExit r => Sys2Proof.Machine.execLateRoundExit r s
  | .cellLost c => Sys2Proof.Machine.execCellLost c s
  | .segmentLaneUp r e count => Sys2Proof.Machine.execSegmentLaneUp r e count s
  | .linkupStepComplete r => Sys2Proof.Machine.execLinkupStepComplete r s
  | .roundLinkupFail r => Sys2Proof.Machine.execRoundLinkupFail r s
  | .roundChargeTimeout r => Sys2Proof.Machine.execRoundChargeTimeout r s
  | .bypassNotConfirmed c => Sys2Proof.Machine.execBypassNotConfirmed c s
  | .skipLimp d => Sys2Proof.Machine.execSkipLimp d s
  | .skipHalt d => Sys2Proof.Machine.execSkipHalt d s
  | .skipFault d => Sys2Proof.Machine.execSkipFault d s
  | .limpSkipClear d => Sys2Proof.Machine.execLimpSkipClear d s
  | .shockCleared d => Sys2Proof.Machine.execShockCleared d s
  | .holdExpired d => Sys2Proof.Machine.execHoldExpired d s
  | .haltStopReached d => Sys2Proof.Machine.execHaltStopReached d s
  | .crashWindmill d => Sys2Proof.Machine.execCrashWindmill d s
  | .releaseArmExpired d => Sys2Proof.Machine.execReleaseArmExpired d s
  | .brakeLiftElapsed d => Sys2Proof.Machine.execBrakeLiftElapsed d s
  | .releaseEndSequence d => Sys2Proof.Machine.execReleaseEndSequence d s
  | .slackRope g => Sys2Proof.Machine.execSlackRope g s
  | .shaftDecoupled d => Sys2Proof.Machine.execShaftDecoupled d s
  | .hostHoldExpired d => Sys2Proof.Machine.execHostHoldExpired d s
  | .identStepDone d angle vals => Sys2Proof.Machine.execIdentStepDone d angle vals s
  | .lineRideExpired d => Sys2Proof.Machine.execLineRideExpired d s
  | .writePoints agent ring hdr items => Sys2Proof.Machine.execWritePoints agent ring hdr items s
  | .writeMasked agent ring hdr items => Sys2Proof.Machine.execWriteMasked agent ring hdr items s
  | .readPoints agent ring hdr addr idx => Sys2Proof.Machine.execReadPoints agent ring hdr addr idx s
  | .nop agent ring hdr => Sys2Proof.Machine.execNop agent ring hdr s
  | .cancel agent ring hdr tag cmdRing => Sys2Proof.Machine.execCancel agent ring hdr tag cmdRing s
  | .subscribeP agent ring hdr idx => Sys2Proof.Machine.execSubscribeP agent ring hdr idx s
  | .unsubscribeP agent ring hdr idx => Sys2Proof.Machine.execUnsubscribeP agent ring hdr idx s
  | .setM agent ring hdr ranges => Sys2Proof.Machine.execSetM agent ring hdr ranges s
  | .requestF agent ring hdr => Sys2Proof.Machine.execRequestF agent ring hdr s
  | .envPolicy agent ring hdr tier policy => Sys2Proof.Machine.execEnvPolicy agent ring hdr tier policy s
  | .loadPd agent ring hdr bytes length => Sys2Proof.Machine.execLoadPd agent ring hdr bytes length s
  | .pdValidationDone => Sys2Proof.Machine.execPdValidationDone s
  | .roundLinkup agent ring hdr mask => Sys2Proof.Machine.execRoundLinkup agent ring hdr mask s
  | .cellBypass agent ring hdr addr close => Sys2Proof.Machine.execCellBypass agent ring hdr addr close s
  | .cellGates agent ring hdr addr release => Sys2Proof.Machine.execCellGates agent ring hdr addr release s
  | .slowRead agent ring hdr addr off count => Sys2Proof.Machine.execSlowRead agent ring hdr addr off count s
  | .itinLoad agent ring hdr engine pts => Sys2Proof.Machine.execItinLoad agent ring hdr engine pts s
  | .canRecover agent ring hdr ctl => Sys2Proof.Machine.execCanRecover agent ring hdr ctl s
  | .canAbort agent ring hdr ctl obj => Sys2Proof.Machine.execCanAbort agent ring hdr ctl obj s
  | .journalFreeze agent ring hdr pre post => Sys2Proof.Machine.execJournalFreeze agent ring hdr pre post s
  | .journalExport agent ring hdr first last => Sys2Proof.Machine.execJournalExport agent ring hdr first last s
  | .journalRelease agent ring hdr => Sys2Proof.Machine.execJournalRelease agent ring hdr s
  | .replayFeed agent ring hdr blocks => Sys2Proof.Machine.execReplayFeed agent ring hdr blocks s
  | .pairHandover agent ring hdr => Sys2Proof.Machine.execPairHandover agent ring hdr s
  | .pairResync agent ring hdr => Sys2Proof.Machine.execPairResync agent ring hdr s
  | .fwWrite agent ring hdr data length off => Sys2Proof.Machine.execFwWrite agent ring hdr data length off s
  | .fwCommit agent ring hdr length => Sys2Proof.Machine.execFwCommit agent ring hdr length s
  | .acceptOnRoom agent ring => Sys2Proof.Machine.execAcceptOnRoom agent ring s
  | .modeCmdConfigure => Sys2Proof.Machine.execModeCmdConfigure s
  | .modeCmdReady => Sys2Proof.Machine.execModeCmdReady s
  | .modeCmdRun => Sys2Proof.Machine.execModeCmdRun s
  | .modeCmdOverride reason => Sys2Proof.Machine.execModeCmdOverride reason s
  | .modeCmdHalt => Sys2Proof.Machine.execModeCmdHalt s
  | .modeCmdDormant => Sys2Proof.Machine.execModeCmdDormant s
  | .modeCmdReplay => Sys2Proof.Machine.execModeCmdReplay s
  | .sleepEffective fired => Sys2Proof.Machine.execSleepEffective fired s
  | .wake fired => Sys2Proof.Machine.execWake fired s
  | .canWakePattern c => Sys2Proof.Machine.execCanWakePattern c s
  | .runCmdOn d => Sys2Proof.Machine.execRunCmdOn d s
  | .runCmdOff d => Sys2Proof.Machine.execRunCmdOff d s
  | .blockCmdOn d => Sys2Proof.Machine.execBlockCmdOn d s
  | .blockCmdOff d => Sys2Proof.Machine.execBlockCmdOff d s
  | .faultReset d => Sys2Proof.Machine.execFaultReset d s
  | .renderCmdOn d => Sys2Proof.Machine.execRenderCmdOn d s
  | .renderCmdOff d => Sys2Proof.Machine.execRenderCmdOff d s
  | .crashCmdOn d => Sys2Proof.Machine.execCrashCmdOn d s
  | .crashCmdOff d => Sys2Proof.Machine.execCrashCmdOff d s
  | .releaseArm d => Sys2Proof.Machine.execReleaseArm d s
  | .releaseRelease d => Sys2Proof.Machine.execReleaseRelease d s
  | .releaseEnd d => Sys2Proof.Machine.execReleaseEnd d s
  | .identStart d => Sys2Proof.Machine.execIdentStart d s
  | .identAbort d => Sys2Proof.Machine.execIdentAbort d s
  | .hostReclaim d => Sys2Proof.Machine.execHostReclaim d s
  | .fbUseWrite d v => Sys2Proof.Machine.execFbUseWrite d v s
  | .setEnableWrite d k v => Sys2Proof.Machine.execSetEnableWrite d k v s
  | .ctrlModeWrite d v => Sys2Proof.Machine.execCtrlModeWrite d v s
  | .timeSet t => Sys2Proof.Machine.execTimeSet t s
  | .fbClearCmd n => Sys2Proof.Machine.execFbClearCmd n s
  | .cmpValueLoad n v => Sys2Proof.Machine.execCmpValueLoad n v s
  | .ptSrcChange n v => Sys2Proof.Machine.execPtSrcChange n v s
  | .profileGo e => Sys2Proof.Machine.execProfileGo e s
  | .profileStop e => Sys2Proof.Machine.execProfileStop e s
  | .profileResume e => Sys2Proof.Machine.execProfileResume e s
  | .profileAbort e => Sys2Proof.Machine.execProfileAbort e s
  | .profileHome e => Sys2Proof.Machine.execProfileHome e s
  | .issueToken e token => Sys2Proof.Machine.execIssueToken e token s
  | .auxClearCmd b => Sys2Proof.Machine.execAuxClearCmd b s
  | .chopClearCmd => Sys2Proof.Machine.execChopClearCmd s
  | .canTxCmdSend c o => Sys2Proof.Machine.execCanTxCmdSend c o s
  | .canTxCmdAbort c o => Sys2Proof.Machine.execCanTxCmdAbort c o s
  | .canModeWrite c v => Sys2Proof.Machine.execCanModeWrite c v s
  | .doWrite n v => Sys2Proof.Machine.execDoWrite n v s
  | .encPwrModeWrite g v => Sys2Proof.Machine.execEncPwrModeWrite g v s
  | .registerWrite space off v => Sys2Proof.Machine.execRegisterWrite space off v s
  | .deviceReset failed => Sys2Proof.Machine.execDeviceReset failed s
  | .hostInterfaceReset => Sys2Proof.Machine.execHostInterfaceReset s
  | .hifReqWrite v => Sys2Proof.Machine.execHifReqWrite v s
  | .ringEnable agent n cfg => Sys2Proof.Machine.execRingEnable agent n cfg s
  | .ringDisable agent n => Sys2Proof.Machine.execRingDisable agent n s
  | .wdtCtrlWrite v => Sys2Proof.Machine.execWdtCtrlWrite v s
  | .doorbell agent n v => Sys2Proof.Machine.execDoorbell agent n v s
  | .heartbeat => Sys2Proof.Machine.execHeartbeat s
  | .logicHeartbeat => Sys2Proof.Machine.execLogicHeartbeat s
  | .hostWdtExpiry => Sys2Proof.Machine.execHostWdtExpiry s
  | .linkDown => Sys2Proof.Machine.execLinkDown s
  | .functionLevelReset => Sys2Proof.Machine.execFunctionLevelReset s
  | .msixUnmask v => Sys2Proof.Machine.execMsixUnmask v s
  | .moderationTimeout agent n => Sys2Proof.Machine.execModerationTimeout agent n s
  | .supWdt => Sys2Proof.Machine.execSupWdt s
  | .supervisorRestarted => Sys2Proof.Machine.execSupervisorRestarted s
  | .logicWdt => Sys2Proof.Machine.execLogicWdt s
  | .stoChange a b => Sys2Proof.Machine.execStoChange a b s
  | .stoDiscrepancy => Sys2Proof.Machine.execStoDiscrepancy s
  | .d1TickLost => Sys2Proof.Machine.execD1TickLost s
  | .memoryError core => Sys2Proof.Machine.execMemoryError core s
  | .vctlChange b mv => Sys2Proof.Machine.execVctlChange b mv s
  | .holdupExhausted => Sys2Proof.Machine.execHoldupExhausted s
  | .railFault n => Sys2Proof.Machine.execRailFault n s
  | .insertReleased => Sys2Proof.Machine.execInsertReleased s
  | .insertClosed => Sys2Proof.Machine.execInsertClosed s
  | .timeSourceEvent error => Sys2Proof.Machine.execTimeSourceEvent error s
  | .syncInEdge t => Sys2Proof.Machine.execSyncInEdge t s
  | .timeSourceLost => Sys2Proof.Machine.execTimeSourceLost s
  | .fbEdge n t lines => Sys2Proof.Machine.execFbEdge n t lines s
  | .comparePulseEnd n => Sys2Proof.Machine.execComparePulseEnd n s
  | .indexPulse n t => Sys2Proof.Machine.execIndexPulse n t s
  | .fbWireBreak n => Sys2Proof.Machine.execFbWireBreak n s
  | .ssiFrame n bits idle => Sys2Proof.Machine.execSsiFrame n bits idle s
  | .fbStandstill n => Sys2Proof.Machine.execFbStandstill n s
  | .auxDesat b high => Sys2Proof.Machine.execAuxDesat b high s
  | .auxShunt b => Sys2Proof.Machine.execAuxShunt b s
  | .bootUv b => Sys2Proof.Machine.execBootUv b s
  | .auxFaultSettled b => Sys2Proof.Machine.execAuxFaultSettled b s
  | .auxRetryElapsed b => Sys2Proof.Machine.execAuxRetryElapsed b s
  | .auxTriesReset b => Sys2Proof.Machine.execAuxTriesReset b s
  | .auxPrechargeDone b mv => Sys2Proof.Machine.execAuxPrechargeDone b mv s
  | .auxInterlock b => Sys2Proof.Machine.execAuxInterlock b s
  | .vauxLimit mv gateSupply => Sys2Proof.Machine.execVauxLimit mv gateSupply s
  | .chopSwitch mv => Sys2Proof.Machine.execChopSwitch mv s
  | .chopFault => Sys2Proof.Machine.execChopFault s
  | .extStepPulse a t width neg => Sys2Proof.Machine.execExtStepPulse a t width neg s
  | .stepperHoldReduce a => Sys2Proof.Machine.execStepperHoldReduce a s
  | .doOverload n => Sys2Proof.Machine.execDoOverload n s
  | .doOverloadRetry n => Sys2Proof.Machine.execDoOverloadRetry n s
  | .encPwrFault g => Sys2Proof.Machine.execEncPwrFault g s
  | .ainBurdenOpen n => Sys2Proof.Machine.execAinBurdenOpen n s
  | .ainBurdenReclose n => Sys2Proof.Machine.execAinBurdenReclose n s
  | .canFrameReceived c fr sof t => Sys2Proof.Machine.execCanFrameReceived c fr sof t s
  | .canPeriodicSend c o => Sys2Proof.Machine.execCanPeriodicSend c o s
  | .canTxAttemptEnd c o res sof t => Sys2Proof.Machine.execCanTxAttemptEnd c o res sof t s
  | .canRecovered c => Sys2Proof.Machine.execCanRecovered c s
  | .canRxTimeout c o => Sys2Proof.Machine.execCanRxTimeout c o s
  | .frankingMessageSend c => Sys2Proof.Machine.execFrankingMessageSend c s
  | .irqSourceFire id level => Sys2Proof.Machine.execIrqSourceFire id level s
  | .irqWithdrawn id => Sys2Proof.Machine.execIrqWithdrawn id s
  | .claim c => Sys2Proof.Machine.execClaim c s
  | .eoi c v => Sys2Proof.Machine.execEoi c v s
  | .pendingSet c k v => Sys2Proof.Machine.execPendingSet c k v s
  | .pendingClr c k v => Sys2Proof.Machine.execPendingClr c k v s
  | .enableSet c k v => Sys2Proof.Machine.execEnableSet c k v s
  | .enableClr c k v => Sys2Proof.Machine.execEnableClr c k v s
  | .stackFaultClear c b v => Sys2Proof.Machine.execStackFaultClear c b v s
  | .wfi c => Sys2Proof.Machine.execWfi c s
  | .coreWake c => Sys2Proof.Machine.execCoreWake c s
  | .logicAccessFault c addr size kind => Sys2Proof.Machine.execLogicAccessFault c addr size kind s
  | .sortingReport code kind idx param t => Sys2Proof.Machine.execSortingReport code kind idx param t s
  | .postmarkClose t => Sys2Proof.Machine.execPostmarkClose t s
  | .eventRecordDrain => Sys2Proof.Machine.execEventRecordDrain s
  | .soRingOverflow agent => Sys2Proof.Machine.execSoRingOverflow agent s
  | .journalTrigger t => Sys2Proof.Machine.execJournalTrigger t s
  | .journalFrozen n => Sys2Proof.Machine.execJournalFrozen n s
  | .journalExportBlock => Sys2Proof.Machine.execJournalExportBlock s
  | .journalExportDone => Sys2Proof.Machine.execJournalExportDone s
  | .journalLost lost => Sys2Proof.Machine.execJournalLost lost s
  | .replayEpoch => Sys2Proof.Machine.execReplayEpoch s
  | .replayDone => Sys2Proof.Machine.execReplayDone s
  | .pairRoleDecision partner traffic => Sys2Proof.Machine.execPairRoleDecision partner traffic s
  | .pairJoin desc kernel t epoch => Sys2Proof.Machine.execPairJoin desc kernel t epoch s
  | .endBStream frames => Sys2Proof.Machine.execEndBStream frames s
  | .endBStreamAbsent => Sys2Proof.Machine.execEndBStreamAbsent s
  | .slotRelay r e rel t => Sys2Proof.Machine.execSlotRelay r e rel t s
  | .inputMessage epoch secs verdicts nos => Sys2Proof.Machine.execInputMessage epoch secs verdicts nos s
  | .unfedEpoch => Sys2Proof.Machine.execUnfedEpoch s
  | .commandForward no epoch tag agent ring op => Sys2Proof.Machine.execCommandForward no epoch tag agent ring op s
  | .hashMessage epoch hash mode gen prot => Sys2Proof.Machine.execHashMessage epoch hash mode gen prot s
  | .timeMessage offset lp => Sys2Proof.Machine.execTimeMessage offset lp s
  | .pairLinkLost => Sys2Proof.Machine.execPairLinkLost s
  | .pairLinkSlow lp => Sys2Proof.Machine.execPairLinkSlow lp s
  | .stateEnvelope epoch readable pts image => Sys2Proof.Machine.execStateEnvelope epoch readable pts image s
  | .resyncTransferDone epoch pts image => Sys2Proof.Machine.execResyncTransferDone epoch pts image s
  | .surrender h fault => Sys2Proof.Machine.execSurrender h fault s
  | .pairDemoted => Sys2Proof.Machine.execPairDemoted s
  | .warmTakeoverResume => Sys2Proof.Machine.execWarmTakeoverResume s
  | .logicRestarted => Sys2Proof.Machine.execLogicRestarted s
  | .railRestored n => Sys2Proof.Machine.execRailRestored n s
  | .powerLost => Sys2Proof.Machine.execPowerLost s
  | .canRxError c dominantAfter => Sys2Proof.Machine.execCanRxError c dominantAfter s
  | .pullInElapsed a => Sys2Proof.Machine.execPullInElapsed a s
  | .otpFuse item => Sys2Proof.Machine.execOtpFuse item s
  | .discoverArrived r e next => Sys2Proof.Machine.execDiscoverArrived r e next s
  | .pcieLinkUp gen width => Sys2Proof.Machine.execPcieLinkUp gen width s

end Sys2Proof.Machine
end

