-- ==== Sys2Proof/Machine/Step.lean ====
section
/-!
DEFINITION. Step.lean: one step of the block. It takes the command at the front of the queue and carries out its effect
with the rest of the queue; with an empty queue the block idles.
-/
namespace Sys2Proof.Machine

/-- One step. An empty queue leaves the state as it is (DESIGN CHOICE, log entry 1): everything that happens with
time is a command of its own. -/
def step (s : State) : Host.Outcome State Fault Refusal :=
  match s.pending with
  | [] => .next s
  | c :: rest => exec c (s.withPending rest)

/-- The state with the command that a word spells put at the front of the queue; no row of the opcode table gives
bits, so no word spells one and the state is unchanged. -/
def State.withFetchWord (s : State) (nbits w : Nat) : State :=
  match Sys2Proof.decodeTableWord nbits w with
  | some c => s.withPending (c :: s.pending)
  | none => s

end Sys2Proof.Machine
end

