-- ==== Sys2Proof/Safety.lean ====
section
/-!
DEFINITION. Safety.lean: what counts as a safe run, in the terms that the statements use.
-/
namespace Sys2Proof.Machine

/-- Both copies of the points, the block's own and the committed one, are in canonical form. -/
def State.canonical (s : State) : Bool := Store.wf s.pts && Store.wf s.led

/-- What hardly any command may touch: the queue of waiting commands, the permit register of D13 (R75), the key slots fused into
one-time-programmable memory (R518), the level of the position strap (R499), whether there is power, the epoch counter (R36),
the place in the epoch (Table 2.1), and the committed copy of the points (R355). -/
def State.kept (s : State) : List Instr × Nat × Tab (List Byte) × Bool × Bool × Nat × Nat × Store :=
  (s.pending, s.dev.permit, s.hw.keys, s.hw.posB, s.dev.powered, s.clk.epoch, s.clk.phase, s.led)

/-- The points that reporting writes: the sorting office's, the captures', and the dead letters of the cores (Tables 17.7, 13.5
and 16.7). -/
def fieldReports (f : Field) : Bool :=
  [Field.coreDeadLetters, .jcapFirst, .jcapLast, .jcapTriggers, .jrnState, .pmBitmap, .pmCode, .pmCount, .pmSeq, .soEarlyCloses,
   .soIngestDropped, .soOpenPeak, .soReports, .soRingLost, .soSeq].contains f

/-- The event rings of the two agents (Tables 11.5 and 16.1). -/
def recordRing (k : Nat) : Bool := k == 16 || k == 48

/-- All that a state holds beside its points and what reporting an event writes: the interrupt controller, the sorting office, the
captures, the two event rings with the withheld messages of MSI-X, and what the block drives. -/
def State.rest (s : State) : State :=
  (((((s.withPts []).withIrq State.reset.irq).withSo State.reset.so).withJrn { s.jrn with caps := [] }).withHost
    { s.host with rings := s.host.rings.filter (fun e => !recordRing e.1), msixPend := 0 }).withOut []

/-- The points that reporting does not write. -/
def State.shown (s : State) : Field → Nat → Nat → Word := fun f i j => if fieldReports f then 0 else s.w f i j

/-- All that reporting an event leaves alone. -/
def State.quiet (s : State) : State × (Field → Nat → Nat → Word) := (s.rest, s.shown)

/-- The sources that a new event record for plant logic fires: the event source and its ring's (Table 16.2). -/
def recordSource (id : Nat) : Bool := id == 10 || id == 240

/-- What writing event records leaves of the interrupt controller: each source but for the pending bit of the two sources that it
fires, and each core but for what is presented to it, its dead letter and its waking. -/
def State.duty (s : State) : (Nat → Src) × (Nat → CoreIf) :=
  (fun id => { s.src id with pend := !recordSource id && (s.src id).pend },
   fun c => { s.core c with presented := 0, deadPending := false, deadId := 0, waking := false })

/-- Some open postmark counts a report with this code from this reporter. -/
def Postmarked (l : List Postmark) (code kind idx : Nat) : Prop := ∃ p ∈ l, p.code = code ∧ p.kind = kind ∧ idx ∈ p.idxs

/-- An event was reported between two states: a postmark holds the report, when the sorting office had room for it in this epoch
(R485) and among its open postmarks (R486; a capture that the event triggers may report one event more). -/
def Raised (s t : State) (code kind idx : Nat) : Prop :=
  s.so.taken < 256 → s.so.opened.length < 63 → Postmarked t.so.opened code kind idx

/-- Every point but the listed ones reads as before. -/
def SamePoints (s t : State) (ps : List Pt) : Prop := ∀ f i j, ⟨f, i, j⟩ ∉ ps → t.w f i j = s.w f i j

/-- Every point but the listed ones, and those that reporting writes, reads as before. -/
def QuietPoints (s t : State) (ps : List Pt) : Prop :=
  ∀ f i j, ⟨f, i, j⟩ ∉ ps → fieldReports f = false → t.w f i j = s.w f i j

/-- Every point but those of the listed fields, and those that reporting writes, reads as before. -/
def QuietFields (s t : State) (fs : List Field) : Prop := ∀ f i j, f ∉ fs → fieldReports f = false → t.w f i j = s.w f i j

/-- Only a drive's record, the listed points and what reporting writes may have changed. -/
def DriveOnly (s t : State) (d : Nat) (ps : List Pt) : Prop :=
  t.rest = (s.withDrvs t.drvs).rest ∧ (∀ e, e ≠ d → t.drv e = s.drv e) ∧ QuietPoints s t ps

/-- The points that a change of regime writes. -/
def regimePoints (d : Nat) : List Pt := [⟨.drvRegime, d, 0⟩, ⟨.drvHalting, d, 0⟩, ⟨.drvCrashPhase, d, 0⟩]

/-- A cause of Table 6.4 has arisen between two states (R187, R188, R222): its bit stands; a Blocked drive stays Blocked; a soft cause in
Override or in Release leaves the drive in its regime; otherwise it is Faulted and keeps the first cause's code. -/
def FaultedBy (s t : State) (d c : Nat) : Prop :=
  let spared := causeSoft c = true ∧ (s.mode = 4 ∨ s.regime d = 5)
  Arith.bit (t.drv d).causes c = true ∧
  (s.regime d = 7 ∨ spared → t.regime d = s.regime d ∧ t.n .drvFaultCause d = s.n .drvFaultCause d) ∧
  (s.regime d ≠ 7 → ¬spared → t.regime d = 6 ∧ t.n .drvFaultCause d = (if s.n .drvFaultCause d = 0 then c else s.n .drvFaultCause d))

/-- A session of the host has ended between two states (R351): its rings are stopped without a fault, its completions are discarded
and counted, and its waiting commands went if `PR_DROP_ON_LOSS` asks for it. -/
def SessionEnded (s t : State) : Prop :=
  (∀ n, n < 21 → (t.ring n).enable = false ∧ (t.ring n).fault = false ∧ (t.ring n).waiting = none) ∧
  t.host.fins = s.host.fins.filter (fun f => f.cmd.agent != 0) ∧
  t.w .devHifCplDiscarded 0 0 = Word.ofNat (s.n .devHifCplDiscarded + s.discarded) ∧
  (∀ c ∈ t.host.pr, c ∈ s.host.pr ∧ (s.host.prDrop = true → c.agent ≠ 0)) ∧
  (s.host.prDrop = false → t.host.pr = s.host.pr)

/-- A Safe cause has acted (R311, R298, R189): its bit stands, the device is in Safe, no token is sent, no later mode command of the epoch counts
(R300), and where tokens flowed before every drive is Blocked. -/
def SafeBy (s t : State) (code : Nat) : Prop :=
  t.mode = 6 ∧ t.dev.tokenOn = false ∧ Arith.bit (t.n .devSafeCause) (code - 1) = true ∧ t.dev.modeTaken = true ∧
  (modeRuns s.mode = true → ∀ d ∈ s.drives, t.regime d = 7)

/-- The serving ranges of a round have been set between two states (R62, Table 3.14): its ends, the first position that end B serves, the
delays, and which end serves each present position. -/
def RangesSet (s t : State) (r : Nat) (g : Option (Nat × Nat) × Option (Nat × Nat)) : Prop :=
  let da := s.oneWay r .a ((s.present r).filter (inRange g.1))
  let db := s.oneWay r .b ((s.present r).filter (inRange g.2))
  (t.rnd r).rangeA = g.1 ∧ (t.rnd r).rangeB = g.2 ∧ t.n .rndEnds r = Arith.b2n g.1.isSome + 2 * Arith.b2n g.2.isSome ∧
  t.w .rndTurn r 0 = Word.ofNat ((g.2.map (·.1)).getD 256) ∧ t.w .rndDelayANs r 0 = Word.ofNat da ∧
  t.w .rndDelayBNs r 0 = Word.ofNat db ∧ t.w .rndDelayNs r 0 = Word.ofNat (max da db) ∧
  ∀ p ∈ s.present r, (inRange g.2 p = true → t.n .pos (cellAt r p) 6 = 1) ∧
    (inRange g.2 p = false → inRange g.1 p = true → t.n .pos (cellAt r p) 6 = 0)

/-- A source of device time has given an error between two states (R48, R531): the error is published and slewed out, 16 measurements of
at most 20 ns in a row lock, and an error above 1 ms outside Configure is reported once in an episode. -/
def SourceMeasured (s t : State) (e : Int) : Prop :=
  let good := if e.natAbs ≤ 20 then min (s.clk.good + 1) 16 else 0
  t.w .devTimeErrorNs 0 0 = Word.ofInt (satS32 e) ∧ t.n .devTimeState = (if good = 16 then 2 else 1) ∧
  t.clk = { s.clk with slewLeft := e * 1000, srcAt := s.now, good := good, offEpisode := t.clk.offEpisode } ∧
  (1000000 < e.natAbs → s.mode ≠ 1 → t.clk.offEpisode = true ∧ (s.clk.offEpisode = false → Raised s t 0x0C51 kDevice 0)) ∧
  (e.natAbs ≤ 1000000 → t.clk.offEpisode = false) ∧
  t.rest = (s.withClk t.clk).rest ∧ QuietPoints s t [⟨.devTimeErrorNs, 0, 0⟩, ⟨.devTimeState, 0, 0⟩]

/-- Only one CAN controller, the clock, the count of free values, what waits for the controller, and points of the listed fields may have
changed. -/
def CanOnly (s t : State) (c : Nat) (fs : List Field) : Prop :=
  t.rest = ((((s.withCans t.cans).withHost { s.host with fins := t.host.fins }).withClk t.clk).withFree t.free).rest ∧
  (∀ e, e ≠ c → t.can e = s.can e) ∧ QuietFields s t fs

/-- The points that sending on a CAN controller may write. -/
def canSendFields : List Field := [.canState, .canTxDiscarded, .canTxRefused, .objStatus, .objTxCmd]

/-- A send of an object has fallen due between two states (R437, R441): refused and counted where the controller may not send,
else among the pending frames, unless a change of mode waits that may discard them. -/
def SendDue (s t : State) (c o : Nat) (data : List Byte) : Prop :=
  (s.canNormal c = false → t.w .canTxRefused c 0 = Word.ofNat (s.n .canTxRefused c + 1) ∧ (t.can c).pend = (s.can c).pend) ∧
  (s.canNormal c = true → (s.can c).modeDue = none →
    (∃ f ∈ (t.can c).pend, f.obj = o ∧ (f.data = data ∨ f.next = some data)) ∧
    ((s.can c).pend.all (fun f => f.obj != o) = true → (t.can c).pend.length = (s.can c).pend.length + 1) ∧
    ((s.can c).pend.any (fun f => f.obj == o) = true → (t.can c).pend.length = (s.can c).pend.length))

/-- A half-bridge has faulted between two states (R289, R290): high impedance until it is settled, unless an earlier fault of its axis
within 10 µs makes it a phase-to-phase short, which latches every bridge of the axis. -/
def BridgeFaulted (s t : State) (b cause : Nat) : Prop :=
  (s.shortWith b = none → t.n .auxState b = 3 ∧ t.n .auxCause b = cause ∧
    t.br b = { s.br b with faultAt := s.now, pending := true, retry := true, fault := cause } ∧
    t.w .auxTripsTotal b 0 = Word.ofNat (s.n .auxTripsTotal b + 1) ∧ Raised s t (auxFaultEvent b cause).1 kAux b ∧
    (s.n .auxState b = 2 → (t.src (113 + b)).pend = true) ∧ (∀ m, m ≠ b → t.br m = s.br m)) ∧
  (∀ m a, s.shortWith b = some m → s.axisOf b = some a → ∀ c ∈ s.bridgesOf a, t.brState c = 4 ∧ (t.br c).fault = 5 ∧
    (t.br c).pending = false ∧ (t.br c).retry = false)

/-- The row of a descriptor's operation (Table 11.7). -/
def opCommand (agent : Agent) (ring : Fin 8) (hdr : DescHdr) : Op → Instr
  | .nop => .nop agent ring hdr
  | .cancel tag r => .cancel agent ring hdr tag r
  | .writePoints items => .writePoints agent ring hdr items
  | .writeMasked items => .writeMasked agent ring hdr items
  | .readPoints addr idx => .readPoints agent ring hdr addr idx
  | .subscribeP idx => .subscribeP agent ring hdr idx
  | .unsubscribeP idx => .unsubscribeP agent ring hdr idx
  | .setM ranges => .setM agent ring hdr ranges
  | .requestF => .requestF agent ring hdr
  | .envPolicy tier policy => .envPolicy agent ring hdr tier policy
  | .loadPd bytes length => .loadPd agent ring hdr bytes length
  | .roundLinkup mask => .roundLinkup agent ring hdr mask
  | .cellBypass addr v => .cellBypass agent ring hdr addr v
  | .cellGates addr v => .cellGates agent ring hdr addr v
  | .slowRead addr off n => .slowRead agent ring hdr addr off n
  | .itinLoad e pts => .itinLoad agent ring hdr e pts
  | .canRecover c => .canRecover agent ring hdr c
  | .canAbort c o => .canAbort agent ring hdr c o
  | .journalFreeze pre post => .journalFreeze agent ring hdr pre post
  | .journalExport first last => .journalExport agent ring hdr first last
  | .journalRelease => .journalRelease agent ring hdr
  | .replayFeed blocks => .replayFeed agent ring hdr blocks
  | .pairHandover => .pairHandover agent ring hdr
  | .pairResync => .pairResync agent ring hdr
  | .fwWrite data length off => .fwWrite agent ring hdr data length off
  | .fwCommit length => .fwCommit agent ring hdr length

/-- Key of the completion ring that a command ring is bound to. -/
def State.cplKey (s : State) (agent ring : Nat) : Nat := ringKey agent (8 + (s.ring (ringKey agent ring)).cpl)

/-- Whether a descriptor's command waits for a later apply-epoch. -/
def State.waitsLong (s : State) (d : Desc) : Bool := !opImmediate d.op && decide (s.e0 < d.hdr.apply)

/-- The command that an agent's descriptor at the front of a ring makes (R343). -/
def State.cmdOf (s : State) (agent ring : Nat) (d : Desc) : Cmd :=
  let r := s.ring (ringKey agent ring)
  { id := s.host.acc + 1, agent := agent, ring := ring, cpl := s.cplKey agent ring, slot := r.idx % r.size, hdr := d.hdr,
    op := d.op, epoch := max d.hdr.apply s.e0, session := s.host.session, kept := s.waitsLong d }

/-- Whether the completions of a descriptor have room (R345): two when it asks for a notice and waits. -/
def State.hasRoom (s : State) (agent ring : Nat) (d : Desc) : Bool :=
  let k := s.ring (s.cplKey agent ring)
  k.live && decide (k.reserved + (if s.waitsLong d && d.hdr.notice then 2 else 1) ≤ k.room)

/-- Whether a descriptor can be fetched: the ring is served and live, has an entry, and none of its descriptors waits. -/
def State.fetchable (s : State) (agent ring : Nat) : Bool :=
  let r := s.ring (ringKey agent ring)
  s.serves agent ring && r.live && decide (0 < r.avail) && r.waiting.isNone

/-- A descriptor has been consumed and counted between two states. -/
def Consumed (s t : State) (agent ring : Nat) : Prop :=
  let r := s.ring (ringKey agent ring)
  (t.ring (ringKey agent ring)).idx = (r.idx + 1) % (2 * r.size) ∧ (t.ring (ringKey agent ring)).waiting = none ∧
  t.host.acc = s.host.acc + 1 ∧ t.w .devHifAccepted 0 0 = Word.ofNat (s.n .devHifAccepted + 1)

/-- Only an agent's command ring, its completion ring, and what acceptance counts may have changed of the host interface. -/
def RingsOnly (s t : State) (agent ring : Nat) : Prop :=
  (∀ m, m ≠ ringKey agent ring → m ≠ s.cplKey agent ring → t.ring m = s.ring m) ∧
  t.host = { s.host with rings := t.host.rings, pr := t.host.pr, acc := t.host.acc, prFull := t.host.prFull, prHigh := t.host.prHigh,
                         msixPend := t.host.msixPend }

/-- A descriptor has been accepted between two states (R342, R343): its command waits behind the others, a place of its completion ring is
reserved, and a notice went out when it asked for one and waits. -/
def Accepted (s t : State) (agent ring : Nat) (d : Desc) : Prop :=
  let c := s.cmdOf agent ring d
  Consumed s t agent ring ∧ RingsOnly s t agent ring ∧ t.host.pr = s.host.pr ++ [c] ∧
  (s.waitsLong d = true → d.hdr.notice = true → s.sessionLive c = true → ∃ e, Out.completion c.cpl e ∈ t.out ∧ e.notice = true ∧
    e.status = 0 ∧ e.tag = d.hdr.tag ∧ e.epoch = c.epoch ∧ e.opcode = c.code) ∧
  (s.sessionLive c = true → (t.ring c.cpl).reserved = (s.ring c.cpl).reserved + 1) ∧
  t.rest = (s.withHost t.host).rest ∧ QuietPoints s t [⟨.devHifAccepted, 0, 0⟩, ⟨.devHifPrCount, 0, 0⟩, ⟨.devHifPrPeak, 0, 0⟩]

/-- A descriptor has been refused between two states with a status and an item (R342, R346, Table 11.9): one completion with the present
epoch, nothing waits, and nothing else has happened. -/
def Refused (s t : State) (agent ring : Nat) (d : Desc) (v : Verdict) : Prop :=
  let c := s.cmdOf agent ring d
  Consumed s t agent ring ∧ RingsOnly s t agent ring ∧ t.host.pr = s.host.pr ∧
  (s.sessionLive c = true → (∃ e, Out.completion c.cpl e ∈ t.out ∧ e.notice = false ∧ e.status = v.1 ∧ e.item = v.2 ∧ e.value = 0 ∧
    e.tag = d.hdr.tag ∧ e.epoch = s.epoch ∧ e.opcode = c.code) ∧ (t.ring c.cpl).reserved = (s.ring c.cpl).reserved) ∧
  t.rest = (s.withHost t.host).rest ∧
  QuietPoints s t [⟨.devHifAccepted, 0, 0⟩, ⟨.devHifLate, 0, 0⟩, ⟨.devHifFull, 0, 0⟩, ⟨.devHifSuperseded, 0, 0⟩]

/-- The block has started from step 1 of Table 10.3 between two states (R302 to R304, R311): what does not outlive a restart is as at
reset; a bank that verifies boots, into Safe after a critical failure or with a low STO input, else into Configure; without one the
block stays in boot recovery. -/
def Booted (s t : State) (failed : List TestUnit) : Prop :=
  let pick := (chooseBank s.hw.bank0 s.hw.bank1 (s.n .hwFwSecurityFloor) 0 0).1
  t.dev.powered = true ∧ t.clk = { State.reset.clk with running := true } ∧ t.plant = .none ∧ t.dev.pdActive = false ∧
  t.host.pr = [] ∧ t.host.fins = [] ∧ t.jrn.live = [] ∧ t.rnds = [] ∧ t.cells = s.cells ∧ t.pending = s.pending ∧
  t.hw.keys = s.hw.keys ∧ t.hw.bank0 = s.hw.bank0 ∧ t.hw.bank1 = s.hw.bank1 ∧ t.n .hwFwKeySlots = s.n .hwFwKeySlots ∧
  (pick = none → t.dev.boot = 2 ∧ t.dev.supUp = false) ∧
  (∀ b, pick = some b → t.dev.boot = 0 ∧ t.dev.supUp = true ∧ t.hw.bankB = b ∧
    t.mode = (if failed.any testCritical || !s.dev.stoA || !s.dev.stoB then 6 else 1) ∧
    t.dev.tokenOn = false ∧ ∀ u ∈ failed, Arith.bit (t.n .devSelftest) (testBit u).1 = true)

/-- A replay has ended between two states with a result (R397, R399, R400): the module is in Configure with every drive Blocked, and the
feeds that ran complete with the result. -/
def ReplayEnded (s t : State) (value : Nat) : Prop :=
  t.mode = 1 ∧ t.rep = Replay.idle ∧ (∀ d ∈ t.drives, t.regime d = 7) ∧
  (∀ f ∈ s.host.fins, f.wait.isFeed = true →
    { f with status := 0, item := noItem, value := value, wait := .ready } ∈ t.host.fins)

/-- A principal has given up its role between two states (R421): counterfoil, unprotected, transmitters idle, and a hand-over that waited
fails with MODE. -/
def Demoted (s t : State) : Prop :=
  t.n .pairRole = 2 ∧ t.n .pairProtection = 2 ∧ t.pair.endsIdle = true ∧ t.pair.handover = none ∧ t.pair.confirmed = false ∧
  (∀ f ∈ s.host.fins, f.wait = .handover →
    { f with status := stMode, item := noItem, value := 0, wait := .ready } ∈ t.host.fins)

/-- The link of a pair is lost between two states (Table 14.4): a principal serves from its own ends alone and is unprotected, a
counterfoil idles its ends. -/
def LinkGone (s t : State) : Prop :=
  t.pair.heard = false ∧ t.n .pairRole = s.n .pairRole ∧
  (s.n .pairRole = 1 → t.pair.joined = false ∧ t.pair.resync = 0 ∧ t.pair.resyncDue = false ∧ t.n .pairProtection = 2 ∧
    (s.pair.joined = true → ∀ r ∈ s.plant.rounds, s.n .rndState r = 6 → (t.rnd r).detected = true ∧ (t.rnd r).broken = true) ∧
    (s.pair.joined = false → t.rnds = s.rnds)) ∧
  (s.n .pairRole = 2 → t.pair.endsIdle = true ∧ t.n .pairProtection = s.n .pairProtection ∧ t.rnds = s.rnds)

/-- A legal value of the permit register: 48 bits, never 0 (R75). -/
def State.PermitLegal (s : State) : Prop := s.dev.permit ≠ 0 ∧ s.dev.permit < 2 ^ 48

/-- Commands at which the permit register may change. -/
def touchesPermit : Instr → Bool
  | .epochBoundary _ | .powerGood _ _ _ => true
  | _ => false

/-- Commands at which the epoch counter may change. -/
def touchesEpoch : Instr → Bool
  | .epochBoundary _ | .powerGood _ _ _ | .powerLost | .deviceReset _ | .pairJoin _ _ _ _ => true
  | _ => false

/-- Commands at which the place in the epoch may change. -/
def touchesPhase : Instr → Bool
  | .epochBoundary _ | .inputCutoff | .downstreamSend | .ledgerCommit | .powerGood _ _ _ | .powerLost | .deviceReset _ => true
  | _ => false

/-- Commands at which the committed copy of the points may change. -/
def touchesLedger : Instr → Bool
  | .ledgerCommit | .powerGood _ _ _ | .powerLost | .deviceReset _ => true
  | _ => false

/-- A step that answers a next state. -/
def Completes (o : Host.Outcome State Fault Refusal) : Prop := ∃ t, o = .next t

/-- A step that answers a next state of which a property holds. -/
def Yields (o : Host.Outcome State Fault Refusal) (p : State → Prop) : Prop := ∃ t, o = .next t ∧ p t

/-- A run of so many steps that neither faults nor is refused and keeps the points canonical throughout. -/
def SafeRun : Nat → State → Prop
  | 0, s => s.canonical = true
  | k + 1, s => s.canonical = true ∧ Yields (step s) (SafeRun k)

end Sys2Proof.Machine
end

