-- ==== Sys2Proof/Certificates/Slice0/Obligations.lean ====
section
/-!
DEFINITION. Obligations.lean: the statements for the provers. A statement says of each command it names that exec answers a next
state, what that state holds, and what it leaves alone. `Yields o p`: the outcome `o` is a next state with the property `p`.
-/

open Sys2Proof Sys2Proof.Machine

/-- Of R465 and R466: a claim takes the core's dead letter, or what is presented to it, or nothing. Sources and cores other than the
two named keep everything but what writing event records may do to them (`State.duty`). -/
def Obligations.ClaimTakesWhatIsPresented : Prop :=
  ∀ (c : CoreNo) (s : State), Yields (exec (.claim c) s) fun t =>
    let k := s.core c
    let x := s.src k.presented
    (k.deadPending = true → t = s.putCore c { k with claimed := 1023, deadPending := false }) ∧
    (k.deadPending = false → k.presented = 0 → t = s.putCore c { k with claimed := 0 }) ∧
    (k.deadPending = false → k.presented ≠ 0 →
      (t.core c).claimed = k.presented ∧ (t.core c).stack = (k.presented, x.prio) :: k.stack ∧
      t.duty.1 k.presented = { x with active := true, pend := false, last := c } ∧
      (∀ id, id ≠ k.presented → t.duty.1 id = s.duty.1 id) ∧
      (∀ b, b ≠ c.val → t.duty.2 b = s.duty.2 b) ∧ t.quiet = s.quiet)

/-- R467 and R468: an EOI of the ID on top of the stack pops it and clears the source's active bit; 0 and 1023 do nothing; any other
ID is a stack fault, which leaves the stack and every active bit. Supervisor's EOI of source 1 also acknowledges the STO levels
(the model's choice, log entry 33), so it is stated apart. -/
def Obligations.EndOfInterruptPopsOrFaults : Prop :=
  ∀ (c : CoreNo) (v : Word) (s : State), Yields (exec (.eoi c v) s) fun t =>
    let id := v.toNat % 1024
    let k := s.core c
    let own := id = 1 ∧ c.val < 2
    (id = 0 ∨ id = 1023 → t = s) ∧
    (id ≠ 0 → id ≠ 1023 → (k.stack.head?.map (·.1)) = some id →
      (t.core c).stack = k.stack.tail ∧ (t.src id).active = false ∧ (t.core c).stackFault = k.stackFault) ∧
    (id ≠ 0 → id ≠ 1023 → (k.stack.head?.map (·.1)) ≠ some id →
      (t.core c).stack = k.stack ∧ (∀ n, (t.src n).active = (s.src n).active) ∧ (t.core c).stackFault = true ∧
      (t.core c).faultEoi = id ∧ (t.core c).faultTop = ((k.stack.head?.map (·.1)).getD 0) ∧ (t.src 5).cond = true ∧
      Raised s t 0x0C01 kCore c) ∧
    (own → (t.src 1).cond = false) ∧
    (∀ b, b ≠ c.val → t.duty.2 b = s.duty.2 b) ∧
    (∀ n, n ≠ id → n ≠ 5 → t.duty.1 n = s.duty.1 n) ∧
    t.rest = s.rest ∧
    QuietPoints s t ([⟨.coreStackFaults, c, 0⟩] ++ if own then [⟨.devStoSeen, 0, 0⟩] else [])

/-- R459 and R462: a write of a bitmap register reaches exactly the sources that its 1 bits name and the writing core may write;
PENDING_SET and PENDING_CLR act on their pending bits, ENABLE_SET and ENABLE_CLR on their enables. Nothing else changes but what
writing event records does. -/
def Obligations.BitmapWritesReachPermittedSources : Prop :=
  ∀ (c : CoreNo) (k : Fin 32) (v : Word) (s : State),
    let hit := fun id => id ∈ irqIds k v ∧ s.irqMayWrite c id = true
    Yields (exec (.pendingSet c k v) s) (fun t => t.quiet = s.quiet ∧ t.duty.2 = s.duty.2 ∧
      (∀ id, hit id → (t.src id).pend = true) ∧
      ∀ id, (hit id → { t.src id with pend := true } = { s.src id with pend := true }) ∧ (¬hit id → t.duty.1 id = s.duty.1 id)) ∧
    Yields (exec (.pendingClr c k v) s) (fun t => t.quiet = s.quiet ∧ t.duty.2 = s.duty.2 ∧
      ∀ id, (hit id → t.duty.1 id = { s.src id with pend := false }) ∧ (¬hit id → t.duty.1 id = s.duty.1 id)) ∧
    Yields (exec (.enableSet c k v) s) (fun t => t.quiet = s.quiet ∧ t.duty.2 = s.duty.2 ∧
      ∀ id, (hit id → t.duty.1 id = { s.duty.1 id with enabled := true }) ∧ (¬hit id → t.duty.1 id = s.duty.1 id)) ∧
    Yields (exec (.enableClr c k v) s) (fun t => t.quiet = s.quiet ∧ t.duty.2 = s.duty.2 ∧
      ∀ id, (hit id → t.duty.1 id = { s.duty.1 id with enabled := false }) ∧ (¬hit id → t.duty.1 id = s.duty.1 id))

/-- R460, R461: what a fire makes pending. An edge source outside the pins, and a pin in mode 1, gets its pending bit; a pin in mode 0
only from a rising edge; a level source takes the level as its condition; the end of a level source's condition is a withdrawal. What
mode 3 of a pin does is a free value (log entry 34). Every point and record that reporting does not write stays, but for the count
of drawn free values. -/
def Obligations.SourcesFireByTheirKind : Prop :=
  ∀ (id : Fin 1024) (level : Bool) (s : State), irqValid id = true →
    Yields (exec (.irqSourceFire id level) s) (fun t =>
      t.rest = (s.withFree t.free).rest ∧ QuietPoints s t [] ∧
      (irqPin id = true → (s.src id).mode = 0 → level = false → t = s) ∧
      (irqPin id = true → (s.src id).mode = 0 → level = true → (t.src id).pend = true) ∧
      (irqPin id = true → (s.src id).mode = 1 → (t.src id).pend = true) ∧
      (s.irqIsLevel id = true → (t.src id).cond = level) ∧
      (irqPin id = false → s.irqIsLevel id = false → (t.src id).pend = true)) ∧
    Yields (exec (.irqWithdrawn id) s) (fun t =>
      t.quiet = s.quiet ∧ (s.irqIsLevel id = true → (t.src id).cond = false ∧
        ∀ n, n ≠ id.val → t.duty.1 n = s.duty.1 n) ∧ (s.irqIsLevel id = false → t = s))

/-- R463 and R468 (a 1 in bit 0 of a core's STATUS clears STACK_FAULT, where the writing core may write that block), R454 and R469
(WFI puts a core to sleep; a sleeping core that is waking runs again), and R455 (an access of a core of plant logic outside its
partition counts and has no other effect). -/
def Obligations.CoresSleepWakeAndFault : Prop :=
  ∀ (c b : CoreNo) (v : Word) (addr size : Nat) (kind : AccessKind) (s : State),
    Yields (exec (.stackFaultClear c b v) s) (fun t => t.quiet = s.quiet ∧
      (mayWriteBlock c b = true → v.getLsbD 0 = true →
        (t.core b).stackFault = false ∧ (t.core b).stack = (s.core b).stack ∧ (∀ n, n ≠ b.val → t.duty.2 n = s.duty.2 n) ∧
        (∀ n, n ≠ 5 → t.duty.1 n = s.duty.1 n) ∧
        (t.src 5).cond = [0, 1, 2, 3].any (fun i => i != b.val && (s.core i).stackFault)) ∧
      (mayWriteBlock c b = false ∨ v.getLsbD 0 = false → t = s)) ∧
    Yields (exec (.wfi c) s) (fun t => (t.core c).asleep = true ∧ (t.core c).waking = s.wakeSource c ∧
      t = s.putCore c (t.core c) ∧ (t.core c).stack = (s.core c).stack ∧ (t.core c).presented = (s.core c).presented) ∧
    Yields (exec (.coreWake c) s) (fun t =>
      ((s.core c).asleep = true → (s.core c).waking = true → (t.core c).asleep = false ∧ (t.core c).waking = false ∧
        t = s.putCore c (t.core c) ∧ (t.core c).stack = (s.core c).stack ∧ (t.core c).presented = (s.core c).presented) ∧
      ((s.core c).asleep = false ∨ (s.core c).waking = false → t = s)) ∧
    Yields (exec (.logicAccessFault c addr size kind) s) (fun t =>
      (2 ≤ c.val → s.logicMay addr size kind = false →
        t.w .logicAccessFaults 0 0 = Word.ofNat (s.n .logicAccessFaults + 1)) ∧
      t.rest = s.rest ∧ QuietPoints s t [⟨.logicAccessFaults, 0, 0⟩])

/-- Tables 6.2 and 6.3: RUN_CMD_ON takes a Stopped drive that holds no cause to Normal, or to Limp while a limp cause is set;
RUN_CMD_OFF starts Halt-style deceleration (R183) and does nothing to a Stopped drive; BLOCK_CMD_ON blocks from every regime;
BLOCK_CMD_OFF leads back to Stopped, or to Faulted where a cause stands (R187), and FAULT_RESET to Stopped. The drive has taken no
other regime in the epoch (R186). `DriveOnly`: nothing but that drive changes. -/
def Obligations.RunAndBlockCommands : Prop :=
  ∀ (d : DriveNo) (s : State), (s.drv d).turnAt ≠ some s.epoch →
    (s.ownsCmd d = true → s.runOnOk d = true → s.mode ≠ 5 → Yields (exec (.runCmdOn d) s) fun t =>
      t.n .drvRunCmd d = 1 ∧ t.regime d = (if s.n .drvLimpCause d = 0 then 1 else 2) ∧ t.n .drvHalting d = 0 ∧
      (t.drv d).refEff = s.r .drvSpeedEst d ∧
      DriveOnly s t d (⟨.drvRunCmd, d, 0⟩ :: ⟨.drvHostState, d, 0⟩ :: regimePoints d)) ∧
    (s.ownsCmd d = true → s.runOffOk d = true → Yields (exec (.runCmdOff d) s) fun t =>
      t.n .drvRunCmd d = 0 ∧ t.regime d = 0 ∧ (s.regime d = 0 → t = s.putN .drvRunCmd d 0) ∧
      (s.regime d ≠ 0 → t.n .drvHalting d = 1 ∧ (t.drv d).rampFrom = (s.drv d).tEff ∧
        (s.regime d = 4 ∨ (s.regime d ≠ 3 ∧ s.ctrlMode d ≠ 1) → (t.drv d).preset = true) ∧
        (s.regime d = 1 ∨ s.regime d = 2 → s.ctrlMode d ≠ 0 → (t.drv d).refEff = (s.drv d).refEff) ∧
        (s.regime d = 3 ∨ s.regime d = 4 ∨ s.ctrlMode d = 0 → (t.drv d).refEff = s.r .drvSpeedEst d)) ∧
      DriveOnly s t d (⟨.drvRunCmd, d, 0⟩ :: regimePoints d)) ∧
    (s.drives.contains d.val = true → Yields (exec (.blockCmdOn d) s) fun t =>
      t.n .drvBlockCmd d = 1 ∧ t.regime d = 7 ∧ DriveOnly s t d (⟨.drvBlockCmd, d, 0⟩ :: regimePoints d)) ∧
    (s.drives.contains d.val = true → s.blockOffOk d = true → Yields (exec (.blockCmdOff d) s) fun t =>
      t.n .drvBlockCmd d = 0 ∧ t.regime d = (if s.standing d = 0 then 0 else 6) ∧ t.n .drvHalting d = 0 ∧
      (s.standing d ≠ 0 → s.n .drvFaultCause d = 0 → t.n .drvFaultCause d = s.standing d) ∧
      DriveOnly s t d (⟨.drvBlockCmd, d, 0⟩ :: ⟨.drvFaultCause, d, 0⟩ :: regimePoints d)) ∧
    (s.drives.contains d.val = true → s.faultResetOk d = true → Yields (exec (.faultReset d) s) fun t =>
      t.n .drvFaultReset d = 1 ∧ t.n .drvFaultCause d = 0 ∧ t.regime d = 0 ∧ t.n .drvHalting d = 0 ∧
      DriveOnly s t d (⟨.drvFaultReset, d, 0⟩ :: ⟨.drvFaultCause, d, 0⟩ :: regimePoints d))

/-- Tables 6.2 and 6.3, R194, R216 and R217: commanded Render and Crash begin in Normal or Limp and end there again; a declared
shock keeps the drive in Render. The drive has taken no other regime in the epoch (R186). -/
def Obligations.RenderAndCrashCommands : Prop :=
  ∀ (d : DriveNo) (s : State), s.ownsCmd d = true → (s.drv d).turnAt ≠ some s.epoch →
    (s.z .drvHaulSign d ≠ 0 → s.renderOnOk d = true → Yields (exec (.renderCmdOn d) s) fun t =>
      t.n .drvRenderCmd d = 1 ∧ t.regime d = 3 ∧ (t.drv d).renderCmd = true ∧
      DriveOnly s t d (⟨.drvRenderCmd, d, 0⟩ :: regimePoints d)) ∧
    (s.renderOffOk d = true → Yields (exec (.renderCmdOff d) s) fun t =>
      let stays := (s.govOf d).shock = true
      t.n .drvRenderCmd d = 0 ∧ (t.drv d).renderCmd = false ∧
      (stays → t.regime d = 3 ∧ (t.drv d).renderShock = true) ∧
      (¬stays → t.regime d = (if s.n .drvLimpCause d = 0 then 1 else 2) ∧ (t.drv d).spdX = (s.drv d).tEff ∧
        (t.drv d).refEff = s.r .drvSpeedEst d) ∧
      DriveOnly s t d (⟨.drvRenderCmd, d, 0⟩ :: regimePoints d)) ∧
    (s.crashOnOk d = true → Yields (exec (.crashCmdOn d) s) fun t =>
      t.n .drvCrashCmd d = 1 ∧ t.regime d = 4 ∧ t.n .drvCrashPhase d = 1 ∧
      (t.drv d).crashHist = [(s.now, s.r .drvSpeedEst d)] ∧
      DriveOnly s t d (⟨.drvCrashCmd, d, 0⟩ :: regimePoints d)) ∧
    (s.crashOffOk d = true → Yields (exec (.crashCmdOff d) s) fun t =>
      t.n .drvCrashCmd d = 0 ∧ t.regime d = (if s.n .drvLimpCause d = 0 then 1 else 2) ∧ t.n .drvCrashPhase d = 0 ∧
      (t.drv d).refEff = s.r .drvSpeedEst d ∧ (t.drv d).spdX = (s.drv d).tEff ∧
      DriveOnly s t d (⟨.drvCrashCmd, d, 0⟩ :: regimePoints d))

/-- R219 to R221 and Table 6.8: ARM, RELEASE and END, the lapse of an ARM after 2 s, the lift of the brake, and the steps of the END
sequence, each under the condition the manual gives it. The drive has taken no other regime in the epoch (R186). -/
def Obligations.EmergencyRelease : Prop :=
  ∀ (d : DriveNo) (s : State), (s.drv d).turnAt ≠ some s.epoch →
    (s.ownsCmd d = true → s.armOk d = true → Yields (exec (.releaseArm d) s) fun t =>
      t.n .drvReleaseCmd d = 1 ∧ t.n .drvReleaseState d = 1 ∧ t.drv d = { s.drv d with armAt := s.clk.t0 } ∧
      DriveOnly s t d [⟨.drvReleaseCmd, d, 0⟩, ⟨.drvReleaseState, d, 0⟩]) ∧
    (s.ownsCmd d = true → s.releaseOk d = true → Yields (exec (.releaseRelease d) s) fun t =>
      t.n .drvReleaseCmd d = 2 ∧ t.n .drvReleaseState d = 2 ∧ t.regime d = 5 ∧ (t.drv d).brakeOn = true ∧
      (t.drv d).relAt = s.clk.t0 ∧ (t.drv d).rampFrom = (s.drv d).tEff ∧
      DriveOnly s t d (⟨.drvReleaseCmd, d, 0⟩ :: ⟨.drvReleaseState, d, 0⟩ :: regimePoints d)) ∧
    (s.ownsCmd d = true → s.endOk d = true → Yields (exec (.releaseEnd d) s) fun t =>
      t.n .drvReleaseCmd d = 3 ∧ t.n .drvReleaseState d = 4 ∧ (t.drv d).endStep = 1 ∧
      (t.drv d).refEff = s.r .drvSpeedEst d ∧ DriveOnly s t d [⟨.drvReleaseCmd, d, 0⟩, ⟨.drvReleaseState, d, 0⟩]) ∧
    (s.n .drvReleaseState d = 1 → (s.drv d).armAt + 2000000000 < s.now → Yields (exec (.releaseArmExpired d) s) fun t =>
      t.n .drvReleaseState d = 0 ∧ t.drv d = s.drv d ∧ DriveOnly s t d [⟨.drvReleaseState, d, 0⟩]) ∧
    (s.regime d = 5 → s.n .drvReleaseState d = 2 → (s.drv d).relAt + msNs (s.n .drvBrakeLiftMs d) ≤ s.now →
      Yields (exec (.brakeLiftElapsed d) s) fun t =>
      t.n .drvReleaseState d = 3 ∧ t.drv d = { s.drv d with rampFrom := s.lastTorque d, rampAt := s.now } ∧
      DriveOnly s t d [⟨.drvReleaseState, d, 0⟩]) ∧
    (s.regime d = 5 → Yields (exec (.releaseEndSequence d) s) fun t =>
      let k := s.drv d
      (∀ a, k.endStep = 1 → k.stopAt = some a → a + msNs (s.n .drvStopMs d) ≤ s.now →
        (t.drv d).endStep = 2 ∧ (t.drv d).brakeOn = false ∧ t.regime d = 5) ∧
      (k.endStep = 2 → k.endAt + msNs (s.n .drvBrakeLiftMs d) ≤ s.now →
        (t.drv d).endStep = 3 ∧ (t.drv d).rampFrom = s.lastTorque d ∧ t.regime d = 5) ∧
      (k.endStep = 3 → k.rampAt + msNs (s.n .drvReleaseRampMs d) ≤ s.now →
        (t.drv d).endStep = 0 ∧ (t.drv d).tEff = 0 ∧ t.regime d = 0 ∧ t.n .drvReleaseState d = 0) ∧
      DriveOnly s t d (⟨.drvReleaseState, d, 0⟩ :: regimePoints d))

/-- R41, R182 and R187: three skipped epochs in a row set the deadline-drop limp cause, eight halt the drive, sixteen fault it with
cause 11; `limp_skip_clear` computed epochs clear the limp cause. The drive has taken no other regime in the epoch (R186). -/
def Obligations.SkippedEpochs : Prop :=
  ∀ (d : DriveNo) (s : State), (s.drv d).turnAt ≠ some s.epoch →
    (3 ≤ s.n .drvSkipConsecutive d → Arith.bit (s.n .drvLimpCause d) 1 = false → Yields (exec (.skipLimp d) s) fun t =>
      t.n .drvLimpCause d = Arith.setBit (s.n .drvLimpCause d) 1 true ∧
      t.regime d = (if s.regime d = 1 then 2 else s.regime d) ∧ DriveOnly s t d (⟨.drvLimpCause, d, 0⟩ :: regimePoints d)) ∧
    (8 ≤ s.n .drvSkipConsecutive d → 1 ≤ s.regime d → s.regime d ≤ 4 → Yields (exec (.skipHalt d) s) fun t =>
      t.regime d = 0 ∧
      (s.shaftOf d = none → t.n .drvHalting d = 1 ∧
        (s.regime d = 4 ∨ (s.regime d ≠ 3 ∧ s.ctrlMode d ≠ 1) → (t.drv d).preset = true)) ∧
      (∀ g, s.shaftOf d = some g → t.n .drvHalting d = (if (s.shaftMembers g).any (fun m => m != d.val && s.inService m) then 0 else 1)) ∧
      DriveOnly s t d (regimePoints d)) ∧
    (16 ≤ s.n .drvSkipConsecutive d → s.drives.contains d.val = true → Yields (exec (.skipFault d) s) fun t =>
      Arith.bit (t.drv d).causes 11 = true ∧
      t.regime d = (if s.regime d = 7 then 7 else 6) ∧
      (s.regime d ≠ 7 → t.n .drvFaultCause d = (if s.n .drvFaultCause d = 0 then 11 else s.n .drvFaultCause d)) ∧
      DriveOnly s t d (⟨.drvFaultCause, d, 0⟩ :: regimePoints d)) ∧
    (Arith.bit (s.n .drvLimpCause d) 1 = true → s.n .drvLimpSkipClear d ≤ (s.drv d).computed →
      Yields (exec (.limpSkipClear d) s) fun t =>
      t.n .drvLimpCause d = Arith.setBit (s.n .drvLimpCause d) 1 false ∧
      t.regime d = (if s.regime d = 2 ∧ Arith.setBit (s.n .drvLimpCause d) 1 false = 0 then 1 else s.regime d) ∧
      DriveOnly s t d (⟨.drvLimpCause, d, 0⟩ :: regimePoints d))

/-- R183, R193, R195, R196 and R217: a cleared shock drops its flags, and the Render that it caused; Hold gives way to Absorb; of a
shaft group both act on the governor of the group, at the drive that heads it; a drive that has stopped ends `halting` with its
controllers at 0; a drive in Crash phase 1 whose speed no longer falls goes to phase 4. -/
def Obligations.ShockHoldStopAndWindmill : Prop :=
  ∀ (d : DriveNo) (s : State),
    (∀ a, s.shaftOf d = none → (s.drv d).turnAt ≠ some s.epoch →
        (s.drv d).shock = true → (s.drv d).clearAt = some a → a + msNs (s.n .drvShockClearMs d) ≤ s.now →
      Yields (exec (.shockCleared d) s) fun t =>
      (t.drv d).shock = false ∧ (t.drv d).clearAt = none ∧ (t.drv d).absorb = false ∧ (t.drv d).holdAt = none ∧
      (t.drv d).holdUsed = false ∧
      t.w .drvStatus d 0 = Word.ofNat ([16, 17, 18, 19, 20, 22].foldl (fun w b => Arith.setBit w b false) (s.n .drvStatus d)) ∧
      t.regime d = (if s.regime d = 3 ∧ (s.drv d).renderShock = true ∧ (s.drv d).renderCmd = false
        then (if s.n .drvLimpCause d = 0 then 1 else 2) else s.regime d) ∧
      DriveOnly s t d (⟨.drvStatus, d, 0⟩ :: regimePoints d)) ∧
    (∀ g a, s.shaftOf d = some g → s.policyDrive d = d.val →
        (s.govOf d).shock = true → (s.govOf d).clearAt = some a → a + msNs (s.n .drvShockClearMs d) ≤ s.now →
      Yields (exec (.shockCleared d) s) fun t => t.govOf d = (s.govOf d).cleared) ∧
    (∀ a, s.shaftOf d = none → (s.drv d).holdAt = some a → a + msNs (s.n .drvHoldMs d) ≤ s.now ∨
        (s.mode ≠ 4 ∧ s.r .drvICont d * s.r .drvICont d ≤ (s.drv d).theta) →
      Yields (exec (.holdExpired d) s) fun t =>
      t.drv d = { s.drv d with holdAt := none, holdUsed := true, absorb := true } ∧
      t.w .drvStatus d 0 = Word.ofNat (Arith.setBit (Arith.setBit (s.n .drvStatus d) 20 false) 19 true) ∧
      DriveOnly s t d [⟨.drvStatus, d, 0⟩]) ∧
    (∀ g a, s.shaftOf d = some g → s.policyDrive d = d.val → (s.govOf d).holdAt = some a → a + msNs (s.n .drvHoldMs d) ≤ s.now →
      Yields (exec (.holdExpired d) s) fun t =>
        t.govOf d = { s.govOf d with holdAt := none, holdUsed := true, absorb := true }) ∧
    (∀ a, (s.drv d).stopAt = some a → s.halting d = true →
        a + (if s.isLine d then 10000000 else msNs (s.n .drvStopMs d)) ≤ s.now →
      Yields (exec (.haltStopReached d) s) fun t =>
      t.n .drvHalting d = 0 ∧ t.drv d = { s.drv d with stopAt := none, tEff := 0, refEff := 0, spdX := 0 } ∧
      DriveOnly s t d [⟨.drvHalting, d, 0⟩]) ∧
    (∀ e, (s.drv d).crashHist.find? (fun e => decide (e.1 + msNs (s.n .drvCrashWindmillMs d) ≤ s.now)) = some e →
        s.regime d = 4 → s.n .drvCrashPhase d = 1 → Arith.absR e.2 - Arith.absR (s.r .drvSpeedEst d) < 1 →
      Yields (exec (.crashWindmill d) s) fun t =>
      t.n .drvCrashPhase d = 4 ∧ t.drv d = { s.drv d with crashHist := [(s.now, Arith.absR (s.r .drvSpeedEst d))] } ∧
      DriveOnly s t d [⟨.drvCrashPhase, d, 0⟩])

/-- R484 to R486: a report is counted and discarded when 256 were taken in this epoch; else it joins the first open postmark that
takes it, or opens one of its own. A code that starts a capture may bring a report of the journal with it, so the counts are stated for the other
codes. Apart from what reporting writes nothing changes. -/
def Obligations.ReportsJoinOrOpenPostmarks : Prop :=
  ∀ (code kind idx param time : Nat) (s : State), s.up = true →
    Yields (exec (.sortingReport code kind idx param time) s) fun t =>
      let r : Rep := { idx := idx, param := param % 2 ^ 32, time := time }
      t.quiet = s.quiet ∧ Raised s t code kind idx ∧
      (s.isTrigger code = false →
        (256 ≤ s.so.taken → t.so = { s.so with dropped := s.so.dropped + 1 } ∧
          t.w .soIngestDropped 0 0 = Word.ofNat (s.n .soIngestDropped + 1) ∧ t.w .soReports 0 0 = s.w .soReports 0 0) ∧
        (s.so.taken < 256 → ∀ o, joinPostmark code kind r s.so.opened = some o →
          t.so = { s.so with taken := s.so.taken + 1, opened := o } ∧
          t.w .soReports 0 0 = Word.ofNat (s.n .soReports + 1)) ∧
        (s.so.taken < 256 → joinPostmark code kind r s.so.opened = none → s.so.opened.length < 64 →
          t.so.taken = s.so.taken + 1 ∧ t.so.opened.length = s.so.opened.length + 1 ∧ t.so.seq = s.so.seq ∧
          (∀ p ∈ s.so.opened, p ∈ t.so.opened) ∧
          (∃ p ∈ t.so.opened, p.code = code ∧ p.kind = kind ∧ p.t1 = time ∧ p.first = r ∧ p.last = r ∧ p.count = 1 ∧
            p.w = 1000 * s.n .soWindowUs ∧ p.idxs = [idx]) ∧
          t.w .soReports 0 0 = Word.ofNat (s.n .soReports + 1)))

/-- R486, R487 and R347: POSTMARK_CLOSE closes exactly the open postmarks whose windows have ended, each with the next sequence
number; EVENT_RECORD_DRAIN writes waiting records in their order while their ring has room; SO_RING_OVERFLOW reports the records
that a ring lost and counts anew. -/
def Obligations.PostmarksCloseAndRecordsDrain : Prop :=
  ∀ s : State,
    (∀ time, s.up = true → Yields (exec (.postmarkClose time) s) fun t =>
      let due := s.so.opened.filter (fun p => decide (s.closeTime p ≤ time))
      t.quiet = (s.withClk { s.clk with now := max s.clk.now time }).quiet ∧
      t.so.opened = s.so.opened.filter (fun p => !decide (s.closeTime p ≤ time)) ∧
      t.so.seq = s.so.seq + due.length ∧ (due ≠ [] → t.n64 .soSeq = (s.so.seq + due.length) % 2 ^ 64)) ∧
    Yields (exec .eventRecordDrain s) (fun t =>
      t.quiet = s.quiet ∧ t.so.opened = s.so.opened ∧
      (∃ k, t.so.q0 = s.so.q0.drop k) ∧ (∃ k, t.so.q1 = s.so.q1.drop k) ∧
      (s.so.q0.length ≤ 1024 → t.so.q0 = [] ∨ (t.ring 16).live = false ∨ (t.ring 16).room = 0) ∧
      (s.so.q1.length ≤ 1024 → t.so.q1 = [] ∨ (t.ring 48).live = false ∨ (t.ring 48).room = 0)) ∧
    (∀ a : Agent, let lost := if agentNo a = 0 then s.so.lost0 else s.so.lost1
      let q := if agentNo a = 0 then s.so.q0 else s.so.q1
      lost ≠ 0 → q.length < 1024 → Yields (exec (.soRingOverflow a) s) fun t =>
        t.quiet = s.quiet ∧ Raised s t 0x0C61 kRing 16 ∧
        (s.so.opened.length < 63 → (if agentNo a = 0 then t.so.lost0 else t.so.lost1) = 0))

/-- R389 and R390: a trigger extends the capture that still records, or takes the lowest free one from the checkpoint that its
pre-window reaches; with four captures held it is refused and reported. R391: a capture whose post-window is recorded is complete,
and the commands that wait for it are too. -/
def Obligations.CapturesOpenExtendAndFreeze : Prop :=
  ∀ s : State,
    (∀ time, s.up = true → Yields (exec (.journalTrigger time) s) fun t =>
      let last := s.epochAt time + epochsOfMs s.te (s.n .jrnPostMs)
      let rec' := s.jrn.caps.find? (fun e => e.2.recording)
      t.quiet = s.quiet ∧
      (∀ i c, rec' = some (i, c) → t.capture i = { c with post := max c.post last } ∧
        t.w .jcapTriggers i 0 = Word.ofNat (s.n .jcapTriggers i + 1)) ∧
      (rec' = none → ∀ i, [0, 1, 2, 3].find? (fun i => !(s.capture i).held) = some i →
        (t.capture i).held = true ∧ (t.capture i).recording = true ∧ (t.capture i).post = last ∧
        (t.capture i).first = (captureStart s.jrn.live (s.epochAt time - epochsOfMs s.te (s.n .jrnPreMs))).1 ∧
        t.n .jcapTriggers i = 1 ∧ ∀ j, j ≠ i → t.capture j = s.capture j) ∧
      (rec' = none → [0, 1, 2, 3].find? (fun i => !(s.capture i).held) = none →
        Raised s t 0x0B03 kDevice 0 ∧ ∀ j, t.capture j = s.capture j)) ∧
    (∀ i : Fin 4, (s.capture i).held = true → (s.capture i).recording = true → (s.capture i).post ≤ (s.capture i).last →
      s.isTrigger 0x0B01 = false → Yields (exec (.journalFrozen i) s) fun t =>
        t.capture i = { s.capture i with recording := false } ∧ Raised s t 0x0B01 kDevice 0 ∧
        t.shown = s.shown ∧ t.rest = (s.withHost t.host).rest ∧
        t.host.fins = s.host.fins.map (fun f => if f.wait == .capture i
          then { f with status := 0, item := noItem, value := 0, wait := .ready } else f))

/-- R392, R393 and R387: an export block carries whole records in their order; the last one ends the export, and its command; lost
records leave a gap that the next record tells, and leave the captures too. -/
def Obligations.ExportsAndLosses : Prop :=
  ∀ s : State,
    (∀ x xs, s.jrn.exports = x :: xs → (s.ring 20).live = true → 0 < (s.ring 20).room → x.recs ≠ [] →
        fitBlock ((s.ring 20).entryBytes - 64) x.recs ≠ [] → Yields (exec .journalExportBlock s) fun t =>
      let blk := fitBlock ((s.ring 20).entryBytes - 64) x.recs
      t.jrn = { s.jrn with exports := { x with recs := x.recs.drop blk.length, first := false } :: xs } ∧
      (t.ring 20).seq = (s.ring 20).seq + 1 ∧ (∀ k, k ≠ 20 → t.ring k = s.ring k) ∧ t.host.fins = s.host.fins ∧
      t.pts = s.pts ∧ t.irq = s.irq ∧ t.so = s.so ∧
      (∃ first last flags, Out.exportBlock ((s.ring 20).seq + 1) first last flags blk ∈ t.out)) ∧
    (∀ x xs, s.jrn.exports = x :: xs → x.recs = [] → s.isTrigger 0x0B06 = false → Yields (exec .journalExportDone s) fun t =>
      t.jrn = { s.jrn with exports := xs } ∧ t.shown = s.shown ∧ Raised s t 0x0B06 kDevice 0 ∧
      t.host.fins = s.host.fins.map (fun f => if f.wait == .exported && f.cmd == x.cmd
        then { f with status := 0, item := noItem, value := 0, wait := .ready } else f)) ∧
    (∀ lost : List Nat, s.up = true → Yields (exec (.journalLost lost) s) fun t =>
      t.jrn.live = s.jrn.live.filter (fun m => !(m.kind == 1 && lost.contains m.epoch)) ∧
      (s.isTrigger 0x0B04 = false → ∀ i, (t.capture i).recs =
        (s.capture i).recs.filter (fun m => !(m.kind == 1 && lost.contains m.epoch))) ∧
      t.jrn.ckptDue = true ∧ t.jrn.gap = true ∧ Raised s t 0x0B04 kDevice 0 ∧
      t.w .jrnLost 0 0 = Word.ofNat (s.n .jrnLost + lost.length) ∧
      t.rest = (s.withJrn { s.jrn with live := t.jrn.live, ckptDue := true, gap := true }).rest ∧ QuietPoints s t [⟨.jrnLost, 0, 0⟩])

/-- R333, R337 and Table 11.5: a write of `CFG` with `ENABLE` 1 starts a stopped ring with both indices at slot 0 when every check
holds, and stops it with the code of the first check that fails; `ENABLE` 0 stops it and clears the fault; a doorbell gives a live
ring the agent's index, or stops it with code 3. Every other ring stays, but for the event rings when an event is reported. -/
def Obligations.RingsStartStopAndFault : Prop :=
  ∀ (a : Agent) (n : Fin 21) (v : Word) (s : State),
    let key := ringKey (agentNo a) n
    let r := (s.ring key).configure n v.toNat
    ringExists (agentNo a) n = true → s.dev.powered = true →
    ((s.ring key).enable = false → Yields (exec (.ringEnable a n v) s) fun t =>
      (s.ringCheck (agentNo a) n r = 0 →
        t.ring key = { r with enable := true, fault := false, code := 0, idx := 0, peer := 0, unsig := 0, unsigAt := 0, seq := 0,
                              reserved := 0, waiting := none } ∧
        Out.mirror key 0 (s.epoch % 2 ^ 32) ∈ t.out ∧ t.pts = s.pts ∧ t.irq = s.irq ∧ ∀ k, k ≠ key → t.ring k = s.ring k) ∧
      (s.ringCheck (agentNo a) n r ≠ 0 →
        (t.ring key).enable = false ∧ (t.ring key).fault = true ∧ (t.ring key).code = s.ringCheck (agentNo a) n r ∧
        t.w .devHifRingFaults 0 0 = Word.ofNat (s.n .devHifRingFaults + 1) ∧ Raised s t 0x0A04 kRing (ringNo key) ∧
        (∀ k, k ≠ key → recordRing k = false → t.ring k = s.ring k) ∧ t.env = s.env ∧
        QuietPoints s t [⟨.devHifRingFaults, 0, 0⟩])) ∧
    Yields (exec (.ringDisable a n) s) (fun t =>
      t.ring key = { s.ring key with enable := false, fault := false, code := 0, waiting := none } ∧
      (∀ k, k ≠ key → t.ring k = s.ring k) ∧ t.pts = s.pts ∧ t.irq = s.irq ∧
      t.rest = ((s.withHost t.host).withEnv t.env).rest) ∧
    ((s.ring key).live = true → agentNo a = 1 → Yields (exec (.doorbell a n v) s) fun t =>
      (∀ x, s.doorbellIdx 1 n v.toNat = some x → t = s.putRing key { s.ring key with peer := x }) ∧
      (s.doorbellIdx 1 n v.toNat = none →
        (t.ring key).enable = false ∧ (t.ring key).fault = true ∧ (t.ring key).code = 3 ∧
        t.w .devHifRingFaults 0 0 = Word.ofNat (s.n .devHifRingFaults + 1) ∧
        (∀ k, k ≠ key → recordRing k = false → t.ring k = s.ring k) ∧ QuietPoints s t [⟨.devHifRingFaults, 0, 0⟩])) ∧
    (∀ x, agentNo a = 0 → s.endpointUp = true → (s.letterbox.ring n).live = true → s.letterbox.doorbellIdx 0 n v.toNat = some x →
      Yields (exec (.doorbell a n v) s) fun t => t = s.letterbox.putRing n { s.letterbox.ring n with peer := x })

/-- R335, R351 and R352: a write of `HIF_REQ` ends an open session and negotiates anew: major 1 is accepted with the lesser minor
and the next session number, another is refused. A reset of the host interface or of the function ends the session, and so does the
loss of the link, which also loses the host; a link that trains shows its rate and width. -/
def Obligations.SessionsBeginAndEnd : Prop :=
  ∀ s : State, s.endpointUp = true →
    (∀ v : Word, Yields (exec (.hifReqWrite v) s) fun t =>
      let minor := v.toNat % 256
      let major := v.toNat / 256 % 256
      t.host.reqMinor = minor ∧ t.host.reqMajor = major ∧ (s.host.negState = 1 → SessionEnded s t) ∧
      (major = 1 → t.host.negState = 1 ∧ t.host.negMajor = 1 ∧ t.host.negMinor = min minor 2 ∧
        t.host.session = (s.host.session + 1) % 2 ^ 32 ∧ t.n .devHifSession = (s.host.session + 1) % 2 ^ 32 ∧
        t.n .devHifVersion = 256 + min minor 2 ∧ (s.host.negState ≠ 1 → Raised s t 0x0A01 kDevice 0)) ∧
      (major ≠ 1 → t.host.negState = 2 ∧ t.host.session = s.host.session ∧ t.n .devHifVersion = 0 ∧
        (s.host.negState ≠ 1 → Raised s t 0x0A02 kDevice 0))) ∧
    Yields (exec .hostInterfaceReset s) (fun t =>
      t.host.negState = 0 ∧ t.host.session = s.host.session ∧ t.n .devHifVersion = 0 ∧ t.dev = s.dev ∧
      (s.host.negState = 1 → SessionEnded s t) ∧ (s.host.negState ≠ 1 → t.host.rings = s.host.rings ∧ t.host.fins = s.host.fins) ∧
      QuietFields s t [.devHifVersion, .devHifSession, .devHifWdtMs, .devHifWdtState, .devHifCplDiscarded, .devHifPrCount,
        .devHifPrPeak]) ∧
    Yields (exec .functionLevelReset s) (fun t =>
      t.host.negState = 0 ∧ t.host.session = s.host.session ∧ t.n .devHifVersion = 0 ∧ t.dev = s.dev ∧
      (s.host.negState = 1 → SessionEnded s t) ∧ (s.host.negState ≠ 1 → t.host.rings = s.host.rings ∧ t.host.fins = s.host.fins) ∧
      QuietFields s t [.devHifVersion, .devHifSession, .devHifWdtMs, .devHifWdtState, .devHifCplDiscarded, .devHifPrCount,
        .devHifPrPeak]) ∧
    Yields (exec .linkDown s) (fun t =>
      t.host.linkGen = 0 ∧ t.host.linkWidth = 0 ∧ t.host.negState = 0 ∧ (s.host.negState = 1 → SessionEnded s t) ∧
      (s.up = true → t.dev.hostLost = true ∧ (s.dev.hostLost = false → t.dev.hostLostEpoch = s.epoch)) ∧
      t.dev = { s.dev with hostLost := t.dev.hostLost, hostLostEpoch := t.dev.hostLostEpoch }) ∧
    (∀ (gen : Fin 4) (width : Fin 5), s.dev.perst = true → gen ≠ 0 → width = 1 ∨ width = 2 ∨ width = 4 →
      Yields (exec (.pcieLinkUp gen width) s) fun t =>
        t.host = { s.host with linkGen := gen, linkWidth := width } ∧ t.w .envBPBudgetBytes 0 0 = Word.ofNat (t.pBudget 0) ∧
        t = ((s.withHost t.host).put .envBPBudgetBytes 0 (t.w .envBPBudgetBytes 0 0)))

/-- R350 (the host watchdog: a period is set, switched off outside the running modes only, and expires once, which loses the
host) and R337, R325 and R317 (a write to the letterbox page restarts it, returns a lost host and wakes a module in Dormant
whose mask allows the doorbell). -/
def Obligations.HostWatchdogAndLetterbox : Prop :=
  ∀ s : State, s.endpointUp = true →
    (∀ v : Word, Yields (exec (.wdtCtrlWrite v) s) fun t =>
      let ms := v.toNat % 1024
      (1000 < ms → t = s) ∧
      (ms = 0 → modeRuns s.mode = true → t = s.withHost { s.host with offRefused := true }) ∧
      (ms = 0 → modeRuns s.mode = false → t.host = { s.host with wdtMs := 0 } ∧ t.n .devHifWdtMs = 0 ∧ t.n .devHifWdtState = 0) ∧
      (1 ≤ ms → ms ≤ 1000 → t.host = { s.host with wdtMs := ms, wdtAt := s.now, wdtExpired := false } ∧ t.n .devHifWdtMs = ms) ∧
      t.rest = (s.withHost t.host).rest ∧
      SamePoints s t [⟨.devHifVersion, 0, 0⟩, ⟨.devHifSession, 0, 0⟩, ⟨.devHifWdtMs, 0, 0⟩, ⟨.devHifWdtState, 0, 0⟩]) ∧
    (s.up = true → s.host.wdtMs ≠ 0 → s.host.wdtExpired = false → s.host.wdtAt + msNs s.host.wdtMs ≤ s.now →
      Yields (exec .hostWdtExpiry s) fun t =>
        t.host.wdtExpired = true ∧ t.host.expiries = min (s.host.expiries + 1) 65535 ∧ t.n .devHifWdtState = 2 ∧
        t.dev = (if s.dev.hostLost then s.dev else { s.dev with hostLost := true, hostLostEpoch := s.epoch }) ∧
        (s.dev.hostLost = false → Raised s t 0x0A40 kDevice 0 ∧ (t.src 9).pend = true) ∧
        t.rest = ((s.withHost t.host).withDev t.dev).rest) ∧
    (∀ (n : Fin 21) (v : Word), Yields (exec (.doorbell .host n v) s) fun t =>
      t.host.wdtAt = s.now ∧ t.host.wdtExpired = false ∧ (s.up = true → t.dev.hostLost = false)) ∧
    Yields (exec .heartbeat s) (fun t =>
      t.host.wdtAt = s.now ∧ t.host.wdtExpired = false ∧ (s.host.wdtMs ≠ 0 → t.n .devHifWdtState = 1) ∧
      (s.up = true → t.dev.hostLost = false) ∧
      (s.up = true → s.dev.hostLost = true → (s.mode ≠ 0 ∨ Arith.bit (s.n .devWakeMask) 4 = false) →
        Raised s t 0x0A41 kDevice 0 ∧ t.mode = s.mode) ∧
      (s.up = true → s.mode = 0 → Arith.bit (s.n .devWakeMask) 4 = true → s.dev.dormantCauses = 0 →
        t.mode = 1 ∧ t.n .devWakeCause = 16) ∧
      (s.up = true → s.mode = 0 → Arith.bit (s.n .devWakeMask) 4 = true → s.dev.dormantCauses ≠ 0 →
        t.mode = 6 ∧ t.n .devWakeCause = 128 ∧ t.dev.dormantCauses = 0))

/-- R331 and R349 (an unmasked vector sends what it withheld; the longest delay of a ring's moderation signals it) and R329, R330
and R462 (writes of registers: each reaches its field, a locked one is ignored while its ring is enabled). -/
def Obligations.InterruptsAndRegisterWrites : Prop :=
  ∀ s : State,
    (∀ v : Fin 64, s.endpointUp = true → Yields (exec (.msixUnmask v) s) fun t =>
      let e := Tab.get (0, 0, true) s.host.msixTab v
      Tab.get (0, 0, true) t.host.msixTab v = (e.1, e.2.1, false) ∧
      (∀ b, b ≠ v.val → Tab.get (0, 0, true) t.host.msixTab b = Tab.get (0, 0, true) s.host.msixTab b) ∧
      (Arith.bit s.host.msixPend v = true → t.out = Out.msix v :: s.out ∧ t.host.msixPend = Arith.setBit s.host.msixPend v false) ∧
      (Arith.bit s.host.msixPend v = false → t.out = s.out ∧ t.host.msixPend = s.host.msixPend) ∧
      t.host.rings = s.host.rings ∧ t.pts = s.pts ∧ t.irq = s.irq ∧ t.rest = (s.withHost t.host).rest) ∧
    (∀ (a : Agent) (n : Fin 21), let k := ringKey (agentNo a) n
      let r := s.ring k
      r.live = true → r.irqEn = true → 0 < r.unsig → r.modUsec ≠ 0 → r.unsigAt + 1000 * r.modUsec ≤ s.now →
      Yields (exec (.moderationTimeout a n) s) fun t =>
        t.ring k = { r with unsig := 0 } ∧ (∀ b, b ≠ k → t.ring b = s.ring b) ∧
        (k < 32 → t.pts = s.pts ∧ t.irq = s.irq ∧ (s.msixOpen r.vector = true → t.out = Out.msix r.vector :: s.out) ∧
          (s.msixOpen r.vector = false → Arith.bit t.host.msixPend r.vector = true ∧ t.out = s.out)) ∧
        (32 ≤ k → irqValid (224 + ringNo k) = true → (t.src (224 + ringNo k)).pend = true)) ∧
    (∀ v : Word, s.endpointUp = true →
      Yields (exec (.registerWrite .bar0 0x110 v) s) (fun t => t = s.withHost { s.host with prDrop := v.getLsbD 0 }) ∧
      (∀ c, c < 5 → Yields (exec (.registerWrite .bar0 (0x200 + 4 * c) v) s) fun t =>
        Tab.get (0, false) t.host.msixMap c = (v.toNat % 64, v.getLsbD 31) ∧
        (∀ b, b ≠ c → Tab.get (0, false) t.host.msixMap b = Tab.get (0, false) s.host.msixMap b) ∧
        t = s.withHost { s.host with msixMap := t.host.msixMap }) ∧
      (∀ n, n < 21 → Yields (exec (.registerWrite .bar0 (0x1000 + 64 * n) v) s) fun t =>
        ((s.ring n).enable = true → t = s) ∧
        ((s.ring n).enable = false → t = s.putRing n (t.ring n) ∧ t.ring n =
          { s.ring n with base := (s.ring n).base / 2 ^ 32 * 2 ^ 32 + v.toNat / 64 * 64 })) ∧
      (∀ n, n < 21 → Yields (exec (.registerWrite .bar0 (0x101C + 64 * n) v) s) fun t =>
        t = s.putRing n (t.ring n) ∧ (t.ring n).modUsec = v.toNat / 65536 ∧
        (v.toNat % 65536 ≠ 0 → (t.ring n).modCount = v.toNat % 65536)) ∧
      (∀ off, off % 4 ≠ 0 → Yields (exec (.registerWrite .bar0 off v) s) fun t => t = s)) ∧
    (∀ (c : CoreNo) (id : Nat) (v : Word), s.dev.powered = true → id < 1024 →
      Yields (exec (.registerWrite (.irq c) (4 * id) v) s) fun t =>
        t.quiet = s.quiet ∧ (s.irqMayWrite c id = true → (t.src id).prio = v.toNat % 32) ∧ (s.irqMayWrite c id = false → t = s))

/-- Table 10.2, R298, R299, R307, R309, R314, R319 and R397: a mode command that the table lists enters its mode, with the tokens
of that mode, unless a Halt is commanded for the same epoch (R300); `mode_cmd` 0 only asks for Dormant; one that the table does not admit changes nothing. -/
def Obligations.ModeCommandsEnterTheirModes : Prop :=
  ∀ s : State,
    let enters := fun (c : Instr) (m : Nat) => Yields (exec c s) fun t =>
      t.mode = m ∧ t.n .devModePrev = s.mode ∧ t.n .devModeCmd = m ∧ t.dev.tokenOn = modeRuns m ∧ t.jrn.modeChanged = true ∧
      t.plant = s.plant ∧ t.rnds = s.rnds
    (s.dev.modeTaken = false → s.mode = 2 ∨ s.mode = 6 → enters .modeCmdConfigure 1) ∧
    (s.dev.modeTaken = false → s.mode = 7 → (∀ p i, s.rep.saved = some (p, i) → ∀ e ∈ p ++ i.held, e.1.f ≠ .devMode) →
      Yields (exec .modeCmdConfigure s) fun t => t.mode = 1 ∧ t.rep = Replay.idle ∧ t.n .devModeCmd = 1 ∧ t.n .devModePrev = 7) ∧
    (s.dev.modeTaken = false → s.mode = 1 ∧ s.readyOk = true ∨ s.mode = 3 ∧ s.allAtRest = true ∧ s.dev.haltCmd = false → enters .modeCmdReady 2) ∧
    (s.dev.modeTaken = false → s.mode = 6 → s.readyOk = true → Yields (exec .modeCmdReady s) fun t =>
      t.mode = 2 ∧ t.n .devModeCmd = 2 ∧ Arith.bit (t.n .devSafeCause) 2 = false) ∧
    (s.dev.modeTaken = false → s.mode = 2 ∧ s.dev.stoA = true ∧ s.dev.stoB = true ∧ s.n .devSafeCause = 0 ∨
        s.mode = 4 ∧ s.dev.haltCmd = false ∨ s.mode = 5 →
      enters .modeCmdRun 3 ∧ Yields (exec .modeCmdRun s) fun t =>
        s.mode = 2 → ∀ d ∈ s.drives, s.regime d = 7 → s.n .drvBlockCmd d = 0 → (s.drv d).turnAt ≠ some s.epoch →
          t.regime d = (if s.standing d = 0 then 0 else 6)) ∧
    (∀ reason, s.dev.modeTaken = false → s.dev.haltCmd = false → s.mode = 3 → s.n .devOverrideEnable = 1 → 0 < reason → reason < 2 ^ 32 →
      enters (.modeCmdOverride reason) 4 ∧ Yields (exec (.modeCmdOverride reason) s) fun t =>
        t.n .devOverrideReason = reason ∧ t.w .devOverrideCount 0 0 = Word.ofNat (s.n .devOverrideCount + 1) ∧
        t.dev.overrideAt = s.clk.t0) ∧
    (s.dev.modeTaken = false → s.mode = 3 ∨ s.mode = 4 → enters .modeCmdHalt 5 ∧ Yields (exec .modeCmdHalt s) fun t =>
      t.dev.haltEpoch = s.epoch ∧
      (s.mode = 3 → ∀ d ∈ s.drives, 1 ≤ s.regime d → s.regime d ≤ 4 → t.regime d = 0 ∧ t.halting d = true)) ∧
    (s.dev.modeTaken = false → s.mode = 1 ∨ s.mode = 2 → s.n .devWakeMask % 128 ≠ 0 → Yields (exec .modeCmdDormant s) fun t =>
      t.dev = { s.dev with sleepReq := true } ∧ t.mode = s.mode ∧ t.n .devWakeRace = 0 ∧ t.n .devModeCmd = 0 ∧
      SamePoints s t [⟨.devModeCmd, 0, 0⟩, ⟨.devWakeRace, 0, 0⟩]) ∧
    (s.dev.modeTaken = false → s.mode = 1 → s.dev.pdActive = true → s.jrn.exports = [] → enters .modeCmdReplay 7 ∧
      Yields (exec .modeCmdReplay s) fun t => t.rep.phase = 1 ∧ t.rep.queue = [] ∧ t.n .repEpochs = 0) ∧
    (∀ e ∈ [(Instr.modeCmdConfigure, 1, 0), (.modeCmdReady, 2, 0), (.modeCmdRun, 3, 0), (.modeCmdOverride 9, 4, 9),
        (.modeCmdHalt, 5, 0), (.modeCmdDormant, 0, 0), (.modeCmdReplay, 7, 0)],
      s.modeJudge e.2.1 e.2.2 ≠ 0 → Yields (exec e.1 s) fun t => t = s)

/-- R311, R57, R320 and R482: each cause of Table 10.4 that arises in Configure, Ready, Run, Override or Halt enters Safe with its
bit, stops the tokens and, where they flowed, blocks every drive; a high STO input clears its cause; source 1 has its condition. -/
def Obligations.SafeCausesEnterSafe : Prop :=
  ∀ s : State, s.up = true → 1 ≤ s.mode → s.mode ≤ 5 →
    (∀ a b : Bool, Yields (exec (.stoChange a b) s) fun t =>
      t.dev.stoA = a ∧ t.dev.stoB = b ∧
      (s.dev.stoA = true → a = false → SafeBy s t 1) ∧ (s.dev.stoB = true → b = false → SafeBy s t 2) ∧
      (a = true → Arith.bit (t.n .devSafeCause) 0 = false) ∧ (b = true → Arith.bit (t.n .devSafeCause) 1 = false) ∧
      (s.dev.stoA ≠ a ∨ s.dev.stoB ≠ b → (t.src 1).cond = true) ∧
      (s.dev.stoA = false → s.dev.stoB = false → t.mode = s.mode)) ∧
    (s.n .pairRole ≠ 2 →
      (∀ a, s.dev.stoDiffAt = some a → a + msNs (s.n .devStoDiscrepancyMs) < s.now → Arith.bit (s.n .devSafeCause) 2 = false →
        Yields (exec .stoDiscrepancy s) fun t => SafeBy s t 3) ∧
      Yields (exec .d1TickLost s) (fun t => SafeBy s t 4) ∧
      Yields (exec (.memoryError false) s) (fun t => SafeBy s t 8) ∧
      (s.hw.vLow = 3 → Yields (exec .holdupExhausted s) fun t => SafeBy s t 7) ∧
      (∀ n : Fin 8, Arith.bit s.hw.rails n = false → Yields (exec (.railFault n) s) fun t =>
        SafeBy s t 7 ∧ t.hw = { s.hw with rails := Arith.setBit s.hw.rails n true }) ∧
      (∀ a, s.dev.supUp = true → s.dev.supWdtAt = some a → s.now ≤ a + 10000000000 →
        Yields (exec .supWdt s) fun t => SafeBy s t 9 ∧ t.dev.supUp = false))

/-- R309 (Halt ends in Ready when every drive is at rest, or when its time has passed; either way every drive is Blocked and no token
is sent) and R317 to R319 (sleep unless a wake source fired; a wake leads to Configure, or to Safe where a Safe cause took part, and
every round links up again). -/
def Obligations.HaltSleepAndWake : Prop :=
  ∀ s : State,
    (s.mode = 5 → s.allAtRest = true → Yields (exec .haltComplete s) fun t =>
      t.mode = 2 ∧ t.dev.tokenOn = false ∧ (∀ d ∈ s.drives, t.regime d = 7) ∧ t.n .devModePrev = 5 ∧ t.n .devModeCmd = s.n .devModeCmd) ∧
    (s.mode = 5 → s.allAtRest = false → msNs (s.n .devHaltTimeoutMs) ≤ (s.epoch - s.dev.haltEpoch) * s.te →
      Yields (exec .haltTimeout s) fun t => t.mode = 2 ∧ t.dev.tokenOn = false ∧ ∀ d ∈ s.drives, t.regime d = 7) ∧
    (∀ fired, s.dev.sleepReq = true → s.mode = 1 ∨ s.mode = 2 → Yields (exec (.sleepEffective fired) s) fun t =>
      t.dev.sleepReq = false ∧
      (s.wakeBits fired ≠ 0 → t.mode = s.mode ∧ t.n .devWakeRace = 1 ∧ Raised s t 0x0C41 kDevice 0 ∧
        QuietPoints s t [⟨.devWakeRace, 0, 0⟩]) ∧
      (s.wakeBits fired = 0 → t.mode = 0 ∧ t.dev.tokenOn = false)) ∧
    (∀ fired, s.wakeDue fired = true → Yields (exec (.wake fired) s) fun t =>
      t.dev.wokeAt = s.now ∧ (∀ r ∈ s.plant.rounds, (t.rnd r).step = 1 ∧ t.n .rndLate r = 0) ∧
      (s.dev.dormantCauses = 0 → Arith.bit (s.wakeBits fired) 7 = false →
        t.mode = 1 ∧ t.w .devWakeCause 0 0 = Word.ofNat (2 ^ lowBit (s.wakeBits fired))) ∧
      (s.dev.dormantCauses ≠ 0 ∨ Arith.bit (s.wakeBits fired) 7 = true →
        t.mode = 6 ∧ t.n .devWakeCause = 128 ∧ t.dev.dormantCauses = 0)) ∧
    (∀ c : CanNo, s.mode = 0 → s.up = true → Arith.bit (s.n .devWakeMask) c = true → s.dev.dormantCauses = 0 →
      Yields (exec (.canWakePattern c) s) fun t => t.mode = 1 ∧ t.n .devWakeCause = 2 ^ c.val ∧ t.dev.wokeAt = s.now)

/-- R321, R322, R456 and R457: the watchdogs of Supervisor and of plant logic reset their cores; a first expiry of Supervisor's asks
for Halt at the next boundary in Run or Override; each runs again with its restart command; a heartbeat restarts the period. -/
def Obligations.WatchdogsOfTheCores : Prop :=
  ∀ s : State, s.up = true →
    (s.dev.supUp = true → Yields (exec .supWdt s) fun t =>
      t.dev.supUp = false ∧ (∀ c, c < 2 → (t.core c).stack = [] ∧ (t.core c).claimed = 0 ∧ (t.core c).asleep = false) ∧
      (s.dev.supWdtAt = none → t.dev.supWdtAt = some s.now ∧
        (s.isPrincipal = false → s.mode = 3 ∨ s.mode = 4 → t.dev.haltDue = true ∧ t.mode = s.mode))) ∧
    (s.dev.supUp = false → Yields (exec .supervisorRestarted s) fun t =>
      t.dev = { s.dev with supUp := true } ∧ ∀ c ∈ t.host.pr, c ∈ s.host.pr ∧ s.e0 ≤ c.epoch) ∧
    (s.dev.logicUp = true → s.n .devLogicWdtMs ≠ 0 → s.dev.logicBeat + msNs (s.n .devLogicWdtMs) ≤ s.now →
      Yields (exec .logicWdt s) fun t =>
        t.dev = { s.dev with logicUp := false } ∧ (∀ n, n < 20 → (t.ring (32 + n)).enable = false) ∧
        (∀ c, c = 2 ∨ c = 3 → (t.core c).stack = [] ∧ (t.core c).claimed = 0 ∧ (t.core c).asleep = false) ∧
        QuietPoints s t []) ∧
    (s.dev.logicUp = false → Yields (exec .logicRestarted s) fun t =>
      t.dev = { s.dev with logicUp := true, logicBeat := s.now } ∧
      t.w .logicRestarts 0 0 = Word.ofNat (s.n .logicRestarts + 1) ∧
      (∀ d ∈ s.drives, s.logicRuns d = true → s.n .drvHostState d = 1 → t.n .drvHostState d = 0 ∧ (t.drv d).holdHost = none) ∧
      QuietFields s t [.logicRestarts, .drvHostState]) ∧
    (s.dev.logicUp = true → Yields (exec .logicHeartbeat s) fun t => t = s.withDev { s.dev with logicBeat := s.now })

/-- R324 and R325: a drive that held through the loss of its agent decelerates when `host_hold_ms` has passed, its group with it; a
reclaim gives the CAN backup path's drive back to the host with its integrator preset. The drive has taken no other regime in the
epoch (R186). -/
def Obligations.HoldAndReclaim : Prop :=
  ∀ (d : DriveNo) (s : State), (s.drv d).turnAt ≠ some s.epoch →
    (s.holdLapsed d = true → s.shaftOf d = none → Yields (exec (.hostHoldExpired d) s) fun t =>
      t.n .drvHostState d = 2 ∧ (t.drv d).holdHost = none ∧ (s.regime d = 0 → Raised s t 0x0A43 kDrive d) ∧
      (1 ≤ s.regime d → s.regime d ≤ 4 → t.regime d = 0 ∧ t.halting d = true) ∧
      DriveOnly s t d (⟨.drvHostState, d, 0⟩ :: regimePoints d)) ∧
    (∀ g, s.holdLapsed d = true → s.shaftOf d = some g → Yields (exec (.hostHoldExpired d) s) fun t =>
      ∀ m ∈ s.shaftMembers g, s.n .drvHostState m = 1 → t.n .drvHostState m = 2) ∧
    (s.drives.contains d.val = true → s.reclaimOk d = true → Yields (exec (.hostReclaim d) s) fun t =>
      t.n .drvHostReclaim d = 1 ∧ t.n .drvHostState d = 0 ∧ t.drv d = { s.drv d with preset := true } ∧
      DriveOnly s t d [⟨.drvHostReclaim, d, 0⟩, ⟨.drvHostState, d, 0⟩])

/-- R437, R441 and R445: a periodic send at a multiple of its period takes the data of the last commit, an on-demand send the present
data, a franking master its next message; each is queued or, where the controller may not send, refused. R438: an abort ends the
object's episodes and withdraws a frame that is not on the bus. -/
def Obligations.CanSendsFallDue : Prop :=
  ∀ (c : CanNo) (o : ObjNo) (s : State), let i := objIx c o
    (s.objSends c o = true → s.n .objPeriodMs i ≠ 0 → s.clk.t0 % msNs (s.n .objPeriodMs i) = 0 → s.mode ≠ 0 →
      Yields (exec (.canPeriodicSend c o) s) fun t =>
        SendDue s t c o (objBytes s.led c o (s.n .objLen i)) ∧ CanOnly s t c canSendFields) ∧
    (s.objSends c o = true → s.n .objPeriodMs i = 0 → Yields (exec (.canTxCmdSend c o) s) fun t =>
      t.n .objTxCmd i = 1 ∧ SendDue s t c o (objBytes s.pts c o (s.n .objLen i)) ∧ CanOnly s t c canSendFields) ∧
    (s.unitOn 4 c = true → s.n .canFrankMode c = 1 → s.n .pairRole ≠ 2 → s.mode ≠ 0 →
        s.clk.t0 % msNs (s.n .canFrankPeriodMs c) = 0 → Yields (exec (.frankingMessageSend c) s) fun t =>
      (t.can c).frankNext = ((s.can c).frankNext + 1) % 256 ∧
      SendDue s t c (s.n .canFrankObj c)
        (frankBytes (s.can c).frankNext (settingOf s.te) (s.can c).frankPrev) ∧ CanOnly s t c canSendFields) ∧
    Yields (exec (.canTxCmdAbort c o) s) (fun t =>
      t.n .objTxCmd i = 2 ∧ Arith.bit (t.n .objStatus i) 3 = false ∧ Arith.bit (t.n .objStatus i) 4 = false ∧
      (∀ f, (s.can c).pend.find? (fun f => f.obj == o.val) = some f →
        (f.onBus = false → t.can c = { s.can c with pend := (s.can c).pend.filter (fun h => h.obj != o.val) } ∧
          Arith.bit (t.n .objStatus i) 1 = false) ∧
        (f.onBus = true → o.val ∈ (t.can c).aborts ∧ ∀ h ∈ (t.can c).pend, h.obj = o.val → h.next = none)) ∧
      ((s.can c).pend.find? (fun f => f.obj == o.val) = none → t.cans = s.cans) ∧ CanOnly s t c [.objStatus, .objTxCmd])

/-- R438, R439, R442 and R443: a frame that was sent counts and leaves its object; a lost arbitration keeps it for the next idle
bus; an error counts, adds 8 to the transmit error counter (as ISO 11898-1 has it, log entry 40), and at 256 takes the
controller off the bus with all that was pending. -/
def Obligations.CanAttemptsEnd : Prop :=
  ∀ (c : CanNo) (o : ObjNo) (sof time : Nat) (f : TxFrame) (s : State), let i := objIx c o
    (s.can c).pend.find? (fun f => f.obj == o.val && f.onBus) = some f →
    Yields (exec (.canTxAttemptEnd c o .success sof time) s) (fun t =>
      t.w .canTxFrames c 0 = Word.ofNat (s.n .canTxFrames c + 1) ∧ t.w .objCount i 0 = Word.ofNat (s.n .objCount i + 1) ∧
      t.n64 .objTime i = time % 2 ^ 64 ∧ t.n .canTec c = s.n .canTec c - 1 ∧ Out.canFrame c (s.objFrame c f) time ∈ t.out ∧
      t.clk = { s.clk with now := max s.clk.now time } ∧
      (f.next = none → ∀ h ∈ (t.can c).pend, h.obj ≠ o) ∧
      (∀ b, f.next = some b → s.n .canTec c < 256 → (s.can c).modeDue = none → ∃ h ∈ (t.can c).pend, h.obj = o ∧ h.data = b ∧ h.next = none) ∧
      CanOnly s t c [.canTxFrames, .objCount, .objTime, .canTec, .objStatus, .canFrankSeq, .canState, .canTxDiscarded, .canBusOffs]) ∧
    Yields (exec (.canTxAttemptEnd c o .arbitrationLost sof time) s) (fun t =>
      (t.can c).busy = true ∧ t.n .canTec c = s.n .canTec c ∧
      (o.val ∈ (s.can c).aborts → ∀ h ∈ (t.can c).pend, h.obj ≠ o) ∧
      (o.val ∉ (s.can c).aborts → (t.can c).pend.length = (s.can c).pend.length ∧ ∀ h ∈ (t.can c).pend, h.obj = o → h.onBus = false) ∧
      CanOnly s t c [.objStatus]) ∧
    (∀ res ∈ [TxResult.bitError true, .bitError false, .ackError], Yields (exec (.canTxAttemptEnd c o res sof time) s) fun t =>
      t.w .canErrors c 0 = Word.ofNat (s.n .canErrors c + 1) ∧
      (res = .ackError → s.n .canState c = 2 → t.n .canTec c = s.n .canTec c) ∧
      (res ≠ .ackError ∨ s.n .canState c ≠ 2 → t.w .canTec c 0 = Word.ofNat (s.n .canTec c + 8)) ∧
      (res ≠ .ackError → s.n .canState c = 1 ∨ s.n .canState c = 2 → 248 ≤ s.n .canTec c → s.n .canTec c < 2 ^ 31 →
        t.n .canState c = 3 ∧ (t.can c).pend = [] ∧ t.w .canBusOffs c 0 = Word.ofNat (s.n .canBusOffs c + 1)) ∧
      CanOnly s t c [.canErrors, .canTec, .objStatus, .canState, .canTxDiscarded, .canBusOffs])

/-- R440 and R441: a mode comes into force when the bus is idle, on a counterfoil as listen-only, and leaving normal mode discards what
is pending; a completed recovery leaves the counters at 0 and the state of the mode. -/
def Obligations.CanModesAndRecovery : Prop :=
  ∀ (c : CanNo) (s : State),
    (∀ v : Fin 3, Yields (exec (.canModeWrite c v) s) fun t =>
      let wanted := if s.n .pairRole = 2 then 2 else v.val
      let idle := (s.can c).busy = false ∧ (s.can c).pend.all (fun f => !f.onBus) = true
      t.n .canMode c = v ∧
      (idle → (t.can c).mode = wanted ∧ (t.can c).modeDue = none ∧
        ((s.can c).mode = 1 → wanted ≠ 1 → (t.can c).pend = []) ∧
        (s.n .canState c ≠ 3 → s.n .canState c ≠ 4 → wanted ≠ 1 → t.n .canState c = (if wanted = 0 then 0 else 5))) ∧
      (¬idle → t.can c = { s.can c with modeDue := some wanted } ∧ t.n .canState c = s.n .canState c) ∧
      CanOnly s t c [.canMode, .canState, .canTxDiscarded, .objStatus]) ∧
    (s.n .canState c = 4 → Yields (exec (.canRecovered c) s) fun t =>
      t.n .canTec c = 0 ∧ t.n .canRec c = 0 ∧ Raised s t 0x0604 kCan c ∧
      ((s.can c).modeDue = none → t.n .canState c = (if (s.can c).mode = 0 then 0 else if (s.can c).mode = 1 then 1 else 5)) ∧
      (∀ g ∈ t.host.fins, g.wait ≠ .canUp c) ∧
      CanOnly s t c [.canTec, .canRec, .canState, .canTxDiscarded, .objStatus])

/-- R435, R436, R439 and R446: a frame that is heard is counted, by its kind; a data frame goes to the lowest object that accepts it and
waits for the cut-off, or counts as unmatched; a master that hears a franking message reports it; an error counts, and in normal
mode raises the receive error counter; an object without a frame for its time-out is stale, and so are the drives that it commands. -/
def Obligations.CanReception : Prop :=
  ∀ (c : CanNo) (s : State), s.unitOn 4 c = true →
    (∀ (fr : CanFrame) (sof time : Nat), s.canHears c sof = true → Yields (exec (.canFrameReceived c fr sof time) s) fun t =>
      (fr.remote = true → t.w .canRxRemote c 0 = Word.ofNat (s.n .canRxRemote c + 1) ∧ (t.can c).rx = (s.can c).rx) ∧
      (fr.remote = false → t.w .canRxFrames c 0 = Word.ofNat (s.n .canRxFrames c + 1) ∧
        (∀ o, s.rxObject c fr = some o → (t.can c).rx = (s.can c).rx ++ [⟨o, fr, time⟩]) ∧
        (s.rxObject c fr = none → (t.can c).rx = (s.can c).rx ∧ t.w .canRxUnmatched c 0 = Word.ofNat (s.n .canRxUnmatched c + 1)) ∧
        (s.isFrank c fr = true → s.n .canFrankMode c = 1 → s.n .canRec c ≤ 127 → Raised s t 0x060A kCan c)) ∧
      (t.can c).busy = false ∧ (∀ e, e ≠ c.val → t.can e = s.can e)) ∧
    (∀ dom, s.canHears c s.now = true → Yields (exec (.canRxError c dom) s) fun t =>
      t.w .canErrors c 0 = Word.ofNat (s.n .canErrors c + 1) ∧ (t.can c).busy = false ∧ (t.can c).rx = (s.can c).rx ∧
      ((s.can c).mode = 1 → t.w .canRec c 0 = Word.ofNat (s.n .canRec c + (if dom then 8 else 1))) ∧
      ((s.can c).mode ≠ 1 → t.w .canRec c 0 = s.w .canRec c 0) ∧
      CanOnly s t c [.canErrors, .canRec, .canState, .canTxDiscarded, .canBusOffs, .objStatus]) ∧
    (∀ o : ObjNo, let i := objIx c o
      s.n .objDir i = 2 → s.n .objRxTimeoutMs i ≠ 0 → Arith.bit (s.n .objStatus i) 0 = false →
      Tab.get 0 (s.can c).rxAt o + msNs (s.n .objRxTimeoutMs i) ≤ s.now → Yields (exec (.canRxTimeout c o) s) fun t =>
        Arith.bit (t.n .objStatus i) 0 = true ∧ (t.src (144 + c)).pend = true ∧ t.cans = s.cans ∧
        (s.mapDrives c o = [] → Raised s t 0x0605 kCan c) ∧
        (∀ d ∈ s.mapDrives c o, s.n .drvHostState d = 3 → t.n .drvHostState d = 2) ∧
        (∀ d, d ∉ s.mapDrives c o → t.n .drvHostState d = s.n .drvHostState d) ∧
        QuietFields s t [.objStatus, .drvHostState, .drvRegime, .drvHalting, .drvCrashPhase])

/-- R228, R229 and R244: an edge to a neighbouring state counts by its direction and weight; one that breaks R229 does not change the
count and is an error; either way the pass-through outputs that name the channel repeat its levels. An edge of the epoch's own samples
publishes nothing; one that the filter accepted late belongs to the sample of the last boundary, which is published again (R230). -/
def Obligations.FeedbackEdgesCount : Prop :=
  ∀ (n : FbNo) (time : Nat) (lines : Fin 8) (s : State), let x := s.fb n
    let kind := s.n .fbKind n
    s.fbOn n = true → kind = 1 ∨ kind = 3 ∨ kind = 4 → changedLines kind x.lines lines ≠ [] →
    Yields (exec (.fbEdge n time lines) s) fun t =>
      (t.fb n).lines = lines ∧ t.clk = { s.clk with now := max s.clk.now time } ∧
      (∀ k, k < 4 → Tab.get 0 t.ptOut k = (if s.n .ptSrc k = n then lines.val else Tab.get 0 s.ptOut k)) ∧
      (∀ dir, s.fbBadEdge n time lines = false → fbStep kind x.lines lines = some dir →
        (t.fb n).count = x.count + (if s.n .fbInvert n = 1 then -dir else dir) * fbWeight kind ∧
        (t.fb n).frac = crossFrac kind x.flags dir (s.n .fbInvert n == 1) ∧
        (t.fb n).lastAt = time ∧ (t.fb n).lastNeg = decide ((if s.n .fbInvert n = 1 then -dir else dir) < 0) ∧
        t.w .fbErrors n 0 = s.w .fbErrors n 0) ∧
      (s.fbBadEdge n time lines = true →
        (t.fb n).count = x.count ∧ Arith.bit (t.fb n).flags 3 = true ∧ t.w .fbErrors n 0 = Word.ofNat (s.n .fbErrors n + 1)) ∧
      (∀ m, m ≠ n.val → t.fb m = s.fb m) ∧
      (s.clk.t0 < time ∨ s.clk.phase ≠ 0 →
        QuietFields s t [.fbErrors, .fbState, .fbFaultCause, .fbIndexMisses, .cmpFiredTime, .cmpFiredCount, .cmpFlags, .cmpState,
          .cmpValue]) ∧
      QuietFields s t [.fbErrors, .fbState, .fbFaultCause, .fbIndexMisses, .cmpFiredTime, .cmpFiredCount, .cmpFlags, .cmpState,
        .cmpValue, .fbPos, .fbEdgeTime, .fbStatus, .fbSpeedCps]

/-- R236, R240 to R242 and Table 7.3: standstill, a wire break, a clear and a qualified index of a feedback channel. -/
def Obligations.FeedbackFaultsAndIndex : Prop :=
  ∀ (n : FbNo) (s : State), let x := s.fb n
    (s.fbOn n = true → x.still = false → x.lastAt + msNs (s.n .fbStandstillMs n) ≤ s.now → Yields (exec (.fbStandstill n) s) fun t =>
      t.pts = s.pts ∧ t.rest = (s.withFbs t.fbs).rest ∧ (∀ m, m ≠ n.val → t.fb m = s.fb m) ∧ (t.fb n).still = true ∧ (t.fb n).edges = [] ∧ (t.fb n).revs = [] ∧ (t.fb n).count = x.count ∧
      Arith.bit (t.fb n).flags 0 = true ∧ Arith.bit (t.fb n).flags 1 = false ∧ Arith.bit (t.fb n).flags 2 = false) ∧
    (s.fbOn n = true → 1 ≤ s.n .fbKind n → s.n .fbKind n ≤ 3 → Yields (exec (.fbWireBreak n) s) fun t =>
      t.fbs = (s.putFb n { x with lowV := true }).fbs ∧
      (s.n .fbState n = 1 → t.n .fbState n = 2 ∧ t.n .fbFaultCause n = 2 ∧ Raised s t 0x0402 kFb n ∧ (t.src (128 + n)).pend = true) ∧
      (s.n .fbState n ≠ 1 → t.pts = s.pts) ∧ QuietPoints s t [⟨.fbState, n, 0⟩, ⟨.fbFaultCause, n, 0⟩]) ∧
    (s.fbClearOk n = true → Yields (exec (.fbClearCmd n) s) fun t =>
      t.n .fbClearCmd n = 1 ∧ t.n .fbState n = 1 ∧ t.n .fbFaultCause n = 0 ∧ t.n .fbIndexMisses n = 0 ∧
      (t.fb n).still = true ∧ (t.fb n).bad = [] ∧ (t.fb n).missN = 0 ∧ (t.fb n).badN = 0 ∧ (t.fb n).count = x.count ∧
      Raised s t 0x0406 kFb n ∧ (t.src (128 + n)).pend = true ∧ (∀ m, m ≠ n.val → t.fb m = s.fb m) ∧
      QuietPoints s t [⟨.fbClearCmd, n, 0⟩, ⟨.fbState, n, 0⟩, ⟨.fbFaultCause, n, 0⟩, ⟨.fbIndexMisses, n, 0⟩]) ∧
    (∀ time, s.fbOn n = true → s.n .fbKind n = 1 ∨ s.n .fbKind n = 4 → s.n .fbZGate n = 0 ∨ x.lines % 4 = 3 →
      Yields (exec (.indexPulse n time) s) fun t =>
        let off := fun (p : Int) => (((x.count - p) / fbWeight (s.n .fbKind n)).natAbs : Int) - s.idxEdges n
        t.n64 .fbIndexPos n = (BitVec.ofInt 64 x.pos).toNat ∧ t.w .fbIndexCount n 0 = Word.ofNat (s.n .fbIndexCount n + 1) ∧
        (t.fb n).idxAt = some x.count ∧ (t.fb n).idxRev = false ∧ Arith.bit (t.fb n).flags 4 = true ∧ (t.fb n).count = x.count ∧
        (x.idxAt = none ∨ x.idxRev = true → t.w .fbIndexMisses n 0 = s.w .fbIndexMisses n 0) ∧
        (∀ p, x.idxAt = some p → x.idxRev = false → (off p).natAbs ≤ s.n .fbIndexTol n → t.n .fbIndexMisses n = 0) ∧
        (∀ p, x.idxAt = some p → x.idxRev = false → s.n .fbIndexTol n < (off p).natAbs →
          t.w .fbIndexMisses n 0 = Word.ofNat (s.n .fbIndexMisses n + 1) ∧
          (s.n .fbState n = 1 → 2 ≤ s.n .fbIndexMisses n → s.n .fbIndexMisses n < 2 ^ 31 →
            t.n .fbState n = 2 ∧ t.n .fbFaultCause n = 1)) ∧
        (∀ m, m ≠ n.val → t.fb m = s.fb m) ∧
        QuietFields s t [.fbIndexPos, .fbIndexCount, .fbIndexMisses, .fbState, .fbFaultCause])

/-- R232 to R234: an SSI frame is taken once in an epoch, before the cut-off; a valid one moves the count by its signed difference
from the last valid one (which of the two differences at half the range is free, log entry 31), the first valid one sets it; an invalid
one counts as bad and is reported. Either way the sample is published. -/
def Obligations.SsiFramesGiveTheSample : Prop :=
  ∀ (n : FbNo) (bits : Nat) (s : State), let x := s.fb n
    let f := s.ssiField n bits
    let r := s.ssiDiff n (x.ssiLast.getD 0) f
    let sg : Int := if s.n .fbInvert n = 1 then -1 else 1
    s.fbOn n = true → s.n .fbKind n = 2 → x.ssiGot = false → s.clk.phase = 0 → Yields (exec (.ssiFrame n bits true) s) fun t =>
      (t.fb n).ssiGot = true ∧ t.n64 .fbPos n = (BitVec.ofInt 64 (t.fb n).pos).toNat ∧
      (s.ssiInvalid n bits r.1 x.ssiLast.isNone = false →
        (t.fb n).ssiLast = some f ∧ (t.fb n).badN = 0 ∧ (t.fb n).ssiBad = false ∧
        (t.fb n).count = (if x.ssiLast.isNone then sg * f else x.ssiPos + sg * r.1) ∧ (t.fb n).ssiPos = (t.fb n).count) ∧
      (s.ssiInvalid n bits r.1 x.ssiLast.isNone = true →
        (t.fb n).ssiLast = x.ssiLast ∧ (t.fb n).ssiPos = x.ssiPos ∧ (t.fb n).badN = x.badN + 1 ∧ (t.fb n).ssiBad = true ∧ Raised s t 0x0404 kFb n) ∧
      (∀ m, m ≠ n.val → t.fb m = s.fb m) ∧
      QuietFields s t [.fbPos, .fbEdgeTime, .fbStatus, .fbSpeedCps, .cmpFiredTime, .cmpFiredCount, .cmpFlags, .cmpState, .cmpValue]

/-- R244, R247 and R248: a new compare value arms an enabled unit, or, when it lies behind the position, is flagged and fires at once
under policy 1; a pulse ends at its time; a pass-through output takes a new source. -/
def Obligations.CompareUnitsAndPassThrough : Prop :=
  ∀ s : State,
    (∀ (u : CmpNo) (v : BitVec 64), let behind := s.cmpBehind u v.toInt
      Yields (exec (.cmpValueLoad u v) s) fun t =>
        (behind = false → t.n64 .cmpValue u = v.toNat ∧ t.n .cmpFlags u = 0 ∧
          t.n .cmpState u = (if s.n .cmpEnable u = 0 then s.n .cmpState u else 1)) ∧
        (behind = true → s.n .cmpEnable u = 0 → t.n64 .cmpValue u = v.toNat ∧ t.n .cmpFlags u = 1 ∧ Raised s t 0x0409 kCmp u ∧
          t.n .cmpState u = s.n .cmpState u) ∧
        (behind = true → s.n .cmpEnable u ≠ 0 → s.n .cmpPolicy u ≠ 1 → t.n64 .cmpValue u = v.toNat ∧ t.n .cmpFlags u = 1 ∧
          Raised s t 0x0409 kCmp u ∧ t.n .cmpState u = 1 ∧ t.tokens = s.tokens) ∧
        (behind = true → s.n .cmpEnable u ≠ 0 → s.n .cmpPolicy u = 1 → s.z .cmpStep u = 0 →
          t.w .cmpFiredCount u 0 = Word.ofNat (s.n .cmpFiredCount u + 1) ∧ t.n64 .cmpFiredTime u = s.now % 2 ^ 64 ∧
          t.n .cmpState u = 2 ∧ t.n .cmpFlags u = 0 ∧ (t.src (33 + u)).pend = true ∧
          (s.n .cmpToken u ≤ 31 → Arith.bit t.tokens (s.n .cmpToken u) = true) ∧
          (t.cmp u).pulse = (if s.n .cmpDoPin u ≤ 7 then some (s.now + s.n .cmpPulseNs u) else none)) ∧
        (∀ m, m ≠ u.val → t.cmp m = s.cmp m) ∧
        QuietFields s t [.cmpValue, .cmpFlags, .cmpState, .cmpFiredTime, .cmpFiredCount]) ∧
    (∀ (u : CmpNo) (e : Nat), (s.cmp u).pulse = some e → e ≤ s.now → Yields (exec (.comparePulseEnd u) s) fun t =>
      t = s.putCmp u { s.cmp u with pulse := none } ∧ (t.cmp u).pulse = none) ∧
    (∀ (k : PtNo) (v : Word), v.toNat ≤ 15 ∨ v.toNat = 255 → Yields (exec (.ptSrcChange k v) s) fun t =>
      t.w .ptSrc k 0 = v ∧ t.ptOut = s.ptOut ∧ t.rest = s.rest ∧ SamePoints s t [⟨.ptSrc, k, 0⟩])

/-- R256, R257, R260 to R264 and Table 8.2: an accepted engine command: GO takes type, target and limits into use and waits or moves,
STOP decelerates, RESUME moves on, ABORT ends, HOME searches or fails when the source does not suit the mode. -/
def Obligations.ProfileCommands : Prop :=
  ∀ (e : EngineNo) (s : State),
    let only := fun (t : State) => t.rest = (s.withEngs t.engs).rest ∧ (∀ f, f ≠ e.val → t.eng f = s.eng f) ∧
      QuietFields s t [.prfCmd, .prfItinCount, .prfOrigin, .prfRemaining, .prfState, .prfStatus, .prfSuspendCause]
    let st := s.n .prfState e
    (s.engCmdStatus e 1 = 0 → Yields (exec (.profileGo e) s) fun t =>
      let waits := s.n .prfStartToken e ≤ 31 ∨ s.n64 .prfStartTime e ≠ 0
      t.n .prfCmd e = 1 ∧ t.n .prfState e = (if st = 0 ∧ waits then 1 else 2) ∧ (t.eng e).ty = s.n .prfType e ∧
      (t.eng e).tgt = (s.z64 .prfTargetPos e : Rat) ∧ (t.eng e).vMax = s.r .prfVMax e ∧ (t.eng e).aMax = s.r .prfAMax e ∧
      (t.eng e).dMax = s.r .prfDMax e ∧ (t.eng e).jMax = s.r .prfJMax e ∧ (t.eng e).s0 = (s.eng e).s0 ∧ only t) ∧
    (st = 1 ∨ st = 2 ∨ st = 5 → Yields (exec (.profileStop e) s) fun t =>
      t.n .prfCmd e = 2 ∧ (st = 1 → t.n .prfState e = 0 ∧ t.engs = s.engs) ∧
      (st ≠ 1 → t.n .prfState e = 3 ∧ (t.eng e).aborted = decide (st = 5) ∧ (t.eng e).s0 = (s.eng e).s0) ∧ only t) ∧
    (st = 4 → s.cannotFollow e = 0 → Yields (exec (.profileResume e) s) fun t =>
      t.n .prfCmd e = 3 ∧ t.n .prfState e = 2 ∧ t.n .prfSuspendCause e = 0 ∧ t.n64 .prfRemaining e = 0 ∧
      (t.eng e).tracks = false ∧ (t.eng e).tgt = (s.eng e).tgt ∧ only t) ∧
    (1 ≤ st → st ≤ 5 → Yields (exec (.profileAbort e) s) fun t =>
      t.n .prfCmd e = 4 ∧ t.n .prfState e = (if st = 1 ∨ st = 4 then 0 else 3) ∧
      (st = 2 ∨ st = 3 ∨ st = 5 → (t.eng e).aborted = true) ∧ (st ≠ 1 → t.n64 .prfRemaining e = 0) ∧ only t) ∧
    (st = 0 ∨ st = 4 → Yields (exec (.profileHome e) s) fun t =>
      t.n .prfCmd e = 5 ∧ (t.eng e).homeFrom = s.engSrc e ∧ (t.eng e).homeOrg = s.z64 .prfOrigin e ∧
      (s.homeUnfit e = false → t.n .prfState e = 5 ∧ (t.eng e).stage = 1) ∧
      (s.homeUnfit e = true → t.n .prfState e = 3 ∧ (t.eng e).failed = 3 ∧ Arith.bit (t.n .prfStatus e) 1 = false ∧
        Raised s t 0x0523 kEngine e ∧ (t.src (65 + e)).pend = true) ∧ only t) ∧
    (∀ k : Fin 32, Yields (exec (.issueToken e k) s) fun t =>
      t.n .prfIssueToken e = k ∧ t.tokens = Arith.setBit s.tokens k true ∧ t.rest = (s.withTokens t.tokens).rest ∧
      SamePoints s t [⟨.prfIssueToken, e, 0⟩])

/-- R282, R283, R286 to R290 and Table 9.2: a half-bridge that faults goes to high impedance with its cause; the fault settles as a try
or latches; a bridge restarts after its retry time; precharge ends in Ready or in cause 4; both gate commands at once are counted. -/
def Obligations.AuxiliaryBridges : Prop :=
  ∀ s : State,
    (∀ (b : AuxNo) (high : Bool), s.auxLive b = true →
      Yields (exec (.auxDesat b high) s) (fun t => BridgeFaulted s t b (if high then 1 else 2)) ∧
      Yields (exec (.auxShunt b) s) (fun t => BridgeFaulted s t b 3)) ∧
    (∀ b : AuxNo, s.brState b = 2 → Yields (exec (.bootUv b) s) fun t => BridgeFaulted s t b 4) ∧
    (∀ b : AuxUnit, (s.br b).pending = true → (s.br b).faultAt + 10000 ≤ s.now → Yields (exec (.auxFaultSettled b) s) fun t =>
      (t.br b).pending = false ∧
      (s.brTries b < s.n .auxRetryMax (auxCfg b) → t.brTries b = s.brTries b + 1 ∧ t.brState b = s.brState b ∧
        Raised s t 0x0504 kAux (auxCfg b)) ∧
      (s.n .auxRetryMax (auxCfg b) ≤ s.brTries b → t.brState b = 4 ∧ (t.br b).retry = false ∧ Raised s t 0x0505 kAux (auxCfg b))) ∧
    (∀ b : AuxUnit, s.brState b = 3 → s.retryDue b = true → Yields (exec (.auxRetryElapsed b) s) fun t =>
      t.brState b = (if b.val = 12 then 2 else if (s.br b).holds = 0 then 1 else 5) ∧
      t.br b = { s.br b with retry := false, fault := 0, pending := false, preAt := s.now, readyAt := s.now }) ∧
    (∀ b : AuxUnit, s.brState b = 2 → (s.br b).readyAt + 1000000000 * s.n .auxRetryResetS (auxCfg b) ≤ s.now →
      Yields (exec (.auxTriesReset b) s) fun t => t.brTries b = 0 ∧ t = s.putTries b 0) ∧
    (∀ (b : AuxNo) (mv : Nat), s.brState b = 1 → (s.br b).preAt + 1000 * s.n .auxBootPrechargeUs b ≤ s.now →
      Yields (exec (.auxPrechargeDone b mv) s) fun t =>
        t.w .auxBootV b 0 = (entry .auxBootV).ty.enc ((mv : Rat) / 1000) ∧
        (9500 ≤ mv → t.n .auxState b = 2 ∧ t.br b = { s.br b with readyAt := s.now }) ∧
        (mv < 9500 → BridgeFaulted s t b 4)) ∧
    (∀ b : AuxNo, Yields (exec (.auxInterlock b) s) fun t =>
      t.w .auxInterlockHits b 0 = Word.ofNat (s.n .auxInterlockHits b + 1) ∧
      ((s.br b).interAt.all (fun a => decide (a + 1000000000 ≤ s.now)) = true →
        t.br b = { s.br b with interAt := some s.now } ∧ Raised s t 0x0508 kAux b) ∧
      ((s.br b).interAt.all (fun a => decide (a + 1000000000 ≤ s.now)) = false → t.brs = s.brs) ∧
      QuietPoints s t [⟨.auxInterlockHits, b, 0⟩])

/-- R291 to R293: a clear restarts a faulted bridge with no tries (after a short every bridge of the axis), and the chopper; the VAUX
limits and the gate supply hold every configured bridge that is not latched; the chopper follows VAUX with its hysteresis, each
level for 2 µs at least, and a fault of it turns it off. -/
def Obligations.ClearsVauxAndChopper : Prop :=
  ∀ s : State,
    (∀ b : AuxNo, s.brState b ≠ 5 → Yields (exec (.auxClearCmd b) s) fun t =>
      t.n .auxClearCmd b = 1 ∧
      (s.brState b ≠ 3 → s.brState b ≠ 4 → t = s.putN .auxClearCmd b 1) ∧
      (s.brState b = 3 ∨ s.brState b = 4 ∧ (s.br b).fault ≠ 5 →
        t.n .auxState b = (if (s.br b).holds = 0 then 1 else 5) ∧ t.n .auxTries b = 0 ∧ (t.br b).fault = 0 ∧ Raised s t 0x0507 kAux b ∧
        ∀ m, m ≠ b.val → t.br m = s.br m) ∧
      (∀ a, s.brState b = 4 → (s.br b).fault = 5 → s.axisOf b = some a → ∀ c ∈ s.bridgesOf a,
        (t.br c).fault = 0 ∧ t.brTries c = 0)) ∧
    (s.brState 12 ≠ 5 → Yields (exec .chopClearCmd s) fun t =>
      t.n .vauxChopClearCmd = 1 ∧ (s.brState 12 = 3 ∨ s.brState 12 = 4 → t.n .vauxChopState = 2 ∧ t.n .vauxChopTries = 0) ∧
      ∀ m, m ≠ 12 → t.br m = s.br m) ∧
    (s.brState 12 = 2 → Yields (exec .chopFault s) fun t =>
      t.n .vauxChopState = 3 ∧ (t.br 12).fault = 1 ∧ (t.br 12).pending = true ∧ t.vaux = (if s.vaux.on then s.vaux.switched false s.now else s.vaux) ∧
      (t.src 125).pend = true ∧ Raised s t 0x050C kAux 0 ∧ QuietPoints s t [⟨.vauxChopState, 0, 0⟩]) ∧
    (∀ mv, Yields (exec (.chopSwitch mv) s) fun t =>
      let v : Rat := (mv : Rat) / 1000
      let want := if s.vaux.on then decide (s.r .vauxChopOnV - s.r .vauxChopHystV < v) else decide (s.r .vauxChopOnV ≤ v)
      t.w .vauxVauxV 0 0 = (entry .vauxVauxV).ty.enc v ∧
      (s.brState 12 = 2 → s.vaux.at' + 2000 ≤ s.now → t.vaux.on = want ∧ (want ≠ s.vaux.on → t.vaux.at' = s.now)) ∧
      (s.brState 12 ≠ 2 ∨ s.now < s.vaux.at' + 2000 → t.vaux = s.vaux) ∧
      t.rest = (s.withVaux t.vaux).rest ∧ SamePoints s t [⟨.vauxVauxV, 0, 0⟩]) ∧
    (∀ mv gate, Yields (exec (.vauxLimit mv gate) s) fun t =>
      let v : Rat := (mv : Rat) / 1000
      let hy := s.r .vauxVauxHystV
      let uv := if Arith.bit s.vaux.holds 7 then decide (v < s.r .vauxVauxUvV + hy) else decide (v < s.r .vauxVauxUvV)
      t.w .vauxVauxV 0 0 = (entry .vauxVauxV).ty.enc v ∧ Arith.bit t.vaux.holds 7 = uv ∧ Arith.bit t.vaux.holds 9 = !gate ∧
      (uv = true → Arith.bit s.vaux.holds 7 = false → ∀ b ∈ s.bridges, t.n .auxState b = 4 ∨ t.n .auxState b = 5) ∧
      QuietFields s t [.vauxVauxV, .auxState, .auxCause, .vauxChopState])

/-- R268, R270 and R273: a step input moves the goal of its axis by one step of its resolution, an input that is too short or too close
is reported; a stepper reduces its hold current; a load goes over to its hold current. -/
def Obligations.AuxiliaryAxes : Prop :=
  ∀ (a : AuxNo) (s : State), let x := s.ax a
    (∀ time width neg, s.n .axisKind a = 1 → s.n .axisSource a = 2 → Yields (exec (.extStepPulse a time width neg) s) fun t =>
      let u := time / 1000 * 1000
      let close := (∃ b, x.stepAt = some b ∧ u < b + 20000) ∨ width < 5000
      (¬close → (t.ax a).stepAt = some u ∧ (t.ax a).stepNeg = neg ∧
        (t.ax a).extGoal = x.extGoal + (if neg then -1 else 1) * (256 / (s.n .axisExtRes a : Rat)) ∧ t.pts = s.pts ∧
        (∀ m, m ≠ a.val → t.ax m = s.ax m) ∧ t.rest = (s.withAxes t.axes).rest) ∧
      (close → t.quiet = s.quiet ∧ Raised s t 0x0532 kAxis a)) ∧
    (s.n .axisKind a = 1 → x.reduced = none → x.movedAt + msNs (s.n .axisHoldDelayMs a) ≤ s.now → Arith.bit (s.n .axisStatus a) 2 = false →
      Yields (exec (.stepperHoldReduce a) s) fun t =>
        t.ax a = { x with reduced := some s.now } ∧ Arith.bit (t.n .axisStatus a) 1 = true ∧ (∀ m, m ≠ a.val → t.ax m = s.ax m) ∧
        t.rest = (s.withAxes t.axes).rest ∧ SamePoints s t [⟨.axisStatus, a, 0⟩]) ∧
    (∀ b, x.pullAt = some b → s.n .axisKind a = 3 → s.n .axisHmode a = 2 → b + msNs (s.n .axisPullinMs a) ≤ s.now →
      Yields (exec (.pullInElapsed a) s) fun t => t.ax a = { x with pulled := true } ∧ t = s.putAx a { x with pulled := true })

/-- R502, R507, R508, R518, R539 and R540: discrete outputs, encoder supplies, current inputs and one-time-programmable memory;
R481 and R482: the control supply and the rails. -/
def Obligations.ModuleInputsAndOutputs : Prop :=
  ∀ s : State,
    (∀ (n : Fin 8) (v : Fin 2), s.cmpOwns n = false → Yields (exec (.doWrite n v) s) fun t =>
      t.n .hwDo n = v ∧ t = s.putN .hwDo n v) ∧
    (∀ n : Fin 8, s.doDrives n = true → Yields (exec (.doOverload n) s) fun t =>
      t.doTripped n = true ∧ Tab.get none t.hw.doOff n = some s.now ∧ Arith.bit (t.n .hwDoOverload) n = true ∧
      (Arith.bit (s.n .hwDoOverload) n = false → Raised s t 0x0811 kDevice 0) ∧ QuietPoints s t [⟨.hwDoOverload, 0, 0⟩]) ∧
    (∀ (n : Fin 8) (a : Nat), Tab.get none s.hw.doOff n = some a → a + 100000000 ≤ s.now → Yields (exec (.doOverloadRetry n) s) fun t =>
      t.doTripped n = false ∧ Tab.get 0 t.hw.doTry n = s.now ∧ t.pts = s.pts ∧ t.rest = (s.withHw t.hw).rest) ∧
    (∀ (g : Fin 4) (v : Fin 3), Yields (exec (.encPwrModeWrite g v) s) fun t =>
      t.n .encPwrMode g = v ∧ t.n .encPwrState g = (if v = 0 then 0 else 1) ∧ t.rest = s.rest ∧
      SamePoints s t [⟨.encPwrMode, g, 0⟩, ⟨.encPwrState, g, 0⟩]) ∧
    (∀ g : Fin 4, s.n .encPwrState g = 1 → Yields (exec (.encPwrFault g) s) fun t =>
      t.n .encPwrState g = 2 ∧ Raised s t 0x0812 kDevice 0 ∧ t.rest = s.rest ∧ QuietPoints s t [⟨.encPwrState, g, 0⟩]) ∧
    (∀ n : Fin 8, s.n .ainMode n = 1 → Tab.get none s.hw.burden n = none → Yields (exec (.ainBurdenOpen n) s) fun t =>
      Tab.get none t.hw.burden n = some s.now ∧ Raised s t 0x0813 kSensor (32 + n) ∧ t.shown = s.shown ∧
      (∀ m, m ≠ n.val → Tab.get none t.hw.burden m = Tab.get none s.hw.burden m)) ∧
    (∀ (n : Fin 8) (a : Nat), Tab.get none s.hw.burden n = some a → a + 1000000000 ≤ s.now → Yields (exec (.ainBurdenReclose n) s) fun t =>
      Tab.get none t.hw.burden n = none ∧ t.pts = s.pts ∧ t = s.withHw { s.hw with burden := t.hw.burden }) ∧
    (s.mode = 1 →
      (∀ (n : Fin 4) (h : List Byte), Arith.bit (s.n .hwFwKeySlots) n = false → Yields (exec (.otpFuse (.keySlot n h)) s) fun t =>
        Arith.bit (t.n .hwFwKeySlots) n = true ∧ Tab.get [] t.hw.keys n = h ∧
        (∀ m, m ≠ n.val → Tab.get [] t.hw.keys m = Tab.get [] s.hw.keys m) ∧ SamePoints s t [⟨.hwFwKeySlots, 0, 0⟩]) ∧
      (∀ (n : Fin 4) (h : List Byte), Arith.bit (s.n .hwFwKeySlots) n = true → Yields (exec (.otpFuse (.keySlot n h)) s) fun t => t = s) ∧
      (∀ n : Fin 4, Yields (exec (.otpFuse (.revoke n)) s) fun t =>
        Arith.bit (t.n .hwFwKeySlots) (n + 4) = true ∧ t.hw = s.hw ∧ SamePoints s t [⟨.hwFwKeySlots, 0, 0⟩]) ∧
      (s.keysValid ≠ 0 → Yields (exec (.otpFuse .signedBit) s) fun t => t = s.putN .hwPdRequireSigned 0 1)) ∧
    (s.mode ≠ 1 → ∀ i, Yields (exec (.otpFuse i) s) fun t => t = s) ∧
    (s.up = true → ∀ (b : Bool) (mv : Nat), Yields (exec (.vctlChange b mv) s) fun t =>
      let k := Arith.b2n b
      let low := if Arith.bit s.hw.vLow k then decide (mv < 16500) else decide (mv < 16000)
      let high := if Arith.bit s.hw.vHigh k then decide (153500 < mv) else decide (154000 < mv)
      t.hw = { s.hw with vLow := Arith.setBit s.hw.vLow k low, vHigh := Arith.setBit s.hw.vHigh k high } ∧
      (t.src 4).cond = (t.hw.vLow != 0 || t.hw.rails != 0) ∧
      (t.hw.rails = 0 → t.hw.vLow ≠ 3 → Arith.bit (t.n .devSafeCause) 6 = false) ∧ QuietPoints s t [⟨.devSafeCause, 0, 0⟩]) ∧
    (s.up = true → ∀ n : Fin 8, Arith.bit s.hw.rails n = true → Yields (exec (.railRestored n) s) fun t =>
      t.hw = { s.hw with rails := Arith.setBit s.hw.rails n false } ∧ (t.src 4).cond = (t.hw.vLow != 0 || t.hw.rails != 0) ∧
      (t.hw.rails = 0 → t.hw.vLow ≠ 3 → Arith.bit (t.n .devSafeCause) 6 = false) ∧ QuietPoints s t [⟨.devSafeCause, 0, 0⟩])
/-- R79 to R81, R90, R398 and R538: a valid slot gives its cell's points, which commit with this epoch, and counts as received; one that
fails its check is discarded, counted and reported; while records are replayed slots reach nothing. R83: a closure publishes its time and
counts the served positions without a slot. R96 and R104: a position that is gone is Absent when it was Bypassed, else Lost. -/
def Obligations.SlotsClosuresAndLostCells : Prop :=
  ∀ s : State,
    (∀ (r : RoundNo) (e : End) (pos : Fin 256) (bytes : List Byte) (time : Nat), let x := s.rnd r
      let p := Arith.field bytes 13 1
      let a := cellAt r p
      let status := Arith.field bytes 4 4
      let ev := Arith.field bytes 12 1
      Yields (exec (.upstreamSlot r e pos bytes time) s) fun t =>
        t.clk = { s.clk with now := max s.clk.now time } ∧ (∀ q, q ≠ r.val → t.rnd q = s.rnd q) ∧
        (s.mode = 7 → s.rep.phase = 2 → t = s.withClk t.clk) ∧
        (¬(s.mode = 7 ∧ s.rep.phase = 2) → slotOk bytes = true →
          t.n .pos a 0 = status % 16 ∧ t.n .cell a 0x0A = status % 16 ∧ t.w .cell a 0x0B = Word.ofNat (Arith.field bytes 0 2) ∧
          t.w .cell a 0x0C = Word.ofInt (BitVec.ofNat 16 (Arith.field bytes 2 2)).toInt ∧ t.w .cell a 0x0D = Word.ofNat status ∧
          t.w .cell a (0x10 + status / 2 ^ 28) = Word.ofNat (Arith.field bytes 8 4) ∧
          (ev ≠ 0 → t.w .cell a 0x0E = Word.ofNat (0x0200 + ev)) ∧ (ev = 0 → t.w .cell a 0x0E = s.w .cell a 0x0E) ∧
          (t.rnd r).codes = x.codes ++ (if ev = 0 ∨ (0x70 ≤ ev ∧ ev ≤ 0x7F) then [] else [(ev, p)]) ∧
          (p * 2 + (match e with | .a => 0 | .b => 1)) ∈ (t.rnd r).slots ∧ Tab.get 0 (t.rnd r).missing p = 0 ∧
          (t.rnd r).rangeA = x.rangeA ∧ (t.rnd r).rangeB = x.rangeB ∧
          t = ((((s.withPts t.pts).withRnds t.rnds).withClk t.clk).withCells t.cells).withCep t.cep ∧
          SamePoints s t [⟨.pos, a, 0⟩, ⟨.pos, a, 4⟩, ⟨.pos, a, 5⟩, ⟨.cell, a, 0x0A⟩, ⟨.cell, a, 0x0B⟩, ⟨.cell, a, 0x0C⟩,
            ⟨.cell, a, 0x0D⟩, ⟨.cell, a, 0x0E⟩, ⟨.cell, a, 0x10 + status / 2 ^ 28⟩, ⟨.rndDelayNs, r, 0⟩, ⟨.rndDelayANs, r, 0⟩,
            ⟨.rndDelayBNs, r, 0⟩] ∧
          (s.n .rndState r ≠ 6 ∨ inRange (x.range e) p = false → SamePoints s t [⟨.pos, a, 0⟩, ⟨.cell, a, 0x0A⟩, ⟨.cell, a, 0x0B⟩,
            ⟨.cell, a, 0x0C⟩, ⟨.cell, a, 0x0D⟩, ⟨.cell, a, 0x0E⟩, ⟨.cell, a, 0x10 + status / 2 ^ 28⟩])) ∧
        (¬(s.mode = 7 ∧ s.rep.phase = 2) → slotOk bytes = false →
          t.w .rndSlotCrc r 0 = Word.ofNat (s.n .rndSlotCrc r + 1) ∧ Raised s t 0x0109 kRound r ∧ t.rnd r = { x with bad := pos.val :: x.bad } ∧
          t.rest = ((s.withClk t.clk).withRnds t.rnds).rest ∧ QuietPoints s t [⟨.rndSlotCrc, r, 0⟩])) ∧
    (∀ (r : RoundNo) (e : End) (time : Nat), let x := s.rnd r
      let g := match e with | .a => x.sentA | .b => x.sentB
      let f := match e with | .a => Field.rndCloseANs | .b => Field.rndCloseBNs
      let gone := (s.present r).filter (fun p => inRange g p && 2 ≤ s.posState r p
        && !(x.slots.contains (p * 2) || x.slots.contains (p * 2 + 1) || x.bad.contains p))
      Yields (exec (.upstreamClosure r e time) s) fun t =>
        (match e with | .a => (t.rnd r).closedA | .b => (t.rnd r).closedB) = true ∧
        t.w f r 0 = Word.ofNat (time - s.clk.t0) ∧ t.w .rndSlotMissing r 0 = Word.ofNat (s.n .rndSlotMissing r + gone.length) ∧
        t.clk = { s.clk with now := max s.clk.now time } ∧ (∀ q, q ≠ r.val → t.rnd q = s.rnd q) ∧
        t = ((s.withPts t.pts).withRnds t.rnds).withClk t.clk ∧ SamePoints s t [⟨f, r, 0⟩, ⟨.rndSlotMissing, r, 0⟩]) ∧
    (∀ c : CellAddr, let a := cellAt (c.val / 256) (c.val % 256)
      s.cellGone (c.val / 256) (c.val % 256) = true → Yields (exec (.cellLost c) s) fun t =>
        (s.n .pos a 0 = 6 → t.n .pos a 0 = 0 ∧ t.n .cell a 0x0A = 0 ∧ t = s.withPts t.pts) ∧
        (s.n .pos a 0 ≠ 6 → t.n .pos a 0 = 9 ∧ t.n .cell a 0x0A = 9 ∧ Raised s t 0x0273 kCell a) ∧
        t.rest = s.rest ∧ QuietPoints s t [⟨.pos, a, 0⟩, ⟨.cell, a, 0x0A⟩])

/-- R100, R101, R420 and R45: a lost block lock and a BREAK record a break of the round (at a counterfoil one that shows the principal's
silence counts as that instead); the balanced ranges come back when both ports have their lock and enough epochs were calm; late-round
operation ends after 4000 epochs of a short delay. -/
def Obligations.BreaksAndLateRounds : Prop :=
  ∀ (r : RoundNo) (s : State), let x := s.rnd r
    let only := fun (t : State) => t.rest = (s.withRnds t.rnds).rest ∧ ∀ q, q ≠ r.val → t.rnd q = s.rnd q
    (∀ e, Yields (exec (.endLockLost r e) s) fun t =>
      t.rnd r = (match e with
        | .a => { x with lockA := false, detected := true, broken := true, calm := 0 }
        | .b => { x with lockB := false, detected := true, broken := true, calm := 0 }) ∧ t = s.withRnds t.rnds ∧ only t) ∧
    (∀ (e : End) (pos : Fin 256) (port : End), Yields (exec (.breakBlock r e pos port) s) fun t =>
      (s.showsSilence r e pos port = true → r.val ∈ t.pair.silent ∧ t = s.withPair { s.pair with silent := t.pair.silent } ∧
        ∀ q ∈ s.pair.silent, q ∈ t.pair.silent) ∧
      (s.showsSilence r e pos port = false → t.rnd r = (match port with
        | .a => { x with lostA := some (min (x.lostA.getD pos) pos), detected := true, broken := true, calm := 0 }
        | .b => { x with lostB := some (max (x.lostB.getD pos) pos), detected := true, broken := true, calm := 0 }) ∧
        t = s.withRnds t.rnds ∧ only t)) ∧
    (x.broken = true → s.lockRegained r = true → s.n .rndRestoreEpochs r ≤ x.calm → Yields (exec (.roundRestored r) s) fun t =>
      RangesSet s t r (s.balanced r (s.present r) (s.endOk2 r .a) (s.endOk2 r .b)) ∧
      (t.rnd r).broken = false ∧ (t.rnd r).lostA = none ∧ (t.rnd r).lostB = none ∧ (t.rnd r).calm = 0 ∧ Raised s t 0x0105 kRound r ∧ only t ∧
      QuietFields s t [.rndEnds, .rndTurn, .rndDelayANs, .rndDelayBNs, .rndDelayNs, .pos]) ∧
    (s.n .rndLate r = 1 → 4000 ≤ x.shortN → Yields (exec (.lateRoundExit r) s) fun t =>
      t.n .rndLate r = 0 ∧ t.rnd r = { x with shortN := 0 } ∧ Raised s t 0x0103 kRound r ∧ only t ∧ QuietPoints s t [⟨.rndLate, r, 0⟩])

/-- R87, R89 and R90: an answer ends its transaction, gives the cell's points from offset 0x20 on and completes the command that waits for
it with this epoch's commit; a transaction unanswered for 4 epochs goes out again, and after 3 repetitions it is abandoned, counted and
reported, and its command fails with status 0x0402. -/
def Obligations.SlowChannelAnswers : Prop :=
  ∀ (r : RoundNo) (s : State), let x := s.rnd r
    (∀ (pos : Fin 256) (tag : Nat) (vals : List Word) (q : SlowTx),
      x.txs.find? (fun t => t.req.tag == tag && t.req.pos == pos.val && t.age != 0) = some q → vals.length = q.req.count →
      Yields (exec (.slowResp r pos tag 0 ⟨vals, slowCrc vals⟩) s) fun t => let a := cellAt r pos
        t.rnd r = { x with txs := x.txs.filter (fun u => u != q) } ∧ (∀ m, m ≠ r.val → t.rnd m = s.rnd m) ∧
        (∀ k v, vals[k]? = some v → 0x20 ≤ q.req.off + k → t.w .cell a (q.req.off + k) = v) ∧
        (∀ f i j, ¬(f = .cell ∧ i = a ∧ 0x20 ≤ j ∧ q.req.off ≤ j ∧ j < q.req.off + vals.length) → t.w f i j = s.w f i j) ∧
        t.host.fins = (if q.host then s.host.fins.map (fun f => if awaitsSlow a q.req.off q.req.count f
          then { f with status := 0, item := noItem, value := 0, wait := .commit s.epoch } else f) else s.host.fins) ∧
        t = (((s.withPts t.pts).withRnds t.rnds).withCep t.cep).withHost { s.host with fins := t.host.fins }) ∧
    Yields (exec (.slowTimeout r) s) (fun t =>
      let gone := x.txs.filter (fun q => decide (5 ≤ q.age ∧ 3 ≤ q.reissues))
      (t.rnd r).txs = (x.txs.filter (fun q => !decide (5 ≤ q.age ∧ 3 ≤ q.reissues))).map
        (fun q => if 5 ≤ q.age then { q with age := 0, reissues := q.reissues + 1 } else q) ∧
      (∀ m, m ≠ r.val → t.rnd m = s.rnd m) ∧
      t.w .rndSlowTimeouts r 0 = Word.ofNat (s.n .rndSlowTimeouts r + gone.length) ∧
      (gone.length = 1 → Raised s t 0x0108 kRound r) ∧ t.host.fins.length = s.host.fins.length ∧
      (∀ q ∈ gone, q.host = true → ∀ f ∈ s.host.fins, awaitsSlow (cellAt r q.req.pos) q.req.off q.req.count f = true →
        { f with status := 0x0402, item := noItem, value := 1, wait := .ready } ∈ t.host.fins) ∧
      t.rest = ((s.withRnds t.rnds).withHost { s.host with fins := t.host.fins }).rest ∧ QuietPoints s t [⟨.rndSlowTimeouts, r, 0⟩])

/-- R91, R92, R103 and Table 3.8: the answers of link-up: the walk that arrives at the other end, a cell's discovery and its class report, a
round trip, and a lane that is up again, with new cells behind it or not. -/
def Obligations.LinkupAnswers : Prop :=
  ∀ (r : RoundNo) (s : State), let x := s.rnd r
    let others := fun (t : State) => ∀ q, q ≠ r.val → t.rnd q = s.rnd q
    (∀ (next : Option (Fin 256)), x.step = 1 → x.waits = false → x.seg = none →
      Yields (exec (.discoverArrived r .b next) s) (fun t =>
        t.rnd r = { x with walkA := true, through := true, top := (next.map (·.val)).getD 256, reportB := s.epoch } ∧ others t ∧
        (x.walkB = false → (∃ k, Out.blocks r .b [discoverBlock k (s.n .pairGeneration)] ∈ t.out) ∧
          t = (s.withRnds t.rnds).withOut t.out) ∧ (x.walkB = true → t = s.withRnds t.rnds)) ∧
      Yields (exec (.discoverArrived r .a next) s) (fun t =>
        t.rnd r = { x with walkB := true, throughB := true } ∧ others t ∧ t = s.withRnds t.rnds)) ∧
    (∀ (e : End) (pos : Fin 256) (serial : BitVec 64) (versions : Word) (placed : Bool),
      Yields (exec (.report r e pos (.discovery serial versions placed false)) s) fun t => t = s) ∧
    (∀ (e : End) (pos : Fin 256) (serial : BitVec 64) (versions : Word), x.seg = none → x.step = 1 → x.waits = false →
      Yields (exec (.report r e pos (.discovery serial versions false true)) s) fun t =>
        (s.n .rndState r ≠ 6 → Raised s t 0x0104 kRound r) ∧ (s.n .rndState r = 6 → Raised s t 0x0274 kCell (cellAt r pos)) ∧
        t.rest = s.rest ∧ QuietPoints s t []) ∧
    (∀ (e : End) (pos : Fin 256) (serial : BitVec 64) (versions : Word), x.step = 1 → x.waits = false → x.seg = none →
      e = .a ∨ x.through = true →
      Yields (exec (.report r e pos (.discovery serial versions true true)) s) fun t => let a := cellAt r pos
        let kept := x.bypassed.contains pos.val = true ∧ s.serialOf r pos = serial.toNat
        t.w .cell a 0x01 = versions ∧ t.n .cell a 0x02 + 2 ^ 32 * t.n .cell a 0x03 = serial.toNat ∧
        t.w .pos a 3 = Word.ofNat (((s.posDesc r pos).bind (·.arm)).getD 0xFFFFFFFF) ∧
        (¬kept → t.n .pos a 0 = 1 ∧ t.n .cell a 0x0A = 1) ∧ (kept → t.n .pos a 0 = 6 ∧ t.n .cell a 0x0A = 6) ∧
        (e = .a → pos.val ∈ (t.rnd r).reachA ∧ (t.rnd r).reportA = s.epoch ∧ (t.rnd r).reachB = x.reachB) ∧
        (e = .b → pos.val ∈ (t.rnd r).reachB ∧ (t.rnd r).reportB = s.epoch ∧ (t.rnd r).reachA = x.reachA) ∧
        others t ∧ t = ((s.withPts t.pts).withRnds t.rnds).withCells t.cells ∧ (∀ m, m ≠ a → t.cellSt m = s.cellSt m) ∧
        SamePoints s t [⟨.cell, a, 0x01⟩, ⟨.cell, a, 0x02⟩, ⟨.cell, a, 0x03⟩, ⟨.cell, a, 0x0A⟩, ⟨.pos, a, 0⟩, ⟨.pos, a, 3⟩]) ∧
    (∀ (e : End) (pos : Fin 256) (bytes : List Byte), x.step = 4 → x.waits = false → classOk bytes = true →
      Yields (exec (.report r e pos (.cls bytes)) s) fun t => let a := cellAt r pos
        (∀ k o m, (k, o, m) ∈ [(0x00, 0, 4), (0x04, 4, 4), (0x05, 8, 4), (0x06, 12, 4), (0x07, 16, 1), (0x08, 17, 1), (0x09, 20, 4)] →
          t.w .cell a k = Word.ofNat (Arith.field bytes o m)) ∧
        t.w .pos a 2 = Word.ofNat (Arith.field bytes 0 4) ∧ pos.val ∈ (t.rnd r).classes ∧
        Tab.get 0 (t.rnd r).classN pos = Arith.field bytes 18 2 ∧ others t ∧ t = (s.withPts t.pts).withRnds t.rnds ∧
        SamePoints s t [⟨.cell, a, 0x00⟩, ⟨.cell, a, 0x04⟩, ⟨.cell, a, 0x05⟩, ⟨.cell, a, 0x06⟩, ⟨.cell, a, 0x07⟩, ⟨.cell, a, 0x08⟩,
          ⟨.cell, a, 0x09⟩, ⟨.pos, a, 2⟩]) ∧
    (∀ (e : End) (pos : Fin 256) (rtt : Nat), let k := pos.val * 2 + (match e with | .a => 0 | .b => 1)
      let m := Tab.get (0, 0) x.echoes k
      x.step = 2 → x.waits = false → m.1 < 16 → Yields (exec (.echoRet r e pos rtt) s) fun t =>
        Tab.get (0, 0) (t.rnd r).echoes k = (m.1 + 1, m.2 + rtt) ∧ t.rnd r = { x with echoes := (t.rnd r).echoes } ∧
        (∀ k', k' ≠ k → Tab.get (0, 0) (t.rnd r).echoes k' = Tab.get (0, 0) x.echoes k') ∧ others t ∧ t = s.withRnds t.rnds) ∧
    (∀ (e : End) (count : Nat), s.n .rndState r = 6 → Yields (exec (.segmentLaneUp r e count) s) fun t =>
      (match e with | .a => (t.rnd r).lockA | .b => (t.rnd r).lockB) = true ∧
      (count = 0 ∨ x.step ≠ 0 ∨ (x.range e).isSome → (t.rnd r).step = x.step ∧ (t.rnd r).seg = x.seg ∧ (t.rnd r).waits = x.waits) ∧
      (count ≠ 0 → x.step = 0 → x.range e = none → (t.rnd r).step = 1 ∧ (t.rnd r).seg = some e ∧ (t.rnd r).waits = true ∧ (t.rnd r).reachA = [] ∧
        (t.rnd r).reachB = [] ∧ (t.rnd r).echoes = []) ∧
      (t.rnd r).rangeA = x.rangeA ∧ (t.rnd r).rangeB = x.rangeB ∧ others t ∧ t = s.withRnds t.rnds)

/-- R91 to R94, R103, R307 and Table 3.9: a step of link-up whose answers have arrived ends, and the next one starts at the next
boundary; after step 2 the delays are sent and the ranges set, or a break stands; after step 4 a cell that fits is assigned, one that
does not gets GATES 0; steps 1 to 4 fail 100 ms from their start; cells not Ready in time get GATES 0 and the round goes on. -/
def Obligations.LinkupStepsEndOrFail : Prop :=
  ∀ (r : RoundNo) (s : State), let x := s.rnd r
    let only := fun (t : State) => t.rest = (s.withRnds t.rnds).rest ∧ ∀ q, q ≠ r.val → t.rnd q = s.rnd q
    (s.linkupDone r = true → Yields (exec (.linkupStepComplete r) s) fun t =>
      (t.rnd r).step = x.step + 1 ∧ (t.rnd r).waits = true ∧ only t ∧
      (x.step = 1 ∨ x.step = 3 ∨ x.step = 5 → t = s.withRnds t.rnds ∧ (t.rnd r).dirq = x.dirq) ∧
      (x.step = 2 → ∀ p ∈ x.reachA, let d := echoDelay (Tab.get (0, 0) x.echoes (p * 2)).2
        t.w .pos (cellAt r p) 4 = Word.ofNat d ∧ (⟨some p, .delay .a d⟩ : DirEntry) ∈ (t.rnd r).dirq) ∧
      (x.step = 2 → ∀ p ∈ x.reachB, let d := echoDelay (Tab.get (0, 0) x.echoes (p * 2 + 1)).2
        t.w .pos (cellAt r p) 5 = Word.ofNat d ∧ (⟨some p, .delay .b d⟩ : DirEntry) ∈ (t.rnd r).dirq) ∧
      (x.step = 2 → x.seg.isSome = true → (t.rnd r).rangeA = x.rangeA ∧ (t.rnd r).rangeB = x.rangeB) ∧
      (x.step = 2 → x.seg = none → x.through = true →
        ((t.rnd r).rangeA, (t.rnd r).rangeB) = t.balanced r (t.present r) (t.endOk2 r .a) (t.endOk2 r .b)) ∧
      (x.step = 2 → x.seg = none → x.through = false → Raised s t 0x0101 kRound r ∧ (t.rnd r).broken = true ∧
        t.w .rndBreaks r 0 = Word.ofNat (s.n .rndBreaks r + 1)) ∧
      (x.step = 4 → ∀ p ∈ x.reached, s.n .pos (cellAt r p) 1 ≠ 0 → ∀ d a, s.posDesc r p = some d → s.armAt r p = some a →
        (s.classBad r p d a = true → (⟨some p, .gates false⟩ : DirEntry) ∈ (t.rnd r).dirq) ∧
        (s.classBad r p d a = false → p ∈ (t.rnd r).accepted ∧
          (⟨some p, .assign (s.armSlot a) (s.localIdx a p)⟩ : DirEntry) ∈ (t.rnd r).dirq ∧
          (⟨some p, .coast (s.n .rndCoastLimit r)⟩ : DirEntry) ∈ (t.rnd r).dirq)) ∧
      QuietFields s t [.pos, .rndEnds, .rndTurn, .rndDelayANs, .rndDelayBNs, .rndDelayNs, .rndBreaks]) ∧
    (1 ≤ x.step → x.step ≤ 4 → x.waits = false → x.stepAt + 100000000 ≤ s.now → s.linkupDone r = false →
      Yields (exec (.roundLinkupFail r) s) fun t =>
        t.n .rndState r = 7 ∧ (t.rnd r).step = 0 ∧ (t.rnd r).seg = none ∧ (t.rnd r).rangeA = none ∧ (t.rnd r).rangeB = none ∧
        (t.rnd r).dirq = [] ∧ t.n .rndEnds r = 0 ∧ (∀ p, p < 256 → t.n .pos (cellAt r p) 0 = 0) ∧ Raised s t 0x0106 kRound r ∧ only t ∧
        QuietFields s t [.rndState, .pos, .cell, .rndEnds, .rndTurn, .rndDelayANs, .rndDelayBNs, .rndDelayNs]) ∧
    (let late := x.charging.filter (fun p => let st := s.posState r p; !(st == 4 || st == 5 || st == 6));
      x.step = 5 → x.waits = false → x.stepAt + msNs (s.n .rndChargeTimeoutMs r) ≤ s.now → late ≠ [] →
      Yields (exec (.roundChargeTimeout r) s) fun t =>
        (t.rnd r).step = 6 ∧ (t.rnd r).waits = true ∧ (∀ p ∈ late, (⟨some p, .gates false⟩ : DirEntry) ∈ (t.rnd r).dirq) ∧
        Raised s t 0x0107 kRound r ∧ only t ∧ QuietPoints s t [])

/-- R44, R46, R61, R64, R67, R170 and R317: the downstream send: every end of a principal's round that sends one carries a frame of the next boundary with
the present epoch, the apply offset of the round, the token (0 in link-up) and at most 8 directives and 32 trims; a round in Failed, and
every round in Dormant, sends IDLE; a counterfoil sends nothing. -/
def Obligations.DownstreamSendLeaves : Prop :=
  ∀ s : State, s.ticking = true → s.clk.phase = 1 → Yields (exec .downstreamSend s) fun t =>
    t.clk = { s.clk with phase := 2, now := max s.clk.now ((s.nextT0 - s.te / 4 + 3) / 4 * 4) } ∧
    (∀ r, r < 16 → s.plant.rounds.contains r = false → t.rnd r = s.rnd r) ∧
    (∀ r, r < 16 → s.plant.rounds.contains r = true → s.n .pairRole ≠ 2 →
      let sends := s.mode ≠ 0 ∧ t.n .rndState r ≠ 7
      let ok := fun (e : End) (o : Option Frame) => t.endSends r e = true → ∃ f, o = some f ∧ Out.frame r e f (frameWire f) ∈ t.out ∧
        f.franking = s.nextT0 ∧ f.epoch = s.epoch ∧ f.generation = s.n .pairGeneration ∧ f.setting = settingOf s.te ∧
        f.offset = (if t.n .rndLate r = 1 then 2 else 1) ∧ f.linkup = t.linkupEnd r e ∧
        (f.linkup = true → f.token = 0 ∧ f.check = 0 ∧ f.arms = []) ∧ (f.linkup = false → (f.token, f.check) = s.token) ∧
        f.dirs.length ≤ 8 ∧ f.trims.length ≤ 32 ∧ ∀ q ∈ f.trims, (t.rnd r).endFor q.pos = e
      (sends → ok .a (t.rnd r).frameA ∧ ok .b (t.rnd r).frameB ∧
        (t.endSends r .a = false → (t.rnd r).sentA = none ∧ Out.blocks r .a [idleBlock] ∈ t.out) ∧
        (t.endSends r .b = false → (t.rnd r).sentB = none ∧ Out.blocks r .b [idleBlock] ∈ t.out) ∧
        (t.endSends r .a = true → (t.rnd r).sentA = (t.rnd r).rangeA) ∧ (t.endSends r .b = true → (t.rnd r).sentB = (t.rnd r).rangeB)) ∧
      (¬sends → (t.rnd r).sentA = none ∧ (t.rnd r).sentB = none ∧ Out.blocks r .a [idleBlock] ∈ t.out ∧ Out.blocks r .b [idleBlock] ∈ t.out) ∧
      (s.n .rndState r = 6 → (s.rnd r).detected = false → overDelay (s.n .rndDelayNs r) s.te 122 = true → t.n .rndState r = 7) ∧
      (s.n .rndState r = 6 → (s.rnd r).detected = false → overDelay (s.n .rndDelayNs r) s.te 122 = false →
        overDelay (s.n .rndDelayNs r) s.te 22 = true → t.n .rndState r = 6 ∧ (s.n .rndLate r = 0 ∨ s.n .rndLate r = 1 → t.n .rndLate r = 1))) ∧
    (s.n .pairRole = 2 → ∀ r e f bs, Out.frame r e f bs ∈ t.out → Out.frame r e f bs ∈ s.out) ∧
    t.rest = (((((((s.withArms t.arms).withCells t.cells).withCep t.cep).withClk t.clk).withFree t.free).withRnds t.rnds).withHost
      { s.host with fins := t.host.fins }).rest ∧
    QuietFields s t [.armRephase, .pos, .rndBreaks, .rndDelayANs, .rndDelayBNs, .rndDelayNs, .rndEnds, .rndLate, .rndState, .rndTurn,
      .slot]

/-- R110, R115, R135, R138, R139 and Table 4.6: identification starts with step 1 and `IDENT` set, the drive staying in its regime; a write of 2 asks for its
abort; a step ends no earlier than after its duration: with plausible results it publishes them and leads to the next step that applies,
or completes; one whose results lie outside 0.2 to 5 times the description's values ends it in state 3. A new control mode presets
the drive's next demand; `fb_use` asks for the channel or gives it up; a winding set is enabled or disabled. -/
def Obligations.IdentificationAndControlWrites : Prop :=
  ∀ (d : DriveNo) (s : State),
    (s.drives.contains d.val = true → s.identOk d = true → Yields (exec (.identStart d) s) fun t =>
      t.n .drvIdentCmd d = 1 ∧ t.n .drvIdState d = 1 ∧ t.n .drvIdStep d = 1 ∧ Arith.bit (t.n .drvStatus d) 10 = true ∧
      t.drv d = { s.drv d with idAt := s.now, idFrom := s.rotorTurn d, idAbort := false } ∧
      DriveOnly s t d [⟨.drvIdentCmd, d, 0⟩, ⟨.drvIdState, d, 0⟩, ⟨.drvIdStep, d, 0⟩, ⟨.drvStatus, d, 0⟩]) ∧
    (s.drives.contains d.val = true → s.regime d = 0 → s.halting d = false → Yields (exec (.identAbort d) s) fun t =>
      t.n .drvIdentCmd d = 2 ∧ t.drv d = { s.drv d with idAbort := s.identifying d || (s.drv d).idAbort } ∧
      DriveOnly s t d [⟨.drvIdentCmd, d, 0⟩]) ∧
    (∀ (angle : Rat) (vals : List Rat), s.identifying d = true → s.now < (s.drv d).idAt + idDuration (s.n .drvIdStep d) →
      exec (.identStepDone d angle vals) s = .next s) ∧
    (∀ (angle : Rat) (vals : List Rat), s.identifying d = true → (s.drv d).idAt + idDuration (s.n .drvIdStep d) ≤ s.now →
      Yields (exec (.identStepDone d angle vals) s) fun t =>
      let step := s.n .drvIdStep d
      let good := s.idFits d step vals = true
      (good → (∀ k e, (s.idPoints d step)[k]? = some e → t.w e.1 d 0 = (entry e.1).ty.enc (vals.getD k 0)) ∧
        (step = 2 → t.w .drvIdAngle d 0 = Arith.turnsWord angle) ∧
        (s.idNext d step = 0 → t.n .drvIdState d = 2 ∧ Arith.bit (t.n .drvStatus d) 10 = false ∧ Raised s t 0x030A kDrive d) ∧
        (s.idNext d step ≠ 0 → t.n .drvIdState d = 1 ∧ t.n .drvIdStep d = s.idNext d step ∧
          t.drv d = { s.drv d with idAt := s.now, idFrom := s.rotorTurn d })) ∧
      (¬good → t.n .drvIdState d = 3 ∧ t.n .drvIdStep d = step ∧ Arith.bit (t.n .drvStatus d) 10 = false ∧
        Raised s t 0x030B kDrive d ∧ t.drv d = s.drv d) ∧
      DriveOnly s t d [⟨.drvIdRsOhm, d, 0⟩, ⟨.drvIdSigmaLsH, d, 0⟩, ⟨.drvIdLdH, d, 0⟩, ⟨.drvIdLqH, d, 0⟩, ⟨.drvIdTrS, d, 0⟩,
        ⟨.drvIdLmH, d, 0⟩, ⟨.drvIdPsiVs, d, 0⟩, ⟨.drvIdAngle, d, 0⟩, ⟨.drvIdState, d, 0⟩, ⟨.drvIdStep, d, 0⟩, ⟨.drvStatus, d, 0⟩]) ∧
    (∀ v : Fin 4, s.ownsCmd d = true → s.ctrlModeOk d v = true → Yields (exec (.ctrlModeWrite d v) s) fun t =>
      t.n .drvCtrlMode d = v ∧ (s.n .drvCtrlMode d = v → t = s) ∧
      (s.n .drvCtrlMode d ≠ v → t.drv d = { s.drv d with preset := true }) ∧ DriveOnly s t d [⟨.drvCtrlMode, d, 0⟩]) ∧
    (∀ v : Fin 2, s.drives.contains d.val = true → v = 0 ∨ (s.driveFb d).isSome = true → Yields (exec (.fbUseWrite d v) s) fun t =>
      t.n .drvFbUse d = v ∧ t.drv d = { s.drv d with wantFb := v == 1 && s.n .drvFbInUse d != 1 } ∧
      DriveOnly s t d [⟨.drvFbUse, d, 0⟩]) ∧
    (∀ (k : SetNo) (v : Fin 2), s.drives.contains d.val = true → Yields (exec (.setEnableWrite d k v) s) fun t =>
      t.n .setEnable (d * 4 + k) = v ∧ t = s.withPts t.pts ∧ SamePoints s t [⟨.setEnable, d * 4 + k, 0⟩])

/-- R169, R187 and R203 to R205: a lost line, a decoupled shaft and a bypass that is not confirmed fault their drive with causes 7, 8 and
9; slack beyond its time is noted once, and its response zeroes the reference or halts every running member of the group. -/
def Obligations.LaneCausesAndSlackRope : Prop :=
  ∀ s : State,
    (∀ (d : DriveNo) (g a : Nat), s.shaftOf d = some g → Tab.get none (s.shaft g).apart d = some a →
      a + msNs (s.n .shaftDecoupleMs g) ≤ s.now → Yields (exec (.shaftDecoupled d) s) fun t =>
        (Arith.bit (s.drv d).causes 8 = true → t = s) ∧ (Arith.bit (s.drv d).causes 8 = false → FaultedBy s t d 8) ∧
        DriveOnly s t d (⟨.drvFaultCause, d, 0⟩ :: regimePoints d)) ∧
    (∀ (d : DriveNo) (a : Nat), (s.drv d).lineLost = some a → a + msNs (s.n .drvLineRideMs d) < s.now →
      Yields (exec (.lineRideExpired d) s) fun t =>
        (Arith.bit (s.drv d).causes 7 = true → t = s) ∧ (Arith.bit (s.drv d).causes 7 = false → FaultedBy s t d 7) ∧
        DriveOnly s t d (⟨.drvFaultCause, d, 0⟩ :: regimePoints d)) ∧
    (∀ (c : CellAddr) (a : ArmDesc), s.armAt (c.val / 256) (c.val % 256) = some a →
      let i := s.localIdx a (c.val % 256)
      let due := Tab.get 0 (s.arm (armIx a)).bypass i
      3 ≤ due → due ≤ s.epoch → Arith.bit (s.n .cell c 0x0D) 5 = false → Yields (exec (.bypassNotConfirmed c) s) fun t =>
        FaultedBy s t a.drive 9 ∧ Tab.get 0 (t.arm (armIx a)).bypass i = 2 ∧
        (∀ j, j ≠ i → Tab.get 0 (t.arm (armIx a)).bypass j = Tab.get 0 (s.arm (armIx a)).bypass j) ∧
        (∀ j, j ≠ armIx a → t.arm j = s.arm j) ∧ (∀ e, e ≠ a.drive → t.drv e = s.drv e) ∧
        t.rest = ((s.withDrvs t.drvs).withArms t.arms).rest ∧
        QuietPoints s t (⟨.drvFaultCause, a.drive, 0⟩ :: regimePoints a.drive)) ∧
    (∀ (g : ShaftNo) (a : Nat), (s.shaft g).slackAt = some a → a + msNs (s.n .shaftSlackMs g) ≤ s.now → (s.shaft g).slack = false →
      Yields (exec (.slackRope g) s) fun t =>
        t.shaft g = { s.shaft g with slack := true, zeroRef := s.n .shaftSlackResp g == 1 || (s.shaft g).zeroRef } ∧
        (∀ h, h ≠ g.val → t.shaft h = s.shaft h) ∧
        (s.n .shaftSlackResp g ≠ 2 → Raised s t 0x0328 kShaft g ∧ t.drvs = s.drvs) ∧
        (s.n .shaftSlackResp g = 2 → ∀ d ∈ s.shaftMembers g, 1 ≤ s.regime d → s.regime d ≤ 4 →
          t.regime d = 0 ∧ t.n .drvHalting d = 1 ∧
            (s.regime d = 4 ∨ (s.regime d ≠ 3 ∧ s.ctrlMode d ≠ 1) → (t.drv d).preset = true)) ∧
        (∀ d, d ∉ s.shaftMembers g → t.drv d = s.drv d ∧ t.regime d = s.regime d) ∧
        t.rest = ((s.withDrvs t.drvs).withShafts t.shafts).rest ∧ QuietFields s t [.drvRegime, .drvHalting, .drvCrashPhase])

/-- R47 to R49, R54 and R531: a source event and an edge of SYNC_IN measure the error of device time; a source that stays silent beyond its
timeout leaves holdover; a write of `time_set` steps device time, and the next boundary is the first multiple of T_E after it. -/
def Obligations.DeviceTimeAndItsSources : Prop :=
  ∀ s : State,
    (∀ e, s.up = true → s.timeSource ≠ 0 → Yields (exec (.timeSourceEvent e) s) fun t => SourceMeasured s t e) ∧
    (∀ time, let period := s.n .devSyncInDiv * s.te
      s.up = true → s.timeSource = 1 → period ≠ 0 → Yields (exec (.syncInEdge time) s) fun t =>
        ∃ (k e : Int), (time : Int) = k * period + e ∧ 2 * e.natAbs ≤ period ∧ SourceMeasured s t e) ∧
    (s.up = true → s.timeSource ≠ 0 → s.n .devTimeState ≠ 3 → s.clk.srcAt + msNs (s.n .devTimeSourceTimeoutMs) ≤ s.now →
      Yields (exec .timeSourceLost s) fun t =>
        t.n .devTimeState = 3 ∧ t.clk = { s.clk with good := 0 } ∧ Raised s t 0x0C50 kDevice 0 ∧
        t.rest = (s.withClk t.clk).rest ∧ QuietPoints s t [⟨.devTimeState, 0, 0⟩]) ∧
    (∀ v : BitVec 64, s.mode = 1 → s.up = true → Yields (exec (.timeSet v) s) fun t =>
      t.n64 .devTimeSet = v.toNat ∧ t.now = v.toNat ∧ t.clk.slewLeft = 0 ∧ t.epoch = s.epoch ∧ t.clk.phase = s.clk.phase ∧
      (s.te ≠ 0 → t.nextT0 % s.te = 0 ∧ v.toNat < t.nextT0 ∧ t.nextT0 ≤ v.toNat + s.te) ∧
      t = (((s.withPts t.pts).withClk t.clk).withHost { s.host with wdtAt := t.host.wdtAt }).withDev
        { s.dev with logicBeat := t.dev.logicBeat, supWdtAt := t.dev.supWdtAt, stoDiffAt := t.dev.stoDiffAt } ∧
      SamePoints s t [⟨.devTimeSet, 0, 0⟩, ⟨.devTimeSet, 0, 1⟩])

/-- R36, R47, R50, R75, R83, R317 and R320: at a boundary the epoch counter goes on by one (it starts at 0), device time stands at t0, a new T_E is in
force, the permit register steps, SYNC_OUT rises in every epoch that its divider divides, and outside Dormant and a counterfoil no
round has delivered its closures yet.
R39, R14, R343, R485, R317 and Table 2.1: the input cut-off at 0.40 T_E: outside Dormant and a counterfoil what the cells
reported has been delivered, CAN frames have been used and, while Supervisor runs, no command waits whose apply-epoch has come. In
Dormant the time only advances. -/
def Obligations.BoundaryAndCutoff : Prop :=
  (∀ (smp : Samples) (s : State), s.up = true → s.clk.running = true → Yields (exec (.epochBoundary smp) s) fun t =>
    let d := t.n .devSyncOutDiv
    let eff := if d = 0 then 0 else if t.epoch % d = 0 then d else s.clk.syncDiv
    t.epoch = (if s.clk.started then s.epoch + 1 else 0) ∧ t.clk.started = true ∧ t.clk.running = true ∧ t.clk.phase = 0 ∧
    t.clk.t0 = (if s.clk.started then s.nextT0 else (s.now + s.te - 1) / s.te * s.te) ∧
    t.clk.now = max s.now t.clk.t0 ∧ t.te = s.clk.teNext.getD s.te ∧ t.clk.teNext = none ∧ t.clk.stepTo = none ∧
    t.dev.permit = lfsrStep s.dev.permit ∧
    t.clk.syncDiv = eff ∧
    (eff ≠ 0 → t.epoch % eff = 0 → Out.syncOut t.clk.t0 1000 ∈ t.out ∧ t.clk.syncFall = t.clk.t0 + 1000) ∧
    (eff = 0 ∨ t.epoch % eff ≠ 0 → t.clk.syncFall = s.clk.syncFall) ∧
    (s.mode = 0 → t.mode = 0) ∧
    (s.mode ≠ 0 → s.n .pairRole ≠ 2 → ∀ r, r < 16 → (t.rnd r).slots = [] ∧ (t.rnd r).closedA = false ∧ (t.rnd r).closedB = false ∧
      t.w .rndCloseANs r 0 = 0xFFFFFFFF ∧ t.w .rndCloseBNs r 0 = 0xFFFFFFFF)) ∧
  (∀ s : State, s.ticking = true → s.clk.phase = 0 → Yields (exec .inputCutoff s) fun t =>
    t.clk.phase = 1 ∧ t.epoch = s.epoch ∧
    (s.mode = 0 → t = s.withClk { s.clk with now := max s.clk.now (min (s.clk.t0 + s.te * 2 / 5) s.nextT0), phase := 1 }) ∧
    (s.mode ≠ 0 → s.isCounterfoil = false →
      (∀ r, r < 16 → (t.rnd r).codes = []) ∧ (∀ c, (t.can c).rx = []) ∧ (s.dev.supUp = true → ∀ c ∈ t.host.pr, s.epoch < c.epoch)))

/-- R355, R360 and R370: at the commit every value becomes visible together: the committed copy is the block's own copy of that moment, with
the cell counts of the rounds; outside Dormant and Replay tier P of both agents counts one envelope. In Dormant nothing else happens.
R369: the trailer of an envelope that is being written goes out, its ring's index advances and shows in the mirror, the sealed epoch
and the time it took are published, and a REQUEST_F of its epoch or of an earlier one is complete. -/
def Obligations.CommitAndEnvelopes : Prop :=
  (∀ s : State, s.ticking = true → s.clk.phase = 2 → Yields (exec .ledgerCommit s) fun t =>
    t.clk = { s.clk with now := max s.clk.now (min (s.clk.t0 + s.te * 4 / 5) s.nextT0), phase := 3 } ∧
    (∀ f i j, f ≠ .rndCellsPresent → f ≠ .rndCellsActive → Store.get t.led ⟨f, i, j⟩ = s.w f i j) ∧
    (∀ r ∈ s.plant.rounds, Store.get t.led ⟨.rndCellsPresent, r, 0⟩ = Word.ofNat (s.present r).length ∧
      Store.get t.led ⟨.rndCellsActive, r, 0⟩ = Word.ofNat ((s.present r).filter (fun p => s.posState r p == 5)).length) ∧
    (s.mode = 0 → t.led = t.pts ∧ t = ((s.withClk t.clk).withPts t.pts).withLed t.pts) ∧
    (s.mode ≠ 0 → s.mode ≠ 7 → ∀ a, a < 2 → t.n64 .envSeq (tierKey a 0) = (s.n64 .envSeq (tierKey a 0) + 1) % 2 ^ 64)) ∧
  (∀ (agent : Agent) (tier : Fin 3) (time seq epoch t0 : Nat) (s : State),
    let k := tierKey (agentNo agent) tier
    let key := ringKey (agentNo agent) (17 + tier)
    let r := s.ring key
    (s.tier k).writing = some (seq, epoch, t0) → r.live = true → t0 ≤ time →
    Yields (exec (.envelopeSealed agent tier time) s) fun t =>
      (t.tier k).writing = none ∧ (∀ m, m ≠ k → t.tier m = s.tier m) ∧
      t.n64 .envSealedEpoch k = (s.tier k).prevEpoch % 2 ^ 64 ∧ t.w .envSealNs k 0 = Word.ofNat (time - t0) ∧
      Out.seal key seq ∈ t.out ∧ Out.mirror key (r.spell ((r.idx + 1) % (2 * r.size))) (s.epoch % 2 ^ 32) ∈ t.out ∧
      (t.ring key).idx = (r.idx + 1) % (2 * r.size) ∧ (t.ring key).seq = r.seq + 1 ∧ (∀ m, m ≠ key → t.ring m = s.ring m) ∧
      (∀ f ∈ s.host.fins, f.cmd.agent = agentNo agent → tier = 2 → ∀ e, e ≤ epoch → f.wait = .sealF e →
        { f with status := 0, item := noItem, value := 0, wait := .ready } ∈ t.host.fins) ∧
      t.host.fins.length = s.host.fins.length ∧ t.clk = { s.clk with now := max s.clk.now time } ∧
      QuietPoints s t [⟨.envSealedEpoch, k, 0⟩, ⟨.envSealedEpoch, k, 1⟩, ⟨.envSealNs, k, 0⟩] ∧
      t.jrn = s.jrn ∧ t.so = s.so ∧ t.led = s.led ∧ t.pair = s.pair ∧ t.drvs = s.drvs ∧ t.rnds = s.rnds)

/-- R342, R343, R345 and Table 11.8: a descriptor at the front of a live ring waits while its completions have no room; else it is consumed:
refused with the status of the first check that fails (in boot recovery every opcode but FW_WRITE and FW_COMMIT with MODE), or its command waits for its apply-epoch (the rows that act at once: see
`ImmediateCommands`). ACCEPT_ON_ROOM judges a descriptor that waits. For every row of Table 11.7 (`opCommand`): NOP, CANCEL, WRITE_POINTS,
WRITE_MASKED, READ_POINTS, SUBSCRIBE_P, UNSUBSCRIBE_P, SET_M, REQUEST_F, ENV_POLICY, LOAD_PD, ROUND_LINKUP, CELL_BYPASS, CELL_GATES,
SLOW_READ, ITIN_LOAD, CAN_RECOVER, CAN_ABORT, JOURNAL_FREEZE, JOURNAL_EXPORT, JOURNAL_RELEASE, REPLAY_FEED, PAIR_HANDOVER,
PAIR_RESYNC, FW_WRITE and FW_COMMIT. -/
def Obligations.DescriptorsAreJudged : Prop :=
  ∀ (agent : Agent) (ring : Fin 8) (d : Desc) (s : State), let a := agentNo agent
    let r := s.ring (ringKey a ring)
    let v := s.judge a d
    let full := s.waitsLong d = true ∧ 4096 ≤ s.prCount
    let other := s.dev.boot = 2 ∧ (opBoot d.op = false ∨ d.hdr.opcode.isSome = true)
    (s.fetchable a ring = true →
      (s.hasRoom a ring d = false → Yields (exec (opCommand agent ring d.hdr d.op) s) fun t =>
        (t.ring (ringKey a ring)).waiting = some d ∧ t = s.putRing (ringKey a ring) { r with waiting := some d }) ∧
      (s.hasRoom a ring d = true →
        (¬other → v.1 ≠ 0 → Yields (exec (opCommand agent ring d.hdr d.op) s) (Refused s · a ring d v)) ∧
        (other →
          Yields (exec (opCommand agent ring d.hdr d.op) s) (Refused s · a ring d (stMode, noItem))) ∧
        (v.1 = 0 → s.dev.boot ≠ 2 → opImmediate d.op = true → (s.check6 d.op).1 ≠ 0 →
          Yields (exec (opCommand agent ring d.hdr d.op) s) (Refused s · a ring d (s.check6 d.op))) ∧
        (v.1 = 0 → s.dev.boot ≠ 2 → opImmediate d.op = false → full →
          Yields (exec (opCommand agent ring d.hdr d.op) s) (Refused s · a ring d (stFull, noItem))) ∧
        (v.1 = 0 → s.dev.boot ≠ 2 → opImmediate d.op = false → ¬full →
          Yields (exec (opCommand agent ring d.hdr d.op) s) (Accepted s · a ring d)))) ∧
    (r.waiting = some d → s.serves a ring = true → r.live = true → s.hasRoom a ring d = true →
      (¬other → v.1 ≠ 0 → Yields (exec (.acceptOnRoom agent ring) s) (Refused s · a ring d v)) ∧
      (other → Yields (exec (.acceptOnRoom agent ring) s) (Refused s · a ring d (stMode, noItem))) ∧
      (v.1 = 0 → s.dev.boot ≠ 2 → opImmediate d.op = false → ¬full →
        Yields (exec (.acceptOnRoom agent ring) s) (Accepted s · a ring d)))

/-- Table 11.7, R34, R91, R392, R397, R520 and section 11.4: what the opcodes that act at once do when every check passes: CANCEL takes the oldest
command with its tag out of those that wait; LOAD_PD hands its bytes to validation; ROUND_LINKUP starts step 1 of its rounds at the next
boundary; JOURNAL_EXPORT fixes the records to send; REPLAY_FEED takes good blocks; FW_WRITE fills the idle bank; FW_COMMIT makes it
valid with the next sequence number. -/
def Obligations.ImmediateCommands : Prop :=
  ∀ (agent : Agent) (ring : Fin 8) (hdr : DescHdr) (s : State), let a := agentNo agent
    let ready := fun (op : Op) => s.fetchable a ring = true ∧ s.hasRoom a ring ⟨hdr, op⟩ = true ∧ (s.judge a ⟨hdr, op⟩).1 = 0 ∧
      (if s.dev.boot = 2 then opBoot op = true else (s.check6 op).1 = 0)
    let noted := fun (op : Op) (t : State) (w : Await) => s.sessionLive (s.cmdOf a ring ⟨hdr, op⟩) = true →
      ∃ f ∈ t.host.fins, f.cmd = s.cmdOf a ring ⟨hdr, op⟩ ∧ f.wait = w ∧ f.status = 0
    (∀ tag cr, ready (.cancel tag cr) → Yields (exec (.cancel agent ring hdr tag cr) s) fun t =>
      let x := s.host.pr.find? (fun x => x.kept && x.agent == a && x.ring == cr && x.hdr.tag == tag)
      Consumed s t a ring ∧ (∀ c, x = some c → t.host.pr = s.host.pr.filter (fun y => y.id != c.id)) ∧
      (x = none → t.host.pr = s.host.pr) ∧ t.rest = (s.withHost t.host).rest) ∧
    (∀ bytes length, ready (.loadPd bytes length) → s.dev.loading = none →
      Yields (exec (.loadPd agent ring hdr bytes length) s) fun t =>
        Consumed s t a ring ∧ t.dev = { s.dev with loading := some (bytes, length) } ∧ noted (.loadPd bytes length) t .load ∧
        t.host.pr = s.host.pr ∧ t.plant = s.plant ∧ t.rest = ((s.withHost t.host).withDev t.dev).rest) ∧
    (∀ mask, ready (.roundLinkup mask) → Yields (exec (.roundLinkup agent ring hdr mask) s) fun t =>
      Consumed s t a ring ∧ noted (.roundLinkup mask) t (.linkup mask) ∧ t.host.pr = s.host.pr ∧
      (∀ r, r < 16 → Arith.bit mask r = true → (t.rnd r).step = 1 ∧ (t.rnd r).waits = true ∧ (t.rnd r).rangeA = none ∧
        (t.rnd r).rangeB = none ∧ t.n .rndLate r = 0 ∧ t.n .rndBreaks r = 0 ∧ t.n .rndEnds r = 0) ∧
      (∀ r, ¬(r < 16 ∧ Arith.bit mask r = true) → t.rnd r = s.rnd r) ∧ t.rest = ((s.withHost t.host).withRnds t.rnds).rest) ∧
    (∀ first last range, ready (.journalExport first last) → s.exportRange first last = some range →
      Yields (exec (.journalExport agent ring hdr first last) s) fun t =>
        Consumed s t a ring ∧ noted (.journalExport first last) t .exported ∧ t.host.pr = s.host.pr ∧
        (∃ x : Export, t.jrn.exports = s.jrn.exports ++ [x] ∧ x.cmd = s.cmdOf a ring ⟨hdr, .journalExport first last⟩ ∧
          x.recs = s.configFor range.2 ++ range.2 ∧ x.first = true ∧ x.cap = range.1) ∧
        t.jrn.live = s.jrn.live ∧ (∀ i, t.capture i = s.capture i)) ∧
    (∀ blocks, let recs := blocks.flatMap (·.recs)
      ready (.replayFeed blocks) → blocks.all (·.ok) = true →
      s.rep.phase ≠ 1 ∨ (feedStarts recs ((blocks.head?.map (·.firstFlag)).getD false) = true ∧
        recs.head?.any (fun m => m.digest != s.dev.pdDigest || m.kernel != Config.kernelVersion.toNat) = false) →
      Yields (exec (.replayFeed agent ring hdr blocks) s) fun t =>
        Consumed s t a ring ∧ t.host.pr = s.host.pr ∧
        t.rep = { s.rep with phase := 2, queue := s.rep.queue ++ recs.map fedRec, fed := s.rep.fed + recs.length,
                             lastFed := s.rep.lastFed || blocks.any (·.lastFlag) } ∧
        (recs ≠ [] → noted (.replayFeed blocks) t (.feed (s.rep.fed + recs.length))) ∧
        t.rest = ((s.withHost t.host).withRep t.rep).rest) ∧
    (∀ data length off, ready (.fwWrite data length off) → Yields (exec (.fwWrite agent ring hdr data length off) s) fun t =>
      Consumed s t a ring ∧ t.idleBank = { s.idleBank with valid := false, data := s.idleBank.data.filter (fun e => e.1 != off) ++ [(off, data)] } ∧
      t.hw = { s.hw with bank0 := t.hw.bank0, bank1 := t.hw.bank1 } ∧ (if s.hw.bankB then t.hw.bank1 = s.hw.bank1 else t.hw.bank0 = s.hw.bank0) ∧
      t.host.pr = s.host.pr ∧ t.rest = ((s.withHost t.host).withHw t.hw).rest) ∧
    (∀ length, ready (.fwCommit length) → Yields (exec (.fwCommit agent ring hdr length) s) fun t =>
      Consumed s t a ring ∧
      (∀ v, Config.verifyImage s.idleBank.data length s.keysValid = some v → s.n .hwFwSecurityFloor ≤ v.val →
        t.idleBank = { s.idleBank with valid := true, security := v.val,
                                       seq := (if s.hw.bankB then s.hw.bank1 else s.hw.bank0).seq + 1 }) ∧
      (Config.verifyImage s.idleBank.data length s.keysValid = none → t.hw = s.hw) ∧
      t.host.pr = s.host.pr ∧ t.rest = ((s.withHost t.host).withHw t.hw).rest)

/-- R169, R258, R342 to R344 and Table 11.7: a command at its apply-epoch: one whose epoch has passed, or that fails a check now, changes nothing and
completes with that status; a write applies all of its items, and is recorded for the mailbag, or none; the other opcodes have
their effect; CELL_BYPASS sends nothing to a cell of a two-level arm, and that it then completes is the model's choice, log entry 126 (CAN_RECOVER, CAN_ABORT and JOURNAL_FREEZE are not stated here). `applyCmd` is what INPUT_CUTOFF does with each command that is due. -/
def Obligations.CommandsAtTheirApplyEpoch : Prop :=
  ∀ (c : Cmd) (s : State), let t := s.applyCmd c
    let good := s.epoch ≤ c.epoch ∧ (s.check4 c.op 0 0).1 = 0 ∧ (s.check5 c.agent c.op).1 = 0 ∧ (s.check6 c.op).1 = 0 ∧
      (s.check7 c.op).1 = 0 ∧ (s.checkSet c.agent c.op).1 = 0 ∧ (s.checkItin c.op).1 = 0
    let set := fun (u : State) (k : Nat) => (u.tier (tierKey c.agent k)).set
    ((s.checkItin c.op).1 = 0 → c.epoch < s.epoch → t = s.failed c stLate) ∧
    ((s.checkItin c.op).1 ≠ 0 → t = s.failed c stFormat) ∧
    (¬good → ∃ st k, st ≠ 0 ∧ t = s.failed c st k ∧ t.pts = s.pts ∧ t.jrn = s.jrn) ∧
    (good →
      (∀ items st k, opItems c.op = some items → State.applyItems c.agent (some c.id) items 0 [] s = .error (st, k) →
        t = s.failed c st k) ∧
      (∀ items u done, opItems c.op = some items → State.applyItems c.agent (some c.id) items 0 [] s = .ok (u, done) →
        t.pts = u.pts ∧ (s.sessionLive c = true → t.host.pr = u.host.pr) ∧
        t.jrn.applied = u.jrn.applied ++ [{ agent := c.agent, ring := c.ring, opcode := c.code, tag := c.hdr.tag, items := done }]) ∧
      (∀ addr v, c.op = .cellBypass addr v → s.twoLevelCell addr = true → t.pts = s.pts ∧ t.rnds = s.rnds) ∧
      (∀ addr v, c.op = .cellBypass addr v → s.twoLevelCell addr = false → (⟨some (addr % 256), .bypass (v == 1)⟩ : DirEntry) ∈ (t.rnd (addr / 256)).dirq ∧ t.pts = s.pts) ∧
      (∀ addr v, c.op = .cellGates addr v → (⟨some (addr % 256), .gates (v == 1)⟩ : DirEntry) ∈ (t.rnd (addr / 256)).dirq ∧ t.pts = s.pts) ∧
      (∀ addr off n, c.op = .slowRead addr off n →
        (t.rnd (addr / 256)).reads = (s.rnd (addr / 256)).reads ++ [{ pos := addr % 256, off := off, count := n, tag := 0 }] ∧
        t.pts = s.pts) ∧
      (∀ e pts, c.op = .itinLoad e pts →
        (t.eng e).shadow = pts.map (fun p => (p.1, p.2.1, Arith.decF32 (Word.ofInt p.2.2))) ∧ t.pts = s.pts) ∧
      (∀ idx, c.op = .subscribeP idx → ∀ x, x ∈ set t 0 ↔ x ∈ set s 0 ∨ x ∈ idx) ∧
      (∀ idx, c.op = .unsubscribeP idx → ∀ x, x ∈ set t 0 ↔ x ∈ set s 0 ∧ x ∉ idx) ∧
      (∀ ranges, c.op = .setM ranges → ∀ x, x ∈ set t 1 ↔ ∃ r ∈ ranges, r.1 ≤ x ∧ x < r.1 + r.2) ∧
      (c.op = .requestF → (t.tier (tierKey c.agent 2)).requested = true ∧ t.pts = s.pts) ∧
      (∀ tier policy, c.op = .envPolicy tier policy → t.n .envPolicy (tierKey c.agent tier) = policy) ∧
      (c.op = .pairHandover → ∃ h, s.epoch + 8 ≤ h ∧ t.pair.handover = some (h, s.epoch) ∧ Out.pairSurrender h false ∈ t.out) ∧
      (c.op = .pairResync → t.pair.resync = 1 ∧ t.pair.resyncAt = s.now) ∧
      (c.op = .nop ∨ c.op = .journalRelease ∨ (∃ addr idx, c.op = .readPoints addr idx) → t.pts = s.pts ∧
        (s.sessionLive c = true → t.host.fins.length = s.host.fins.length + 1)))

/-- R33, R34, R305, R397 to R400 and R541: the validation of a description ends: outside Configure with MODE, with the first check that fails in
its report, or with the description in force, its drives Blocked and its epoch setting armed. In Replay a recorded epoch is computed beside the
live device, which keeps its clock, rounds and outputs; a difference of hashes, the end of the records and a record of another
description end it. -/
def Obligations.DescriptionsAndReplay : Prop :=
  ∀ s : State,
    (∀ bs length, s.dev.loading = some (bs, length) → Yields (exec .pdValidationDone s) fun t =>
      let s1 := s.withDev { s.dev with loading := none }
      let ended := fun st v => ∀ f ∈ s.host.fins, f.wait = .load →
        { f with status := st, item := noItem, value := v, wait := .ready } ∈ t.host.fins
      t.dev.loading = none ∧
      (s.mode ≠ 1 → ended stMode 0 ∧ t.pts = s.pts ∧ t.plant = s.plant) ∧
      (∀ f, s.mode = 1 → s1.validate bs length (fun k => k == Config.kernelVersion.toNat) = .error f →
        ended f.status f.detail ∧ t.w .devPdReportCheck 0 0 = Word.ofNat f.check ∧ t.w .devPdReportIndex 0 0 = Word.ofNat f.index ∧
        t.w .devPdReportDetail 0 0 = Word.ofNat f.detail ∧ t.plant = s.plant ∧ t.dev = s1.dev ∧
        SamePoints s t [⟨.devPdReportCheck, 0, 0⟩, ⟨.devPdReportEntity, 0, 0⟩, ⟨.devPdReportIndex, 0, 0⟩, ⟨.devPdReportDetail, 0, 0⟩,
          ⟨.devPdReportLaneDrives, 0, 0⟩]) ∧
      (∀ c, s.mode = 1 → s1.validate bs length (fun k => k == Config.kernelVersion.toNat) = .ok c →
        ended 0 0 ∧ t.plant = c.plant ∧ t.dev.pdActive = true ∧ t.dev.pdDigest = (bs.drop 24).take 32 ∧ t.n .devPdReportCheck = 0 ∧
        t.clk.teNext = some (settingNs (t.n .devEpochSetting)) ∧ t.guards = [] ∧ t.levels = [] ∧ ∀ d ∈ t.drives, t.regime d = 7)) ∧
    (∀ m ms, s.mode = 7 → s.rep.phase = 2 → s.rep.done = false → s.rep.queue = m :: ms → Yields (exec .replayEpoch s) fun t =>
      (m.kind = 3 → m.digest ≠ s.dev.pdDigest → t = s) ∧
      (m.kind ≠ 2 → m.kind ≠ 3 →
        (hashDiff t.jrn.hashes m.hashes = [] → t.rep.done = true ∧ t.rep.epoch = m.epoch ∧ t.rep.time = m.time ∧ t.rep.mode = m.mode ∧
          t.mode = 7 ∧ t.clk = s.clk ∧ t.rnds = s.rnds ∧ t.dev = s.dev ∧ t.so = s.so ∧ t.irq = s.irq ∧ t.out = s.out ∧ t.pair = s.pair ∧
          t.host = { s.host with fins := t.host.fins }) ∧
        (hashDiff t.jrn.hashes m.hashes ≠ [] → ReplayEnded s t 1))) ∧
    (s.mode = 7 → s.rep.phase = 2 →
      (s.rep.queue = [] → s.rep.lastFed = true → Yields (exec .replayDone s) (ReplayEnded s · 0)) ∧
      (∀ m ms, s.rep.queue = m :: ms → m.kind = 3 → m.digest ≠ s.dev.pdDigest → Yields (exec .replayDone s) (ReplayEnded s · 2)))

/-- R75, R302 to R304, R311, R499, R518 and R539: power good starts the block with the seed and the strap that it is given, a device reset with
those that stand; PERST frees the link; without power all but flash, one-time-programmable memory and the levels at the pins is as at
reset. -/
def Obligations.PowerAndReset : Prop :=
  ∀ s : State,
    (∀ (permit : BitVec 48) (posB : Bool) (failed : List TestUnit), s.dev.powered = false → permit ≠ 0 →
      Yields (exec (.powerGood permit posB failed) s) fun t =>
        Booted s t failed ∧ t.dev.permit = permit.toNat ∧ t.hw.posB = posB) ∧
    (∀ failed : List TestUnit, s.endpointUp = true → Yields (exec (.deviceReset failed) s) fun t =>
      Booted s t failed ∧ t.dev.permit = s.dev.permit ∧ t.hw.posB = s.hw.posB ∧ Out.coreReset 15 ∈ t.out) ∧
    Yields (exec .perstRelease s) (fun t => t.dev.perst = true ∧ t = s.withDev { s.dev with perst := true }) ∧
    (s.dev.powered = true → Yields (exec .powerLost s) fun t =>
      t.dev = { State.reset.dev with stoA := s.dev.stoA, stoB := s.dev.stoB, perst := s.dev.perst, permit := s.dev.permit } ∧
      t.clk = State.reset.clk ∧ t.plant = .none ∧ t.host = State.reset.host ∧ t.jrn = State.reset.jrn ∧ t.led = t.pts ∧
      (∀ f i j, t.w f i j = (if otpPoint ⟨f, i, j⟩ then s.w f i j else ptDflt ⟨f, i, j⟩)) ∧
      t.hw.keys = s.hw.keys ∧ t.hw.bank0 = s.hw.bank0 ∧ t.hw.bank1 = s.hw.bank1 ∧ t.cells = s.cells ∧ t.pending = s.pending ∧
      Out.coreReset 15 ∈ t.out ∧ ∀ r e, r < 16 → Out.endIdle r e ∈ t.out)

/-- R411 to R413, R421, R497 and R515: a module without a role takes one from what it hears; a counterfoil joins with the principal's
description and time, or stays unprotected; a SURRENDER, a higher generation and an extraction change what a module may do. -/
def Obligations.PairRolesAndJoining : Prop :=
  ∀ s : State,
    (∀ (partner : Fin 3) (traffic : Bool), s.up = true → s.mode = 1 → s.n .pairRole = 0 →
      partner ≠ 0 ∨ (s.n .pairEnable = 1 ∧ s.pair.listenAt + s.listenNs ≤ s.now) →
      Yields (exec (.pairRoleDecision partner traffic) s) fun t =>
        let foil := partner = 2 ∨ (partner = 1 ∧ s.hw.posB = true) ∨ (partner = 0 ∧ traffic = true)
        (foil → t.n .pairRole = 2 ∧ t.pair.endsIdle = true) ∧ (¬foil → t.n .pairRole = 1) ∧ t.n .pairProtection = 2 ∧
        t.pair.heard = decide (partner ≠ 0) ∧ (t.src 2).pend = true ∧ t.mode = 1 ∧ (¬foil → t.clk = s.clk) ∧ t.now = s.now ∧
        (foil → s.n .devTimeSource ≠ 6 → t.n .devTimeState = 1) ∧ t.drvs = s.drvs ∧ t.rnds = s.rnds) ∧
    (∀ desc kernel time epoch, s.up = true →
      (s.n .pairRole = 1 → Yields (exec (.pairJoin desc kernel time epoch) s) fun t =>
        t.pair.joined = true ∧ t.pair.heard = true ∧ t.pair.heardAt = s.epoch ∧
        (kernel = Config.kernelVersion.toNat → t.pair.resync = 1 ∧ t.pair.resyncAt = s.now ∧ Out.pairState s.epoch ∈ t.out) ∧
        (kernel ≠ Config.kernelVersion.toNat → t.n .pairProtection = 1) ∧ t.plant = s.plant ∧ t.clk = s.clk) ∧
      (s.n .pairRole = 2 → s.mode = 1 → Yields (exec (.pairJoin desc kernel time epoch) s) fun t =>
        let s1 := if s.pair.joined then s else s.adoptTime time epoch (settingNs (hdrField desc 8 1))
        (s.pair.joined = false → t.now = time ∧ t.epoch = epoch - 1 ∧ t.te = settingNs (hdrField desc 8 1)) ∧
        (∀ f, s1.validate desc desc.length s1.kernelAccepted = .error f →
          t.pair.joined = false ∧ t.n .pairProtection = 2 ∧ t.plant = s.plant) ∧
        (∀ c, s1.validate desc desc.length s1.kernelAccepted = .ok c → t.pair.joined = true ∧ t.plant = c.plant ∧
          t.dev.pdDigest = (desc.drop 24).take 32 ∧ t.pair.fwd = [] ∧ t.pair.stored = [] ∧
          t.n .pairProtection = (if kernel = Config.kernelVersion.toNat then 2 else 1)))) ∧
    (∀ h fault, s.up = true → Yields (exec (.surrender h fault) s) fun t =>
      (s.n .pairRole = 2 → t.pair.surrender = some (h, if fault then 3 else if s.epoch + 3 ≤ h then 2 else 4) ∧
        (s.eligibleNow = true → Out.pairSurrender h fault ∈ t.out) ∧ t = (s.withPair { s.pair with surrender := t.pair.surrender }).withOut t.out) ∧
      (s.n .pairRole = 1 → (∃ k, s.pair.handover = some (h, k)) → t = s.withPair { s.pair with confirmed := true }) ∧
      (s.n .pairRole = 1 → (∀ k, s.pair.handover ≠ some (h, k)) → Demoted s t) ∧
      (s.n .pairRole = 0 → t = s)) ∧
    (s.up = true → s.mustDemote = true → Yields (exec .pairDemoted s) (Demoted s)) ∧
    (s.up = true → s.n .hwHwInsert = 1 → Yields (exec .insertReleased s) fun t =>
      t.n .hwHwInsert = 0 ∧ t.hw = { s.hw with inputOn := false } ∧ Raised s t 0x0810 kDevice 0 ∧
      (s.n .pairRole = 1 → t.pair.handover = some (s.epoch + 2, s.epoch) ∧ Out.pairSurrender (s.epoch + 2) false ∈ t.out) ∧
      (s.n .pairRole = 2 → t.pair.endsIdle = true ∧ t.n .pairEligible = 0) ∧
      t.rest = ((s.withHw t.hw).withPair t.pair).rest ∧ QuietPoints s t [⟨.hwHwInsert, 0, 0⟩, ⟨.pairEligible, 0, 0⟩]) ∧
    Yields (exec .insertClosed s) (fun t =>
      t.hw = { s.hw with inputOn := true } ∧ (s.dev.powered = true → t.n .hwHwInsert = 1) ∧
      t = (s.withHw t.hw).withPts t.pts ∧ SamePoints s t [⟨.hwHwInsert, 0, 0⟩, ⟨.pairEligible, 0, 0⟩])

/-- R405, R406, R410, R412, R414 to R416, R421, R427 and R54: what a pair's link brings: a stream of frames for the counterfoil's ends, or its
absence; a relayed block acts as the same block at the partner's end; forwarded commands wait; an input message feeds the lanes or is
kept, and without one the epoch is unfed; a hash message carries the principal's mode and generation; a time message the offset. -/
def Obligations.PairMessages : Prop :=
  ∀ s : State, s.up = true →
    (∀ frames, s.n .pairRole = 2 → s.pair.joined = true → s.n .hwHwInsert = 1 → Yields (exec (.endBStream frames) s) fun t =>
      t.pair = { s.pair with endsIdle := false, streamed := true, lastStream := s.epoch, silent := [] } ∧
      (∀ e ∈ frames, Out.frame e.1 s.ownEnd (s.streamFrame e.2) (frameWire (s.streamFrame e.2)) ∈ t.out) ∧
      (∀ r f, frames = [(r, f)] → (t.rnd r).range s.ownEnd = (if f.linkup then none else some (f.lo, f.hi)) ∧
        (f.linkup = false → t.n .rndState r = 6 ∧ t.n .rndLate r = (if f.offset = 2 then 1 else 0) ∧
          t.w .pairGeneration 0 0 = Word.ofNat f.generation)) ∧
      t = ((((s.withPts t.pts).withPair t.pair).withRnds t.rnds).withHost { s.host with msixPend := t.host.msixPend }).withOut t.out ∧
      (∀ r, (∀ e ∈ frames, e.1.val ≠ r) → t.rnd r = s.rnd r)) ∧
    (s.n .pairRole = 2 → s.pair.streamed = false → Yields (exec .endBStreamAbsent s) fun t =>
      t.pair = { s.pair with endsIdle := true } ∧ (s.pair.endsIdle = false → ∀ r, r < 16 → Out.endIdle r s.ownEnd ∈ t.out) ∧
      t = (s.withPair t.pair).withOut t.out) ∧
    (∀ (r : RoundNo) (e : End) (time : Nat), s.n .pairRole ≠ 0 → s.pair.heard = true →
      (∀ pos bytes, ¬(s.mode = 7 ∧ s.rep.phase = 2) → slotOk bytes = true →
        Yields (exec (.slotRelay r e (.slot pos (bytes.take 14)) time) s) fun t => exec (.upstreamSlot r e 0 bytes time) s = .next t) ∧
      Yields (exec (.slotRelay r e .close time) s) (fun t => exec (.upstreamClosure r e time) s = .next t) ∧
      (∀ (pos : Fin 256) tag status vals crc, Yields (exec (.slotRelay r e (.slow pos tag status vals crc) time) s) fun t =>
        exec (.slowResp r pos tag status ⟨vals, crc⟩) s = .next t) ∧
      (∀ (pos : Fin 256) serial versions placed ok, Yields (exec (.slotRelay r e (.discovery pos serial versions placed ok) time) s)
        fun t => exec (.report r e pos (.discovery serial versions placed ok)) s = .next t) ∧
      (∀ (pos : Fin 256) bytes, Yields (exec (.slotRelay r e (.cls pos bytes) time) s) fun t =>
        exec (.report r e pos (.cls bytes)) s = .next t) ∧
      (∀ (pos : Fin 256) rtt, Yields (exec (.slotRelay r e (.echo pos rtt) time) s) fun t => exec (.echoRet r e pos rtt) s = .next t) ∧
      (∀ (pos : Fin 256) port, Yields (exec (.slotRelay r e (.brk pos port) time) s) fun t =>
        exec (.breakBlock r e pos port) s = .next t)) ∧
    (∀ no epoch tag (agent : Agent) (ring : Fin 8) op, s.n .pairRole = 2 → s.pair.joined = true →
      Yields (exec (.commandForward no epoch tag agent ring op) s) fun t =>
        (∃ c, t.pair.fwd = s.pair.fwd ++ [c] ∧ c.op = op ∧ c.epoch = epoch ∧ c.agent = agentNo agent ∧ c.ring = ring.val ∧ c.hdr.tag = tag ∧
          c.id = 2 ^ 64 + no) ∧ t = s.withPair { s.pair with fwd := t.pair.fwd }) ∧
    (∀ secs verdicts nos, s.n .pairRole = 2 → s.pair.joined = true → s.pair.fed = false → s.pair.unfed = false →
      Yields (exec (.inputMessage s.epoch secs verdicts nos) s) fun t =>
        t.pair.fed = true ∧ (s.n .pairProtection = 1 → t = s.withPair { s.pair with fed := true }) ∧
        (s.n .pairProtection = 0 → t.dev.hostLost = s.dev.hostLost ∧
          ∀ c ∈ t.pair.fwd, nos.any (fun n => c.id == 2 ^ 64 + n) = false) ∧
        (2 ≤ s.n .pairProtection → s.pair.resync ≠ 2 → t.pair.stored.length = min 2400 (s.pair.stored.length + 1) ∧
          (∃ m, t.pair.stored.getLast? = some m ∧ m.epoch = s.epoch ∧ m.nos = nos) ∧
          t = s.withPair { s.pair with fed := true, stored := t.pair.stored })) ∧
    (s.n .pairRole = 2 → s.pair.joined = true → s.pair.fed = false → s.pair.unfed = false → Yields (exec .unfedEpoch s) fun t =>
      t.pair.unfed = true ∧ t.jrn.hashes = emptyHashes ∧
      t = (s.withPair { s.pair with unfed := true }).withJrn { s.jrn with hashes := emptyHashes, inputs := [s.secDevice] }) ∧
    (∀ (epoch : Nat) (hash : BitVec 64) (mode : Fin 8) (gen : BitVec 16) (prot : Fin 4), s.n .pairRole ≠ 0 →
      Yields (exec (.hashMessage epoch hash mode gen prot) s) fun t =>
        t.pair.heard = true ∧ t.pair.heardAt = s.epoch ∧ t.pair.lastHash = s.epoch ∧ t.pair.partnerGen = gen.toNat ∧
        (s.n .pairRole = 1 → newerGen gen.toNat (s.n .pairGeneration) = true → Demoted s t) ∧
        (s.n .pairRole = 2 → t.n .pairRole = 2 ∧
          (s.pair.joined = true → ¬(s.mode = 6 ∧ ¬(s.dev.stoA = true ∧ s.dev.stoB = true)) → t.mode = mode) ∧
          (s.pair.joined = false → t.mode = s.mode))) ∧
    (∀ (offset : Int) (lp : Nat), s.n .pairRole ≠ 0 → Yields (exec (.timeMessage offset lp) s) fun t =>
      t.w .pairLinkNs 0 0 = Word.ofNat lp ∧ t.pair = { s.pair with heard := true, heardAt := s.epoch } ∧
      (s.n .pairRole = 2 → t.w .pairTimeOffsetNs 0 0 = Word.ofInt (satS32 offset) ∧ t.clk.slewLeft = offset * 1000 ∧
        t.w .devTimeErrorNs 0 0 = Word.ofInt (satS32 offset) ∧ t.clk.srcAt = s.now) ∧
      (s.n .pairRole ≠ 2 → t.w .pairTimeOffsetNs 0 0 = 0 ∧ t.clk = s.clk) ∧
      t.rest = ((s.withPair t.pair).withClk t.clk).rest ∧
      QuietPoints s t [⟨.pairLinkNs, 0, 0⟩, ⟨.pairTimeOffsetNs, 0, 0⟩, ⟨.devTimeErrorNs, 0, 0⟩, ⟨.devTimeState, 0, 0⟩])

/-- R405, R417, R418, R422 and Table 14.4: a pair's link is lost after two silent epochs or when it is slow; a state is kept while it can be
read; a transfer completes the resynchronisation's first part; 8 ms after a cold takeover the drives resume from their load torque. -/
def Obligations.PairLinkAndTransfers : Prop :=
  ∀ s : State,
    (s.up = true → s.n .pairRole = 1 ∨ s.n .pairRole = 2 → s.pair.heard = true → s.pair.heardAt + 2 ≤ s.epoch →
      Yields (exec .pairLinkLost s) (LinkGone s)) ∧
    (∀ lp, s.up = true → s.n .pairRole = 1 ∨ s.n .pairRole = 2 → s.pair.heard = true → 400 < lp →
      Yields (exec (.pairLinkSlow lp) s) fun t => LinkGone s t ∧ t.w .pairLinkNs 0 0 = Word.ofNat lp) ∧
    (∀ epoch pts image, s.up = true → s.n .pairRole = 2 → s.pair.joined = true →
      Yields (exec (.stateEnvelope epoch true pts image) s) (fun t =>
        t.pair.image = some { epoch := epoch, pts := pts, image := image } ∧ t.pair.imageAt = s.captureTime epoch ∧
        t.pair.fwd = s.pair.fwd.filter (fun c => decide (epoch < c.epoch)) ∧
        t.w .pairWarmAgeMs 0 0 = Word.ofNat ((s.now - s.captureTime epoch) / 1000000) ∧
        t = (s.withPts t.pts).withPair t.pair ∧ SamePoints s t [⟨.pairWarmAgeMs, 0, 0⟩, ⟨.pairEligible, 0, 0⟩]) ∧
      Yields (exec (.stateEnvelope epoch false pts image) s) (fun t =>
        t.pair = { s.pair with image := none } ∧ t.n .pairProtection = 2 ∧
        t.rest = ((s.withPair t.pair).withHost { s.host with msixPend := t.host.msixPend }).rest ∧
        QuietPoints s t [⟨.pairProtection, 0, 0⟩, ⟨.pairEligible, 0, 0⟩])) ∧
    (∀ epoch pts image, s.up = true → s.n .pairRole = 1 ∨ s.n .pairRole = 2 → s.pair.joined = true →
      Yields (exec (.resyncTransferDone epoch pts image) s) fun t =>
        t.pair.resync = 2 ∧
        (∀ f ∈ s.host.fins, f.wait = .resync → { f with status := 0, item := noItem, value := 0, wait := .ready } ∈ t.host.fins) ∧
        (s.n .pairRole = 2 →
          t.pair.image = some { epoch := epoch, pts := pts, image := image } ∧ t.pair.stored = s.pair.stored.filter (fun m => decide (epoch < m.epoch)) ∧
          t.drvs = image.drvs ∧ t.engs = image.engs ∧ t.jrn.ckptDue = true) ∧
        (s.n .pairRole = 1 → t.pts = s.pts ∧ t.drvs = s.drvs)) ∧
    (∀ a, s.pair.blockUntil = some a → a ≤ s.now → Yields (exec .warmTakeoverResume s) fun t =>
      t.pair = { s.pair with blockUntil := none } ∧
      (∀ d ∈ s.drives, (t.drv d).preset = true ∧ (t.drv d).tEff = s.tPct d (s.drv d).tlHat) ∧
      (∀ d, d ∉ s.drives → t.drv d = s.drv d) ∧ t = (s.withPair t.pair).withDrvs t.drvs)

/-- A step takes the command at the front of the queue and runs it with the queue's rest. On an empty queue the block idles, which is the
model's choice (log entry 1). -/
def Obligations.StepRunsTheFrontCommand : Prop :=
  (∀ (c : Instr) (rest : List Instr) (s : State), step { s with pending := c :: rest } = exec c { s with pending := rest }) ∧
  (∀ s : State, s.pending = [] → step s = .next s)

/-- R8, R302, R356 and Table 11.3: at reset nothing waits and nothing runs: no power, every point at the value of its table, no ring enabled, no
interrupt source enabled, and the points in canonical form. R75: the permit register holds a value that it can hold (which one is the
model's choice, log entry 2). -/
def Obligations.ResetLeaves : Prop :=
  State.reset.pending = [] ∧ State.reset.dev.powered = false ∧ State.reset.clk.running = false ∧ State.reset.epoch = 0 ∧
  State.reset.canonical = true ∧ State.reset.PermitLegal ∧
  (∀ f i j, State.reset.w f i j = ptDflt ⟨f, i, j⟩) ∧ (∀ k, (State.reset.ring k).enable = false) ∧
  (∀ id, (State.reset.src id).enabled = false ∧ (State.reset.src id).pending = false) ∧ (∀ d, (State.reset.drv d).causes = 0)

/-- R36, R75, R355, R499, R518 and Table 2.1: what hardly any command may touch. No command touches the queue; the permit register changes at
epoch boundaries, where it steps, and at power good only; keys are fused by OTP_FUSE only; the strap is sampled at power good only; power
comes and goes by POWER_GOOD and POWER_LOST; the epoch counter moves by one, at boundaries, and otherwise only with power, at a reset and
when a counterfoil joins; the place in the epoch and the committed copy of the points change by the commands of the timeline. -/
def Obligations.WhatCommandsMayTouch : Prop :=
  ∀ (c : Instr) (s t : State), exec c s = .next t →
    t.pending = s.pending ∧
    (touchesPermit c = false → t.dev.permit = s.dev.permit) ∧
    (∀ smp, c = .epochBoundary smp → t.dev.permit = s.dev.permit ∨ t.dev.permit = lfsrStep s.dev.permit) ∧
    (∀ p b l, c = .powerGood p b l → t.dev.permit = s.dev.permit ∨ t.dev.permit = p.toNat) ∧
    ((∀ i, c ≠ .otpFuse i) → t.hw.keys = s.hw.keys) ∧
    ((∀ p b l, c ≠ .powerGood p b l) → t.hw.posB = s.hw.posB) ∧
    ((∀ p b l, c ≠ .powerGood p b l) → c ≠ .powerLost → t.dev.powered = s.dev.powered) ∧
    (touchesEpoch c = false → t.epoch = s.epoch) ∧
    (∀ smp, c = .epochBoundary smp → t.epoch = s.epoch ∨ t.epoch = s.epoch + 1 ∨ (s.clk.started = false ∧ t.epoch = 0)) ∧
    (touchesPhase c = false → t.clk.phase = s.clk.phase) ∧
    (touchesLedger c = false → t.led = s.led)

/-- R75: the permit register is a 48-bit register whose feedback never lets it reach 0: every step, whatever the command at the front of
the queue, keeps it so. -/
def Obligations.PermitRegisterNeverStops : Prop :=
  ∀ s t : State, s.PermitLegal → step s = .next t → t.PermitLegal


/-- R57, R298, R301, R307 to R309, R311, R314, R317, R319, R321, R322, R324, R325, R351, R397, R437, R438, R440, R456, R457, R482 and Tables
10.2 and 10.4: each command on a mode, an agent, a Safe cause, a session or a CAN object named here completes, with its own effect, in
every state in which its rule lets it act. A mode command does so while no entry into Safe or Halt has taken the epoch (R300). -/
def Obligations.CommandsOfModesAndAgentsComplete : Prop :=
  ∀ s : State,
    (∀ d : DriveNo, s.holdLapsed d = true → (s.shaftOf d = none ∨ ∃ g, s.shaftOf d = some g ∧ d.val ∈ s.shaftMembers g) →
      ∃ t, exec (.hostHoldExpired d) s = .next t ∧ t.n .drvHostState d = 2 ∧ (t.drv d).holdHost = none) ∧
    (∀ d : DriveNo, s.drives.contains d.val = true → s.n .drvHostState d = 3 → s.dev.hostLost = false →
      ∃ t, exec (.hostReclaim d) s = .next t ∧ t.n .drvHostState d = 0 ∧ t.n .drvHostReclaim d = 1 ∧ (t.drv d).preset = true) ∧
    (s.dev.modeTaken = false →
      (s.mode = 2 ∨ s.mode = 6 → ∃ t, exec .modeCmdConfigure s = .next t ∧ t.mode = 1 ∧ t.dev.tokenOn = false ∧ t.n .devModeCmd = 1) ∧
      (s.mode = 1 ∧ s.readyOk = true ∨ s.mode = 3 ∧ s.allAtRest = true ∧ s.dev.haltCmd = false ∨ s.mode = 6 ∧ s.readyOk = true →
        ∃ t, exec .modeCmdReady s = .next t ∧ t.mode = 2 ∧ t.dev.tokenOn = false ∧ t.n .devModeCmd = 2) ∧
      (s.mode = 2 ∧ s.dev.stoA = true ∧ s.dev.stoB = true ∧ s.n .devSafeCause = 0 ∨ s.mode = 4 ∧ s.dev.haltCmd = false ∨ s.mode = 5 →
        ∃ t, exec .modeCmdRun s = .next t ∧ t.mode = 3 ∧ t.dev.tokenOn = true ∧ t.n .devModeCmd = 3) ∧
      (∀ reason, s.mode = 3 → s.dev.haltCmd = false → s.n .devOverrideEnable = 1 → 0 < reason → reason < 2 ^ 32 →
        ∃ t, exec (.modeCmdOverride reason) s = .next t ∧ t.mode = 4 ∧ t.dev.tokenOn = true ∧ t.n .devOverrideReason = reason) ∧
      (s.mode = 3 ∨ s.mode = 4 → ∃ t, exec .modeCmdHalt s = .next t ∧ t.mode = 5 ∧ t.dev.tokenOn = true ∧ t.dev.haltEpoch = s.epoch) ∧
      (s.mode = 1 ∨ s.mode = 2 → s.n .devWakeMask % 128 ≠ 0 →
        ∃ t, exec .modeCmdDormant s = .next t ∧ t.dev.sleepReq = true ∧ t.n .devModeCmd = 0 ∧ t.mode = s.mode) ∧
      (s.mode = 1 → s.dev.pdActive = true → s.jrn.exports = [] →
        ∃ t, exec .modeCmdReplay s = .next t ∧ t.mode = 7 ∧ t.dev.tokenOn = false ∧ t.rep.phase = 1)) ∧
    (∀ fired, s.dev.sleepReq = true → s.mode = 1 ∨ s.mode = 2 → s.wakeBits fired = 0 →
      ∃ t, exec (.sleepEffective fired) s = .next t ∧ t.mode = 0 ∧ t.dev.sleepReq = false) ∧
    (s.up = true →
      (s.dev.supUp = true → ∃ t, exec .supWdt s = .next t ∧ t.dev.supUp = false ∧ (t.core 0).stack = [] ∧ (t.core 1).stack = []) ∧
      (s.dev.supUp = false → ∃ t, exec .supervisorRestarted s = .next t ∧ t.dev.supUp = true ∧ ∀ c ∈ t.host.pr, s.e0 ≤ c.epoch) ∧
      (s.dev.logicUp = true → s.n .devLogicWdtMs ≠ 0 → s.dev.logicBeat + msNs (s.n .devLogicWdtMs) ≤ s.now →
        ∃ t, exec .logicWdt s = .next t ∧ t.dev.logicUp = false ∧ (t.core 2).stack = [] ∧ (t.core 3).stack = []) ∧
      (s.dev.logicUp = false → ∃ t, exec .logicRestarted s = .next t ∧ t.dev.logicUp = true ∧ t.dev.logicBeat = s.now) ∧
      (s.dev.logicUp = true → ∃ t, exec .logicHeartbeat s = .next t ∧ t.dev.logicBeat = s.now ∧ t.dev.logicUp = true)) ∧
    (s.up = true → s.mode ≠ 7 →
      (∀ a b : Bool, ∃ t, exec (.stoChange a b) s = .next t ∧ t.dev.stoA = a ∧ t.dev.stoB = b ∧
        (s.dev.stoA = true → a = false → Arith.bit (t.n .devSafeCause) 0 = true ∧ t.dev.tokenOn = false)) ∧
      (∀ a, s.dev.stoDiffAt = some a → a + msNs (s.n .devStoDiscrepancyMs) < s.now → Arith.bit (s.n .devSafeCause) 2 = false →
        ∃ t, exec .stoDiscrepancy s = .next t ∧ Arith.bit (t.n .devSafeCause) 2 = true) ∧
      (∃ t, exec .d1TickLost s = .next t ∧ Arith.bit (t.n .devSafeCause) 3 = true ∧ t.dev.tokenOn = false) ∧
      (s.mode ≠ 0 → ∃ t, exec (.memoryError false) s = .next t ∧ Arith.bit (t.n .devSafeCause) 7 = true) ∧
      (s.mode ≠ 0 → s.n .pairRole = 1 →
        ∃ t, exec (.memoryError true) s = .next t ∧ t.pair.handover = some (s.epoch + 2, s.epoch) ∧ Out.pairSurrender (s.epoch + 2) true ∈ t.out) ∧
      (s.hw.vLow = 3 → ∃ t, exec .holdupExhausted s = .next t ∧ Arith.bit (t.n .devSafeCause) 6 = true) ∧
      (∀ n : Fin 8, Arith.bit s.hw.rails n = false →
        ∃ t, exec (.railFault n) s = .next t ∧ Arith.bit t.hw.rails n = true ∧ Arith.bit (t.n .devSafeCause) 6 = true)) ∧
    (s.endpointUp = true →
      (∃ t, exec .hostInterfaceReset s = .next t ∧ t.host.negState = 0 ∧ t.n .devHifVersion = 0) ∧
      (∃ t, exec .functionLevelReset s = .next t ∧ t.host.negState = 0 ∧ t.n .devHifVersion = 0)) ∧
    (∀ (c : CanNo) (o : ObjNo),
      (s.objSends c o = true → s.n .objPeriodMs (objIx c o) = 0 → ∃ t, exec (.canTxCmdSend c o) s = .next t ∧
        t.n .objTxCmd (objIx c o) = 1 ∧ SendDue s t c o (objBytes s.pts c o (s.n .objLen (objIx c o)))) ∧
      (∃ t, exec (.canTxCmdAbort c o) s = .next t ∧ t.n .objTxCmd (objIx c o) = 2 ∧ Arith.bit (t.n .objStatus (objIx c o)) 3 = false) ∧
      (∀ v : Fin 3, ∃ t, exec (.canModeWrite c v) s = .next t ∧ t.n .canMode c = v) ∧
      (s.n .canState c = 4 → ∃ t, exec (.canRecovered c) s = .next t ∧ t.n .canTec c = 0 ∧ t.n .canRec c = 0))
end

