-- ==== Sys2Proof/Laws/State.lean ====
section
/-!
SUPPORT. Laws/State.lean: reading a field after replacing a field, one lemma for each pair.
-/
namespace Sys2Proof.Machine

@[simp] theorem State.withPending_pending (s : State) (v : List Instr) : (s.withPending v).pending = v := rfl
@[simp] theorem State.withPending_clk (s : State) (v : List Instr) : (s.withPending v).clk = s.clk := rfl
@[simp] theorem State.withPending_pts (s : State) (v : List Instr) : (s.withPending v).pts = s.pts := rfl
@[simp] theorem State.withPending_led (s : State) (v : List Instr) : (s.withPending v).led = s.led := rfl
@[simp] theorem State.withPending_cep (s : State) (v : List Instr) : (s.withPending v).cep = s.cep := rfl
@[simp] theorem State.withPending_dev (s : State) (v : List Instr) : (s.withPending v).dev = s.dev := rfl
@[simp] theorem State.withPending_plant (s : State) (v : List Instr) : (s.withPending v).plant = s.plant := rfl
@[simp] theorem State.withPending_irq (s : State) (v : List Instr) : (s.withPending v).irq = s.irq := rfl
@[simp] theorem State.withPending_so (s : State) (v : List Instr) : (s.withPending v).so = s.so := rfl
@[simp] theorem State.withPending_guards (s : State) (v : List Instr) : (s.withPending v).guards = s.guards := rfl
@[simp] theorem State.withPending_levels (s : State) (v : List Instr) : (s.withPending v).levels = s.levels := rfl
@[simp] theorem State.withPending_host (s : State) (v : List Instr) : (s.withPending v).host = s.host := rfl
@[simp] theorem State.withPending_env (s : State) (v : List Instr) : (s.withPending v).env = s.env := rfl
@[simp] theorem State.withPending_jrn (s : State) (v : List Instr) : (s.withPending v).jrn = s.jrn := rfl
@[simp] theorem State.withPending_rep (s : State) (v : List Instr) : (s.withPending v).rep = s.rep := rfl
@[simp] theorem State.withPending_pair (s : State) (v : List Instr) : (s.withPending v).pair = s.pair := rfl
@[simp] theorem State.withPending_rnds (s : State) (v : List Instr) : (s.withPending v).rnds = s.rnds := rfl
@[simp] theorem State.withPending_cells (s : State) (v : List Instr) : (s.withPending v).cells = s.cells := rfl
@[simp] theorem State.withPending_drvs (s : State) (v : List Instr) : (s.withPending v).drvs = s.drvs := rfl
@[simp] theorem State.withPending_sets (s : State) (v : List Instr) : (s.withPending v).sets = s.sets := rfl
@[simp] theorem State.withPending_arms (s : State) (v : List Instr) : (s.withPending v).arms = s.arms := rfl
@[simp] theorem State.withPending_shafts (s : State) (v : List Instr) : (s.withPending v).shafts = s.shafts := rfl
@[simp] theorem State.withPending_powers (s : State) (v : List Instr) : (s.withPending v).powers = s.powers := rfl
@[simp] theorem State.withPending_fbs (s : State) (v : List Instr) : (s.withPending v).fbs = s.fbs := rfl
@[simp] theorem State.withPending_cmps (s : State) (v : List Instr) : (s.withPending v).cmps = s.cmps := rfl
@[simp] theorem State.withPending_ptOut (s : State) (v : List Instr) : (s.withPending v).ptOut = s.ptOut := rfl
@[simp] theorem State.withPending_tokens (s : State) (v : List Instr) : (s.withPending v).tokens = s.tokens := rfl
@[simp] theorem State.withPending_hw (s : State) (v : List Instr) : (s.withPending v).hw = s.hw := rfl
@[simp] theorem State.withPending_brs (s : State) (v : List Instr) : (s.withPending v).brs = s.brs := rfl
@[simp] theorem State.withPending_vaux (s : State) (v : List Instr) : (s.withPending v).vaux = s.vaux := rfl
@[simp] theorem State.withPending_engs (s : State) (v : List Instr) : (s.withPending v).engs = s.engs := rfl
@[simp] theorem State.withPending_axes (s : State) (v : List Instr) : (s.withPending v).axes = s.axes := rfl
@[simp] theorem State.withPending_cans (s : State) (v : List Instr) : (s.withPending v).cans = s.cans := rfl
@[simp] theorem State.withPending_free (s : State) (v : List Instr) : (s.withPending v).free = s.free := rfl
@[simp] theorem State.withPending_out (s : State) (v : List Instr) : (s.withPending v).out = s.out := rfl
@[simp] theorem State.withClk_pending (s : State) (v : Clock) : (s.withClk v).pending = s.pending := rfl
@[simp] theorem State.withClk_clk (s : State) (v : Clock) : (s.withClk v).clk = v := rfl
@[simp] theorem State.withClk_pts (s : State) (v : Clock) : (s.withClk v).pts = s.pts := rfl
@[simp] theorem State.withClk_led (s : State) (v : Clock) : (s.withClk v).led = s.led := rfl
@[simp] theorem State.withClk_cep (s : State) (v : Clock) : (s.withClk v).cep = s.cep := rfl
@[simp] theorem State.withClk_dev (s : State) (v : Clock) : (s.withClk v).dev = s.dev := rfl
@[simp] theorem State.withClk_plant (s : State) (v : Clock) : (s.withClk v).plant = s.plant := rfl
@[simp] theorem State.withClk_irq (s : State) (v : Clock) : (s.withClk v).irq = s.irq := rfl
@[simp] theorem State.withClk_so (s : State) (v : Clock) : (s.withClk v).so = s.so := rfl
@[simp] theorem State.withClk_guards (s : State) (v : Clock) : (s.withClk v).guards = s.guards := rfl
@[simp] theorem State.withClk_levels (s : State) (v : Clock) : (s.withClk v).levels = s.levels := rfl
@[simp] theorem State.withClk_host (s : State) (v : Clock) : (s.withClk v).host = s.host := rfl
@[simp] theorem State.withClk_env (s : State) (v : Clock) : (s.withClk v).env = s.env := rfl
@[simp] theorem State.withClk_jrn (s : State) (v : Clock) : (s.withClk v).jrn = s.jrn := rfl
@[simp] theorem State.withClk_rep (s : State) (v : Clock) : (s.withClk v).rep = s.rep := rfl
@[simp] theorem State.withClk_pair (s : State) (v : Clock) : (s.withClk v).pair = s.pair := rfl
@[simp] theorem State.withClk_rnds (s : State) (v : Clock) : (s.withClk v).rnds = s.rnds := rfl
@[simp] theorem State.withClk_cells (s : State) (v : Clock) : (s.withClk v).cells = s.cells := rfl
@[simp] theorem State.withClk_drvs (s : State) (v : Clock) : (s.withClk v).drvs = s.drvs := rfl
@[simp] theorem State.withClk_sets (s : State) (v : Clock) : (s.withClk v).sets = s.sets := rfl
@[simp] theorem State.withClk_arms (s : State) (v : Clock) : (s.withClk v).arms = s.arms := rfl
@[simp] theorem State.withClk_shafts (s : State) (v : Clock) : (s.withClk v).shafts = s.shafts := rfl
@[simp] theorem State.withClk_powers (s : State) (v : Clock) : (s.withClk v).powers = s.powers := rfl
@[simp] theorem State.withClk_fbs (s : State) (v : Clock) : (s.withClk v).fbs = s.fbs := rfl
@[simp] theorem State.withClk_cmps (s : State) (v : Clock) : (s.withClk v).cmps = s.cmps := rfl
@[simp] theorem State.withClk_ptOut (s : State) (v : Clock) : (s.withClk v).ptOut = s.ptOut := rfl
@[simp] theorem State.withClk_tokens (s : State) (v : Clock) : (s.withClk v).tokens = s.tokens := rfl
@[simp] theorem State.withClk_hw (s : State) (v : Clock) : (s.withClk v).hw = s.hw := rfl
@[simp] theorem State.withClk_brs (s : State) (v : Clock) : (s.withClk v).brs = s.brs := rfl
@[simp] theorem State.withClk_vaux (s : State) (v : Clock) : (s.withClk v).vaux = s.vaux := rfl
@[simp] theorem State.withClk_engs (s : State) (v : Clock) : (s.withClk v).engs = s.engs := rfl
@[simp] theorem State.withClk_axes (s : State) (v : Clock) : (s.withClk v).axes = s.axes := rfl
@[simp] theorem State.withClk_cans (s : State) (v : Clock) : (s.withClk v).cans = s.cans := rfl
@[simp] theorem State.withClk_free (s : State) (v : Clock) : (s.withClk v).free = s.free := rfl
@[simp] theorem State.withClk_out (s : State) (v : Clock) : (s.withClk v).out = s.out := rfl
@[simp] theorem State.withPts_pending (s : State) (v : Store) : (s.withPts v).pending = s.pending := rfl
@[simp] theorem State.withPts_clk (s : State) (v : Store) : (s.withPts v).clk = s.clk := rfl
@[simp] theorem State.withPts_pts (s : State) (v : Store) : (s.withPts v).pts = v := rfl
@[simp] theorem State.withPts_led (s : State) (v : Store) : (s.withPts v).led = s.led := rfl
@[simp] theorem State.withPts_cep (s : State) (v : Store) : (s.withPts v).cep = s.cep := rfl
@[simp] theorem State.withPts_dev (s : State) (v : Store) : (s.withPts v).dev = s.dev := rfl
@[simp] theorem State.withPts_plant (s : State) (v : Store) : (s.withPts v).plant = s.plant := rfl
@[simp] theorem State.withPts_irq (s : State) (v : Store) : (s.withPts v).irq = s.irq := rfl
@[simp] theorem State.withPts_so (s : State) (v : Store) : (s.withPts v).so = s.so := rfl
@[simp] theorem State.withPts_guards (s : State) (v : Store) : (s.withPts v).guards = s.guards := rfl
@[simp] theorem State.withPts_levels (s : State) (v : Store) : (s.withPts v).levels = s.levels := rfl
@[simp] theorem State.withPts_host (s : State) (v : Store) : (s.withPts v).host = s.host := rfl
@[simp] theorem State.withPts_env (s : State) (v : Store) : (s.withPts v).env = s.env := rfl
@[simp] theorem State.withPts_jrn (s : State) (v : Store) : (s.withPts v).jrn = s.jrn := rfl
@[simp] theorem State.withPts_rep (s : State) (v : Store) : (s.withPts v).rep = s.rep := rfl
@[simp] theorem State.withPts_pair (s : State) (v : Store) : (s.withPts v).pair = s.pair := rfl
@[simp] theorem State.withPts_rnds (s : State) (v : Store) : (s.withPts v).rnds = s.rnds := rfl
@[simp] theorem State.withPts_cells (s : State) (v : Store) : (s.withPts v).cells = s.cells := rfl
@[simp] theorem State.withPts_drvs (s : State) (v : Store) : (s.withPts v).drvs = s.drvs := rfl
@[simp] theorem State.withPts_sets (s : State) (v : Store) : (s.withPts v).sets = s.sets := rfl
@[simp] theorem State.withPts_arms (s : State) (v : Store) : (s.withPts v).arms = s.arms := rfl
@[simp] theorem State.withPts_shafts (s : State) (v : Store) : (s.withPts v).shafts = s.shafts := rfl
@[simp] theorem State.withPts_powers (s : State) (v : Store) : (s.withPts v).powers = s.powers := rfl
@[simp] theorem State.withPts_fbs (s : State) (v : Store) : (s.withPts v).fbs = s.fbs := rfl
@[simp] theorem State.withPts_cmps (s : State) (v : Store) : (s.withPts v).cmps = s.cmps := rfl
@[simp] theorem State.withPts_ptOut (s : State) (v : Store) : (s.withPts v).ptOut = s.ptOut := rfl
@[simp] theorem State.withPts_tokens (s : State) (v : Store) : (s.withPts v).tokens = s.tokens := rfl
@[simp] theorem State.withPts_hw (s : State) (v : Store) : (s.withPts v).hw = s.hw := rfl
@[simp] theorem State.withPts_brs (s : State) (v : Store) : (s.withPts v).brs = s.brs := rfl
@[simp] theorem State.withPts_vaux (s : State) (v : Store) : (s.withPts v).vaux = s.vaux := rfl
@[simp] theorem State.withPts_engs (s : State) (v : Store) : (s.withPts v).engs = s.engs := rfl
@[simp] theorem State.withPts_axes (s : State) (v : Store) : (s.withPts v).axes = s.axes := rfl
@[simp] theorem State.withPts_cans (s : State) (v : Store) : (s.withPts v).cans = s.cans := rfl
@[simp] theorem State.withPts_free (s : State) (v : Store) : (s.withPts v).free = s.free := rfl
@[simp] theorem State.withPts_out (s : State) (v : Store) : (s.withPts v).out = s.out := rfl
@[simp] theorem State.withLed_pending (s : State) (v : Store) : (s.withLed v).pending = s.pending := rfl
@[simp] theorem State.withLed_clk (s : State) (v : Store) : (s.withLed v).clk = s.clk := rfl
@[simp] theorem State.withLed_pts (s : State) (v : Store) : (s.withLed v).pts = s.pts := rfl
@[simp] theorem State.withLed_led (s : State) (v : Store) : (s.withLed v).led = v := rfl
@[simp] theorem State.withLed_cep (s : State) (v : Store) : (s.withLed v).cep = s.cep := rfl
@[simp] theorem State.withLed_dev (s : State) (v : Store) : (s.withLed v).dev = s.dev := rfl
@[simp] theorem State.withLed_plant (s : State) (v : Store) : (s.withLed v).plant = s.plant := rfl
@[simp] theorem State.withLed_irq (s : State) (v : Store) : (s.withLed v).irq = s.irq := rfl
@[simp] theorem State.withLed_so (s : State) (v : Store) : (s.withLed v).so = s.so := rfl
@[simp] theorem State.withLed_guards (s : State) (v : Store) : (s.withLed v).guards = s.guards := rfl
@[simp] theorem State.withLed_levels (s : State) (v : Store) : (s.withLed v).levels = s.levels := rfl
@[simp] theorem State.withLed_host (s : State) (v : Store) : (s.withLed v).host = s.host := rfl
@[simp] theorem State.withLed_env (s : State) (v : Store) : (s.withLed v).env = s.env := rfl
@[simp] theorem State.withLed_jrn (s : State) (v : Store) : (s.withLed v).jrn = s.jrn := rfl
@[simp] theorem State.withLed_rep (s : State) (v : Store) : (s.withLed v).rep = s.rep := rfl
@[simp] theorem State.withLed_pair (s : State) (v : Store) : (s.withLed v).pair = s.pair := rfl
@[simp] theorem State.withLed_rnds (s : State) (v : Store) : (s.withLed v).rnds = s.rnds := rfl
@[simp] theorem State.withLed_cells (s : State) (v : Store) : (s.withLed v).cells = s.cells := rfl
@[simp] theorem State.withLed_drvs (s : State) (v : Store) : (s.withLed v).drvs = s.drvs := rfl
@[simp] theorem State.withLed_sets (s : State) (v : Store) : (s.withLed v).sets = s.sets := rfl
@[simp] theorem State.withLed_arms (s : State) (v : Store) : (s.withLed v).arms = s.arms := rfl
@[simp] theorem State.withLed_shafts (s : State) (v : Store) : (s.withLed v).shafts = s.shafts := rfl
@[simp] theorem State.withLed_powers (s : State) (v : Store) : (s.withLed v).powers = s.powers := rfl
@[simp] theorem State.withLed_fbs (s : State) (v : Store) : (s.withLed v).fbs = s.fbs := rfl
@[simp] theorem State.withLed_cmps (s : State) (v : Store) : (s.withLed v).cmps = s.cmps := rfl
@[simp] theorem State.withLed_ptOut (s : State) (v : Store) : (s.withLed v).ptOut = s.ptOut := rfl
@[simp] theorem State.withLed_tokens (s : State) (v : Store) : (s.withLed v).tokens = s.tokens := rfl
@[simp] theorem State.withLed_hw (s : State) (v : Store) : (s.withLed v).hw = s.hw := rfl
@[simp] theorem State.withLed_brs (s : State) (v : Store) : (s.withLed v).brs = s.brs := rfl
@[simp] theorem State.withLed_vaux (s : State) (v : Store) : (s.withLed v).vaux = s.vaux := rfl
@[simp] theorem State.withLed_engs (s : State) (v : Store) : (s.withLed v).engs = s.engs := rfl
@[simp] theorem State.withLed_axes (s : State) (v : Store) : (s.withLed v).axes = s.axes := rfl
@[simp] theorem State.withLed_cans (s : State) (v : Store) : (s.withLed v).cans = s.cans := rfl
@[simp] theorem State.withLed_free (s : State) (v : Store) : (s.withLed v).free = s.free := rfl
@[simp] theorem State.withLed_out (s : State) (v : Store) : (s.withLed v).out = s.out := rfl
@[simp] theorem State.withCep_pending (s : State) (v : List (Pt × Nat)) : (s.withCep v).pending = s.pending := rfl
@[simp] theorem State.withCep_clk (s : State) (v : List (Pt × Nat)) : (s.withCep v).clk = s.clk := rfl
@[simp] theorem State.withCep_pts (s : State) (v : List (Pt × Nat)) : (s.withCep v).pts = s.pts := rfl
@[simp] theorem State.withCep_led (s : State) (v : List (Pt × Nat)) : (s.withCep v).led = s.led := rfl
@[simp] theorem State.withCep_cep (s : State) (v : List (Pt × Nat)) : (s.withCep v).cep = v := rfl
@[simp] theorem State.withCep_dev (s : State) (v : List (Pt × Nat)) : (s.withCep v).dev = s.dev := rfl
@[simp] theorem State.withCep_plant (s : State) (v : List (Pt × Nat)) : (s.withCep v).plant = s.plant := rfl
@[simp] theorem State.withCep_irq (s : State) (v : List (Pt × Nat)) : (s.withCep v).irq = s.irq := rfl
@[simp] theorem State.withCep_so (s : State) (v : List (Pt × Nat)) : (s.withCep v).so = s.so := rfl
@[simp] theorem State.withCep_guards (s : State) (v : List (Pt × Nat)) : (s.withCep v).guards = s.guards := rfl
@[simp] theorem State.withCep_levels (s : State) (v : List (Pt × Nat)) : (s.withCep v).levels = s.levels := rfl
@[simp] theorem State.withCep_host (s : State) (v : List (Pt × Nat)) : (s.withCep v).host = s.host := rfl
@[simp] theorem State.withCep_env (s : State) (v : List (Pt × Nat)) : (s.withCep v).env = s.env := rfl
@[simp] theorem State.withCep_jrn (s : State) (v : List (Pt × Nat)) : (s.withCep v).jrn = s.jrn := rfl
@[simp] theorem State.withCep_rep (s : State) (v : List (Pt × Nat)) : (s.withCep v).rep = s.rep := rfl
@[simp] theorem State.withCep_pair (s : State) (v : List (Pt × Nat)) : (s.withCep v).pair = s.pair := rfl
@[simp] theorem State.withCep_rnds (s : State) (v : List (Pt × Nat)) : (s.withCep v).rnds = s.rnds := rfl
@[simp] theorem State.withCep_cells (s : State) (v : List (Pt × Nat)) : (s.withCep v).cells = s.cells := rfl
@[simp] theorem State.withCep_drvs (s : State) (v : List (Pt × Nat)) : (s.withCep v).drvs = s.drvs := rfl
@[simp] theorem State.withCep_sets (s : State) (v : List (Pt × Nat)) : (s.withCep v).sets = s.sets := rfl
@[simp] theorem State.withCep_arms (s : State) (v : List (Pt × Nat)) : (s.withCep v).arms = s.arms := rfl
@[simp] theorem State.withCep_shafts (s : State) (v : List (Pt × Nat)) : (s.withCep v).shafts = s.shafts := rfl
@[simp] theorem State.withCep_powers (s : State) (v : List (Pt × Nat)) : (s.withCep v).powers = s.powers := rfl
@[simp] theorem State.withCep_fbs (s : State) (v : List (Pt × Nat)) : (s.withCep v).fbs = s.fbs := rfl
@[simp] theorem State.withCep_cmps (s : State) (v : List (Pt × Nat)) : (s.withCep v).cmps = s.cmps := rfl
@[simp] theorem State.withCep_ptOut (s : State) (v : List (Pt × Nat)) : (s.withCep v).ptOut = s.ptOut := rfl
@[simp] theorem State.withCep_tokens (s : State) (v : List (Pt × Nat)) : (s.withCep v).tokens = s.tokens := rfl
@[simp] theorem State.withCep_hw (s : State) (v : List (Pt × Nat)) : (s.withCep v).hw = s.hw := rfl
@[simp] theorem State.withCep_brs (s : State) (v : List (Pt × Nat)) : (s.withCep v).brs = s.brs := rfl
@[simp] theorem State.withCep_vaux (s : State) (v : List (Pt × Nat)) : (s.withCep v).vaux = s.vaux := rfl
@[simp] theorem State.withCep_engs (s : State) (v : List (Pt × Nat)) : (s.withCep v).engs = s.engs := rfl
@[simp] theorem State.withCep_axes (s : State) (v : List (Pt × Nat)) : (s.withCep v).axes = s.axes := rfl
@[simp] theorem State.withCep_cans (s : State) (v : List (Pt × Nat)) : (s.withCep v).cans = s.cans := rfl
@[simp] theorem State.withCep_free (s : State) (v : List (Pt × Nat)) : (s.withCep v).free = s.free := rfl
@[simp] theorem State.withCep_out (s : State) (v : List (Pt × Nat)) : (s.withCep v).out = s.out := rfl
@[simp] theorem State.withDev_pending (s : State) (v : Dev) : (s.withDev v).pending = s.pending := rfl
@[simp] theorem State.withDev_clk (s : State) (v : Dev) : (s.withDev v).clk = s.clk := rfl
@[simp] theorem State.withDev_pts (s : State) (v : Dev) : (s.withDev v).pts = s.pts := rfl
@[simp] theorem State.withDev_led (s : State) (v : Dev) : (s.withDev v).led = s.led := rfl
@[simp] theorem State.withDev_cep (s : State) (v : Dev) : (s.withDev v).cep = s.cep := rfl
@[simp] theorem State.withDev_dev (s : State) (v : Dev) : (s.withDev v).dev = v := rfl
@[simp] theorem State.withDev_plant (s : State) (v : Dev) : (s.withDev v).plant = s.plant := rfl
@[simp] theorem State.withDev_irq (s : State) (v : Dev) : (s.withDev v).irq = s.irq := rfl
@[simp] theorem State.withDev_so (s : State) (v : Dev) : (s.withDev v).so = s.so := rfl
@[simp] theorem State.withDev_guards (s : State) (v : Dev) : (s.withDev v).guards = s.guards := rfl
@[simp] theorem State.withDev_levels (s : State) (v : Dev) : (s.withDev v).levels = s.levels := rfl
@[simp] theorem State.withDev_host (s : State) (v : Dev) : (s.withDev v).host = s.host := rfl
@[simp] theorem State.withDev_env (s : State) (v : Dev) : (s.withDev v).env = s.env := rfl
@[simp] theorem State.withDev_jrn (s : State) (v : Dev) : (s.withDev v).jrn = s.jrn := rfl
@[simp] theorem State.withDev_rep (s : State) (v : Dev) : (s.withDev v).rep = s.rep := rfl
@[simp] theorem State.withDev_pair (s : State) (v : Dev) : (s.withDev v).pair = s.pair := rfl
@[simp] theorem State.withDev_rnds (s : State) (v : Dev) : (s.withDev v).rnds = s.rnds := rfl
@[simp] theorem State.withDev_cells (s : State) (v : Dev) : (s.withDev v).cells = s.cells := rfl
@[simp] theorem State.withDev_drvs (s : State) (v : Dev) : (s.withDev v).drvs = s.drvs := rfl
@[simp] theorem State.withDev_sets (s : State) (v : Dev) : (s.withDev v).sets = s.sets := rfl
@[simp] theorem State.withDev_arms (s : State) (v : Dev) : (s.withDev v).arms = s.arms := rfl
@[simp] theorem State.withDev_shafts (s : State) (v : Dev) : (s.withDev v).shafts = s.shafts := rfl
@[simp] theorem State.withDev_powers (s : State) (v : Dev) : (s.withDev v).powers = s.powers := rfl
@[simp] theorem State.withDev_fbs (s : State) (v : Dev) : (s.withDev v).fbs = s.fbs := rfl
@[simp] theorem State.withDev_cmps (s : State) (v : Dev) : (s.withDev v).cmps = s.cmps := rfl
@[simp] theorem State.withDev_ptOut (s : State) (v : Dev) : (s.withDev v).ptOut = s.ptOut := rfl
@[simp] theorem State.withDev_tokens (s : State) (v : Dev) : (s.withDev v).tokens = s.tokens := rfl
@[simp] theorem State.withDev_hw (s : State) (v : Dev) : (s.withDev v).hw = s.hw := rfl
@[simp] theorem State.withDev_brs (s : State) (v : Dev) : (s.withDev v).brs = s.brs := rfl
@[simp] theorem State.withDev_vaux (s : State) (v : Dev) : (s.withDev v).vaux = s.vaux := rfl
@[simp] theorem State.withDev_engs (s : State) (v : Dev) : (s.withDev v).engs = s.engs := rfl
@[simp] theorem State.withDev_axes (s : State) (v : Dev) : (s.withDev v).axes = s.axes := rfl
@[simp] theorem State.withDev_cans (s : State) (v : Dev) : (s.withDev v).cans = s.cans := rfl
@[simp] theorem State.withDev_free (s : State) (v : Dev) : (s.withDev v).free = s.free := rfl
@[simp] theorem State.withDev_out (s : State) (v : Dev) : (s.withDev v).out = s.out := rfl
@[simp] theorem State.withPlant_pending (s : State) (v : Plant) : (s.withPlant v).pending = s.pending := rfl
@[simp] theorem State.withPlant_clk (s : State) (v : Plant) : (s.withPlant v).clk = s.clk := rfl
@[simp] theorem State.withPlant_pts (s : State) (v : Plant) : (s.withPlant v).pts = s.pts := rfl
@[simp] theorem State.withPlant_led (s : State) (v : Plant) : (s.withPlant v).led = s.led := rfl
@[simp] theorem State.withPlant_cep (s : State) (v : Plant) : (s.withPlant v).cep = s.cep := rfl
@[simp] theorem State.withPlant_dev (s : State) (v : Plant) : (s.withPlant v).dev = s.dev := rfl
@[simp] theorem State.withPlant_plant (s : State) (v : Plant) : (s.withPlant v).plant = v := rfl
@[simp] theorem State.withPlant_irq (s : State) (v : Plant) : (s.withPlant v).irq = s.irq := rfl
@[simp] theorem State.withPlant_so (s : State) (v : Plant) : (s.withPlant v).so = s.so := rfl
@[simp] theorem State.withPlant_guards (s : State) (v : Plant) : (s.withPlant v).guards = s.guards := rfl
@[simp] theorem State.withPlant_levels (s : State) (v : Plant) : (s.withPlant v).levels = s.levels := rfl
@[simp] theorem State.withPlant_host (s : State) (v : Plant) : (s.withPlant v).host = s.host := rfl
@[simp] theorem State.withPlant_env (s : State) (v : Plant) : (s.withPlant v).env = s.env := rfl
@[simp] theorem State.withPlant_jrn (s : State) (v : Plant) : (s.withPlant v).jrn = s.jrn := rfl
@[simp] theorem State.withPlant_rep (s : State) (v : Plant) : (s.withPlant v).rep = s.rep := rfl
@[simp] theorem State.withPlant_pair (s : State) (v : Plant) : (s.withPlant v).pair = s.pair := rfl
@[simp] theorem State.withPlant_rnds (s : State) (v : Plant) : (s.withPlant v).rnds = s.rnds := rfl
@[simp] theorem State.withPlant_cells (s : State) (v : Plant) : (s.withPlant v).cells = s.cells := rfl
@[simp] theorem State.withPlant_drvs (s : State) (v : Plant) : (s.withPlant v).drvs = s.drvs := rfl
@[simp] theorem State.withPlant_sets (s : State) (v : Plant) : (s.withPlant v).sets = s.sets := rfl
@[simp] theorem State.withPlant_arms (s : State) (v : Plant) : (s.withPlant v).arms = s.arms := rfl
@[simp] theorem State.withPlant_shafts (s : State) (v : Plant) : (s.withPlant v).shafts = s.shafts := rfl
@[simp] theorem State.withPlant_powers (s : State) (v : Plant) : (s.withPlant v).powers = s.powers := rfl
@[simp] theorem State.withPlant_fbs (s : State) (v : Plant) : (s.withPlant v).fbs = s.fbs := rfl
@[simp] theorem State.withPlant_cmps (s : State) (v : Plant) : (s.withPlant v).cmps = s.cmps := rfl
@[simp] theorem State.withPlant_ptOut (s : State) (v : Plant) : (s.withPlant v).ptOut = s.ptOut := rfl
@[simp] theorem State.withPlant_tokens (s : State) (v : Plant) : (s.withPlant v).tokens = s.tokens := rfl
@[simp] theorem State.withPlant_hw (s : State) (v : Plant) : (s.withPlant v).hw = s.hw := rfl
@[simp] theorem State.withPlant_brs (s : State) (v : Plant) : (s.withPlant v).brs = s.brs := rfl
@[simp] theorem State.withPlant_vaux (s : State) (v : Plant) : (s.withPlant v).vaux = s.vaux := rfl
@[simp] theorem State.withPlant_engs (s : State) (v : Plant) : (s.withPlant v).engs = s.engs := rfl
@[simp] theorem State.withPlant_axes (s : State) (v : Plant) : (s.withPlant v).axes = s.axes := rfl
@[simp] theorem State.withPlant_cans (s : State) (v : Plant) : (s.withPlant v).cans = s.cans := rfl
@[simp] theorem State.withPlant_free (s : State) (v : Plant) : (s.withPlant v).free = s.free := rfl
@[simp] theorem State.withPlant_out (s : State) (v : Plant) : (s.withPlant v).out = s.out := rfl
@[simp] theorem State.withIrq_pending (s : State) (v : Irq) : (s.withIrq v).pending = s.pending := rfl
@[simp] theorem State.withIrq_clk (s : State) (v : Irq) : (s.withIrq v).clk = s.clk := rfl
@[simp] theorem State.withIrq_pts (s : State) (v : Irq) : (s.withIrq v).pts = s.pts := rfl
@[simp] theorem State.withIrq_led (s : State) (v : Irq) : (s.withIrq v).led = s.led := rfl
@[simp] theorem State.withIrq_cep (s : State) (v : Irq) : (s.withIrq v).cep = s.cep := rfl
@[simp] theorem State.withIrq_dev (s : State) (v : Irq) : (s.withIrq v).dev = s.dev := rfl
@[simp] theorem State.withIrq_plant (s : State) (v : Irq) : (s.withIrq v).plant = s.plant := rfl
@[simp] theorem State.withIrq_irq (s : State) (v : Irq) : (s.withIrq v).irq = v := rfl
@[simp] theorem State.withIrq_so (s : State) (v : Irq) : (s.withIrq v).so = s.so := rfl
@[simp] theorem State.withIrq_guards (s : State) (v : Irq) : (s.withIrq v).guards = s.guards := rfl
@[simp] theorem State.withIrq_levels (s : State) (v : Irq) : (s.withIrq v).levels = s.levels := rfl
@[simp] theorem State.withIrq_host (s : State) (v : Irq) : (s.withIrq v).host = s.host := rfl
@[simp] theorem State.withIrq_env (s : State) (v : Irq) : (s.withIrq v).env = s.env := rfl
@[simp] theorem State.withIrq_jrn (s : State) (v : Irq) : (s.withIrq v).jrn = s.jrn := rfl
@[simp] theorem State.withIrq_rep (s : State) (v : Irq) : (s.withIrq v).rep = s.rep := rfl
@[simp] theorem State.withIrq_pair (s : State) (v : Irq) : (s.withIrq v).pair = s.pair := rfl
@[simp] theorem State.withIrq_rnds (s : State) (v : Irq) : (s.withIrq v).rnds = s.rnds := rfl
@[simp] theorem State.withIrq_cells (s : State) (v : Irq) : (s.withIrq v).cells = s.cells := rfl
@[simp] theorem State.withIrq_drvs (s : State) (v : Irq) : (s.withIrq v).drvs = s.drvs := rfl
@[simp] theorem State.withIrq_sets (s : State) (v : Irq) : (s.withIrq v).sets = s.sets := rfl
@[simp] theorem State.withIrq_arms (s : State) (v : Irq) : (s.withIrq v).arms = s.arms := rfl
@[simp] theorem State.withIrq_shafts (s : State) (v : Irq) : (s.withIrq v).shafts = s.shafts := rfl
@[simp] theorem State.withIrq_powers (s : State) (v : Irq) : (s.withIrq v).powers = s.powers := rfl
@[simp] theorem State.withIrq_fbs (s : State) (v : Irq) : (s.withIrq v).fbs = s.fbs := rfl
@[simp] theorem State.withIrq_cmps (s : State) (v : Irq) : (s.withIrq v).cmps = s.cmps := rfl
@[simp] theorem State.withIrq_ptOut (s : State) (v : Irq) : (s.withIrq v).ptOut = s.ptOut := rfl
@[simp] theorem State.withIrq_tokens (s : State) (v : Irq) : (s.withIrq v).tokens = s.tokens := rfl
@[simp] theorem State.withIrq_hw (s : State) (v : Irq) : (s.withIrq v).hw = s.hw := rfl
@[simp] theorem State.withIrq_brs (s : State) (v : Irq) : (s.withIrq v).brs = s.brs := rfl
@[simp] theorem State.withIrq_vaux (s : State) (v : Irq) : (s.withIrq v).vaux = s.vaux := rfl
@[simp] theorem State.withIrq_engs (s : State) (v : Irq) : (s.withIrq v).engs = s.engs := rfl
@[simp] theorem State.withIrq_axes (s : State) (v : Irq) : (s.withIrq v).axes = s.axes := rfl
@[simp] theorem State.withIrq_cans (s : State) (v : Irq) : (s.withIrq v).cans = s.cans := rfl
@[simp] theorem State.withIrq_free (s : State) (v : Irq) : (s.withIrq v).free = s.free := rfl
@[simp] theorem State.withIrq_out (s : State) (v : Irq) : (s.withIrq v).out = s.out := rfl
@[simp] theorem State.withSo_pending (s : State) (v : Sorting) : (s.withSo v).pending = s.pending := rfl
@[simp] theorem State.withSo_clk (s : State) (v : Sorting) : (s.withSo v).clk = s.clk := rfl
@[simp] theorem State.withSo_pts (s : State) (v : Sorting) : (s.withSo v).pts = s.pts := rfl
@[simp] theorem State.withSo_led (s : State) (v : Sorting) : (s.withSo v).led = s.led := rfl
@[simp] theorem State.withSo_cep (s : State) (v : Sorting) : (s.withSo v).cep = s.cep := rfl
@[simp] theorem State.withSo_dev (s : State) (v : Sorting) : (s.withSo v).dev = s.dev := rfl
@[simp] theorem State.withSo_plant (s : State) (v : Sorting) : (s.withSo v).plant = s.plant := rfl
@[simp] theorem State.withSo_irq (s : State) (v : Sorting) : (s.withSo v).irq = s.irq := rfl
@[simp] theorem State.withSo_so (s : State) (v : Sorting) : (s.withSo v).so = v := rfl
@[simp] theorem State.withSo_guards (s : State) (v : Sorting) : (s.withSo v).guards = s.guards := rfl
@[simp] theorem State.withSo_levels (s : State) (v : Sorting) : (s.withSo v).levels = s.levels := rfl
@[simp] theorem State.withSo_host (s : State) (v : Sorting) : (s.withSo v).host = s.host := rfl
@[simp] theorem State.withSo_env (s : State) (v : Sorting) : (s.withSo v).env = s.env := rfl
@[simp] theorem State.withSo_jrn (s : State) (v : Sorting) : (s.withSo v).jrn = s.jrn := rfl
@[simp] theorem State.withSo_rep (s : State) (v : Sorting) : (s.withSo v).rep = s.rep := rfl
@[simp] theorem State.withSo_pair (s : State) (v : Sorting) : (s.withSo v).pair = s.pair := rfl
@[simp] theorem State.withSo_rnds (s : State) (v : Sorting) : (s.withSo v).rnds = s.rnds := rfl
@[simp] theorem State.withSo_cells (s : State) (v : Sorting) : (s.withSo v).cells = s.cells := rfl
@[simp] theorem State.withSo_drvs (s : State) (v : Sorting) : (s.withSo v).drvs = s.drvs := rfl
@[simp] theorem State.withSo_sets (s : State) (v : Sorting) : (s.withSo v).sets = s.sets := rfl
@[simp] theorem State.withSo_arms (s : State) (v : Sorting) : (s.withSo v).arms = s.arms := rfl
@[simp] theorem State.withSo_shafts (s : State) (v : Sorting) : (s.withSo v).shafts = s.shafts := rfl
@[simp] theorem State.withSo_powers (s : State) (v : Sorting) : (s.withSo v).powers = s.powers := rfl
@[simp] theorem State.withSo_fbs (s : State) (v : Sorting) : (s.withSo v).fbs = s.fbs := rfl
@[simp] theorem State.withSo_cmps (s : State) (v : Sorting) : (s.withSo v).cmps = s.cmps := rfl
@[simp] theorem State.withSo_ptOut (s : State) (v : Sorting) : (s.withSo v).ptOut = s.ptOut := rfl
@[simp] theorem State.withSo_tokens (s : State) (v : Sorting) : (s.withSo v).tokens = s.tokens := rfl
@[simp] theorem State.withSo_hw (s : State) (v : Sorting) : (s.withSo v).hw = s.hw := rfl
@[simp] theorem State.withSo_brs (s : State) (v : Sorting) : (s.withSo v).brs = s.brs := rfl
@[simp] theorem State.withSo_vaux (s : State) (v : Sorting) : (s.withSo v).vaux = s.vaux := rfl
@[simp] theorem State.withSo_engs (s : State) (v : Sorting) : (s.withSo v).engs = s.engs := rfl
@[simp] theorem State.withSo_axes (s : State) (v : Sorting) : (s.withSo v).axes = s.axes := rfl
@[simp] theorem State.withSo_cans (s : State) (v : Sorting) : (s.withSo v).cans = s.cans := rfl
@[simp] theorem State.withSo_free (s : State) (v : Sorting) : (s.withSo v).free = s.free := rfl
@[simp] theorem State.withSo_out (s : State) (v : Sorting) : (s.withSo v).out = s.out := rfl
@[simp] theorem State.withGuards_pending (s : State) (v : Tab Guard) : (s.withGuards v).pending = s.pending := rfl
@[simp] theorem State.withGuards_clk (s : State) (v : Tab Guard) : (s.withGuards v).clk = s.clk := rfl
@[simp] theorem State.withGuards_pts (s : State) (v : Tab Guard) : (s.withGuards v).pts = s.pts := rfl
@[simp] theorem State.withGuards_led (s : State) (v : Tab Guard) : (s.withGuards v).led = s.led := rfl
@[simp] theorem State.withGuards_cep (s : State) (v : Tab Guard) : (s.withGuards v).cep = s.cep := rfl
@[simp] theorem State.withGuards_dev (s : State) (v : Tab Guard) : (s.withGuards v).dev = s.dev := rfl
@[simp] theorem State.withGuards_plant (s : State) (v : Tab Guard) : (s.withGuards v).plant = s.plant := rfl
@[simp] theorem State.withGuards_irq (s : State) (v : Tab Guard) : (s.withGuards v).irq = s.irq := rfl
@[simp] theorem State.withGuards_so (s : State) (v : Tab Guard) : (s.withGuards v).so = s.so := rfl
@[simp] theorem State.withGuards_guards (s : State) (v : Tab Guard) : (s.withGuards v).guards = v := rfl
@[simp] theorem State.withGuards_levels (s : State) (v : Tab Guard) : (s.withGuards v).levels = s.levels := rfl
@[simp] theorem State.withGuards_host (s : State) (v : Tab Guard) : (s.withGuards v).host = s.host := rfl
@[simp] theorem State.withGuards_env (s : State) (v : Tab Guard) : (s.withGuards v).env = s.env := rfl
@[simp] theorem State.withGuards_jrn (s : State) (v : Tab Guard) : (s.withGuards v).jrn = s.jrn := rfl
@[simp] theorem State.withGuards_rep (s : State) (v : Tab Guard) : (s.withGuards v).rep = s.rep := rfl
@[simp] theorem State.withGuards_pair (s : State) (v : Tab Guard) : (s.withGuards v).pair = s.pair := rfl
@[simp] theorem State.withGuards_rnds (s : State) (v : Tab Guard) : (s.withGuards v).rnds = s.rnds := rfl
@[simp] theorem State.withGuards_cells (s : State) (v : Tab Guard) : (s.withGuards v).cells = s.cells := rfl
@[simp] theorem State.withGuards_drvs (s : State) (v : Tab Guard) : (s.withGuards v).drvs = s.drvs := rfl
@[simp] theorem State.withGuards_sets (s : State) (v : Tab Guard) : (s.withGuards v).sets = s.sets := rfl
@[simp] theorem State.withGuards_arms (s : State) (v : Tab Guard) : (s.withGuards v).arms = s.arms := rfl
@[simp] theorem State.withGuards_shafts (s : State) (v : Tab Guard) : (s.withGuards v).shafts = s.shafts := rfl
@[simp] theorem State.withGuards_powers (s : State) (v : Tab Guard) : (s.withGuards v).powers = s.powers := rfl
@[simp] theorem State.withGuards_fbs (s : State) (v : Tab Guard) : (s.withGuards v).fbs = s.fbs := rfl
@[simp] theorem State.withGuards_cmps (s : State) (v : Tab Guard) : (s.withGuards v).cmps = s.cmps := rfl
@[simp] theorem State.withGuards_ptOut (s : State) (v : Tab Guard) : (s.withGuards v).ptOut = s.ptOut := rfl
@[simp] theorem State.withGuards_tokens (s : State) (v : Tab Guard) : (s.withGuards v).tokens = s.tokens := rfl
@[simp] theorem State.withGuards_hw (s : State) (v : Tab Guard) : (s.withGuards v).hw = s.hw := rfl
@[simp] theorem State.withGuards_brs (s : State) (v : Tab Guard) : (s.withGuards v).brs = s.brs := rfl
@[simp] theorem State.withGuards_vaux (s : State) (v : Tab Guard) : (s.withGuards v).vaux = s.vaux := rfl
@[simp] theorem State.withGuards_engs (s : State) (v : Tab Guard) : (s.withGuards v).engs = s.engs := rfl
@[simp] theorem State.withGuards_axes (s : State) (v : Tab Guard) : (s.withGuards v).axes = s.axes := rfl
@[simp] theorem State.withGuards_cans (s : State) (v : Tab Guard) : (s.withGuards v).cans = s.cans := rfl
@[simp] theorem State.withGuards_free (s : State) (v : Tab Guard) : (s.withGuards v).free = s.free := rfl
@[simp] theorem State.withGuards_out (s : State) (v : Tab Guard) : (s.withGuards v).out = s.out := rfl
@[simp] theorem State.withLevels_pending (s : State) (v : Tab Nat) : (s.withLevels v).pending = s.pending := rfl
@[simp] theorem State.withLevels_clk (s : State) (v : Tab Nat) : (s.withLevels v).clk = s.clk := rfl
@[simp] theorem State.withLevels_pts (s : State) (v : Tab Nat) : (s.withLevels v).pts = s.pts := rfl
@[simp] theorem State.withLevels_led (s : State) (v : Tab Nat) : (s.withLevels v).led = s.led := rfl
@[simp] theorem State.withLevels_cep (s : State) (v : Tab Nat) : (s.withLevels v).cep = s.cep := rfl
@[simp] theorem State.withLevels_dev (s : State) (v : Tab Nat) : (s.withLevels v).dev = s.dev := rfl
@[simp] theorem State.withLevels_plant (s : State) (v : Tab Nat) : (s.withLevels v).plant = s.plant := rfl
@[simp] theorem State.withLevels_irq (s : State) (v : Tab Nat) : (s.withLevels v).irq = s.irq := rfl
@[simp] theorem State.withLevels_so (s : State) (v : Tab Nat) : (s.withLevels v).so = s.so := rfl
@[simp] theorem State.withLevels_guards (s : State) (v : Tab Nat) : (s.withLevels v).guards = s.guards := rfl
@[simp] theorem State.withLevels_levels (s : State) (v : Tab Nat) : (s.withLevels v).levels = v := rfl
@[simp] theorem State.withLevels_host (s : State) (v : Tab Nat) : (s.withLevels v).host = s.host := rfl
@[simp] theorem State.withLevels_env (s : State) (v : Tab Nat) : (s.withLevels v).env = s.env := rfl
@[simp] theorem State.withLevels_jrn (s : State) (v : Tab Nat) : (s.withLevels v).jrn = s.jrn := rfl
@[simp] theorem State.withLevels_rep (s : State) (v : Tab Nat) : (s.withLevels v).rep = s.rep := rfl
@[simp] theorem State.withLevels_pair (s : State) (v : Tab Nat) : (s.withLevels v).pair = s.pair := rfl
@[simp] theorem State.withLevels_rnds (s : State) (v : Tab Nat) : (s.withLevels v).rnds = s.rnds := rfl
@[simp] theorem State.withLevels_cells (s : State) (v : Tab Nat) : (s.withLevels v).cells = s.cells := rfl
@[simp] theorem State.withLevels_drvs (s : State) (v : Tab Nat) : (s.withLevels v).drvs = s.drvs := rfl
@[simp] theorem State.withLevels_sets (s : State) (v : Tab Nat) : (s.withLevels v).sets = s.sets := rfl
@[simp] theorem State.withLevels_arms (s : State) (v : Tab Nat) : (s.withLevels v).arms = s.arms := rfl
@[simp] theorem State.withLevels_shafts (s : State) (v : Tab Nat) : (s.withLevels v).shafts = s.shafts := rfl
@[simp] theorem State.withLevels_powers (s : State) (v : Tab Nat) : (s.withLevels v).powers = s.powers := rfl
@[simp] theorem State.withLevels_fbs (s : State) (v : Tab Nat) : (s.withLevels v).fbs = s.fbs := rfl
@[simp] theorem State.withLevels_cmps (s : State) (v : Tab Nat) : (s.withLevels v).cmps = s.cmps := rfl
@[simp] theorem State.withLevels_ptOut (s : State) (v : Tab Nat) : (s.withLevels v).ptOut = s.ptOut := rfl
@[simp] theorem State.withLevels_tokens (s : State) (v : Tab Nat) : (s.withLevels v).tokens = s.tokens := rfl
@[simp] theorem State.withLevels_hw (s : State) (v : Tab Nat) : (s.withLevels v).hw = s.hw := rfl
@[simp] theorem State.withLevels_brs (s : State) (v : Tab Nat) : (s.withLevels v).brs = s.brs := rfl
@[simp] theorem State.withLevels_vaux (s : State) (v : Tab Nat) : (s.withLevels v).vaux = s.vaux := rfl
@[simp] theorem State.withLevels_engs (s : State) (v : Tab Nat) : (s.withLevels v).engs = s.engs := rfl
@[simp] theorem State.withLevels_axes (s : State) (v : Tab Nat) : (s.withLevels v).axes = s.axes := rfl
@[simp] theorem State.withLevels_cans (s : State) (v : Tab Nat) : (s.withLevels v).cans = s.cans := rfl
@[simp] theorem State.withLevels_free (s : State) (v : Tab Nat) : (s.withLevels v).free = s.free := rfl
@[simp] theorem State.withLevels_out (s : State) (v : Tab Nat) : (s.withLevels v).out = s.out := rfl
@[simp] theorem State.withHost_pending (s : State) (v : HostIf) : (s.withHost v).pending = s.pending := rfl
@[simp] theorem State.withHost_clk (s : State) (v : HostIf) : (s.withHost v).clk = s.clk := rfl
@[simp] theorem State.withHost_pts (s : State) (v : HostIf) : (s.withHost v).pts = s.pts := rfl
@[simp] theorem State.withHost_led (s : State) (v : HostIf) : (s.withHost v).led = s.led := rfl
@[simp] theorem State.withHost_cep (s : State) (v : HostIf) : (s.withHost v).cep = s.cep := rfl
@[simp] theorem State.withHost_dev (s : State) (v : HostIf) : (s.withHost v).dev = s.dev := rfl
@[simp] theorem State.withHost_plant (s : State) (v : HostIf) : (s.withHost v).plant = s.plant := rfl
@[simp] theorem State.withHost_irq (s : State) (v : HostIf) : (s.withHost v).irq = s.irq := rfl
@[simp] theorem State.withHost_so (s : State) (v : HostIf) : (s.withHost v).so = s.so := rfl
@[simp] theorem State.withHost_guards (s : State) (v : HostIf) : (s.withHost v).guards = s.guards := rfl
@[simp] theorem State.withHost_levels (s : State) (v : HostIf) : (s.withHost v).levels = s.levels := rfl
@[simp] theorem State.withHost_host (s : State) (v : HostIf) : (s.withHost v).host = v := rfl
@[simp] theorem State.withHost_env (s : State) (v : HostIf) : (s.withHost v).env = s.env := rfl
@[simp] theorem State.withHost_jrn (s : State) (v : HostIf) : (s.withHost v).jrn = s.jrn := rfl
@[simp] theorem State.withHost_rep (s : State) (v : HostIf) : (s.withHost v).rep = s.rep := rfl
@[simp] theorem State.withHost_pair (s : State) (v : HostIf) : (s.withHost v).pair = s.pair := rfl
@[simp] theorem State.withHost_rnds (s : State) (v : HostIf) : (s.withHost v).rnds = s.rnds := rfl
@[simp] theorem State.withHost_cells (s : State) (v : HostIf) : (s.withHost v).cells = s.cells := rfl
@[simp] theorem State.withHost_drvs (s : State) (v : HostIf) : (s.withHost v).drvs = s.drvs := rfl
@[simp] theorem State.withHost_sets (s : State) (v : HostIf) : (s.withHost v).sets = s.sets := rfl
@[simp] theorem State.withHost_arms (s : State) (v : HostIf) : (s.withHost v).arms = s.arms := rfl
@[simp] theorem State.withHost_shafts (s : State) (v : HostIf) : (s.withHost v).shafts = s.shafts := rfl
@[simp] theorem State.withHost_powers (s : State) (v : HostIf) : (s.withHost v).powers = s.powers := rfl
@[simp] theorem State.withHost_fbs (s : State) (v : HostIf) : (s.withHost v).fbs = s.fbs := rfl
@[simp] theorem State.withHost_cmps (s : State) (v : HostIf) : (s.withHost v).cmps = s.cmps := rfl
@[simp] theorem State.withHost_ptOut (s : State) (v : HostIf) : (s.withHost v).ptOut = s.ptOut := rfl
@[simp] theorem State.withHost_tokens (s : State) (v : HostIf) : (s.withHost v).tokens = s.tokens := rfl
@[simp] theorem State.withHost_hw (s : State) (v : HostIf) : (s.withHost v).hw = s.hw := rfl
@[simp] theorem State.withHost_brs (s : State) (v : HostIf) : (s.withHost v).brs = s.brs := rfl
@[simp] theorem State.withHost_vaux (s : State) (v : HostIf) : (s.withHost v).vaux = s.vaux := rfl
@[simp] theorem State.withHost_engs (s : State) (v : HostIf) : (s.withHost v).engs = s.engs := rfl
@[simp] theorem State.withHost_axes (s : State) (v : HostIf) : (s.withHost v).axes = s.axes := rfl
@[simp] theorem State.withHost_cans (s : State) (v : HostIf) : (s.withHost v).cans = s.cans := rfl
@[simp] theorem State.withHost_free (s : State) (v : HostIf) : (s.withHost v).free = s.free := rfl
@[simp] theorem State.withHost_out (s : State) (v : HostIf) : (s.withHost v).out = s.out := rfl
@[simp] theorem State.withEnv_pending (s : State) (v : Tab Tier) : (s.withEnv v).pending = s.pending := rfl
@[simp] theorem State.withEnv_clk (s : State) (v : Tab Tier) : (s.withEnv v).clk = s.clk := rfl
@[simp] theorem State.withEnv_pts (s : State) (v : Tab Tier) : (s.withEnv v).pts = s.pts := rfl
@[simp] theorem State.withEnv_led (s : State) (v : Tab Tier) : (s.withEnv v).led = s.led := rfl
@[simp] theorem State.withEnv_cep (s : State) (v : Tab Tier) : (s.withEnv v).cep = s.cep := rfl
@[simp] theorem State.withEnv_dev (s : State) (v : Tab Tier) : (s.withEnv v).dev = s.dev := rfl
@[simp] theorem State.withEnv_plant (s : State) (v : Tab Tier) : (s.withEnv v).plant = s.plant := rfl
@[simp] theorem State.withEnv_irq (s : State) (v : Tab Tier) : (s.withEnv v).irq = s.irq := rfl
@[simp] theorem State.withEnv_so (s : State) (v : Tab Tier) : (s.withEnv v).so = s.so := rfl
@[simp] theorem State.withEnv_guards (s : State) (v : Tab Tier) : (s.withEnv v).guards = s.guards := rfl
@[simp] theorem State.withEnv_levels (s : State) (v : Tab Tier) : (s.withEnv v).levels = s.levels := rfl
@[simp] theorem State.withEnv_host (s : State) (v : Tab Tier) : (s.withEnv v).host = s.host := rfl
@[simp] theorem State.withEnv_env (s : State) (v : Tab Tier) : (s.withEnv v).env = v := rfl
@[simp] theorem State.withEnv_jrn (s : State) (v : Tab Tier) : (s.withEnv v).jrn = s.jrn := rfl
@[simp] theorem State.withEnv_rep (s : State) (v : Tab Tier) : (s.withEnv v).rep = s.rep := rfl
@[simp] theorem State.withEnv_pair (s : State) (v : Tab Tier) : (s.withEnv v).pair = s.pair := rfl
@[simp] theorem State.withEnv_rnds (s : State) (v : Tab Tier) : (s.withEnv v).rnds = s.rnds := rfl
@[simp] theorem State.withEnv_cells (s : State) (v : Tab Tier) : (s.withEnv v).cells = s.cells := rfl
@[simp] theorem State.withEnv_drvs (s : State) (v : Tab Tier) : (s.withEnv v).drvs = s.drvs := rfl
@[simp] theorem State.withEnv_sets (s : State) (v : Tab Tier) : (s.withEnv v).sets = s.sets := rfl
@[simp] theorem State.withEnv_arms (s : State) (v : Tab Tier) : (s.withEnv v).arms = s.arms := rfl
@[simp] theorem State.withEnv_shafts (s : State) (v : Tab Tier) : (s.withEnv v).shafts = s.shafts := rfl
@[simp] theorem State.withEnv_powers (s : State) (v : Tab Tier) : (s.withEnv v).powers = s.powers := rfl
@[simp] theorem State.withEnv_fbs (s : State) (v : Tab Tier) : (s.withEnv v).fbs = s.fbs := rfl
@[simp] theorem State.withEnv_cmps (s : State) (v : Tab Tier) : (s.withEnv v).cmps = s.cmps := rfl
@[simp] theorem State.withEnv_ptOut (s : State) (v : Tab Tier) : (s.withEnv v).ptOut = s.ptOut := rfl
@[simp] theorem State.withEnv_tokens (s : State) (v : Tab Tier) : (s.withEnv v).tokens = s.tokens := rfl
@[simp] theorem State.withEnv_hw (s : State) (v : Tab Tier) : (s.withEnv v).hw = s.hw := rfl
@[simp] theorem State.withEnv_brs (s : State) (v : Tab Tier) : (s.withEnv v).brs = s.brs := rfl
@[simp] theorem State.withEnv_vaux (s : State) (v : Tab Tier) : (s.withEnv v).vaux = s.vaux := rfl
@[simp] theorem State.withEnv_engs (s : State) (v : Tab Tier) : (s.withEnv v).engs = s.engs := rfl
@[simp] theorem State.withEnv_axes (s : State) (v : Tab Tier) : (s.withEnv v).axes = s.axes := rfl
@[simp] theorem State.withEnv_cans (s : State) (v : Tab Tier) : (s.withEnv v).cans = s.cans := rfl
@[simp] theorem State.withEnv_free (s : State) (v : Tab Tier) : (s.withEnv v).free = s.free := rfl
@[simp] theorem State.withEnv_out (s : State) (v : Tab Tier) : (s.withEnv v).out = s.out := rfl
@[simp] theorem State.withJrn_pending (s : State) (v : Journal) : (s.withJrn v).pending = s.pending := rfl
@[simp] theorem State.withJrn_clk (s : State) (v : Journal) : (s.withJrn v).clk = s.clk := rfl
@[simp] theorem State.withJrn_pts (s : State) (v : Journal) : (s.withJrn v).pts = s.pts := rfl
@[simp] theorem State.withJrn_led (s : State) (v : Journal) : (s.withJrn v).led = s.led := rfl
@[simp] theorem State.withJrn_cep (s : State) (v : Journal) : (s.withJrn v).cep = s.cep := rfl
@[simp] theorem State.withJrn_dev (s : State) (v : Journal) : (s.withJrn v).dev = s.dev := rfl
@[simp] theorem State.withJrn_plant (s : State) (v : Journal) : (s.withJrn v).plant = s.plant := rfl
@[simp] theorem State.withJrn_irq (s : State) (v : Journal) : (s.withJrn v).irq = s.irq := rfl
@[simp] theorem State.withJrn_so (s : State) (v : Journal) : (s.withJrn v).so = s.so := rfl
@[simp] theorem State.withJrn_guards (s : State) (v : Journal) : (s.withJrn v).guards = s.guards := rfl
@[simp] theorem State.withJrn_levels (s : State) (v : Journal) : (s.withJrn v).levels = s.levels := rfl
@[simp] theorem State.withJrn_host (s : State) (v : Journal) : (s.withJrn v).host = s.host := rfl
@[simp] theorem State.withJrn_env (s : State) (v : Journal) : (s.withJrn v).env = s.env := rfl
@[simp] theorem State.withJrn_jrn (s : State) (v : Journal) : (s.withJrn v).jrn = v := rfl
@[simp] theorem State.withJrn_rep (s : State) (v : Journal) : (s.withJrn v).rep = s.rep := rfl
@[simp] theorem State.withJrn_pair (s : State) (v : Journal) : (s.withJrn v).pair = s.pair := rfl
@[simp] theorem State.withJrn_rnds (s : State) (v : Journal) : (s.withJrn v).rnds = s.rnds := rfl
@[simp] theorem State.withJrn_cells (s : State) (v : Journal) : (s.withJrn v).cells = s.cells := rfl
@[simp] theorem State.withJrn_drvs (s : State) (v : Journal) : (s.withJrn v).drvs = s.drvs := rfl
@[simp] theorem State.withJrn_sets (s : State) (v : Journal) : (s.withJrn v).sets = s.sets := rfl
@[simp] theorem State.withJrn_arms (s : State) (v : Journal) : (s.withJrn v).arms = s.arms := rfl
@[simp] theorem State.withJrn_shafts (s : State) (v : Journal) : (s.withJrn v).shafts = s.shafts := rfl
@[simp] theorem State.withJrn_powers (s : State) (v : Journal) : (s.withJrn v).powers = s.powers := rfl
@[simp] theorem State.withJrn_fbs (s : State) (v : Journal) : (s.withJrn v).fbs = s.fbs := rfl
@[simp] theorem State.withJrn_cmps (s : State) (v : Journal) : (s.withJrn v).cmps = s.cmps := rfl
@[simp] theorem State.withJrn_ptOut (s : State) (v : Journal) : (s.withJrn v).ptOut = s.ptOut := rfl
@[simp] theorem State.withJrn_tokens (s : State) (v : Journal) : (s.withJrn v).tokens = s.tokens := rfl
@[simp] theorem State.withJrn_hw (s : State) (v : Journal) : (s.withJrn v).hw = s.hw := rfl
@[simp] theorem State.withJrn_brs (s : State) (v : Journal) : (s.withJrn v).brs = s.brs := rfl
@[simp] theorem State.withJrn_vaux (s : State) (v : Journal) : (s.withJrn v).vaux = s.vaux := rfl
@[simp] theorem State.withJrn_engs (s : State) (v : Journal) : (s.withJrn v).engs = s.engs := rfl
@[simp] theorem State.withJrn_axes (s : State) (v : Journal) : (s.withJrn v).axes = s.axes := rfl
@[simp] theorem State.withJrn_cans (s : State) (v : Journal) : (s.withJrn v).cans = s.cans := rfl
@[simp] theorem State.withJrn_free (s : State) (v : Journal) : (s.withJrn v).free = s.free := rfl
@[simp] theorem State.withJrn_out (s : State) (v : Journal) : (s.withJrn v).out = s.out := rfl
@[simp] theorem State.withRep_pending (s : State) (v : Replay) : (s.withRep v).pending = s.pending := rfl
@[simp] theorem State.withRep_clk (s : State) (v : Replay) : (s.withRep v).clk = s.clk := rfl
@[simp] theorem State.withRep_pts (s : State) (v : Replay) : (s.withRep v).pts = s.pts := rfl
@[simp] theorem State.withRep_led (s : State) (v : Replay) : (s.withRep v).led = s.led := rfl
@[simp] theorem State.withRep_cep (s : State) (v : Replay) : (s.withRep v).cep = s.cep := rfl
@[simp] theorem State.withRep_dev (s : State) (v : Replay) : (s.withRep v).dev = s.dev := rfl
@[simp] theorem State.withRep_plant (s : State) (v : Replay) : (s.withRep v).plant = s.plant := rfl
@[simp] theorem State.withRep_irq (s : State) (v : Replay) : (s.withRep v).irq = s.irq := rfl
@[simp] theorem State.withRep_so (s : State) (v : Replay) : (s.withRep v).so = s.so := rfl
@[simp] theorem State.withRep_guards (s : State) (v : Replay) : (s.withRep v).guards = s.guards := rfl
@[simp] theorem State.withRep_levels (s : State) (v : Replay) : (s.withRep v).levels = s.levels := rfl
@[simp] theorem State.withRep_host (s : State) (v : Replay) : (s.withRep v).host = s.host := rfl
@[simp] theorem State.withRep_env (s : State) (v : Replay) : (s.withRep v).env = s.env := rfl
@[simp] theorem State.withRep_jrn (s : State) (v : Replay) : (s.withRep v).jrn = s.jrn := rfl
@[simp] theorem State.withRep_rep (s : State) (v : Replay) : (s.withRep v).rep = v := rfl
@[simp] theorem State.withRep_pair (s : State) (v : Replay) : (s.withRep v).pair = s.pair := rfl
@[simp] theorem State.withRep_rnds (s : State) (v : Replay) : (s.withRep v).rnds = s.rnds := rfl
@[simp] theorem State.withRep_cells (s : State) (v : Replay) : (s.withRep v).cells = s.cells := rfl
@[simp] theorem State.withRep_drvs (s : State) (v : Replay) : (s.withRep v).drvs = s.drvs := rfl
@[simp] theorem State.withRep_sets (s : State) (v : Replay) : (s.withRep v).sets = s.sets := rfl
@[simp] theorem State.withRep_arms (s : State) (v : Replay) : (s.withRep v).arms = s.arms := rfl
@[simp] theorem State.withRep_shafts (s : State) (v : Replay) : (s.withRep v).shafts = s.shafts := rfl
@[simp] theorem State.withRep_powers (s : State) (v : Replay) : (s.withRep v).powers = s.powers := rfl
@[simp] theorem State.withRep_fbs (s : State) (v : Replay) : (s.withRep v).fbs = s.fbs := rfl
@[simp] theorem State.withRep_cmps (s : State) (v : Replay) : (s.withRep v).cmps = s.cmps := rfl
@[simp] theorem State.withRep_ptOut (s : State) (v : Replay) : (s.withRep v).ptOut = s.ptOut := rfl
@[simp] theorem State.withRep_tokens (s : State) (v : Replay) : (s.withRep v).tokens = s.tokens := rfl
@[simp] theorem State.withRep_hw (s : State) (v : Replay) : (s.withRep v).hw = s.hw := rfl
@[simp] theorem State.withRep_brs (s : State) (v : Replay) : (s.withRep v).brs = s.brs := rfl
@[simp] theorem State.withRep_vaux (s : State) (v : Replay) : (s.withRep v).vaux = s.vaux := rfl
@[simp] theorem State.withRep_engs (s : State) (v : Replay) : (s.withRep v).engs = s.engs := rfl
@[simp] theorem State.withRep_axes (s : State) (v : Replay) : (s.withRep v).axes = s.axes := rfl
@[simp] theorem State.withRep_cans (s : State) (v : Replay) : (s.withRep v).cans = s.cans := rfl
@[simp] theorem State.withRep_free (s : State) (v : Replay) : (s.withRep v).free = s.free := rfl
@[simp] theorem State.withRep_out (s : State) (v : Replay) : (s.withRep v).out = s.out := rfl
@[simp] theorem State.withPair_pending (s : State) (v : PairSt) : (s.withPair v).pending = s.pending := rfl
@[simp] theorem State.withPair_clk (s : State) (v : PairSt) : (s.withPair v).clk = s.clk := rfl
@[simp] theorem State.withPair_pts (s : State) (v : PairSt) : (s.withPair v).pts = s.pts := rfl
@[simp] theorem State.withPair_led (s : State) (v : PairSt) : (s.withPair v).led = s.led := rfl
@[simp] theorem State.withPair_cep (s : State) (v : PairSt) : (s.withPair v).cep = s.cep := rfl
@[simp] theorem State.withPair_dev (s : State) (v : PairSt) : (s.withPair v).dev = s.dev := rfl
@[simp] theorem State.withPair_plant (s : State) (v : PairSt) : (s.withPair v).plant = s.plant := rfl
@[simp] theorem State.withPair_irq (s : State) (v : PairSt) : (s.withPair v).irq = s.irq := rfl
@[simp] theorem State.withPair_so (s : State) (v : PairSt) : (s.withPair v).so = s.so := rfl
@[simp] theorem State.withPair_guards (s : State) (v : PairSt) : (s.withPair v).guards = s.guards := rfl
@[simp] theorem State.withPair_levels (s : State) (v : PairSt) : (s.withPair v).levels = s.levels := rfl
@[simp] theorem State.withPair_host (s : State) (v : PairSt) : (s.withPair v).host = s.host := rfl
@[simp] theorem State.withPair_env (s : State) (v : PairSt) : (s.withPair v).env = s.env := rfl
@[simp] theorem State.withPair_jrn (s : State) (v : PairSt) : (s.withPair v).jrn = s.jrn := rfl
@[simp] theorem State.withPair_rep (s : State) (v : PairSt) : (s.withPair v).rep = s.rep := rfl
@[simp] theorem State.withPair_pair (s : State) (v : PairSt) : (s.withPair v).pair = v := rfl
@[simp] theorem State.withPair_rnds (s : State) (v : PairSt) : (s.withPair v).rnds = s.rnds := rfl
@[simp] theorem State.withPair_cells (s : State) (v : PairSt) : (s.withPair v).cells = s.cells := rfl
@[simp] theorem State.withPair_drvs (s : State) (v : PairSt) : (s.withPair v).drvs = s.drvs := rfl
@[simp] theorem State.withPair_sets (s : State) (v : PairSt) : (s.withPair v).sets = s.sets := rfl
@[simp] theorem State.withPair_arms (s : State) (v : PairSt) : (s.withPair v).arms = s.arms := rfl
@[simp] theorem State.withPair_shafts (s : State) (v : PairSt) : (s.withPair v).shafts = s.shafts := rfl
@[simp] theorem State.withPair_powers (s : State) (v : PairSt) : (s.withPair v).powers = s.powers := rfl
@[simp] theorem State.withPair_fbs (s : State) (v : PairSt) : (s.withPair v).fbs = s.fbs := rfl
@[simp] theorem State.withPair_cmps (s : State) (v : PairSt) : (s.withPair v).cmps = s.cmps := rfl
@[simp] theorem State.withPair_ptOut (s : State) (v : PairSt) : (s.withPair v).ptOut = s.ptOut := rfl
@[simp] theorem State.withPair_tokens (s : State) (v : PairSt) : (s.withPair v).tokens = s.tokens := rfl
@[simp] theorem State.withPair_hw (s : State) (v : PairSt) : (s.withPair v).hw = s.hw := rfl
@[simp] theorem State.withPair_brs (s : State) (v : PairSt) : (s.withPair v).brs = s.brs := rfl
@[simp] theorem State.withPair_vaux (s : State) (v : PairSt) : (s.withPair v).vaux = s.vaux := rfl
@[simp] theorem State.withPair_engs (s : State) (v : PairSt) : (s.withPair v).engs = s.engs := rfl
@[simp] theorem State.withPair_axes (s : State) (v : PairSt) : (s.withPair v).axes = s.axes := rfl
@[simp] theorem State.withPair_cans (s : State) (v : PairSt) : (s.withPair v).cans = s.cans := rfl
@[simp] theorem State.withPair_free (s : State) (v : PairSt) : (s.withPair v).free = s.free := rfl
@[simp] theorem State.withPair_out (s : State) (v : PairSt) : (s.withPair v).out = s.out := rfl
@[simp] theorem State.withRnds_pending (s : State) (v : Tab Rnd) : (s.withRnds v).pending = s.pending := rfl
@[simp] theorem State.withRnds_clk (s : State) (v : Tab Rnd) : (s.withRnds v).clk = s.clk := rfl
@[simp] theorem State.withRnds_pts (s : State) (v : Tab Rnd) : (s.withRnds v).pts = s.pts := rfl
@[simp] theorem State.withRnds_led (s : State) (v : Tab Rnd) : (s.withRnds v).led = s.led := rfl
@[simp] theorem State.withRnds_cep (s : State) (v : Tab Rnd) : (s.withRnds v).cep = s.cep := rfl
@[simp] theorem State.withRnds_dev (s : State) (v : Tab Rnd) : (s.withRnds v).dev = s.dev := rfl
@[simp] theorem State.withRnds_plant (s : State) (v : Tab Rnd) : (s.withRnds v).plant = s.plant := rfl
@[simp] theorem State.withRnds_irq (s : State) (v : Tab Rnd) : (s.withRnds v).irq = s.irq := rfl
@[simp] theorem State.withRnds_so (s : State) (v : Tab Rnd) : (s.withRnds v).so = s.so := rfl
@[simp] theorem State.withRnds_guards (s : State) (v : Tab Rnd) : (s.withRnds v).guards = s.guards := rfl
@[simp] theorem State.withRnds_levels (s : State) (v : Tab Rnd) : (s.withRnds v).levels = s.levels := rfl
@[simp] theorem State.withRnds_host (s : State) (v : Tab Rnd) : (s.withRnds v).host = s.host := rfl
@[simp] theorem State.withRnds_env (s : State) (v : Tab Rnd) : (s.withRnds v).env = s.env := rfl
@[simp] theorem State.withRnds_jrn (s : State) (v : Tab Rnd) : (s.withRnds v).jrn = s.jrn := rfl
@[simp] theorem State.withRnds_rep (s : State) (v : Tab Rnd) : (s.withRnds v).rep = s.rep := rfl
@[simp] theorem State.withRnds_pair (s : State) (v : Tab Rnd) : (s.withRnds v).pair = s.pair := rfl
@[simp] theorem State.withRnds_rnds (s : State) (v : Tab Rnd) : (s.withRnds v).rnds = v := rfl
@[simp] theorem State.withRnds_cells (s : State) (v : Tab Rnd) : (s.withRnds v).cells = s.cells := rfl
@[simp] theorem State.withRnds_drvs (s : State) (v : Tab Rnd) : (s.withRnds v).drvs = s.drvs := rfl
@[simp] theorem State.withRnds_sets (s : State) (v : Tab Rnd) : (s.withRnds v).sets = s.sets := rfl
@[simp] theorem State.withRnds_arms (s : State) (v : Tab Rnd) : (s.withRnds v).arms = s.arms := rfl
@[simp] theorem State.withRnds_shafts (s : State) (v : Tab Rnd) : (s.withRnds v).shafts = s.shafts := rfl
@[simp] theorem State.withRnds_powers (s : State) (v : Tab Rnd) : (s.withRnds v).powers = s.powers := rfl
@[simp] theorem State.withRnds_fbs (s : State) (v : Tab Rnd) : (s.withRnds v).fbs = s.fbs := rfl
@[simp] theorem State.withRnds_cmps (s : State) (v : Tab Rnd) : (s.withRnds v).cmps = s.cmps := rfl
@[simp] theorem State.withRnds_ptOut (s : State) (v : Tab Rnd) : (s.withRnds v).ptOut = s.ptOut := rfl
@[simp] theorem State.withRnds_tokens (s : State) (v : Tab Rnd) : (s.withRnds v).tokens = s.tokens := rfl
@[simp] theorem State.withRnds_hw (s : State) (v : Tab Rnd) : (s.withRnds v).hw = s.hw := rfl
@[simp] theorem State.withRnds_brs (s : State) (v : Tab Rnd) : (s.withRnds v).brs = s.brs := rfl
@[simp] theorem State.withRnds_vaux (s : State) (v : Tab Rnd) : (s.withRnds v).vaux = s.vaux := rfl
@[simp] theorem State.withRnds_engs (s : State) (v : Tab Rnd) : (s.withRnds v).engs = s.engs := rfl
@[simp] theorem State.withRnds_axes (s : State) (v : Tab Rnd) : (s.withRnds v).axes = s.axes := rfl
@[simp] theorem State.withRnds_cans (s : State) (v : Tab Rnd) : (s.withRnds v).cans = s.cans := rfl
@[simp] theorem State.withRnds_free (s : State) (v : Tab Rnd) : (s.withRnds v).free = s.free := rfl
@[simp] theorem State.withRnds_out (s : State) (v : Tab Rnd) : (s.withRnds v).out = s.out := rfl
@[simp] theorem State.withCells_pending (s : State) (v : Tab CellSt) : (s.withCells v).pending = s.pending := rfl
@[simp] theorem State.withCells_clk (s : State) (v : Tab CellSt) : (s.withCells v).clk = s.clk := rfl
@[simp] theorem State.withCells_pts (s : State) (v : Tab CellSt) : (s.withCells v).pts = s.pts := rfl
@[simp] theorem State.withCells_led (s : State) (v : Tab CellSt) : (s.withCells v).led = s.led := rfl
@[simp] theorem State.withCells_cep (s : State) (v : Tab CellSt) : (s.withCells v).cep = s.cep := rfl
@[simp] theorem State.withCells_dev (s : State) (v : Tab CellSt) : (s.withCells v).dev = s.dev := rfl
@[simp] theorem State.withCells_plant (s : State) (v : Tab CellSt) : (s.withCells v).plant = s.plant := rfl
@[simp] theorem State.withCells_irq (s : State) (v : Tab CellSt) : (s.withCells v).irq = s.irq := rfl
@[simp] theorem State.withCells_so (s : State) (v : Tab CellSt) : (s.withCells v).so = s.so := rfl
@[simp] theorem State.withCells_guards (s : State) (v : Tab CellSt) : (s.withCells v).guards = s.guards := rfl
@[simp] theorem State.withCells_levels (s : State) (v : Tab CellSt) : (s.withCells v).levels = s.levels := rfl
@[simp] theorem State.withCells_host (s : State) (v : Tab CellSt) : (s.withCells v).host = s.host := rfl
@[simp] theorem State.withCells_env (s : State) (v : Tab CellSt) : (s.withCells v).env = s.env := rfl
@[simp] theorem State.withCells_jrn (s : State) (v : Tab CellSt) : (s.withCells v).jrn = s.jrn := rfl
@[simp] theorem State.withCells_rep (s : State) (v : Tab CellSt) : (s.withCells v).rep = s.rep := rfl
@[simp] theorem State.withCells_pair (s : State) (v : Tab CellSt) : (s.withCells v).pair = s.pair := rfl
@[simp] theorem State.withCells_rnds (s : State) (v : Tab CellSt) : (s.withCells v).rnds = s.rnds := rfl
@[simp] theorem State.withCells_cells (s : State) (v : Tab CellSt) : (s.withCells v).cells = v := rfl
@[simp] theorem State.withCells_drvs (s : State) (v : Tab CellSt) : (s.withCells v).drvs = s.drvs := rfl
@[simp] theorem State.withCells_sets (s : State) (v : Tab CellSt) : (s.withCells v).sets = s.sets := rfl
@[simp] theorem State.withCells_arms (s : State) (v : Tab CellSt) : (s.withCells v).arms = s.arms := rfl
@[simp] theorem State.withCells_shafts (s : State) (v : Tab CellSt) : (s.withCells v).shafts = s.shafts := rfl
@[simp] theorem State.withCells_powers (s : State) (v : Tab CellSt) : (s.withCells v).powers = s.powers := rfl
@[simp] theorem State.withCells_fbs (s : State) (v : Tab CellSt) : (s.withCells v).fbs = s.fbs := rfl
@[simp] theorem State.withCells_cmps (s : State) (v : Tab CellSt) : (s.withCells v).cmps = s.cmps := rfl
@[simp] theorem State.withCells_ptOut (s : State) (v : Tab CellSt) : (s.withCells v).ptOut = s.ptOut := rfl
@[simp] theorem State.withCells_tokens (s : State) (v : Tab CellSt) : (s.withCells v).tokens = s.tokens := rfl
@[simp] theorem State.withCells_hw (s : State) (v : Tab CellSt) : (s.withCells v).hw = s.hw := rfl
@[simp] theorem State.withCells_brs (s : State) (v : Tab CellSt) : (s.withCells v).brs = s.brs := rfl
@[simp] theorem State.withCells_vaux (s : State) (v : Tab CellSt) : (s.withCells v).vaux = s.vaux := rfl
@[simp] theorem State.withCells_engs (s : State) (v : Tab CellSt) : (s.withCells v).engs = s.engs := rfl
@[simp] theorem State.withCells_axes (s : State) (v : Tab CellSt) : (s.withCells v).axes = s.axes := rfl
@[simp] theorem State.withCells_cans (s : State) (v : Tab CellSt) : (s.withCells v).cans = s.cans := rfl
@[simp] theorem State.withCells_free (s : State) (v : Tab CellSt) : (s.withCells v).free = s.free := rfl
@[simp] theorem State.withCells_out (s : State) (v : Tab CellSt) : (s.withCells v).out = s.out := rfl
@[simp] theorem State.withDrvs_pending (s : State) (v : Tab Drv) : (s.withDrvs v).pending = s.pending := rfl
@[simp] theorem State.withDrvs_clk (s : State) (v : Tab Drv) : (s.withDrvs v).clk = s.clk := rfl
@[simp] theorem State.withDrvs_pts (s : State) (v : Tab Drv) : (s.withDrvs v).pts = s.pts := rfl
@[simp] theorem State.withDrvs_led (s : State) (v : Tab Drv) : (s.withDrvs v).led = s.led := rfl
@[simp] theorem State.withDrvs_cep (s : State) (v : Tab Drv) : (s.withDrvs v).cep = s.cep := rfl
@[simp] theorem State.withDrvs_dev (s : State) (v : Tab Drv) : (s.withDrvs v).dev = s.dev := rfl
@[simp] theorem State.withDrvs_plant (s : State) (v : Tab Drv) : (s.withDrvs v).plant = s.plant := rfl
@[simp] theorem State.withDrvs_irq (s : State) (v : Tab Drv) : (s.withDrvs v).irq = s.irq := rfl
@[simp] theorem State.withDrvs_so (s : State) (v : Tab Drv) : (s.withDrvs v).so = s.so := rfl
@[simp] theorem State.withDrvs_guards (s : State) (v : Tab Drv) : (s.withDrvs v).guards = s.guards := rfl
@[simp] theorem State.withDrvs_levels (s : State) (v : Tab Drv) : (s.withDrvs v).levels = s.levels := rfl
@[simp] theorem State.withDrvs_host (s : State) (v : Tab Drv) : (s.withDrvs v).host = s.host := rfl
@[simp] theorem State.withDrvs_env (s : State) (v : Tab Drv) : (s.withDrvs v).env = s.env := rfl
@[simp] theorem State.withDrvs_jrn (s : State) (v : Tab Drv) : (s.withDrvs v).jrn = s.jrn := rfl
@[simp] theorem State.withDrvs_rep (s : State) (v : Tab Drv) : (s.withDrvs v).rep = s.rep := rfl
@[simp] theorem State.withDrvs_pair (s : State) (v : Tab Drv) : (s.withDrvs v).pair = s.pair := rfl
@[simp] theorem State.withDrvs_rnds (s : State) (v : Tab Drv) : (s.withDrvs v).rnds = s.rnds := rfl
@[simp] theorem State.withDrvs_cells (s : State) (v : Tab Drv) : (s.withDrvs v).cells = s.cells := rfl
@[simp] theorem State.withDrvs_drvs (s : State) (v : Tab Drv) : (s.withDrvs v).drvs = v := rfl
@[simp] theorem State.withDrvs_sets (s : State) (v : Tab Drv) : (s.withDrvs v).sets = s.sets := rfl
@[simp] theorem State.withDrvs_arms (s : State) (v : Tab Drv) : (s.withDrvs v).arms = s.arms := rfl
@[simp] theorem State.withDrvs_shafts (s : State) (v : Tab Drv) : (s.withDrvs v).shafts = s.shafts := rfl
@[simp] theorem State.withDrvs_powers (s : State) (v : Tab Drv) : (s.withDrvs v).powers = s.powers := rfl
@[simp] theorem State.withDrvs_fbs (s : State) (v : Tab Drv) : (s.withDrvs v).fbs = s.fbs := rfl
@[simp] theorem State.withDrvs_cmps (s : State) (v : Tab Drv) : (s.withDrvs v).cmps = s.cmps := rfl
@[simp] theorem State.withDrvs_ptOut (s : State) (v : Tab Drv) : (s.withDrvs v).ptOut = s.ptOut := rfl
@[simp] theorem State.withDrvs_tokens (s : State) (v : Tab Drv) : (s.withDrvs v).tokens = s.tokens := rfl
@[simp] theorem State.withDrvs_hw (s : State) (v : Tab Drv) : (s.withDrvs v).hw = s.hw := rfl
@[simp] theorem State.withDrvs_brs (s : State) (v : Tab Drv) : (s.withDrvs v).brs = s.brs := rfl
@[simp] theorem State.withDrvs_vaux (s : State) (v : Tab Drv) : (s.withDrvs v).vaux = s.vaux := rfl
@[simp] theorem State.withDrvs_engs (s : State) (v : Tab Drv) : (s.withDrvs v).engs = s.engs := rfl
@[simp] theorem State.withDrvs_axes (s : State) (v : Tab Drv) : (s.withDrvs v).axes = s.axes := rfl
@[simp] theorem State.withDrvs_cans (s : State) (v : Tab Drv) : (s.withDrvs v).cans = s.cans := rfl
@[simp] theorem State.withDrvs_free (s : State) (v : Tab Drv) : (s.withDrvs v).free = s.free := rfl
@[simp] theorem State.withDrvs_out (s : State) (v : Tab Drv) : (s.withDrvs v).out = s.out := rfl
@[simp] theorem State.withSets_pending (s : State) (v : Tab SetSt) : (s.withSets v).pending = s.pending := rfl
@[simp] theorem State.withSets_clk (s : State) (v : Tab SetSt) : (s.withSets v).clk = s.clk := rfl
@[simp] theorem State.withSets_pts (s : State) (v : Tab SetSt) : (s.withSets v).pts = s.pts := rfl
@[simp] theorem State.withSets_led (s : State) (v : Tab SetSt) : (s.withSets v).led = s.led := rfl
@[simp] theorem State.withSets_cep (s : State) (v : Tab SetSt) : (s.withSets v).cep = s.cep := rfl
@[simp] theorem State.withSets_dev (s : State) (v : Tab SetSt) : (s.withSets v).dev = s.dev := rfl
@[simp] theorem State.withSets_plant (s : State) (v : Tab SetSt) : (s.withSets v).plant = s.plant := rfl
@[simp] theorem State.withSets_irq (s : State) (v : Tab SetSt) : (s.withSets v).irq = s.irq := rfl
@[simp] theorem State.withSets_so (s : State) (v : Tab SetSt) : (s.withSets v).so = s.so := rfl
@[simp] theorem State.withSets_guards (s : State) (v : Tab SetSt) : (s.withSets v).guards = s.guards := rfl
@[simp] theorem State.withSets_levels (s : State) (v : Tab SetSt) : (s.withSets v).levels = s.levels := rfl
@[simp] theorem State.withSets_host (s : State) (v : Tab SetSt) : (s.withSets v).host = s.host := rfl
@[simp] theorem State.withSets_env (s : State) (v : Tab SetSt) : (s.withSets v).env = s.env := rfl
@[simp] theorem State.withSets_jrn (s : State) (v : Tab SetSt) : (s.withSets v).jrn = s.jrn := rfl
@[simp] theorem State.withSets_rep (s : State) (v : Tab SetSt) : (s.withSets v).rep = s.rep := rfl
@[simp] theorem State.withSets_pair (s : State) (v : Tab SetSt) : (s.withSets v).pair = s.pair := rfl
@[simp] theorem State.withSets_rnds (s : State) (v : Tab SetSt) : (s.withSets v).rnds = s.rnds := rfl
@[simp] theorem State.withSets_cells (s : State) (v : Tab SetSt) : (s.withSets v).cells = s.cells := rfl
@[simp] theorem State.withSets_drvs (s : State) (v : Tab SetSt) : (s.withSets v).drvs = s.drvs := rfl
@[simp] theorem State.withSets_sets (s : State) (v : Tab SetSt) : (s.withSets v).sets = v := rfl
@[simp] theorem State.withSets_arms (s : State) (v : Tab SetSt) : (s.withSets v).arms = s.arms := rfl
@[simp] theorem State.withSets_shafts (s : State) (v : Tab SetSt) : (s.withSets v).shafts = s.shafts := rfl
@[simp] theorem State.withSets_powers (s : State) (v : Tab SetSt) : (s.withSets v).powers = s.powers := rfl
@[simp] theorem State.withSets_fbs (s : State) (v : Tab SetSt) : (s.withSets v).fbs = s.fbs := rfl
@[simp] theorem State.withSets_cmps (s : State) (v : Tab SetSt) : (s.withSets v).cmps = s.cmps := rfl
@[simp] theorem State.withSets_ptOut (s : State) (v : Tab SetSt) : (s.withSets v).ptOut = s.ptOut := rfl
@[simp] theorem State.withSets_tokens (s : State) (v : Tab SetSt) : (s.withSets v).tokens = s.tokens := rfl
@[simp] theorem State.withSets_hw (s : State) (v : Tab SetSt) : (s.withSets v).hw = s.hw := rfl
@[simp] theorem State.withSets_brs (s : State) (v : Tab SetSt) : (s.withSets v).brs = s.brs := rfl
@[simp] theorem State.withSets_vaux (s : State) (v : Tab SetSt) : (s.withSets v).vaux = s.vaux := rfl
@[simp] theorem State.withSets_engs (s : State) (v : Tab SetSt) : (s.withSets v).engs = s.engs := rfl
@[simp] theorem State.withSets_axes (s : State) (v : Tab SetSt) : (s.withSets v).axes = s.axes := rfl
@[simp] theorem State.withSets_cans (s : State) (v : Tab SetSt) : (s.withSets v).cans = s.cans := rfl
@[simp] theorem State.withSets_free (s : State) (v : Tab SetSt) : (s.withSets v).free = s.free := rfl
@[simp] theorem State.withSets_out (s : State) (v : Tab SetSt) : (s.withSets v).out = s.out := rfl
@[simp] theorem State.withArms_pending (s : State) (v : Tab ArmSt) : (s.withArms v).pending = s.pending := rfl
@[simp] theorem State.withArms_clk (s : State) (v : Tab ArmSt) : (s.withArms v).clk = s.clk := rfl
@[simp] theorem State.withArms_pts (s : State) (v : Tab ArmSt) : (s.withArms v).pts = s.pts := rfl
@[simp] theorem State.withArms_led (s : State) (v : Tab ArmSt) : (s.withArms v).led = s.led := rfl
@[simp] theorem State.withArms_cep (s : State) (v : Tab ArmSt) : (s.withArms v).cep = s.cep := rfl
@[simp] theorem State.withArms_dev (s : State) (v : Tab ArmSt) : (s.withArms v).dev = s.dev := rfl
@[simp] theorem State.withArms_plant (s : State) (v : Tab ArmSt) : (s.withArms v).plant = s.plant := rfl
@[simp] theorem State.withArms_irq (s : State) (v : Tab ArmSt) : (s.withArms v).irq = s.irq := rfl
@[simp] theorem State.withArms_so (s : State) (v : Tab ArmSt) : (s.withArms v).so = s.so := rfl
@[simp] theorem State.withArms_guards (s : State) (v : Tab ArmSt) : (s.withArms v).guards = s.guards := rfl
@[simp] theorem State.withArms_levels (s : State) (v : Tab ArmSt) : (s.withArms v).levels = s.levels := rfl
@[simp] theorem State.withArms_host (s : State) (v : Tab ArmSt) : (s.withArms v).host = s.host := rfl
@[simp] theorem State.withArms_env (s : State) (v : Tab ArmSt) : (s.withArms v).env = s.env := rfl
@[simp] theorem State.withArms_jrn (s : State) (v : Tab ArmSt) : (s.withArms v).jrn = s.jrn := rfl
@[simp] theorem State.withArms_rep (s : State) (v : Tab ArmSt) : (s.withArms v).rep = s.rep := rfl
@[simp] theorem State.withArms_pair (s : State) (v : Tab ArmSt) : (s.withArms v).pair = s.pair := rfl
@[simp] theorem State.withArms_rnds (s : State) (v : Tab ArmSt) : (s.withArms v).rnds = s.rnds := rfl
@[simp] theorem State.withArms_cells (s : State) (v : Tab ArmSt) : (s.withArms v).cells = s.cells := rfl
@[simp] theorem State.withArms_drvs (s : State) (v : Tab ArmSt) : (s.withArms v).drvs = s.drvs := rfl
@[simp] theorem State.withArms_sets (s : State) (v : Tab ArmSt) : (s.withArms v).sets = s.sets := rfl
@[simp] theorem State.withArms_arms (s : State) (v : Tab ArmSt) : (s.withArms v).arms = v := rfl
@[simp] theorem State.withArms_shafts (s : State) (v : Tab ArmSt) : (s.withArms v).shafts = s.shafts := rfl
@[simp] theorem State.withArms_powers (s : State) (v : Tab ArmSt) : (s.withArms v).powers = s.powers := rfl
@[simp] theorem State.withArms_fbs (s : State) (v : Tab ArmSt) : (s.withArms v).fbs = s.fbs := rfl
@[simp] theorem State.withArms_cmps (s : State) (v : Tab ArmSt) : (s.withArms v).cmps = s.cmps := rfl
@[simp] theorem State.withArms_ptOut (s : State) (v : Tab ArmSt) : (s.withArms v).ptOut = s.ptOut := rfl
@[simp] theorem State.withArms_tokens (s : State) (v : Tab ArmSt) : (s.withArms v).tokens = s.tokens := rfl
@[simp] theorem State.withArms_hw (s : State) (v : Tab ArmSt) : (s.withArms v).hw = s.hw := rfl
@[simp] theorem State.withArms_brs (s : State) (v : Tab ArmSt) : (s.withArms v).brs = s.brs := rfl
@[simp] theorem State.withArms_vaux (s : State) (v : Tab ArmSt) : (s.withArms v).vaux = s.vaux := rfl
@[simp] theorem State.withArms_engs (s : State) (v : Tab ArmSt) : (s.withArms v).engs = s.engs := rfl
@[simp] theorem State.withArms_axes (s : State) (v : Tab ArmSt) : (s.withArms v).axes = s.axes := rfl
@[simp] theorem State.withArms_cans (s : State) (v : Tab ArmSt) : (s.withArms v).cans = s.cans := rfl
@[simp] theorem State.withArms_free (s : State) (v : Tab ArmSt) : (s.withArms v).free = s.free := rfl
@[simp] theorem State.withArms_out (s : State) (v : Tab ArmSt) : (s.withArms v).out = s.out := rfl
@[simp] theorem State.withShafts_pending (s : State) (v : Tab ShaftSt) : (s.withShafts v).pending = s.pending := rfl
@[simp] theorem State.withShafts_clk (s : State) (v : Tab ShaftSt) : (s.withShafts v).clk = s.clk := rfl
@[simp] theorem State.withShafts_pts (s : State) (v : Tab ShaftSt) : (s.withShafts v).pts = s.pts := rfl
@[simp] theorem State.withShafts_led (s : State) (v : Tab ShaftSt) : (s.withShafts v).led = s.led := rfl
@[simp] theorem State.withShafts_cep (s : State) (v : Tab ShaftSt) : (s.withShafts v).cep = s.cep := rfl
@[simp] theorem State.withShafts_dev (s : State) (v : Tab ShaftSt) : (s.withShafts v).dev = s.dev := rfl
@[simp] theorem State.withShafts_plant (s : State) (v : Tab ShaftSt) : (s.withShafts v).plant = s.plant := rfl
@[simp] theorem State.withShafts_irq (s : State) (v : Tab ShaftSt) : (s.withShafts v).irq = s.irq := rfl
@[simp] theorem State.withShafts_so (s : State) (v : Tab ShaftSt) : (s.withShafts v).so = s.so := rfl
@[simp] theorem State.withShafts_guards (s : State) (v : Tab ShaftSt) : (s.withShafts v).guards = s.guards := rfl
@[simp] theorem State.withShafts_levels (s : State) (v : Tab ShaftSt) : (s.withShafts v).levels = s.levels := rfl
@[simp] theorem State.withShafts_host (s : State) (v : Tab ShaftSt) : (s.withShafts v).host = s.host := rfl
@[simp] theorem State.withShafts_env (s : State) (v : Tab ShaftSt) : (s.withShafts v).env = s.env := rfl
@[simp] theorem State.withShafts_jrn (s : State) (v : Tab ShaftSt) : (s.withShafts v).jrn = s.jrn := rfl
@[simp] theorem State.withShafts_rep (s : State) (v : Tab ShaftSt) : (s.withShafts v).rep = s.rep := rfl
@[simp] theorem State.withShafts_pair (s : State) (v : Tab ShaftSt) : (s.withShafts v).pair = s.pair := rfl
@[simp] theorem State.withShafts_rnds (s : State) (v : Tab ShaftSt) : (s.withShafts v).rnds = s.rnds := rfl
@[simp] theorem State.withShafts_cells (s : State) (v : Tab ShaftSt) : (s.withShafts v).cells = s.cells := rfl
@[simp] theorem State.withShafts_drvs (s : State) (v : Tab ShaftSt) : (s.withShafts v).drvs = s.drvs := rfl
@[simp] theorem State.withShafts_sets (s : State) (v : Tab ShaftSt) : (s.withShafts v).sets = s.sets := rfl
@[simp] theorem State.withShafts_arms (s : State) (v : Tab ShaftSt) : (s.withShafts v).arms = s.arms := rfl
@[simp] theorem State.withShafts_shafts (s : State) (v : Tab ShaftSt) : (s.withShafts v).shafts = v := rfl
@[simp] theorem State.withShafts_powers (s : State) (v : Tab ShaftSt) : (s.withShafts v).powers = s.powers := rfl
@[simp] theorem State.withShafts_fbs (s : State) (v : Tab ShaftSt) : (s.withShafts v).fbs = s.fbs := rfl
@[simp] theorem State.withShafts_cmps (s : State) (v : Tab ShaftSt) : (s.withShafts v).cmps = s.cmps := rfl
@[simp] theorem State.withShafts_ptOut (s : State) (v : Tab ShaftSt) : (s.withShafts v).ptOut = s.ptOut := rfl
@[simp] theorem State.withShafts_tokens (s : State) (v : Tab ShaftSt) : (s.withShafts v).tokens = s.tokens := rfl
@[simp] theorem State.withShafts_hw (s : State) (v : Tab ShaftSt) : (s.withShafts v).hw = s.hw := rfl
@[simp] theorem State.withShafts_brs (s : State) (v : Tab ShaftSt) : (s.withShafts v).brs = s.brs := rfl
@[simp] theorem State.withShafts_vaux (s : State) (v : Tab ShaftSt) : (s.withShafts v).vaux = s.vaux := rfl
@[simp] theorem State.withShafts_engs (s : State) (v : Tab ShaftSt) : (s.withShafts v).engs = s.engs := rfl
@[simp] theorem State.withShafts_axes (s : State) (v : Tab ShaftSt) : (s.withShafts v).axes = s.axes := rfl
@[simp] theorem State.withShafts_cans (s : State) (v : Tab ShaftSt) : (s.withShafts v).cans = s.cans := rfl
@[simp] theorem State.withShafts_free (s : State) (v : Tab ShaftSt) : (s.withShafts v).free = s.free := rfl
@[simp] theorem State.withShafts_out (s : State) (v : Tab ShaftSt) : (s.withShafts v).out = s.out := rfl
@[simp] theorem State.withPowers_pending (s : State) (v : Tab PowerSt) : (s.withPowers v).pending = s.pending := rfl
@[simp] theorem State.withPowers_clk (s : State) (v : Tab PowerSt) : (s.withPowers v).clk = s.clk := rfl
@[simp] theorem State.withPowers_pts (s : State) (v : Tab PowerSt) : (s.withPowers v).pts = s.pts := rfl
@[simp] theorem State.withPowers_led (s : State) (v : Tab PowerSt) : (s.withPowers v).led = s.led := rfl
@[simp] theorem State.withPowers_cep (s : State) (v : Tab PowerSt) : (s.withPowers v).cep = s.cep := rfl
@[simp] theorem State.withPowers_dev (s : State) (v : Tab PowerSt) : (s.withPowers v).dev = s.dev := rfl
@[simp] theorem State.withPowers_plant (s : State) (v : Tab PowerSt) : (s.withPowers v).plant = s.plant := rfl
@[simp] theorem State.withPowers_irq (s : State) (v : Tab PowerSt) : (s.withPowers v).irq = s.irq := rfl
@[simp] theorem State.withPowers_so (s : State) (v : Tab PowerSt) : (s.withPowers v).so = s.so := rfl
@[simp] theorem State.withPowers_guards (s : State) (v : Tab PowerSt) : (s.withPowers v).guards = s.guards := rfl
@[simp] theorem State.withPowers_levels (s : State) (v : Tab PowerSt) : (s.withPowers v).levels = s.levels := rfl
@[simp] theorem State.withPowers_host (s : State) (v : Tab PowerSt) : (s.withPowers v).host = s.host := rfl
@[simp] theorem State.withPowers_env (s : State) (v : Tab PowerSt) : (s.withPowers v).env = s.env := rfl
@[simp] theorem State.withPowers_jrn (s : State) (v : Tab PowerSt) : (s.withPowers v).jrn = s.jrn := rfl
@[simp] theorem State.withPowers_rep (s : State) (v : Tab PowerSt) : (s.withPowers v).rep = s.rep := rfl
@[simp] theorem State.withPowers_pair (s : State) (v : Tab PowerSt) : (s.withPowers v).pair = s.pair := rfl
@[simp] theorem State.withPowers_rnds (s : State) (v : Tab PowerSt) : (s.withPowers v).rnds = s.rnds := rfl
@[simp] theorem State.withPowers_cells (s : State) (v : Tab PowerSt) : (s.withPowers v).cells = s.cells := rfl
@[simp] theorem State.withPowers_drvs (s : State) (v : Tab PowerSt) : (s.withPowers v).drvs = s.drvs := rfl
@[simp] theorem State.withPowers_sets (s : State) (v : Tab PowerSt) : (s.withPowers v).sets = s.sets := rfl
@[simp] theorem State.withPowers_arms (s : State) (v : Tab PowerSt) : (s.withPowers v).arms = s.arms := rfl
@[simp] theorem State.withPowers_shafts (s : State) (v : Tab PowerSt) : (s.withPowers v).shafts = s.shafts := rfl
@[simp] theorem State.withPowers_powers (s : State) (v : Tab PowerSt) : (s.withPowers v).powers = v := rfl
@[simp] theorem State.withPowers_fbs (s : State) (v : Tab PowerSt) : (s.withPowers v).fbs = s.fbs := rfl
@[simp] theorem State.withPowers_cmps (s : State) (v : Tab PowerSt) : (s.withPowers v).cmps = s.cmps := rfl
@[simp] theorem State.withPowers_ptOut (s : State) (v : Tab PowerSt) : (s.withPowers v).ptOut = s.ptOut := rfl
@[simp] theorem State.withPowers_tokens (s : State) (v : Tab PowerSt) : (s.withPowers v).tokens = s.tokens := rfl
@[simp] theorem State.withPowers_hw (s : State) (v : Tab PowerSt) : (s.withPowers v).hw = s.hw := rfl
@[simp] theorem State.withPowers_brs (s : State) (v : Tab PowerSt) : (s.withPowers v).brs = s.brs := rfl
@[simp] theorem State.withPowers_vaux (s : State) (v : Tab PowerSt) : (s.withPowers v).vaux = s.vaux := rfl
@[simp] theorem State.withPowers_engs (s : State) (v : Tab PowerSt) : (s.withPowers v).engs = s.engs := rfl
@[simp] theorem State.withPowers_axes (s : State) (v : Tab PowerSt) : (s.withPowers v).axes = s.axes := rfl
@[simp] theorem State.withPowers_cans (s : State) (v : Tab PowerSt) : (s.withPowers v).cans = s.cans := rfl
@[simp] theorem State.withPowers_free (s : State) (v : Tab PowerSt) : (s.withPowers v).free = s.free := rfl
@[simp] theorem State.withPowers_out (s : State) (v : Tab PowerSt) : (s.withPowers v).out = s.out := rfl
@[simp] theorem State.withFbs_pending (s : State) (v : Tab Fb) : (s.withFbs v).pending = s.pending := rfl
@[simp] theorem State.withFbs_clk (s : State) (v : Tab Fb) : (s.withFbs v).clk = s.clk := rfl
@[simp] theorem State.withFbs_pts (s : State) (v : Tab Fb) : (s.withFbs v).pts = s.pts := rfl
@[simp] theorem State.withFbs_led (s : State) (v : Tab Fb) : (s.withFbs v).led = s.led := rfl
@[simp] theorem State.withFbs_cep (s : State) (v : Tab Fb) : (s.withFbs v).cep = s.cep := rfl
@[simp] theorem State.withFbs_dev (s : State) (v : Tab Fb) : (s.withFbs v).dev = s.dev := rfl
@[simp] theorem State.withFbs_plant (s : State) (v : Tab Fb) : (s.withFbs v).plant = s.plant := rfl
@[simp] theorem State.withFbs_irq (s : State) (v : Tab Fb) : (s.withFbs v).irq = s.irq := rfl
@[simp] theorem State.withFbs_so (s : State) (v : Tab Fb) : (s.withFbs v).so = s.so := rfl
@[simp] theorem State.withFbs_guards (s : State) (v : Tab Fb) : (s.withFbs v).guards = s.guards := rfl
@[simp] theorem State.withFbs_levels (s : State) (v : Tab Fb) : (s.withFbs v).levels = s.levels := rfl
@[simp] theorem State.withFbs_host (s : State) (v : Tab Fb) : (s.withFbs v).host = s.host := rfl
@[simp] theorem State.withFbs_env (s : State) (v : Tab Fb) : (s.withFbs v).env = s.env := rfl
@[simp] theorem State.withFbs_jrn (s : State) (v : Tab Fb) : (s.withFbs v).jrn = s.jrn := rfl
@[simp] theorem State.withFbs_rep (s : State) (v : Tab Fb) : (s.withFbs v).rep = s.rep := rfl
@[simp] theorem State.withFbs_pair (s : State) (v : Tab Fb) : (s.withFbs v).pair = s.pair := rfl
@[simp] theorem State.withFbs_rnds (s : State) (v : Tab Fb) : (s.withFbs v).rnds = s.rnds := rfl
@[simp] theorem State.withFbs_cells (s : State) (v : Tab Fb) : (s.withFbs v).cells = s.cells := rfl
@[simp] theorem State.withFbs_drvs (s : State) (v : Tab Fb) : (s.withFbs v).drvs = s.drvs := rfl
@[simp] theorem State.withFbs_sets (s : State) (v : Tab Fb) : (s.withFbs v).sets = s.sets := rfl
@[simp] theorem State.withFbs_arms (s : State) (v : Tab Fb) : (s.withFbs v).arms = s.arms := rfl
@[simp] theorem State.withFbs_shafts (s : State) (v : Tab Fb) : (s.withFbs v).shafts = s.shafts := rfl
@[simp] theorem State.withFbs_powers (s : State) (v : Tab Fb) : (s.withFbs v).powers = s.powers := rfl
@[simp] theorem State.withFbs_fbs (s : State) (v : Tab Fb) : (s.withFbs v).fbs = v := rfl
@[simp] theorem State.withFbs_cmps (s : State) (v : Tab Fb) : (s.withFbs v).cmps = s.cmps := rfl
@[simp] theorem State.withFbs_ptOut (s : State) (v : Tab Fb) : (s.withFbs v).ptOut = s.ptOut := rfl
@[simp] theorem State.withFbs_tokens (s : State) (v : Tab Fb) : (s.withFbs v).tokens = s.tokens := rfl
@[simp] theorem State.withFbs_hw (s : State) (v : Tab Fb) : (s.withFbs v).hw = s.hw := rfl
@[simp] theorem State.withFbs_brs (s : State) (v : Tab Fb) : (s.withFbs v).brs = s.brs := rfl
@[simp] theorem State.withFbs_vaux (s : State) (v : Tab Fb) : (s.withFbs v).vaux = s.vaux := rfl
@[simp] theorem State.withFbs_engs (s : State) (v : Tab Fb) : (s.withFbs v).engs = s.engs := rfl
@[simp] theorem State.withFbs_axes (s : State) (v : Tab Fb) : (s.withFbs v).axes = s.axes := rfl
@[simp] theorem State.withFbs_cans (s : State) (v : Tab Fb) : (s.withFbs v).cans = s.cans := rfl
@[simp] theorem State.withFbs_free (s : State) (v : Tab Fb) : (s.withFbs v).free = s.free := rfl
@[simp] theorem State.withFbs_out (s : State) (v : Tab Fb) : (s.withFbs v).out = s.out := rfl
@[simp] theorem State.withCmps_pending (s : State) (v : Tab CmpSt) : (s.withCmps v).pending = s.pending := rfl
@[simp] theorem State.withCmps_clk (s : State) (v : Tab CmpSt) : (s.withCmps v).clk = s.clk := rfl
@[simp] theorem State.withCmps_pts (s : State) (v : Tab CmpSt) : (s.withCmps v).pts = s.pts := rfl
@[simp] theorem State.withCmps_led (s : State) (v : Tab CmpSt) : (s.withCmps v).led = s.led := rfl
@[simp] theorem State.withCmps_cep (s : State) (v : Tab CmpSt) : (s.withCmps v).cep = s.cep := rfl
@[simp] theorem State.withCmps_dev (s : State) (v : Tab CmpSt) : (s.withCmps v).dev = s.dev := rfl
@[simp] theorem State.withCmps_plant (s : State) (v : Tab CmpSt) : (s.withCmps v).plant = s.plant := rfl
@[simp] theorem State.withCmps_irq (s : State) (v : Tab CmpSt) : (s.withCmps v).irq = s.irq := rfl
@[simp] theorem State.withCmps_so (s : State) (v : Tab CmpSt) : (s.withCmps v).so = s.so := rfl
@[simp] theorem State.withCmps_guards (s : State) (v : Tab CmpSt) : (s.withCmps v).guards = s.guards := rfl
@[simp] theorem State.withCmps_levels (s : State) (v : Tab CmpSt) : (s.withCmps v).levels = s.levels := rfl
@[simp] theorem State.withCmps_host (s : State) (v : Tab CmpSt) : (s.withCmps v).host = s.host := rfl
@[simp] theorem State.withCmps_env (s : State) (v : Tab CmpSt) : (s.withCmps v).env = s.env := rfl
@[simp] theorem State.withCmps_jrn (s : State) (v : Tab CmpSt) : (s.withCmps v).jrn = s.jrn := rfl
@[simp] theorem State.withCmps_rep (s : State) (v : Tab CmpSt) : (s.withCmps v).rep = s.rep := rfl
@[simp] theorem State.withCmps_pair (s : State) (v : Tab CmpSt) : (s.withCmps v).pair = s.pair := rfl
@[simp] theorem State.withCmps_rnds (s : State) (v : Tab CmpSt) : (s.withCmps v).rnds = s.rnds := rfl
@[simp] theorem State.withCmps_cells (s : State) (v : Tab CmpSt) : (s.withCmps v).cells = s.cells := rfl
@[simp] theorem State.withCmps_drvs (s : State) (v : Tab CmpSt) : (s.withCmps v).drvs = s.drvs := rfl
@[simp] theorem State.withCmps_sets (s : State) (v : Tab CmpSt) : (s.withCmps v).sets = s.sets := rfl
@[simp] theorem State.withCmps_arms (s : State) (v : Tab CmpSt) : (s.withCmps v).arms = s.arms := rfl
@[simp] theorem State.withCmps_shafts (s : State) (v : Tab CmpSt) : (s.withCmps v).shafts = s.shafts := rfl
@[simp] theorem State.withCmps_powers (s : State) (v : Tab CmpSt) : (s.withCmps v).powers = s.powers := rfl
@[simp] theorem State.withCmps_fbs (s : State) (v : Tab CmpSt) : (s.withCmps v).fbs = s.fbs := rfl
@[simp] theorem State.withCmps_cmps (s : State) (v : Tab CmpSt) : (s.withCmps v).cmps = v := rfl
@[simp] theorem State.withCmps_ptOut (s : State) (v : Tab CmpSt) : (s.withCmps v).ptOut = s.ptOut := rfl
@[simp] theorem State.withCmps_tokens (s : State) (v : Tab CmpSt) : (s.withCmps v).tokens = s.tokens := rfl
@[simp] theorem State.withCmps_hw (s : State) (v : Tab CmpSt) : (s.withCmps v).hw = s.hw := rfl
@[simp] theorem State.withCmps_brs (s : State) (v : Tab CmpSt) : (s.withCmps v).brs = s.brs := rfl
@[simp] theorem State.withCmps_vaux (s : State) (v : Tab CmpSt) : (s.withCmps v).vaux = s.vaux := rfl
@[simp] theorem State.withCmps_engs (s : State) (v : Tab CmpSt) : (s.withCmps v).engs = s.engs := rfl
@[simp] theorem State.withCmps_axes (s : State) (v : Tab CmpSt) : (s.withCmps v).axes = s.axes := rfl
@[simp] theorem State.withCmps_cans (s : State) (v : Tab CmpSt) : (s.withCmps v).cans = s.cans := rfl
@[simp] theorem State.withCmps_free (s : State) (v : Tab CmpSt) : (s.withCmps v).free = s.free := rfl
@[simp] theorem State.withCmps_out (s : State) (v : Tab CmpSt) : (s.withCmps v).out = s.out := rfl
@[simp] theorem State.withPtOut_pending (s : State) (v : Tab Nat) : (s.withPtOut v).pending = s.pending := rfl
@[simp] theorem State.withPtOut_clk (s : State) (v : Tab Nat) : (s.withPtOut v).clk = s.clk := rfl
@[simp] theorem State.withPtOut_pts (s : State) (v : Tab Nat) : (s.withPtOut v).pts = s.pts := rfl
@[simp] theorem State.withPtOut_led (s : State) (v : Tab Nat) : (s.withPtOut v).led = s.led := rfl
@[simp] theorem State.withPtOut_cep (s : State) (v : Tab Nat) : (s.withPtOut v).cep = s.cep := rfl
@[simp] theorem State.withPtOut_dev (s : State) (v : Tab Nat) : (s.withPtOut v).dev = s.dev := rfl
@[simp] theorem State.withPtOut_plant (s : State) (v : Tab Nat) : (s.withPtOut v).plant = s.plant := rfl
@[simp] theorem State.withPtOut_irq (s : State) (v : Tab Nat) : (s.withPtOut v).irq = s.irq := rfl
@[simp] theorem State.withPtOut_so (s : State) (v : Tab Nat) : (s.withPtOut v).so = s.so := rfl
@[simp] theorem State.withPtOut_guards (s : State) (v : Tab Nat) : (s.withPtOut v).guards = s.guards := rfl
@[simp] theorem State.withPtOut_levels (s : State) (v : Tab Nat) : (s.withPtOut v).levels = s.levels := rfl
@[simp] theorem State.withPtOut_host (s : State) (v : Tab Nat) : (s.withPtOut v).host = s.host := rfl
@[simp] theorem State.withPtOut_env (s : State) (v : Tab Nat) : (s.withPtOut v).env = s.env := rfl
@[simp] theorem State.withPtOut_jrn (s : State) (v : Tab Nat) : (s.withPtOut v).jrn = s.jrn := rfl
@[simp] theorem State.withPtOut_rep (s : State) (v : Tab Nat) : (s.withPtOut v).rep = s.rep := rfl
@[simp] theorem State.withPtOut_pair (s : State) (v : Tab Nat) : (s.withPtOut v).pair = s.pair := rfl
@[simp] theorem State.withPtOut_rnds (s : State) (v : Tab Nat) : (s.withPtOut v).rnds = s.rnds := rfl
@[simp] theorem State.withPtOut_cells (s : State) (v : Tab Nat) : (s.withPtOut v).cells = s.cells := rfl
@[simp] theorem State.withPtOut_drvs (s : State) (v : Tab Nat) : (s.withPtOut v).drvs = s.drvs := rfl
@[simp] theorem State.withPtOut_sets (s : State) (v : Tab Nat) : (s.withPtOut v).sets = s.sets := rfl
@[simp] theorem State.withPtOut_arms (s : State) (v : Tab Nat) : (s.withPtOut v).arms = s.arms := rfl
@[simp] theorem State.withPtOut_shafts (s : State) (v : Tab Nat) : (s.withPtOut v).shafts = s.shafts := rfl
@[simp] theorem State.withPtOut_powers (s : State) (v : Tab Nat) : (s.withPtOut v).powers = s.powers := rfl
@[simp] theorem State.withPtOut_fbs (s : State) (v : Tab Nat) : (s.withPtOut v).fbs = s.fbs := rfl
@[simp] theorem State.withPtOut_cmps (s : State) (v : Tab Nat) : (s.withPtOut v).cmps = s.cmps := rfl
@[simp] theorem State.withPtOut_ptOut (s : State) (v : Tab Nat) : (s.withPtOut v).ptOut = v := rfl
@[simp] theorem State.withPtOut_tokens (s : State) (v : Tab Nat) : (s.withPtOut v).tokens = s.tokens := rfl
@[simp] theorem State.withPtOut_hw (s : State) (v : Tab Nat) : (s.withPtOut v).hw = s.hw := rfl
@[simp] theorem State.withPtOut_brs (s : State) (v : Tab Nat) : (s.withPtOut v).brs = s.brs := rfl
@[simp] theorem State.withPtOut_vaux (s : State) (v : Tab Nat) : (s.withPtOut v).vaux = s.vaux := rfl
@[simp] theorem State.withPtOut_engs (s : State) (v : Tab Nat) : (s.withPtOut v).engs = s.engs := rfl
@[simp] theorem State.withPtOut_axes (s : State) (v : Tab Nat) : (s.withPtOut v).axes = s.axes := rfl
@[simp] theorem State.withPtOut_cans (s : State) (v : Tab Nat) : (s.withPtOut v).cans = s.cans := rfl
@[simp] theorem State.withPtOut_free (s : State) (v : Tab Nat) : (s.withPtOut v).free = s.free := rfl
@[simp] theorem State.withPtOut_out (s : State) (v : Tab Nat) : (s.withPtOut v).out = s.out := rfl
@[simp] theorem State.withTokens_pending (s : State) (v : Nat) : (s.withTokens v).pending = s.pending := rfl
@[simp] theorem State.withTokens_clk (s : State) (v : Nat) : (s.withTokens v).clk = s.clk := rfl
@[simp] theorem State.withTokens_pts (s : State) (v : Nat) : (s.withTokens v).pts = s.pts := rfl
@[simp] theorem State.withTokens_led (s : State) (v : Nat) : (s.withTokens v).led = s.led := rfl
@[simp] theorem State.withTokens_cep (s : State) (v : Nat) : (s.withTokens v).cep = s.cep := rfl
@[simp] theorem State.withTokens_dev (s : State) (v : Nat) : (s.withTokens v).dev = s.dev := rfl
@[simp] theorem State.withTokens_plant (s : State) (v : Nat) : (s.withTokens v).plant = s.plant := rfl
@[simp] theorem State.withTokens_irq (s : State) (v : Nat) : (s.withTokens v).irq = s.irq := rfl
@[simp] theorem State.withTokens_so (s : State) (v : Nat) : (s.withTokens v).so = s.so := rfl
@[simp] theorem State.withTokens_guards (s : State) (v : Nat) : (s.withTokens v).guards = s.guards := rfl
@[simp] theorem State.withTokens_levels (s : State) (v : Nat) : (s.withTokens v).levels = s.levels := rfl
@[simp] theorem State.withTokens_host (s : State) (v : Nat) : (s.withTokens v).host = s.host := rfl
@[simp] theorem State.withTokens_env (s : State) (v : Nat) : (s.withTokens v).env = s.env := rfl
@[simp] theorem State.withTokens_jrn (s : State) (v : Nat) : (s.withTokens v).jrn = s.jrn := rfl
@[simp] theorem State.withTokens_rep (s : State) (v : Nat) : (s.withTokens v).rep = s.rep := rfl
@[simp] theorem State.withTokens_pair (s : State) (v : Nat) : (s.withTokens v).pair = s.pair := rfl
@[simp] theorem State.withTokens_rnds (s : State) (v : Nat) : (s.withTokens v).rnds = s.rnds := rfl
@[simp] theorem State.withTokens_cells (s : State) (v : Nat) : (s.withTokens v).cells = s.cells := rfl
@[simp] theorem State.withTokens_drvs (s : State) (v : Nat) : (s.withTokens v).drvs = s.drvs := rfl
@[simp] theorem State.withTokens_sets (s : State) (v : Nat) : (s.withTokens v).sets = s.sets := rfl
@[simp] theorem State.withTokens_arms (s : State) (v : Nat) : (s.withTokens v).arms = s.arms := rfl
@[simp] theorem State.withTokens_shafts (s : State) (v : Nat) : (s.withTokens v).shafts = s.shafts := rfl
@[simp] theorem State.withTokens_powers (s : State) (v : Nat) : (s.withTokens v).powers = s.powers := rfl
@[simp] theorem State.withTokens_fbs (s : State) (v : Nat) : (s.withTokens v).fbs = s.fbs := rfl
@[simp] theorem State.withTokens_cmps (s : State) (v : Nat) : (s.withTokens v).cmps = s.cmps := rfl
@[simp] theorem State.withTokens_ptOut (s : State) (v : Nat) : (s.withTokens v).ptOut = s.ptOut := rfl
@[simp] theorem State.withTokens_tokens (s : State) (v : Nat) : (s.withTokens v).tokens = v := rfl
@[simp] theorem State.withTokens_hw (s : State) (v : Nat) : (s.withTokens v).hw = s.hw := rfl
@[simp] theorem State.withTokens_brs (s : State) (v : Nat) : (s.withTokens v).brs = s.brs := rfl
@[simp] theorem State.withTokens_vaux (s : State) (v : Nat) : (s.withTokens v).vaux = s.vaux := rfl
@[simp] theorem State.withTokens_engs (s : State) (v : Nat) : (s.withTokens v).engs = s.engs := rfl
@[simp] theorem State.withTokens_axes (s : State) (v : Nat) : (s.withTokens v).axes = s.axes := rfl
@[simp] theorem State.withTokens_cans (s : State) (v : Nat) : (s.withTokens v).cans = s.cans := rfl
@[simp] theorem State.withTokens_free (s : State) (v : Nat) : (s.withTokens v).free = s.free := rfl
@[simp] theorem State.withTokens_out (s : State) (v : Nat) : (s.withTokens v).out = s.out := rfl
@[simp] theorem State.withHw_pending (s : State) (v : Hw) : (s.withHw v).pending = s.pending := rfl
@[simp] theorem State.withHw_clk (s : State) (v : Hw) : (s.withHw v).clk = s.clk := rfl
@[simp] theorem State.withHw_pts (s : State) (v : Hw) : (s.withHw v).pts = s.pts := rfl
@[simp] theorem State.withHw_led (s : State) (v : Hw) : (s.withHw v).led = s.led := rfl
@[simp] theorem State.withHw_cep (s : State) (v : Hw) : (s.withHw v).cep = s.cep := rfl
@[simp] theorem State.withHw_dev (s : State) (v : Hw) : (s.withHw v).dev = s.dev := rfl
@[simp] theorem State.withHw_plant (s : State) (v : Hw) : (s.withHw v).plant = s.plant := rfl
@[simp] theorem State.withHw_irq (s : State) (v : Hw) : (s.withHw v).irq = s.irq := rfl
@[simp] theorem State.withHw_so (s : State) (v : Hw) : (s.withHw v).so = s.so := rfl
@[simp] theorem State.withHw_guards (s : State) (v : Hw) : (s.withHw v).guards = s.guards := rfl
@[simp] theorem State.withHw_levels (s : State) (v : Hw) : (s.withHw v).levels = s.levels := rfl
@[simp] theorem State.withHw_host (s : State) (v : Hw) : (s.withHw v).host = s.host := rfl
@[simp] theorem State.withHw_env (s : State) (v : Hw) : (s.withHw v).env = s.env := rfl
@[simp] theorem State.withHw_jrn (s : State) (v : Hw) : (s.withHw v).jrn = s.jrn := rfl
@[simp] theorem State.withHw_rep (s : State) (v : Hw) : (s.withHw v).rep = s.rep := rfl
@[simp] theorem State.withHw_pair (s : State) (v : Hw) : (s.withHw v).pair = s.pair := rfl
@[simp] theorem State.withHw_rnds (s : State) (v : Hw) : (s.withHw v).rnds = s.rnds := rfl
@[simp] theorem State.withHw_cells (s : State) (v : Hw) : (s.withHw v).cells = s.cells := rfl
@[simp] theorem State.withHw_drvs (s : State) (v : Hw) : (s.withHw v).drvs = s.drvs := rfl
@[simp] theorem State.withHw_sets (s : State) (v : Hw) : (s.withHw v).sets = s.sets := rfl
@[simp] theorem State.withHw_arms (s : State) (v : Hw) : (s.withHw v).arms = s.arms := rfl
@[simp] theorem State.withHw_shafts (s : State) (v : Hw) : (s.withHw v).shafts = s.shafts := rfl
@[simp] theorem State.withHw_powers (s : State) (v : Hw) : (s.withHw v).powers = s.powers := rfl
@[simp] theorem State.withHw_fbs (s : State) (v : Hw) : (s.withHw v).fbs = s.fbs := rfl
@[simp] theorem State.withHw_cmps (s : State) (v : Hw) : (s.withHw v).cmps = s.cmps := rfl
@[simp] theorem State.withHw_ptOut (s : State) (v : Hw) : (s.withHw v).ptOut = s.ptOut := rfl
@[simp] theorem State.withHw_tokens (s : State) (v : Hw) : (s.withHw v).tokens = s.tokens := rfl
@[simp] theorem State.withHw_hw (s : State) (v : Hw) : (s.withHw v).hw = v := rfl
@[simp] theorem State.withHw_brs (s : State) (v : Hw) : (s.withHw v).brs = s.brs := rfl
@[simp] theorem State.withHw_vaux (s : State) (v : Hw) : (s.withHw v).vaux = s.vaux := rfl
@[simp] theorem State.withHw_engs (s : State) (v : Hw) : (s.withHw v).engs = s.engs := rfl
@[simp] theorem State.withHw_axes (s : State) (v : Hw) : (s.withHw v).axes = s.axes := rfl
@[simp] theorem State.withHw_cans (s : State) (v : Hw) : (s.withHw v).cans = s.cans := rfl
@[simp] theorem State.withHw_free (s : State) (v : Hw) : (s.withHw v).free = s.free := rfl
@[simp] theorem State.withHw_out (s : State) (v : Hw) : (s.withHw v).out = s.out := rfl
@[simp] theorem State.withBrs_pending (s : State) (v : Tab Br) : (s.withBrs v).pending = s.pending := rfl
@[simp] theorem State.withBrs_clk (s : State) (v : Tab Br) : (s.withBrs v).clk = s.clk := rfl
@[simp] theorem State.withBrs_pts (s : State) (v : Tab Br) : (s.withBrs v).pts = s.pts := rfl
@[simp] theorem State.withBrs_led (s : State) (v : Tab Br) : (s.withBrs v).led = s.led := rfl
@[simp] theorem State.withBrs_cep (s : State) (v : Tab Br) : (s.withBrs v).cep = s.cep := rfl
@[simp] theorem State.withBrs_dev (s : State) (v : Tab Br) : (s.withBrs v).dev = s.dev := rfl
@[simp] theorem State.withBrs_plant (s : State) (v : Tab Br) : (s.withBrs v).plant = s.plant := rfl
@[simp] theorem State.withBrs_irq (s : State) (v : Tab Br) : (s.withBrs v).irq = s.irq := rfl
@[simp] theorem State.withBrs_so (s : State) (v : Tab Br) : (s.withBrs v).so = s.so := rfl
@[simp] theorem State.withBrs_guards (s : State) (v : Tab Br) : (s.withBrs v).guards = s.guards := rfl
@[simp] theorem State.withBrs_levels (s : State) (v : Tab Br) : (s.withBrs v).levels = s.levels := rfl
@[simp] theorem State.withBrs_host (s : State) (v : Tab Br) : (s.withBrs v).host = s.host := rfl
@[simp] theorem State.withBrs_env (s : State) (v : Tab Br) : (s.withBrs v).env = s.env := rfl
@[simp] theorem State.withBrs_jrn (s : State) (v : Tab Br) : (s.withBrs v).jrn = s.jrn := rfl
@[simp] theorem State.withBrs_rep (s : State) (v : Tab Br) : (s.withBrs v).rep = s.rep := rfl
@[simp] theorem State.withBrs_pair (s : State) (v : Tab Br) : (s.withBrs v).pair = s.pair := rfl
@[simp] theorem State.withBrs_rnds (s : State) (v : Tab Br) : (s.withBrs v).rnds = s.rnds := rfl
@[simp] theorem State.withBrs_cells (s : State) (v : Tab Br) : (s.withBrs v).cells = s.cells := rfl
@[simp] theorem State.withBrs_drvs (s : State) (v : Tab Br) : (s.withBrs v).drvs = s.drvs := rfl
@[simp] theorem State.withBrs_sets (s : State) (v : Tab Br) : (s.withBrs v).sets = s.sets := rfl
@[simp] theorem State.withBrs_arms (s : State) (v : Tab Br) : (s.withBrs v).arms = s.arms := rfl
@[simp] theorem State.withBrs_shafts (s : State) (v : Tab Br) : (s.withBrs v).shafts = s.shafts := rfl
@[simp] theorem State.withBrs_powers (s : State) (v : Tab Br) : (s.withBrs v).powers = s.powers := rfl
@[simp] theorem State.withBrs_fbs (s : State) (v : Tab Br) : (s.withBrs v).fbs = s.fbs := rfl
@[simp] theorem State.withBrs_cmps (s : State) (v : Tab Br) : (s.withBrs v).cmps = s.cmps := rfl
@[simp] theorem State.withBrs_ptOut (s : State) (v : Tab Br) : (s.withBrs v).ptOut = s.ptOut := rfl
@[simp] theorem State.withBrs_tokens (s : State) (v : Tab Br) : (s.withBrs v).tokens = s.tokens := rfl
@[simp] theorem State.withBrs_hw (s : State) (v : Tab Br) : (s.withBrs v).hw = s.hw := rfl
@[simp] theorem State.withBrs_brs (s : State) (v : Tab Br) : (s.withBrs v).brs = v := rfl
@[simp] theorem State.withBrs_vaux (s : State) (v : Tab Br) : (s.withBrs v).vaux = s.vaux := rfl
@[simp] theorem State.withBrs_engs (s : State) (v : Tab Br) : (s.withBrs v).engs = s.engs := rfl
@[simp] theorem State.withBrs_axes (s : State) (v : Tab Br) : (s.withBrs v).axes = s.axes := rfl
@[simp] theorem State.withBrs_cans (s : State) (v : Tab Br) : (s.withBrs v).cans = s.cans := rfl
@[simp] theorem State.withBrs_free (s : State) (v : Tab Br) : (s.withBrs v).free = s.free := rfl
@[simp] theorem State.withBrs_out (s : State) (v : Tab Br) : (s.withBrs v).out = s.out := rfl
@[simp] theorem State.withVaux_pending (s : State) (v : Vaux) : (s.withVaux v).pending = s.pending := rfl
@[simp] theorem State.withVaux_clk (s : State) (v : Vaux) : (s.withVaux v).clk = s.clk := rfl
@[simp] theorem State.withVaux_pts (s : State) (v : Vaux) : (s.withVaux v).pts = s.pts := rfl
@[simp] theorem State.withVaux_led (s : State) (v : Vaux) : (s.withVaux v).led = s.led := rfl
@[simp] theorem State.withVaux_cep (s : State) (v : Vaux) : (s.withVaux v).cep = s.cep := rfl
@[simp] theorem State.withVaux_dev (s : State) (v : Vaux) : (s.withVaux v).dev = s.dev := rfl
@[simp] theorem State.withVaux_plant (s : State) (v : Vaux) : (s.withVaux v).plant = s.plant := rfl
@[simp] theorem State.withVaux_irq (s : State) (v : Vaux) : (s.withVaux v).irq = s.irq := rfl
@[simp] theorem State.withVaux_so (s : State) (v : Vaux) : (s.withVaux v).so = s.so := rfl
@[simp] theorem State.withVaux_guards (s : State) (v : Vaux) : (s.withVaux v).guards = s.guards := rfl
@[simp] theorem State.withVaux_levels (s : State) (v : Vaux) : (s.withVaux v).levels = s.levels := rfl
@[simp] theorem State.withVaux_host (s : State) (v : Vaux) : (s.withVaux v).host = s.host := rfl
@[simp] theorem State.withVaux_env (s : State) (v : Vaux) : (s.withVaux v).env = s.env := rfl
@[simp] theorem State.withVaux_jrn (s : State) (v : Vaux) : (s.withVaux v).jrn = s.jrn := rfl
@[simp] theorem State.withVaux_rep (s : State) (v : Vaux) : (s.withVaux v).rep = s.rep := rfl
@[simp] theorem State.withVaux_pair (s : State) (v : Vaux) : (s.withVaux v).pair = s.pair := rfl
@[simp] theorem State.withVaux_rnds (s : State) (v : Vaux) : (s.withVaux v).rnds = s.rnds := rfl
@[simp] theorem State.withVaux_cells (s : State) (v : Vaux) : (s.withVaux v).cells = s.cells := rfl
@[simp] theorem State.withVaux_drvs (s : State) (v : Vaux) : (s.withVaux v).drvs = s.drvs := rfl
@[simp] theorem State.withVaux_sets (s : State) (v : Vaux) : (s.withVaux v).sets = s.sets := rfl
@[simp] theorem State.withVaux_arms (s : State) (v : Vaux) : (s.withVaux v).arms = s.arms := rfl
@[simp] theorem State.withVaux_shafts (s : State) (v : Vaux) : (s.withVaux v).shafts = s.shafts := rfl
@[simp] theorem State.withVaux_powers (s : State) (v : Vaux) : (s.withVaux v).powers = s.powers := rfl
@[simp] theorem State.withVaux_fbs (s : State) (v : Vaux) : (s.withVaux v).fbs = s.fbs := rfl
@[simp] theorem State.withVaux_cmps (s : State) (v : Vaux) : (s.withVaux v).cmps = s.cmps := rfl
@[simp] theorem State.withVaux_ptOut (s : State) (v : Vaux) : (s.withVaux v).ptOut = s.ptOut := rfl
@[simp] theorem State.withVaux_tokens (s : State) (v : Vaux) : (s.withVaux v).tokens = s.tokens := rfl
@[simp] theorem State.withVaux_hw (s : State) (v : Vaux) : (s.withVaux v).hw = s.hw := rfl
@[simp] theorem State.withVaux_brs (s : State) (v : Vaux) : (s.withVaux v).brs = s.brs := rfl
@[simp] theorem State.withVaux_vaux (s : State) (v : Vaux) : (s.withVaux v).vaux = v := rfl
@[simp] theorem State.withVaux_engs (s : State) (v : Vaux) : (s.withVaux v).engs = s.engs := rfl
@[simp] theorem State.withVaux_axes (s : State) (v : Vaux) : (s.withVaux v).axes = s.axes := rfl
@[simp] theorem State.withVaux_cans (s : State) (v : Vaux) : (s.withVaux v).cans = s.cans := rfl
@[simp] theorem State.withVaux_free (s : State) (v : Vaux) : (s.withVaux v).free = s.free := rfl
@[simp] theorem State.withVaux_out (s : State) (v : Vaux) : (s.withVaux v).out = s.out := rfl
@[simp] theorem State.withEngs_pending (s : State) (v : Tab Eng) : (s.withEngs v).pending = s.pending := rfl
@[simp] theorem State.withEngs_clk (s : State) (v : Tab Eng) : (s.withEngs v).clk = s.clk := rfl
@[simp] theorem State.withEngs_pts (s : State) (v : Tab Eng) : (s.withEngs v).pts = s.pts := rfl
@[simp] theorem State.withEngs_led (s : State) (v : Tab Eng) : (s.withEngs v).led = s.led := rfl
@[simp] theorem State.withEngs_cep (s : State) (v : Tab Eng) : (s.withEngs v).cep = s.cep := rfl
@[simp] theorem State.withEngs_dev (s : State) (v : Tab Eng) : (s.withEngs v).dev = s.dev := rfl
@[simp] theorem State.withEngs_plant (s : State) (v : Tab Eng) : (s.withEngs v).plant = s.plant := rfl
@[simp] theorem State.withEngs_irq (s : State) (v : Tab Eng) : (s.withEngs v).irq = s.irq := rfl
@[simp] theorem State.withEngs_so (s : State) (v : Tab Eng) : (s.withEngs v).so = s.so := rfl
@[simp] theorem State.withEngs_guards (s : State) (v : Tab Eng) : (s.withEngs v).guards = s.guards := rfl
@[simp] theorem State.withEngs_levels (s : State) (v : Tab Eng) : (s.withEngs v).levels = s.levels := rfl
@[simp] theorem State.withEngs_host (s : State) (v : Tab Eng) : (s.withEngs v).host = s.host := rfl
@[simp] theorem State.withEngs_env (s : State) (v : Tab Eng) : (s.withEngs v).env = s.env := rfl
@[simp] theorem State.withEngs_jrn (s : State) (v : Tab Eng) : (s.withEngs v).jrn = s.jrn := rfl
@[simp] theorem State.withEngs_rep (s : State) (v : Tab Eng) : (s.withEngs v).rep = s.rep := rfl
@[simp] theorem State.withEngs_pair (s : State) (v : Tab Eng) : (s.withEngs v).pair = s.pair := rfl
@[simp] theorem State.withEngs_rnds (s : State) (v : Tab Eng) : (s.withEngs v).rnds = s.rnds := rfl
@[simp] theorem State.withEngs_cells (s : State) (v : Tab Eng) : (s.withEngs v).cells = s.cells := rfl
@[simp] theorem State.withEngs_drvs (s : State) (v : Tab Eng) : (s.withEngs v).drvs = s.drvs := rfl
@[simp] theorem State.withEngs_sets (s : State) (v : Tab Eng) : (s.withEngs v).sets = s.sets := rfl
@[simp] theorem State.withEngs_arms (s : State) (v : Tab Eng) : (s.withEngs v).arms = s.arms := rfl
@[simp] theorem State.withEngs_shafts (s : State) (v : Tab Eng) : (s.withEngs v).shafts = s.shafts := rfl
@[simp] theorem State.withEngs_powers (s : State) (v : Tab Eng) : (s.withEngs v).powers = s.powers := rfl
@[simp] theorem State.withEngs_fbs (s : State) (v : Tab Eng) : (s.withEngs v).fbs = s.fbs := rfl
@[simp] theorem State.withEngs_cmps (s : State) (v : Tab Eng) : (s.withEngs v).cmps = s.cmps := rfl
@[simp] theorem State.withEngs_ptOut (s : State) (v : Tab Eng) : (s.withEngs v).ptOut = s.ptOut := rfl
@[simp] theorem State.withEngs_tokens (s : State) (v : Tab Eng) : (s.withEngs v).tokens = s.tokens := rfl
@[simp] theorem State.withEngs_hw (s : State) (v : Tab Eng) : (s.withEngs v).hw = s.hw := rfl
@[simp] theorem State.withEngs_brs (s : State) (v : Tab Eng) : (s.withEngs v).brs = s.brs := rfl
@[simp] theorem State.withEngs_vaux (s : State) (v : Tab Eng) : (s.withEngs v).vaux = s.vaux := rfl
@[simp] theorem State.withEngs_engs (s : State) (v : Tab Eng) : (s.withEngs v).engs = v := rfl
@[simp] theorem State.withEngs_axes (s : State) (v : Tab Eng) : (s.withEngs v).axes = s.axes := rfl
@[simp] theorem State.withEngs_cans (s : State) (v : Tab Eng) : (s.withEngs v).cans = s.cans := rfl
@[simp] theorem State.withEngs_free (s : State) (v : Tab Eng) : (s.withEngs v).free = s.free := rfl
@[simp] theorem State.withEngs_out (s : State) (v : Tab Eng) : (s.withEngs v).out = s.out := rfl
@[simp] theorem State.withAxes_pending (s : State) (v : Tab Axis) : (s.withAxes v).pending = s.pending := rfl
@[simp] theorem State.withAxes_clk (s : State) (v : Tab Axis) : (s.withAxes v).clk = s.clk := rfl
@[simp] theorem State.withAxes_pts (s : State) (v : Tab Axis) : (s.withAxes v).pts = s.pts := rfl
@[simp] theorem State.withAxes_led (s : State) (v : Tab Axis) : (s.withAxes v).led = s.led := rfl
@[simp] theorem State.withAxes_cep (s : State) (v : Tab Axis) : (s.withAxes v).cep = s.cep := rfl
@[simp] theorem State.withAxes_dev (s : State) (v : Tab Axis) : (s.withAxes v).dev = s.dev := rfl
@[simp] theorem State.withAxes_plant (s : State) (v : Tab Axis) : (s.withAxes v).plant = s.plant := rfl
@[simp] theorem State.withAxes_irq (s : State) (v : Tab Axis) : (s.withAxes v).irq = s.irq := rfl
@[simp] theorem State.withAxes_so (s : State) (v : Tab Axis) : (s.withAxes v).so = s.so := rfl
@[simp] theorem State.withAxes_guards (s : State) (v : Tab Axis) : (s.withAxes v).guards = s.guards := rfl
@[simp] theorem State.withAxes_levels (s : State) (v : Tab Axis) : (s.withAxes v).levels = s.levels := rfl
@[simp] theorem State.withAxes_host (s : State) (v : Tab Axis) : (s.withAxes v).host = s.host := rfl
@[simp] theorem State.withAxes_env (s : State) (v : Tab Axis) : (s.withAxes v).env = s.env := rfl
@[simp] theorem State.withAxes_jrn (s : State) (v : Tab Axis) : (s.withAxes v).jrn = s.jrn := rfl
@[simp] theorem State.withAxes_rep (s : State) (v : Tab Axis) : (s.withAxes v).rep = s.rep := rfl
@[simp] theorem State.withAxes_pair (s : State) (v : Tab Axis) : (s.withAxes v).pair = s.pair := rfl
@[simp] theorem State.withAxes_rnds (s : State) (v : Tab Axis) : (s.withAxes v).rnds = s.rnds := rfl
@[simp] theorem State.withAxes_cells (s : State) (v : Tab Axis) : (s.withAxes v).cells = s.cells := rfl
@[simp] theorem State.withAxes_drvs (s : State) (v : Tab Axis) : (s.withAxes v).drvs = s.drvs := rfl
@[simp] theorem State.withAxes_sets (s : State) (v : Tab Axis) : (s.withAxes v).sets = s.sets := rfl
@[simp] theorem State.withAxes_arms (s : State) (v : Tab Axis) : (s.withAxes v).arms = s.arms := rfl
@[simp] theorem State.withAxes_shafts (s : State) (v : Tab Axis) : (s.withAxes v).shafts = s.shafts := rfl
@[simp] theorem State.withAxes_powers (s : State) (v : Tab Axis) : (s.withAxes v).powers = s.powers := rfl
@[simp] theorem State.withAxes_fbs (s : State) (v : Tab Axis) : (s.withAxes v).fbs = s.fbs := rfl
@[simp] theorem State.withAxes_cmps (s : State) (v : Tab Axis) : (s.withAxes v).cmps = s.cmps := rfl
@[simp] theorem State.withAxes_ptOut (s : State) (v : Tab Axis) : (s.withAxes v).ptOut = s.ptOut := rfl
@[simp] theorem State.withAxes_tokens (s : State) (v : Tab Axis) : (s.withAxes v).tokens = s.tokens := rfl
@[simp] theorem State.withAxes_hw (s : State) (v : Tab Axis) : (s.withAxes v).hw = s.hw := rfl
@[simp] theorem State.withAxes_brs (s : State) (v : Tab Axis) : (s.withAxes v).brs = s.brs := rfl
@[simp] theorem State.withAxes_vaux (s : State) (v : Tab Axis) : (s.withAxes v).vaux = s.vaux := rfl
@[simp] theorem State.withAxes_engs (s : State) (v : Tab Axis) : (s.withAxes v).engs = s.engs := rfl
@[simp] theorem State.withAxes_axes (s : State) (v : Tab Axis) : (s.withAxes v).axes = v := rfl
@[simp] theorem State.withAxes_cans (s : State) (v : Tab Axis) : (s.withAxes v).cans = s.cans := rfl
@[simp] theorem State.withAxes_free (s : State) (v : Tab Axis) : (s.withAxes v).free = s.free := rfl
@[simp] theorem State.withAxes_out (s : State) (v : Tab Axis) : (s.withAxes v).out = s.out := rfl
@[simp] theorem State.withCans_pending (s : State) (v : Tab Can) : (s.withCans v).pending = s.pending := rfl
@[simp] theorem State.withCans_clk (s : State) (v : Tab Can) : (s.withCans v).clk = s.clk := rfl
@[simp] theorem State.withCans_pts (s : State) (v : Tab Can) : (s.withCans v).pts = s.pts := rfl
@[simp] theorem State.withCans_led (s : State) (v : Tab Can) : (s.withCans v).led = s.led := rfl
@[simp] theorem State.withCans_cep (s : State) (v : Tab Can) : (s.withCans v).cep = s.cep := rfl
@[simp] theorem State.withCans_dev (s : State) (v : Tab Can) : (s.withCans v).dev = s.dev := rfl
@[simp] theorem State.withCans_plant (s : State) (v : Tab Can) : (s.withCans v).plant = s.plant := rfl
@[simp] theorem State.withCans_irq (s : State) (v : Tab Can) : (s.withCans v).irq = s.irq := rfl
@[simp] theorem State.withCans_so (s : State) (v : Tab Can) : (s.withCans v).so = s.so := rfl
@[simp] theorem State.withCans_guards (s : State) (v : Tab Can) : (s.withCans v).guards = s.guards := rfl
@[simp] theorem State.withCans_levels (s : State) (v : Tab Can) : (s.withCans v).levels = s.levels := rfl
@[simp] theorem State.withCans_host (s : State) (v : Tab Can) : (s.withCans v).host = s.host := rfl
@[simp] theorem State.withCans_env (s : State) (v : Tab Can) : (s.withCans v).env = s.env := rfl
@[simp] theorem State.withCans_jrn (s : State) (v : Tab Can) : (s.withCans v).jrn = s.jrn := rfl
@[simp] theorem State.withCans_rep (s : State) (v : Tab Can) : (s.withCans v).rep = s.rep := rfl
@[simp] theorem State.withCans_pair (s : State) (v : Tab Can) : (s.withCans v).pair = s.pair := rfl
@[simp] theorem State.withCans_rnds (s : State) (v : Tab Can) : (s.withCans v).rnds = s.rnds := rfl
@[simp] theorem State.withCans_cells (s : State) (v : Tab Can) : (s.withCans v).cells = s.cells := rfl
@[simp] theorem State.withCans_drvs (s : State) (v : Tab Can) : (s.withCans v).drvs = s.drvs := rfl
@[simp] theorem State.withCans_sets (s : State) (v : Tab Can) : (s.withCans v).sets = s.sets := rfl
@[simp] theorem State.withCans_arms (s : State) (v : Tab Can) : (s.withCans v).arms = s.arms := rfl
@[simp] theorem State.withCans_shafts (s : State) (v : Tab Can) : (s.withCans v).shafts = s.shafts := rfl
@[simp] theorem State.withCans_powers (s : State) (v : Tab Can) : (s.withCans v).powers = s.powers := rfl
@[simp] theorem State.withCans_fbs (s : State) (v : Tab Can) : (s.withCans v).fbs = s.fbs := rfl
@[simp] theorem State.withCans_cmps (s : State) (v : Tab Can) : (s.withCans v).cmps = s.cmps := rfl
@[simp] theorem State.withCans_ptOut (s : State) (v : Tab Can) : (s.withCans v).ptOut = s.ptOut := rfl
@[simp] theorem State.withCans_tokens (s : State) (v : Tab Can) : (s.withCans v).tokens = s.tokens := rfl
@[simp] theorem State.withCans_hw (s : State) (v : Tab Can) : (s.withCans v).hw = s.hw := rfl
@[simp] theorem State.withCans_brs (s : State) (v : Tab Can) : (s.withCans v).brs = s.brs := rfl
@[simp] theorem State.withCans_vaux (s : State) (v : Tab Can) : (s.withCans v).vaux = s.vaux := rfl
@[simp] theorem State.withCans_engs (s : State) (v : Tab Can) : (s.withCans v).engs = s.engs := rfl
@[simp] theorem State.withCans_axes (s : State) (v : Tab Can) : (s.withCans v).axes = s.axes := rfl
@[simp] theorem State.withCans_cans (s : State) (v : Tab Can) : (s.withCans v).cans = v := rfl
@[simp] theorem State.withCans_free (s : State) (v : Tab Can) : (s.withCans v).free = s.free := rfl
@[simp] theorem State.withCans_out (s : State) (v : Tab Can) : (s.withCans v).out = s.out := rfl
@[simp] theorem State.withFree_pending (s : State) (v : Nat) : (s.withFree v).pending = s.pending := rfl
@[simp] theorem State.withFree_clk (s : State) (v : Nat) : (s.withFree v).clk = s.clk := rfl
@[simp] theorem State.withFree_pts (s : State) (v : Nat) : (s.withFree v).pts = s.pts := rfl
@[simp] theorem State.withFree_led (s : State) (v : Nat) : (s.withFree v).led = s.led := rfl
@[simp] theorem State.withFree_cep (s : State) (v : Nat) : (s.withFree v).cep = s.cep := rfl
@[simp] theorem State.withFree_dev (s : State) (v : Nat) : (s.withFree v).dev = s.dev := rfl
@[simp] theorem State.withFree_plant (s : State) (v : Nat) : (s.withFree v).plant = s.plant := rfl
@[simp] theorem State.withFree_irq (s : State) (v : Nat) : (s.withFree v).irq = s.irq := rfl
@[simp] theorem State.withFree_so (s : State) (v : Nat) : (s.withFree v).so = s.so := rfl
@[simp] theorem State.withFree_guards (s : State) (v : Nat) : (s.withFree v).guards = s.guards := rfl
@[simp] theorem State.withFree_levels (s : State) (v : Nat) : (s.withFree v).levels = s.levels := rfl
@[simp] theorem State.withFree_host (s : State) (v : Nat) : (s.withFree v).host = s.host := rfl
@[simp] theorem State.withFree_env (s : State) (v : Nat) : (s.withFree v).env = s.env := rfl
@[simp] theorem State.withFree_jrn (s : State) (v : Nat) : (s.withFree v).jrn = s.jrn := rfl
@[simp] theorem State.withFree_rep (s : State) (v : Nat) : (s.withFree v).rep = s.rep := rfl
@[simp] theorem State.withFree_pair (s : State) (v : Nat) : (s.withFree v).pair = s.pair := rfl
@[simp] theorem State.withFree_rnds (s : State) (v : Nat) : (s.withFree v).rnds = s.rnds := rfl
@[simp] theorem State.withFree_cells (s : State) (v : Nat) : (s.withFree v).cells = s.cells := rfl
@[simp] theorem State.withFree_drvs (s : State) (v : Nat) : (s.withFree v).drvs = s.drvs := rfl
@[simp] theorem State.withFree_sets (s : State) (v : Nat) : (s.withFree v).sets = s.sets := rfl
@[simp] theorem State.withFree_arms (s : State) (v : Nat) : (s.withFree v).arms = s.arms := rfl
@[simp] theorem State.withFree_shafts (s : State) (v : Nat) : (s.withFree v).shafts = s.shafts := rfl
@[simp] theorem State.withFree_powers (s : State) (v : Nat) : (s.withFree v).powers = s.powers := rfl
@[simp] theorem State.withFree_fbs (s : State) (v : Nat) : (s.withFree v).fbs = s.fbs := rfl
@[simp] theorem State.withFree_cmps (s : State) (v : Nat) : (s.withFree v).cmps = s.cmps := rfl
@[simp] theorem State.withFree_ptOut (s : State) (v : Nat) : (s.withFree v).ptOut = s.ptOut := rfl
@[simp] theorem State.withFree_tokens (s : State) (v : Nat) : (s.withFree v).tokens = s.tokens := rfl
@[simp] theorem State.withFree_hw (s : State) (v : Nat) : (s.withFree v).hw = s.hw := rfl
@[simp] theorem State.withFree_brs (s : State) (v : Nat) : (s.withFree v).brs = s.brs := rfl
@[simp] theorem State.withFree_vaux (s : State) (v : Nat) : (s.withFree v).vaux = s.vaux := rfl
@[simp] theorem State.withFree_engs (s : State) (v : Nat) : (s.withFree v).engs = s.engs := rfl
@[simp] theorem State.withFree_axes (s : State) (v : Nat) : (s.withFree v).axes = s.axes := rfl
@[simp] theorem State.withFree_cans (s : State) (v : Nat) : (s.withFree v).cans = s.cans := rfl
@[simp] theorem State.withFree_free (s : State) (v : Nat) : (s.withFree v).free = v := rfl
@[simp] theorem State.withFree_out (s : State) (v : Nat) : (s.withFree v).out = s.out := rfl
@[simp] theorem State.withOut_pending (s : State) (v : List Out) : (s.withOut v).pending = s.pending := rfl
@[simp] theorem State.withOut_clk (s : State) (v : List Out) : (s.withOut v).clk = s.clk := rfl
@[simp] theorem State.withOut_pts (s : State) (v : List Out) : (s.withOut v).pts = s.pts := rfl
@[simp] theorem State.withOut_led (s : State) (v : List Out) : (s.withOut v).led = s.led := rfl
@[simp] theorem State.withOut_cep (s : State) (v : List Out) : (s.withOut v).cep = s.cep := rfl
@[simp] theorem State.withOut_dev (s : State) (v : List Out) : (s.withOut v).dev = s.dev := rfl
@[simp] theorem State.withOut_plant (s : State) (v : List Out) : (s.withOut v).plant = s.plant := rfl
@[simp] theorem State.withOut_irq (s : State) (v : List Out) : (s.withOut v).irq = s.irq := rfl
@[simp] theorem State.withOut_so (s : State) (v : List Out) : (s.withOut v).so = s.so := rfl
@[simp] theorem State.withOut_guards (s : State) (v : List Out) : (s.withOut v).guards = s.guards := rfl
@[simp] theorem State.withOut_levels (s : State) (v : List Out) : (s.withOut v).levels = s.levels := rfl
@[simp] theorem State.withOut_host (s : State) (v : List Out) : (s.withOut v).host = s.host := rfl
@[simp] theorem State.withOut_env (s : State) (v : List Out) : (s.withOut v).env = s.env := rfl
@[simp] theorem State.withOut_jrn (s : State) (v : List Out) : (s.withOut v).jrn = s.jrn := rfl
@[simp] theorem State.withOut_rep (s : State) (v : List Out) : (s.withOut v).rep = s.rep := rfl
@[simp] theorem State.withOut_pair (s : State) (v : List Out) : (s.withOut v).pair = s.pair := rfl
@[simp] theorem State.withOut_rnds (s : State) (v : List Out) : (s.withOut v).rnds = s.rnds := rfl
@[simp] theorem State.withOut_cells (s : State) (v : List Out) : (s.withOut v).cells = s.cells := rfl
@[simp] theorem State.withOut_drvs (s : State) (v : List Out) : (s.withOut v).drvs = s.drvs := rfl
@[simp] theorem State.withOut_sets (s : State) (v : List Out) : (s.withOut v).sets = s.sets := rfl
@[simp] theorem State.withOut_arms (s : State) (v : List Out) : (s.withOut v).arms = s.arms := rfl
@[simp] theorem State.withOut_shafts (s : State) (v : List Out) : (s.withOut v).shafts = s.shafts := rfl
@[simp] theorem State.withOut_powers (s : State) (v : List Out) : (s.withOut v).powers = s.powers := rfl
@[simp] theorem State.withOut_fbs (s : State) (v : List Out) : (s.withOut v).fbs = s.fbs := rfl
@[simp] theorem State.withOut_cmps (s : State) (v : List Out) : (s.withOut v).cmps = s.cmps := rfl
@[simp] theorem State.withOut_ptOut (s : State) (v : List Out) : (s.withOut v).ptOut = s.ptOut := rfl
@[simp] theorem State.withOut_tokens (s : State) (v : List Out) : (s.withOut v).tokens = s.tokens := rfl
@[simp] theorem State.withOut_hw (s : State) (v : List Out) : (s.withOut v).hw = s.hw := rfl
@[simp] theorem State.withOut_brs (s : State) (v : List Out) : (s.withOut v).brs = s.brs := rfl
@[simp] theorem State.withOut_vaux (s : State) (v : List Out) : (s.withOut v).vaux = s.vaux := rfl
@[simp] theorem State.withOut_engs (s : State) (v : List Out) : (s.withOut v).engs = s.engs := rfl
@[simp] theorem State.withOut_axes (s : State) (v : List Out) : (s.withOut v).axes = s.axes := rfl
@[simp] theorem State.withOut_cans (s : State) (v : List Out) : (s.withOut v).cans = s.cans := rfl
@[simp] theorem State.withOut_free (s : State) (v : List Out) : (s.withOut v).free = s.free := rfl
@[simp] theorem State.withOut_out (s : State) (v : List Out) : (s.withOut v).out = v := rfl

end Sys2Proof.Machine
end

