-- ==== Sys2Proof/Laws/Store.lean ====
section
/-!
SUPPORT. Laws/Store.lean: reading after writing, for the store of points and the record tables, and the canonical form
that every write keeps.
-/
namespace Sys2Proof.Machine

/-! ## Record tables -/

theorem Tab.get_erase_same {α : Type} (d : α) (t : Tab α) (n : Nat) : Tab.get d (Tab.erase t n) n = d := by
  induction t with
  | nil => rfl
  | cons e r ih =>
    obtain ⟨k, u⟩ := e
    unfold Tab.erase
    split
    · exact ih
    · next h => simp [Tab.get, h, ih]

theorem Tab.get_erase_ne {α : Type} (d : α) (t : Tab α) {n m : Nat} (h : m ≠ n) :
    Tab.get d (Tab.erase t n) m = Tab.get d t m := by
  induction t with
  | nil => rfl
  | cons e r ih =>
    obtain ⟨k, u⟩ := e
    unfold Tab.erase
    split
    · next hk => subst hk; simp [Tab.get, Ne.symm h, ih]
    · simp [Tab.get, ih]

/-- A record that was replaced reads as it was written. -/
@[simp] theorem Tab.get_put_same {α : Type} [DecidableEq α] (d : α) (t : Tab α) (n : Nat) (v : α) :
    Tab.get d (Tab.put d t n v) n = v := by
  induction t with
  | nil => unfold Tab.put; split <;> simp_all [Tab.get]
  | cons e r ih =>
    obtain ⟨k, u⟩ := e
    unfold Tab.put
    split
    · split
      · next h => rw [h]; exact Tab.get_erase_same d _ n
      · simp [Tab.get]
    · split
      · split
        · next h => rw [h]; exact Tab.get_erase_same d r n
        · simp [Tab.get]
      · next h => simp [Tab.get, h, ih]

/-- Replacing a record leaves every other record. -/
theorem Tab.get_put_ne {α : Type} [DecidableEq α] (d : α) (t : Tab α) {n m : Nat} (v : α) (h : m ≠ n) :
    Tab.get d (Tab.put d t n v) m = Tab.get d t m := by
  induction t with
  | nil => unfold Tab.put; split <;> simp [Tab.get, Ne.symm h]
  | cons e r ih =>
    obtain ⟨k, u⟩ := e
    unfold Tab.put
    split
    · split
      · exact Tab.get_erase_ne d _ h
      · simp [Tab.get, Ne.symm h]
    · split
      · next hk =>
        subst hk
        split
        · simp [Tab.get, Ne.symm h, Tab.get_erase_ne d r h]
        · simp [Tab.get, Ne.symm h]
      · simp [Tab.get, ih]

/-! ## The store of points -/

theorem Store.get_erase_same (t : Store) (p : Pt) : Store.get (Store.erase t p) p = ptDflt p := by
  induction t with
  | nil => rfl
  | cons e r ih =>
    obtain ⟨q, v⟩ := e
    unfold Store.erase
    split
    · exact ih
    · next h => simp [Store.get, h, ih]

theorem Store.get_erase_ne (t : Store) {p q : Pt} (h : q ≠ p) : Store.get (Store.erase t p) q = Store.get t q := by
  induction t with
  | nil => rfl
  | cons e r ih =>
    obtain ⟨k, u⟩ := e
    unfold Store.erase
    split
    · next hk => subst hk; simp [Store.get, Ne.symm h, ih]
    · simp [Store.get, ih]

/-- A point that was written reads as it was written. -/
@[simp] theorem Store.get_put_same (t : Store) (p : Pt) (w : Word) : Store.get (Store.put t p w) p = w := by
  induction t with
  | nil => unfold Store.put; split <;> simp_all [Store.get]
  | cons e r ih =>
    obtain ⟨k, u⟩ := e
    unfold Store.put
    split
    · split
      · next h => rw [h]; exact Store.get_erase_same _ p
      · simp [Store.get]
    · split
      · split
        · next h => rw [h]; exact Store.get_erase_same r p
        · simp [Store.get]
      · next h => simp [Store.get, h, ih]

/-- Writing a point leaves every other point. -/
theorem Store.get_put_ne (t : Store) {p q : Pt} (w : Word) (h : q ≠ p) :
    Store.get (Store.put t p w) q = Store.get t q := by
  induction t with
  | nil => unfold Store.put; split <;> simp [Store.get, Ne.symm h]
  | cons e r ih =>
    obtain ⟨k, u⟩ := e
    unfold Store.put
    split
    · split
      · exact Store.get_erase_ne _ h
      · simp [Store.get, Ne.symm h]
    · split
      · next hk =>
        subst hk
        split
        · simp [Store.get, Ne.symm h, Store.get_erase_ne r h]
        · simp [Store.get, Ne.symm h]
      · simp [Store.get, ih]

/-! ## Points of a state -/

@[simp] theorem State.w_put_same (s : State) (f : Field) (i : Nat) (w : Word) (j : Nat) : (s.put f i w j).w f i j = w := by
  simp [State.put, State.w]

theorem State.w_put_ne (s : State) {f g : Field} {i k : Nat} (w : Word) {j l : Nat} (h : (⟨g, k, l⟩ : Pt) ≠ ⟨f, i, j⟩) :
    (s.put f i w j).w g k l = s.w g k l := by
  simp [State.put, State.w, Store.get_put_ne _ _ h]

/-- Writing a point of one field leaves every point of another. -/
@[simp] theorem State.w_put_field (s : State) {f g : Field} {i k : Nat} (w : Word) {j l : Nat} (h : g ≠ f) :
    (s.put f i w j).w g k l = s.w g k l := s.w_put_ne w (by simp [h])

end Sys2Proof.Machine
end

