-- ==== Sys2Proof/Laws/Quiet.lean ====
section
/-!
SUPPORT. Laws/Quiet.lean: what reporting an event leaves alone, once for every operation that reports: `State.quiet` stays, so every
record outside `State.rest`'s list of exceptions stays and every point that `fieldReports` does not name.
-/
namespace Sys2Proof.Machine

theorem State.put_quiet (s : State) (f : Field) (i : Nat) (w : Word) (j : Nat) (h : fieldReports f = true) :
    (s.put f i w j).quiet = s.quiet := by
  refine Prod.ext rfl (funext fun g => funext fun k => funext fun l => ?_)
  simp only [State.quiet, State.shown]
  split
  · rfl
  · next hg => exact s.w_put_field w (fun e => hg (e ▸ h))

theorem State.putN_quiet (s : State) (f : Field) (i v j : Nat) (h : fieldReports f = true) : (s.putN f i v j).quiet = s.quiet :=
  s.put_quiet f i _ j h

theorem State.put64_quiet (s : State) (f : Field) (i v : Nat) (h : fieldReports f = true) : (s.put64 f i v).quiet = s.quiet := by
  unfold State.put64; rw [State.putN_quiet _ _ _ _ _ h, State.putN_quiet _ _ _ _ _ h]

theorem State.inc_quiet (s : State) (f : Field) (i j : Nat) (h : fieldReports f = true) : (s.inc f i j).quiet = s.quiet :=
  s.putN_quiet f i _ j h

@[simp] theorem State.withIrq_quiet (s : State) (v : Irq) : (s.withIrq v).quiet = s.quiet := by cases s; rfl
@[simp] theorem State.withSo_quiet (s : State) (v : Sorting) : (s.withSo v).quiet = s.quiet := by cases s; rfl
theorem State.withCaps_quiet (s : State) (v : Tab Capture) : (s.withJrn { s.jrn with caps := v }).quiet = s.quiet := by cases s; rfl
@[simp] theorem State.withMsixPend_quiet (s : State) (v : Nat) : (s.withHost { s.host with msixPend := v }).quiet = s.quiet := by
  cases s; rfl
@[simp] theorem State.withOut_quiet (s : State) (v : List Out) : (s.withOut v).quiet = s.quiet := by cases s; rfl
@[simp] theorem State.emit_quiet (s : State) (v : Out) : (s.emit v).quiet = s.quiet := by cases s; rfl
@[simp] theorem State.putSrc_quiet (s : State) (n : Nat) (v : Src) : (s.putSrc n v).quiet = s.quiet := by simp [State.putSrc]
@[simp] theorem State.putCore_quiet (s : State) (n : Nat) (v : CoreIf) : (s.putCore n v).quiet = s.quiet := by simp [State.putCore]

/-- Filtering one key out of a table makes writes at that key invisible. -/
theorem Tab.filter_erase {α : Type} (p : Nat → Bool) (t : Tab α) (n : Nat) (h : p n = false) :
    (Tab.erase t n).filter (fun e => p e.1) = t.filter (fun e => p e.1) := by
  induction t with
  | nil => rfl
  | cons e r ih =>
    obtain ⟨k, u⟩ := e
    unfold Tab.erase
    split
    · next hk => rw [ih, List.filter_cons_of_neg (by simp [hk, h])]
    · simp only [List.filter_cons, ih]

theorem Tab.filter_put {α : Type} [DecidableEq α] (d : α) (p : Nat → Bool) (t : Tab α) (n : Nat) (v : α) (h : p n = false) :
    (Tab.put d t n v).filter (fun e => p e.1) = t.filter (fun e => p e.1) := by
  induction t with
  | nil => unfold Tab.put; split <;> simp [h]
  | cons e r ih =>
    obtain ⟨k, u⟩ := e
    unfold Tab.put
    split
    · split
      · exact Tab.filter_erase p _ n h
      · rw [List.filter_cons_of_neg (by simp [h])]
    · split
      · next hk =>
        split
        · rw [Tab.filter_erase p r n h, List.filter_cons_of_neg (by simp [hk, h])]
        · rw [List.filter_cons_of_neg (by simp [h]), List.filter_cons_of_neg (by simp [hk, h])]
      · simp only [List.filter_cons, ih]

theorem State.putRing_quiet (s : State) (n : Nat) (v : Ring) (h : recordRing n = true) : (s.putRing n v).quiet = s.quiet := by
  have e := Tab.filter_put Ring.init (fun k => !recordRing k) s.host.rings n v (by simp [h])
  cases s
  simp only [State.putRing, State.quiet, State.rest, State.withHost, State.withPts, State.withIrq, State.withSo, State.withJrn,
    State.withOut]
  rw [show _ = _ from e]
  rfl

theorem forN_quiet (n : Nat) (f : Nat → State → State) (s : State) (h : ∀ a t, (f a t).quiet = t.quiet) :
    (forN n f s).quiet = s.quiet := by
  induction n generalizing s with
  | zero => rfl
  | succ n ih => simp [forN, h, ih]

theorem forL_quiet {α : Type} (l : List α) (f : α → State → State) (s : State) (h : ∀ a t, (f a t).quiet = t.quiet) :
    (forL l f s).quiet = s.quiet := by
  induction l generalizing s with
  | nil => rfl
  | cons a l ih => simp [forL, h, ih]

/-! ## The interrupt controller -/

@[simp] theorem State.represent_quiet (s : State) (c : Nat) : (s.represent c).1.quiet = s.quiet := by
  unfold State.represent
  split
  · rfl
  · exact forN_quiet _ _ _ fun _ _ => State.putCore_quiet _ _ _

@[simp] theorem State.irqWakeFor_quiet (s : State) (n : Nat) : (s.irqWakeFor n).quiet = s.quiet := by
  unfold State.irqWakeFor
  dsimp only
  split
  · refine forN_quiet _ _ _ fun a t => ?_
    split <;> simp
  · rfl

@[simp] theorem State.irqSettle_quiet (s : State) (l : List Nat) (c : Nat) : (s.irqSettle l c).1.quiet = s.quiet := by
  unfold State.irqSettle
  exact (forL_quiet _ _ _ fun a t => State.irqWakeFor_quiet _ _).trans
    ((forL_quiet _ _ _ fun a t => State.inc_quiet _ _ _ _ rfl).trans (State.represent_quiet _ _))

@[simp] theorem State.irqFire_quiet (s : State) (n : Nat) : (s.irqFire n).quiet = s.quiet := by
  unfold State.irqFire; split <;> simp

@[simp] theorem State.irqFireAll_quiet (s : State) (l : List Nat) : (s.irqFireAll l).quiet = s.quiet :=
  forL_quiet _ _ _ fun _ _ => State.irqFire_quiet _ _

/-! ## Rings -/

@[simp] theorem State.msix_quiet (s : State) (v : Nat) : (s.msix v).quiet = s.quiet := by
  unfold State.msix; split <;> simp

@[simp] theorem State.msixCause_quiet (s : State) (v : Nat) : (s.msixCause v).quiet = s.quiet := by
  unfold State.msixCause; split <;> (try split) <;> simp

@[simp] theorem State.ringSignal_quiet (s : State) (v : Nat) : (s.ringSignal v).quiet = s.quiet := by
  unfold State.ringSignal; split <;> simp

@[simp] theorem State.mirror_quiet (s : State) (v : Nat) : (s.mirror v).quiet = s.quiet := by
  unfold State.mirror; dsimp only; (try split) <;> simp

theorem State.ringWrote_quiet (s : State) (v : Nat) (h : recordRing v = true) : (s.ringWrote v).quiet = s.quiet := by
  unfold State.ringWrote
  dsimp only
  split
  · rw [State.ringSignal_quiet, State.putRing_quiet _ _ _ h, State.mirror_quiet, State.putRing_quiet _ _ _ h]
  · rw [State.mirror_quiet, State.putRing_quiet _ _ _ h]

/-! ## The sorting office -/

theorem State.deliver_quiet (s : State) (k : Nat) (e : EvRec) (h : recordRing k = true) : (s.deliver k e).quiet = s.quiet := by
  unfold State.deliver
  dsimp only
  repeat' split
  all_goals first
    | (rw [State.irqFire_quiet, State.ringWrote_quiet _ _ h, State.emit_quiet])
    | (rw [State.ringWrote_quiet _ _ h, State.emit_quiet])
    | (simp; done)
    | (rw [State.inc_quiet _ _ _ _ rfl]; simp)

theorem State.drain_quiet (k n : Nat) (s : State) (h : recordRing k = true) : (State.drain k n s).quiet = s.quiet := by
  induction n generalizing s with
  | zero => rfl
  | succ n ih =>
    unfold State.drain
    dsimp only
    repeat' split
    all_goals first
      | rfl
      | (rw [ih, State.irqFire_quiet, State.ringWrote_quiet _ _ h, State.emit_quiet, State.withSo_quiet])
      | (rw [ih, State.ringWrote_quiet _ _ h, State.emit_quiet, State.withSo_quiet])

@[simp] theorem State.putBitmap_quiet (s : State) (k : Nat) (e : EvRec) (l : List Nat) : (s.putBitmap k e l).quiet = s.quiet :=
  (forN_quiet _ _ _ fun _ _ => State.putN_quiet _ _ _ _ _ rfl).trans
    ((State.putN_quiet _ _ _ _ _ rfl).trans ((State.putN_quiet _ _ _ _ _ rfl).trans (State.put64_quiet _ _ _ _ rfl)))

@[simp] theorem State.closePostmark_quiet (s : State) (p : Postmark) (b : Bool) : (s.closePostmark p b).quiet = s.quiet := by
  unfold State.closePostmark
  dsimp only
  rw [State.deliver_quiet _ _ _ rfl, State.deliver_quiet _ _ _ rfl]
  split
  · rw [State.putBitmap_quiet, State.put64_quiet _ _ _ _ rfl, State.withSo_quiet]
  · rw [State.put64_quiet _ _ _ _ rfl, State.withSo_quiet]

@[simp] theorem State.openPostmark_quiet (s : State) (p : Postmark) : (s.openPostmark p).quiet = s.quiet := by
  unfold State.openPostmark
  dsimp only
  split
  · rw [State.putN_quiet _ _ _ _ _ rfl, State.withSo_quiet]
  · simp

@[simp] theorem State.ingest_quiet (x0 x1 x2 : Nat) (x3 : Rep) (x4 : State) : (State.ingest x0 x1 x2 x3 x4).quiet = x4.quiet := by
  induction x0 generalizing x1 x2 x3 x4 with
  | zero =>
    unfold State.ingest
    repeat' split
    all_goals first
      | contradiction
      | (simp; done)
      | (dsimp only; rw [State.openPostmark_quiet, State.inc_quiet _ _ _ _ rfl]; simp)
  | succ n ih =>
    unfold State.ingest
    repeat' split
    all_goals first
      | contradiction
      | (simp; done)
      | (next e =>
         injection e with e
         subst e
         rw [ih, State.inc_quiet _ _ _ _ rfl, State.openPostmark_quiet, State.inc_quiet _ _ _ _ rfl]; simp)

@[simp] theorem State.report_quiet (s : State) (a b c d e : Nat) : (s.report a b c d e).quiet = s.quiet := by
  unfold State.report
  split
  · rw [State.ingest_quiet, State.inc_quiet _ _ _ _ rfl, State.withSo_quiet]
  · rw [State.inc_quiet _ _ _ _ rfl, State.withSo_quiet]

@[simp] theorem State.putCapture_quiet (s : State) (i : Nat) (c : Capture) : (s.putCapture i c).quiet = s.quiet := by
  unfold State.putCapture
  rw [State.put64_quiet _ _ _ _ rfl, State.put64_quiet _ _ _ _ rfl, State.withCaps_quiet]

@[simp] theorem State.jrnPublish_quiet (s : State) : s.jrnPublish.quiet = s.quiet := State.putN_quiet _ _ _ _ _ rfl

@[simp] theorem State.captureTrigger_quiet (s : State) (a b c : Nat) : (s.captureTrigger a b c).1.quiet = s.quiet := by
  unfold State.captureTrigger
  dsimp only
  repeat' split
  · rw [State.jrnPublish_quiet, State.inc_quiet _ _ _ _ rfl, State.putCapture_quiet]
  · simp
  · rw [State.jrnPublish_quiet, State.putN_quiet _ _ _ _ _ rfl, State.putCapture_quiet]
  · rw [State.jrnPublish_quiet, State.report_quiet, State.putN_quiet _ _ _ _ _ rfl, State.putCapture_quiet]

/-- Raising an event changes only what reporting writes. -/
@[simp] theorem State.raiseAt_quiet (s : State) (a b c d e : Nat) : (s.raiseAt a b c d e).quiet = s.quiet := by
  unfold State.raiseAt
  dsimp only
  repeat' split
  all_goals simp

@[simp] theorem State.raise_quiet (s : State) (a b c d : Nat) : (s.raise a b c d).quiet = s.quiet := s.raiseAt_quiet _ _ _ _ _

@[simp] theorem State.raiseLane_quiet (s : State) (a b c d : Nat) : (s.raiseLane a b c d).quiet = s.quiet :=
  s.raiseAt_quiet _ _ _ _ _

@[simp] theorem State.deadLetters_quiet (s : State) (l : List (Nat × Nat)) : (s.deadLetters l).quiet = s.quiet :=
  forL_quiet _ _ _ fun _ _ => State.raise_quiet _ _ _ _ _

@[simp] theorem State.irqUpdate_quiet (s : State) (l : List Nat) (c : Nat) : (s.irqUpdate l c).quiet = s.quiet := by
  unfold State.irqUpdate
  simp

@[simp] theorem State.irqLevel_quiet (s : State) (n : Nat) (b : Bool) : (s.irqLevel n b).quiet = s.quiet := by
  unfold State.irqLevel; split <;> simp

end Sys2Proof.Machine
end

