-- ==== Sys2Proof/Laws/Reads.lean ====
section
/-!
SUPPORT. Laws/Reads.lean: reading a record or a point after an event was raised or a source fired, from `Laws/Quiet.lean`.
-/
namespace Sys2Proof.Machine

/-- A point that reporting does not write, from the equality of what reporting leaves alone. -/
theorem State.w_of_quiet {s t : State} (h : t.quiet = s.quiet) (f : Field) (i j : Nat) (hf : fieldReports f = false) :
    t.w f i j = s.w f i j := by
  have := congrFun (congrFun (congrFun (congrArg Prod.snd h) f) i) j
  simpa [State.quiet, State.shown, hf] using this

/-- The rest of the state, from the same equality. -/
theorem State.rest_of_quiet {s t : State} (h : t.quiet = s.quiet) : t.rest = s.rest := congrArg Prod.fst h

theorem State.pending_of_quiet {s t : State} (h : t.quiet = s.quiet) : t.pending = s.pending := congrArg (fun x => x.1.pending) h
theorem State.clk_of_quiet {s t : State} (h : t.quiet = s.quiet) : t.clk = s.clk := congrArg (fun x => x.1.clk) h
theorem State.led_of_quiet {s t : State} (h : t.quiet = s.quiet) : t.led = s.led := congrArg (fun x => x.1.led) h
theorem State.cep_of_quiet {s t : State} (h : t.quiet = s.quiet) : t.cep = s.cep := congrArg (fun x => x.1.cep) h
theorem State.dev_of_quiet {s t : State} (h : t.quiet = s.quiet) : t.dev = s.dev := congrArg (fun x => x.1.dev) h
theorem State.plant_of_quiet {s t : State} (h : t.quiet = s.quiet) : t.plant = s.plant := congrArg (fun x => x.1.plant) h
theorem State.guards_of_quiet {s t : State} (h : t.quiet = s.quiet) : t.guards = s.guards := congrArg (fun x => x.1.guards) h
theorem State.levels_of_quiet {s t : State} (h : t.quiet = s.quiet) : t.levels = s.levels := congrArg (fun x => x.1.levels) h
theorem State.env_of_quiet {s t : State} (h : t.quiet = s.quiet) : t.env = s.env := congrArg (fun x => x.1.env) h
theorem State.rep_of_quiet {s t : State} (h : t.quiet = s.quiet) : t.rep = s.rep := congrArg (fun x => x.1.rep) h
theorem State.pair_of_quiet {s t : State} (h : t.quiet = s.quiet) : t.pair = s.pair := congrArg (fun x => x.1.pair) h
theorem State.rnds_of_quiet {s t : State} (h : t.quiet = s.quiet) : t.rnds = s.rnds := congrArg (fun x => x.1.rnds) h
theorem State.cells_of_quiet {s t : State} (h : t.quiet = s.quiet) : t.cells = s.cells := congrArg (fun x => x.1.cells) h
theorem State.drvs_of_quiet {s t : State} (h : t.quiet = s.quiet) : t.drvs = s.drvs := congrArg (fun x => x.1.drvs) h
theorem State.sets_of_quiet {s t : State} (h : t.quiet = s.quiet) : t.sets = s.sets := congrArg (fun x => x.1.sets) h
theorem State.arms_of_quiet {s t : State} (h : t.quiet = s.quiet) : t.arms = s.arms := congrArg (fun x => x.1.arms) h
theorem State.shafts_of_quiet {s t : State} (h : t.quiet = s.quiet) : t.shafts = s.shafts := congrArg (fun x => x.1.shafts) h
theorem State.powers_of_quiet {s t : State} (h : t.quiet = s.quiet) : t.powers = s.powers := congrArg (fun x => x.1.powers) h
theorem State.fbs_of_quiet {s t : State} (h : t.quiet = s.quiet) : t.fbs = s.fbs := congrArg (fun x => x.1.fbs) h
theorem State.cmps_of_quiet {s t : State} (h : t.quiet = s.quiet) : t.cmps = s.cmps := congrArg (fun x => x.1.cmps) h
theorem State.ptOut_of_quiet {s t : State} (h : t.quiet = s.quiet) : t.ptOut = s.ptOut := congrArg (fun x => x.1.ptOut) h
theorem State.tokens_of_quiet {s t : State} (h : t.quiet = s.quiet) : t.tokens = s.tokens := congrArg (fun x => x.1.tokens) h
theorem State.hw_of_quiet {s t : State} (h : t.quiet = s.quiet) : t.hw = s.hw := congrArg (fun x => x.1.hw) h
theorem State.brs_of_quiet {s t : State} (h : t.quiet = s.quiet) : t.brs = s.brs := congrArg (fun x => x.1.brs) h
theorem State.vaux_of_quiet {s t : State} (h : t.quiet = s.quiet) : t.vaux = s.vaux := congrArg (fun x => x.1.vaux) h
theorem State.engs_of_quiet {s t : State} (h : t.quiet = s.quiet) : t.engs = s.engs := congrArg (fun x => x.1.engs) h
theorem State.axes_of_quiet {s t : State} (h : t.quiet = s.quiet) : t.axes = s.axes := congrArg (fun x => x.1.axes) h
theorem State.cans_of_quiet {s t : State} (h : t.quiet = s.quiet) : t.cans = s.cans := congrArg (fun x => x.1.cans) h
theorem State.free_of_quiet {s t : State} (h : t.quiet = s.quiet) : t.free = s.free := congrArg (fun x => x.1.free) h

@[simp] theorem State.raise_w (s : State) (a b c d : Nat) (f : Field) (i j : Nat) (h : fieldReports f = false) :
    (s.raise a b c d).w f i j = s.w f i j := State.w_of_quiet (s.raise_quiet a b c d) f i j h
@[simp] theorem State.raise_rest (s : State) (a b c d : Nat) : (s.raise a b c d).rest = s.rest := State.rest_of_quiet (s.raise_quiet a b c d)
@[simp] theorem State.raise_pending (s : State) (a b c d : Nat) : (s.raise a b c d).pending = s.pending := State.pending_of_quiet (s.raise_quiet a b c d)
@[simp] theorem State.raise_clk (s : State) (a b c d : Nat) : (s.raise a b c d).clk = s.clk := State.clk_of_quiet (s.raise_quiet a b c d)
@[simp] theorem State.raise_led (s : State) (a b c d : Nat) : (s.raise a b c d).led = s.led := State.led_of_quiet (s.raise_quiet a b c d)
@[simp] theorem State.raise_cep (s : State) (a b c d : Nat) : (s.raise a b c d).cep = s.cep := State.cep_of_quiet (s.raise_quiet a b c d)
@[simp] theorem State.raise_dev (s : State) (a b c d : Nat) : (s.raise a b c d).dev = s.dev := State.dev_of_quiet (s.raise_quiet a b c d)
@[simp] theorem State.raise_plant (s : State) (a b c d : Nat) : (s.raise a b c d).plant = s.plant := State.plant_of_quiet (s.raise_quiet a b c d)
@[simp] theorem State.raise_guards (s : State) (a b c d : Nat) : (s.raise a b c d).guards = s.guards := State.guards_of_quiet (s.raise_quiet a b c d)
@[simp] theorem State.raise_levels (s : State) (a b c d : Nat) : (s.raise a b c d).levels = s.levels := State.levels_of_quiet (s.raise_quiet a b c d)
@[simp] theorem State.raise_env (s : State) (a b c d : Nat) : (s.raise a b c d).env = s.env := State.env_of_quiet (s.raise_quiet a b c d)
@[simp] theorem State.raise_rep (s : State) (a b c d : Nat) : (s.raise a b c d).rep = s.rep := State.rep_of_quiet (s.raise_quiet a b c d)
@[simp] theorem State.raise_pair (s : State) (a b c d : Nat) : (s.raise a b c d).pair = s.pair := State.pair_of_quiet (s.raise_quiet a b c d)
@[simp] theorem State.raise_rnds (s : State) (a b c d : Nat) : (s.raise a b c d).rnds = s.rnds := State.rnds_of_quiet (s.raise_quiet a b c d)
@[simp] theorem State.raise_cells (s : State) (a b c d : Nat) : (s.raise a b c d).cells = s.cells := State.cells_of_quiet (s.raise_quiet a b c d)
@[simp] theorem State.raise_drvs (s : State) (a b c d : Nat) : (s.raise a b c d).drvs = s.drvs := State.drvs_of_quiet (s.raise_quiet a b c d)
@[simp] theorem State.raise_sets (s : State) (a b c d : Nat) : (s.raise a b c d).sets = s.sets := State.sets_of_quiet (s.raise_quiet a b c d)
@[simp] theorem State.raise_arms (s : State) (a b c d : Nat) : (s.raise a b c d).arms = s.arms := State.arms_of_quiet (s.raise_quiet a b c d)
@[simp] theorem State.raise_shafts (s : State) (a b c d : Nat) : (s.raise a b c d).shafts = s.shafts := State.shafts_of_quiet (s.raise_quiet a b c d)
@[simp] theorem State.raise_powers (s : State) (a b c d : Nat) : (s.raise a b c d).powers = s.powers := State.powers_of_quiet (s.raise_quiet a b c d)
@[simp] theorem State.raise_fbs (s : State) (a b c d : Nat) : (s.raise a b c d).fbs = s.fbs := State.fbs_of_quiet (s.raise_quiet a b c d)
@[simp] theorem State.raise_cmps (s : State) (a b c d : Nat) : (s.raise a b c d).cmps = s.cmps := State.cmps_of_quiet (s.raise_quiet a b c d)
@[simp] theorem State.raise_ptOut (s : State) (a b c d : Nat) : (s.raise a b c d).ptOut = s.ptOut := State.ptOut_of_quiet (s.raise_quiet a b c d)
@[simp] theorem State.raise_tokens (s : State) (a b c d : Nat) : (s.raise a b c d).tokens = s.tokens := State.tokens_of_quiet (s.raise_quiet a b c d)
@[simp] theorem State.raise_hw (s : State) (a b c d : Nat) : (s.raise a b c d).hw = s.hw := State.hw_of_quiet (s.raise_quiet a b c d)
@[simp] theorem State.raise_brs (s : State) (a b c d : Nat) : (s.raise a b c d).brs = s.brs := State.brs_of_quiet (s.raise_quiet a b c d)
@[simp] theorem State.raise_vaux (s : State) (a b c d : Nat) : (s.raise a b c d).vaux = s.vaux := State.vaux_of_quiet (s.raise_quiet a b c d)
@[simp] theorem State.raise_engs (s : State) (a b c d : Nat) : (s.raise a b c d).engs = s.engs := State.engs_of_quiet (s.raise_quiet a b c d)
@[simp] theorem State.raise_axes (s : State) (a b c d : Nat) : (s.raise a b c d).axes = s.axes := State.axes_of_quiet (s.raise_quiet a b c d)
@[simp] theorem State.raise_cans (s : State) (a b c d : Nat) : (s.raise a b c d).cans = s.cans := State.cans_of_quiet (s.raise_quiet a b c d)
@[simp] theorem State.raise_free (s : State) (a b c d : Nat) : (s.raise a b c d).free = s.free := State.free_of_quiet (s.raise_quiet a b c d)

@[simp] theorem State.raiseAt_w (s : State) (a b c d e : Nat) (f : Field) (i j : Nat) (h : fieldReports f = false) :
    (s.raiseAt a b c d e).w f i j = s.w f i j := State.w_of_quiet (s.raiseAt_quiet a b c d e) f i j h
@[simp] theorem State.raiseAt_rest (s : State) (a b c d e : Nat) : (s.raiseAt a b c d e).rest = s.rest := State.rest_of_quiet (s.raiseAt_quiet a b c d e)
@[simp] theorem State.raiseAt_pending (s : State) (a b c d e : Nat) : (s.raiseAt a b c d e).pending = s.pending := State.pending_of_quiet (s.raiseAt_quiet a b c d e)
@[simp] theorem State.raiseAt_clk (s : State) (a b c d e : Nat) : (s.raiseAt a b c d e).clk = s.clk := State.clk_of_quiet (s.raiseAt_quiet a b c d e)
@[simp] theorem State.raiseAt_led (s : State) (a b c d e : Nat) : (s.raiseAt a b c d e).led = s.led := State.led_of_quiet (s.raiseAt_quiet a b c d e)
@[simp] theorem State.raiseAt_cep (s : State) (a b c d e : Nat) : (s.raiseAt a b c d e).cep = s.cep := State.cep_of_quiet (s.raiseAt_quiet a b c d e)
@[simp] theorem State.raiseAt_dev (s : State) (a b c d e : Nat) : (s.raiseAt a b c d e).dev = s.dev := State.dev_of_quiet (s.raiseAt_quiet a b c d e)
@[simp] theorem State.raiseAt_plant (s : State) (a b c d e : Nat) : (s.raiseAt a b c d e).plant = s.plant := State.plant_of_quiet (s.raiseAt_quiet a b c d e)
@[simp] theorem State.raiseAt_guards (s : State) (a b c d e : Nat) : (s.raiseAt a b c d e).guards = s.guards := State.guards_of_quiet (s.raiseAt_quiet a b c d e)
@[simp] theorem State.raiseAt_levels (s : State) (a b c d e : Nat) : (s.raiseAt a b c d e).levels = s.levels := State.levels_of_quiet (s.raiseAt_quiet a b c d e)
@[simp] theorem State.raiseAt_env (s : State) (a b c d e : Nat) : (s.raiseAt a b c d e).env = s.env := State.env_of_quiet (s.raiseAt_quiet a b c d e)
@[simp] theorem State.raiseAt_rep (s : State) (a b c d e : Nat) : (s.raiseAt a b c d e).rep = s.rep := State.rep_of_quiet (s.raiseAt_quiet a b c d e)
@[simp] theorem State.raiseAt_pair (s : State) (a b c d e : Nat) : (s.raiseAt a b c d e).pair = s.pair := State.pair_of_quiet (s.raiseAt_quiet a b c d e)
@[simp] theorem State.raiseAt_rnds (s : State) (a b c d e : Nat) : (s.raiseAt a b c d e).rnds = s.rnds := State.rnds_of_quiet (s.raiseAt_quiet a b c d e)
@[simp] theorem State.raiseAt_cells (s : State) (a b c d e : Nat) : (s.raiseAt a b c d e).cells = s.cells := State.cells_of_quiet (s.raiseAt_quiet a b c d e)
@[simp] theorem State.raiseAt_drvs (s : State) (a b c d e : Nat) : (s.raiseAt a b c d e).drvs = s.drvs := State.drvs_of_quiet (s.raiseAt_quiet a b c d e)
@[simp] theorem State.raiseAt_sets (s : State) (a b c d e : Nat) : (s.raiseAt a b c d e).sets = s.sets := State.sets_of_quiet (s.raiseAt_quiet a b c d e)
@[simp] theorem State.raiseAt_arms (s : State) (a b c d e : Nat) : (s.raiseAt a b c d e).arms = s.arms := State.arms_of_quiet (s.raiseAt_quiet a b c d e)
@[simp] theorem State.raiseAt_shafts (s : State) (a b c d e : Nat) : (s.raiseAt a b c d e).shafts = s.shafts := State.shafts_of_quiet (s.raiseAt_quiet a b c d e)
@[simp] theorem State.raiseAt_powers (s : State) (a b c d e : Nat) : (s.raiseAt a b c d e).powers = s.powers := State.powers_of_quiet (s.raiseAt_quiet a b c d e)
@[simp] theorem State.raiseAt_fbs (s : State) (a b c d e : Nat) : (s.raiseAt a b c d e).fbs = s.fbs := State.fbs_of_quiet (s.raiseAt_quiet a b c d e)
@[simp] theorem State.raiseAt_cmps (s : State) (a b c d e : Nat) : (s.raiseAt a b c d e).cmps = s.cmps := State.cmps_of_quiet (s.raiseAt_quiet a b c d e)
@[simp] theorem State.raiseAt_ptOut (s : State) (a b c d e : Nat) : (s.raiseAt a b c d e).ptOut = s.ptOut := State.ptOut_of_quiet (s.raiseAt_quiet a b c d e)
@[simp] theorem State.raiseAt_tokens (s : State) (a b c d e : Nat) : (s.raiseAt a b c d e).tokens = s.tokens := State.tokens_of_quiet (s.raiseAt_quiet a b c d e)
@[simp] theorem State.raiseAt_hw (s : State) (a b c d e : Nat) : (s.raiseAt a b c d e).hw = s.hw := State.hw_of_quiet (s.raiseAt_quiet a b c d e)
@[simp] theorem State.raiseAt_brs (s : State) (a b c d e : Nat) : (s.raiseAt a b c d e).brs = s.brs := State.brs_of_quiet (s.raiseAt_quiet a b c d e)
@[simp] theorem State.raiseAt_vaux (s : State) (a b c d e : Nat) : (s.raiseAt a b c d e).vaux = s.vaux := State.vaux_of_quiet (s.raiseAt_quiet a b c d e)
@[simp] theorem State.raiseAt_engs (s : State) (a b c d e : Nat) : (s.raiseAt a b c d e).engs = s.engs := State.engs_of_quiet (s.raiseAt_quiet a b c d e)
@[simp] theorem State.raiseAt_axes (s : State) (a b c d e : Nat) : (s.raiseAt a b c d e).axes = s.axes := State.axes_of_quiet (s.raiseAt_quiet a b c d e)
@[simp] theorem State.raiseAt_cans (s : State) (a b c d e : Nat) : (s.raiseAt a b c d e).cans = s.cans := State.cans_of_quiet (s.raiseAt_quiet a b c d e)
@[simp] theorem State.raiseAt_free (s : State) (a b c d e : Nat) : (s.raiseAt a b c d e).free = s.free := State.free_of_quiet (s.raiseAt_quiet a b c d e)

@[simp] theorem State.raiseLane_w (s : State) (a b c d : Nat) (f : Field) (i j : Nat) (h : fieldReports f = false) :
    (s.raiseLane a b c d).w f i j = s.w f i j := State.w_of_quiet (s.raiseLane_quiet a b c d) f i j h
@[simp] theorem State.raiseLane_rest (s : State) (a b c d : Nat) : (s.raiseLane a b c d).rest = s.rest := State.rest_of_quiet (s.raiseLane_quiet a b c d)
@[simp] theorem State.raiseLane_pending (s : State) (a b c d : Nat) : (s.raiseLane a b c d).pending = s.pending := State.pending_of_quiet (s.raiseLane_quiet a b c d)
@[simp] theorem State.raiseLane_clk (s : State) (a b c d : Nat) : (s.raiseLane a b c d).clk = s.clk := State.clk_of_quiet (s.raiseLane_quiet a b c d)
@[simp] theorem State.raiseLane_led (s : State) (a b c d : Nat) : (s.raiseLane a b c d).led = s.led := State.led_of_quiet (s.raiseLane_quiet a b c d)
@[simp] theorem State.raiseLane_cep (s : State) (a b c d : Nat) : (s.raiseLane a b c d).cep = s.cep := State.cep_of_quiet (s.raiseLane_quiet a b c d)
@[simp] theorem State.raiseLane_dev (s : State) (a b c d : Nat) : (s.raiseLane a b c d).dev = s.dev := State.dev_of_quiet (s.raiseLane_quiet a b c d)
@[simp] theorem State.raiseLane_plant (s : State) (a b c d : Nat) : (s.raiseLane a b c d).plant = s.plant := State.plant_of_quiet (s.raiseLane_quiet a b c d)
@[simp] theorem State.raiseLane_guards (s : State) (a b c d : Nat) : (s.raiseLane a b c d).guards = s.guards := State.guards_of_quiet (s.raiseLane_quiet a b c d)
@[simp] theorem State.raiseLane_levels (s : State) (a b c d : Nat) : (s.raiseLane a b c d).levels = s.levels := State.levels_of_quiet (s.raiseLane_quiet a b c d)
@[simp] theorem State.raiseLane_env (s : State) (a b c d : Nat) : (s.raiseLane a b c d).env = s.env := State.env_of_quiet (s.raiseLane_quiet a b c d)
@[simp] theorem State.raiseLane_rep (s : State) (a b c d : Nat) : (s.raiseLane a b c d).rep = s.rep := State.rep_of_quiet (s.raiseLane_quiet a b c d)
@[simp] theorem State.raiseLane_pair (s : State) (a b c d : Nat) : (s.raiseLane a b c d).pair = s.pair := State.pair_of_quiet (s.raiseLane_quiet a b c d)
@[simp] theorem State.raiseLane_rnds (s : State) (a b c d : Nat) : (s.raiseLane a b c d).rnds = s.rnds := State.rnds_of_quiet (s.raiseLane_quiet a b c d)
@[simp] theorem State.raiseLane_cells (s : State) (a b c d : Nat) : (s.raiseLane a b c d).cells = s.cells := State.cells_of_quiet (s.raiseLane_quiet a b c d)
@[simp] theorem State.raiseLane_drvs (s : State) (a b c d : Nat) : (s.raiseLane a b c d).drvs = s.drvs := State.drvs_of_quiet (s.raiseLane_quiet a b c d)
@[simp] theorem State.raiseLane_sets (s : State) (a b c d : Nat) : (s.raiseLane a b c d).sets = s.sets := State.sets_of_quiet (s.raiseLane_quiet a b c d)
@[simp] theorem State.raiseLane_arms (s : State) (a b c d : Nat) : (s.raiseLane a b c d).arms = s.arms := State.arms_of_quiet (s.raiseLane_quiet a b c d)
@[simp] theorem State.raiseLane_shafts (s : State) (a b c d : Nat) : (s.raiseLane a b c d).shafts = s.shafts := State.shafts_of_quiet (s.raiseLane_quiet a b c d)
@[simp] theorem State.raiseLane_powers (s : State) (a b c d : Nat) : (s.raiseLane a b c d).powers = s.powers := State.powers_of_quiet (s.raiseLane_quiet a b c d)
@[simp] theorem State.raiseLane_fbs (s : State) (a b c d : Nat) : (s.raiseLane a b c d).fbs = s.fbs := State.fbs_of_quiet (s.raiseLane_quiet a b c d)
@[simp] theorem State.raiseLane_cmps (s : State) (a b c d : Nat) : (s.raiseLane a b c d).cmps = s.cmps := State.cmps_of_quiet (s.raiseLane_quiet a b c d)
@[simp] theorem State.raiseLane_ptOut (s : State) (a b c d : Nat) : (s.raiseLane a b c d).ptOut = s.ptOut := State.ptOut_of_quiet (s.raiseLane_quiet a b c d)
@[simp] theorem State.raiseLane_tokens (s : State) (a b c d : Nat) : (s.raiseLane a b c d).tokens = s.tokens := State.tokens_of_quiet (s.raiseLane_quiet a b c d)
@[simp] theorem State.raiseLane_hw (s : State) (a b c d : Nat) : (s.raiseLane a b c d).hw = s.hw := State.hw_of_quiet (s.raiseLane_quiet a b c d)
@[simp] theorem State.raiseLane_brs (s : State) (a b c d : Nat) : (s.raiseLane a b c d).brs = s.brs := State.brs_of_quiet (s.raiseLane_quiet a b c d)
@[simp] theorem State.raiseLane_vaux (s : State) (a b c d : Nat) : (s.raiseLane a b c d).vaux = s.vaux := State.vaux_of_quiet (s.raiseLane_quiet a b c d)
@[simp] theorem State.raiseLane_engs (s : State) (a b c d : Nat) : (s.raiseLane a b c d).engs = s.engs := State.engs_of_quiet (s.raiseLane_quiet a b c d)
@[simp] theorem State.raiseLane_axes (s : State) (a b c d : Nat) : (s.raiseLane a b c d).axes = s.axes := State.axes_of_quiet (s.raiseLane_quiet a b c d)
@[simp] theorem State.raiseLane_cans (s : State) (a b c d : Nat) : (s.raiseLane a b c d).cans = s.cans := State.cans_of_quiet (s.raiseLane_quiet a b c d)
@[simp] theorem State.raiseLane_free (s : State) (a b c d : Nat) : (s.raiseLane a b c d).free = s.free := State.free_of_quiet (s.raiseLane_quiet a b c d)

@[simp] theorem State.report_w (s : State) (a b c d e : Nat) (f : Field) (i j : Nat) (h : fieldReports f = false) :
    (s.report a b c d e).w f i j = s.w f i j := State.w_of_quiet (s.report_quiet a b c d e) f i j h
@[simp] theorem State.report_rest (s : State) (a b c d e : Nat) : (s.report a b c d e).rest = s.rest := State.rest_of_quiet (s.report_quiet a b c d e)
@[simp] theorem State.report_pending (s : State) (a b c d e : Nat) : (s.report a b c d e).pending = s.pending := State.pending_of_quiet (s.report_quiet a b c d e)
@[simp] theorem State.report_clk (s : State) (a b c d e : Nat) : (s.report a b c d e).clk = s.clk := State.clk_of_quiet (s.report_quiet a b c d e)
@[simp] theorem State.report_led (s : State) (a b c d e : Nat) : (s.report a b c d e).led = s.led := State.led_of_quiet (s.report_quiet a b c d e)
@[simp] theorem State.report_cep (s : State) (a b c d e : Nat) : (s.report a b c d e).cep = s.cep := State.cep_of_quiet (s.report_quiet a b c d e)
@[simp] theorem State.report_dev (s : State) (a b c d e : Nat) : (s.report a b c d e).dev = s.dev := State.dev_of_quiet (s.report_quiet a b c d e)
@[simp] theorem State.report_plant (s : State) (a b c d e : Nat) : (s.report a b c d e).plant = s.plant := State.plant_of_quiet (s.report_quiet a b c d e)
@[simp] theorem State.report_guards (s : State) (a b c d e : Nat) : (s.report a b c d e).guards = s.guards := State.guards_of_quiet (s.report_quiet a b c d e)
@[simp] theorem State.report_levels (s : State) (a b c d e : Nat) : (s.report a b c d e).levels = s.levels := State.levels_of_quiet (s.report_quiet a b c d e)
@[simp] theorem State.report_env (s : State) (a b c d e : Nat) : (s.report a b c d e).env = s.env := State.env_of_quiet (s.report_quiet a b c d e)
@[simp] theorem State.report_rep (s : State) (a b c d e : Nat) : (s.report a b c d e).rep = s.rep := State.rep_of_quiet (s.report_quiet a b c d e)
@[simp] theorem State.report_pair (s : State) (a b c d e : Nat) : (s.report a b c d e).pair = s.pair := State.pair_of_quiet (s.report_quiet a b c d e)
@[simp] theorem State.report_rnds (s : State) (a b c d e : Nat) : (s.report a b c d e).rnds = s.rnds := State.rnds_of_quiet (s.report_quiet a b c d e)
@[simp] theorem State.report_cells (s : State) (a b c d e : Nat) : (s.report a b c d e).cells = s.cells := State.cells_of_quiet (s.report_quiet a b c d e)
@[simp] theorem State.report_drvs (s : State) (a b c d e : Nat) : (s.report a b c d e).drvs = s.drvs := State.drvs_of_quiet (s.report_quiet a b c d e)
@[simp] theorem State.report_sets (s : State) (a b c d e : Nat) : (s.report a b c d e).sets = s.sets := State.sets_of_quiet (s.report_quiet a b c d e)
@[simp] theorem State.report_arms (s : State) (a b c d e : Nat) : (s.report a b c d e).arms = s.arms := State.arms_of_quiet (s.report_quiet a b c d e)
@[simp] theorem State.report_shafts (s : State) (a b c d e : Nat) : (s.report a b c d e).shafts = s.shafts := State.shafts_of_quiet (s.report_quiet a b c d e)
@[simp] theorem State.report_powers (s : State) (a b c d e : Nat) : (s.report a b c d e).powers = s.powers := State.powers_of_quiet (s.report_quiet a b c d e)
@[simp] theorem State.report_fbs (s : State) (a b c d e : Nat) : (s.report a b c d e).fbs = s.fbs := State.fbs_of_quiet (s.report_quiet a b c d e)
@[simp] theorem State.report_cmps (s : State) (a b c d e : Nat) : (s.report a b c d e).cmps = s.cmps := State.cmps_of_quiet (s.report_quiet a b c d e)
@[simp] theorem State.report_ptOut (s : State) (a b c d e : Nat) : (s.report a b c d e).ptOut = s.ptOut := State.ptOut_of_quiet (s.report_quiet a b c d e)
@[simp] theorem State.report_tokens (s : State) (a b c d e : Nat) : (s.report a b c d e).tokens = s.tokens := State.tokens_of_quiet (s.report_quiet a b c d e)
@[simp] theorem State.report_hw (s : State) (a b c d e : Nat) : (s.report a b c d e).hw = s.hw := State.hw_of_quiet (s.report_quiet a b c d e)
@[simp] theorem State.report_brs (s : State) (a b c d e : Nat) : (s.report a b c d e).brs = s.brs := State.brs_of_quiet (s.report_quiet a b c d e)
@[simp] theorem State.report_vaux (s : State) (a b c d e : Nat) : (s.report a b c d e).vaux = s.vaux := State.vaux_of_quiet (s.report_quiet a b c d e)
@[simp] theorem State.report_engs (s : State) (a b c d e : Nat) : (s.report a b c d e).engs = s.engs := State.engs_of_quiet (s.report_quiet a b c d e)
@[simp] theorem State.report_axes (s : State) (a b c d e : Nat) : (s.report a b c d e).axes = s.axes := State.axes_of_quiet (s.report_quiet a b c d e)
@[simp] theorem State.report_cans (s : State) (a b c d e : Nat) : (s.report a b c d e).cans = s.cans := State.cans_of_quiet (s.report_quiet a b c d e)
@[simp] theorem State.report_free (s : State) (a b c d e : Nat) : (s.report a b c d e).free = s.free := State.free_of_quiet (s.report_quiet a b c d e)

@[simp] theorem State.irqFire_w (s : State) (a : Nat) (f : Field) (i j : Nat) (h : fieldReports f = false) :
    (s.irqFire a).w f i j = s.w f i j := State.w_of_quiet (s.irqFire_quiet a) f i j h
@[simp] theorem State.irqFire_rest (s : State) (a : Nat) : (s.irqFire a).rest = s.rest := State.rest_of_quiet (s.irqFire_quiet a)
@[simp] theorem State.irqFire_pending (s : State) (a : Nat) : (s.irqFire a).pending = s.pending := State.pending_of_quiet (s.irqFire_quiet a)
@[simp] theorem State.irqFire_clk (s : State) (a : Nat) : (s.irqFire a).clk = s.clk := State.clk_of_quiet (s.irqFire_quiet a)
@[simp] theorem State.irqFire_led (s : State) (a : Nat) : (s.irqFire a).led = s.led := State.led_of_quiet (s.irqFire_quiet a)
@[simp] theorem State.irqFire_cep (s : State) (a : Nat) : (s.irqFire a).cep = s.cep := State.cep_of_quiet (s.irqFire_quiet a)
@[simp] theorem State.irqFire_dev (s : State) (a : Nat) : (s.irqFire a).dev = s.dev := State.dev_of_quiet (s.irqFire_quiet a)
@[simp] theorem State.irqFire_plant (s : State) (a : Nat) : (s.irqFire a).plant = s.plant := State.plant_of_quiet (s.irqFire_quiet a)
@[simp] theorem State.irqFire_guards (s : State) (a : Nat) : (s.irqFire a).guards = s.guards := State.guards_of_quiet (s.irqFire_quiet a)
@[simp] theorem State.irqFire_levels (s : State) (a : Nat) : (s.irqFire a).levels = s.levels := State.levels_of_quiet (s.irqFire_quiet a)
@[simp] theorem State.irqFire_env (s : State) (a : Nat) : (s.irqFire a).env = s.env := State.env_of_quiet (s.irqFire_quiet a)
@[simp] theorem State.irqFire_rep (s : State) (a : Nat) : (s.irqFire a).rep = s.rep := State.rep_of_quiet (s.irqFire_quiet a)
@[simp] theorem State.irqFire_pair (s : State) (a : Nat) : (s.irqFire a).pair = s.pair := State.pair_of_quiet (s.irqFire_quiet a)
@[simp] theorem State.irqFire_rnds (s : State) (a : Nat) : (s.irqFire a).rnds = s.rnds := State.rnds_of_quiet (s.irqFire_quiet a)
@[simp] theorem State.irqFire_cells (s : State) (a : Nat) : (s.irqFire a).cells = s.cells := State.cells_of_quiet (s.irqFire_quiet a)
@[simp] theorem State.irqFire_drvs (s : State) (a : Nat) : (s.irqFire a).drvs = s.drvs := State.drvs_of_quiet (s.irqFire_quiet a)
@[simp] theorem State.irqFire_sets (s : State) (a : Nat) : (s.irqFire a).sets = s.sets := State.sets_of_quiet (s.irqFire_quiet a)
@[simp] theorem State.irqFire_arms (s : State) (a : Nat) : (s.irqFire a).arms = s.arms := State.arms_of_quiet (s.irqFire_quiet a)
@[simp] theorem State.irqFire_shafts (s : State) (a : Nat) : (s.irqFire a).shafts = s.shafts := State.shafts_of_quiet (s.irqFire_quiet a)
@[simp] theorem State.irqFire_powers (s : State) (a : Nat) : (s.irqFire a).powers = s.powers := State.powers_of_quiet (s.irqFire_quiet a)
@[simp] theorem State.irqFire_fbs (s : State) (a : Nat) : (s.irqFire a).fbs = s.fbs := State.fbs_of_quiet (s.irqFire_quiet a)
@[simp] theorem State.irqFire_cmps (s : State) (a : Nat) : (s.irqFire a).cmps = s.cmps := State.cmps_of_quiet (s.irqFire_quiet a)
@[simp] theorem State.irqFire_ptOut (s : State) (a : Nat) : (s.irqFire a).ptOut = s.ptOut := State.ptOut_of_quiet (s.irqFire_quiet a)
@[simp] theorem State.irqFire_tokens (s : State) (a : Nat) : (s.irqFire a).tokens = s.tokens := State.tokens_of_quiet (s.irqFire_quiet a)
@[simp] theorem State.irqFire_hw (s : State) (a : Nat) : (s.irqFire a).hw = s.hw := State.hw_of_quiet (s.irqFire_quiet a)
@[simp] theorem State.irqFire_brs (s : State) (a : Nat) : (s.irqFire a).brs = s.brs := State.brs_of_quiet (s.irqFire_quiet a)
@[simp] theorem State.irqFire_vaux (s : State) (a : Nat) : (s.irqFire a).vaux = s.vaux := State.vaux_of_quiet (s.irqFire_quiet a)
@[simp] theorem State.irqFire_engs (s : State) (a : Nat) : (s.irqFire a).engs = s.engs := State.engs_of_quiet (s.irqFire_quiet a)
@[simp] theorem State.irqFire_axes (s : State) (a : Nat) : (s.irqFire a).axes = s.axes := State.axes_of_quiet (s.irqFire_quiet a)
@[simp] theorem State.irqFire_cans (s : State) (a : Nat) : (s.irqFire a).cans = s.cans := State.cans_of_quiet (s.irqFire_quiet a)
@[simp] theorem State.irqFire_free (s : State) (a : Nat) : (s.irqFire a).free = s.free := State.free_of_quiet (s.irqFire_quiet a)

@[simp] theorem State.irqLevel_w (s : State) (a : Nat) (b : Bool) (f : Field) (i j : Nat) (h : fieldReports f = false) :
    (s.irqLevel a b).w f i j = s.w f i j := State.w_of_quiet (s.irqLevel_quiet a b) f i j h
@[simp] theorem State.irqLevel_rest (s : State) (a : Nat) (b : Bool) : (s.irqLevel a b).rest = s.rest := State.rest_of_quiet (s.irqLevel_quiet a b)
@[simp] theorem State.irqLevel_pending (s : State) (a : Nat) (b : Bool) : (s.irqLevel a b).pending = s.pending := State.pending_of_quiet (s.irqLevel_quiet a b)
@[simp] theorem State.irqLevel_clk (s : State) (a : Nat) (b : Bool) : (s.irqLevel a b).clk = s.clk := State.clk_of_quiet (s.irqLevel_quiet a b)
@[simp] theorem State.irqLevel_led (s : State) (a : Nat) (b : Bool) : (s.irqLevel a b).led = s.led := State.led_of_quiet (s.irqLevel_quiet a b)
@[simp] theorem State.irqLevel_cep (s : State) (a : Nat) (b : Bool) : (s.irqLevel a b).cep = s.cep := State.cep_of_quiet (s.irqLevel_quiet a b)
@[simp] theorem State.irqLevel_dev (s : State) (a : Nat) (b : Bool) : (s.irqLevel a b).dev = s.dev := State.dev_of_quiet (s.irqLevel_quiet a b)
@[simp] theorem State.irqLevel_plant (s : State) (a : Nat) (b : Bool) : (s.irqLevel a b).plant = s.plant := State.plant_of_quiet (s.irqLevel_quiet a b)
@[simp] theorem State.irqLevel_guards (s : State) (a : Nat) (b : Bool) : (s.irqLevel a b).guards = s.guards := State.guards_of_quiet (s.irqLevel_quiet a b)
@[simp] theorem State.irqLevel_levels (s : State) (a : Nat) (b : Bool) : (s.irqLevel a b).levels = s.levels := State.levels_of_quiet (s.irqLevel_quiet a b)
@[simp] theorem State.irqLevel_env (s : State) (a : Nat) (b : Bool) : (s.irqLevel a b).env = s.env := State.env_of_quiet (s.irqLevel_quiet a b)
@[simp] theorem State.irqLevel_rep (s : State) (a : Nat) (b : Bool) : (s.irqLevel a b).rep = s.rep := State.rep_of_quiet (s.irqLevel_quiet a b)
@[simp] theorem State.irqLevel_pair (s : State) (a : Nat) (b : Bool) : (s.irqLevel a b).pair = s.pair := State.pair_of_quiet (s.irqLevel_quiet a b)
@[simp] theorem State.irqLevel_rnds (s : State) (a : Nat) (b : Bool) : (s.irqLevel a b).rnds = s.rnds := State.rnds_of_quiet (s.irqLevel_quiet a b)
@[simp] theorem State.irqLevel_cells (s : State) (a : Nat) (b : Bool) : (s.irqLevel a b).cells = s.cells := State.cells_of_quiet (s.irqLevel_quiet a b)
@[simp] theorem State.irqLevel_drvs (s : State) (a : Nat) (b : Bool) : (s.irqLevel a b).drvs = s.drvs := State.drvs_of_quiet (s.irqLevel_quiet a b)
@[simp] theorem State.irqLevel_sets (s : State) (a : Nat) (b : Bool) : (s.irqLevel a b).sets = s.sets := State.sets_of_quiet (s.irqLevel_quiet a b)
@[simp] theorem State.irqLevel_arms (s : State) (a : Nat) (b : Bool) : (s.irqLevel a b).arms = s.arms := State.arms_of_quiet (s.irqLevel_quiet a b)
@[simp] theorem State.irqLevel_shafts (s : State) (a : Nat) (b : Bool) : (s.irqLevel a b).shafts = s.shafts := State.shafts_of_quiet (s.irqLevel_quiet a b)
@[simp] theorem State.irqLevel_powers (s : State) (a : Nat) (b : Bool) : (s.irqLevel a b).powers = s.powers := State.powers_of_quiet (s.irqLevel_quiet a b)
@[simp] theorem State.irqLevel_fbs (s : State) (a : Nat) (b : Bool) : (s.irqLevel a b).fbs = s.fbs := State.fbs_of_quiet (s.irqLevel_quiet a b)
@[simp] theorem State.irqLevel_cmps (s : State) (a : Nat) (b : Bool) : (s.irqLevel a b).cmps = s.cmps := State.cmps_of_quiet (s.irqLevel_quiet a b)
@[simp] theorem State.irqLevel_ptOut (s : State) (a : Nat) (b : Bool) : (s.irqLevel a b).ptOut = s.ptOut := State.ptOut_of_quiet (s.irqLevel_quiet a b)
@[simp] theorem State.irqLevel_tokens (s : State) (a : Nat) (b : Bool) : (s.irqLevel a b).tokens = s.tokens := State.tokens_of_quiet (s.irqLevel_quiet a b)
@[simp] theorem State.irqLevel_hw (s : State) (a : Nat) (b : Bool) : (s.irqLevel a b).hw = s.hw := State.hw_of_quiet (s.irqLevel_quiet a b)
@[simp] theorem State.irqLevel_brs (s : State) (a : Nat) (b : Bool) : (s.irqLevel a b).brs = s.brs := State.brs_of_quiet (s.irqLevel_quiet a b)
@[simp] theorem State.irqLevel_vaux (s : State) (a : Nat) (b : Bool) : (s.irqLevel a b).vaux = s.vaux := State.vaux_of_quiet (s.irqLevel_quiet a b)
@[simp] theorem State.irqLevel_engs (s : State) (a : Nat) (b : Bool) : (s.irqLevel a b).engs = s.engs := State.engs_of_quiet (s.irqLevel_quiet a b)
@[simp] theorem State.irqLevel_axes (s : State) (a : Nat) (b : Bool) : (s.irqLevel a b).axes = s.axes := State.axes_of_quiet (s.irqLevel_quiet a b)
@[simp] theorem State.irqLevel_cans (s : State) (a : Nat) (b : Bool) : (s.irqLevel a b).cans = s.cans := State.cans_of_quiet (s.irqLevel_quiet a b)
@[simp] theorem State.irqLevel_free (s : State) (a : Nat) (b : Bool) : (s.irqLevel a b).free = s.free := State.free_of_quiet (s.irqLevel_quiet a b)

@[simp] theorem State.irqUpdate_w (s : State) (l : List Nat) (a : Nat) (f : Field) (i j : Nat) (h : fieldReports f = false) :
    (s.irqUpdate l a).w f i j = s.w f i j := State.w_of_quiet (s.irqUpdate_quiet l a) f i j h
@[simp] theorem State.irqUpdate_rest (s : State) (l : List Nat) (a : Nat) : (s.irqUpdate l a).rest = s.rest := State.rest_of_quiet (s.irqUpdate_quiet l a)
@[simp] theorem State.irqUpdate_pending (s : State) (l : List Nat) (a : Nat) : (s.irqUpdate l a).pending = s.pending := State.pending_of_quiet (s.irqUpdate_quiet l a)
@[simp] theorem State.irqUpdate_clk (s : State) (l : List Nat) (a : Nat) : (s.irqUpdate l a).clk = s.clk := State.clk_of_quiet (s.irqUpdate_quiet l a)
@[simp] theorem State.irqUpdate_led (s : State) (l : List Nat) (a : Nat) : (s.irqUpdate l a).led = s.led := State.led_of_quiet (s.irqUpdate_quiet l a)
@[simp] theorem State.irqUpdate_cep (s : State) (l : List Nat) (a : Nat) : (s.irqUpdate l a).cep = s.cep := State.cep_of_quiet (s.irqUpdate_quiet l a)
@[simp] theorem State.irqUpdate_dev (s : State) (l : List Nat) (a : Nat) : (s.irqUpdate l a).dev = s.dev := State.dev_of_quiet (s.irqUpdate_quiet l a)
@[simp] theorem State.irqUpdate_plant (s : State) (l : List Nat) (a : Nat) : (s.irqUpdate l a).plant = s.plant := State.plant_of_quiet (s.irqUpdate_quiet l a)
@[simp] theorem State.irqUpdate_guards (s : State) (l : List Nat) (a : Nat) : (s.irqUpdate l a).guards = s.guards := State.guards_of_quiet (s.irqUpdate_quiet l a)
@[simp] theorem State.irqUpdate_levels (s : State) (l : List Nat) (a : Nat) : (s.irqUpdate l a).levels = s.levels := State.levels_of_quiet (s.irqUpdate_quiet l a)
@[simp] theorem State.irqUpdate_env (s : State) (l : List Nat) (a : Nat) : (s.irqUpdate l a).env = s.env := State.env_of_quiet (s.irqUpdate_quiet l a)
@[simp] theorem State.irqUpdate_rep (s : State) (l : List Nat) (a : Nat) : (s.irqUpdate l a).rep = s.rep := State.rep_of_quiet (s.irqUpdate_quiet l a)
@[simp] theorem State.irqUpdate_pair (s : State) (l : List Nat) (a : Nat) : (s.irqUpdate l a).pair = s.pair := State.pair_of_quiet (s.irqUpdate_quiet l a)
@[simp] theorem State.irqUpdate_rnds (s : State) (l : List Nat) (a : Nat) : (s.irqUpdate l a).rnds = s.rnds := State.rnds_of_quiet (s.irqUpdate_quiet l a)
@[simp] theorem State.irqUpdate_cells (s : State) (l : List Nat) (a : Nat) : (s.irqUpdate l a).cells = s.cells := State.cells_of_quiet (s.irqUpdate_quiet l a)
@[simp] theorem State.irqUpdate_drvs (s : State) (l : List Nat) (a : Nat) : (s.irqUpdate l a).drvs = s.drvs := State.drvs_of_quiet (s.irqUpdate_quiet l a)
@[simp] theorem State.irqUpdate_sets (s : State) (l : List Nat) (a : Nat) : (s.irqUpdate l a).sets = s.sets := State.sets_of_quiet (s.irqUpdate_quiet l a)
@[simp] theorem State.irqUpdate_arms (s : State) (l : List Nat) (a : Nat) : (s.irqUpdate l a).arms = s.arms := State.arms_of_quiet (s.irqUpdate_quiet l a)
@[simp] theorem State.irqUpdate_shafts (s : State) (l : List Nat) (a : Nat) : (s.irqUpdate l a).shafts = s.shafts := State.shafts_of_quiet (s.irqUpdate_quiet l a)
@[simp] theorem State.irqUpdate_powers (s : State) (l : List Nat) (a : Nat) : (s.irqUpdate l a).powers = s.powers := State.powers_of_quiet (s.irqUpdate_quiet l a)
@[simp] theorem State.irqUpdate_fbs (s : State) (l : List Nat) (a : Nat) : (s.irqUpdate l a).fbs = s.fbs := State.fbs_of_quiet (s.irqUpdate_quiet l a)
@[simp] theorem State.irqUpdate_cmps (s : State) (l : List Nat) (a : Nat) : (s.irqUpdate l a).cmps = s.cmps := State.cmps_of_quiet (s.irqUpdate_quiet l a)
@[simp] theorem State.irqUpdate_ptOut (s : State) (l : List Nat) (a : Nat) : (s.irqUpdate l a).ptOut = s.ptOut := State.ptOut_of_quiet (s.irqUpdate_quiet l a)
@[simp] theorem State.irqUpdate_tokens (s : State) (l : List Nat) (a : Nat) : (s.irqUpdate l a).tokens = s.tokens := State.tokens_of_quiet (s.irqUpdate_quiet l a)
@[simp] theorem State.irqUpdate_hw (s : State) (l : List Nat) (a : Nat) : (s.irqUpdate l a).hw = s.hw := State.hw_of_quiet (s.irqUpdate_quiet l a)
@[simp] theorem State.irqUpdate_brs (s : State) (l : List Nat) (a : Nat) : (s.irqUpdate l a).brs = s.brs := State.brs_of_quiet (s.irqUpdate_quiet l a)
@[simp] theorem State.irqUpdate_vaux (s : State) (l : List Nat) (a : Nat) : (s.irqUpdate l a).vaux = s.vaux := State.vaux_of_quiet (s.irqUpdate_quiet l a)
@[simp] theorem State.irqUpdate_engs (s : State) (l : List Nat) (a : Nat) : (s.irqUpdate l a).engs = s.engs := State.engs_of_quiet (s.irqUpdate_quiet l a)
@[simp] theorem State.irqUpdate_axes (s : State) (l : List Nat) (a : Nat) : (s.irqUpdate l a).axes = s.axes := State.axes_of_quiet (s.irqUpdate_quiet l a)
@[simp] theorem State.irqUpdate_cans (s : State) (l : List Nat) (a : Nat) : (s.irqUpdate l a).cans = s.cans := State.cans_of_quiet (s.irqUpdate_quiet l a)
@[simp] theorem State.irqUpdate_free (s : State) (l : List Nat) (a : Nat) : (s.irqUpdate l a).free = s.free := State.free_of_quiet (s.irqUpdate_quiet l a)

end Sys2Proof.Machine
end

