-- ==== Sys2Proof/Laws/Frame.lean ====
section
/-!
SUPPORT. Laws/Frame.lean: what writing a point or replacing a record leaves alone, and how frames of single steps join.
-/
namespace Sys2Proof.Machine

/-! ## Writing a point leaves every record -/

@[simp] theorem State.put_rest (s : State) (f : Field) (i : Nat) (w : Word) (j : Nat) : (s.put f i w j).rest = s.rest := rfl
@[simp] theorem State.put_pending (s : State) (f : Field) (i : Nat) (w : Word) (j : Nat) : (s.put f i w j).pending = s.pending := rfl
@[simp] theorem State.put_clk (s : State) (f : Field) (i : Nat) (w : Word) (j : Nat) : (s.put f i w j).clk = s.clk := rfl
@[simp] theorem State.put_led (s : State) (f : Field) (i : Nat) (w : Word) (j : Nat) : (s.put f i w j).led = s.led := rfl
@[simp] theorem State.put_cep (s : State) (f : Field) (i : Nat) (w : Word) (j : Nat) : (s.put f i w j).cep = s.cep := rfl
@[simp] theorem State.put_dev (s : State) (f : Field) (i : Nat) (w : Word) (j : Nat) : (s.put f i w j).dev = s.dev := rfl
@[simp] theorem State.put_plant (s : State) (f : Field) (i : Nat) (w : Word) (j : Nat) : (s.put f i w j).plant = s.plant := rfl
@[simp] theorem State.put_guards (s : State) (f : Field) (i : Nat) (w : Word) (j : Nat) : (s.put f i w j).guards = s.guards := rfl
@[simp] theorem State.put_levels (s : State) (f : Field) (i : Nat) (w : Word) (j : Nat) : (s.put f i w j).levels = s.levels := rfl
@[simp] theorem State.put_env (s : State) (f : Field) (i : Nat) (w : Word) (j : Nat) : (s.put f i w j).env = s.env := rfl
@[simp] theorem State.put_rep (s : State) (f : Field) (i : Nat) (w : Word) (j : Nat) : (s.put f i w j).rep = s.rep := rfl
@[simp] theorem State.put_pair (s : State) (f : Field) (i : Nat) (w : Word) (j : Nat) : (s.put f i w j).pair = s.pair := rfl
@[simp] theorem State.put_rnds (s : State) (f : Field) (i : Nat) (w : Word) (j : Nat) : (s.put f i w j).rnds = s.rnds := rfl
@[simp] theorem State.put_cells (s : State) (f : Field) (i : Nat) (w : Word) (j : Nat) : (s.put f i w j).cells = s.cells := rfl
@[simp] theorem State.put_drvs (s : State) (f : Field) (i : Nat) (w : Word) (j : Nat) : (s.put f i w j).drvs = s.drvs := rfl
@[simp] theorem State.put_sets (s : State) (f : Field) (i : Nat) (w : Word) (j : Nat) : (s.put f i w j).sets = s.sets := rfl
@[simp] theorem State.put_arms (s : State) (f : Field) (i : Nat) (w : Word) (j : Nat) : (s.put f i w j).arms = s.arms := rfl
@[simp] theorem State.put_shafts (s : State) (f : Field) (i : Nat) (w : Word) (j : Nat) : (s.put f i w j).shafts = s.shafts := rfl
@[simp] theorem State.put_powers (s : State) (f : Field) (i : Nat) (w : Word) (j : Nat) : (s.put f i w j).powers = s.powers := rfl
@[simp] theorem State.put_fbs (s : State) (f : Field) (i : Nat) (w : Word) (j : Nat) : (s.put f i w j).fbs = s.fbs := rfl
@[simp] theorem State.put_cmps (s : State) (f : Field) (i : Nat) (w : Word) (j : Nat) : (s.put f i w j).cmps = s.cmps := rfl
@[simp] theorem State.put_ptOut (s : State) (f : Field) (i : Nat) (w : Word) (j : Nat) : (s.put f i w j).ptOut = s.ptOut := rfl
@[simp] theorem State.put_tokens (s : State) (f : Field) (i : Nat) (w : Word) (j : Nat) : (s.put f i w j).tokens = s.tokens := rfl
@[simp] theorem State.put_hw (s : State) (f : Field) (i : Nat) (w : Word) (j : Nat) : (s.put f i w j).hw = s.hw := rfl
@[simp] theorem State.put_brs (s : State) (f : Field) (i : Nat) (w : Word) (j : Nat) : (s.put f i w j).brs = s.brs := rfl
@[simp] theorem State.put_vaux (s : State) (f : Field) (i : Nat) (w : Word) (j : Nat) : (s.put f i w j).vaux = s.vaux := rfl
@[simp] theorem State.put_engs (s : State) (f : Field) (i : Nat) (w : Word) (j : Nat) : (s.put f i w j).engs = s.engs := rfl
@[simp] theorem State.put_axes (s : State) (f : Field) (i : Nat) (w : Word) (j : Nat) : (s.put f i w j).axes = s.axes := rfl
@[simp] theorem State.put_cans (s : State) (f : Field) (i : Nat) (w : Word) (j : Nat) : (s.put f i w j).cans = s.cans := rfl
@[simp] theorem State.put_free (s : State) (f : Field) (i : Nat) (w : Word) (j : Nat) : (s.put f i w j).free = s.free := rfl
@[simp] theorem State.put_irq (s : State) (f : Field) (i : Nat) (w : Word) (j : Nat) : (s.put f i w j).irq = s.irq := rfl
@[simp] theorem State.put_so (s : State) (f : Field) (i : Nat) (w : Word) (j : Nat) : (s.put f i w j).so = s.so := rfl
@[simp] theorem State.put_jrn (s : State) (f : Field) (i : Nat) (w : Word) (j : Nat) : (s.put f i w j).jrn = s.jrn := rfl
@[simp] theorem State.put_host (s : State) (f : Field) (i : Nat) (w : Word) (j : Nat) : (s.put f i w j).host = s.host := rfl
@[simp] theorem State.put_out (s : State) (f : Field) (i : Nat) (w : Word) (j : Nat) : (s.put f i w j).out = s.out := rfl
@[simp] theorem State.putN_rest (s : State) (f : Field) (i v j : Nat) : (s.putN f i v j).rest = s.rest := rfl
@[simp] theorem State.putN_pending (s : State) (f : Field) (i v j : Nat) : (s.putN f i v j).pending = s.pending := rfl
@[simp] theorem State.putN_clk (s : State) (f : Field) (i v j : Nat) : (s.putN f i v j).clk = s.clk := rfl
@[simp] theorem State.putN_led (s : State) (f : Field) (i v j : Nat) : (s.putN f i v j).led = s.led := rfl
@[simp] theorem State.putN_cep (s : State) (f : Field) (i v j : Nat) : (s.putN f i v j).cep = s.cep := rfl
@[simp] theorem State.putN_dev (s : State) (f : Field) (i v j : Nat) : (s.putN f i v j).dev = s.dev := rfl
@[simp] theorem State.putN_plant (s : State) (f : Field) (i v j : Nat) : (s.putN f i v j).plant = s.plant := rfl
@[simp] theorem State.putN_guards (s : State) (f : Field) (i v j : Nat) : (s.putN f i v j).guards = s.guards := rfl
@[simp] theorem State.putN_levels (s : State) (f : Field) (i v j : Nat) : (s.putN f i v j).levels = s.levels := rfl
@[simp] theorem State.putN_env (s : State) (f : Field) (i v j : Nat) : (s.putN f i v j).env = s.env := rfl
@[simp] theorem State.putN_rep (s : State) (f : Field) (i v j : Nat) : (s.putN f i v j).rep = s.rep := rfl
@[simp] theorem State.putN_pair (s : State) (f : Field) (i v j : Nat) : (s.putN f i v j).pair = s.pair := rfl
@[simp] theorem State.putN_rnds (s : State) (f : Field) (i v j : Nat) : (s.putN f i v j).rnds = s.rnds := rfl
@[simp] theorem State.putN_cells (s : State) (f : Field) (i v j : Nat) : (s.putN f i v j).cells = s.cells := rfl
@[simp] theorem State.putN_drvs (s : State) (f : Field) (i v j : Nat) : (s.putN f i v j).drvs = s.drvs := rfl
@[simp] theorem State.putN_sets (s : State) (f : Field) (i v j : Nat) : (s.putN f i v j).sets = s.sets := rfl
@[simp] theorem State.putN_arms (s : State) (f : Field) (i v j : Nat) : (s.putN f i v j).arms = s.arms := rfl
@[simp] theorem State.putN_shafts (s : State) (f : Field) (i v j : Nat) : (s.putN f i v j).shafts = s.shafts := rfl
@[simp] theorem State.putN_powers (s : State) (f : Field) (i v j : Nat) : (s.putN f i v j).powers = s.powers := rfl
@[simp] theorem State.putN_fbs (s : State) (f : Field) (i v j : Nat) : (s.putN f i v j).fbs = s.fbs := rfl
@[simp] theorem State.putN_cmps (s : State) (f : Field) (i v j : Nat) : (s.putN f i v j).cmps = s.cmps := rfl
@[simp] theorem State.putN_ptOut (s : State) (f : Field) (i v j : Nat) : (s.putN f i v j).ptOut = s.ptOut := rfl
@[simp] theorem State.putN_tokens (s : State) (f : Field) (i v j : Nat) : (s.putN f i v j).tokens = s.tokens := rfl
@[simp] theorem State.putN_hw (s : State) (f : Field) (i v j : Nat) : (s.putN f i v j).hw = s.hw := rfl
@[simp] theorem State.putN_brs (s : State) (f : Field) (i v j : Nat) : (s.putN f i v j).brs = s.brs := rfl
@[simp] theorem State.putN_vaux (s : State) (f : Field) (i v j : Nat) : (s.putN f i v j).vaux = s.vaux := rfl
@[simp] theorem State.putN_engs (s : State) (f : Field) (i v j : Nat) : (s.putN f i v j).engs = s.engs := rfl
@[simp] theorem State.putN_axes (s : State) (f : Field) (i v j : Nat) : (s.putN f i v j).axes = s.axes := rfl
@[simp] theorem State.putN_cans (s : State) (f : Field) (i v j : Nat) : (s.putN f i v j).cans = s.cans := rfl
@[simp] theorem State.putN_free (s : State) (f : Field) (i v j : Nat) : (s.putN f i v j).free = s.free := rfl
@[simp] theorem State.putN_irq (s : State) (f : Field) (i v j : Nat) : (s.putN f i v j).irq = s.irq := rfl
@[simp] theorem State.putN_so (s : State) (f : Field) (i v j : Nat) : (s.putN f i v j).so = s.so := rfl
@[simp] theorem State.putN_jrn (s : State) (f : Field) (i v j : Nat) : (s.putN f i v j).jrn = s.jrn := rfl
@[simp] theorem State.putN_host (s : State) (f : Field) (i v j : Nat) : (s.putN f i v j).host = s.host := rfl
@[simp] theorem State.putN_out (s : State) (f : Field) (i v j : Nat) : (s.putN f i v j).out = s.out := rfl
@[simp] theorem State.inc_rest (s : State) (f : Field) (i j : Nat) : (s.inc f i j).rest = s.rest := rfl
@[simp] theorem State.inc_pending (s : State) (f : Field) (i j : Nat) : (s.inc f i j).pending = s.pending := rfl
@[simp] theorem State.inc_clk (s : State) (f : Field) (i j : Nat) : (s.inc f i j).clk = s.clk := rfl
@[simp] theorem State.inc_led (s : State) (f : Field) (i j : Nat) : (s.inc f i j).led = s.led := rfl
@[simp] theorem State.inc_cep (s : State) (f : Field) (i j : Nat) : (s.inc f i j).cep = s.cep := rfl
@[simp] theorem State.inc_dev (s : State) (f : Field) (i j : Nat) : (s.inc f i j).dev = s.dev := rfl
@[simp] theorem State.inc_plant (s : State) (f : Field) (i j : Nat) : (s.inc f i j).plant = s.plant := rfl
@[simp] theorem State.inc_guards (s : State) (f : Field) (i j : Nat) : (s.inc f i j).guards = s.guards := rfl
@[simp] theorem State.inc_levels (s : State) (f : Field) (i j : Nat) : (s.inc f i j).levels = s.levels := rfl
@[simp] theorem State.inc_env (s : State) (f : Field) (i j : Nat) : (s.inc f i j).env = s.env := rfl
@[simp] theorem State.inc_rep (s : State) (f : Field) (i j : Nat) : (s.inc f i j).rep = s.rep := rfl
@[simp] theorem State.inc_pair (s : State) (f : Field) (i j : Nat) : (s.inc f i j).pair = s.pair := rfl
@[simp] theorem State.inc_rnds (s : State) (f : Field) (i j : Nat) : (s.inc f i j).rnds = s.rnds := rfl
@[simp] theorem State.inc_cells (s : State) (f : Field) (i j : Nat) : (s.inc f i j).cells = s.cells := rfl
@[simp] theorem State.inc_drvs (s : State) (f : Field) (i j : Nat) : (s.inc f i j).drvs = s.drvs := rfl
@[simp] theorem State.inc_sets (s : State) (f : Field) (i j : Nat) : (s.inc f i j).sets = s.sets := rfl
@[simp] theorem State.inc_arms (s : State) (f : Field) (i j : Nat) : (s.inc f i j).arms = s.arms := rfl
@[simp] theorem State.inc_shafts (s : State) (f : Field) (i j : Nat) : (s.inc f i j).shafts = s.shafts := rfl
@[simp] theorem State.inc_powers (s : State) (f : Field) (i j : Nat) : (s.inc f i j).powers = s.powers := rfl
@[simp] theorem State.inc_fbs (s : State) (f : Field) (i j : Nat) : (s.inc f i j).fbs = s.fbs := rfl
@[simp] theorem State.inc_cmps (s : State) (f : Field) (i j : Nat) : (s.inc f i j).cmps = s.cmps := rfl
@[simp] theorem State.inc_ptOut (s : State) (f : Field) (i j : Nat) : (s.inc f i j).ptOut = s.ptOut := rfl
@[simp] theorem State.inc_tokens (s : State) (f : Field) (i j : Nat) : (s.inc f i j).tokens = s.tokens := rfl
@[simp] theorem State.inc_hw (s : State) (f : Field) (i j : Nat) : (s.inc f i j).hw = s.hw := rfl
@[simp] theorem State.inc_brs (s : State) (f : Field) (i j : Nat) : (s.inc f i j).brs = s.brs := rfl
@[simp] theorem State.inc_vaux (s : State) (f : Field) (i j : Nat) : (s.inc f i j).vaux = s.vaux := rfl
@[simp] theorem State.inc_engs (s : State) (f : Field) (i j : Nat) : (s.inc f i j).engs = s.engs := rfl
@[simp] theorem State.inc_axes (s : State) (f : Field) (i j : Nat) : (s.inc f i j).axes = s.axes := rfl
@[simp] theorem State.inc_cans (s : State) (f : Field) (i j : Nat) : (s.inc f i j).cans = s.cans := rfl
@[simp] theorem State.inc_free (s : State) (f : Field) (i j : Nat) : (s.inc f i j).free = s.free := rfl
@[simp] theorem State.inc_irq (s : State) (f : Field) (i j : Nat) : (s.inc f i j).irq = s.irq := rfl
@[simp] theorem State.inc_so (s : State) (f : Field) (i j : Nat) : (s.inc f i j).so = s.so := rfl
@[simp] theorem State.inc_jrn (s : State) (f : Field) (i j : Nat) : (s.inc f i j).jrn = s.jrn := rfl
@[simp] theorem State.inc_host (s : State) (f : Field) (i j : Nat) : (s.inc f i j).host = s.host := rfl
@[simp] theorem State.inc_out (s : State) (f : Field) (i j : Nat) : (s.inc f i j).out = s.out := rfl

/-! ## Replacing a record -/

@[simp] theorem State.withPending_rest (s : State) (v : List Instr) : (s.withPending v).rest = s.rest.withPending v := by cases s; rfl
@[simp] theorem State.withPending_twice (s : State) (v w : List Instr) : (s.withPending v).withPending w = s.withPending w := by cases s; rfl
@[simp] theorem State.withPending_self (s : State) : s.withPending s.pending = s := by cases s; rfl
@[simp] theorem State.withPending_w (s : State) (v : List Instr) (f : Field) (i j : Nat) : (s.withPending v).w f i j = s.w f i j := rfl
@[simp] theorem State.withClk_rest (s : State) (v : Clock) : (s.withClk v).rest = s.rest.withClk v := by cases s; rfl
@[simp] theorem State.withClk_twice (s : State) (v w : Clock) : (s.withClk v).withClk w = s.withClk w := by cases s; rfl
@[simp] theorem State.withClk_self (s : State) : s.withClk s.clk = s := by cases s; rfl
@[simp] theorem State.withClk_w (s : State) (v : Clock) (f : Field) (i j : Nat) : (s.withClk v).w f i j = s.w f i j := rfl
@[simp] theorem State.withLed_rest (s : State) (v : Store) : (s.withLed v).rest = s.rest.withLed v := by cases s; rfl
@[simp] theorem State.withLed_twice (s : State) (v w : Store) : (s.withLed v).withLed w = s.withLed w := by cases s; rfl
@[simp] theorem State.withLed_self (s : State) : s.withLed s.led = s := by cases s; rfl
@[simp] theorem State.withLed_w (s : State) (v : Store) (f : Field) (i j : Nat) : (s.withLed v).w f i j = s.w f i j := rfl
@[simp] theorem State.withCep_rest (s : State) (v : List (Pt × Nat)) : (s.withCep v).rest = s.rest.withCep v := by cases s; rfl
@[simp] theorem State.withCep_twice (s : State) (v w : List (Pt × Nat)) : (s.withCep v).withCep w = s.withCep w := by cases s; rfl
@[simp] theorem State.withCep_self (s : State) : s.withCep s.cep = s := by cases s; rfl
@[simp] theorem State.withCep_w (s : State) (v : List (Pt × Nat)) (f : Field) (i j : Nat) : (s.withCep v).w f i j = s.w f i j := rfl
@[simp] theorem State.withDev_rest (s : State) (v : Dev) : (s.withDev v).rest = s.rest.withDev v := by cases s; rfl
@[simp] theorem State.withDev_twice (s : State) (v w : Dev) : (s.withDev v).withDev w = s.withDev w := by cases s; rfl
@[simp] theorem State.withDev_self (s : State) : s.withDev s.dev = s := by cases s; rfl
@[simp] theorem State.withDev_w (s : State) (v : Dev) (f : Field) (i j : Nat) : (s.withDev v).w f i j = s.w f i j := rfl
@[simp] theorem State.withPlant_rest (s : State) (v : Plant) : (s.withPlant v).rest = s.rest.withPlant v := by cases s; rfl
@[simp] theorem State.withPlant_twice (s : State) (v w : Plant) : (s.withPlant v).withPlant w = s.withPlant w := by cases s; rfl
@[simp] theorem State.withPlant_self (s : State) : s.withPlant s.plant = s := by cases s; rfl
@[simp] theorem State.withPlant_w (s : State) (v : Plant) (f : Field) (i j : Nat) : (s.withPlant v).w f i j = s.w f i j := rfl
@[simp] theorem State.withGuards_rest (s : State) (v : Tab Guard) : (s.withGuards v).rest = s.rest.withGuards v := by cases s; rfl
@[simp] theorem State.withGuards_twice (s : State) (v w : Tab Guard) : (s.withGuards v).withGuards w = s.withGuards w := by cases s; rfl
@[simp] theorem State.withGuards_self (s : State) : s.withGuards s.guards = s := by cases s; rfl
@[simp] theorem State.withGuards_w (s : State) (v : Tab Guard) (f : Field) (i j : Nat) : (s.withGuards v).w f i j = s.w f i j := rfl
@[simp] theorem State.withLevels_rest (s : State) (v : Tab Nat) : (s.withLevels v).rest = s.rest.withLevels v := by cases s; rfl
@[simp] theorem State.withLevels_twice (s : State) (v w : Tab Nat) : (s.withLevels v).withLevels w = s.withLevels w := by cases s; rfl
@[simp] theorem State.withLevels_self (s : State) : s.withLevels s.levels = s := by cases s; rfl
@[simp] theorem State.withLevels_w (s : State) (v : Tab Nat) (f : Field) (i j : Nat) : (s.withLevels v).w f i j = s.w f i j := rfl
@[simp] theorem State.withEnv_rest (s : State) (v : Tab Tier) : (s.withEnv v).rest = s.rest.withEnv v := by cases s; rfl
@[simp] theorem State.withEnv_twice (s : State) (v w : Tab Tier) : (s.withEnv v).withEnv w = s.withEnv w := by cases s; rfl
@[simp] theorem State.withEnv_self (s : State) : s.withEnv s.env = s := by cases s; rfl
@[simp] theorem State.withEnv_w (s : State) (v : Tab Tier) (f : Field) (i j : Nat) : (s.withEnv v).w f i j = s.w f i j := rfl
@[simp] theorem State.withRep_rest (s : State) (v : Replay) : (s.withRep v).rest = s.rest.withRep v := by cases s; rfl
@[simp] theorem State.withRep_twice (s : State) (v w : Replay) : (s.withRep v).withRep w = s.withRep w := by cases s; rfl
@[simp] theorem State.withRep_self (s : State) : s.withRep s.rep = s := by cases s; rfl
@[simp] theorem State.withRep_w (s : State) (v : Replay) (f : Field) (i j : Nat) : (s.withRep v).w f i j = s.w f i j := rfl
@[simp] theorem State.withPair_rest (s : State) (v : PairSt) : (s.withPair v).rest = s.rest.withPair v := by cases s; rfl
@[simp] theorem State.withPair_twice (s : State) (v w : PairSt) : (s.withPair v).withPair w = s.withPair w := by cases s; rfl
@[simp] theorem State.withPair_self (s : State) : s.withPair s.pair = s := by cases s; rfl
@[simp] theorem State.withPair_w (s : State) (v : PairSt) (f : Field) (i j : Nat) : (s.withPair v).w f i j = s.w f i j := rfl
@[simp] theorem State.withRnds_rest (s : State) (v : Tab Rnd) : (s.withRnds v).rest = s.rest.withRnds v := by cases s; rfl
@[simp] theorem State.withRnds_twice (s : State) (v w : Tab Rnd) : (s.withRnds v).withRnds w = s.withRnds w := by cases s; rfl
@[simp] theorem State.withRnds_self (s : State) : s.withRnds s.rnds = s := by cases s; rfl
@[simp] theorem State.withRnds_w (s : State) (v : Tab Rnd) (f : Field) (i j : Nat) : (s.withRnds v).w f i j = s.w f i j := rfl
@[simp] theorem State.withCells_rest (s : State) (v : Tab CellSt) : (s.withCells v).rest = s.rest.withCells v := by cases s; rfl
@[simp] theorem State.withCells_twice (s : State) (v w : Tab CellSt) : (s.withCells v).withCells w = s.withCells w := by cases s; rfl
@[simp] theorem State.withCells_self (s : State) : s.withCells s.cells = s := by cases s; rfl
@[simp] theorem State.withCells_w (s : State) (v : Tab CellSt) (f : Field) (i j : Nat) : (s.withCells v).w f i j = s.w f i j := rfl
@[simp] theorem State.withDrvs_rest (s : State) (v : Tab Drv) : (s.withDrvs v).rest = s.rest.withDrvs v := by cases s; rfl
@[simp] theorem State.withDrvs_twice (s : State) (v w : Tab Drv) : (s.withDrvs v).withDrvs w = s.withDrvs w := by cases s; rfl
@[simp] theorem State.withDrvs_self (s : State) : s.withDrvs s.drvs = s := by cases s; rfl
@[simp] theorem State.withDrvs_w (s : State) (v : Tab Drv) (f : Field) (i j : Nat) : (s.withDrvs v).w f i j = s.w f i j := rfl
@[simp] theorem State.withSets_rest (s : State) (v : Tab SetSt) : (s.withSets v).rest = s.rest.withSets v := by cases s; rfl
@[simp] theorem State.withSets_twice (s : State) (v w : Tab SetSt) : (s.withSets v).withSets w = s.withSets w := by cases s; rfl
@[simp] theorem State.withSets_self (s : State) : s.withSets s.sets = s := by cases s; rfl
@[simp] theorem State.withSets_w (s : State) (v : Tab SetSt) (f : Field) (i j : Nat) : (s.withSets v).w f i j = s.w f i j := rfl
@[simp] theorem State.withArms_rest (s : State) (v : Tab ArmSt) : (s.withArms v).rest = s.rest.withArms v := by cases s; rfl
@[simp] theorem State.withArms_twice (s : State) (v w : Tab ArmSt) : (s.withArms v).withArms w = s.withArms w := by cases s; rfl
@[simp] theorem State.withArms_self (s : State) : s.withArms s.arms = s := by cases s; rfl
@[simp] theorem State.withArms_w (s : State) (v : Tab ArmSt) (f : Field) (i j : Nat) : (s.withArms v).w f i j = s.w f i j := rfl
@[simp] theorem State.withShafts_rest (s : State) (v : Tab ShaftSt) : (s.withShafts v).rest = s.rest.withShafts v := by cases s; rfl
@[simp] theorem State.withShafts_twice (s : State) (v w : Tab ShaftSt) : (s.withShafts v).withShafts w = s.withShafts w := by cases s; rfl
@[simp] theorem State.withShafts_self (s : State) : s.withShafts s.shafts = s := by cases s; rfl
@[simp] theorem State.withShafts_w (s : State) (v : Tab ShaftSt) (f : Field) (i j : Nat) : (s.withShafts v).w f i j = s.w f i j := rfl
@[simp] theorem State.withPowers_rest (s : State) (v : Tab PowerSt) : (s.withPowers v).rest = s.rest.withPowers v := by cases s; rfl
@[simp] theorem State.withPowers_twice (s : State) (v w : Tab PowerSt) : (s.withPowers v).withPowers w = s.withPowers w := by cases s; rfl
@[simp] theorem State.withPowers_self (s : State) : s.withPowers s.powers = s := by cases s; rfl
@[simp] theorem State.withPowers_w (s : State) (v : Tab PowerSt) (f : Field) (i j : Nat) : (s.withPowers v).w f i j = s.w f i j := rfl
@[simp] theorem State.withFbs_rest (s : State) (v : Tab Fb) : (s.withFbs v).rest = s.rest.withFbs v := by cases s; rfl
@[simp] theorem State.withFbs_twice (s : State) (v w : Tab Fb) : (s.withFbs v).withFbs w = s.withFbs w := by cases s; rfl
@[simp] theorem State.withFbs_self (s : State) : s.withFbs s.fbs = s := by cases s; rfl
@[simp] theorem State.withFbs_w (s : State) (v : Tab Fb) (f : Field) (i j : Nat) : (s.withFbs v).w f i j = s.w f i j := rfl
@[simp] theorem State.withCmps_rest (s : State) (v : Tab CmpSt) : (s.withCmps v).rest = s.rest.withCmps v := by cases s; rfl
@[simp] theorem State.withCmps_twice (s : State) (v w : Tab CmpSt) : (s.withCmps v).withCmps w = s.withCmps w := by cases s; rfl
@[simp] theorem State.withCmps_self (s : State) : s.withCmps s.cmps = s := by cases s; rfl
@[simp] theorem State.withCmps_w (s : State) (v : Tab CmpSt) (f : Field) (i j : Nat) : (s.withCmps v).w f i j = s.w f i j := rfl
@[simp] theorem State.withPtOut_rest (s : State) (v : Tab Nat) : (s.withPtOut v).rest = s.rest.withPtOut v := by cases s; rfl
@[simp] theorem State.withPtOut_twice (s : State) (v w : Tab Nat) : (s.withPtOut v).withPtOut w = s.withPtOut w := by cases s; rfl
@[simp] theorem State.withPtOut_self (s : State) : s.withPtOut s.ptOut = s := by cases s; rfl
@[simp] theorem State.withPtOut_w (s : State) (v : Tab Nat) (f : Field) (i j : Nat) : (s.withPtOut v).w f i j = s.w f i j := rfl
@[simp] theorem State.withTokens_rest (s : State) (v : Nat) : (s.withTokens v).rest = s.rest.withTokens v := by cases s; rfl
@[simp] theorem State.withTokens_twice (s : State) (v w : Nat) : (s.withTokens v).withTokens w = s.withTokens w := by cases s; rfl
@[simp] theorem State.withTokens_self (s : State) : s.withTokens s.tokens = s := by cases s; rfl
@[simp] theorem State.withTokens_w (s : State) (v : Nat) (f : Field) (i j : Nat) : (s.withTokens v).w f i j = s.w f i j := rfl
@[simp] theorem State.withHw_rest (s : State) (v : Hw) : (s.withHw v).rest = s.rest.withHw v := by cases s; rfl
@[simp] theorem State.withHw_twice (s : State) (v w : Hw) : (s.withHw v).withHw w = s.withHw w := by cases s; rfl
@[simp] theorem State.withHw_self (s : State) : s.withHw s.hw = s := by cases s; rfl
@[simp] theorem State.withHw_w (s : State) (v : Hw) (f : Field) (i j : Nat) : (s.withHw v).w f i j = s.w f i j := rfl
@[simp] theorem State.withBrs_rest (s : State) (v : Tab Br) : (s.withBrs v).rest = s.rest.withBrs v := by cases s; rfl
@[simp] theorem State.withBrs_twice (s : State) (v w : Tab Br) : (s.withBrs v).withBrs w = s.withBrs w := by cases s; rfl
@[simp] theorem State.withBrs_self (s : State) : s.withBrs s.brs = s := by cases s; rfl
@[simp] theorem State.withBrs_w (s : State) (v : Tab Br) (f : Field) (i j : Nat) : (s.withBrs v).w f i j = s.w f i j := rfl
@[simp] theorem State.withVaux_rest (s : State) (v : Vaux) : (s.withVaux v).rest = s.rest.withVaux v := by cases s; rfl
@[simp] theorem State.withVaux_twice (s : State) (v w : Vaux) : (s.withVaux v).withVaux w = s.withVaux w := by cases s; rfl
@[simp] theorem State.withVaux_self (s : State) : s.withVaux s.vaux = s := by cases s; rfl
@[simp] theorem State.withVaux_w (s : State) (v : Vaux) (f : Field) (i j : Nat) : (s.withVaux v).w f i j = s.w f i j := rfl
@[simp] theorem State.withEngs_rest (s : State) (v : Tab Eng) : (s.withEngs v).rest = s.rest.withEngs v := by cases s; rfl
@[simp] theorem State.withEngs_twice (s : State) (v w : Tab Eng) : (s.withEngs v).withEngs w = s.withEngs w := by cases s; rfl
@[simp] theorem State.withEngs_self (s : State) : s.withEngs s.engs = s := by cases s; rfl
@[simp] theorem State.withEngs_w (s : State) (v : Tab Eng) (f : Field) (i j : Nat) : (s.withEngs v).w f i j = s.w f i j := rfl
@[simp] theorem State.withAxes_rest (s : State) (v : Tab Axis) : (s.withAxes v).rest = s.rest.withAxes v := by cases s; rfl
@[simp] theorem State.withAxes_twice (s : State) (v w : Tab Axis) : (s.withAxes v).withAxes w = s.withAxes w := by cases s; rfl
@[simp] theorem State.withAxes_self (s : State) : s.withAxes s.axes = s := by cases s; rfl
@[simp] theorem State.withAxes_w (s : State) (v : Tab Axis) (f : Field) (i j : Nat) : (s.withAxes v).w f i j = s.w f i j := rfl
@[simp] theorem State.withCans_rest (s : State) (v : Tab Can) : (s.withCans v).rest = s.rest.withCans v := by cases s; rfl
@[simp] theorem State.withCans_twice (s : State) (v w : Tab Can) : (s.withCans v).withCans w = s.withCans w := by cases s; rfl
@[simp] theorem State.withCans_self (s : State) : s.withCans s.cans = s := by cases s; rfl
@[simp] theorem State.withCans_w (s : State) (v : Tab Can) (f : Field) (i j : Nat) : (s.withCans v).w f i j = s.w f i j := rfl
@[simp] theorem State.withFree_rest (s : State) (v : Nat) : (s.withFree v).rest = s.rest.withFree v := by cases s; rfl
@[simp] theorem State.withFree_twice (s : State) (v w : Nat) : (s.withFree v).withFree w = s.withFree w := by cases s; rfl
@[simp] theorem State.withFree_self (s : State) : s.withFree s.free = s := by cases s; rfl
@[simp] theorem State.withFree_w (s : State) (v : Nat) (f : Field) (i j : Nat) : (s.withFree v).w f i j = s.w f i j := rfl
@[simp] theorem State.withIrq_rest (s : State) (v : Irq) : (s.withIrq v).rest = s.rest := by cases s; rfl
@[simp] theorem State.withIrq_w (s : State) (v : Irq) (f : Field) (i j : Nat) : (s.withIrq v).w f i j = s.w f i j := rfl
@[simp] theorem State.withSo_rest (s : State) (v : Sorting) : (s.withSo v).rest = s.rest := by cases s; rfl
@[simp] theorem State.withSo_w (s : State) (v : Sorting) (f : Field) (i j : Nat) : (s.withSo v).w f i j = s.w f i j := rfl
@[simp] theorem State.withJrn_rest (s : State) (v : Journal) :
    (s.withJrn v).rest = s.rest.withJrn { v with caps := [] } := by cases s; rfl
@[simp] theorem State.withJrn_twice (s : State) (v w : Journal) : (s.withJrn v).withJrn w = s.withJrn w := by cases s; rfl
@[simp] theorem State.withJrn_self (s : State) : s.withJrn s.jrn = s := by cases s; rfl
@[simp] theorem State.withHost_rest (s : State) (v : HostIf) :
    (s.withHost v).rest = s.rest.withHost { v with rings := v.rings.filter (fun e => !recordRing e.1), msixPend := 0 } := by
  cases s; rfl
@[simp] theorem State.withHost_twice (s : State) (v w : HostIf) : (s.withHost v).withHost w = s.withHost w := by cases s; rfl
@[simp] theorem State.withHost_self (s : State) : s.withHost s.host = s := by cases s; rfl
@[simp] theorem State.withJrn_w (s : State) (v : Journal) (f : Field) (i j : Nat) : (s.withJrn v).w f i j = s.w f i j := rfl
@[simp] theorem State.withHost_w (s : State) (v : HostIf) (f : Field) (i j : Nat) : (s.withHost v).w f i j = s.w f i j := rfl
@[simp] theorem State.withOut_rest (s : State) (v : List Out) : (s.withOut v).rest = s.rest := by cases s; rfl
@[simp] theorem State.withOut_w (s : State) (v : List Out) (f : Field) (i j : Nat) : (s.withOut v).w f i j = s.w f i j := rfl

/-! ## Reading after writing -/

@[simp] theorem Word.toNat_ofNat' (v : Nat) : (Word.ofNat v).toNat = v % 2 ^ 32 := BitVec.toNat_ofNat v 32

theorem State.n_putN_same (s : State) (f : Field) (i v j : Nat) (h : v < 2 ^ 32) : (s.putN f i v j).n f i j = v := by
  simp only [State.n, State.putN, State.w_put_same, Word.toNat_ofNat', Nat.mod_eq_of_lt h]

theorem State.n_put_field (s : State) {f g : Field} {i k : Nat} (w : Word) {j l : Nat} (h : g ≠ f) :
    (s.put f i w j).n g k l = s.n g k l := by simp only [State.n, s.w_put_field w h]

@[simp] theorem State.n_putN_field (s : State) {f g : Field} {i k v j l : Nat} (h : g ≠ f) :
    (s.putN f i v j).n g k l = s.n g k l := s.n_put_field _ h

@[simp] theorem State.w_putN_field (s : State) {f g : Field} {i k v j l : Nat} (h : g ≠ f) :
    (s.putN f i v j).w g k l = s.w g k l := s.w_put_field _ h

@[simp] theorem State.w_putN_same (s : State) (f : Field) (i v j : Nat) : (s.putN f i v j).w f i j = Word.ofNat v :=
  s.w_put_same f i _ j

theorem State.n_of_quiet {s t : State} (h : t.quiet = s.quiet) (f : Field) (i j : Nat) (hf : fieldReports f = false) :
    t.n f i j = s.n f i j := by simp only [State.n, State.w_of_quiet h f i j hf]

/-! ## Frames -/

theorem QuietPoints.refl (s : State) (ps : List Pt) : QuietPoints s s ps := fun _ _ _ _ _ => rfl

theorem QuietPoints.of_quiet {s t : State} (h : t.quiet = s.quiet) : QuietPoints s t [] :=
  fun f i j _ hf => State.w_of_quiet h f i j hf

theorem QuietPoints.put (s : State) (f : Field) (i : Nat) (w : Word) (j : Nat) : QuietPoints s (s.put f i w j) [⟨f, i, j⟩] :=
  fun _ _ _ hn _ => s.w_put_ne w (by simpa using hn)

theorem QuietPoints.trans {s t u : State} {ps qs : List Pt} (h : QuietPoints s t ps) (k : QuietPoints t u qs) :
    QuietPoints s u (ps ++ qs) := fun f i j hn hf => by
  simp only [List.mem_append, not_or] at hn
  rw [k f i j hn.2 hf, h f i j hn.1 hf]

theorem QuietPoints.mono {s t : State} {ps qs : List Pt} (h : QuietPoints s t ps) (hs : ps ⊆ qs) : QuietPoints s t qs :=
  fun f i j hn hf => h f i j (fun hm => hn (hs hm)) hf

theorem SamePoints.quiet {s t : State} {ps : List Pt} (h : SamePoints s t ps) : QuietPoints s t ps :=
  fun f i j hn _ => h f i j hn

theorem SamePoints.put (s : State) (f : Field) (i : Nat) (w : Word) (j : Nat) : SamePoints s (s.put f i w j) [⟨f, i, j⟩] :=
  fun _ _ _ hn => s.w_put_ne w (by simpa using hn)

theorem SamePoints.trans {s t u : State} {ps qs : List Pt} (h : SamePoints s t ps) (k : SamePoints t u qs) :
    SamePoints s u (ps ++ qs) := fun f i j hn => by
  simp only [List.mem_append, not_or] at hn
  rw [k f i j hn.2, h f i j hn.1]

theorem SamePoints.mono {s t : State} {ps qs : List Pt} (h : SamePoints s t ps) (hs : ps ⊆ qs) : SamePoints s t qs :=
  fun f i j hn => h f i j fun hm => hn (hs hm)

end Sys2Proof.Machine
end

