-- ==== Sys2Proof/Laws/Drives.lean ====
section
/-!
SUPPORT. Laws/Drives.lean: what the operations on a drive's record and regime can do (`DriveOnly`), and the regime that a change
of regime leaves.
-/
namespace Sys2Proof.Machine

@[simp] theorem State.drv_putDrv_same (s : State) (d : Nat) (k : Drv) : (s.putDrv d k).drv d = k := by
  simp [State.drv, State.putDrv]

theorem State.drv_putDrv_ne (s : State) {d e : Nat} (k : Drv) (h : e ≠ d) : (s.putDrv d k).drv e = s.drv e := by
  simp [State.drv, State.putDrv, Tab.get_put_ne _ _ _ h]

@[simp] theorem State.drv_putN (s : State) (f : Field) (i v j d : Nat) : (s.putN f i v j).drv d = s.drv d := rfl
@[simp] theorem State.drv_put (s : State) (f : Field) (i : Nat) (v : Word) (j d : Nat) : (s.put f i v j).drv d = s.drv d := rfl
@[simp] theorem State.drv_raiseLane (s : State) (a b c e d : Nat) : (s.raiseLane a b c e).drv d = s.drv d := by
  simp [State.drv]
@[simp] theorem State.drv_irqFire (s : State) (a d : Nat) : (s.irqFire a).drv d = s.drv d := by simp [State.drv]
@[simp] theorem State.drv_raise (s : State) (a b c e d : Nat) : (s.raise a b c e).drv d = s.drv d := by simp [State.drv]
@[simp] theorem State.putDrv_w (s : State) (d : Nat) (k : Drv) (f : Field) (i j : Nat) : (s.putDrv d k).w f i j = s.w f i j := rfl
@[simp] theorem State.putDrv_n (s : State) (d : Nat) (k : Drv) (f : Field) (i j : Nat) : (s.putDrv d k).n f i j = s.n f i j := rfl

/-! ## DriveOnly -/

theorem DriveOnly.refl (s : State) (d : Nat) (ps : List Pt) : DriveOnly s s d ps :=
  ⟨by simp, fun _ _ => rfl, QuietPoints.refl _ _⟩

theorem DriveOnly.put (s : State) (f : Field) (d i : Nat) (w : Word) (j : Nat) : DriveOnly s (s.put f i w j) d [⟨f, i, j⟩] :=
  ⟨by simp, fun _ _ => rfl, QuietPoints.put s f i w j⟩

theorem DriveOnly.putN (s : State) (f : Field) (d i v : Nat) (j : Nat) : DriveOnly s (s.putN f i v j) d [⟨f, i, j⟩] :=
  DriveOnly.put s f d i _ j

theorem DriveOnly.putDrv (s : State) (d : Nat) (k : Drv) : DriveOnly s (s.putDrv d k) d [] :=
  ⟨by simp [State.putDrv], fun _ h => s.drv_putDrv_ne k h, fun _ _ _ _ _ => rfl⟩

theorem DriveOnly.of_quiet {s t : State} (h : t.quiet = s.quiet) (d : Nat) : DriveOnly s t d [] :=
  ⟨by rw [State.rest_of_quiet h, State.drvs_of_quiet h]; simp,
    fun e _ => by simp only [State.drv, State.drvs_of_quiet h], QuietPoints.of_quiet h⟩

theorem DriveOnly.trans {s t u : State} {d : Nat} {ps qs : List Pt} (h : DriveOnly s t d ps) (k : DriveOnly t u d qs) :
    DriveOnly s u d (ps ++ qs) :=
  ⟨by rw [k.1, State.withDrvs_rest, h.1, State.withDrvs_rest, State.withDrvs_twice, ← State.withDrvs_rest],
    fun e he => (k.2.1 e he).trans (h.2.1 e he), h.2.2.trans k.2.2⟩

theorem DriveOnly.mono {s t : State} {d : Nat} {ps qs : List Pt} (h : DriveOnly s t d ps) (hs : ps ⊆ qs) : DriveOnly s t d qs :=
  ⟨h.1, h.2.1, h.2.2.mono hs⟩

theorem DriveOnly.ite {s t u : State} {d : Nat} {ps : List Pt} (c : Prop) [Decidable c] (h : DriveOnly s t d ps)
    (k : DriveOnly s u d ps) : DriveOnly s (if c then t else u) d ps := by
  split <;> assumption

/-! ## Regimes -/

theorem State.leaveRegime_only (s : State) (d new : Nat) : DriveOnly s (s.leaveRegime d new) d [⟨.drvCrashPhase, d, 0⟩] := by
  unfold State.leaveRegime
  extract_lets k old k1 s1 s2
  have h1 : DriveOnly s s1 d [] := DriveOnly.putDrv _ _ _
  have h2 : DriveOnly s s2 d [⟨.drvCrashPhase, d, 0⟩] :=
    DriveOnly.ite _ (h1.trans (DriveOnly.putN _ _ _ _ _ _)) (h1.mono (by simp))
  refine DriveOnly.ite _ ?_ h2
  simpa using h2.trans (DriveOnly.of_quiet (State.raiseLane_quiet _ _ _ _ _) d)

/-- A change of regime touches the drive's record, the three points of `regimePoints` and what reporting writes. -/
theorem State.enterRegime_only (s : State) (d new : Nat) : DriveOnly s (s.enterRegime d new) d (regimePoints d) := by
  unfold State.enterRegime
  extract_lets old s1 k s2
  refine DriveOnly.ite _ (DriveOnly.refl _ _ _) ?_
  have h := ((((s.leaveRegime_only d new).trans (DriveOnly.putN _ .drvRegime d d new 0)).trans
    (DriveOnly.putN s1 .drvHalting d d 0 0)).trans (DriveOnly.putDrv _ d _)).trans
    (DriveOnly.of_quiet (((s2.raiseLane 0x0324 kDrive d (old + 2 ^ 8 * new)).irqFire_quiet (160 + d)).trans
      (State.raiseLane_quiet _ _ _ _ _)) d)
  exact h.mono (by simp [regimePoints])

/-- A drive that has taken no regime in the present epoch may enter any (R186). -/
theorem State.mayTurn_of (s : State) (d new : Nat) (h : (s.drv d).turnAt ≠ some s.epoch) : s.mayTurn d new = true := by
  simp [State.mayTurn, h]

/-- A change of regime leaves the drive in the new regime. -/
theorem State.enterRegime_regime (s : State) (d new : Nat) (ht : s.mayTurn d new = true) (h : new < 2 ^ 32) :
    (s.enterRegime d new).n .drvRegime d = new := by
  unfold State.enterRegime
  extract_lets old s1 k s2
  split
  · next e => exact e.resolve_right (by simp [ht])
  · have hq : ((s2.raiseLane 0x0324 kDrive d (old + 2 ^ 8 * new)).irqFire (160 + d)).quiet = s2.quiet :=
      (State.irqFire_quiet _ _).trans (State.raiseLane_quiet _ _ _ _ _)
    rw [State.n_of_quiet hq _ _ _ rfl]
    simp only [s2, s1, State.putDrv_n]
    rw [State.n_putN_field _ (by decide), State.n_putN_same _ _ _ _ _ h]

/-- A change of regime ends `halting`. -/
theorem State.enterRegime_halting (s : State) (d new : Nat) (ht : s.mayTurn d new = true) (h : s.n .drvRegime d ≠ new) :
    (s.enterRegime d new).n .drvHalting d = 0 := by
  unfold State.enterRegime
  extract_lets old s1 k s2
  split
  · next e => exact absurd (e.resolve_right (by simp [ht])) h
  · have hq : ((s2.raiseLane 0x0324 kDrive d (old + 2 ^ 8 * new)).irqFire (160 + d)).quiet = s2.quiet :=
      (State.irqFire_quiet _ _).trans (State.raiseLane_quiet _ _ _ _ _)
    rw [State.n_of_quiet hq _ _ _ rfl]
    simp only [s2, State.putDrv_n]
    exact State.n_putN_same _ _ _ _ _ (by decide)

theorem State.drv_of_quiet {s t : State} (h : t.quiet = s.quiet) (d : Nat) : t.drv d = s.drv d := by
  simp only [State.drv, State.drvs_of_quiet h]

/-- What a drive's record takes with it when it leaves Render or Crash (R194, R217). -/
def State.leftRecord (s : State) (d : Nat) : Drv :=
  { s.drv d with spdX := s.lastTorque d, refEff := s.r .drvSpeedEst d, renderShock := false, renderCmd := false, crashHist := [] }

theorem State.leaveRegime_drv (s : State) (d new : Nat) :
    (s.leaveRegime d new).drv d = if s.regime d = 3 ∨ s.regime d = 4 then s.leftRecord d else s.drv d := by
  unfold State.leaveRegime
  extract_lets a b c e f
  have h1 : e.drv d = c := State.drv_putDrv_same _ _ _
  have h2 : f.drv d = c := by
    simp only [f]; split
    · rw [State.drv_putN]; exact h1
    · exact h1
  split
  · rw [State.drv_raiseLane]; exact h2
  · exact h2

/-- The drive's record after a change of regime: the epoch and the regime it began with are noted (R186), and Render and Crash leave
something behind. -/
theorem State.enterRegime_drv (s : State) (d new : Nat) : (s.enterRegime d new).drv d =
    if s.regime d = new ∨ ¬s.mayTurn d new then s.drv d
    else { (s.leaveRegime d new).drv d with turnAt := some s.epoch, began := s.began d } := by
  unfold State.enterRegime
  extract_lets old s1 k s2
  split
  · rfl
  · rw [State.drv_of_quiet (((s2.raiseLane 0x0324 kDrive d (old + 2 ^ 8 * new)).irqFire_quiet (160 + d)).trans
      (State.raiseLane_quiet _ _ _ _ _))]
    exact State.drv_putDrv_same _ _ _

end Sys2Proof.Machine
end

