-- ==== Sys2Proof/Laws/Duty.lean ====
section
/-!
SUPPORT. Laws/Duty.lean: what reports leave of the interrupt controller (`State.duty`), and that they clear no pending bit.
-/
namespace Sys2Proof.Machine

@[simp] theorem State.src_putSrc_same (s : State) (id : Nat) (v : Src) : (s.putSrc id v).src id = v := by
  simp [State.src, State.putSrc]

theorem State.src_putSrc_ne (s : State) {id k : Nat} (v : Src) (h : k ≠ id) : (s.putSrc id v).src k = s.src k := by
  simp [State.src, State.putSrc, Tab.get_put_ne _ _ _ h]

@[simp] theorem State.core_putSrc (s : State) (id c : Nat) (v : Src) : (s.putSrc id v).core c = s.core c := rfl

@[simp] theorem State.core_putCore_same (s : State) (c : Nat) (v : CoreIf) : (s.putCore c v).core c = v := by
  simp [State.core, State.putCore]

theorem State.core_putCore_ne (s : State) {c k : Nat} (v : CoreIf) (h : k ≠ c) : (s.putCore c v).core k = s.core k := by
  simp [State.core, State.putCore, Tab.get_put_ne _ _ _ h]

@[simp] theorem State.src_putCore (s : State) (id c : Nat) (v : CoreIf) : (s.putCore c v).src id = s.src id := rfl

@[simp] theorem State.put_duty (s : State) (f : Field) (i : Nat) (w : Word) (j : Nat) : (s.put f i w j).duty = s.duty := rfl
@[simp] theorem State.putN_duty (s : State) (f : Field) (i v j : Nat) : (s.putN f i v j).duty = s.duty := rfl
@[simp] theorem State.put64_duty (s : State) (f : Field) (i v : Nat) : (s.put64 f i v).duty = s.duty := rfl
@[simp] theorem State.inc_duty (s : State) (f : Field) (i j : Nat) : (s.inc f i j).duty = s.duty := rfl
@[simp] theorem State.withSo_duty (s : State) (v : Sorting) : (s.withSo v).duty = s.duty := rfl
@[simp] theorem State.withJrn_duty (s : State) (v : Journal) : (s.withJrn v).duty = s.duty := rfl
@[simp] theorem State.withHost_duty (s : State) (v : HostIf) : (s.withHost v).duty = s.duty := rfl
@[simp] theorem State.withOut_duty (s : State) (v : List Out) : (s.withOut v).duty = s.duty := rfl
@[simp] theorem State.emit_duty (s : State) (v : Out) : (s.emit v).duty = s.duty := rfl
@[simp] theorem State.putRing_duty (s : State) (n : Nat) (v : Ring) : (s.putRing n v).duty = s.duty := rfl

theorem forN_duty (n : Nat) (f : Nat → State → State) (s : State) (h : ∀ a t, (f a t).duty = t.duty) :
    (forN n f s).duty = s.duty := by
  induction n generalizing s with
  | zero => rfl
  | succ n ih => simp [forN, h, ih]

theorem forL_duty {α : Type} (l : List α) (f : α → State → State) (s : State) (h : ∀ a t, (f a t).duty = t.duty) :
    (forL l f s).duty = s.duty := by
  induction l generalizing s with
  | nil => rfl
  | cons a l ih => simp [forL, h, ih]

/-- A core that differs only in what presentation writes has the same duty. -/
theorem State.putCore_duty (s : State) (c : Nat) (v : CoreIf)
    (h : { v with presented := 0, deadPending := false, deadId := 0, waking := false } =
      { s.core c with presented := 0, deadPending := false, deadId := 0, waking := false }) : (s.putCore c v).duty = s.duty := by
  refine Prod.ext rfl (funext fun k => ?_)
  by_cases hk : k = c
  · subst hk; simp only [State.duty, State.core_putCore_same]; exact h
  · simp only [State.duty, s.core_putCore_ne v hk]

@[simp] theorem State.presentAnew_duty (s : State) (c : Nat) : (s.presentAnew c).1.duty = s.duty := by
  unfold State.presentAnew
  refine forN_duty _ _ _ fun a t => ?_
  refine State.putCore_duty _ _ _ ?_
  dsimp only
  split <;> rfl

@[simp] theorem State.represent_duty (s : State) (c : Nat) : (s.represent c).1.duty = s.duty := by
  unfold State.represent; split <;> simp

@[simp] theorem State.irqWakeFor_duty (s : State) (n : Nat) : (s.irqWakeFor n).duty = s.duty := by
  unfold State.irqWakeFor
  dsimp only
  split
  · refine forN_duty _ _ _ fun a t => ?_
    split
    · exact State.putCore_duty _ _ _ rfl
    · rfl
  · rfl

@[simp] theorem State.irqSettle_duty (s : State) (l : List Nat) (c : Nat) : (s.irqSettle l c).1.duty = s.duty := by
  unfold State.irqSettle
  exact (forL_duty _ _ _ fun a t => State.irqWakeFor_duty _ _).trans
    ((forL_duty _ _ _ fun a t => State.inc_duty _ _ _ _).trans (State.represent_duty _ _))

theorem State.irqFire_duty (s : State) (id : Nat) (h : recordSource id = true) : (s.irqFire id).duty = s.duty := by
  unfold State.irqFire
  split
  · rw [State.irqSettle_duty]
    refine Prod.ext (funext fun k => ?_) rfl
    by_cases hk : k = id
    · subst hk; simp [State.duty, h]
    · simp only [State.duty, s.src_putSrc_ne _ hk]
  · rfl

@[simp] theorem State.msix_duty (s : State) (v : Nat) : (s.msix v).duty = s.duty := by
  unfold State.msix; split <;> simp

theorem State.ringSignal_duty (s : State) (k : Nat) (h : k < 32 ∨ recordSource (224 + ringNo k) = true) :
    (s.ringSignal k).duty = s.duty := by
  unfold State.ringSignal
  split
  · simp
  · next hk => exact State.irqFire_duty _ _ (h.resolve_left hk)

@[simp] theorem State.mirror_duty (s : State) (v : Nat) : (s.mirror v).duty = s.duty := rfl

theorem State.ringWrote_duty (s : State) (k : Nat) (h : k < 32 ∨ recordSource (224 + ringNo k) = true) :
    (s.ringWrote k).duty = s.duty := by
  unfold State.ringWrote
  dsimp only
  split
  · rw [State.ringSignal_duty _ _ h]; simp
  · simp

theorem State.deliver_duty (s : State) (k : Nat) (e : EvRec) (h : k = 16 ∨ k = 48) : (s.deliver k e).duty = s.duty := by
  have hr : k < 32 ∨ recordSource (224 + ringNo k) = true := by
    rcases h with rfl | rfl
    · exact .inl (by decide)
    · exact .inr rfl
  unfold State.deliver
  dsimp only
  repeat' split
  all_goals first
    | (simp; done)
    | (rw [State.irqFire_duty _ 10 rfl, State.ringWrote_duty _ _ hr]; simp; done)
    | (rw [State.ringWrote_duty _ _ hr]; simp)

@[simp] theorem State.putBitmap_duty (s : State) (k : Nat) (e : EvRec) (l : List Nat) : (s.putBitmap k e l).duty = s.duty :=
  (forN_duty _ _ _ fun _ _ => State.putN_duty _ _ _ _ _).trans rfl

@[simp] theorem State.closePostmark_duty (s : State) (p : Postmark) (b : Bool) : (s.closePostmark p b).duty = s.duty := by
  unfold State.closePostmark
  dsimp only
  rw [State.deliver_duty _ _ _ (.inr rfl), State.deliver_duty _ _ _ (.inl rfl)]
  split
  · rw [State.putBitmap_duty, State.put64_duty, State.withSo_duty]
  · rw [State.put64_duty, State.withSo_duty]

@[simp] theorem State.openPostmark_duty (s : State) (p : Postmark) : (s.openPostmark p).duty = s.duty := by
  unfold State.openPostmark
  dsimp only
  split <;> simp

@[simp] theorem State.ingest_duty (x0 x1 x2 : Nat) (x3 : Rep) (x4 : State) : (State.ingest x0 x1 x2 x3 x4).duty = x4.duty := by
  induction x0 generalizing x1 x2 x3 x4 with
  | zero =>
    unfold State.ingest
    repeat' split
    all_goals first
      | contradiction
      | (simp; done)
  | succ n ih =>
    unfold State.ingest
    repeat' split
    all_goals first
      | contradiction
      | (simp; done)
      | (next e =>
         injection e with e
         subst e
         rw [ih]; simp)

@[simp] theorem State.report_duty (s : State) (a b c d e : Nat) : (s.report a b c d e).duty = s.duty := by
  unfold State.report
  split <;> simp

@[simp] theorem State.putCapture_duty (s : State) (i : Nat) (c : Capture) : (s.putCapture i c).duty = s.duty := rfl

@[simp] theorem State.jrnPublish_duty (s : State) : s.jrnPublish.duty = s.duty := rfl

@[simp] theorem State.captureTrigger_duty (s : State) (a b c : Nat) : (s.captureTrigger a b c).1.duty = s.duty := by
  unfold State.captureTrigger
  dsimp only
  repeat' split
  all_goals simp

/-- An event without an interrupt source of its own leaves the controller's duty. -/
theorem State.raiseAt_duty (s : State) (a b c d e : Nat) (h : eventIrq a b c = none) : (s.raiseAt a b c d e).duty = s.duty := by
  unfold State.raiseAt
  rw [h]
  dsimp only
  split <;> simp

theorem State.raise_duty (s : State) (a b c d : Nat) (h : eventIrq a b c = none) : (s.raise a b c d).duty = s.duty :=
  s.raiseAt_duty _ _ _ _ _ h

@[simp] theorem State.deadLetters_duty (s : State) (l : List (Nat × Nat)) : (s.deadLetters l).duty = s.duty :=
  forL_duty _ _ _ fun _ _ => State.raise_duty _ _ _ _ _ (by simp [eventIrq])

@[simp] theorem State.irqUpdate_duty (s : State) (l : List Nat) (c : Nat) : (s.irqUpdate l c).duty = s.duty := by
  unfold State.irqUpdate
  simp

/-! ## Reading through the duty -/

theorem State.duty_src {s t : State} (h : t.duty = s.duty) (id : Nat) :
    { t.src id with pend := !recordSource id && (t.src id).pend } =
      { s.src id with pend := !recordSource id && (s.src id).pend } := congrFun (congrArg Prod.fst h) id

/-- A source that event records do not fire is unchanged. -/
theorem State.src_of_duty {s t : State} (h : t.duty = s.duty) {id : Nat} (hi : recordSource id = false) : t.src id = s.src id := by
  have e : ∀ x : Src, { x with pend := !recordSource id && x.pend } = x := fun x => by cases x; simp [hi]
  rw [← e (t.src id), ← e (s.src id)]
  exact State.duty_src h id

theorem State.core_of_duty {s t : State} (h : t.duty = s.duty) (c : Nat) :
    { t.core c with presented := 0, deadPending := false, deadId := 0, waking := false } =
      { s.core c with presented := 0, deadPending := false, deadId := 0, waking := false } := congrFun (congrArg Prod.snd h) c

/-- What the duty of a core fixes. -/
theorem State.core_parts {s t : State} {c : Nat} (h : t.duty.2 c = s.duty.2 c) :
    (t.core c).claimed = (s.core c).claimed ∧ (t.core c).stack = (s.core c).stack ∧
    (t.core c).stackFault = (s.core c).stackFault ∧ (t.core c).faultEoi = (s.core c).faultEoi ∧
    (t.core c).faultTop = (s.core c).faultTop := by
  simp only [State.duty, CoreIf.mk.injEq] at h
  simp [h]

/-- What the duty of a source fixes. -/
theorem State.src_parts {s t : State} {id : Nat} (h : t.duty.1 id = s.duty.1 id) :
    (t.src id).cond = (s.src id).cond ∧ (t.src id).active = (s.src id).active ∧ (t.src id).enabled = (s.src id).enabled := by
  simp only [State.duty, Src.mk.injEq] at h
  simp [h]

theorem State.irqLevel_valid (s : State) (id : Nat) (on : Bool) (h : irqValid id = true) :
    s.irqLevel id on = (s.putSrc id { s.src id with cond := on }).irqUpdate [id] := by
  unfold State.irqLevel; rw [if_pos h]

/-- A level source takes the level as its condition; the other sources and every core keep their duty. -/
theorem State.irqLevel_effect (s : State) (id : Nat) (on : Bool) (h : irqValid id = true) :
    ((s.irqLevel id on).src id).cond = on ∧ (∀ n, n ≠ id → (s.irqLevel id on).duty.1 n = s.duty.1 n) ∧
    (s.irqLevel id on).duty.2 = s.duty.2 ∧ ((s.irqLevel id on).src id).active = (s.src id).active := by
  rw [s.irqLevel_valid id on h]
  have hd := (s.putSrc id { s.src id with cond := on }).irqUpdate_duty [id] 0
  generalize (s.putSrc id { s.src id with cond := on }).irqUpdate [id] = u at hd
  have h1 := State.src_parts (congrFun (congrArg Prod.fst hd) id)
  refine ⟨by rw [h1.1]; simp, fun n hn => ?_, by rw [hd]; rfl, by rw [h1.2.1]; simp⟩
  rw [hd]
  simp only [State.duty, State.src_putSrc_ne _ _ hn]

/-! ## Reports clear no pending bit -/

/-- The source is pending by a fire or by `PENDING_SET`. -/
def State.fired (s : State) (id : Nat) : Prop := (s.src id).pend = true

theorem State.put_fired (id : Nat) (s : State) (f : Field) (i : Nat) (w : Word) (j : Nat) :
    (s.put f i w j).fired id = s.fired id := rfl
theorem State.putN_fired (id : Nat) (s : State) (f : Field) (i v j : Nat) : (s.putN f i v j).fired id = s.fired id := rfl
theorem State.put64_fired (id : Nat) (s : State) (f : Field) (i v : Nat) : (s.put64 f i v).fired id = s.fired id := rfl
theorem State.inc_fired (id : Nat) (s : State) (f : Field) (i j : Nat) : (s.inc f i j).fired id = s.fired id := rfl
theorem State.withSo_fired (id : Nat) (s : State) (v : Sorting) : (s.withSo v).fired id = s.fired id := rfl
theorem State.withJrn_fired (id : Nat) (s : State) (v : Journal) : (s.withJrn v).fired id = s.fired id := rfl

theorem forN_fired (id n : Nat) (f : Nat → State → State) (s : State) (h : ∀ a t, t.fired id → (f a t).fired id)
    (hs : s.fired id) : (forN n f s).fired id := by
  induction n with
  | zero => exact hs
  | succ n ih => exact h _ _ ih

theorem forL_fired {α : Type} (id : Nat) (l : List α) (f : α → State → State) (s : State)
    (h : ∀ a t, t.fired id → (f a t).fired id) (hs : s.fired id) : (forL l f s).fired id := by
  induction l generalizing s with
  | nil => exact hs
  | cons a l ih => exact ih _ (h a s hs)

theorem State.represent_fired (id : Nat) (s : State) (c : Nat) (h : s.fired id) : (s.represent c).1.fired id := by
  unfold State.represent
  split
  · exact h
  · exact forN_fired _ _ _ _ (fun _ _ h => h) h

theorem State.irqWakeFor_fired (id : Nat) (s : State) (n : Nat) (h : s.fired id) : (s.irqWakeFor n).fired id := by
  unfold State.irqWakeFor
  dsimp only
  split
  · refine forN_fired _ _ _ _ (fun a t ht => ?_) h
    split <;> exact ht
  · exact h

theorem State.irqSettle_fired (id : Nat) (s : State) (l : List Nat) (c : Nat) (h : s.fired id) : (s.irqSettle l c).1.fired id :=
  forL_fired _ _ _ _ (fun _ _ h => State.irqWakeFor_fired _ _ _ h)
    (forL_fired _ _ _ _ (fun _ _ h => h) (State.represent_fired _ _ _ h))

theorem State.irqFire_fired (id : Nat) (s : State) (n : Nat) (h : s.fired id) : (s.irqFire n).fired id := by
  unfold State.irqFire
  split
  · refine State.irqSettle_fired _ _ _ _ ?_
    by_cases hk : id = n
    · subst hk; simp [State.fired]
    · simpa [State.fired, s.src_putSrc_ne _ hk] using h
  · exact h

/-- A source that fires is pending. -/
theorem State.irqFire_self (s : State) (n : Nat) (h : irqValid n = true) : (s.irqFire n).fired n := by
  unfold State.irqFire
  rw [if_pos h]
  exact State.irqSettle_fired _ _ _ _ (by simp [State.fired])

theorem State.msix_fired (id : Nat) (s : State) (v : Nat) (h : s.fired id) : (s.msix v).fired id := by
  unfold State.msix; split <;> exact h

theorem State.ringSignal_fired (id : Nat) (s : State) (k : Nat) (h : s.fired id) : (s.ringSignal k).fired id := by
  unfold State.ringSignal
  split
  · exact State.msix_fired _ _ _ h
  · exact State.irqFire_fired _ _ _ h

theorem State.ringWrote_fired (id : Nat) (s : State) (k : Nat) (h : s.fired id) : (s.ringWrote k).fired id := by
  unfold State.ringWrote
  dsimp only
  split
  · exact State.ringSignal_fired _ _ _ h
  · exact h

theorem State.deliver_fired (id : Nat) (s : State) (k : Nat) (e : EvRec) (h : s.fired id) : (s.deliver k e).fired id := by
  have h1 : ((s.emit (.record k e)).ringWrote k).fired id := State.ringWrote_fired _ _ _ h
  unfold State.deliver
  extract_lets q r s1
  split
  · split
    · exact State.irqFire_fired _ _ _ h1
    · exact h1
  · split
    · split <;> (rw [State.withSo_fired]; exact h)
    · split <;> (rw [State.inc_fired, State.withSo_fired]; exact h)

theorem State.closePostmark_fired (id : Nat) (s : State) (p : Postmark) (b : Bool) (h : s.fired id) :
    (s.closePostmark p b).fired id := by
  unfold State.closePostmark
  dsimp only
  refine State.deliver_fired _ _ _ _ (State.deliver_fired _ _ _ _ ?_)
  split
  · exact forN_fired _ _ _ _ (fun _ _ h => h) h
  · exact h

theorem State.openPostmark_fired (id : Nat) (s : State) (p : Postmark) (h : s.fired id) : (s.openPostmark p).fired id := by
  unfold State.openPostmark
  dsimp only
  split <;> exact h

theorem State.ingest_fired (id x0 x1 x2 : Nat) (x3 : Rep) (x4 : State) (h : x4.fired id) :
    (State.ingest x0 x1 x2 x3 x4).fired id := by
  induction x0 generalizing x1 x2 x3 x4 with
  | zero =>
    unfold State.ingest
    split
    · rw [State.withSo_fired]; exact h
    · split
      · split
        · refine State.openPostmark_fired _ _ _ ?_
          rw [State.inc_fired]
          refine State.closePostmark_fired _ _ _ _ ?_
          rw [State.withSo_fired]
          exact h
        · exact State.openPostmark_fired _ _ _ h
      · exact State.openPostmark_fired _ _ _ h
  | succ n ih =>
    unfold State.ingest
    split
    · rw [State.withSo_fired]; exact h
    · split
      · split
        · refine ih _ _ _ _ ?_
          rw [State.inc_fired]
          refine State.openPostmark_fired _ _ _ ?_
          rw [State.inc_fired]
          refine State.closePostmark_fired _ _ _ _ ?_
          rw [State.withSo_fired]
          exact h
        · exact State.openPostmark_fired _ _ _ h
      · exact State.openPostmark_fired _ _ _ h

theorem State.report_fired (id : Nat) (s : State) (a b c d e : Nat) (h : s.fired id) : (s.report a b c d e).fired id := by
  unfold State.report
  split
  · refine State.ingest_fired _ _ _ _ _ _ ?_
    rw [State.inc_fired, State.withSo_fired]; exact h
  · rw [State.inc_fired, State.withSo_fired]; exact h

theorem State.jrnPublish_fired (id : Nat) (s : State) : s.jrnPublish.fired id = s.fired id := State.putN_fired _ _ _ _ _ _

theorem State.putCapture_fired (id : Nat) (s : State) (i : Nat) (c : Capture) : (s.putCapture i c).fired id = s.fired id := by
  unfold State.putCapture
  rw [State.put64_fired, State.put64_fired, State.withJrn_fired]

theorem State.captureTrigger_fired (id : Nat) (s : State) (a b c : Nat) (h : s.fired id) :
    (s.captureTrigger a b c).1.fired id := by
  unfold State.captureTrigger
  dsimp only
  repeat' split
  · rw [State.jrnPublish_fired, State.inc_fired, State.putCapture_fired]; exact h
  · exact State.report_fired _ _ _ _ _ _ _ h
  · rw [State.jrnPublish_fired, State.putN_fired, State.putCapture_fired]; exact h
  · rw [State.jrnPublish_fired]
    refine State.report_fired _ _ _ _ _ _ _ ?_
    rw [State.putN_fired, State.putCapture_fired]; exact h

theorem State.raiseAt_fired (id : Nat) (s : State) (a b c d e : Nat) (h : s.fired id) : (s.raiseAt a b c d e).fired id := by
  unfold State.raiseAt
  have h1 := State.report_fired id s a b c d e h
  extract_lets s1 s2
  have h2 : s2.fired id := by
    simp only [s2, s1]
    split
    · exact State.irqFire_fired _ _ _ h1
    · exact h1
  clear_value s2
  split
  · exact State.captureTrigger_fired _ _ _ _ _ h2
  · exact h2

theorem State.raise_fired (id : Nat) (s : State) (a b c d : Nat) (h : s.fired id) : (s.raise a b c d).fired id :=
  State.raiseAt_fired _ _ _ _ _ _ _ h

/-- Re-presenting the sources clears no pending bit. -/
theorem State.irqUpdate_fired (id : Nat) (s : State) (l : List Nat) (c : Nat) (h : s.fired id) : (s.irqUpdate l c).fired id := by
  unfold State.irqUpdate
  exact forL_fired _ _ _ _ (fun _ _ h => State.raise_fired _ _ _ _ _ _ h) (State.irqSettle_fired _ _ _ _ h)

end Sys2Proof.Machine
end

