-- ==== Sys2Proof/Laws/Kept.lean ====
section
/-!
SUPPORT. Laws/Kept.lean: replacing a field leaves alone what `State.kept` lists, unless the field holds it; loops keep what their
bodies keep.
-/
namespace Sys2Proof.Machine

@[simp] theorem State.withPending_kept (s : State) (v : List Instr) : (s.withPending v).kept = (v, s.dev.permit, s.hw.keys, s.hw.posB, s.dev.powered, s.clk.epoch, s.clk.phase, s.led) := by cases s; rfl
@[simp] theorem State.withClk_kept (s : State) (v : Clock) :
    (s.withClk v).kept = (s.pending, s.dev.permit, s.hw.keys, s.hw.posB, s.dev.powered, v.epoch, v.phase, s.led) := by cases s; rfl
@[simp] theorem State.withPts_kept (s : State) (v : Store) : (s.withPts v).kept = s.kept := by cases s; rfl
@[simp] theorem State.withLed_kept (s : State) (v : Store) :
    (s.withLed v).kept = (s.pending, s.dev.permit, s.hw.keys, s.hw.posB, s.dev.powered, s.clk.epoch, s.clk.phase, v) := by cases s; rfl
@[simp] theorem State.withCep_kept (s : State) (v : List (Pt × Nat)) : (s.withCep v).kept = s.kept := by cases s; rfl
@[simp] theorem State.withDev_kept (s : State) (v : Dev) : (s.withDev v).kept = (s.pending, v.permit, s.hw.keys, s.hw.posB, v.powered, s.clk.epoch, s.clk.phase, s.led) := by cases s; rfl
@[simp] theorem State.withPlant_kept (s : State) (v : Plant) : (s.withPlant v).kept = s.kept := by cases s; rfl
@[simp] theorem State.withIrq_kept (s : State) (v : Irq) : (s.withIrq v).kept = s.kept := by cases s; rfl
@[simp] theorem State.withSo_kept (s : State) (v : Sorting) : (s.withSo v).kept = s.kept := by cases s; rfl
@[simp] theorem State.withGuards_kept (s : State) (v : Tab Guard) : (s.withGuards v).kept = s.kept := by cases s; rfl
@[simp] theorem State.withLevels_kept (s : State) (v : Tab Nat) : (s.withLevels v).kept = s.kept := by cases s; rfl
@[simp] theorem State.withHost_kept (s : State) (v : HostIf) : (s.withHost v).kept = s.kept := by cases s; rfl
@[simp] theorem State.withEnv_kept (s : State) (v : Tab Tier) : (s.withEnv v).kept = s.kept := by cases s; rfl
@[simp] theorem State.withJrn_kept (s : State) (v : Journal) : (s.withJrn v).kept = s.kept := by cases s; rfl
@[simp] theorem State.withRep_kept (s : State) (v : Replay) : (s.withRep v).kept = s.kept := by cases s; rfl
@[simp] theorem State.withPair_kept (s : State) (v : PairSt) : (s.withPair v).kept = s.kept := by cases s; rfl
@[simp] theorem State.withRnds_kept (s : State) (v : Tab Rnd) : (s.withRnds v).kept = s.kept := by cases s; rfl
@[simp] theorem State.withCells_kept (s : State) (v : Tab CellSt) : (s.withCells v).kept = s.kept := by cases s; rfl
@[simp] theorem State.withDrvs_kept (s : State) (v : Tab Drv) : (s.withDrvs v).kept = s.kept := by cases s; rfl
@[simp] theorem State.withSets_kept (s : State) (v : Tab SetSt) : (s.withSets v).kept = s.kept := by cases s; rfl
@[simp] theorem State.withArms_kept (s : State) (v : Tab ArmSt) : (s.withArms v).kept = s.kept := by cases s; rfl
@[simp] theorem State.withShafts_kept (s : State) (v : Tab ShaftSt) : (s.withShafts v).kept = s.kept := by cases s; rfl
@[simp] theorem State.withPowers_kept (s : State) (v : Tab PowerSt) : (s.withPowers v).kept = s.kept := by cases s; rfl
@[simp] theorem State.withFbs_kept (s : State) (v : Tab Fb) : (s.withFbs v).kept = s.kept := by cases s; rfl
@[simp] theorem State.withCmps_kept (s : State) (v : Tab CmpSt) : (s.withCmps v).kept = s.kept := by cases s; rfl
@[simp] theorem State.withPtOut_kept (s : State) (v : Tab Nat) : (s.withPtOut v).kept = s.kept := by cases s; rfl
@[simp] theorem State.withTokens_kept (s : State) (v : Nat) : (s.withTokens v).kept = s.kept := by cases s; rfl
@[simp] theorem State.withHw_kept (s : State) (v : Hw) : (s.withHw v).kept = (s.pending, s.dev.permit, v.keys, v.posB, s.dev.powered, s.clk.epoch, s.clk.phase, s.led) := by cases s; rfl
@[simp] theorem State.withBrs_kept (s : State) (v : Tab Br) : (s.withBrs v).kept = s.kept := by cases s; rfl
@[simp] theorem State.withVaux_kept (s : State) (v : Vaux) : (s.withVaux v).kept = s.kept := by cases s; rfl
@[simp] theorem State.withEngs_kept (s : State) (v : Tab Eng) : (s.withEngs v).kept = s.kept := by cases s; rfl
@[simp] theorem State.withAxes_kept (s : State) (v : Tab Axis) : (s.withAxes v).kept = s.kept := by cases s; rfl
@[simp] theorem State.withCans_kept (s : State) (v : Tab Can) : (s.withCans v).kept = s.kept := by cases s; rfl
@[simp] theorem State.withFree_kept (s : State) (v : Nat) : (s.withFree v).kept = s.kept := by cases s; rfl
@[simp] theorem State.withOut_kept (s : State) (v : List Out) : (s.withOut v).kept = s.kept := by cases s; rfl

theorem State.withDev_kept_of {s t : State} {d : Dev} (ht : t.kept = s.kept) (hd : d.permit = s.dev.permit) (hp : d.powered = s.dev.powered) :
    (t.withDev d).kept = s.kept := by
  rw [State.withDev_kept, hd, hp]
  simp only [State.kept, Prod.mk.injEq] at ht ⊢
  simp [ht]

theorem State.withClk_kept_of {s t : State} {d : Clock} (ht : t.kept = s.kept) (hd : d.epoch = s.clk.epoch)
    (hp : d.phase = s.clk.phase) : (t.withClk d).kept = s.kept := by
  rw [State.withClk_kept, hd, hp]
  simp only [State.kept, Prod.mk.injEq] at ht ⊢
  simp [ht]

@[simp] theorem State.kept_fold (s : State) : (s.pending, s.dev.permit, s.hw.keys, s.hw.posB, s.dev.powered, s.clk.epoch, s.clk.phase, s.led) = s.kept := rfl

@[simp] theorem State.drawWord_eq (s : State) : s.drawWord = (Config.freeWord s.free, s.withFree (s.free + 1)) := rfl

@[simp] theorem State.drawRat_eq (s : State) : s.drawRat = (Config.freeRat s.free, s.withFree (s.free + 1)) := rfl

@[simp] theorem ite_kept (c : Prop) [Decidable c] (a b : State) :
    (if c then a else b).kept = if c then a.kept else b.kept := by split <;> rfl

@[simp] theorem forN_kept (n : Nat) (f : Nat → State → State) (s : State) (h : ∀ a t, (f a t).kept = t.kept) :
    (forN n f s).kept = s.kept := by
  induction n generalizing s with
  | zero => rfl
  | succ n ih => simp [forN, h, ih]

@[simp] theorem forL_kept {α : Type} (l : List α) (f : α → State → State) (s : State)
    (h : ∀ a t, (f a t).kept = t.kept) : (forL l f s).kept = s.kept := by
  induction l generalizing s with
  | nil => rfl
  | cons a l ih => simp [forL, h, ih]

@[simp] theorem whenS_kept (c : Bool) (f : State → State) (s : State) (h : ∀ t, (f t).kept = t.kept) :
    (whenS c f s).kept = s.kept := by cases c <;> simp [whenS, h]

theorem foldl_kept {α : Type} (l : List α) (f : State → α → State) (s : State)
    (h : ∀ t a, (f t a).kept = t.kept) : (l.foldl f s).kept = s.kept := by
  induction l generalizing s with
  | nil => rfl
  | cons a l ih => simp [List.foldl, h, ih]

end Sys2Proof.Machine
end

