-- ==== Sys2Proof/Laws/Kept1.lean ====
section
/-!
SUPPORT. Laws/Kept1.lean: the operations of Ops.lean, Irq.lean, Rings.lean, So.lean, Flags.lean, Regimes.lean, Cells.lean, Rounds.lean, Linkup.lean, Time.lean, Feedback.lean, ModuleHw.lean leave alone what `State.kept` lists.
-/
namespace Sys2Proof.Machine

/-! Ops.lean -/

@[simp] theorem State.put_kept (x0 : State) (x1 : Field) (x2 : Nat) (x3 : Word) (x4 : Nat) : (State.put x0 x1 x2 x3 x4).kept = x0.kept := by
  unfold State.put
  simp

@[simp] theorem State.putN_kept (x0 : State) (x1 : Field) (x2 : Nat) (x3 : Nat) (x4 : Nat) : (State.putN x0 x1 x2 x3 x4).kept = x0.kept := by
  unfold State.putN
  simp

@[simp] theorem State.putZ_kept (x0 : State) (x1 : Field) (x2 : Nat) (x3 : Int) (x4 : Nat) : (State.putZ x0 x1 x2 x3 x4).kept = x0.kept := by
  unfold State.putZ
  simp

@[simp] theorem State.putR_kept (x0 : State) (x1 : Field) (x2 : Nat) (x3 : Rat) (x4 : Nat) : (State.putR x0 x1 x2 x3 x4).kept = x0.kept := by
  unfold State.putR
  simp

@[simp] theorem State.put64_kept (x0 : State) (x1 : Field) (x2 : Nat) (x3 : Nat) : (State.put64 x0 x1 x2 x3).kept = x0.kept := by
  unfold State.put64
  simp

@[simp] theorem State.putZ64_kept (x0 : State) (x1 : Field) (x2 : Nat) (x3 : Int) : (State.putZ64 x0 x1 x2 x3).kept = x0.kept := by
  unfold State.putZ64
  simp

@[simp] theorem State.inc_kept (x0 : State) (x1 : Field) (x2 : Nat) (x3 : Nat) : (State.inc x0 x1 x2 x3).kept = x0.kept := by
  unfold State.inc
  simp

@[simp] theorem State.addN_kept (x0 : State) (x1 : Field) (x2 : Nat) (x3 : Nat) (x4 : Nat) : (State.addN x0 x1 x2 x3 x4).kept = x0.kept := by
  unfold State.addN
  simp

@[simp] theorem State.emit_kept (x0 : State) (x1 : Out) : (State.emit x0 x1).kept = x0.kept := by
  unfold State.emit
  simp

@[simp] theorem State.advance_kept (x0 : State) (x1 : Nat) : (State.advance x0 x1).kept = x0.kept := by
  unfold State.advance
  simp

/-! Irq.lean -/

@[simp] theorem State.putSrc_kept (x0 : State) (x1 : Nat) (x2 : Src) : (State.putSrc x0 x1 x2).kept = x0.kept := by
  unfold State.putSrc
  simp

@[simp] theorem State.putCore_kept (x0 : State) (x1 : Nat) (x2 : CoreIf) : (State.putCore x0 x1 x2).kept = x0.kept := by
  unfold State.putCore
  simp

@[simp] theorem State.presentAnew_kept (x0 : State) (x1 : Nat) : (State.presentAnew x0 x1).1.kept = x0.kept := by
  unfold State.presentAnew
  simp

@[simp] theorem State.represent_kept (x0 : State) (x1 : Nat) : (State.represent x0 x1).1.kept = x0.kept := by
  unfold State.represent
  split <;> simp

@[simp] theorem State.irqWakeFor_kept (x0 : State) (x1 : Nat) : (State.irqWakeFor x0 x1).kept = x0.kept := by
  unfold State.irqWakeFor
  simp

@[simp] theorem State.irqSettle_kept (x0 : State) (x1 : List Nat) (x2 : Nat) : (State.irqSettle x0 x1 x2).1.kept = x0.kept := by
  unfold State.irqSettle
  simp

@[simp] theorem State.irqFire_kept (x0 : State) (x1 : Nat) : (State.irqFire x0 x1).kept = x0.kept := by
  unfold State.irqFire
  simp

@[simp] theorem State.irqFireAll_kept (x0 : State) (x1 : List Nat) : (State.irqFireAll x0 x1).kept = x0.kept := by
  unfold State.irqFireAll
  simp

/-! Rings.lean -/

@[simp] theorem State.putRing_kept (x0 : State) (x1 : Nat) (x2 : Ring) : (State.putRing x0 x1 x2).kept = x0.kept := by
  unfold State.putRing
  simp

@[simp] theorem State.msix_kept (x0 : State) (x1 : Nat) : (State.msix x0 x1).kept = x0.kept := by
  unfold State.msix
  simp

@[simp] theorem State.msixCause_kept (x0 : State) (x1 : Nat) : (State.msixCause x0 x1).kept = x0.kept := by
  unfold State.msixCause
  split <;> simp

@[simp] theorem State.ringSignal_kept (x0 : State) (x1 : Nat) : (State.ringSignal x0 x1).kept = x0.kept := by
  unfold State.ringSignal
  simp

@[simp] theorem State.mirror_kept (x0 : State) (x1 : Nat) : (State.mirror x0 x1).kept = x0.kept := by
  unfold State.mirror
  simp

@[simp] theorem State.ringWrote_kept (x0 : State) (x1 : Nat) : (State.ringWrote x0 x1).kept = x0.kept := by
  unfold State.ringWrote
  simp

@[simp] theorem State.ringTook_kept (x0 : State) (x1 : Nat) : (State.ringTook x0 x1).kept = x0.kept := by
  unfold State.ringTook
  simp

@[simp] theorem State.settle_kept (x0 : State) (x1 : FinCpl → Bool) (x2 x3 x4 : Nat) (x5 : Await) :
    (State.settle x0 x1 x2 x3 x4 x5).kept = x0.kept := rfl

@[simp] theorem State.logWrite_kept (x0 : State) (x1 : Option Nat) (x2 : Nat) (x3 : Pt) : (State.logWrite x0 x1 x2 x3).kept = x0.kept := by
  unfold State.logWrite
  simp

@[simp] theorem State.gather_kept (x0 : State) (x1 : Field) (x2 : Nat) (x3 : Word) (x4 : Nat) : (State.gather x0 x1 x2 x3 x4).kept = x0.kept := by
  unfold State.gather
  simp

/-! So.lean -/

@[simp] theorem State.deliver_kept (x0 : State) (x1 : Nat) (x2 : EvRec) : (State.deliver x0 x1 x2).kept = x0.kept := by
  unfold State.deliver
  simp

@[simp] theorem State.drain_kept (x0 : Nat) (x1 : Nat) (x2 : State) : (State.drain x0 x1 x2).kept = x2.kept := by
  induction x1 generalizing x2 with
  | zero => rfl
  | succ n ih =>
    unfold State.drain
    simp only
    split
    · split
      · rfl
      · rw [ih]; split <;> simp
    · rfl

@[simp] theorem State.putBitmap_kept (x0 : State) (x1 : Nat) (x2 : EvRec) (x3 : List Nat) : (State.putBitmap x0 x1 x2 x3).kept = x0.kept := by
  unfold State.putBitmap
  simp

@[simp] theorem State.closePostmark_kept (x0 : State) (x1 : Postmark) (x2 : Bool) : (State.closePostmark x0 x1 x2).kept = x0.kept := by
  unfold State.closePostmark
  simp

@[simp] theorem State.openPostmark_kept (x0 : State) (x1 : Postmark) : (State.openPostmark x0 x1).kept = x0.kept := by
  unfold State.openPostmark
  simp

@[simp] theorem State.ingest_kept (x0 x1 x2 : Nat) (x3 : Rep) (x4 : State) : (State.ingest x0 x1 x2 x3 x4).kept = x4.kept := by
  induction x0 generalizing x1 x2 x3 x4 with
  | zero =>
    unfold State.ingest
    repeat' split
    all_goals first | (simp; done) | contradiction
  | succ n ih =>
    unfold State.ingest
    repeat' split
    all_goals first | (simp; done) | (simp_all; done)

@[simp] theorem State.report_kept (x0 : State) (x1 : Nat) (x2 : Nat) (x3 : Nat) (x4 : Nat) (x5 : Nat) : (State.report x0 x1 x2 x3 x4 x5).kept = x0.kept := by
  unfold State.report
  simp

@[simp] theorem State.putCapture_kept (x0 : State) (x1 : Nat) (x2 : Capture) : (State.putCapture x0 x1 x2).kept = x0.kept := by
  unfold State.putCapture
  simp

@[simp] theorem State.jrnPublish_kept (x0 : State) : (State.jrnPublish x0).kept = x0.kept := by
  unfold State.jrnPublish
  simp

@[simp] theorem State.captureTrigger_kept (x0 : State) (x1 : Nat) (x2 : Nat) (x3 : Nat) : (State.captureTrigger x0 x1 x2 x3).1.kept = x0.kept := by
  unfold State.captureTrigger
  (split <;> try simp) <;> split <;> simp

@[simp] theorem State.raiseAt_kept (x0 : State) (x1 : Nat) (x2 : Nat) (x3 : Nat) (x4 : Nat) (x5 : Nat) : (State.raiseAt x0 x1 x2 x3 x4 x5).kept = x0.kept := by
  unfold State.raiseAt
  split <;> simp

@[simp] theorem State.raise_kept (x0 : State) (x1 : Nat) (x2 : Nat) (x3 : Nat) (x4 : Nat) : (State.raise x0 x1 x2 x3 x4).kept = x0.kept := by
  unfold State.raise
  simp

@[simp] theorem State.raiseLane_kept (x0 : State) (x1 : Nat) (x2 : Nat) (x3 : Nat) (x4 : Nat) : (State.raiseLane x0 x1 x2 x3 x4).kept = x0.kept := by
  unfold State.raiseLane
  simp

@[simp] theorem State.deadLetters_kept (x0 : State) (x1 : List (Nat × Nat)) : (State.deadLetters x0 x1).kept = x0.kept := by
  unfold State.deadLetters
  simp

@[simp] theorem State.irqUpdate_kept (x0 : State) (x1 : List Nat) (x2 : Nat) : (State.irqUpdate x0 x1 x2).kept = x0.kept := by
  unfold State.irqUpdate
  simp

@[simp] theorem State.irqLevel_kept (x0 : State) (x1 : Nat) (x2 : Bool) : (State.irqLevel x0 x1 x2).kept = x0.kept := by
  unfold State.irqLevel
  simp

/-! Flags.lean -/

@[simp] theorem State.drvFlag_kept (x0 : State) (x1 : Nat) (x2 : Nat) (x3 : Bool) : (State.drvFlag x0 x1 x2 x3).kept = x0.kept := by
  unfold State.drvFlag
  simp

@[simp] theorem State.engFlag_kept (x0 : State) (x1 : Nat) (x2 : Nat) (x3 : Bool) : (State.engFlag x0 x1 x2 x3).kept = x0.kept := by
  unfold State.engFlag
  simp

@[simp] theorem State.axFlag_kept (x0 : State) (x1 : Nat) (x2 : Nat) (x3 : Bool) : (State.axFlag x0 x1 x2 x3).kept = x0.kept := by
  unfold State.axFlag
  simp

@[simp] theorem State.objFlag_kept (x0 : State) (x1 : Nat) (x2 : Nat) (x3 : Nat) (x4 : Bool) : (State.objFlag x0 x1 x2 x3 x4).kept = x0.kept := by
  unfold State.objFlag
  simp

@[simp] theorem State.safeBit_kept (x0 : State) (x1 : Nat) (x2 : Bool) : (State.safeBit x0 x1 x2).kept = x0.kept := by
  unfold State.safeBit
  simp

/-! Regimes.lean -/

@[simp] theorem State.putDrv_kept (x0 : State) (x1 : Nat) (x2 : Drv) : (State.putDrv x0 x1 x2).kept = x0.kept := by
  unfold State.putDrv
  simp

@[simp] theorem State.putGov_kept (x0 : State) (x1 : Nat) (x2 : Gov) :
    (State.putGov x0 x1 x2).kept = x0.kept := by
  unfold State.putGov
  split <;> simp

@[simp] theorem State.leaveRegime_kept (x0 : State) (x1 : Nat) (x2 : Nat) : (State.leaveRegime x0 x1 x2).kept = x0.kept := by
  unfold State.leaveRegime
  simp

@[simp] theorem State.enterRegime_kept (x0 : State) (x1 : Nat) (x2 : Nat) : (State.enterRegime x0 x1 x2).kept = x0.kept := by
  unfold State.enterRegime
  simp

@[simp] theorem State.haltStart_kept (x0 : State) (x1 : Nat) : (State.haltStart x0 x1).kept = x0.kept := by
  unfold State.haltStart
  simp

@[simp] theorem State.haltAlone_kept (x0 : State) (x1 : Nat) : (State.haltAlone x0 x1).kept = x0.kept := by
  unfold State.haltAlone
  split <;> simp

@[simp] theorem State.setLimp_kept (x0 : State) (x1 : Nat) (x2 : Nat) : (State.setLimp x0 x1 x2).kept = x0.kept := by
  unfold State.setLimp
  simp

@[simp] theorem State.clearLimp_kept (x0 : State) (x1 : Nat) (x2 : Nat) : (State.clearLimp x0 x1 x2).kept = x0.kept := by
  unfold State.clearLimp
  simp

@[simp] theorem State.markCause_kept (x0 : State) (x1 : Nat) (x2 : Nat) (x3 : Bool) : (State.markCause x0 x1 x2 x3).kept = x0.kept := by
  unfold State.markCause
  simp

@[simp] theorem State.faultDrive_kept (x0 : State) (x1 : Nat) (x2 : Nat) : (State.faultDrive x0 x1 x2).kept = x0.kept := by
  unfold State.faultDrive
  simp

@[simp] theorem State.turn_kept (x0 : State) (x1 x2 : Nat) (x3 : State → State) (h : ∀ t : State, (x3 t).kept = t.kept) :
    (State.turn x0 x1 x2 x3).kept = x0.kept := by
  unfold State.turn
  split <;> simp [h]

@[simp] theorem State.unblock_kept (x0 : State) (x1 : Nat) :
    (State.unblock x0 x1).kept = x0.kept := by
  unfold State.unblock
  simp

@[simp] theorem State.runOn_kept (x0 : State) (x1 : Nat) : (State.runOn x0 x1).kept = x0.kept := by
  unfold State.runOn
  refine State.turn_kept _ _ _ _ (fun t => ?_)
  dsimp only
  split <;> split <;> simp

@[simp] theorem State.runOff_kept (x0 : State) (x1 : Nat) : (State.runOff x0 x1).kept = x0.kept := by
  unfold State.runOff
  simp

@[simp] theorem State.blockOn_kept (x0 : State) (x1 : Nat) : (State.blockOn x0 x1).kept = x0.kept := by
  unfold State.blockOn
  simp

@[simp] theorem State.blockOff_kept (x0 : State) (x1 : Nat) : (State.blockOff x0 x1).kept = x0.kept := by
  unfold State.blockOff
  simp

@[simp] theorem State.faultResetDo_kept (x0 : State) (x1 : Nat) : (State.faultResetDo x0 x1).kept = x0.kept := by
  unfold State.faultResetDo
  simp

@[simp] theorem State.renderOn_kept (x0 : State) (x1 : Nat) : (State.renderOn x0 x1).kept = x0.kept := by
  unfold State.renderOn
  simp

@[simp] theorem State.renderOff_kept (x0 : State) (x1 : Nat) : (State.renderOff x0 x1).kept = x0.kept := by
  unfold State.renderOff
  simp

@[simp] theorem State.crashOn_kept (x0 : State) (x1 : Nat) : (State.crashOn x0 x1).kept = x0.kept := by
  unfold State.crashOn
  simp

@[simp] theorem State.crashOff_kept (x0 : State) (x1 : Nat) : (State.crashOff x0 x1).kept = x0.kept := by
  unfold State.crashOff
  simp

@[simp] theorem State.releaseArmDo_kept (x0 : State) (x1 : Nat) : (State.releaseArmDo x0 x1).kept = x0.kept := by
  unfold State.releaseArmDo
  simp

@[simp] theorem State.releaseDo_kept (x0 : State) (x1 : Nat) : (State.releaseDo x0 x1).kept = x0.kept := by
  unfold State.releaseDo
  simp

@[simp] theorem State.endDo_kept (x0 : State) (x1 : Nat) : (State.endDo x0 x1).kept = x0.kept := by
  unfold State.endDo
  simp

@[simp] theorem State.haltAll_kept (x0 : State) : (State.haltAll x0).kept = x0.kept := by
  unfold State.haltAll
  simp

@[simp] theorem State.blockAll_kept (x0 : State) : (State.blockAll x0).kept = x0.kept := by
  unfold State.blockAll
  simp

@[simp] theorem State.unblockAll_kept (x0 : State) : (State.unblockAll x0).kept = x0.kept := by
  unfold State.unblockAll
  simp

@[simp] theorem State.clearFlags_kept (x0 : State) (x1 : Nat) (x2 : List Nat) :
    (State.clearFlags x0 x1 x2).kept = x0.kept := by
  unfold State.clearFlags
  simp

@[simp] theorem State.afterShock_kept (x0 : State) (x1 : Nat) :
    (State.afterShock x0 x1).kept = x0.kept := by
  unfold State.afterShock
  simp

@[simp] theorem State.shockClear_kept (x0 : State) (x1 : Nat) : (State.shockClear x0 x1).kept = x0.kept := by
  unfold State.shockClear
  simp

@[simp] theorem State.holdEnd_kept (x0 : State) (x1 : Nat) (x2 : Nat) : (State.holdEnd x0 x1 x2).kept = x0.kept := by
  unfold State.holdEnd
  simp

/-! Cells.lean -/

@[simp] theorem State.putCellSt_kept (x0 : State) (x1 : Nat) (x2 : CellSt) : (State.putCellSt x0 x1 x2).kept = x0.kept := by
  unfold State.putCellSt
  simp

@[simp] theorem State.cellFrame_kept (x0 : State) (x1 : Nat) (x2 : End) (x3 : Frame) (x4 : Nat) : (State.cellFrame x0 x1 x2 x3 x4).kept = x0.kept := by
  unfold State.cellFrame
  simp

@[simp] theorem State.cellsReceive_kept (x0 : State) (x1 : Nat) (x2 : End) (x3 : Frame) : (State.cellsReceive x0 x1 x2 x3).kept = x0.kept := by
  unfold State.cellsReceive
  simp

@[simp] theorem State.cellsBoundary_kept (x0 : State) : (State.cellsBoundary x0).kept = x0.kept := by
  unfold State.cellsBoundary
  simp

@[simp] theorem State.cellShows_kept (x0 : State) (x1 : Nat) (x2 : List Byte) : (State.cellShows x0 x1 x2).kept = x0.kept := by
  unfold State.cellShows
  simp

@[simp] theorem State.cellDiscover_kept (x0 : State) (x1 : Nat) (x2 : Nat) : (State.cellDiscover x0 x1 x2).kept = x0.kept := by
  unfold State.cellDiscover
  simp

/-! Rounds.lean -/

@[simp] theorem State.putRnd_kept (x0 : State) (x1 : Nat) (x2 : Rnd) : (State.putRnd x0 x1 x2).kept = x0.kept := by
  unfold State.putRnd
  simp

@[simp] theorem State.putCellState_kept (x0 : State) (x1 : Nat) (x2 : Nat) (x3 : Nat) : (State.putCellState x0 x1 x2 x3).kept = x0.kept := by
  unfold State.putCellState
  simp

@[simp] theorem State.putCum_kept (x0 : State) (x1 : Nat) (x2 : Nat) (x3 : Nat) (x4 : End) : (State.putCum x0 x1 x2 x3 x4).kept = x0.kept := by
  unfold State.putCum
  split <;> simp

@[simp] theorem State.idleEnds_kept (x0 : State) : (State.idleEnds x0).kept = x0.kept := by
  unfold State.idleEnds
  simp

@[simp] theorem State.publishDelays_kept (x0 : State) (x1 : Nat) :
    (State.publishDelays x0 x1).kept = x0.kept := by
  unfold State.publishDelays
  simp

@[simp] theorem State.setRanges_kept (x0 : State) (x1 : Nat) (x2 : Option (Nat × Nat) × Option (Nat × Nat)) : (State.setRanges x0 x1 x2).kept = x0.kept := by
  unfold State.setRanges
  simp

@[simp] theorem State.rebalance_kept (x0 : State) (x1 : Nat) : (State.rebalance x0 x1).kept = x0.kept := by
  unfold State.rebalance
  simp

@[simp] theorem State.countCells_kept (x0 : State) (x1 : Nat) : (State.countCells x0 x1).kept = x0.kept := by
  unfold State.countCells
  simp

@[simp] theorem State.cellEvent_kept (x0 : State) (x1 : Nat) (x2 : Nat) (x3 : Nat) : (State.cellEvent x0 x1 x2 x3).kept = x0.kept := by
  unfold State.cellEvent
  simp

@[simp] theorem State.cellReport_kept (x0 : State) (x1 : Nat) (x2 : Nat) : (State.cellReport x0 x1 x2).kept = x0.kept := by
  unfold State.cellReport
  simp

@[simp] theorem State.deliverCells_kept (x0 : State) (x1 : Nat) : (State.deliverCells x0 x1).kept = x0.kept := by
  unfold State.deliverCells
  simp

@[simp] theorem State.slotDelay_kept (x0 : State) (x1 x2 : Nat) (x3 : End) (x4 : Nat) :
    (State.slotDelay x0 x1 x2 x3 x4).kept = x0.kept := by
  cases x3 <;>
  · unfold State.slotDelay
    dsimp only
    split
    · rfl
    · split
      · exact State.putRnd_kept ..
      · split
        · rw [State.publishDelays_kept, State.putRnd_kept, State.putCum_kept, State.putRnd_kept]
        · exact State.putRnd_kept ..

@[simp] theorem State.takeSlot_kept (x0 : State) (x1 : Nat) (x2 : End) (x3 : List Byte) (x4 : Nat) : (State.takeSlot x0 x1 x2 x3 x4).kept = x0.kept := by
  unfold State.takeSlot
  simp

@[simp] theorem State.badSlot_kept (x0 : State) (x1 x2 : Nat) :
    (State.badSlot x0 x1 x2).kept = x0.kept := by
  unfold State.badSlot
  simp

@[simp] theorem State.closure_kept (x0 : State) (x1 : Nat) (x2 : End) (x3 : Nat) : (State.closure x0 x1 x2 x3).kept = x0.kept := by
  unfold State.closure
  split <;> simp

@[simp] theorem State.countLost_kept (x0 : State) (x1 : Nat) : (State.countLost x0 x1).kept = x0.kept := by
  unfold State.countLost
  simp

@[simp] theorem State.breakBlock_kept (x0 : State) (x1 : Nat) (x2 : End) (x3 : Nat) (x4 : End) : (State.breakBlock x0 x1 x2 x3 x4).kept = x0.kept := by
  unfold State.breakBlock
  simp

@[simp] theorem State.closureMissed_kept (x0 : State) (x1 : Nat) :
    (State.closureMissed x0 x1).kept = x0.kept := by
  unfold State.closureMissed
  simp

@[simp] theorem State.applyBreak_kept (x0 : State) (x1 : Nat) : (State.applyBreak x0 x1).kept = x0.kept := by
  unfold State.applyBreak
  simp

@[simp] theorem State.cellLost_kept (x0 : State) (x1 : Nat) (x2 : Nat) : (State.cellLost x0 x1 x2).kept = x0.kept := by
  unfold State.cellLost
  simp

@[simp] theorem State.judgeDelay_kept (x0 : State) (x1 : Nat) : (State.judgeDelay x0 x1).kept = x0.kept := by
  unfold State.judgeDelay
  simp

@[simp] theorem State.takeSlow_kept (x0 : State) (x1 x2 x3 : Nat) (x4 : List Word) :
    (State.takeSlow x0 x1 x2 x3 x4).kept = x0.kept := by
  induction x4 generalizing x0 x3 with
  | nil => rfl
  | cons w ws ih =>
    unfold State.takeSlow
    simp only [ih]
    simp

@[simp] theorem State.slowResp_kept (x0 : State) (x1 x2 x3 x4 : Nat) (x5 : List Word) (x6 : Nat) :
    (State.slowResp x0 x1 x2 x3 x4 x5 x6).kept = x0.kept := by
  unfold State.slowResp
  dsimp only
  split <;> simp

@[simp] theorem State.slowTimeout_kept (x0 : State) (x1 : Nat) : (State.slowTimeout x0 x1).kept = x0.kept := by
  unfold State.slowTimeout
  simp

@[simp] theorem State.slowFill_kept (x0 x1 : Nat) (x2 : State) : (State.slowFill x0 x1 x2).kept = x2.kept := by
  induction x1 generalizing x2 with
  | zero => rfl
  | succ n ih =>
    unfold State.slowFill
    simp only
    repeat' split
    all_goals first | rfl | (rw [ih]; simp)

/-! Linkup.lean -/

@[simp] theorem State.direct_kept (x0 : State) (x1 : Nat) (x2 : Option Nat) (x3 : Directive) : (State.direct x0 x1 x2 x3).kept = x0.kept := by
  unfold State.direct
  simp

@[simp] theorem State.sendCarrier_kept (x0 : State) (x1 : ArmDesc) (x2 : Nat) (x3 : Nat) : (State.sendCarrier x0 x1 x2 x3).kept = x0.kept := by
  unfold State.sendCarrier
  simp

@[simp] theorem State.clearDirectory_kept (x0 : State) (x1 : Nat) : (State.clearDirectory x0 x1).kept = x0.kept := by
  unfold State.clearDirectory
  simp

@[simp] theorem State.linkupBegin_kept (x0 : State) (x1 : Nat) : (State.linkupBegin x0 x1).kept = x0.kept := by
  unfold State.linkupBegin
  simp

@[simp] theorem State.sendDiscover_kept (x0 : State) (x1 : Nat) (x2 : End) (x3 : Nat) : (State.sendDiscover x0 x1 x2 x3).kept = x0.kept := by
  unfold State.sendDiscover
  simp

@[simp] theorem State.startDiscovery_kept (x0 : State) (x1 : Nat) : (State.startDiscovery x0 x1).kept = x0.kept := by
  unfold State.startDiscovery
  dsimp only
  split <;> simp

@[simp] theorem State.startDelay_kept (x0 : State) (x1 : Nat) : (State.startDelay x0 x1).kept = x0.kept := by
  unfold State.startDelay
  simp

@[simp] theorem State.startNegotiate_kept (x0 : State) (x1 : Nat) : (State.startNegotiate x0 x1).kept = x0.kept := by
  unfold State.startNegotiate
  simp

@[simp] theorem State.startCharge_kept (x0 : State) (x1 : Nat) : (State.startCharge x0 x1).kept = x0.kept := by
  unfold State.startCharge
  split <;> simp

@[simp] theorem State.zeroTail_kept (x0 : State) (x1 : Nat) (x2 : Nat) : (State.zeroTail x0 x1 x2).kept = x0.kept := by
  unfold State.zeroTail
  simp

@[simp] theorem State.startActive_kept (x0 : State) (x1 : Nat) : (State.startActive x0 x1).kept = x0.kept := by
  unfold State.startActive
  dsimp only
  split <;> simp

@[simp] theorem State.linkupBoundary_kept (x0 : State) (x1 : Nat) : (State.linkupBoundary x0 x1).kept = x0.kept := by
  unfold State.linkupBoundary
  dsimp only
  (split <;> try rfl) <;> (try split) <;> (try split) <;> simp

@[simp] theorem State.discovered_kept (x0 : State) (x1 : Nat) (x2 : End) (x3 : Nat) (x4 : BitVec 64) (x5 : Word) : (State.discovered x0 x1 x2 x3 x4 x5).kept = x0.kept := by
  unfold State.discovered
  simp

@[simp] theorem State.unplaced_kept (x0 : State) (x1 x2 : Nat) :
    (State.unplaced x0 x1 x2).kept = x0.kept := by
  unfold State.unplaced
  simp

@[simp] theorem State.discoveryReply_kept (x0 : State) (x1 : Nat) (x2 : End) (x3 : Nat) (x4 : BitVec 64) (x5 : Word) (x6 : Bool) :
    (State.discoveryReply x0 x1 x2 x3 x4 x5 x6).kept = x0.kept := by
  unfold State.discoveryReply
  dsimp only
  (repeat' split) <;> simp

@[simp] theorem State.classReport_kept (x0 : State) (x1 : Nat) (x2 : Nat) (x3 : List Byte) : (State.classReport x0 x1 x2 x3).kept = x0.kept := by
  unfold State.classReport
  simp

@[simp] theorem State.cellReported_kept (x0 : State) (x1 : Nat) (x2 : End) (x3 : Nat) (x4 : CellReport) : (State.cellReported x0 x1 x2 x3 x4).kept = x0.kept := by
  unfold State.cellReported
  split <;> simp

@[simp] theorem State.echoRet_kept (x0 : State) (x1 : Nat) (x2 : End) (x3 : Nat) (x4 : Nat) : (State.echoRet x0 x1 x2 x3 x4).kept = x0.kept := by
  unfold State.echoRet
  simp

@[simp] theorem State.endDelay_kept (x0 : State) (x1 : Nat) : (State.endDelay x0 x1).kept = x0.kept := by
  unfold State.endDelay
  dsimp only
  split <;> simp

@[simp] theorem State.compareCell_kept (x0 : State) (x1 : Nat) (x2 : Nat) : (State.compareCell x0 x1 x2).kept = x0.kept := by
  unfold State.compareCell
  (split <;> try simp) <;> split <;> simp

@[simp] theorem State.endClass_kept (x0 : State) (x1 : Nat) : (State.endClass x0 x1).kept = x0.kept := by
  unfold State.endClass
  simp

@[simp] theorem State.linkupNext_kept (x0 : State) (x1 : Nat) : (State.linkupNext x0 x1).kept = x0.kept := by
  unfold State.linkupNext
  split <;> simp

@[simp] theorem State.linkupFail_kept (x0 : State) (x1 : Nat) : (State.linkupFail x0 x1).kept = x0.kept := by
  unfold State.linkupFail
  simp

/-! Time.lean -/

@[simp] theorem State.stepTime_kept (x0 : State) (x1 : Nat) : (State.stepTime x0 x1).kept = x0.kept := by
  unfold State.stepTime
  simp

@[simp] theorem State.sourceChosen_kept (x0 : State) (x1 : Nat) : (State.sourceChosen x0 x1).kept = x0.kept := by
  unfold State.sourceChosen
  split
  · rfl
  · simp

@[simp] theorem State.sourceEvent_kept (x0 : State) (x1 : Int) : (State.sourceEvent x0 x1).kept = x0.kept := by
  unfold State.sourceEvent
  simp

@[simp] theorem State.frankEvent_kept (x0 : State) (x1 : Int) : (State.frankEvent x0 x1).kept = x0.kept := by
  unfold State.frankEvent
  simp

@[simp] theorem State.timeSetDo_kept (x0 : State) (x1 : Nat) : (State.timeSetDo x0 x1).kept = x0.kept := by
  unfold State.timeSetDo
  simp

@[simp] theorem State.slewEpoch_kept (x0 : State) : (State.slewEpoch x0).kept = x0.kept := by
  unfold State.slewEpoch
  simp

@[simp] theorem State.syncOut_kept (x0 : State) : (State.syncOut x0).kept = x0.kept := by
  unfold State.syncOut
  simp

/-! Feedback.lean -/

@[simp] theorem State.putFb_kept (x0 : State) (x1 : Nat) (x2 : Fb) : (State.putFb x0 x1 x2).kept = x0.kept := by
  unfold State.putFb
  simp

@[simp] theorem State.putCmp_kept (x0 : State) (x1 : Nat) (x2 : CmpSt) : (State.putCmp x0 x1 x2).kept = x0.kept := by
  unfold State.putCmp
  simp

@[simp] theorem State.fbFlag_kept (x0 : State) (x1 : Nat) (x2 : Nat) (x3 : Bool) : (State.fbFlag x0 x1 x2 x3).kept = x0.kept := by
  unfold State.fbFlag
  simp

@[simp] theorem State.fbFault_kept (x0 : State) (x1 : Nat) (x2 : Nat) : (State.fbFault x0 x1 x2).kept = x0.kept := by
  unfold State.fbFault
  simp

@[simp] theorem State.fbIllegal_kept (x0 : State) (x1 : Nat) (x2 : Nat) : (State.fbIllegal x0 x1 x2).kept = x0.kept := by
  unfold State.fbIllegal
  simp

@[simp] theorem State.idxMismatch_kept (x0 : State) (x1 : Nat) (x2 : Int) : (State.idxMismatch x0 x1 x2).kept = x0.kept := by
  unfold State.idxMismatch
  simp

@[simp] theorem State.idxPassed_kept (x0 : State) (x1 : Nat) : (State.idxPassed x0 x1).kept = x0.kept := by
  unfold State.idxPassed
  dsimp only
  split <;> simp

@[simp] theorem State.fbIndex_kept (x0 : State) (x1 : Nat) : (State.fbIndex x0 x1).kept = x0.kept := by
  unfold State.fbIndex
  dsimp only
  split <;> simp

@[simp] theorem State.cmpFire_kept (x0 x1 x2 : Nat) (x3 : State) : (State.cmpFire x0 x1 x2 x3).kept = x3.kept := by
  induction x2 generalizing x3 with
  | zero => rfl
  | succ n ih =>
    unfold State.cmpFire
    simp only [ite_kept, ih]
    simp

@[simp] theorem State.cmpEnableDo_kept (x0 : State) (x1 x2 : Nat) :
    (State.cmpEnableDo x0 x1 x2).kept = x0.kept := by
  unfold State.cmpEnableDo
  simp

@[simp] theorem State.cmpLoad_kept (x0 : State) (x1 : Nat) (x2 : Int) : (State.cmpLoad x0 x1 x2).kept = x0.kept := by
  unfold State.cmpLoad
  simp

@[simp] theorem State.cmpCheck_kept (x0 : State) (x1 : Nat) (x2 : Int) (x3 : Nat) : (State.cmpCheck x0 x1 x2 x3).kept = x0.kept := by
  unfold State.cmpCheck
  simp

@[simp] theorem State.fbCount_kept (x0 : State) (x1 : Nat) (x2 : Nat) (x3 : Int) : (State.fbCount x0 x1 x2 x3).kept = x0.kept := by
  unfold State.fbCount
  simp

@[simp] theorem State.fbEdge_kept (x0 : State) (x1 x2 x3 : Nat) : (State.fbEdge x0 x1 x2 x3).kept = x0.kept := by
  unfold State.fbEdge
  dsimp only
  split
  · simp
  · split <;> simp

@[simp] theorem State.ssiTake_kept (x0 : State) (x1 : Nat) (x2 : Nat) (x3 : Int) (x4 : Bool) : (State.ssiTake x0 x1 x2 x3 x4).kept = x0.kept := by
  unfold State.ssiTake
  simp

@[simp] theorem State.ssiReject_kept (x0 : State) (x1 : Nat) : (State.ssiReject x0 x1).kept = x0.kept := by
  unfold State.ssiReject
  simp

@[simp] theorem State.fbPublish_kept (x0 : State) (x1 : Nat) (x2 : Rat) : (State.fbPublish x0 x1 x2).kept = x0.kept := by
  unfold State.fbPublish
  simp

@[simp] theorem State.fbSpeed_kept (x0 : State) (x1 : Nat) : (State.fbSpeed x0 x1).kept = x0.kept := by
  unfold State.fbSpeed
  simp

@[simp] theorem State.fbRelatch_kept (x0 : State) (x1 x2 : Nat) :
    (State.fbRelatch x0 x1 x2).kept = x0.kept := by
  unfold State.fbRelatch
  simp

@[simp] theorem State.ssiKeep_kept (x0 : State) (x1 : Nat) :
    (State.ssiKeep x0 x1).kept = x0.kept := by
  unfold State.ssiKeep
  simp

@[simp] theorem State.ssiCutoff_kept (x0 : State) (x1 : Nat) : (State.ssiCutoff x0 x1).kept = x0.kept := by
  unfold State.ssiCutoff
  simp

@[simp] theorem State.fbLatch4_kept (x0 : State) (x1 : Nat) (x2 : Rat × Rat) : (State.fbLatch4 x0 x1 x2).kept = x0.kept := by
  unfold State.fbLatch4
  simp

@[simp] theorem State.fbLatch3_kept (x0 : State) (x1 : Nat) : (State.fbLatch3 x0 x1).kept = x0.kept := by
  unfold State.fbLatch3
  simp

@[simp] theorem State.latchFeedback_kept (x0 : State) (x1 : Samples) : (State.latchFeedback x0 x1).kept = x0.kept := by
  unfold State.latchFeedback
  refine forN_kept _ _ _ fun a t => ?_
  simp only
  rw [ite_kept]
  split
  · split <;> simp
  · simp

@[simp] theorem State.fbStill_kept (x0 : State) (x1 : Nat) : (State.fbStill x0 x1).kept = x0.kept := by
  unfold State.fbStill
  simp

@[simp] theorem State.fbConfigure_kept (x0 : State) (x1 : Nat) (x2 : Bool) : (State.fbConfigure x0 x1 x2).kept = x0.kept := by
  unfold State.fbConfigure
  simp

@[simp] theorem State.fbStart_kept (x0 : State) :
    (State.fbStart x0).kept = x0.kept := by
  unfold State.fbStart
  simp

@[simp] theorem State.fbWake_kept (x0 : State) : (State.fbWake x0).kept = x0.kept := by
  unfold State.fbWake
  simp

@[simp] theorem State.fbClear_kept (x0 : State) (x1 : Nat) : (State.fbClear x0 x1).kept = x0.kept := by
  unfold State.fbClear
  simp

/-! ModuleHw.lean -/

@[simp] theorem State.doEpisodes_kept (x0 : State) : (State.doEpisodes x0).kept = x0.kept := by
  unfold State.doEpisodes
  simp

@[simp] theorem State.encPwr_kept (x0 : State) (x1 : Nat) (x2 : Nat) : (State.encPwr x0 x1 x2).kept = x0.kept := by
  unfold State.encPwr
  simp

@[simp] theorem State.stoPublish_kept (x0 : State) : (State.stoPublish x0).kept = x0.kept := by
  unfold State.stoPublish
  simp

@[simp] theorem State.sampleInputs_kept (x0 : State) (x1 : Samples) : (State.sampleInputs x0 x1).kept = x0.kept := by
  unfold State.sampleInputs
  simp only [State.putN_kept, State.withHw_kept, State.kept_fold]
  simp

end Sys2Proof.Machine
end

