-- ==== Sys2Proof/Laws/Kept2.lean ====
section
/-!
SUPPORT. Laws/Kept2.lean: the operations of AuxPower.lean, Profiles.lean, AuxAxes.lean, IrqCmd.lean, Image.lean, Modes.lean, Guards.lean, Arms.lean, Demand.lean leave alone what `State.kept` lists.
-/
namespace Sys2Proof.Machine

/-! AuxPower.lean -/

@[simp] theorem State.putBr_kept (x0 : State) (x1 : Nat) (x2 : Br) : (State.putBr x0 x1 x2).kept = x0.kept := by
  unfold State.putBr
  simp

@[simp] theorem State.putTries_kept (x0 : State) (x1 : Nat) (x2 : Nat) : (State.putTries x0 x1 x2).kept = x0.kept := by
  unfold State.putTries
  simp

@[simp] theorem State.setBr_kept (x0 : State) (x1 : Nat) (x2 : Nat) (x3 : Br) : (State.setBr x0 x1 x2 x3).kept = x0.kept := by
  unfold State.setBr
  simp

@[simp] theorem State.brRestart_kept (x0 : State) (x1 : Nat) : (State.brRestart x0 x1).kept = x0.kept := by
  unfold State.brRestart
  simp

@[simp] theorem State.phaseShort_kept (x0 : State) (x1 : Nat) (x2 : Nat) (x3 : Nat) : (State.phaseShort x0 x1 x2 x3).kept = x0.kept := by
  unfold State.phaseShort
  simp

@[simp] theorem State.auxFault_kept (x0 : State) (x1 : Nat) (x2 : Nat) : (State.auxFault x0 x1 x2).kept = x0.kept := by
  unfold State.auxFault
  dsimp only
  split <;> simp

@[simp] theorem State.auxSettle_kept (x0 : State) (x1 : Nat) : (State.auxSettle x0 x1).kept = x0.kept := by
  unfold State.auxSettle
  simp

@[simp] theorem State.auxHold_kept (x0 : State) (x1 : Nat) (x2 : Nat) : (State.auxHold x0 x1 x2).kept = x0.kept := by
  unfold State.auxHold
  simp

@[simp] theorem State.auxRelease_kept (x0 : State) (x1 : Nat) (x2 : Nat) : (State.auxRelease x0 x1 x2).kept = x0.kept := by
  unfold State.auxRelease
  simp

@[simp] theorem State.stageHold_kept (x0 : State) (x1 : Nat) (x2 : Nat) (x3 : Bool) : (State.stageHold x0 x1 x2 x3).kept = x0.kept := by
  unfold State.stageHold
  simp

@[simp] theorem State.vauxLimit_kept (x0 : State) (x1 : Nat) (x2 : Bool) : (State.vauxLimit x0 x1 x2).kept = x0.kept := by
  unfold State.vauxLimit
  simp

@[simp] theorem State.chopSet_kept (x0 : State) (x1 : Bool) : (State.chopSet x0 x1).kept = x0.kept := by
  unfold State.chopSet
  simp

@[simp] theorem State.chopSwitch_kept (x0 : State) (x1 : Nat) : (State.chopSwitch x0 x1).kept = x0.kept := by
  unfold State.chopSwitch
  simp

@[simp] theorem State.chopPublish_kept (x0 : State) : (State.chopPublish x0).kept = x0.kept := by
  unfold State.chopPublish
  simp

@[simp] theorem State.auxClear_kept (x0 : State) (x1 : Nat) : (State.auxClear x0 x1).kept = x0.kept := by
  unfold State.auxClear
  simp

@[simp] theorem State.bridgeOut_kept (x0 : State) (x1 : Nat) (x2 : Option Rat) : (State.bridgeOut x0 x1 x2).kept = x0.kept := by
  unfold State.bridgeOut
  simp

@[simp] theorem State.stageConfigure_kept (x0 : State) : (State.stageConfigure x0).kept = x0.kept := by
  have h : ∀ (n : Nat) (t : State), (match t.axisOf n with
    | some _ =>
      if t.n .pairRole = 2 then t.setBr n 0 { Br.init with holds := (t.br n).holds }
      else if t.brState n = 0 then
        (t.putBr n { Br.init with holds := Nat.lor t.vaux.holds (Nat.land (t.br n).holds 64) }).brRestart n
      else t
    | none => t.setBr n 0 Br.init).kept = t.kept := by
    intro n t
    split
    · split
      · simp
      · split <;> simp
    · simp
  unfold State.stageConfigure
  simp only [ite_kept]
  split
  · rw [State.brRestart_kept]; exact forN_kept _ _ _ h
  · exact forN_kept _ _ _ h

/-! Profiles.lean -/

@[simp] theorem State.putEng_kept (x0 : State) (x1 : Nat) (x2 : Eng) : (State.putEng x0 x1 x2).kept = x0.kept := by
  unfold State.putEng
  simp

@[simp] theorem State.putAx_kept (x0 : State) (x1 : Nat) (x2 : Axis) : (State.putAx x0 x1 x2).kept = x0.kept := by
  unfold State.putAx
  simp

@[simp] theorem State.engRebase_kept (x0 : State) (x1 : Nat) :
    (State.engRebase x0 x1).kept = x0.kept := by
  unfold State.engRebase
  simp

@[simp] theorem State.engEvent_kept (x0 : State) (x1 : Nat) (x2 : Nat) (x3 : Nat) : (State.engEvent x0 x1 x2 x3).kept = x0.kept := by
  unfold State.engEvent
  simp

@[simp] theorem State.engStart_kept (x0 : State) (x1 : Nat) (x2 : Eng) (x3 : Bool) : (State.engStart x0 x1 x2 x3).kept = x0.kept := by
  unfold State.engStart
  simp

@[simp] theorem State.engGo_kept (x0 : State) (x1 : Nat) : (State.engGo x0 x1).kept = x0.kept := by
  unfold State.engGo
  simp

@[simp] theorem State.engBrake_kept (x0 : State) (x1 : Nat) (x2 : Bool) : (State.engBrake x0 x1 x2).kept = x0.kept := by
  unfold State.engBrake
  simp

@[simp] theorem State.engStop_kept (x0 : State) (x1 : Nat) : (State.engStop x0 x1).kept = x0.kept := by
  unfold State.engStop
  split <;> simp

@[simp] theorem State.engResume_kept (x0 : State) (x1 : Nat) : (State.engResume x0 x1).kept = x0.kept := by
  unfold State.engResume
  simp

@[simp] theorem State.engAbort_kept (x0 : State) (x1 : Nat) : (State.engAbort x0 x1).kept = x0.kept := by
  unfold State.engAbort
  split <;> simp

@[simp] theorem State.homeRun_kept (x0 : State) (x1 : Nat) (x2 : Nat) (x3 : Rat) : (State.homeRun x0 x1 x2 x3).kept = x0.kept := by
  unfold State.homeRun
  simp

@[simp] theorem State.homeFail_kept (x0 : State) (x1 : Nat) (x2 : Nat) : (State.homeFail x0 x1 x2).kept = x0.kept := by
  unfold State.homeFail
  simp

@[simp] theorem State.engHome_kept (x0 : State) (x1 : Nat) : (State.engHome x0 x1).kept = x0.kept := by
  unfold State.engHome
  simp

@[simp] theorem State.engCmd_kept (x0 : State) (x1 : Nat) (x2 : Nat) : (State.engCmd x0 x1 x2).kept = x0.kept := by
  unfold State.engCmd
  (split <;> try simp) <;> split <;> simp

@[simp] theorem State.issueTok_kept (x0 : State) (x1 : Nat) (x2 : Nat) : (State.issueTok x0 x1 x2).kept = x0.kept := by
  unfold State.issueTok
  simp

@[simp] theorem State.engPublish_kept (x0 : State) (x1 : Nat) : (State.engPublish x0 x1).kept = x0.kept := by
  unfold State.engPublish
  simp

@[simp] theorem State.engSuspend_kept (x0 : State) (x1 : Nat) (x2 : Nat) : (State.engSuspend x0 x1 x2).kept = x0.kept := by
  unfold State.engSuspend
  simp

@[simp] theorem State.engRested_kept (x0 : State) (x1 : Nat) : (State.engRested x0 x1).kept = x0.kept := by
  unfold State.engRested
  simp

@[simp] theorem State.itinStep_kept (x0 : State) (x1 : Nat) (x2 : Rat) : (State.itinStep x0 x1 x2).kept = x0.kept := by
  unfold State.itinStep
  simp

@[simp] theorem State.engMove_kept (x0 : State) (x1 : Nat) (x2 : Rat) : (State.engMove x0 x1 x2).kept = x0.kept := by
  unfold State.engMove
  simp

@[simp] theorem State.homeEvent_kept (x0 : State) (x1 : Nat) (x2 : Int) : (State.homeEvent x0 x1 x2).kept = x0.kept := by
  unfold State.homeEvent
  simp

@[simp] theorem State.homeJudge_kept (x0 : State) (x1 : Nat) : (State.homeJudge x0 x1).kept = x0.kept := by
  unfold State.homeJudge
  (split <;> try simp) <;> split <;> simp

@[simp] theorem State.engHoming_kept (x0 : State) (x1 : Nat) (x2 : Rat) : (State.engHoming x0 x1 x2).kept = x0.kept := by
  unfold State.engHoming
  simp

@[simp] theorem State.engEval_kept (x0 : State) (x1 : Nat) : (State.engEval x0 x1).kept = x0.kept := by
  unfold State.engEval
  dsimp only
  (split <;> try rfl) <;> (try split) <;> (try split) <;> simp

@[simp] theorem State.engTurns_kept (x0 : State) (x1 x2 : Nat) :
    (State.engTurns x0 x1 x2).kept = x0.kept := by
  unfold State.engTurns
  simp

@[simp] theorem State.profileUnit_kept (x0 : State) : (State.profileUnit x0).kept = x0.kept := by
  unfold State.profileUnit
  rw [State.withTokens_kept]
  refine forN_kept _ _ _ fun e t => ?_
  split
  · rfl
  · rw [State.engEval_kept]
    split <;> simp

@[simp] theorem State.engNewLimits_kept (x0 : State) (x1 : Nat) : (State.engNewLimits x0 x1).kept = x0.kept := by
  unfold State.engNewLimits
  simp

/-! AuxAxes.lean -/

@[simp] theorem State.coilOn_kept (x0 : State) (x1 : Nat) : (State.coilOn x0 x1).kept = x0.kept := by
  unfold State.coilOn
  simp

@[simp] theorem State.coilOff_kept (x0 : State) (x1 : Nat) : (State.coilOff x0 x1).kept = x0.kept := by
  unfold State.coilOff
  simp

@[simp] theorem State.axBridges_kept (x0 : State) (x1 : Nat) : (State.axBridges x0 x1).kept = x0.kept := by
  unfold State.axBridges
  simp

@[simp] theorem State.extStep_kept (x0 : State) (x1 : Nat) (x2 : Nat) (x3 : Bool) : (State.extStep x0 x1 x2 x3).kept = x0.kept := by
  unfold State.extStep
  simp

@[simp] theorem State.extPulse_kept (x0 : State) (x1 : Nat) (x2 : Nat) (x3 : Nat) (x4 : Bool) : (State.extPulse x0 x1 x2 x3 x4).kept = x0.kept := by
  unfold State.extPulse
  simp

@[simp] theorem State.gearStep_kept (x0 : State) (x1 : Nat) : (State.gearStep x0 x1).2.kept = x0.kept := by
  unfold State.gearStep
  dsimp only
  split
  · simp
  · split <;> simp

@[simp] theorem State.stepDev_kept (x0 : State) (x1 : Nat) : (State.stepDev x0 x1).2.kept = x0.kept := by
  unfold State.stepDev
  dsimp only
  split
  · rfl
  · split
    · split <;> simp
    · split <;> simp

@[simp] theorem State.stepRegulate_kept (x0 : State) (x1 : Nat) (x2 : Rat) : (State.stepRegulate x0 x1 x2).kept = x0.kept := by
  unfold State.stepRegulate
  simp

@[simp] theorem State.servoStep_kept (x0 : State) (x1 : Nat) : (State.servoStep x0 x1).kept = x0.kept := by
  unfold State.servoStep
  simp

@[simp] theorem State.brakeFollow_kept (x0 : State) (x1 : Nat) : (State.brakeFollow x0 x1).kept = x0.kept := by
  unfold State.brakeFollow
  split <;> simp

@[simp] theorem State.coilStep_kept (x0 : State) (x1 : Nat) : (State.coilStep x0 x1).kept = x0.kept := by
  unfold State.coilStep
  simp

@[simp] theorem State.axTarget_kept (x0 : State) (x1 : Nat) : (State.axTarget x0 x1).2.kept = x0.kept := by
  unfold State.axTarget
  dsimp only
  split
  · rfl
  · split
    · split <;> simp
    · rfl
    · split <;> rfl

@[simp] theorem State.axDuty_kept (x0 : State) (x1 : Nat) : (State.axDuty x0 x1).kept = x0.kept := by
  unfold State.axDuty
  simp

@[simp] theorem State.axEval_kept (x0 : State) (x1 : Nat) : (State.axEval x0 x1).kept = x0.kept := by
  have h : ((if x0.n .axisKind x1 = 3 then x0.brakeFollow x1 else x0).axBridges x1).kept = x0.kept := by simp
  unfold State.axEval
  dsimp only
  generalize ((if x0.n .axisKind x1 = 3 then x0.brakeFollow x1 else x0).axBridges x1) = s1 at h
  split
  · simp [h]
  · simp [h]
  · split <;> simp [h]
  · exact h

@[simp] theorem State.axisUnit_kept (x0 : State) : (State.axisUnit x0).kept = x0.kept := by
  unfold State.axisUnit
  simp

@[simp] theorem State.axisPlan_kept (x0 : State) : (State.axisPlan x0).kept = x0.kept := by
  unfold State.axisPlan
  refine forL_kept _ _ _ fun a t => ?_
  simp

@[simp] theorem State.axisBoundary_kept (x0 : State) (x1 : Samples) : (State.axisBoundary x0 x1).kept = x0.kept := by
  unfold State.axisBoundary
  simp

/-! IrqCmd.lean -/

@[simp] theorem State.sourceFire_kept (x0 : State) (x1 : Nat) (x2 : Bool) : (State.sourceFire x0 x1 x2).kept = x0.kept := by
  unfold State.sourceFire
  (split <;> try simp) <;> split <;> simp

@[simp] theorem State.sourceWithdrawn_kept (x0 : State) (x1 : Nat) : (State.sourceWithdrawn x0 x1).kept = x0.kept := by
  unfold State.sourceWithdrawn
  simp

@[simp] theorem State.claim_kept (x0 : State) (x1 : Nat) : (State.claim x0 x1).kept = x0.kept := by
  unfold State.claim
  simp

@[simp] theorem State.stackFaulted_kept (x0 : State) (x1 : Nat) (x2 : Nat) (x3 : Nat) : (State.stackFaulted x0 x1 x2 x3).kept = x0.kept := by
  unfold State.stackFaulted
  simp

@[simp] theorem State.eoi_kept (x0 : State) (x1 : Nat) (x2 : Nat) : (State.eoi x0 x1 x2).kept = x0.kept := by
  unfold State.eoi
  (split <;> try simp) <;> split <;> simp

@[simp] theorem State.stoSeen_kept (x0 : State) : (State.stoSeen x0).kept = x0.kept := by
  unfold State.stoSeen
  simp

@[simp] theorem State.pendingSet_kept (x0 : State) (x1 : Nat) (x2 : Nat) (x3 : Word) : (State.pendingSet x0 x1 x2 x3).kept = x0.kept := by
  unfold State.pendingSet
  simp

@[simp] theorem State.pendingClr_kept (x0 : State) (x1 : Nat) (x2 : Nat) (x3 : Word) : (State.pendingClr x0 x1 x2 x3).kept = x0.kept := by
  unfold State.pendingClr
  simp

@[simp] theorem State.enableSet_kept (x0 : State) (x1 : Nat) (x2 : Nat) (x3 : Word) : (State.enableSet x0 x1 x2 x3).kept = x0.kept := by
  unfold State.enableSet
  simp

@[simp] theorem State.enableClr_kept (x0 : State) (x1 : Nat) (x2 : Nat) (x3 : Word) : (State.enableClr x0 x1 x2 x3).kept = x0.kept := by
  unfold State.enableClr
  simp

@[simp] theorem State.stackFaultClear_kept (x0 : State) (x1 : Nat) (x2 : Nat) (x3 : Word) : (State.stackFaultClear x0 x1 x2 x3).kept = x0.kept := by
  unfold State.stackFaultClear
  simp

@[simp] theorem State.wfi_kept (x0 : State) (x1 : Nat) : (State.wfi x0 x1).kept = x0.kept := by
  unfold State.wfi
  simp

@[simp] theorem State.coreWake_kept (x0 : State) (x1 : Nat) : (State.coreWake x0 x1).kept = x0.kept := by
  unfold State.coreWake
  simp

@[simp] theorem State.coreLoads_kept (x0 : State) : (State.coreLoads x0).kept = x0.kept := by
  unfold State.coreLoads
  simp

@[simp] theorem State.irqRegWrite_kept (x0 : State) (x1 : Nat) (x2 : Nat) (x3 : Word) : (State.irqRegWrite x0 x1 x2 x3).kept = x0.kept := by
  unfold State.irqRegWrite
  simp

@[simp] theorem State.logicAccess_kept (x0 : State) (x1 : Nat) (x2 : Nat) (x3 : Nat) (x4 : AccessKind) : (State.logicAccess x0 x1 x2 x3 x4).kept = x0.kept := by
  unfold State.logicAccess
  simp

/-! Image.lean -/

@[simp] theorem State.putPt_kept (x0 : State) (x1 : Pt) (x2 : Word) : (State.putPt x0 x1 x2).kept = x0.kept := by
  unfold State.putPt
  simp

@[simp] theorem State.takeImage_kept (x0 : State) (x1 : List (Pt × Word)) (x2 : LaneImage) : (State.takeImage x0 x1 x2).kept = x0.kept := by
  unfold State.takeImage
  simp

/-! Modes.lean -/

@[simp] theorem State.stopTokens_kept (x0 : State) : (State.stopTokens x0).kept = x0.kept := by
  unfold State.stopTokens
  simp

@[simp] theorem State.softAgain_kept (x0 : State) : (State.softAgain x0).kept = x0.kept := by
  unfold State.softAgain
  refine forL_kept _ _ _ fun a t => ?_
  split
  · split <;> simp
  · rfl

@[simp] theorem State.safeMark_kept (x0 : State) (x1 : Nat) (x2 : Bool) :
    (State.safeMark x0 x1 x2).kept = x0.kept := by
  unfold State.safeMark
  simp

@[simp] theorem State.irqWakeAll_kept (x0 : State) (x1 : Nat) :
    (State.irqWakeAll x0 x1).kept = x0.kept := by
  unfold State.irqWakeAll
  simp

@[simp] theorem State.setMode_kept (x0 : State) (x1 : Nat) : (State.setMode x0 x1).kept = x0.kept := by
  unfold State.setMode
  simp

@[simp] theorem State.replayLeave_kept (x0 : State) : (State.replayLeave x0).kept = x0.kept := by
  unfold State.replayLeave
  split <;> simp

@[simp] theorem State.pairUnsafe_kept (x0 : State) : (State.pairUnsafe x0).kept = x0.kept := by
  unfold State.pairUnsafe
  simp

@[simp] theorem State.enterSafe_kept (x0 : State) (x1 : Nat) : (State.enterSafe x0 x1).kept = x0.kept := by
  unfold State.enterSafe
  simp

@[simp] theorem State.safeCause_kept (x0 : State) (x1 : Nat) : (State.safeCause x0 x1).kept = x0.kept := by
  unfold State.safeCause
  simp

@[simp] theorem State.stoChange_kept (x0 : State) (x1 : Bool) (x2 : Bool) : (State.stoChange x0 x1 x2).kept = x0.kept := by
  unfold State.stoChange
  simp

@[simp] theorem State.haltBegin_kept (x0 : State) : (State.haltBegin x0).kept = x0.kept := by
  unfold State.haltBegin
  simp

@[simp] theorem State.replayBegin_kept (x0 : State) : (State.replayBegin x0).kept = x0.kept := by
  unfold State.replayBegin
  simp

@[simp] theorem State.replayEnd_kept (x0 : State) (x1 : Nat) : (State.replayEnd x0 x1).kept = x0.kept := by
  unfold State.replayEnd
  simp

@[simp] theorem State.clearDiscrepancy_kept (x0 : State) : (State.clearDiscrepancy x0).kept = x0.kept := by
  unfold State.clearDiscrepancy
  simp

@[simp] theorem State.releaseCells_kept (x0 : State) : (State.releaseCells x0).kept = x0.kept := by
  unfold State.releaseCells
  simp

@[simp] theorem State.modeDo_kept (x0 : State) (x1 : Nat) (x2 : Nat) : (State.modeDo x0 x1 x2).kept = x0.kept := by
  unfold State.modeDo
  split <;> simp

@[simp] theorem State.modeCmd_kept (x0 : State) (x1 : Nat) (x2 : Nat) : (State.modeCmd x0 x1 x2).kept = x0.kept := by
  unfold State.modeCmd
  simp

@[simp] theorem State.overrideTick_kept (x0 : State) : (State.overrideTick x0).kept = x0.kept := by
  unfold State.overrideTick
  simp

@[simp] theorem State.sleepEffective_kept (x0 : State) (x1 : Nat) : (State.sleepEffective x0 x1).kept = x0.kept := by
  unfold State.sleepEffective
  simp

@[simp] theorem State.wakeUp_kept (x0 : State) (x1 : Nat) : (State.wakeUp x0 x1).kept = x0.kept := by
  unfold State.wakeUp
  simp

@[simp] theorem State.lossHalt_kept (x0 : State) (x1 : Nat) : (State.lossHalt x0 x1).kept = x0.kept := by
  unfold State.lossHalt
  simp

@[simp] theorem State.lossPolicy_kept (x0 : State) (x1 : Nat) : (State.lossPolicy x0 x1).kept = x0.kept := by
  unfold State.lossPolicy
  (split <;> try simp) <;> split <;> simp

@[simp] theorem State.lossPolicies_kept (x0 : State) : (State.lossPolicies x0).kept = x0.kept := by
  unfold State.lossPolicies
  simp

@[simp] theorem State.agentReturn_kept (x0 : State) (x1 : Bool) : (State.agentReturn x0 x1).kept = x0.kept := by
  unfold State.agentReturn
  simp

@[simp] theorem State.loseHost_kept (x0 : State) : (State.loseHost x0).kept = x0.kept := by
  unfold State.loseHost
  simp

@[simp] theorem State.returnHost_kept (x0 : State) : (State.returnHost x0).kept = x0.kept := by
  unfold State.returnHost
  simp

@[simp] theorem State.reclaim_kept (x0 : State) (x1 : Nat) : (State.reclaim x0 x1).kept = x0.kept := by
  unfold State.reclaim
  simp

@[simp] theorem State.resetLogicCores_kept (x0 : State) : (State.resetLogicCores x0).kept = x0.kept := by
  unfold State.resetLogicCores
  simp

/-! Guards.lean -/

@[simp] theorem State.deriveRunOff_kept (x0 : State) (x1 : Nat) : (State.deriveRunOff x0 x1).kept = x0.kept := by
  unfold State.deriveRunOff
  split <;> simp

@[simp] theorem State.deriveHalt_kept (x0 : State) :
    (State.deriveHalt x0).kept = x0.kept := by
  unfold State.deriveHalt
  simp

@[simp] theorem State.putGuard_kept (x0 : State) (x1 : Nat) (x2 : Guard) : (State.putGuard x0 x1 x2).kept = x0.kept := by
  unfold State.putGuard
  simp

@[simp] theorem State.guardTouch_kept (x0 : State) (x1 : Pt) : (State.guardTouch x0 x1).kept = x0.kept := by
  unfold State.guardTouch
  split <;> simp

@[simp] theorem State.guardEvents_kept (x0 : State) (x1 : Nat) (x2 : Nat × Nat) (x3 : Guard) (x4 : Guard) (x5 : Bool) : (State.guardEvents x0 x1 x2 x3 x4 x5).kept = x0.kept := by
  unfold State.guardEvents
  (split <;> try simp) <;> split <;> simp

@[simp] theorem State.guardJudge_kept (x0 : State) (x1 : Nat) (x2 : Pt) : (State.guardJudge x0 x1 x2).kept = x0.kept := by
  unfold State.guardJudge
  simp

@[simp] theorem State.cellGuardJudge_kept (x0 : State) (x1 : Nat) (x2 : Nat) (x3 : Nat) (x4 : Nat) : (State.cellGuardJudge x0 x1 x2 x3 x4).kept = x0.kept := by
  unfold State.cellGuardJudge
  simp

@[simp] theorem State.cellGuardsJudge_kept (x0 : State) (x1 : Nat) : (State.cellGuardsJudge x0 x1).kept = x0.kept := by
  unfold State.cellGuardsJudge
  dsimp only
  split <;> simp

@[simp] theorem State.guardsJudge_kept (x0 : State) : (State.guardsJudge x0).kept = x0.kept := by
  unfold State.guardsJudge
  refine forL_kept _ _ _ fun a t => ?_
  split
  · simp
  · split <;> simp

@[simp] theorem State.putLevel_kept (x0 : State) (x1 : Nat) (x2 : Nat) : (State.putLevel x0 x1 x2).kept = x0.kept := by
  unfold State.putLevel
  simp

@[simp] theorem State.sensorJudge_kept (x0 : State) (x1 : Nat) (x2 : Nat) (x3 : Nat) (x4 : Nat) (x5 : Rat) (x6 : Bool) : (State.sensorJudge x0 x1 x2 x3 x4 x5 x6).kept = x0.kept := by
  unfold State.sensorJudge
  simp

@[simp] theorem State.sensorsJudge_kept (x0 : State) : (State.sensorsJudge x0).kept = x0.kept := by
  unfold State.sensorsJudge
  simp

@[simp] theorem State.driveThermal_kept (x0 : State) (x1 : Nat) (x2 : Rat) : (State.driveThermal x0 x1 x2).kept = x0.kept := by
  unfold State.driveThermal
  simp

@[simp] theorem State.bridgeThermal_kept (x0 : State) : (State.bridgeThermal x0).kept = x0.kept := by
  unfold State.bridgeThermal
  simp

@[simp] theorem State.bridgeOverridden_kept (x0 x1 : State) : (State.bridgeOverridden x0 x1).kept = x0.kept := by
  unfold State.bridgeOverridden
  refine forL_kept _ _ _ fun a t => ?_
  split <;> simp

@[simp] theorem State.boardThermal_kept (x0 : State) : (State.boardThermal x0).kept = x0.kept := by
  unfold State.boardThermal
  simp

@[simp] theorem State.thermalJudge_kept (x0 : State) : (State.thermalJudge x0).kept = x0.kept := by
  unfold State.thermalJudge
  simp

@[simp] theorem State.sampleTemps_kept (x0 : State) (x1 : Samples) : (State.sampleTemps x0 x1).kept = x0.kept := by
  unfold State.sampleTemps
  simp

@[simp] theorem State.sampleSupply_kept (x0 : State) (x1 : Samples) : (State.sampleSupply x0 x1).kept = x0.kept := by
  unfold State.sampleSupply
  simp

@[simp] theorem State.supplyIrq_kept (x0 : State) : (State.supplyIrq x0).kept = x0.kept := by
  unfold State.supplyIrq
  simp

@[simp] theorem State.supplyBack_kept (x0 : State) : (State.supplyBack x0).kept = x0.kept := by
  unfold State.supplyBack
  simp

@[simp] theorem State.vctlChange_kept (x0 : State) (x1 : Bool) (x2 : Nat) : (State.vctlChange x0 x1 x2).kept = x0.kept := by
  unfold State.vctlChange
  simp

/-! Arms.lean -/

@[simp] theorem State.putArm_kept (x0 : State) (x1 : Nat) (x2 : ArmSt) : (State.putArm x0 x1 x2).kept = x0.kept := by
  unfold State.putArm
  simp

@[simp] theorem State.putSet_kept (x0 : State) (x1 : Nat) (x2 : SetSt) : (State.putSet x0 x1 x2).kept = x0.kept := by
  unfold State.putSet
  simp

@[simp] theorem State.rejoin_kept (x0 : State) (x1 : ArmDesc) : (State.rejoin x0 x1).kept = x0.kept := by
  unfold State.rejoin
  simp

@[simp] theorem State.leaveService_kept (x0 : State) (x1 : ArmDesc) : (State.leaveService x0 x1).kept = x0.kept := by
  unfold State.leaveService
  simp

@[simp] theorem State.keepService_kept (x0 : State) (x1 : ArmDesc) :
    (State.keepService x0 x1).kept = x0.kept := by
  unfold State.keepService
  simp

theorem State.judgeCause_kept (x0 : State) (x1 x2 : Nat) (x3 : Bool) (x4 : State → State) (h : (x4 x0).kept = x0.kept) :
    (State.judgeCause x0 x1 x2 x3 x4).kept = x0.kept := by
  unfold State.judgeCause
  simp only
  split
  · simp [h]
  · split <;> simp

@[simp] theorem State.redundancy_kept (x0 : State) (x1 : Nat) : (State.redundancy x0 x1).kept = x0.kept := by
  unfold State.redundancy
  simp

@[simp] theorem State.armFaults_kept (x0 : State) (x1 : Nat) : (State.armFaults x0 x1).kept = x0.kept := by
  unfold State.armFaults
  simp only
  rw [State.judgeCause_kept _ _ _ _ _ rfl, State.judgeCause_kept _ _ _ _ _ rfl, State.judgeCause_kept]
  simp

@[simp] theorem State.bypassBlocked_kept (x0 : State) (x1 : ArmDesc) : (State.bypassBlocked x0 x1).kept = x0.kept := by
  unfold State.bypassBlocked
  simp

@[simp] theorem State.bypassSent_kept (x0 : State) (x1 x2 : Nat) :
    (State.bypassSent x0 x1 x2).kept = x0.kept := by
  unfold State.bypassSent
  split <;> simp

@[simp] theorem State.bypassSeen_kept (x0 : State) (x1 : ArmDesc) : (State.bypassSeen x0 x1).kept = x0.kept := by
  unfold State.bypassSeen
  simp

@[simp] theorem State.bypassCause_kept (x0 : State) (x1 : Nat) :
    (State.bypassCause x0 x1).kept = x0.kept := by
  unfold State.bypassCause
  simp

@[simp] theorem State.consensus_kept (x0 : State) (x1 : ArmDesc) (x2 : List (Nat × Nat)) (x3 : Rat) : (State.consensus x0 x1 x2 x3).kept = x0.kept := by
  unfold State.consensus
  simp

@[simp] theorem State.measureArm_kept (x0 : State) (x1 : ArmDesc) : (State.measureArm x0 x1).kept = x0.kept := by
  unfold State.measureArm
  simp

@[simp] theorem State.vcapRef_kept (x0 : State) (x1 : Nat) : (State.vcapRef x0 x1).kept = x0.kept := by
  unfold State.vcapRef
  simp

@[simp] theorem State.armFigures_kept (x0 : State) (x1 : ArmDesc) : (State.armFigures x0 x1).kept = x0.kept := by
  unfold State.armFigures
  simp

@[simp] theorem State.armsInput_kept (x0 : State) (x1 : Nat) : (State.armsInput x0 x1).kept = x0.kept := by
  unfold State.armsInput
  dsimp only
  refine (forN_kept _ _ _ fun a t => by simp).trans ?_
  refine (State.judgeCause_kept _ _ _ _ _ (by simp)).trans ?_
  refine (forL_kept _ _ _ fun a t => by simp).trans ?_
  refine (State.vcapRef_kept _ _).trans ?_
  refine (State.judgeCause_kept _ _ _ _ _ (congrArg State.kept (id_eq _))).trans ?_
  refine (State.armFaults_kept _ _).trans ?_
  refine (State.redundancy_kept _ _).trans ?_
  refine (forL_kept _ _ _ fun a t => by simp).trans ?_
  refine (State.bypassCause_kept _ _).trans ?_
  refine (forL_kept _ _ _ fun a t => by simp).trans ?_
  exact State.drvFlag_kept _ _ _ _

/-! Demand.lean -/

@[simp] theorem State.runObserver_kept (x0 : State) (x1 : Nat) (x2 : Nat) : (State.runObserver x0 x1 x2).kept = x0.kept := by
  unfold State.runObserver
  simp

@[simp] theorem State.toSensorless_kept (x0 : State) (x1 : Nat) (x2 : Nat) : (State.toSensorless x0 x1 x2).kept = x0.kept := by
  unfold State.toSensorless
  simp

@[simp] theorem State.plausible_kept (x0 : State) (x1 : Nat) (x2 : Nat) : (State.plausible x0 x1 x2).kept = x0.kept := by
  unfold State.plausible
  simp

@[simp] theorem State.chooseFb_kept (x0 : State) (x1 x2 : Nat) :
    (State.chooseFb x0 x1 x2).kept = x0.kept := by
  unfold State.chooseFb
  simp

@[simp] theorem State.selectFb_kept (x0 : State) (x1 : Nat) : (State.selectFb x0 x1).kept = x0.kept := by
  unfold State.selectFb
  split <;> simp

@[simp] theorem State.slLow_kept (x0 : State) (x1 : Nat) : (State.slLow x0 x1).kept = x0.kept := by
  unfold State.slLow
  simp

@[simp] theorem State.takeSpeed_kept (x0 : State) (x1 : Nat) (x2 : Nat) : (State.takeSpeed x0 x1 x2).kept = x0.kept := by
  unfold State.takeSpeed
  simp

@[simp] theorem State.takePhases_kept (x0 : State) (x1 : Nat) : (State.takePhases x0 x1).kept = x0.kept := by
  unfold State.takePhases
  simp

@[simp] theorem State.takeCurrents_kept (x0 : State) (x1 : Nat) : (State.takeCurrents x0 x1).kept = x0.kept := by
  unfold State.takeCurrents
  simp

@[simp] theorem State.takeTorque_kept (x0 : State) (x1 : Nat) : (State.takeTorque x0 x1).kept = x0.kept := by
  unfold State.takeTorque
  simp

@[simp] theorem State.i2t_kept (x0 : State) (x1 : Nat) : (State.i2t x0 x1).kept = x0.kept := by
  unfold State.i2t
  simp

@[simp] theorem State.capability_kept (x0 : State) (x1 : Nat) : (State.capability x0 x1).kept = x0.kept := by
  unfold State.capability
  simp

@[simp] theorem State.softTrips_kept (x0 : State) (x1 : Nat) : (State.softTrips x0 x1).kept = x0.kept := by
  unfold State.softTrips
  simp only
  rw [State.judgeCause_kept _ _ _ _ _ (by simp), State.judgeCause_kept _ _ _ _ _ (by simp)]
  simp

@[simp] theorem State.refStep_kept (x0 : State) (x1 : Nat) (x2 : Nat) : (State.refStep x0 x1 x2).kept = x0.kept := by
  unfold State.refStep
  simp

@[simp] theorem State.speedLoop_kept (x0 : State) (x1 : Nat) : (State.speedLoop x0 x1).kept = x0.kept := by
  unfold State.speedLoop
  simp

@[simp] theorem State.trackLoop_kept (x0 : State) (x1 : Nat) :
    (State.trackLoop x0 x1).kept = x0.kept := by
  unfold State.trackLoop
  simp

@[simp] theorem State.inertia_kept (x0 : State) (x1 : Nat) : (State.inertia x0 x1).kept = x0.kept := by
  unfold State.inertia
  simp

@[simp] theorem State.loadObserver_kept (x0 : State) (x1 : Nat) (x2 : Nat) : (State.loadObserver x0 x1 x2).kept = x0.kept := by
  unfold State.loadObserver
  simp

@[simp] theorem State.shockSeen_kept (x0 : State) (x1 x2 : Nat) :
    (State.shockSeen x0 x1 x2).kept = x0.kept := by
  unfold State.shockSeen
  simp

@[simp] theorem State.shockBegin_kept (x0 : State) (x1 : Nat) : (State.shockBegin x0 x1).kept = x0.kept := by
  unfold State.shockBegin
  split <;> simp

@[simp] theorem State.govFlags_kept (x0 : State) (x1 : Nat) (x2 x3 : Bool) :
    (State.govFlags x0 x1 x2 x3).kept = x0.kept := by
  unfold State.govFlags
  simp

@[simp] theorem State.governor_kept (x0 : State) (x1 : Nat) (x2 : Rat) (x3 : Rat) : (State.governor x0 x1 x2 x3).kept = x0.kept := by
  unfold State.governor
  simp

@[simp] theorem State.governOwn_kept (x0 : State) (x1 : Nat) :
    (State.governOwn x0 x1).kept = x0.kept := by
  unfold State.governOwn
  simp

@[simp] theorem State.demand_kept (x0 : State) (x1 : Nat) : (State.demand x0 x1).kept = x0.kept := by
  unfold State.demand
  (repeat' split) <;> simp

@[simp] theorem State.payWatch_kept (x0 : State) (x1 : Nat) : (State.payWatch x0 x1).kept = x0.kept := by
  unfold State.payWatch
  simp

@[simp] theorem State.crashPhases_kept (x0 : State) (x1 : Nat) : (State.crashPhases x0 x1).kept = x0.kept := by
  unfold State.crashPhases
  (split <;> try simp) <;> split <;> simp

@[simp] theorem State.stopWatch_kept (x0 : State) (x1 : Nat) : (State.stopWatch x0 x1).kept = x0.kept := by
  unfold State.stopWatch
  simp

@[simp] theorem State.demandEnd_kept (x0 : State) (x1 : Nat) :
    (State.demandEnd x0 x1).kept = x0.kept := by
  unfold State.demandEnd
  simp

@[simp] theorem State.demandMotor_kept (x0 : State) (x1 : Nat) : (State.demandMotor x0 x1).kept = x0.kept := by
  unfold State.demandMotor
  simp

end Sys2Proof.Machine
end

