-- ==== Sys2Proof/Laws/Kept3.lean ====
section
/-!
SUPPORT. Laws/Kept3.lean: the operations of Can.lean, GroupLane.lean, Control.lean, Lanes.lean, Frames.lean, Journal.lean, Apply.lean, Cpls.lean, Ledger.lean, PairLink.lean, Host.lean leave alone what `State.kept` lists.
-/
namespace Sys2Proof.Machine

/-! Can.lean -/

@[simp] theorem State.putCan_kept (x0 : State) (x1 : Nat) (x2 : Can) : (State.putCan x0 x1 x2).kept = x0.kept := by
  unfold State.putCan
  simp

@[simp] theorem State.objPending_kept (x0 : State) (x1 : Nat) (x2 : Nat) : (State.objPending x0 x1 x2).kept = x0.kept := by
  unfold State.objPending
  simp

@[simp] theorem State.objReplaced_kept (x0 : State) (x1 : Nat) (x2 : Nat) : (State.objReplaced x0 x1 x2).kept = x0.kept := by
  unfold State.objReplaced
  simp

@[simp] theorem State.canSetState_kept (x0 : State) (x1 : Nat) (x2 : Nat) : (State.canSetState x0 x1 x2).kept = x0.kept := by
  unfold State.canSetState
  simp

@[simp] theorem State.canDiscard_kept (x0 : State) (x1 : Nat) : (State.canDiscard x0 x1).kept = x0.kept := by
  unfold State.canDiscard
  simp

@[simp] theorem State.canCount_kept (x0 : State) (x1 : Nat) : (State.canCount x0 x1).kept = x0.kept := by
  unfold State.canCount
  simp

@[simp] theorem State.canModeNow_kept (x0 : State) (x1 : Nat) (x2 : Nat) : (State.canModeNow x0 x1 x2).kept = x0.kept := by
  unfold State.canModeNow
  simp

@[simp] theorem State.canIdle_kept (x0 : State) (x1 : Nat) : (State.canIdle x0 x1).kept = x0.kept := by
  unfold State.canIdle
  dsimp only
  split <;> first | with_reducible rfl | (simp; done) | (split <;> first | with_reducible rfl | (simp; done) | (split <;> first | with_reducible rfl | (simp; done) | (split <;> simp <;> done)))

@[simp] theorem State.canQueue_kept (x0 : State) (x1 : Nat) (x2 : Nat) (x3 : List Byte) (x4 : Option Nat) : (State.canQueue x0 x1 x2 x3 x4).kept = x0.kept := by
  unfold State.canQueue
  (split <;> try simp) <;> split <;> simp

@[simp] theorem State.canSendNow_kept (x0 : State) (x1 : Nat) (x2 : Nat) : (State.canSendNow x0 x1 x2).kept = x0.kept := by
  unfold State.canSendNow
  simp

@[simp] theorem State.canAbortObj_kept (x0 : State) (x1 : Nat) (x2 : Nat) : (State.canAbortObj x0 x1 x2).1.kept = x0.kept := by
  unfold State.canAbortObj
  dsimp only
  (split <;> try rfl) <;> (try split) <;> (try split) <;> simp

@[simp] theorem State.txDone_kept (x0 : State) (x1 : Nat) (x2 : TxFrame) (x3 : Nat) (x4 : Nat) : (State.txDone x0 x1 x2 x3 x4).kept = x0.kept := by
  unfold State.txDone
  dsimp only
  split <;> simp

@[simp] theorem State.txFailed_kept (x0 : State) (x1 : Nat) (x2 : TxFrame) (x3 : TxResult) : (State.txFailed x0 x1 x2 x3).kept = x0.kept := by
  unfold State.txFailed
  simp

@[simp] theorem State.txLost_kept (x0 : State) (x1 : Nat) (x2 : TxFrame) : (State.txLost x0 x1 x2).kept = x0.kept := by
  unfold State.txLost
  simp

@[simp] theorem State.canModeWrite_kept (x0 : State) (x1 : Nat) (x2 : Nat) : (State.canModeWrite x0 x1 x2).kept = x0.kept := by
  unfold State.canModeWrite
  simp

@[simp] theorem State.canRecoverStart_kept (x0 : State) (x1 : Nat) : (State.canRecoverStart x0 x1).1.kept = x0.kept := by
  unfold State.canRecoverStart
  split <;> simp

@[simp] theorem State.canRecovered_kept (x0 : State) (x1 : Nat) : (State.canRecovered x0 x1).kept = x0.kept := by
  unfold State.canRecovered
  simp

@[simp] theorem State.frankTake_kept (x0 : State) (x1 : Nat) (x2 : List Byte) (x3 : Nat) : (State.frankTake x0 x1 x2 x3).kept = x0.kept := by
  unfold State.frankTake
  dsimp only
  split <;> simp

@[simp] theorem State.canRxOk_kept (x0 : State) (x1 : Nat) : (State.canRxOk x0 x1).kept = x0.kept := by
  unfold State.canRxOk
  simp

@[simp] theorem State.canReceive_kept (x0 : State) (x1 : Nat) (x2 : CanFrame) (x3 : Nat) (x4 : Nat) : (State.canReceive x0 x1 x2 x3 x4).kept = x0.kept := by
  unfold State.canReceive
  (split <;> try simp) <;> split <;> simp

@[simp] theorem State.rxPlace_kept (x0 : State) (x1 : Nat) (x2 : RxFrame) : (State.rxPlace x0 x1 x2).kept = x0.kept := by
  unfold State.rxPlace
  simp

@[simp] theorem State.rxOverwrite_kept (x0 : State) (x1 : Nat) (x2 : Nat) (x3 : Nat) : (State.rxOverwrite x0 x1 x2 x3).kept = x0.kept := by
  unfold State.rxOverwrite
  simp

@[simp] theorem State.canCutoff_kept (x0 : State) (x1 : Nat) : (State.canCutoff x0 x1).kept = x0.kept := by
  unfold State.canCutoff
  simp

@[simp] theorem State.mapEnds_kept (x0 : State) (x1 : Nat) : (State.mapEnds x0 x1).kept = x0.kept := by
  unfold State.mapEnds
  simp

@[simp] theorem State.mapsReset_kept (x0 : State) (x1 : Nat) : (State.mapsReset x0 x1).kept = x0.kept := by
  unfold State.mapsReset
  simp

@[simp] theorem State.canConfigure_kept (x0 : State) (x1 : Nat) : (State.canConfigure x0 x1).kept = x0.kept := by
  unfold State.canConfigure
  simp

/-! GroupLane.lean -/

@[simp] theorem State.putShaft_kept (x0 : State) (x1 : Nat) (x2 : ShaftSt) : (State.putShaft x0 x1 x2).kept = x0.kept := by
  unfold State.putShaft
  simp

@[simp] theorem State.putPower_kept (x0 : State) (x1 : Nat) (x2 : PowerSt) : (State.putPower x0 x1 x2).kept = x0.kept := by
  unfold State.putPower
  simp

@[simp] theorem State.putRun_kept (x0 : State) (x1 : Nat) (x2 : Drv) :
    (State.putRun x0 x1 x2).kept = x0.kept := by
  unfold State.putRun
  simp

@[simp] theorem State.putRunR_kept (x0 : State) (x1 : Field) (x2 : Nat) (x3 : Rat) :
    (State.putRunR x0 x1 x2 x3).kept = x0.kept := by
  unfold State.putRunR
  simp

@[simp] theorem State.runFlag_kept (x0 : State) (x1 x2 : Nat) (x3 : Bool) :
    (State.runFlag x0 x1 x2 x3).kept = x0.kept := by
  unfold State.runFlag
  simp

@[simp] theorem State.slackWatch_kept (x0 : State) (x1 : Nat) : (State.slackWatch x0 x1).kept = x0.kept := by
  unfold State.slackWatch
  simp

@[simp] theorem State.apartWatch_kept (x0 : State) (x1 : Nat) : (State.apartWatch x0 x1).kept = x0.kept := by
  unfold State.apartWatch
  simp

@[simp] theorem State.shaftWatch_kept (x0 : State) (x1 : Nat) : (State.shaftWatch x0 x1).kept = x0.kept := by
  unfold State.shaftWatch
  dsimp only
  refine (forL_kept _ _ _ fun a t => State.demandEnd_kept _ _).trans ?_
  rw [State.putR_kept, State.apartWatch_kept, State.slackWatch_kept, State.governor_kept]

@[simp] theorem State.shaftLead_kept (x0 : State) (x1 : Nat) :
    (State.shaftLead x0 x1).kept = x0.kept := by
  unfold State.shaftLead
  simp

@[simp] theorem State.shaftShare_kept (x0 : State) (x1 : Nat) (x2 x3 : Rat) :
    (State.shaftShare x0 x1 x2 x3).kept = x0.kept := by
  unfold State.shaftShare
  simp

@[simp] theorem State.shaftStep_kept (x0 : State) (x1 : Nat) : (State.shaftStep x0 x1).kept = x0.kept := by
  unfold State.shaftStep
  simp

@[simp] theorem State.blackout_kept (x0 : State) (x1 : Nat) : (State.blackout x0 x1).kept = x0.kept := by
  unfold State.blackout
  simp

@[simp] theorem State.shed_kept (x0 : State) (x1 : Nat) : (State.shed x0 x1).kept = x0.kept := by
  unfold State.shed
  dsimp only
  split <;> simp

@[simp] theorem State.routePool_kept (x0 : State) (x1 : Nat) (x2 : List Nat × Option Nat) (x3 : Rest) : (State.routePool x0 x1 x2 x3).1.kept = x0.kept := by
  unfold State.routePool
  split <;> simp

@[simp] theorem State.routePools_kept (x0 : Nat) (x1 : List (List Nat × Option Nat)) (x2 : State) (x3 : Rest) :
    (State.routePools x0 x1 x2 x3).1.kept = x2.kept := by
  induction x1 generalizing x2 x3 with
  | nil => rfl
  | cons q qs ih =>
    unfold State.routePools
    simp only [ih]
    simp

@[simp] theorem State.route_kept (x0 : State) (x1 : Nat) : (State.route x0 x1).kept = x0.kept := by
  unfold State.route
  simp

@[simp] theorem State.shareFinal_kept (x0 : State) (x1 : Nat) : (State.shareFinal x0 x1).kept = x0.kept := by
  unfold State.shareFinal
  simp

@[simp] theorem State.effective_kept (x0 : State) (x1 : Nat) : (State.effective x0 x1).kept = x0.kept := by
  unfold State.effective
  simp

@[simp] theorem State.groupLane_kept (x0 : State) : (State.groupLane x0).kept = x0.kept := by
  unfold State.groupLane
  simp

/-! Control.lean -/

@[simp] theorem State.fluxStep_kept (x0 : State) (x1 : Nat) (x2 : Nat) : (State.fluxStep x0 x1 x2).kept = x0.kept := by
  unfold State.fluxStep
  simp

@[simp] theorem State.weaken_kept (x0 : State) (x1 : Nat) : (State.weaken x0 x1).kept = x0.kept := by
  unfold State.weaken
  simp

@[simp] theorem State.lineWatch_kept (x0 : State) (x1 : Nat) : (State.lineWatch x0 x1).kept = x0.kept := by
  unfold State.lineWatch
  dsimp only
  split <;> simp

@[simp] theorem State.demandLine_kept (x0 : State) (x1 : Nat) : (State.demandLine x0 x1).kept = x0.kept := by
  unfold State.demandLine
  simp

@[simp] theorem State.fluxControl_kept (x0 : State) (x1 : Nat) : (State.fluxControl x0 x1).kept = x0.kept := by
  unfold State.fluxControl
  simp

@[simp] theorem State.refsOf_kept (x0 : State) (x1 x2 : Nat) : (State.refsOf x0 x1 x2).2.2.2.kept = x0.kept := by
  unfold State.refsOf
  split
  · simp [State.lineRefs]
  · rfl

@[simp] theorem State.setControl_kept (x0 : State) (x1 x2 x3 : Nat) : (State.setControl x0 x1 x2 x3).kept = x0.kept := by
  unfold State.setControl
  dsimp only
  simp only [ite_kept, State.putDrv_kept, State.drvFlag_kept, State.raiseLane_kept, State.putR_kept, State.putSet_kept,
    State.refsOf_kept, ite_self]

@[simp] theorem State.circPublish_kept (x0 : State) (x1 : Nat) (x2 : Nat) (x3 : Nat) (x4 : Rat) (x5 : Rat) : (State.circPublish x0 x1 x2 x3 x4 x5).kept = x0.kept := by
  unfold State.circPublish
  split <;> simp

@[simp] theorem State.legs_kept (x0 : State) (x1 x2 : Nat) (x3 x4 x5 x6 : Rat) :
    (State.legs x0 x1 x2 x3 x4 x5 x6).1.kept = x0.kept := by
  unfold State.legs
  refine (forL_kept _ _ _ fun a t => ?_).trans (State.putSet_kept _ _ _)
  simp

@[simp] theorem State.countSwitching_kept (x0 : State) (x1 : Nat) (x2 : Rat) : (State.countSwitching x0 x1 x2).kept = x0.kept := by
  unfold State.countSwitching
  simp

@[simp] theorem State.sendCarrierRef_kept (x0 : State) (x1 : ArmDesc) (x2 : Rat) : (State.sendCarrierRef x0 x1 x2).kept = x0.kept := by
  unfold State.sendCarrierRef
  simp

@[simp] theorem State.sendMask_kept (x0 : State) (x1 : ArmDesc) (x2 : Rat) (x3 : Rat) : (State.sendMask x0 x1 x2 x3).1.kept = x0.kept := by
  unfold State.sendMask
  simp

@[simp] theorem State.sendBlocked_kept (x0 : State) (x1 : ArmDesc) : (State.sendBlocked x0 x1).kept = x0.kept := by
  unfold State.sendBlocked
  simp

@[simp] theorem State.sendSeries_kept (x0 : State) (x1 : ArmDesc) (x2 : Rat) (x3 : Rat) : (State.sendSeries x0 x1 x2 x3).1.kept = x0.kept := by
  unfold State.sendSeries
  split <;> simp

@[simp] theorem State.sendRoles_kept (x0 x1 : Nat) (x2 : Nat → Rat) (x3 : List (Nat × Rat)) (x4 : State) :
    (State.sendRoles x0 x1 x2 x3 x4).1.kept = x4.kept := by
  induction x3 generalizing x4 with
  | nil => rfl
  | cons e l ih =>
    unfold State.sendRoles
    split
    · simp only [ih]; simp
    · exact ih _

@[simp] theorem State.realised_kept (x0 : State) (x1 : Nat) (x2 : Nat) (x3 : Rat) (x4 : Rat) (x5 : Rat) : (State.realised x0 x1 x2 x3 x4 x5).kept = x0.kept := by
  unfold State.realised
  simp

@[simp] theorem State.modulateSet_kept (x0 : State) (x1 x2 : Nat) : (State.modulateSet x0 x1 x2).kept = x0.kept := by
  unfold State.modulateSet
  dsimp only
  split
  · simp
  · split
    · rw [State.realised_kept]
      refine forL_kept _ _ _ fun a t => ?_
      split <;> simp
    · simp
    · simp

@[simp] theorem State.chopArms_kept (x0 : State) (x1 : Nat) : (State.chopArms x0 x1).kept = x0.kept := by
  unfold State.chopArms
  simp

@[simp] theorem State.rephase_kept (x0 : State) (x1 : ArmDesc) : (State.rephase x0 x1).kept = x0.kept := by
  unfold State.rephase
  simp

@[simp] theorem State.delayComp_kept (x0 : State) (x1 : Nat) : (State.delayComp x0 x1).kept = x0.kept := by
  unfold State.delayComp
  simp

@[simp] theorem State.hfiStep_kept (x0 : State) (x1 : Nat) : (State.hfiStep x0 x1).kept = x0.kept := by
  unfold State.hfiStep
  simp

@[simp] theorem State.controlPath_kept (x0 : State) (x1 : Nat) : (State.controlPath x0 x1).kept = x0.kept := by
  unfold State.controlPath
  simp

@[simp] theorem State.tailPath_kept (x0 : State) (x1 : Nat) : (State.tailPath x0 x1).kept = x0.kept := by
  unfold State.tailPath
  dsimp only
  refine (forL_kept _ _ _ fun a t => by simp).trans ?_
  rw [State.hfiStep_kept, State.chopArms_kept]
  refine (forN_kept _ _ _ fun a t => by simp).trans ?_
  refine (forN_kept _ _ _ fun a t => by simp).trans ?_
  rw [State.fluxControl_kept, State.vcapRef_kept]
  split <;> simp

@[simp] theorem State.setCtrlMode_kept (x0 : State) (x1 : Nat) (x2 : Nat) : (State.setCtrlMode x0 x1 x2).kept = x0.kept := by
  unfold State.setCtrlMode
  simp

@[simp] theorem State.setFbUse_kept (x0 : State) (x1 : Nat) (x2 : Nat) : (State.setFbUse x0 x1 x2).kept = x0.kept := by
  unfold State.setFbUse
  simp

@[simp] theorem State.idBegin_kept (x0 : State) (x1 x2 : Nat) :
    (State.idBegin x0 x1 x2).kept = x0.kept := by
  unfold State.idBegin
  simp

@[simp] theorem State.identDo_kept (x0 : State) (x1 : Nat) : (State.identDo x0 x1).kept = x0.kept := by
  unfold State.identDo
  simp

@[simp] theorem State.identFail_kept (x0 : State) (x1 : Nat) : (State.identFail x0 x1).kept = x0.kept := by
  unfold State.identFail
  simp

@[simp] theorem State.identAbortDo_kept (x0 : State) (x1 : Nat) : (State.identAbortDo x0 x1).kept = x0.kept := by
  unfold State.identAbortDo
  simp

@[simp] theorem State.identStep_kept (x0 : State) (x1 : Nat) (x2 : Rat) (x3 : List Rat) :
    (State.identStep x0 x1 x2 x3).kept = x0.kept := by
  unfold State.identStep
  simp

@[simp] theorem State.identWatch_kept (x0 : State) (x1 : Nat) : (State.identWatch x0 x1).kept = x0.kept := by
  unfold State.identWatch
  simp

/-! Lanes.lean -/

@[simp] theorem State.skipDrive_kept (x0 : State) (x1 : Nat) : (State.skipDrive x0 x1).kept = x0.kept := by
  unfold State.skipDrive
  simp

@[simp] theorem State.laneSkips_kept (x0 : State) (x1 : Nat) : (State.laneSkips x0 x1).kept = x0.kept := by
  unfold State.laneSkips
  simp

@[simp] theorem State.demandPath_kept (x0 : State) (x1 : Nat) : (State.demandPath x0 x1).kept = x0.kept := by
  unfold State.demandPath
  simp

@[simp] theorem State.endDrive_kept (x0 : State) (x1 : Nat) : (State.endDrive x0 x1).kept = x0.kept := by
  unfold State.endDrive
  simp

@[simp] theorem State.judgeInputs_kept (x0 : State) : (State.judgeInputs x0).kept = x0.kept := by
  unfold State.judgeInputs
  simp

@[simp] theorem State.lanesCompute_kept (x0 : State) : (State.lanesCompute x0).kept = x0.kept := by
  unfold State.lanesCompute
  simp

@[simp] theorem State.hashLanes_kept (x0 : State) : (State.hashLanes x0).kept = x0.kept := by
  unfold State.hashLanes
  simp

@[simp] theorem State.lanesRun_kept (x0 : State) : (State.lanesRun x0).kept = x0.kept := by
  unfold State.lanesRun
  simp

/-! Frames.lean -/

@[simp] theorem State.advanceTo_kept (x0 : State) (x1 : Nat) :
    (State.advanceTo x0 x1).kept = x0.kept := by
  unfold State.advanceTo
  simp

@[simp] theorem State.carrierSent_kept (x0 : State) (x1 x2 x3 : Nat) :
    (State.carrierSent x0 x1 x2 x3).kept = x0.kept := by
  unfold State.carrierSent
  dsimp only
  split <;> simp

@[simp] theorem State.dirSent_kept (x0 : State) (x1 : Nat) (x2 : DirEntry) : (State.dirSent x0 x1 x2).kept = x0.kept := by
  unfold State.dirSent
  split
  · simp
  · rw [State.settle_kept]
    simp
  · simp
  · rfl

@[simp] theorem State.dropSent_kept (x0 : State) (x1 : Nat) (x2 : List DirEntry) : (State.dropSent x0 x1 x2).kept = x0.kept := by
  unfold State.dropSent
  simp

@[simp] theorem State.trimSent_kept (x0 : State) (x1 : Nat) (x2 : TrimEntry) : (State.trimSent x0 x1 x2).kept = x0.kept := by
  unfold State.trimSent
  (split <;> try simp) <;> split <;> simp

@[simp] theorem State.armsStarted_kept (x0 : State) (x1 : Nat) (x2 : Frame) : (State.armsStarted x0 x1 x2).kept = x0.kept := by
  unfold State.armsStarted
  simp

@[simp] theorem State.slotPublish_kept (x0 : State) (x1 x2 : Nat) (x3 : ArmEntry) : (State.slotPublish x0 x1 x2 x3).kept = x0.kept := by
  unfold State.slotPublish
  have h : ∀ l : List (Word × Nat), (l.foldl (fun t w => t.putN .slot (x1 * 16 + x3.slot) w.1.toNat w.2) x0).kept = x0.kept :=
    fun l => foldl_kept l _ x0 fun t a => by simp
  dsimp only
  split <;> simp [foldl_kept]

@[simp] theorem State.rephaseCount_kept (x0 : State) (x1 : Nat) :
    (State.rephaseCount x0 x1).kept = x0.kept := by
  unfold State.rephaseCount
  simp

@[simp] theorem State.rephased_kept (x0 : State) :
    (State.rephased x0).kept = x0.kept := by
  unfold State.rephased
  simp

@[simp] theorem State.sendFrame_kept (x0 : State) (x1 : Nat) (x2 : End) (x3 : Frame) : (State.sendFrame x0 x1 x2 x3).kept = x0.kept := by
  unfold State.sendFrame
  simp

@[simp] theorem State.sendRound_kept (x0 : State) (x1 : Nat) : (State.sendRound x0 x1).kept = x0.kept := by
  unfold State.sendRound
  simp

@[simp] theorem State.idleRound_kept (x0 : State) (x1 : Nat) : (State.idleRound x0 x1).kept = x0.kept := by
  unfold State.idleRound
  simp

@[simp] theorem State.followRound_kept (x0 : State) (x1 : Nat) : (State.followRound x0 x1).kept = x0.kept := by
  unfold State.followRound
  simp

@[simp] theorem State.sendAll_kept (x0 : State) : (State.sendAll x0).kept = x0.kept := by
  unfold State.sendAll
  simp

/-! Journal.lean -/

@[simp] theorem State.fitWindow_kept (x0 : State) : (State.fitWindow x0).kept = x0.kept := by
  unfold State.fitWindow
  simp

@[simp] theorem State.shortenCapture_kept (x0 x1 : Nat) (x2 : State) : (State.shortenCapture x0 x1 x2).kept = x2.kept := by
  induction x1 generalizing x2 with
  | zero => rfl
  | succ n ih =>
    unfold State.shortenCapture
    simp only
    split
    · rw [ih]; simp
    · rfl

@[simp] theorem State.append_kept (x0 : State) (x1 : MailRec) : (State.append x0 x1).kept = x0.kept := by
  unfold State.append
  dsimp only
  split <;> simp

@[simp] theorem State.jrnFigures_kept (x0 : State) : (State.jrnFigures x0).kept = x0.kept := by
  unfold State.jrnFigures
  split <;> simp

@[simp] theorem State.writeConfig_kept (x0 : State) : (State.writeConfig x0).kept = x0.kept := by
  unfold State.writeConfig
  simp

@[simp] theorem State.recordEpoch_kept (x0 : State) (x1 : Nat) : (State.recordEpoch x0 x1).kept = x0.kept := by
  unfold State.recordEpoch
  simp

@[simp] theorem State.journalFrozen_kept (x0 : State) (x1 : Nat) : (State.journalFrozen x0 x1).kept = x0.kept := by
  unfold State.journalFrozen
  simp

@[simp] theorem State.journalReleaseDo_kept (x0 : State) : (State.journalReleaseDo x0).kept = x0.kept := by
  unfold State.journalReleaseDo
  simp

@[simp] theorem State.journalExportDo_kept (x0 : State) (x1 : Cmd) (x2 : Option Nat × List MailRec) : (State.journalExportDo x0 x1 x2).kept = x0.kept := by
  unfold State.journalExportDo
  simp

@[simp] theorem State.endExport_kept (x0 : State) (x1 : Nat) : (State.endExport x0 x1).kept = x0.kept := by
  unfold State.endExport
  split <;> simp

@[simp] theorem State.exportBlock_kept (x0 : State) : (State.exportBlock x0).kept = x0.kept := by
  unfold State.exportBlock
  split <;> simp

@[simp] theorem State.journalLose_kept (x0 : State) (x1 : List Nat) : (State.journalLose x0 x1).kept = x0.kept := by
  unfold State.journalLose
  simp

@[simp] theorem State.closeDue_kept (x0 : State) (x1 : Nat) : (State.closeDue x0 x1).kept = x0.kept := by
  unfold State.closeDue
  simp

@[simp] theorem State.ringOverflow_kept (x0 : State) (x1 : Nat) : (State.ringOverflow x0 x1).kept = x0.kept := by
  unfold State.ringOverflow
  simp

/-! Apply.lean -/

@[simp] theorem State.regimeDo_kept (x0 : State) (x1 : Field) (x2 : Nat) (x3 : Nat) : (State.regimeDo x0 x1 x2 x3).kept = x0.kept := by
  unfold State.regimeDo
  split <;> simp

@[simp] theorem State.setShaftMode_kept (x0 : State) (x1 : Nat) (x2 : Nat) : (State.setShaftMode x0 x1 x2).kept = x0.kept := by
  unfold State.setShaftMode
  simp

@[simp] theorem State.canSendDue_kept (x0 : State) (x1 : Nat) : (State.canSendDue x0 x1).kept = x0.kept := by
  unfold State.canSendDue
  simp

@[simp] theorem State.writeEffect_kept (x0 : State) (x1 : Pt) (x2 : Word) : (State.writeEffect x0 x1 x2).kept = x0.kept := by
  unfold State.writeEffect
  dsimp only
  split
  all_goals first
    | (simp; done)
    | (split <;> simp <;> done)

@[simp] theorem State.applyItem_kept (x0 : State) (x1 : Nat) (x2 : Nat) (x3 : Word) (x4 : Option Nat) (x5 : Nat) : (State.applyItem x0 x1 x2 x3 x4 x5).kept = x0.kept := by
  unfold State.applyItem
  split <;> simp

@[simp] theorem State.newLimits_kept (x0 : State) : (State.newLimits x0).kept = x0.kept := by
  unfold State.newLimits
  simp

@[simp] theorem State.afterWrites_kept (x0 : State) : (State.afterWrites x0).kept = x0.kept := by
  unfold State.afterWrites
  simp

@[simp] theorem State.mapsWrite_kept (x0 : State) : (State.mapsWrite x0).kept = x0.kept := by
  unfold State.mapsWrite
  simp

/-! Cpls.lean -/

@[simp] theorem State.unreserve_kept (x0 : State) (x1 : Cmd) : (State.unreserve x0 x1).kept = x0.kept := by
  unfold State.unreserve
  simp

@[simp] theorem State.cplCount_kept (x0 : State) (x1 : Nat) : (State.cplCount x0 x1).kept = x0.kept := by
  unfold State.cplCount
  simp

@[simp] theorem State.cplWrite_kept (x0 : State) (x1 : Cmd) (x2 : Bool) (x3 : Nat) (x4 : Nat) (x5 : Nat) (x6 : Nat) : (State.cplWrite x0 x1 x2 x3 x4 x5 x6).kept = x0.kept := by
  unfold State.cplWrite
  simp

@[simp] theorem State.finalWrite_kept (x0 : State) (x1 : Cmd) (x2 : Nat) (x3 : Nat) (x4 : Nat) (x5 : Nat) : (State.finalWrite x0 x1 x2 x3 x4 x5).kept = x0.kept := by
  unfold State.finalWrite
  simp

@[simp] theorem State.complete_kept (x0 : State) (x1 : Cmd) (x2 : Nat) (x3 : Nat) (x4 : Nat) : (State.complete x0 x1 x2 x3 x4).kept = x0.kept := by
  unfold State.complete
  simp

@[simp] theorem State.finish_kept (x0 : State) (x1 : Cmd) (x2 : Await) (x3 x4 x5 : Nat) :
    (State.finish x0 x1 x2 x3 x4 x5).kept = x0.kept := by
  unfold State.finish
  simp

@[simp] theorem State.failed_kept (x0 : State) (x1 : Cmd) (x2 x3 x4 : Nat) :
    (State.failed x0 x1 x2 x3 x4).kept = x0.kept := by
  unfold State.failed
  simp

@[simp] theorem State.readResults_kept (x0 : State) (x1 : FinCpl) : (State.readResults x0 x1).kept = x0.kept := by
  unfold State.readResults
  split <;> simp

@[simp] theorem State.writeFins_kept (x0 : State) : (State.writeFins x0).kept = x0.kept := by
  unfold State.writeFins
  simp

@[simp] theorem State.prPublish_kept (x0 : State) : (State.prPublish x0).kept = x0.kept := by
  unfold State.prPublish
  simp

@[simp] theorem State.prRemove_kept (x0 : State) (x1 : List Nat) : (State.prRemove x0 x1).kept = x0.kept := by
  unfold State.prRemove
  simp

/-! Ledger.lean -/

@[simp] theorem State.putTier_kept (x0 : State) (x1 : Nat) (x2 : Tier) : (State.putTier x0 x1 x2).kept = x0.kept := by
  unfold State.putTier
  simp

@[simp] theorem State.envPublish_kept (x0 : State) (x1 : Nat) (x2 : Nat) : (State.envPublish x0 x1 x2).kept = x0.kept := by
  unfold State.envPublish
  simp

@[simp] theorem State.setDo_kept (x0 : State) (x1 : Nat) (x2 : Op) : (State.setDo x0 x1 x2).kept = x0.kept := by
  unfold State.setDo
  split <;> simp

@[simp] theorem State.setsPruned_kept (x0 : State) : (State.setsPruned x0).kept = x0.kept := by
  unfold State.setsPruned
  simp

@[simp] theorem State.envSkip_kept (x0 : State) (x1 : Nat) (x2 : Nat) (x3 : Nat) : (State.envSkip x0 x1 x2 x3).kept = x0.kept := by
  unfold State.envSkip
  simp

@[simp] theorem State.envRoom_kept (x0 : State) (x1 : Nat) : (State.envRoom x0 x1).kept = x0.kept := by
  unfold State.envRoom
  simp

@[simp] theorem State.envWrite_kept (x0 : State) (x1 : Nat) (x2 : Nat) (x3 : Envelope) : (State.envWrite x0 x1 x2 x3).kept = x0.kept := by
  unfold State.envWrite
  simp

@[simp] theorem State.compose_kept (x0 : State) (x1 : Nat) (x2 : Nat) : (State.compose x0 x1 x2).kept = x0.kept := by
  unfold State.compose
  simp

@[simp] theorem State.composeAll_kept (x0 : State) : (State.composeAll x0).kept = x0.kept := by
  unfold State.composeAll
  simp

@[simp] theorem State.envSeal_kept (x0 : State) (x1 : Nat) (x2 : Nat) (x3 : Nat) : (State.envSeal x0 x1 x2 x3).kept = x0.kept := by
  unfold State.envSeal
  dsimp only
  split <;> simp

/-! PairLink.lean -/

@[simp] theorem State.setPairField_kept (x0 : State) (x1 : Field) (x2 : Nat) : (State.setPairField x0 x1 x2).kept = x0.kept := by
  unfold State.setPairField
  simp

@[simp] theorem State.hear_kept (x0 : State) (x1 : Bool) :
    (State.hear x0 x1).kept = x0.kept := by
  unfold State.hear
  simp

@[simp] theorem State.pubEligible_kept (x0 : State) : (State.pubEligible x0).kept = x0.kept := by
  unfold State.pubEligible
  simp

@[simp] theorem State.setProt_kept (x0 : State) (x1 : Nat) : (State.setProt x0 x1).kept = x0.kept := by
  unfold State.setProt
  simp

@[simp] theorem State.forward_kept (x0 : State) (x1 : Cmd) : (State.forward x0 x1).kept = x0.kept := by
  unfold State.forward
  simp

@[simp] theorem State.handoverBegin_kept (x0 : State) : (State.handoverBegin x0).kept = x0.kept := by
  unfold State.handoverBegin
  simp

@[simp] theorem State.resyncBegin_kept (x0 : State) : (State.resyncBegin x0).kept = x0.kept := by
  unfold State.resyncBegin
  simp

@[simp] theorem State.surrender_kept (x0 : State) (x1 : Nat) (x2 : Bool) : (State.surrender x0 x1 x2).kept = x0.kept := by
  unfold State.surrender
  simp

/-! Host.lean -/

@[simp] theorem State.cancelDo_kept (x0 : State) (x1 : Cmd) (x2 : Nat) (x3 : Nat) : (State.cancelDo x0 x1 x2 x3).kept = x0.kept := by
  unfold State.cancelDo
  split <;> simp

@[simp] theorem State.putIdleBank_kept (x0 : State) (x1 : Bank) : (State.putIdleBank x0 x1).kept = x0.kept := by
  unfold State.putIdleBank
  split <;> simp

@[simp] theorem State.fwWriteDo_kept (x0 : State) (x1 : Cmd) (x2 : List Byte) (x3 : Nat) : (State.fwWriteDo x0 x1 x2 x3).kept = x0.kept := by
  unfold State.fwWriteDo
  simp

@[simp] theorem State.fwCommitDo_kept (x0 : State) (x1 : Cmd) (x2 : Nat) : (State.fwCommitDo x0 x1 x2).kept = x0.kept := by
  unfold State.fwCommitDo
  dsimp only
  split <;> simp

@[simp] theorem State.replayStop_kept (x0 : State) : (State.replayStop x0).kept = x0.kept := by
  unfold State.replayStop
  simp

@[simp] theorem State.feedDo_kept (x0 : State) (x1 : Cmd) (x2 : List FedBlock) : (State.feedDo x0 x1 x2).kept = x0.kept := by
  unfold State.feedDo
  simp

@[simp] theorem State.immediate_kept (x0 : State) (x1 : Cmd) : (State.immediate x0 x1).kept = x0.kept := by
  unfold State.immediate
  (split <;> try simp) <;> split <;> simp

@[simp] theorem State.keep_kept (x0 : State) (x1 : Cmd) : (State.keep x0 x1).kept = x0.kept := by
  unfold State.keep
  simp

@[simp] theorem State.reject_kept (x0 : State) (x1 : Cmd) (x2 : Nat) (x3 : Verdict) : (State.reject x0 x1 x2 x3).kept = x0.kept := by
  unfold State.reject
  simp

@[simp] theorem State.settleJudged_kept (x0 : State) (x1 : Cmd) (x2 : Nat) (x3 : Verdict) : (State.settleJudged x0 x1 x2 x3).kept = x0.kept := by
  unfold State.settleJudged
  simp

@[simp] theorem State.accept_kept (x0 : State) (x1 : Nat) (x2 : Nat) (x3 : Desc) : (State.accept x0 x1 x2 x3).kept = x0.kept := by
  unfold State.accept
  simp

@[simp] theorem State.fetch_kept (x0 : State) (x1 : Nat) (x2 : Nat) (x3 : Desc) : (State.fetch x0 x1 x2 x3).kept = x0.kept := by
  unfold State.fetch
  simp

@[simp] theorem State.recorded_kept (x0 : State) (x1 : Cmd) (x2 : List (Nat × Nat)) : (State.recorded x0 x1 x2).kept = x0.kept := by
  unfold State.recorded
  simp

theorem State.applyItems_kept (a : Nat) (cmd : Option Nat) (l : List (Nat × Word × Word)) (k : Nat) (done : List (Nat × Nat))
    (s : State) (r : State × List (Nat × Nat)) (h : State.applyItems a cmd l k done s = .ok r) : r.1.kept = s.kept := by
  induction l generalizing k done s with
  | nil => cases h; rfl
  | cons e l ih =>
    unfold State.applyItems at h
    dsimp only at h
    split at h
    · rw [ih _ _ _ h]; simp
    · cases h

@[simp] theorem State.writeDo_kept (x0 : State) (x1 : Cmd) (x2 : List (Nat × Word × Word)) : (State.writeDo x0 x1 x2).kept = x0.kept := by
  unfold State.writeDo
  split
  · next s1 done h => simp [applyItems_kept _ _ _ _ _ _ _ h]
  · simp

@[simp] theorem State.slowReadDo_kept (x0 : State) (x1 : Cmd) (x2 : Nat) (x3 : Nat) (x4 : Nat) : (State.slowReadDo x0 x1 x2 x3 x4).kept = x0.kept := by
  unfold State.slowReadDo
  simp

@[simp] theorem State.itinDo_kept (x0 : State) (x1 : Nat) (x2 : List (Nat × Int × Int)) : (State.itinDo x0 x1 x2).kept = x0.kept := by
  unfold State.itinDo
  simp

@[simp] theorem State.effect_kept (x0 : State) (x1 : Cmd) : (State.effect x0 x1).kept = x0.kept := by
  unfold State.effect
  dsimp only
  split <;> try (simp; done)
  next pre post _ =>
    have := State.captureTrigger_kept x0 x0.epoch pre post
    split
    · next h => rw [h] at this; simp [this]
    · next h => rw [h] at this; simp [this]

@[simp] theorem State.applyCmd_kept (x0 : State) (x1 : Cmd) : (State.applyCmd x0 x1).kept = x0.kept := by
  unfold State.applyCmd
  simp

@[simp] theorem State.modesDue_kept (x0 : State) (x1 : List Cmd) :
    (State.modesDue x0 x1).kept = x0.kept := by
  unfold State.modesDue
  simp

@[simp] theorem State.applyDue_kept (x0 : State) : (State.applyDue x0).kept = x0.kept := by
  unfold State.applyDue
  simp

end Sys2Proof.Machine
end

