-- ==== Sys2Proof/Laws/Kept4.lean ====
section
/-!
SUPPORT. Laws/Kept4.lean: the operations of HostIf.lean, Plant.lean, Replay.lean, Pair.lean, Boot.lean, Epoch.lean leave alone what `State.kept` lists.
-/
namespace Sys2Proof.Machine

/-! HostIf.lean -/

@[simp] theorem State.hifPublish_kept (x0 : State) : (State.hifPublish x0).kept = x0.kept := by
  unfold State.hifPublish
  simp

@[simp] theorem State.ringFault_kept (x0 : State) (x1 : Nat) (x2 : Nat) : (State.ringFault x0 x1 x2).kept = x0.kept := by
  unfold State.ringFault
  simp

@[simp] theorem State.tierStart_kept (x0 : State) (x1 : Nat) (x2 : Nat) : (State.tierStart x0 x1 x2).kept = x0.kept := by
  unfold State.tierStart
  split <;> simp

@[simp] theorem State.ringStart_kept (x0 : State) (x1 : Nat) (x2 : Nat) (x3 : Ring) : (State.ringStart x0 x1 x2 x3).kept = x0.kept := by
  unfold State.ringStart
  simp

@[simp] theorem State.ringEnable_kept (x0 : State) (x1 : Nat) (x2 : Nat) (x3 : Nat) : (State.ringEnable x0 x1 x2 x3).kept = x0.kept := by
  unfold State.ringEnable
  simp

@[simp] theorem State.ringStop_kept (x0 : State) (x1 : Nat) : (State.ringStop x0 x1).kept = x0.kept := by
  unfold State.ringStop
  split <;> simp

@[simp] theorem State.ringDisable_kept (x0 : State) (x1 : Nat) (x2 : Nat) : (State.ringDisable x0 x1 x2).kept = x0.kept := by
  unfold State.ringDisable
  simp

@[simp] theorem State.hostRingsStop_kept (x0 : State) : (State.hostRingsStop x0).kept = x0.kept := by
  unfold State.hostRingsStop
  simp

@[simp] theorem State.sessionEnd_kept (x0 : State) (x1 : Nat) : (State.sessionEnd x0 x1).kept = x0.kept := by
  unfold State.sessionEnd
  (split <;> try simp) <;> split <;> simp

@[simp] theorem State.negotiate_kept (x0 : State) (x1 : Nat) : (State.negotiate x0 x1).kept = x0.kept := by
  unfold State.negotiate
  simp

@[simp] theorem State.interfaceReset_kept (x0 : State) : (State.interfaceReset x0).kept = x0.kept := by
  unfold State.interfaceReset
  simp

@[simp] theorem State.linkDown_kept (x0 : State) : (State.linkDown x0).kept = x0.kept := by
  unfold State.linkDown
  simp

@[simp] theorem State.pcieUp_kept (x0 : State) (x1 : Nat) (x2 : Nat) : (State.pcieUp x0 x1 x2).kept = x0.kept := by
  unfold State.pcieUp
  simp

@[simp] theorem State.wdtWrite_kept (x0 : State) (x1 : Nat) : (State.wdtWrite x0 x1).kept = x0.kept := by
  unfold State.wdtWrite
  simp

@[simp] theorem State.wdtExpire_kept (x0 : State) : (State.wdtExpire x0).kept = x0.kept := by
  unfold State.wdtExpire
  simp

@[simp] theorem State.letterbox_kept (x0 : State) : (State.letterbox x0).kept = x0.kept := by
  unfold State.letterbox
  simp

@[simp] theorem State.ringBell_kept (x0 : State) (x1 : Nat) (x2 : Nat) (x3 : Nat) : (State.ringBell x0 x1 x2 x3).kept = x0.kept := by
  unfold State.ringBell
  split <;> simp

@[simp] theorem State.msixMask_kept (x0 : State) (x1 : Nat) (x2 : Bool) : (State.msixMask x0 x1 x2).kept = x0.kept := by
  unfold State.msixMask
  simp

@[simp] theorem State.modTimeout_kept (x0 : State) (x1 : Nat) : (State.modTimeout x0 x1).kept = x0.kept := by
  unfold State.modTimeout
  simp

@[simp] theorem State.ringRegWrite_kept (x0 : State) (x1 : Nat) (x2 : Nat) (x3 : Nat) (x4 : Nat) : (State.ringRegWrite x0 x1 x2 x3 x4).kept = x0.kept := by
  unfold State.ringRegWrite
  split <;> simp

@[simp] theorem State.msixTabWrite_kept (x0 : State) (x1 : Nat) (x2 : Nat) (x3 : Nat) : (State.msixTabWrite x0 x1 x2 x3).kept = x0.kept := by
  unfold State.msixTabWrite
  split <;> simp

@[simp] theorem State.barWrite_kept (x0 : State) (x1 : Nat) (x2 : Word) : (State.barWrite x0 x1 x2).kept = x0.kept := by
  unfold State.barWrite
  simp

/-! Plant.lean -/

@[simp] theorem State.classDefaults_kept (x0 : State) : (State.classDefaults x0).kept = x0.kept := by
  unfold State.classDefaults
  simp

@[simp] theorem State.clearC_kept (x0 : State) : (State.clearC x0).kept = x0.kept := by
  unfold State.clearC
  simp

@[simp] theorem State.mirrorParts_kept (x0 : State) : (State.mirrorParts x0).kept = x0.kept := by
  unfold State.mirrorParts
  simp

@[simp] theorem State.candidate_kept (x0 : State) (x1 : Plant) (x2 : Nat) : (State.candidate x0 x1 x2).kept = x0.kept := by
  unfold State.candidate
  dsimp only
  refine (forL_kept _ _ _ fun e t => ?_).trans (by simp)
  split
  · split <;> simp
  · rfl

@[simp] theorem State.pdReport_kept (x0 : State) (x1 : PdFault) : (State.pdReport x0 x1).kept = x0.kept := by
  unfold State.pdReport
  simp

@[simp] theorem State.lanePublish_kept (x0 : State) : (State.lanePublish x0).kept = x0.kept := by
  unfold State.lanePublish
  simp

@[simp] theorem State.freshDrives_kept (x0 x1 : State) (x2 : List Nat) :
    (State.freshDrives x0 x1 x2).kept = x0.kept := by
  unfold State.freshDrives
  simp

@[simp] theorem State.configureUnits_kept (x0 x1 : State) : (State.configureUnits x0 x1).kept = x0.kept := by
  unfold State.configureUnits
  dsimp only
  refine (forN_kept _ _ _ fun a t => by simp).trans ?_
  refine (State.stageConfigure_kept _).trans ?_
  refine (forN_kept _ _ _ fun a t => by simp).trans ?_
  exact forN_kept _ _ _ fun a t => by simp

@[simp] theorem State.armPoints_kept (x0 : State) (x1 : List Nat) : (State.armPoints x0 x1).kept = x0.kept := by
  unfold State.armPoints
  dsimp only
  rw [forL_kept _ _ _ (fun e t => foldl_kept _ _ _ fun u a => by simp), forN_kept _ _ _ (fun e t => by simp),
    forL_kept _ _ _ (fun e t => by simp)]

@[simp] theorem State.activateUnits_kept (x0 x1 : State) (x2 : List Nat) : (State.activateUnits x0 x1 x2).kept = x0.kept := by
  unfold State.activateUnits
  simp

@[simp] theorem State.activatePoints_kept (x0 : State) (x1 : List Nat) : (State.activatePoints x0 x1).kept = x0.kept := by
  unfold State.activatePoints
  simp

@[simp] theorem State.activateLinks_kept (x0 : State) (x1 : List Nat) : (State.activateLinks x0 x1).kept = x0.kept := by
  unfold State.activateLinks
  simp

theorem State.validate_kept (s t : State) (bs : List Byte) (n : Nat) (k : Nat → Bool) (h : State.validate s bs n k = .ok t) :
    t.kept = s.kept := by
  unfold State.validate at h
  split at h
  · cases h
  · split at h
    · cases h
    · dsimp only at h
      split at h
      · cases h
      · cases h; simp

@[simp] theorem State.activate_kept (x0 x1 : State) (x2 : List Byte) : (State.activate x0 x1 x2).kept = x1.kept := by
  unfold State.activate
  simp

@[simp] theorem State.pdDone_kept (x0 : State) : (State.pdDone x0).kept = x0.kept := by
  unfold State.pdDone
  split
  · rfl
  · next bs n hl =>
    extract_lets d s1 done
    have hd : ∀ t a b, (done t a b).kept = t.kept := fun t a b => rfl
    have h1 : s1.kept = x0.kept := by cases x0; rfl
    clear_value done s1
    split
    · rw [hd, h1]
    · split
      · next h => rw [hd, State.activate_kept, State.validate_kept _ _ _ _ _ h, h1]
      · rw [hd, State.pdReport_kept, h1]

/-! Replay.lean -/

@[simp] theorem State.replaySlot_kept (x0 : State) (x1 : Nat) (x2 : Nat) (x3 : List Byte) : (State.replaySlot x0 x1 x2 x3).kept = x0.kept := by
  unfold State.replaySlot
  simp

@[simp] theorem State.replaySlots_kept (x0 : Nat) (x1 : List Nat) (x2 : List Byte) (x3 : State) :
    (State.replaySlots x0 x1 x2 x3).kept = x3.kept := by
  induction x1 generalizing x2 x3 with
  | nil => rfl
  | cons p ps ih => unfold State.replaySlots; rw [ih]; simp

@[simp] theorem State.replayRound_kept (x0 : State) (x1 : Nat) (x2 : List Byte) : (State.replayRound x0 x1 x2).kept = x0.kept := by
  unfold State.replayRound
  simp

@[simp] theorem State.replayFb_kept (x0 : State) (x1 : List Nat) : (State.replayFb x0 x1).kept = x0.kept := by
  unfold State.replayFb
  simp

@[simp] theorem State.replayFrame_kept (x0 : State) (x1 : Nat) (x2 : RxFrame) : (State.replayFrame x0 x1 x2).kept = x0.kept := by
  unfold State.replayFrame
  simp

@[simp] theorem State.replayDevice_kept (x0 : State) (x1 : List Nat) : (State.replayDevice x0 x1).kept = x0.kept := by
  unfold State.replayDevice
  dsimp only
  split
  · rw [State.agentReturn_kept]; exact State.withDev_kept_of (by simp) rfl rfl
  · exact State.withDev_kept_of (by simp) rfl rfl

@[simp] theorem State.replaySection_kept (x0 : State) (x1 : InSec) : (State.replaySection x0 x1).kept = x0.kept := by
  unfold State.replaySection
  split <;> simp

@[simp] theorem State.modeShown_kept (x0 : State) (x1 : Nat) (x2 : Nat) : (State.modeShown x0 x1 x2).kept = x0.kept := by
  unfold State.modeShown
  simp

@[simp] theorem State.replayWrite_kept (x0 : State) (x1 : Nat) (x2 : Pt) (x3 : Word) : (State.replayWrite x0 x1 x2 x3).kept = x0.kept := by
  unfold State.replayWrite
  simp

@[simp] theorem State.replayCommands_kept (x0 : State) (x1 : Nat) (x2 : List Applied) : (State.replayCommands x0 x1 x2).kept = x0.kept := by
  unfold State.replayCommands
  rw [State.newLimits_kept]
  refine (forL_kept _ _ _ fun a t => ?_).trans (by simp)
  split <;> simp

@[simp] theorem State.computeEpoch_kept (x0 : State) : (State.computeEpoch x0).kept = x0.kept := by
  unfold State.computeEpoch
  simp

@[simp] theorem State.clearInputs_kept (x0 : State) : (State.clearInputs x0).kept = x0.kept := by
  unfold State.clearInputs
  simp

@[simp] theorem State.replayCompute_kept (x0 : State) (x1 : MailRec) : (State.replayCompute x0 x1).kept = x0.kept := by
  unfold State.replayCompute
  extract_lets a s0 s1 s2 s3 s4 b s5
  have h1 : s1.kept = s0.kept := by simp only [s1]; split <;> simp
  have h2 : s2.kept = s0.kept := by simp only [s2]; simp [h1]
  have h3 : s3.kept = s0.kept := by simp only [s3]; simp [h2]
  have h0 : s0.kept = (x0.pending, x0.dev.permit, x0.hw.keys, x0.hw.posB, x0.dev.powered, x1.epoch, x0.clk.phase, x0.led) := by
    simp only [s0, State.clearInputs_kept, State.putN_kept, State.withRnds_kept, State.withClk_kept, a]
  rw [h0] at h3
  clear_value s3
  have h4 : s4.kept = x0.kept := by
    simp only [State.kept, Prod.mk.injEq] at h3
    have hs : s4.kept = (s3.pending, x0.dev.permit, s3.hw.keys, s3.hw.posB, x0.dev.powered, x0.clk.epoch, x0.clk.phase, s3.led) := rfl
    rw [hs, h3.1, h3.2.2.1, h3.2.2.2.1, h3.2.2.2.2.2.2.2]
    rfl
  simp only [s5]
  simp [h4]

@[simp] theorem State.diverged_kept (x0 : State) (x1 : MailRec) (x2 : List Nat) : (State.diverged x0 x1 x2).kept = x0.kept := by
  unfold State.diverged
  simp

@[simp] theorem State.feedTake_kept (x0 : State) (x1 : List MailRec) : (State.feedTake x0 x1).kept = x0.kept := by
  unfold State.feedTake
  simp

@[simp] theorem State.feedsDone_kept (x0 : State) : (State.feedsDone x0).kept = x0.kept := by
  unfold State.feedsDone
  simp

@[simp] theorem State.replayNext_kept (x0 : Nat) (x1 : State) : (State.replayNext x0 x1).kept = x1.kept := by
  induction x0 generalizing x1 with
  | zero => rfl
  | succ n ih =>
    unfold State.replayNext
    dsimp only
    split
    · rfl
    · split
      · split
        · rw [ih]; simp
        · rfl
      · split
        · rw [ih]; simp
        · split <;> simp

@[simp] theorem State.replayDone_kept (x0 : State) : (State.replayDone x0).kept = x0.kept := by
  unfold State.replayDone
  split <;> simp

/-! Pair.lean -/

@[simp] theorem State.roleUnits_kept (x0 : State) : (State.roleUnits x0).kept = x0.kept := by
  unfold State.roleUnits
  simp

@[simp] theorem State.takeRole_kept (x0 : State) (x1 : Nat) : (State.takeRole x0 x1).kept = x0.kept := by
  unfold State.takeRole
  simp

@[simp] theorem State.startCounterfoil_kept (x0 : State) : (State.startCounterfoil x0).kept = x0.kept := by
  unfold State.startCounterfoil
  simp

@[simp] theorem State.startPrincipal_kept (x0 : State) : (State.startPrincipal x0).kept = x0.kept := by
  unfold State.startPrincipal
  simp

@[simp] theorem State.roleDecision_kept (x0 : State) (x1 : Nat) (x2 : Bool) : (State.roleDecision x0 x1 x2).kept = x0.kept := by
  unfold State.roleDecision
  dsimp only
  (split <;> try rfl) <;> (try split) <;> (try split) <;> simp

@[simp] theorem State.joinDone_kept (x0 : State) (x1 : Bool) : (State.joinDone x0 x1).kept = x0.kept := by
  unfold State.joinDone
  simp

@[simp] theorem State.joinPrincipal_kept (x0 : State) (x1 : Nat) : (State.joinPrincipal x0 x1).kept = x0.kept := by
  unfold State.joinPrincipal
  simp

@[simp] theorem State.frameShows_kept (x0 : State) (x1 : Nat) (x2 : Frame) : (State.frameShows x0 x1 x2).kept = x0.kept := by
  unfold State.frameShows
  simp

@[simp] theorem State.stream_kept (x0 : State) (x1 : List (RoundNo × Frame)) : (State.stream x0 x1).kept = x0.kept := by
  unfold State.stream
  simp

@[simp] theorem State.relayed_kept (x0 : State) (x1 : Nat) (x2 : End) (x3 : Relay) (x4 : Nat) : (State.relayed x0 x1 x2 x3 x4).kept = x0.kept := by
  unfold State.relayed
  split <;> simp

@[simp] theorem State.applyFwd_kept (x0 : State) (x1 : Cmd) : (State.applyFwd x0 x1).kept = x0.kept := by
  unfold State.applyFwd
  simp

@[simp] theorem State.applyForwarded_kept (x0 : State) (x1 : Cmd → Bool) : (State.applyForwarded x0 x1).kept = x0.kept := by
  unfold State.applyForwarded
  simp

@[simp] theorem State.pairOffsets_kept (x0 x1 : State) : (State.pairOffsets x0 x1).kept = x0.kept := by
  unfold State.pairOffsets
  refine forL_kept _ _ _ fun a t => ?_
  dsimp only
  split <;> simp

@[simp] theorem State.verdicts_kept (x0 : State) (x1 : List (Nat × Bool × Bool)) : (State.verdicts x0 x1).kept = x0.kept := by
  unfold State.verdicts
  simp

@[simp] theorem State.feedInputs_kept (x0 : State) (x1 : PairInput) : (State.feedInputs x0 x1).kept = x0.kept := by
  unfold State.feedInputs
  extract_lets s1 s2 lost a s3
  have h2 : s2.kept = x0.kept := by simp only [s2, s1]; simp
  have h3 : s3.kept = x0.kept := by
    rw [← h2]; exact State.withDev_kept_of rfl rfl rfl
  clear_value s3
  split <;> simp [h3]

@[simp] theorem State.computeFed_kept (x0 : State) (x1 : PairInput) : (State.computeFed x0 x1).kept = x0.kept := by
  unfold State.computeFed
  simp

@[simp] theorem State.keepInput_kept (x0 : State) (x1 : PairInput) : (State.keepInput x0 x1).kept = x0.kept := by
  unfold State.keepInput
  simp

@[simp] theorem State.catchOne_kept (x0 : State) : (State.catchOne x0).kept = x0.kept := by
  unfold State.catchOne
  split
  · rfl
  · next m ms _ =>
    extract_lets p s0 t0 a s1
    have h1 : s1.kept = (x0.pending, x0.dev.permit, x0.hw.keys, x0.hw.posB, x0.dev.powered, m.epoch, x0.clk.phase, x0.led) := by
      simp only [s1, State.computeFed_kept, State.withClk_kept, a]
      rfl
    have h2 : (s1.withClk x0.clk).kept = x0.kept := by
      simp only [State.kept, Prod.mk.injEq] at h1
      simp only [State.withClk_kept, h1]
      rfl
    split <;> simp only [State.withRnds_kept, h2]

@[simp] theorem State.inputMessage_kept (x0 : State) (x1 : PairInput) : (State.inputMessage x0 x1).kept = x0.kept := by
  unfold State.inputMessage
  simp

@[simp] theorem State.hashMatch_kept (x0 : State) : (State.hashMatch x0).kept = x0.kept := by
  unfold State.hashMatch
  simp

@[simp] theorem State.hashMismatch_kept (x0 : State) (x1 : Nat) : (State.hashMismatch x0 x1).kept = x0.kept := by
  unfold State.hashMismatch
  simp

@[simp] theorem State.hashCompare_kept (x0 : State) : (State.hashCompare x0).kept = x0.kept := by
  unfold State.hashCompare
  split <;> simp

@[simp] theorem State.hashSend_kept (x0 : State) : (State.hashSend x0).kept = x0.kept := by
  unfold State.hashSend
  simp

@[simp] theorem State.demote_kept (x0 : State) : (State.demote x0).kept = x0.kept := by
  unfold State.demote
  simp

@[simp] theorem State.mirrorMode_kept (x0 : State) (x1 : Nat) : (State.mirrorMode x0 x1).kept = x0.kept := by
  unfold State.mirrorMode
  simp

@[simp] theorem State.hashMessage_kept (x0 : State) (x1 : Nat) (x2 : Nat) (x3 : Nat) (x4 : Nat) : (State.hashMessage x0 x1 x2 x3 x4).kept = x0.kept := by
  unfold State.hashMessage
  dsimp only
  split <;> simp

@[simp] theorem State.linkLose_kept (x0 : State) : (State.linkLose x0).kept = x0.kept := by
  unfold State.linkLose
  simp

@[simp] theorem State.stateEnvelope_kept (x0 : State) (x1 : Nat) (x2 : Bool) (x3 : List (Pt × Word)) (x4 : LaneImage) : (State.stateEnvelope x0 x1 x2 x3 x4).kept = x0.kept := by
  unfold State.stateEnvelope
  simp

@[simp] theorem State.transferDone_kept (x0 : State) (x1 : Nat) (x2 : List (Pt × Word)) (x3 : LaneImage) : (State.transferDone x0 x1 x2 x3).kept = x0.kept := by
  unfold State.transferDone
  simp

@[simp] theorem State.surrenderHeard_kept (x0 : State) (x1 : Nat) (x2 : Bool) : (State.surrenderHeard x0 x1 x2).kept = x0.kept := by
  unfold State.surrenderHeard
  (split <;> try simp) <;> split <;> simp

@[simp] theorem State.breakOther_kept (x0 : State) (x1 : Nat) : (State.breakOther x0 x1).kept = x0.kept := by
  unfold State.breakOther
  simp

@[simp] theorem State.keepPositions_kept (x0 : State) : (State.keepPositions x0).kept = x0.kept := by
  unfold State.keepPositions
  simp

@[simp] theorem State.startState_kept (x0 : State) : (State.startState x0).kept = x0.kept := by
  unfold State.startState
  (split <;> try simp) <;> split <;> simp

@[simp] theorem State.takeover_kept (x0 : State) (x1 : Nat) (x2 : Bool) (x3 : Nat) : (State.takeover x0 x1 x2 x3).kept = x0.kept := by
  unfold State.takeover
  extract_lets seen cold s0 s1 p s2 s3 q s4 s5
  have h2 : s2.kept = x0.kept := by simp only [s2, s1, s0]; simp
  clear_value s2
  have h3 : s3.kept = x0.kept := by
    simp only [s3]; rw [State.takeRole_kept]; split <;> simp [h2]
  clear_value s3
  have h4 : s4.kept = x0.kept := by
    have hq : (if x2 then s3.pubEligible else s3.setProt 2).kept = x0.kept := by split <;> simp [h3]
    rw [← hq]
    have hk := hq.trans h3.symm
    simp only [State.kept, Prod.mk.injEq] at hk
    exact State.withDev_kept_of rfl hk.2.1.symm hk.2.2.2.2.1.symm
  clear_value s4
  simp only [s5]
  simp [h4]

@[simp] theorem State.blindWatch_kept (x0 : State) : (State.blindWatch x0).kept = x0.kept := by
  unfold State.blindWatch
  simp

@[simp] theorem State.judgeTakeover_kept (x0 : State) : (State.judgeTakeover x0).kept = x0.kept := by
  unfold State.judgeTakeover
  (split <;> try simp) <;> split <;> simp

@[simp] theorem State.handoverCancel_kept (x0 : State) : (State.handoverCancel x0).kept = x0.kept := by
  unfold State.handoverCancel
  simp

@[simp] theorem State.handoverDone_kept (x0 : State) : (State.handoverDone x0).kept = x0.kept := by
  unfold State.handoverDone
  simp

@[simp] theorem State.handoverBoundary_kept (x0 : State) : (State.handoverBoundary x0).kept = x0.kept := by
  unfold State.handoverBoundary
  split <;> simp

@[simp] theorem State.pairBoundary_kept (x0 : State) : (State.pairBoundary x0).kept = x0.kept := by
  unfold State.pairBoundary
  dsimp only
  split <;> first | with_reducible rfl | (simp; done) | (split <;> first | with_reducible rfl | (simp; done) | (split <;> first | with_reducible rfl | (simp; done) | (split <;> simp <;> done)))

@[simp] theorem State.holdArms_kept (x0 : State) : (State.holdArms x0).kept = x0.kept := by
  unfold State.holdArms
  simp

@[simp] theorem State.observe_kept (x0 : State) (x1 : Nat) : (State.observe x0 x1).kept = x0.kept := by
  unfold State.observe
  simp

@[simp] theorem State.observeAll_kept (x0 : State) : (State.observeAll x0).kept = x0.kept := by
  unfold State.observeAll
  simp

@[simp] theorem State.warmResume_kept (x0 : State) : (State.warmResume x0).kept = x0.kept := by
  unfold State.warmResume
  split <;> simp

@[simp] theorem State.insertReleased_kept (x0 : State) : (State.insertReleased x0).kept = x0.kept := by
  unfold State.insertReleased
  simp

/-! Boot.lean -/

@[simp] theorem State.outputsOff_kept (x0 : State) : (State.outputsOff x0).kept = x0.kept := by
  unfold State.outputsOff
  simp

@[simp] theorem State.testFailed_kept (x0 : State) (x1 : TestUnit) : (State.testFailed x0 x1).kept = x0.kept := by
  unfold State.testFailed
  dsimp only
  split <;> simp

@[simp] theorem State.imagePoints_kept (x0 : State) : (State.imagePoints x0).kept = x0.kept := by
  unfold State.imagePoints
  simp

@[simp] theorem State.envStart_kept (x0 : State) : (State.envStart x0).kept = x0.kept := by
  unfold State.envStart
  simp

@[simp] theorem State.firmware_kept (x0 : State) (x1 : Bool) (x2 : Bool) (x3 : List TestUnit) : (State.firmware x0 x1 x2 x3).kept = x0.kept := by
  unfold State.firmware
  simp

@[simp] theorem State.resetSupCores_kept (x0 : State) : (State.resetSupCores x0).kept = x0.kept := by
  unfold State.resetSupCores
  simp

@[simp] theorem State.supExpire_kept (x0 : State) : (State.supExpire x0).kept = x0.kept := by
  unfold State.supExpire
  simp

@[simp] theorem State.supRestart_kept (x0 : State) : (State.supRestart x0).kept = x0.kept := by
  unfold State.supRestart
  simp

/-! Epoch.lean -/

@[simp] theorem State.tokenJudge_kept (x0 : State) (x1 : Bool) : (State.tokenJudge x0 x1).kept = x0.kept := by
  unfold State.tokenJudge
  simp

@[simp] theorem State.departures_kept (x0 : State) : (State.departures x0).kept = x0.kept := by
  unfold State.departures
  simp

@[simp] theorem State.countRound_kept (x0 : State) (x1 : Nat) : (State.countRound x0 x1).kept = x0.kept := by
  unfold State.countRound
  simp

@[simp] theorem State.freshRound_kept (x0 : State) (x1 : Nat) : (State.freshRound x0 x1).kept = x0.kept := by
  unfold State.freshRound
  simp

@[simp] theorem State.officeEpoch_kept (x0 : State) : (State.officeEpoch x0).kept = x0.kept := by
  unfold State.officeEpoch
  simp

@[simp] theorem State.freshEpoch_kept (x0 : State) : (State.freshEpoch x0).kept = x0.kept := by
  unfold State.freshEpoch
  simp

@[simp] theorem State.haltAfterWdt_kept (x0 : State) : (State.haltAfterWdt x0).kept = x0.kept := by
  unfold State.haltAfterWdt
  simp

@[simp] theorem State.linkupsBegun_kept (x0 : State) : (State.linkupsBegun x0).kept = x0.kept := by
  unfold State.linkupsBegun
  simp

@[simp] theorem State.sampleAll_kept (x0 : State) (x1 : Samples) : (State.sampleAll x0 x1).kept = x0.kept := by
  unfold State.sampleAll
  simp

@[simp] theorem State.timePublish_kept (x0 : State) : (State.timePublish x0).kept = x0.kept := by
  unfold State.timePublish
  simp

@[simp] theorem State.sendInputs_kept (x0 : State) : (State.sendInputs x0).kept = x0.kept := by
  unfold State.sendInputs
  simp

@[simp] theorem State.applyAll_kept (x0 : State) : (State.applyAll x0).kept = x0.kept := by
  unfold State.applyAll
  dsimp only
  split <;> simp

@[simp] theorem State.lanesStep_kept (x0 : State) : (State.lanesStep x0).kept = x0.kept := by
  unfold State.lanesStep
  simp

@[simp] theorem State.takeInputs_kept (x0 : State) : (State.takeInputs x0).kept = x0.kept := by
  unfold State.takeInputs
  simp

@[simp] theorem State.rxDone_kept (x0 : State) : (State.rxDone x0).kept = x0.kept := by
  unfold State.rxDone
  simp

@[simp] theorem State.cutoffOwn_kept (x0 : State) : (State.cutoffOwn x0).kept = x0.kept := by
  unfold State.cutoffOwn
  simp

@[simp] theorem State.cutoffFollow_kept (x0 : State) : (State.cutoffFollow x0).kept = x0.kept := by
  unfold State.cutoffFollow
  simp

@[simp] theorem State.canSends_kept (x0 : State) : (State.canSends x0).kept = x0.kept := by
  unfold State.canSends
  simp

@[simp] theorem State.warmSend_kept (x0 : State) : (State.warmSend x0).kept = x0.kept := by
  unfold State.warmSend
  simp

@[simp] theorem State.afterCommit_kept (x0 : State) : (State.afterCommit x0).kept = x0.kept := by
  unfold State.afterCommit
  simp

end Sys2Proof.Machine
end

