-- ==== Sys2Proof/Laws/Kept5.lean ====
section
/-!
SUPPORT. Laws/Kept5.lean: what `State.kept` lists is left alone by every command but the nine that give, step or lose it.
-/
namespace Sys2Proof.Machine

@[simp] theorem State.command_kept (s : State) (f : Field) (d v : Nat) (ok : Bool) (eff : State → State)
    (h : ∀ t, (eff t).kept = t.kept) : (s.command f d v ok eff).kept = s.kept := by
  unfold State.command
  split <;> simp [h]

theorem State.ssiDiff_kept (s : State) (n a b : Nat) : (s.ssiDiff n a b).2.kept = s.kept := by
  simp only [State.ssiDiff, State.drawWord_eq]
  (repeat' split) <;> simp

theorem execPerstRelease_kept {s t : State} (h : execPerstRelease s = .next t) : t.kept = s.kept := by
  unfold execPerstRelease at h
  cases h
  simp

theorem execHaltComplete_kept {s t : State} (h : execHaltComplete s = .next t) : t.kept = s.kept := by
  unfold execHaltComplete at h
  cases h
  simp

theorem execHaltTimeout_kept {s t : State} (h : execHaltTimeout s = .next t) : t.kept = s.kept := by
  unfold execHaltTimeout at h
  cases h
  simp

theorem execEnvelopeSealed_kept {x0 x1 x2} {s t : State} (h : execEnvelopeSealed x0 x1 x2 s = .next t) : t.kept = s.kept := by
  unfold execEnvelopeSealed at h
  cases h
  simp

theorem execUpstreamSlot_kept {x0 x1 x2 x3 x4} {s t : State} (h : execUpstreamSlot x0 x1 x2 x3 x4 s = .next t) : t.kept = s.kept := by
  unfold execUpstreamSlot at h
  cases h
  simp

theorem execUpstreamClosure_kept {x0 x1 x2} {s t : State} (h : execUpstreamClosure x0 x1 x2 s = .next t) : t.kept = s.kept := by
  unfold execUpstreamClosure at h
  cases h
  simp

theorem execSlowResp_kept {x0 x1 x2 x3 x4} {s t : State} (h : execSlowResp x0 x1 x2 x3 x4 s = .next t) : t.kept = s.kept := by
  unfold execSlowResp at h
  cases h
  simp

theorem execSlowTimeout_kept {x0} {s t : State} (h : execSlowTimeout x0 s = .next t) : t.kept = s.kept := by
  unfold execSlowTimeout at h
  cases h
  simp

theorem execReport_kept {x0 x1 x2 x3} {s t : State} (h : execReport x0 x1 x2 x3 s = .next t) : t.kept = s.kept := by
  unfold execReport at h
  cases h
  simp

theorem execEchoRet_kept {x0 x1 x2 x3} {s t : State} (h : execEchoRet x0 x1 x2 x3 s = .next t) : t.kept = s.kept := by
  unfold execEchoRet at h
  cases h
  simp

theorem execBreakBlock_kept {x0 x1 x2 x3} {s t : State} (h : execBreakBlock x0 x1 x2 x3 s = .next t) : t.kept = s.kept := by
  unfold execBreakBlock at h
  cases h
  simp

theorem execEndLockLost_kept {x0 x1} {s t : State} (h : execEndLockLost x0 x1 s = .next t) : t.kept = s.kept := by
  unfold execEndLockLost at h
  cases h
  simp

theorem execRoundRestored_kept {x0} {s t : State} (h : execRoundRestored x0 s = .next t) : t.kept = s.kept := by
  unfold execRoundRestored at h
  cases h
  simp

theorem execLateRoundExit_kept {x0} {s t : State} (h : execLateRoundExit x0 s = .next t) : t.kept = s.kept := by
  unfold execLateRoundExit at h
  cases h
  simp

theorem execCellLost_kept {x0} {s t : State} (h : execCellLost x0 s = .next t) : t.kept = s.kept := by
  unfold execCellLost at h
  cases h
  simp

theorem execSegmentLaneUp_kept {x0 x1 x2} {s t : State} (h : execSegmentLaneUp x0 x1 x2 s = .next t) : t.kept = s.kept := by
  unfold execSegmentLaneUp at h
  cases h
  simp

theorem execLinkupStepComplete_kept {x0} {s t : State} (h : execLinkupStepComplete x0 s = .next t) : t.kept = s.kept := by
  unfold execLinkupStepComplete at h
  cases h
  simp

theorem execRoundLinkupFail_kept {x0} {s t : State} (h : execRoundLinkupFail x0 s = .next t) : t.kept = s.kept := by
  unfold execRoundLinkupFail at h
  cases h
  simp

theorem execRoundChargeTimeout_kept {x0} {s t : State} (h : execRoundChargeTimeout x0 s = .next t) : t.kept = s.kept := by
  unfold execRoundChargeTimeout at h
  cases h
  simp

theorem execBypassNotConfirmed_kept {x0} {s t : State} (h : execBypassNotConfirmed x0 s = .next t) : t.kept = s.kept := by
  unfold execBypassNotConfirmed at h
  cases h
  dsimp only
  (repeat' split) <;> simp

theorem execSkipLimp_kept {x0} {s t : State} (h : execSkipLimp x0 s = .next t) : t.kept = s.kept := by
  unfold execSkipLimp at h
  cases h
  simp

theorem execSkipHalt_kept {x0} {s t : State} (h : execSkipHalt x0 s = .next t) : t.kept = s.kept := by
  unfold execSkipHalt at h
  cases h
  simp

theorem execSkipFault_kept {x0} {s t : State} (h : execSkipFault x0 s = .next t) : t.kept = s.kept := by
  unfold execSkipFault at h
  cases h
  simp

theorem execLimpSkipClear_kept {x0} {s t : State} (h : execLimpSkipClear x0 s = .next t) : t.kept = s.kept := by
  unfold execLimpSkipClear at h
  cases h
  simp

theorem execShockCleared_kept {x0} {s t : State} (h : execShockCleared x0 s = .next t) : t.kept = s.kept := by
  unfold execShockCleared at h
  cases h
  dsimp only
  (repeat' split) <;> simp

theorem execHoldExpired_kept {x0} {s t : State} (h : execHoldExpired x0 s = .next t) : t.kept = s.kept := by
  unfold execHoldExpired at h
  cases h
  split <;> simp

theorem execHaltStopReached_kept {x0} {s t : State} (h : execHaltStopReached x0 s = .next t) : t.kept = s.kept := by
  unfold execHaltStopReached at h
  cases h
  split <;> simp

theorem execCrashWindmill_kept {x0} {s t : State} (h : execCrashWindmill x0 s = .next t) : t.kept = s.kept := by
  unfold execCrashWindmill at h
  cases h
  dsimp only
  (repeat' split) <;> simp

theorem execReleaseArmExpired_kept {x0} {s t : State} (h : execReleaseArmExpired x0 s = .next t) : t.kept = s.kept := by
  unfold execReleaseArmExpired at h
  cases h
  simp

theorem execBrakeLiftElapsed_kept {x0} {s t : State} (h : execBrakeLiftElapsed x0 s = .next t) : t.kept = s.kept := by
  unfold execBrakeLiftElapsed at h
  cases h
  simp

theorem execReleaseEndSequence_kept {x0} {s t : State} (h : execReleaseEndSequence x0 s = .next t) : t.kept = s.kept := by
  unfold execReleaseEndSequence at h
  cases h
  dsimp only
  (repeat' split) <;> simp

theorem execSlackRope_kept {x0} {s t : State} (h : execSlackRope x0 s = .next t) : t.kept = s.kept := by
  unfold execSlackRope at h
  cases h
  dsimp only
  (repeat' split) <;> simp

theorem execShaftDecoupled_kept {x0} {s t : State} (h : execShaftDecoupled x0 s = .next t) : t.kept = s.kept := by
  unfold execShaftDecoupled at h
  cases h
  (repeat' split) <;> simp [State.judgeCause_kept]

theorem execHostHoldExpired_kept {x0} {s t : State} (h : execHostHoldExpired x0 s = .next t) : t.kept = s.kept := by
  unfold execHostHoldExpired at h
  cases h
  simp

theorem execIdentStepDone_kept {x0 x1 x2} {s t : State} (h : execIdentStepDone x0 x1 x2 s = .next t) : t.kept = s.kept := by
  unfold execIdentStepDone at h
  cases h
  simp

theorem execLineRideExpired_kept {x0} {s t : State} (h : execLineRideExpired x0 s = .next t) : t.kept = s.kept := by
  unfold execLineRideExpired at h
  cases h
  (repeat' split) <;> simp [State.judgeCause_kept]

theorem execWritePoints_kept {x0 x1 x2 x3} {s t : State} (h : execWritePoints x0 x1 x2 x3 s = .next t) : t.kept = s.kept := by
  unfold execWritePoints at h
  cases h
  simp

theorem execWriteMasked_kept {x0 x1 x2 x3} {s t : State} (h : execWriteMasked x0 x1 x2 x3 s = .next t) : t.kept = s.kept := by
  unfold execWriteMasked at h
  cases h
  simp

theorem execReadPoints_kept {x0 x1 x2 x3 x4} {s t : State} (h : execReadPoints x0 x1 x2 x3 x4 s = .next t) : t.kept = s.kept := by
  unfold execReadPoints at h
  cases h
  simp

theorem execNop_kept {x0 x1 x2} {s t : State} (h : execNop x0 x1 x2 s = .next t) : t.kept = s.kept := by
  unfold execNop at h
  cases h
  simp

theorem execCancel_kept {x0 x1 x2 x3 x4} {s t : State} (h : execCancel x0 x1 x2 x3 x4 s = .next t) : t.kept = s.kept := by
  unfold execCancel at h
  cases h
  simp

theorem execSubscribeP_kept {x0 x1 x2 x3} {s t : State} (h : execSubscribeP x0 x1 x2 x3 s = .next t) : t.kept = s.kept := by
  unfold execSubscribeP at h
  cases h
  simp

theorem execUnsubscribeP_kept {x0 x1 x2 x3} {s t : State} (h : execUnsubscribeP x0 x1 x2 x3 s = .next t) : t.kept = s.kept := by
  unfold execUnsubscribeP at h
  cases h
  simp

theorem execSetM_kept {x0 x1 x2 x3} {s t : State} (h : execSetM x0 x1 x2 x3 s = .next t) : t.kept = s.kept := by
  unfold execSetM at h
  cases h
  simp

theorem execRequestF_kept {x0 x1 x2} {s t : State} (h : execRequestF x0 x1 x2 s = .next t) : t.kept = s.kept := by
  unfold execRequestF at h
  cases h
  simp

theorem execEnvPolicy_kept {x0 x1 x2 x3 x4} {s t : State} (h : execEnvPolicy x0 x1 x2 x3 x4 s = .next t) : t.kept = s.kept := by
  unfold execEnvPolicy at h
  cases h
  simp

theorem execLoadPd_kept {x0 x1 x2 x3 x4} {s t : State} (h : execLoadPd x0 x1 x2 x3 x4 s = .next t) : t.kept = s.kept := by
  unfold execLoadPd at h
  cases h
  simp

theorem execPdValidationDone_kept {s t : State} (h : execPdValidationDone s = .next t) : t.kept = s.kept := by
  unfold execPdValidationDone at h
  cases h
  simp

theorem execRoundLinkup_kept {x0 x1 x2 x3} {s t : State} (h : execRoundLinkup x0 x1 x2 x3 s = .next t) : t.kept = s.kept := by
  unfold execRoundLinkup at h
  cases h
  simp

theorem execCellBypass_kept {x0 x1 x2 x3 x4} {s t : State} (h : execCellBypass x0 x1 x2 x3 x4 s = .next t) : t.kept = s.kept := by
  unfold execCellBypass at h
  cases h
  simp

theorem execCellGates_kept {x0 x1 x2 x3 x4} {s t : State} (h : execCellGates x0 x1 x2 x3 x4 s = .next t) : t.kept = s.kept := by
  unfold execCellGates at h
  cases h
  simp

theorem execSlowRead_kept {x0 x1 x2 x3 x4 x5} {s t : State} (h : execSlowRead x0 x1 x2 x3 x4 x5 s = .next t) : t.kept = s.kept := by
  unfold execSlowRead at h
  cases h
  simp

theorem execItinLoad_kept {x0 x1 x2 x3 x4} {s t : State} (h : execItinLoad x0 x1 x2 x3 x4 s = .next t) : t.kept = s.kept := by
  unfold execItinLoad at h
  cases h
  simp

theorem execCanRecover_kept {x0 x1 x2 x3} {s t : State} (h : execCanRecover x0 x1 x2 x3 s = .next t) : t.kept = s.kept := by
  unfold execCanRecover at h
  cases h
  simp

theorem execCanAbort_kept {x0 x1 x2 x3 x4} {s t : State} (h : execCanAbort x0 x1 x2 x3 x4 s = .next t) : t.kept = s.kept := by
  unfold execCanAbort at h
  cases h
  simp

theorem execJournalFreeze_kept {x0 x1 x2 x3 x4} {s t : State} (h : execJournalFreeze x0 x1 x2 x3 x4 s = .next t) : t.kept = s.kept := by
  unfold execJournalFreeze at h
  cases h
  simp

theorem execJournalExport_kept {x0 x1 x2 x3 x4} {s t : State} (h : execJournalExport x0 x1 x2 x3 x4 s = .next t) : t.kept = s.kept := by
  unfold execJournalExport at h
  cases h
  simp

theorem execJournalRelease_kept {x0 x1 x2} {s t : State} (h : execJournalRelease x0 x1 x2 s = .next t) : t.kept = s.kept := by
  unfold execJournalRelease at h
  cases h
  simp

theorem execReplayFeed_kept {x0 x1 x2 x3} {s t : State} (h : execReplayFeed x0 x1 x2 x3 s = .next t) : t.kept = s.kept := by
  unfold execReplayFeed at h
  cases h
  simp

theorem execPairHandover_kept {x0 x1 x2} {s t : State} (h : execPairHandover x0 x1 x2 s = .next t) : t.kept = s.kept := by
  unfold execPairHandover at h
  cases h
  simp

theorem execPairResync_kept {x0 x1 x2} {s t : State} (h : execPairResync x0 x1 x2 s = .next t) : t.kept = s.kept := by
  unfold execPairResync at h
  cases h
  simp

theorem execFwWrite_kept {x0 x1 x2 x3 x4 x5} {s t : State} (h : execFwWrite x0 x1 x2 x3 x4 x5 s = .next t) : t.kept = s.kept := by
  unfold execFwWrite at h
  cases h
  simp

theorem execFwCommit_kept {x0 x1 x2 x3} {s t : State} (h : execFwCommit x0 x1 x2 x3 s = .next t) : t.kept = s.kept := by
  unfold execFwCommit at h
  cases h
  simp

theorem execAcceptOnRoom_kept {x0 x1} {s t : State} (h : execAcceptOnRoom x0 x1 s = .next t) : t.kept = s.kept := by
  unfold execAcceptOnRoom at h
  cases h
  dsimp only
  (repeat' split) <;> simp

theorem execModeCmdConfigure_kept {s t : State} (h : execModeCmdConfigure s = .next t) : t.kept = s.kept := by
  unfold execModeCmdConfigure at h
  cases h
  simp

theorem execModeCmdReady_kept {s t : State} (h : execModeCmdReady s = .next t) : t.kept = s.kept := by
  unfold execModeCmdReady at h
  cases h
  simp

theorem execModeCmdRun_kept {s t : State} (h : execModeCmdRun s = .next t) : t.kept = s.kept := by
  unfold execModeCmdRun at h
  cases h
  simp

theorem execModeCmdOverride_kept {x0} {s t : State} (h : execModeCmdOverride x0 s = .next t) : t.kept = s.kept := by
  unfold execModeCmdOverride at h
  cases h
  simp

theorem execModeCmdHalt_kept {s t : State} (h : execModeCmdHalt s = .next t) : t.kept = s.kept := by
  unfold execModeCmdHalt at h
  cases h
  simp

theorem execModeCmdDormant_kept {s t : State} (h : execModeCmdDormant s = .next t) : t.kept = s.kept := by
  unfold execModeCmdDormant at h
  cases h
  simp

theorem execModeCmdReplay_kept {s t : State} (h : execModeCmdReplay s = .next t) : t.kept = s.kept := by
  unfold execModeCmdReplay at h
  cases h
  simp

theorem execSleepEffective_kept {x0} {s t : State} (h : execSleepEffective x0 s = .next t) : t.kept = s.kept := by
  unfold execSleepEffective at h
  cases h
  simp

theorem execWake_kept {x0} {s t : State} (h : execWake x0 s = .next t) : t.kept = s.kept := by
  unfold execWake at h
  cases h
  simp

theorem execCanWakePattern_kept {x0} {s t : State} (h : execCanWakePattern x0 s = .next t) : t.kept = s.kept := by
  unfold execCanWakePattern at h
  cases h
  simp

theorem execRunCmdOn_kept {x0} {s t : State} (h : execRunCmdOn x0 s = .next t) : t.kept = s.kept := by
  unfold execRunCmdOn at h
  cases h
  simp

theorem execRunCmdOff_kept {x0} {s t : State} (h : execRunCmdOff x0 s = .next t) : t.kept = s.kept := by
  unfold execRunCmdOff at h
  cases h
  simp

theorem execBlockCmdOn_kept {x0} {s t : State} (h : execBlockCmdOn x0 s = .next t) : t.kept = s.kept := by
  unfold execBlockCmdOn at h
  cases h
  simp

theorem execBlockCmdOff_kept {x0} {s t : State} (h : execBlockCmdOff x0 s = .next t) : t.kept = s.kept := by
  unfold execBlockCmdOff at h
  cases h
  simp

theorem execFaultReset_kept {x0} {s t : State} (h : execFaultReset x0 s = .next t) : t.kept = s.kept := by
  unfold execFaultReset at h
  cases h
  simp

theorem execRenderCmdOn_kept {x0} {s t : State} (h : execRenderCmdOn x0 s = .next t) : t.kept = s.kept := by
  unfold execRenderCmdOn at h
  cases h
  simp

theorem execRenderCmdOff_kept {x0} {s t : State} (h : execRenderCmdOff x0 s = .next t) : t.kept = s.kept := by
  unfold execRenderCmdOff at h
  cases h
  simp

theorem execCrashCmdOn_kept {x0} {s t : State} (h : execCrashCmdOn x0 s = .next t) : t.kept = s.kept := by
  unfold execCrashCmdOn at h
  cases h
  simp

theorem execCrashCmdOff_kept {x0} {s t : State} (h : execCrashCmdOff x0 s = .next t) : t.kept = s.kept := by
  unfold execCrashCmdOff at h
  cases h
  simp

theorem execReleaseArm_kept {x0} {s t : State} (h : execReleaseArm x0 s = .next t) : t.kept = s.kept := by
  unfold execReleaseArm at h
  cases h
  simp

theorem execReleaseRelease_kept {x0} {s t : State} (h : execReleaseRelease x0 s = .next t) : t.kept = s.kept := by
  unfold execReleaseRelease at h
  cases h
  simp

theorem execReleaseEnd_kept {x0} {s t : State} (h : execReleaseEnd x0 s = .next t) : t.kept = s.kept := by
  unfold execReleaseEnd at h
  cases h
  simp

theorem execIdentStart_kept {x0} {s t : State} (h : execIdentStart x0 s = .next t) : t.kept = s.kept := by
  unfold execIdentStart at h
  cases h
  simp

theorem execIdentAbort_kept {x0} {s t : State} (h : execIdentAbort x0 s = .next t) : t.kept = s.kept := by
  unfold execIdentAbort at h
  cases h
  simp

theorem execHostReclaim_kept {x0} {s t : State} (h : execHostReclaim x0 s = .next t) : t.kept = s.kept := by
  unfold execHostReclaim at h
  cases h
  simp

theorem execFbUseWrite_kept {x0 x1} {s t : State} (h : execFbUseWrite x0 x1 s = .next t) : t.kept = s.kept := by
  unfold execFbUseWrite at h
  cases h
  simp

theorem execSetEnableWrite_kept {x0 x1 x2} {s t : State} (h : execSetEnableWrite x0 x1 x2 s = .next t) : t.kept = s.kept := by
  unfold execSetEnableWrite at h
  cases h
  simp

theorem execCtrlModeWrite_kept {x0 x1} {s t : State} (h : execCtrlModeWrite x0 x1 s = .next t) : t.kept = s.kept := by
  unfold execCtrlModeWrite at h
  cases h
  simp

theorem execTimeSet_kept {x0} {s t : State} (h : execTimeSet x0 s = .next t) : t.kept = s.kept := by
  unfold execTimeSet at h
  cases h
  simp

theorem execFbClearCmd_kept {x0} {s t : State} (h : execFbClearCmd x0 s = .next t) : t.kept = s.kept := by
  unfold execFbClearCmd at h
  cases h
  simp

theorem execCmpValueLoad_kept {x0 x1} {s t : State} (h : execCmpValueLoad x0 x1 s = .next t) : t.kept = s.kept := by
  unfold execCmpValueLoad at h
  cases h
  simp

theorem execPtSrcChange_kept {x0 x1} {s t : State} (h : execPtSrcChange x0 x1 s = .next t) : t.kept = s.kept := by
  unfold execPtSrcChange at h
  cases h
  simp

theorem execProfileGo_kept {x0} {s t : State} (h : execProfileGo x0 s = .next t) : t.kept = s.kept := by
  unfold execProfileGo at h
  cases h
  simp

theorem execProfileStop_kept {x0} {s t : State} (h : execProfileStop x0 s = .next t) : t.kept = s.kept := by
  unfold execProfileStop at h
  cases h
  simp

theorem execProfileResume_kept {x0} {s t : State} (h : execProfileResume x0 s = .next t) : t.kept = s.kept := by
  unfold execProfileResume at h
  cases h
  simp

theorem execProfileAbort_kept {x0} {s t : State} (h : execProfileAbort x0 s = .next t) : t.kept = s.kept := by
  unfold execProfileAbort at h
  cases h
  simp

theorem execProfileHome_kept {x0} {s t : State} (h : execProfileHome x0 s = .next t) : t.kept = s.kept := by
  unfold execProfileHome at h
  cases h
  simp

theorem execIssueToken_kept {x0 x1} {s t : State} (h : execIssueToken x0 x1 s = .next t) : t.kept = s.kept := by
  unfold execIssueToken at h
  cases h
  simp

theorem execAuxClearCmd_kept {x0} {s t : State} (h : execAuxClearCmd x0 s = .next t) : t.kept = s.kept := by
  unfold execAuxClearCmd at h
  cases h
  simp

theorem execChopClearCmd_kept {s t : State} (h : execChopClearCmd s = .next t) : t.kept = s.kept := by
  unfold execChopClearCmd at h
  cases h
  simp

theorem execCanTxCmdSend_kept {x0 x1} {s t : State} (h : execCanTxCmdSend x0 x1 s = .next t) : t.kept = s.kept := by
  unfold execCanTxCmdSend at h
  cases h
  simp

theorem execCanTxCmdAbort_kept {x0 x1} {s t : State} (h : execCanTxCmdAbort x0 x1 s = .next t) : t.kept = s.kept := by
  unfold execCanTxCmdAbort at h
  cases h
  simp

theorem execCanModeWrite_kept {x0 x1} {s t : State} (h : execCanModeWrite x0 x1 s = .next t) : t.kept = s.kept := by
  unfold execCanModeWrite at h
  cases h
  simp

theorem execDoWrite_kept {x0 x1} {s t : State} (h : execDoWrite x0 x1 s = .next t) : t.kept = s.kept := by
  unfold execDoWrite at h
  cases h
  simp

theorem execEncPwrModeWrite_kept {x0 x1} {s t : State} (h : execEncPwrModeWrite x0 x1 s = .next t) : t.kept = s.kept := by
  unfold execEncPwrModeWrite at h
  cases h
  simp

theorem execRegisterWrite_kept {x0 x1 x2} {s t : State} (h : execRegisterWrite x0 x1 x2 s = .next t) : t.kept = s.kept := by
  unfold execRegisterWrite at h
  cases h
  split <;> simp

theorem execHostInterfaceReset_kept {s t : State} (h : execHostInterfaceReset s = .next t) : t.kept = s.kept := by
  unfold execHostInterfaceReset at h
  cases h
  simp

theorem execHifReqWrite_kept {x0} {s t : State} (h : execHifReqWrite x0 s = .next t) : t.kept = s.kept := by
  unfold execHifReqWrite at h
  cases h
  simp

theorem execRingEnable_kept {x0 x1 x2} {s t : State} (h : execRingEnable x0 x1 x2 s = .next t) : t.kept = s.kept := by
  unfold execRingEnable at h
  cases h
  simp

theorem execRingDisable_kept {x0 x1} {s t : State} (h : execRingDisable x0 x1 s = .next t) : t.kept = s.kept := by
  unfold execRingDisable at h
  cases h
  simp

theorem execWdtCtrlWrite_kept {x0} {s t : State} (h : execWdtCtrlWrite x0 s = .next t) : t.kept = s.kept := by
  unfold execWdtCtrlWrite at h
  cases h
  simp

theorem execDoorbell_kept {x0 x1 x2} {s t : State} (h : execDoorbell x0 x1 x2 s = .next t) : t.kept = s.kept := by
  unfold execDoorbell at h
  cases h
  split <;> simp

theorem execHeartbeat_kept {s t : State} (h : execHeartbeat s = .next t) : t.kept = s.kept := by
  unfold execHeartbeat at h
  cases h
  simp

theorem execLogicHeartbeat_kept {s t : State} (h : execLogicHeartbeat s = .next t) : t.kept = s.kept := by
  unfold execLogicHeartbeat at h
  cases h
  simp

theorem execHostWdtExpiry_kept {s t : State} (h : execHostWdtExpiry s = .next t) : t.kept = s.kept := by
  unfold execHostWdtExpiry at h
  cases h
  simp

theorem execLinkDown_kept {s t : State} (h : execLinkDown s = .next t) : t.kept = s.kept := by
  unfold execLinkDown at h
  cases h
  simp

theorem execFunctionLevelReset_kept {s t : State} (h : execFunctionLevelReset s = .next t) : t.kept = s.kept := by
  unfold execFunctionLevelReset at h
  cases h
  simp

theorem execMsixUnmask_kept {x0} {s t : State} (h : execMsixUnmask x0 s = .next t) : t.kept = s.kept := by
  unfold execMsixUnmask at h
  cases h
  simp

theorem execModerationTimeout_kept {x0 x1} {s t : State} (h : execModerationTimeout x0 x1 s = .next t) : t.kept = s.kept := by
  unfold execModerationTimeout at h
  cases h
  simp

theorem execSupWdt_kept {s t : State} (h : execSupWdt s = .next t) : t.kept = s.kept := by
  unfold execSupWdt at h
  cases h
  simp

theorem execSupervisorRestarted_kept {s t : State} (h : execSupervisorRestarted s = .next t) : t.kept = s.kept := by
  unfold execSupervisorRestarted at h
  cases h
  simp

theorem execLogicWdt_kept {s t : State} (h : execLogicWdt s = .next t) : t.kept = s.kept := by
  unfold execLogicWdt at h
  cases h
  simp

theorem execStoChange_kept {x0 x1} {s t : State} (h : execStoChange x0 x1 s = .next t) : t.kept = s.kept := by
  unfold execStoChange at h
  cases h
  simp

theorem execStoDiscrepancy_kept {s t : State} (h : execStoDiscrepancy s = .next t) : t.kept = s.kept := by
  unfold execStoDiscrepancy at h
  cases h
  split <;> simp

theorem execD1TickLost_kept {s t : State} (h : execD1TickLost s = .next t) : t.kept = s.kept := by
  unfold execD1TickLost at h
  cases h
  simp

theorem execMemoryError_kept {x0} {s t : State} (h : execMemoryError x0 s = .next t) : t.kept = s.kept := by
  unfold execMemoryError at h
  cases h
  simp

theorem execVctlChange_kept {x0 x1} {s t : State} (h : execVctlChange x0 x1 s = .next t) : t.kept = s.kept := by
  unfold execVctlChange at h
  cases h
  simp

theorem execHoldupExhausted_kept {s t : State} (h : execHoldupExhausted s = .next t) : t.kept = s.kept := by
  unfold execHoldupExhausted at h
  cases h
  simp

theorem execRailFault_kept {x0} {s t : State} (h : execRailFault x0 s = .next t) : t.kept = s.kept := by
  unfold execRailFault at h
  cases h
  simp

theorem execInsertReleased_kept {s t : State} (h : execInsertReleased s = .next t) : t.kept = s.kept := by
  unfold execInsertReleased at h
  cases h
  simp

theorem execInsertClosed_kept {s t : State} (h : execInsertClosed s = .next t) : t.kept = s.kept := by
  unfold execInsertClosed at h
  cases h
  dsimp only
  (repeat' split) <;> simp

theorem execTimeSourceEvent_kept {x0} {s t : State} (h : execTimeSourceEvent x0 s = .next t) : t.kept = s.kept := by
  unfold execTimeSourceEvent at h
  cases h
  simp

theorem execSyncInEdge_kept {x0} {s t : State} (h : execSyncInEdge x0 s = .next t) : t.kept = s.kept := by
  unfold execSyncInEdge at h
  cases h
  simp

theorem execTimeSourceLost_kept {s t : State} (h : execTimeSourceLost s = .next t) : t.kept = s.kept := by
  unfold execTimeSourceLost at h
  cases h
  simp

theorem execFbEdge_kept {x0 x1 x2} {s t : State} (h : execFbEdge x0 x1 x2 s = .next t) : t.kept = s.kept := by
  unfold execFbEdge at h
  cases h
  simp

theorem execComparePulseEnd_kept {x0} {s t : State} (h : execComparePulseEnd x0 s = .next t) : t.kept = s.kept := by
  unfold execComparePulseEnd at h
  cases h
  split <;> simp

theorem execIndexPulse_kept {x0 x1} {s t : State} (h : execIndexPulse x0 x1 s = .next t) : t.kept = s.kept := by
  unfold execIndexPulse at h
  cases h
  simp

theorem execFbWireBreak_kept {x0} {s t : State} (h : execFbWireBreak x0 s = .next t) : t.kept = s.kept := by
  unfold execFbWireBreak at h
  cases h
  simp

theorem execSsiFrame_kept {x0 x1 x2} {s t : State} (h : execSsiFrame x0 x1 x2 s = .next t) : t.kept = s.kept := by
  unfold execSsiFrame at h
  cases h
  have k := State.ssiDiff_kept s x0 (((s.fb x0).ssiLast).getD 0) (s.ssiField x0 x1)
  dsimp only
  split
  · next hb =>
    revert k
    rcases s.ssiDiff x0 (((s.fb x0).ssiLast).getD 0) (s.ssiField x0 x1) with ⟨d, s1⟩
    intro k
    dsimp only at k ⊢
    split <;> simp [k]
  · rfl

theorem execFbStandstill_kept {x0} {s t : State} (h : execFbStandstill x0 s = .next t) : t.kept = s.kept := by
  unfold execFbStandstill at h
  cases h
  simp

theorem execAuxDesat_kept {x0 x1} {s t : State} (h : execAuxDesat x0 x1 s = .next t) : t.kept = s.kept := by
  unfold execAuxDesat at h
  cases h
  simp

theorem execAuxShunt_kept {x0} {s t : State} (h : execAuxShunt x0 s = .next t) : t.kept = s.kept := by
  unfold execAuxShunt at h
  cases h
  simp

theorem execBootUv_kept {x0} {s t : State} (h : execBootUv x0 s = .next t) : t.kept = s.kept := by
  unfold execBootUv at h
  cases h
  simp

theorem execAuxFaultSettled_kept {x0} {s t : State} (h : execAuxFaultSettled x0 s = .next t) : t.kept = s.kept := by
  unfold execAuxFaultSettled at h
  cases h
  simp

theorem execAuxRetryElapsed_kept {x0} {s t : State} (h : execAuxRetryElapsed x0 s = .next t) : t.kept = s.kept := by
  unfold execAuxRetryElapsed at h
  cases h
  simp

theorem execAuxTriesReset_kept {x0} {s t : State} (h : execAuxTriesReset x0 s = .next t) : t.kept = s.kept := by
  unfold execAuxTriesReset at h
  cases h
  simp

theorem execAuxPrechargeDone_kept {x0 x1} {s t : State} (h : execAuxPrechargeDone x0 x1 s = .next t) : t.kept = s.kept := by
  unfold execAuxPrechargeDone at h
  cases h
  simp

theorem execAuxInterlock_kept {x0} {s t : State} (h : execAuxInterlock x0 s = .next t) : t.kept = s.kept := by
  unfold execAuxInterlock at h
  cases h
  simp

theorem execVauxLimit_kept {x0 x1} {s t : State} (h : execVauxLimit x0 x1 s = .next t) : t.kept = s.kept := by
  unfold execVauxLimit at h
  cases h
  simp

theorem execChopSwitch_kept {x0} {s t : State} (h : execChopSwitch x0 s = .next t) : t.kept = s.kept := by
  unfold execChopSwitch at h
  cases h
  simp

theorem execChopFault_kept {s t : State} (h : execChopFault s = .next t) : t.kept = s.kept := by
  unfold execChopFault at h
  cases h
  simp

theorem execExtStepPulse_kept {x0 x1 x2 x3} {s t : State} (h : execExtStepPulse x0 x1 x2 x3 s = .next t) : t.kept = s.kept := by
  unfold execExtStepPulse at h
  cases h
  simp

theorem execStepperHoldReduce_kept {x0} {s t : State} (h : execStepperHoldReduce x0 s = .next t) : t.kept = s.kept := by
  unfold execStepperHoldReduce at h
  cases h
  simp

theorem execDoOverload_kept {x0} {s t : State} (h : execDoOverload x0 s = .next t) : t.kept = s.kept := by
  unfold execDoOverload at h
  cases h
  simp

theorem execDoOverloadRetry_kept {x0} {s t : State} (h : execDoOverloadRetry x0 s = .next t) : t.kept = s.kept := by
  unfold execDoOverloadRetry at h
  cases h
  split <;> simp

theorem execEncPwrFault_kept {x0} {s t : State} (h : execEncPwrFault x0 s = .next t) : t.kept = s.kept := by
  unfold execEncPwrFault at h
  cases h
  simp

theorem execAinBurdenOpen_kept {x0} {s t : State} (h : execAinBurdenOpen x0 s = .next t) : t.kept = s.kept := by
  unfold execAinBurdenOpen at h
  cases h
  simp

theorem execAinBurdenReclose_kept {x0} {s t : State} (h : execAinBurdenReclose x0 s = .next t) : t.kept = s.kept := by
  unfold execAinBurdenReclose at h
  cases h
  split <;> simp

theorem execCanFrameReceived_kept {x0 x1 x2 x3} {s t : State} (h : execCanFrameReceived x0 x1 x2 x3 s = .next t) : t.kept = s.kept := by
  unfold execCanFrameReceived at h
  cases h
  simp

theorem execCanPeriodicSend_kept {x0 x1} {s t : State} (h : execCanPeriodicSend x0 x1 s = .next t) : t.kept = s.kept := by
  unfold execCanPeriodicSend at h
  cases h
  simp

theorem execCanTxAttemptEnd_kept {x0 x1 x2 x3 x4} {s t : State} (h : execCanTxAttemptEnd x0 x1 x2 x3 x4 s = .next t) : t.kept = s.kept := by
  unfold execCanTxAttemptEnd at h
  cases h
  (repeat' split) <;> simp

theorem execCanRecovered_kept {x0} {s t : State} (h : execCanRecovered x0 s = .next t) : t.kept = s.kept := by
  unfold execCanRecovered at h
  cases h
  simp

theorem execCanRxTimeout_kept {x0 x1} {s t : State} (h : execCanRxTimeout x0 x1 s = .next t) : t.kept = s.kept := by
  unfold execCanRxTimeout at h
  cases h
  simp

theorem execFrankingMessageSend_kept {x0} {s t : State} (h : execFrankingMessageSend x0 s = .next t) : t.kept = s.kept := by
  unfold execFrankingMessageSend at h
  cases h
  simp

theorem execIrqSourceFire_kept {x0 x1} {s t : State} (h : execIrqSourceFire x0 x1 s = .next t) : t.kept = s.kept := by
  unfold execIrqSourceFire at h
  cases h
  simp

theorem execIrqWithdrawn_kept {x0} {s t : State} (h : execIrqWithdrawn x0 s = .next t) : t.kept = s.kept := by
  unfold execIrqWithdrawn at h
  cases h
  simp

theorem execClaim_kept {x0} {s t : State} (h : execClaim x0 s = .next t) : t.kept = s.kept := by
  unfold execClaim at h
  cases h
  simp

theorem execEoi_kept {x0 x1} {s t : State} (h : execEoi x0 x1 s = .next t) : t.kept = s.kept := by
  unfold execEoi at h
  cases h
  simp

theorem execPendingSet_kept {x0 x1 x2} {s t : State} (h : execPendingSet x0 x1 x2 s = .next t) : t.kept = s.kept := by
  unfold execPendingSet at h
  cases h
  simp

theorem execPendingClr_kept {x0 x1 x2} {s t : State} (h : execPendingClr x0 x1 x2 s = .next t) : t.kept = s.kept := by
  unfold execPendingClr at h
  cases h
  simp

theorem execEnableSet_kept {x0 x1 x2} {s t : State} (h : execEnableSet x0 x1 x2 s = .next t) : t.kept = s.kept := by
  unfold execEnableSet at h
  cases h
  simp

theorem execEnableClr_kept {x0 x1 x2} {s t : State} (h : execEnableClr x0 x1 x2 s = .next t) : t.kept = s.kept := by
  unfold execEnableClr at h
  cases h
  simp

theorem execStackFaultClear_kept {x0 x1 x2} {s t : State} (h : execStackFaultClear x0 x1 x2 s = .next t) : t.kept = s.kept := by
  unfold execStackFaultClear at h
  cases h
  simp

theorem execWfi_kept {x0} {s t : State} (h : execWfi x0 s = .next t) : t.kept = s.kept := by
  unfold execWfi at h
  cases h
  simp

theorem execCoreWake_kept {x0} {s t : State} (h : execCoreWake x0 s = .next t) : t.kept = s.kept := by
  unfold execCoreWake at h
  cases h
  simp

theorem execLogicAccessFault_kept {x0 x1 x2 x3} {s t : State} (h : execLogicAccessFault x0 x1 x2 x3 s = .next t) : t.kept = s.kept := by
  unfold execLogicAccessFault at h
  cases h
  simp

theorem execSortingReport_kept {x0 x1 x2 x3 x4} {s t : State} (h : execSortingReport x0 x1 x2 x3 x4 s = .next t) : t.kept = s.kept := by
  unfold execSortingReport at h
  cases h
  simp

theorem execPostmarkClose_kept {x0} {s t : State} (h : execPostmarkClose x0 s = .next t) : t.kept = s.kept := by
  unfold execPostmarkClose at h
  cases h
  simp

theorem execEventRecordDrain_kept {s t : State} (h : execEventRecordDrain s = .next t) : t.kept = s.kept := by
  unfold execEventRecordDrain at h
  cases h
  simp

theorem execSoRingOverflow_kept {x0} {s t : State} (h : execSoRingOverflow x0 s = .next t) : t.kept = s.kept := by
  unfold execSoRingOverflow at h
  cases h
  simp

theorem execJournalTrigger_kept {x0} {s t : State} (h : execJournalTrigger x0 s = .next t) : t.kept = s.kept := by
  unfold execJournalTrigger at h
  cases h
  simp

theorem execJournalFrozen_kept {x0} {s t : State} (h : execJournalFrozen x0 s = .next t) : t.kept = s.kept := by
  unfold execJournalFrozen at h
  cases h
  simp

theorem execJournalExportBlock_kept {s t : State} (h : execJournalExportBlock s = .next t) : t.kept = s.kept := by
  unfold execJournalExportBlock at h
  cases h
  simp

theorem execJournalExportDone_kept {s t : State} (h : execJournalExportDone s = .next t) : t.kept = s.kept := by
  unfold execJournalExportDone at h
  cases h
  split <;> simp

theorem execJournalLost_kept {x0} {s t : State} (h : execJournalLost x0 s = .next t) : t.kept = s.kept := by
  unfold execJournalLost at h
  cases h
  simp

theorem execReplayEpoch_kept {s t : State} (h : execReplayEpoch s = .next t) : t.kept = s.kept := by
  unfold execReplayEpoch at h
  cases h
  simp

theorem execReplayDone_kept {s t : State} (h : execReplayDone s = .next t) : t.kept = s.kept := by
  unfold execReplayDone at h
  cases h
  simp

theorem execPairRoleDecision_kept {x0 x1} {s t : State} (h : execPairRoleDecision x0 x1 s = .next t) : t.kept = s.kept := by
  unfold execPairRoleDecision at h
  cases h
  simp

theorem execEndBStream_kept {x0} {s t : State} (h : execEndBStream x0 s = .next t) : t.kept = s.kept := by
  unfold execEndBStream at h
  cases h
  simp

theorem execEndBStreamAbsent_kept {s t : State} (h : execEndBStreamAbsent s = .next t) : t.kept = s.kept := by
  unfold execEndBStreamAbsent at h
  cases h
  simp

theorem execSlotRelay_kept {x0 x1 x2 x3} {s t : State} (h : execSlotRelay x0 x1 x2 x3 s = .next t) : t.kept = s.kept := by
  unfold execSlotRelay at h
  cases h
  simp

theorem execInputMessage_kept {x0 x1 x2 x3} {s t : State} (h : execInputMessage x0 x1 x2 x3 s = .next t) : t.kept = s.kept := by
  unfold execInputMessage at h
  cases h
  simp

theorem execUnfedEpoch_kept {s t : State} (h : execUnfedEpoch s = .next t) : t.kept = s.kept := by
  unfold execUnfedEpoch at h
  cases h
  simp

theorem execCommandForward_kept {x0 x1 x2 x3 x4 x5} {s t : State} (h : execCommandForward x0 x1 x2 x3 x4 x5 s = .next t) : t.kept = s.kept := by
  unfold execCommandForward at h
  cases h
  simp

theorem execHashMessage_kept {x0 x1 x2 x3 x4} {s t : State} (h : execHashMessage x0 x1 x2 x3 x4 s = .next t) : t.kept = s.kept := by
  unfold execHashMessage at h
  cases h
  simp

theorem execTimeMessage_kept {x0 x1} {s t : State} (h : execTimeMessage x0 x1 s = .next t) : t.kept = s.kept := by
  unfold execTimeMessage at h
  cases h
  simp

theorem execPairLinkLost_kept {s t : State} (h : execPairLinkLost s = .next t) : t.kept = s.kept := by
  unfold execPairLinkLost at h
  cases h
  simp

theorem execPairLinkSlow_kept {x0} {s t : State} (h : execPairLinkSlow x0 s = .next t) : t.kept = s.kept := by
  unfold execPairLinkSlow at h
  cases h
  simp

theorem execStateEnvelope_kept {x0 x1 x2 x3} {s t : State} (h : execStateEnvelope x0 x1 x2 x3 s = .next t) : t.kept = s.kept := by
  unfold execStateEnvelope at h
  cases h
  simp

theorem execResyncTransferDone_kept {x0 x1 x2} {s t : State} (h : execResyncTransferDone x0 x1 x2 s = .next t) : t.kept = s.kept := by
  unfold execResyncTransferDone at h
  cases h
  simp

theorem execSurrender_kept {x0 x1} {s t : State} (h : execSurrender x0 x1 s = .next t) : t.kept = s.kept := by
  unfold execSurrender at h
  cases h
  simp

theorem execPairDemoted_kept {s t : State} (h : execPairDemoted s = .next t) : t.kept = s.kept := by
  unfold execPairDemoted at h
  cases h
  simp

theorem execWarmTakeoverResume_kept {s t : State} (h : execWarmTakeoverResume s = .next t) : t.kept = s.kept := by
  unfold execWarmTakeoverResume at h
  cases h
  simp

theorem execLogicRestarted_kept {s t : State} (h : execLogicRestarted s = .next t) : t.kept = s.kept := by
  unfold execLogicRestarted at h
  cases h
  simp

theorem execRailRestored_kept {x0} {s t : State} (h : execRailRestored x0 s = .next t) : t.kept = s.kept := by
  unfold execRailRestored at h
  cases h
  simp

theorem execCanRxError_kept {x0 x1} {s t : State} (h : execCanRxError x0 x1 s = .next t) : t.kept = s.kept := by
  unfold execCanRxError at h
  cases h
  simp

theorem execPullInElapsed_kept {x0} {s t : State} (h : execPullInElapsed x0 s = .next t) : t.kept = s.kept := by
  unfold execPullInElapsed at h
  cases h
  split <;> simp

theorem execDiscoverArrived_kept {x0 x1 x2} {s t : State} (h : execDiscoverArrived x0 x1 x2 s = .next t) : t.kept = s.kept := by
  unfold execDiscoverArrived at h
  cases h
  split <;> simp

theorem execPcieLinkUp_kept {x0 x1} {s t : State} (h : execPcieLinkUp x0 x1 s = .next t) : t.kept = s.kept := by
  unfold execPcieLinkUp at h
  cases h
  simp

/-- Commands that give, step or lose something that `State.kept` lists. -/
def givesKept : Instr → Bool
  | .powerGood _ _ _
  | .powerLost
  | .deviceReset _
  | .epochBoundary _
  | .inputCutoff
  | .downstreamSend
  | .ledgerCommit
  | .pairJoin _ _ _ _
  | .otpFuse _ => true
  | _ => false

/-- Every other command leaves it alone. -/
theorem exec_kept {c : Instr} {s t : State} (hc : givesKept c = false) (h : exec c s = .next t) : t.kept = s.kept := by
  cases c with
  | powerGood => cases hc
  | perstRelease => exact execPerstRelease_kept h
  | epochBoundary => cases hc
  | inputCutoff => cases hc
  | downstreamSend => cases hc
  | ledgerCommit => cases hc
  | haltComplete => exact execHaltComplete_kept h
  | haltTimeout => exact execHaltTimeout_kept h
  | envelopeSealed => exact execEnvelopeSealed_kept h
  | upstreamSlot => exact execUpstreamSlot_kept h
  | upstreamClosure => exact execUpstreamClosure_kept h
  | slowResp => exact execSlowResp_kept h
  | slowTimeout => exact execSlowTimeout_kept h
  | report => exact execReport_kept h
  | echoRet => exact execEchoRet_kept h
  | breakBlock => exact execBreakBlock_kept h
  | endLockLost => exact execEndLockLost_kept h
  | roundRestored => exact execRoundRestored_kept h
  | lateRoundExit => exact execLateRoundExit_kept h
  | cellLost => exact execCellLost_kept h
  | segmentLaneUp => exact execSegmentLaneUp_kept h
  | linkupStepComplete => exact execLinkupStepComplete_kept h
  | roundLinkupFail => exact execRoundLinkupFail_kept h
  | roundChargeTimeout => exact execRoundChargeTimeout_kept h
  | bypassNotConfirmed => exact execBypassNotConfirmed_kept h
  | skipLimp => exact execSkipLimp_kept h
  | skipHalt => exact execSkipHalt_kept h
  | skipFault => exact execSkipFault_kept h
  | limpSkipClear => exact execLimpSkipClear_kept h
  | shockCleared => exact execShockCleared_kept h
  | holdExpired => exact execHoldExpired_kept h
  | haltStopReached => exact execHaltStopReached_kept h
  | crashWindmill => exact execCrashWindmill_kept h
  | releaseArmExpired => exact execReleaseArmExpired_kept h
  | brakeLiftElapsed => exact execBrakeLiftElapsed_kept h
  | releaseEndSequence => exact execReleaseEndSequence_kept h
  | slackRope => exact execSlackRope_kept h
  | shaftDecoupled => exact execShaftDecoupled_kept h
  | hostHoldExpired => exact execHostHoldExpired_kept h
  | identStepDone => exact execIdentStepDone_kept h
  | lineRideExpired => exact execLineRideExpired_kept h
  | writePoints => exact execWritePoints_kept h
  | writeMasked => exact execWriteMasked_kept h
  | readPoints => exact execReadPoints_kept h
  | nop => exact execNop_kept h
  | cancel => exact execCancel_kept h
  | subscribeP => exact execSubscribeP_kept h
  | unsubscribeP => exact execUnsubscribeP_kept h
  | setM => exact execSetM_kept h
  | requestF => exact execRequestF_kept h
  | envPolicy => exact execEnvPolicy_kept h
  | loadPd => exact execLoadPd_kept h
  | pdValidationDone => exact execPdValidationDone_kept h
  | roundLinkup => exact execRoundLinkup_kept h
  | cellBypass => exact execCellBypass_kept h
  | cellGates => exact execCellGates_kept h
  | slowRead => exact execSlowRead_kept h
  | itinLoad => exact execItinLoad_kept h
  | canRecover => exact execCanRecover_kept h
  | canAbort => exact execCanAbort_kept h
  | journalFreeze => exact execJournalFreeze_kept h
  | journalExport => exact execJournalExport_kept h
  | journalRelease => exact execJournalRelease_kept h
  | replayFeed => exact execReplayFeed_kept h
  | pairHandover => exact execPairHandover_kept h
  | pairResync => exact execPairResync_kept h
  | fwWrite => exact execFwWrite_kept h
  | fwCommit => exact execFwCommit_kept h
  | acceptOnRoom => exact execAcceptOnRoom_kept h
  | modeCmdConfigure => exact execModeCmdConfigure_kept h
  | modeCmdReady => exact execModeCmdReady_kept h
  | modeCmdRun => exact execModeCmdRun_kept h
  | modeCmdOverride => exact execModeCmdOverride_kept h
  | modeCmdHalt => exact execModeCmdHalt_kept h
  | modeCmdDormant => exact execModeCmdDormant_kept h
  | modeCmdReplay => exact execModeCmdReplay_kept h
  | sleepEffective => exact execSleepEffective_kept h
  | wake => exact execWake_kept h
  | canWakePattern => exact execCanWakePattern_kept h
  | runCmdOn => exact execRunCmdOn_kept h
  | runCmdOff => exact execRunCmdOff_kept h
  | blockCmdOn => exact execBlockCmdOn_kept h
  | blockCmdOff => exact execBlockCmdOff_kept h
  | faultReset => exact execFaultReset_kept h
  | renderCmdOn => exact execRenderCmdOn_kept h
  | renderCmdOff => exact execRenderCmdOff_kept h
  | crashCmdOn => exact execCrashCmdOn_kept h
  | crashCmdOff => exact execCrashCmdOff_kept h
  | releaseArm => exact execReleaseArm_kept h
  | releaseRelease => exact execReleaseRelease_kept h
  | releaseEnd => exact execReleaseEnd_kept h
  | identStart => exact execIdentStart_kept h
  | identAbort => exact execIdentAbort_kept h
  | hostReclaim => exact execHostReclaim_kept h
  | fbUseWrite => exact execFbUseWrite_kept h
  | setEnableWrite => exact execSetEnableWrite_kept h
  | ctrlModeWrite => exact execCtrlModeWrite_kept h
  | timeSet => exact execTimeSet_kept h
  | fbClearCmd => exact execFbClearCmd_kept h
  | cmpValueLoad => exact execCmpValueLoad_kept h
  | ptSrcChange => exact execPtSrcChange_kept h
  | profileGo => exact execProfileGo_kept h
  | profileStop => exact execProfileStop_kept h
  | profileResume => exact execProfileResume_kept h
  | profileAbort => exact execProfileAbort_kept h
  | profileHome => exact execProfileHome_kept h
  | issueToken => exact execIssueToken_kept h
  | auxClearCmd => exact execAuxClearCmd_kept h
  | chopClearCmd => exact execChopClearCmd_kept h
  | canTxCmdSend => exact execCanTxCmdSend_kept h
  | canTxCmdAbort => exact execCanTxCmdAbort_kept h
  | canModeWrite => exact execCanModeWrite_kept h
  | doWrite => exact execDoWrite_kept h
  | encPwrModeWrite => exact execEncPwrModeWrite_kept h
  | registerWrite => exact execRegisterWrite_kept h
  | deviceReset => cases hc
  | hostInterfaceReset => exact execHostInterfaceReset_kept h
  | hifReqWrite => exact execHifReqWrite_kept h
  | ringEnable => exact execRingEnable_kept h
  | ringDisable => exact execRingDisable_kept h
  | wdtCtrlWrite => exact execWdtCtrlWrite_kept h
  | doorbell => exact execDoorbell_kept h
  | heartbeat => exact execHeartbeat_kept h
  | logicHeartbeat => exact execLogicHeartbeat_kept h
  | hostWdtExpiry => exact execHostWdtExpiry_kept h
  | linkDown => exact execLinkDown_kept h
  | functionLevelReset => exact execFunctionLevelReset_kept h
  | msixUnmask => exact execMsixUnmask_kept h
  | moderationTimeout => exact execModerationTimeout_kept h
  | supWdt => exact execSupWdt_kept h
  | supervisorRestarted => exact execSupervisorRestarted_kept h
  | logicWdt => exact execLogicWdt_kept h
  | stoChange => exact execStoChange_kept h
  | stoDiscrepancy => exact execStoDiscrepancy_kept h
  | d1TickLost => exact execD1TickLost_kept h
  | memoryError => exact execMemoryError_kept h
  | vctlChange => exact execVctlChange_kept h
  | holdupExhausted => exact execHoldupExhausted_kept h
  | railFault => exact execRailFault_kept h
  | insertReleased => exact execInsertReleased_kept h
  | insertClosed => exact execInsertClosed_kept h
  | timeSourceEvent => exact execTimeSourceEvent_kept h
  | syncInEdge => exact execSyncInEdge_kept h
  | timeSourceLost => exact execTimeSourceLost_kept h
  | fbEdge => exact execFbEdge_kept h
  | comparePulseEnd => exact execComparePulseEnd_kept h
  | indexPulse => exact execIndexPulse_kept h
  | fbWireBreak => exact execFbWireBreak_kept h
  | ssiFrame => exact execSsiFrame_kept h
  | fbStandstill => exact execFbStandstill_kept h
  | auxDesat => exact execAuxDesat_kept h
  | auxShunt => exact execAuxShunt_kept h
  | bootUv => exact execBootUv_kept h
  | auxFaultSettled => exact execAuxFaultSettled_kept h
  | auxRetryElapsed => exact execAuxRetryElapsed_kept h
  | auxTriesReset => exact execAuxTriesReset_kept h
  | auxPrechargeDone => exact execAuxPrechargeDone_kept h
  | auxInterlock => exact execAuxInterlock_kept h
  | vauxLimit => exact execVauxLimit_kept h
  | chopSwitch => exact execChopSwitch_kept h
  | chopFault => exact execChopFault_kept h
  | extStepPulse => exact execExtStepPulse_kept h
  | stepperHoldReduce => exact execStepperHoldReduce_kept h
  | doOverload => exact execDoOverload_kept h
  | doOverloadRetry => exact execDoOverloadRetry_kept h
  | encPwrFault => exact execEncPwrFault_kept h
  | ainBurdenOpen => exact execAinBurdenOpen_kept h
  | ainBurdenReclose => exact execAinBurdenReclose_kept h
  | canFrameReceived => exact execCanFrameReceived_kept h
  | canPeriodicSend => exact execCanPeriodicSend_kept h
  | canTxAttemptEnd => exact execCanTxAttemptEnd_kept h
  | canRecovered => exact execCanRecovered_kept h
  | canRxTimeout => exact execCanRxTimeout_kept h
  | frankingMessageSend => exact execFrankingMessageSend_kept h
  | irqSourceFire => exact execIrqSourceFire_kept h
  | irqWithdrawn => exact execIrqWithdrawn_kept h
  | claim => exact execClaim_kept h
  | eoi => exact execEoi_kept h
  | pendingSet => exact execPendingSet_kept h
  | pendingClr => exact execPendingClr_kept h
  | enableSet => exact execEnableSet_kept h
  | enableClr => exact execEnableClr_kept h
  | stackFaultClear => exact execStackFaultClear_kept h
  | wfi => exact execWfi_kept h
  | coreWake => exact execCoreWake_kept h
  | logicAccessFault => exact execLogicAccessFault_kept h
  | sortingReport => exact execSortingReport_kept h
  | postmarkClose => exact execPostmarkClose_kept h
  | eventRecordDrain => exact execEventRecordDrain_kept h
  | soRingOverflow => exact execSoRingOverflow_kept h
  | journalTrigger => exact execJournalTrigger_kept h
  | journalFrozen => exact execJournalFrozen_kept h
  | journalExportBlock => exact execJournalExportBlock_kept h
  | journalExportDone => exact execJournalExportDone_kept h
  | journalLost => exact execJournalLost_kept h
  | replayEpoch => exact execReplayEpoch_kept h
  | replayDone => exact execReplayDone_kept h
  | pairRoleDecision => exact execPairRoleDecision_kept h
  | pairJoin => cases hc
  | endBStream => exact execEndBStream_kept h
  | endBStreamAbsent => exact execEndBStreamAbsent_kept h
  | slotRelay => exact execSlotRelay_kept h
  | inputMessage => exact execInputMessage_kept h
  | unfedEpoch => exact execUnfedEpoch_kept h
  | commandForward => exact execCommandForward_kept h
  | hashMessage => exact execHashMessage_kept (x4 := 0) h
  | timeMessage => exact execTimeMessage_kept h
  | pairLinkLost => exact execPairLinkLost_kept h
  | pairLinkSlow => exact execPairLinkSlow_kept h
  | stateEnvelope => exact execStateEnvelope_kept h
  | resyncTransferDone => exact execResyncTransferDone_kept h
  | surrender => exact execSurrender_kept h
  | pairDemoted => exact execPairDemoted_kept h
  | warmTakeoverResume => exact execWarmTakeoverResume_kept h
  | logicRestarted => exact execLogicRestarted_kept h
  | railRestored => exact execRailRestored_kept h
  | powerLost => cases hc
  | canRxError => exact execCanRxError_kept h
  | pullInElapsed => exact execPullInElapsed_kept h
  | otpFuse => cases hc
  | discoverArrived => exact execDiscoverArrived_kept h
  | pcieLinkUp => exact execPcieLinkUp_kept h

end Sys2Proof.Machine
end

