-- ==== Sys2Proof/WellFormed.lean ====
section
/-!
DEFINITION. WellFormed.lean: when the operands of a command are such as the manual's formats can carry: every number
fits its field and every list has the length its format fixes. Unit numbers need no check: their types bound them.
What a descriptor's content means for it (a wrong index, a wrong count) is the command's effect, not a matter of form.
-/
namespace Sys2Proof

/-- A number fits a field of so many bits. -/
def fits (bits n : Nat) : Bool := decide (n < 2 ^ bits)

/-- A signed number fits a field of so many bits. -/
def fitsInt (bits : Nat) (z : Int) : Bool := decide (-(2 ^ (bits - 1) : Int) ≤ z ∧ z < 2 ^ (bits - 1))

/-- The fields of a descriptor fit Table 11.6a. -/
def DescHdr.wf (h : DescHdr) : Bool :=
  fits 4 h.major && fits 4 h.minor && fits 16 (h.opcode.getD 0) && fits 32 h.tag && fits 48 h.apply

/-- A list of at most 65,535 items: the count of a payload is a u16 (Table 11.7). -/
def countOk {α : Type} (l : List α) : Bool := fits 16 l.length

/-- A point of an itinerary fits its 16 bytes (R258): t u32, p s64, v the word of a binary32. -/
def itinPointOk (p : Nat × Int × Int) : Bool := fits 32 p.1 && fitsInt 64 p.2.1 && fitsInt 33 p.2.2

/-- The payload of an opcode fits Table 11.7. -/
def Op.wf : Op → Bool
  | .nop | .requestF | .journalRelease | .pairHandover | .pairResync => true
  | .cancel tag ring => fits 32 tag && fits 8 ring
  | .writePoints items => countOk items && items.all (fun x => fits 32 x.1)
  | .writeMasked items => countOk items && items.all (fun x => fits 32 x.1)
  | .readPoints addr idx => fits 64 addr && countOk idx && idx.all (fits 32)
  | .subscribeP idx => countOk idx && idx.all (fits 32)
  | .unsubscribeP idx => countOk idx && idx.all (fits 32)
  | .setM ranges => countOk ranges && ranges.all (fun x => fits 32 x.1 && fits 32 x.2)
  | .envPolicy tier policy => fits 8 tier && fits 8 policy
  | .loadPd bytes length => fits 32 length && decide (bytes.length ≤ length)
  | .roundLinkup mask => fits 16 mask
  | .cellBypass addr close => fits 16 addr && fits 8 close
  | .cellGates addr release => fits 16 addr && fits 8 release
  | .slowRead addr off count => fits 16 addr && fits 16 off && fits 8 count
  | .itinLoad engine pts => fits 8 engine && countOk pts && pts.all itinPointOk
  | .canRecover ctl => fits 8 ctl
  | .canAbort ctl obj => fits 8 ctl && fits 16 obj
  | .journalFreeze pre post => fits 32 pre && fits 32 post
  | .journalExport first last => fits 64 first && fits 64 last
  | .replayFeed blocks => fits 32 blocks.length
  | .fwWrite data length off => fits 32 length && fits 32 off && decide (data.length ≤ length)
  | .fwCommit length => fits 32 length

/-- A sample of an epoch boundary has one value for each input (section 0.4). -/
def Samples.wf (x : Samples) : Bool :=
  x.ain.length == 8 && x.sdm.length == 16 && fits 16 x.di && x.temp.length == 6 && x.tx.length == 12 &&
  x.supply.length == 11 && x.auxI.length == 12 && x.sinCos.length == 8 && fits 16 x.lowV && fits 40 x.missing

/-- A CAN frame has an identifier of its format and a length that its format has (R435): 0 to 8 bytes, and with FD also
12, 16, 20, 24, 32, 48 and 64; FD frames are no remote frames, and only they switch the bit rate. -/
def CanFrame.wf (f : CanFrame) : Bool :=
  fits (if f.ext then 29 else 11) f.id &&
  (decide (f.data.length ≤ 8) || (f.fd && [12, 16, 20, 24, 32, 48, 64].contains f.data.length)) &&
  !(f.fd && f.remote) && (f.fd || !f.brs)

/-- A REPORT carries 32 bytes of a class report (R91). -/
def CellReport.wf : CellReport → Bool
  | .discovery _ _ _ _ => true
  | .cls bytes => bytes.length == 32

/-- A relayed block has the length of its kind (Table 14.1). -/
def Relay.wf : Relay → Bool
  | .slot pos bytes => fits 8 pos && bytes.length == 14
  | .close => true
  | .slow pos tag status vals crc => fits 8 pos && fits 8 tag && fits 8 status && decide (vals.length ≤ 16) && fits 32 crc
  | .discovery pos _ _ _ _ => fits 8 pos
  | .cls pos bytes => fits 8 pos && bytes.length == 32
  | .echo pos _ => fits 8 pos
  | .brk pos _ => fits 8 pos

/-- The header fields of a downstream frame fit Table 3.2. -/
def Frame.wf (f : Frame) : Bool :=
  fits 64 f.franking && fits 48 f.epoch && fits 16 f.generation && fits 48 f.token && fits 8 f.lo && fits 8 f.hi

/-- What Winil fuses: the hash of a key has 32 bytes (R518). -/
def OtpItem.wf : OtpItem → Bool
  | .keySlot _ hash => hash.length == 32
  | .revoke _ => true
  | .signedBit => true

/-- When a command's operands fit their formats. -/
def Instr.wf : Instr → Bool
  | .epochBoundary smp => smp.wf
  | .upstreamSlot _ _ _ bytes _ => bytes.length == 16
  | .slowResp _ _ tag status body => fits 8 tag && fits 8 status && decide (body.vals.length ≤ 16) && fits 32 body.crc
  | .report _ _ _ rep => rep.wf
  | .segmentLaneUp _ _ count => decide (count ≤ 256)
  | .writePoints _ _ hdr items => hdr.wf && (Op.writePoints items).wf
  | .writeMasked _ _ hdr items => hdr.wf && (Op.writeMasked items).wf
  | .readPoints _ _ hdr addr idx => hdr.wf && (Op.readPoints addr idx).wf
  | .nop _ _ hdr => hdr.wf
  | .cancel _ _ hdr tag cmdRing => hdr.wf && (Op.cancel tag cmdRing).wf
  | .subscribeP _ _ hdr idx => hdr.wf && (Op.subscribeP idx).wf
  | .unsubscribeP _ _ hdr idx => hdr.wf && (Op.unsubscribeP idx).wf
  | .setM _ _ hdr ranges => hdr.wf && (Op.setM ranges).wf
  | .requestF _ _ hdr => hdr.wf
  | .envPolicy _ _ hdr tier policy => hdr.wf && (Op.envPolicy tier policy).wf
  | .loadPd _ _ hdr bytes length => hdr.wf && (Op.loadPd bytes length).wf
  | .roundLinkup _ _ hdr mask => hdr.wf && (Op.roundLinkup mask).wf
  | .cellBypass _ _ hdr addr close => hdr.wf && (Op.cellBypass addr close).wf
  | .cellGates _ _ hdr addr release => hdr.wf && (Op.cellGates addr release).wf
  | .slowRead _ _ hdr addr off count => hdr.wf && (Op.slowRead addr off count).wf
  | .itinLoad _ _ hdr engine pts => hdr.wf && (Op.itinLoad engine pts).wf
  | .canRecover _ _ hdr ctl => hdr.wf && (Op.canRecover ctl).wf
  | .canAbort _ _ hdr ctl obj => hdr.wf && (Op.canAbort ctl obj).wf
  | .journalFreeze _ _ hdr pre post => hdr.wf && (Op.journalFreeze pre post).wf
  | .journalExport _ _ hdr first last => hdr.wf && (Op.journalExport first last).wf
  | .journalRelease _ _ hdr => hdr.wf
  | .replayFeed _ _ hdr blocks => hdr.wf && (Op.replayFeed blocks).wf
  | .pairHandover _ _ hdr => hdr.wf
  | .pairResync _ _ hdr => hdr.wf
  | .fwWrite _ _ hdr data length off => hdr.wf && (Op.fwWrite data length off).wf
  | .fwCommit _ _ hdr length => hdr.wf && (Op.fwCommit length).wf
  | .modeCmdOverride reason => fits 32 reason
  | .sleepEffective fired => fits 8 fired
  | .wake fired => fits 8 fired
  | .registerWrite _ off _ => off % 4 == 0
  | .canFrameReceived _ fr _ _ => fr.wf
  | .ssiFrame _ bits _ => fits 40 bits
  | .logicAccessFault _ addr size _ => fits 64 addr && [1, 2, 4, 8].contains size
  | .sortingReport code kind idx param _ => fits 16 code && fits 8 kind && fits 16 idx && fits 32 param
  | .pairJoin _ kernel _ _ => fits 16 kernel
  | .endBStream frames => frames.all (fun x => x.2.wf)
  | .slotRelay _ _ rel _ => rel.wf
  | .inputMessage epoch _ _ _ => fits 48 epoch
  | .commandForward _ epoch tag _ _ op => fits 48 epoch && fits 32 tag && op.wf
  | .hashMessage epoch _ _ _ _ => fits 48 epoch
  | .stateEnvelope epoch _ _ _ => fits 48 epoch
  | .resyncTransferDone epoch _ _ => fits 48 epoch
  | .surrender h _ => fits 48 h
  | .otpFuse item => item.wf
  | .powerGood _ _ _ => true
  | .perstRelease => true
  | .inputCutoff => true
  | .downstreamSend => true
  | .ledgerCommit => true
  | .haltComplete => true
  | .haltTimeout => true
  | .envelopeSealed _ _ _ => true
  | .upstreamClosure _ _ _ => true
  | .slowTimeout _ => true
  | .echoRet _ _ _ _ => true
  | .breakBlock _ _ _ _ => true
  | .endLockLost _ _ => true
  | .roundRestored _ => true
  | .lateRoundExit _ => true
  | .cellLost _ => true
  | .linkupStepComplete _ => true
  | .roundLinkupFail _ => true
  | .roundChargeTimeout _ => true
  | .bypassNotConfirmed _ => true
  | .skipLimp _ => true
  | .skipHalt _ => true
  | .skipFault _ => true
  | .limpSkipClear _ => true
  | .shockCleared _ => true
  | .holdExpired _ => true
  | .haltStopReached _ => true
  | .crashWindmill _ => true
  | .releaseArmExpired _ => true
  | .brakeLiftElapsed _ => true
  | .releaseEndSequence _ => true
  | .slackRope _ => true
  | .shaftDecoupled _ => true
  | .hostHoldExpired _ => true
  | .identStepDone _ _ _ => true
  | .lineRideExpired _ => true
  | .pdValidationDone => true
  | .acceptOnRoom _ _ => true
  | .modeCmdConfigure => true
  | .modeCmdReady => true
  | .modeCmdRun => true
  | .modeCmdHalt => true
  | .modeCmdDormant => true
  | .modeCmdReplay => true
  | .canWakePattern _ => true
  | .runCmdOn _ => true
  | .runCmdOff _ => true
  | .blockCmdOn _ => true
  | .blockCmdOff _ => true
  | .faultReset _ => true
  | .renderCmdOn _ => true
  | .renderCmdOff _ => true
  | .crashCmdOn _ => true
  | .crashCmdOff _ => true
  | .releaseArm _ => true
  | .releaseRelease _ => true
  | .releaseEnd _ => true
  | .identStart _ => true
  | .identAbort _ => true
  | .hostReclaim _ => true
  | .fbUseWrite _ _ => true
  | .setEnableWrite _ _ _ => true
  | .ctrlModeWrite _ _ => true
  | .timeSet _ => true
  | .fbClearCmd _ => true
  | .cmpValueLoad _ _ => true
  | .ptSrcChange _ _ => true
  | .profileGo _ => true
  | .profileStop _ => true
  | .profileResume _ => true
  | .profileAbort _ => true
  | .profileHome _ => true
  | .issueToken _ _ => true
  | .auxClearCmd _ => true
  | .chopClearCmd => true
  | .canTxCmdSend _ _ => true
  | .canTxCmdAbort _ _ => true
  | .canModeWrite _ _ => true
  | .doWrite _ _ => true
  | .encPwrModeWrite _ _ => true
  | .deviceReset _ => true
  | .hostInterfaceReset => true
  | .hifReqWrite _ => true
  | .ringEnable _ _ _ => true
  | .ringDisable _ _ => true
  | .wdtCtrlWrite _ => true
  | .doorbell _ _ _ => true
  | .heartbeat => true
  | .logicHeartbeat => true
  | .hostWdtExpiry => true
  | .linkDown => true
  | .functionLevelReset => true
  | .msixUnmask _ => true
  | .moderationTimeout _ _ => true
  | .supWdt => true
  | .supervisorRestarted => true
  | .logicWdt => true
  | .stoChange _ _ => true
  | .stoDiscrepancy => true
  | .d1TickLost => true
  | .memoryError _ => true
  | .vctlChange _ _ => true
  | .holdupExhausted => true
  | .railFault _ => true
  | .insertReleased => true
  | .insertClosed => true
  | .timeSourceEvent _ => true
  | .syncInEdge _ => true
  | .timeSourceLost => true
  | .fbEdge _ _ _ => true
  | .comparePulseEnd _ => true
  | .indexPulse _ _ => true
  | .fbWireBreak _ => true
  | .fbStandstill _ => true
  | .auxDesat _ _ => true
  | .auxShunt _ => true
  | .bootUv _ => true
  | .auxFaultSettled _ => true
  | .auxRetryElapsed _ => true
  | .auxTriesReset _ => true
  | .auxPrechargeDone _ _ => true
  | .auxInterlock _ => true
  | .vauxLimit _ _ => true
  | .chopSwitch _ => true
  | .chopFault => true
  | .extStepPulse _ _ _ _ => true
  | .stepperHoldReduce _ => true
  | .doOverload _ => true
  | .doOverloadRetry _ => true
  | .encPwrFault _ => true
  | .ainBurdenOpen _ => true
  | .ainBurdenReclose _ => true
  | .canPeriodicSend _ _ => true
  | .canTxAttemptEnd _ _ _ _ _ => true
  | .canRecovered _ => true
  | .canRxTimeout _ _ => true
  | .frankingMessageSend _ => true
  | .irqSourceFire _ _ => true
  | .irqWithdrawn _ => true
  | .claim _ => true
  | .eoi _ _ => true
  | .pendingSet _ _ _ => true
  | .pendingClr _ _ _ => true
  | .enableSet _ _ _ => true
  | .enableClr _ _ _ => true
  | .stackFaultClear _ _ _ => true
  | .wfi _ => true
  | .coreWake _ => true
  | .postmarkClose _ => true
  | .eventRecordDrain => true
  | .soRingOverflow _ => true
  | .journalTrigger _ => true
  | .journalFrozen _ => true
  | .journalExportBlock => true
  | .journalExportDone => true
  | .journalLost _ => true
  | .replayEpoch => true
  | .replayDone => true
  | .pairRoleDecision _ _ => true
  | .endBStreamAbsent => true
  | .unfedEpoch => true
  | .timeMessage _ _ => true
  | .pairLinkLost => true
  | .pairLinkSlow _ => true
  | .pairDemoted => true
  | .warmTakeoverResume => true
  | .logicRestarted => true
  | .railRestored _ => true
  | .powerLost => true
  | .canRxError _ _ => true
  | .pullInElapsed _ => true
  | .pcieLinkUp _ _ => true
  | .discoverArrived _ _ _ => true

end Sys2Proof
end

