-- ==== Sys2Proof/Laws/PerInstr.lean ====
section
/-!
SUPPORT. PerInstr.lean: statements about every command as syntax. The family Descriptor: a command that is the row of a descriptor's
operation (Table 11.7) is well formed exactly when the descriptor's header (Table 11.6a) and the operation's payload are.
-/
namespace Sys2Proof.Laws

/-- The row of an operation is well formed when the header and the payload are. -/
theorem opCommand_wf (agent : Agent) (ring : Fin 8) (hdr : DescHdr) (op : Op) :
    (Machine.opCommand agent ring hdr op).wf = (hdr.wf && op.wf) := by
  cases op <;> simp [Machine.opCommand, Instr.wf, Op.wf]

/-- A command that is the row of a descriptor's operation is well formed exactly when the descriptor is. -/
def Descriptor.Statement (i : Instr) : Prop :=
  ∀ (agent : Agent) (ring : Fin 8) (hdr : DescHdr) (op : Op),
    Machine.opCommand agent ring hdr op = i → i.wf = (hdr.wf && op.wf)

/-- The statement holds of every command. -/
theorem Descriptor.holds (i : Instr) : Descriptor.Statement i :=
  fun agent ring hdr op h => h ▸ opCommand_wf agent ring hdr op

theorem Descriptor.powerGood (permit : BitVec 48) (posB : Bool) (failed : List TestUnit) : Descriptor.Statement (.powerGood permit posB failed) := Descriptor.holds _
theorem Descriptor.perstRelease : Descriptor.Statement (.perstRelease) := Descriptor.holds _
theorem Descriptor.epochBoundary (smp : Samples) : Descriptor.Statement (.epochBoundary smp) := Descriptor.holds _
theorem Descriptor.inputCutoff : Descriptor.Statement (.inputCutoff) := Descriptor.holds _
theorem Descriptor.downstreamSend : Descriptor.Statement (.downstreamSend) := Descriptor.holds _
theorem Descriptor.ledgerCommit : Descriptor.Statement (.ledgerCommit) := Descriptor.holds _
theorem Descriptor.haltComplete : Descriptor.Statement (.haltComplete) := Descriptor.holds _
theorem Descriptor.haltTimeout : Descriptor.Statement (.haltTimeout) := Descriptor.holds _
theorem Descriptor.envelopeSealed (agent : Agent) (tier : Fin 3) (t : Nat) : Descriptor.Statement (.envelopeSealed agent tier t) := Descriptor.holds _
theorem Descriptor.upstreamSlot (r : RoundNo) (e : End) (pos : Fin 256) (bytes : List Byte) (t : Nat) : Descriptor.Statement (.upstreamSlot r e pos bytes t) := Descriptor.holds _
theorem Descriptor.upstreamClosure (r : RoundNo) (e : End) (t : Nat) : Descriptor.Statement (.upstreamClosure r e t) := Descriptor.holds _
theorem Descriptor.slowResp (r : RoundNo) (pos : Fin 256) (tag status : Nat) (body : SlowBody) : Descriptor.Statement (.slowResp r pos tag status body) := Descriptor.holds _
theorem Descriptor.slowTimeout (r : RoundNo) : Descriptor.Statement (.slowTimeout r) := Descriptor.holds _
theorem Descriptor.report (r : RoundNo) (e : End) (pos : Fin 256) (rep : CellReport) : Descriptor.Statement (.report r e pos rep) := Descriptor.holds _
theorem Descriptor.echoRet (r : RoundNo) (e : End) (pos : Fin 256) (rtt : Nat) : Descriptor.Statement (.echoRet r e pos rtt) := Descriptor.holds _
theorem Descriptor.breakBlock (r : RoundNo) (e : End) (pos : Fin 256) (port : End) : Descriptor.Statement (.breakBlock r e pos port) := Descriptor.holds _
theorem Descriptor.endLockLost (r : RoundNo) (e : End) : Descriptor.Statement (.endLockLost r e) := Descriptor.holds _
theorem Descriptor.roundRestored (r : RoundNo) : Descriptor.Statement (.roundRestored r) := Descriptor.holds _
theorem Descriptor.lateRoundExit (r : RoundNo) : Descriptor.Statement (.lateRoundExit r) := Descriptor.holds _
theorem Descriptor.cellLost (c : CellAddr) : Descriptor.Statement (.cellLost c) := Descriptor.holds _
theorem Descriptor.segmentLaneUp (r : RoundNo) (e : End) (count : Nat) : Descriptor.Statement (.segmentLaneUp r e count) := Descriptor.holds _
theorem Descriptor.linkupStepComplete (r : RoundNo) : Descriptor.Statement (.linkupStepComplete r) := Descriptor.holds _
theorem Descriptor.roundLinkupFail (r : RoundNo) : Descriptor.Statement (.roundLinkupFail r) := Descriptor.holds _
theorem Descriptor.roundChargeTimeout (r : RoundNo) : Descriptor.Statement (.roundChargeTimeout r) := Descriptor.holds _
theorem Descriptor.bypassNotConfirmed (c : CellAddr) : Descriptor.Statement (.bypassNotConfirmed c) := Descriptor.holds _
theorem Descriptor.skipLimp (d : DriveNo) : Descriptor.Statement (.skipLimp d) := Descriptor.holds _
theorem Descriptor.skipHalt (d : DriveNo) : Descriptor.Statement (.skipHalt d) := Descriptor.holds _
theorem Descriptor.skipFault (d : DriveNo) : Descriptor.Statement (.skipFault d) := Descriptor.holds _
theorem Descriptor.limpSkipClear (d : DriveNo) : Descriptor.Statement (.limpSkipClear d) := Descriptor.holds _
theorem Descriptor.shockCleared (d : DriveNo) : Descriptor.Statement (.shockCleared d) := Descriptor.holds _
theorem Descriptor.holdExpired (d : DriveNo) : Descriptor.Statement (.holdExpired d) := Descriptor.holds _
theorem Descriptor.haltStopReached (d : DriveNo) : Descriptor.Statement (.haltStopReached d) := Descriptor.holds _
theorem Descriptor.crashWindmill (d : DriveNo) : Descriptor.Statement (.crashWindmill d) := Descriptor.holds _
theorem Descriptor.releaseArmExpired (d : DriveNo) : Descriptor.Statement (.releaseArmExpired d) := Descriptor.holds _
theorem Descriptor.brakeLiftElapsed (d : DriveNo) : Descriptor.Statement (.brakeLiftElapsed d) := Descriptor.holds _
theorem Descriptor.releaseEndSequence (d : DriveNo) : Descriptor.Statement (.releaseEndSequence d) := Descriptor.holds _
theorem Descriptor.slackRope (g : ShaftNo) : Descriptor.Statement (.slackRope g) := Descriptor.holds _
theorem Descriptor.shaftDecoupled (d : DriveNo) : Descriptor.Statement (.shaftDecoupled d) := Descriptor.holds _
theorem Descriptor.hostHoldExpired (d : DriveNo) : Descriptor.Statement (.hostHoldExpired d) := Descriptor.holds _
theorem Descriptor.identStepDone (d : DriveNo) (angle : Rat) (vals : List Rat) : Descriptor.Statement (.identStepDone d angle vals) := Descriptor.holds _
theorem Descriptor.lineRideExpired (d : DriveNo) : Descriptor.Statement (.lineRideExpired d) := Descriptor.holds _
theorem Descriptor.writePoints (agent : Agent) (ring : Fin 8) (hdr : DescHdr) (items : List (Nat × Word)) : Descriptor.Statement (.writePoints agent ring hdr items) := Descriptor.holds _
theorem Descriptor.writeMasked (agent : Agent) (ring : Fin 8) (hdr : DescHdr) (items : List (Nat × Word × Word)) : Descriptor.Statement (.writeMasked agent ring hdr items) := Descriptor.holds _
theorem Descriptor.readPoints (agent : Agent) (ring : Fin 8) (hdr : DescHdr) (addr : Nat) (idx : List Nat) : Descriptor.Statement (.readPoints agent ring hdr addr idx) := Descriptor.holds _
theorem Descriptor.nop (agent : Agent) (ring : Fin 8) (hdr : DescHdr) : Descriptor.Statement (.nop agent ring hdr) := Descriptor.holds _
theorem Descriptor.cancel (agent : Agent) (ring : Fin 8) (hdr : DescHdr) (tag cmdRing : Nat) : Descriptor.Statement (.cancel agent ring hdr tag cmdRing) := Descriptor.holds _
theorem Descriptor.subscribeP (agent : Agent) (ring : Fin 8) (hdr : DescHdr) (idx : List Nat) : Descriptor.Statement (.subscribeP agent ring hdr idx) := Descriptor.holds _
theorem Descriptor.unsubscribeP (agent : Agent) (ring : Fin 8) (hdr : DescHdr) (idx : List Nat) : Descriptor.Statement (.unsubscribeP agent ring hdr idx) := Descriptor.holds _
theorem Descriptor.setM (agent : Agent) (ring : Fin 8) (hdr : DescHdr) (ranges : List (Nat × Nat)) : Descriptor.Statement (.setM agent ring hdr ranges) := Descriptor.holds _
theorem Descriptor.requestF (agent : Agent) (ring : Fin 8) (hdr : DescHdr) : Descriptor.Statement (.requestF agent ring hdr) := Descriptor.holds _
theorem Descriptor.envPolicy (agent : Agent) (ring : Fin 8) (hdr : DescHdr) (tier policy : Nat) : Descriptor.Statement (.envPolicy agent ring hdr tier policy) := Descriptor.holds _
theorem Descriptor.loadPd (agent : Agent) (ring : Fin 8) (hdr : DescHdr) (bytes : List Byte) (length : Nat) : Descriptor.Statement (.loadPd agent ring hdr bytes length) := Descriptor.holds _
theorem Descriptor.pdValidationDone : Descriptor.Statement (.pdValidationDone) := Descriptor.holds _
theorem Descriptor.roundLinkup (agent : Agent) (ring : Fin 8) (hdr : DescHdr) (mask : Nat) : Descriptor.Statement (.roundLinkup agent ring hdr mask) := Descriptor.holds _
theorem Descriptor.cellBypass (agent : Agent) (ring : Fin 8) (hdr : DescHdr) (addr close : Nat) : Descriptor.Statement (.cellBypass agent ring hdr addr close) := Descriptor.holds _
theorem Descriptor.cellGates (agent : Agent) (ring : Fin 8) (hdr : DescHdr) (addr release : Nat) : Descriptor.Statement (.cellGates agent ring hdr addr release) := Descriptor.holds _
theorem Descriptor.slowRead (agent : Agent) (ring : Fin 8) (hdr : DescHdr) (addr off count : Nat) : Descriptor.Statement (.slowRead agent ring hdr addr off count) := Descriptor.holds _
theorem Descriptor.itinLoad (agent : Agent) (ring : Fin 8) (hdr : DescHdr) (engine : Nat) (pts : List (Nat × Int × Int)) : Descriptor.Statement (.itinLoad agent ring hdr engine pts) := Descriptor.holds _
theorem Descriptor.canRecover (agent : Agent) (ring : Fin 8) (hdr : DescHdr) (ctl : Nat) : Descriptor.Statement (.canRecover agent ring hdr ctl) := Descriptor.holds _
theorem Descriptor.canAbort (agent : Agent) (ring : Fin 8) (hdr : DescHdr) (ctl obj : Nat) : Descriptor.Statement (.canAbort agent ring hdr ctl obj) := Descriptor.holds _
theorem Descriptor.journalFreeze (agent : Agent) (ring : Fin 8) (hdr : DescHdr) (pre post : Nat) : Descriptor.Statement (.journalFreeze agent ring hdr pre post) := Descriptor.holds _
theorem Descriptor.journalExport (agent : Agent) (ring : Fin 8) (hdr : DescHdr) (first last : Nat) : Descriptor.Statement (.journalExport agent ring hdr first last) := Descriptor.holds _
theorem Descriptor.journalRelease (agent : Agent) (ring : Fin 8) (hdr : DescHdr) : Descriptor.Statement (.journalRelease agent ring hdr) := Descriptor.holds _
theorem Descriptor.replayFeed (agent : Agent) (ring : Fin 8) (hdr : DescHdr) (blocks : List FedBlock) : Descriptor.Statement (.replayFeed agent ring hdr blocks) := Descriptor.holds _
theorem Descriptor.pairHandover (agent : Agent) (ring : Fin 8) (hdr : DescHdr) : Descriptor.Statement (.pairHandover agent ring hdr) := Descriptor.holds _
theorem Descriptor.pairResync (agent : Agent) (ring : Fin 8) (hdr : DescHdr) : Descriptor.Statement (.pairResync agent ring hdr) := Descriptor.holds _
theorem Descriptor.fwWrite (agent : Agent) (ring : Fin 8) (hdr : DescHdr) (data : List Byte) (length off : Nat) : Descriptor.Statement (.fwWrite agent ring hdr data length off) := Descriptor.holds _
theorem Descriptor.fwCommit (agent : Agent) (ring : Fin 8) (hdr : DescHdr) (length : Nat) : Descriptor.Statement (.fwCommit agent ring hdr length) := Descriptor.holds _
theorem Descriptor.acceptOnRoom (agent : Agent) (ring : Fin 8) : Descriptor.Statement (.acceptOnRoom agent ring) := Descriptor.holds _
theorem Descriptor.modeCmdConfigure : Descriptor.Statement (.modeCmdConfigure) := Descriptor.holds _
theorem Descriptor.modeCmdReady : Descriptor.Statement (.modeCmdReady) := Descriptor.holds _
theorem Descriptor.modeCmdRun : Descriptor.Statement (.modeCmdRun) := Descriptor.holds _
theorem Descriptor.modeCmdOverride (reason : Nat) : Descriptor.Statement (.modeCmdOverride reason) := Descriptor.holds _
theorem Descriptor.modeCmdHalt : Descriptor.Statement (.modeCmdHalt) := Descriptor.holds _
theorem Descriptor.modeCmdDormant : Descriptor.Statement (.modeCmdDormant) := Descriptor.holds _
theorem Descriptor.modeCmdReplay : Descriptor.Statement (.modeCmdReplay) := Descriptor.holds _
theorem Descriptor.sleepEffective (fired : Nat) : Descriptor.Statement (.sleepEffective fired) := Descriptor.holds _
theorem Descriptor.wake (fired : Nat) : Descriptor.Statement (.wake fired) := Descriptor.holds _
theorem Descriptor.canWakePattern (c : CanNo) : Descriptor.Statement (.canWakePattern c) := Descriptor.holds _
theorem Descriptor.runCmdOn (d : DriveNo) : Descriptor.Statement (.runCmdOn d) := Descriptor.holds _
theorem Descriptor.runCmdOff (d : DriveNo) : Descriptor.Statement (.runCmdOff d) := Descriptor.holds _
theorem Descriptor.blockCmdOn (d : DriveNo) : Descriptor.Statement (.blockCmdOn d) := Descriptor.holds _
theorem Descriptor.blockCmdOff (d : DriveNo) : Descriptor.Statement (.blockCmdOff d) := Descriptor.holds _
theorem Descriptor.faultReset (d : DriveNo) : Descriptor.Statement (.faultReset d) := Descriptor.holds _
theorem Descriptor.renderCmdOn (d : DriveNo) : Descriptor.Statement (.renderCmdOn d) := Descriptor.holds _
theorem Descriptor.renderCmdOff (d : DriveNo) : Descriptor.Statement (.renderCmdOff d) := Descriptor.holds _
theorem Descriptor.crashCmdOn (d : DriveNo) : Descriptor.Statement (.crashCmdOn d) := Descriptor.holds _
theorem Descriptor.crashCmdOff (d : DriveNo) : Descriptor.Statement (.crashCmdOff d) := Descriptor.holds _
theorem Descriptor.releaseArm (d : DriveNo) : Descriptor.Statement (.releaseArm d) := Descriptor.holds _
theorem Descriptor.releaseRelease (d : DriveNo) : Descriptor.Statement (.releaseRelease d) := Descriptor.holds _
theorem Descriptor.releaseEnd (d : DriveNo) : Descriptor.Statement (.releaseEnd d) := Descriptor.holds _
theorem Descriptor.identStart (d : DriveNo) : Descriptor.Statement (.identStart d) := Descriptor.holds _
theorem Descriptor.identAbort (d : DriveNo) : Descriptor.Statement (.identAbort d) := Descriptor.holds _
theorem Descriptor.hostReclaim (d : DriveNo) : Descriptor.Statement (.hostReclaim d) := Descriptor.holds _
theorem Descriptor.fbUseWrite (d : DriveNo) (v : Fin 2) : Descriptor.Statement (.fbUseWrite d v) := Descriptor.holds _
theorem Descriptor.setEnableWrite (d : DriveNo) (k : SetNo) (v : Fin 2) : Descriptor.Statement (.setEnableWrite d k v) := Descriptor.holds _
theorem Descriptor.ctrlModeWrite (d : DriveNo) (v : Fin 4) : Descriptor.Statement (.ctrlModeWrite d v) := Descriptor.holds _
theorem Descriptor.timeSet (t : BitVec 64) : Descriptor.Statement (.timeSet t) := Descriptor.holds _
theorem Descriptor.fbClearCmd (n : FbNo) : Descriptor.Statement (.fbClearCmd n) := Descriptor.holds _
theorem Descriptor.cmpValueLoad (n : CmpNo) (v : BitVec 64) : Descriptor.Statement (.cmpValueLoad n v) := Descriptor.holds _
theorem Descriptor.ptSrcChange (n : PtNo) (v : Word) : Descriptor.Statement (.ptSrcChange n v) := Descriptor.holds _
theorem Descriptor.profileGo (e : EngineNo) : Descriptor.Statement (.profileGo e) := Descriptor.holds _
theorem Descriptor.profileStop (e : EngineNo) : Descriptor.Statement (.profileStop e) := Descriptor.holds _
theorem Descriptor.profileResume (e : EngineNo) : Descriptor.Statement (.profileResume e) := Descriptor.holds _
theorem Descriptor.profileAbort (e : EngineNo) : Descriptor.Statement (.profileAbort e) := Descriptor.holds _
theorem Descriptor.profileHome (e : EngineNo) : Descriptor.Statement (.profileHome e) := Descriptor.holds _
theorem Descriptor.issueToken (e : EngineNo) (token : Fin 32) : Descriptor.Statement (.issueToken e token) := Descriptor.holds _
theorem Descriptor.auxClearCmd (b : AuxNo) : Descriptor.Statement (.auxClearCmd b) := Descriptor.holds _
theorem Descriptor.chopClearCmd : Descriptor.Statement (.chopClearCmd) := Descriptor.holds _
theorem Descriptor.canTxCmdSend (c : CanNo) (o : ObjNo) : Descriptor.Statement (.canTxCmdSend c o) := Descriptor.holds _
theorem Descriptor.canTxCmdAbort (c : CanNo) (o : ObjNo) : Descriptor.Statement (.canTxCmdAbort c o) := Descriptor.holds _
theorem Descriptor.canModeWrite (c : CanNo) (v : Fin 3) : Descriptor.Statement (.canModeWrite c v) := Descriptor.holds _
theorem Descriptor.doWrite (n : Fin 8) (v : Fin 2) : Descriptor.Statement (.doWrite n v) := Descriptor.holds _
theorem Descriptor.encPwrModeWrite (g : Fin 4) (v : Fin 3) : Descriptor.Statement (.encPwrModeWrite g v) := Descriptor.holds _
theorem Descriptor.registerWrite (space : RegSpace) (off : Nat) (v : Word) : Descriptor.Statement (.registerWrite space off v) := Descriptor.holds _
theorem Descriptor.deviceReset (failed : List TestUnit) : Descriptor.Statement (.deviceReset failed) := Descriptor.holds _
theorem Descriptor.hostInterfaceReset : Descriptor.Statement (.hostInterfaceReset) := Descriptor.holds _
theorem Descriptor.hifReqWrite (v : Word) : Descriptor.Statement (.hifReqWrite v) := Descriptor.holds _
theorem Descriptor.ringEnable (agent : Agent) (n : Fin 21) (cfg : Word) : Descriptor.Statement (.ringEnable agent n cfg) := Descriptor.holds _
theorem Descriptor.ringDisable (agent : Agent) (n : Fin 21) : Descriptor.Statement (.ringDisable agent n) := Descriptor.holds _
theorem Descriptor.wdtCtrlWrite (v : Word) : Descriptor.Statement (.wdtCtrlWrite v) := Descriptor.holds _
theorem Descriptor.doorbell (agent : Agent) (n : Fin 21) (v : Word) : Descriptor.Statement (.doorbell agent n v) := Descriptor.holds _
theorem Descriptor.heartbeat : Descriptor.Statement (.heartbeat) := Descriptor.holds _
theorem Descriptor.logicHeartbeat : Descriptor.Statement (.logicHeartbeat) := Descriptor.holds _
theorem Descriptor.hostWdtExpiry : Descriptor.Statement (.hostWdtExpiry) := Descriptor.holds _
theorem Descriptor.linkDown : Descriptor.Statement (.linkDown) := Descriptor.holds _
theorem Descriptor.functionLevelReset : Descriptor.Statement (.functionLevelReset) := Descriptor.holds _
theorem Descriptor.msixUnmask (v : Fin 64) : Descriptor.Statement (.msixUnmask v) := Descriptor.holds _
theorem Descriptor.moderationTimeout (agent : Agent) (n : Fin 21) : Descriptor.Statement (.moderationTimeout agent n) := Descriptor.holds _
theorem Descriptor.supWdt : Descriptor.Statement (.supWdt) := Descriptor.holds _
theorem Descriptor.supervisorRestarted : Descriptor.Statement (.supervisorRestarted) := Descriptor.holds _
theorem Descriptor.logicWdt : Descriptor.Statement (.logicWdt) := Descriptor.holds _
theorem Descriptor.stoChange (a b : Bool) : Descriptor.Statement (.stoChange a b) := Descriptor.holds _
theorem Descriptor.stoDiscrepancy : Descriptor.Statement (.stoDiscrepancy) := Descriptor.holds _
theorem Descriptor.d1TickLost : Descriptor.Statement (.d1TickLost) := Descriptor.holds _
theorem Descriptor.memoryError (core : Bool) : Descriptor.Statement (.memoryError core) := Descriptor.holds _
theorem Descriptor.vctlChange (b : Bool) (mv : Nat) : Descriptor.Statement (.vctlChange b mv) := Descriptor.holds _
theorem Descriptor.holdupExhausted : Descriptor.Statement (.holdupExhausted) := Descriptor.holds _
theorem Descriptor.railFault (n : Fin 8) : Descriptor.Statement (.railFault n) := Descriptor.holds _
theorem Descriptor.insertReleased : Descriptor.Statement (.insertReleased) := Descriptor.holds _
theorem Descriptor.insertClosed : Descriptor.Statement (.insertClosed) := Descriptor.holds _
theorem Descriptor.timeSourceEvent (error : Int) : Descriptor.Statement (.timeSourceEvent error) := Descriptor.holds _
theorem Descriptor.syncInEdge (t : Nat) : Descriptor.Statement (.syncInEdge t) := Descriptor.holds _
theorem Descriptor.timeSourceLost : Descriptor.Statement (.timeSourceLost) := Descriptor.holds _
theorem Descriptor.fbEdge (n : FbNo) (t : Nat) (lines : Fin 8) : Descriptor.Statement (.fbEdge n t lines) := Descriptor.holds _
theorem Descriptor.comparePulseEnd (n : CmpNo) : Descriptor.Statement (.comparePulseEnd n) := Descriptor.holds _
theorem Descriptor.indexPulse (n : FbNo) (t : Nat) : Descriptor.Statement (.indexPulse n t) := Descriptor.holds _
theorem Descriptor.fbWireBreak (n : FbNo) : Descriptor.Statement (.fbWireBreak n) := Descriptor.holds _
theorem Descriptor.ssiFrame (n : FbNo) (bits : Nat) (idle : Bool) : Descriptor.Statement (.ssiFrame n bits idle) := Descriptor.holds _
theorem Descriptor.fbStandstill (n : FbNo) : Descriptor.Statement (.fbStandstill n) := Descriptor.holds _
theorem Descriptor.auxDesat (b : AuxNo) (high : Bool) : Descriptor.Statement (.auxDesat b high) := Descriptor.holds _
theorem Descriptor.auxShunt (b : AuxNo) : Descriptor.Statement (.auxShunt b) := Descriptor.holds _
theorem Descriptor.bootUv (b : AuxNo) : Descriptor.Statement (.bootUv b) := Descriptor.holds _
theorem Descriptor.auxFaultSettled (b : AuxUnit) : Descriptor.Statement (.auxFaultSettled b) := Descriptor.holds _
theorem Descriptor.auxRetryElapsed (b : AuxUnit) : Descriptor.Statement (.auxRetryElapsed b) := Descriptor.holds _
theorem Descriptor.auxTriesReset (b : AuxUnit) : Descriptor.Statement (.auxTriesReset b) := Descriptor.holds _
theorem Descriptor.auxPrechargeDone (b : AuxNo) (mv : Nat) : Descriptor.Statement (.auxPrechargeDone b mv) := Descriptor.holds _
theorem Descriptor.auxInterlock (b : AuxNo) : Descriptor.Statement (.auxInterlock b) := Descriptor.holds _
theorem Descriptor.vauxLimit (mv : Nat) (gateSupply : Bool) : Descriptor.Statement (.vauxLimit mv gateSupply) := Descriptor.holds _
theorem Descriptor.chopSwitch (mv : Nat) : Descriptor.Statement (.chopSwitch mv) := Descriptor.holds _
theorem Descriptor.chopFault : Descriptor.Statement (.chopFault) := Descriptor.holds _
theorem Descriptor.extStepPulse (a : AuxNo) (t width : Nat) (neg : Bool) : Descriptor.Statement (.extStepPulse a t width neg) := Descriptor.holds _
theorem Descriptor.stepperHoldReduce (a : AuxNo) : Descriptor.Statement (.stepperHoldReduce a) := Descriptor.holds _
theorem Descriptor.doOverload (n : Fin 8) : Descriptor.Statement (.doOverload n) := Descriptor.holds _
theorem Descriptor.doOverloadRetry (n : Fin 8) : Descriptor.Statement (.doOverloadRetry n) := Descriptor.holds _
theorem Descriptor.encPwrFault (g : Fin 4) : Descriptor.Statement (.encPwrFault g) := Descriptor.holds _
theorem Descriptor.ainBurdenOpen (n : Fin 8) : Descriptor.Statement (.ainBurdenOpen n) := Descriptor.holds _
theorem Descriptor.ainBurdenReclose (n : Fin 8) : Descriptor.Statement (.ainBurdenReclose n) := Descriptor.holds _
theorem Descriptor.canFrameReceived (c : CanNo) (fr : CanFrame) (sof t : Nat) : Descriptor.Statement (.canFrameReceived c fr sof t) := Descriptor.holds _
theorem Descriptor.canPeriodicSend (c : CanNo) (o : ObjNo) : Descriptor.Statement (.canPeriodicSend c o) := Descriptor.holds _
theorem Descriptor.canTxAttemptEnd (c : CanNo) (o : ObjNo) (res : TxResult) (sof t : Nat) : Descriptor.Statement (.canTxAttemptEnd c o res sof t) := Descriptor.holds _
theorem Descriptor.canRecovered (c : CanNo) : Descriptor.Statement (.canRecovered c) := Descriptor.holds _
theorem Descriptor.canRxTimeout (c : CanNo) (o : ObjNo) : Descriptor.Statement (.canRxTimeout c o) := Descriptor.holds _
theorem Descriptor.frankingMessageSend (c : CanNo) : Descriptor.Statement (.frankingMessageSend c) := Descriptor.holds _
theorem Descriptor.irqSourceFire (id : Fin 1024) (level : Bool) : Descriptor.Statement (.irqSourceFire id level) := Descriptor.holds _
theorem Descriptor.irqWithdrawn (id : Fin 1024) : Descriptor.Statement (.irqWithdrawn id) := Descriptor.holds _
theorem Descriptor.claim (c : CoreNo) : Descriptor.Statement (.claim c) := Descriptor.holds _
theorem Descriptor.eoi (c : CoreNo) (v : Word) : Descriptor.Statement (.eoi c v) := Descriptor.holds _
theorem Descriptor.pendingSet (c : CoreNo) (k : Fin 32) (v : Word) : Descriptor.Statement (.pendingSet c k v) := Descriptor.holds _
theorem Descriptor.pendingClr (c : CoreNo) (k : Fin 32) (v : Word) : Descriptor.Statement (.pendingClr c k v) := Descriptor.holds _
theorem Descriptor.enableSet (c : CoreNo) (k : Fin 32) (v : Word) : Descriptor.Statement (.enableSet c k v) := Descriptor.holds _
theorem Descriptor.enableClr (c : CoreNo) (k : Fin 32) (v : Word) : Descriptor.Statement (.enableClr c k v) := Descriptor.holds _
theorem Descriptor.stackFaultClear (c b : CoreNo) (v : Word) : Descriptor.Statement (.stackFaultClear c b v) := Descriptor.holds _
theorem Descriptor.wfi (c : CoreNo) : Descriptor.Statement (.wfi c) := Descriptor.holds _
theorem Descriptor.coreWake (c : CoreNo) : Descriptor.Statement (.coreWake c) := Descriptor.holds _
theorem Descriptor.logicAccessFault (c : CoreNo) (addr : Nat) (size : Nat) (kind : AccessKind) : Descriptor.Statement (.logicAccessFault c addr size kind) := Descriptor.holds _
theorem Descriptor.sortingReport (code kind idx param t : Nat) : Descriptor.Statement (.sortingReport code kind idx param t) := Descriptor.holds _
theorem Descriptor.postmarkClose (t : Nat) : Descriptor.Statement (.postmarkClose t) := Descriptor.holds _
theorem Descriptor.eventRecordDrain : Descriptor.Statement (.eventRecordDrain) := Descriptor.holds _
theorem Descriptor.soRingOverflow (agent : Agent) : Descriptor.Statement (.soRingOverflow agent) := Descriptor.holds _
theorem Descriptor.journalTrigger (t : Nat) : Descriptor.Statement (.journalTrigger t) := Descriptor.holds _
theorem Descriptor.journalFrozen (i : Fin 4) : Descriptor.Statement (.journalFrozen i) := Descriptor.holds _
theorem Descriptor.journalExportBlock : Descriptor.Statement (.journalExportBlock) := Descriptor.holds _
theorem Descriptor.journalExportDone : Descriptor.Statement (.journalExportDone) := Descriptor.holds _
theorem Descriptor.journalLost (lost : List Nat) : Descriptor.Statement (.journalLost lost) := Descriptor.holds _
theorem Descriptor.replayEpoch : Descriptor.Statement (.replayEpoch) := Descriptor.holds _
theorem Descriptor.replayDone : Descriptor.Statement (.replayDone) := Descriptor.holds _
theorem Descriptor.pairRoleDecision (partner : Fin 3) (traffic : Bool) : Descriptor.Statement (.pairRoleDecision partner traffic) := Descriptor.holds _
theorem Descriptor.pairJoin (desc : List Byte) (kernel t epoch : Nat) : Descriptor.Statement (.pairJoin desc kernel t epoch) := Descriptor.holds _
theorem Descriptor.endBStream (frames : List (RoundNo × Frame)) : Descriptor.Statement (.endBStream frames) := Descriptor.holds _
theorem Descriptor.endBStreamAbsent : Descriptor.Statement (.endBStreamAbsent) := Descriptor.holds _
theorem Descriptor.slotRelay (r : RoundNo) (e : End) (rel : Relay) (t : Nat) : Descriptor.Statement (.slotRelay r e rel t) := Descriptor.holds _
theorem Descriptor.inputMessage (epoch : Nat) (secs : List InSec) (verdicts : List (RoundNo × Bool × Bool)) (nos : List Nat) : Descriptor.Statement (.inputMessage epoch secs verdicts nos) := Descriptor.holds _
theorem Descriptor.unfedEpoch : Descriptor.Statement (.unfedEpoch) := Descriptor.holds _
theorem Descriptor.commandForward (no epoch tag : Nat) (agent : Agent) (ring : Fin 8) (op : Op) : Descriptor.Statement (.commandForward no epoch tag agent ring op) := Descriptor.holds _
theorem Descriptor.hashMessage (epoch : Nat) (hash : BitVec 64) (mode : Fin 8) (gen : BitVec 16) (prot : Fin 4) : Descriptor.Statement (.hashMessage epoch hash mode gen prot) := Descriptor.holds _
theorem Descriptor.timeMessage (offset : Int) (lp : Nat) : Descriptor.Statement (.timeMessage offset lp) := Descriptor.holds _
theorem Descriptor.pairLinkLost : Descriptor.Statement (.pairLinkLost) := Descriptor.holds _
theorem Descriptor.pairLinkSlow (lp : Nat) : Descriptor.Statement (.pairLinkSlow lp) := Descriptor.holds _
theorem Descriptor.stateEnvelope (epoch : Nat) (readable : Bool) (pts : List (Pt × Word)) (image : Machine.LaneImage) : Descriptor.Statement (.stateEnvelope epoch readable pts image) := Descriptor.holds _
theorem Descriptor.resyncTransferDone (epoch : Nat) (pts : List (Pt × Word)) (image : Machine.LaneImage) : Descriptor.Statement (.resyncTransferDone epoch pts image) := Descriptor.holds _
theorem Descriptor.surrender (h : Nat) (fault : Bool) : Descriptor.Statement (.surrender h fault) := Descriptor.holds _
theorem Descriptor.pairDemoted : Descriptor.Statement (.pairDemoted) := Descriptor.holds _
theorem Descriptor.warmTakeoverResume : Descriptor.Statement (.warmTakeoverResume) := Descriptor.holds _
theorem Descriptor.logicRestarted : Descriptor.Statement (.logicRestarted) := Descriptor.holds _
theorem Descriptor.railRestored (n : Fin 8) : Descriptor.Statement (.railRestored n) := Descriptor.holds _
theorem Descriptor.powerLost : Descriptor.Statement (.powerLost) := Descriptor.holds _
theorem Descriptor.canRxError (c : CanNo) (dominantAfter : Bool) : Descriptor.Statement (.canRxError c dominantAfter) := Descriptor.holds _
theorem Descriptor.pullInElapsed (a : AuxNo) : Descriptor.Statement (.pullInElapsed a) := Descriptor.holds _
theorem Descriptor.otpFuse (item : OtpItem) : Descriptor.Statement (.otpFuse item) := Descriptor.holds _
theorem Descriptor.discoverArrived (r : RoundNo) (e : End) (next : Option (Fin 256)) : Descriptor.Statement (.discoverArrived r e next) := Descriptor.holds _
theorem Descriptor.pcieLinkUp (gen : Fin 4) (width : Fin 5) : Descriptor.Statement (.pcieLinkUp gen width) := Descriptor.holds _

end Sys2Proof.Laws
end

