-- ==== Sys2Proof/Laws/Raised.lean ====
section
/-!
SUPPORT. Laws/Raised.lean: an event that is raised stands in an open postmark afterwards.
-/
namespace Sys2Proof.Machine

/-! ## What leaves the sorting office alone -/

@[simp] theorem State.put_so' (s : State) (f : Field) (i v : Nat) : (s.put64 f i v).so = s.so := rfl
@[simp] theorem State.putSrc_so (s : State) (n : Nat) (v : Src) : (s.putSrc n v).so = s.so := rfl
@[simp] theorem State.putCore_so (s : State) (n : Nat) (v : CoreIf) : (s.putCore n v).so = s.so := rfl

theorem forN_so (n : Nat) (f : Nat → State → State) (s : State) (h : ∀ a t, (f a t).so = t.so) : (forN n f s).so = s.so := by
  induction n generalizing s with
  | zero => rfl
  | succ n ih => simp [forN, h, ih]

theorem forL_so {α : Type} (l : List α) (f : α → State → State) (s : State) (h : ∀ a t, (f a t).so = t.so) :
    (forL l f s).so = s.so := by
  induction l generalizing s with
  | nil => rfl
  | cons a l ih => simp [forL, h, ih]

@[simp] theorem State.represent_so (s : State) (c : Nat) : (s.represent c).1.so = s.so := by
  unfold State.represent
  split
  · rfl
  · exact forN_so _ _ _ fun _ _ => rfl

@[simp] theorem State.irqWakeFor_so (s : State) (n : Nat) : (s.irqWakeFor n).so = s.so := by
  unfold State.irqWakeFor
  dsimp only
  split
  · exact forN_so _ _ _ fun a t => by split <;> rfl
  · rfl

@[simp] theorem State.irqSettle_so (s : State) (l : List Nat) (c : Nat) : (s.irqSettle l c).1.so = s.so := by
  unfold State.irqSettle
  exact (forL_so _ _ _ fun a t => State.irqWakeFor_so _ _).trans
    ((forL_so _ (fun (d : Nat × Nat) t => t.inc .coreDeadLetters d.1) _ fun a t => rfl).trans (State.represent_so _ _))

@[simp] theorem State.irqFire_so (s : State) (n : Nat) : (s.irqFire n).so = s.so := by
  unfold State.irqFire; split <;> simp

@[simp] theorem State.putCapture_so (s : State) (i : Nat) (c : Capture) : (s.putCapture i c).so = s.so := rfl
@[simp] theorem State.jrnPublish_so (s : State) : s.jrnPublish.so = s.so := rfl

/-! ## Open postmarks -/

theorem mem_insertBy {α : Type} (le : α → α → Bool) (x y : α) (l : List α) : y ∈ insertBy le x l ↔ y = x ∨ y ∈ l := by
  induction l with
  | nil => simp [insertBy]
  | cons a l ih =>
    unfold insertBy
    split
    · simp
    · simp only [List.mem_cons, ih]; exact or_left_comm

theorem length_insertBy {α : Type} (le : α → α → Bool) (x : α) (l : List α) : (insertBy le x l).length = l.length + 1 := by
  induction l with
  | nil => rfl
  | cons a l ih =>
    unfold insertBy
    split
    · simp
    · simp [ih]

theorem Postmarked.insert {l : List Postmark} {c k i : Nat} (h : Postmarked l c k i) (p : Postmark) :
    Postmarked (insertBy Postmark.le p l) c k i := by
  obtain ⟨q, hq, h⟩ := h
  exact ⟨q, (mem_insertBy _ _ _ _).2 (.inr hq), h⟩

theorem Postmark.add_idxs (p : Postmark) (r : Rep) : r.idx ∈ (p.add r).idxs ∧ p.idxs ⊆ (p.add r).idxs := by
  unfold Postmark.add
  by_cases h : r.idx ∈ p.idxs
  · simp [h]
  · simp [h]

/-- A report that joins a postmark: its length stays, the report is held, and what was held stays held. -/
theorem joinPostmark_spec (c k : Nat) (r : Rep) (l o : List Postmark) (h : joinPostmark c k r l = some o) :
    o.length = l.length ∧ Postmarked o c k r.idx ∧ ∀ a b i, Postmarked l a b i → Postmarked o a b i := by
  induction l generalizing o with
  | nil => cases h
  | cons p l ih =>
    unfold joinPostmark at h
    split at h
    · next ht =>
      cases h
      have ht' : p.code = c ∧ p.kind = k := by
        simp only [Postmark.takes, Bool.and_eq_true, beq_iff_eq] at ht; exact ht.1.1
      refine ⟨rfl, ⟨p.add r, by simp, ht'.1, ht'.2, (p.add_idxs r).1⟩, fun a b i hp => ?_⟩
      obtain ⟨q, hq, e⟩ := hp
      rcases List.mem_cons.1 hq with rfl | hq
      · exact ⟨q.add r, by simp, e.1, e.2.1, (q.add_idxs r).2 e.2.2⟩
      · exact ⟨q, List.mem_cons_of_mem _ hq, e⟩
    · obtain ⟨o', ho', rfl⟩ := Option.map_eq_some_iff.1 h
      obtain ⟨h1, ⟨q, hq, e⟩, h3⟩ := ih o' ho'
      refine ⟨by simp [h1], ⟨q, List.mem_cons_of_mem _ hq, e⟩, fun a b i hp => ?_⟩
      obtain ⟨q, hq, e⟩ := hp
      rcases List.mem_cons.1 hq with rfl | hq
      · exact ⟨q, by simp, e⟩
      · obtain ⟨q', hq', e'⟩ := h3 a b i ⟨q, hq, e⟩
        exact ⟨q', List.mem_cons_of_mem _ hq', e'⟩

theorem State.openPostmark_opened (s : State) (p : Postmark) :
    (s.openPostmark p).so = { s.so with opened := insertBy Postmark.le p s.so.opened } := by
  unfold State.openPostmark
  dsimp only
  split <;> rfl

/-- A report with room among the open postmarks: it is held, what was held stays held, and at most one postmark is new. -/
theorem State.ingest_spec (n c k : Nat) (r : Rep) (s : State) (h : s.so.opened.length < 64) :
    Postmarked (State.ingest n c k r s).so.opened c k r.idx ∧
    (∀ a b i, Postmarked s.so.opened a b i → Postmarked (State.ingest n c k r s).so.opened a b i) ∧
    (State.ingest n c k r s).so.opened.length ≤ s.so.opened.length + 1 := by
  unfold State.ingest
  split
  · next o ho =>
    obtain ⟨h1, h2, h3⟩ := joinPostmark_spec c k r _ o ho
    exact ⟨h2, h3, by show o.length ≤ _; omega⟩
  · have key : ∀ p : Postmark, p.code = c ∧ p.kind = k ∧ r.idx ∈ p.idxs →
        Postmarked (s.openPostmark p).so.opened c k r.idx ∧
        (∀ a b i, Postmarked s.so.opened a b i → Postmarked (s.openPostmark p).so.opened a b i) ∧
        (s.openPostmark p).so.opened.length ≤ s.so.opened.length + 1 := fun p hp => by
      rw [State.openPostmark_opened]
      exact ⟨⟨p, (mem_insertBy _ _ _ _).2 (.inl rfl), hp⟩, fun a b i hq => hq.insert p, Nat.le_of_eq (length_insertBy _ _ _)⟩
    split
    · rw [if_neg (by omega)]; exact key _ ⟨rfl, rfl, by simp [State.newPostmark]⟩
    · exact key _ ⟨rfl, rfl, by simp [State.newPostmark]⟩

theorem State.report_spec (s : State) (c k i p t : Nat) (h : s.so.opened.length < 64) :
    (s.so.taken < 256 → Postmarked (s.report c k i p t).so.opened c k i) ∧
    (∀ a b j, Postmarked s.so.opened a b j → Postmarked (s.report c k i p t).so.opened a b j) ∧
    (s.report c k i p t).so.opened.length ≤ s.so.opened.length + 1 := by
  unfold State.report
  split
  · obtain ⟨h1, h2, h3⟩ := State.ingest_spec 2 c k { idx := i, param := p % 2 ^ 32, time := t }
      ((s.withSo { s.so with taken := s.so.taken + 1 }).inc .soReports) h
    exact ⟨fun _ => h1, h2, h3⟩
  · next hx => exact ⟨fun hy => absurd hy hx, fun _ _ _ hp => hp, Nat.le_succ _⟩

theorem State.captureTrigger_postmarked (s : State) (t p q : Nat) (h : s.so.opened.length < 64) (a b j : Nat)
    (hp : Postmarked s.so.opened a b j) : Postmarked (s.captureTrigger t p q).1.so.opened a b j := by
  unfold State.captureTrigger
  dsimp only
  repeat' split
  · exact hp
  · exact (State.report_spec s _ _ _ _ _ h).2.1 a b j hp
  · exact hp
  · simp only [State.jrnPublish_so]
    exact (State.report_spec _ _ _ _ _ _ (by exact h)).2.1 a b j hp

/-- An event that is raised stands in an open postmark afterwards. -/
theorem State.raiseAt_raised (s : State) (c k i p t : Nat) : Raised s (s.raiseAt c k i p t) c k i := fun h1 h2 => by
  obtain ⟨a1, a2, a3⟩ := State.report_spec s c k i p t (by omega)
  unfold State.raiseAt
  extract_lets s1 s2
  have hs2 : s2.so = s1.so := by simp only [s2]; split <;> simp
  have hp : Postmarked s2.so.opened c k i := by rw [hs2]; exact a1 h1
  have hl : s2.so.opened.length < 64 := by rw [hs2]; simp only [s1]; omega
  split
  · exact State.captureTrigger_postmarked _ _ _ _ hl _ _ _ hp
  · exact hp

/-- The same where other parts of the state changed before. -/
theorem Raised.of_so {s s1 t : State} {c k i : Nat} (h : Raised s1 t c k i) (hs : s1.so = s.so) : Raised s t c k i := by
  unfold Raised at *; rw [← hs]; exact h

theorem State.raise_raised {s : State} (s1 : State) (c k i p : Nat) (hs : s1.so = s.so) : Raised s (s1.raise c k i p) c k i :=
  (s1.raiseAt_raised c k i p _).of_so hs

theorem State.raiseLane_raised {s : State} (s1 : State) (c k i p : Nat) (hs : s1.so = s.so) :
    Raised s (s1.raiseLane c k i p) c k i := (s1.raiseAt_raised c k i p _).of_so hs

end Sys2Proof.Machine
end

