-- ==== Sys2Proof/Laws/Yields.lean ====
section
/-!
SUPPORT. Laws/Yields.lean: small steps that most proofs about one command take.
-/
namespace Sys2Proof.Machine

theorem yields_next {t : State} {P : State → Prop} (h : P t) : Yields (.next t) P := ⟨t, rfl, h⟩

theorem yields_if {c : Prop} [Decidable c] {s t : State} {P : State → Prop} (hc : c) (h : P t) :
    Yields (.next (if c then t else s)) P := ⟨t, by rw [if_pos hc], h⟩

theorem yields_command {s : State} {f : Field} {d v : Nat} {ok : Bool} {eff : State → State} {P : State → Prop} (hok : ok = true)
    (h : P (eff (s.putN f d v))) : Yields (.next (s.command f d v ok eff)) P :=
  ⟨_, rfl, by unfold State.command; rw [if_pos hok]; exact h⟩

theorem State.n_ext {s t : State} {f : Field} {i j : Nat} (h : t.w f i j = s.w f i j) : t.n f i j = s.n f i j := by
  simp only [State.n, h]

theorem State.n_lt (s : State) (f : Field) (i j : Nat) : s.n f i j < 2 ^ 32 := (s.w f i j).isLt

theorem State.n_putN_run {s : State} {f : Field} {d v : Nat} (h : v < 2 ^ 32 := by decide) : (s.putN f d v).n f d = v :=
  State.n_putN_same _ _ _ _ _ h

@[simp] theorem State.raise_n (s : State) (a b c e : Nat) (f : Field) (i j : Nat) (h : fieldReports f = false) :
    (s.raise a b c e).n f i j = s.n f i j := State.n_of_quiet (s.raise_quiet _ _ _ _) _ _ _ h
@[simp] theorem State.raiseLane_n (s : State) (a b c e : Nat) (f : Field) (i j : Nat) (h : fieldReports f = false) :
    (s.raiseLane a b c e).n f i j = s.n f i j := State.n_of_quiet (s.raiseLane_quiet _ _ _ _) _ _ _ h

theorem QuietPoints.n {s t : State} {ps : List Pt} (h : QuietPoints s t ps) (f : Field) (i j : Nat) (hn : (⟨f, i, j⟩ : Pt) ∉ ps)
    (hf : fieldReports f = false) : t.n f i j = s.n f i j := State.n_ext (h f i j hn hf)

theorem QuietPoints.putN (s : State) (f : Field) (i v j : Nat) : QuietPoints s (s.putN f i v j) [⟨f, i, j⟩] :=
  QuietPoints.put s f i _ j

/-- One more operation that leaves the points, at the end of a frame. -/
theorem QuietPoints.then {s t u : State} {ps : List Pt} (h : QuietPoints s t ps)
    (k : ∀ f i j, fieldReports f = false → u.w f i j = t.w f i j) : QuietPoints s u ps :=
  fun f i j hn hf => (k f i j hf).trans (h f i j hn hf)

theorem QuietPoints.raise {s t : State} {ps : List Pt} (h : QuietPoints s t ps) (a b c d : Nat) :
    QuietPoints s (t.raise a b c d) ps := h.then fun f i j hf => t.raise_w a b c d f i j hf

theorem QuietPoints.raiseLane {s t : State} {ps : List Pt} (h : QuietPoints s t ps) (a b c d : Nat) :
    QuietPoints s (t.raiseLane a b c d) ps := h.then fun f i j hf => t.raiseLane_w a b c d f i j hf

theorem QuietFields.of_points {s t : State} {ps : List Pt} {fs : List Field} (h : QuietPoints s t ps)
    (hs : ∀ p ∈ ps, p.f ∈ fs) : QuietFields s t fs := fun f i j hn hf => h f i j (fun hm => hn (hs _ hm)) hf

theorem QuietFields.refl (s : State) (fs : List Field) : QuietFields s s fs := fun _ _ _ _ _ => rfl

theorem QuietFields.of_quiet {s t : State} (h : t.quiet = s.quiet) (fs : List Field) : QuietFields s t fs :=
  fun f i j _ hf => State.w_of_quiet h f i j hf

theorem QuietFields.put (s : State) (f : Field) (i : Nat) (w : Word) (j : Nat) : QuietFields s (s.put f i w j) [f] :=
  fun _ _ _ hn _ => s.w_put_field w (by simpa using hn)

theorem QuietFields.putN (s : State) (f : Field) (i v j : Nat) : QuietFields s (s.putN f i v j) [f] := QuietFields.put s f i _ j

theorem QuietFields.trans {s t u : State} {fs gs : List Field} (h : QuietFields s t fs) (k : QuietFields t u gs) :
    QuietFields s u (fs ++ gs) := fun f i j hn hf => by
  simp only [List.mem_append, not_or] at hn
  rw [k f i j hn.2 hf, h f i j hn.1 hf]

theorem QuietFields.mono {s t : State} {fs gs : List Field} (h : QuietFields s t fs) (hs : fs ⊆ gs) : QuietFields s t gs :=
  fun f i j hn hf => h f i j (fun hm => hn (hs hm)) hf

/-- Parts of the host interface, and of the journal, that reporting leaves. -/
theorem State.hostPart_of_quiet {α : Type} {s t : State} (h : t.quiet = s.quiet) (g : HostIf → α)
    (hg : ∀ v, g { v with rings := v.rings.filter (fun e => !recordRing e.1), msixPend := 0 } = g v) : g t.host = g s.host := by
  have := congrArg (fun x => g x.1.host) h
  simpa [State.quiet, State.rest, State.withHost, State.withOut, hg] using this

theorem State.jrnPart_of_quiet {α : Type} {s t : State} (h : t.quiet = s.quiet) (g : Journal → α)
    (hg : ∀ v, g { v with caps := [] } = g v) : g t.jrn = g s.jrn := by
  have := congrArg (fun x => g x.1.jrn) h
  simpa [State.quiet, State.rest, State.withHost, State.withOut, State.withJrn, hg] using this

theorem Tab.get_filter {α : Type} (d : α) (p : Nat → Bool) (t : Tab α) (n : Nat) (h : p n = true) :
    Tab.get d (t.filter (fun e => p e.1)) n = Tab.get d t n := by
  induction t with
  | nil => rfl
  | cons e r ih =>
    obtain ⟨k, u⟩ := e
    by_cases hk : p k = true
    · rw [List.filter_cons_of_pos (by exact hk)]; simp only [Tab.get, ih]
    · rw [List.filter_cons_of_neg (by simpa using hk), ih]
      have : k ≠ n := fun e => hk (e ▸ h)
      simp [Tab.get, this]

/-- Reporting leaves every ring but the two event rings. -/
theorem State.ring_of_quiet {s t : State} (h : t.quiet = s.quiet) (k : Nat) (hk : recordRing k = false) : t.ring k = s.ring k := by
  have := congrArg (fun x => Tab.get Ring.init x.1.host.rings k) h
  simp only [State.quiet, State.rest, State.withHost, State.withOut] at this
  rw [Tab.get_filter _ (fun k => !recordRing k) _ _ (by simp [hk]), Tab.get_filter _ (fun k => !recordRing k) _ _ (by simp [hk])] at this
  exact this

end Sys2Proof.Machine
end

