-- ==== Sys2Proof/Machine/Bytes.lean ====
section
/-!
DEFINITION. Bytes.lean: the records that cross into host memory, byte by byte, every field little-endian (R5): command
descriptors and their payloads, completions, envelopes, event records, mailbag records and export blocks.
-/
namespace Sys2Proof.Machine

/-- Zero bytes. -/
def zeros (n : Nat) : List Byte := List.replicate n 0

/-- A body padded with zeros to a multiple of 8 bytes. -/
def pad8 (bs : List Byte) : List Byte := bs ++ zeros ((8 - bs.length % 8) % 8)

/-! ## Descriptors (Tables 11.6a and 11.7) -/

/-- A list of items behind its count and 2 bytes of 0. -/
def counted {α : Type} (item : α → List Byte) (xs : List α) : List Byte :=
  Arith.leBytes 2 xs.length ++ zeros 2 ++ xs.flatMap item

/-- The payload of an opcode; `buf` is the address of the buffer that it names, where it names one (Table 11.7). -/
def opPayload (buf : Nat) : Op → List Byte
  | .nop | .requestF | .journalRelease | .pairHandover | .pairResync => []
  | .cancel tag ring => Arith.leBytes 4 tag ++ Arith.leBytes 1 ring ++ zeros 3
  | .writePoints items => counted (fun e => Arith.leBytes 4 e.1 ++ Arith.leBytes 4 e.2.toNat) items
  | .writeMasked items =>
    counted (fun e => Arith.leBytes 4 e.1 ++ Arith.leBytes 4 e.2.1.toNat ++ Arith.leBytes 4 e.2.2.toNat) items
  | .readPoints addr idx =>
    Arith.leBytes 2 idx.length ++ zeros 2 ++ Arith.leBytes 8 addr ++ idx.flatMap (Arith.leBytes 4)
  | .subscribeP idx | .unsubscribeP idx => counted (Arith.leBytes 4) idx
  | .setM ranges => counted (fun e => Arith.leBytes 4 e.1 ++ Arith.leBytes 4 e.2) ranges
  | .envPolicy tier policy => Arith.leBytes 1 tier ++ Arith.leBytes 1 policy ++ zeros 2
  | .loadPd _ length => Arith.leBytes 8 buf ++ Arith.leBytes 4 length ++ zeros 4
  | .roundLinkup mask => Arith.leBytes 2 mask ++ zeros 2
  | .cellBypass addr v | .cellGates addr v => Arith.leBytes 2 addr ++ Arith.leBytes 1 v ++ zeros 1
  | .slowRead addr off count => Arith.leBytes 2 addr ++ Arith.leBytes 2 off ++ Arith.leBytes 1 count ++ zeros 3
  | .itinLoad engine pts =>
    Arith.leBytes 1 engine ++ zeros 3 ++ Arith.leBytes 2 pts.length ++ zeros 2 ++
      pts.flatMap (fun p => Arith.leBytes 4 p.1 ++ Arith.leBytes 8 (BitVec.ofInt 64 p.2.1).toNat ++
        Arith.leBytes 4 (Word.ofInt p.2.2).toNat)
  | .canRecover ctl => Arith.leBytes 1 ctl ++ zeros 3
  | .canAbort ctl obj => Arith.leBytes 1 ctl ++ zeros 1 ++ Arith.leBytes 2 obj
  | .journalFreeze pre post => Arith.leBytes 4 pre ++ Arith.leBytes 4 post
  | .journalExport first last => Arith.leBytes 8 (first % 2 ^ 48) ++ Arith.leBytes 8 (last % 2 ^ 48)
  | .replayFeed blocks => Arith.leBytes 8 buf ++ Arith.leBytes 4 blocks.length ++ zeros 4
  | .fwWrite _ length off => Arith.leBytes 8 buf ++ Arith.leBytes 4 length ++ Arith.leBytes 4 off
  | .fwCommit length => Arith.leBytes 4 length ++ zeros 4

/-- Whether a payload goes by pointer: above 48 bytes, and always for ITIN_LOAD (R338). -/
def byPointer (op : Op) (payload : List Byte) : Bool :=
  decide (48 < payload.length) || (match op with | .itinLoad _ _ => true | _ => false)

/-- The 64 bytes of a descriptor (Table 11.6a): `buf` as in `opPayload`, `at'` the address of a payload by pointer. -/
def descBytes (buf at' : Nat) (d : Desc) : List Byte :=
  let payload := opPayload buf d.op
  let ptr := byPointer d.op payload
  let head := Arith.leBytes 1 (d.hdr.minor + 2 ^ 4 * d.hdr.major)
    ++ Arith.leBytes 1 (Arith.b2n ptr + 2 * Arith.b2n d.hdr.notice + 4 * Arith.b2n d.hdr.quiet)
    ++ Arith.leBytes 2 (d.hdr.opcode.getD (opCode d.op)) ++ Arith.leBytes 4 d.hdr.tag ++ Arith.leBytes 6 d.hdr.apply
    ++ Arith.leBytes 2 (if ptr then 0 else payload.length)
  let body := if ptr then Arith.leBytes 8 at' ++ Arith.leBytes 4 payload.length else payload
  head ++ body ++ zeros (48 - body.length)

/-! ## Completions (Table 11.9) and event records (Table 17.5) -/

/-- The 32 bytes of a completion; the last four are its seal. -/
def Cpl.spell (c : Cpl) : List Byte :=
  Arith.leBytes 4 c.seq ++ Arith.leBytes 4 c.tag ++ Arith.leBytes 2 c.status ++ Arith.leBytes 2 c.opcode
    ++ Arith.leBytes 6 c.epoch ++ Arith.leBytes 2 c.slot ++ Arith.leBytes 1 c.ring ++ Arith.leBytes 1 (Arith.b2n c.notice)
    ++ Arith.leBytes 2 c.item ++ Arith.leBytes 4 c.value ++ Arith.leBytes 4 c.seq

/-- A reporter: kind in [15:12], index in [11:0]. -/
def reporterWord (kind idx : Nat) : Nat := 2 ^ 12 * kind + idx % 2 ^ 12

/-- The 32 bytes of an event record. -/
def EvRec.spell (e : EvRec) : List Byte :=
  Arith.leBytes 8 e.seq ++ Arith.leBytes 2 e.code ++ Arith.leBytes 2 (reporterWord e.kind e.firstIdx)
    ++ Arith.leBytes 2 (reporterWord e.kind e.lastIdx) ++ Arith.leBytes 2 e.count ++ Arith.leBytes 8 e.time
    ++ Arith.leBytes 4 e.param ++ Arith.leBytes 1 e.slot ++ Arith.leBytes 1 e.flags ++ Arith.leBytes 2 e.span

/-! ## Envelopes (Tables 12.2 and 12.3, R366) -/

/-- A block: first index, count, commit epoch, the values, and a pad where their number is odd. -/
def EnvBlock.spell (b : EnvBlock) : List Byte :=
  Arith.leBytes 4 b.first ++ Arith.leBytes 2 b.vals.length ++ zeros 2 ++ Arith.leBytes 6 b.commit ++ zeros 2
    ++ b.vals.flatMap (fun w => Arith.leBytes 4 w.toNat) ++ zeros (4 * (b.vals.length % 2))

/-- The 64 bytes of the header. -/
def Envelope.header (e : Envelope) : List Byte :=
  Arith.leBytes 8 e.seq ++ Arith.leBytes 1 e.tier ++ Arith.leBytes 1 1 ++ Arith.leBytes 2 e.flags ++ Arith.leBytes 6 e.epoch
    ++ Arith.leBytes 2 e.setGen ++ Arith.leBytes 8 e.time ++ Arith.leBytes 4 e.length ++ Arith.leBytes 4 e.blocks.length
    ++ Arith.leBytes 4 ((e.blocks.map (·.vals.length)).sum) ++ Arith.leBytes 4 e.skipped ++ Arith.leBytes 1 e.skipCause
    ++ zeros 3 ++ Arith.leBytes 6 e.prevEpoch ++ Arith.leBytes 1 e.mode ++ Arith.leBytes 1 e.protection ++ zeros 8

/-- The 32 bytes of the trailer, which the seal writes (R366, R369). -/
def Envelope.trailer (e : Envelope) : List Byte := Arith.leBytes 8 e.seq ++ Arith.leBytes 6 e.epoch ++ zeros 18

/-- A sealed envelope. -/
def Envelope.spell (e : Envelope) : List Byte := e.header ++ e.blocks.flatMap EnvBlock.spell ++ e.trailer

/-! ## Mailbag records (R382 to R385) and export blocks (R393) -/

/-- A section: kind, unit, item count, body length, padded body; omitted where its count would be 0 (R382). -/
def mailSection (kind unit count : Nat) (body : List Byte) : List Byte :=
  if count = 0 then []
  else Arith.leBytes 1 kind ++ Arith.leBytes 1 unit ++ Arith.leBytes 2 count ++ Arith.leBytes 4 body.length ++ pad8 body

/-- Items of one of the sections 1 to 6 (Table 13.2). -/
def secItems (x : InSec) : Nat :=
  match x.kind with
  | 3 => x.words.length / 8
  | 4 => x.words.length
  | 6 => (canItems x.words.length (secBytes x)).length
  | _ => 1

/-- One applied command in section 7. -/
def appliedBytes (a : Applied) : List Byte :=
  Arith.leBytes 1 a.agent ++ Arith.leBytes 1 a.ring ++ Arith.leBytes 2 a.opcode ++ Arith.leBytes 4 a.tag
    ++ Arith.leBytes 2 a.items.length ++ zeros 6 ++ a.items.flatMap (fun e => Arith.leBytes 4 e.1 ++ Arith.leBytes 4 e.2)

/-- Runs of points with consecutive indices, for section 34 (R384). -/
def pointRuns (pts : List (Nat × Word)) : List EnvBlock := envBlocks (pts.map (fun e => (e.1, 0, e.2)))

/-- A run of section 34: first index, count, values. -/
def runBytes (b : EnvBlock) : List Byte :=
  Arith.leBytes 4 b.first ++ Arith.leBytes 4 b.vals.length ++ b.vals.flatMap (fun w => Arith.leBytes 4 w.toNat)

/-- The sections of a record by its kind. `engine` gives the bodies of sections 16 to 33 in the form that the control-kernel version
defines (R384); `setting` and `serial` are the epoch setting and the module's serial number (R385). -/
def MailRec.sections (m : MailRec) (engine : Nat → List Byte) (setting serial : Nat) : List Byte :=
  match m.kind with
  | 1 =>
    m.inputs.flatMap (fun x => mailSection x.kind x.unit (secItems x) (secBytes x))
      ++ mailSection 7 0 m.cmds.length (m.cmds.flatMap appliedBytes)
      ++ mailSection 8 0 m.hashes.length (m.hashes.flatMap (Arith.leBytes 8))
  | 2 =>
    let runs := pointRuns (m.state.map (fun e => (ptIndex e.1, e.2)))
    (List.range' 16 18).flatMap (fun k => mailSection k 0 1 (engine k)) ++ mailSection 34 0 runs.length (runs.flatMap runBytes)
  | _ =>
    mailSection 40 0 1 (m.digest ++ Arith.leBytes 2 m.kernel ++ Arith.leBytes 2 Config.catalogueVersion.toNat
      ++ Arith.leBytes 1 setting ++ zeros 3 ++ Arith.leBytes 8 serial)

/-- The 32 bytes of a record's header with a value in its CRC field (Table 13.1). -/
def MailRec.header (m : MailRec) (length crc : Nat) : List Byte :=
  Arith.leBytes 1 m.kind ++ Arith.leBytes 1 1 ++ Arith.leBytes 2 m.flags ++ Arith.leBytes 6 m.epoch ++ zeros 2
    ++ Arith.leBytes 4 length ++ Arith.leBytes 8 m.time ++ Arith.leBytes 4 crc ++ Arith.leBytes 1 m.mode ++ zeros 3

/-- A whole record: its CRC-32 covers it with the CRC field taken as 0 (Table 13.1). -/
def MailRec.spell (m : MailRec) (engine : Nat → List Byte) (setting serial : Nat) : List Byte :=
  let body := m.sections engine setting serial
  let length := 32 + body.length
  m.header length (Arith.crc32 (m.header length 0 ++ body)) ++ body

/-- An export block: header, whole records, trailer (R393). -/
def exportBytes (seq first last flags : Nat) (recs : List (List Byte)) : List Byte :=
  let body := recs.flatten
  Arith.leBytes 8 seq ++ Arith.leBytes 6 first ++ Arith.leBytes 6 last ++ Arith.leBytes 4 (64 + body.length)
    ++ Arith.leBytes 4 recs.length ++ Arith.leBytes 2 flags ++ zeros 2 ++ body ++ Arith.leBytes 8 seq ++ zeros 24

end Sys2Proof.Machine
end

