-- ==== Sys2Proof/Tests/Slice0.lean ====
section
/-!
SUPPORT. Slice0.lean: tests. A term that each check of WellFormed refuses; worked values of the manual; and for every statement with
hypotheses, states that meet them (one for each of its clauses, at the ends of its ranges where it has one).
-/
set_option Elab.async false

namespace Sys2Proof.Tests

open Sys2Proof.Machine

/-! ## Small states -/

/-- A block with power, firmware, high STO inputs and a running time base. -/
def live : State :=
  (State.reset.withDev { State.reset.dev with powered := true, boot := 0, supUp := true, logicUp := true, stoA := true, stoB := true }).withClk
    { State.reset.clk with running := true, started := true }

/-- A state with these points. -/
def pts (s : State) (l : List (Field × Nat × Nat)) : State := l.foldl (fun t e => t.putN e.1 e.2.1 e.2.2) s

/-- A live block in a mode. -/
def inMode (m : Nat) : State := pts live [(.devMode, 0, m)]

/-- A drive of a description. -/
def drive (d : Nat) (shaft : Option Nat) (fb : Option Nat) : DriveDesc :=
  { drive := d, type := 0, topology := 0, modMode := 0, nSets := 1, setOffset := 0, lane := none, power := 0, prio := 0, shaft := shaft,
    fb := fb, cprNum := 4096, cprDen := 1, iSdm := [], iScale := 1, vLine := [], vScale := 1, hostLoss := 0, ctrlOpts := 0 }

/-- A plant of one drive, round 0 with one position in one arm, CAN controller 0 and engine 0. -/
def plant : Plant :=
  { Plant.none with rounds := [0], drives := [drive 0 none (some 0)], units := [⟨4, 0⟩, ⟨5, 0⟩], pos := [⟨0, 0, 0, 1, some 7⟩],
                    arms := [⟨7, 0, 0, 0, 0, 0, 1, 0⟩] }

/-- A live block in a mode with that plant. -/
def planted (m : Nat) : State := (inMode m).withPlant plant

/-- The same with the drive in shaft group 0. -/
def grouped (m : Nat) : State := (inMode m).withPlant { plant with drives := [drive 0 (some 0) none], shafts := [⟨0, [0]⟩] }

/-- Drive 0 in a regime in Run. -/
def inRegime (r : Nat) : State := pts (planted 3) [(.drvRegime, 0, r)]

/-! ## Ill-formed commands, one for each check -/

/-- A header whose fields fit. -/
def okHdr : DescHdr :=
  { major := 1, minor := 0, formOk := true, opcode := none, notice := false, quiet := false, tag := 0, apply := 0 }

/-- Samples of an epoch boundary in their lengths. -/
def okSamples : Samples :=
  { ain := List.replicate 8 0, sdm := List.replicate 16 0, di := 0, temp := List.replicate 6 0, tx := List.replicate 12 0,
    supply := List.replicate 11 0, auxI := List.replicate 12 0, vaux := 0, sinCos := List.replicate 8 (0, 0), tokenDiffers := false,
    lowV := 0, missing := 0 }

/-- A downstream frame of a stream. -/
def okFrame : Frame :=
  { franking := 0, epoch := 0, generation := 0, token := 0, check := 0, offset := 1, setting := 0, linkup := true, lo := 0, hi := 0,
    arms := [], trims := [], slows := [], dirs := [] }

theorem test_wellformed_accepts :
    ([.epochBoundary okSamples, .nop .host 0 okHdr, .endBStream [(0, okFrame)], .registerWrite .bar0 4 0, .ssiFrame 0 5 true,
      .canFrameReceived 0 ⟨0x7FF, false, false, false, false, List.replicate 8 0⟩ 0 0, .logicAccessFault 2 0 8 .load,
      .sortingReport 0xFFFF 255 0xFFFF 0 0, .otpFuse (.keySlot 3 (List.replicate 32 0)), .wake 255, .modeCmdOverride 9] : List Instr).all Instr.wf = true := by decide

theorem test_samples_refused :
    ([{ okSamples with ain := [] }, { okSamples with sdm := [] }, { okSamples with di := 2 ^ 16 }, { okSamples with temp := [] },
      { okSamples with tx := [] }, { okSamples with supply := [] }, { okSamples with auxI := [] }, { okSamples with sinCos := [] },
      { okSamples with lowV := 2 ^ 16 }, { okSamples with missing := 2 ^ 40 }] : List Samples).all (fun x => !(Instr.epochBoundary x).wf) = true := by
  decide

theorem test_headers_refused :
    ([{ okHdr with major := 16 }, { okHdr with minor := 16 }, { okHdr with opcode := some (2 ^ 16) }, { okHdr with tag := 2 ^ 32 },
      { okHdr with apply := 2 ^ 48 }] : List DescHdr).all (fun h => !(Instr.nop .host 0 h).wf && !(Instr.requestF .logic 7 h).wf &&
        !(Instr.journalRelease .host 0 h).wf && !(Instr.pairHandover .host 0 h).wf && !(Instr.pairResync .host 0 h).wf) = true := by decide

theorem test_payloads_refused :
    ([.cancel (2 ^ 32) 0, .cancel 0 256, .writePoints [(2 ^ 32, 0)], .writeMasked [(2 ^ 32, 0, 0)], .readPoints (2 ^ 64) [],
      .readPoints 0 [2 ^ 32], .subscribeP [2 ^ 32], .unsubscribeP [2 ^ 32], .setM [(2 ^ 32, 0)], .setM [(0, 2 ^ 32)], .envPolicy 256 0,
      .envPolicy 0 256, .loadPd [] (2 ^ 32), .loadPd [0] 0, .roundLinkup (2 ^ 16), .cellBypass (2 ^ 16) 0, .cellBypass 0 256,
      .cellGates (2 ^ 16) 0, .cellGates 0 256, .slowRead (2 ^ 16) 0 1, .slowRead 0 (2 ^ 16) 1, .slowRead 0 0 256, .itinLoad 256 [],
      .itinLoad 0 [(2 ^ 32, 0, 0)], .itinLoad 0 [(0, 2 ^ 63, 0)], .itinLoad 0 [(0, 0, 2 ^ 32)], .canRecover 256, .canAbort 256 0,
      .canAbort 0 (2 ^ 16), .journalFreeze (2 ^ 32) 0, .journalFreeze 0 (2 ^ 32), .journalExport (2 ^ 64) 0, .journalExport 0 (2 ^ 64),
      .fwWrite [] (2 ^ 32) 0, .fwWrite [] 0 (2 ^ 32), .fwWrite [0] 0 0, .fwCommit (2 ^ 32)] : List Op).all
      (fun op => !(opCommand .host 0 okHdr op).wf && !(Instr.commandForward 0 0 0 .host 0 op).wf) = true := by decide

theorem test_long_payload_refused : (Instr.writePoints .host 0 okHdr (List.replicate (2 ^ 16) (0, 0))).wf = false := by decide +kernel

theorem test_frames_refused :
    ([{ okFrame with franking := 2 ^ 64 }, { okFrame with epoch := 2 ^ 48 }, { okFrame with generation := 2 ^ 16 },
      { okFrame with token := 2 ^ 48 }, { okFrame with lo := 256 }, { okFrame with hi := 256 }] : List Frame).all
      (fun f => !(Instr.endBStream [(0, f)]).wf) = true := by decide

theorem test_can_frames_refused :
    ([⟨0x800, false, false, false, false, []⟩, ⟨2 ^ 29, true, false, false, false, []⟩, ⟨0, false, false, false, false, List.replicate 9 0⟩,
      ⟨0, false, true, false, false, List.replicate 13 0⟩, ⟨0, false, true, false, true, []⟩, ⟨0, false, false, true, false, []⟩] : List CanFrame).all
      (fun f => !(Instr.canFrameReceived 0 f 0 0).wf) = true := by decide

theorem test_relays_refused :
    ([.slot 256 (List.replicate 14 0), .slot 0 [], .slow 256 0 0 [] 0, .slow 0 256 0 [] 0, .slow 0 0 256 [] 0,
      .slow 0 0 0 (List.replicate 17 0) 0, .slow 0 0 0 [] (2 ^ 32), .discovery 256 0 0 false true, .cls 256 (List.replicate 32 0), .cls 0 [], .echo 256 0, .brk 256 .a] : List Relay).all
      (fun x => !(Instr.slotRelay 0 .a x 0).wf) = true := by decide

theorem test_operands_refused :
    ([.upstreamSlot 0 .a 0 [] 0, .slowResp 0 0 256 0 ⟨[], 0⟩, .slowResp 0 0 0 256 ⟨[], 0⟩, .slowResp 0 0 0 0 ⟨List.replicate 17 0, 0⟩,
      .slowResp 0 0 0 0 ⟨[], 2 ^ 32⟩,
      .report 0 .a 0 (.cls []), .segmentLaneUp 0 .a 257, .modeCmdOverride (2 ^ 32), .sleepEffective 256,
      .wake 256, .registerWrite .bar0 2 0, .ssiFrame 0 (2 ^ 40) true, .logicAccessFault 2 (2 ^ 64) 8 .load, .logicAccessFault 2 0 3 .load,
      .sortingReport (2 ^ 16) 0 0 0 0, .sortingReport 0 256 0 0 0, .sortingReport 0 0 (2 ^ 16) 0 0, .sortingReport 0 0 0 (2 ^ 32) 0,
      .pairJoin [] (2 ^ 16) 0 0, .inputMessage (2 ^ 48) [] [] [], .commandForward 0 (2 ^ 48) 0 .host 0 .nop,
      .commandForward 0 0 (2 ^ 32) .host 0 .nop, .hashMessage (2 ^ 48) 0 0 0 0, .stateEnvelope (2 ^ 48) true [] LaneImage.none,
      .resyncTransferDone (2 ^ 48) [] LaneImage.none, .surrender (2 ^ 48) false, .otpFuse (.keySlot 0 [])] : List Instr).all
      (fun c => !c.wf) = true := by decide

/-! ## Worked values of the manual -/

/-- The ASCII string "123456789". -/
def digits : List Byte := [0x31, 0x32, 0x33, 0x34, 0x35, 0x36, 0x37, 0x38, 0x39]

/-- R72's check values. -/
theorem test_crc_check_values : Arith.crc16 digits = 0x29B1 ∧ Arith.crc32 digits = 0xCBF43926 := by decide +kernel

/-- Section 0.8's example: the block of cell 0x2A3 starts at 0x0022_8C00. -/
theorem test_cell_block : fixedAt 0x228C00 = some ⟨.cell, 0x2A3, 0⟩ := by decide

/-- The thruster of section 4.11: 6 arms of 72 + 8 cells, nearest-level or with phase-shifted carriers. -/
def thruster (modMode : Nat) : Plant :=
  { plant with rounds := [0, 1], drives := [{ drive 0 none none with topology := 2, modMode := modMode, lane := some 0 }],
               arms := (List.range 6).map (fun k => ⟨k, k / 3, 0, k, 0, k, 72, 8⟩) }

theorem test_lane_costs : ((thruster 2).drives.map (laneCost (thruster 2))) = [5208] ∧
    ((thruster 1).drives.map (laneCost (thruster 1))) = [2496] ∧ laneCycles 1 - 5208 = 3542 ∧ 5208 - laneCycles 0 = 833 := by decide +kernel

/-- Carrier code 33 is P = 33 (section 5.13). -/
theorem test_carrier_code : carrierPeriod 33 = 33 := by decide

/-! ## Single steps -/

/-- The state that an outcome answers. -/
def after (o : Host.Outcome State Fault Refusal) : State :=
  match o with
  | .next t => t
  | _ => State.reset

/-- Table 10.3: power good boots the bank that verifies, with the seed of the permit register and the strap. -/
theorem test_power_good :
    let t := after (exec (.powerGood 5 true []) (State.reset.withDev { State.reset.dev with stoA := true, stoB := true }))
    t.dev.permit = 5 ∧ t.dev.boot = 0 ∧ t.hw.posB = true ∧ t.hw.bankB = false ∧ t.clk.running = true := by decide +kernel

/-- R299: in Run a HALT command leads to Halt, and a second mode command of the epoch has no effect. -/
theorem test_mode_halt :
    let t := after (exec .modeCmdHalt (inMode 3))
    t.mode = 5 ∧ (after (exec .modeCmdRun (inMode 2))).mode = 3 ∧ after (exec .modeCmdReplay (inMode 3)) = inMode 3 := by decide +kernel

/-- R335: major 1, minor 3 is accepted with minor 2; major 2 is refused. -/
theorem test_negotiation :
    (after (exec (.hifReqWrite 0x103) live)).host.negMinor = 2 ∧ (after (exec (.hifReqWrite 0x103) live)).host.negState = 1 ∧
    (after (exec (.hifReqWrite 0x200) live)).host.negState = 2 := by decide +kernel

/-- R228: on an incremental encoder a rising A with B low counts up. -/
theorem test_quadrature :
    ((after (exec (.fbEdge 0 100 1) (pts (inMode 1) [(.fbKind, 0, 1), (.fbState, 0, 1)]))).fb 0).count = 1 ∧
    ((after (exec (.fbEdge 0 100 2) (pts (inMode 1) [(.fbKind, 0, 1), (.fbState, 0, 1)]))).fb 0).count = -1 := by decide +kernel

/-- R286: a bootstrap supply of less than 9.5 V after its precharge faults the bridge with cause 4. -/
theorem test_precharge :
    let s := pts (inMode 1) [(.auxState, 3, 1), (.auxBootPrechargeUs, 3, 0)]
    (after (exec (.auxPrechargeDone 3 9500) s)).n .auxState 3 = 2 ∧ (after (exec (.auxPrechargeDone 3 9499) s)).n .auxCause 3 = 4 := by
  decide +kernel

/-- R36: the first boundary is epoch 0; the next one lies T_E later. -/
theorem test_boundary :
    let first := after (exec (.epochBoundary okSamples) ((inMode 0).withClk { live.clk with started := false }))
    let next := after (exec (.epochBoundary okSamples) first)
    (first.epoch = 0 ∧ first.clk.started = true) ∧ next.epoch = 1 ∧ next.clk.t0 = first.clk.t0 + first.te := by decide +kernel

/-- R467 and R468: EOI of the top of the stack pops it, of another ID it is a stack fault. -/
theorem test_eoi :
    let s := live.putCore 2 { live.core 2 with stack := [(37, 12), (19, 20)] }
    ((after (exec (.eoi 2 37) s)).core 2).stack = [(19, 20)] ∧ ((after (exec (.eoi 2 19) s)).core 2).stackFault = true := by decide +kernel

/-! ## Witnesses: interrupts and cores -/

theorem witness_ClaimTakesWhatIsPresented :
    let s0 := live.putCore 0 { live.core 0 with deadPending := true }
    let s1 := live
    let s2 := live.putCore 0 { live.core 0 with presented := 243 }
    (s0.core 0).deadPending = true ∧ ((s1.core 0).deadPending = false ∧ (s1.core 0).presented = 0) ∧
    (s2.core 0).deadPending = false ∧ (s2.core 0).presented ≠ 0 := by decide +kernel

theorem witness_EndOfInterruptPopsOrFaults :
    let s := live.putCore 0 { live.core 0 with stack := [(1022, 3)] }
    ((1024 : Nat) % 1024 = 0 ∧ 1023 % 1024 = 1023) ∧
    ((1022 : Nat) % 1024 ≠ 0 ∧ 1022 % 1024 ≠ 1023 ∧ ((s.core 0).stack.head?.map (·.1)) = some 1022) ∧
    ((s.core 0).stack.head?.map (·.1)) ≠ some 1 := by decide +kernel

theorem witness_BitmapWritesReachPermittedSources :
    (243 ∈ irqIds 7 0x00080000 ∧ live.irqMayWrite 0 243 = true) ∧ ¬(11 ∈ irqIds 0 0x00000800 ∧ live.irqMayWrite 0 11 = true) := by decide +kernel

theorem witness_SourcesFireByTheirKind :
    let pin := fun m => live.putSrc 16 { live.src 16 with mode := m }
    (irqValid 1 = true ∧ irqValid 243 = true ∧ irqPin 16 = true ∧ irqPin 32 = true) ∧
    ((pin 0).src 16).mode = 0 ∧ ((pin 1).src 16).mode = 1 ∧ (pin 2).irqIsLevel 16 = true ∧
    (irqPin 33 = false ∧ live.irqIsLevel 33 = false) := by decide +kernel

theorem witness_CoresSleepWakeAndFault :
    let s := live.putCore 0 { live.core 0 with asleep := true, waking := true }
    (mayWriteBlock 0 3 = true ∧ (1 : Word).getLsbD 0 = true) ∧ (mayWriteBlock 2 1 = false ∧ (2 : Word).getLsbD 0 = false) ∧
    ((s.core 0).asleep = true ∧ (s.core 0).waking = true) ∧ (live.core 0).asleep = false ∧
    live.logicMay 0 8 .fetch = false := by decide +kernel

/-! ## Witnesses: drives -/

theorem witness_RunAndBlockCommands :
    let s0 := inRegime 0
    let held := (inRegime 7).putDrv 0 { (inRegime 7).drv 0 with causes := 4 }
    (s0.drv 0).turnAt ≠ some s0.epoch ∧ (s0.ownsCmd 0 = true ∧ s0.runOnOk 0 = true ∧ s0.mode ≠ 5) ∧ s0.runOffOk 0 = true ∧
    ((inRegime 4).ownsCmd 0 = true ∧ (inRegime 4).runOffOk 0 = true) ∧ s0.drives.contains 0 = true ∧
    ((inRegime 7).blockOffOk 0 = true ∧ (inRegime 7).standing 0 = 0) ∧ (held.blockOffOk 0 = true ∧ held.standing 0 = 2) ∧ (inRegime 6).faultResetOk 0 = true := by decide +kernel

theorem witness_RenderAndCrashCommands :
    let s1 := pts (inRegime 2) [(.drvHaulSign, 0, 1), (.drvCrashEnable, 0, 1)]
    let shocked := (inRegime 3).putDrv 0 { (inRegime 3).drv 0 with shock := true }
    s1.ownsCmd 0 = true ∧ (s1.drv 0).turnAt ≠ some s1.epoch ∧ (s1.z .drvHaulSign 0 ≠ 0 ∧ s1.renderOnOk 0 = true) ∧
    ((inRegime 3).renderOffOk 0 = true ∧ ((inRegime 3).govOf 0).shock = false) ∧
    (shocked.renderOffOk 0 = true ∧ (shocked.govOf 0).shock = true) ∧
    s1.crashOnOk 0 = true ∧ (inRegime 4).crashOffOk 0 = true := by decide +kernel

theorem witness_EmergencyRelease :
    let s0 := pts (inRegime 3) [(.drvReleaseEnable, 0, 1)]
    let armed := (pts (inRegime 0) [(.drvReleaseState, 0, 1)]).withClk { live.clk with now := 2000000001, t0 := 2000000000 }
    let lifting := pts (inRegime 5) [(.drvReleaseState, 0, 2), (.drvBrakeLiftMs, 0, 0)]
    let ending := fun (k : Nat) (x : Option Nat) => (pts (inRegime 5) [(.drvStopMs, 0, 0), (.drvBrakeLiftMs, 0, 0),
      (.drvReleaseRampMs, 0, 0)]).putDrv 0 { (inRegime 5).drv 0 with endStep := k, stopAt := x }
    ((s0.drv 0).turnAt ≠ some s0.epoch ∧ s0.ownsCmd 0 = true ∧ s0.armOk 0 = true) ∧ (armed.ownsCmd 0 = true ∧ armed.releaseOk 0 = true) ∧
    ((inRegime 5).ownsCmd 0 = true ∧ (inRegime 5).endOk 0 = true) ∧
    (armed.n .drvReleaseState 0 = 1 ∧ (armed.drv 0).armAt + 2000000000 < armed.now) ∧
    (lifting.regime 0 = 5 ∧ lifting.n .drvReleaseState 0 = 2 ∧ (lifting.drv 0).relAt + msNs (lifting.n .drvBrakeLiftMs 0) ≤ lifting.now) ∧
    ((ending 1 (some 0)).regime 0 = 5 ∧ ((ending 1 (some 0)).drv 0).endStep = 1 ∧ ((ending 1 (some 0)).drv 0).stopAt = some 0 ∧
      0 + msNs ((ending 1 (some 0)).n .drvStopMs 0) ≤ (ending 1 (some 0)).now) ∧
    (((ending 2 none).drv 0).endStep = 2 ∧
      ((ending 2 none).drv 0).endAt + msNs ((ending 2 none).n .drvBrakeLiftMs 0) ≤ (ending 2 none).now) ∧
    ((ending 3 none).drv 0).endStep = 3 ∧
      ((ending 3 none).drv 0).rampAt + msNs ((ending 3 none).n .drvReleaseRampMs 0) ≤ (ending 3 none).now := by decide +kernel

theorem witness_SkippedEpochs :
    let s := fun n r => pts (inRegime r) [(.drvSkipConsecutive, 0, n)]
    let limp := (pts (inRegime 2) [(.drvLimpCause, 0, 2), (.drvLimpSkipClear, 0, 5)]).putDrv 0 { (inRegime 2).drv 0 with computed := 5 }
    (((s 3 1).drv 0).turnAt ≠ some (s 3 1).epoch ∧ 3 ≤ (s 3 1).n .drvSkipConsecutive 0 ∧ Arith.bit ((s 3 1).n .drvLimpCause 0) 1 = false) ∧
    (8 ≤ (s 8 4).n .drvSkipConsecutive 0 ∧ 1 ≤ (s 8 4).regime 0 ∧ (s 8 4).regime 0 ≤ 4 ∧ (s 8 4).shaftOf 0 = none) ∧
    (grouped 3).shaftOf 0 = some 0 ∧
    (16 ≤ (s 16 0).n .drvSkipConsecutive 0 ∧ (s 16 0).drives.contains 0 = true ∧ (s 16 0).regime 0 ≠ 7) ∧
    Arith.bit (limp.n .drvLimpCause 0) 1 = true ∧ limp.n .drvLimpSkipClear 0 ≤ (limp.drv 0).computed := by decide +kernel

theorem witness_ShockHoldStopAndWindmill :
    let s := (pts (inRegime 4) [(.drvShockClearMs, 0, 0), (.drvHoldMs, 0, 0), (.drvStopMs, 0, 0), (.drvHalting, 0, 1), (.drvCrashPhase, 0, 1),
      (.drvCrashWindmillMs, 0, 0)]).putDrv 0
      { (inRegime 4).drv 0 with shock := true, clearAt := some 0, holdAt := some 0, stopAt := some 0, crashHist := [(0, 0)] }
    let g := pts ((grouped 3).putGov 0 { ((grouped 3).drv 0).gov with shock := true, clearAt := some 0, holdAt := some 0 })
      [(.drvShockClearMs, 0, 0), (.drvHoldMs, 0, 0), (.shaftLeaderOrder, 0, 0)]
    (g.shaftOf 0 = some 0 ∧ g.policyDrive 0 = 0 ∧ (g.govOf 0).shock = true ∧ (g.govOf 0).clearAt = some 0 ∧ (g.govOf 0).holdAt = some 0 ∧
      0 + msNs (g.n .drvShockClearMs 0) ≤ g.now ∧ 0 + msNs (g.n .drvHoldMs 0) ≤ g.now) ∧
    (s.shaftOf 0 = none ∧ (s.drv 0).turnAt ≠ some s.epoch ∧ (s.drv 0).shock = true ∧ (s.drv 0).clearAt = some 0 ∧ 0 + msNs (s.n .drvShockClearMs 0) ≤ s.now) ∧
    ((s.drv 0).holdAt = some 0 ∧ 0 + msNs (s.n .drvHoldMs 0) ≤ s.now) ∧
    ((s.drv 0).stopAt = some 0 ∧ s.halting 0 = true ∧ 0 + (if s.isLine 0 then 10000000 else msNs (s.n .drvStopMs 0)) ≤ s.now) ∧
    ((s.drv 0).crashHist.find? (fun e => decide (e.1 + msNs (s.n .drvCrashWindmillMs 0) ≤ s.now)) = some (0, 0) ∧
      s.regime 0 = 4 ∧ s.n .drvCrashPhase 0 = 1 ∧ Arith.absR 0 - Arith.absR (s.r .drvSpeedEst 0) < 1) := by decide +kernel

/-! ## Witnesses: events, journal -/

/-- An open postmark of the device. -/
def mark : Postmark :=
  { code := 0x0101, kind := 0, t1 := 0, w := 10, first := ⟨0, 0, 0⟩, last := ⟨0, 0, 0⟩, count := 1, differ := false, idxs := [0] }

/-- A record of an epoch. -/
def mail (kind epoch : Nat) : MailRec :=
  { kind := kind, flags := 0, epoch := epoch, time := 0, mode := 1, cmds := [], hashes := [], inputs := [], state := [],
    image := LaneImage.none, digest := [], kernel := 0, bytes := 100, stored := 100 }

/-- A header of a descriptor that asks for the earliest epoch. -/
def hdr : DescHdr :=
  { major := 1, minor := 0, formOk := true, opcode := none, notice := false, quiet := false, tag := 5, apply := 0 }

/-- A command of the host. -/
def cmd (op : Op) : Cmd :=
  { id := 1, agent := 0, ring := 0, cpl := 8, slot := 0, hdr := hdr, op := op, epoch := 0, session := 0, kept := true }

theorem witness_ReportsJoinOrOpenPostmarks :
    let full := live.withSo { live.so with taken := 256 }
    let some' := live.withSo { live.so with taken := 255, opened := [mark] }
    live.up = true ∧ live.isTrigger 0x0101 = false ∧ 256 ≤ full.so.taken ∧
    (some'.so.taken < 256 ∧ joinPostmark 0x0101 0 ⟨1, 0, 10⟩ some'.so.opened = some [mark.add ⟨1, 0, 10⟩]) ∧
    joinPostmark 0x0101 0 ⟨1, 0, 11⟩ some'.so.opened = none ∧ some'.so.opened.length < 64 := by decide +kernel

theorem witness_PostmarksCloseAndRecordsDrain :
    let s := live.withSo { live.so with opened := [mark], lost0 := 1, lost1 := 1 }
    s.up = true ∧ s.so.opened.filter (fun p => decide (s.closeTime p ≤ 1010)) ≠ [] ∧ s.so.opened.filter (fun p => decide (s.closeTime p ≤ 1009)) = [] ∧
    s.so.q0.length ≤ 1024 ∧ s.so.q1.length ≤ 1024 ∧ (s.so.lost0 ≠ 0 ∧ s.so.q0.length < 1024) ∧ (s.so.lost1 ≠ 0 ∧ s.so.q1.length < 1024) ∧
    s.so.opened.length < 63 := by decide +kernel

theorem witness_CapturesOpenExtendAndFreeze :
    let cap := { Capture.init with held := true, recording := true, post := 4, last := 4 }
    let s := live.withJrn { live.jrn with caps := [(3, cap)] }
    let full := live.withJrn { live.jrn with caps := [0, 1, 2, 3].map (fun i => (i, { cap with recording := false })) }
    live.up = true ∧ s.jrn.caps.find? (fun e => e.2.recording) = some (3, cap) ∧
    (live.jrn.caps.find? (fun e => e.2.recording) = none ∧ [0, 1, 2, 3].find? (fun i => !(live.capture i).held) = some 0) ∧
    (full.jrn.caps.find? (fun e => e.2.recording) = none ∧ [0, 1, 2, 3].find? (fun i => !(full.capture i).held) = none) ∧
    (s.capture 3).held = true ∧ (s.capture 3).recording = true ∧ (s.capture 3).post ≤ (s.capture 3).last ∧
    s.isTrigger 0x0B01 = false := by decide +kernel

theorem witness_ExportsAndLosses :
    let x : Export := { cmd := cmd (.journalExport 0 0), recs := [mail 2 0], first := true, cap := none }
    let s := (live.withJrn { live.jrn with exports := [x] }).putRing 20
      { Ring.init with enable := true, logSize := 4, entryBytes := 164 }
    let e := live.withJrn { live.jrn with exports := [{ x with recs := [] }] }
    (s.jrn.exports = [x] ∧ (s.ring 20).live = true ∧ 0 < (s.ring 20).room ∧ x.recs ≠ [] ∧
      fitBlock ((s.ring 20).entryBytes - 64) x.recs ≠ []) ∧
    (e.jrn.exports = [{ x with recs := [] }] ∧ e.isTrigger 0x0B06 = false) ∧ live.up = true := by decide +kernel

/-! ## Witnesses: host interface and interrupts -/

/-- A stopped ring that may be enabled. -/
def stopped : Ring := { Ring.init with base := 64, mirror := 8, entryBytes := 64 }

/-- A ring of 16 entries that runs. -/
def running : Ring := { stopped with logSize := 4, enable := true }

/-- A block with an open session of the host. -/
def session : State := (inMode 1).withHost { live.host with negState := 1, negMajor := 1, negMinor := 2, session := 1, linkGen := 3, linkWidth := 4 }

theorem witness_RingsStartStopAndFault :
    let s := session.putRing 0 stopped
    let r := (s.ring 0).configure 0 (4 + 8 * 256)
    let bad := (s.ring 0).configure 0 3
    let logic := live.putRing 32 running
    let host := session.putRing 20 running
    (ringExists 0 20 = true ∧ ringExists 1 19 = true ∧ ringExists 1 20 = false ∧ s.dev.powered = true) ∧
    ((s.ring 0).enable = false ∧ s.ringCheck 0 0 r = 0 ∧ s.ringCheck 0 0 bad ≠ 0) ∧
    ((logic.ring 32).live = true ∧ logic.doorbellIdx 1 0 16 = none ∧ logic.doorbellIdx 1 0 15 ≠ none) ∧
    host.endpointUp = true ∧ (host.letterbox.ring 20).live = true ∧ host.letterbox.doorbellIdx 0 20 0 ≠ none := by decide +kernel

theorem witness_SessionsBeginAndEnd :
    let old := session.withHost { session.host with reqMajor := 0 }
    (live.endpointUp = true ∧ (0x0102 : Word).toNat / 256 % 256 = 1 ∧ (0x0200 : Word).toNat / 256 % 256 ≠ 1) ∧
    old.host.negState = 1 ∧ live.host.negState ≠ 1 ∧ (live.up = true ∧ live.dev.hostLost = false) ∧
    ((live.withDev { live.dev with perst := true }).dev.perst = true ∧ (1 : Fin 4) ≠ 0) := by decide +kernel

theorem witness_HostWatchdogAndLetterbox :
    let armed := live.withHost { live.host with wdtMs := 1000, wdtAt := 0 }
    let due := armed.withClk { armed.clk with now := 1000000000 }
    let lost := pts (live.withDev { live.dev with hostLost := true }) [(.devMode, 0, 1), (.devWakeMask, 0, 16)]
    let asleep := pts (live.withDev { live.dev with hostLost := true }) [(.devMode, 0, 0), (.devWakeMask, 0, 16)]
    let safe := asleep.withDev { asleep.dev with dormantCauses := 1 }
    live.endpointUp = true ∧ (1000 < (1001 : Word).toNat % 1024 ∧ (1024 : Word).toNat % 1024 = 0 ∧ (1000 : Word).toNat % 1024 ≤ 1000) ∧
    (modeRuns (inMode 3).mode = true ∧ modeRuns (inMode 2).mode = false) ∧
    (due.up = true ∧ due.host.wdtMs ≠ 0 ∧ due.host.wdtExpired = false ∧ due.host.wdtAt + msNs due.host.wdtMs ≤ due.now) ∧
    (lost.up = true ∧ lost.dev.hostLost = true ∧ lost.mode ≠ 0) ∧
    (asleep.mode = 0 ∧ Arith.bit (asleep.n .devWakeMask) 4 = true ∧ asleep.dev.dormantCauses = 0) ∧
    safe.mode = 0 ∧ Arith.bit (safe.n .devWakeMask) 4 = true ∧ safe.dev.dormantCauses ≠ 0 := by decide +kernel

theorem witness_InterruptsAndRegisterWrites :
    let s := live.withHost { live.host with msixPend := 2 ^ 63 }
    let key := fun k => live.putRing k { running with irqEn := true, unsig := 1, modUsec := 1 }
    let due := fun k => (key k).withClk { live.clk with now := 1000 }
    (s.endpointUp = true ∧ Arith.bit s.host.msixPend 63 = true ∧ Arith.bit s.host.msixPend 0 = false) ∧
    (((due 20).ring 20).live = true ∧ ((due 20).ring 20).irqEn = true ∧ 0 < ((due 20).ring 20).unsig ∧ ((due 20).ring 20).modUsec ≠ 0 ∧
      ((due 20).ring 20).unsigAt + 1000 * ((due 20).ring 20).modUsec ≤ (due 20).now ∧ (due 20).msixOpen 0 = false) ∧
    (((due 51).ring 51).unsigAt + 1000 * ((due 51).ring 51).modUsec ≤ (due 51).now ∧ irqValid (224 + ringNo 51) = true) ∧
    ((session.putRing 0 running).ring 0).enable = true ∧ (session.ring 20).enable = false ∧ (0x10001 : Word).toNat % 65536 ≠ 0 ∧
    (live.dev.powered = true ∧ live.irqMayWrite 0 243 = true ∧ live.irqMayWrite 2 1 = false) := by decide +kernel

/-! ## Witnesses: modes and safety -/

theorem witness_ModeCommandsEnterTheirModes :
    let ready := (inMode 1).withDev { live.dev with pdActive := true }
    let safe := (inMode 6).withDev { live.dev with pdActive := true }
    let ridden := pts (inMode 3) [(.devOverrideEnable, 0, 1)]
    let sleepy := pts (inMode 2) [(.devWakeMask, 0, 127)]
    ((inMode 2).dev.modeTaken = false ∧ (inMode 2).mode = 2 ∧ (inMode 3).dev.haltCmd = false) ∧ (inMode 7).rep.saved = none ∧
    (ready.mode = 1 ∧ ready.readyOk = true) ∧ ((inMode 3).mode = 3 ∧ (inMode 3).allAtRest = true) ∧
    (safe.mode = 6 ∧ safe.readyOk = true) ∧
    ((inMode 2).dev.stoA = true ∧ (inMode 2).dev.stoB = true ∧ (inMode 2).n .devSafeCause = 0) ∧ (inMode 4).mode = 4 ∧
    ((pts (planted 2) [(.drvRegime, 0, 7)]).regime 0 = 7 ∧ (planted 2).n .drvBlockCmd 0 = 0 ∧
      ((planted 2).drv 0).turnAt ≠ some (planted 2).epoch) ∧
    (ridden.mode = 3 ∧ ridden.n .devOverrideEnable = 1 ∧ (2 : Nat) ^ 32 - 1 < 2 ^ 32) ∧ (1 ≤ (inRegime 4).regime 0 ∧ (inRegime 4).regime 0 ≤ 4) ∧
    (sleepy.mode = 2 ∧ sleepy.n .devWakeMask % 128 ≠ 0) ∧ (ready.dev.pdActive = true ∧ ready.jrn.exports = []) ∧
    (inMode 0).modeJudge 1 0 ≠ 0 ∧ (inMode 0).modeJudge 2 0 ≠ 0 ∧ (inMode 0).modeJudge 3 0 ≠ 0 ∧ (inMode 0).modeJudge 4 9 ≠ 0 ∧
    (inMode 0).modeJudge 5 0 ≠ 0 ∧ (inMode 0).modeJudge 0 0 ≠ 0 ∧ (inMode 0).modeJudge 7 0 ≠ 0 := by decide +kernel

theorem witness_SafeCausesEnterSafe :
    let s := inMode 5
    let apart := ((inMode 1).withDev { live.dev with stoDiffAt := some 0 }).withClk { live.clk with now := 10 ^ 10 }
    let low := s.withDev { s.dev with stoA := false, stoB := false }
    let held := s.withHw { s.hw with vLow := 3 }
    let sup := (s.withDev { s.dev with supWdtAt := some 0 }).withClk { s.clk with now := 10000000000 }
    (s.up = true ∧ 1 ≤ s.mode ∧ s.mode ≤ 5) ∧ (s.dev.stoA = true ∧ s.dev.stoB = true) ∧ (low.dev.stoA = false ∧ low.dev.stoB = false) ∧
    s.n .pairRole ≠ 2 ∧
    (apart.dev.stoDiffAt = some 0 ∧ 0 + msNs (apart.n .devStoDiscrepancyMs) < apart.now ∧ Arith.bit (apart.n .devSafeCause) 2 = false) ∧
    held.hw.vLow = 3 ∧ Arith.bit s.hw.rails 7 = false ∧
    (sup.dev.supUp = true ∧ sup.dev.supWdtAt = some 0 ∧ sup.now ≤ 0 + 10000000000) := by decide +kernel

theorem witness_HaltSleepAndWake :
    let rest := pts (planted 5) [(.drvRegime, 0, 7)]
    let moving := pts (planted 5) [(.drvRegime, 0, 1), (.devHaltTimeoutMs, 0, 0)]
    let asks := pts ((inMode 1).withDev { live.dev with sleepReq := true }) [(.devWakeMask, 0, 1), (.devWakeTime, 0, 1)]
    let asleep := pts (inMode 0) [(.devWakeMask, 0, 1), (.devWakeTime, 0, 1)]
    let cause := asleep.withDev { asleep.dev with dormantCauses := 1 }
    (rest.mode = 5 ∧ rest.allAtRest = true) ∧
    (moving.mode = 5 ∧ moving.allAtRest = false ∧ msNs (moving.n .devHaltTimeoutMs) ≤ (moving.epoch - moving.dev.haltEpoch) * moving.te) ∧
    (asks.dev.sleepReq = true ∧ asks.mode = 1 ∧ asks.wakeBits 1 ≠ 0 ∧ asks.wakeBits 0 = 0) ∧
    (asleep.wakeDue 1 = true ∧ asleep.dev.dormantCauses = 0 ∧ Arith.bit (asleep.wakeBits 1) 7 = false) ∧
    (cause.wakeDue 0 = true ∧ cause.dev.dormantCauses ≠ 0) ∧
    asleep.mode = 0 ∧ asleep.up = true ∧ Arith.bit (asleep.n .devWakeMask) 0 = true := by decide +kernel

theorem witness_WatchdogsOfTheCores :
    let down := live.withDev { live.dev with supUp := false, logicUp := false }
    let late := (pts live [(.devLogicWdtMs, 0, 1000)]).withClk { live.clk with now := 1000000000 }
    let owned := pts ((inMode 3).withPlant { plant with logicOwned := [⟨.drvRunCmd, 0, 0⟩] }) [(.drvHostState, 0, 1)]
    (live.up = true ∧ live.dev.supUp = true ∧ live.dev.supWdtAt = none) ∧ ((inMode 4).isPrincipal = false ∧ (inMode 4).mode = 4) ∧
    (down.up = true ∧ down.dev.supUp = false ∧ down.dev.logicUp = false) ∧
    (late.dev.logicUp = true ∧ late.n .devLogicWdtMs ≠ 0 ∧ late.dev.logicBeat + msNs (late.n .devLogicWdtMs) ≤ late.now) ∧
    owned.logicRuns 0 = true ∧ owned.n .drvHostState 0 = 1 := by decide +kernel

theorem witness_HoldAndReclaim :
    let held := fun (s : State) => (pts s [(.drvHostState, 0, 1), (.drvHostHoldMs, 0, 0), (.drvRegime, 0, 4)]).putDrv 0
      { (inRegime 4).drv 0 with holdHost := some 0 }
    let back := pts (planted 3) [(.drvHostState, 0, 3)]
    ((held (planted 3)).drv 0).turnAt ≠ some (held (planted 3)).epoch ∧
    ((held (planted 3)).holdLapsed 0 = true ∧ (held (planted 3)).shaftOf 0 = none ∧ 1 ≤ (held (planted 3)).regime 0 ∧
      (held (planted 3)).regime 0 ≤ 4) ∧
    ((held (grouped 3)).holdLapsed 0 = true ∧ (held (grouped 3)).shaftOf 0 = some 0 ∧ 0 ∈ (held (grouped 3)).shaftMembers 0 ∧
      (held (grouped 3)).n .drvHostState 0 = 1) ∧
    back.drives.contains 0 = true ∧ back.reclaimOk 0 = true := by decide +kernel

/-! ## Witnesses: CAN -/

/-- A frame of object 3. -/
def frame3 (onBus : Bool) : TxFrame := { obj := 3, data := [1], onBus := onBus, next := none, frank := none }

/-- Controller 0 in normal mode with one pending frame. -/
def canBusy (onBus : Bool) : State :=
  (planted 1).putCan 0 { Can.init with mode := 1, pend := [frame3 onBus], busy := onBus }

/-- A data frame. -/
def data (id : Nat) : CanFrame := { id := id, ext := false, fd := false, brs := false, remote := false, data := [7] }

theorem witness_CanSendsFallDue :
    let s := pts (canBusy false) [(.objDir, 3, 1), (.objPeriodMs, 3, 1)]
    let dem := pts (canBusy false) [(.objDir, 3, 1)]
    let frank := pts (planted 1) [(.canFrankMode, 0, 1), (.canFrankPeriodMs, 0, 10)]
    (s.objSends 0 3 = true ∧ s.n .objPeriodMs (objIx 0 3) ≠ 0 ∧ s.clk.t0 % msNs (s.n .objPeriodMs (objIx 0 3)) = 0 ∧ s.mode ≠ 0) ∧
    (s.canNormal 0 = true ∧ (planted 1).canNormal 0 = false) ∧
    (dem.objSends 0 3 = true ∧ dem.n .objPeriodMs (objIx 0 3) = 0) ∧
    (frank.unitOn 4 0 = true ∧ frank.n .canFrankMode 0 = 1 ∧ frank.n .pairRole ≠ 2 ∧ frank.mode ≠ 0 ∧
      frank.clk.t0 % msNs (frank.n .canFrankPeriodMs 0) = 0) ∧
    (s.can 0).pend.find? (fun f => f.obj == 3) = some (frame3 false) ∧ ((canBusy true).can 0).pend.find? (fun f => f.obj == 3) = some (frame3 true) ∧
    ((planted 1).can 0).pend.find? (fun f => f.obj == 3) = none := by decide +kernel

theorem witness_CanAttemptsEnd :
    let s := canBusy true
    let two := s.putCan 0 { s.can 0 with pend := [{ frame3 true with next := some [2] }], aborts := [3] }
    let high := pts s [(.canState, 0, 2), (.canTec, 0, 248)]
    ((s.can 0).pend.find? (fun f => f.obj == 3 && f.onBus) = some (frame3 true) ∧ (frame3 true).next = none) ∧
    ((two.can 0).pend.find? (fun f => f.obj == 3 && f.onBus) = some { frame3 true with next := some [2] } ∧
      two.n .canTec 0 < 256 ∧ (two.can 0).modeDue = none ∧ 3 ∈ (two.can 0).aborts ∧ 3 ∉ (s.can 0).aborts) ∧
    (high.n .canState 0 = 2 ∧ s.n .canState 0 ≠ 2 ∧ 248 ≤ high.n .canTec 0 ∧ high.n .canTec 0 < 2 ^ 31) := by decide +kernel

theorem witness_CanModesAndRecovery :
    let idle := canBusy false
    let rec' := pts idle [(.canState, 0, 4)]
    ((idle.can 0).busy = false ∧ (idle.can 0).pend.all (fun f => !f.onBus) = true ∧ (idle.can 0).mode = 1 ∧ idle.n .canState 0 ≠ 3 ∧
      idle.n .canState 0 ≠ 4) ∧
    ¬(((canBusy true).can 0).busy = false ∧ ((canBusy true).can 0).pend.all (fun f => !f.onBus) = true) ∧
    (rec'.n .canState 0 = 4 ∧ (rec'.can 0).modeDue = none) := by decide +kernel

theorem witness_CanReception :
    let s := pts (canBusy false) [(.objDir, 5, 2), (.objId, 5, 0x123), (.objMask, 5, 0x7FF), (.objRxTimeoutMs, 5, 1), (.objFmt, 5, 8),
      (.canFrankMode, 0, 1), (.canFrankObj, 0, 5), (.mapObj, 0, 5), (.mapTarget, 0, 0x80000), (.drvHostState, 0, 3)]
    let late := s.withClk { s.clk with now := 1000000 }
    let fr : CanFrame := { data 0x123 with fd := true, data := List.replicate 16 0 }
    s.unitOn 4 0 = true ∧ s.canHears 0 0 = true ∧ s.rxObject 0 (data 0x123) = some 5 ∧ s.rxObject 0 (data 0x124) = none ∧
    ({ data 0x123 with remote := true } : CanFrame).remote = true ∧
    (s.isFrank 0 fr = true ∧ s.n .canFrankMode 0 = 1 ∧ s.n .canRec 0 ≤ 127) ∧
    ((s.can 0).mode = 1 ∧ (s.putCan 0 { s.can 0 with mode := 2 }).canHears 0 0 = true) ∧
    (late.n .objDir (objIx 0 5) = 2 ∧ late.n .objRxTimeoutMs (objIx 0 5) ≠ 0 ∧ Arith.bit (late.n .objStatus (objIx 0 5)) 0 = false ∧
      Tab.get 0 (late.can 0).rxAt 5 + msNs (late.n .objRxTimeoutMs (objIx 0 5)) ≤ late.now) ∧
    (0 ∈ late.mapDrives 0 5 ∧ late.n .drvHostState 0 = 3) ∧ late.mapDrives 0 6 = [] := by decide +kernel

/-! ## Witnesses: feedback, profiles, auxiliary power -/

/-- Feedback channel 0 of a kind, in service. -/
def fb0 (kind : Nat) : State := pts (planted 1) [(.fbKind, 0, kind), (.fbState, 0, 1)]

theorem witness_FeedbackEdgesCount :
    let s := fb0 1
    let hall := (fb0 3).putFb 0 { (fb0 3).fb 0 with lines := 1 }
    (s.fbOn 0 = true ∧ changedLines 1 (s.fb 0).lines 1 ≠ []) ∧ (s.fbBadEdge 0 100 1 = false ∧ fbStep 1 (s.fb 0).lines 1 ≠ none) ∧
    s.fbBadEdge 0 100 3 = true ∧ (hall.fbBadEdge 0 100 3 = false ∧ fbStep 3 1 3 ≠ none) ∧
    ((fb0 4).fbBadEdge 0 100 2 = false ∧ fbStep 4 0 2 ≠ none) := by decide +kernel

theorem witness_FeedbackFaultsAndIndex :
    let s := pts (fb0 1) [(.fbStandstillMs, 0, 0), (.fbZGate, 0, 1)]
    let go := s.putFb 0 { s.fb 0 with still := false, lines := 3, count := 4096, idxAt := some 0 }
    let off := fun (e : Nat) => pts go [(.fbLines, 0, e), (.fbIndexTol, 0, 4), (.fbIndexMisses, 0, 2)]
    (go.fbOn 0 = true ∧ (go.fb 0).still = false ∧ (go.fb 0).lastAt + msNs (go.n .fbStandstillMs 0) ≤ go.now) ∧
    (1 ≤ (fb0 3).n .fbKind 0 ∧ (fb0 3).n .fbKind 0 ≤ 3 ∧ (fb0 3).n .fbState 0 = 1) ∧ (pts (fb0 1) [(.fbState, 0, 2)]).n .fbState 0 ≠ 1 ∧
    s.fbClearOk 0 = true ∧ ((go.fb 0).lines % 4 = 3 ∧ s.n .fbZGate 0 ≠ 0 ∧ (fb0 4).n .fbKind 0 = 4 ∧ (fb0 4).n .fbZGate 0 = 0) ∧
    (s.fb 0).idxAt = none ∧ ((go.fb 0).idxAt = some 0 ∧ (go.fb 0).idxRev = false) ∧
    (((((go.fb 0).count - 0) / fbWeight (go.n .fbKind 0)).natAbs : Int) - (off 1023).idxEdges 0).natAbs ≤ (off 1023).n .fbIndexTol 0 ∧
    (off 1022).n .fbIndexTol 0 < (((((go.fb 0).count - 0) / fbWeight (go.n .fbKind 0)).natAbs : Int) - (off 1022).idxEdges 0).natAbs ∧
    (off 1022).n .fbState 0 = 1 ∧
    2 ≤ (off 1022).n .fbIndexMisses 0 ∧ (off 1022).n .fbIndexMisses 0 < 2 ^ 31 := by decide +kernel

theorem witness_SsiFramesGiveTheSample :
    let s := pts (fb0 2) [(.fbSsiBits, 0, 13), (.fbSsiParity, 0, 0), (.fbSsiErrBit, 0, 12)]
    let old := s.putFb 0 { s.fb 0 with ssiLast := some 5 }
    (s.fbOn 0 = true ∧ s.n .fbKind 0 = 2 ∧ (s.fb 0).ssiGot = false ∧ s.clk.phase = 0) ∧
    ((s.fb 0).ssiLast.isNone = true ∧ (old.fb 0).ssiLast.isNone = false) ∧
    (s.ssiInvalid 0 9 (s.ssiDiff 0 0 9).1 true = false ∧ old.ssiInvalid 0 9 (old.ssiDiff 0 5 9).1 false = false) ∧
    old.ssiInvalid 0 4096 (old.ssiDiff 0 5 0).1 false = true := by decide +kernel

theorem witness_CompareUnitsAndPassThrough :
    let s := pts (fb0 1) [(.cmpSrc, 31, 0), (.cmpDir, 31, 1), (.cmpToken, 31, 31), (.cmpDoPin, 31, 7)]
    let act := fun p => pts s [(.cmpEnable, 31, 1), (.cmpPolicy, 31, p)]
    let pulse := s.putCmp 31 { CmpSt.init with pulse := some 0 }
    (s.cmpBehind 31 1 = false ∧ s.cmpBehind 31 0 = true ∧ s.n .cmpEnable 31 = 0) ∧
    ((act 0).cmpBehind 31 0 = true ∧ (act 0).n .cmpEnable 31 ≠ 0 ∧ (act 0).n .cmpPolicy 31 ≠ 1) ∧
    ((act 1).cmpBehind 31 0 = true ∧ (act 1).n .cmpEnable 31 ≠ 0 ∧ (act 1).n .cmpPolicy 31 = 1 ∧ (act 1).z .cmpStep 31 = 0) ∧
    ((act 1).n .cmpToken 31 ≤ 31 ∧ (act 1).n .cmpDoPin 31 ≤ 7) ∧
    ((pulse.cmp 31).pulse = some 0 ∧ 0 ≤ pulse.now) ∧ (15 : Word).toNat ≤ 15 ∧ (255 : Word).toNat = 255 := by decide +kernel

theorem witness_ProfileCommands :
    let st := fun k => pts (planted 1) [(.prfState, 47, k)]
    let go := (((st 0).putR .prfVMax 47 1).putR .prfAMax 47 1).putR .prfDMax 47 1 |>.putR .prfStopDecel 47 1
    let unfit := pts (st 0) [(.prfHomeMode, 47, 1)]
    (go.engCmdStatus 47 1 = 0 ∧ (pts go [(.prfStartToken, 47, 31)]).engCmdStatus 47 1 = 0 ∧ (pts go [(.prfStartToken, 47, 31)]).n .prfStartToken 47 ≤ 31) ∧
    ((st 1).n .prfState 47 = 1 ∧ (st 5).n .prfState 47 = 5) ∧ ((st 4).n .prfState 47 = 4 ∧ (st 4).cannotFollow 47 = 0) ∧
    (st 0).n .prfState 47 = 0 ∧ unfit.homeUnfit 47 = true ∧ (pts (st 0) [(.prfHomeMode, 47, 2)]).homeUnfit 47 = false := by
  decide +kernel

theorem witness_AuxiliaryBridges :
    let st := fun (k : Nat) => pts (planted 3) [(.auxState, 11, k)]
    let x := (st 3).br 11
    let short := (pts (st 2) [(.axisKind, 10, 1), (.auxState, 10, 2)]).putBr 10 { (st 2).br 10 with pending := true, faultAt := 0 }
    let due := fun (n : Nat) => (((pts (st 3) [(.auxRetryMax, 11, n)]).putBr 11 { x with pending := true, faultAt := 0 })).withClk
      { live.clk with now := 10000 }
    let calm := pts (st 2) [(.auxRetryResetS, 11, 0)]
    let pre := pts (st 1) [(.auxBootPrechargeUs, 11, 0)]
    let back := (pts (st 3) [(.auxRetryMs, 11, 0)]).putBr 11 { x with retry := true }
    ((st 1).auxLive 11 = true ∧ (st 2).auxLive 11 = true ∧ (st 2).shortWith 11 = none) ∧
    (short.shortWith 11 = some 10 ∧ short.axisOf 11 = some 10 ∧ 11 ∈ short.bridgesOf 10) ∧ (st 2).brState 11 = 2 ∧
    (((due 1).br 11).pending = true ∧ ((due 1).br 11).faultAt + 10000 ≤ (due 1).now ∧ (due 1).brTries 11 < (due 1).n .auxRetryMax (auxCfg 11)) ∧
    (due 0).n .auxRetryMax (auxCfg 11) ≤ (due 0).brTries 11 ∧
    (back.brState 11 = 3 ∧ back.retryDue 11 = true ∧ (back.br 11).holds = 0) ∧
    (calm.brState 11 = 2 ∧ (calm.br 11).readyAt + 1000000000 * calm.n .auxRetryResetS (auxCfg 11) ≤ calm.now) ∧
    (pre.brState 11 = 1 ∧ (pre.br 11).preAt + 1000 * pre.n .auxBootPrechargeUs 11 ≤ pre.now) ∧
    ((planted 3).br 11).interAt.all (fun a => decide (a + 1000000000 ≤ (planted 3).now)) = true ∧
    (((planted 3).putBr 11 { x with interAt := some 0 }).br 11).interAt.all (fun a => decide (a + 1000000000 ≤ (planted 3).now)) = false := by
  decide +kernel

theorem witness_ClearsVauxAndChopper :
    let st := fun (k : Nat) => pts (planted 3) [(.auxState, 11, k)]
    let x := (st 3).br 11
    let short := (pts (st 4) [(.axisKind, 10, 1)]).putBr 11 { x with fault := 5 }
    let chop := fun (k : Nat) => (pts (planted 3) [(.vauxChopState, 0, k)]).withClk { live.clk with now := 2000 }
    (st 2).brState 11 ≠ 5 ∧ ((st 2).brState 11 ≠ 3 ∧ (st 2).brState 11 ≠ 4) ∧ ((st 4).brState 11 = 4 ∧ ((st 4).br 11).fault ≠ 5) ∧
    (st 3).brState 11 = 3 ∧ (short.brState 11 = 4 ∧ (short.br 11).fault = 5 ∧ short.axisOf 11 = some 10 ∧ 11 ∈ short.bridgesOf 10) ∧
    ((chop 4).brState 12 ≠ 5 ∧ (chop 4).brState 12 = 4) ∧ ((chop 2).brState 12 = 2 ∧ (chop 2).vaux.at' + 2000 ≤ (chop 2).now) ∧
    (Arith.bit (st 2).vaux.holds 7 = false ∧ 11 ∈ (st 2).bridges) := by decide +kernel

theorem witness_AuxiliaryAxes :
    let s := pts (planted 3) [(.axisKind, 11, 1), (.axisSource, 11, 2), (.axisHoldDelayMs, 11, 0)]
    let near := s.putAx 11 { s.ax 11 with stepAt := some 0 }
    let load := (pts (planted 3) [(.axisKind, 0, 3), (.axisHmode, 0, 2), (.axisPullinMs, 0, 0)]).putAx 0 { s.ax 0 with pullAt := some 0 }
    (s.n .axisKind 11 = 1 ∧ s.n .axisSource 11 = 2 ∧ (s.ax 11).stepAt = none) ∧ ((near.ax 11).stepAt = some 0 ∧ 19000 < 0 + 20000) ∧
    ((s.ax 11).reduced = none ∧ (s.ax 11).movedAt + msNs (s.n .axisHoldDelayMs 11) ≤ s.now ∧ Arith.bit (s.n .axisStatus 11) 2 = false) ∧
    ((load.ax 0).pullAt = some 0 ∧ load.n .axisKind 0 = 3 ∧ load.n .axisHmode 0 = 2 ∧ 0 + msNs (load.n .axisPullinMs 0) ≤ load.now) := by
  decide +kernel

theorem witness_ModuleInputsAndOutputs :
    let s := inMode 1
    let act := (pts s [(.hwDo, 7, 1)]).withLed [(⟨.hwDo, 7, 0⟩, 1)]
    let off := (s.withHw { s.hw with doOff := [(7, some 0)], burden := [(7, some 0)] }).withClk { s.clk with now := 1000000000 }
    let ain := pts s [(.ainMode, 7, 1), (.encPwrState, 3, 1), (.hwFwKeySlots, 0, 8)]
    let rail := s.withHw { s.hw with rails := 128, vLow := 2 }
    s.cmpOwns 7 = false ∧ (act.doDrives 7 = true ∧ Arith.bit (act.n .hwDoOverload) 7 = false) ∧
    (Tab.get none off.hw.doOff 7 = some 0 ∧ 0 + 100000000 ≤ off.now) ∧ ain.n .encPwrState 3 = 1 ∧
    (ain.n .ainMode 7 = 1 ∧ Tab.get none ain.hw.burden 7 = none) ∧ (Tab.get none off.hw.burden 7 = some 0 ∧ 0 + 1000000000 ≤ off.now) ∧
    (s.mode = 1 ∧ Arith.bit (s.n .hwFwKeySlots) 3 = false ∧ Arith.bit (ain.n .hwFwKeySlots) 3 = true ∧ ain.keysValid ≠ 0) ∧ (inMode 2).mode ≠ 1 ∧
    s.up = true ∧ Arith.bit rail.hw.rails 7 = true ∧ rail.hw.vLow ≠ 3 := by decide +kernel

/-! ## Witnesses: identification, group lanes -/

theorem witness_IdentificationAndControlWrites :
    let s := pts (inRegime 0) [(.drvType, 0, 0)]
    let ident := fun k => pts s [(.drvIdState, 0, 1), (.drvIdStep, 0, k)]
    let one := (ident 1).putR .drvRsOhm 0 1
    let run := pts s [(.prfTargetKind, 0, 1), (.prfTargetIdx, 0, 0)]
    (s.drives.contains 0 = true ∧ s.identOk 0 = true ∧ s.regime 0 = 0 ∧ s.halting 0 = false) ∧
    ((ident 1).now < ((ident 1).drv 0).idAt + idDuration 1 ∧ ((ident 5).drv 0).idAt + idDuration 5 ≤ (ident 5).now) ∧
    (let t := one.withClk { live.clk with now := 400000000 }; t.identifying 0 = true ∧ (t.drv 0).idAt + idDuration (t.n .drvIdStep 0) ≤ t.now) ∧
    ((ident 1).identifying 0 = true ∧ one.idFits 0 1 [5] = true ∧ one.idFits 0 1 [1 / 5] = true ∧ one.idFits 0 1 [6] = false) ∧
    ((ident 1).idNext 0 1 = 3 ∧ (ident 4).idNext 0 4 = 0) ∧ (ident 2).n .drvIdStep 0 = 2 ∧
    (s.ownsCmd 0 = true ∧ s.ctrlModeOk 0 1 = true ∧ run.ctrlModeOk 0 2 = true ∧ s.ctrlModeOk 0 2 = false) ∧
    (s.driveFb 0).isSome = true := by decide +kernel

theorem witness_LaneCausesAndSlackRope :
    let g := (grouped 3).putShaft 0 { (grouped 3).shaft 0 with apart := [(0, some 0)], slackAt := some 0 }
    let s := fun (resp r : Nat) => pts g [(.shaftDecoupleMs, 0, 0), (.shaftSlackMs, 0, 0), (.shaftSlackResp, 0, resp), (.drvRegime, 0, r)]
    let line := ((pts (inRegime 1) [(.drvLineRideMs, 0, 0)]).withClk { live.clk with now := 1 }).putDrv 0
      { (inRegime 1).drv 0 with lineLost := some 0 }
    let bp := (inRegime 1).putArm 0 { (inRegime 1).arm 0 with bypass := [(0, 3)] }
    let late := bp.withClk { live.clk with epoch := 3 }
    ((s 0 1).shaftOf 0 = some 0 ∧ Tab.get none ((s 0 1).shaft 0).apart 0 = some 0 ∧ 0 + msNs ((s 0 1).n .shaftDecoupleMs 0) ≤ (s 0 1).now ∧
      Arith.bit ((s 0 1).drv 0).causes 8 = false) ∧
    ((line.drv 0).lineLost = some 0 ∧ 0 + msNs (line.n .drvLineRideMs 0) < line.now ∧ Arith.bit (line.drv 0).causes 7 = false) ∧
    (late.armAt 0 0 = some ⟨7, 0, 0, 0, 0, 0, 1, 0⟩ ∧ Tab.get 0 (late.arm 0).bypass (late.localIdx ⟨7, 0, 0, 0, 0, 0, 1, 0⟩ 0) = 3 ∧
      3 ≤ late.epoch ∧ Arith.bit (late.n .cell 0 0x0D) 5 = false) ∧
    (((s 2 4).shaft 0).slackAt = some 0 ∧ 0 + msNs ((s 2 4).n .shaftSlackMs 0) ≤ (s 2 4).now ∧ ((s 2 4).shaft 0).slack = false ∧
      (s 2 4).n .shaftSlackResp 0 = 2 ∧ 0 ∈ (s 2 4).shaftMembers 0 ∧ 1 ≤ (s 2 4).regime 0 ∧ (s 2 4).regime 0 ≤ 4) ∧
    (s 1 4).n .shaftSlackResp 0 ≠ 2 := by decide +kernel

/-! ## Witnesses: rounds -/

/-- Round 0 with this record. -/
def round0 (m : Nat) (x : Rnd) : State := (planted m).putRnd 0 x

/-- A body with its CRC. -/
def sealed (body : List Byte) : List Byte := body ++ Arith.leBytes 2 (Arith.crc16 body)

/-- The body of a slot: position 0, state 5, an event byte. -/
def slotBody (ev : Nat) : List Byte := [0, 0, 0, 0, 5, 0, 0, 0, 0, 0, 0, 0, BitVec.ofNat 8 ev, 0]

theorem witness_SlotsClosuresAndLostCells :
    let rep := (inMode 7).withRep { live.rep with phase := 2 }
    let gone := (pts (planted 1) [(.pos, 0, 6), (.rndLostEpochs, 0, 3)]).putRnd 0 { Rnd.init with missing := [(0, 3)] }
    let lost := pts gone [(.pos, 0, 5)]
    (rep.mode = 7 ∧ rep.rep.phase = 2) ∧ ¬((planted 1).mode = 7 ∧ (planted 1).rep.phase = 2) ∧
    (slotOk (sealed (slotBody 0)) = true ∧ Arith.field (sealed (slotBody 0)) 12 1 = 0) ∧
    (slotOk (sealed (slotBody 0x6F)) = true ∧ slotOk (sealed (slotBody 0x70)) = true ∧ slotOk (slotBody 0 ++ [0, 0]) = false) ∧
    (gone.cellGone 0 0 = true ∧ gone.n .pos 0 0 = 6) ∧ lost.cellGone 0 0 = true ∧ lost.n .pos 0 0 ≠ 6 := by decide +kernel

theorem witness_BreaksAndLateRounds :
    let foil := pts (planted 1) [(.pairRole, 0, 2), (.pos, 0, 5)]
    let back := pts (round0 3 { Rnd.init with broken := true, lockA := true, lockB := true, calm := 1000 }) [(.rndRestoreEpochs, 0, 1000)]
    let late := pts (round0 3 { Rnd.init with shortN := 4000 }) [(.rndLate, 0, 1)]
    (foil.showsSilence 0 .a 0 .b = true ∧ foil.showsSilence 0 .b 0 .b = false) ∧
    ((back.rnd 0).broken = true ∧ back.lockRegained 0 = true ∧ back.n .rndRestoreEpochs 0 ≤ (back.rnd 0).calm) ∧
    (late.n .rndLate 0 = 1 ∧ 4000 ≤ (late.rnd 0).shortN) := by decide +kernel

theorem witness_SlowChannelAnswers :
    let q : SlowTx := { req := { pos := 0, off := 0x1F, count := 2, tag := 255 }, age := 1, reissues := 0, host := true }
    let s := round0 1 { Rnd.init with txs := [q] }
    let due := (round0 1 { Rnd.init with txs := [{ q with age := 5, reissues := 3 }] }).withHost
      { live.host with fins := [⟨cmd (.slowRead 0 0x1F 2), .slow 0 0x1F 2, 0, 0, 0⟩] }
    ((s.rnd 0).txs.find? (fun t => t.req.tag == 255 && t.req.pos == 0 && t.age != 0) = some q ∧ ([1, 2] : List Word).length = q.req.count) ∧
    ((due.rnd 0).txs.filter (fun q => decide (5 ≤ q.age ∧ 3 ≤ q.reissues))).length = 1 ∧
    due.host.fins.any (awaitsSlow 0 0x1F 2) = true := by decide +kernel

theorem witness_LinkupAnswers :
    let walk := round0 1 { Rnd.init with step := 1 }
    let rtt := round0 1 { Rnd.init with step := 2, echoes := [(511, (15, 0))] }
    let cls := round0 1 { Rnd.init with step := 4 }
    let up := pts (planted 3) [(.rndState, 0, 6)]
    ((walk.rnd 0).step = 1 ∧ (walk.rnd 0).waits = false ∧ (walk.rnd 0).seg = none ∧ (walk.rnd 0).walkB = false ∧ 256 < 257) ∧
    (walk.n .pos (cellAt 0 255) 0 ≠ 6 ∧ (pts walk [(.pos, 255, 6)]).n .pos (cellAt 0 255) 0 = 6) ∧
    ((rtt.rnd 0).step = 2 ∧ (rtt.rnd 0).waits = false ∧ (Tab.get (0, 0) (rtt.rnd 0).echoes (255 * 2 + 1)).1 < 16) ∧
    ((cls.rnd 0).step = 4 ∧ (cls.rnd 0).waits = false ∧ classOk (sealed (List.replicate 30 0)) = true) ∧
    (up.n .rndState 0 = 6 ∧ (up.rnd 0).step = 0) := by decide +kernel

theorem witness_LinkupStepsEndOrFail :
    let at' := fun (x : Rnd) => { x with waits := false }
    let one := round0 1 (at' { Rnd.init with step := 1, walkA := true, walkB := true })
    let two := round0 1 (at' { Rnd.init with step := 2, reachA := [0], reachB := [0], echoes := [(0, (16, 3200)), (1, (16, 3200))], through := true })
    let cut := two.putRnd 0 { two.rnd 0 with through := false }
    let seg := two.putRnd 0 { two.rnd 0 with seg := some .b }
    let four := pts (round0 1 (at' { Rnd.init with step := 4, reachA := [0], classes := [0] })) [(.pos, 0, 8)]
    let fits' := ((pts four []).put .pos 0 1 1)
    let bad := pts fits' [(.cell, 0, 1)]
    let late := (round0 1 (at' { Rnd.init with step := 4, reachA := [0] })).withClk { live.clk with now := 100000000 }
    let slow := pts (round0 1 (at' { Rnd.init with step := 5, accepted := [0], reachA := [0] })) [(.rndChargeTimeoutMs, 0, 0), (.pos, 0, 3)]
    (one.linkupDone 0 = true ∧ (one.rnd 0).step = 1) ∧
    (two.linkupDone 0 = true ∧ (two.rnd 0).step = 2 ∧ 0 ∈ (two.rnd 0).reachA ∧ 0 ∈ (two.rnd 0).reachB ∧ (two.rnd 0).seg = none ∧
      (two.rnd 0).through = true) ∧
    (cut.linkupDone 0 = true ∧ (cut.rnd 0).through = false) ∧ (seg.linkupDone 0 = true ∧ (seg.rnd 0).seg.isSome = true) ∧
    (fits'.linkupDone 0 = true ∧ (fits'.rnd 0).step = 4 ∧ fits'.n .pos (cellAt 0 0) 1 ≠ 0 ∧
      fits'.classBad 0 0 ⟨0, 0, 0, 1, some 7⟩ ⟨7, 0, 0, 0, 0, 0, 1, 0⟩ = false) ∧
    bad.classBad 0 0 ⟨0, 0, 0, 1, some 7⟩ ⟨7, 0, 0, 0, 0, 0, 1, 0⟩ = true ∧
    ((late.rnd 0).step = 4 ∧ (late.rnd 0).waits = false ∧ (late.rnd 0).stepAt + 100000000 ≤ late.now ∧ late.linkupDone 0 = false) ∧
    ((slow.rnd 0).step = 5 ∧ (slow.rnd 0).waits = false ∧ (slow.rnd 0).stepAt + msNs (slow.n .rndChargeTimeoutMs 0) ≤ slow.now ∧
      ((slow.rnd 0).charging.filter (fun p => let st := slow.posState 0 p; !(st == 4 || st == 5 || st == 6))) ≠ []) := by decide +kernel

theorem witness_DownstreamSendLeaves :
    let s := (pts (planted 3) [(.rndState, 0, 6), (.rndDelayNs, 0, 122001)]).withClk { live.clk with phase := 1 }
    let mid := pts s [(.rndDelayNs, 0, 122000)]
    (s.ticking = true ∧ s.clk.phase = 1 ∧ s.plant.rounds.contains 0 = true ∧ s.plant.rounds.contains 15 = false ∧ s.n .pairRole ≠ 2) ∧
    (s.n .rndState 0 = 6 ∧ (s.rnd 0).detected = false ∧ overDelay (s.n .rndDelayNs 0) s.te 122 = true) ∧
    (overDelay (mid.n .rndDelayNs 0) mid.te 122 = false ∧ overDelay (mid.n .rndDelayNs 0) mid.te 22 = true ∧ mid.n .rndLate 0 = 0) ∧
    (pts s [(.pairRole, 0, 2)]).n .pairRole = 2 := by decide +kernel

/-! ## Witnesses: time, commit, envelopes -/

theorem witness_DeviceTimeAndItsSources :
    let s := pts live [(.devMode, 0, 1), (.devTimeSource, 0, 1), (.devSyncInDiv, 0, 1)]
    let late := pts (s.withClk { s.clk with now := 10 ^ 10 }) [(.devTimeState, 0, 2)]
    (s.up = true ∧ s.timeSource = 1 ∧ s.n .devSyncInDiv * s.te ≠ 0) ∧
    (late.timeSource ≠ 0 ∧ late.n .devTimeState ≠ 3 ∧ late.clk.srcAt + msNs (late.n .devTimeSourceTimeoutMs) ≤ late.now) ∧
    (s.mode = 1 ∧ s.te ≠ 0) := by decide +kernel

theorem witness_BoundaryAndCutoff :
    (live.up = true ∧ live.clk.running = true ∧ (inMode 0).mode = 0 ∧ (inMode 3).mode ≠ 0 ∧ (inMode 3).n .pairRole ≠ 2) ∧
    (live.ticking = true ∧ live.clk.phase = 0 ∧ (inMode 3).isCounterfoil = false ∧ (inMode 3).dev.supUp = true) := by decide +kernel

theorem witness_CommitAndEnvelopes :
    let s := (planted 3).withClk { live.clk with phase := 2 }
    let e := (live.putRing 36 running).withEnv [(tierKey 1 0, { Tier.init with writing := some (1, 0, 0) })]
    let f := (session.putRing 19 running).withEnv [(tierKey 0 2, { Tier.init with writing := some (1, 0, 0) })]
    let g := f.withHost { f.host with fins := [⟨cmd .requestF, .sealF 0, 0, 0, 0⟩] }
    (s.ticking = true ∧ s.clk.phase = 2 ∧ 0 ∈ s.plant.rounds ∧ s.mode ≠ 0 ∧ s.mode ≠ 7 ∧ (inMode 0).mode = 0) ∧
    ((g.tier (tierKey 0 2)).writing = some (1, 0, 0) ∧ (g.ring 19).live = true ∧ (cmd .requestF).agent = 0 ∧
      g.host.fins.map (·.wait) = [.sealF 0]) ∧ (e.tier (tierKey 1 0)).writing = some (1, 0, 0) := by decide +kernel

/-! ## Witnesses: descriptors and commands -/

/-- Command ring 0 of the host with one descriptor, bound to completion ring 8, in a mode. -/
def offered (m : Nat) : State :=
  let s := (pts (planted m) [(.pos, 0, 5), (.rndState, 0, 6)]).putN .pos 0 2 1
  ((s.withHost session.host).putRing 0 { running with peer := 1 }).putRing 8 running |>.putRing 17 { running with entryBytes := 4096 }
    |>.putRing 18 { running with entryBytes := 4096 }

/-- A descriptor. -/
def desc (op : Op) : Desc := ⟨hdr, op⟩

/-- Checks 1 to 5 and 7 pass for a descriptor at the front of the ring, and its completions have room. -/
def passes (s : State) (op : Op) : Bool := s.fetchable 0 0 && s.hasRoom 0 0 (desc op) && (s.judge 0 (desc op)).1 == 0

theorem witness_DescriptorsAreJudged :
    let s := offered 2
    let full := s.withHost { s.host with pr := List.replicate 4096 (cmd .nop) }
    let boot := s.withDev { s.dev with boot := 2 }
    let none' := s.putRing 8 stopped
    let waits := s.putRing 0 { running with peer := 1, waiting := some (desc .nop) }
    let long : Desc := ⟨{ hdr with apply := 2 ^ 32, notice := true }, .nop⟩
    passes s .nop = true ∧ (s.fetchable 0 0 = true ∧ none'.hasRoom 0 0 (desc .nop) = false) ∧
    (s.judge 0 ⟨{ hdr with major := 2 }, .nop⟩).1 ≠ 0 ∧ (boot.dev.boot = 2 ∧ passes boot .nop = true ∧ opBoot .nop = false ∧ opBoot (.fwCommit 4096) = true) ∧
    (passes s (.roundLinkup 1) = true ∧ s.dev.boot ≠ 2 ∧ opImmediate (.roundLinkup 1) = true ∧ (s.check6 (.roundLinkup 1)).1 ≠ 0) ∧
    (full.waitsLong long = true ∧ 4096 ≤ full.prCount ∧ (full.judge 0 long).1 = 0 ∧ full.hasRoom 0 0 long = true ∧ opImmediate long.op = false) ∧
    ((waits.ring 0).waiting = some (desc .nop) ∧ waits.serves 0 0 = true ∧ (waits.ring 0).live = true ∧ waits.hasRoom 0 0 (desc .nop) = true ∧ waits.dev.boot ≠ 2) := by
  decide +kernel

theorem witness_DescriptorRows :
    let s := ((offered 1).withJrn { live.jrn with live := [mail 2 0, mail 1 1] }).withPlant { plant with logic := [⟨0x20000, "p", .u32, "1", 1, false⟩] }
    ([.nop, .cancel 5 0, .writePoints [(0x20000, 7)], .writeMasked [(0x20000, 1, 1)], .readPoints 0 [0x20000], .subscribeP [0x20000],
      .unsubscribeP [0x20000], .setM [(0x20000, 8)], .requestF, .envPolicy 2 1, .loadPd [] 256, .roundLinkup 1, .cellBypass 0 1,
      .cellGates 0 1, .slowRead 0 0x3F0 16, .itinLoad 0 [(0, 0, 0), (1, 0, 0)], .canRecover 0, .canAbort 0 255, .journalFreeze 60000 60000,
      .journalExport 0 1, .journalRelease, .replayFeed [], .pairHandover, .pairResync, .fwWrite [] 4096 4096, .fwCommit 4096] : List Op).map
      (passes s) = List.replicate 26 true := by decide +kernel

theorem witness_ImmediateCommands :
    let s := offered 1
    let held := s.withHost { s.host with pr := [cmd .nop] }
    let jrn := s.withJrn { live.jrn with live := [mail 2 0, mail 1 1] }
    let rep := (offered 7).withRep { live.rep with phase := 2 }
    let ok := fun (t : State) (op : Op) => (passes t op && t.dev.boot != 2 && (t.check6 op).1 == 0 && t.sessionLive (t.cmdOf 0 0 (desc op))) = true
    (ok held (.cancel 5 0) ∧ held.host.pr.find? (fun x => x.kept && x.agent == 0 && x.ring == 0 && x.hdr.tag == 5) = some (cmd .nop)) ∧
    (ok s (.cancel 5 0) ∧ s.host.pr.find? (fun x => x.kept && x.agent == 0 && x.ring == 0 && x.hdr.tag == 5) = none) ∧
    (ok s (.loadPd [] 256) ∧ s.dev.loading = none) ∧ (ok s (.roundLinkup 1) ∧ Arith.bit 1 0 = true) ∧
    (ok jrn (.journalExport 0 1) ∧ jrn.exportRange 0 1 = some (none, [mail 2 0, mail 1 1])) ∧
    (ok rep (.replayFeed [⟨true, true, true, []⟩]) ∧ rep.rep.phase ≠ 1) ∧ ok s (.fwWrite [] 4096 4096) ∧ ok s (.fwCommit 4096) := by
  decide +kernel

/-- What verification answers for an image is Winil's; with the floor at 0 either answer meets a clause on FW_COMMIT. -/
theorem witness_ImmediateCommands_fwCommit :
    Config.verifyImage live.idleBank.data 4096 live.keysValid = none ∨
    ∃ v, Config.verifyImage live.idleBank.data 4096 live.keysValid = some v ∧ live.n .hwFwSecurityFloor ≤ v.val := by
  have h : live.n .hwFwSecurityFloor = 0 := by decide +kernel
  rcases Config.verifyImage live.idleBank.data 4096 live.keysValid with _ | v
  · exact .inl rfl
  · exact .inr ⟨v, rfl, by omega⟩

/-- The checks of a command at its apply-epoch pass. -/
def applies (s : State) (c : Cmd) : Bool :=
  decide (s.epoch ≤ c.epoch) && (s.check4 c.op 0 0).1 == 0 && (s.check5 c.agent c.op).1 == 0 && (s.check6 c.op).1 == 0 &&
    (s.check7 c.op).1 == 0 && (s.checkSet c.agent c.op).1 == 0 && (s.checkItin c.op).1 == 0

theorem witness_CommandsAtTheirApplyEpoch :
    let s := (offered 2).withPlant { plant with logic := [⟨0x20000, "p", .u32, "1", 1, false⟩] }
    let late := s.withClk { s.clk with epoch := 1 }
    let pair := pts s [(.pairRole, 0, 1), (.pairProtection, 0, 0)]
    let two := s.withPlant { plant with drives := [{ drive 0 none (some 0) with topology := 2 }] }
    ((s.checkItin (cmd .nop).op).1 = 0 ∧ (s.checkItin (.itinLoad 0 [(0, 0, 0)])).1 ≠ 0 ∧ s.twoLevelCell 0 = true ∧
      (pts two [(.drvTopology, 0, 2)]).twoLevelCell 0 = false) ∧ (cmd .nop).epoch < late.epoch ∧ applies late (cmd .nop) = false ∧
    (([.nop, .writePoints [(0x20000, 7)], .writeMasked [(0x20000, 1, 1)], .cellBypass 0 1, .cellGates 0 0, .slowRead 0 0 1,
      .itinLoad 0 [(0, 0, 0), (1, 0, 0)], .subscribeP [0x20000], .unsubscribeP [0x20000], .setM [(0x20000, 8)], .requestF, .envPolicy 0 1,
      .readPoints 0 [0x20000], .journalRelease, .pairHandover, .pairResync] : List Op).map (fun op => applies pair (cmd op))
      = List.replicate 16 true) ∧
    (match State.applyItems 0 (some 1) [(0x20000, BitVec.allOnes 32, 7)] 0 [] s with
      | .ok (_, done) => done == [(0x20000, 7)]
      | .error _ => false) = true ∧ s.sessionLive (cmd .nop) = false ∧ s.sessionLive { cmd .nop with session := 1 } = true := by
  decide +kernel

/-- The index of `device.mode_cmd` is the catalogue's; wherever it lies in its block, a mode command that passes its checks can be an
item that fails. -/
theorem witness_CommandsAtTheirApplyEpoch_itemFails (x : Nat) (hx : x < 0x20000) (h : namedAt x = some ⟨.devModeCmd, 0, 0⟩) :
    applies (inMode 1) (cmd (.writePoints [(x, 3)])) = true ∧
    ∃ st k, State.applyItems 0 (some 1) [(x, BitVec.allOnes 32, 3)] 0 [] (inMode 1) = .error (st, k) := by
  have hp : (inMode 1).pointAt x = some ⟨.devModeCmd, 0, 0⟩ := by
    have ha : (inMode 1).applies ⟨.devModeCmd, 0, 0⟩ = true := by decide +kernel
    simp only [State.pointAt, h, ha, if_true]
  have hd : (inMode 1).defined x = true := by
    have : x < 0x40000 := by omega
    simp [State.defined, this]
  have hr : (inMode 1).itemRange x 3 = 0 := by
    have : x < 2 ^ 23 := by omega
    simp only [State.itemRange, this, hd, hp, and_self, if_true]
    decide +kernel
  have hm : (inMode 1).itemMode x 3 = stMode := by
    simp only [State.itemMode, hp]
    decide +kernel
  have ho : (inMode 1).itemOwner 0 x = 0 := by
    simp only [State.itemOwner, hp]
    decide +kernel
  have hw : (inMode 1).newValue (x, BitVec.allOnes 32, 3) = 3 := by
    simp only [State.newValue, State.readAt, hp]
    decide +kernel
  have h4 : (inMode 1).check4 (.writePoints [(x, 3)]) 0 0 = pass := by
    show firstFail [_, if Machine.countOk 1 then firstItem _ [(x, 3)] 0 else _] = _
    simp only [firstItem, hr]
    rfl
  have h5 : (inMode 1).check5 0 (.writePoints [(x, 3)]) = pass := by
    show firstItem (fun e : Nat × Word × Word => (inMode 1).itemOwner 0 e.1) [(x, BitVec.allOnes 32, 3)] 0 = _
    simp only [firstItem, ho]
    rfl
  have h6 : (inMode 1).check6 (.writePoints [(x, 3)]) = pass := by
    have hc : (inMode 1).isCounterfoil = false := by decide +kernel
    have h7 : (inMode 1).mode ≠ 7 := by decide +kernel
    simp only [State.check6, State.roleOk, State.modeOk, opPlant, hc, if_neg h7]
    rfl
  refine ⟨?_, stMode, 0, ?_⟩
  · have he : (inMode 1).epoch ≤ 0 := by decide +kernel
    show (decide ((inMode 1).epoch ≤ 0) && (State.check4 _ _ 0 0).1 == 0 && _ && _ && _ && _ && _) = true
    rw [decide_eq_true he]
    show (true && (State.check4 _ (.writePoints [(x, 3)]) 0 0).1 == 0 && (State.check5 _ 0 (.writePoints [(x, 3)])).1 == 0 &&
      (State.check6 _ (.writePoints [(x, 3)])).1 == 0 && _ && _ && _) = true
    rw [h4, h5, h6]
    rfl
  · show (if firstBad [State.itemRange _ x ((inMode 1).newValue (x, BitVec.allOnes 32, 3)),
        State.itemMode _ x ((inMode 1).newValue (x, BitVec.allOnes 32, 3))] = 0 then _ else Except.error _) = _
    rw [hw, hr, hm]
    rfl

/-! ## Witnesses: descriptions, replay, power -/

/-- A description without parts, in the format, kernel and catalogue version that the module has. -/
def emptyPd : List Byte :=
  Arith.leBytes 4 1 ++ Arith.leBytes 2 Config.kernelVersion.toNat ++ Arith.leBytes 2 Config.catalogueVersion.toNat ++ List.replicate 8 0 ++
    Arith.leBytes 8 256 ++ Arith.sha256 [] ++ List.replicate 200 0

theorem leNat_two (v : BitVec 16) : Arith.leNat (Arith.leBytes 2 v.toNat) = v.toNat := by
  have := v.isLt
  simp only [Arith.leBytes, Arith.leNat, BitVec.toNat_ofNat]
  omega

/-- Where the encoding of the parts reads no bytes as no parts (it is Winil's), that description passes every check. -/
theorem emptyPd_valid (s : State) (k : Nat → Bool) (hk : k Config.kernelVersion.toNat = true)
    (hp : Config.parseParts [] = .ok Plant.none) (h4 : s.signatureFault emptyPd = none)
    (h9 : firstSome [countFault Plant.none, hierFault Plant.none (fun d => (s.candidate Plant.none 0).n .drvBalMode d),
      s.laneFault Plant.none 0, s.refFault Plant.none (fun n => (s.candidate Plant.none 0).n .fbKind n)
        (s.candidate Plant.none 0).defined, ownerFault Plant.none,
      (s.candidate Plant.none 0).valueFault (settingNs 0)] = none) :
    s.validate emptyPd 256 k = .ok (s.candidate Plant.none 0) := by
  have h1 : headerFault emptyPd 256 = none := by decide +kernel
  have h2 : emptyPd.drop 256 = [] := by decide +kernel
  have h3 : hdrField emptyPd 8 1 = 0 := by decide +kernel
  have h5 : hdrField emptyPd 4 2 = Config.kernelVersion.toNat := leNat_two Config.kernelVersion
  have h6 : hdrField emptyPd 6 2 = Config.catalogueVersion.toNat := leNat_two Config.catalogueVersion
  have h7 : hdrField emptyPd 0 4 = 1 := by decide +kernel
  have h8 : versionFault emptyPd k = none := by simp [versionFault, h5, h6, h7, hk, mustBe, firstSome]
  simp only [State.validate, h1, h2, h3, hp, h4, h8, firstSome] at h9 ⊢
  rw [h9]

theorem witness_DescriptionsAndReplay :
    let loading := (inMode 1).withDev { live.dev with loading := some ([], 0) }
    let ready := (inMode 2).withDev { live.dev with loading := some ([], 0) }
    let rep := fun (q : List MailRec) => (inMode 7).withRep { live.rep with phase := 2, queue := q, lastFed := true }
    let other := { mail 3 0 with digest := [1] }
    (loading.dev.loading = some ([], 0) ∧ loading.mode = 1 ∧ ready.mode ≠ 1) ∧
    (match (loading.withDev { loading.dev with loading := none }).validate [] 0 (fun k => k == Config.kernelVersion.toNat) with
      | .error f => f.check == 1
      | .ok _ => false) = true ∧
    ((rep [other]).mode = 7 ∧ (rep [other]).rep.phase = 2 ∧ (rep [other]).rep.done = false ∧ (rep [other]).rep.queue = [other] ∧
      other.kind = 3 ∧ other.digest ≠ (rep [other]).dev.pdDigest) ∧
    ((rep [mail 1 0]).rep.queue = [mail 1 0] ∧ (mail 1 0).kind ≠ 2 ∧ (mail 1 0).kind ≠ 3) ∧
    (rep []).rep.queue = [] ∧ (rep []).rep.lastFed = true := by decide +kernel

theorem witness_DescriptionsAndReplay_valid (hp : Config.parseParts [] = .ok Plant.none) :
    let s := (inMode 1).withDev { live.dev with loading := some (emptyPd, 256) }
    let s1 := s.withDev { s.dev with loading := none }
    s.dev.loading = some (emptyPd, 256) ∧ s.mode = 1 ∧
    ∃ c, s1.validate emptyPd 256 (fun k => k == Config.kernelVersion.toNat) = .ok c :=
  ⟨rfl, by decide +kernel, _, emptyPd_valid _ _ (by simp) hp (by decide +kernel) (by decide +kernel)⟩

theorem witness_PowerAndReset :
    (State.reset.dev.powered = false ∧ (1 : BitVec 48) ≠ 0) ∧ live.endpointUp = true ∧ live.dev.powered = true := by decide +kernel

/-! ## Witnesses: the pair -/

/-- A module of a pair in a role with a partner. -/
def paired (role prot m : Nat) : State :=
  (pts (inMode m) [(.pairRole, 0, role), (.pairProtection, 0, prot), (.hwHwInsert, 0, 1)]).withPair
    { live.pair with heard := true, joined := true }

theorem witness_PairRolesAndJoining :
    let one := pts (inMode 1) [(.pairRole, 0, 0), (.pairEnable, 0, 1)]
    let alone := one.withClk { live.clk with now := 1000000000 }
    let foil := paired 2 2 1
    let new := foil.withPair { foil.pair with joined := false }
    let hand := (paired 1 0 3).withPair { (paired 1 0 3).pair with handover := some (8, 0) }
    let old := (paired 1 0 3).withPair { (paired 1 0 3).pair with partnerGen := 1 }
    (one.up = true ∧ one.mode = 1 ∧ one.n .pairRole = 0) ∧ (alone.n .pairEnable = 1 ∧ alone.pair.listenAt + alone.listenNs ≤ alone.now) ∧
    (hand.n .pairRole = 1 ∧ hand.pair.handover = some (8, 0) ∧ (paired 1 0 3).pair.handover = none) ∧
    (foil.n .pairRole = 2 ∧ foil.mode = 1 ∧ new.pair.joined = false) ∧
    (match new.validate [] 0 new.kernelAccepted with | .error _ => true | .ok _ => false) = true ∧
    ((paired 2 0 3).eligibleNow = true ∧ (paired 0 0 3).n .pairRole = 0) ∧
    (old.up = true ∧ old.mustDemote = true) ∧ hand.n .hwHwInsert = 1 ∧ live.dev.powered = true := by decide +kernel

theorem witness_PairRolesAndJoining_valid (hp : Config.parseParts [] = .ok Plant.none) :
    (paired 2 2 1).n .pairRole = 2 ∧ (paired 2 2 1).pair.joined = true ∧
    ∃ c, (paired 2 2 1).validate emptyPd emptyPd.length (paired 2 2 1).kernelAccepted = .ok c := by
  have h : emptyPd.length = 256 := by decide +kernel
  refine ⟨by decide +kernel, rfl, (paired 2 2 1).candidate Plant.none 0, ?_⟩
  rw [h]
  exact emptyPd_valid _ _ (by simp [State.kernelAccepted]) hp (by decide +kernel) (by decide +kernel)

theorem witness_PairMessages :
    let f := fun p => paired 2 p 3
    let rep := (paired 1 0 7).withRep { live.rep with phase := 2 }
    let unf := (f 0).withPair { (f 0).pair with unfed := true }
    let safe := ((f 0).withDev { live.dev with stoA := false })
    ((f 0).up = true ∧ (f 0).n .pairRole = 2 ∧ (f 0).pair.joined = true ∧ (f 0).n .hwHwInsert = 1 ∧ (f 0).pair.streamed = false ∧
      (f 0).pair.endsIdle = false) ∧
    ((paired 1 0 3).n .pairRole ≠ 0 ∧ (paired 1 0 3).pair.heard = true ∧ ¬((paired 1 0 3).mode = 7 ∧ (paired 1 0 3).rep.phase = 2) ∧
      rep.rep.phase = 2 ∧ slotOk (sealed (slotBody 0)) = true) ∧
    ((f 1).pair.fed = false ∧ (f 1).pair.unfed = false ∧ (f 1).n .pairProtection = 1 ∧ (f 0).n .pairProtection = 0 ∧
      2 ≤ (f 2).n .pairProtection ∧ (f 2).pair.resync ≠ 2 ∧ unf.pair.unfed = true) ∧
    ((paired 1 0 3).n .pairRole = 1 ∧ newerGen 32767 0 = true ∧ newerGen 32768 0 = false) ∧
    (¬((f 0).mode = 6 ∧ ¬((f 0).dev.stoA = true ∧ (f 0).dev.stoB = true)) ∧ safe.dev.stoA = false) := by decide +kernel

theorem witness_PairLinkAndTransfers :
    let gone := fun r => ((paired r 0 3).withClk { live.clk with epoch := 2 })
    let warm := (inRegime 0).withPair { live.pair with blockUntil := some 0 }
    let fins := (paired 1 0 3).withHost { live.host with fins := [⟨cmd .pairResync, .resync, 0, 0, 0⟩] }
    ((gone 1).up = true ∧ (gone 1).n .pairRole = 1 ∧ (gone 2).n .pairRole = 2 ∧ (gone 1).pair.heard = true ∧
      (gone 1).pair.heardAt + 2 ≤ (gone 1).epoch ∧ 400 < 401) ∧
    ((paired 2 0 3).pair.joined = true ∧ fins.host.fins.map (·.wait) = [.resync]) ∧
    (warm.pair.blockUntil = some 0 ∧ 0 ≤ warm.now ∧ 0 ∈ warm.drives ∧ 1 ∉ warm.drives) := by decide +kernel

/-! ## Witnesses: the whole block -/

theorem witness_StepRunsTheFrontCommand :
    step { State.reset with pending := [.perstRelease] } = exec .perstRelease { State.reset with pending := [] } ∧ State.reset.pending = [] :=
  ⟨rfl, rfl⟩

theorem witness_WhatCommandsMayTouch :
    (∃ t, exec .perstRelease live = .next t) ∧ touchesPermit .perstRelease = false ∧ touchesEpoch .perstRelease = false ∧
    touchesPhase .perstRelease = false ∧ touchesLedger .perstRelease = false :=
  ⟨⟨_, rfl⟩, rfl, rfl, rfl, rfl⟩

theorem witness_PermitRegisterNeverStops :
    State.reset.PermitLegal ∧ ∃ t, step { State.reset with pending := [.perstRelease] } = .next t :=
  ⟨⟨by decide, by decide⟩, _, rfl⟩


theorem witness_CommandsOfModesAndAgentsComplete :
    let held := fun (s : State) => (pts s [(.drvHostState, 0, 1), (.drvHostHoldMs, 0, 0)]).putDrv 0 { (inRegime 1).drv 0 with holdHost := some 0 }
    let back := pts (planted 3) [(.drvHostState, 0, 3)]
    let pd := fun (m : Nat) => (inMode m).withDev { live.dev with pdActive := true }
    let ridden := pts (inMode 3) [(.devOverrideEnable, 0, 1)]
    let sleepy := pts (inMode 2) [(.devWakeMask, 0, 127)]
    let asks := pts ((inMode 2).withDev { live.dev with sleepReq := true }) [(.devWakeTime, 0, 1)]
    let down := live.withDev { live.dev with supUp := false, logicUp := false }
    let late := (pts live [(.devLogicWdtMs, 0, 1000)]).withClk { live.clk with now := 1000000000 }
    let apart := ((inMode 1).withDev { live.dev with stoDiffAt := some 0 }).withClk { live.clk with now := 10 ^ 10 }
    let low := (inMode 5).withHw { live.hw with vLow := 3 }
    let dem := pts (canBusy false) [(.objDir, 255, 1)]
    ((held (planted 3)).holdLapsed 0 = true ∧ (held (planted 3)).shaftOf 0 = none) ∧
    ((held (grouped 3)).holdLapsed 0 = true ∧ (held (grouped 3)).shaftOf 0 = some 0 ∧ 0 ∈ (held (grouped 3)).shaftMembers 0) ∧
    (back.drives.contains 0 = true ∧ back.n .drvHostState 0 = 3 ∧ back.dev.hostLost = false) ∧
    ((inMode 6).dev.modeTaken = false ∧ (inMode 2).mode = 2 ∧ (inMode 6).mode = 6) ∧
    ((pd 1).mode = 1 ∧ (pd 1).readyOk = true ∧ (pd 6).readyOk = true ∧ (inMode 3).allAtRest = true ∧ (inMode 3).dev.haltCmd = false) ∧
    ((inMode 2).dev.stoA = true ∧ (inMode 2).dev.stoB = true ∧ (inMode 2).n .devSafeCause = 0) ∧
    (ridden.mode = 3 ∧ ridden.dev.haltCmd = false ∧ ridden.n .devOverrideEnable = 1 ∧ (2 : Nat) ^ 32 - 1 < 2 ^ 32) ∧
    (sleepy.mode = 2 ∧ sleepy.n .devWakeMask % 128 ≠ 0) ∧ (pd 1).jrn.exports = [] ∧
    (asks.dev.sleepReq = true ∧ asks.mode = 2 ∧ asks.wakeBits 0 = 0) ∧
    (live.up = true ∧ live.dev.supUp = true ∧ live.dev.logicUp = true ∧ down.up = true ∧ down.dev.supUp = false ∧ down.dev.logicUp = false) ∧
    (late.n .devLogicWdtMs ≠ 0 ∧ late.dev.logicBeat + msNs (late.n .devLogicWdtMs) ≤ late.now) ∧
    ((inMode 5).mode ≠ 7 ∧ (inMode 5).mode ≠ 0 ∧ (paired 1 0 3).n .pairRole = 1 ∧ (paired 1 0 3).up = true) ∧
    (apart.dev.stoDiffAt = some 0 ∧ 0 + msNs (apart.n .devStoDiscrepancyMs) < apart.now ∧ Arith.bit (apart.n .devSafeCause) 2 = false) ∧
    (low.up = true ∧ low.hw.vLow = 3 ∧ Arith.bit low.hw.rails 7 = false) ∧ live.endpointUp = true ∧
    (dem.objSends 0 255 = true ∧ dem.n .objPeriodMs (objIx 0 255) = 0) ∧ (pts dem [(.canState, 0, 4)]).n .canState 0 = 4 := by decide +kernel
end Sys2Proof.Tests
end

section
/-!
SUPPORT. Proofs/HostWatchdog.lean: what the host watchdog, the loss and return of the host, and the wake from Dormant can do. Everything
that these operations decide by or write is gathered in `State.watchView`; each operation has one equation about it.
-/
namespace Sys2Proof.Machine

/-! ## What the host watchdog, the host's loss and the wake are about -/

/-- The host watchdog, the device-wide conditions, and the points of mode, wake and watchdog. -/
structure WatchView where
  wdtMs : Nat
  wdtAt : Nat
  wdtExpired : Bool
  hostLost : Bool
  dormantCauses : Nat
  mode : Nat
  wakeMask : Nat
  wakeCause : Nat
  wdtState : Nat

def State.watchView (s : State) : WatchView where
  wdtMs := s.host.wdtMs
  wdtAt := s.host.wdtAt
  wdtExpired := s.host.wdtExpired
  hostLost := s.dev.hostLost
  dormantCauses := s.dev.dormantCauses
  mode := s.mode
  wakeMask := s.n .devWakeMask
  wakeCause := s.n .devWakeCause
  wdtState := s.n .devHifWdtState

/-- The points that `State.watchView` holds. -/
def watchField (f : Field) : Bool := [Field.devMode, .devWakeMask, .devWakeCause, .devHifWdtState].contains f

theorem State.watchView_of_quiet {s t : State} (h : t.quiet = s.quiet) : t.watchView = s.watchView := by
  have hn : ∀ f, fieldReports f = false → t.n f 0 0 = s.n f 0 0 := fun f hf => State.n_of_quiet h f 0 0 hf
  simp only [State.watchView, State.mode, State.dev_of_quiet h, hn .devMode rfl, hn .devWakeMask rfl, hn .devWakeCause rfl,
    hn .devHifWdtState rfl, State.hostPart_of_quiet h (·.wdtMs) fun _ => rfl, State.hostPart_of_quiet h (·.wdtAt) fun _ => rfl,
    State.hostPart_of_quiet h (·.wdtExpired) fun _ => rfl]

theorem State.putN_watchView (s : State) (f : Field) (i v j : Nat) (h : watchField f = false) :
    (s.putN f i v j).watchView = s.watchView := by
  have hne : ∀ g : Field, watchField g = true → g ≠ f := fun g hg e => by simp [← e, hg] at h
  simp only [State.watchView, State.mode, State.putN_host, State.putN_dev, State.n_putN_field _ (hne .devMode rfl),
    State.n_putN_field _ (hne .devWakeMask rfl), State.n_putN_field _ (hne .devWakeCause rfl),
    State.n_putN_field _ (hne .devHifWdtState rfl)]

@[simp] theorem State.withRnds_watchView (s : State) (v : Tab Rnd) : (s.withRnds v).watchView = s.watchView := rfl
@[simp] theorem State.withFbs_watchView (s : State) (v : Tab Fb) : (s.withFbs v).watchView = s.watchView := rfl
@[simp] theorem State.withDrvs_watchView (s : State) (v : Tab Drv) : (s.withDrvs v).watchView = s.watchView := rfl
@[simp] theorem State.withJrn_watchView (s : State) (v : Journal) : (s.withJrn v).watchView = s.watchView := rfl

@[simp] theorem State.emit_watchView (s : State) (o : Out) : (s.emit o).watchView = s.watchView := rfl

@[simp] theorem State.withDev_watchView (s : State) (d : Dev) :
    (s.withDev d).watchView = { s.watchView with hostLost := d.hostLost, dormantCauses := d.dormantCauses } := rfl

@[simp] theorem State.raise_watchView (s : State) (a b c d : Nat) : (s.raise a b c d).watchView = s.watchView :=
  State.watchView_of_quiet (s.raise_quiet a b c d)

@[simp] theorem State.irqFire_watchView (s : State) (n : Nat) : (s.irqFire n).watchView = s.watchView :=
  State.watchView_of_quiet (s.irqFire_quiet n)

@[simp] theorem State.msixCause_watchView (s : State) (c : Nat) : (s.msixCause c).watchView = s.watchView :=
  State.watchView_of_quiet (s.msixCause_quiet c)

@[simp] theorem State.jrnPublish_watchView (s : State) : s.jrnPublish.watchView = s.watchView :=
  State.watchView_of_quiet s.jrnPublish_quiet

@[simp] theorem State.captureTrigger_watchView (s : State) (a b c : Nat) : (s.captureTrigger a b c).1.watchView = s.watchView :=
  State.watchView_of_quiet (s.captureTrigger_quiet a b c)

@[simp] theorem State.irqWakeAll_watchView (s : State) (old : Nat) : (s.irqWakeAll old).watchView = s.watchView := by
  unfold State.irqWakeAll
  split
  · exact State.watchView_of_quiet (forL_quiet _ _ _ fun id t => t.irqWakeFor_quiet id)
  · rfl

theorem forN_watchView (n : Nat) (f : Nat → State → State) (s : State) (h : ∀ a t, (f a t).watchView = t.watchView) :
    (forN n f s).watchView = s.watchView := by
  induction n generalizing s with
  | zero => rfl
  | succ n ih => simp [forN, h, ih]

theorem forL_watchView {α : Type} (l : List α) (f : α → State → State) (s : State)
    (h : ∀ a t, (f a t).watchView = t.watchView) : (forL l f s).watchView = s.watchView := by
  induction l generalizing s with
  | nil => rfl
  | cons a l ih => simp [forL, h, ih]

/-! ## Rounds and feedback channels at a wake -/

@[simp] theorem State.setRanges_watchView (s : State) (r : Nat) (g : Option (Nat × Nat) × Option (Nat × Nat)) :
    (s.setRanges r g).watchView = s.watchView := by
  unfold State.setRanges State.publishDelays
  refine (forL_watchView _ _ _ fun p t => ?_).trans ?_
  · split
    · exact t.putN_watchView _ _ _ _ rfl
    · split
      · exact t.putN_watchView _ _ _ _ rfl
      · rfl
  · repeat rw [State.putN_watchView _ _ _ _ _ rfl]
    exact s.withRnds_watchView _

@[simp] theorem State.linkupBegin_watchView (s : State) (r : Nat) : (s.linkupBegin r).watchView = s.watchView := by
  unfold State.linkupBegin
  rw [State.putN_watchView _ _ _ _ _ rfl, State.putN_watchView _ _ _ _ _ rfl, State.setRanges_watchView]
  exact s.withRnds_watchView _

@[simp] theorem State.fbFlag_watchView (s : State) (n bit : Nat) (on : Bool) : (s.fbFlag n bit on).watchView = s.watchView :=
  s.withFbs_watchView _

@[simp] theorem State.fbStill_watchView (s : State) (n : Nat) : (s.fbStill n).watchView = s.watchView := by
  unfold State.fbStill
  simp only [State.fbFlag_watchView]
  exact s.withFbs_watchView _

@[simp] theorem State.fbWake_watchView (s : State) : s.fbWake.watchView = s.watchView :=
  forN_watchView _ _ _ fun n t => by split <;> simp

/-! ## Loss and return of the host (R323, R325) -/

/-- The device-wide conditions once the host is lost. -/
def State.lostDev (s : State) : Dev :=
  if s.dev.hostLost then s.dev else { s.dev with hostLost := true, hostLostEpoch := s.epoch }

theorem State.loseHost_quiet (s : State) : s.loseHost.quiet = (s.withDev s.lostDev).quiet := by
  unfold State.loseHost State.lostDev
  split
  · rw [State.withDev_self]
  · rw [State.irqFire_quiet, State.raise_quiet]

/-- A loss of the host that is new is reported, and source 9 of Table 16.2 fires. -/
theorem State.loseHost_reports (s : State) (h : s.dev.hostLost = false) :
    Raised s s.loseHost 0x0A40 kDevice 0 ∧ (s.loseHost.src 9).pend = true := by
  unfold State.loseHost
  rw [if_neg (by simp [h])]
  refine ⟨?_, State.irqFire_self _ 9 rfl⟩
  unfold Raised
  rw [State.irqFire_so]
  exact State.raise_raised _ _ _ _ _ rfl

@[simp] theorem State.agentReturn_watchView (s : State) (b : Bool) : (s.agentReturn b).watchView = s.watchView :=
  forL_watchView _ _ _ fun _ t => (State.withDrvs_watchView _ _).trans (t.putN_watchView _ _ _ _ rfl)

@[simp] theorem State.agentReturn_so (s : State) (b : Bool) : (s.agentReturn b).so = s.so := forL_so _ _ _ fun _ _ => rfl

@[simp] theorem State.returnHost_watchView (s : State) : s.returnHost.watchView = { s.watchView with hostLost := false } := by
  unfold State.returnHost
  split
  · next h => rw [← (by simpa using h : s.dev.hostLost = false)]; rfl
  · simp only [State.agentReturn_watchView, State.irqFire_watchView, State.raise_watchView]; rfl

theorem State.returnHost_raised (s : State) (h : s.dev.hostLost = true) : Raised s s.returnHost 0x0A41 kDevice 0 := by
  unfold State.returnHost Raised
  rw [if_neg (by simp [h]), State.agentReturn_so, State.irqFire_so]
  exact State.raise_raised _ _ _ _ _ rfl

/-! ## The wake from Dormant (R318, R320) -/

@[simp] theorem State.stopTokens_watchView (s : State) : s.stopTokens.watchView = s.watchView := by
  unfold State.stopTokens
  split <;> rfl

/-- A change of the mode's point is a change of the view's mode. -/
theorem State.putMode_watchView (s : State) (m : Nat) (h : m < 2 ^ 32) :
    (s.putN .devMode 0 m).watchView = { s.watchView with mode := m } := by
  simp [State.watchView, State.mode, State.n_putN_same _ _ _ _ _ h]

theorem State.putWakeCause_watchView (s : State) (c : Nat) (h : c < 2 ^ 32) :
    (s.putN .devWakeCause 0 c).watchView = { s.watchView with wakeCause := c } := by
  simp [State.watchView, State.mode, State.n_putN_same _ _ _ _ _ h]

/-- From Dormant into a mode without tokens: of what the view holds only the mode changes. Tokens flow neither before nor after, so no
drive is blocked or released. -/
theorem State.setMode_of_dormant_watchView (s : State) (m : Nat) (h : s.watchView.mode = 0) (hm : m ≠ 0) (hr : modeRuns m = false)
    (hl : m < 2 ^ 32) :
    (s.setMode m).watchView = { s.watchView with mode := m } := by
  have h0 : modeRuns 0 = false := rfl
  have hp := State.putMode_watchView (s.putN .devModePrev 0 0) m hl
  rw [s.putN_watchView .devModePrev 0 0 0 rfl] at hp
  unfold State.setMode
  simp [show s.mode = 0 from h, hm.symm, hr, h0, hp]

/-! ## The wake cause (Table 10.6) -/

theorem lowBit_lt (w : Nat) : lowBit w < 12 := by
  unfold lowBit
  cases h : (List.range 12).find? (fun k => Arith.bit w k) with
  | none => decide
  | some k => exact List.mem_range.1 (List.mem_of_find?_eq_some h)

/-- The lowest bit set: it is set, and none below it is. -/
theorem lowBit_eq {w k : Nat} (hk : k < 12) (h : Arith.bit w k = true) (hb : ∀ i, i < k → Arith.bit w i = false) : lowBit w = k := by
  have : (List.range 12).find? (fun i => Arith.bit w i) = some k := by
    rw [List.find?_range_eq_some]
    exact ⟨h, by simpa using hk, fun i hi => by simp [hb i hi]⟩
  simp [lowBit, this]

theorem bit_eq_testBit (w k : Nat) : Arith.bit w k = w.testBit k := by
  rw [Nat.testBit_eq_decide_div_mod_eq]; rfl

/-- A letterbox write counts as wake source 4 where that is enabled; of the other sources only the timer's bit 6 can stand. -/
theorem State.wakeBits_doorbell (s : State) (k : Nat) (hk : k < 8) (h6 : k ≠ 6) :
    Arith.bit (s.wakeBits 16) k = (decide (k = 4) && Arith.bit (s.n .devWakeMask) 4) := by
  have hm : (s.n .devWakeMask % 128 + 128).testBit 4 = (s.n .devWakeMask).testBit 4 := by
    simp only [Nat.testBit_eq_decide_div_mod_eq]
    congr 2
    omega
  have h16 : ∀ k < 8, k ≠ 6 → (16 % 256).testBit k = decide (k = 4) := by decide
  have h80 : ∀ k < 8, k ≠ 6 → (80 % 256).testBit k = decide (k = 4) := by decide
  have hf : ∀ f : Nat, f = 16 ∨ f = 80 → (f % 256).testBit k = decide (k = 4) ∧ Arith.setBit f 5 false = f := by
    rintro f (rfl | rfl)
    · exact ⟨h16 k hk h6, rfl⟩
    · exact ⟨h80 k hk h6, rfl⟩
  unfold State.wakeBits
  rw [bit_eq_testBit, bit_eq_testBit]
  extract_lets f g
  have hf' : f = 16 ∨ f = 80 := by simp only [f]; split <;> decide
  have hg : g = f := by simp only [g]; split; exacts [(hf f hf').2, rfl]
  show (g % 256 &&& (s.n .devWakeMask % 128 + 128)).testBit k = _
  rw [hg, Nat.testBit_and, (hf f hf').1]
  by_cases h4 : k = 4
  · rw [h4, hm]
  · simp [h4]

/-- What every wake begins with: the published cause, the signal to the host, link-up of every round, the feedback channels. -/
def State.woken (s : State) (cause : Nat) : State :=
  let s1 := ((s.withDev { s.dev with wokeAt := s.now }).putN .devWakeCause 0 cause).emit (.pcieWake s.now)
  (forL s1.plant.rounds (fun r t => t.linkupBegin r) s1).fbWake

/-- What a wake to Safe adds: `SAFE_ENTERED` for each cause that waited, and a journal trigger. -/
def State.safeReported (s : State) : State :=
  let s1 := forL ((List.range 9).filter (fun k => Arith.bit s.dev.dormantCauses k)) (fun k t => t.raise 0x0C43 kDevice 0 (k + 1)) s
  if s1.n .jrnTrigSafe = 1 then (s1.captureTrigger s1.epoch (s1.n .jrnPreMs) (s1.n .jrnPostMs)).1 else s1

/-- The causes that waited in Dormant have had their wake. -/
def State.causesTaken (s : State) : State := s.withDev { s.dev with dormantCauses := 0 }

theorem State.causesTaken_watchView (s : State) : s.causesTaken.watchView = { s.watchView with dormantCauses := 0 } := rfl

theorem State.wakeUp_safe (s : State) (bits : Nat) (h : (s.dev.dormantCauses != 0 || Arith.bit bits 7) = true) :
    s.wakeUp bits = (s.woken 128).safeReported.causesTaken.setMode 6 := by
  unfold State.wakeUp
  rw [h]
  extract_lets safe dev s0 s1 s2 codes s3 s4 dev'
  have h4 : s4 = s2.safeReported := rfl
  have h2 : s2 = s.woken 128 := rfl
  rw [← h2, ← h4]
  clear_value s4
  exact if_pos rfl

theorem State.wakeUp_configure (s : State) (bits : Nat) (h : (s.dev.dormantCauses != 0 || Arith.bit bits 7) = false) :
    s.wakeUp bits = (s.woken (2 ^ lowBit bits)).setMode 1 := by
  unfold State.wakeUp
  rw [h]
  exact if_neg Bool.false_ne_true

theorem State.woken_watchView (s : State) (cause : Nat) (h : cause < 2 ^ 32) :
    (s.woken cause).watchView = { s.watchView with wakeCause := cause } := by
  unfold State.woken
  rw [State.fbWake_watchView, forL_watchView _ _ _ fun r t => t.linkupBegin_watchView r, State.emit_watchView,
    State.putWakeCause_watchView _ _ h]
  rfl

@[simp] theorem State.safeReported_watchView (s : State) : s.safeReported.watchView = s.watchView := by
  have h := forL_watchView ((List.range 9).filter (fun k => Arith.bit s.dev.dormantCauses k))
    (fun k t => t.raise 0x0C43 kDevice 0 (k + 1)) s fun k t => t.raise_watchView _ _ _ _
  unfold State.safeReported
  dsimp only
  split
  · rw [State.captureTrigger_watchView, h]
  · exact h

/-- A wake in which a Safe cause takes part leads to Safe with wake cause 128. -/
theorem State.wakeUp_safe_watchView (s : State) (bits : Nat) (h : (s.dev.dormantCauses != 0 || Arith.bit bits 7) = true)
    (hm : s.mode = 0) :
    (s.wakeUp bits).watchView = { s.watchView with mode := 6, wakeCause := 128, dormantCauses := 0 } := by
  have hw : (s.woken 128).safeReported.causesTaken.watchView = { s.watchView with wakeCause := 128, dormantCauses := 0 } := by
    rw [State.causesTaken_watchView, State.safeReported_watchView, s.woken_watchView 128 (by decide)]
  have hm' := (congrArg WatchView.mode hw).trans hm
  rw [s.wakeUp_safe bits h, State.setMode_of_dormant_watchView _ 6 hm' (by decide) rfl (by decide), hw]

/-- A wake in which no Safe cause takes part leads to Configure with the lowest source that fired. -/
theorem State.wakeUp_configure_watchView (s : State) (bits : Nat) (h : (s.dev.dormantCauses != 0 || Arith.bit bits 7) = false)
    (hm : s.mode = 0) :
    (s.wakeUp bits).watchView = { s.watchView with mode := 1, wakeCause := 2 ^ lowBit bits } := by
  have hw := s.woken_watchView (2 ^ lowBit bits) (Nat.pow_lt_pow_right (by decide) (by have := lowBit_lt bits; omega))
  have hm' := (congrArg WatchView.mode hw).trans hm
  rw [s.wakeUp_configure bits h, State.setMode_of_dormant_watchView _ 1 hm' (by decide) rfl (by decide), hw]

/-! ## The letterbox page (R337, R350) -/

@[simp] theorem State.hifPublish_host (s : State) : s.hifPublish.host = s.host := rfl
@[simp] theorem State.hifPublish_dev (s : State) : s.hifPublish.dev = s.dev := rfl
@[simp] theorem State.hifPublish_so (s : State) : s.hifPublish.so = s.so := rfl
@[simp] theorem State.hifPublish_rest (s : State) : s.hifPublish.rest = s.rest := rfl

/-- The published state of the watchdog: 0 off, 1 running, 2 expired. -/
def State.wdtCode (s : State) : Nat := if s.host.wdtMs = 0 then 0 else if s.host.wdtExpired then 2 else 1

theorem State.hifPublish_wdtState (s : State) : s.hifPublish.n .devHifWdtState = s.wdtCode := by
  refine State.n_putN_same _ _ _ _ _ ?_
  split
  · decide
  · split <;> decide

theorem State.hifPublish_wdtMs (s : State) (h : s.host.wdtMs < 2 ^ 32) : s.hifPublish.n .devHifWdtMs = s.host.wdtMs := by
  unfold State.hifPublish
  rw [State.n_putN_field _ (by decide), State.n_putN_same _ _ _ _ _ h]

theorem State.hifPublish_points (s : State) :
    SamePoints s s.hifPublish [⟨.devHifVersion, 0, 0⟩, ⟨.devHifSession, 0, 0⟩, ⟨.devHifWdtMs, 0, 0⟩, ⟨.devHifWdtState, 0, 0⟩] :=
  (((SamePoints.put s _ _ _ _).trans (SamePoints.put _ _ _ _ _)).trans (SamePoints.put _ _ _ _ _)).trans (SamePoints.put _ _ _ _ _)

theorem State.hifPublish_watchView (s : State) : s.hifPublish.watchView = { s.watchView with wdtState := s.wdtCode } := by
  have hn : ∀ f : Field, f ∉ [Field.devHifVersion, .devHifSession, .devHifWdtMs, .devHifWdtState] → s.hifPublish.n f = s.n f :=
    fun f hf => State.n_ext (s.hifPublish_points f 0 0 (by simpa using hf))
  simp only [State.watchView, State.mode, s.hifPublish_wdtState, hn .devMode (by decide), hn .devWakeMask (by decide),
    hn .devWakeCause (by decide), State.hifPublish_host, State.hifPublish_dev]

/-- The first effect of a letterbox write: the period starts anew and the watchdog is no longer expired. -/
def State.wdtRestart (s : State) : State := (s.withHost { s.host with wdtAt := s.now, wdtExpired := false }).hifPublish

theorem State.wdtRestart_watchView (s : State) : s.wdtRestart.watchView =
    { s.watchView with wdtAt := s.now, wdtExpired := false, wdtState := if s.host.wdtMs = 0 then 0 else 1 } := by
  unfold State.wdtRestart
  rw [State.hifPublish_watchView]
  rfl

/-- The host's answer by the letterbox: the watchdog restarts and a lost host returns. -/
def State.hostAnswers (s : State) : State := s.wdtRestart.returnHost

theorem State.hostAnswers_watchView (s : State) : s.hostAnswers.watchView =
    { s.watchView with
      wdtAt := s.now, wdtExpired := false, wdtState := if s.host.wdtMs = 0 then 0 else 1, hostLost := false } := by
  unfold State.hostAnswers
  rw [State.returnHost_watchView, State.wdtRestart_watchView]

/-- Whether a letterbox write wakes the module: it is in Dormant and its wake mask allows the doorbell (R317). -/
def State.letterboxWakes (s : State) : Bool := s.mode == 0 && Arith.bit (s.n .devWakeMask) 4

theorem State.letterboxWakes_iff (s : State) : s.letterboxWakes = true ↔ s.mode = 0 ∧ Arith.bit (s.n .devWakeMask) 4 = true := by
  simp [State.letterboxWakes]

/-- A letterbox write by its cases: firmware does not run, the module is awake or stays asleep, it wakes. -/
theorem State.letterbox_cases (s : State) : s.letterbox =
    if s.up = false then s.wdtRestart
    else if s.letterboxWakes = true then s.hostAnswers.wakeUp (s.hostAnswers.wakeBits 16) else s.hostAnswers := by
  have hv := s.hostAnswers_watchView
  have hm : s.hostAnswers.mode = s.mode := congrArg WatchView.mode hv
  have hw : s.hostAnswers.n .devWakeMask = s.n .devWakeMask := congrArg WatchView.wakeMask hv
  have hu : s.wdtRestart.up = s.up := rfl
  simp only [s.letterboxWakes_iff, ← hm, ← hw, ← hu, ← Bool.not_eq_true]
  rfl

/-- Where the mask allows the doorbell and no Safe cause waits, a letterbox write wakes to Configure with wake cause 16. -/
theorem State.hostAnswers_wake_configure (s : State) (hm : s.mode = 0) (hk : Arith.bit (s.n .devWakeMask) 4 = true)
    (hc : s.dev.dormantCauses = 0) : (s.hostAnswers.wakeUp (s.hostAnswers.wakeBits 16)).watchView =
      { s.hostAnswers.watchView with mode := 1, wakeCause := 16 } := by
  have hv := s.hostAnswers_watchView
  have hc' : s.hostAnswers.dev.dormantCauses = 0 := (congrArg WatchView.dormantCauses hv).trans hc
  have hk' : Arith.bit (s.hostAnswers.n .devWakeMask) 4 = true := (congrArg (Arith.bit ·.wakeMask 4) hv).trans hk
  have hb := s.hostAnswers.wakeBits_doorbell
  have hl : lowBit (s.hostAnswers.wakeBits 16) = 4 :=
    lowBit_eq (by decide) (by simp [hb 4, hk']) fun i hi => by simp [hb i (by omega) (by omega), hi.ne]
  rw [State.wakeUp_configure_watchView _ _ (by simp [hc', hb 7]) ((congrArg WatchView.mode hv).trans hm), hl]
  rfl

/-- Where a Safe cause waits, it wakes to Safe with wake cause 128, and no cause waits any more. -/
theorem State.hostAnswers_wake_safe (s : State) (hm : s.mode = 0) (hc : s.dev.dormantCauses ≠ 0) :
    (s.hostAnswers.wakeUp (s.hostAnswers.wakeBits 16)).watchView =
      { s.hostAnswers.watchView with mode := 6, wakeCause := 128, dormantCauses := 0 } := by
  have hv := s.hostAnswers_watchView
  have hc' : s.hostAnswers.dev.dormantCauses = s.dev.dormantCauses := congrArg WatchView.dormantCauses hv
  exact State.wakeUp_safe_watchView _ _ (by simp [hc', hc]) ((congrArg WatchView.mode hv).trans hm)

/-- The watchdog restarted, not expired, and published so; and the host is back where firmware runs. -/
def WatchView.restartedAt (v : WatchView) (s : State) : Prop :=
  v.wdtAt = s.now ∧ v.wdtExpired = false ∧ v.wdtState = (if s.host.wdtMs = 0 then 0 else 1) ∧ (s.up = true → v.hostLost = false)

theorem State.hostAnswers_restarts (s : State) : s.hostAnswers.watchView.restartedAt s := by
  rw [s.hostAnswers_watchView]
  exact ⟨rfl, rfl, rfl, fun _ => rfl⟩

/-- Every letterbox write restarts the watchdog, and returns the host where firmware runs. -/
theorem State.letterbox_restarts (s : State) : s.letterbox.watchView.restartedAt s := by
  rw [s.letterbox_cases]
  split
  · next hu =>
    rw [s.wdtRestart_watchView]
    exact ⟨rfl, rfl, rfl, fun h => by simp [hu] at h⟩
  · split
    · next hw =>
      obtain ⟨hm, hk⟩ := s.letterboxWakes_iff.1 hw
      by_cases h0 : s.dev.dormantCauses = 0
      · rw [s.hostAnswers_wake_configure hm hk h0]; exact s.hostAnswers_restarts
      · rw [s.hostAnswers_wake_safe hm h0]; exact s.hostAnswers_restarts
    · exact s.hostAnswers_restarts

/-- A ring's doorbell changes nothing of the watchdog. -/
theorem State.ringBell_watchView (s : State) (agent n w : Nat) : (s.ringBell agent n w).watchView = s.watchView := by
  unfold State.ringBell
  dsimp only
  split
  · split
    · rfl
    · exact (State.raise_watchView _ _ _ _ _).trans (State.putN_watchView _ _ _ _ _ rfl)
  · rfl

/-- A letterbox write to a lost host's module that does not wake reports the return. -/
theorem State.letterbox_awake (s : State) (hu : s.up = true) (hl : s.dev.hostLost = true) (hw : s.letterboxWakes = false) :
    Raised s s.letterbox 0x0A41 kDevice 0 ∧ s.letterbox.mode = s.mode := by
  rw [s.letterbox_cases, if_neg (by simp [hu]), if_neg (by simp [hw])]
  exact ⟨Raised.of_so (s.wdtRestart.returnHost_raised hl) rfl, congrArg WatchView.mode s.hostAnswers_watchView⟩

/-- A letterbox write that wakes. -/
theorem State.letterbox_wakes (s : State) (hu : s.up = true) (hm : s.mode = 0) (hk : Arith.bit (s.n .devWakeMask) 4 = true) :
    s.letterbox = s.hostAnswers.wakeUp (s.hostAnswers.wakeBits 16) := by
  rw [s.letterbox_cases, if_neg (by simp [hu]), if_pos (s.letterboxWakes_iff.2 ⟨hm, hk⟩)]

/-! ## The watchdog's control and its expiry (R350) -/

/-- A write of the control touches the host interface's record and the published points only. -/
theorem State.wdtWrite_frame (s : State) (v : Nat) :
    (s.wdtWrite v).rest = (s.withHost (s.wdtWrite v).host).rest ∧
    SamePoints s (s.wdtWrite v)
      [⟨.devHifVersion, 0, 0⟩, ⟨.devHifSession, 0, 0⟩, ⟨.devHifWdtMs, 0, 0⟩, ⟨.devHifWdtState, 0, 0⟩] := by
  unfold State.wdtWrite
  dsimp only
  split
  · exact ⟨by rw [State.withHost_self], fun _ _ _ _ => rfl⟩
  · split
    · split
      · exact ⟨rfl, fun _ _ _ _ => rfl⟩
      · exact ⟨rfl, State.hifPublish_points _⟩
    · exact ⟨rfl, State.hifPublish_points _⟩

theorem State.wdtWrite_outOfRange (s : State) (v : Nat) (h : 1000 < v % 1024) : s.wdtWrite v = s := if_pos h

theorem State.wdtWrite_off (s : State) (v : Nat) (h : v % 1024 = 0) : s.wdtWrite v =
    if modeRuns s.mode then s.withHost { s.host with offRefused := true } else (s.withHost { s.host with wdtMs := 0 }).hifPublish := by
  unfold State.wdtWrite
  rw [h]
  rfl

theorem State.wdtWrite_period (s : State) (v : Nat) (h0 : 1 ≤ v % 1024) (h : v % 1024 ≤ 1000) : s.wdtWrite v =
    (s.withHost { s.host with wdtMs := v % 1024, wdtAt := s.now, wdtExpired := false }).hifPublish := by
  unfold State.wdtWrite
  dsimp only
  rw [if_neg (by omega), if_neg (by omega)]

/-- A frame that names new host and device records also holds with those records as the state then reads them. -/
theorem State.rest_of_host_dev {s t : State} {v : HostIf} {d : Dev} (h : t.rest = ((s.withHost v).withDev d).rest) :
    t.rest = ((s.withHost t.host).withDev t.dev).rest := by
  have hd : t.dev = d := congrArg State.dev h
  have hh := congrArg State.host h
  rw [h, hd]
  simp only [State.withDev_rest, State.withHost_rest]
  exact congrArg (fun x => (s.rest.withHost x).withDev d) hh.symm

@[simp] theorem State.msixCause_so (s : State) (c : Nat) : (s.msixCause c).so = s.so := by
  unfold State.msixCause State.msix
  split
  · split
    · split <;> rfl
    · rfl
  · rfl

/-- The watchdog with its expiry noted and counted (Table 11.12). -/
def State.wdtLapsed (s : State) : State :=
  (s.withHost { s.host with wdtExpired := true, expiries := min (s.host.expiries + 1) 0xFFFF }).hifPublish

theorem State.wdtExpire_due (s : State) (hu : s.up = true) (h0 : s.host.wdtMs ≠ 0) (hx : s.host.wdtExpired = false)
    (ht : s.host.wdtAt + msNs s.host.wdtMs ≤ s.now) : s.wdtExpire = (s.wdtLapsed.msixCause 1).loseHost :=
  if_pos ⟨hu, h0, by simp [hx], ht⟩

theorem State.withDev_quiet {s t : State} (h : t.quiet = s.quiet) (d : Dev) : (t.withDev d).quiet = (s.withDev d).quiet := by
  refine Prod.ext ?_ (show t.shown = s.shown from congrArg Prod.snd h)
  show (t.withDev d).rest = (s.withDev d).rest
  rw [State.withDev_rest, State.withDev_rest, State.rest_of_quiet h]

/-- What the expiry leaves, but for what reporting writes: the lapsed watchdog and a lost host. -/
theorem State.wdtLost_quiet (s : State) : (s.wdtLapsed.msixCause 1).loseHost.quiet = (s.wdtLapsed.withDev s.lostDev).quiet := by
  have hq := s.wdtLapsed.msixCause_quiet 1
  have hd : (s.wdtLapsed.msixCause 1).lostDev = s.lostDev := by
    unfold State.lostDev State.epoch
    rw [State.dev_of_quiet hq, State.clk_of_quiet hq]
    rfl
  rw [State.loseHost_quiet, hd]
  exact State.withDev_quiet hq _

/-! ## The four commands -/

theorem exec_wdtCtrlWrite_eq (v : Word) (s : State) (h : s.endpointUp = true) :
    exec (.wdtCtrlWrite v) s = .next (s.wdtWrite v.toNat) := congrArg Host.Outcome.next (if_pos h)

theorem exec_hostWdtExpiry_eq (s : State) : exec .hostWdtExpiry s = .next s.wdtExpire := rfl

theorem exec_hostDoorbell_eq (n : Fin 21) (v : Word) (s : State) (h : s.endpointUp = true) :
    exec (.doorbell .host n v) s = .next (s.letterbox.ringBell 0 n v.toNat) := congrArg Host.Outcome.next (if_pos h)

theorem exec_heartbeat_eq (s : State) (h : s.endpointUp = true) : exec .heartbeat s = .next s.letterbox :=
  congrArg Host.Outcome.next (if_pos h)

/-- Settles O17: each command by its equation, the letterbox through what it does to `State.watchView`. -/
theorem hostWatchdogAndLetterbox : Obligations.HostWatchdogAndLetterbox := by
  unfold Obligations.HostWatchdogAndLetterbox
  refine fun s hs => ⟨fun v => ?_, fun hu h0 hx ht => ?_, fun n v => ?_, ?_⟩
  · rw [exec_wdtCtrlWrite_eq v s hs]
    obtain ⟨hrest, hpts⟩ := s.wdtWrite_frame v.toNat
    refine yields_next ⟨s.wdtWrite_outOfRange _, fun hms hr => ?_, fun hms hr => ?_, fun h1 h2 => ?_, hrest, hpts⟩
    · rw [s.wdtWrite_off _ hms, if_pos hr]
    · rw [s.wdtWrite_off _ hms, if_neg (by simp [hr])]
      exact ⟨rfl, State.hifPublish_wdtMs _ (Nat.two_pow_pos 32), State.hifPublish_wdtState _⟩
    · rw [s.wdtWrite_period _ h1 h2]
      exact ⟨rfl, State.hifPublish_wdtMs _ (by show v.toNat % 1024 < _; omega)⟩
  · have hq := s.wdtLost_quiet
    rw [exec_hostWdtExpiry_eq, s.wdtExpire_due hu h0 hx ht]
    refine yields_next ⟨State.hostPart_of_quiet hq (·.wdtExpired) fun _ => rfl, State.hostPart_of_quiet hq (·.expiries) fun _ => rfl,
      ?_, State.dev_of_quiet hq, fun hl => ?_,
      State.rest_of_host_dev (v := s.wdtLapsed.host) ((State.rest_of_quiet hq).trans rfl)⟩
    · rw [State.n_of_quiet hq _ _ _ rfl]
      exact (State.hifPublish_wdtState _).trans (if_neg h0)
    · have hl' : (s.wdtLapsed.msixCause 1).dev.hostLost = false :=
        (congrArg WatchView.hostLost (s.wdtLapsed.msixCause_watchView 1)).trans hl
      obtain ⟨hraised, hfired⟩ := State.loseHost_reports _ hl'
      exact ⟨hraised.of_so (State.msixCause_so _ _), hfired⟩
  · rw [exec_hostDoorbell_eq n v s hs]
    obtain ⟨hat, hexp, -, hlost⟩ := s.letterbox_restarts
    rw [← State.ringBell_watchView _ 0 n v.toNat] at hat hexp hlost
    exact yields_next ⟨hat, hexp, hlost⟩
  · rw [exec_heartbeat_eq s hs]
    obtain ⟨hat, hexp, hcode, hlost⟩ := s.letterbox_restarts
    refine yields_next ⟨hat, hexp, fun h0 => hcode.trans (if_neg h0), hlost, fun hu hl hn => ?_, fun hu hm hk hc => ?_,
      fun hu hm hk hc => ?_⟩
    · refine s.letterbox_awake hu hl ?_
      rcases hn with hm | hk
      · simp [State.letterboxWakes, hm]
      · simp [State.letterboxWakes, hk]
    · have hv := s.hostAnswers_wake_configure hm hk hc
      rw [← s.letterbox_wakes hu hm hk] at hv
      exact ⟨congrArg WatchView.mode hv, congrArg WatchView.wakeCause hv⟩
    · have hv := s.hostAnswers_wake_safe hm hc
      rw [← s.letterbox_wakes hu hm hk] at hv
      exact ⟨congrArg WatchView.mode hv, congrArg WatchView.wakeCause hv, congrArg WatchView.dormantCauses hv⟩

end Sys2Proof.Machine
end

section
/-!
SUPPORT. Proofs/StackFaultReport.lean: an EOI reports more than its stack fault. Supervisor's EOI of source 1 ends the condition of that
source (log entry 33), so source 1, presented to the core, is withdrawn and leaves a dead letter (R466), which is reported too; and each
report that is a trigger code of the journal may start a capture that reports itself (R389). `Raised` leaves room for one report beside
the event's own. With two, the second may close the event's own postmark early (R486).
-/
namespace Sys2Proof.Machine

/-! ## Supervisor's EOI of source 1 on an empty stack -/

theorem State.eoi_emptyStack (s : State) (c id : Nat) (h0 : id ≠ 0) (h1 : id ≠ 1023) (hk : (s.core c).stack = []) :
    s.eoi c id = s.stackFaulted c id 0 := by
  unfold State.eoi
  simp [h0, h1, hk]

theorem exec_eoi_source1_emptyStack (c : CoreNo) (s : State) (hc : c.val < 2) (hk : (s.core c).stack = []) :
    exec (.eoi c 1) s = .next (s.stackFaulted c 1 0).stoSeen := by
  rw [← s.eoi_emptyStack c 1 (by decide) (by decide) hk]
  exact congrArg Host.Outcome.next (if_pos ⟨rfl, hc⟩)

/-! ## A sorting office that the reports of one EOI fill -/

/-- A postmark that a guard event opened at device time 0; the first 75 of them differ in code (0x0D01 to 0x0D05) or reporter kind. -/
def guardMark (k : Nat) : Postmark :=
  { code := 0x0D01 + k / 15, kind := k % 15, t1 := 0, w := 10000, first := ⟨0, 0, 0⟩, last := ⟨0, 0, 0⟩, count := 1, differ := false,
    idxs := [0] }

/-- A block in Configure at device time 0, with firmware, and with IRQ_DEAD_LETTER as a trigger code of the journal. -/
def deadLetterTriggers : State :=
  ((State.reset.withDev
      { State.reset.dev with powered := true, boot := 0, supUp := true, logicUp := true, stoA := true, stoB := true }).withClk
    { State.reset.clk with running := true, started := true }).putN .devMode 0 1 |>.putN .jrnTrigCode 0 0x0C02

/-- The same with 62 postmarks open and with source 1 presented to core 0, which claimed nothing. -/
def crowdedOffice : State :=
  let s := deadLetterTriggers.withSo { deadLetterTriggers.so with opened := (List.range 62).map guardMark, taken := 62 }
  (s.putSrc 1 { s.src 1 with prio := 1, mask := 1, cond := true, enabled := true }).putCore 0 { s.core 0 with presented := 1 }

theorem crowdedOffice_hasRoom : crowdedOffice.so.taken < 256 ∧ crowdedOffice.so.opened.length < 63 := by decide

theorem crowdedOffice_stack : (crowdedOffice.core 0).stack = [] := by decide

/-- The stack fault opens the 63rd postmark, which stands first by its code, with source 1 still presented to core 0. The dead letter of
that source opens the 64th, and the report of its capture (0x0B02) closes the earliest, that of the stack fault. -/
theorem crowdedOffice_closesStackFaultEarly :
    let t := crowdedOffice.stackFaulted 0 1 0
    (t.so.opened = crowdedOffice.newPostmark 0x0C01 kCore ⟨0, 1, 0⟩ :: crowdedOffice.so.opened ∧ (t.core 0).presented = 1) ∧
    ¬∃ p ∈ t.stoSeen.so.opened, p.code = 0x0C01 ∧ p.kind = kCore ∧ 0 ∈ p.idxs := by decide +kernel

/-- Refutes O2 in its clause `Raised s t 0x0C01 kCore c`: with 62 postmarks open, Supervisor's EOI of source 1 on an empty stack reports
the stack fault, a dead letter and a capture, and the third report closes the postmark of the first. -/
theorem not_endOfInterruptPopsOrFaults : ¬ Obligations.EndOfInterruptPopsOrFaults := by
  unfold Obligations.EndOfInterruptPopsOrFaults
  intro h
  obtain ⟨t, ht, -, -, hfault, -⟩ := h 0 1 crowdedOffice
  rw [exec_eoi_source1_emptyStack 0 _ (by decide) crowdedOffice_stack] at ht
  cases ht
  obtain ⟨-, -, -, -, -, -, hraised⟩ := hfault (by decide) (by decide) (by simp [crowdedOffice_stack])
  have hpost := hraised crowdedOffice_hasRoom.1 crowdedOffice_hasRoom.2
  exact crowdedOffice_closesStackFaultEarly.2 hpost

end Sys2Proof.Machine
end

section
/-!
SUPPORT. Proofs/Timeline.lean: what the commands of the timeline, of power and of reset, the joining of a counterfoil and the fuses do
to the things that `State.kept` lists. With `exec_kept` for every other command this settles what hardly any command may touch.
-/
namespace Sys2Proof.Machine

/-! ## Loops keep what their bodies keep -/

theorem forN_keeps {α : Type} (g : State → α) (n : Nat) (f : Nat → State → State) (s : State) (h : ∀ a t, g (f a t) = g t) :
    g (forN n f s) = g s := by
  induction n with
  | zero => rfl
  | succ n ih => exact (h n _).trans ih

theorem forL_keeps {α β : Type} (g : State → α) (l : List β) (f : β → State → State) (s : State) (h : ∀ a t, g (f a t) = g t) :
    g (forL l f s) = g s := by
  induction l generalizing s with
  | nil => rfl
  | cons a l ih => exact (ih _).trans (h a s)

/-! ## The boundary -/

@[simp] theorem State.idleEnds_clk (s : State) : s.idleEnds.clk = s.clk := by
  unfold State.idleEnds
  split
  · rfl
  · exact forN_keeps State.clk 16 (fun r t => t.emit (.endIdle r t.ownEnd)) s fun _ _ => rfl

@[simp] theorem State.departures_clk (s : State) : s.departures.clk = s.clk := by
  unfold State.departures
  extract_lets missed n p s1
  split
  · exact s1.idleEnds_clk
  · rfl

@[simp] theorem State.countRound_clk (s : State) (r : Nat) : (s.countRound r).clk = s.clk := rfl

theorem State.clockStep_kept (s : State) : s.clockStep.kept =
    (s.pending, s.dev.permit, s.hw.keys, s.hw.posB, s.dev.powered, if s.clk.started then s.clk.epoch + 1 else 0, 0, s.led) :=
  s.withClk_kept _

theorem State.permitStep_kept (s : State) : s.permitStep.kept = (s.kept.1, lfsrStep s.dev.permit, s.kept.2.2) :=
  s.withDev_kept _

theorem State.boundary_kept (s : State) (smp : Samples) : (s.boundary smp).kept = s.kept := by
  unfold State.boundary
  simp

theorem State.epochBoundary_kept (s : State) (smp : Samples) : (s.epochBoundary smp).kept =
    (s.pending, lfsrStep s.dev.permit, s.hw.keys, s.hw.posB, s.dev.powered,
      if s.clk.started then s.clk.epoch + 1 else 0, 0, s.led) := by
  have hcounted : (forN 16 (fun r t => t.countRound r) s.departures).kept = s.kept := by simp
  have hclk : (forN 16 (fun r t => t.countRound r) s.departures).clk = s.clk :=
    (forN_keeps State.clk 16 (fun r t => t.countRound r) _ fun r t => t.countRound_clk r).trans s.departures_clk
  unfold State.epochBoundary
  generalize forN 16 (fun r t => t.countRound r) s.departures = u at hcounted hclk
  have h1 : u.clockStep.permitStep.kept = (s.pending, lfsrStep s.dev.permit, s.hw.keys, s.hw.posB, s.dev.powered,
      if s.clk.started then s.clk.epoch + 1 else 0, 0, s.led) := by
    have hstep := u.clockStep_kept
    rw [State.permitStep_kept, hstep, hclk]
    simp only [State.kept, Prod.mk.injEq] at hcounted hstep
    simp [hcounted, hstep]
  dsimp only
  split
  · simp [h1]
  · rw [State.boundary_kept, State.cellsBoundary_kept, h1]

/-! ## The other commands of the timeline -/

theorem State.cutoff_kept (s : State) : s.cutoff.kept =
    (s.pending, s.dev.permit, s.hw.keys, s.hw.posB, s.dev.powered, s.clk.epoch, 1, s.led) := by
  unfold State.cutoff
  extract_lets s1 c s2 s3
  have h1 : s1.kept = s.kept := by simp [s1]
  simp only [State.kept, Prod.mk.injEq] at h1
  have h2 : s2.kept = (s.pending, s.dev.permit, s.hw.keys, s.hw.posB, s.dev.powered, s.clk.epoch, 1, s.led) := by
    simp [s2, c, h1]
  split
  · exact h2
  · have h3 : s3.kept = s2.kept := by simp [s3]
    split <;> simp [h3, h2]

theorem State.commit_kept (s : State) : ∃ led, s.commit.kept =
    (s.pending, s.dev.permit, s.hw.keys, s.hw.posB, s.dev.powered, s.clk.epoch, 3, led) := by
  unfold State.commit
  extract_lets s1 c s2
  have h1 : s1.kept = s.kept := by simp [s1]
  simp only [State.kept, Prod.mk.injEq] at h1
  have h2 : s2.kept = (s.pending, s.dev.permit, s.hw.keys, s.hw.posB, s.dev.powered, s.clk.epoch, 3, s.led) := by
    simp [s2, c, h1]
  have h3 : (forL s2.plant.rounds (fun r t => t.countCells r) s2).kept = s2.kept := by simp
  rw [h2] at h3
  simp only [State.kept, Prod.mk.injEq] at h3
  split <;> simp [State.publishLedger, h3]

theorem State.sendStep_kept (s : State) (t : Nat) :
    ((s.advance t).withClk { (s.advance t).clk with phase := 2 }).sendAll.kept =
      (s.pending, s.dev.permit, s.hw.keys, s.hw.posB, s.dev.powered, s.clk.epoch, 2, s.led) := by
  have h := s.advance_kept t
  simp only [State.kept, Prod.mk.injEq] at h
  simp [h]

/-! ## Power, reset, the joining of a counterfoil, and fuses -/

theorem State.dark_kept (s : State) : ∃ led, s.dark.kept =
    (s.pending, s.dev.permit, s.hw.keys, s.hw.posB, false, 0, 0, led) := ⟨_, rfl⟩

theorem State.powerUp_kept (s : State) (permit : Nat) (failed : List TestUnit) : (s.powerUp permit failed).kept =
    (s.pending, permit, s.hw.keys, s.hw.posB, true, s.clk.epoch, s.clk.phase, s.led) := by
  unfold State.powerUp
  simp only [State.drawWord_eq]
  split <;> simp

theorem State.adoptTime_kept (s : State) (t epoch te : Nat) : (s.adoptTime t epoch te).kept =
    (s.pending, s.dev.permit, s.hw.keys, s.hw.posB, s.dev.powered, epoch - 1, s.clk.phase, s.led) := by
  have h := (s.withClk { s.clk with te := te }).stepTime_kept t
  simp only [State.withClk_kept] at h
  simp only [State.kept, Prod.mk.injEq] at h
  simp [State.adoptTime, h]

/-- A counterfoil that joins takes the principal's epoch; nothing else of the list changes. -/
theorem State.joinCounterfoil_kept (s : State) (desc : List Byte) (kernel t epoch : Nat) : ∃ e,
    (s.joinCounterfoil desc kernel t epoch).kept =
      (s.pending, s.dev.permit, s.hw.keys, s.hw.posB, s.dev.powered, e, s.clk.phase, s.led) := by
  unfold State.joinCounterfoil
  extract_lets s1
  obtain ⟨e, h1⟩ : ∃ e, s1.kept = (s.pending, s.dev.permit, s.hw.keys, s.hw.posB, s.dev.powered, e, s.clk.phase, s.led) := by
    by_cases hj : s.pair.joined = true
    · exact ⟨s.clk.epoch, by simp only [s1, if_pos hj]; rfl⟩
    · exact ⟨epoch - 1, by simp only [s1, if_neg hj]; exact State.adoptTime_kept _ _ _ _⟩
  refine ⟨e, ?_⟩
  split
  · simp [← h1]
  · next c hc => simp [← h1, State.validate_kept _ _ _ _ _ hc]

theorem State.pairJoin_kept (s : State) (desc : List Byte) (kernel t epoch : Nat) : ∃ e,
    (s.pairJoin desc kernel t epoch).kept =
      (s.pending, s.dev.permit, s.hw.keys, s.hw.posB, s.dev.powered, e, s.clk.phase, s.led) := by
  unfold State.pairJoin
  split
  · exact ⟨_, rfl⟩
  · split
    · exact ⟨_, s.joinPrincipal_kept kernel⟩
    · split
      · exact s.joinCounterfoil_kept desc kernel t epoch
      · exact ⟨_, rfl⟩

theorem State.fuse_kept (s : State) (i : OtpItem) : ∃ keys, (s.fuse i).kept =
    (s.pending, s.dev.permit, keys, s.hw.posB, s.dev.powered, s.clk.epoch, s.clk.phase, s.led) := by
  unfold State.fuse
  split
  · split
    · split <;> exact ⟨_, rfl⟩
    · exact ⟨_, rfl⟩
    · split <;> exact ⟨_, rfl⟩
  · exact ⟨_, rfl⟩

/-! ## What each command that gives, steps or loses something does with it -/

theorem exec_epochBoundary_kept {smp : Samples} {s t : State} (h : exec (.epochBoundary smp) s = .next t) :
    t = s ∨ t.kept = (s.pending, lfsrStep s.dev.permit, s.hw.keys, s.hw.posB, s.dev.powered,
      if s.clk.started then s.clk.epoch + 1 else 0, 0, s.led) := by
  obtain rfl : _ = t := Host.Outcome.next.inj h
  split
  · exact .inr (s.epochBoundary_kept smp)
  · exact .inl rfl

theorem exec_inputCutoff_kept {s t : State} (h : exec .inputCutoff s = .next t) : ∃ phase,
    t.kept = (s.pending, s.dev.permit, s.hw.keys, s.hw.posB, s.dev.powered, s.clk.epoch, phase, s.led) := by
  obtain rfl : _ = t := Host.Outcome.next.inj h
  split
  · exact ⟨_, s.cutoff_kept⟩
  · exact ⟨_, rfl⟩

theorem exec_downstreamSend_kept {s t : State} (h : exec .downstreamSend s = .next t) : ∃ phase,
    t.kept = (s.pending, s.dev.permit, s.hw.keys, s.hw.posB, s.dev.powered, s.clk.epoch, phase, s.led) := by
  obtain rfl : _ = t := Host.Outcome.next.inj h
  split
  · exact ⟨_, s.sendStep_kept _⟩
  · exact ⟨_, rfl⟩

theorem exec_ledgerCommit_kept {s t : State} (h : exec .ledgerCommit s = .next t) : ∃ phase led,
    t.kept = (s.pending, s.dev.permit, s.hw.keys, s.hw.posB, s.dev.powered, s.clk.epoch, phase, led) := by
  obtain rfl : _ = t := Host.Outcome.next.inj h
  split
  · exact ⟨_, s.commit_kept⟩
  · exact ⟨_, _, rfl⟩

theorem exec_powerGood_kept {p : BitVec 48} {b : Bool} {l : List TestUnit} {s t : State} (h : exec (.powerGood p b l) s = .next t) :
    t = s ∨ p ≠ 0 ∧ ∃ powered led, t.kept = (s.pending, p.toNat, s.hw.keys, b, powered, 0, 0, led) := by
  obtain rfl : _ = t := Host.Outcome.next.inj h
  split
  · exact .inl rfl
  · next hp => exact .inr ⟨fun e => hp (.inr e), _, _, State.powerUp_kept _ _ _⟩

theorem exec_powerLost_kept {s t : State} (h : exec .powerLost s = .next t) : ∃ powered epoch phase led,
    t.kept = (s.pending, s.dev.permit, s.hw.keys, s.hw.posB, powered, epoch, phase, led) := by
  obtain rfl : _ = t := Host.Outcome.next.inj h
  have hoff := s.outputsOff_kept
  simp only [State.kept, Prod.mk.injEq] at hoff
  split
  · obtain ⟨led, hd⟩ := s.outputsOff.dark_kept
    exact ⟨false, 0, 0, led, by simp [hd, hoff]⟩
  · exact ⟨_, _, _, _, rfl⟩

theorem State.powered_of_endpointUp (s : State) (h : s.endpointUp = true) : s.dev.powered = true := by
  simp only [State.endpointUp, Bool.and_eq_true] at h
  exact h.1

theorem exec_deviceReset_kept {l : List TestUnit} {s t : State} (h : exec (.deviceReset l) s = .next t) : ∃ epoch phase led,
    t.kept = (s.pending, s.dev.permit, s.hw.keys, s.hw.posB, s.dev.powered, epoch, phase, led) := by
  obtain rfl : _ = t := Host.Outcome.next.inj h
  have hoff := s.outputsOff_kept
  simp only [State.kept, Prod.mk.injEq] at hoff
  split
  · next hu =>
    obtain ⟨led, hd⟩ := s.outputsOff.dark_kept
    simp only [State.kept, Prod.mk.injEq] at hd
    exact ⟨_, _, _, by rw [State.powerUp_kept]; simp [hd, hoff, s.powered_of_endpointUp hu]; exact ⟨rfl, rfl, rfl⟩⟩
  · exact ⟨_, _, _, rfl⟩

theorem exec_pairJoin_kept {desc : List Byte} {kernel time epoch : Nat} {s t : State}
    (h : exec (.pairJoin desc kernel time epoch) s = .next t) : ∃ e,
    t.kept = (s.pending, s.dev.permit, s.hw.keys, s.hw.posB, s.dev.powered, e, s.clk.phase, s.led) := by
  obtain rfl : _ = t := Host.Outcome.next.inj h
  exact s.pairJoin_kept desc kernel time epoch

theorem exec_otpFuse_kept {i : OtpItem} {s t : State} (h : exec (.otpFuse i) s = .next t) : ∃ keys,
    t.kept = (s.pending, s.dev.permit, keys, s.hw.posB, s.dev.powered, s.clk.epoch, s.clk.phase, s.led) := by
  obtain rfl : _ = t := Host.Outcome.next.inj h
  exact s.fuse_kept i

/-! ## What hardly any command may touch -/

/-- Settles O58: a command outside `givesKept` keeps all of it, and each of the nine others has its equation. -/
theorem whatCommandsMayTouch : Obligations.WhatCommandsMayTouch := by
  unfold Obligations.WhatCommandsMayTouch
  intro c s t h
  by_cases hc : givesKept c = false
  · have hk := exec_kept hc h
    simp only [State.kept, Prod.mk.injEq] at hk
    simp [hk, State.epoch]
  · cases c <;> try exact absurd rfl hc
    case epochBoundary smp =>
      rcases exec_epochBoundary_kept h with rfl | hk
      · simp
      · simp only [State.kept, Prod.mk.injEq] at hk
        simp only [hk, State.epoch, touchesPermit, touchesEpoch, touchesPhase, touchesLedger]
        cases hs : s.clk.started <;> simp
    case inputCutoff =>
      obtain ⟨phase, hk⟩ := exec_inputCutoff_kept h
      simp only [State.kept, Prod.mk.injEq] at hk
      simp [hk, State.epoch, touchesPhase]
    case downstreamSend =>
      obtain ⟨phase, hk⟩ := exec_downstreamSend_kept h
      simp only [State.kept, Prod.mk.injEq] at hk
      simp [hk, State.epoch, touchesPhase]
    case ledgerCommit =>
      obtain ⟨phase, led, hk⟩ := exec_ledgerCommit_kept h
      simp only [State.kept, Prod.mk.injEq] at hk
      simp [hk, State.epoch, touchesPhase, touchesLedger]
    case powerGood p b l =>
      rcases exec_powerGood_kept h with rfl | ⟨-, powered, led, hk⟩
      · simp
      · simp only [State.kept, Prod.mk.injEq] at hk
        simp [hk, touchesPermit, touchesEpoch, touchesPhase, touchesLedger]
    case powerLost =>
      obtain ⟨powered, epoch, phase, led, hk⟩ := exec_powerLost_kept h
      simp only [State.kept, Prod.mk.injEq] at hk
      simp [hk, touchesEpoch, touchesPhase, touchesLedger]
    case deviceReset l =>
      obtain ⟨epoch, phase, led, hk⟩ := exec_deviceReset_kept h
      simp only [State.kept, Prod.mk.injEq] at hk
      simp [hk, touchesEpoch, touchesPhase, touchesLedger]
    case pairJoin desc kernel time epoch =>
      obtain ⟨e, hk⟩ := exec_pairJoin_kept h
      simp only [State.kept, Prod.mk.injEq] at hk
      simp [hk, touchesEpoch]
    case otpFuse i =>
      obtain ⟨keys, hk⟩ := exec_otpFuse_kept h
      simp only [State.kept, Prod.mk.injEq] at hk
      simp [hk, State.epoch]

/-! ## The permit register -/

/-- The feedback of the register takes bit 47, so the one value whose shift loses its only 1 gets it back. -/
theorem lfsrStep_ne_zero {x : Nat} (h0 : x ≠ 0) (h : x < 2 ^ 48) : lfsrStep x ≠ 0 := by
  by_cases hx : x = 2 ^ 47
  · subst hx; decide
  · unfold lfsrStep
    have hp : (Arith.b2n (Arith.bit x 47) + Arith.b2n (Arith.bit x 46) + Arith.b2n (Arith.bit x 20) + Arith.b2n (Arith.bit x 19)) % 2 < 2 :=
      Nat.mod_lt _ (by decide)
    omega

theorem lfsrStep_lt (x : Nat) : lfsrStep x < 2 ^ 48 := Nat.mod_lt _ (by decide)

theorem State.PermitLegal.of_eq {s t : State} (hs : s.PermitLegal) (h : t.dev.permit = s.dev.permit) : t.PermitLegal := by
  rw [State.PermitLegal, h]; exact hs

/-- Every command keeps the register a value that it can hold; a seed of 0 is not taken. -/
theorem exec_permitLegal {c : Instr} {s t : State} (hs : s.PermitLegal) (h : exec c s = .next t) : t.PermitLegal := by
  obtain ⟨-, hkeep, hstep, -⟩ := whatCommandsMayTouch c s t h
  by_cases hc : touchesPermit c = false
  · exact hs.of_eq (hkeep hc)
  · cases c <;> try exact absurd rfl hc
    case epochBoundary smp =>
      rcases hstep smp rfl with e | e
      · exact hs.of_eq e
      · rw [State.PermitLegal, e]
        exact ⟨lfsrStep_ne_zero hs.1 hs.2, lfsrStep_lt _⟩
    case powerGood p b l =>
      rcases exec_powerGood_kept h with rfl | ⟨hp, powered, led, hk⟩
      · exact hs
      · have e : t.dev.permit = p.toNat := congrArg (·.2.1) hk
        rw [State.PermitLegal, e]
        exact ⟨fun e0 => hp (BitVec.eq_of_toNat_eq e0), p.isLt⟩

/-- Settles O59: a step runs the front command from the same register. -/
theorem permitRegisterNeverStops : Obligations.PermitRegisterNeverStops := by
  unfold Obligations.PermitRegisterNeverStops
  intro s t hs h
  unfold step at h
  split at h
  · cases h; exact hs
  · next c rest _ => exact exec_permitLegal (s := s.withPending rest) hs h

/-! ## Steps and the state before power -/

/-- Settles O56: both cases are the definition of a step. -/
theorem stepRunsTheFrontCommand : Obligations.StepRunsTheFrontCommand := by
  unfold Obligations.StepRunsTheFrontCommand
  refine ⟨fun c rest s => rfl, fun s h => ?_⟩
  unfold step
  rw [h]

/-- Settles O57: the tables of the reset state are empty, so every unit reads as its initial record and every point as its default. -/
theorem resetLeaves : Obligations.ResetLeaves := by
  unfold Obligations.ResetLeaves
  exact ⟨rfl, rfl, rfl, rfl, rfl, ⟨by decide, by decide⟩, fun _ _ _ => rfl, fun _ => rfl, fun _ => ⟨rfl, rfl⟩, fun _ => rfl⟩

end Sys2Proof.Machine
end

section
/-!
SUPPORT. Proofs/Interrupts.lean: claims, bitmap writes, fires, sleep and stack-fault clears, from what re-presentation leaves
(`State.duty`, `State.quiet`) and one lemma about writing the sources of a list.
-/
namespace Sys2Proof.Machine

/-! ## Reading the controller's duty after a write -/

/-- The part of a source that event records leave alone. -/
def Src.kept (x : Src) (id : Nat) : Src := { x with pend := !recordSource id && x.pend }

theorem State.duty_fst (s : State) (id : Nat) : s.duty.1 id = (s.src id).kept id := rfl

theorem State.putSrc_duty_same (s : State) (id : Nat) (v : Src) : (s.putSrc id v).duty.1 id = v.kept id := by
  rw [State.duty_fst, State.src_putSrc_same]

theorem State.putSrc_duty_ne (s : State) {id k : Nat} (v : Src) (h : k ≠ id) : (s.putSrc id v).duty.1 k = s.duty.1 k := by
  rw [State.duty_fst, State.src_putSrc_ne _ _ h, State.duty_fst]

theorem State.putCore_duty_ne (s : State) {c k : Nat} (v : CoreIf) (h : k ≠ c) : (s.putCore c v).duty.2 k = s.duty.2 k := by
  simp only [State.duty, State.core_putCore_ne _ _ h]

/-! ## Claims -/

/-- The claimed source is on the stack and active before the sources are presented anew. -/
def State.claimTaken (s : State) (c : Nat) : State :=
  let k := s.core c
  let x := s.src k.presented
  (s.putSrc k.presented { x with active := true, pend := false, last := c }).putCore c
    { k with claimed := k.presented, stack := (k.presented, x.prio) :: k.stack }

theorem State.claim_presented (s : State) (c : Nat) (hd : (s.core c).deadPending = false) (hp : (s.core c).presented ≠ 0) :
    s.claim c = (s.claimTaken c).irqUpdate [] (s.core c).presented := by
  unfold State.claim
  rw [if_neg (by simp [hd]), if_neg hp]
  rfl

/-- Settles O1: the three branches of a claim; presenting anew keeps the duty of the sources and the cores. -/
theorem claimTakesWhatIsPresented : Obligations.ClaimTakesWhatIsPresented := by
  unfold Obligations.ClaimTakesWhatIsPresented
  refine fun c s => ⟨s.claim c, rfl, fun hd => if_pos hd, fun hd h0 => ?_, fun hd hp => ?_⟩
  · unfold State.claim
    rw [if_neg (by simp [hd]), if_pos h0]
  · rw [s.claim_presented c hd hp]
    have hduty : ((s.claimTaken c).irqUpdate [] (s.core c).presented).duty = (s.claimTaken c).duty := State.irqUpdate_duty _ _ _
    have hcore := State.core_parts (congrFun (congrArg Prod.snd hduty) c)
    obtain ⟨hclaimed, hstack, -⟩ := hcore
    have hk : (s.claimTaken c).core c = { s.core c with
        claimed := (s.core c).presented, stack := ((s.core c).presented, (s.src (s.core c).presented).prio) :: (s.core c).stack } :=
      State.core_putCore_same _ _ _
    refine ⟨by rw [hclaimed, hk], by rw [hstack, hk], ?_, fun id hid => ?_, fun b hb => ?_, ?_⟩
    · rw [hduty]
      exact (State.putSrc_duty_same _ _ _).trans (by simp [Src.kept])
    · rw [hduty]
      exact State.putSrc_duty_ne _ _ hid
    · rw [hduty]
      exact State.putCore_duty_ne _ _ hb
    · rw [State.irqUpdate_quiet]
      exact (State.putCore_quiet _ _ _).trans (State.putSrc_quiet _ _ _)

/-! ## Writes of several sources -/

/-- Rewrites the sources of a list one after the other. -/
def State.editSrcs (s : State) (ids : List Nat) (g : Src → Src) : State := forL ids (fun id t => t.putSrc id (g (t.src id))) s

/-- An edit that is the same once and twice reaches the sources of its list and no others. -/
theorem State.editSrcs_src (s : State) (ids : List Nat) (g : Src → Src) (hg : ∀ x, g (g x) = g x) (id : Nat) :
    (s.editSrcs ids g).src id = if id ∈ ids then g (s.src id) else s.src id := by
  induction ids generalizing s with
  | nil => rfl
  | cons a l ih =>
    show ((s.putSrc a (g (s.src a))).editSrcs l g).src id = _
    rw [ih]
    by_cases ha : id = a
    · subst ha; simp [hg]
    · simp [State.src_putSrc_ne _ _ ha, ha]

theorem State.editSrcs_quiet (s : State) (ids : List Nat) (g : Src → Src) : (s.editSrcs ids g).quiet = s.quiet :=
  forL_quiet _ _ _ fun _ _ => State.putSrc_quiet _ _ _

theorem State.editSrcs_cores (s : State) (ids : List Nat) (g : Src → Src) : (s.editSrcs ids g).duty.2 = s.duty.2 :=
  forL_keeps (fun t => t.duty.2) ids (fun id t => t.putSrc id (g (t.src id))) s fun _ _ => rfl

/-- A bitmap write: the sources that the core may write are edited and presented anew. -/
theorem State.bitmapWrite (s : State) (c k : Nat) (v : Word) (g : Src → Src) (hg : ∀ x, g (g x) = g x) (upd : List Nat) :
    let t := (s.editSrcs (s.irqWritable c k v) g).irqUpdate upd
    t.quiet = s.quiet ∧ t.duty.2 = s.duty.2 ∧
      ∀ id, (id ∈ irqIds k v ∧ s.irqMayWrite c id = true → t.duty.1 id = (g (s.src id)).kept id) ∧
        (¬(id ∈ irqIds k v ∧ s.irqMayWrite c id = true) → t.duty.1 id = s.duty.1 id) := by
  refine ⟨(State.irqUpdate_quiet _ _ _).trans (s.editSrcs_quiet _ _), ?_, fun id => ?_⟩
  · rw [State.irqUpdate_duty]
    exact s.editSrcs_cores _ _
  · have hm : id ∈ s.irqWritable c k v ↔ id ∈ irqIds k v ∧ s.irqMayWrite c id = true := List.mem_filter
    rw [State.irqUpdate_duty, State.duty_fst, s.editSrcs_src _ g hg]
    exact ⟨fun h => by rw [if_pos (hm.2 h)], fun h => by rw [if_neg fun e => h (hm.1 e)]; rfl⟩

/-- Settles O3: each of the four registers is one bitmap write; what PENDING_SET fires stays pending. -/
theorem bitmapWritesReachPermittedSources : Obligations.BitmapWritesReachPermittedSources := by
  unfold Obligations.BitmapWritesReachPermittedSources
  intro c k v s hit
  refine ⟨⟨s.pendingSet c k v, rfl, ?_⟩, ⟨s.pendingClr c k v, rfl, ?_⟩, ⟨s.enableSet c k v, rfl, ?_⟩, ⟨s.enableClr c k v, rfl, ?_⟩⟩
  · obtain ⟨hq, hc, hd⟩ := s.bitmapWrite c k v (fun x => { x with pend := true }) (fun _ => rfl) (s.irqWritable c k v)
    refine ⟨hq, hc, fun id hid => State.irqUpdate_fired id _ _ _ ?_, fun id => ⟨fun hid => ?_, (hd id).2⟩⟩
    · show ((s.editSrcs _ fun x => { x with pend := true }).src id).pend = true
      rw [s.editSrcs_src _ (fun x => { x with pend := true }) (fun _ => rfl),
        if_pos (show id ∈ s.irqWritable c k v from List.mem_filter.2 hid)]
    · exact congrArg (fun x : Src => { x with pend := true }) ((hd id).1 hid)
  · obtain ⟨hq, hc, hd⟩ := s.bitmapWrite c k v (fun x => { x with pend := false }) (fun _ => rfl) []
    exact ⟨hq, hc, fun id => ⟨fun hid => ((hd id).1 hid).trans (by simp [Src.kept]), (hd id).2⟩⟩
  · obtain ⟨hq, hc, hd⟩ := s.bitmapWrite c k v (fun x => { x with enabled := true }) (fun _ => rfl) (s.irqWritable c k v)
    exact ⟨hq, hc, hd⟩
  · obtain ⟨hq, hc, hd⟩ := s.bitmapWrite c k v (fun x => { x with enabled := false }) (fun _ => rfl) []
    exact ⟨hq, hc, hd⟩

/-! ## Fires and withdrawals -/

/-- A level source of the controller is no pin, or a pin in mode 2. -/
theorem State.irqIsLevel_cases (s : State) (id : Nat) (h : s.irqIsLevel id = true) :
    irqPin id = false ∨ irqPin id = true ∧ (s.src id).mode = 2 := by
  cases hp : irqPin id with
  | false => exact .inl rfl
  | true =>
    have hpriv : irqPrivileged id = false := by
      simp only [irqPin, irqPrivileged, Bool.and_eq_true, Bool.and_eq_false_iff, decide_eq_true_eq, decide_eq_false_iff_not] at hp ⊢
      omega
    simp only [State.irqIsLevel, hpriv, hp, Bool.false_and, Bool.true_and, Bool.false_or, beq_iff_eq] at h
    exact .inr ⟨rfl, h⟩

theorem State.sourceFire_level (s : State) (id : Nat) (level : Bool) (h : s.irqIsLevel id = true) :
    s.sourceFire id level = s.irqLevel id level := by
  unfold State.sourceFire
  rcases s.irqIsLevel_cases id h with hp | ⟨hp, hm⟩
  · rw [if_neg (by simp [hp]), if_pos h]
  · rw [if_pos hp, hm]; rfl

/-- A fire draws at most one free value; apart from that only what reporting writes may change. -/
theorem State.sourceFire_quiet (s : State) (id : Nat) (level : Bool) :
    (s.sourceFire id level).quiet = s.quiet ∨ (s.sourceFire id level).quiet = (s.withFree (s.free + 1)).quiet := by
  unfold State.sourceFire
  split
  · split
    · split
      · exact .inl (State.irqFire_quiet _ _)
      · exact .inl rfl
    · exact .inl (State.irqFire_quiet _ _)
    · exact .inl (State.irqLevel_quiet _ _ _)
    · rw [State.drawWord_eq]
      dsimp only
      split
      · exact .inr (State.irqFire_quiet _ _)
      · exact .inr rfl
  · split
    · exact .inl (State.irqLevel_quiet _ _ _)
    · exact .inl (State.irqFire_quiet _ _)

theorem State.sourceFire_frame (s : State) (id : Nat) (level : Bool) :
    (s.sourceFire id level).rest = (s.withFree (s.sourceFire id level).free).rest ∧ QuietPoints s (s.sourceFire id level) [] := by
  rcases s.sourceFire_quiet id level with h | h
  · exact ⟨by rw [State.free_of_quiet h, State.withFree_self]; exact State.rest_of_quiet h, QuietPoints.of_quiet h⟩
  · exact ⟨by rw [State.free_of_quiet h]; exact State.rest_of_quiet h,
      fun f i j _ hf => State.w_of_quiet h f i j hf⟩

/-- Settles O4: the branches of a fire by kind and mode. -/
theorem sourcesFireByTheirKind : Obligations.SourcesFireByTheirKind := by
  unfold Obligations.SourcesFireByTheirKind
  intro id level s hv
  refine ⟨⟨s.sourceFire id level, rfl, ?_⟩, ⟨s.sourceWithdrawn id, rfl, ?_⟩⟩
  · obtain ⟨hrest, hpts⟩ := s.sourceFire_frame id level
    refine ⟨hrest, hpts, fun hp hm hl => ?_, fun hp hm hl => ?_, fun hp hm => ?_, fun hk => ?_, fun hp hk => ?_⟩
    · simp [State.sourceFire, hp, hm, hl]
    · have e : s.sourceFire id level = s.irqFire id := by simp [State.sourceFire, hp, hm, hl]
      rw [e]; exact s.irqFire_self id hv
    · have e : s.sourceFire id level = s.irqFire id := by simp [State.sourceFire, hp, hm]
      rw [e]; exact s.irqFire_self id hv
    · rw [s.sourceFire_level id level hk]
      exact (s.irqLevel_effect id level hv).1
    · have e : s.sourceFire id level = s.irqFire id := by simp [State.sourceFire, hp, hk]
      rw [e]; exact s.irqFire_self id hv
  · cases hk : s.irqIsLevel id with
    | true =>
      have e : s.sourceWithdrawn id = s.irqLevel id false := if_pos hk
      obtain ⟨hcond, hother, -⟩ := s.irqLevel_effect id false hv
      rw [e]
      exact ⟨State.irqLevel_quiet _ _ _, fun _ => ⟨hcond, hother⟩, fun h => absurd h (by simp)⟩
    | false =>
      have e : s.sourceWithdrawn id = s := if_neg (by simp [hk])
      rw [e]
      exact ⟨rfl, fun h => absurd h (by simp), fun _ => rfl⟩

/-! ## Sleep, wake and stack faults -/

/-- Settles O5: the four commands by their branches. -/
theorem coresSleepWakeAndFault : Obligations.CoresSleepWakeAndFault := by
  unfold Obligations.CoresSleepWakeAndFault
  intro c b v addr size kind s
  refine ⟨⟨s.stackFaultClear c b v, rfl, ?_⟩, ⟨s.wfi c, rfl, ?_⟩, ⟨s.coreWake c, rfl, ?_⟩, ⟨s.logicAccess c addr size kind, rfl, ?_⟩⟩
  · by_cases hw : (mayWriteBlock c b && v.getLsbD 0) = true
    · let s1 := s.putCore b { s.core b with stackFault := false }
      have e : s.stackFaultClear c b v = s1.irqLevel 5 ([0, 1, 2, 3].any (fun i => (s1.core i).stackFault)) := if_pos hw
      obtain ⟨hcond, hother, hcores, -⟩ := s1.irqLevel_effect 5 ([0, 1, 2, 3].any (fun i => (s1.core i).stackFault)) rfl
      obtain ⟨-, hstack, hfault, -⟩ := State.core_parts (congrFun hcores b)
      have hk : s1.core b = { s.core b with stackFault := false } := State.core_putCore_same _ _ _
      have hany : ∀ i, (s1.core i).stackFault = (i != b.val && (s.core i).stackFault) := fun i => by
        by_cases hi : i = b.val
        · subst hi; simp [hk]
        · simp [s1, State.core_putCore_ne _ _ hi, hi]
      rw [Bool.and_eq_true] at hw
      rw [e]
      refine ⟨(State.irqLevel_quiet _ _ _).trans (State.putCore_quiet _ _ _), fun _ _ => ⟨by rw [hfault, hk], by rw [hstack, hk],
        fun n hn => ?_, fun n hn => hother n hn, ?_⟩, fun h => ?_⟩
      · rw [hcores]; exact State.putCore_duty_ne _ _ hn
      · rw [hcond]; simp only [hany]
      · rcases h with h | h
        · rw [hw.1] at h; cases h
        · rw [hw.2] at h; cases h
    · have e : s.stackFaultClear c b v = s := if_neg hw
      rw [e]
      exact ⟨rfl, fun h1 h2 => absurd (by rw [h1, h2]; rfl) hw, fun _ => rfl⟩
  · have hk : (s.wfi c).core c = { (s.core c).account s.now with asleep := true, waking := s.wakeSource c } :=
      State.core_putCore_same _ _ _
    beta_reduce
    rw [hk]
    exact ⟨rfl, rfl, rfl, rfl, rfl⟩
  · by_cases hk : ((s.core c).asleep && (s.core c).waking) = true
    · have e : s.coreWake c = s.putCore c { (s.core c).account s.now with asleep := false, waking := false } := if_pos hk
      rw [Bool.and_eq_true] at hk
      rw [e]
      beta_reduce
      rw [State.core_putCore_same]
      refine ⟨fun _ _ => ⟨rfl, rfl, rfl, rfl, rfl⟩, fun h => ?_⟩
      rcases h with h | h
      · rw [hk.1] at h; cases h
      · rw [hk.2] at h; cases h
    · have e : s.coreWake c = s := if_neg hk
      rw [e]
      exact ⟨fun h1 h2 => absurd (by rw [h1, h2]; rfl) hk, fun _ => rfl⟩
  · by_cases hf : (decide (c.val < 2) || s.logicMay addr size kind) = true
    · have e : s.logicAccess c addr size kind = s := if_pos hf
      rw [e]
      refine ⟨fun h1 h2 => ?_, rfl, QuietPoints.refl _ _⟩
      simp [h2, Nat.not_lt.2 h1] at hf
    · have e : s.logicAccess c addr size kind =
        (s.inc .logicAccessFaults).raise 0x0C03 kCore c (c + 2 ^ 8 * (addr % 2 ^ 24)) := if_neg hf
      rw [e]
      exact ⟨fun _ _ => (State.raise_w _ _ _ _ _ _ _ _ rfl).trans (State.w_putN_same _ _ _ _ _), State.raise_rest _ _ _ _ _,
        (QuietPoints.putN _ _ _ _ _).raise _ _ _ _⟩

end Sys2Proof.Machine
end

section
/-!
SUPPORT. Proofs/ModuleHw.lean: discrete outputs, encoder supplies, current inputs, one-time-programmable memory, and the control
supply with its rails (chapter 18), on the bit operations of Arith.lean.
-/
namespace Sys2Proof.Machine

/-! ## Bits of a word -/

/-- A bit write leaves the bits below, gives the bit, and leaves the bits above. -/
theorem setBit_eq (w k : Nat) (b : Bool) :
    Arith.setBit w k b = 2 ^ k * (2 * (w / 2 ^ k / 2) + b.toNat) + w % 2 ^ k := by
  have hw := Nat.div_add_mod w (2 ^ k)
  unfold Arith.setBit Arith.bit
  generalize w / 2 ^ k = q, w % 2 ^ k = r at hw ⊢
  generalize 2 ^ k = p at hw ⊢
  subst hw
  obtain ⟨h, rfl | rfl⟩ : ∃ h, q = 2 * h ∨ q = 2 * h + 1 := ⟨q / 2, by omega⟩
  · rw [show 2 * h / 2 = h by omega]
    cases b <;> simp [mul_add]; omega
  · rw [show (2 * h + 1) / 2 = h by omega]
    cases b <;> simp [mul_add]; omega

theorem bit_setBit (w k j : Nat) (b : Bool) : Arith.bit (Arith.setBit w k b) j = if j = k then b else Arith.bit w j := by
  have hr : w % 2 ^ k < 2 ^ k := Nat.mod_lt _ (Nat.two_pow_pos k)
  rw [bit_eq_testBit, bit_eq_testBit, setBit_eq, Nat.testBit_two_pow_mul_add _ hr]
  rcases lt_trichotomy j k with h | h | h
  · rw [if_pos h, if_neg (by omega), Nat.testBit_mod_two_pow]; simp [h]
  · subst h; cases b <;> simp
  · rw [if_neg (by omega), if_neg (by omega)]
    obtain ⟨m, rfl⟩ : ∃ m, j = k + 1 + m := ⟨j - k - 1, by omega⟩
    rw [show k + 1 + m - k = m + 1 by omega, Nat.testBit_succ, show (2 * (w / 2 ^ k / 2) + b.toNat) / 2 = w / 2 ^ k / 2 by
      cases b <;> simp; omega, Nat.div_div_eq_div_mul, ← pow_succ, Nat.testBit_div_two_pow, Nat.add_comm m]

@[simp] theorem bit_setBit_same (w k : Nat) (b : Bool) : Arith.bit (Arith.setBit w k b) k = b := by simp [bit_setBit]

theorem setBit_lt {w k n : Nat} (b : Bool) (hw : w < 2 ^ n) (hk : k < n) : Arith.setBit w k b < 2 ^ n := by
  refine Nat.lt_pow_two_of_testBit _ fun i hi => ?_
  rw [← bit_eq_testBit, bit_setBit, if_neg (by omega), bit_eq_testBit]
  exact Nat.testBit_lt_two_pow (lt_of_lt_of_le hw (Nat.pow_le_pow_right (by decide) hi))

/-- A point whose bit is written shows that bit. -/
theorem State.bit_putN_setBit (s : State) (f : Field) (i j k : Nat) (b : Bool) (h : k < 32) :
    Arith.bit ((s.putN f i (Arith.setBit (s.n f i j) k b) j).n f i j) k = b := by
  rw [s.n_putN_same _ _ _ _ (setBit_lt b (s.n_lt f i j) h), bit_setBit_same]

/-! ## What reporting leaves -/

theorem QuietPoints.keep {s t : State} (h : t.quiet = s.quiet) (ps : List Pt) : QuietPoints s t ps :=
  (QuietPoints.of_quiet h).mono (List.nil_subset _)

theorem State.shown_of_quiet {s t : State} (h : t.quiet = s.quiet) : t.shown = s.shown := congrArg Prod.snd h

/-- A step that only reports, as the statements on rare events put it. -/
theorem State.reporting_step {s t : State} (c : Prop) [Decidable c] (f : State → State) (h : t.quiet = s.quiet)
    (hf : ∀ u : State, (f u).quiet = u.quiet) : (if c then f t else t).quiet = s.quiet := by
  split
  · rw [hf, h]
  · exact h

/-! ## The control supply -/

theorem State.safeMark_quiet (s : State) (code : Nat) (on : Bool) : (s.safeMark code on).quiet = (s.safeBit code on).quiet := by
  unfold State.safeMark
  dsimp only
  split
  · rfl
  · exact State.msixCause_quiet _ _

theorem State.safeMark_rest (s : State) (code : Nat) (on : Bool) : (s.safeMark code on).rest = s.rest :=
  (State.rest_of_quiet (s.safeMark_quiet code on)).trans (s.putN_rest _ _ _ _)

theorem State.safeMark_points (s : State) (code : Nat) (on : Bool) : QuietPoints s (s.safeMark code on) [⟨.devSafeCause, 0, 0⟩] :=
  (QuietPoints.putN s _ _ _ _).then fun f i j hf => State.w_of_quiet (s.safeMark_quiet code on) f i j hf

theorem State.safeMark_bit (s : State) (code : Nat) (on : Bool) (h : code - 1 < 32) :
    Arith.bit ((s.safeMark code on).n .devSafeCause) (code - 1) = on := by
  rw [State.n_of_quiet (s.safeMark_quiet code on) _ _ _ rfl]
  exact s.bit_putN_setBit _ _ _ _ _ h

theorem State.supplyBack_rest (s : State) : s.supplyBack.rest = s.rest := by
  unfold State.supplyBack; split
  · exact s.safeMark_rest _ _
  · rfl

theorem State.supplyBack_points (s : State) : QuietPoints s s.supplyBack [⟨.devSafeCause, 0, 0⟩] := by
  unfold State.supplyBack; split
  · exact s.safeMark_points _ _
  · exact QuietPoints.refl _ _

/-- What the supply's new limits and rails settle: cause 7 ends where they allow it, and source 4 takes its condition. -/
theorem State.supply_settled (s : State) :
    let t := s.supplyBack.supplyIrq
    t.hw = s.hw ∧ (t.src 4).cond = (t.hw.vLow != 0 || t.hw.rails != 0) ∧
      (t.hw.rails = 0 → t.hw.vLow ≠ 3 → Arith.bit (t.n .devSafeCause) 6 = false) ∧ QuietPoints s t [⟨.devSafeCause, 0, 0⟩] := by
  have hq : s.supplyBack.supplyIrq.quiet = s.supplyBack.quiet := State.irqLevel_quiet _ _ _
  have hb : s.supplyBack.rest.hw = s.rest.hw := congrArg (fun x => State.hw x) s.supplyBack_rest
  have hh : s.supplyBack.supplyIrq.hw = s.hw := (State.hw_of_quiet hq).trans hb
  refine ⟨hh, ?_, fun hr hv => ?_, s.supplyBack_points.then fun f i j hf => State.w_of_quiet hq f i j hf⟩
  · rw [hh, show s.hw = s.supplyBack.hw from hb.symm]
    exact (s.supplyBack.irqLevel_effect 4 (s.supplyBack.hw.vLow != 0 || s.supplyBack.hw.rails != 0) rfl).1
  · rw [hh] at hr hv
    rw [State.n_of_quiet hq _ _ _ rfl, State.supplyBack, if_pos ⟨hr, hv⟩]
    exact s.safeMark_bit 7 false (by decide)

/-- The reports of a changed control input leave the limits that it set. -/
theorem State.vctlChange_settles (s : State) (b : Bool) (mv : Nat) :
    ∃ u : State, s.vctlChange b mv = u.supplyBack.supplyIrq ∧ u.quiet = (s.withHw { s.hw with
      vLow := Arith.setBit s.hw.vLow (Arith.b2n b)
        (if Arith.bit s.hw.vLow (Arith.b2n b) then decide (mv < 16500) else decide (mv < 16000))
      vHigh := Arith.setBit s.hw.vHigh (Arith.b2n b)
        (if Arith.bit s.hw.vHigh (Arith.b2n b) then decide (153500 < mv) else decide (154000 < mv)) }).quiet := by
  refine ⟨_, rfl, ?_⟩
  refine State.reporting_step _ (·.raise 0x0806 kSensor 66 0) ?_ fun _ => State.raise_quiet _ _ _ _ _
  refine State.reporting_step _ (·.raise 0x0805 kSensor _ 0) ?_ fun _ => State.raise_quiet _ _ _ _ _
  refine State.reporting_step _ (·.raise _ kSensor _ 0) ?_ fun _ => State.raise_quiet _ _ _ _ _
  exact State.reporting_step _ (·.raise _ kSensor _ 0) rfl fun _ => State.raise_quiet _ _ _ _ _

/-! ## The obligation -/

/-- Settles O36: each command's branches, with the reports read through `State.quiet`. -/
theorem moduleInputsAndOutputs : Obligations.ModuleInputsAndOutputs := by
  unfold Obligations.ModuleInputsAndOutputs
  intro s
  refine ⟨fun n v h => ?_, fun n h => ?_, fun n a h ha => ?_, fun g v => ?_, fun g h => ?_, fun n hm hb => ?_, fun n a hb ha => ?_,
    fun hm => ⟨fun n h hk => ?_, fun n h hk => ?_, fun n => ?_, fun hk => ?_⟩, fun hm i => ?_, fun hu b mv => ?_, fun hu n hr => ?_⟩
  · exact yields_if (by simp [State.doWriteOk, h]) ⟨s.n_putN_same _ _ _ _ (by omega), rfl⟩
  · let u := s.withHw { s.hw with doOff := Tab.put none s.hw.doOff n (some s.now) }
    refine yields_if h ?_
    by_cases hb : Arith.bit (s.n .hwDoOverload) n = true
    · simp only [hb, if_true]
      refine ⟨by simp [State.doTripped], by simp, hb, fun h => by simp at h, QuietPoints.refl _ _⟩
    · rw [Bool.not_eq_true] at hb
      simp only [hb, Bool.false_eq_true, if_false]
      refine ⟨by simp [State.doTripped], by simp, ?_, fun _ => State.raise_raised _ _ _ _ _ rfl, ?_⟩
      · rw [State.raise_n _ _ _ _ _ _ _ _ rfl]
        exact u.bit_putN_setBit _ _ _ _ _ (by omega)
      · exact QuietPoints.raise (QuietPoints.putN u _ _ _ _) _ _ _ _
  · refine ⟨_, rfl, ?_⟩
    simp only [h, ha, if_true]
    exact ⟨by simp [State.doTripped], by simp, rfl, by simp⟩
  · refine ⟨_, rfl, ?_, ?_, rfl, ?_⟩
    · exact (State.n_putN_field _ (by decide)).trans (s.n_putN_same _ _ _ _ (by omega))
    · rw [show (if v = 0 then 0 else 1) = if (v : Nat) = 0 then 0 else 1 from if_congr Fin.val_eq_zero_iff.symm rfl rfl]
      have hlt : (if (v : Nat) = 0 then 0 else 1) < 2 ^ 32 := by split <;> decide
      exact (s.putN .encPwrMode g v).n_putN_same _ _ _ _ hlt
    · exact (SamePoints.put s _ _ _ _).trans (SamePoints.put _ _ _ _ _)
  · refine yields_if h ⟨?_, State.raise_raised _ _ _ _ _ rfl, ?_, ?_⟩
    · rw [State.raise_n _ _ _ _ _ _ _ _ rfl]; exact s.n_putN_same _ _ _ _ (by decide)
    · exact (State.rest_of_quiet (State.raise_quiet _ _ _ _ _)).trans rfl
    · exact (QuietPoints.putN s _ _ _ _).raise _ _ _ _
  · refine yields_if ⟨hm, by simp [hb]⟩ ⟨by simp, State.raise_raised _ _ _ _ _ rfl, ?_, fun m hne => ?_⟩
    · exact (State.shown_of_quiet (State.raise_quiet _ _ _ _ _)).trans rfl
    · simp [Tab.get_put_ne _ _ _ hne]
  · refine ⟨_, rfl, ?_⟩
    simp only [hb, ha, if_true]
    exact ⟨by simp, rfl, rfl⟩
  · refine ⟨_, rfl, ?_⟩
    simp only [State.fuse, hm, hk, if_true, Bool.false_eq_true, if_false]
    refine ⟨s.bit_putN_setBit _ _ _ _ _ (by omega), by simp, fun m hne => by simp [Tab.get_put_ne _ _ _ hne], SamePoints.put s _ _ _ _⟩
  · exact ⟨_, rfl, by simp [State.fuse, hm, hk]⟩
  · refine ⟨_, rfl, ?_⟩
    simp only [State.fuse, hm, if_true]
    exact ⟨s.bit_putN_setBit _ _ _ _ _ (by omega), rfl, SamePoints.put s _ _ _ _⟩
  · refine ⟨_, rfl, ?_⟩
    simp only [State.fuse, hm, hk, if_true, if_false]
  · refine ⟨_, rfl, ?_⟩
    simp only [State.fuse, hm, if_false]
  · obtain ⟨u, hu', hq⟩ := s.vctlChange_settles b mv
    obtain ⟨hhw, hsrc, hcause, hpts⟩ := u.supply_settled
    refine yields_if hu ?_
    rw [hu']
    exact ⟨hhw.trans (State.hw_of_quiet hq), hsrc, hcause, (QuietPoints.of_quiet hq).trans hpts⟩
  · let v := s.withHw { s.hw with rails := Arith.setBit s.hw.rails n false }
    have hq : (v.raise 0x0805 kSensor (67 + n) 0).quiet = v.quiet := State.raise_quiet _ _ _ _ _
    obtain ⟨hhw, hsrc, hcause, hpts⟩ := (v.raise 0x0805 kSensor (67 + n) 0).supply_settled
    exact yields_if ⟨hu, hr⟩ ⟨hhw.trans (State.hw_of_quiet hq), hsrc, hcause, QuietPoints.trans (QuietPoints.of_quiet hq) hpts⟩

end Sys2Proof.Machine
end

section
/-!
SUPPORT. Proofs/DeviceTime.lean: 64-bit points, source events, holdover and steps of device time (section 2.5).
-/
namespace Sys2Proof.Machine

/-! ## 64-bit points -/

theorem State.n64_put64 (s : State) (f : Field) (i v : Nat) (h : v < 2 ^ 64) : (s.put64 f i v).n64 f i = v := by
  have h0 : (s.put64 f i v).n f i 0 = v % 2 ^ 32 :=
    (State.n_ext (State.w_put_ne _ _ (by simp))).trans (s.n_putN_same _ _ _ _ (Nat.mod_lt _ (by decide)))
  have h1 : (s.put64 f i v).n f i 1 = v / 2 ^ 32 := State.n_putN_same _ _ _ _ _ (by omega)
  rw [State.n64, h0, h1]
  omega

theorem SamePoints.put64 (s : State) (f : Field) (i v : Nat) : SamePoints s (s.put64 f i v) [⟨f, i, 0⟩, ⟨f, i, 1⟩] :=
  (SamePoints.put s f i _ 0).trans (SamePoints.put _ f i _ 1)

theorem SamePoints.of_pts {s t : State} (ps : List Pt) (h : t.pts = s.pts) : SamePoints s t ps :=
  fun f i j _ => by simp only [State.w, h]

/-! ## Measurements -/

/-- A source event publishes the error, slews it out and counts towards the lock; it reports an error above 1 ms once in an episode. -/
theorem State.sourceEvent_measured (s : State) (e : Int) : SourceMeasured s (s.sourceEvent e) e := by
  unfold State.sourceEvent
  extract_lets good off c0 s1 s2
  have hs2 : s2.n .devTimeState = (if good = 16 then 2 else 1) :=
    State.n_putN_same _ _ _ (if good = 16 then 2 else 1) _ (by split <;> decide)
  have hw2 : s2.w .devTimeErrorNs 0 0 = Word.ofInt (satS32 e) :=
    (State.w_putN_field _ (g := .devTimeErrorNs) (by decide)).trans (State.w_put_same _ _ _ _ _)
  have hp2 : QuietPoints s s2 [⟨.devTimeErrorNs, 0, 0⟩, ⟨.devTimeState, 0, 0⟩] :=
    (QuietPoints.put s1 _ _ _ _).trans (QuietPoints.putN _ _ _ _ _)
  have hfar : farOff e = decide (1000000 < e.natAbs) := rfl
  have hmeasured : ∀ t : State, t.quiet = s2.quiet →
      (off = true → s.clk.offEpisode = false → Raised s t 0x0C51 kDevice 0) → SourceMeasured s t e := by
    intro t hq hr
    have hclk : t.clk = s1.clk := (State.clk_of_quiet hq).trans rfl
    refine ⟨(State.w_of_quiet hq _ _ _ rfl).trans hw2, (State.n_of_quiet hq _ _ _ rfl).trans hs2, ?_, fun hbig hm => ?_,
      fun hsmall => ?_, ?_, hp2.then fun f i j hf => State.w_of_quiet hq f i j hf⟩
    · rw [hclk]; rfl
    · have hoff : off = true := by simp [off, hfar, hbig, hm]
      exact ⟨by rw [hclk]; simp [s1, hoff], hr hoff⟩
    · rw [hclk]; simp [s1, off, hfar, hsmall]
    · rw [State.rest_of_quiet hq, hclk]; rfl
  split
  · exact hmeasured _ (State.raise_quiet _ _ _ _ _) fun _ _ => State.raise_raised _ _ _ _ _ rfl
  · next h => exact hmeasured _ rfl fun h1 h2 => absurd (by simp [h1, h2]) h

/-- The error of a SYNC_IN edge is its distance from the nearest multiple of the period (R49). -/
theorem syncError_nearest (time period : Nat) (h : period ≠ 0) :
    ∃ k : Int, (time : Int) = k * period + syncError time period ∧ 2 * (syncError time period).natAbs ≤ period := by
  have hp : (0 : Rat) < period := by exact_mod_cast Nat.pos_of_ne_zero h
  have hround : Arith.round ((time : Rat) / period) = round ((time : Rat) / period) := by
    rw [Arith.round, if_pos (by positivity), round_eq]; rfl
  refine ⟨round ((time : Rat) / period), by rw [syncError, if_neg h, hround]; ring, ?_⟩
  have habs := abs_sub_round ((time : Rat) / period)
  have he : ((syncError time period : Int) : Rat) = period * ((time : Rat) / period - round ((time : Rat) / period)) := by
    rw [syncError, if_neg h, hround]; push_cast; field_simp
  have : 2 * |((syncError time period : Int) : Rat)| ≤ period := by
    rw [he, abs_mul, abs_of_pos hp]; nlinarith
  rw [← Int.cast_abs, Int.abs_eq_natAbs] at this
  exact_mod_cast this

/-! ## Steps -/

theorem nextMultiple_spec (t p : Nat) (h : p ≠ 0) : nextMultiple t p % p = 0 ∧ t < nextMultiple t p ∧ nextMultiple t p ≤ t + p := by
  have hd := Nat.div_add_mod t p
  have hm := Nat.mod_lt t (Nat.pos_of_ne_zero h)
  have e : nextMultiple t p = p * (t / p) + p := by unfold nextMultiple; ring
  exact ⟨by rw [e]; simp, by omega, by omega⟩

/-- Settles O45: the source commands by `sourceEvent_measured`; a write of device time by the step that it makes. -/
theorem deviceTimeAndItsSources : Obligations.DeviceTimeAndItsSources := by
  unfold Obligations.DeviceTimeAndItsSources
  refine fun s => ⟨fun e hu h => ?_, fun time => ?_, fun hu h hs ht => ?_, fun v hm hu => ?_⟩
  · exact yields_if (by simp [hu, h]) (s.sourceEvent_measured e)
  · intro period hu h hp
    obtain ⟨k, hk, hn⟩ := syncError_nearest time period hp
    exact yields_if (by simp [hu, h]) ⟨k, _, hk, hn, s.sourceEvent_measured _⟩
  · refine yields_if (by simp [hu, h, hs, ht]) ?_
    have hq := ((s.withClk { s.clk with good := 0 }).putN .devTimeState 0 3).raise_quiet 0x0C50 kDevice 0 (s.n .devTimeSource)
    have hclk := State.clk_of_quiet hq
    refine ⟨?_, hclk, State.raise_raised _ _ _ _ _ rfl, ?_, ?_⟩
    · exact (State.n_of_quiet hq _ _ _ rfl).trans (State.n_putN_same _ _ _ _ _ (by decide))
    · rw [hclk]; exact (State.rest_of_quiet hq).trans rfl
    · exact (QuietPoints.putN _ _ _ _ _).raise _ _ _ _
  · refine yields_if (by simp [hm, hu]) ⟨?_, rfl, rfl, rfl, rfl, fun h => nextMultiple_spec _ _ h, rfl, ?_⟩
    · exact s.n64_put64 _ _ _ v.isLt
    · exact SamePoints.put64 s _ _ _

end Sys2Proof.Machine
end

section
/-!
SUPPORT. Proofs/Aside.lean: what a step leaves aside, as a value: all records but those that a view erases, and all points but those of a
set and those that reporting writes. Equalities of such values compose along a step, also along loops.
-/
namespace Sys2Proof.Machine

/-- What a state holds aside from the records that `g` erases, the points of `p` and what reporting writes. -/
def State.aside (g : State → State) (p : Pt → Bool) (s : State) : State × (Field → Nat → Nat → Word) :=
  (g s.rest, fun f i j => if fieldReports f || p ⟨f, i, j⟩ then 0 else s.w f i j)

/-- The points of some fields. -/
def inFields (fs : List Field) (q : Pt) : Bool := fs.contains q.f

/-- The points of a list. -/
def inPoints (ps : List Pt) (q : Pt) : Bool := ps.contains q

section
variable {g : State → State} {p : Pt → Bool} {s t : State}

theorem State.aside_of_quiet (h : t.quiet = s.quiet) : t.aside g p = s.aside g p := by
  refine Prod.ext (by simp only [State.aside, State.rest_of_quiet h]) ?_
  funext f i j
  simp only [State.aside]
  cases hf : fieldReports f with
  | true => rfl
  | false => rw [State.w_of_quiet h f i j hf]

theorem State.aside_put (f : Field) (i : Nat) (w : Word) (j : Nat) (h : p ⟨f, i, j⟩ = true) :
    (s.put f i w j).aside g p = s.aside g p := by
  refine Prod.ext rfl ?_
  funext a k l
  simp only [State.aside]
  by_cases hq : (⟨a, k, l⟩ : Pt) = ⟨f, i, j⟩
  · rw [hq, h]; simp
  · rw [State.w_put_ne s w hq]

theorem State.aside_putN (f : Field) (i v j : Nat) (h : p ⟨f, i, j⟩ = true) : (s.putN f i v j).aside g p = s.aside g p :=
  State.aside_put f i _ j h

theorem State.aside_inc (f : Field) (i j : Nat) (h : p ⟨f, i, j⟩ = true) : (s.inc f i j).aside g p = s.aside g p :=
  State.aside_put f i _ j h

theorem State.aside_put64 (f : Field) (i v : Nat) (h0 : p ⟨f, i, 0⟩ = true) (h1 : p ⟨f, i, 1⟩ = true) :
    (s.put64 f i v).aside g p = s.aside g p := (State.aside_putN f i _ 1 h1).trans (State.aside_putN f i _ 0 h0)

/-- A record that the view erases. -/
theorem State.aside_record (hg : g t.rest = g s.rest) (hp : t.pts = s.pts) : t.aside g p = s.aside g p := by
  refine Prod.ext hg ?_
  funext f i j
  simp only [State.aside, State.w, hp]

theorem State.aside_rest (h : t.aside g p = s.aside g p) : g t.rest = g s.rest := congrArg Prod.fst h

theorem State.aside_w (h : t.aside g p = s.aside g p) (f : Field) (i j : Nat) (hf : fieldReports f = false)
    (hp : p ⟨f, i, j⟩ = false) : t.w f i j = s.w f i j := by
  have := congrFun (congrFun (congrFun (congrArg Prod.snd h) f) i) j
  simpa [State.aside, hf, hp] using this

theorem State.aside_n (h : t.aside g p = s.aside g p) (f : Field) (i j : Nat) (hf : fieldReports f = false)
    (hp : p ⟨f, i, j⟩ = false) : t.n f i j = s.n f i j := State.n_ext (State.aside_w h f i j hf hp)

theorem State.aside_points (h : t.aside g p = s.aside g p) : ∀ f i j, p ⟨f, i, j⟩ = false → fieldReports f = false →
    t.w f i j = s.w f i j := fun f i j hp hf => State.aside_w h f i j hf hp

/-- A larger set of points. -/
theorem State.aside_mono {q : Pt → Bool} (h : t.aside g p = s.aside g p) (hq : ∀ x, p x = true → q x = true) :
    t.aside g q = s.aside g q := by
  refine Prod.ext (State.aside_rest h) ?_
  funext f i j
  simp only [State.aside]
  cases hf : fieldReports f with
  | true => rfl
  | false =>
    cases hx : q ⟨f, i, j⟩ with
    | true => rfl
    | false => rw [State.aside_w h f i j hf (Bool.eq_false_iff.2 fun e => by simp [hq _ e] at hx)]

end

theorem QuietFields.of_aside {g : State → State} {fs : List Field} {s t : State}
    (h : t.aside g (inFields fs) = s.aside g (inFields fs)) : QuietFields s t fs := fun f i j hn hf =>
  State.aside_w h f i j hf (by simpa [inFields] using hn)

theorem QuietPoints.of_aside {g : State → State} {ps : List Pt} {s t : State}
    (h : t.aside g (inPoints ps) = s.aside g (inPoints ps)) : QuietPoints s t ps := fun f i j hn hf =>
  State.aside_w h f i j hf (by simpa [inPoints] using hn)

theorem State.aside_fields_mono {g : State → State} {fs gs : List Field} {s t : State} (h : t.aside g (inFields fs) = s.aside g (inFields fs))
    (hs : fs ⊆ gs) : t.aside g (inFields gs) = s.aside g (inFields gs) :=
  State.aside_mono h fun x hx => by
    simp only [inFields, List.contains_iff_mem] at hx ⊢
    exact hs hx

end Sys2Proof.Machine
end

section
/-!
SUPPORT. Proofs/Feedback.lean: what feedback channels and compare units leave aside, the record of a channel after an edge, an index and
an SSI frame, and the compare units (chapter 7).
-/
namespace Sys2Proof.Machine

/-! ## Records of the feedback unit -/

/-- All records but those of the channels, the compare units and the tokens. -/
def fbView (r : State) : State := ((r.withFbs []).withCmps []).withTokens 0

theorem fbView_putFb (s : State) (n : Nat) (x : Fb) : fbView (s.putFb n x).rest = fbView s.rest := by simp [fbView, State.putFb]
theorem fbView_putCmp (s : State) (n : Nat) (x : CmpSt) : fbView (s.putCmp n x).rest = fbView s.rest := by
  simp only [fbView, State.putCmp, State.withCmps_rest]; rfl
theorem fbView_withTokens (s : State) (v : Nat) : fbView (s.withTokens v).rest = fbView s.rest := by
  simp only [fbView, State.withTokens_rest]; rfl

theorem clk_of_fbView {s t : State} (h : fbView t.rest = fbView s.rest) : t.clk = s.clk :=
  (congrArg State.clk h :)
theorem ptOut_of_fbView {s t : State} (h : fbView t.rest = fbView s.rest) : t.ptOut = s.ptOut :=
  (congrArg State.ptOut h :)

section
variable {p : Pt → Bool}

theorem State.putFb_aside (s : State) (n : Nat) (x : Fb) : (s.putFb n x).aside fbView p = s.aside fbView p :=
  State.aside_record (fbView_putFb s n x) rfl
theorem State.putCmp_aside (s : State) (n : Nat) (x : CmpSt) : (s.putCmp n x).aside fbView p = s.aside fbView p :=
  State.aside_record (fbView_putCmp s n x) rfl
theorem State.withTokens_aside (s : State) (v : Nat) : (s.withTokens v).aside fbView p = s.aside fbView p :=
  State.aside_record (fbView_withTokens s v) rfl
theorem State.fbFlag_aside (s : State) (n bit : Nat) (on : Bool) : (s.fbFlag n bit on).aside fbView p = s.aside fbView p :=
  s.putFb_aside _ _

end

@[simp] theorem State.fb_putFb_same (s : State) (n : Nat) (x : Fb) : (s.putFb n x).fb n = x := by simp [State.fb, State.putFb]
theorem State.fb_putFb_ne (s : State) {n m : Nat} (x : Fb) (h : m ≠ n) : (s.putFb n x).fb m = s.fb m := by
  simp [State.fb, State.putFb, Tab.get_put_ne _ _ _ h]
@[simp] theorem State.fb_fbFlag_same (s : State) (n b : Nat) (on : Bool) :
    (s.fbFlag n b on).fb n = { s.fb n with flags := Arith.setBit (s.fb n).flags b on } := by simp [State.fbFlag]
theorem State.fb_fbFlag_ne (s : State) {n m : Nat} (b : Nat) (on : Bool) (h : m ≠ n) : (s.fbFlag n b on).fb m = s.fb m :=
  s.fb_putFb_ne _ h
theorem State.fb_of_fbs {s t : State} (h : t.fbs = s.fbs) (n : Nat) : t.fb n = s.fb n := by simp only [State.fb, h]
@[simp] theorem State.cmp_putCmp_same (s : State) (n : Nat) (x : CmpSt) : (s.putCmp n x).cmp n = x := by simp [State.cmp, State.putCmp]
theorem State.cmp_putCmp_ne (s : State) {n m : Nat} (x : CmpSt) (h : m ≠ n) : (s.putCmp n x).cmp m = s.cmp m := by
  simp [State.cmp, State.putCmp, Tab.get_put_ne _ _ _ h]

/-! ## Compare units -/

/-- The points that compare units write. -/
def cmpFields : List Field := [.cmpFiredTime, .cmpFiredCount, .cmpFlags, .cmpState, .cmpValue]

/-- What firing leaves: the channels, the other units, and what the unit's view leaves aside. -/
def State.cmpKeep (s : State) (u : Nat) : Tab Fb × (Nat → CmpSt) × (State × (Field → Nat → Nat → Word)) :=
  (s.fbs, fun m => if m = u then CmpSt.init else s.cmp m, s.aside fbView (inFields cmpFields))

theorem State.cmpKeep_ext {s t : State} {u : Nat} (h1 : t.fbs = s.fbs) (h2 : ∀ m, m ≠ u → t.cmp m = s.cmp m)
    (h3 : t.aside fbView (inFields cmpFields) = s.aside fbView (inFields cmpFields)) : t.cmpKeep u = s.cmpKeep u := by
  unfold State.cmpKeep
  rw [h1, h3]
  congr 2
  funext m
  split
  · rfl
  · next h => exact h2 m h

theorem State.cmpKeep_of_quiet {s t : State} (u : Nat) (h : t.quiet = s.quiet) : t.cmpKeep u = s.cmpKeep u :=
  State.cmpKeep_ext (State.fbs_of_quiet h) (fun m _ => by simp only [State.cmp, State.cmps_of_quiet h]) (State.aside_of_quiet h)

theorem State.cmpKeep_put (s : State) (u : Nat) (f : Field) (i : Nat) (w : Word) (j : Nat) (h : cmpFields.contains f = true) :
    (s.put f i w j).cmpKeep u = s.cmpKeep u := State.cmpKeep_ext rfl (fun _ _ => rfl) (State.aside_put f i w j h)

theorem State.cmpKeep_putN (s : State) (u : Nat) (f : Field) (i v j : Nat) (h : cmpFields.contains f = true) :
    (s.putN f i v j).cmpKeep u = s.cmpKeep u := s.cmpKeep_put u f i _ j h

theorem State.cmpKeep_put64 (s : State) (u : Nat) (f : Field) (i v : Nat) (h : cmpFields.contains f = true) :
    (s.put64 f i v).cmpKeep u = s.cmpKeep u := (State.cmpKeep_putN _ u f i _ 1 h).trans (State.cmpKeep_putN _ u f i _ 0 h)

/-- A unit that has just fired, before its next value is loaded. -/
def State.cmpFired (s : State) (u t : Nat) : State :=
  let s1 := s.putCmp u { s.cmp u with pulse := if s.n .cmpDoPin u ≤ 7 then some (t + s.n .cmpPulseNs u) else none }
  let s2 := if s.n .cmpToken u ≤ 31 then s1.withTokens (Arith.setBit s1.tokens (s.n .cmpToken u) true) else s1
  let s3 := (((s2.put64 .cmpFiredTime u t).inc .cmpFiredCount u).putN .cmpFlags u 0).irqFire (33 + u)
  (s3.putN .cmpState u 2).raiseAt 0x0408 kCmp u 0 t

theorem State.cmpFired_keep (s : State) (u t : Nat) : (s.cmpFired u t).cmpKeep u = s.cmpKeep u := by
  unfold State.cmpFired
  extract_lets c s1 s2 s3
  have h1 : s1.cmpKeep u = s.cmpKeep u :=
    State.cmpKeep_ext rfl (fun m h => s.cmp_putCmp_ne _ h) (s.putCmp_aside _ _)
  have h2 : s2.cmpKeep u = s1.cmpKeep u := by
    simp only [s2]; split
    · exact State.cmpKeep_ext rfl (fun _ _ => rfl) (s1.withTokens_aside _)
    · rfl
  have h3 : s3.cmpKeep u = s2.cmpKeep u := by
    refine (State.cmpKeep_of_quiet u (State.irqFire_quiet _ _)).trans ?_
    exact (State.cmpKeep_putN _ u _ _ _ _ rfl).trans ((State.cmpKeep_putN _ u _ _ _ _ rfl).trans (State.cmpKeep_put64 _ u _ _ _ rfl))
  rw [State.cmpKeep_of_quiet u (State.raiseAt_quiet _ _ _ _ _ _), State.cmpKeep_putN _ u _ _ _ _ rfl, h3, h2, h1]

theorem State.cmpFire_succ (s : State) (u t k : Nat) : State.cmpFire u t (k + 1) s =
    let s4 := s.cmpFired u t
    let step := s.z .cmpStep u
    if step = 0 then s4
    else
      let v := s.z64 .cmpValue u + step
      let s5 := s4.putZ64 .cmpValue u v
      if s5.cmpBehind u v then
        let s6 := (s5.putN .cmpFlags u 1).raiseAt 0x0409 kCmp u 0 t
        if s6.n .cmpPolicy u = 1 then State.cmpFire u t k s6 else s6.putN .cmpState u 1
      else s5.putN .cmpState u 1 := rfl

/-- A unit that fires, also in a catch-up, leaves the channels, the other units and all but its own points. -/
theorem State.cmpFire_keep (u t k : Nat) (s : State) : (State.cmpFire u t k s).cmpKeep u = s.cmpKeep u := by
  induction k generalizing s with
  | zero => rfl
  | succ k ih =>
    rw [State.cmpFire_succ]
    extract_lets s4 step v s5 s6
    have h4 : s4.cmpKeep u = s.cmpKeep u := s.cmpFired_keep u t
    have h5 : s5.cmpKeep u = s.cmpKeep u := (State.cmpKeep_put64 _ u _ _ _ rfl).trans h4
    have h6 : s6.cmpKeep u = s.cmpKeep u :=
      (State.cmpKeep_of_quiet u (State.raiseAt_quiet _ _ _ _ _ _)).trans ((State.cmpKeep_putN _ u _ _ _ _ rfl).trans h5)
    repeat' split
    · exact h4
    · rw [ih, h6]
    · rw [State.cmpKeep_putN _ u _ _ _ _ rfl, h6]
    · rw [State.cmpKeep_putN _ u _ _ _ _ rfl, h5]

theorem State.cmpFire_fbs (u t k : Nat) (s : State) : (State.cmpFire u t k s).fbs = s.fbs :=
  congrArg Prod.fst (State.cmpFire_keep u t k s)
theorem State.cmpFire_aside (u t k : Nat) (s : State) :
    (State.cmpFire u t k s).aside fbView (inFields cmpFields) = s.aside fbView (inFields cmpFields) :=
  congrArg (·.2.2) (State.cmpFire_keep u t k s)
theorem State.cmp_of_cmpKeep {s t : State} {u m : Nat} (h : t.cmpKeep u = s.cmpKeep u) (hm : m ≠ u) : t.cmp m = s.cmp m := by
  have := congrFun (congrArg (·.2.1) h) m
  simpa [State.cmpKeep, hm] using this

theorem State.cmpCheck_fbs (s : State) (n : Nat) (prev : Int) (t : Nat) : (s.cmpCheck n prev t).fbs = s.fbs := by
  unfold State.cmpCheck
  refine forN_keeps (fun x => x.fbs) 32 _ s fun u x => ?_
  repeat' split
  · exact State.cmpFire_fbs _ _ _ _
  · rfl
  · rfl

theorem State.cmpCheck_aside (s : State) (n : Nat) (prev : Int) (t : Nat) :
    (s.cmpCheck n prev t).aside fbView (inFields cmpFields) = s.aside fbView (inFields cmpFields) := by
  unfold State.cmpCheck
  refine forN_keeps (fun x => x.aside fbView (inFields cmpFields)) 32 _ s fun u x => ?_
  repeat' split
  · exact State.cmpFire_aside _ _ _ _
  · rfl
  · rfl

/-! ## New values, pulses and pass-through sources -/

theorem State.n64_of_quiet {s t : State} (h : t.quiet = s.quiet) (f : Field) (i : Nat) (hf : fieldReports f = false) :
    t.n64 f i = s.n64 f i := by simp only [State.n64, State.n_of_quiet h f i _ hf]

@[simp] theorem State.n64_putN_field (s : State) {f g : Field} {i v j k : Nat} (h : g ≠ f) : (s.putN f i v j).n64 g k = s.n64 g k := by
  simp only [State.n64, State.n_putN_field s h]

theorem State.n64_putZ64 (s : State) (f : Field) (i : Nat) (v : Int) : (s.putZ64 f i v).n64 f i = (BitVec.ofInt 64 v).toNat :=
  s.n64_put64 _ _ _ (BitVec.isLt _)

/-- A value written at once into two points, modulo 2^64. -/
theorem State.n64_put64_mod (s : State) (f : Field) (i v : Nat) : (s.put64 f i v).n64 f i = v % 2 ^ 64 := by
  have h0 : (s.put64 f i v).n f i 0 = v % 2 ^ 32 :=
    (State.n_ext (State.w_put_ne _ _ (by simp))).trans (s.n_putN_same _ _ _ _ (Nat.mod_lt _ (by decide)))
  have h1 : (s.put64 f i v).n f i 1 = v / 2 ^ 32 % 2 ^ 32 := by
    rw [State.n, State.put64, State.w_putN_same, Word.toNat_ofNat']
  rw [State.n64, h0, h1]
  omega

theorem State.cmpBehind_congr {s t : State} {u : Nat} (v : Int) (hf : t.fbs = s.fbs) (hs : t.n .cmpSrc u = s.n .cmpSrc u)
    (hd : t.n .cmpDir u = s.n .cmpDir u) : t.cmpBehind u v = s.cmpBehind u v := by
  simp only [State.cmpBehind, hs, hd, State.fb_of_fbs hf]

/-- A unit without steps that fires disarms (R247). -/
theorem State.cmpFire_once (s : State) (u t k : Nat) (h : s.z .cmpStep u = 0) : State.cmpFire u t (k + 1) s = s.cmpFired u t := by
  rw [State.cmpFire_succ]; exact if_pos h

theorem State.cmpFired_effect (s : State) (u t : Nat) (hu : irqValid (33 + u) = true) :
    let f := s.cmpFired u t
    f.w .cmpFiredCount u 0 = Word.ofNat (s.n .cmpFiredCount u + 1) ∧ f.n64 .cmpFiredTime u = t % 2 ^ 64 ∧ f.n .cmpState u = 2 ∧
      f.n .cmpFlags u = 0 ∧ (f.src (33 + u)).pend = true ∧ (s.n .cmpToken u ≤ 31 → Arith.bit f.tokens (s.n .cmpToken u) = true) ∧
      (f.cmp u).pulse = (if s.n .cmpDoPin u ≤ 7 then some (t + s.n .cmpPulseNs u) else none) := by
  unfold State.cmpFired
  extract_lets c s1 s2 s3 f
  have hf : f.quiet = (s3.putN .cmpState u 2).quiet := State.raiseAt_quiet _ _ _ _ _ _
  have h3 : s3.quiet = (((s2.put64 .cmpFiredTime u t).inc .cmpFiredCount u).putN .cmpFlags u 0).quiet := State.irqFire_quiet _ _
  have hn2 : s2.n .cmpFiredCount u = s.n .cmpFiredCount u := by simp only [s2]; split <;> rfl
  have hc2 : s2.cmp u = s1.cmp u := by simp only [s2]; split <;> rfl
  refine ⟨?_, ?_, ?_, ?_, ?_, fun ht => ?_, ?_⟩
  · rw [State.w_of_quiet hf _ _ _ rfl, State.w_putN_field _ (by decide), State.w_of_quiet h3 _ _ _ rfl,
      State.w_putN_field _ (by decide), State.inc, State.w_putN_same, ← hn2]
    simp [State.put64]
  · rw [State.n64_of_quiet hf _ _ rfl, State.n64_putN_field _ (by decide), State.n64_of_quiet h3 _ _ rfl,
      State.n64_putN_field _ (by decide), State.inc, State.n64_putN_field _ (by decide), State.n64_put64_mod]
  · rw [State.n_of_quiet hf _ _ _ rfl, State.n_putN_same _ _ _ _ _ (by decide)]
  · rw [State.n_of_quiet hf _ _ _ rfl, State.n_putN_field _ (by decide), State.n_of_quiet h3 _ _ _ rfl,
      State.n_putN_same _ _ _ _ _ (by decide)]
  · exact State.raiseAt_fired _ _ _ _ _ _ _ (State.irqFire_self _ _ hu)
  · rw [State.tokens_of_quiet hf, State.putN_tokens, State.tokens_of_quiet h3]
    simp [s2, ht, State.inc, State.put64]
  · have : f.cmp u = s2.cmp u := by
      simp only [State.cmp, State.cmps_of_quiet hf, State.putN_cmps, State.cmps_of_quiet h3]; rfl
    rw [this, hc2]
    simp [s1]

/-- A new value that lies ahead, before the unit arms; and one that lies behind, reported (R248). -/
def State.cmpAhead (s : State) (u : Nat) (v : Int) : State := (s.putZ64 .cmpValue u v).putN .cmpFlags u 0
def State.cmpLate (s : State) (u : Nat) (v : Int) : State := ((s.putZ64 .cmpValue u v).putN .cmpFlags u 1).raise 0x0409 kCmp u 0

theorem State.n_putZ64_field (s : State) {f g : Field} {i k : Nat} {v : Int} {j : Nat} (h : g ≠ f) :
    (s.putZ64 f i v).n g k j = s.n g k j := by simp [State.putZ64, State.put64, h]

theorem State.putZ64_behind (s : State) (u : Nat) (v w : Int) : (s.putZ64 .cmpValue u v).cmpBehind u w = s.cmpBehind u w :=
  State.cmpBehind_congr _ rfl (s.n_putZ64_field (by decide)) (s.n_putZ64_field (by decide))

/-- What a late value leaves of the points. -/
theorem State.cmpLate_n (s : State) (u : Nat) (v : Int) {f : Field} (i : Nat) (h1 : f ≠ .cmpValue) (h2 : f ≠ .cmpFlags)
    (h3 : fieldReports f = false) : (s.cmpLate u v).n f i = s.n f i := by
  rw [State.cmpLate, State.raise_n _ _ _ _ _ _ _ _ h3, State.n_putN_field _ h2, State.n_putZ64_field _ h1]

theorem State.cmpAhead_n (s : State) (u : Nat) (v : Int) {f : Field} (i : Nat) (h1 : f ≠ .cmpValue) (h2 : f ≠ .cmpFlags) :
    (s.cmpAhead u v).n f i = s.n f i := by
  rw [State.cmpAhead, State.n_putN_field _ h2, State.n_putZ64_field _ h1]

theorem State.cmpAhead_keep (s : State) (u : Nat) (v : Int) : (s.cmpAhead u v).cmpKeep u = s.cmpKeep u :=
  (State.cmpKeep_putN _ u _ _ _ _ rfl).trans (State.cmpKeep_put64 _ u _ _ _ rfl)

theorem State.cmpLate_keep (s : State) (u : Nat) (v : Int) : (s.cmpLate u v).cmpKeep u = s.cmpKeep u :=
  (State.cmpKeep_of_quiet _ (State.raise_quiet _ _ _ _ _)).trans
    ((State.cmpKeep_putN _ u _ _ _ _ rfl).trans (State.cmpKeep_put64 _ u _ _ _ rfl))

theorem State.cmpAhead_effect (s : State) (u : Nat) (v : BitVec 64) :
    (s.cmpAhead u v.toInt).n64 .cmpValue u = v.toNat ∧ (s.cmpAhead u v.toInt).n .cmpFlags u = 0 :=
  ⟨by rw [State.cmpAhead, State.n64_putN_field _ (by decide), State.n64_putZ64, BitVec.ofInt_toInt],
    State.n_putN_same _ _ _ _ _ (by decide)⟩

theorem State.cmpLate_now (s : State) (u : Nat) (v : Int) : (s.cmpLate u v).now = s.now := by
  simp [State.now, State.cmpLate, State.putZ64, State.put64]

theorem State.cmpLate_effect (s : State) (u : Nat) (v : BitVec 64) :
    (s.cmpLate u v.toInt).n64 .cmpValue u = v.toNat ∧ (s.cmpLate u v.toInt).n .cmpFlags u = 1 ∧
      Raised s (s.cmpLate u v.toInt) 0x0409 kCmp u ∧ (s.cmpLate u v.toInt).tokens = s.tokens := by
  have hq : (s.cmpLate u v.toInt).quiet = ((s.putZ64 .cmpValue u v.toInt).putN .cmpFlags u 1).quiet := State.raise_quiet _ _ _ _ _
  refine ⟨?_, ?_, State.raise_raised _ _ _ _ _ rfl, (State.tokens_of_quiet hq).trans rfl⟩
  · rw [State.n64_of_quiet hq _ _ rfl, State.n64_putN_field _ (by decide), State.n64_putZ64, BitVec.ofInt_toInt]
  · rw [State.n_of_quiet hq _ _ _ rfl, State.n_putN_same _ _ _ _ _ (by decide)]

theorem State.cmpLoad_ahead (s : State) (u : Nat) (v : Int) (h : s.cmpBehind u v = false) :
    s.cmpLoad u v = if s.n .cmpEnable u = 0 then s.cmpAhead u v else (s.cmpAhead u v).putN .cmpState u 1 := by
  unfold State.cmpLoad
  dsimp only
  rw [State.putZ64_behind, h, if_neg (by decide), ← s.cmpAhead_n u v u (by decide) (by decide)]
  rfl

theorem State.cmpLoad_late (s : State) (u : Nat) (v : Int) (h : s.cmpBehind u v = true) :
    s.cmpLoad u v = if s.n .cmpEnable u = 0 then s.cmpLate u v
      else if s.n .cmpPolicy u = 1 then State.cmpFire u s.now ((s.cmpLate u v).cmpFuel u v) (s.cmpLate u v)
      else (s.cmpLate u v).putN .cmpState u 1 := by
  unfold State.cmpLoad
  dsimp only
  rw [State.putZ64_behind, if_pos h, ← s.cmpLate_n u v u (by decide) (by decide) (by decide),
    ← s.cmpLate_n (f := .cmpPolicy) u v u (by decide) (by decide) (by decide)]
  rw [← s.cmpLate_now u v]
  rfl

/-- Whatever a new value is, the other units and all but the unit's points stay. -/
theorem State.cmpLoad_keep (s : State) (u : Nat) (v : Int) : (s.cmpLoad u v).cmpKeep u = s.cmpKeep u := by
  cases h : s.cmpBehind u v with
  | false =>
    rw [s.cmpLoad_ahead u v h]
    split
    · exact s.cmpAhead_keep u v
    · exact (State.cmpKeep_putN _ u _ _ _ _ rfl).trans (s.cmpAhead_keep u v)
  | true =>
    rw [s.cmpLoad_late u v h]
    repeat' split
    · exact s.cmpLate_keep u v
    · exact (State.cmpFire_keep _ _ _ _).trans (s.cmpLate_keep u v)
    · exact (State.cmpKeep_putN _ u _ _ _ _ rfl).trans (s.cmpLate_keep u v)

/-- A late value under policy 1, without steps, fires once (R248). -/
theorem State.cmpLoad_fires (s : State) (u : Nat) (v : Int) (h : s.cmpBehind u v = true) (he : s.n .cmpEnable u ≠ 0)
    (hp : s.n .cmpPolicy u = 1) (hs : s.z .cmpStep u = 0) : s.cmpLoad u v = (s.cmpLate u v).cmpFired u s.now := by
  rw [s.cmpLoad_late u v h, if_neg he, if_pos hp]
  refine State.cmpFire_once _ _ _ _ ?_
  rw [← hs, State.z, State.z]
  congr 1
  exact (State.raise_w _ _ _ _ _ _ _ _ rfl).trans (by simp [State.putZ64, State.put64])

/-- Settles O31: the four ways of a new value by `cmpLoad_ahead` and `cmpLoad_late`; firing by `cmpFired_effect`. -/
theorem compareUnitsAndPassThrough : Obligations.CompareUnitsAndPassThrough := by
  unfold Obligations.CompareUnitsAndPassThrough
  refine fun s => ⟨fun u v => ?_, fun u e h he => ?_, fun k v h => ?_⟩
  · intro behind
    have hk := s.cmpLoad_keep u v.toInt
    obtain ⟨hav, haf⟩ := s.cmpAhead_effect u v
    obtain ⟨hlv, hlf, hlr, hlt⟩ := s.cmpLate_effect u v
    refine ⟨s.cmpLoad u v.toInt, rfl, fun hb => ?_, fun hb he => ?_, fun hb he hp => ?_, fun hb he hp hs => ?_,
      fun m hm => State.cmp_of_cmpKeep hk hm, (QuietFields.of_aside (fs := cmpFields) (congrArg (·.2.2) hk)).mono (by decide)⟩
    · rw [s.cmpLoad_ahead u _ hb]
      split
      · exact ⟨hav, haf, s.cmpAhead_n _ _ _ (by decide) (by decide)⟩
      · exact ⟨(State.n64_putN_field _ (by decide)).trans hav, (State.n_putN_field _ (by decide)).trans haf,
          State.n_putN_same _ _ _ _ _ (by decide)⟩
    · rw [s.cmpLoad_late u _ hb, if_pos he]
      exact ⟨hlv, hlf, hlr, s.cmpLate_n _ _ _ (by decide) (by decide) rfl⟩
    · rw [s.cmpLoad_late u _ hb, if_neg he, if_neg hp]
      exact ⟨(State.n64_putN_field _ (by decide)).trans hlv, (State.n_putN_field _ (by decide)).trans hlf, hlr,
        State.n_putN_same _ _ _ _ _ (by decide), hlt⟩
    · rw [s.cmpLoad_fires u _ hb he hp hs]
      have hvalid : irqValid (33 + u) = true := by fin_cases u <;> rfl
      have heff := (s.cmpLate u v.toInt).cmpFired_effect u s.now hvalid
      simpa only [s.cmpLate_n u v.toInt (f := .cmpFiredCount) u (by decide) (by decide) rfl,
        s.cmpLate_n u v.toInt (f := .cmpToken) u (by decide) (by decide) rfl,
        s.cmpLate_n u v.toInt (f := .cmpDoPin) u (by decide) (by decide) rfl,
        s.cmpLate_n u v.toInt (f := .cmpPulseNs) u (by decide) (by decide) rfl] using heff
  · refine ⟨_, rfl, ?_⟩
    simp only [h, he, if_true]
    exact ⟨trivial, by simp⟩
  · exact yields_if h ⟨State.w_put_same _ _ _ _ _, rfl, rfl, SamePoints.put s _ _ _ _⟩

end Sys2Proof.Machine
end

section
/-!
SUPPORT. Proofs/FeedbackEdges.lean: edges, faults and the index of a feedback channel (sections 7.2 and 7.5): what each step leaves aside,
and the record of the channel after it.
-/
namespace Sys2Proof.Machine

/-! ## Faults -/

/-- The points that a fault of a channel and its index check write. -/
def fbFaultFields : List Field := [.fbState, .fbFaultCause]
def fbIndexFields : List Field := [.fbIndexMisses, .fbState, .fbFaultCause]

theorem State.fbFault_aside (s : State) (n c : Nat) :
    (s.fbFault n c).aside fbView (inFields fbFaultFields) = s.aside fbView (inFields fbFaultFields) := by
  unfold State.fbFault
  split
  · rw [State.aside_of_quiet (State.irqFire_quiet _ _), State.aside_of_quiet (State.raise_quiet _ _ _ _ _),
      State.aside_putN _ _ _ _ rfl, State.aside_putN _ _ _ _ rfl]
  · rfl

@[simp] theorem State.fbFault_fbs (s : State) (n c : Nat) : (s.fbFault n c).fbs = s.fbs := by
  unfold State.fbFault; split <;> simp

/-- A fault of a channel in service. -/
theorem State.fbFault_effect (s : State) (n c : Nat) (h : s.n .fbState n = 1) (hn : irqValid (128 + n) = true) (hc : c < 2 ^ 32) :
    (s.fbFault n c).n .fbState n = 2 ∧ (s.fbFault n c).n .fbFaultCause n = c ∧ Raised s (s.fbFault n c) 0x0402 kFb n ∧
      ((s.fbFault n c).src (128 + n)).pend = true := by
  rw [State.fbFault, if_pos h]
  generalize hu : ((s.putN .fbState n 2).putN .fbFaultCause n c) = u
  have hs : u.n .fbState n = 2 := by
    rw [← hu, State.n_putN_field _ (by decide), State.n_putN_same _ _ _ _ _ (by decide)]
  have hf : u.n .fbFaultCause n = c := by rw [← hu, State.n_putN_same _ _ _ _ _ hc]
  have hq : ((u.raise 0x0402 kFb n c).irqFire (128 + n)).quiet = u.quiet := (State.irqFire_quiet _ _).trans (State.raise_quiet _ _ _ _ _)
  refine ⟨(State.n_of_quiet hq _ _ _ rfl).trans hs, (State.n_of_quiet hq _ _ _ rfl).trans hf, ?_, State.irqFire_self _ _ hn⟩
  have hr : Raised s (u.raise 0x0402 kFb n c) 0x0402 kFb n := State.raise_raised _ _ _ _ _ (by rw [← hu]; rfl)
  intro h1 h2
  rw [State.irqFire_so]
  exact hr h1 h2

theorem State.fbFault_not (s : State) (n c : Nat) (h : s.n .fbState n ≠ 1) : s.fbFault n c = s := if_neg h

theorem State.idxMismatch_aside (s : State) (n : Nat) (d : Int) :
    (s.idxMismatch n d).aside fbView (inFields fbIndexFields) = s.aside fbView (inFields fbIndexFields) := by
  unfold State.idxMismatch
  extract_lets s1
  have h1 : s1.aside fbView (inFields fbIndexFields) = s.aside fbView (inFields fbIndexFields) := by
    rw [State.aside_of_quiet (State.raise_quiet _ _ _ _ _), State.aside_inc _ _ _ rfl]
  split
  · rw [State.aside_fields_mono (s1.fbFault_aside n 1) (by decide), h1]
  · exact h1

@[simp] theorem State.idxMismatch_fbs (s : State) (n : Nat) (d : Int) : (s.idxMismatch n d).fbs = s.fbs := by
  unfold State.idxMismatch; dsimp only; split <;> simp [State.inc]

theorem State.idxPassed_aside (s : State) (n : Nat) :
    (s.idxPassed n).aside fbView (inFields fbIndexFields) = s.aside fbView (inFields fbIndexFields) := by
  unfold State.idxPassed
  dsimp only
  repeat' split
  · rw [State.idxMismatch_aside, State.putFb_aside]
  · rfl
  · rfl

/-- A count that passes an index without it changes at most the count of missing pulses. -/
theorem State.idxPassed_fb (s : State) (n : Nat) :
    (∃ k, (s.idxPassed n).fb n = { s.fb n with idxMissing := k }) ∧ ∀ m, m ≠ n → (s.idxPassed n).fb m = s.fb m := by
  unfold State.idxPassed
  dsimp only
  repeat' split
  · refine ⟨⟨(s.fb n).idxMissing + 1, ?_⟩, fun m h => ?_⟩
    · rw [State.fb_of_fbs (State.idxMismatch_fbs _ _ _), State.fb_putFb_same]
    · rw [State.fb_of_fbs (State.idxMismatch_fbs _ _ _), State.fb_putFb_ne _ _ h]
  · exact ⟨⟨(s.fb n).idxMissing, rfl⟩, fun _ _ => rfl⟩
  · exact ⟨⟨(s.fb n).idxMissing, rfl⟩, fun _ _ => rfl⟩

/-! ## Edges -/

/-- The points that an edge may write beside the sample's. -/
def fbEdgeFields : List Field := fbIndexFields ++ cmpFields

theorem State.fbCount_aside (s : State) (n t : Nat) (dir : Int) :
    (s.fbCount n t dir).aside fbView (inFields fbEdgeFields) = s.aside fbView (inFields fbEdgeFields) := by
  unfold State.fbCount
  extract_lets x kind frac d cnt neg rev prev x1 s1 s2
  have h1 : s1.aside fbView (inFields fbEdgeFields) = s.aside fbView (inFields fbEdgeFields) :=
    (State.fbFlag_aside _ _ _ _).trans (s.putFb_aside _ _)
  have h2 : s2.aside fbView (inFields fbEdgeFields) = s1.aside fbView (inFields fbEdgeFields) := by
    simp only [s2]; split
    · exact State.aside_fields_mono (s1.idxPassed_aside n) (by decide)
    · rfl
  rw [State.aside_fields_mono (s2.cmpCheck_aside n prev t) (by decide), h2, h1]

/-- A counted edge: what it makes of the channel's record. -/
theorem State.fbCount_fb (s : State) (n t : Nat) (dir : Int) :
    let x := s.fb n
    let d := if s.n .fbInvert n = 1 then -dir else dir
    let y := (s.fbCount n t dir).fb n
    y.lines = x.lines ∧ y.count = x.count + d * fbWeight (s.n .fbKind n) ∧
      y.frac = crossFrac (s.n .fbKind n) x.flags dir (s.n .fbInvert n == 1) ∧ y.lastAt = t ∧ y.lastNeg = decide (d < 0) ∧
      ∀ m, m ≠ n → (s.fbCount n t dir).fb m = s.fb m := by
  intro x d
  generalize hu : s.fbCount n t dir = u
  intro y
  unfold State.fbCount at hu
  extract_lets kind frac cnt neg rev prev x1 s1 s2 at hu
  have h1 : s1.fb n = { x1 with flags := Arith.setBit x1.flags 7 neg } := by simp [s1]
  have h1' : ∀ m, m ≠ n → s1.fb m = s.fb m := fun m h => by rw [State.fb_fbFlag_ne _ _ _ h, State.fb_putFb_ne _ _ h]
  have h2 : (∃ k, s2.fb n = { s1.fb n with idxMissing := k }) ∧ ∀ m, m ≠ n → s2.fb m = s1.fb m := by
    simp only [s2]; split
    · exact s1.idxPassed_fb n
    · exact ⟨⟨(s1.fb n).idxMissing, rfl⟩, fun _ _ => rfl⟩
  obtain ⟨⟨k, hk⟩, hne⟩ := h2
  have hfb : u.fbs = s2.fbs := by rw [← hu]; exact State.cmpCheck_fbs _ _ _ _
  have hy : y = { s1.fb n with idxMissing := k } := (State.fb_of_fbs hfb n).trans hk
  rw [hy, h1]
  exact ⟨rfl, rfl, rfl, rfl, rfl, fun m h => (State.fb_of_fbs hfb m).trans ((hne m h).trans (h1' m h))⟩

/-- The points that an illegal transition may write. -/
def fbErrorFields : List Field := .fbErrors :: fbFaultFields

theorem State.fbIllegal_aside (s : State) (n t : Nat) :
    (s.fbIllegal n t).aside fbView (inFields fbErrorFields) = s.aside fbView (inFields fbErrorFields) := by
  unfold State.fbIllegal
  extract_lets x bad s1
  have h1 : s1.aside fbView (inFields fbErrorFields) = s.aside fbView (inFields fbErrorFields) := by
    rw [State.aside_of_quiet (State.raise_quiet _ _ _ _ _), State.fbFlag_aside, State.aside_inc _ _ _ rfl, State.putFb_aside]
  split
  · rw [State.aside_fields_mono (s1.fbFault_aside n 3) (by decide), h1]
  · exact h1

theorem State.fbIllegal_effect (s : State) (n t : Nat) :
    let y := (s.fbIllegal n t).fb n
    y.lines = (s.fb n).lines ∧ y.count = (s.fb n).count ∧ Arith.bit y.flags 3 = true ∧
      (s.fbIllegal n t).w .fbErrors n 0 = Word.ofNat (s.n .fbErrors n + 1) ∧
      ∀ m, m ≠ n → (s.fbIllegal n t).fb m = s.fb m := by
  unfold State.fbIllegal
  extract_lets x bad s1 y
  have hq : s1.quiet = (((s.putFb n { x with bad := bad }).inc .fbErrors n).fbFlag n 3 true).quiet := State.raise_quiet _ _ _ _ _
  have h1 : s1.fb n = { x with bad := bad, flags := Arith.setBit x.flags 3 true } := by
    rw [State.fb_of_fbs (State.fbs_of_quiet hq), State.fb_fbFlag_same]
    rw [State.fb_of_fbs (show ((s.putFb n { x with bad := bad }).inc .fbErrors n).fbs = _ from State.inc_fbs _ _ _ _), State.fb_putFb_same]
  have h1' : ∀ m, m ≠ n → s1.fb m = s.fb m := fun m h => by
    rw [State.fb_of_fbs (State.fbs_of_quiet hq), State.fb_fbFlag_ne _ _ _ h]
    exact s.fb_putFb_ne _ h
  have hw : s1.w .fbErrors n 0 = Word.ofNat (s.n .fbErrors n + 1) :=
    (State.w_of_quiet hq _ _ _ rfl).trans (State.w_putN_same _ _ _ _ _)
  have hend : ∀ t : State, t.fbs = s1.fbs → t.w .fbErrors n 0 = s1.w .fbErrors n 0 →
      (t.fb n).lines = x.lines ∧ (t.fb n).count = x.count ∧ Arith.bit (t.fb n).flags 3 = true ∧
      t.w .fbErrors n 0 = Word.ofNat (s.n .fbErrors n + 1) ∧ ∀ m, m ≠ n → t.fb m = s.fb m := fun t hfb ht => by
    rw [ht, hw, State.fb_of_fbs hfb, h1]
    exact ⟨rfl, rfl, bit_setBit_same _ _ _, rfl, fun m h => (State.fb_of_fbs hfb m).trans (h1' m h)⟩
  simp only [y]
  split
  · exact hend _ (State.fbFault_fbs _ _ _) (State.aside_w (s1.fbFault_aside n 3) _ _ _ rfl rfl)
  · exact hend _ rfl rfl

/-! ## The sample -/

/-- The points that a sample publishes (R230). -/
def fbSampleFields : List Field := [.fbPos, .fbEdgeTime, .fbStatus, .fbSpeedCps]

/-- A sample: the channel's record with its speed flags, and what it publishes. -/
def State.fbSampled (s : State) (n : Nat) (x : Fb) (still start rev : Bool) (v : Rat) : State :=
  ((((s.putFb n x).fbFlag n 0 still).fbFlag n 1 start).fbFlag n 2 rev).fbPublish n v

/-- In each of its modes the speed of a sample is one `fbSampled` of a record whose window, history and standstill alone are new. -/
theorem State.fbSpeed_eq (s : State) (n : Nat) : ∃ still leftAt revs edges hist a b c v,
    s.fbSpeed n = s.fbSampled n { s.fb n with still := still, leftAt := leftAt, revs := revs, edges := edges, hist := hist } a b c v := by
  unfold State.fbSpeed
  extract_lets x t0 w leaves x1 revs x2 s1 s2
  have hx : ∃ still leftAt revs edges hist, x2 = { s.fb n with still := still, leftAt := leftAt, revs := revs, edges := edges, hist := hist } := by
    simp only [x2, x1]
    split <;> exact ⟨_, _, _, _, _, rfl⟩
  obtain ⟨still, leftAt, rv, edges, hist, hx⟩ := hx
  refine ⟨still, leftAt, rv, edges, hist, ?_⟩
  rw [← hx]
  clear_value x2
  split
  · exact ⟨true, false, false, 0, rfl⟩
  · split
    · exact ⟨false, false, _, _, rfl⟩
    · split
      · exact ⟨false, true, _, 0, rfl⟩
      · exact ⟨false, false, _, _, rfl⟩

theorem State.fbSampled_aside (s : State) (n : Nat) (x : Fb) (a b c : Bool) (v : Rat) :
    (s.fbSampled n x a b c v).aside fbView (inFields fbSampleFields) = s.aside fbView (inFields fbSampleFields) := by
  unfold State.fbSampled State.fbPublish
  dsimp only
  rw [State.putR, State.aside_put _ _ _ _ rfl, State.aside_putN _ _ _ _ rfl, State.aside_put64 _ _ _ rfl rfl, State.putZ64,
    State.aside_put64 _ _ _ rfl rfl, State.fbFlag_aside, State.fbFlag_aside, State.fbFlag_aside, State.putFb_aside]

theorem State.fbSampled_fbs (s : State) (n : Nat) (x : Fb) (a b c : Bool) (v : Rat) :
    (s.fbSampled n x a b c v).fb n =
        { x with flags := Arith.setBit (Arith.setBit (Arith.setBit x.flags 0 a) 1 b) 2 c } ∧
      ∀ m, m ≠ n → (s.fbSampled n x a b c v).fb m = s.fb m := by
  have hfbs : (s.fbSampled n x a b c v).fbs = ((((s.putFb n x).fbFlag n 0 a).fbFlag n 1 b).fbFlag n 2 c).fbs := rfl
  refine ⟨by rw [State.fb_of_fbs hfbs]; simp, fun m h => ?_⟩
  rw [State.fb_of_fbs hfbs, State.fb_fbFlag_ne _ _ _ h, State.fb_fbFlag_ne _ _ _ h, State.fb_fbFlag_ne _ _ _ h, State.fb_putFb_ne _ _ h]

/-- What a sample leaves of the channel's record. -/
structure Fb.SameCount (x y : Fb) : Prop where
  lines : y.lines = x.lines
  count : y.count = x.count
  frac : y.frac = x.frac
  lastAt : y.lastAt = x.lastAt
  lastNeg : y.lastNeg = x.lastNeg
  ssiLast : y.ssiLast = x.ssiLast
  ssiGot : y.ssiGot = x.ssiGot
  ssiBad : y.ssiBad = x.ssiBad
  ssiPos : y.ssiPos = x.ssiPos
  badN : y.badN = x.badN
  flags : ∀ k, 3 ≤ k → Arith.bit y.flags k = Arith.bit x.flags k

theorem State.fbSpeed_aside (s : State) (n : Nat) :
    (s.fbSpeed n).aside fbView (inFields fbSampleFields) = s.aside fbView (inFields fbSampleFields) := by
  obtain ⟨_, _, _, _, _, _, _, _, _, h⟩ := s.fbSpeed_eq n
  rw [h, State.fbSampled_aside]

theorem State.fbSpeed_fb (s : State) (n : Nat) :
    (s.fb n).SameCount ((s.fbSpeed n).fb n) ∧ ∀ m, m ≠ n → (s.fbSpeed n).fb m = s.fb m := by
  obtain ⟨_, _, _, _, _, a, b, c, _, h⟩ := s.fbSpeed_eq n
  obtain ⟨hn, hm⟩ := s.fbSampled_fbs n _ a b c _
  rw [h, hn]
  refine ⟨⟨rfl, rfl, rfl, rfl, rfl, rfl, rfl, rfl, rfl, rfl, fun k hk => ?_⟩, hm⟩
  rw [bit_setBit, if_neg (by omega), bit_setBit, if_neg (by omega), bit_setBit, if_neg (by omega)]

/-- A sample publishes the channel's position. -/
theorem State.fbSpeed_pos (s : State) (n : Nat) : (s.fbSpeed n).n64 .fbPos n = (BitVec.ofInt 64 ((s.fbSpeed n).fb n).pos).toNat := by
  obtain ⟨_, _, _, _, _, a, b, c, _, h⟩ := s.fbSpeed_eq n
  obtain ⟨hn, -⟩ := s.fbSampled_fbs n _ a b c _
  rw [h, hn]
  unfold State.fbSampled State.fbPublish
  dsimp only
  simp only [State.putR, State.n64, State.n_put_field _ _ (show Field.fbPos ≠ .fbSpeedCps by decide),
    State.n_putN_field _ (show Field.fbPos ≠ .fbStatus by decide), State.put64,
    State.n_putN_field _ (show Field.fbPos ≠ .fbEdgeTime by decide)]
  refine (State.n64_putZ64 _ _ _ _).trans ?_
  simp [Fb.pos]

end Sys2Proof.Machine
end

section
/-!
SUPPORT. Proofs/FeedbackChannels.lean: the obligations on edges, faults, clears and the index of feedback channels (chapter 7).
-/
namespace Sys2Proof.Machine

/-! ## New levels and the pass-through outputs -/

/-- The channel has its new levels, and the pass-through outputs that name it repeat them (R228, R244). -/
def State.fbLined (s : State) (n new : Nat) (at' : Tab Nat) : State :=
  forN 4 (fun k u => if u.n .ptSrc k = n then u.withPtOut (Tab.put 0 u.ptOut k new) else u)
    (s.putFb n { s.fb n with lines := new, lineAt := at' })

theorem State.fbLined_eq (s : State) (n t new : Nat) : ∃ at', s.fbEdge n t new =
    if (changedLines (s.n .fbKind n) (s.fb n).lines new).isEmpty then s.fbLined n new at'
    else
      match s.fbBadEdge n t new, fbStep (s.n .fbKind n) (s.fb n).lines new with
      | false, some d => (s.fbLined n new at').fbCount n t d
      | _, _ => (s.fbLined n new at').fbIllegal n t := ⟨_, rfl⟩

/-- Repeating the levels writes the outputs that name the channel and nothing else. -/
theorem ptRepeat (n new : Nat) (m : Nat) (s : State) :
    let t := forN m (fun k u => if u.n .ptSrc k = n then u.withPtOut (Tab.put 0 u.ptOut k new) else u) s
    t = s.withPtOut t.ptOut ∧ ∀ k, Tab.get 0 t.ptOut k = if k < m ∧ s.n .ptSrc k = n then new else Tab.get 0 s.ptOut k := by
  induction m with
  | zero => exact ⟨by simp [forN], fun k => by simp [forN]⟩
  | succ m ih =>
    obtain ⟨hs, ho⟩ := ih
    simp only [forN]
    generalize forN m _ s = u at hs ho
    have hn : u.n .ptSrc m = s.n .ptSrc m := by rw [hs]; rfl
    rw [hn]
    split
    · next h =>
      refine ⟨by rw [hs]; rfl, fun k => ?_⟩
      by_cases hk : k = m
      · subst hk; simp [h]
      · rw [State.withPtOut_ptOut, Tab.get_put_ne _ _ _ hk, ho]
        simp only [show k < m + 1 ↔ k < m by omega]
    · next h =>
      refine ⟨hs, fun k => ?_⟩
      rw [ho]
      by_cases hk : k = m
      · subst hk; simp [h]
      · simp only [show k < m + 1 ↔ k < m by omega]

/-- What new levels leave: the points, the clock, the other channels; the outputs repeat them. -/
theorem State.fbLined_effect (s : State) (n new : Nat) (at' : Tab Nat) :
    let t := s.fbLined n new at'
    t.pts = s.pts ∧ t.clk = s.clk ∧ t.fb n = { s.fb n with lines := new, lineAt := at' } ∧ (∀ m, m ≠ n → t.fb m = s.fb m) ∧
      ∀ k, k < 4 → Tab.get 0 t.ptOut k = if s.n .ptSrc k = n then new else Tab.get 0 s.ptOut k := by
  obtain ⟨hs, ho⟩ := ptRepeat n new 4 (s.putFb n { s.fb n with lines := new, lineAt := at' })
  rw [show forN 4 _ _ = s.fbLined n new at' from rfl] at hs ho
  generalize s.fbLined n new at' = t at hs ho
  have hfbs : t.fbs = (s.putFb n { s.fb n with lines := new, lineAt := at' }).fbs := by rw [hs]; rfl
  refine ⟨by rw [hs]; rfl, by rw [hs]; rfl, ?_, fun m h => ?_, fun k hk => ?_⟩
  · rw [State.fb_of_fbs hfbs, State.fb_putFb_same]
  · rw [State.fb_of_fbs hfbs, State.fb_putFb_ne _ _ h]
  · refine (ho k).trans ?_
    simp only [hk, true_and]; rfl

theorem QuietFields.of_pts {s t : State} (fs : List Field) (h : t.pts = s.pts) : QuietFields s t fs :=
  fun f i j _ _ => by simp only [State.w, h]

/-! ## Taking the last sample again -/

theorem State.fbRelatch_fb (s : State) (n t : Nat) :
    (s.fb n).SameCount ((s.fbRelatch n t).fb n) ∧ ∀ m, m ≠ n → (s.fbRelatch n t).fb m = s.fb m := by
  unfold State.fbRelatch
  split
  · obtain ⟨h, hm⟩ := (s.putFb n { s.fb n with hist := (s.fb n).hist.drop 1 }).fbSpeed_fb n
    rw [State.fb_putFb_same] at h
    exact ⟨⟨h.1, h.2, h.3, h.4, h.5, h.6, h.7, h.8, h.9, h.10, h.11⟩, fun m hne => (hm m hne).trans (s.fb_putFb_ne _ hne)⟩
  · exact ⟨⟨rfl, rfl, rfl, rfl, rfl, rfl, rfl, rfl, rfl, rfl, fun _ _ => rfl⟩, fun _ _ => rfl⟩

theorem State.fbRelatch_aside (s : State) (n t : Nat) :
    (s.fbRelatch n t).aside fbView (inFields fbSampleFields) = s.aside fbView (inFields fbSampleFields) := by
  unfold State.fbRelatch
  split
  · rw [State.fbSpeed_aside, State.putFb_aside]
  · rfl

/-- The points of an edge and of the sample taken again. -/
def fbAllFields : List Field := fbErrorFields ++ (fbEdgeFields ++ fbSampleFields)

/-- What an edge makes of the channel once its levels are known, whether it counts or not. -/
theorem State.fbEdge_outcome (s : State) (n t : Nat) (u : State) (hu : (∃ d, u = s.fbCount n t d) ∨ u = s.fbIllegal n t) :
    u.aside fbView (inFields (fbErrorFields ++ fbEdgeFields)) = s.aside fbView (inFields (fbErrorFields ++ fbEdgeFields)) ∧
      (u.fb n).lines = (s.fb n).lines ∧ ∀ m, m ≠ n → u.fb m = s.fb m := by
  rcases hu with ⟨d, hd⟩ | hd <;> rw [hd]
  · obtain ⟨hl, -, -, -, -, hm⟩ := s.fbCount_fb n t d
    exact ⟨State.aside_fields_mono (s.fbCount_aside n t d) (List.subset_append_right _ _), hl, hm⟩
  · obtain ⟨hl, -, -, -, hm⟩ := s.fbIllegal_effect n t
    exact ⟨State.aside_fields_mono (s.fbIllegal_aside n t) (List.subset_append_left _ _), hl, hm⟩

/-- Settles O28: an edge is new levels, then a count or an illegal transition, then perhaps the last sample again. -/
theorem feedbackEdgesCount : Obligations.FeedbackEdgesCount := by
  unfold Obligations.FeedbackEdgesCount
  intro n time lines s x kind hon hkind hch
  let a := s.advance time
  obtain ⟨at', hedge⟩ := a.fbLined_eq n time lines
  obtain ⟨hpts, hclk, hfb, hfm, hout⟩ := a.fbLined_effect n lines at'
  generalize hl : a.fbLined n lines at' = l at hedge hpts hclk hfb hfm hout
  have hw : ∀ f i j, l.w f i j = s.w f i j := fun f i j => by simp only [State.w, hpts]; rfl
  have hn : ∀ f i j, l.n f i j = s.n f i j := fun f i j => State.n_ext (hw f i j)
  rw [if_neg (by rw [List.isEmpty_iff]; exact hch)] at hedge
  generalize hu : a.fbEdge n time lines = u at hedge
  have hcase : (∃ d, u = l.fbCount n time d) ∨ u = l.fbIllegal n time := by
    rw [hedge]; split
    · exact .inl ⟨_, rfl⟩
    · exact .inr rfl
  obtain ⟨hua, hul, hum⟩ := l.fbEdge_outcome n time u hcase
  obtain ⟨hsame, hrm⟩ := u.fbRelatch_fb n time
  have hra := u.fbRelatch_aside n time
  have hall : (u.fbRelatch n time).aside fbView (inFields fbAllFields) = l.aside fbView (inFields fbAllFields) :=
    (State.aside_fields_mono hra (by decide)).trans (State.aside_fields_mono hua (by decide))
  have hview := State.aside_rest hall
  have hguard : (s.fbOn n && (s.n .fbKind n == 1 || s.n .fbKind n == 3 || s.n .fbKind n == 4)) = true := by
    rcases hkind with h | h | h <;> simp [hon, show s.n .fbKind n = _ from h]
  refine ⟨u.fbRelatch n time, ?_, ?_, ?_, fun k hk => ?_, fun dir hb hs => ?_, fun hb => ?_, fun m hm => ?_, fun hlate => ?_, ?_⟩
  · rw [← hu]; exact congrArg Host.Outcome.next (if_pos hguard)
  · rw [hsame.lines, hul, hfb]
  · exact (clk_of_fbView hview).trans hclk
  · rw [ptOut_of_fbView hview, hout k hk]; rfl
  · have hb' : a.fbBadEdge n time lines = false := hb
    have hs' : fbStep (a.n .fbKind n) (a.fb n).lines lines = some dir := hs
    rw [hb', hs'] at hedge
    change u = l.fbCount n time dir at hedge
    obtain ⟨-, hcount, hfrac, hat, hneg, -⟩ := l.fbCount_fb n time dir
    rw [← hedge, hn, hfb] at hcount hfrac
    rw [← hedge] at hat hneg
    rw [hn] at hcount hfrac hneg
    rw [hsame.count, hsame.frac, hsame.lastAt, hsame.lastNeg]
    refine ⟨hcount, hfrac, hat, hneg, ?_⟩
    rw [State.aside_w hra _ _ _ rfl rfl, hedge, State.aside_w (l.fbCount_aside n time dir) _ _ _ rfl rfl, hw]
  · have hill : u = l.fbIllegal n time := by
      have hb' : a.fbBadEdge n time lines = true := hb
      rw [hb'] at hedge; exact hedge
    obtain ⟨-, hcount, hflag, herr, -⟩ := l.fbIllegal_effect n time
    rw [← hill, hfb] at hcount
    rw [← hill] at hflag herr
    refine ⟨hsame.count.trans hcount, (hsame.flags 3 (by decide)).trans hflag, ?_⟩
    rw [State.aside_w hra _ _ _ rfl rfl, herr, hn]
  · exact (hrm m hm).trans ((hum m hm).trans (hfm m hm))
  · have hno : u.fbRelatch n time = u := by
      refine if_neg fun h => ?_
      have hc : u.clk = { s.clk with now := max s.clk.now time } := (clk_of_fbView (State.aside_rest hua)).trans hclk
      rw [hc] at h
      rcases hlate with h' | h'
      · exact absurd h.1 (by simpa using h')
      · exact h' h.2
    rw [hno]
    refine QuietFields.mono (fs := fbErrorFields ++ fbEdgeFields) (fun f i j hf hr => ?_) (by decide)
    rw [QuietFields.of_aside hua f i j hf hr, hw]
  · refine QuietFields.mono (fs := fbAllFields) (fun f i j hf hr => ?_) (by decide)
    rw [QuietFields.of_aside hall f i j hf hr, hw]

/-! ## The index -/

theorem State.aside_n64 {g : State → State} {fs : List Field} {s t : State} (h : t.aside g (inFields fs) = s.aside g (inFields fs))
    (f : Field) (i : Nat) (hf : fieldReports f = false) (hp : fs.contains f = false) : t.n64 f i = s.n64 f i := by
  simp only [State.n64, State.aside_n h f i _ hf hp]

/-- A qualified index, before its count is compared (R240). -/
def State.fbIndexed (s : State) (n : Nat) : State :=
  (((s.putZ64 .fbIndexPos n (s.fb n).pos).inc .fbIndexCount n).putFb n
    { s.fb n with idxAt := some (s.fb n).count, idxRev := false, idxMissing := 0 }).fbFlag n 4 true

theorem State.fbIndexed_effect (s : State) (n : Nat) :
    let t := s.fbIndexed n
    t.n64 .fbIndexPos n = (BitVec.ofInt 64 (s.fb n).pos).toNat ∧ t.w .fbIndexCount n 0 = Word.ofNat (s.n .fbIndexCount n + 1) ∧
      (t.fb n).idxAt = some (s.fb n).count ∧ (t.fb n).idxRev = false ∧ Arith.bit (t.fb n).flags 4 = true ∧
      (t.fb n).count = (s.fb n).count ∧ (∀ m, m ≠ n → t.fb m = s.fb m) ∧ QuietFields s t [.fbIndexPos, .fbIndexCount] ∧
      ∀ f i, f ≠ .fbIndexPos → f ≠ .fbIndexCount → t.w f i 0 = s.w f i 0 := by
  have hpts : (s.fbIndexed n).pts = ((s.putZ64 .fbIndexPos n (s.fb n).pos).inc .fbIndexCount n).pts := rfl
  have hw : ∀ f i j, (s.fbIndexed n).w f i j = ((s.putZ64 .fbIndexPos n (s.fb n).pos).inc .fbIndexCount n).w f i j :=
    fun f i j => by simp only [State.w, hpts]
  have hfb : (s.fbIndexed n).fb n = { s.fb n with
      idxAt := some (s.fb n).count, idxRev := false, idxMissing := 0, flags := Arith.setBit (s.fb n).flags 4 true } := by
    rw [State.fbIndexed, State.fb_fbFlag_same, State.fb_putFb_same]
  intro t
  refine ⟨?_, ?_, by rw [hfb], by rw [hfb], by rw [hfb]; exact bit_setBit_same _ _ _, by rw [hfb], fun m h => ?_, ?_,
    fun f i h1 h2 => ?_⟩
  · simp only [State.n64, State.n, t, hw]
    simp only [State.inc, State.w_putN_field _ (show Field.fbIndexPos ≠ .fbIndexCount by decide)]
    exact s.n64_putZ64 _ _ _
  · rw [hw, State.inc, State.w_putN_same, State.n_putZ64_field _ (by decide)]
  · exact (State.fb_fbFlag_ne _ _ _ h).trans (State.fb_putFb_ne _ _ h)
  · refine QuietFields.of_aside (g := fbView) ?_
    rw [show t = s.fbIndexed n from rfl, State.fbIndexed, State.fbFlag_aside, State.putFb_aside, State.aside_inc _ _ _ rfl,
      State.putZ64, State.aside_put64 _ _ _ rfl rfl]
  · rw [hw]; simp [State.inc, State.putZ64, State.put64, h1, h2]

/-- A mismatch is counted, and the third in a row faults the channel. -/
theorem State.idxMismatch_effect (s : State) (n : Nat) (d : Int) (hn : irqValid (128 + n) = true) :
    (s.idxMismatch n d).w .fbIndexMisses n 0 = Word.ofNat (s.n .fbIndexMisses n + 1) ∧
      (s.n .fbState n = 1 → 2 ≤ s.n .fbIndexMisses n → s.n .fbIndexMisses n < 2 ^ 31 →
        (s.idxMismatch n d).n .fbState n = 2 ∧ (s.idxMismatch n d).n .fbFaultCause n = 1) := by
  unfold State.idxMismatch
  extract_lets s1
  have hq : s1.quiet = (s.inc .fbIndexMisses n).quiet := State.raise_quiet _ _ _ _ _
  have hw : s1.w .fbIndexMisses n 0 = Word.ofNat (s.n .fbIndexMisses n + 1) := by
    rw [State.w_of_quiet hq _ _ _ rfl, State.inc, State.w_putN_same]
  have hst : s1.n .fbState n = s.n .fbState n := by
    rw [State.n_of_quiet hq _ _ _ rfl, State.inc, State.n_putN_field _ (by decide)]
  refine ⟨?_, fun h hm hm' => ?_⟩
  · split
    · rw [State.aside_w (s1.fbFault_aside n 1) _ _ _ rfl rfl, hw]
    · exact hw
  · have hmiss : s1.n .fbIndexMisses n = s.n .fbIndexMisses n + 1 := by
      rw [State.n, hw, Word.toNat_ofNat']; omega
    rw [if_pos (by omega)]
    obtain ⟨h1, h2, -, -⟩ := s1.fbFault_effect n 1 (hst.trans h) hn (by decide)
    exact ⟨h1, h2⟩

theorem State.fbIndex_eq (s : State) (n : Nat) : s.fbIndex n =
    match (s.fb n).idxAt with
    | some p =>
      if (s.fb n).idxRev then s.fbIndexed n
      else
        let d := ((s.fb n).count - p) / fbWeight (s.n .fbKind n)
        let off := (d.natAbs : Int) - s.idxEdges n
        if off.natAbs ≤ s.n .fbIndexTol n then ((s.fbIndexed n).putN .fbIndexMisses n 0).fbFlag n 3 false
        else (s.fbIndexed n).idxMismatch n d
    | none => s.fbIndexed n := rfl

/-- What the comparison with the previous index leaves of an index that has been taken. -/
theorem State.fbIndex_keeps (s : State) (n : Nat) :
    let t := s.fbIndex n
    t.aside fbView (inFields fbIndexFields) = (s.fbIndexed n).aside fbView (inFields fbIndexFields) ∧
      (t.fb n).idxAt = ((s.fbIndexed n).fb n).idxAt ∧ (t.fb n).idxRev = ((s.fbIndexed n).fb n).idxRev ∧
      Arith.bit (t.fb n).flags 4 = Arith.bit ((s.fbIndexed n).fb n).flags 4 ∧ (t.fb n).count = ((s.fbIndexed n).fb n).count ∧
      ∀ m, m ≠ n → t.fb m = (s.fbIndexed n).fb m := by
  rw [s.fbIndex_eq n]
  generalize s.fbIndexed n = u
  have hself : ∀ t : State, t.aside fbView (inFields fbIndexFields) = u.aside fbView (inFields fbIndexFields) → t.fbs = u.fbs →
      t.aside fbView (inFields fbIndexFields) = u.aside fbView (inFields fbIndexFields) ∧ (t.fb n).idxAt = (u.fb n).idxAt ∧
      (t.fb n).idxRev = (u.fb n).idxRev ∧ Arith.bit (t.fb n).flags 4 = Arith.bit (u.fb n).flags 4 ∧ (t.fb n).count = (u.fb n).count ∧
      ∀ m, m ≠ n → t.fb m = u.fb m := fun t h hf => by
    simp only [State.fb_of_fbs hf]; exact ⟨h, trivial, trivial, trivial, trivial, fun _ _ => trivial⟩
  dsimp only
  repeat' split
  · exact hself _ rfl rfl
  · refine ⟨?_, ?_, ?_, ?_, ?_, fun m h => State.fb_fbFlag_ne _ _ _ h⟩
    · rw [State.fbFlag_aside, State.aside_putN _ _ _ _ rfl]
    · rw [State.fb_fbFlag_same]; rfl
    · rw [State.fb_fbFlag_same]; rfl
    · rw [State.fb_fbFlag_same, bit_setBit, if_neg (by decide)]; rfl
    · rw [State.fb_fbFlag_same]; rfl
  · exact hself _ (State.idxMismatch_aside _ _ _) (State.idxMismatch_fbs _ _ _)
  · exact hself _ rfl rfl

/-! ## Standstill and clears -/

theorem State.fbStill_effect (s : State) (n : Nat) :
    let t := s.fbStill n
    t.pts = s.pts ∧ t.rest = (s.withFbs t.fbs).rest ∧ (∀ m, m ≠ n → t.fb m = s.fb m) ∧ (t.fb n).still = true ∧ (t.fb n).edges = [] ∧
      (t.fb n).revs = [] ∧ (t.fb n).count = (s.fb n).count ∧ Arith.bit (t.fb n).flags 0 = true ∧ Arith.bit (t.fb n).flags 1 = false ∧
      Arith.bit (t.fb n).flags 2 = false ∧ (t.fb n).bad = (s.fb n).bad ∧ (t.fb n).missN = (s.fb n).missN ∧ (t.fb n).badN = (s.fb n).badN := by
  intro t
  have hfb : t.fb n = { s.fb n with
      still := true, edges := [], revs := [], flags := Arith.setBit (Arith.setBit (Arith.setBit (s.fb n).flags 0 true) 1 false) 2 false } := by
    simp [t, State.fbStill]
  refine ⟨rfl, by simp [t, State.fbStill, State.fbFlag, State.putFb], fun m h => ?_, ?_⟩
  · rw [show t = s.fbStill n from rfl, State.fbStill, State.fb_fbFlag_ne _ _ _ h, State.fb_fbFlag_ne _ _ _ h, State.fb_fbFlag_ne _ _ _ h,
      State.fb_putFb_ne _ _ h]
  · rw [hfb]; simp [bit_setBit]

/-- A channel that is cleared, before the event and its interrupt. -/
def State.fbCleared (s : State) (n : Nat) : State :=
  let s1 := s.putFb n { s.fb n with bad := [], missN := 0, badN := 0, condN := 0 }
  let s3 := (((s1.putN .fbState n 1).putN .fbFaultCause n 0).putN .fbIndexMisses n 0).fbStill n
  if (s.n .fbKind n = 1 ∨ s.n .fbKind n = 4) ∧ Arith.bit (s3.fb n).flags 4 then s3.fbFlag n 3 true else s3

theorem State.fbClear_eq (s : State) (n : Nat) : s.fbClear n = ((s.fbCleared n).raise 0x0406 kFb n 0).irqFire (128 + n) := rfl

theorem State.fbCleared_effect (s : State) (n : Nat) :
    let t := s.fbCleared n
    t.n .fbState n = 1 ∧ t.n .fbFaultCause n = 0 ∧ t.n .fbIndexMisses n = 0 ∧ (t.fb n).still = true ∧ (t.fb n).bad = [] ∧
      (t.fb n).missN = 0 ∧ (t.fb n).badN = 0 ∧ (t.fb n).count = (s.fb n).count ∧ (∀ m, m ≠ n → t.fb m = s.fb m) ∧ t.so = s.so ∧
      SamePoints s t [⟨.fbState, n, 0⟩, ⟨.fbFaultCause, n, 0⟩, ⟨.fbIndexMisses, n, 0⟩] := by
  unfold State.fbCleared
  extract_lets c s1 s3 t
  obtain ⟨hpts, hrest, hne, hstill, -, -, hcount, -, -, -, hbad, hmiss, hbadN⟩ :=
    (((s1.putN .fbState n 1).putN .fbFaultCause n 0).putN .fbIndexMisses n 0).fbStill_effect n
  have h1 : (((s1.putN .fbState n 1).putN .fbFaultCause n 0).putN .fbIndexMisses n 0).fb n = s1.fb n := rfl
  have hs1 : s1.fb n = { s.fb n with bad := [], missN := 0, badN := 0, condN := 0 } := State.fb_putFb_same _ _ _
  rw [h1, hs1] at hcount hbad hmiss hbadN
  have hpt : t.pts = (((s1.putN .fbState n 1).putN .fbFaultCause n 0).putN .fbIndexMisses n 0).pts := by
    simp only [t]; split
    · exact hpts
    · exact hpts
  have hn : ∀ f, t.n f n = (((s1.putN .fbState n 1).putN .fbFaultCause n 0).putN .fbIndexMisses n 0).n f n := fun f =>
    State.n_ext (by simp only [State.w, hpt])
  have hfb : (t.fb n).still = true ∧ (t.fb n).bad = [] ∧ (t.fb n).missN = 0 ∧ (t.fb n).badN = 0 ∧ (t.fb n).count = (s.fb n).count ∧
      ∀ m, m ≠ n → t.fb m = s3.fb m := by
    simp only [t]; split
    · rw [State.fb_fbFlag_same]
      exact ⟨hstill, hbad, hmiss, hbadN, hcount, fun m h => State.fb_fbFlag_ne _ _ _ h⟩
    · exact ⟨hstill, hbad, hmiss, hbadN, hcount, fun _ _ => rfl⟩
  obtain ⟨g1, g2, g3, g4, g5, g6⟩ := hfb
  refine ⟨?_, ?_, ?_, g1, g2, g3, g4, g5, fun m h => (g6 m h).trans ((hne m h).trans (s.fb_putFb_ne _ h)), ?_, ?_⟩
  · rw [hn, State.n_putN_field _ (by decide), State.n_putN_field _ (by decide), State.n_putN_same _ _ _ _ _ (by decide)]
  · rw [hn, State.n_putN_field _ (by decide), State.n_putN_same _ _ _ _ _ (by decide)]
  · rw [hn, State.n_putN_same _ _ _ _ _ (by decide)]
  · simp only [t]; split <;> rfl
  · have := ((SamePoints.put s1 .fbState n (Word.ofNat 1) 0).trans (SamePoints.put _ .fbFaultCause n (Word.ofNat 0) 0)).trans
      (SamePoints.put _ .fbIndexMisses n (Word.ofNat 0) 0)
    intro f i j h
    exact (show t.w f i j = _ by simp only [State.w, hpt]; rfl).trans (this f i j h)

/-- Settles O29: standstill by `fbStill_effect`, a wire break by `fbFault_effect`, a clear by `fbCleared_effect`, an index by what
taking it and comparing it do. -/
theorem feedbackFaultsAndIndex : Obligations.FeedbackFaultsAndIndex := by
  unfold Obligations.FeedbackFaultsAndIndex
  intro n s x
  have hv : irqValid (128 + n) = true := by fin_cases n <;> rfl
  refine ⟨fun hon hs ht => ?_, fun hon h1 h3 => ?_, fun hok => ?_, fun time hon hk hz => ?_⟩
  · obtain ⟨h1, h2, h3, h4, h5, h6, h7, h8, h9, h10, -⟩ := s.fbStill_effect n
    exact yields_if (by simp only [hon, show (s.fb n).still = false from hs, Bool.true_and, Bool.not_false, decide_eq_true_eq]; exact ht)
      ⟨h1, h2, h3, h4, h5, h6, h7, h8, h9, h10⟩
  · let u := s.putFb n { x with lowV := true }
    have hk : s.n .fbKind n = 1 ∨ s.n .fbKind n = 2 ∨ s.n .fbKind n = 3 := by omega
    refine yields_if (by rcases hk with h | h | h <;> simp [hon, h]) ⟨u.fbFault_fbs n 2, fun h => ?_, fun h => ?_, ?_⟩
    · obtain ⟨hst, hc, hr, hp⟩ := u.fbFault_effect n 2 h hv (by decide)
      exact ⟨hst, hc, hr.of_so rfl, hp⟩
    · exact (congrArg State.pts (u.fbFault_not n 2 h)).trans rfl
    · unfold State.fbFault
      split
      · exact QuietPoints.trans ((QuietPoints.putN u _ _ _ _).trans (QuietPoints.putN _ _ _ _ _))
          (QuietPoints.of_quiet ((State.irqFire_quiet _ _).trans (State.raise_quiet _ _ _ _ _)))
      · exact QuietPoints.refl _ _
  · let u := s.putN .fbClearCmd n 1
    refine yields_if hok ?_
    rw [u.fbClear_eq n]
    obtain ⟨hst, hca, hmi, h1, h2, h3, h4, h5, hne, hso, hpts⟩ := u.fbCleared_effect n
    generalize u.fbCleared n = c at hst hca hmi h1 h2 h3 h4 h5 hne hso hpts
    have hq : ((c.raise 0x0406 kFb n 0).irqFire (128 + n)).quiet = c.quiet := (State.irqFire_quiet _ _).trans (State.raise_quiet _ _ _ _ _)
    have hfb : ∀ m, ((c.raise 0x0406 kFb n 0).irqFire (128 + n)).fb m = c.fb m := State.fb_of_fbs (State.fbs_of_quiet hq)
    have hr : Raised s (c.raise 0x0406 kFb n 0) 0x0406 kFb n := State.raise_raised _ _ _ _ _ hso
    have hclear : c.n .fbClearCmd n = 1 :=
      (State.n_ext (hpts _ _ _ (by simp))).trans (s.n_putN_same _ _ _ _ (by decide))
    refine ⟨?_, ?_, ?_, ?_, ?_, ?_, ?_, ?_, ?_, ?_, State.irqFire_self _ _ hv, fun m h => (hfb m).trans (hne m h), ?_⟩
    · rw [State.n_of_quiet hq _ _ _ rfl, hclear]
    · rw [State.n_of_quiet hq _ _ _ rfl, hst]
    · rw [State.n_of_quiet hq _ _ _ rfl, hca]
    · rw [State.n_of_quiet hq _ _ _ rfl, hmi]
    · rw [hfb, h1]
    · rw [hfb, h2]
    · rw [hfb, h3]
    · rw [hfb, h4]
    · rw [hfb, h5]; rfl
    · intro a b; rw [State.irqFire_so]; exact hr a b
    · exact ((QuietPoints.putN s .fbClearCmd n 1 0).trans hpts.quiet).then fun f i j hf => State.w_of_quiet hq f i j hf
  · let a := s.advance time
    obtain ⟨hpos, hcnt, hat, hrev, hflag, hcount, hne, hpts, hw⟩ := a.fbIndexed_effect n
    obtain ⟨hua, huat, hurev, huflag, hucount, hune⟩ := a.fbIndex_keeps n
    have heq := a.fbIndex_eq n
    generalize a.fbIndexed n = b at *
    have hn : ∀ f, f ≠ .fbIndexPos → f ≠ .fbIndexCount → b.n f n = s.n f n := fun f h1 h2 => State.n_ext (hw f n h1 h2)
    refine ⟨a.fbIndex n, ?_, ?_⟩
    · refine congrArg Host.Outcome.next (if_pos ?_)
      rw [Bool.and_eq_true, Bool.and_eq_true]
      refine ⟨⟨hon, ?_⟩, ?_⟩
      · rcases hk with h | h <;> simp [h]
      · rcases hz with h | h
        · simp [show (s.advance time).n .fbZGate n = 0 from h]
        · rw [Bool.or_eq_true]; exact .inr (by rw [beq_iff_eq]; exact h)
    refine ⟨?_, ?_, huat.trans hat, hurev.trans hrev, huflag.trans hflag, hucount.trans hcount, fun h => ?_, fun p hp hr hoff => ?_,
      fun p hp hr hoff => ?_, fun m h => (hune m h).trans (hne m h), ?_⟩
    · rw [State.aside_n64 hua _ _ rfl rfl, hpos]; rfl
    · rw [State.aside_w hua _ _ _ rfl rfl, hcnt]; rfl
    · rw [heq]
      rcases h with h | h
      · rw [show (a.fb n).idxAt = none from h]; exact hw _ _ (by decide) (by decide)
      · split
        · rw [if_pos (show (a.fb n).idxRev = true from h)]; exact hw _ _ (by decide) (by decide)
        · exact hw _ _ (by decide) (by decide)
    · rw [heq, show (a.fb n).idxAt = some p from hp]
      dsimp only
      rw [if_neg (by simp [show (a.fb n).idxRev = false from hr])]
      refine (congrArg (fun z : State => z.n .fbIndexMisses n) (if_pos hoff)).trans ?_
      exact State.n_putN_same _ _ _ _ _ (by decide)
    · rw [heq, show (a.fb n).idxAt = some p from hp]
      dsimp only
      rw [if_neg (by simp [show (a.fb n).idxRev = false from hr])]
      have hoff' : ¬(((((a.fb n).count - p) / fbWeight (a.n .fbKind n)).natAbs : Int) - a.idxEdges n).natAbs ≤ a.n .fbIndexTol n :=
        Nat.not_le.2 hoff
      rw [if_neg hoff']
      obtain ⟨hmis, hfault⟩ := b.idxMismatch_effect n (((a.fb n).count - p) / fbWeight (a.n .fbKind n)) hv
      rw [hn _ (by decide) (by decide), hn _ (by decide) (by decide)] at hfault
      rw [hn _ (by decide) (by decide)] at hmis
      exact ⟨hmis, hfault⟩
    · exact QuietFields.mono (QuietFields.trans (s := s) (show QuietFields s b _ from hpts) (QuietFields.of_aside hua)) (by decide)

end Sys2Proof.Machine
end

section
/-!
SUPPORT. Proofs/CrowdedOffices.lean: refutations by a full sorting office. `Raised` leaves room for one report beside the event's own. An
event that is a trigger code of the journal brings one report of its capture with it (R389), so a command that raises a further event may
close the first one's postmark early (R486).
-/
namespace Sys2Proof.Machine

/-- A sorting office with 62 open postmarks, and one event code that triggers captures. -/
def State.crowded (s : State) (code : Nat) : State :=
  (s.withSo { s.so with opened := (List.range 62).map guardMark, taken := 62 }).putN .jrnTrigCode 0 code

theorem State.crowded_room (s : State) (code : Nat) : (s.crowded code).so.taken < 256 ∧ (s.crowded code).so.opened.length < 63 := by
  simp [State.crowded]

/-- A step that raised an event left it in an open postmark of such a sorting office. -/
theorem State.crowded_raised {s t : State} {code c k i : Nat} (h : Raised (s.crowded code) t c k i) : Postmarked t.so.opened c k i :=
  h (s.crowded_room code).1 (s.crowded_room code).2

/-! ## A bad SSI frame whose substitute passes a compare value (R234, R247) -/

/-- Channel 0 is an SSI channel at count 5 whose last valid position is 0; compare unit 0 watches it for the value 0. -/
def ssiComparing : State :=
  let s := (((((deadLetterTriggers.putN .fbKind 0 2).putN .fbState 0 1).putN .fbSsiErrBit 0 0).putN .cmpEnable 0 1).putN .cmpState 0 1).putN
    .cmpDir 0 3
  (s.putFb 0 { Fb.init with count := 5, waits := false }).crowded 0x0404

theorem ssiComparing_takes : ssiComparing.fbOn 0 = true ∧ ssiComparing.n .fbKind 0 = 2 ∧ (ssiComparing.fb 0).ssiGot = false ∧
    ssiComparing.clk.phase = 0 ∧
    ssiComparing.ssiInvalid 0 1 (ssiComparing.ssiDiff 0 ((ssiComparing.fb 0).ssiLast.getD 0) (ssiComparing.ssiField 0 1)).1
      (ssiComparing.fb 0).ssiLast.isNone = true := by decide +kernel

/-- The frame with its error bit set opens the 63rd postmark, the capture that it triggers the 64th (0x0B02), and the compare unit that
the substitute fires closes the earliest, that of the frame. -/
theorem ssiComparing_closesEarly : ∃ t, exec (.ssiFrame 0 1 true) ssiComparing = .next t ∧
    ¬∃ p ∈ t.so.opened, p.code = 0x0404 ∧ p.kind = kFb ∧ 0 ∈ p.idxs := by
  refine ⟨_, rfl, ?_⟩
  decide +kernel

/-- Refutes O30 in its clause `Raised s t 0x0404 kFb n`: with 62 postmarks open, a bad frame reports itself and a capture, and the
compare unit that its substitute position fires closes the frame's postmark. -/
theorem not_ssiFramesGiveTheSample : ¬ Obligations.SsiFramesGiveTheSample := by
  unfold Obligations.SsiFramesGiveTheSample
  intro h
  obtain ⟨hon, hkind, hgot, hphase, hbad⟩ := ssiComparing_takes
  obtain ⟨u, hu, hnot⟩ := ssiComparing_closesEarly
  obtain ⟨t, ht, -, -, -, hinvalid, -⟩ := h 0 1 ssiComparing hon hkind hgot hphase
  obtain rfl : u = t := Host.Outcome.next.inj (hu.symm.trans ht)
  obtain ⟨-, -, -, -, hraised⟩ := hinvalid hbad
  exact hnot (State.crowded_raised hraised)

end Sys2Proof.Machine
end

section
/-!
SUPPORT. Proofs/AuxBridges.lean: what entering a state does to an auxiliary bridge and to the others, faults with their phase-to-phase
shorts, tries, retries and precharge (sections 9.3 to 9.5).
-/
namespace Sys2Proof.Machine

/-! ## A bridge enters a state -/

@[simp] theorem State.br_putBr_same (s : State) (n : Nat) (x : Br) : (s.putBr n x).br n = x := by simp [State.br, State.putBr]
theorem State.br_putBr_ne (s : State) {n m : Nat} (x : Br) (h : m ≠ n) : (s.putBr n x).br m = s.br m := by
  simp [State.br, State.putBr, Tab.get_put_ne _ _ _ h]
theorem State.br_of_brs {s t : State} (h : t.brs = s.brs) (n : Nat) : t.br n = s.br n := by simp only [State.br, h]

/-- The points that a change of state writes. -/
def auxStateFields : List Field := [.auxState, .auxCause, .vauxChopState]

/-- All records but those of the bridges and of VAUX. -/
def auxView (r : State) : State := (r.withBrs []).withVaux State.reset.vaux

theorem auxView_putBr (s : State) (n : Nat) (x : Br) : auxView (s.putBr n x).rest = auxView s.rest := by simp [auxView, State.putBr]
theorem auxView_withVaux (s : State) (v : Vaux) : auxView (s.withVaux v).rest = auxView s.rest := by
  simp only [auxView, State.withVaux_rest]; rfl

theorem clk_of_auxView {s t : State} (h : auxView t.rest = auxView s.rest) : t.clk = s.clk := (congrArg State.clk h :)

section
variable {p : Pt → Bool}

theorem State.putBr_aside (s : State) (n : Nat) (x : Br) : (s.putBr n x).aside auxView p = s.aside auxView p :=
  State.aside_record (auxView_putBr s n x) rfl
theorem State.withVaux_aside (s : State) (v : Vaux) : (s.withVaux v).aside auxView p = s.aside auxView p :=
  State.aside_record (auxView_withVaux s v) rfl

end

@[simp] theorem State.setBr_brs (s : State) (n st : Nat) (x : Br) : (s.setBr n st x).brs = (s.putBr n x).brs := by
  unfold State.setBr
  dsimp only
  repeat' split
  · rfl
  · rw [State.irqFire_brs]; rfl
  · rfl

@[simp] theorem State.setBr_br_same (s : State) (n st : Nat) (x : Br) : (s.setBr n st x).br n = x :=
  (State.br_of_brs (s.setBr_brs n st x) n).trans (s.br_putBr_same n x)
theorem State.setBr_br_ne (s : State) {n m : Nat} (st : Nat) (x : Br) (h : m ≠ n) : (s.setBr n st x).br m = s.br m :=
  (State.br_of_brs (s.setBr_brs n st x) m).trans (s.br_putBr_ne x h)

@[simp] theorem State.setBr_so (s : State) (n st : Nat) (x : Br) : (s.setBr n st x).so = s.so := by
  unfold State.setBr
  dsimp only
  repeat' split
  · rfl
  · rw [State.irqFire_so]; rfl
  · rfl

@[simp] theorem State.setBr_vaux (s : State) (n st : Nat) (x : Br) : (s.setBr n st x).vaux = s.vaux := by
  unfold State.setBr
  dsimp only
  repeat' split
  · rfl
  · rw [State.irqFire_vaux]; rfl
  · rfl

theorem State.setBr_aside (s : State) (n st : Nat) (x : Br) :
    (s.setBr n st x).aside auxView (inFields auxStateFields) = s.aside auxView (inFields auxStateFields) := by
  unfold State.setBr
  dsimp only
  repeat' split
  · rw [State.aside_putN _ _ _ _ rfl, State.putBr_aside]
  · rw [State.aside_of_quiet (State.irqFire_quiet _ _), State.aside_putN _ _ _ _ rfl, State.aside_putN _ _ _ _ rfl, State.putBr_aside]
  · rw [State.aside_putN _ _ _ _ rfl, State.aside_putN _ _ _ _ rfl, State.putBr_aside]

theorem State.setBr_n (s : State) (n st : Nat) (x : Br) (f : Field) (i : Nat) (hf : fieldReports f = false)
    (h : auxStateFields.contains f = false) : (s.setBr n st x).n f i = s.n f i := State.aside_n (s.setBr_aside n st x) f i 0 hf h

@[simp] theorem State.setBr_now (s : State) (n st : Nat) (x : Br) : (s.setBr n st x).now = s.now :=
  congrArg Clock.now (clk_of_auxView (State.aside_rest (s.setBr_aside n st x)))

/-- The points of the bridge that enters a state, and those of the others. -/
theorem State.setBr_points (s : State) (n st : Nat) (x : Br) (h : st < 2 ^ 32) :
    (s.setBr n st x).brState n = st ∧ (∀ m, m ≠ n → (s.setBr n st x).brState m = s.brState m) ∧
      (n ≠ 12 → x.cause < 2 ^ 32 → (s.setBr n st x).n .auxCause n = x.cause) := by
  have hbody : ∀ t : State, t.quiet = (((s.putBr n x).putN .auxState n st).putN .auxCause n x.cause).quiet → n ≠ 12 →
      t.brState n = st ∧ (∀ m, m ≠ n → t.brState m = s.brState m) ∧ (n ≠ 12 → x.cause < 2 ^ 32 → t.n .auxCause n = x.cause) := by
    intro t hq hn
    have hst : t.n .auxState n = st := by
      rw [State.n_of_quiet hq _ _ _ rfl, State.n_putN_field _ (by decide), State.n_putN_same _ _ _ _ _ h]
    refine ⟨by simpa [State.brState, hn] using hst, fun m hm => ?_, fun _ hc => ?_⟩
    · simp only [State.brState]
      split
      · rw [State.n_of_quiet hq _ _ _ rfl, State.n_putN_field _ (by decide), State.n_putN_field _ (by decide)]; rfl
      · rw [State.n_of_quiet hq _ _ _ rfl, State.n_putN_field _ (by decide)]
        exact State.n_ext (State.w_put_ne _ _ (by simp [hm]))
    · rw [State.n_of_quiet hq _ _ _ rfl, State.n_putN_same _ _ _ _ _ hc]
  unfold State.setBr
  dsimp only
  repeat' split
  · next hn =>
    subst hn
    refine ⟨by simpa [State.brState] using State.n_putN_same _ _ _ _ _ h, fun m hm => ?_, fun h => absurd rfl h⟩
    simp only [State.brState, hm, if_false]
    rw [State.n_putN_field _ (by decide)]; rfl
  · next hn _ => exact hbody _ (State.irqFire_quiet _ _) hn
  · next hn _ => exact hbody _ rfl hn

theorem State.setBr_state_same (s : State) (n : Nat) {st : Nat} (x : Br) (h : st < 2 ^ 32) : (s.setBr n st x).brState n = st :=
  (s.setBr_points n st x h).1
theorem State.setBr_state_ne (s : State) {n m : Nat} {st : Nat} (x : Br) (h : st < 2 ^ 32) (hm : m ≠ n) :
    (s.setBr n st x).brState m = s.brState m := (s.setBr_points n st x h).2.1 m hm

/-- Leaving Ready fires the bridge's source. -/
theorem State.setBr_fires (s : State) (n st : Nat) (x : Br) (hn : n ≠ 12) (hv : irqValid (113 + n) = true) (ho : s.brState n = 2)
    (hs : st ≠ 2) : ((s.setBr n st x).src (113 + n)).pend = true := by
  unfold State.setBr
  dsimp only
  rw [if_neg hn, if_pos ⟨ho, hs⟩]
  exact State.irqFire_self _ _ hv

theorem State.brState_of_quiet {s t : State} (h : t.quiet = s.quiet) (n : Nat) : t.brState n = s.brState n := by
  simp only [State.brState, State.n_of_quiet h _ _ _ (show fieldReports .vauxChopState = false from rfl),
    State.n_of_quiet h _ _ _ (show fieldReports .auxState = false from rfl)]

theorem State.brState_bridge (s : State) {n : Nat} (h : n ≠ 12) : s.brState n = s.n .auxState n := if_neg h

theorem auxNo_ne_chopper (b : AuxNo) : b.val ≠ 12 := by have := b.isLt; omega

theorem auxNo_irqValid (b : AuxNo) : irqValid (113 + b) = true := by fin_cases b <;> rfl

/-! ## Axes -/

theorem State.bridgesOf_congr {s t : State} (h : ∀ a, t.n .axisKind a = s.n .axisKind a) (a : Nat) : t.bridgesOf a = s.bridgesOf a := by
  simp only [State.bridgesOf, h]

theorem State.axisOf_congr {s t : State} (h : ∀ a, t.n .axisKind a = s.n .axisKind a) (n : Nat) : t.axisOf n = s.axisOf n := by
  simp only [State.axisOf, State.bridgesOf_congr h]

/-- A new fault of a bridge leaves the earlier one that may make it a short. -/
theorem State.shortWith_congr {s t : State} {n : Nat} (h : ∀ a, t.n .axisKind a = s.n .axisKind a) (hb : ∀ m, m ≠ n → t.br m = s.br m)
    (hn : t.now = s.now) : t.shortWith n = s.shortWith n := by
  simp only [State.shortWith, State.axisOf_congr h, State.bridgesOf_congr h, hn]
  split
  · congr 1
    funext m
    by_cases hm : m = n
    · simp [hm]
    · rw [hb m hm]
  · rfl

/-! ## Faults -/

/-- A single fault of a bridge, before the axis is looked at (R289). -/
def State.auxFaulted (s : State) (n cause : Nat) : State :=
  ((s.setBr n 3 { s.br n with faultAt := s.now, pending := true, retry := true, fault := cause }).raise (auxFaultEvent n cause).1 kAux
    (auxCfg n) (auxFaultEvent n cause).2).inc .auxTripsTotal n

theorem State.auxFault_bridge (s : State) (n cause : Nat) (hn : n ≠ 12) : s.auxFault n cause =
    match (s.auxFaulted n cause).shortWith n, (s.auxFaulted n cause).axisOf n with
    | some m, some a => (s.auxFaulted n cause).phaseShort a m n
    | _, _ => s.auxFaulted n cause := by
  unfold State.auxFault
  simp only [if_neg hn]
  change (match (s.auxFaulted n cause).shortWith n, (s.auxFaulted n cause).axisOf n with
    | some m, some a => (s.auxFaulted n cause).phaseShort a m n
    | _, _ => s.auxFaulted n cause) = _
  rfl

/-- The points of a single fault. -/
def auxFaultFields : List Field := .auxTripsTotal :: auxStateFields

theorem State.auxFaulted_aside (s : State) (n cause : Nat) :
    (s.auxFaulted n cause).aside auxView (inFields auxFaultFields) = s.aside auxView (inFields auxFaultFields) := by
  unfold State.auxFaulted
  rw [State.aside_inc _ _ _ rfl, State.aside_of_quiet (State.raise_quiet _ _ _ _ _)]
  exact State.aside_fields_mono (s.setBr_aside _ _ _) (List.subset_cons_self _ _)

theorem State.auxFaulted_brs (s : State) (n cause : Nat) : (s.auxFaulted n cause).brs =
    (s.putBr n { s.br n with faultAt := s.now, pending := true, retry := true, fault := cause }).brs := by
  unfold State.auxFaulted
  rw [State.inc_brs, State.raise_brs, State.setBr_brs]

theorem State.auxFaulted_short (s : State) (n cause : Nat) : (s.auxFaulted n cause).shortWith n = s.shortWith n ∧
    (s.auxFaulted n cause).axisOf n = s.axisOf n ∧ ∀ a, (s.auxFaulted n cause).bridgesOf a = s.bridgesOf a := by
  have hk : ∀ a, (s.auxFaulted n cause).n .axisKind a = s.n .axisKind a := fun a => State.aside_n (s.auxFaulted_aside n cause) _ _ _ rfl rfl
  have hb : ∀ m, m ≠ n → (s.auxFaulted n cause).br m = s.br m := fun m hm =>
    (State.br_of_brs (s.auxFaulted_brs n cause) m).trans (s.br_putBr_ne _ hm)
  have hnow : (s.auxFaulted n cause).now = s.now :=
    congrArg Clock.now (clk_of_auxView (State.aside_rest (s.auxFaulted_aside n cause)))
  exact ⟨State.shortWith_congr hk hb hnow, State.axisOf_congr hk n, State.bridgesOf_congr hk⟩

/-- What a single fault does to its bridge. -/
theorem State.auxFaulted_effect (s : State) (b : AuxNo) (cause : Nat) (h1 : 1 ≤ cause) (h4 : cause ≤ 4) :
    let t := s.auxFaulted b cause
    t.n .auxState b = 3 ∧ t.n .auxCause b = cause ∧
    t.br b = { s.br b with faultAt := s.now, pending := true, retry := true, fault := cause } ∧
    t.w .auxTripsTotal b 0 = Word.ofNat (s.n .auxTripsTotal b + 1) ∧ Raised s t (auxFaultEvent b cause).1 kAux b ∧
    (s.n .auxState b = 2 → (t.src (113 + b)).pend = true) ∧ (∀ m, m ≠ b.val → t.br m = s.br m) := by
  have hb := auxNo_ne_chopper b
  let x : Br := { s.br b with faultAt := s.now, pending := true, retry := true, fault := cause }
  have hcause : x.cause = cause := by simp only [Br.cause, x]; rw [if_pos (by omega)]
  obtain ⟨hst, -, hca⟩ := s.setBr_points b 3 x (by decide)
  rw [State.brState_bridge _ hb] at hst
  have hbrs := s.auxFaulted_brs b cause
  have hcfg : auxCfg b = b := if_neg hb
  refine ⟨?_, ?_, ?_, ?_, ?_, fun h => ?_, fun m hm => ?_⟩
  · rw [State.auxFaulted, State.inc, State.n_putN_field _ (by decide), State.raise_n _ _ _ _ _ _ _ _ rfl]; exact hst
  · rw [State.auxFaulted, State.inc, State.n_putN_field _ (by decide), State.raise_n _ _ _ _ _ _ _ _ rfl]
    exact (hca hb (by rw [hcause]; omega)).trans hcause
  · exact (State.br_of_brs hbrs b).trans (State.br_putBr_same _ _ _)
  · rw [State.auxFaulted, State.inc, State.w_putN_same, State.raise_n _ _ _ _ _ _ _ _ rfl, State.setBr_n _ _ _ _ _ _ rfl rfl]
  · rw [State.auxFaulted, hcfg]
    intro p q
    exact State.raise_raised (s := s) _ _ _ _ _ (s.setBr_so _ _ _) p q
  · have h2 : s.brState b = 2 := by rw [State.brState_bridge _ hb, h]
    have hf : (s.setBr b 3 x).fired (113 + b) := s.setBr_fires b 3 x hb (auxNo_irqValid b) h2 (by decide)
    exact State.raise_fired _ _ (auxFaultEvent b cause).1 kAux (auxCfg b) (auxFaultEvent b cause).2 hf
  · exact (State.br_of_brs hbrs m).trans (State.br_putBr_ne _ _ hm)

/-! ## Phase-to-phase shorts -/

/-- Latching the bridges of a list, one after the other. -/
theorem latchAll (l : List Nat) (s : State) :
    let t := forL l (fun b t => t.setBr b 4 { t.br b with pending := false, retry := false, fault := 5 }) s
    ∀ c, (c ∈ l → t.brState c = 4 ∧ (t.br c).fault = 5 ∧ (t.br c).pending = false ∧ (t.br c).retry = false) ∧
      (c ∉ l → t.brState c = s.brState c ∧ t.br c = s.br c) := by
  induction l generalizing s with
  | nil => exact fun c => ⟨nofun, fun _ => ⟨rfl, rfl⟩⟩
  | cons a l ih =>
    intro t c
    obtain ⟨hin, hout⟩ := ih (s.setBr a 4 { s.br a with pending := false, retry := false, fault := 5 }) c
    by_cases hl : c ∈ l
    · exact ⟨fun _ => hin hl, fun h => absurd (List.mem_cons_of_mem _ hl) h⟩
    · obtain ⟨hs, hb⟩ := hout hl
      have ht : t = forL l (fun b t => t.setBr b 4 { t.br b with pending := false, retry := false, fault := 5 })
        (s.setBr a 4 { s.br a with pending := false, retry := false, fault := 5 }) := rfl
      rw [ht]
      by_cases hc : c = a
      · subst hc
        rw [hs, hb, State.setBr_br_same, State.setBr_state_same _ _ _ (by decide)]
        exact ⟨fun _ => ⟨rfl, rfl, rfl, rfl⟩, fun h => absurd List.mem_cons_self h⟩
      · rw [hs, hb, State.setBr_br_ne _ _ _ hc, State.setBr_state_ne _ _ (by decide) hc]
        exact ⟨fun h => absurd h (by simp [hc, hl]), fun _ => ⟨rfl, rfl⟩⟩

theorem State.phaseShort_latches (s : State) (a m n : Nat) : ∀ c ∈ s.bridgesOf a, (s.phaseShort a m n).brState c = 4 ∧
    ((s.phaseShort a m n).br c).fault = 5 ∧ ((s.phaseShort a m n).br c).pending = false ∧ ((s.phaseShort a m n).br c).retry = false := by
  intro c hc
  unfold State.phaseShort
  dsimp only
  rw [State.brState_of_quiet (State.raise_quiet _ _ _ _ _), State.br_of_brs (State.raise_brs _ _ _ _ _)]
  exact (latchAll (s.bridgesOf a) s c).1 hc

/-- A fault of causes 1 to 4 at a bridge, as the statements say it (R289, R290). -/
theorem State.auxFault_faulted (s : State) (b : AuxNo) (cause : Nat) (h1 : 1 ≤ cause) (h4 : cause ≤ 4) :
    BridgeFaulted s (s.auxFault b cause) b cause := by
  rw [s.auxFault_bridge b cause (auxNo_ne_chopper b)]
  obtain ⟨hshort, haxis, hbridges⟩ := s.auxFaulted_short b cause
  rw [hshort, haxis]
  refine ⟨fun hn => ?_, fun m a hm ha c hc => ?_⟩
  · rw [hn]; exact s.auxFaulted_effect b cause h1 h4
  · rw [hm, ha]
    exact State.phaseShort_latches _ a m b c (by rw [hbridges]; exact hc)

/-- A measurement that is published first leaves what a fault looks at. -/
theorem BridgeFaulted.of_put {s t : State} {b cause i : Nat} {w : Word} (h : BridgeFaulted (s.put .auxBootV i w) t b cause) :
    BridgeFaulted s t b cause := by
  have hk : ∀ a, (s.put .auxBootV i w).n .axisKind a = s.n .axisKind a := fun a => State.n_put_field _ _ (by decide)
  obtain ⟨h1, h2⟩ := h
  rw [State.shortWith_congr hk (fun _ _ => rfl) rfl, State.n_put_field _ _ (by decide), State.n_put_field _ _ (by decide)] at h1
  refine ⟨h1, fun m a hm ha c hc => h2 m a ?_ ?_ c ?_⟩
  · rw [State.shortWith_congr hk (fun _ _ => rfl) rfl, hm]
  · rw [State.axisOf_congr hk, ha]
  · rw [State.bridgesOf_congr hk]; exact hc

end Sys2Proof.Machine
end

section
/-!
SUPPORT. Proofs/AuxStage.lean: tries, restarts, holds and clears of bridges, VAUX limits and the chopper, and the two obligations of the
auxiliary power stage (chapter 9).
-/
namespace Sys2Proof.Machine

/-! ## Tries and restarts -/

/-- The points that a restart, a try or a clear writes. -/
def auxClearFields : List Field := .auxTries :: .vauxChopTries :: auxStateFields

@[simp] theorem State.putTries_brs (s : State) (n v : Nat) : (s.putTries n v).brs = s.brs := by unfold State.putTries; split <;> rfl
@[simp] theorem State.putTries_br (s : State) (n v m : Nat) : (s.putTries n v).br m = s.br m := State.br_of_brs (s.putTries_brs n v) m
@[simp] theorem State.putTries_so (s : State) (n v : Nat) : (s.putTries n v).so = s.so := by unfold State.putTries; split <;> rfl

theorem State.putTries_same (s : State) (n : Nat) {v : Nat} (h : v < 2 ^ 32) : (s.putTries n v).brTries n = v := by
  unfold State.putTries State.brTries
  split <;> exact State.n_putN_same _ _ _ _ _ h

theorem State.putTries_ne (s : State) {n m : Nat} (v : Nat) (h : m ≠ n) : (s.putTries n v).brTries m = s.brTries m := by
  simp only [State.putTries, State.brTries]
  by_cases hn : n = 12
  · simp [hn, show m ≠ 12 from fun e => h (e.trans hn.symm)]
  · rw [if_neg hn]
    split
    · exact State.n_putN_field _ (by decide)
    · exact State.n_ext (State.w_put_ne _ _ (by simp [h]))

@[simp] theorem State.putTries_state (s : State) (n v m : Nat) : (s.putTries n v).brState m = s.brState m := by
  simp only [State.brState, State.putTries]
  by_cases hn : n = 12 <;> by_cases hm : m = 12 <;> simp [hn, hm]

theorem State.putTries_aside (s : State) (n v : Nat) {fs : List Field} (h1 : fs.contains .auxTries = true)
    (h2 : fs.contains .vauxChopTries = true) : (s.putTries n v).aside auxView (inFields fs) = s.aside auxView (inFields fs) := by
  unfold State.putTries
  split
  · exact State.aside_putN _ _ _ _ h2
  · exact State.aside_putN _ _ _ _ h1

theorem State.brTries_lt (s : State) (n : Nat) : s.brTries n < 2 ^ 32 := by unfold State.brTries; split <;> exact State.n_lt _ _ _ _

theorem State.setBr_tries (s : State) (n st : Nat) (x : Br) (m : Nat) : (s.setBr n st x).brTries m = s.brTries m := by
  simp only [State.brTries, State.setBr_n _ _ _ _ .vauxChopTries _ rfl rfl, State.setBr_n _ _ _ _ .auxTries _ rfl rfl]

/-- A unit that starts anew. -/
theorem State.brRestart_effect (s : State) (n : Nat) :
    (s.brRestart n).brState n = (if n = 12 then 2 else if (s.br n).holds = 0 then 1 else 5) ∧
      (s.brRestart n).br n = { s.br n with retry := false, fault := 0, pending := false, preAt := s.now, readyAt := s.now } ∧
      (∀ m, m ≠ n → (s.brRestart n).br m = s.br m ∧ (s.brRestart n).brState m = s.brState m) := by
  have hlt : (if n = 12 then 2 else if (s.br n).holds = 0 then 1 else 5) < 2 ^ 32 := by
    split
    · decide
    · split <;> decide
  exact ⟨s.setBr_state_same n _ hlt, s.setBr_br_same n _ _, fun m h => ⟨s.setBr_br_ne _ _ h, s.setBr_state_ne _ hlt h⟩⟩

@[simp] theorem State.brRestart_so (s : State) (n : Nat) : (s.brRestart n).so = s.so := s.setBr_so _ _ _

theorem State.brRestart_aside (s : State) (n : Nat) :
    (s.brRestart n).aside auxView (inFields auxStateFields) = s.aside auxView (inFields auxStateFields) := s.setBr_aside _ _ _

theorem State.brTries_bridge (s : State) {n : Nat} (h : n ≠ 12) : s.brTries n = s.n .auxTries n := if_neg h

theorem State.brTries_of_quiet {s t : State} (h : t.quiet = s.quiet) (n : Nat) : t.brTries n = s.brTries n := by
  simp only [State.brTries, State.n_of_quiet h _ _ _ (show fieldReports .vauxChopTries = false from rfl),
    State.n_of_quiet h _ _ _ (show fieldReports .auxTries = false from rfl)]

/-- Ten microseconds after its timestamp a fault with a try left is a try (R289). -/
theorem State.auxSettle_tries (s : State) (n : Nat) (hp : (s.br n).pending = true) (ht : (s.br n).faultAt + 10000 ≤ s.now)
    (hlt : s.brTries n < s.n .auxRetryMax (auxCfg n)) :
    ((s.auxSettle n).br n).pending = false ∧ (s.auxSettle n).brTries n = s.brTries n + 1 ∧ (s.auxSettle n).brState n = s.brState n ∧
      Raised s (s.auxSettle n) 0x0504 kAux (auxCfg n) := by
  let u := (s.putBr n { s.br n with pending := false }).putTries n (s.brTries n + 1)
  have e : s.auxSettle n = u.raise 0x0504 kAux (auxCfg n) (u.brTries n) := (if_pos ⟨hp, ht⟩).trans (if_pos hlt)
  rw [e]
  have hq : (u.raise 0x0504 kAux (auxCfg n) (u.brTries n)).quiet = u.quiet := State.raise_quiet _ _ _ _ _
  have hmax := s.n_lt .auxRetryMax (auxCfg n) 0
  refine ⟨?_, ?_, ?_, State.raise_raised _ _ _ _ _ (State.putTries_so _ _ _)⟩
  · rw [State.br_of_brs (State.brs_of_quiet hq), State.putTries_br, State.br_putBr_same]
  · rw [State.brTries_of_quiet hq]; exact State.putTries_same _ _ (by omega)
  · rw [State.brState_of_quiet hq, State.putTries_state]; rfl

/-- The others latch. -/
theorem State.auxSettle_latches (s : State) (n : Nat) (hp : (s.br n).pending = true) (ht : (s.br n).faultAt + 10000 ≤ s.now)
    (hle : s.n .auxRetryMax (auxCfg n) ≤ s.brTries n) :
    ((s.auxSettle n).br n).pending = false ∧ (s.auxSettle n).brState n = 4 ∧ ((s.auxSettle n).br n).retry = false ∧
      Raised s (s.auxSettle n) 0x0505 kAux (auxCfg n) := by
  let u := s.setBr n 4 { s.br n with pending := false, retry := false }
  have e : s.auxSettle n = u.raise 0x0505 kAux (auxCfg n) 0 := (if_pos ⟨hp, ht⟩).trans (if_neg (Nat.not_lt.2 hle))
  rw [e]
  have hq : (u.raise 0x0505 kAux (auxCfg n) 0).quiet = u.quiet := State.raise_quiet _ _ _ _ _
  have hb : (u.raise 0x0505 kAux (auxCfg n) 0).br n = { s.br n with pending := false, retry := false } := by
    rw [State.br_of_brs (State.brs_of_quiet hq), State.setBr_br_same]
  refine ⟨by rw [hb], ?_, by rw [hb], State.raise_raised _ _ _ _ _ (s.setBr_so _ _ _)⟩
  rw [State.brState_of_quiet hq, State.setBr_state_same _ _ _ (by decide)]

/-- Precharge that fails is a fault of cause 4; either way the voltage is published (R283). -/
theorem State.precharge_fails (s : State) (b : AuxNo) (v : Rat) : let t := (s.putR .auxBootV b v).auxFault b 4
    t.w .auxBootV b 0 = (entry .auxBootV).ty.enc v ∧ BridgeFaulted s t b 4 := by
  let u := s.putR .auxBootV b v
  have hu : u.w .auxBootV b 0 = (entry .auxBootV).ty.enc v := State.w_put_same _ _ _ _ _
  have hkeep : (u.auxFault b 4).aside auxView (inFields auxFaultFields) = u.aside auxView (inFields auxFaultFields) := by
    rw [u.auxFault_bridge b 4 (auxNo_ne_chopper b)]
    split
    · unfold State.phaseShort
      rw [State.aside_of_quiet (State.raise_quiet _ _ _ _ _)]
      exact (forL_keeps (fun x => x.aside auxView (inFields auxFaultFields)) _ _ _ fun c x =>
        State.aside_fields_mono (x.setBr_aside _ _ _) (List.subset_cons_self _ _)).trans (u.auxFaulted_aside b 4)
    · exact u.auxFaulted_aside b 4
  exact ⟨(State.aside_w hkeep _ _ _ rfl rfl).trans hu, BridgeFaulted.of_put (u.auxFault_faulted b 4 (by decide) (by decide))⟩

/-- Precharge that reaches 9.5 V leads to Ready. -/
theorem State.precharge_ends (s : State) (b : AuxNo) (v : Rat) :
    let u := s.putR .auxBootV b v
    let t := u.setBr b 2 { u.br b with readyAt := u.now }
    t.w .auxBootV b 0 = (entry .auxBootV).ty.enc v ∧ t.n .auxState b = 2 ∧ t.br b = { s.br b with readyAt := s.now } := by
  let u := s.putR .auxBootV b v
  have hu : u.w .auxBootV b 0 = (entry .auxBootV).ty.enc v := State.w_put_same _ _ _ _ _
  refine ⟨(State.aside_w (u.setBr_aside b 2 { u.br b with readyAt := u.now }) _ _ _ rfl rfl).trans hu, ?_, u.setBr_br_same b 2 _⟩
  exact (State.brState_bridge _ (auxNo_ne_chopper b)).symm.trans (u.setBr_state_same b _ (by decide))

theorem interAt_due (x : Option Nat) (now k : Nat) : (match x with
    | some t => decide (t + k ≤ now)
    | none => true) = x.all (fun a => decide (a + k ≤ now)) := by cases x <;> rfl

/-- Both gate commands at once: counted, and reported at most once in a second (R282). -/
theorem exec_auxInterlock (b : AuxNo) (s : State) : exec (.auxInterlock b) s = .next (
    if (s.br b).interAt.all (fun a => decide (a + 1000000000 ≤ s.now)) then
      ((s.inc .auxInterlockHits b).putBr b { s.br b with interAt := some s.now }).raise 0x0508 kAux b 0
    else s.inc .auxInterlockHits b) := by
  change execAuxInterlock b s = _
  unfold execAuxInterlock
  dsimp only
  rw [show (s.inc .auxInterlockHits b).br b = s.br b from rfl, show (s.inc .auxInterlockHits b).now = s.now from rfl]
  rw [← interAt_due] <;> rfl

theorem auxInterlock_counts (b : AuxNo) (s : State) : Yields (exec (.auxInterlock b) s) fun t =>
    t.w .auxInterlockHits b 0 = Word.ofNat (s.n .auxInterlockHits b + 1) ∧
    ((s.br b).interAt.all (fun a => decide (a + 1000000000 ≤ s.now)) = true →
      t.br b = { s.br b with interAt := some s.now } ∧ Raised s t 0x0508 kAux b) ∧
    ((s.br b).interAt.all (fun a => decide (a + 1000000000 ≤ s.now)) = false → t.brs = s.brs) ∧
    QuietPoints s t [⟨.auxInterlockHits, b, 0⟩] := by
  let u := s.inc .auxInterlockHits b
  have hu : u.w .auxInterlockHits b 0 = Word.ofNat (s.n .auxInterlockHits b + 1) := State.w_putN_same _ _ _ _ _
  refine ⟨_, exec_auxInterlock b s, ?_⟩
  cases (s.br b).interAt.all (fun a => decide (a + 1000000000 ≤ s.now)) with
  | true =>
    have hq := (u.putBr b { s.br b with interAt := some s.now }).raise_quiet 0x0508 kAux b 0
    refine ⟨(State.w_of_quiet hq _ _ _ rfl).trans hu, fun _ => ⟨?_, State.raise_raised _ _ _ _ _ rfl⟩, nofun, ?_⟩
    · exact (State.br_of_brs (State.brs_of_quiet hq) b).trans (State.br_putBr_same _ _ _)
    · exact (QuietPoints.putN s _ _ _ _).then fun f i j hf => State.w_of_quiet hq f i j hf
  | false => exact ⟨hu, nofun, fun _ => rfl, QuietPoints.putN s _ _ _ _⟩

/-- Settles O33: faults by `auxFault_faulted`, tries by `auxSettle_tries`, a restart by `brRestart_effect`. -/
theorem auxiliaryBridges : Obligations.AuxiliaryBridges := by
  unfold Obligations.AuxiliaryBridges
  refine fun s => ⟨fun b high h => ⟨?_, ?_⟩, fun b h => ?_, fun b hp ht => ?_, fun b h hr => ?_, fun b h ht => ?_, fun b mv h ht => ?_,
    fun b => auxInterlock_counts b s⟩
  · exact yields_if h (s.auxFault_faulted b _ (by cases high <;> decide) (by cases high <;> decide))
  · exact yields_if h (s.auxFault_faulted b 3 (by decide) (by decide))
  · exact yields_if h (s.auxFault_faulted b 4 (by decide) (by decide))
  · refine ⟨s.auxSettle b, rfl, ?_⟩
    rcases Nat.lt_or_ge (s.brTries b) (s.n .auxRetryMax (auxCfg b)) with hlt | hle
    · obtain ⟨h1, h2⟩ := s.auxSettle_tries b hp ht hlt
      exact ⟨h1, fun _ => h2, fun h => absurd hlt (Nat.not_lt.2 h)⟩
    · obtain ⟨h1, h2⟩ := s.auxSettle_latches b hp ht hle
      exact ⟨h1, fun h => absurd h (Nat.not_lt.2 hle), fun _ => h2⟩
  · obtain ⟨h1, h2, -⟩ := s.brRestart_effect b
    exact yields_if ⟨h, hr⟩ ⟨h1, h2⟩
  · exact yields_if ⟨h, ht⟩ ⟨s.putTries_same b (by decide), rfl⟩
  · refine yields_if ⟨h, ht⟩ ?_
    rcases Nat.lt_or_ge mv 9500 with hm | hm
    · obtain ⟨hw, hf⟩ := s.precharge_fails b ((mv : Rat) / 1000)
      rw [if_neg (Nat.not_le.2 hm)]
      exact ⟨hw, fun h => absurd hm (Nat.not_lt.2 h), fun _ => hf⟩
    · obtain ⟨hw, hr⟩ := s.precharge_ends b ((mv : Rat) / 1000)
      rw [if_pos hm]
      exact ⟨hw, fun _ => hr, fun h => absurd hm (Nat.not_le.2 h)⟩

end Sys2Proof.Machine
end

section
/-!
SUPPORT. Proofs/AuxClears.lean: clears, the holds of the whole stage, and the VAUX chopper (sections 9.5 and 9.6).
-/
namespace Sys2Proof.Machine

/-! ## Clears -/

/-- One unit restarts with no tries. -/
def State.restartOne (s : State) (n : Nat) : State := (s.brRestart n).putTries n 0

theorem State.restartOne_other (s : State) {n c : Nat} (h : c ≠ n) : (s.restartOne n).br c = s.br c ∧
    (s.restartOne n).brTries c = s.brTries c ∧ (s.restartOne n).brState c = s.brState c := by
  obtain ⟨-, -, hne⟩ := s.brRestart_effect n
  unfold State.restartOne
  rw [State.putTries_br, State.putTries_ne _ _ h, State.putTries_state]
  exact ⟨(hne c h).1, s.setBr_tries _ _ _ _, (hne c h).2⟩

theorem State.restartOne_self (s : State) (n : Nat) : ((s.restartOne n).br n).fault = 0 ∧ ((s.restartOne n).br n).holds = (s.br n).holds ∧
    (s.restartOne n).brTries n = 0 ∧ (s.restartOne n).brState n = if n = 12 then 2 else if (s.br n).holds = 0 then 1 else 5 := by
  obtain ⟨hst, hbr, -⟩ := s.brRestart_effect n
  unfold State.restartOne
  rw [State.putTries_br, State.putTries_state, hbr]
  exact ⟨rfl, rfl, State.putTries_same _ _ (by decide), hst⟩

theorem restartAll_other (l : List Nat) (s : State) (c : Nat) (h : c ∉ l) : let t := forL l (fun m t => t.restartOne m) s
    t.br c = s.br c ∧ t.brTries c = s.brTries c ∧ t.brState c = s.brState c := by
  induction l generalizing s with
  | nil => exact ⟨rfl, rfl, rfl⟩
  | cons a l ih =>
    simp only [List.mem_cons, not_or] at h
    obtain ⟨h1, h2, h3⟩ := ih (s.restartOne a) h.2
    obtain ⟨g1, g2, g3⟩ := s.restartOne_other h.1
    exact ⟨h1.trans g1, h2.trans g2, h3.trans g3⟩

/-- Restarting the units of a list with no tries. -/
theorem restartAll (l : List Nat) (s : State) (c : Nat) (h : c ∈ l) : let t := forL l (fun m t => t.restartOne m) s
    (t.br c).fault = 0 ∧ t.brTries c = 0 ∧ t.brState c = if c = 12 then 2 else if (s.br c).holds = 0 then 1 else 5 := by
  induction l generalizing s with
  | nil => exact absurd h (by simp)
  | cons a l ih =>
    have hholds : ((s.restartOne a).br c).holds = (s.br c).holds := by
      by_cases hca : c = a
      · subst hca; exact (s.restartOne_self c).2.1
      · rw [(s.restartOne_other hca).1]
    by_cases hcl : c ∈ l
    · obtain ⟨h1, h2, h3⟩ := ih (s.restartOne a) hcl
      exact ⟨h1, h2, h3.trans (by rw [hholds])⟩
    · obtain rfl : c = a := (List.mem_cons.1 h).resolve_right hcl
      obtain ⟨h1, h2, h3⟩ := restartAll_other l (s.restartOne c) c hcl
      obtain ⟨g1, -, g2, g3⟩ := s.restartOne_self c
      exact ⟨(congrArg Br.fault h1).trans g1, h2.trans g2, h3.trans g3⟩

theorem restartAll_so (l : List Nat) (s : State) : (forL l (fun m t => t.restartOne m) s).so = s.so :=
  forL_keeps (fun x => x.so) l _ s fun n x => (State.putTries_so _ _ _).trans (x.brRestart_so n)

theorem State.brState_putN (s : State) {f : Field} {i v j : Nat} (m : Nat) (h1 : f ≠ .auxState) (h2 : f ≠ .vauxChopState) :
    (s.putN f i v j).brState m = s.brState m := by
  simp only [State.brState, State.n_putN_field s (Ne.symm h1), State.n_putN_field s (Ne.symm h2)]

/-- The units that a clear restarts: after a phase-to-phase short every bridge of the axis (R291). -/
def State.clearGroup (s : State) (n : Nat) : List Nat :=
  match s.axisOf n with
  | some a => if s.brState n = 4 ∧ (s.br n).fault = 5 ∧ n ≠ 12 then s.bridgesOf a else [n]
  | none => [n]

theorem State.auxClear_eq (s : State) (n : Nat) (h : s.brState n = 3 ∨ s.brState n = 4) : s.auxClear n =
    (forL (s.clearGroup n) (fun m t => t.restartOne m) s).raise 0x0507 kAux (auxCfg n) 0 := if_pos h

theorem State.clearGroup_self (s : State) (n : Nat) (h : ¬(s.brState n = 4 ∧ (s.br n).fault = 5 ∧ n ≠ 12)) : s.clearGroup n = [n] := by
  unfold State.clearGroup
  split
  · exact if_neg h
  · rfl

/-- What a clear leaves of a unit that it restarts, and of the others. -/
theorem State.auxClear_effect (s : State) (n : Nat) (h : s.brState n = 3 ∨ s.brState n = 4) :
    (∀ c, (c ∈ s.clearGroup n → ((s.auxClear n).br c).fault = 0 ∧ (s.auxClear n).brTries c = 0 ∧
        (s.auxClear n).brState c = if c = 12 then 2 else if (s.br c).holds = 0 then 1 else 5) ∧
      (c ∉ s.clearGroup n → (s.auxClear n).br c = s.br c)) ∧ Raised s (s.auxClear n) 0x0507 kAux (auxCfg n) := by
  rw [s.auxClear_eq n h]
  have hall := restartAll (s.clearGroup n) s
  have hother := restartAll_other (s.clearGroup n) s
  have hso := restartAll_so (s.clearGroup n) s
  generalize forL (s.clearGroup n) _ s = u at hall hother hso
  have hq := u.raise_quiet 0x0507 kAux (auxCfg n) 0
  refine ⟨fun c => ⟨fun hc => ?_, fun hc => ?_⟩, State.raise_raised _ _ _ _ _ hso⟩
  · rw [State.br_of_brs (State.brs_of_quiet hq), State.brTries_of_quiet hq, State.brState_of_quiet hq]; exact hall c hc
  · rw [State.br_of_brs (State.brs_of_quiet hq)]; exact (hother c hc).1

theorem State.auxClear_not (s : State) (n : Nat) (h3 : s.brState n ≠ 3) (h4 : s.brState n ≠ 4) : s.auxClear n = s :=
  if_neg (by simp [h3, h4])

/-- A clear writes states and tries only. -/
theorem State.auxClear_aside (s : State) (n : Nat) :
    (s.auxClear n).aside auxView (inFields auxClearFields) = s.aside auxView (inFields auxClearFields) := by
  by_cases h : s.brState n = 3 ∨ s.brState n = 4
  · rw [s.auxClear_eq n h, State.aside_of_quiet (State.raise_quiet _ _ _ _ _)]
    refine forL_keeps (fun x => x.aside auxView (inFields auxClearFields)) _ _ _ fun c x => ?_
    rw [State.restartOne, State.putTries_aside _ _ _ rfl rfl]
    exact State.aside_fields_mono (x.brRestart_aside c) (by decide)
  · rw [not_or] at h
    rw [s.auxClear_not n h.1 h.2]

/-! ## Holds of the whole stage -/

/-- A bridge that cause 7 holds: Held or Latched, with its bit. -/
def State.heldBy7 (s : State) (n : Nat) : Prop := (s.n .auxState n = 4 ∨ s.n .auxState n = 5) ∧ Arith.bit (s.br n).holds 7 = true

theorem State.heldBy7_congr {s t : State} {n : Nat} (h : s.heldBy7 n) (hs : t.n .auxState n = s.n .auxState n) (hb : t.br n = s.br n) :
    t.heldBy7 n := by unfold State.heldBy7; rw [hs, hb]; exact h

theorem State.setBr_auxState_ne (s : State) {n m st : Nat} (x : Br) (h : st < 2 ^ 32) (hm : m ≠ n) (h12 : m ≠ 12) :
    (s.setBr n st x).n .auxState m = s.n .auxState m := by
  rw [← State.brState_bridge _ h12, ← State.brState_bridge _ h12]; exact s.setBr_state_ne x h hm

/-- A hold leaves the other bridges. -/
theorem State.auxHold_other (s : State) {n m : Nat} (c : Nat) (hm : m ≠ n) (h12 : m ≠ 12) :
    (s.auxHold n c).br m = s.br m ∧ (s.auxHold n c).n .auxState m = s.n .auxState m := by
  unfold State.auxHold
  dsimp only
  repeat' split
  · exact ⟨s.br_putBr_ne _ hm, rfl⟩
  · exact ⟨s.br_putBr_ne _ hm, State.n_putN_field _ (by decide)⟩
  · exact ⟨s.setBr_br_ne _ _ hm, s.setBr_auxState_ne _ (by decide) hm h12⟩

/-- Its own bridge is Held, or stays Latched, with the cause's bit added. -/
theorem State.auxHold_self (s : State) {n : Nat} (c : Nat) (h12 : n ≠ 12) (h0 : s.n .auxState n ≠ 0) :
    ((s.auxHold n c).n .auxState n = 4 ∨ (s.auxHold n c).n .auxState n = 5) ∧
      ((s.auxHold n c).br n).holds = Arith.setBit (s.br n).holds c true := by
  have hs := s.brState_bridge h12
  unfold State.auxHold
  dsimp only
  rw [if_neg (by rw [hs]; exact h0)]
  split
  · next h4 =>
    refine ⟨.inl ((State.n_putN_field _ (by decide)).trans ?_), ?_⟩
    · rw [hs] at h4; exact h4
    · exact congrArg Br.holds (s.br_putBr_same n _)
  · refine ⟨.inr ?_, by rw [State.setBr_br_same]⟩
    rw [← State.brState_bridge _ h12]; exact s.setBr_state_same n _ (by decide)

theorem State.auxHold_keeps7 (s : State) (n c m : Nat) (hc : c ≠ 7) (h12 : m ≠ 12) (h : s.heldBy7 m) : (s.auxHold n c).heldBy7 m := by
  by_cases hm : m = n
  · subst hm
    obtain ⟨hst, hh⟩ := s.auxHold_self c h12 (by rcases h.1 with h | h <;> rw [h] <;> decide)
    exact ⟨hst, by rw [hh, bit_setBit, if_neg (Ne.symm hc)]; exact h.2⟩
  · obtain ⟨hb, hs⟩ := s.auxHold_other c hm h12
    exact State.heldBy7_congr h hs hb

theorem bit_zero (k : Nat) : Arith.bit 0 k = false := by simp [Arith.bit]

theorem State.auxRelease_keeps7 (s : State) (n c m : Nat) (hc : c ≠ 7) (h12 : m ≠ 12) (h : s.heldBy7 m) :
    (s.auxRelease n c).heldBy7 m := by
  unfold State.auxRelease
  extract_lets b x s1
  by_cases hm : m = n
  · subst hm
    have hbit : Arith.bit x.holds 7 = true := by simp only [x, bit_setBit, if_neg (Ne.symm hc)]; exact h.2
    have hx : x.holds ≠ 0 := fun e => by rw [e, bit_zero] at hbit; cases hbit
    rw [if_neg fun e => hx e.2]
    have hb : s1.br m = x := s.br_putBr_same m x
    exact ⟨by rw [show s1.n .auxState m = s.n .auxState m from State.n_putN_field _ (by decide)]; exact h.1, by rw [hb]; exact hbit⟩
  · have h1 : s1.heldBy7 m := State.heldBy7_congr h (State.n_putN_field _ (by decide)) (s.br_putBr_ne x hm)
    repeat' split
    · exact State.heldBy7_congr h1 (s1.setBr_auxState_ne _ (by decide) hm h12) (s1.setBr_br_ne _ _ hm)
    · obtain ⟨hb, hs⟩ := (s1.brRestart_effect n).2.2 m hm
      rw [State.brState_bridge _ h12, State.brState_bridge _ h12] at hs
      exact State.heldBy7_congr h1 hs hb
    · exact h1

theorem State.heldBy7_of_quiet {s t : State} {n : Nat} (h : s.heldBy7 n) (hq : t.quiet = s.quiet) : t.heldBy7 n :=
  State.heldBy7_congr h (State.n_of_quiet hq _ _ _ rfl) (State.br_of_brs (State.brs_of_quiet hq) n)

/-- The other causes of the stage leave what cause 7 holds. -/
theorem State.stageHold_keeps7 (s : State) (c code : Nat) (on : Bool) (m : Nat) (hc : c ≠ 7) (h12 : m ≠ 12) (h : s.heldBy7 m) :
    (s.stageHold c code on).heldBy7 m := by
  have hall : ∀ (f : Nat → Nat → State → State), (∀ a t, t.heldBy7 m → (f a c t).heldBy7 m) → ∀ (l : List Nat) (t : State),
      t.heldBy7 m → (forL l (fun n t => f n c t) t).heldBy7 m := fun f hf l => by
    induction l with
    | nil => exact fun t h => h
    | cons a l ih => exact fun t h => ih _ (hf a t h)
  unfold State.stageHold
  repeat' split
  · exact h
  · dsimp only
    refine State.heldBy7_of_quiet ?_ ((State.irqFire_quiet _ _).trans (State.raise_quiet _ _ _ _ _))
    exact hall (fun n c t => t.auxHold n c) (fun a t h => t.auxHold_keeps7 a c m hc h12 h) _ _ h
  · exact hall (fun n c t => t.auxRelease n c) (fun a t h => t.auxRelease_keeps7 a c m hc h12 h) _ _ h

/-- Holding the bridges of a list by cause 7. -/
theorem holdAll7 (l : List Nat) (s : State) (m : Nat) (hm : m ∈ l) (h12 : m ≠ 12) (h0 : s.n .auxState m ≠ 0) :
    (forL l (fun n t => t.auxHold n 7) s).heldBy7 m := by
  -- once held, a bridge stays so under further holds
  have hself : ∀ t : State, t.n .auxState m ≠ 0 → (t.auxHold m 7).heldBy7 m := fun t h => by
    obtain ⟨hst, hh⟩ := t.auxHold_self 7 h12 h
    exact ⟨hst, by rw [hh, bit_setBit_same]⟩
  have hkeep : ∀ (l : List Nat) (t : State), t.heldBy7 m → (forL l (fun n t => t.auxHold n 7) t).heldBy7 m := fun l => by
    induction l with
    | nil => exact fun t h => h
    | cons a l ih =>
      refine fun t h => ih _ ?_
      by_cases ha : m = a
      · subst ha; exact hself t (by rcases h.1 with h | h <;> rw [h] <;> decide)
      · obtain ⟨hb, hs⟩ := t.auxHold_other 7 ha h12
        exact State.heldBy7_congr h hs hb
  induction l generalizing s with
  | nil => exact absurd hm (by simp)
  | cons a l ih =>
    by_cases ha : m = a
    · subst ha; exact hkeep l _ (hself s h0)
    · refine ih (s.auxHold a 7) ((List.mem_cons.1 hm).resolve_left ha) ?_
      rw [(s.auxHold_other 7 ha h12).2]; exact h0

theorem State.stageHold_holds7 (s : State) (code : Nat) (hb : Arith.bit s.vaux.holds 7 = false) (m : Nat) (hm : m ∈ s.bridges) :
    (s.stageHold 7 code true).heldBy7 m := by
  simp only [State.bridges, List.mem_filter, List.mem_range, bne_iff_ne] at hm
  unfold State.stageHold
  rw [if_neg (by simp [hb])]
  dsimp only
  rw [if_pos rfl]
  refine State.heldBy7_of_quiet ?_ ((State.irqFire_quiet _ _).trans (State.raise_quiet _ _ _ _ _))
  exact holdAll7 _ _ m (by simp only [State.bridges, List.mem_filter, List.mem_range, bne_iff_ne]; exact hm) (by omega) hm.2

theorem State.auxHold_aside (s : State) (n c : Nat) :
    (s.auxHold n c).aside auxView (inFields auxStateFields) = s.aside auxView (inFields auxStateFields) := by
  unfold State.auxHold
  dsimp only
  repeat' split
  · exact s.putBr_aside _ _
  · rw [State.aside_putN _ _ _ _ rfl, State.putBr_aside]
  · exact s.setBr_aside _ _ _

theorem State.auxRelease_aside (s : State) (n c : Nat) :
    (s.auxRelease n c).aside auxView (inFields auxStateFields) = s.aside auxView (inFields auxStateFields) := by
  unfold State.auxRelease
  extract_lets b x s1
  have h1 : s1.aside auxView (inFields auxStateFields) = s.aside auxView (inFields auxStateFields) := by
    rw [State.aside_putN _ _ _ _ rfl, State.putBr_aside]
  repeat' split
  · rw [State.setBr_aside, h1]
  · rw [State.brRestart_aside, h1]
  · exact h1

theorem State.auxHold_vaux (s : State) (n c : Nat) : (s.auxHold n c).vaux = s.vaux := by
  unfold State.auxHold
  dsimp only
  repeat' split
  · rfl
  · rfl
  · exact s.setBr_vaux _ _ _

theorem State.auxRelease_vaux (s : State) (n c : Nat) : (s.auxRelease n c).vaux = s.vaux := by
  unfold State.auxRelease
  extract_lets b x s1
  repeat' split
  · exact s1.setBr_vaux _ _ _
  · exact s1.setBr_vaux _ _ _
  · rfl

theorem State.stageHold_aside (s : State) (c code : Nat) (on : Bool) :
    (s.stageHold c code on).aside auxView (inFields auxStateFields) = s.aside auxView (inFields auxStateFields) := by
  unfold State.stageHold
  repeat' split
  · rfl
  · dsimp only
    rw [State.aside_of_quiet (State.irqFire_quiet _ _), State.aside_of_quiet (State.raise_quiet _ _ _ _ _)]
    exact (forL_keeps (fun x => x.aside auxView (inFields auxStateFields)) _ _ _ fun n x => x.auxHold_aside n c).trans
      (s.withVaux_aside _)
  · exact (forL_keeps (fun x => x.aside auxView (inFields auxStateFields)) _ _ _ fun n x => x.auxRelease_aside n c).trans
      (s.withVaux_aside _)

theorem State.stageHold_vaux (s : State) (c code : Nat) (on : Bool) : (s.stageHold c code on).vaux =
    if Arith.bit s.vaux.holds c == on then s.vaux else { s.vaux with holds := Arith.setBit s.vaux.holds c on } := by
  unfold State.stageHold
  split
  · rfl
  · dsimp only
    split
    · rw [State.irqFire_vaux, State.raise_vaux]
      exact (forL_keeps (fun x => x.vaux) _ _ _ fun n x => x.auxHold_vaux n c).trans rfl
    · exact (forL_keeps (fun x => x.vaux) _ _ _ fun n x => x.auxRelease_vaux n c).trans rfl

/-- The stage's holding causes after one of them began or ended. -/
theorem State.stageHold_bits (s : State) (c code : Nat) (on : Bool) (k : Nat) :
    Arith.bit (s.stageHold c code on).vaux.holds k = if k = c then on else Arith.bit s.vaux.holds k := by
  rw [State.stageHold_vaux]
  split
  · next h =>
    by_cases hk : k = c
    · subst hk; rw [if_pos rfl]; simpa using h
    · rw [if_neg hk]
  · exact bit_setBit _ _ _ _

end Sys2Proof.Machine
end

section
/-!
SUPPORT. Proofs/Chopper.lean: the chopper's fault and hysteresis, the VAUX limits, and the obligation on clears, limits and chopper
(sections 9.5 and 9.6).
-/
namespace Sys2Proof.Machine

/-- A fault of the chopper: no trips are counted and no axis is looked at (R293). -/
theorem State.auxFault_chopper (s : State) (cause : Nat) : s.auxFault 12 cause =
    ((s.setBr 12 3 { s.br 12 with faultAt := s.now, pending := true, retry := true, fault := cause }).raise 0x050C kAux 0 0).irqFire 125 := by
  unfold State.auxFault
  simp only [if_true]
  split <;> rfl

theorem State.setBr_chopper (s : State) (st : Nat) (x : Br) : s.setBr 12 st x = (s.putBr 12 x).putN .vauxChopState 0 st := rfl

theorem chopFault_stops (s : State) (h : s.brState 12 = 2) : Yields (exec .chopFault s) fun t =>
    t.n .vauxChopState = 3 ∧ (t.br 12).fault = 1 ∧ (t.br 12).pending = true ∧
    t.vaux = (if s.vaux.on then s.vaux.switched false s.now else s.vaux) ∧ (t.src 125).pend = true ∧ Raised s t 0x050C kAux 0 ∧
    QuietPoints s t [⟨.vauxChopState, 0, 0⟩] := by
  refine yields_if h ?_
  generalize hv : (if s.vaux.on then s.vaux.switched false s.now else s.vaux) = v
  rw [State.auxFault_chopper, State.setBr_chopper]
  generalize hx : { (s.withVaux v).br 12 with faultAt := (s.withVaux v).now, pending := true, retry := true, fault := 1 : Br } = x
  let u := ((s.withVaux v).putBr 12 x).putN .vauxChopState 0 3
  have hq : ((u.raise 0x050C kAux 0 0).irqFire 125).quiet = u.quiet := (State.irqFire_quiet _ _).trans (State.raise_quiet _ _ _ _ _)
  have hb : ((u.raise 0x050C kAux 0 0).irqFire 125).br 12 = x :=
    (State.br_of_brs (State.brs_of_quiet hq) 12).trans (State.br_putBr_same (s.withVaux v) 12 x)
  refine ⟨?_, ?_, ?_, ?_, State.irqFire_self _ _ rfl, ?_, ?_⟩
  · exact (State.n_of_quiet hq _ _ _ rfl).trans (State.n_putN_same _ _ _ _ _ (by decide))
  · exact (congrArg Br.fault hb).trans (by rw [← hx])
  · exact (congrArg Br.pending hb).trans (by rw [← hx])
  · exact State.vaux_of_quiet hq
  · intro h1 h2
    rw [State.irqFire_so]
    exact State.raise_raised (s := s) u _ _ _ _ rfl h1 h2
  · exact (QuietPoints.putN ((s.withVaux v).putBr 12 x) .vauxChopState 0 3 0).then fun f i j hf => State.w_of_quiet hq f i j hf

/-- The level that the chopper's hysteresis asks for (R293). -/
def State.chopWants (s : State) (v : Rat) : Bool :=
  if s.vaux.on then decide (s.r .vauxChopOnV - s.r .vauxChopHystV < v) else decide (s.r .vauxChopOnV ≤ v)

theorem State.r_put_field (s : State) {f g : Field} {i k : Nat} (w : Word) {j l : Nat} (h : g ≠ f) : (s.put f i w j).r g k l = s.r g k l := by
  simp only [State.r, State.w_put_field s w h]

theorem State.chopSwitch_eq (s : State) (mv : Nat) : s.chopSwitch mv =
    if s.brState 12 ≠ 2 ∨ s.chopWants ((mv : Rat) / 1000) = s.vaux.on ∨ s.now < s.vaux.at' + 2000 then s.putR .vauxVauxV 0 ((mv : Rat) / 1000)
    else (s.putR .vauxVauxV 0 ((mv : Rat) / 1000)).chopSet (s.chopWants ((mv : Rat) / 1000)) := by
  unfold State.chopSwitch
  dsimp only
  rw [State.putR, State.r_put_field _ _ (by decide), State.r_put_field _ _ (by decide)]
  rw [show (s.put .vauxVauxV 0 ((entry .vauxVauxV).ty.enc ((mv : Rat) / 1000)) 0).brState 12 = s.brState 12 from
    State.n_put_field _ _ (by decide)]
  rfl

theorem chopSwitch_follows (s : State) (mv : Nat) : Yields (exec (.chopSwitch mv) s) fun t =>
    let v : Rat := (mv : Rat) / 1000
    let want := if s.vaux.on then decide (s.r .vauxChopOnV - s.r .vauxChopHystV < v) else decide (s.r .vauxChopOnV ≤ v)
    t.w .vauxVauxV 0 0 = (entry .vauxVauxV).ty.enc v ∧
    (s.brState 12 = 2 → s.vaux.at' + 2000 ≤ s.now → t.vaux.on = want ∧ (want ≠ s.vaux.on → t.vaux.at' = s.now)) ∧
    (s.brState 12 ≠ 2 ∨ s.now < s.vaux.at' + 2000 → t.vaux = s.vaux) ∧
    t.rest = (s.withVaux t.vaux).rest ∧ SamePoints s t [⟨.vauxVauxV, 0, 0⟩] := by
  refine ⟨s.chopSwitch mv, rfl, ?_⟩
  beta_reduce
  intro v want
  have hw : (s.putR .vauxVauxV 0 v).w .vauxVauxV 0 0 = (entry .vauxVauxV).ty.enc v := State.w_put_same _ _ _ _ _
  have hp : SamePoints s (s.putR .vauxVauxV 0 v) [⟨.vauxVauxV, 0, 0⟩] := SamePoints.put _ _ _ _ _
  rw [s.chopSwitch_eq mv]
  change _ ∧ (_ → _ → _ = s.chopWants v ∧ (s.chopWants v ≠ _ → _)) ∧ _
  split
  · next h =>
    refine ⟨hw, fun h2 ht => ?_, fun _ => rfl, by simp [State.putR], hp⟩
    have hon : s.chopWants v = s.vaux.on := by
      rcases h with h | h | h
      · exact absurd h2 h
      · exact h
      · omega
    exact ⟨hon.symm, fun h => absurd hon h⟩
  · next h =>
    rw [not_or, not_or] at h
    refine ⟨hw, fun _ _ => ⟨rfl, fun _ => rfl⟩, fun h' => ?_, by simp [State.putR, State.chopSet], hp⟩
    rcases h' with h' | h'
    · exact absurd h' h.1
    · exact absurd h' h.2.2

theorem vauxLimit_holds (s : State) (mv : Nat) (gate : Bool) : Yields (exec (.vauxLimit mv gate) s) fun t =>
    let v : Rat := (mv : Rat) / 1000
    let hy := s.r .vauxVauxHystV
    let uv := if Arith.bit s.vaux.holds 7 then decide (v < s.r .vauxVauxUvV + hy) else decide (v < s.r .vauxVauxUvV)
    t.w .vauxVauxV 0 0 = (entry .vauxVauxV).ty.enc v ∧ Arith.bit t.vaux.holds 7 = uv ∧ Arith.bit t.vaux.holds 9 = !gate ∧
    (uv = true → Arith.bit s.vaux.holds 7 = false → ∀ b ∈ s.bridges, t.n .auxState b = 4 ∨ t.n .auxState b = 5) ∧
    QuietFields s t [.vauxVauxV, .auxState, .auxCause, .vauxChopState] := by
  refine ⟨s.vauxLimit mv gate, rfl, ?_⟩
  unfold State.vauxLimit
  extract_lets v hy uv ov
  generalize hu : s.putR .vauxVauxV 0 v = u
  have hw : u.w .vauxVauxV 0 0 = (entry .vauxVauxV).ty.enc v := by rw [← hu]; exact State.w_put_same _ _ _ _ _
  have hvaux : u.vaux = s.vaux := by rw [← hu]; rfl
  have hbr : u.bridges = s.bridges := by
    rw [← hu]
    simp only [State.bridges, State.putR, State.n_put_field _ _ (show Field.auxState ≠ .vauxVauxV by decide)]
  have hall : (((u.stageHold 7 0x0509 uv).stageHold 8 0x050A ov).stageHold 9 0x050B (!gate)).aside auxView (inFields auxStateFields) =
      u.aside auxView (inFields auxStateFields) := by rw [State.stageHold_aside, State.stageHold_aside, State.stageHold_aside]
  refine ⟨(State.aside_w hall _ _ _ rfl rfl).trans hw, ?_, ?_, fun ht h7 b hb => ?_, ?_⟩
  · rw [State.stageHold_bits, if_neg (by decide), State.stageHold_bits, if_neg (by decide), State.stageHold_bits, if_pos rfl]
  · rw [State.stageHold_bits, if_pos rfl]
  · have h12 : b ≠ 12 := by
      simp only [State.bridges, List.mem_filter, List.mem_range] at hb; omega
    rw [ht]
    have h1 := u.stageHold_holds7 0x0509 (by rw [hvaux]; exact h7) b (by rw [hbr]; exact hb)
    exact (State.stageHold_keeps7 _ 9 _ _ b (by decide) h12 (State.stageHold_keeps7 _ 8 _ _ b (by decide) h12 h1)).1
  · have hput : QuietFields s u [.vauxVauxV] := by rw [← hu]; exact QuietFields.put s _ _ _ _
    exact hput.trans (QuietFields.of_aside hall)

/-- A clear of a bridge, with the point that asks for it (R291). -/
theorem auxClearCmd_restarts (s : State) (b : AuxNo) (h5 : s.brState b ≠ 5) : Yields (exec (.auxClearCmd b) s) fun t =>
    t.n .auxClearCmd b = 1 ∧
    (s.brState b ≠ 3 → s.brState b ≠ 4 → t = s.putN .auxClearCmd b 1) ∧
    (s.brState b = 3 ∨ s.brState b = 4 ∧ (s.br b).fault ≠ 5 →
      t.n .auxState b = (if (s.br b).holds = 0 then 1 else 5) ∧ t.n .auxTries b = 0 ∧ (t.br b).fault = 0 ∧ Raised s t 0x0507 kAux b ∧
      ∀ m, m ≠ b.val → t.br m = s.br m) ∧
    (∀ a, s.brState b = 4 → (s.br b).fault = 5 → s.axisOf b = some a → ∀ c ∈ s.bridgesOf a, (t.br c).fault = 0 ∧ t.brTries c = 0) := by
  have hb := auxNo_ne_chopper b
  let u := s.putN .auxClearCmd b 1
  have hst : ∀ m, u.brState m = s.brState m := fun m => s.brState_putN m (by decide) (by decide)
  have hk : ∀ a, u.n .axisKind a = s.n .axisKind a := fun a => State.n_putN_field _ (by decide)
  refine yields_if (by simp [State.auxClearOk, h5]) ⟨?_, fun h3 h4 => ?_, fun h => ?_, fun a h4 hf ha c hc => ?_⟩
  · rw [State.aside_n (u.auxClear_aside b) _ _ _ rfl rfl]; exact s.n_putN_same _ _ _ _ (by decide)
  · exact u.auxClear_not b (by rw [hst]; exact h3) (by rw [hst]; exact h4)
  · have h34 : u.brState b = 3 ∨ u.brState b = 4 := by rw [hst]; exact h.imp id And.left
    obtain ⟨hall, hr⟩ := u.auxClear_effect b h34
    have hg : u.clearGroup b = [b.val] := u.clearGroup_self b fun e => by
      rw [hst] at e
      rcases h with h | h
      · rw [h] at e; exact absurd e.1 (by decide)
      · exact h.2 e.2.1
    rw [hg] at hall
    obtain ⟨hfault, htries, hstate⟩ := (hall b).1 (by simp)
    rw [if_neg hb, State.brState_bridge _ hb] at hstate
    rw [State.brTries_bridge _ hb] at htries
    rw [show auxCfg b = b from if_neg hb] at hr
    exact ⟨hstate, htries, hfault, hr.of_so rfl, fun m hm => (hall m).2 (by simpa using hm)⟩
  · have h34 : u.brState b = 3 ∨ u.brState b = 4 := .inr (by rw [hst]; exact h4)
    have hg : u.clearGroup b = u.bridgesOf a := by
      unfold State.clearGroup
      rw [State.axisOf_congr hk, ha]
      exact if_pos ⟨by rw [hst]; exact h4, hf, hb⟩
    obtain ⟨hfault, htries, -⟩ := ((u.auxClear_effect b h34).1 c).1 (by rw [hg, State.bridgesOf_congr hk]; exact hc)
    exact ⟨hfault, htries⟩

theorem chopClearCmd_restarts (s : State) (h5 : s.brState 12 ≠ 5) : Yields (exec .chopClearCmd s) fun t =>
    t.n .vauxChopClearCmd = 1 ∧ (s.brState 12 = 3 ∨ s.brState 12 = 4 → t.n .vauxChopState = 2 ∧ t.n .vauxChopTries = 0) ∧
    ∀ m, m ≠ 12 → t.br m = s.br m := by
  let u := s.putN .vauxChopClearCmd 0 1
  have hst : u.brState 12 = s.brState 12 := s.brState_putN 12 (by decide) (by decide)
  have hg : u.clearGroup 12 = [12] := u.clearGroup_self 12 (by simp)
  refine yields_if (by simp [State.auxClearOk, h5]) ⟨?_, fun h => ?_, fun m hm => ?_⟩
  · rw [State.aside_n (u.auxClear_aside 12) _ _ _ rfl rfl]; exact s.n_putN_same _ _ _ _ (by decide)
  · obtain ⟨hall, -⟩ := u.auxClear_effect 12 (by rw [hst]; exact h)
    rw [hg] at hall
    obtain ⟨-, htries, hstate⟩ := (hall 12).1 (by simp)
    exact ⟨hstate, htries⟩
  · by_cases h : u.brState 12 = 3 ∨ u.brState 12 = 4
    · obtain ⟨hall, -⟩ := u.auxClear_effect 12 h
      rw [hg] at hall
      exact (hall m).2 (by simpa using hm)
    · rw [not_or] at h
      exact State.br_of_brs (congrArg State.brs (u.auxClear_not 12 h.1 h.2)) m

/-- Settles O34, command by command. -/
theorem clearsVauxAndChopper : Obligations.ClearsVauxAndChopper := by
  unfold Obligations.ClearsVauxAndChopper
  exact fun s => ⟨auxClearCmd_restarts s, chopClearCmd_restarts s, chopFault_stops s, chopSwitch_follows s, vauxLimit_holds s⟩

end Sys2Proof.Machine
end

section
/-!
SUPPORT. Proofs/AuxAxes.lean: step inputs, the hold current of steppers and the pull-in of loads (sections 8.8 and 8.9).
-/
namespace Sys2Proof.Machine

@[simp] theorem State.ax_putAx_same (s : State) (n : Nat) (x : Axis) : (s.putAx n x).ax n = x := by simp [State.ax, State.putAx]
theorem State.ax_putAx_ne (s : State) {n m : Nat} (x : Axis) (h : m ≠ n) : (s.putAx n x).ax m = s.ax m := by
  simp [State.ax, State.putAx, Tab.get_put_ne _ _ _ h]

/-- An accepted step moves the goal by one step of the input's resolution, however it is spread (R268). -/
theorem State.extStep_goal (s : State) (a t : Nat) (neg : Bool) :
    let y := (s.extStep a t neg).ax a
    y.stepAt = some t ∧ y.stepNeg = neg ∧
      y.extGoal = (s.ax a).extGoal + (if neg then -1 else 1) * (256 / (s.n .axisExtRes a : Rat)) := by
  unfold State.extStep
  extract_lets x c p rest first w moves y
  have hgoal : moves.foldl (fun p m => p + m.2.2) p = x.extGoal + c := by
    simp only [moves]
    split
    · split <;> simp only [List.foldl_cons, List.foldl_nil, rest] <;> ring
    · simp only [List.foldl_cons, List.foldl_nil, rest]; ring
  have hy : y = { x with base := p, moves := moves, stepAt := some t, stepNeg := neg } := State.ax_putAx_same _ _ _
  rw [hy]
  exact ⟨rfl, rfl, hgoal⟩

/-- A step input too close to the one before it, or too short. -/
theorem State.extPulse_eq (s : State) (a t width : Nat) (neg : Bool) (hk : s.n .axisKind a = 1) (hs : s.n .axisSource a = 2) :
    ((∃ b, (s.ax a).stepAt = some b ∧ t / 1000 * 1000 < b + 20000) ∨ width < 5000 → s.extPulse a t width neg = s.raise 0x0532 kAxis a 0) ∧
      (¬((∃ b, (s.ax a).stepAt = some b ∧ t / 1000 * 1000 < b + 20000) ∨ width < 5000) →
        s.extPulse a t width neg = s.extStep a (t / 1000 * 1000) neg) := by
  unfold State.extPulse
  rw [if_pos ⟨hk, hs⟩]
  dsimp only
  generalize t / 1000 * 1000 = u
  cases (s.ax a).stepAt with
  | none => simp +contextual
  | some b => simp +contextual

/-- Settles O35: a step by `extStep_goal`, the others by their guards. -/
theorem auxiliaryAxes : Obligations.AuxiliaryAxes := by
  unfold Obligations.AuxiliaryAxes
  intro a s x
  refine ⟨fun time width neg hk hs => ?_, fun hk hr hm hb => ?_, fun b hb hk hh ht => ?_⟩
  · obtain ⟨hclose, hopen⟩ := s.extPulse_eq a time width neg hk hs
    refine ⟨s.extPulse a time width neg, rfl, ?_⟩
    beta_reduce
    intro u close
    refine ⟨fun h => ?_, fun h => ?_⟩
    · rw [hopen h]
      obtain ⟨h1, h2, h3⟩ := s.extStep_goal a u neg
      exact ⟨h1, h2, h3, rfl, fun m hm => s.ax_putAx_ne _ hm, by simp [State.extStep, State.putAx]⟩
    · rw [hclose h]
      exact ⟨State.raise_quiet _ _ _ _ _, State.raise_raised _ _ _ _ _ rfl⟩
  · let u := s.putAx a { x with reduced := some s.now }
    refine yields_if (by simp only [hk, hb]; exact ⟨trivial, hr, hm, by decide⟩) ⟨?_, ?_, fun m h => ?_, ?_, ?_⟩
    · exact s.ax_putAx_same a { x with reduced := some s.now }
    · exact u.bit_putN_setBit .axisStatus a 0 1 true (by decide)
    · exact s.ax_putAx_ne _ h
    · simp [State.axFlag, State.putAx]
    · exact SamePoints.put u .axisStatus a _ 0
  · refine ⟨s.putAx a { x with pulled := true }, congrArg Host.Outcome.next ?_, s.ax_putAx_same _ _, rfl⟩
    split
    · next t h =>
      obtain rfl : b = t := Option.some.inj (hb.symm.trans h)
      exact if_pos ⟨hk, hh, ht⟩
    · next h => exact absurd (hb.symm.trans h) (by simp)

end Sys2Proof.Machine
end

section
/-!
SUPPORT. Proofs/ProfileEngines.lean: the commands of a profile engine (sections 8.4 to 8.6).
-/
namespace Sys2Proof.Machine

/-! ## Records and points of an engine -/

@[simp] theorem State.eng_putEng_same (s : State) (n : Nat) (x : Eng) : (s.putEng n x).eng n = x := by simp [State.eng, State.putEng]
theorem State.eng_putEng_ne (s : State) {n m : Nat} (x : Eng) (h : m ≠ n) : (s.putEng n x).eng m = s.eng m := by
  simp [State.eng, State.putEng, Tab.get_put_ne _ _ _ h]
theorem State.eng_of_engs {s t : State} (h : t.engs = s.engs) (n : Nat) : t.eng n = s.eng n := by simp only [State.eng, h]

/-- The points that an engine's commands write. -/
def prfFields : List Field := [.prfCmd, .prfItinCount, .prfOrigin, .prfRemaining, .prfState, .prfStatus, .prfSuspendCause]

/-- All records but those of the engines. -/
def engView (r : State) : State := r.withEngs []

/-- What a command of an engine leaves: all other records, the other engines, and all but its points. -/
def State.engKeep (s : State) (e : Nat) : (Nat → Eng) × (State × (Field → Nat → Nat → Word)) :=
  (fun m => if m = e then Eng.init else s.eng m, s.aside engView (inFields prfFields))

section
variable {s t : State} {e : Nat}

theorem State.engKeep_ext (h1 : ∀ m, m ≠ e → t.eng m = s.eng m)
    (h2 : t.aside engView (inFields prfFields) = s.aside engView (inFields prfFields)) :
    t.engKeep e = s.engKeep e := by
  refine Prod.ext (funext fun m => ?_) h2
  simp only [State.engKeep]
  split
  · rfl
  · next h => exact h1 m h

theorem State.engKeep_of_quiet (e : Nat) (h : t.quiet = s.quiet) : t.engKeep e = s.engKeep e :=
  State.engKeep_ext (fun m _ => State.eng_of_engs (State.engs_of_quiet h) m) (State.aside_of_quiet h)

theorem State.engKeep_put (s : State) (e : Nat) (f : Field) (i : Nat) (w : Word) (j : Nat) (h : prfFields.contains f = true) :
    (s.put f i w j).engKeep e = s.engKeep e := State.engKeep_ext (fun _ _ => rfl) (State.aside_put f i w j h)

theorem State.engKeep_putN (s : State) (e : Nat) (f : Field) (i v j : Nat) (h : prfFields.contains f = true) :
    (s.putN f i v j).engKeep e = s.engKeep e := s.engKeep_put e f i _ j h

theorem State.engKeep_putZ64 (s : State) (e : Nat) (f : Field) (i : Nat) (v : Int) (h : prfFields.contains f = true) :
    (s.putZ64 f i v).engKeep e = s.engKeep e := (State.engKeep_putN _ e f i _ 1 h).trans (State.engKeep_putN _ e f i _ 0 h)

theorem State.engKeep_putEng (s : State) (e : Nat) (x : Eng) : (s.putEng e x).engKeep e = s.engKeep e :=
  State.engKeep_ext (fun _ h => s.eng_putEng_ne x h) (State.aside_record (by simp [engView, State.putEng]) rfl)

/-- The frame of the statements. -/
theorem State.engKeep_only (h : t.engKeep e = s.engKeep e) : t.rest = (s.withEngs t.engs).rest ∧ (∀ f, f ≠ e → t.eng f = s.eng f) ∧
    QuietFields s t prfFields := by
  have hrest : engView t.rest = engView s.rest := State.aside_rest (g := engView) (p := inFields prfFields) (congrArg Prod.snd h)
  refine ⟨?_, fun f hf => ?_, QuietFields.of_aside (congrArg Prod.snd h)⟩
  · have := congrArg (fun r : State => r.withEngs t.engs) hrest
    simp only [engView, State.withEngs_twice] at this
    rw [State.withEngs_rest]
    exact (show t.rest = t.rest.withEngs t.engs from t.rest.withEngs_self.symm).trans this
  · have := congrFun (congrArg Prod.fst h) f
    simpa [State.engKeep, hf] using this

end

/-! ## Motions -/

/-- A motion that starts takes the engine's record with its table and plan anew, enters Moving, and clears what a suspension left. -/
theorem State.engStart_eq (s : State) (e : Nat) (x : Eng) (go : Bool) : ∃ table shadow tabT tabBase plan approach n,
    s.engStart e x go = (((((s.putEng e { x with
      table := table, shadow := shadow, tabT := tabT, tabBase := tabBase, plan := plan, approach := approach }).putN .prfState e 2).putN .prfSuspendCause e 0).putN .prfItinCount e n).engFlag e 2 false).putZ64
        .prfRemaining e 0 := by
  have h1 : ∃ table shadow tabT tabBase, (if x.ty = 4 ∧ go ∧ ¬x.shadow.isEmpty then { x with table := x.shadow, shadow := [], tabT := 0, tabBase := 0 }
      else if x.ty = 4 ∧ go then { x with tabT := 0, tabBase := 0 } else x) =
        { x with table := table, shadow := shadow, tabT := tabT, tabBase := tabBase } := by
    repeat' split
    all_goals exact ⟨_, _, _, _, rfl⟩
  obtain ⟨table, shadow, tabT, tabBase, h1⟩ := h1
  unfold State.engStart
  dsimp only
  rw [h1]
  dsimp only
  split
  all_goals exact ⟨_, _, _, _, _, _, _, rfl⟩

/-- What starting a motion does to the points and to the engine's record. -/
theorem State.engStart_effect (s : State) (e : Nat) (x : Eng) (go : Bool) :
    let t := s.engStart e x go
    t.n .prfState e = 2 ∧ t.n .prfSuspendCause e = 0 ∧ t.n64 .prfRemaining e = 0 ∧ t.n .prfCmd e = s.n .prfCmd e ∧
      t.engKeep e = s.engKeep e ∧ ∃ table shadow tabT tabBase plan approach, t.eng e =
        { x with table := table, shadow := shadow, tabT := tabT, tabBase := tabBase, plan := plan, approach := approach } := by
  obtain ⟨table, shadow, tabT, tabBase, plan, approach, n, h⟩ := s.engStart_eq e x go
  rw [h]
  refine ⟨?_, ?_, ?_, ?_, ?_, table, shadow, tabT, tabBase, plan, approach, s.eng_putEng_same e _⟩
  · rw [State.n_putZ64_field _ (by decide), State.engFlag, State.n_putN_field _ (by decide), State.n_putN_field _ (by decide),
      State.n_putN_field _ (by decide), State.n_putN_same _ _ _ _ _ (by decide)]
  · rw [State.n_putZ64_field _ (by decide), State.engFlag, State.n_putN_field _ (by decide), State.n_putN_field _ (by decide),
      State.n_putN_same _ _ _ _ _ (by decide)]
  · rw [State.n64_putZ64]; rfl
  · rw [State.n_putZ64_field _ (by decide), State.engFlag, State.n_putN_field _ (by decide), State.n_putN_field _ (by decide),
      State.n_putN_field _ (by decide), State.n_putN_field _ (by decide)]; rfl
  · rw [State.engKeep_putZ64 _ _ _ _ _ rfl, State.engFlag, State.engKeep_putN _ _ _ _ _ _ rfl, State.engKeep_putN _ _ _ _ _ _ rfl,
      State.engKeep_putN _ _ _ _ _ _ rfl, State.engKeep_putN _ _ _ _ _ _ rfl, State.engKeep_putEng]

/-- A deceleration. -/
theorem State.engBrake_effect (s : State) (e : Nat) (aborted : Bool) :
    let t := s.engBrake e aborted
    t.n .prfState e = 3 ∧ (∀ f, f ≠ .prfState → ∀ j, t.n f e j = s.n f e j) ∧ t.engKeep e = s.engKeep e ∧
      ∃ plan, t.eng e = { s.eng e with plan := plan, aborted := aborted, approach := false } :=
  ⟨State.n_putN_same _ _ _ _ _ (by decide), fun _ hf _ => State.n_putN_field _ hf,
    (State.engKeep_putN _ _ _ _ _ _ rfl).trans (s.engKeep_putEng e _), _, s.eng_putEng_same e _⟩

theorem State.engCmd_eq (s : State) (e cmd : Nat) (h : s.engCmdStatus e cmd = 0) : s.engCmd e cmd =
    match (generalizing := false) cmd with
    | 1 => (s.putN .prfCmd e cmd).engGo e
    | 2 => (s.putN .prfCmd e cmd).engStop e
    | 3 => (s.putN .prfCmd e cmd).engResume e
    | 4 => (s.putN .prfCmd e cmd).engAbort e
    | _ => (s.putN .prfCmd e cmd).engHome e := if_pos h

/-! ## GO, STOP, RESUME and ABORT -/

theorem profileGo_moves (e : EngineNo) (s : State) (h : s.engCmdStatus e 1 = 0) : Yields (exec (.profileGo e) s) fun t =>
    let waits := s.n .prfStartToken e ≤ 31 ∨ s.n64 .prfStartTime e ≠ 0
    t.n .prfCmd e = 1 ∧ t.n .prfState e = (if s.n .prfState e = 0 ∧ waits then 1 else 2) ∧ (t.eng e).ty = s.n .prfType e ∧
    (t.eng e).tgt = (s.z64 .prfTargetPos e : Rat) ∧ (t.eng e).vMax = s.r .prfVMax e ∧ (t.eng e).aMax = s.r .prfAMax e ∧
    (t.eng e).dMax = s.r .prfDMax e ∧ (t.eng e).jMax = s.r .prfJMax e ∧ (t.eng e).s0 = (s.eng e).s0 ∧
    t.engKeep e = s.engKeep e := by
  let u := s.putN .prfCmd e 1
  have hn : ∀ f j, f ≠ .prfCmd → u.n f e j = s.n f e j := fun f j hf => State.n_putN_field _ hf
  have hr : ∀ f, f ≠ .prfCmd → u.r f e = s.r f e := fun f hf => State.r_put_field _ _ hf
  have hz : u.z64 .prfTargetPos e = s.z64 .prfTargetPos e := by
    simp only [State.z64, State.n64, hn .prfTargetPos _ (by decide)]
  have hu : u.n .prfCmd e = 1 := s.n_putN_same _ _ _ _ (by decide)
  have hk : u.engKeep e = s.engKeep e := s.engKeep_putN _ _ _ _ _ rfl
  have hwaits : (u.n .prfState e = 0 ∧ (decide (u.n .prfStartToken e ≤ 31) || u.n64 .prfStartTime e != 0) = true) ↔
      (s.n .prfState e = 0 ∧ (s.n .prfStartToken e ≤ 31 ∨ s.n64 .prfStartTime e ≠ 0)) := by
    simp only [State.n64, hn .prfState _ (by decide), hn .prfStartToken _ (by decide), hn .prfStartTime _ (by decide), Bool.or_eq_true,
      decide_eq_true_eq, bne_iff_ne]
  refine ⟨s.engCmd e 1, rfl, ?_⟩
  beta_reduce
  intro waits
  rw [s.engCmd_eq e 1 h]
  change (u.engGo e).n .prfCmd e = 1 ∧ (u.engGo e).n .prfState e = _ ∧ ((u.engGo e).eng e).ty = _ ∧ ((u.engGo e).eng e).tgt = _ ∧
    ((u.engGo e).eng e).vMax = _ ∧ ((u.engGo e).eng e).aMax = _ ∧ ((u.engGo e).eng e).dMax = _ ∧ ((u.engGo e).eng e).jMax = _ ∧
    ((u.engGo e).eng e).s0 = _ ∧ (u.engGo e).engKeep e = _
  rw [← hr .prfVMax (by decide), ← hr .prfAMax (by decide), ← hr .prfDMax (by decide), ← hr .prfJMax (by decide), ← hz,
    ← hn .prfType 0 (by decide), ← hk]
  unfold State.engGo
  dsimp only
  by_cases hw : s.n .prfState e = 0 ∧ waits
  · rw [if_pos (hwaits.2 hw), if_pos hw]
    have he : ((u.putEng e (u.engTake e)).putN .prfState e 1).eng e = u.engTake e := u.eng_putEng_same e _
    rw [he]
    refine ⟨?_, State.n_putN_same _ _ _ _ _ (by decide), rfl, rfl, rfl, rfl, rfl, rfl, rfl, ?_⟩
    · rw [State.n_putN_field _ (by decide)]; exact hu
    · rw [State.engKeep_putN _ _ _ _ _ _ rfl, State.engKeep_putEng]
  · rw [if_neg fun e => hw (hwaits.1 e), if_neg hw]
    obtain ⟨hst, -, -, hcmd, hkeep, _, _, _, _, _, _, heng⟩ := u.engStart_effect e (u.engTake e) true
    rw [heng]
    exact ⟨hcmd.trans hu, hst, rfl, rfl, rfl, rfl, rfl, rfl, rfl, hkeep⟩

theorem profileStop_decelerates (e : EngineNo) (s : State) (h : s.n .prfState e = 1 ∨ s.n .prfState e = 2 ∨ s.n .prfState e = 5) :
    Yields (exec (.profileStop e) s) fun t =>
      t.n .prfCmd e = 2 ∧ (s.n .prfState e = 1 → t.n .prfState e = 0 ∧ t.engs = s.engs) ∧
      (s.n .prfState e ≠ 1 → t.n .prfState e = 3 ∧ (t.eng e).aborted = decide (s.n .prfState e = 5) ∧ (t.eng e).s0 = (s.eng e).s0) ∧
      t.engKeep e = s.engKeep e := by
  let u := s.putN .prfCmd e 2
  have hst : u.n .prfState e = s.n .prfState e := State.n_putN_field _ (by decide)
  have hu : u.n .prfCmd e = 2 := s.n_putN_same _ _ _ _ (by decide)
  have hk : u.engKeep e = s.engKeep e := s.engKeep_putN _ _ _ _ _ rfl
  have hok : s.engCmdStatus e 2 = 0 := by
    rcases h with h | h | h <;> simp [State.engCmdStatus, engAccepts, h]
  refine ⟨u.engStop e, congrArg Host.Outcome.next (s.engCmd_eq e 2 hok), ?_⟩
  have hbrake : ∀ b, (u.engBrake e b).n .prfCmd e = 2 ∧ (u.engBrake e b).n .prfState e = 3 ∧ ((u.engBrake e b).eng e).aborted = b ∧
      ((u.engBrake e b).eng e).s0 = (s.eng e).s0 ∧ (u.engBrake e b).engKeep e = s.engKeep e := fun b => by
    obtain ⟨h3, hother, hkeep, plan, heng⟩ := u.engBrake_effect e b
    rw [heng]
    exact ⟨(hother _ (by decide) 0).trans hu, h3, rfl, rfl, hkeep.trans hk⟩
  rcases h with h | h | h
  · have e1 : u.engStop e = u.putN .prfState e 0 := by unfold State.engStop; rw [hst, h]; rfl
    rw [e1, h]
    refine ⟨(State.n_putN_field _ (by decide)).trans hu, fun _ => ⟨State.n_putN_same _ _ _ _ _ (by decide), rfl⟩, fun h => absurd rfl h, ?_⟩
    rw [State.engKeep_putN _ _ _ _ _ _ rfl, hk]
  · have e2 : u.engStop e = u.engBrake e false := by unfold State.engStop; rw [hst, h]; rfl
    obtain ⟨h1, h2, h3, h4, h5⟩ := hbrake false
    rw [e2, h]
    exact ⟨h1, fun h => absurd h (by decide), fun _ => ⟨h2, h3, h4⟩, h5⟩
  · have e5 : u.engStop e = u.engBrake e true := by unfold State.engStop; rw [hst, h]; rfl
    obtain ⟨h1, h2, h3, h4, h5⟩ := hbrake true
    rw [e5, h]
    exact ⟨h1, fun h => absurd h (by decide), fun _ => ⟨h2, h3, h4⟩, h5⟩

theorem profileResume_moves (e : EngineNo) (s : State) (h : s.n .prfState e = 4) (hf : s.cannotFollow e = 0) :
    Yields (exec (.profileResume e) s) fun t =>
      t.n .prfCmd e = 3 ∧ t.n .prfState e = 2 ∧ t.n .prfSuspendCause e = 0 ∧ t.n64 .prfRemaining e = 0 ∧
      (t.eng e).tracks = false ∧ (t.eng e).tgt = (s.eng e).tgt ∧ t.engKeep e = s.engKeep e := by
  let u := s.putN .prfCmd e 3
  have hok : s.engCmdStatus e 3 = 0 := by simp [State.engCmdStatus, engAccepts, h, hf]
  refine ⟨u.engResume e, congrArg Host.Outcome.next (s.engCmd_eq e 3 hok), ?_⟩
  obtain ⟨h2, hc, hr, hcmd, hkeep, _, _, _, _, _, _, heng⟩ := u.engStart_effect e { u.eng e with tracks := false, aborted := false } false
  have hres : u.engResume e = u.engStart e { u.eng e with tracks := false, aborted := false } false := rfl
  rw [hres, heng]
  exact ⟨hcmd.trans (s.n_putN_same _ _ _ _ (by decide)), h2, hc, hr, rfl, rfl, hkeep.trans (s.engKeep_putN _ _ _ _ _ rfl)⟩

theorem profileAbort_ends (e : EngineNo) (s : State) (h1 : 1 ≤ s.n .prfState e) (h5 : s.n .prfState e ≤ 5) :
    Yields (exec (.profileAbort e) s) fun t =>
      t.n .prfCmd e = 4 ∧ t.n .prfState e = (if s.n .prfState e = 1 ∨ s.n .prfState e = 4 then 0 else 3) ∧
      (s.n .prfState e = 2 ∨ s.n .prfState e = 3 ∨ s.n .prfState e = 5 → (t.eng e).aborted = true) ∧
      (s.n .prfState e ≠ 1 → t.n64 .prfRemaining e = 0) ∧ t.engKeep e = s.engKeep e := by
  let u := s.putN .prfCmd e 4
  have hst : u.n .prfState e = s.n .prfState e := State.n_putN_field _ (by decide)
  have hu : u.n .prfCmd e = 4 := s.n_putN_same _ _ _ _ (by decide)
  have hk : u.engKeep e = s.engKeep e := s.engKeep_putN _ _ _ _ _ rfl
  have hcase : s.n .prfState e = 1 ∨ s.n .prfState e = 2 ∨ s.n .prfState e = 3 ∨ s.n .prfState e = 4 ∨ s.n .prfState e = 5 := by omega
  have hok : s.engCmdStatus e 4 = 0 := by rcases hcase with h | h | h | h | h <;> simp [State.engCmdStatus, engAccepts, h]
  refine ⟨u.engAbort e, congrArg Host.Outcome.next (s.engCmd_eq e 4 hok), ?_⟩
  have hbrake : let t := (u.engBrake e true).putZ64 .prfRemaining e 0
      t.n .prfCmd e = 4 ∧ t.n .prfState e = 3 ∧ (t.eng e).aborted = true ∧ t.n64 .prfRemaining e = 0 ∧ t.engKeep e = s.engKeep e := by
    obtain ⟨h3, hother, hkeep, plan, heng⟩ := u.engBrake_effect e true
    refine ⟨?_, (State.n_putZ64_field _ (by decide)).trans h3, ?_, (State.n64_putZ64 _ _ _ _).trans rfl, ?_⟩
    · exact (State.n_putZ64_field _ (by decide)).trans ((hother _ (by decide) 0).trans hu)
    · exact congrArg Eng.aborted heng
    · exact (State.engKeep_putZ64 _ _ _ _ _ rfl).trans (hkeep.trans hk)
  obtain ⟨hb1, hb2, hb3, hb4, hb5⟩ := hbrake
  rcases hcase with h | h | h | h | h
  · have e1 : u.engAbort e = u.putN .prfState e 0 := by unfold State.engAbort; rw [hst, h]; rfl
    rw [e1, h]
    exact ⟨(State.n_putN_field _ (by decide)).trans hu, State.n_putN_same _ _ _ _ _ (by decide), fun h => absurd h (by decide), fun h => absurd rfl h,
      (State.engKeep_putN _ _ _ _ _ _ rfl).trans hk⟩
  · have e2 : u.engAbort e = (u.engBrake e true).putZ64 .prfRemaining e 0 := by unfold State.engAbort; rw [hst, h]; rfl
    rw [e2, h]
    exact ⟨hb1, hb2, fun _ => hb3, fun _ => hb4, hb5⟩
  · have e3 : u.engAbort e = (u.putEng e { u.eng e with aborted := true }).putZ64 .prfRemaining e 0 := by
      unfold State.engAbort; rw [hst, h]; rfl
    rw [e3, h]
    refine ⟨(State.n_putZ64_field _ (by decide)).trans hu, ?_, fun _ => ?_, fun _ => (State.n64_putZ64 _ _ _ _).trans rfl, ?_⟩
    · exact (State.n_putZ64_field _ (by decide)).trans (hst.trans h)
    · exact congrArg Eng.aborted (u.eng_putEng_same e { u.eng e with aborted := true })
    · rw [State.engKeep_putZ64 _ _ _ _ _ rfl, State.engKeep_putEng, hk]
  · have e4 : u.engAbort e = (u.putN .prfState e 0).putZ64 .prfRemaining e 0 := by unfold State.engAbort; rw [hst, h]; rfl
    rw [e4, h]
    refine ⟨?_, ?_, fun h => absurd h (by decide), fun _ => (State.n64_putZ64 _ _ _ _).trans rfl, ?_⟩
    · rw [State.n_putZ64_field _ (by decide), State.n_putN_field _ (by decide)]; exact hu
    · rw [State.n_putZ64_field _ (by decide)]; exact State.n_putN_same _ _ _ _ _ (by decide)
    · rw [State.engKeep_putZ64 _ _ _ _ _ rfl, State.engKeep_putN _ _ _ _ _ _ rfl, hk]
  · have e5 : u.engAbort e = (u.engBrake e true).putZ64 .prfRemaining e 0 := by unfold State.engAbort; rw [hst, h]; rfl
    rw [e5, h]
    exact ⟨hb1, hb2, fun _ => hb3, fun _ => hb4, hb5⟩

end Sys2Proof.Machine
end

section
/-!
SUPPORT. Proofs/Homing.lean: HOME, with its failure, the issue of a token, and the obligation on the commands of an engine (sections 8.4
to 8.6).
-/
namespace Sys2Proof.Machine

/-! ## HOME -/

/-- The engine's record at the start of a homing (R263). -/
def State.homeTake (s : State) (e : Nat) : Eng := { s.engTake e with homeFrom := s.engSrc e, homeOrg := s.z64 .prfOrigin e }

theorem State.engHome_eq (s : State) (e : Nat) : s.engHome e =
    let s1 := s.putEng e (s.homeTake e)
    if s1.homeUnfit e then s1.homeFail e 3
    else s1.homeRun e 1 (s1.homeDirOf e * (if s1.n .prfHomeMode e = 4 then s1.r .prfHomeCreep e else s1.r .prfHomeSpeed e)) := rfl

/-- A homing motion. -/
theorem State.homeRun_effect (s : State) (e stage : Nat) (v : Rat) :
    let t := s.homeRun e stage v
    t.n .prfState e = 5 ∧ t.n .prfCmd e = s.n .prfCmd e ∧ (t.eng e).stage = stage ∧ (t.eng e).homeFrom = (s.eng e).homeFrom ∧
      (t.eng e).homeOrg = (s.eng e).homeOrg ∧ t.engKeep e = s.engKeep e := by
  unfold State.homeRun
  extract_lets x idx l t
  have ht : t.eng e = { x with stage := stage, idx0 := idx, plan := planVel { x.limits with jMax := 0 } x.s0 v, stopNs := 0 } :=
    s.eng_putEng_same e _
  rw [ht]
  exact ⟨State.n_putN_same _ _ _ _ _ (by decide), State.n_putN_field _ (by decide), rfl, rfl, rfl,
    (State.engKeep_putN _ _ _ _ _ _ rfl).trans (s.engKeep_putEng e _)⟩

theorem State.engRebase_effect (s : State) (e : Nat) : (s.engRebase e).pts = s.pts ∧ (s.engRebase e).so = s.so ∧
    ((s.engRebase e).eng e).homeFrom = (s.eng e).homeFrom ∧ ((s.engRebase e).eng e).homeOrg = (s.eng e).homeOrg ∧
    (s.engRebase e).engKeep e = s.engKeep e := by
  unfold State.engRebase
  extract_lets x sh moved
  rw [State.eng_putEng_same]
  exact ⟨rfl, rfl, rfl, rfl, s.engKeep_putEng e _⟩

/-- A homing that fails: the deceleration, `HOMED` cleared, and the event with its interrupt (R264). -/
theorem State.homeFail_effect (s : State) (e : EngineNo) (cause : Nat) :
    let t := s.homeFail e cause
    t.n .prfState e = 3 ∧ t.n .prfCmd e = s.n .prfCmd e ∧ (t.eng e).failed = cause ∧ (t.eng e).homeFrom = (s.eng e).homeFrom ∧
      (t.eng e).homeOrg = (s.eng e).homeOrg ∧ Arith.bit (t.n .prfStatus e) 1 = false ∧ Raised s t 0x0523 kEngine e ∧
      (t.src (65 + e)).pend = true ∧ t.engKeep e = s.engKeep e := by
  unfold State.homeFail State.engEvent
  extract_lets s0 c s1 t
  obtain ⟨hpts, hso, hfrom, horg, hkeep0⟩ := (s.putZ64 .prfOrigin e (s.eng e).homeOrg).engRebase_effect e
  have h1 : s1.eng e = { s0.eng e with failed := cause } := s0.eng_putEng_same e _
  have hcmd : s1.n .prfCmd e = s.n .prfCmd e :=
    (State.n_ext (by simp only [State.w]; exact congrArg (Store.get · _) hpts)).trans (State.n_putZ64_field _ (by decide))
  have hkeep1 : s1.engKeep e = s.engKeep e :=
    (s0.engKeep_putEng e _).trans (hkeep0.trans (State.engKeep_putZ64 _ _ _ _ _ rfl))
  obtain ⟨h3, hother, hkeep2, plan, heng⟩ := s1.engBrake_effect e true
  have hso1 : (s1.engBrake e true).so = s.so := hso
  have hpend : (t.src (65 + e)).pend = true := State.irqFire_self _ _ (by fin_cases e <;> rfl)
  have hraised : Raised s t 0x0523 kEngine e := by
    intro p q
    rw [show t.so = _ from State.irqFire_so _ _]
    exact State.raise_raised (s := s) ((s1.engBrake e true).engFlag e 1 false) _ _ _ _ hso1 p q
  have hq : t.quiet = ((s1.engBrake e true).engFlag e 1 false).quiet := (State.irqFire_quiet _ _).trans (State.raise_quiet _ _ _ _ _)
  clear_value t
  generalize s1.engBrake e true = b at h3 hother hkeep2 heng hq
  have hfin : t.eng e = b.eng e := (State.eng_of_engs (State.engs_of_quiet hq) e).trans rfl
  rw [hfin, heng, h1]
  refine ⟨?_, ?_, rfl, hfrom, horg, ?_, hraised, hpend, ?_⟩
  · rw [State.n_of_quiet hq _ _ _ rfl, State.engFlag, State.n_putN_field _ (by decide), h3]
  · rw [State.n_of_quiet hq _ _ _ rfl, State.engFlag, State.n_putN_field _ (by decide), hother _ (by decide), hcmd]
  · rw [State.n_of_quiet hq _ _ _ rfl]; exact b.bit_putN_setBit _ _ _ _ _ (by decide)
  · rw [State.engKeep_of_quiet _ hq, State.engFlag, State.engKeep_putN _ _ _ _ _ _ rfl, hkeep2, hkeep1]

/-- Whether a homing suits its source does not depend on the engine's record. -/
theorem State.homeUnfit_taken (s : State) (e : Nat) (x : Eng) :
    ((s.putN .prfCmd e 5).putEng e x).homeUnfit e = s.homeUnfit e := by
  have hn : ∀ f i j, f ≠ .prfCmd → ((s.putN .prfCmd e 5).putEng e x).n f i j = s.n f i j := fun f i j hf => State.n_putN_field _ hf
  have hch : ((s.putN .prfCmd e 5).putEng e x).engChannel e = s.engChannel e := by
    simp only [State.engChannel, hn .prfTargetIdx _ _ (by decide), hn .prfTargetKind _ _ (by decide), hn .axisFbSrc _ _ (by decide),
      hn .shaftLeaderOrder _ _ (by decide)]
    rfl
  simp only [State.homeUnfit, hch, hn .prfHomeMode _ _ (by decide), hn .fbKind _ _ (by decide), hn .prfTargetKind _ _ (by decide),
    hn .axisKind _ _ (by decide), hn .prfTargetIdx _ _ (by decide)]

theorem State.engSrc_putN (s : State) (e i v : Nat) : (s.putN .prfCmd i v).engSrc e = s.engSrc e := by
  have hn : ∀ f i' j, f ≠ .prfCmd → (s.putN .prfCmd i v).n f i' j = s.n f i' j := fun f i' j hf => State.n_putN_field _ hf
  have hr : ∀ f i' j, f ≠ .prfCmd → (s.putN .prfCmd i v).r f i' j = s.r f i' j := fun f i' j hf => State.r_put_field _ _ hf
  have hd : ∀ d, (s.putN .prfCmd i v).driveSrc e d = s.driveSrc e d := fun d => by
    have hfb : (s.putN .prfCmd i v).driveFb d = s.driveFb d := rfl
    simp only [State.driveSrc, hfb, State.z64, State.n64, hn .fbPos _ _ (by decide)]
    rfl
  have hm : ∀ g, (s.putN .prfCmd i v).shaftMembers g = s.shaftMembers g := fun g => rfl
  simp only [State.engSrc, hd, hn .prfTargetIdx _ _ (by decide), hn .prfTargetKind _ _ (by decide), hn .axisKind _ _ (by decide),
    hn .axisFbSrc _ _ (by decide), hn .shaftLeaderOrder _ _ (by decide), hr .shaftRatio _ _ (by decide), State.z64, State.n64,
    hn .fbPos _ _ (by decide), hm]
  rfl

theorem profileHome_searches (e : EngineNo) (s : State) (h : s.n .prfState e = 0 ∨ s.n .prfState e = 4) :
    Yields (exec (.profileHome e) s) fun t =>
      t.n .prfCmd e = 5 ∧ (t.eng e).homeFrom = s.engSrc e ∧ (t.eng e).homeOrg = s.z64 .prfOrigin e ∧
      (s.homeUnfit e = false → t.n .prfState e = 5 ∧ (t.eng e).stage = 1) ∧
      (s.homeUnfit e = true → t.n .prfState e = 3 ∧ (t.eng e).failed = 3 ∧ Arith.bit (t.n .prfStatus e) 1 = false ∧
        Raised s t 0x0523 kEngine e ∧ (t.src (65 + e)).pend = true) ∧ t.engKeep e = s.engKeep e := by
  let u := s.putN .prfCmd e 5
  have hok : s.engCmdStatus e 5 = 0 := by rcases h with h | h <;> simp [State.engCmdStatus, engAccepts, h]
  let s1 := u.putEng e (u.homeTake e)
  have hs1 : s1.eng e = u.homeTake e := u.eng_putEng_same e _
  have hfrom : (s1.eng e).homeFrom = s.engSrc e := (congrArg Eng.homeFrom hs1).trans (s.engSrc_putN e e 5)
  have horg : (s1.eng e).homeOrg = s.z64 .prfOrigin e := by
    refine (congrArg Eng.homeOrg hs1).trans ?_
    have : u.z64 .prfOrigin e = s.z64 .prfOrigin e := by simp only [State.z64, u, State.n64_putN_field s (show Field.prfOrigin ≠ .prfCmd by decide)]
    exact this
  have hcmd : s1.n .prfCmd e = 5 := s.n_putN_same _ _ _ _ (by decide)
  have hk : s1.engKeep e = s.engKeep e := (u.engKeep_putEng e _).trans (s.engKeep_putN _ _ _ _ _ rfl)
  have hunfit : s1.homeUnfit e = s.homeUnfit e := s.homeUnfit_taken e _
  refine ⟨u.engHome e, congrArg Host.Outcome.next (s.engCmd_eq e 5 hok), ?_⟩
  rw [u.engHome_eq e]
  dsimp only
  rw [show u.putEng e (u.homeTake e) = s1 from rfl, hunfit]
  cases hu : s.homeUnfit e with
  | false =>
    rw [if_neg (by decide)]
    generalize s1.homeDirOf e * _ = v
    obtain ⟨h5, hc, hst, hf, ho, hkeep⟩ := s1.homeRun_effect e 1 v
    exact ⟨hc.trans hcmd, hf.trans hfrom, ho.trans horg, fun _ => ⟨h5, hst⟩, nofun, hkeep.trans hk⟩
  | true =>
    rw [if_pos rfl]
    obtain ⟨h3, hc, hfail, hf, ho, hbit, hr, hp, hkeep⟩ := s1.homeFail_effect e 3
    exact ⟨hc.trans hcmd, hf.trans hfrom, ho.trans horg, nofun, fun _ => ⟨h3, hfail, hbit, hr.of_so rfl, hp⟩, hkeep.trans hk⟩

/-- Settles O32: each command by its lemma, with the frame of `State.engKeep`. -/
theorem profileCommands : Obligations.ProfileCommands := by
  unfold Obligations.ProfileCommands
  intro e s only st
  have honly : ∀ t : State, t.engKeep e = s.engKeep e → only t := fun t h => State.engKeep_only h
  refine ⟨fun h => ?_, fun h => ?_, fun h hf => ?_, fun h1 h5 => ?_, fun h => ?_, fun k => ?_⟩
  · obtain ⟨t, ht, h1, h2, h3, h4, h5, h6, h7, h8, h9, hk⟩ := profileGo_moves e s h
    exact ⟨t, ht, h1, h2, h3, h4, h5, h6, h7, h8, h9, honly t hk⟩
  · obtain ⟨t, ht, h1, h2, h3, hk⟩ := profileStop_decelerates e s h
    exact ⟨t, ht, h1, h2, h3, honly t hk⟩
  · obtain ⟨t, ht, h1, h2, h3, h4, h5, h6, hk⟩ := profileResume_moves e s h hf
    exact ⟨t, ht, h1, h2, h3, h4, h5, h6, honly t hk⟩
  · obtain ⟨t, ht, h1, h2, h3, h4, hk⟩ := profileAbort_ends e s h1 h5
    exact ⟨t, ht, h1, h2, h3, h4, honly t hk⟩
  · obtain ⟨t, ht, h1, h2, h3, h4, h5, hk⟩ := profileHome_searches e s h
    exact ⟨t, ht, h1, h2, h3, h4, h5, honly t hk⟩
  · exact ⟨s.issueTok e k, rfl, s.n_putN_same _ _ _ _ (by omega), rfl, by simp [State.issueTok], SamePoints.put s .prfIssueToken e _ 0⟩

end Sys2Proof.Machine
end

section
/-!
SUPPORT. Proofs/Regimes.lean: what the shared operations on a drive's regime leave (sections 6.1 and 6.2): a change of regime, the start
of a halt, a cause that arises. Everything else follows from `DriveOnly`.
-/
namespace Sys2Proof.Machine

/-! ## What a change of one drive leaves -/

section
variable {s t : State} {d : Nat} {ps : List Pt}

theorem DriveOnly.w (h : DriveOnly s t d ps) (f : Field) (i j : Nat) (hp : (⟨f, i, j⟩ : Pt) ∉ ps) (hf : fieldReports f = false) :
    t.w f i j = s.w f i j := h.2.2 f i j hp hf

theorem DriveOnly.n (h : DriveOnly s t d ps) (f : Field) (i j : Nat) (hp : (⟨f, i, j⟩ : Pt) ∉ ps) (hf : fieldReports f = false) :
    t.n f i j = s.n f i j := h.2.2.n f i j hp hf

theorem DriveOnly.r (h : DriveOnly s t d ps) (f : Field) (i j : Nat) (hp : (⟨f, i, j⟩ : Pt) ∉ ps) (hf : fieldReports f = false) :
    t.r f i j = s.r f i j := by
  simp only [State.r, h.w f i j hp hf]

theorem DriveOnly.clk (h : DriveOnly s t d ps) : t.clk = s.clk := (congrArg State.clk h.1 :)

theorem DriveOnly.plant (h : DriveOnly s t d ps) : t.plant = s.plant := (congrArg State.plant h.1 :)

theorem DriveOnly.shafts (h : DriveOnly s t d ps) : t.shafts = s.shafts := (congrArg State.shafts h.1 :)

theorem DriveOnly.shaftOf (h : DriveOnly s t d ps) (e : Nat) : t.shaftOf e = s.shaftOf e := by
  simp only [State.shaftOf, h.plant]

theorem DriveOnly.epoch (h : DriveOnly s t d ps) : t.epoch = s.epoch := congrArg Clock.epoch h.clk

theorem DriveOnly.now (h : DriveOnly s t d ps) : t.now = s.now := congrArg Clock.now h.clk

end

/-! ## Changes of regime -/

/-- A drive may enter any regime that ranks no later than the one that it is in (R186). -/
theorem State.mayTurn_of_rank (s : State) (d new : Nat) (h : regimeRank new ≤ regimeRank (s.regime d)) : s.mayTurn d new = true := by
  simp [State.mayTurn, Nat.not_lt.2 h]

/-- A drive in Normal, Limp, Render or Crash may always be stopped. -/
theorem State.mayTurn_stop (s : State) (d : Nat) (h1 : 1 ≤ s.regime d) (h4 : s.regime d ≤ 4) : s.mayTurn d 0 = true := by
  refine s.mayTurn_of_rank d 0 ?_
  generalize s.regime d = r at h1 h4 ⊢
  interval_cases r <;> decide

/-- A drive that is not Blocked may always be faulted. -/
theorem State.mayTurn_fault (s : State) (d : Nat) (h : s.regime d ≠ 7) : s.mayTurn d 6 = true := by
  refine s.mayTurn_of_rank d 6 ?_
  change 1 ≤ regimeRank (s.regime d)
  generalize s.regime d = r at h ⊢
  unfold regimeRank
  split
  · exact absurd rfl h
  all_goals decide

theorem State.began_of (s : State) (d : Nat) (h : (s.drv d).turnAt ≠ some s.epoch) : s.began d = s.regime d := if_neg h

theorem State.enterRegime_same (s : State) (d new : Nat) (h : s.regime d = new) : s.enterRegime d new = s := if_pos (.inl h)

/-- The record of a drive that has changed its regime. -/
theorem State.enterRegime_turned (s : State) (d new : Nat) (ht : s.mayTurn d new = true) (h : s.regime d ≠ new) :
    (s.enterRegime d new).drv d = { (if s.regime d = 3 ∨ s.regime d = 4 then s.leftRecord d else s.drv d) with
      turnAt := some s.epoch, began := s.began d } := by
  rw [State.enterRegime_drv, if_neg (by simp [h, ht]), State.leaveRegime_drv]

/-- A drive that leaves Render or Crash starts again from its present speed and its last torque (R194, R217). -/
theorem State.enterRegime_left (s : State) (d new : Nat) (ht : s.mayTurn d new = true) (h : s.regime d ≠ new)
    (h34 : s.regime d = 3 ∨ s.regime d = 4) : let k := (s.enterRegime d new).drv d
    k.spdX = s.lastTorque d ∧ k.refEff = s.r .drvSpeedEst d ∧ k.renderCmd = false := by
  rw [s.enterRegime_turned d new ht h, if_pos h34]
  exact ⟨rfl, rfl, rfl⟩

/-- What a change of regime leaves of a drive's record, whether or not it is made. -/
theorem State.enterRegime_keeps {α : Type} (g : Drv → α) (s : State) (d new : Nat)
    (hg : ∀ (k : Drv) (a : Option Nat) (b : Nat), g { k with turnAt := a, began := b } = g k)
    (hl : g (s.leftRecord d) = g (s.drv d)) : g ((s.enterRegime d new).drv d) = g (s.drv d) := by
  rw [State.enterRegime_drv]
  split
  · rfl
  · rw [hg, State.leaveRegime_drv]
    split
    · exact hl
    · rfl

/-- Leaving Crash ends its phases (R217). -/
theorem State.enterRegime_crashPhase (s : State) (d new : Nat) (ht : s.mayTurn d new = true) (h : s.regime d ≠ new) :
    (s.enterRegime d new).n .drvCrashPhase d = if s.regime d = 4 then 0 else s.n .drvCrashPhase d := by
  unfold State.enterRegime
  extract_lets old s1 k s2
  rw [if_neg (by simp [h, ht, old])]
  rw [State.n_of_quiet ((State.irqFire_quiet _ _).trans (State.raiseLane_quiet s2 _ _ _ _)) _ _ _ rfl]
  have hs : s2.n .drvCrashPhase d = (s.leaveRegime d new).n .drvCrashPhase d := by
    simp only [s2, s1, State.putDrv_n]
    rw [State.n_putN_field _ (by decide), State.n_putN_field _ (by decide)]
  rw [hs]
  unfold State.leaveRegime
  extract_lets b c e f
  have hf : f.n .drvCrashPhase d = if s.regime d = 4 then 0 else s.n .drvCrashPhase d := by
    simp only [f]
    split
    · exact State.n_putN_same _ _ _ _ _ (by decide)
    · rfl
  split
  · rw [State.n_of_quiet (State.raiseLane_quiet f _ _ _ _) _ _ _ rfl]; exact hf
  · exact hf

theorem State.normalOrLimp_lt (s : State) (d : Nat) : s.normalOrLimp d < 2 ^ 32 := by
  unfold State.normalOrLimp; split <;> decide

/-! ## The start of a halt (R183) -/

theorem State.haltStart_eq (s : State) (d : Nat) (ht : s.mayTurn d 0 = true) : s.haltStart d =
    let s1 := (s.enterRegime d 0).putN .drvHalting d 1
    let k := s1.drv d
    s1.putDrv d { k with stopAt := if s1.isLine d then some s1.now else none, rampFrom := (s.drv d).tEff, rampAt := s1.now,
                         refEff := if s.regime d == 3 || (s.regime d != 4 && s.ctrlMode d != 0) then k.refEff
                           else s1.r .drvSpeedEst d,
                         preset := k.preset || s.regime d == 4 || (s.regime d != 3 && s.ctrlMode d != 1) } := by
  unfold State.haltStart
  rw [ht]
  rfl

theorem State.haltStart_only (s : State) (d : Nat) : DriveOnly s (s.haltStart d) d (regimePoints d) := by
  cases ht : s.mayTurn d 0 with
  | false => rw [show s.haltStart d = s from if_pos (by simp [ht])]; exact DriveOnly.refl _ _ _
  | true =>
    rw [s.haltStart_eq d ht]
    exact (((s.enterRegime_only d 0).trans (DriveOnly.putN _ _ _ _ _ _)).trans (DriveOnly.putDrv _ _ _)).mono (by simp [regimePoints])

theorem State.haltStart_regime (s : State) (d : Nat) (ht : s.mayTurn d 0 = true) : (s.haltStart d).regime d = 0 := by
  rw [s.haltStart_eq d ht]
  exact (State.n_putN_field _ (by decide)).trans (s.enterRegime_regime d 0 ht (by decide))

theorem State.haltStart_halting (s : State) (d : Nat) (ht : s.mayTurn d 0 = true) : (s.haltStart d).n .drvHalting d = 1 := by
  rw [s.haltStart_eq d ht]
  exact State.n_putN_same _ _ _ _ _ (by decide)

/-- The record of a drive that begins to halt: where its reference and its first demand come from (R115, R183). -/
theorem State.haltStart_drv (s : State) (d : Nat) (ht : s.mayTurn d 0 = true) : let k := (s.haltStart d).drv d
    k.rampFrom = (s.drv d).tEff ∧
    (s.regime d = 4 ∨ (s.regime d ≠ 3 ∧ s.ctrlMode d ≠ 1) → k.preset = true) ∧
    (s.regime d = 1 ∨ s.regime d = 2 → s.ctrlMode d ≠ 0 → k.refEff = (s.drv d).refEff) ∧
    (s.regime d = 3 ∨ s.regime d = 4 ∨ s.ctrlMode d = 0 → s.regime d ≠ 0 → k.refEff = s.r .drvSpeedEst d) ∧
    k.causes = (s.drv d).causes ∧ k.holdHost = (s.drv d).holdHost := by
  have hspeed : ((s.enterRegime d 0).putN .drvHalting d 1).r .drvSpeedEst d = s.r .drvSpeedEst d :=
    (State.r_put_field _ _ (by decide)).trans ((s.enterRegime_only d 0).r _ _ _ (by simp [regimePoints]) rfl)
  rw [s.haltStart_eq d ht]
  dsimp only
  rw [State.drv_putDrv_same, State.drv_putN, hspeed]
  refine ⟨rfl, fun h => ?_, fun h hm => ?_, fun h h0 => ?_, s.enterRegime_keeps Drv.causes d 0 (fun _ _ _ => rfl) rfl,
    s.enterRegime_keeps Drv.holdHost d 0 (fun _ _ _ => rfl) rfl⟩
  · rcases h with h | ⟨h3, hm⟩
    · simp [h]
    · simp [h3, hm]
  · have h34 : ¬(s.regime d = 3 ∨ s.regime d = 4) := by omega
    rw [s.enterRegime_turned d 0 ht (by omega), if_neg h34]
    rcases h with h | h <;> simp [h, hm]
  · rw [s.enterRegime_turned d 0 ht h0]
    rcases h with h | h | h
    · simp [h, State.leftRecord]
    · simp [h]
    · by_cases h3 : s.regime d = 3 <;> simp [h, h3, State.leftRecord]

/-! ## A cause arises (R187) -/

/-- A cause that its drive's state spares: the drive is Blocked, or the cause is soft and the device overrides it or the drive
releases (R188, R222). -/
def State.spares (s : State) (d c : Nat) : Prop := s.regime d = 7 ∨ (causeSoft c = true ∧ (s.mode = 4 ∨ s.regime d = 5))

theorem State.faultDrive_spared (s : State) (d c : Nat) (h : s.spares d c) :
    s.faultDrive d c = s.markCause d c true ∨ s.faultDrive d c = (s.markCause d c true).raiseLane 0x0325 kDrive d c := by
  by_cases h7 : s.regime d = 7
  · exact .inl (if_pos h7)
  · exact .inr ((if_neg h7).trans (if_pos (h.resolve_left h7)))

theorem State.faultDrive_faults (s : State) (d c : Nat) (h : ¬s.spares d c) : s.faultDrive d c =
    (if s.n .drvFaultCause d = 0 then (s.markCause d c true).putN .drvFaultCause d c else s.markCause d c true).enterRegime d 6 := by
  obtain ⟨h7, hs⟩ := not_or.1 h
  exact (if_neg h7).trans (if_neg hs)

theorem State.faultDrive_only (s : State) (d c : Nat) :
    DriveOnly s (s.faultDrive d c) d (⟨.drvFaultCause, d, 0⟩ :: regimePoints d) := by
  have hm : DriveOnly s (s.markCause d c true) d [] := DriveOnly.putDrv _ _ _
  by_cases h : s.spares d c
  · rcases s.faultDrive_spared d c h with e | e <;> rw [e]
    · exact hm.mono (by simp)
    · exact (hm.trans (DriveOnly.of_quiet (State.raiseLane_quiet _ _ _ _ _) d)).mono (by simp)
  · rw [s.faultDrive_faults d c h]
    have h1 : DriveOnly s (if s.n .drvFaultCause d = 0 then (s.markCause d c true).putN .drvFaultCause d c
        else s.markCause d c true) d [⟨.drvFaultCause, d, 0⟩] :=
      DriveOnly.ite _ (hm.trans (DriveOnly.putN _ _ _ _ _ _)) (hm.mono (by simp))
    exact (h1.trans (State.enterRegime_only _ d 6)).mono (by simp)

theorem State.markCause_bit (s : State) (d c : Nat) : Arith.bit ((s.markCause d c true).drv d).causes c = true := by
  simp [State.markCause]

theorem State.faultDrive_faulted (s : State) (d c : Nat) (hc : c < 2 ^ 32) : FaultedBy s (s.faultDrive d c) d c := by
  by_cases h : s.spares d c
  · rcases s.faultDrive_spared d c h with e | e <;> rw [e]
    · exact ⟨s.markCause_bit d c, fun _ => ⟨rfl, rfl⟩, fun h7 hs => absurd h (not_or.2 ⟨h7, hs⟩)⟩
    · have hq := State.raiseLane_quiet (s.markCause d c true) 0x0325 kDrive d c
      refine ⟨?_, fun _ => ⟨State.n_of_quiet hq _ _ _ rfl, State.n_of_quiet hq _ _ _ rfl⟩, fun h7 hs => absurd h (not_or.2 ⟨h7, hs⟩)⟩
      rw [State.drv_raiseLane]; exact s.markCause_bit d c
  · have h7 : s.regime d ≠ 7 := fun e => h (.inl e)
    rw [s.faultDrive_faults d c h]
    generalize hu : (if s.n .drvFaultCause d = 0 then (s.markCause d c true).putN .drvFaultCause d c else s.markCause d c true) = u
    have hdrv : u.drv d = (s.markCause d c true).drv d := by rw [← hu]; split <;> rfl
    have hreg : u.regime d = s.regime d := by
      rw [← hu]; split
      · exact State.n_putN_field _ (by decide)
      · rfl
    have hcause : u.n .drvFaultCause d = if s.n .drvFaultCause d = 0 then c else s.n .drvFaultCause d := by
      rw [← hu]; split
      · exact State.n_putN_same _ _ _ _ _ hc
      · rfl
    refine ⟨?_, fun hs => absurd hs h, fun _ _ => ⟨?_, ?_⟩⟩
    · rw [u.enterRegime_keeps Drv.causes d 6 (fun _ _ _ => rfl) rfl, hdrv]; exact s.markCause_bit d c
    · exact u.enterRegime_regime d 6 (u.mayTurn_fault d (by rw [hreg]; exact h7)) (by decide)
    · exact ((u.enterRegime_only d 6).n _ _ _ (by simp [regimePoints]) rfl).trans hcause

end Sys2Proof.Machine
end

section
/-!
SUPPORT. Proofs/RunBlock.lean: the run, block and fault-reset commands of a drive (section 6.1).
-/
namespace Sys2Proof.Machine

theorem State.turn_of {s : State} {d new : Nat} (eff : State → State) (h : s.mayTurn d new = true) : s.turn d new eff = eff s :=
  if_pos h

theorem State.regime_putN (s : State) {f : Field} (i v d : Nat) (h : f ≠ .drvRegime) : (s.putN f i v).regime d = s.regime d :=
  State.n_putN_field _ h.symm

theorem State.ctrlMode_putN (s : State) {f : Field} (i v d : Nat) (h : f ≠ .drvCtrlMode ∧ f ≠ .shaftCtrlMode) :
    (s.putN f i v).ctrlMode d = s.ctrlMode d := by
  unfold State.ctrlMode
  rw [show (s.putN f i v).shaftOf d = s.shaftOf d from rfl]
  split
  · exact State.n_putN_field _ h.2.symm
  · exact State.n_putN_field _ h.1.symm

theorem State.normalOrLimp_putN (s : State) {f : Field} (i v d : Nat) (h : f ≠ .drvLimpCause) :
    (s.putN f i v).normalOrLimp d = s.normalOrLimp d := by
  unfold State.normalOrLimp
  rw [State.n_putN_field _ h.symm]

theorem State.runOnOk_stopped {s : State} {d : Nat} (ht : (s.drv d).turnAt ≠ some s.epoch) (h : s.runOnOk d = true) :
    s.regime d = 0 := by
  simp only [State.runOnOk, Bool.and_eq_true, beq_iff_eq] at h
  rw [← s.began_of d ht]
  exact h.1.1

/-- `run_cmd` 1 outside device Halt. -/
theorem State.runOn_effect (s : State) (d : Nat) (ht : (s.drv d).turnAt ≠ some s.epoch) (h0 : s.regime d = 0) (h5 : s.mode ≠ 5) :
    let t := s.runOn d
    t.regime d = s.normalOrLimp d ∧ t.n .drvHalting d = 0 ∧ (t.drv d).refEff = s.r .drvSpeedEst d ∧
      DriveOnly s t d (⟨.drvHostState, d, 0⟩ :: regimePoints d) := by
  unfold State.runOn
  rw [State.turn_of _ (s.mayTurn_of d _ ht)]
  extract_lets k s1 s2 s3 t
  have h1 : DriveOnly s s1 d [] := DriveOnly.putDrv _ _ _
  have h2 : DriveOnly s s2 d [⟨.drvHostState, d, 0⟩] := DriveOnly.ite _ (h1.trans (DriveOnly.putN _ _ _ _ _ _)) (h1.mono (by simp))
  have hdrv : s2.drv d = { s.drv d with refEff := s.r .drvSpeedEst d, spdX := 0, stopAt := none } := by
    refine Eq.trans ?_ (s.drv_putDrv_same d _)
    simp only [s2]; split <;> rfl
  have hnl : s2.normalOrLimp d = s.normalOrLimp d := by
    simp only [State.normalOrLimp, h2.n .drvLimpCause d 0 (by simp) rfl]
  have hreg : s2.regime d = 0 := (h2.n .drvRegime d 0 (by simp) rfl).trans h0
  have hne : s2.regime d ≠ s2.normalOrLimp d := by rw [hreg, State.normalOrLimp]; split <;> decide
  have hmt : s2.mayTurn d (s2.normalOrLimp d) = true := s2.mayTurn_of d _ (by rw [hdrv, h2.epoch]; exact ht)
  have h3 := h2.trans (s2.enterRegime_only d (s2.normalOrLimp d))
  have hmode : s3.mode ≠ 5 := by
    rw [State.mode, h3.n .devMode 0 0 (by simp [regimePoints]) rfl]; exact h5
  rw [show t = s3 from if_neg hmode]
  refine ⟨?_, s2.enterRegime_halting d _ hmt hne, ?_, h3.mono (by simp)⟩
  · exact (s2.enterRegime_regime d _ hmt (s2.normalOrLimp_lt d)).trans hnl
  · rw [s2.enterRegime_turned d _ hmt hne, hreg, hdrv]; rfl

theorem runCmdOn_runs (d : DriveNo) (s : State) (ht : (s.drv d).turnAt ≠ some s.epoch) (ho : s.ownsCmd d = true)
    (hok : s.runOnOk d = true) (h5 : s.mode ≠ 5) : Yields (exec (.runCmdOn d) s) fun t =>
      t.n .drvRunCmd d = 1 ∧ t.regime d = (if s.n .drvLimpCause d = 0 then 1 else 2) ∧ t.n .drvHalting d = 0 ∧
      (t.drv d).refEff = s.r .drvSpeedEst d ∧
      DriveOnly s t d (⟨.drvRunCmd, d, 0⟩ :: ⟨.drvHostState, d, 0⟩ :: regimePoints d) := by
  let u := s.putN .drvRunCmd d 1
  have h0 : u.regime d = 0 := (s.regime_putN d 1 d (by decide)).trans (State.runOnOk_stopped ht hok)
  have hmode : u.mode ≠ 5 := by rw [State.mode, State.n_putN_field _ (by decide)]; exact h5
  obtain ⟨hreg, hhalt, href, honly⟩ := u.runOn_effect d ht h0 hmode
  refine yields_command (by simp [ho, hok]) ⟨?_, ?_, hhalt, ?_, (DriveOnly.putN s _ d d 1 0).trans honly⟩
  · exact (honly.n _ _ _ (by simp [regimePoints]) rfl).trans State.n_putN_run
  · exact hreg.trans (s.normalOrLimp_putN d 1 d (by decide))
  · exact href.trans (State.r_put_field _ _ (by decide))

theorem runCmdOff_halts (d : DriveNo) (s : State) (ht : (s.drv d).turnAt ≠ some s.epoch) (ho : s.ownsCmd d = true)
    (hok : s.runOffOk d = true) : Yields (exec (.runCmdOff d) s) fun t =>
      t.n .drvRunCmd d = 0 ∧ t.regime d = 0 ∧ (s.regime d = 0 → t = s.putN .drvRunCmd d 0) ∧
      (s.regime d ≠ 0 → t.n .drvHalting d = 1 ∧ (t.drv d).rampFrom = (s.drv d).tEff ∧
        (s.regime d = 4 ∨ (s.regime d ≠ 3 ∧ s.ctrlMode d ≠ 1) → (t.drv d).preset = true) ∧
        (s.regime d = 1 ∨ s.regime d = 2 → s.ctrlMode d ≠ 0 → (t.drv d).refEff = (s.drv d).refEff) ∧
        (s.regime d = 3 ∨ s.regime d = 4 ∨ s.ctrlMode d = 0 → (t.drv d).refEff = s.r .drvSpeedEst d)) ∧
      DriveOnly s t d (⟨.drvRunCmd, d, 0⟩ :: regimePoints d) := by
  let u := s.putN .drvRunCmd d 0
  have hr : u.regime d = s.regime d := s.regime_putN d 0 d (by decide)
  have hc : u.ctrlMode d = s.ctrlMode d := s.ctrlMode_putN d 0 d (by decide)
  have hu : u.n .drvRunCmd d = 0 := State.n_putN_run
  have honly := DriveOnly.putN s .drvRunCmd d d 0 0
  refine yields_command (eff := fun t => t.runOff d) (by simp [ho, hok]) ?_
  by_cases h0 : s.regime d = 0
  · have hu0 : u.regime d = 0 := hr.trans h0
    rw [show (s.putN .drvRunCmd d 0).runOff d = u from if_pos hu0]
    exact ⟨hu, hu0, fun _ => rfl, absurd h0, honly.mono (by simp)⟩
  · have hmt : u.mayTurn d 0 = true := u.mayTurn_of d 0 ht
    rw [show (s.putN .drvRunCmd d 0).runOff d = u.haltStart d from if_neg (by rw [hr]; exact h0)]
    have hdrv := u.haltStart_drv d hmt
    rw [hr, hc, show u.r .drvSpeedEst d = s.r .drvSpeedEst d from State.r_put_field _ _ (by decide)] at hdrv
    obtain ⟨hramp, hpreset, href, hspeed, -, -⟩ := hdrv
    exact ⟨((u.haltStart_only d).n _ _ _ (by simp [regimePoints]) rfl).trans hu, u.haltStart_regime d hmt, (absurd · h0),
      fun _ => ⟨u.haltStart_halting d hmt, hramp, hpreset, href, fun h => hspeed h h0⟩, honly.trans (u.haltStart_only d)⟩

theorem blockCmdOn_blocks (d : DriveNo) (s : State) (ht : (s.drv d).turnAt ≠ some s.epoch) (hd : s.drives.contains d.val = true) :
    Yields (exec (.blockCmdOn d) s) fun t =>
      t.n .drvBlockCmd d = 1 ∧ t.regime d = 7 ∧ DriveOnly s t d (⟨.drvBlockCmd, d, 0⟩ :: regimePoints d) := by
  let u := s.putN .drvBlockCmd d 1
  have honly := u.enterRegime_only d 7
  exact yields_command hd ⟨(honly.n _ _ _ (by simp [regimePoints]) rfl).trans State.n_putN_run,
    u.enterRegime_regime d 7 (u.mayTurn_of d 7 ht) (by decide), (DriveOnly.putN s _ d d 1 0).trans honly⟩

/-! ## BLOCK_CMD_OFF -/

/-- A standing cause is one of Table 6.4, and applied in the present mode. -/
theorem State.standing_applies (s : State) (d : Nat) (h : s.standing d ≠ 0) :
    s.standing d < 2 ^ 32 ∧ ¬(causeSoft (s.standing d) = true ∧ s.mode = 4) := by
  unfold State.standing at h ⊢
  cases hf : (List.range' 1 11).find? (fun c => Arith.bit (s.drv d).causes c && !(causeSoft c && s.mode == 4)) with
  | none => rw [hf] at h; exact absurd rfl h
  | some c =>
    have hp := List.find?_some hf
    have hm := List.mem_of_find?_eq_some hf
    rw [List.mem_range'_1] at hm
    refine ⟨by simp; omega, fun hs => ?_⟩
    simp only [Option.getD_some] at hs
    simp [hs] at hp

/-- A Blocked drive becomes Stopped, or Faulted with the cause that stands. -/
theorem State.unblock_effect (s : State) (d : Nat) (ht : (s.drv d).turnAt ≠ some s.epoch) (h7 : s.regime d = 7) :
    let t := s.unblock d
    t.regime d = (if s.standing d = 0 then 0 else 6) ∧ t.n .drvHalting d = 0 ∧
      (s.standing d ≠ 0 → s.n .drvFaultCause d = 0 → t.n .drvFaultCause d = s.standing d) ∧
      DriveOnly s t d (⟨.drvFaultCause, d, 0⟩ :: regimePoints d) := by
  have hmt : s.mayTurn d 0 = true := s.mayTurn_of d 0 ht
  have h1 := s.enterRegime_only d 0
  have hr := s.enterRegime_regime d 0 hmt (by decide)
  have hh := s.enterRegime_halting d 0 hmt (by rw [show s.n .drvRegime d = 7 from h7]; decide)
  have hmode : (s.enterRegime d 0).mode = s.mode := h1.n .devMode 0 0 (by simp [regimePoints]) rfl
  have hst : (s.enterRegime d 0).standing d = s.standing d := by
    simp only [State.standing, hmode, s.enterRegime_keeps Drv.causes d 0 (fun _ _ _ => rfl) rfl]
  have hc : (s.enterRegime d 0).n .drvFaultCause d = s.n .drvFaultCause d := h1.n _ _ _ (by simp [regimePoints]) rfl
  unfold State.unblock
  dsimp only
  rw [hst]
  generalize s.enterRegime d 0 = u at h1 hr hh hmode hst hc
  by_cases h0 : s.standing d = 0
  · rw [if_pos h0, if_pos h0]
    exact ⟨hr, hh, fun h => absurd h0 h, h1.mono (by simp)⟩
  · rw [if_neg h0, if_neg h0]
    obtain ⟨hlt, hnot⟩ := s.standing_applies d h0
    have hur : u.regime d = 0 := hr
    obtain ⟨-, -, hfault⟩ := u.faultDrive_faulted d (s.standing d) hlt
    obtain ⟨hreg, hcause⟩ := hfault (by rw [hur]; decide) (by rw [hmode, hur]; simpa using hnot)
    refine ⟨hreg, ?_, fun _ hz => by rw [hcause, hc, hz]; rfl, (h1.trans (u.faultDrive_only d _)).mono (by simp [regimePoints])⟩
    rw [u.faultDrive_faults d _ (by rw [State.spares, hmode, hur]; simpa using hnot)]
    generalize hv : (if u.n .drvFaultCause d = 0 then (u.markCause d (s.standing d) true).putN .drvFaultCause d (s.standing d)
      else u.markCause d (s.standing d) true) = v
    have hvr : v.regime d = 0 := by
      rw [← hv]; split
      · exact (State.regime_putN _ _ _ _ (by decide)).trans hr
      · exact hr
    exact v.enterRegime_halting d 6 (v.mayTurn_fault d (by rw [hvr]; decide)) (by rw [show v.n .drvRegime d = 0 from hvr]; decide)

theorem blockCmdOff_unblocks (d : DriveNo) (s : State) (ht : (s.drv d).turnAt ≠ some s.epoch) (hd : s.drives.contains d.val = true)
    (hok : s.blockOffOk d = true) : Yields (exec (.blockCmdOff d) s) fun t =>
      t.n .drvBlockCmd d = 0 ∧ t.regime d = (if s.standing d = 0 then 0 else 6) ∧ t.n .drvHalting d = 0 ∧
      (s.standing d ≠ 0 → s.n .drvFaultCause d = 0 → t.n .drvFaultCause d = s.standing d) ∧
      DriveOnly s t d (⟨.drvBlockCmd, d, 0⟩ :: ⟨.drvFaultCause, d, 0⟩ :: regimePoints d) := by
  let u := s.putN .drvBlockCmd d 0
  have h7 : u.regime d = 7 := by
    refine (s.regime_putN d 0 d (by decide)).trans ?_
    simp only [State.blockOffOk, Bool.and_eq_true, beq_iff_eq] at hok
    rw [← s.began_of d ht]; exact hok.1
  have hst : u.standing d = s.standing d := by
    simp only [State.standing, show u.mode = s.mode from State.n_putN_field _ (by decide)]; rfl
  have h := u.unblock_effect d ht h7
  rw [hst, show u.n .drvFaultCause d = s.n .drvFaultCause d from State.n_putN_field _ (by decide)] at h
  obtain ⟨hreg, hhalt, hcause, honly⟩ := h
  refine yields_command (eff := fun t => t.blockOff d) (by rw [hd, hok]; rfl) ?_
  rw [show (s.putN .drvBlockCmd d 0).blockOff d = u.unblock d from State.turn_of _ (u.mayTurn_of d 0 ht)]
  exact ⟨(honly.n _ _ _ (by simp [regimePoints]) rfl).trans State.n_putN_run, hreg, hhalt, hcause,
    (DriveOnly.putN s _ d d 0 0).trans honly⟩

theorem faultReset_stops (d : DriveNo) (s : State) (ht : (s.drv d).turnAt ≠ some s.epoch) (hd : s.drives.contains d.val = true)
    (hok : s.faultResetOk d = true) : Yields (exec (.faultReset d) s) fun t =>
      t.n .drvFaultReset d = 1 ∧ t.n .drvFaultCause d = 0 ∧ t.regime d = 0 ∧ t.n .drvHalting d = 0 ∧
      DriveOnly s t d (⟨.drvFaultReset, d, 0⟩ :: ⟨.drvFaultCause, d, 0⟩ :: regimePoints d) := by
  let u := s.putN .drvFaultReset d 1
  let v := u.putN .drvFaultCause d 0
  have h6 : v.regime d = 6 := by
    refine (u.regime_putN d 0 d (by decide)).trans ((s.regime_putN d 1 d (by decide)).trans ?_)
    simp only [State.faultResetOk, Bool.and_eq_true, beq_iff_eq] at hok
    rw [← s.began_of d ht]; exact hok.1
  have hmt : v.mayTurn d 0 = true := v.mayTurn_of d 0 ht
  have honly := v.enterRegime_only d 0
  refine yields_command (eff := fun t => t.faultResetDo d) (by rw [hd, hok]; rfl) ?_
  rw [show (s.putN .drvFaultReset d 1).faultResetDo d = v.enterRegime d 0 from State.turn_of _ (u.mayTurn_of d 0 ht)]
  refine ⟨?_, ?_, v.enterRegime_regime d 0 hmt (by decide), v.enterRegime_halting d 0 hmt ?_, ?_⟩
  · exact (honly.n _ _ _ (by simp [regimePoints]) rfl).trans ((State.n_putN_field _ (by decide)).trans State.n_putN_run)
  · exact (honly.n _ _ _ (by simp [regimePoints]) rfl).trans State.n_putN_run
  · rw [show v.n .drvRegime d = 6 from h6]; decide
  · exact ((DriveOnly.putN s .drvFaultReset d d 1 0).trans (DriveOnly.putN u .drvFaultCause d d 0 0)).trans honly

/-- Settles O6, command by command. -/
theorem runAndBlockCommands : Obligations.RunAndBlockCommands := by
  unfold Obligations.RunAndBlockCommands
  exact fun d s ht => ⟨runCmdOn_runs d s ht, runCmdOff_halts d s ht, blockCmdOn_blocks d s ht, blockCmdOff_unblocks d s ht,
    faultReset_stops d s ht⟩

end Sys2Proof.Machine
end

section
/-!
SUPPORT. Proofs/RenderCrash.lean: the Render and Crash commands of a drive, and the emergency release with its sequence (sections 6.1, 6.6
and 6.7).
-/
namespace Sys2Proof.Machine

/-- A drive that takes its own commands follows no group's. -/
theorem State.ownsCmd_alone {s : State} {d : Nat} (h : s.ownsCmd d = true) : s.shaftOf d = none := by
  simp only [State.ownsCmd, Bool.and_eq_true, Option.isNone_iff_eq_none] at h
  exact h.2

theorem State.lastTorque_alone {s : State} {d : Nat} (h : s.shaftOf d = none) : s.lastTorque d = (s.drv d).tEff := by
  simp only [State.lastTorque, h]

theorem State.govOf_alone {s : State} {d : Nat} (h : s.shaftOf d = none) : s.govOf d = (s.drv d).gov := by
  simp only [State.govOf, h]

/-- Normal or Limp are neither of the other regimes. -/
theorem State.normalOrLimp_ne (s : State) (d r : Nat) (h : r ≠ 1 ∧ r ≠ 2) : r ≠ s.normalOrLimp d := by
  unfold State.normalOrLimp
  split
  · exact h.1
  · exact h.2

/-! ## Render (R194) -/

theorem State.renderOn_effect (s : State) (d : Nat) (ht : (s.drv d).turnAt ≠ some s.epoch) :
    let t := s.renderOn d
    t.regime d = 3 ∧ (t.drv d).renderCmd = true ∧ DriveOnly s t d (regimePoints d) := by
  have hmt := s.mayTurn_of d 3 ht
  unfold State.renderOn
  rw [State.turn_of _ hmt]
  dsimp only
  rw [State.drv_putDrv_same]
  exact ⟨s.enterRegime_regime d 3 hmt (by decide), rfl,
    ((s.enterRegime_only d 3).trans (DriveOnly.putDrv _ _ _)).mono (by simp)⟩

theorem renderCmdOn_renders (d : DriveNo) (s : State) (ho : s.ownsCmd d = true) (ht : (s.drv d).turnAt ≠ some s.epoch)
    (hz : s.z .drvHaulSign d ≠ 0) (hok : s.renderOnOk d = true) : Yields (exec (.renderCmdOn d) s) fun t =>
      t.n .drvRenderCmd d = 1 ∧ t.regime d = 3 ∧ (t.drv d).renderCmd = true ∧
      DriveOnly s t d (⟨.drvRenderCmd, d, 0⟩ :: regimePoints d) := by
  obtain ⟨hreg, hcmd, honly⟩ := (s.putN .drvRenderCmd d 1).renderOn_effect d ht
  exact yields_command (eff := fun t => t.renderOn d) (by simp [ho, hz, hok])
    ⟨(honly.n _ _ _ (by simp [regimePoints]) rfl).trans State.n_putN_run, hreg, hcmd, (DriveOnly.putN s _ d d 1 0).trans honly⟩

/-- Commanded Render has ended between two states (R187, R205). -/
structure RenderEnded (s t : State) (d : Nat) : Prop where
  regime : t.regime d = s.normalOrLimp d
  cmd : (t.drv d).renderCmd = false
  spdX : (t.drv d).spdX = s.lastTorque d
  refEff : (t.drv d).refEff = s.r .drvSpeedEst d
  only : DriveOnly s t d (regimePoints d)

/-- The end of commanded Render, without a shock that keeps it. -/
theorem State.renderOff_leaves (s : State) (d : Nat) (ht : (s.drv d).turnAt ≠ some s.epoch) (h3 : s.regime d = 3)
    (hs : (s.govOf d).shock = false) : RenderEnded s (s.renderOff d) d := by
  let u := s.putDrv d { s.drv d with renderCmd := false }
  have hmt : u.mayTurn d (u.normalOrLimp d) = true := u.mayTurn_of d _ (by rw [s.drv_putDrv_same]; exact ht)
  have hne : u.regime d ≠ u.normalOrLimp d := u.normalOrLimp_ne d _ (by rw [show u.regime d = 3 from h3]; decide)
  have htorque : u.lastTorque d = s.lastTorque d := by
    unfold State.lastTorque
    rw [show u.shaftOf d = s.shaftOf d from rfl, s.drv_putDrv_same]
    rfl
  rw [show s.renderOff d = u.enterRegime d (u.normalOrLimp d) from
    (State.turn_of _ (s.mayTurn_of d _ ht)).trans (if_neg (by rw [hs]; decide))]
  obtain ⟨hspd, href, hcmd⟩ := u.enterRegime_left d _ hmt hne (.inl h3)
  exact ⟨u.enterRegime_regime d _ hmt (u.normalOrLimp_lt d), hcmd, hspd.trans htorque, href,
    ((DriveOnly.putDrv s d _).trans (u.enterRegime_only d _)).mono (by simp)⟩

theorem renderCmdOff_ends (d : DriveNo) (s : State) (ho : s.ownsCmd d = true) (ht : (s.drv d).turnAt ≠ some s.epoch)
    (hok : s.renderOffOk d = true) : Yields (exec (.renderCmdOff d) s) fun t =>
      let stays := (s.govOf d).shock = true
      t.n .drvRenderCmd d = 0 ∧ (t.drv d).renderCmd = false ∧
      (stays → t.regime d = 3 ∧ (t.drv d).renderShock = true) ∧
      (¬stays → t.regime d = (if s.n .drvLimpCause d = 0 then 1 else 2) ∧ (t.drv d).spdX = (s.drv d).tEff ∧
        (t.drv d).refEff = s.r .drvSpeedEst d) ∧
      DriveOnly s t d (⟨.drvRenderCmd, d, 0⟩ :: regimePoints d) := by
  let u := s.putN .drvRenderCmd d 0
  have hput := DriveOnly.putN s .drvRenderCmd d d 0 0
  have h3 : u.regime d = 3 := by
    refine (s.regime_putN d 0 d (by decide)).trans ?_
    simp only [State.renderOffOk, beq_iff_eq] at hok
    rw [← s.began_of d ht]; exact hok
  have hgov : u.govOf d = s.govOf d := rfl
  refine yields_command (eff := fun t => t.renderOff d) (by rw [ho, hok]; rfl) ?_
  cases hs : (s.govOf d).shock with
  | true =>
    rw [show (s.putN .drvRenderCmd d 0).renderOff d = u.putDrv d { u.drv d with renderCmd := false, renderShock := true } from
      (State.turn_of _ (u.mayTurn_of d _ ht)).trans (if_pos (by rw [hgov, hs]))]
    rw [State.drv_putDrv_same]
    exact ⟨State.n_putN_run, rfl, fun _ => ⟨h3, rfl⟩, fun h => absurd rfl h,
      (hput.trans (DriveOnly.putDrv _ _ _)).mono (by simp)⟩
  | false =>
    obtain ⟨hreg, hcmd, htorque, hspeed, honly⟩ := u.renderOff_leaves d ht h3 (by rw [hgov, hs])
    refine ⟨(honly.n _ _ _ (by simp [regimePoints]) rfl).trans State.n_putN_run, hcmd, fun h => absurd h (by decide),
      fun _ => ⟨hreg.trans (s.normalOrLimp_putN d 0 d (by decide)), ?_, hspeed.trans (State.r_put_field _ _ (by decide))⟩,
      hput.trans honly⟩
    exact htorque.trans (State.lastTorque_alone (s := u) (State.ownsCmd_alone ho))

/-! ## Crash (R216, R217) -/

theorem crashCmdOn_crashes (d : DriveNo) (s : State) (ho : s.ownsCmd d = true) (ht : (s.drv d).turnAt ≠ some s.epoch)
    (hok : s.crashOnOk d = true) : Yields (exec (.crashCmdOn d) s) fun t =>
      t.n .drvCrashCmd d = 1 ∧ t.regime d = 4 ∧ t.n .drvCrashPhase d = 1 ∧
      (t.drv d).crashHist = [(s.now, s.r .drvSpeedEst d)] ∧
      DriveOnly s t d (⟨.drvCrashCmd, d, 0⟩ :: regimePoints d) := by
  let u := s.putN .drvCrashCmd d 1
  have hmt := u.mayTurn_of d 4 ht
  have hput := DriveOnly.putN s .drvCrashCmd d d 1 0
  have henter := u.enterRegime_only d 4
  have hphase := henter.trans (DriveOnly.putN (u.enterRegime d 4) .drvCrashPhase d d 1 0)
  have honly := (hput.trans hphase).trans (DriveOnly.putDrv ((u.enterRegime d 4).putN .drvCrashPhase d 1) d
    { ((u.enterRegime d 4).putN .drvCrashPhase d 1).drv d with
      crashHist := [(((u.enterRegime d 4).putN .drvCrashPhase d 1).now, ((u.enterRegime d 4).putN .drvCrashPhase d 1).r .drvSpeedEst d)] })
  refine yields_command (eff := fun t => t.crashOn d) (by rw [ho, hok]; rfl) ?_
  rw [show (s.putN .drvCrashCmd d 1).crashOn d = _ from State.turn_of _ hmt]
  refine ⟨?_, ?_, State.n_putN_same _ _ _ _ _ (by decide), ?_, honly.mono (by simp [regimePoints])⟩
  · exact (State.n_putN_field _ (by decide)).trans ((henter.n _ _ _ (by simp [regimePoints]) rfl).trans State.n_putN_run)
  · exact (State.n_putN_field _ (by decide)).trans (u.enterRegime_regime d 4 hmt (by decide))
  · rw [State.drv_putDrv_same, (hput.trans hphase).now, (hput.trans hphase).r _ _ _ (by simp [regimePoints]) rfl]

theorem crashCmdOff_ends (d : DriveNo) (s : State) (ho : s.ownsCmd d = true) (ht : (s.drv d).turnAt ≠ some s.epoch)
    (hok : s.crashOffOk d = true) : Yields (exec (.crashCmdOff d) s) fun t =>
      t.n .drvCrashCmd d = 0 ∧ t.regime d = (if s.n .drvLimpCause d = 0 then 1 else 2) ∧ t.n .drvCrashPhase d = 0 ∧
      (t.drv d).refEff = s.r .drvSpeedEst d ∧ (t.drv d).spdX = (s.drv d).tEff ∧
      DriveOnly s t d (⟨.drvCrashCmd, d, 0⟩ :: regimePoints d) := by
  let u := s.putN .drvCrashCmd d 0
  have h4 : u.regime d = 4 := by
    refine (s.regime_putN d 0 d (by decide)).trans ?_
    simp only [State.crashOffOk, beq_iff_eq] at hok
    rw [← s.began_of d ht]; exact hok
  have hmt := u.mayTurn_of d (u.normalOrLimp d) ht
  have hne : u.regime d ≠ u.normalOrLimp d := u.normalOrLimp_ne d _ (by rw [h4]; decide)
  have henter := u.enterRegime_only d (u.normalOrLimp d)
  refine yields_command (eff := fun t => t.crashOff d) (by rw [ho, hok]; rfl) ?_
  rw [show (s.putN .drvCrashCmd d 0).crashOff d = u.enterRegime d (u.normalOrLimp d) from rfl]
  obtain ⟨hspd, href, -⟩ := u.enterRegime_left d _ hmt hne (.inr h4)
  refine ⟨(henter.n _ _ _ (by simp [regimePoints]) rfl).trans State.n_putN_run, ?_,
    (u.enterRegime_crashPhase d _ hmt hne).trans (if_pos h4), href.trans (State.r_put_field _ _ (by decide)),
    hspd.trans <| State.lastTorque_alone (s := u) (State.ownsCmd_alone ho), (DriveOnly.putN s _ d d 0 0).trans henter⟩
  exact (u.enterRegime_regime d _ hmt (u.normalOrLimp_lt d)).trans (s.normalOrLimp_putN d 0 d (by decide))

/-- Settles O7, command by command. -/
theorem renderAndCrashCommands : Obligations.RenderAndCrashCommands := by
  unfold Obligations.RenderAndCrashCommands
  exact fun d s ho ht => ⟨renderCmdOn_renders d s ho ht, renderCmdOff_ends d s ho ht, crashCmdOn_crashes d s ho ht,
    crashCmdOff_ends d s ho ht⟩

/-! ## Emergency release (R219 to R221) -/

theorem releaseArm_arms (d : DriveNo) (s : State) (ho : s.ownsCmd d = true) (hok : s.armOk d = true) :
    Yields (exec (.releaseArm d) s) fun t =>
      t.n .drvReleaseCmd d = 1 ∧ t.n .drvReleaseState d = 1 ∧ t.drv d = { s.drv d with armAt := s.clk.t0 } ∧
      DriveOnly s t d [⟨.drvReleaseCmd, d, 0⟩, ⟨.drvReleaseState, d, 0⟩] := by
  let u := s.putN .drvReleaseCmd d 1
  let v := (u.putN .drvReleaseState d 1).putDrv d { s.drv d with armAt := s.clk.t0 }
  have hq : (v.raiseLane 0x0330 kDrive d 0).quiet = v.quiet := State.raiseLane_quiet _ _ _ _ _
  have hv : DriveOnly s v d [⟨.drvReleaseCmd, d, 0⟩, ⟨.drvReleaseState, d, 0⟩] :=
    ((DriveOnly.putN s .drvReleaseCmd d d 1 0).trans (DriveOnly.putN u .drvReleaseState d d 1 0)).trans (DriveOnly.putDrv _ _ _)
  refine yields_command (eff := fun t => t.releaseArmDo d) (by rw [ho, hok]; rfl) ?_
  rw [show (s.putN .drvReleaseCmd d 1).releaseArmDo d = v.raiseLane 0x0330 kDrive d 0 from rfl]
  refine ⟨?_, ?_, ?_, (hv.trans (DriveOnly.of_quiet hq d)).mono (by simp)⟩
  · exact (State.n_of_quiet hq _ _ _ rfl).trans ((State.n_putN_field u (by decide)).trans State.n_putN_run)
  · exact (State.n_of_quiet hq _ _ _ rfl).trans (u.n_putN_same _ _ _ _ (by decide))
  · rw [State.drv_raiseLane]; exact State.drv_putDrv_same _ _ _

/-- The release starts: the brake load is energised and the torque ramp begins at the last torque (Table 6.8). -/
theorem State.releaseDo_effect (s : State) (d : Nat) (ht : (s.drv d).turnAt ≠ some s.epoch) (ha : s.shaftOf d = none) :
    let t := s.releaseDo d
    t.n .drvReleaseState d = 2 ∧ t.regime d = 5 ∧ (t.drv d).brakeOn = true ∧ (t.drv d).relAt = s.clk.t0 ∧
      (t.drv d).rampFrom = (s.drv d).tEff ∧ DriveOnly s t d (⟨.drvReleaseState, d, 0⟩ :: regimePoints d) := by
  have hmt := s.mayTurn_of d 5 ht
  have henter := s.enterRegime_only d 5
  have hs1 := henter.trans (DriveOnly.putN (s.enterRegime d 5) .drvReleaseState d d 2 0)
  have hreg := s.enterRegime_regime d 5 hmt (by decide)
  have htorque : ((s.enterRegime d 5).putN .drvReleaseState d 2).lastTorque d = (s.drv d).tEff := by
    rw [State.lastTorque_alone ((hs1.shaftOf d).trans ha), State.drv_putN]
    exact s.enterRegime_keeps Drv.tEff d 5 (fun _ _ _ => rfl) rfl
  unfold State.releaseDo
  rw [State.turn_of _ hmt]
  extract_lets stopped s1 k0 k t
  have hk : k.relAt = s.clk.t0 ∧ k.rampFrom = (s.drv d).tEff ∧ k.brakeOn = true := ⟨congrArg Clock.t0 hs1.clk, htorque, rfl⟩
  let u := s1.putDrv d (if stopped then { k with spdX := 0, refEff := 0 } else k)
  have hq : t.quiet = u.quiet := State.raiseLane_quiet _ _ _ _ _
  have hu1 : DriveOnly s1 u d [] := DriveOnly.putDrv _ _ _
  have hdrv : t.drv d = if stopped then { k with spdX := 0, refEff := 0 } else k := by
    rw [State.drv_of_quiet hq, State.drv_putDrv_same]
  refine ⟨?_, ?_, ?_, ?_, ?_, ((hs1.trans hu1).trans (DriveOnly.of_quiet hq d)).mono (by simp [regimePoints])⟩
  · exact (State.n_of_quiet hq _ _ _ rfl).trans (State.n_putN_same (s.enterRegime d 5) _ _ _ _ (by decide))
  · exact (State.n_of_quiet hq _ _ _ rfl).trans ((State.n_putN_field (s.enterRegime d 5) (by decide)).trans hreg)
  · rw [hdrv]; split <;> exact hk.2.2
  · rw [hdrv]; split <;> exact hk.1
  · rw [hdrv]; split <;> exact hk.2.1

theorem releaseRelease_releases (d : DriveNo) (s : State) (ht : (s.drv d).turnAt ≠ some s.epoch) (ho : s.ownsCmd d = true)
    (hok : s.releaseOk d = true) : Yields (exec (.releaseRelease d) s) fun t =>
      t.n .drvReleaseCmd d = 2 ∧ t.n .drvReleaseState d = 2 ∧ t.regime d = 5 ∧ (t.drv d).brakeOn = true ∧
      (t.drv d).relAt = s.clk.t0 ∧ (t.drv d).rampFrom = (s.drv d).tEff ∧
      DriveOnly s t d (⟨.drvReleaseCmd, d, 0⟩ :: ⟨.drvReleaseState, d, 0⟩ :: regimePoints d) := by
  obtain ⟨hstate, hreg, hbrake, hat, hramp, honly⟩ :=
    (s.putN .drvReleaseCmd d 2).releaseDo_effect d ht (State.ownsCmd_alone ho)
  exact yields_command (eff := fun t => t.releaseDo d) (by rw [ho, hok]; rfl)
    ⟨(honly.n _ _ _ (by simp [regimePoints]) rfl).trans State.n_putN_run, hstate, hreg, hbrake, hat, hramp,
      (DriveOnly.putN s _ d d 2 0).trans honly⟩

theorem releaseEnd_ends (d : DriveNo) (s : State) (ho : s.ownsCmd d = true) (hok : s.endOk d = true) :
    Yields (exec (.releaseEnd d) s) fun t =>
      t.n .drvReleaseCmd d = 3 ∧ t.n .drvReleaseState d = 4 ∧ (t.drv d).endStep = 1 ∧
      (t.drv d).refEff = s.r .drvSpeedEst d ∧ DriveOnly s t d [⟨.drvReleaseCmd, d, 0⟩, ⟨.drvReleaseState, d, 0⟩] := by
  let u := s.putN .drvReleaseCmd d 3
  let v := u.putN .drvReleaseState d 4
  refine yields_command (eff := fun t => t.endDo d) (by rw [ho, hok]; rfl) ?_
  rw [show (s.putN .drvReleaseCmd d 3).endDo d = v.putDrv d { s.drv d with endStep := 1, stopAt := none, refEff := v.r .drvSpeedEst d }
    from rfl, State.drv_putDrv_same]
  have hcmd : v.n .drvReleaseCmd d = 3 := (State.n_putN_field u (by decide)).trans State.n_putN_run
  have hspeed : v.r .drvSpeedEst d = s.r .drvSpeedEst d := (State.r_put_field u _ (by decide)).trans (State.r_put_field s _ (by decide))
  exact ⟨hcmd, u.n_putN_same _ _ _ _ (by decide), rfl, hspeed,
    ((DriveOnly.putN s .drvReleaseCmd d d 3 0).trans (DriveOnly.putN u .drvReleaseState d d 4 0)).trans (DriveOnly.putDrv _ _ _)⟩

theorem releaseArmExpired_lapses (d : DriveNo) (s : State) (h1 : s.n .drvReleaseState d = 1)
    (hlate : (s.drv d).armAt + 2000000000 < s.now) : Yields (exec (.releaseArmExpired d) s) fun t =>
      t.n .drvReleaseState d = 0 ∧ t.drv d = s.drv d ∧ DriveOnly s t d [⟨.drvReleaseState, d, 0⟩] := by
  have hq := State.raiseLane_quiet (s.putN .drvReleaseState d 0) 0x0331 kDrive d 0
  exact yields_if ⟨h1, hlate⟩ ⟨(State.n_of_quiet hq _ _ _ rfl).trans State.n_putN_run, State.drv_of_quiet hq d,
    (DriveOnly.putN s _ d d 0 0).trans (DriveOnly.of_quiet hq d)⟩

theorem brakeLiftElapsed_ramps (d : DriveNo) (s : State) (h5 : s.regime d = 5) (h2 : s.n .drvReleaseState d = 2)
    (hdue : (s.drv d).relAt + msNs (s.n .drvBrakeLiftMs d) ≤ s.now) : Yields (exec (.brakeLiftElapsed d) s) fun t =>
      t.n .drvReleaseState d = 3 ∧ t.drv d = { s.drv d with rampFrom := s.lastTorque d, rampAt := s.now } ∧
      DriveOnly s t d [⟨.drvReleaseState, d, 0⟩] :=
  yields_if ⟨h5, h2, hdue⟩ ⟨State.n_putN_run, State.drv_putDrv_same _ _ _,
    (DriveOnly.putN s _ d d 3 0).trans (DriveOnly.putDrv _ _ _)⟩

/-- The last step of the END sequence: after the ramp the drive is Stopped. -/
theorem State.releaseStopped_effect (s : State) (d : Nat) (ht : (s.drv d).turnAt ≠ some s.epoch) :
    let t := ((s.putDrv d { s.drv d with endStep := 0, tEff := 0 }).enterRegime d 0).putN .drvReleaseState d 0
    (t.drv d).endStep = 0 ∧ (t.drv d).tEff = 0 ∧ t.regime d = 0 ∧ t.n .drvReleaseState d = 0 ∧
      DriveOnly s t d (⟨.drvReleaseState, d, 0⟩ :: regimePoints d) := by
  let k : Drv := { s.drv d with endStep := 0, tEff := 0 }
  let u := s.putDrv d k
  have hk : u.drv d = k := s.drv_putDrv_same d k
  have hmt : u.mayTurn d 0 = true := u.mayTurn_of d 0 (by rw [hk]; exact ht)
  refine ⟨?_, ?_, ?_, State.n_putN_run, (((DriveOnly.putDrv s d k).trans (u.enterRegime_only d 0)).trans
    (DriveOnly.putN _ _ _ _ _ _)).mono (by simp [regimePoints])⟩
  · exact (u.enterRegime_keeps Drv.endStep d 0 (fun _ _ _ => rfl) rfl).trans (congrArg Drv.endStep hk)
  · exact (u.enterRegime_keeps Drv.tEff d 0 (fun _ _ _ => rfl) rfl).trans (congrArg Drv.tEff hk)
  · exact (State.n_putN_field _ (by decide)).trans (u.enterRegime_regime d 0 hmt (by decide))

theorem releaseEndSequence_steps (d : DriveNo) (s : State) (ht : (s.drv d).turnAt ≠ some s.epoch) (h5 : s.regime d = 5) :
    Yields (exec (.releaseEndSequence d) s) fun t =>
      let k := s.drv d
      (∀ a, k.endStep = 1 → k.stopAt = some a → a + msNs (s.n .drvStopMs d) ≤ s.now →
        (t.drv d).endStep = 2 ∧ (t.drv d).brakeOn = false ∧ t.regime d = 5) ∧
      (k.endStep = 2 → k.endAt + msNs (s.n .drvBrakeLiftMs d) ≤ s.now →
        (t.drv d).endStep = 3 ∧ (t.drv d).rampFrom = s.lastTorque d ∧ t.regime d = 5) ∧
      (k.endStep = 3 → k.rampAt + msNs (s.n .drvReleaseRampMs d) ≤ s.now →
        (t.drv d).endStep = 0 ∧ (t.drv d).tEff = 0 ∧ t.regime d = 0 ∧ t.n .drvReleaseState d = 0) ∧
      DriveOnly s t d (⟨.drvReleaseState, d, 0⟩ :: regimePoints d) := by
  refine ⟨_, rfl, ?_⟩
  dsimp only
  rw [if_neg (by simp [h5])]
  have hput : ∀ k, DriveOnly s (s.putDrv d k) d (⟨.drvReleaseState, d, 0⟩ :: regimePoints d) := fun k =>
    (DriveOnly.putDrv s d k).mono (by simp)
  split
  · next a h1 hstop =>
    refine ⟨fun b _ hb hdue => ?_, fun h => ?_, fun h => ?_, ?_⟩
    · obtain rfl : a = b := Option.some.inj (hstop.symm.trans hb)
      rw [if_pos hdue, State.drv_putDrv_same]
      exact ⟨rfl, rfl, h5⟩
    · rw [h1] at h; exact absurd h (by decide)
    · rw [h1] at h; exact absurd h (by decide)
    · exact DriveOnly.ite _ (hput _) (DriveOnly.refl _ _ _)
  · next h2 =>
    refine ⟨fun a h => ?_, fun _ hdue => ?_, fun h => ?_, ?_⟩
    · rw [h2] at h; exact absurd h (by decide)
    · rw [if_pos hdue, State.drv_putDrv_same]
      exact ⟨rfl, rfl, h5⟩
    · rw [h2] at h; exact absurd h (by decide)
    · exact DriveOnly.ite _ (hput _) (DriveOnly.refl _ _ _)
  · next h3 =>
    obtain ⟨hstep, htorque, hreg, hstate, honly⟩ := s.releaseStopped_effect d ht
    refine ⟨fun a h => ?_, fun h => ?_, fun _ hdue => ?_, ?_⟩
    · rw [h3] at h; exact absurd h (by decide)
    · rw [h3] at h; exact absurd h (by decide)
    · rw [if_pos hdue]; exact ⟨hstep, htorque, hreg, hstate⟩
    · exact DriveOnly.ite _ honly (DriveOnly.refl _ _ _)
  · next hn2 hn3 hn1 =>
    exact ⟨fun a h1 hstop => (hn1 a h1 hstop).elim, fun h2 => absurd h2 hn2, fun h3 => absurd h3 hn3, DriveOnly.refl _ _ _⟩

/-- Settles O8, command by command. -/
theorem emergencyRelease : Obligations.EmergencyRelease := by
  unfold Obligations.EmergencyRelease
  exact fun d s ht => ⟨releaseArm_arms d s, releaseRelease_releases d s ht, releaseEnd_ends d s, releaseArmExpired_lapses d s,
    brakeLiftElapsed_ramps d s, releaseEndSequence_steps d s ht⟩

end Sys2Proof.Machine
end

section
/-!
SUPPORT. Proofs/Skips.lean: what skipped epochs do to a drive, and the ends of a shock, of Hold, of a deceleration and of the first phase
of Crash (sections 2.3, 6.1, 6.2 and 6.6).
-/
namespace Sys2Proof.Machine

/-! ## Skipped epochs (R41, R182, R187) -/

theorem skipLimp_limps (d : DriveNo) (s : State) (ht : (s.drv d).turnAt ≠ some s.epoch) (h3 : 3 ≤ s.n .drvSkipConsecutive d)
    (hb : Arith.bit (s.n .drvLimpCause d) 1 = false) : Yields (exec (.skipLimp d) s) fun t =>
      t.n .drvLimpCause d = Arith.setBit (s.n .drvLimpCause d) 1 true ∧
      t.regime d = (if s.regime d = 1 then 2 else s.regime d) ∧ DriveOnly s t d (⟨.drvLimpCause, d, 0⟩ :: regimePoints d) := by
  let u := s.putN .drvLimpCause d (Arith.setBit (s.n .drvLimpCause d) 1 true)
  have hput := DriveOnly.putN s .drvLimpCause d d (Arith.setBit (s.n .drvLimpCause d) 1 true) 0
  have hcause : u.n .drvLimpCause d = Arith.setBit (s.n .drvLimpCause d) 1 true :=
    State.n_putN_same _ _ _ _ _ (setBit_lt _ (s.n_lt _ _ _) (by decide))
  have hr : u.regime d = s.regime d := s.regime_putN d _ d (by decide)
  refine yields_if ⟨h3, by simp [hb]⟩ ?_
  rw [show s.setLimp d 1 = if u.regime d = 1 then u.enterRegime d 2 else u from rfl, hr]
  split
  · have honly := u.enterRegime_only d 2
    exact ⟨(honly.n _ _ _ (by simp [regimePoints]) rfl).trans hcause,
      u.enterRegime_regime d 2 (u.mayTurn_of d 2 ht) (by decide), hput.trans honly⟩
  · exact ⟨hcause, hr, hput.mono (by simp)⟩

theorem limpSkipClear_clears (d : DriveNo) (s : State) (ht : (s.drv d).turnAt ≠ some s.epoch)
    (hb : Arith.bit (s.n .drvLimpCause d) 1 = true) (hc : s.n .drvLimpSkipClear d ≤ (s.drv d).computed) :
    Yields (exec (.limpSkipClear d) s) fun t =>
      t.n .drvLimpCause d = Arith.setBit (s.n .drvLimpCause d) 1 false ∧
      t.regime d = (if s.regime d = 2 ∧ Arith.setBit (s.n .drvLimpCause d) 1 false = 0 then 1 else s.regime d) ∧
      DriveOnly s t d (⟨.drvLimpCause, d, 0⟩ :: regimePoints d) := by
  let u := s.putN .drvLimpCause d (Arith.setBit (s.n .drvLimpCause d) 1 false)
  have hput := DriveOnly.putN s .drvLimpCause d d (Arith.setBit (s.n .drvLimpCause d) 1 false) 0
  have hcause : u.n .drvLimpCause d = Arith.setBit (s.n .drvLimpCause d) 1 false :=
    State.n_putN_same _ _ _ _ _ (setBit_lt _ (s.n_lt _ _ _) (by decide))
  have hr : u.regime d = s.regime d := s.regime_putN d _ d (by decide)
  refine yields_if ⟨hb, hc⟩ ?_
  rw [show s.clearLimp d 1 = if u.regime d = 2 ∧ u.n .drvLimpCause d = 0 then u.enterRegime d 1 else u from rfl, hr, hcause]
  split
  · have honly := u.enterRegime_only d 1
    exact ⟨(honly.n _ _ _ (by simp [regimePoints]) rfl).trans hcause,
      u.enterRegime_regime d 1 (u.mayTurn_of d 1 ht) (by decide), hput.trans honly⟩
  · exact ⟨hcause, hr, hput.mono (by simp)⟩

/-- A running drive that halts on its own cause: it decelerates, unless another member of its group stays in service (R205). -/
theorem State.haltAlone_effect (s : State) (d : Nat) (h1 : 1 ≤ s.regime d) (h4 : s.regime d ≤ 4) : let t := s.haltAlone d
    t.regime d = 0 ∧
    (s.shaftOf d = none → t.n .drvHalting d = 1 ∧
      (s.regime d = 4 ∨ (s.regime d ≠ 3 ∧ s.ctrlMode d ≠ 1) → (t.drv d).preset = true)) ∧
    (∀ g, s.shaftOf d = some g → t.n .drvHalting d = (if (s.shaftMembers g).any (fun m => m != d && s.inService m) then 0 else 1)) ∧
    DriveOnly s t d (regimePoints d) := by
  have hmt := s.mayTurn_stop d h1 h4
  obtain ⟨-, hpreset, -, -, -, -⟩ := s.haltStart_drv d hmt
  unfold State.haltAlone
  cases hg : s.shaftOf d with
  | none =>
    exact ⟨s.haltStart_regime d hmt, fun _ => ⟨s.haltStart_halting d hmt, hpreset⟩, fun _ h => absurd h (by simp),
      s.haltStart_only d⟩
  | some g =>
    dsimp only
    split
    · next hany =>
      refine ⟨s.enterRegime_regime d 0 hmt (by decide), fun h => absurd h (by simp), fun g' h => ?_, s.enterRegime_only d 0⟩
      obtain rfl : g = g' := Option.some.inj h
      rw [if_pos hany]
      exact s.enterRegime_halting d 0 hmt (by rw [show s.n .drvRegime d = s.regime d from rfl]; omega)
    · next hany =>
      refine ⟨s.haltStart_regime d hmt, fun h => absurd h (by simp), fun g' h => ?_, s.haltStart_only d⟩
      obtain rfl : g = g' := Option.some.inj h
      rw [if_neg hany]
      exact s.haltStart_halting d hmt

theorem skipHalt_halts (d : DriveNo) (s : State) (ht : (s.drv d).turnAt ≠ some s.epoch) (h8 : 8 ≤ s.n .drvSkipConsecutive d)
    (h1 : 1 ≤ s.regime d) (h4 : s.regime d ≤ 4) : Yields (exec (.skipHalt d) s) fun t =>
      t.regime d = 0 ∧
      (s.shaftOf d = none → t.n .drvHalting d = 1 ∧
        (s.regime d = 4 ∨ (s.regime d ≠ 3 ∧ s.ctrlMode d ≠ 1) → (t.drv d).preset = true)) ∧
      (∀ g, s.shaftOf d = some g → t.n .drvHalting d = (if (s.shaftMembers g).any (fun m => m != d.val && s.inService m) then 0 else 1)) ∧
      DriveOnly s t d (regimePoints d) :=
  yields_if (by rw [s.began_of d ht]; exact ⟨h8, h1, h4⟩) (s.haltAlone_effect d h1 h4)

theorem skipFault_faults (d : DriveNo) (s : State) (h16 : 16 ≤ s.n .drvSkipConsecutive d) (hd : s.drives.contains d.val = true) :
    Yields (exec (.skipFault d) s) fun t =>
      Arith.bit (t.drv d).causes 11 = true ∧
      t.regime d = (if s.regime d = 7 then 7 else 6) ∧
      (s.regime d ≠ 7 → t.n .drvFaultCause d = (if s.n .drvFaultCause d = 0 then 11 else s.n .drvFaultCause d)) ∧
      DriveOnly s t d (⟨.drvFaultCause, d, 0⟩ :: regimePoints d) := by
  obtain ⟨hcause, hspared, hfaults⟩ := s.faultDrive_faulted d 11 (by decide)
  have hhard : ¬(causeSoft 11 = true ∧ (s.mode = 4 ∨ s.regime d = 5)) := fun h => absurd h.1 (by decide)
  refine yields_if ⟨h16, hd⟩ ⟨hcause, ?_, fun h7 => (hfaults h7 hhard).2, s.faultDrive_only d 11⟩
  by_cases h7 : s.regime d = 7
  · rw [if_pos h7, ← h7]; exact (hspared (.inl h7)).1
  · rw [if_neg h7]; exact (hfaults h7 hhard).1

/-- Settles O9, command by command. -/
theorem skippedEpochs : Obligations.SkippedEpochs := by
  unfold Obligations.SkippedEpochs
  exact fun d s ht => ⟨skipLimp_limps d s ht, skipHalt_halts d s ht, skipFault_faults d s, limpSkipClear_clears d s ht⟩

/-! ## The end of a shock (R195) -/

theorem State.putGov_alone {s : State} {d : Nat} (v : Gov) (h : s.shaftOf d = none) :
    s.putGov d v = s.putDrv d ((s.drv d).withGov v) := by
  simp only [State.putGov, h]

theorem State.putGov_group {s : State} {d g : Nat} (v : Gov) (h : s.shaftOf d = some g) :
    s.putGov d v = s.withShafts (Tab.put ShaftSt.init s.shafts g { Tab.get ShaftSt.init s.shafts g with gov := v }) := by
  simp only [State.putGov, h]

theorem State.govOf_putGov (s : State) (d : Nat) (v : Gov) : (s.putGov d v).govOf d = v := by
  cases h : s.shaftOf d with
  | none =>
    rw [State.putGov_alone v h]
    exact (State.govOf_alone (s := s.putDrv d _) h).trans (by rw [State.drv_putDrv_same]; rfl)
  | some g =>
    rw [State.putGov_group v h]
    have hx : ∀ x, (s.withShafts x).shaftOf d = some g := fun _ => h
    simp only [State.govOf, hx]
    simp

/-- What a group's governor is read from. -/
def State.govView (s : State) : Plant × Tab ShaftSt := (s.plant, s.shafts)

theorem State.govView_of_quiet {s t : State} (h : t.quiet = s.quiet) : t.govView = s.govView :=
  Prod.ext (State.plant_of_quiet h) (State.shafts_of_quiet h)

theorem DriveOnly.govView {s t : State} {d : Nat} {ps : List Pt} (h : DriveOnly s t d ps) : t.govView = s.govView :=
  Prod.ext h.plant h.shafts

theorem State.shaftOf_of_view {s t : State} (h : t.govView = s.govView) (d : Nat) : t.shaftOf d = s.shaftOf d := by
  simp only [State.shaftOf, show t.plant = s.plant from congrArg Prod.fst h]

theorem State.govOf_of_view {s t : State} (h : t.govView = s.govView) {d g : Nat} (hg : s.shaftOf d = some g) :
    t.govOf d = s.govOf d := by
  simp only [State.govOf, State.shaftOf_of_view h, hg, show t.shafts = s.shafts from congrArg Prod.snd h]

/-- A drive after the shock that it follows. -/
theorem State.afterShock_only (s : State) (d : Nat) : DriveOnly s (s.afterShock d) d (⟨.drvStatus, d, 0⟩ :: regimePoints d) := by
  unfold State.afterShock
  extract_lets k s1
  have h1 : DriveOnly s s1 d [⟨.drvStatus, d, 0⟩] := (DriveOnly.putDrv s d _).trans (DriveOnly.putN _ .drvStatus d d _ 0)
  exact DriveOnly.ite _ (h1.trans (s1.enterRegime_only d _)) (h1.mono (by simp))

theorem State.afterShock_effect (s : State) (d : Nat) (ht : (s.drv d).turnAt ≠ some s.epoch) : let t := s.afterShock d
    (t.drv d).gov = (s.drv d).gov ∧
    t.w .drvStatus d 0 = Word.ofNat ([16, 17, 18, 19, 20, 22].foldl (fun w b => Arith.setBit w b false) (s.n .drvStatus d)) ∧
    t.regime d = (if s.regime d = 3 ∧ (s.drv d).renderShock = true ∧ (s.drv d).renderCmd = false
      then (if s.n .drvLimpCause d = 0 then 1 else 2) else s.regime d) := by
  unfold State.afterShock
  extract_lets k s1 t
  have hst : s1.w .drvStatus d 0 =
      Word.ofNat ([16, 17, 18, 19, 20, 22].foldl (fun w b => Arith.setBit w b false) (s.n .drvStatus d)) :=
    State.w_putN_same _ _ _ _ _
  have hr : s1.regime d = s.regime d := State.regime_putN _ _ _ _ (by decide)
  have hdrv : s1.drv d = { k with renderShock := false } := s.drv_putDrv_same d _
  have hnl : s1.normalOrLimp d = if s.n .drvLimpCause d = 0 then 1 else 2 := State.normalOrLimp_putN _ _ _ _ (by decide)
  by_cases hc : s1.regime d = 3 ∧ k.renderShock = true ∧ ¬k.renderCmd = true
  · have hmt : s1.mayTurn d (s1.normalOrLimp d) = true := s1.mayTurn_of d _ (by rw [hdrv]; exact ht)
    rw [show t = s1.enterRegime d (s1.normalOrLimp d) from if_pos hc]
    refine ⟨?_, ?_, ?_⟩
    · exact (s1.enterRegime_keeps Drv.gov d _ (fun _ _ _ => rfl) rfl).trans (congrArg Drv.gov hdrv :)
    · exact ((s1.enterRegime_only d _).w _ _ _ (by simp [regimePoints]) rfl).trans hst
    · rw [if_pos ⟨hr ▸ hc.1, hc.2.1, by simpa using hc.2.2⟩, ← hnl]
      exact s1.enterRegime_regime d _ hmt (s1.normalOrLimp_lt d)
  · rw [show t = s1 from if_neg hc]
    refine ⟨(congrArg Drv.gov hdrv :), hst, hr.trans (if_neg fun h => hc ⟨hr.trans h.1, h.2.1, by simpa using h.2.2⟩).symm⟩

/-- A shock that has held its clearing conditions long enough. -/
theorem State.shockOver_of (s : State) (h : Nat) (v : Gov) (a : Nat) (hs : v.shock = true) (hc : v.clearAt = some a)
    (hdue : a + msNs (s.n .drvShockClearMs h) ≤ s.now) : s.shockOver h v = true := by
  simp [State.shockOver, hs, hc, hdue]

theorem shockCleared_drive (d : DriveNo) (s : State) (a : Nat) (hg : s.shaftOf d = none) (ht : (s.drv d).turnAt ≠ some s.epoch)
    (hs : (s.drv d).shock = true) (hc : (s.drv d).clearAt = some a) (hdue : a + msNs (s.n .drvShockClearMs d) ≤ s.now) :
    Yields (exec (.shockCleared d) s) fun t =>
      (t.drv d).shock = false ∧ (t.drv d).clearAt = none ∧ (t.drv d).absorb = false ∧ (t.drv d).holdAt = none ∧
      (t.drv d).holdUsed = false ∧
      t.w .drvStatus d 0 = Word.ofNat ([16, 17, 18, 19, 20, 22].foldl (fun w b => Arith.setBit w b false) (s.n .drvStatus d)) ∧
      t.regime d = (if s.regime d = 3 ∧ (s.drv d).renderShock = true ∧ (s.drv d).renderCmd = false
        then (if s.n .drvLimpCause d = 0 then 1 else 2) else s.regime d) ∧
      DriveOnly s t d (⟨.drvStatus, d, 0⟩ :: regimePoints d) := by
  have hgov := State.govOf_alone hg
  have hover : s.policyDrive d = d ∧ s.shockOver d (s.govOf d) = true :=
    ⟨by simp only [State.policyDrive, hg], by rw [hgov]; exact s.shockOver_of d _ a hs hc hdue⟩
  let u := s.putDrv d ((s.drv d).withGov (s.govOf d).cleared)
  have hk : u.drv d = (s.drv d).withGov (s.govOf d).cleared := s.drv_putDrv_same d _
  have hstep : exec (.shockCleared d) s = .next ((u.afterShock d).raiseLane 0x0321 kDrive d 0) := by
    have hclear : s.shockClear d = (u.afterShock d).raiseLane 0x0321 kDrive d 0 := by
      rw [State.shockClear, State.putGov_alone _ hg]
      simp only [State.governed, hg]
      rfl
    have hown : ∀ s1, s1 = s → (if s1.policyDrive d = d ∧ s1.shockOver d (s1.govOf d) = true then s1.shockClear d else s1) =
        (u.afterShock d).raiseLane 0x0321 kDrive d 0 := by
      rintro _ rfl
      rw [if_pos hover, hclear]
    exact congrArg Host.Outcome.next (hown _ (if_neg (by simp [hg])))
  have hq := State.raiseLane_quiet (u.afterShock d) 0x0321 kDrive d 0
  obtain ⟨hkeep, hstatus, hreg⟩ := u.afterShock_effect d (by rw [hk]; exact ht)
  rw [hk] at hreg
  have hend : (((u.afterShock d).raiseLane 0x0321 kDrive d 0).drv d).gov = (s.govOf d).cleared := by
    rw [State.drv_raiseLane, hkeep, hk]; rfl
  rw [hstep]
  refine yields_next ?_
  have honly := ((DriveOnly.putDrv s d _).trans (u.afterShock_only d)).trans (DriveOnly.of_quiet hq d)
  generalize (u.afterShock d).raiseLane 0x0321 kDrive d 0 = t at hq hend honly
  exact ⟨congrArg Gov.shock hend, congrArg Gov.clearAt hend, congrArg Gov.absorb hend, congrArg Gov.holdAt hend,
    congrArg Gov.holdUsed hend, (State.w_of_quiet hq _ _ _ rfl).trans hstatus, (State.n_of_quiet hq _ _ _ rfl).trans hreg, honly.mono (by simp)⟩

theorem shockCleared_group (d : DriveNo) (s : State) (g a : Nat) (hg : s.shaftOf d = some g) (hp : s.policyDrive d = d.val)
    (hs : (s.govOf d).shock = true) (hc : (s.govOf d).clearAt = some a) (hdue : a + msNs (s.n .drvShockClearMs d) ≤ s.now) :
    Yields (exec (.shockCleared d) s) fun t => t.govOf d = (s.govOf d).cleared := by
  refine ⟨_, rfl, ?_⟩
  extract_lets member s1
  have h1 : DriveOnly s s1 d [] := DriveOnly.ite _
    ((DriveOnly.putDrv s d _).trans (DriveOnly.of_quiet (State.raiseLane_quiet _ _ _ _ _) d)) (DriveOnly.refl _ _ _)
  have hgov : s1.govOf d = s.govOf d := State.govOf_of_view h1.govView hg
  have hover : s1.policyDrive d = d ∧ s1.shockOver d (s1.govOf d) = true := by
    refine ⟨?_, s1.shockOver_of d _ a (by rw [hgov]; exact hs) (by rw [hgov]; exact hc)
      (by rw [h1.n _ _ _ (by simp) rfl, h1.now]; exact hdue)⟩
    refine Eq.trans ?_ hp
    simp only [State.policyDrive, h1.shaftOf, h1.n .shaftLeaderOrder _ _ (by simp) rfl]
  rw [if_pos hover, ← hgov]
  let u := s1.putGov d (s1.govOf d).cleared
  have hview : (s1.shockClear d).govView = u.govView :=
    (State.govView_of_quiet (State.raiseLane_quiet _ _ _ _ _)).trans
      (forL_keeps State.govView _ _ u fun m t => (t.afterShock_only m).govView)
  have hug : u.shaftOf d = some g := by
    have : s1.shaftOf d = some g := (h1.shaftOf d).trans hg
    rw [show u = _ from State.putGov_group _ this]; exact this
  exact (State.govOf_of_view hview hug).trans (s1.govOf_putGov d _)

/-! ## The end of Hold (R193) -/

/-- The flags of the members when Hold gives way to Absorb. -/
theorem State.holdEnd_alone (s : State) (d why : Nat) (hg : s.shaftOf d = none) : let t := s.holdEnd d why
    t.drv d = { s.drv d with holdAt := none, holdUsed := true, absorb := true } ∧
      t.w .drvStatus d 0 = Word.ofNat (Arith.setBit (Arith.setBit (s.n .drvStatus d) 20 false) 19 true) ∧
      DriveOnly s t d [⟨.drvStatus, d, 0⟩] := by
  let k : Drv := (s.drv d).withGov { s.govOf d with holdAt := none, holdUsed := true, absorb := true }
  let u := (s.putDrv d k).putN .drvStatus d (Arith.setBit (Arith.setBit (s.n .drvStatus d) 20 false) 19 true)
  have he : s.holdEnd d why = u.raiseLane 0x0322 kDrive d why := by
    unfold State.holdEnd
    dsimp only
    rw [State.putGov_alone _ hg]
    have hgov : (s.putDrv d k).governed d = [d] := by
      have : (s.putDrv d k).shaftOf d = none := hg
      simp only [State.governed, this]
    rw [hgov]
    rfl
  have hq := State.raiseLane_quiet u 0x0322 kDrive d why
  dsimp only
  rw [he]
  refine ⟨?_, (State.w_of_quiet hq _ _ _ rfl).trans (State.w_putN_same _ _ _ _ _),
    ((DriveOnly.putDrv s d k).trans (DriveOnly.putN _ _ _ _ _ _)).trans (DriveOnly.of_quiet hq d)⟩
  rw [State.drv_raiseLane, State.drv_putN, State.drv_putDrv_same]
  simp only [k, State.govOf_alone hg]
  rfl

theorem State.holdEnd_group (s : State) (d why g : Nat) (hg : s.shaftOf d = some g) :
    (s.holdEnd d why).govOf d = { s.govOf d with holdAt := none, holdUsed := true, absorb := true } := by
  let u := s.putGov d { s.govOf d with holdAt := none, holdUsed := true, absorb := true }
  have hview : (s.holdEnd d why).govView = u.govView :=
    (State.govView_of_quiet (State.raiseLane_quiet _ _ _ _ _)).trans (forL_keeps State.govView _ _ u fun _ _ => rfl)
  have hug : u.shaftOf d = some g := by
    rw [show u = _ from State.putGov_group _ hg]; exact hg
  exact (State.govOf_of_view hview hug).trans (s.govOf_putGov d _)

theorem holdExpired_drive (d : DriveNo) (s : State) (a : Nat) (hg : s.shaftOf d = none) (hh : (s.drv d).holdAt = some a)
    (hdue : a + msNs (s.n .drvHoldMs d) ≤ s.now ∨ (s.mode ≠ 4 ∧ s.r .drvICont d * s.r .drvICont d ≤ (s.drv d).theta)) :
    Yields (exec (.holdExpired d) s) fun t =>
      t.drv d = { s.drv d with holdAt := none, holdUsed := true, absorb := true } ∧
      t.w .drvStatus d 0 = Word.ofNat (Arith.setBit (Arith.setBit (s.n .drvStatus d) 20 false) 19 true) ∧
      DriveOnly s t d [⟨.drvStatus, d, 0⟩] := by
  have hstep : ∃ why, exec (.holdExpired d) s = .next (s.holdEnd d why) := by
    change ∃ why, execHoldExpired d s = _
    unfold execHoldExpired
    rw [show (s.govOf d).holdAt = some a by rw [State.govOf_alone hg]; exact hh]
    dsimp only
    rw [if_neg (by simp only [State.policyDrive, hg]; simp)]
    by_cases ha : a + msNs (s.n .drvHoldMs d) ≤ s.now
    · exact ⟨1, by rw [if_pos ha]⟩
    · refine ⟨2, ?_⟩
      obtain ⟨h4, hth⟩ := hdue.resolve_left ha
      rw [if_neg ha, if_pos ⟨h4, by simp [State.governed, hg, hth]⟩]
  obtain ⟨why, he⟩ := hstep
  rw [he]
  exact yields_next (s.holdEnd_alone d why hg)

theorem holdExpired_group (d : DriveNo) (s : State) (g a : Nat) (hg : s.shaftOf d = some g) (hp : s.policyDrive d = d.val)
    (hh : (s.govOf d).holdAt = some a) (hdue : a + msNs (s.n .drvHoldMs d) ≤ s.now) :
    Yields (exec (.holdExpired d) s) fun t =>
      t.govOf d = { s.govOf d with holdAt := none, holdUsed := true, absorb := true } := by
  refine ⟨s.holdEnd d 1, ?_, s.holdEnd_group d 1 g hg⟩
  change execHoldExpired d s = _
  unfold execHoldExpired
  rw [hh]
  dsimp only
  rw [if_neg (by simp [hp]), if_pos hdue]

/-! ## The end of a deceleration, and the windmill phase -/

theorem haltStopReached_ends (d : DriveNo) (s : State) (a : Nat) (hs : (s.drv d).stopAt = some a) (hh : s.halting d = true)
    (hdue : a + (if s.isLine d then 10000000 else msNs (s.n .drvStopMs d)) ≤ s.now) : Yields (exec (.haltStopReached d) s) fun t =>
      t.n .drvHalting d = 0 ∧ t.drv d = { s.drv d with stopAt := none, tEff := 0, refEff := 0, spdX := 0 } ∧
      DriveOnly s t d [⟨.drvHalting, d, 0⟩] := by
  have hstep : exec (.haltStopReached d) s =
      .next ((s.putN .drvHalting d 0).putDrv d { s.drv d with stopAt := none, tEff := 0, refEff := 0, spdX := 0 }) := by
    change execHaltStopReached d s = _
    unfold execHaltStopReached
    rw [hs]
    dsimp only
    rw [if_pos ⟨hh, hdue⟩]
  rw [hstep]
  exact yields_next ⟨State.n_putN_run, State.drv_putDrv_same _ _ _, (DriveOnly.putN s _ d d 0 0).trans (DriveOnly.putDrv _ _ _)⟩

theorem crashWindmill_stops (d : DriveNo) (s : State) (e : Nat × Rat)
    (hf : (s.drv d).crashHist.find? (fun e => decide (e.1 + msNs (s.n .drvCrashWindmillMs d) ≤ s.now)) = some e)
    (h4 : s.regime d = 4) (h1 : s.n .drvCrashPhase d = 1) (hslow : Arith.absR e.2 - Arith.absR (s.r .drvSpeedEst d) < 1) :
    Yields (exec (.crashWindmill d) s) fun t =>
      t.n .drvCrashPhase d = 4 ∧ t.drv d = { s.drv d with crashHist := [(s.now, Arith.absR (s.r .drvSpeedEst d))] } ∧
      DriveOnly s t d [⟨.drvCrashPhase, d, 0⟩] := by
  let k : Drv := { s.drv d with crashHist := [(s.now, Arith.absR (s.r .drvSpeedEst d))] }
  let u := (s.putN .drvCrashPhase d 4).putDrv d k
  have hq := State.raiseLane_quiet u 0x032E kDrive d 0
  have hstep : exec (.crashWindmill d) s = .next (u.raiseLane 0x032E kDrive d 0) := by
    change execCrashWindmill d s = _
    unfold execCrashWindmill
    dsimp only
    rw [hf]
    dsimp only
    rw [if_pos ⟨h4, h1, hslow⟩]
  rw [hstep]
  refine yields_next ⟨(State.n_of_quiet hq _ _ _ rfl).trans (s.n_putN_same _ _ _ _ (by decide)), ?_,
    ((DriveOnly.putN s _ d d 4 0).trans (DriveOnly.putDrv _ _ _)).trans (DriveOnly.of_quiet hq d)⟩
  rw [State.drv_raiseLane]; exact State.drv_putDrv_same _ _ _

/-- Settles O10, command by command. -/
theorem shockHoldStopAndWindmill : Obligations.ShockHoldStopAndWindmill := by
  unfold Obligations.ShockHoldStopAndWindmill
  exact fun d s => ⟨shockCleared_drive d s, shockCleared_group d s, holdExpired_drive d s, holdExpired_group d s,
    haltStopReached_ends d s, crashWindmill_stops d s⟩

end Sys2Proof.Machine
end

section
/-!
SUPPORT. Proofs/Causes.lean: a hold after the loss of the agent and the reclaim, the fault causes 7 to 9 and slack rope (sections 4.8, 5.9,
6.3 and 10.9).
-/
namespace Sys2Proof.Machine

/-! ## Hold and reclaim (R324, R325) -/

theorem State.lossHalt_only (s : State) (d : Nat) : DriveOnly s (s.lossHalt d) d (⟨.drvHostState, d, 0⟩ :: regimePoints d) := by
  unfold State.lossHalt
  extract_lets s1 k
  have h1 : DriveOnly s s1 d (regimePoints d) :=
    DriveOnly.ite _ (DriveOnly.ite _ (DriveOnly.refl _ _ _) (s.haltStart_only d)) (DriveOnly.refl _ _ _)
  exact ((h1.trans (DriveOnly.putN s1 .drvHostState d d 2 0)).trans (DriveOnly.putDrv _ d _)).mono (by simp [regimePoints])

theorem State.lossHalt_state (s : State) (d : Nat) : (s.lossHalt d).n .drvHostState d = 2 := State.n_putN_same _ _ _ _ _ (by decide)

theorem State.lossHalt_holdHost (s : State) (d : Nat) : ((s.lossHalt d).drv d).holdHost = none := by
  unfold State.lossHalt
  dsimp only
  rw [State.drv_putDrv_same]

/-- A running drive decelerates by the loss. -/
theorem State.lossHalt_halts (s : State) (d : Nat) (ht : (s.drv d).turnAt ≠ some s.epoch) (h1 : 1 ≤ s.regime d) (h4 : s.regime d ≤ 4) :
    (s.lossHalt d).regime d = 0 ∧ (s.lossHalt d).halting d = true := by
  have hok : s.runOffOk d = true := by simp [State.runOffOk, s.began_of d ht, h1, h4]
  have hoff : s.runOff d = s.haltStart d := if_neg (by omega)
  have hmt := s.mayTurn_stop d h1 h4
  have hput : ∀ f : Field, f ≠ .drvHostState → (s.lossHalt d).n f d = (s.haltStart d).n f d := fun f hf => by
    unfold State.lossHalt
    dsimp only
    rw [if_pos hok, hoff, State.putDrv_n, State.n_putN_field _ hf]
  refine ⟨(hput .drvRegime (by decide)).trans (s.haltStart_regime d hmt), ?_⟩
  rw [State.halting, hput .drvHalting (by decide), s.haltStart_halting d hmt]
  rfl

theorem hostHoldExpired_drive (d : DriveNo) (s : State) (ht : (s.drv d).turnAt ≠ some s.epoch) (hl : s.holdLapsed d = true)
    (hg : s.shaftOf d = none) : Yields (exec (.hostHoldExpired d) s) fun t =>
      t.n .drvHostState d = 2 ∧ (t.drv d).holdHost = none ∧ (s.regime d = 0 → Raised s t 0x0A43 kDrive d) ∧
      (1 ≤ s.regime d → s.regime d ≤ 4 → t.regime d = 0 ∧ t.halting d = true) ∧
      DriveOnly s t d (⟨.drvHostState, d, 0⟩ :: regimePoints d) := by
  have hstep : exec (.hostHoldExpired d) s = .next ((s.lossHalt d).raise 0x0A43 kDrive d 0) := by
    change execHostHoldExpired d s = _
    unfold execHostHoldExpired
    rw [if_pos hl, hg]
    rfl
  have hq := State.raise_quiet (s.lossHalt d) 0x0A43 kDrive d 0
  rw [hstep]
  refine yields_next ⟨(State.n_of_quiet hq _ _ _ rfl).trans (s.lossHalt_state d), ?_, fun h0 => ?_, fun h1 h4 => ?_,
    ((s.lossHalt_only d).trans (DriveOnly.of_quiet hq d)).mono (by simp)⟩
  · rw [State.drv_raise]; exact s.lossHalt_holdHost d
  · have hoff : (if s.runOffOk d then s.runOff d else s) = s := by
      split
      · exact if_pos h0
      · rfl
    have hso : (s.lossHalt d).so = s.so := by
      unfold State.lossHalt
      dsimp only
      rw [hoff]
      rfl
    exact State.raise_raised _ _ _ _ _ hso
  · obtain ⟨hreg, hhalt⟩ := s.lossHalt_halts d ht h1 h4
    refine ⟨(State.n_of_quiet hq _ _ _ rfl).trans hreg, ?_⟩
    rw [State.halting, State.n_of_quiet hq _ _ _ rfl]; exact hhalt

/-- A member that has once been taken from its hold stays so. -/
theorem forL_lossHalt_state (l : List Nat) (s : State) (m : Nat) (h : m ∈ l ∨ s.n .drvHostState m = 2) :
    (forL l (fun m t => t.lossHalt m) s).n .drvHostState m = 2 := by
  induction l generalizing s with
  | nil => exact h.resolve_left (by simp)
  | cons a l ih =>
    refine ih _ ?_
    by_cases ha : m = a
    · exact .inr (by rw [ha]; exact s.lossHalt_state a)
    · refine h.imp (fun hm => (List.mem_cons.1 hm).resolve_left ha) fun h2 => ?_
      exact ((s.lossHalt_only a).n _ _ _ (by simp [regimePoints, ha]) rfl).trans h2

theorem hostHoldExpired_group (d : DriveNo) (s : State) (g : Nat) (hl : s.holdLapsed d = true) (hg : s.shaftOf d = some g) :
    Yields (exec (.hostHoldExpired d) s) fun t => ∀ m ∈ s.shaftMembers g, s.n .drvHostState m = 1 → t.n .drvHostState m = 2 := by
  have hstep : exec (.hostHoldExpired d) s = .next ((forL ((s.shaftMembers g).filter (fun m => s.n .drvHostState m == 1))
      (fun m t => t.lossHalt m) s).raise 0x0A43 kDrive d 0) := by
    change execHostHoldExpired d s = _
    unfold execHostHoldExpired
    rw [if_pos hl, hg]
  rw [hstep]
  refine yields_next fun m hm h1 => ?_
  rw [State.raise_n _ _ _ _ _ _ _ _ rfl]
  exact forL_lossHalt_state _ s m (.inl (by simp [hm, h1]))

theorem hostReclaim_returns (d : DriveNo) (s : State) (hd : s.drives.contains d.val = true) (hok : s.reclaimOk d = true) :
    Yields (exec (.hostReclaim d) s) fun t =>
      t.n .drvHostReclaim d = 1 ∧ t.n .drvHostState d = 0 ∧ t.drv d = { s.drv d with preset := true } ∧
      DriveOnly s t d [⟨.drvHostReclaim, d, 0⟩, ⟨.drvHostState, d, 0⟩] := by
  let u := s.putN .drvHostReclaim d 1
  exact yields_if (by rw [hd, hok]; rfl) ⟨(State.n_putN_field u (by decide)).trans State.n_putN_run, u.n_putN_same _ _ _ _ (by decide),
    State.drv_putDrv_same _ _ _, ((DriveOnly.putN s _ d d 1 0).trans (DriveOnly.putN u _ d d 0 0)).trans (DriveOnly.putDrv _ _ _)⟩

/-- Settles O23, command by command. -/
theorem holdAndReclaim : Obligations.HoldAndReclaim := by
  unfold Obligations.HoldAndReclaim
  exact fun d s ht => ⟨hostHoldExpired_drive d s ht, hostHoldExpired_group d s, hostReclaim_returns d s⟩

/-! ## Causes 7 to 9 -/

/-- A cause that arises in a state with the same regime, mode and first cause. -/
theorem FaultedBy.of_points {s u t : State} {d c : Nat} (h : FaultedBy u t d c) (hm : u.mode = s.mode) (hr : u.regime d = s.regime d)
    (hc : u.n .drvFaultCause d = s.n .drvFaultCause d) : FaultedBy s t d c := by
  unfold FaultedBy at h ⊢
  rw [← hm, ← hr, ← hc]
  exact h

theorem FaultedBy.of_quiet {s u t : State} {d c : Nat} (h : FaultedBy u t d c) (hq : u.quiet = s.quiet) : FaultedBy s t d c :=
  h.of_points (State.n_of_quiet hq _ _ _ rfl) (State.n_of_quiet hq _ _ _ rfl) (State.n_of_quiet hq _ _ _ rfl)

/-- A cause of a drive that holds now: nothing where it stood, else the event and the fault. -/
theorem State.judgeCause_effect (s : State) (d c : Nat) (ev : State → State) (hev : (ev s).quiet = s.quiet) (hc : c < 2 ^ 32) :
    let t := s.judgeCause d c true ev
    (Arith.bit (s.drv d).causes c = true → t = s) ∧ (Arith.bit (s.drv d).causes c = false → FaultedBy s t d c) ∧
      DriveOnly s t d (⟨.drvFaultCause, d, 0⟩ :: regimePoints d) := by
  unfold State.judgeCause
  cases h : Arith.bit (s.drv d).causes c with
  | true => exact ⟨fun _ => rfl, (absurd · (by decide)), DriveOnly.refl _ _ _⟩
  | false =>
    exact ⟨(absurd · (by decide)), fun _ => ((ev s).faultDrive_faulted d c hc).of_quiet hev,
      (DriveOnly.of_quiet hev d).trans ((ev s).faultDrive_only d c)⟩

theorem shaftDecoupled_faults (s : State) (d : DriveNo) (g a : Nat) (hg : s.shaftOf d = some g)
    (hapart : Tab.get none (s.shaft g).apart d = some a) (hdue : a + msNs (s.n .shaftDecoupleMs g) ≤ s.now) :
    Yields (exec (.shaftDecoupled d) s) fun t =>
      (Arith.bit (s.drv d).causes 8 = true → t = s) ∧ (Arith.bit (s.drv d).causes 8 = false → FaultedBy s t d 8) ∧
      DriveOnly s t d (⟨.drvFaultCause, d, 0⟩ :: regimePoints d) := by
  have hstep : exec (.shaftDecoupled d) s = .next (s.judgeCause d 8 true (fun u => u.raiseLane 0x0329 kDrive d 0)) := by
    change execShaftDecoupled d s = _
    unfold execShaftDecoupled
    rw [hg]
    dsimp only
    rw [hapart]
    dsimp only
    rw [if_pos hdue]
  rw [hstep]
  exact yields_next (s.judgeCause_effect d 8 _ (State.raiseLane_quiet _ _ _ _ _) (by decide))

theorem lineRideExpired_faults (s : State) (d : DriveNo) (a : Nat) (hlost : (s.drv d).lineLost = some a)
    (hdue : a + msNs (s.n .drvLineRideMs d) < s.now) : Yields (exec (.lineRideExpired d) s) fun t =>
      (Arith.bit (s.drv d).causes 7 = true → t = s) ∧ (Arith.bit (s.drv d).causes 7 = false → FaultedBy s t d 7) ∧
      DriveOnly s t d (⟨.drvFaultCause, d, 0⟩ :: regimePoints d) := by
  have hstep : exec (.lineRideExpired d) s = .next (s.judgeCause d 7 true id) := by
    change execLineRideExpired d s = _
    unfold execLineRideExpired
    rw [hlost]
    dsimp only
    rw [if_pos hdue]
  rw [hstep]
  exact yields_next (s.judgeCause_effect d 7 id rfl (by decide))

theorem State.arm_putArm_same (s : State) (ix : Nat) (v : ArmSt) : (s.putArm ix v).arm ix = v := by
  simp [State.arm, State.putArm]

theorem State.arm_putArm_ne (s : State) {ix j : Nat} (v : ArmSt) (h : j ≠ ix) : (s.putArm ix v).arm j = s.arm j := by
  simp [State.arm, State.putArm, Tab.get_put_ne _ _ _ h]

theorem bypassNotConfirmed_faults (s : State) (c : CellAddr) (a : ArmDesc) (ha : s.armAt (c.val / 256) (c.val % 256) = some a) :
    let i := s.localIdx a (c.val % 256)
    let due := Tab.get 0 (s.arm (armIx a)).bypass i
    3 ≤ due → due ≤ s.epoch → Arith.bit (s.n .cell c 0x0D) 5 = false → Yields (exec (.bypassNotConfirmed c) s) fun t =>
      FaultedBy s t a.drive 9 ∧ Tab.get 0 (t.arm (armIx a)).bypass i = 2 ∧
      (∀ j, j ≠ i → Tab.get 0 (t.arm (armIx a)).bypass j = Tab.get 0 (s.arm (armIx a)).bypass j) ∧
      (∀ j, j ≠ armIx a → t.arm j = s.arm j) ∧ (∀ e, e ≠ a.drive → t.drv e = s.drv e) ∧
      t.rest = ((s.withDrvs t.drvs).withArms t.arms).rest ∧
      QuietPoints s t (⟨.drvFaultCause, a.drive, 0⟩ :: regimePoints a.drive) := by
  intro i due h3 hdue hbit
  let x := s.arm (armIx a)
  let u := s.putArm (armIx a) { x with bypass := Tab.put 0 x.bypass i 2 }
  let v := u.raiseLane 0x0314 kCell c 0
  have hq : v.quiet = u.quiet := State.raiseLane_quiet _ _ _ _ _
  have hstep : exec (.bypassNotConfirmed c) s = .next (v.faultDrive a.drive 9) := by
    change execBypassNotConfirmed c s = _
    unfold execBypassNotConfirmed
    dsimp only
    rw [ha]
    dsimp only
    rw [if_pos ⟨h3, hdue, by rw [hbit]; decide⟩]
  have honly := (DriveOnly.of_quiet hq a.drive).trans (v.faultDrive_only a.drive 9)
  rw [hstep]
  refine yields_next ?_
  have hfault : FaultedBy s (v.faultDrive a.drive 9) a.drive 9 := (v.faultDrive_faulted a.drive 9 (by decide)).of_points
    ((State.n_of_quiet hq _ _ _ rfl).trans rfl) ((State.n_of_quiet hq _ _ _ rfl).trans rfl) ((State.n_of_quiet hq _ _ _ rfl).trans rfl)
  generalize v.faultDrive a.drive 9 = t at honly hfault
  obtain ⟨hrest, hother, hpoints⟩ := honly
  have harms : t.arms = u.arms := (congrArg State.arms hrest :)
  have harm : ∀ j, t.arm j = u.arm j := fun j => by simp only [State.arm, harms]
  refine ⟨hfault, ?_, fun j hj => ?_, fun j hj => ?_, hother, ?_, hpoints⟩
  · rw [harm, s.arm_putArm_same]; simp
  · rw [harm, s.arm_putArm_same]
    exact Tab.get_put_ne _ _ _ hj
  · rw [harm, s.arm_putArm_ne _ hj]
  · rw [hrest, harms]; rfl

/-! ## Slack rope (R203) -/

/-- A drive that has begun to halt between two states, as R183 has it. -/
structure Halted (s t : State) (d : Nat) : Prop where
  regime : t.regime d = 0
  halting : t.n .drvHalting d = 1
  preset : s.regime d = 4 ∨ (s.regime d ≠ 3 ∧ s.ctrlMode d ≠ 1) → (t.drv d).preset = true

/-- What `Halted` and the regimes of other drives are read from: one drive's record and points. -/
structure SameDrive (s t : State) (d : Nat) : Prop where
  drv : t.drv d = s.drv d
  regime : t.regime d = s.regime d
  halting : t.n .drvHalting d = s.n .drvHalting d

theorem DriveOnly.sameDrive {s t : State} {d e : Nat} (h : DriveOnly s t d (regimePoints d)) (he : e ≠ d) : SameDrive s t e :=
  ⟨h.2.1 e he, h.n _ _ _ (by simp [regimePoints, he]) rfl, h.n _ _ _ (by simp [regimePoints, he]) rfl⟩

theorem DriveOnly.ctrlMode {s t : State} {d : Nat} (h : DriveOnly s t d (regimePoints d)) (e : Nat) : t.ctrlMode e = s.ctrlMode e := by
  simp only [State.ctrlMode, h.shaftOf, h.n .shaftCtrlMode _ _ (by simp [regimePoints]) rfl,
    h.n .drvCtrlMode _ _ (by simp [regimePoints]) rfl]

/-- A running member halts; another one stays. -/
def State.slackHalt (s : State) (d : Nat) : State := if 1 ≤ s.regime d ∧ s.regime d ≤ 4 then s.haltStart d else s

theorem State.slackHalt_only (s : State) (d : Nat) : DriveOnly s (s.slackHalt d) d (regimePoints d) :=
  DriveOnly.ite _ (s.haltStart_only d) (DriveOnly.refl _ _ _)

theorem State.slackHalt_halted (s : State) (d : Nat) (h : 1 ≤ s.regime d ∧ s.regime d ≤ 4) : Halted s (s.slackHalt d) d := by
  have hmt := s.mayTurn_stop d h.1 h.2
  obtain ⟨-, hpreset, -, -, -, -⟩ := s.haltStart_drv d hmt
  rw [show s.slackHalt d = s.haltStart d from if_pos h]
  exact ⟨s.haltStart_regime d hmt, s.haltStart_halting d hmt, hpreset⟩

theorem SameDrive.trans {s t u : State} {d : Nat} (h : SameDrive s t d) (k : SameDrive t u d) : SameDrive s u d :=
  ⟨k.drv.trans h.drv, k.regime.trans h.regime, k.halting.trans h.halting⟩

/-- The drives that are not listed, or do not run, stay. -/
theorem forL_slackHalt_same (l : List Nat) (s : State) (d : Nat) (h : d ∉ l ∨ ¬(1 ≤ s.regime d ∧ s.regime d ≤ 4)) :
    SameDrive s (forL l (fun d u => u.slackHalt d) s) d := by
  induction l generalizing s with
  | nil => exact ⟨rfl, rfl, rfl⟩
  | cons a l ih =>
    have hstep : SameDrive s (s.slackHalt a) d := by
      by_cases ha : d = a
      · have hr := h.resolve_left (by simp [ha])
        rw [← ha, show s.slackHalt d = s from if_neg hr]
        exact ⟨rfl, rfl, rfl⟩
      · exact (s.slackHalt_only a).sameDrive ha
    refine hstep.trans (ih _ (h.imp (fun hn hm => hn (List.mem_cons_of_mem _ hm)) fun hr => ?_))
    rw [hstep.regime]; exact hr

/-- The running members of the list halt. -/
theorem forL_slackHalt_halted (l : List Nat) (s : State) (d : Nat) (hm : d ∈ l) (h : 1 ≤ s.regime d ∧ s.regime d ≤ 4) :
    Halted s (forL l (fun d u => u.slackHalt d) s) d := by
  induction l generalizing s with
  | nil => exact absurd hm (by simp)
  | cons a l ih =>
    by_cases ha : d = a
    · subst ha
      obtain ⟨h0, h1, hp⟩ := s.slackHalt_halted d h
      obtain ⟨hdrv, hreg, hhalt⟩ := forL_slackHalt_same l (s.slackHalt d) d (.inr (by omega))
      exact ⟨hreg.trans h0, hhalt.trans h1, fun c => (congrArg Drv.preset hdrv).trans (hp c)⟩
    · have hs := (s.slackHalt_only a).sameDrive ha
      obtain ⟨h0, h1, hp⟩ := ih (s.slackHalt a) ((List.mem_cons.1 hm).resolve_left ha) (by rw [hs.regime]; exact h)
      rw [hs.regime, (s.slackHalt_only a).ctrlMode] at hp
      exact ⟨h0, h1, hp⟩

/-- A state without its drives and its shaft groups. -/
def shaftView (s : State) : State := (s.withDrvs []).withShafts []

/-- The fields of `regimePoints`. -/
def regimeFields : List Field := [.drvRegime, .drvHalting, .drvCrashPhase]

theorem DriveOnly.aside_regime {s t : State} {d : Nat} (h : DriveOnly s t d (regimePoints d)) :
    t.aside shaftView (inFields regimeFields) = s.aside shaftView (inFields regimeFields) := by
  refine Prod.ext ((congrArg shaftView h.1 :)) ?_
  funext f i j
  simp only [State.aside]
  by_cases hf : fieldReports f = true ∨ f ∈ regimeFields
  · rcases hf with hf | hf <;> simp [hf, inFields]
  · obtain ⟨hr, hm⟩ := not_or.1 hf
    have hn : (⟨f, i, j⟩ : Pt) ∉ regimePoints d := fun hp => hm (by
      simp only [regimePoints, List.mem_cons, Pt.mk.injEq, List.not_mem_nil, or_false] at hp
      rcases hp with hp | hp | hp <;> rw [hp.1] <;> decide)
    rw [h.w f i j hn (by simpa using hr)]

theorem putShaft_aside (s : State) (g : Nat) (v : ShaftSt) :
    (s.putShaft g v).aside shaftView (inFields regimeFields) = s.aside shaftView (inFields regimeFields) :=
  State.aside_record (by simp [shaftView, State.putShaft]; rfl) rfl

theorem State.shaft_putShaft_same (s : State) (g : Nat) (v : ShaftSt) : (s.putShaft g v).shaft g = v := by
  simp [State.shaft, State.putShaft]

theorem State.shaft_putShaft_ne (s : State) {g h : Nat} (v : ShaftSt) (hn : h ≠ g) : (s.putShaft g v).shaft h = s.shaft h := by
  simp [State.shaft, State.putShaft, Tab.get_put_ne _ _ _ hn]

/-- Slack noted at a group: its record and the event. -/
def State.slackNoted (s : State) (g : Nat) : State :=
  (s.putShaft g { s.shaft g with slack := true }).raiseLane 0x0328 kShaft g 0

theorem State.slackNoted_quiet (s : State) (g : Nat) :
    (s.slackNoted g).quiet = (s.putShaft g { s.shaft g with slack := true }).quiet := State.raiseLane_quiet _ _ _ _ _

theorem State.slackNoted_shaft (s : State) (g : Nat) : (s.slackNoted g).shaft g = { s.shaft g with slack := true } := by
  have : (s.slackNoted g).shaft g = (s.putShaft g { s.shaft g with slack := true }).shaft g := by
    simp only [State.shaft, State.shafts_of_quiet (s.slackNoted_quiet g)]
  rw [this, State.shaft_putShaft_same]

theorem State.slackNoted_other (s : State) (g h : Nat) (hn : h ≠ g) : (s.slackNoted g).shaft h = s.shaft h := by
  have : (s.slackNoted g).shaft h = (s.putShaft g { s.shaft g with slack := true }).shaft h := by
    simp only [State.shaft, State.shafts_of_quiet (s.slackNoted_quiet g)]
  rw [this, State.shaft_putShaft_ne _ _ hn]

theorem State.slackNoted_n (s : State) (g : Nat) (f : Field) (i j : Nat) (hf : fieldReports f = false) :
    (s.slackNoted g).n f i j = s.n f i j := State.n_of_quiet (s.slackNoted_quiet g) _ _ _ hf

theorem State.slackNoted_aside (s : State) (g : Nat) :
    (s.slackNoted g).aside shaftView (inFields regimeFields) = s.aside shaftView (inFields regimeFields) :=
  (State.aside_of_quiet (s.slackNoted_quiet g)).trans (putShaft_aside s g _)

/-- The frame of the obligation from the view without drives and shaft groups. -/
theorem rest_of_shaftView {s t : State} (h : t.aside shaftView (inFields regimeFields) = s.aside shaftView (inFields regimeFields)) :
    t.rest = ((s.withDrvs t.drvs).withShafts t.shafts).rest := by
  have hr := congrArg (fun x : State => (x.withDrvs t.drvs).withShafts t.shafts) (State.aside_rest h)
  exact hr

/-- A group's response to slack. -/
def State.slackAnswer (s : State) (g : Nat) : State :=
  match s.n .shaftSlackResp g with
  | 1 => s.putShaft g { s.shaft g with zeroRef := true }
  | 2 => forL (s.shaftMembers g) (fun d u => u.slackHalt d) s
  | _ => s

theorem exec_slackRope (s : State) (g : ShaftNo) (a : Nat) (hs : (s.shaft g).slackAt = some a)
    (hdue : a + msNs (s.n .shaftSlackMs g) ≤ s.now) (hn : (s.shaft g).slack = false) :
    exec (.slackRope g) s = .next ((s.slackNoted g).slackAnswer g) := by
  change execSlackRope g s = _
  unfold execSlackRope
  extract_lets x
  split
  · next b hb =>
    obtain rfl : a = b := Option.some.inj (hs.symm.trans hb)
    rw [if_pos ⟨hdue, by simp [x, hn]⟩]
    rfl
  · next hb => exact absurd (hs.symm.trans hb) (by simp)

theorem slackRope_answers (s : State) (g : ShaftNo) (a : Nat) (hs : (s.shaft g).slackAt = some a)
    (hdue : a + msNs (s.n .shaftSlackMs g) ≤ s.now) (hn : (s.shaft g).slack = false) : Yields (exec (.slackRope g) s) fun t =>
      t.shaft g = { s.shaft g with slack := true, zeroRef := s.n .shaftSlackResp g == 1 || (s.shaft g).zeroRef } ∧
      (∀ h, h ≠ g.val → t.shaft h = s.shaft h) ∧
      (s.n .shaftSlackResp g ≠ 2 → Raised s t 0x0328 kShaft g ∧ t.drvs = s.drvs) ∧
      (s.n .shaftSlackResp g = 2 → ∀ d ∈ s.shaftMembers g, 1 ≤ s.regime d → s.regime d ≤ 4 →
        t.regime d = 0 ∧ t.n .drvHalting d = 1 ∧
          (s.regime d = 4 ∨ (s.regime d ≠ 3 ∧ s.ctrlMode d ≠ 1) → (t.drv d).preset = true)) ∧
      (∀ d, d ∉ s.shaftMembers g → t.drv d = s.drv d ∧ t.regime d = s.regime d) ∧
      t.rest = ((s.withDrvs t.drvs).withShafts t.shafts).rest ∧ QuietFields s t [.drvRegime, .drvHalting, .drvCrashPhase] := by
  let u := s.slackNoted g
  have hresp : u.n .shaftSlackResp g = s.n .shaftSlackResp g := s.slackNoted_n g _ _ _ rfl
  have hraised : Raised s u 0x0328 kShaft g := State.raiseLane_raised _ _ _ _ _ rfl
  have hdrvs : u.drvs = s.drvs := (State.drvs_of_quiet (s.slackNoted_quiet g)).trans rfl
  have hplant : u.plant = s.plant := (State.plant_of_quiet (s.slackNoted_quiet g)).trans rfl
  have hreg : ∀ d, u.regime d = s.regime d := fun d => s.slackNoted_n g _ _ _ rfl
  have hshaft := s.slackNoted_shaft g
  have hother := s.slackNoted_other g
  have haside := s.slackNoted_aside g
  have hdrv : ∀ d, u.drv d = s.drv d := fun d => by simp only [State.drv, hdrvs]
  rw [exec_slackRope s g a hs hdue hn]
  refine yields_next ?_
  unfold State.slackAnswer
  rw [hresp]
  split
  · next h1 =>
    have hput := (putShaft_aside u g { u.shaft g with zeroRef := true }).trans haside
    refine ⟨?_, fun h hh => ?_, fun _ => ⟨hraised, hdrvs⟩, fun h2 => ?_, fun d _ => ⟨hdrv d, hreg d⟩, rest_of_shaftView hput,
      QuietFields.of_aside hput⟩
    · rw [State.shaft_putShaft_same, h1, hshaft]; rfl
    · rw [State.shaft_putShaft_ne _ _ hh]; exact hother h hh
    · rw [h1] at h2; exact absurd h2 (by decide)
  · next h2 =>
    have hm : u.shaftMembers g = s.shaftMembers g := by simp only [State.shaftMembers, hplant]
    have hc : ∀ d, u.ctrlMode d = s.ctrlMode d := fun d => by
      have hof : u.shaftOf d = s.shaftOf d := by simp only [State.shaftOf, hplant]
      simp only [State.ctrlMode, hof, show ∀ i, u.n .shaftCtrlMode i = s.n .shaftCtrlMode i from fun i => s.slackNoted_n g _ i _ rfl,
        show ∀ i, u.n .drvCtrlMode i = s.n .drvCtrlMode i from fun i => s.slackNoted_n g _ i _ rfl]
    rw [hm]
    have hloop : (forL (s.shaftMembers g) (fun d u => u.slackHalt d) u).aside shaftView (inFields regimeFields) =
        s.aside shaftView (inFields regimeFields) :=
      (forL_keeps (State.aside shaftView (inFields regimeFields)) _ _ u fun d t => (t.slackHalt_only d).aside_regime).trans haside
    have hshafts : (forL (s.shaftMembers g) (fun d u => u.slackHalt d) u).shafts = u.shafts :=
      forL_keeps State.shafts _ _ u fun d t => (t.slackHalt_only d).shafts
    have hsh : ∀ h, (forL (s.shaftMembers g) (fun d u => u.slackHalt d) u).shaft h = u.shaft h := fun h => by
      simp only [State.shaft, hshafts]
    refine ⟨?_, fun h hh => (hsh h).trans (hother h hh), fun h => absurd h2 h, fun _ d hd h1 h4 => ?_, fun d hd => ?_,
      rest_of_shaftView hloop, QuietFields.of_aside hloop⟩
    · rw [hsh, hshaft, h2]; rfl
    · obtain ⟨k1, k2, k3⟩ := forL_slackHalt_halted _ u d hd (by rw [hreg]; exact ⟨h1, h4⟩)
      rw [hreg, hc] at k3
      exact ⟨k1, k2, k3⟩
    · obtain ⟨hd', hr', -⟩ := forL_slackHalt_same _ u d (.inl hd)
      exact ⟨hd'.trans (hdrv d), hr'.trans (hreg d)⟩
  · next h1 h2 =>
    refine ⟨?_, hother, fun _ => ⟨hraised, hdrvs⟩, fun h => absurd h h2, fun d _ => ⟨hdrv d, hreg d⟩, rest_of_shaftView haside,
      QuietFields.of_aside haside⟩
    rw [hshaft, beq_false_of_ne h1]; rfl

/-- Settles O44, command by command. -/
theorem laneCausesAndSlackRope : Obligations.LaneCausesAndSlackRope := by
  unfold Obligations.LaneCausesAndSlackRope
  exact fun s => ⟨shaftDecoupled_faults s, lineRideExpired_faults s, bypassNotConfirmed_faults s, slackRope_answers s⟩

end Sys2Proof.Machine
end

section
/-!
SUPPORT. Proofs/Identification.lean: the identification of a drive at standstill, and the writes of its control mode, of its use of
feedback and of its winding sets (sections 4.5, 4.10 and 4.12).
-/
namespace Sys2Proof.Machine

/-- The points that a drive's rotor angle is read from. -/
def rotorFields : List Field := [.drvFbInUse, .fbPos, .drvPolePairs]

/-- A step that leaves the points of the rotor's angle and the drive's observer leaves the angle. -/
theorem DriveOnly.rotorTurn {s t : State} {d : Nat} {ps : List Pt} (h : DriveOnly s t d ps) (hp : ∀ p ∈ ps, p.f ∉ rotorFields)
    (hobs : (t.drv d).obs = (s.drv d).obs) : t.rotorTurn d = s.rotorTurn d := by
  have hn : ∀ f ∈ rotorFields, fieldReports f = false → ∀ i j, (⟨f, i, j⟩ : Pt) ∉ ps := fun f hf _ i j hm => hp _ hm hf
  have hdesc : t.driveDesc d = s.driveDesc d := by simp only [State.driveDesc, h.plant]
  have hturns : ∀ n, t.fbTurns d n = s.fbTurns d n := fun n => by
    simp only [State.fbTurns, hdesc, State.z64, State.n64, h.n .fbPos _ _ (hn _ (by decide) rfl _ _) rfl,
      h.r .drvPolePairs _ _ (hn _ (by decide) rfl _ _) rfl]
  simp only [State.rotorTurn, State.driveFb, hdesc, hturns, hobs, h.n .drvFbInUse _ _ (hn _ (by decide) rfl _ _) rfl]

theorem State.idBegin_effect (s : State) (d step : Nat) (h : step < 2 ^ 32) : let t := s.idBegin d step
    t.n .drvIdStep d = step ∧ t.drv d = { s.drv d with idAt := s.now, idFrom := s.rotorTurn d } ∧
      DriveOnly s t d [⟨.drvIdStep, d, 0⟩] :=
  ⟨State.n_putN_same _ _ _ _ _ h, State.drv_putDrv_same _ _ _, (DriveOnly.putN s _ d d step 0).trans (DriveOnly.putDrv _ _ _)⟩

theorem State.drvFlag_bit (s : State) (d k : Nat) (b : Bool) (h : k < 32) : Arith.bit ((s.drvFlag d k b).n .drvStatus d) k = b :=
  s.bit_putN_setBit _ _ _ _ _ h

theorem State.drvFlag_only (s : State) (d k : Nat) (b : Bool) : DriveOnly s (s.drvFlag d k b) d [⟨.drvStatus, d, 0⟩] :=
  DriveOnly.putN s _ d d _ 0

theorem identStart_starts (d : DriveNo) (s : State) (hd : s.drives.contains d.val = true) (hok : s.identOk d = true) :
    Yields (exec (.identStart d) s) fun t =>
      t.n .drvIdentCmd d = 1 ∧ t.n .drvIdState d = 1 ∧ t.n .drvIdStep d = 1 ∧ Arith.bit (t.n .drvStatus d) 10 = true ∧
      t.drv d = { s.drv d with idAt := s.now, idFrom := s.rotorTurn d, idAbort := false } ∧
      DriveOnly s t d [⟨.drvIdentCmd, d, 0⟩, ⟨.drvIdState, d, 0⟩, ⟨.drvIdStep, d, 0⟩, ⟨.drvStatus, d, 0⟩] := by
  let u1 := s.putN .drvIdentCmd d 1
  let u2 := u1.putN .drvIdState d 1
  let u3 := u2.drvFlag d 10 true
  let u := u3.putDrv d { s.drv d with idAbort := false }
  have hu : DriveOnly s u d [⟨.drvIdentCmd, d, 0⟩, ⟨.drvIdState, d, 0⟩, ⟨.drvStatus, d, 0⟩] :=
    (((DriveOnly.putN s .drvIdentCmd d d 1 0).trans (DriveOnly.putN u1 .drvIdState d d 1 0)).trans (u2.drvFlag_only d 10 true)).trans
      (DriveOnly.putDrv _ _ _)
  have hk : u.drv d = { s.drv d with idAbort := false } := State.drv_putDrv_same _ _ _
  have hcmd : u.n .drvIdentCmd d = 1 :=
    (State.n_putN_field u2 (by decide)).trans ((State.n_putN_field u1 (by decide)).trans State.n_putN_run)
  have hstate : u.n .drvIdState d = 1 := (State.n_putN_field u2 (by decide)).trans (u1.n_putN_same _ _ _ _ (by decide))
  have hbit : Arith.bit (u.n .drvStatus d) 10 = true := u2.drvFlag_bit d 10 true (by decide)
  have hturn : u.rotorTurn d = s.rotorTurn d := hu.rotorTurn (by simp [rotorFields]) (congrArg Drv.obs hk :)
  obtain ⟨hstep, hdrv, honly⟩ := u.idBegin_effect d 1 (by decide)
  rw [hk, hturn, show u.now = s.now from rfl] at hdrv
  refine yields_if (by rw [hd, hok]; rfl) ⟨?_, ?_, hstep, ?_, hdrv, (hu.trans honly).mono (by simp)⟩
  · exact (honly.n _ _ _ (by simp) rfl).trans hcmd
  · exact (honly.n _ _ _ (by simp) rfl).trans hstate
  · rw [show s.identDo d = u.idBegin d 1 from rfl, honly.n _ _ _ (by simp) rfl]; exact hbit

theorem identAbort_asks (d : DriveNo) (s : State) (hd : s.drives.contains d.val = true) (h0 : s.regime d = 0)
    (hh : s.halting d = false) : Yields (exec (.identAbort d) s) fun t =>
      t.n .drvIdentCmd d = 2 ∧ t.drv d = { s.drv d with idAbort := s.identifying d || (s.drv d).idAbort } ∧
      DriveOnly s t d [⟨.drvIdentCmd, d, 0⟩] := by
  let u := s.putN .drvIdentCmd d 2
  have hput := DriveOnly.putN s .drvIdentCmd d d 2 0
  have hi : u.identifying d = s.identifying d := by rw [State.identifying, State.n_putN_field _ (by decide)]; rfl
  refine yields_if (by rw [hd, h0, hh]; rfl) ?_
  rw [show s.identAbortDo d = if u.identifying d then u.putDrv d { u.drv d with idAbort := true } else u from rfl, hi]
  cases s.identifying d with
  | true => exact ⟨State.n_putN_run, State.drv_putDrv_same _ _ _, hput.trans (DriveOnly.putDrv _ _ _)⟩
  | false => exact ⟨State.n_putN_run, rfl, hput⟩

/-! ## The end of a step (R138, R139) -/

/-- The points that identification publishes. -/
def idResults (d : Nat) : List Pt :=
  [⟨.drvIdRsOhm, d, 0⟩, ⟨.drvIdSigmaLsH, d, 0⟩, ⟨.drvIdLdH, d, 0⟩, ⟨.drvIdLqH, d, 0⟩, ⟨.drvIdTrS, d, 0⟩, ⟨.drvIdLmH, d, 0⟩,
   ⟨.drvIdPsiVs, d, 0⟩, ⟨.drvIdAngle, d, 0⟩]

/-- What a step with plausible results publishes. -/
def State.idPublish (s : State) (d : Nat) (angle : Rat) (vals : List Rat) : State :=
  let step := s.n .drvIdStep d
  let s1 := forL ((s.idPoints d step).zipIdx) (fun e t => t.putR e.1.1 d (vals.getD e.2 0)) s
  if step = 2 then s1.put .drvIdAngle d (Arith.turnsWord angle) else s1

theorem State.identStep_fits (s : State) (d : Nat) (angle : Rat) (vals : List Rat) (hi : s.identifying d = true)
    (hdue : (s.drv d).idAt + idDuration (s.n .drvIdStep d) ≤ s.now) (hf : s.idFits d (s.n .drvIdStep d) vals = true) :
    s.identStep d angle vals =
      let u := s.idPublish d angle vals
      let nx := u.idNext d (s.n .drvIdStep d)
      if nx = 0 then ((u.putN .drvIdState d 2).drvFlag d 10 false).raiseLane 0x030A kDrive d 0 else u.idBegin d nx := by
  unfold State.identStep
  dsimp only
  rw [if_neg (by simp [hi]; omega), if_pos hf]
  rfl

theorem State.identStep_unfit (s : State) (d : Nat) (angle : Rat) (vals : List Rat) (hi : s.identifying d = true)
    (hdue : (s.drv d).idAt + idDuration (s.n .drvIdStep d) ≤ s.now) (hf : ¬s.idFits d (s.n .drvIdStep d) vals = true) :
    s.identStep d angle vals = s.identFail d := by
  unfold State.identStep
  dsimp only
  rw [if_neg (by simp [hi]; omega), if_neg hf]

/-- The result points of a step are different, and among those that identification publishes. -/
theorem State.idPoints_cases (s : State) (d step : Nat) :
    ((s.idPoints d step).map Prod.fst).Nodup ∧ ∀ e ∈ s.idPoints d step, (⟨e.1, d, 0⟩ : Pt) ∈ idResults d ∧ e.1 ≠ .drvIdAngle := by
  unfold State.idPoints idResults
  split
  · simp
  · split <;> simp
  · simp
  · simp
  · simp

theorem forL_putR_results (d : Nat) (vals : List Rat) (l : List ((Field × Field) × Nat)) (s : State)
    (hl : ∀ e ∈ l, (⟨e.1.1, d, 0⟩ : Pt) ∈ idResults d) :
    DriveOnly s (forL l (fun e t => t.putR e.1.1 d (vals.getD e.2 0)) s) d (idResults d) ∧
    (∀ f, f ∉ l.map (·.1.1) → (forL l (fun e t => t.putR e.1.1 d (vals.getD e.2 0)) s).w f d 0 = s.w f d 0) := by
  induction l generalizing s with
  | nil => exact ⟨DriveOnly.refl _ _ _, fun _ _ => rfl⟩
  | cons a l ih =>
    obtain ⟨honly, hother⟩ := ih (s.putR a.1.1 d (vals.getD a.2 0)) fun e he => hl e (List.mem_cons_of_mem _ he)
    refine ⟨((DriveOnly.put s _ d d _ 0).trans honly).mono ?_, fun f hf => ?_⟩
    · exact List.append_subset.2 ⟨by simpa using hl a (by simp), List.Subset.refl _⟩
    · simp only [List.map_cons, List.mem_cons, not_or] at hf
      exact (hother f hf.2).trans (State.w_put_field _ _ hf.1)

/-- Every listed result is published. -/
theorem forL_putR_value (d : Nat) (vals : List Rat) (l : List ((Field × Field) × Nat)) (s : State)
    (hl : ∀ e ∈ l, (⟨e.1.1, d, 0⟩ : Pt) ∈ idResults d) (hn : (l.map (·.1.1)).Nodup) (e : (Field × Field) × Nat) (he : e ∈ l) :
    (forL l (fun e t => t.putR e.1.1 d (vals.getD e.2 0)) s).w e.1.1 d 0 = (entry e.1.1).ty.enc (vals.getD e.2 0) := by
  induction l generalizing s with
  | nil => exact absurd he (by simp)
  | cons a l ih =>
    rw [List.map_cons, List.nodup_cons] at hn
    rcases List.mem_cons.1 he with rfl | he
    · obtain ⟨-, hother⟩ := forL_putR_results d vals l (s.putR e.1.1 d (vals.getD e.2 0)) fun x hx => hl x (List.mem_cons_of_mem _ hx)
      exact (hother _ hn.1).trans (State.w_put_same _ _ _ _ _)
    · exact ih _ (fun x hx => hl x (List.mem_cons_of_mem _ hx)) hn.2 he

theorem zipIdx_fields (l : List (Field × Field)) : l.zipIdx.map (·.1.1) = l.map Prod.fst := by
  rw [show (fun e : (Field × Field) × Nat => e.1.1) = Prod.fst ∘ Prod.fst from rfl, ← List.map_map, List.zipIdx_map_fst]

theorem State.idPublish_effect (s : State) (d : Nat) (angle : Rat) (vals : List Rat) : let t := s.idPublish d angle vals
    let step := s.n .drvIdStep d
    (∀ k e, (s.idPoints d step)[k]? = some e → t.w e.1 d 0 = (entry e.1).ty.enc (vals.getD k 0)) ∧
      (step = 2 → t.w .drvIdAngle d 0 = Arith.turnsWord angle) ∧ t.drv d = s.drv d ∧ t.so = s.so ∧
      DriveOnly s t d (idResults d) := by
  let l := (s.idPoints d (s.n .drvIdStep d)).zipIdx
  obtain ⟨hnodup, hres⟩ := s.idPoints_cases d (s.n .drvIdStep d)
  have hl : ∀ e ∈ l, (⟨e.1.1, d, 0⟩ : Pt) ∈ idResults d := fun e he => (hres _ (List.fst_mem_of_mem_zipIdx he)).1
  obtain ⟨honly, -⟩ := forL_putR_results d vals l s hl
  have hvals := forL_putR_value d vals l s hl (by rw [zipIdx_fields]; exact hnodup)
  have hdrv : (forL l (fun e t => t.putR e.1.1 d (vals.getD e.2 0)) s).drv d = s.drv d :=
    forL_keeps (fun t => t.drv d) l _ s fun _ _ => rfl
  have hso : (forL l (fun e t => t.putR e.1.1 d (vals.getD e.2 0)) s).so = s.so := forL_keeps State.so l _ s fun _ _ => rfl
  have hk : ∀ k e, (s.idPoints d (s.n .drvIdStep d))[k]? = some e → (e, k) ∈ l := fun k e h =>
    List.mem_zipIdx_iff_getElem?.2 (by simpa using h)
  unfold State.idPublish
  dsimp only
  split
  · next h2 =>
    refine ⟨fun k e h => ?_, fun _ => State.w_put_same _ _ _ _ _, hdrv, hso, (honly.trans (DriveOnly.put _ _ d d _ 0)).mono ?_⟩
    · exact (State.w_put_field _ _ (hres e (List.mem_of_getElem? h)).2).trans (hvals _ (hk k e h))
    · exact List.append_subset.2 ⟨List.Subset.refl _, by simp [idResults]⟩
  · next h2 => exact ⟨fun k e h => hvals _ (hk k e h), fun h => absurd h h2, hdrv, hso, honly⟩

theorem DriveOnly.idNext {s t : State} {d : Nat} {ps : List Pt} (h : DriveOnly s t d ps)
    (hp : ∀ p ∈ ps, p.f ≠ .drvType ∧ p.f ≠ .drvIdentMotion) (step : Nat) : t.idNext d step = s.idNext d step := by
  have hdesc : t.driveDesc d = s.driveDesc d := by simp only [State.driveDesc, h.plant]
  simp only [State.idNext, State.idApplies, State.driveFb, hdesc, h.n .drvType d 0 (fun hm => (hp _ hm).1 rfl) rfl,
    h.n .drvIdentMotion d 0 (fun hm => (hp _ hm).2 rfl) rfl]

theorem State.idNext_lt (s : State) (d step : Nat) : s.idNext d step < 2 ^ 32 := by
  unfold State.idNext
  cases h : ([1, 2, 3, 4, 5] : List Nat).find? (fun k => decide (step < k) && s.idApplies d k) with
  | none => decide
  | some k =>
    have := List.mem_of_find?_eq_some h
    simp only [List.mem_cons, List.not_mem_nil, or_false] at this
    simp only [Option.getD_some]
    omega

/-- An identification that completes or fails: its state, its flag and its event. -/
theorem State.idEnd_effect (s : State) (d v code p : Nat) (hv : v < 2 ^ 32) :
    let t := ((s.putN .drvIdState d v).drvFlag d 10 false).raiseLane code kDrive d p
    t.n .drvIdState d = v ∧ Arith.bit (t.n .drvStatus d) 10 = false ∧ Raised s t code kDrive d ∧ t.drv d = s.drv d ∧
      DriveOnly s t d [⟨.drvIdState, d, 0⟩, ⟨.drvStatus, d, 0⟩] := by
  let u := s.putN .drvIdState d v
  have hq := State.raiseLane_quiet (u.drvFlag d 10 false) code kDrive d p
  have honly := ((DriveOnly.putN s .drvIdState d d v 0).trans (u.drvFlag_only d 10 false)).trans (DriveOnly.of_quiet hq d)
  refine ⟨?_, ?_, State.raiseLane_raised _ _ _ _ _ rfl, State.drv_of_quiet hq d, honly⟩
  · exact (State.n_of_quiet hq _ _ _ rfl).trans ((State.n_putN_field u (by decide)).trans (State.n_putN_same _ _ _ _ _ hv))
  · rw [State.n_of_quiet hq _ _ _ rfl]
    exact u.drvFlag_bit d 10 false (by decide)

theorem identStepDone_ends (d : DriveNo) (s : State) (angle : Rat) (vals : List Rat) (hi : s.identifying d = true)
    (hdue : (s.drv d).idAt + idDuration (s.n .drvIdStep d) ≤ s.now) : Yields (exec (.identStepDone d angle vals) s) fun t =>
      let step := s.n .drvIdStep d
      let good := s.idFits d step vals = true
      (good → (∀ k e, (s.idPoints d step)[k]? = some e → t.w e.1 d 0 = (entry e.1).ty.enc (vals.getD k 0)) ∧
        (step = 2 → t.w .drvIdAngle d 0 = Arith.turnsWord angle) ∧
        (s.idNext d step = 0 → t.n .drvIdState d = 2 ∧ Arith.bit (t.n .drvStatus d) 10 = false ∧ Raised s t 0x030A kDrive d) ∧
        (s.idNext d step ≠ 0 → t.n .drvIdState d = 1 ∧ t.n .drvIdStep d = s.idNext d step ∧
          t.drv d = { s.drv d with idAt := s.now, idFrom := s.rotorTurn d })) ∧
      (¬good → t.n .drvIdState d = 3 ∧ t.n .drvIdStep d = step ∧ Arith.bit (t.n .drvStatus d) 10 = false ∧
        Raised s t 0x030B kDrive d ∧ t.drv d = s.drv d) ∧
      DriveOnly s t d [⟨.drvIdRsOhm, d, 0⟩, ⟨.drvIdSigmaLsH, d, 0⟩, ⟨.drvIdLdH, d, 0⟩, ⟨.drvIdLqH, d, 0⟩, ⟨.drvIdTrS, d, 0⟩,
        ⟨.drvIdLmH, d, 0⟩, ⟨.drvIdPsiVs, d, 0⟩, ⟨.drvIdAngle, d, 0⟩, ⟨.drvIdState, d, 0⟩, ⟨.drvIdStep, d, 0⟩, ⟨.drvStatus, d, 0⟩] := by
  refine ⟨s.identStep d angle vals, rfl, ?_⟩
  dsimp only
  by_cases hf : s.idFits d (s.n .drvIdStep d) vals = true
  · rw [s.identStep_fits d angle vals hi hdue hf]
    obtain ⟨hvals, hangle, hdrv, hso, honly⟩ := s.idPublish_effect d angle vals
    generalize s.idPublish d angle vals = u at hvals hangle hdrv hso honly
    have hnx := honly.idNext (by simp [idResults]) (s.n .drvIdStep d)
    have hturn : u.rotorTurn d = s.rotorTurn d := honly.rotorTurn (by simp [idResults, rotorFields]) (by rw [hdrv])
    have hpoints := (s.idPoints_cases d (s.n .drvIdStep d)).2
    have hne : ∀ (k : Nat) (e : Field × Field), (s.idPoints d (s.n .drvIdStep d))[k]? = some e →
        e.1 ≠ .drvIdState ∧ e.1 ≠ .drvIdStep ∧ e.1 ≠ .drvStatus ∧ fieldReports e.1 = false := fun k e h => by
      have hm := (hpoints e (List.mem_of_getElem? h)).1
      simp only [idResults, List.mem_cons, Pt.mk.injEq, List.not_mem_nil, or_false] at hm
      rcases hm with hm | hm | hm | hm | hm | hm | hm | hm <;> rw [hm.1] <;> decide
    dsimp only
    rw [hnx]
    by_cases h0 : s.idNext d (s.n .drvIdStep d) = 0
    · rw [if_pos h0]
      obtain ⟨hstate, hbit, hraised, -, hend⟩ := u.idEnd_effect d 2 0x030A 0 (by decide)
      refine ⟨fun _ => ⟨fun k e h => ?_, fun h => ?_, fun _ => ⟨hstate, hbit, hraised.of_so hso⟩, fun h => absurd h0 h⟩,
        fun h => absurd hf h, (honly.trans hend).mono (by simp [idResults])⟩
      · obtain ⟨h1, -, h3, hr⟩ := hne k e h
        exact (hend.w _ _ _ (by simp [h1, h3]) hr).trans (hvals k e h)
      · exact (hend.w _ _ _ (by simp) rfl).trans (hangle h)
    · rw [if_neg h0]
      obtain ⟨hstep, hk, hbegin⟩ := u.idBegin_effect d (s.idNext d (s.n .drvIdStep d)) (s.idNext_lt _ _)
      rw [hdrv, hturn, honly.now] at hk
      refine ⟨fun _ => ⟨fun k e h => ?_, fun h => ?_, fun h => absurd h h0, fun _ => ⟨?_, hstep, hk⟩⟩,
        fun h => absurd hf h, (honly.trans hbegin).mono (by simp [idResults])⟩
      · obtain ⟨-, h2, -, hr⟩ := hne k e h
        exact (hbegin.w _ _ _ (by simp [h2]) hr).trans (hvals k e h)
      · exact (hbegin.w _ _ _ (by simp) rfl).trans (hangle h)
      · rw [hbegin.n _ _ _ (by simp) rfl, honly.n _ _ _ (by simp [idResults]) rfl]
        simpa [State.identifying] using hi
  · rw [s.identStep_unfit d angle vals hi hdue hf]
    obtain ⟨hstate, hbit, hraised, hdrv, hend⟩ := s.idEnd_effect d 3 0x030B (s.n .drvIdStep d) (by decide)
    exact ⟨fun h => absurd h hf, fun _ => ⟨hstate, hend.n _ _ _ (by simp) rfl, hbit, hraised, hdrv⟩, hend.mono (by simp)⟩

/-! ## Control mode, use of feedback, winding sets -/

theorem ctrlModeWrite_presets (d : DriveNo) (s : State) (v : Fin 4) (ho : s.ownsCmd d = true) (hok : s.ctrlModeOk d v = true) :
    Yields (exec (.ctrlModeWrite d v) s) fun t =>
      t.n .drvCtrlMode d = v ∧ (s.n .drvCtrlMode d = v → t = s) ∧
      (s.n .drvCtrlMode d ≠ v → t.drv d = { s.drv d with preset := true }) ∧ DriveOnly s t d [⟨.drvCtrlMode, d, 0⟩] := by
  refine yields_if (by rw [ho, hok]; rfl) ?_
  unfold State.setCtrlMode
  by_cases h : s.n .drvCtrlMode d = v
  · rw [if_pos h]; exact ⟨h, fun _ => rfl, absurd h, DriveOnly.refl _ _ _⟩
  · rw [if_neg h]
    exact ⟨State.n_putN_run (by omega), fun e => absurd e h, fun _ => State.drv_putDrv_same _ _ _,
      (DriveOnly.putN s _ d d v 0).trans (DriveOnly.putDrv _ _ _)⟩

theorem fbUseWrite_asks (d : DriveNo) (s : State) (v : Fin 2) (hd : s.drives.contains d.val = true)
    (hv : v = 0 ∨ (s.driveFb d).isSome = true) : Yields (exec (.fbUseWrite d v) s) fun t =>
      t.n .drvFbUse d = v ∧ t.drv d = { s.drv d with wantFb := v == 1 && s.n .drvFbInUse d != 1 } ∧
      DriveOnly s t d [⟨.drvFbUse, d, 0⟩] := by
  refine yields_if (by rw [hd]; rcases hv with rfl | hv <;> simp [*]) ⟨State.n_putN_run (by omega), ?_,
    (DriveOnly.putN s _ d d v 0).trans (DriveOnly.putDrv _ _ _)⟩
  refine (State.drv_putDrv_same _ _ _).trans ?_
  fin_cases v <;> rfl

theorem setEnableWrite_sets (d : DriveNo) (s : State) (k : SetNo) (v : Fin 2) (hd : s.drives.contains d.val = true) :
    Yields (exec (.setEnableWrite d k v) s) fun t =>
      t.n .setEnable (d * 4 + k) = v ∧ t = s.withPts t.pts ∧ SamePoints s t [⟨.setEnable, d * 4 + k, 0⟩] :=
  yields_if hd ⟨State.n_putN_run (by omega), rfl, SamePoints.put _ _ _ _ _⟩

/-- Settles O43, command by command. -/
theorem identificationAndControlWrites : Obligations.IdentificationAndControlWrites := by
  unfold Obligations.IdentificationAndControlWrites
  refine fun d s => ⟨identStart_starts d s, identAbort_asks d s, fun angle vals hi hearly => ?_, identStepDone_ends d s,
    ctrlModeWrite_presets d s, fbUseWrite_asks d s, setEnableWrite_sets d s⟩
  have : s.identStep d angle vals = s := if_pos (by simp [hearly])
  exact congrArg Host.Outcome.next this

end Sys2Proof.Machine
end

section
/-!
SUPPORT. Proofs/Office.lean: what interrupts and records leave of the sorting office and of the journal, and the obligations on reports,
on postmarks and on waiting records (sections 11.9 and 17.5).
-/
namespace Sys2Proof.Machine

/-! ## What an interrupt and a ring entry leave -/

/-- The sorting office, the journal, and all points but the counts of dead letters. -/
def State.desk (s : State) : Sorting × Journal × (Field → Nat → Nat → Word) :=
  (s.so, s.jrn, fun f i j => if f = .coreDeadLetters then 0 else s.w f i j)

section
variable {s t : State}

theorem State.so_of_desk (h : t.desk = s.desk) : t.so = s.so := congrArg Prod.fst h

theorem State.jrn_of_desk (h : t.desk = s.desk) : t.jrn = s.jrn := congrArg (fun x => x.2.1) h

theorem State.w_of_desk (h : t.desk = s.desk) (f : Field) (i j : Nat) (hf : f ≠ .coreDeadLetters) : t.w f i j = s.w f i j := by
  have := congrFun (congrFun (congrFun (congrArg (fun x => x.2.2) h) f) i) j
  simpa [State.desk, hf] using this

theorem State.desk_inc (i j : Nat) : (s.inc .coreDeadLetters i j).desk = s.desk := by
  refine Prod.ext rfl (Prod.ext rfl ?_)
  funext f k l
  simp only [State.desk]
  split
  · rfl
  · next hf => exact State.w_put_field _ _ hf

end

theorem State.represent_desk (s : State) (c : Nat) : (s.represent c).1.desk = s.desk := by
  unfold State.represent
  split
  · rfl
  · exact forN_keeps State.desk _ _ _ fun _ _ => rfl

theorem State.irqWakeFor_desk (s : State) (n : Nat) : (s.irqWakeFor n).desk = s.desk := by
  unfold State.irqWakeFor
  dsimp only
  split
  · exact forN_keeps State.desk _ _ _ fun _ _ => by split <;> rfl
  · rfl

theorem State.irqSettle_desk (s : State) (l : List Nat) (c : Nat) : (s.irqSettle l c).1.desk = s.desk := by
  unfold State.irqSettle
  exact (forL_keeps State.desk _ _ _ fun _ _ => State.irqWakeFor_desk _ _).trans
    ((forL_keeps State.desk _ _ _ fun _ _ => State.desk_inc _ _).trans (State.represent_desk _ _))

theorem State.irqFire_desk (s : State) (n : Nat) : (s.irqFire n).desk = s.desk := by
  unfold State.irqFire
  split
  · exact (State.irqSettle_desk _ _ _).trans rfl
  · rfl

theorem State.msix_desk (s : State) (v : Nat) : (s.msix v).desk = s.desk := by
  unfold State.msix; split <;> rfl

theorem State.ringSignal_desk (s : State) (k : Nat) : (s.ringSignal k).desk = s.desk := by
  unfold State.ringSignal
  split
  · exact s.msix_desk _
  · exact s.irqFire_desk _

theorem State.ringWrote_desk (s : State) (k : Nat) : (s.ringWrote k).desk = s.desk := by
  unfold State.ringWrote
  dsimp only
  split
  · exact (State.ringSignal_desk _ _).trans rfl
  · rfl

/-! ## A record is delivered -/

/-- What the queues and counts of the event rings leave of the sorting office. -/
def Sorting.core (x : Sorting) : Sorting := { x with q0 := [], q1 := [], lost0 := 0, lost1 := 0 }

/-- The points of the sorting office. -/
def officeFields : List Field :=
  [.coreDeadLetters, .pmBitmap, .pmCode, .pmCount, .pmSeq, .soEarlyCloses, .soIngestDropped, .soOpenPeak, .soReports, .soRingLost, .soSeq]

/-- What a delivered record leaves: the sorting office but for its queues, the journal, and all points but two counts. -/
def State.postView (s : State) : Sorting × Journal × (Field → Nat → Nat → Word) :=
  (s.so.core, s.jrn, fun f i j => if f = .coreDeadLetters ∨ f = .soRingLost then 0 else s.w f i j)

theorem State.postView_of_desk {s t : State} (h : t.desk = s.desk) : t.postView = s.postView := by
  refine Prod.ext (congrArg Sorting.core (State.so_of_desk h)) (Prod.ext (State.jrn_of_desk h) ?_)
  funext f i j
  simp only [State.postView]
  split
  · rfl
  · next hf => exact State.w_of_desk h f i j (not_or.1 hf).1

theorem State.postView_inc (s : State) (i j : Nat) : (s.inc .soRingLost i j).postView = s.postView := by
  refine Prod.ext rfl (Prod.ext rfl ?_)
  funext f k l
  simp only [State.postView]
  split
  · rfl
  · next hf => exact State.w_put_field _ _ (not_or.1 hf).2

theorem State.deliver_postView (s : State) (k : Nat) (e : EvRec) : (s.deliver k e).postView = s.postView := by
  unfold State.deliver
  extract_lets q r s1
  split
  · have h1 : s1.postView = s.postView := (State.postView_of_desk (State.ringWrote_desk _ _)).trans rfl
    split
    · exact (State.postView_of_desk (State.irqFire_desk _ _)).trans h1
    · exact h1
  · split
    · split <;> rfl
    · split
      · exact (State.postView_inc _ _ _).trans rfl
      · exact (State.postView_inc _ _ _).trans rfl

theorem State.n64_of_postView {s t : State} (h : t.postView = s.postView) (f : Field) (i : Nat)
    (hf : f ≠ .coreDeadLetters ∧ f ≠ .soRingLost) : t.n64 f i = s.n64 f i := by
  have hw : ∀ j, t.w f i j = s.w f i j := fun j => by
    have := congrFun (congrFun (congrFun (congrArg (fun x => x.2.2) h) f) i) j
    simpa [State.postView, hf.1, hf.2] using this
  simp only [State.n64, State.n, hw]

/-- A closed postmark: the next sequence number, and what the open ones leave. -/
theorem State.closePostmark_effect (s : State) (p : Postmark) (b : Bool) : let t := s.closePostmark p b
    t.so.opened = s.so.opened ∧ t.so.taken = s.so.taken ∧ t.so.seq = s.so.seq + 1 ∧ t.jrn = s.jrn ∧
      t.n64 .soSeq = (s.so.seq + 1) % 2 ^ 64 := by
  unfold State.closePostmark
  extract_lets many e c0 s1 s2
  have h2 : s2.so = s1.so ∧ s2.jrn = s1.jrn ∧ s2.n64 .soSeq = s1.n64 .soSeq := by
    simp only [s2]
    split
    · refine ⟨forN_keeps State.so _ _ _ fun _ _ => rfl, forN_keeps State.jrn _ _ _ fun _ _ => rfl, ?_⟩
      refine (forN_keeps (fun u : State => u.n64 .soSeq) _ _ _ fun _ _ => State.n64_putN_field _ (by decide)).trans ?_
      rw [State.n64_putN_field _ (by decide), State.n64_putN_field _ (by decide)]
      exact (State.n64_putN_field _ (by decide)).trans (State.n64_putN_field _ (by decide))
    · exact ⟨rfl, rfl, rfl⟩
  have hd : ((s2.deliver 16 e).deliver 48 e).postView = s2.postView := (State.deliver_postView _ _ _).trans (State.deliver_postView _ _ _)
  have hso : ((s2.deliver 16 e).deliver 48 e).so.core = s1.so.core := (congrArg Prod.fst hd).trans (congrArg Sorting.core h2.1)
  refine ⟨(congrArg Sorting.opened hso :), (congrArg Sorting.taken hso :), (congrArg Sorting.seq hso :), ?_, ?_⟩
  · exact (congrArg (fun x => x.2.1) hd).trans h2.2.1
  · rw [State.n64_of_postView hd .soSeq 0 (by decide), h2.2.2]
    exact State.n64_put64_mod _ _ _ _

/-! ## Reports (R484 to R486) -/

theorem State.ingest_joins (n c k : Nat) (r : Rep) (s : State) (o : List Postmark) (ho : joinPostmark c k r s.so.opened = some o) :
    State.ingest n c k r s = s.withSo { s.so with opened := o } := by
  unfold State.ingest
  rw [ho]

/-- A report that joins no postmark opens one while there is room. -/
theorem State.ingest_opens (n c k : Nat) (r : Rep) (s : State) (hj : joinPostmark c k r s.so.opened = none)
    (h : s.so.opened.length < 64) : State.ingest n c k r s = s.openPostmark (s.newPostmark c k r) := by
  unfold State.ingest
  rw [hj]
  dsimp only
  split
  · rw [if_neg (by omega)]
  · rfl

/-- What an opened postmark leaves, beside the office's list. -/
theorem State.openPostmark_w (s : State) (p : Postmark) (f : Field) (i j : Nat) (hf : f ≠ .soOpenPeak) :
    (s.openPostmark p).w f i j = s.w f i j := by
  unfold State.openPostmark
  dsimp only
  split
  · exact State.w_putN_field _ hf
  · rfl

/-- An event that starts no capture is a report and, maybe, an interrupt. -/
theorem State.raiseAt_plain (s : State) (code kind idx param time : Nat) (h : s.isTrigger code = false) :
    (s.raiseAt code kind idx param time).desk = (s.report code kind idx param time).desk := by
  unfold State.raiseAt
  extract_lets s1 s2
  have h2 : s2.desk = s1.desk := by
    simp only [s2]
    split
    · exact s1.irqFire_desk _
    · rfl
  have hq : s2.quiet = s.quiet := by
    refine Eq.trans ?_ (s.report_quiet code kind idx param time)
    simp only [s2]
    split
    · exact s1.irqFire_quiet _
    · rfl
  have ht : s2.isTrigger code = false := by
    rw [← h]
    simp only [State.isTrigger, State.n_of_quiet hq .jrnTrigCode _ _ rfl]
  rw [if_neg (by rw [ht]; decide)]
  exact h2

theorem sortingReport_joinsOrOpens (code kind idx param time : Nat) (s : State) (hu : s.up = true) :
    Yields (exec (.sortingReport code kind idx param time) s) fun t =>
      let r : Rep := { idx := idx, param := param % 2 ^ 32, time := time }
      t.quiet = s.quiet ∧ Raised s t code kind idx ∧
      (s.isTrigger code = false →
        (256 ≤ s.so.taken → t.so = { s.so with dropped := s.so.dropped + 1 } ∧
          t.w .soIngestDropped 0 0 = Word.ofNat (s.n .soIngestDropped + 1) ∧ t.w .soReports 0 0 = s.w .soReports 0 0) ∧
        (s.so.taken < 256 → ∀ o, joinPostmark code kind r s.so.opened = some o →
          t.so = { s.so with taken := s.so.taken + 1, opened := o } ∧
          t.w .soReports 0 0 = Word.ofNat (s.n .soReports + 1)) ∧
        (s.so.taken < 256 → joinPostmark code kind r s.so.opened = none → s.so.opened.length < 64 →
          t.so.taken = s.so.taken + 1 ∧ t.so.opened.length = s.so.opened.length + 1 ∧ t.so.seq = s.so.seq ∧
          (∀ p ∈ s.so.opened, p ∈ t.so.opened) ∧
          (∃ p ∈ t.so.opened, p.code = code ∧ p.kind = kind ∧ p.t1 = time ∧ p.first = r ∧ p.last = r ∧ p.count = 1 ∧
            p.w = 1000 * s.n .soWindowUs ∧ p.idxs = [idx]) ∧
          t.w .soReports 0 0 = Word.ofNat (s.n .soReports + 1))) := by
  refine yields_if hu ⟨s.raiseAt_quiet _ _ _ _ _, s.raiseAt_raised _ _ _ _ _, fun hnot => ?_⟩
  have hdesk := s.raiseAt_plain code kind idx param time hnot
  generalize s.raiseAt code kind idx param time = t at hdesk
  have hso := State.so_of_desk hdesk
  have hw : ∀ f, f ≠ .coreDeadLetters → t.w f 0 0 = (s.report code kind idx param time).w f 0 0 := fun f hf =>
    State.w_of_desk hdesk f 0 0 hf
  unfold State.report at hso hw
  let r : Rep := { idx := idx, param := param % 2 ^ 32, time := time }
  let u := (s.withSo { s.so with taken := s.so.taken + 1 }).inc .soReports
  refine ⟨fun h => ?_, fun h o ho => ?_, fun h hj hlen => ?_⟩
  · rw [if_neg (by omega)] at hso hw
    exact ⟨hso, (hw _ (by decide)).trans (State.w_put_same _ _ _ _ _), (hw _ (by decide)).trans (State.w_put_field _ _ (by decide))⟩
  · have hing : State.ingest 2 code kind r u = u.withSo { u.so with opened := o } := State.ingest_joins _ _ _ _ u o ho
    rw [if_pos h, hing] at hso hw
    exact ⟨hso, (hw _ (by decide)).trans (State.w_put_same _ _ _ _ _)⟩
  · have hing : State.ingest 2 code kind r u = u.openPostmark (u.newPostmark code kind r) := State.ingest_opens _ _ _ _ u hj hlen
    rw [if_pos h, hing] at hso hw
    rw [State.openPostmark_opened] at hso
    have hopened : t.so.opened = insertBy Postmark.le (u.newPostmark code kind r) s.so.opened := (congrArg Sorting.opened hso :)
    have hwin : u.n .soWindowUs = s.n .soWindowUs := State.n_putN_field _ (by decide)
    refine ⟨(congrArg Sorting.taken hso :), ?_, (congrArg Sorting.seq hso :), fun p hp => ?_,
      ⟨u.newPostmark code kind r, ?_, rfl, rfl, rfl, rfl, rfl, rfl, congrArg (1000 * ·) hwin, rfl⟩, ?_⟩
    · rw [hopened, length_insertBy]
    · rw [hopened]; exact (mem_insertBy _ _ _ _).2 (.inr hp)
    · rw [hopened]; exact (mem_insertBy _ _ _ _).2 (.inl rfl)
    · exact (hw _ (by decide)).trans ((u.openPostmark_w _ _ _ _ (by decide)).trans (State.w_put_same _ _ _ _ _))

/-- Settles O11. -/
theorem reportsJoinOrOpenPostmarks : Obligations.ReportsJoinOrOpenPostmarks := by
  unfold Obligations.ReportsJoinOrOpenPostmarks
  exact sortingReport_joinsOrOpens

/-! ## Postmarks close (R487) -/

theorem forL_closePostmark (l : List Postmark) (s : State) : let t := forL l (fun p u => u.closePostmark p false) s
    t.so.opened = s.so.opened ∧ t.so.seq = s.so.seq + l.length ∧ (l ≠ [] → t.n64 .soSeq = (s.so.seq + l.length) % 2 ^ 64) := by
  induction l generalizing s with
  | nil => exact ⟨rfl, rfl, fun h => absurd rfl h⟩
  | cons p l ih =>
    obtain ⟨hop, -, hseq, -, hn⟩ := s.closePostmark_effect p false
    obtain ⟨hop', hseq', hn'⟩ := ih (s.closePostmark p false)
    refine ⟨hop'.trans hop, ?_, fun _ => ?_⟩
    · rw [show forL (p :: l) _ s = forL l (fun p u => u.closePostmark p false) (s.closePostmark p false) from rfl, hseq', hseq,
        List.length_cons]
      omega
    · rw [show forL (p :: l) _ s = forL l (fun p u => u.closePostmark p false) (s.closePostmark p false) from rfl]
      by_cases hl : l = []
      · rw [hl]; exact hn
      · rw [hn' hl, hseq, List.length_cons, Nat.add_assoc, Nat.add_comm 1]

theorem postmarkClose_closes (s : State) (time : Nat) (hu : s.up = true) : Yields (exec (.postmarkClose time) s) fun t =>
    let due := s.so.opened.filter (fun p => decide (s.closeTime p ≤ time))
    t.quiet = (s.withClk { s.clk with now := max s.clk.now time }).quiet ∧
    t.so.opened = s.so.opened.filter (fun p => !decide (s.closeTime p ≤ time)) ∧
    t.so.seq = s.so.seq + due.length ∧ (due ≠ [] → t.n64 .soSeq = (s.so.seq + due.length) % 2 ^ 64) := by
  refine yields_if hu ?_
  let u := (s.advance time).withSo { s.so with opened := s.so.opened.filter (fun p => !decide (s.closeTime p ≤ time)) }
  obtain ⟨hop, hseq, hn⟩ := forL_closePostmark (s.so.opened.filter (fun p => decide (s.closeTime p ≤ time))) u
  rw [show (s.advance time).closeDue time = forL (s.so.opened.filter (fun p => decide (s.closeTime p ≤ time)))
    (fun p u => u.closePostmark p false) u from rfl]
  exact ⟨(forL_keeps State.quiet _ _ u fun _ _ => State.closePostmark_quiet _ _ _).trans rfl, hop, hseq, hn⟩

/-! ## Waiting records drain (R347) -/

/-- The records that wait for an event ring. -/
def Sorting.queue (x : Sorting) (key : Nat) : List EvRec := if key = 16 then x.q0 else x.q1

/-- The office with other records waiting for an event ring. -/
def Sorting.withQueue (x : Sorting) (key : Nat) (q : List EvRec) : Sorting := if key = 16 then { x with q0 := q } else { x with q1 := q }

theorem Sorting.queue_withQueue (x : Sorting) (key : Nat) (q : List EvRec) : (x.withQueue key q).queue key = q := by
  unfold Sorting.queue Sorting.withQueue
  split <;> rfl

theorem Sorting.withQueue_twice (x : Sorting) (key : Nat) (p q : List EvRec) :
    (x.withQueue key p).withQueue key q = x.withQueue key q := by
  unfold Sorting.withQueue
  split <;> rfl

theorem Sorting.withQueue_self (x : Sorting) (key : Nat) : x.withQueue key (x.queue key) = x := by
  unfold Sorting.queue Sorting.withQueue
  split <;> rfl

theorem State.ring_putRing_same (s : State) (k : Nat) (r : Ring) : (s.putRing k r).ring k = r := by
  simp [State.ring, State.putRing]

theorem State.ring_putRing_ne (s : State) {k j : Nat} (r : Ring) (h : j ≠ k) : (s.putRing k r).ring j = s.ring j := by
  simp [State.ring, State.putRing, Tab.get_put_ne _ _ _ h]

theorem State.irqSettle_host (s : State) (l : List Nat) (c : Nat) : (s.irqSettle l c).1.host = s.host := by
  unfold State.irqSettle
  refine (forL_keeps State.host _ _ _ fun _ _ => ?_).trans ((forL_keeps State.host _ (fun (d : Nat × Nat) t => t.inc .coreDeadLetters d.1) _ fun _ _ => rfl).trans ?_)
  · unfold State.irqWakeFor
    dsimp only
    split
    · exact forN_keeps State.host _ _ _ fun _ _ => by split <;> rfl
    · rfl
  · unfold State.represent
    split
    · rfl
    · exact forN_keeps State.host _ _ _ fun _ _ => rfl

theorem State.irqFire_host (s : State) (n : Nat) : (s.irqFire n).host = s.host := by
  unfold State.irqFire
  split
  · exact (State.irqSettle_host _ _ _).trans rfl
  · rfl

theorem State.ringSignal_ring (s : State) (k j : Nat) : (s.ringSignal k).ring j = s.ring j := by
  unfold State.ringSignal
  split
  · unfold State.msix; split <;> rfl
  · simp only [State.ring, State.irqFire_host]

theorem State.ringWrote_ring_ne (s : State) {k j : Nat} (h : j ≠ k) : (s.ringWrote k).ring j = s.ring j := by
  unfold State.ringWrote
  extract_lets r r1 s1
  have h1 : s1.ring j = s.ring j := s.ring_putRing_ne r1 h
  split
  · rw [State.ringSignal_ring, State.ring_putRing_ne _ _ h, h1]
  · exact h1

/-- The state after the record at the front of an event ring's queue is written. -/
def State.drainOne (s : State) (key : Nat) (e : EvRec) (q : List EvRec) : State :=
  let s2 := ((s.withSo (s.so.withQueue key q)).emit (.record key e)).ringWrote key
  if key = 48 then s2.irqFire 10 else s2

theorem State.drainOne_effect (s : State) (key : Nat) (e : EvRec) (q : List EvRec) :
    (s.drainOne key e q).so = s.so.withQueue key q ∧ ∀ j, j ≠ key → (s.drainOne key e q).ring j = s.ring j := by
  unfold State.drainOne
  extract_lets s2
  have hso : s2.so = s.so.withQueue key q := State.so_of_desk (State.ringWrote_desk _ _)
  have hring : ∀ j, j ≠ key → s2.ring j = s.ring j := fun j hj => State.ringWrote_ring_ne _ hj
  split
  · exact ⟨(s2.irqFire_so 10).trans hso, fun j hj => by rw [← hring j hj]; simp only [State.ring, State.irqFire_host]⟩
  · exact ⟨hso, hring⟩

theorem State.drain_step (key n : Nat) (s : State) : State.drain key (n + 1) s =
    if (s.ring key).live && 0 < (s.ring key).room then
      match s.so.queue key with
      | [] => s
      | e :: q => State.drain key n (s.drainOne key e q)
    else s := by
  rw [State.drain.eq_2]
  dsimp only
  split
  · unfold Sorting.queue
    generalize (if key = 16 then s.so.q0 else s.so.q1) = l
    cases l <;> rfl
  · rfl

theorem State.drain_effect (key n : Nat) (s : State) : let t := State.drain key n s
    (∃ k, t.so = s.so.withQueue key ((s.so.queue key).drop k)) ∧ (∀ j, j ≠ key → t.ring j = s.ring j) ∧
    ((s.so.queue key).length ≤ n → t.so.queue key = [] ∨ (t.ring key).live = false ∨ (t.ring key).room = 0) := by
  have stay : ∀ s : State, ∃ k, s.so = s.so.withQueue key ((s.so.queue key).drop k) := fun s =>
    ⟨0, by rw [List.drop_zero, Sorting.withQueue_self]⟩
  induction n generalizing s with
  | zero => exact ⟨stay s, fun _ _ => rfl, fun h => .inl (List.eq_nil_of_length_eq_zero (Nat.le_zero.1 h))⟩
  | succ n ih =>
    dsimp only
    rw [State.drain_step]
    split
    · split
      · next hq => exact ⟨stay s, fun _ _ => rfl, fun _ => .inl hq⟩
      · next e q hq =>
        obtain ⟨hso, hring⟩ := s.drainOne_effect key e q
        obtain ⟨⟨k, hk⟩, hr, hend⟩ := ih (s.drainOne key e q)
        rw [hso, Sorting.queue_withQueue] at hk hend
        refine ⟨⟨k + 1, ?_⟩, fun j hj => (hr j hj).trans (hring j hj), fun hlen => hend ?_⟩
        · rw [hk, Sorting.withQueue_twice, hq, List.drop_succ_cons]
        · rw [hq, List.length_cons] at hlen; omega
    · next hc =>
      refine ⟨stay s, fun _ _ => rfl, fun _ => .inr ?_⟩
      rw [Bool.and_eq_true, not_and_or] at hc
      exact hc.imp (by simp) (by simp)

theorem eventRecordDrain_writes (s : State) : Yields (exec .eventRecordDrain s) fun t =>
    t.quiet = s.quiet ∧ t.so.opened = s.so.opened ∧
    (∃ k, t.so.q0 = s.so.q0.drop k) ∧ (∃ k, t.so.q1 = s.so.q1.drop k) ∧
    (s.so.q0.length ≤ 1024 → t.so.q0 = [] ∨ (t.ring 16).live = false ∨ (t.ring 16).room = 0) ∧
    (s.so.q1.length ≤ 1024 → t.so.q1 = [] ∨ (t.ring 48).live = false ∨ (t.ring 48).room = 0) := by
  let u := State.drain 16 1024 s
  obtain ⟨⟨k, hk⟩, hr, hend⟩ := s.drain_effect 16 1024
  obtain ⟨⟨k', hk'⟩, hr', hend'⟩ := u.drain_effect 48 1024
  refine ⟨State.drain 48 1024 u, rfl, (State.drain_quiet 48 1024 u rfl).trans (State.drain_quiet 16 1024 s rfl), ?_, ⟨k, ?_⟩,
    ⟨k', ?_⟩, fun h => ?_, fun h => ?_⟩
  · rw [hk']; exact (congrArg Sorting.opened hk :)
  · rw [hk']; exact (congrArg Sorting.q0 hk :)
  · rw [hk']; exact (congrArg (fun x : Sorting => x.q1.drop k') hk :)
  · rw [hr' 16 (by decide), hk']; exact hend h
  · exact hend' (le_of_eq_of_le (congrArg (fun x : Sorting => x.q1.length) hk :) h)

/-! ## Lost records are told (R489) -/

/-- Reports with room among the open postmarks leave the counts of lost records. -/
theorem State.report_lost (s : State) (c k i p t : Nat) (h : s.so.opened.length < 64) :
    (s.report c k i p t).so.lost0 = s.so.lost0 ∧ (s.report c k i p t).so.lost1 = s.so.lost1 := by
  unfold State.report
  split
  · cases hj : joinPostmark c k { idx := i, param := p % 2 ^ 32, time := t }
        ((s.withSo { s.so with taken := s.so.taken + 1 }).inc .soReports).so.opened with
    | some o => rw [State.ingest_joins _ _ _ _ _ o hj]; exact ⟨rfl, rfl⟩
    | none => rw [State.ingest_opens _ _ _ _ _ hj h, State.openPostmark_opened]; exact ⟨rfl, rfl⟩
  · exact ⟨rfl, rfl⟩

theorem State.captureTrigger_lost (s : State) (t p q : Nat) (h : s.so.opened.length < 64) :
    (s.captureTrigger t p q).1.so.lost0 = s.so.lost0 ∧ (s.captureTrigger t p q).1.so.lost1 = s.so.lost1 := by
  unfold State.captureTrigger
  dsimp only
  split
  · exact ⟨rfl, rfl⟩
  · split
    · exact s.report_lost _ _ _ _ _ h
    · split
      · exact ⟨rfl, rfl⟩
      · exact State.report_lost _ _ _ _ _ _ h

theorem State.raise_lost (s : State) (c k i p : Nat) (h : s.so.opened.length < 63) :
    (s.raise c k i p).so.lost0 = s.so.lost0 ∧ (s.raise c k i p).so.lost1 = s.so.lost1 := by
  obtain ⟨-, -, hlen⟩ := s.report_spec c k i p s.now (by omega)
  have hrep := s.report_lost c k i p s.now (by omega)
  unfold State.raise State.raiseAt
  extract_lets s1 s2
  have hs2 : s2.so = s1.so := by
    simp only [s2]
    split
    · exact s1.irqFire_so _
    · rfl
  rw [show s.report c k i p s.now = s1 from rfl] at hrep hlen
  split
  · have := s2.captureTrigger_lost (s2.epochAt s.now) (s2.n .jrnPreMs) (s2.n .jrnPostMs) (by rw [hs2]; omega)
    rwa [hs2, hrep.1, hrep.2] at this
  · rwa [hs2]

theorem soRingOverflow_reports (s : State) (a : Agent) : let lost := if agentNo a = 0 then s.so.lost0 else s.so.lost1
    let q := if agentNo a = 0 then s.so.q0 else s.so.q1
    lost ≠ 0 → q.length < 1024 → Yields (exec (.soRingOverflow a) s) fun t =>
      t.quiet = s.quiet ∧ Raised s t 0x0C61 kRing 16 ∧
      (s.so.opened.length < 63 → (if agentNo a = 0 then t.so.lost0 else t.so.lost1) = 0) := by
  intro lost q hlost hq
  let u := s.withSo (if agentNo a = 0 then { s.so with lost0 := 0 } else { s.so with lost1 := 0 })
  have hu : u.so.taken = s.so.taken ∧ u.so.opened = s.so.opened ∧ (if agentNo a = 0 then u.so.lost0 else u.so.lost1) = 0 := by
    cases a <;> exact ⟨rfl, rfl, rfl⟩
  refine yields_if ⟨hlost, hq⟩ ⟨(State.raise_quiet _ _ _ _ _).trans rfl, fun h1 h2 => ?_, fun h => ?_⟩
  · exact u.raiseAt_raised _ _ _ _ _ (by rw [hu.1]; exact h1) (by rw [hu.2.1]; exact h2)
  · obtain ⟨h0, h1⟩ := u.raise_lost 0x0C61 kRing 16 (lost % 2 ^ 31 + 2 ^ 31 * agentNo a) (by rw [hu.2.1]; exact h)
    rw [← hu.2.2]
    cases a
    · exact h0
    · exact h1

/-- Settles O12, command by command. -/
theorem postmarksCloseAndRecordsDrain : Obligations.PostmarksCloseAndRecordsDrain := by
  unfold Obligations.PostmarksCloseAndRecordsDrain
  exact fun s => ⟨postmarkClose_closes s, eventRecordDrain_writes s, soRingOverflow_reports s⟩

end Sys2Proof.Machine
end

section
/-!
SUPPORT. Proofs/Captures.lean: what reports leave of the journal, and the obligations on captures, on exports and on lost records
(sections 13.2 to 13.4).
-/
namespace Sys2Proof.Machine

/-! ## What a report leaves -/

/-- The journal, and all points but those of the sorting office. -/
def State.journalView (s : State) : Journal × (Field → Nat → Nat → Word) :=
  (s.jrn, fun f i j => if f ∈ officeFields then 0 else s.w f i j)

theorem State.journalView_put (s : State) (f : Field) (i : Nat) (w : Word) (j : Nat) (hf : f ∈ officeFields) :
    (s.put f i w j).journalView = s.journalView := by
  refine Prod.ext rfl ?_
  funext g k l
  simp only [State.journalView]
  split
  · rfl
  · next hg => exact State.w_put_field _ _ fun e => hg (e ▸ hf)

theorem State.journalView_of_postView {s t : State} (h : t.postView = s.postView) : t.journalView = s.journalView := by
  refine Prod.ext (congrArg (fun x => x.2.1) h) ?_
  funext f i j
  simp only [State.journalView]
  split
  · rfl
  · next hf =>
    have hn : ¬(f = .coreDeadLetters ∨ f = .soRingLost) := fun e => hf (by rcases e with e | e <;> rw [e] <;> decide)
    have := congrFun (congrFun (congrFun (congrArg (fun x => x.2.2) h) f) i) j
    simpa only [State.postView, if_neg hn] using this

theorem State.journalView_of_desk {s t : State} (h : t.desk = s.desk) : t.journalView = s.journalView :=
  State.journalView_of_postView (State.postView_of_desk h)

theorem State.closePostmark_journalView (s : State) (p : Postmark) (b : Bool) : (s.closePostmark p b).journalView = s.journalView := by
  unfold State.closePostmark
  extract_lets many e c0 s1 s2
  have h1 : s1.journalView = s.journalView :=
    (State.journalView_put _ _ _ _ _ (by decide)).trans ((State.journalView_put _ _ _ _ _ (by decide)).trans rfl)
  have h2 : s2.journalView = s1.journalView := by
    simp only [s2]
    split
    · exact (forN_keeps State.journalView _ _ _ fun _ _ => State.journalView_put _ _ _ _ _ (by decide)).trans
        ((State.journalView_put _ _ _ _ _ (by decide)).trans ((State.journalView_put _ _ _ _ _ (by decide)).trans
          ((State.journalView_put _ _ _ _ _ (by decide)).trans (State.journalView_put _ _ _ _ _ (by decide)))))
    · rfl
  exact (State.journalView_of_postView ((State.deliver_postView _ _ _).trans (State.deliver_postView _ _ _))).trans (h2.trans h1)

theorem State.openPostmark_journalView (s : State) (p : Postmark) : (s.openPostmark p).journalView = s.journalView := by
  unfold State.openPostmark
  dsimp only
  split
  · exact (State.journalView_put _ _ _ _ _ (by decide)).trans rfl
  · rfl

theorem State.ingest_journalView (n c k : Nat) (r : Rep) (s : State) : (State.ingest n c k r s).journalView = s.journalView := by
  have early : ∀ (s : State) (p : Postmark) (ps : List Postmark) (c k : Nat) (r : Rep),
      let s1 := ((s.withSo { s.so with opened := ps }).closePostmark p true).inc .soEarlyCloses
      (s1.openPostmark (s1.newPostmark c k r)).journalView = s.journalView := fun s p ps c k r =>
    (State.openPostmark_journalView _ _).trans ((State.journalView_put _ _ _ _ _ (by decide)).trans
      ((State.closePostmark_journalView _ _ _).trans rfl))
  induction n generalizing c k r s with
  | zero =>
    unfold State.ingest
    split
    · rfl
    · split
      · split
        · exact early s _ _ c k r
        · exact s.openPostmark_journalView _
      · exact s.openPostmark_journalView _
  | succ n ih =>
    unfold State.ingest
    split
    · rfl
    · split
      · split
        · exact (ih _ _ _ _).trans ((State.journalView_put _ _ _ _ _ (by decide)).trans (early s _ _ c k r))
        · exact s.openPostmark_journalView _
      · exact s.openPostmark_journalView _

/-- A report leaves the journal, and every point that is not the sorting office's. -/
theorem State.report_journalView (s : State) (c k i p t : Nat) : (s.report c k i p t).journalView = s.journalView := by
  unfold State.report
  split
  · exact (State.ingest_journalView _ _ _ _ _).trans ((State.journalView_put _ _ _ _ _ (by decide)).trans rfl)
  · exact (State.journalView_put _ _ _ _ _ (by decide)).trans rfl

/-- An event that starts no capture leaves them too. -/
theorem State.raise_journalView (s : State) (c k i p : Nat) (h : s.isTrigger c = false) : (s.raise c k i p).journalView = s.journalView :=
  (State.journalView_of_desk (s.raiseAt_plain c k i p s.now h)).trans (s.report_journalView c k i p s.now)

theorem State.capture_of_journalView {s t : State} (h : t.journalView = s.journalView) (i : Nat) : t.capture i = s.capture i := by
  simp only [State.capture, show t.jrn = s.jrn from congrArg Prod.fst h]

theorem State.w_of_journalView {s t : State} (h : t.journalView = s.journalView) (f : Field) (i j : Nat) (hf : f ∉ officeFields) :
    t.w f i j = s.w f i j := by
  have := congrFun (congrFun (congrFun (congrArg Prod.snd h) f) i) j
  simpa only [State.journalView, if_neg hf] using this

/-- Operations before the raise leave which codes start a capture. -/
theorem State.isTrigger_of {s t : State} (h : ∀ k, t.n .jrnTrigCode 0 k = s.n .jrnTrigCode 0 k) (c : Nat) :
    t.isTrigger c = s.isTrigger c := by
  simp only [State.isTrigger, h]

/-! ## Captures -/

theorem State.capture_putCapture_same (s : State) (i : Nat) (c : Capture) : (s.putCapture i c).capture i = c := by
  simp [State.capture, State.putCapture, State.put64, State.putN, State.put]

theorem State.capture_putCapture_ne (s : State) {i j : Nat} (c : Capture) (h : j ≠ i) : (s.putCapture i c).capture j = s.capture j := by
  simp [State.capture, State.putCapture, State.put64, State.putN, State.put, Tab.get_put_ne _ _ _ h]

theorem State.putCapture_n (s : State) (i : Nat) (c : Capture) (f : Field) (k j : Nat) (hf : f ≠ .jcapFirst ∧ f ≠ .jcapLast) :
    (s.putCapture i c).n f k j = s.n f k j :=
  (State.n_putN_field _ hf.2).trans ((State.n_putN_field _ hf.2).trans ((State.n_putN_field _ hf.1).trans (State.n_putN_field _ hf.1)))

theorem State.jrnPublish_w (s : State) (f : Field) (i j : Nat) (hf : f ≠ .jrnState) : s.jrnPublish.w f i j = s.w f i j :=
  State.w_putN_field _ hf

theorem State.jrnPublish_capture (s : State) (i : Nat) : s.jrnPublish.capture i = s.capture i := by
  unfold State.jrnPublish
  rfl

/-- A trigger while a capture records extends it. -/
theorem State.captureTrigger_extends (s : State) (t pre post i : Nat) (c : Capture)
    (h : s.jrn.caps.find? (fun e => e.2.recording) = some (i, c)) : let u := (s.captureTrigger t pre post).1
    u.capture i = { c with post := max c.post (t + epochsOfMs s.te post) } ∧
      u.w .jcapTriggers i 0 = Word.ofNat (s.n .jcapTriggers i + 1) := by
  let s1 := s.putCapture i { c with post := max c.post (t + epochsOfMs s.te post) }
  have hstep : (s.captureTrigger t pre post).1 = (s1.inc .jcapTriggers i).jrnPublish := by
    unfold State.captureTrigger
    rw [h]
  have hn : s1.n .jcapTriggers i = s.n .jcapTriggers i := s.putCapture_n _ _ _ _ _ (by decide)
  have hcap : (s1.inc .jcapTriggers i).capture i = s1.capture i := rfl
  dsimp only
  rw [hstep, State.jrnPublish_capture, hcap, State.jrnPublish_w _ _ _ _ (by decide), ← hn]
  exact ⟨s.capture_putCapture_same i _, State.w_put_same _ _ _ _ _⟩

/-- A trigger while no capture records takes the lowest free one. -/
theorem State.captureTrigger_opens (s : State) (t pre post i : Nat)
    (h : s.jrn.caps.find? (fun e => e.2.recording) = none) (hi : [0, 1, 2, 3].find? (fun i => !(s.capture i).held) = some i) :
    let u := (s.captureTrigger t pre post).1
    (u.capture i).held = true ∧ (u.capture i).recording = true ∧ (u.capture i).post = t + epochsOfMs s.te post ∧
      (u.capture i).first = (captureStart s.jrn.live (t - epochsOfMs s.te pre)).1 ∧ u.n .jcapTriggers i = 1 ∧
      ∀ j, j ≠ i → u.capture j = s.capture j := by
  let first := (captureStart s.jrn.live (t - epochsOfMs s.te pre)).1
  let last := t + epochsOfMs s.te post
  let recs := recsFrom s.jrn.live first last
  let c : Capture := { Capture.init with held := true, first := first, last := lastEpoch recs, post := last, recording := true, recs := recs }
  let s1 := (s.putCapture i c).putN .jcapTriggers i 1
  let s2 := if (captureStart s.jrn.live (t - epochsOfMs s.te pre)).2 then s1 else s1.report 0x0B02 kDevice 0 0 s.now
  have hstep : (s.captureTrigger t pre post).1 = s2.jrnPublish := by
    unfold State.captureTrigger
    rw [h]
    dsimp only
    rw [hi]
  have hview : s2.journalView = s1.journalView := by
    simp only [s2]
    split
    · rfl
    · exact s1.report_journalView _ _ _ _ _
  have hcap : ∀ j, s2.jrnPublish.capture j = s1.capture j := fun j => State.capture_of_journalView hview j
  have hc : s1.capture i = c := s.capture_putCapture_same i c
  dsimp only
  rw [hstep, hcap, hc]
  refine ⟨rfl, rfl, rfl, rfl, ?_, fun j hj => (hcap j).trans (s.capture_putCapture_ne c hj)⟩
  refine (State.n_putN_field _ (by decide)).trans ((State.n_ext (State.w_of_journalView hview _ _ _ (by decide))).trans ?_)
  exact State.n_putN_same _ _ _ _ _ (by decide)

/-- A trigger while four captures are held and none records is refused and reported. -/
theorem State.captureTrigger_refused (s : State) (t pre post : Nat) (h : s.jrn.caps.find? (fun e => e.2.recording) = none)
    (hi : [0, 1, 2, 3].find? (fun i => !(s.capture i).held) = none) : let u := (s.captureTrigger t pre post).1
    Raised s u 0x0B03 kDevice 0 ∧ ∀ j, u.capture j = s.capture j := by
  have hstep : (s.captureTrigger t pre post).1 = s.report 0x0B03 kDevice 0 0 s.now := by
    unfold State.captureTrigger
    rw [h]
    dsimp only
    rw [hi]
  dsimp only
  rw [hstep]
  exact ⟨fun h1 h2 => (s.report_spec 0x0B03 kDevice 0 0 s.now (by omega)).1 h1, fun j =>
    State.capture_of_journalView (s.report_journalView _ _ _ _ _) j⟩

theorem journalTrigger_captures (s : State) (time : Nat) (hu : s.up = true) : Yields (exec (.journalTrigger time) s) fun t =>
    let last := s.epochAt time + epochsOfMs s.te (s.n .jrnPostMs)
    let rec' := s.jrn.caps.find? (fun e => e.2.recording)
    t.quiet = s.quiet ∧
    (∀ i c, rec' = some (i, c) → t.capture i = { c with post := max c.post last } ∧
      t.w .jcapTriggers i 0 = Word.ofNat (s.n .jcapTriggers i + 1)) ∧
    (rec' = none → ∀ i, [0, 1, 2, 3].find? (fun i => !(s.capture i).held) = some i →
      (t.capture i).held = true ∧ (t.capture i).recording = true ∧ (t.capture i).post = last ∧
      (t.capture i).first = (captureStart s.jrn.live (s.epochAt time - epochsOfMs s.te (s.n .jrnPreMs))).1 ∧
      t.n .jcapTriggers i = 1 ∧ ∀ j, j ≠ i → t.capture j = s.capture j) ∧
    (rec' = none → [0, 1, 2, 3].find? (fun i => !(s.capture i).held) = none →
      Raised s t 0x0B03 kDevice 0 ∧ ∀ j, t.capture j = s.capture j) :=
  yields_if hu ⟨s.captureTrigger_quiet _ _ _, s.captureTrigger_extends _ _ _, fun h i => s.captureTrigger_opens _ _ _ i h,
    s.captureTrigger_refused _ _ _⟩

theorem State.withHost_shown (s : State) (v : HostIf) : (s.withHost v).shown = s.shown := rfl

theorem journalFrozen_completes (s : State) (i : Fin 4) (hh : (s.capture i).held = true) (hr : (s.capture i).recording = true)
    (hp : (s.capture i).post ≤ (s.capture i).last) (ht : s.isTrigger 0x0B01 = false) : Yields (exec (.journalFrozen i) s) fun t =>
      t.capture i = { s.capture i with recording := false } ∧ Raised s t 0x0B01 kDevice 0 ∧
      t.shown = s.shown ∧ t.rest = (s.withHost t.host).rest ∧
      t.host.fins = s.host.fins.map (fun f => if f.wait == .capture i
        then { f with status := 0, item := noItem, value := 0, wait := .ready } else f) := by
  let s1 := (s.putCapture i { s.capture i with recording := false }).jrnPublish
  let u := s1.settle (fun f => f.wait == .capture i) 0 noItem 0 .ready
  have h1 : s1.quiet = s.quiet := (State.jrnPublish_quiet _).trans (State.putCapture_quiet _ _ _)
  have hq : (u.raise 0x0B01 kDevice 0 i).quiet = u.quiet := State.raise_quiet _ _ _ _ _
  have htrig : u.isTrigger 0x0B01 = false := (State.isTrigger_of (fun k => State.n_of_quiet h1 _ _ _ rfl) _).trans ht
  have hview := u.raise_journalView 0x0B01 kDevice 0 i htrig
  have hstep : exec (.journalFrozen i) s = .next (u.raise 0x0B01 kDevice 0 i) := congrArg Host.Outcome.next (if_pos ⟨hh, hr, hp⟩)
  have hsh : u.shown = s1.shown := s1.withHost_shown _
  have hhost : (u.raise 0x0B01 kDevice 0 i).rest.host = u.rest.host := (congrArg State.host (State.rest_of_quiet hq) :)
  rw [hstep]
  refine yields_next ⟨?_, State.raise_raised _ _ _ _ _ rfl, (State.shown_of_quiet hq).trans (hsh.trans (State.shown_of_quiet h1)), ?_, ?_⟩
  · have hc : u.capture i = s1.capture i := rfl
    rw [State.capture_of_journalView hview i, hc, State.jrnPublish_capture, State.capture_putCapture_same]
  · have h2 : s1.rest = s.rest := State.rest_of_quiet h1
    have h3 := congrArg (fun x : State => x.withHost (u.raise 0x0B01 kDevice 0 i).rest.host) h2
    refine (State.rest_of_quiet hq).trans (Eq.trans ?_ h3)
    rw [hhost]
    rfl
  · exact State.hostPart_of_quiet hq HostIf.fins fun _ => rfl

/-- Settles O13, command by command. -/
theorem capturesOpenExtendAndFreeze : Obligations.CapturesOpenExtendAndFreeze := by
  unfold Obligations.CapturesOpenExtendAndFreeze
  exact fun s => ⟨journalTrigger_captures s, journalFrozen_completes s⟩

/-! ## Export (R392, R393) -/

/-- What an entry of a host ring leaves: points, interrupts, sorting office, journal, and the completions that wait. -/
def State.exportView (s : State) : Store × Irq × Sorting × Journal × List FinCpl := (s.pts, s.irq, s.so, s.jrn, s.host.fins)

theorem State.msix_exportView (s : State) (v : Nat) : (s.msix v).exportView = s.exportView := by
  unfold State.msix; split <;> rfl

/-- An entry of a host ring: the ring's next sequence number, and what stays. -/
theorem State.ringWrote_host (s : State) (k : Nat) (hk : k < 32) : let t := s.ringWrote k
    t.exportView = s.exportView ∧ (t.ring k).seq = (s.ring k).seq + 1 ∧ s.out ⊆ t.out := by
  have hmsix : ∀ (u : State) v, u.out ⊆ (u.msix v).out := fun u v => by
    unfold State.msix
    split
    · exact List.subset_cons_self _ _
    · exact List.Subset.refl _
  unfold State.ringWrote
  extract_lets r r1 s1 t
  have hs1 : s.out ⊆ s1.out := List.subset_cons_self _ _
  by_cases hc : (r1.irqEn && decide (r1.modCount ≤ r1.unsig)) = true
  · let r2 : Ring := { r1 with unsig := 0 }
    have hsig : (s1.putRing k r2).ringSignal k = (s1.putRing k r2).msix ((s1.putRing k r2).ring k).vector := if_pos hk
    rw [show t = (s1.putRing k r2).ringSignal k from if_pos hc]
    refine ⟨?_, ?_, ?_⟩
    · rw [hsig]; exact State.msix_exportView _ _
    · rw [State.ringSignal_ring, State.ring_putRing_same]
    · rw [hsig]; exact List.Subset.trans hs1 (hmsix (s1.putRing k r2) _)
  · rw [show t = s1 from if_neg hc]
    exact ⟨rfl, congrArg Ring.seq (s.ring_putRing_same k r1), hs1⟩

theorem journalExportBlock_sends (s : State) (x : Export) (xs : List Export) (hx : s.jrn.exports = x :: xs)
    (hl : (s.ring 20).live = true) (hr : 0 < (s.ring 20).room) (hne : x.recs ≠ [])
    (hfit : fitBlock ((s.ring 20).entryBytes - 64) x.recs ≠ []) : Yields (exec .journalExportBlock s) fun t =>
      let blk := fitBlock ((s.ring 20).entryBytes - 64) x.recs
      t.jrn = { s.jrn with exports := { x with recs := x.recs.drop blk.length, first := false } :: xs } ∧
      (t.ring 20).seq = (s.ring 20).seq + 1 ∧ (∀ k, k ≠ 20 → t.ring k = s.ring k) ∧ t.host.fins = s.host.fins ∧
      t.pts = s.pts ∧ t.irq = s.irq ∧ t.so = s.so ∧
      (∃ first last flags, Out.exportBlock ((s.ring 20).seq + 1) first last flags blk ∈ t.out) := by
  let blk := fitBlock ((s.ring 20).entryBytes - 64) x.recs
  let rest := x.recs.drop blk.length
  let epochs := blk.map (·.epoch)
  let first := epochs.foldl min (epochs.headD 0)
  let last := epochs.foldl max 0
  let flags := Arith.b2n x.first + 2 * Arith.b2n rest.isEmpty + 4 * Arith.b2n ((blk.head?.map (·.kind)) == some 3)
  let u := (s.withJrn { s.jrn with exports := { x with recs := rest, first := false } :: xs }).emit
    (.exportBlock ((s.ring 20).seq + 1) first last flags blk)
  have hstep : exec .journalExportBlock s = .next (u.ringWrote 20) := by
    change Host.Outcome.next s.exportBlock = _
    unfold State.exportBlock
    rw [hx]
    dsimp only
    rw [if_pos ⟨hl, hr, by simp [hne]⟩, if_neg (by simp [hfit])]
  obtain ⟨hview, hseq, hout⟩ := u.ringWrote_host 20 (by decide)
  rw [hstep]
  refine yields_next ?_
  have hring : ∀ k, k ≠ 20 → (u.ringWrote 20).ring k = s.ring k := fun k hk => (u.ringWrote_ring_ne hk).trans rfl
  generalize u.ringWrote 20 = t at hview hseq hout hring
  simp only [State.exportView, Prod.mk.injEq] at hview
  obtain ⟨hpts, hirq, hso, hjrn, hfins⟩ := hview
  exact ⟨hjrn, hseq, hring, hfins, hpts, hirq, hso, first, last, flags, hout (List.mem_cons_self ..)⟩

theorem journalExportDone_ends (s : State) (x : Export) (xs : List Export) (hx : s.jrn.exports = x :: xs) (hnil : x.recs = [])
    (ht : s.isTrigger 0x0B06 = false) : Yields (exec .journalExportDone s) fun t =>
      t.jrn = { s.jrn with exports := xs } ∧ t.shown = s.shown ∧ Raised s t 0x0B06 kDevice 0 ∧
      t.host.fins = s.host.fins.map (fun f => if f.wait == .exported && f.cmd == x.cmd
        then { f with status := 0, item := noItem, value := 0, wait := .ready } else f) := by
  let u1 := (s.withJrn { s.jrn with exports := xs }).settle (fun f => f.wait == .exported && f.cmd == x.cmd) 0 noItem 0 .ready
  let u := u1.jrnPublish
  have hstep : exec .journalExportDone s = .next (u.raise 0x0B06 kDevice 0 0) := by
    change execJournalExportDone s = _
    unfold execJournalExportDone
    rw [hx]
    dsimp only
    rw [if_pos (by rw [hnil]; rfl), State.endExport, hx]
  have hp : u.quiet = u1.quiet := State.jrnPublish_quiet _
  have hq : (u.raise 0x0B06 kDevice 0 0).quiet = u.quiet := State.raise_quiet _ _ _ _ _
  have htrig : u.isTrigger 0x0B06 = false := (State.isTrigger_of (fun k => State.n_putN_field u1 (by decide)) _).trans ht
  have hview := u.raise_journalView 0x0B06 kDevice 0 0 htrig
  rw [hstep]
  exact yields_next ⟨(congrArg Prod.fst hview).trans rfl, (State.shown_of_quiet hq).trans ((State.shown_of_quiet hp).trans rfl),
    State.raise_raised _ _ _ _ _ rfl, State.hostPart_of_quiet hq HostIf.fins fun _ => rfl⟩

/-! ## Loss (R387) -/

theorem Tab.get_map {α : Type} (d : α) (f : α → α) (hd : f d = d) (t : Tab α) (n : Nat) :
    Tab.get d (t.map (fun e => (e.1, f e.2))) n = f (Tab.get d t n) := by
  induction t with
  | nil => exact hd.symm
  | cons e r ih =>
    obtain ⟨k, u⟩ := e
    simp only [List.map_cons, Tab.get]
    split
    · rfl
    · exact ih

/-- The records that a memory error leaves. -/
def keptRecs (lost : List Nat) (ms : List MailRec) : List MailRec := ms.filter (fun m => !(m.kind == 1 && lost.contains m.epoch))

theorem journalLost_forgets (s : State) (lost : List Nat) (hu : s.up = true) : Yields (exec (.journalLost lost) s) fun t =>
    t.jrn.live = s.jrn.live.filter (fun m => !(m.kind == 1 && lost.contains m.epoch)) ∧
    (s.isTrigger 0x0B04 = false → ∀ i, (t.capture i).recs =
      (s.capture i).recs.filter (fun m => !(m.kind == 1 && lost.contains m.epoch))) ∧
    t.jrn.ckptDue = true ∧ t.jrn.gap = true ∧ Raised s t 0x0B04 kDevice 0 ∧
    t.w .jrnLost 0 0 = Word.ofNat (s.n .jrnLost + lost.length) ∧
    t.rest = (s.withJrn { s.jrn with live := t.jrn.live, ckptDue := true, gap := true }).rest ∧ QuietPoints s t [⟨.jrnLost, 0, 0⟩] := by
  let u0 := s.withJrn { s.jrn with live := keptRecs lost s.jrn.live,
                                   caps := s.jrn.caps.map (fun e => (e.1, { e.2 with recs := keptRecs lost e.2.recs })),
                                   ckptDue := true, gap := true }
  let u := u0.addN .jrnLost 0 lost.length
  have hq : (u.raise 0x0B04 kDevice 0 lost.length).quiet = u.quiet := State.raise_quiet _ _ _ _ _
  have hstep : exec (.journalLost lost) s = .next (u.raise 0x0B04 kDevice 0 lost.length) := congrArg Host.Outcome.next (if_pos hu)
  have hlive : (u.raise 0x0B04 kDevice 0 lost.length).jrn.live = keptRecs lost s.jrn.live :=
    State.jrnPart_of_quiet hq Journal.live fun _ => rfl
  rw [hstep]
  refine yields_next ⟨hlive, fun htrig i => ?_, State.jrnPart_of_quiet hq Journal.ckptDue fun _ => rfl,
    State.jrnPart_of_quiet hq Journal.gap fun _ => rfl, State.raise_raised _ _ _ _ _ rfl,
    (State.w_of_quiet hq _ _ _ rfl).trans (State.w_put_same _ _ _ _ _), ?_, ?_⟩
  · have ht : u.isTrigger 0x0B04 = false := (State.isTrigger_of (fun k => State.n_putN_field u0 (by decide)) _).trans htrig
    rw [State.capture_of_journalView (u.raise_journalView _ _ _ _ ht) i]
    exact congrArg Capture.recs (Tab.get_map Capture.init (fun c => { c with recs := keptRecs lost c.recs }) rfl s.jrn.caps i)
  · rw [hlive]; exact (State.rest_of_quiet hq).trans rfl
  · exact (QuietPoints.putN u0 .jrnLost 0 _ 0).then fun f i j hf => State.w_of_quiet hq f i j hf

/-- Settles O14, command by command. -/
theorem exportsAndLosses : Obligations.ExportsAndLosses := by
  unfold Obligations.ExportsAndLosses
  exact fun s => ⟨journalExportBlock_sends s, journalExportDone_ends s, journalLost_forgets s⟩

end Sys2Proof.Machine
end

section
/-!
SUPPORT. Proofs/Rings.lean: a stopped ring stays as it is while events are reported, and the obligation on the start, the stop and the
doorbells of rings (sections 11.3 and 11.9).
-/
namespace Sys2Proof.Machine

/-! ## Reporting leaves a stopped ring -/

/-- A ring that was not in use has not changed between two states. -/
def RingHeld (k : Nat) (s t : State) : Prop := (s.ring k).live = false → t.ring k = s.ring k

section
variable {k : Nat} {s t u : State}

theorem RingHeld.of_host (h : t.host = s.host) : RingHeld k s t := fun _ => by simp only [State.ring, h]

theorem RingHeld.trans (h : RingHeld k s t) (g : RingHeld k t u) : RingHeld k s u := fun hl =>
  (g ((congrArg Ring.live (h hl)).trans hl)).trans (h hl)

theorem RingHeld.put (s : State) (f : Field) (i : Nat) (w : Word) (j : Nat) : RingHeld k s (s.put f i w j) := .of_host rfl

theorem RingHeld.withSo (s : State) (x : Sorting) : RingHeld k s (s.withSo x) := .of_host rfl

theorem RingHeld.jrnPublish (s : State) : RingHeld k s s.jrnPublish := .put _ _ _ _ _

theorem RingHeld.putCapture (s : State) (i : Nat) (c : Capture) : RingHeld k s (s.putCapture i c) := .of_host rfl

theorem RingHeld.forN (n : Nat) (f : Nat → State → State) (s : State) (h : ∀ a t, RingHeld k t (f a t)) : RingHeld k s (forN n f s) := by
  induction n with
  | zero => exact fun _ => rfl
  | succ n ih => exact ih.trans (h n _)

end

theorem State.deliver_held (k key : Nat) (s : State) (e : EvRec) : RingHeld k s (s.deliver key e) := by
  unfold State.deliver
  extract_lets q r s1
  split
  · next hc =>
    simp only [Bool.and_eq_true, decide_eq_true_eq] at hc
    have h1 : RingHeld k s s1 := fun hl => by
      have hk : k ≠ key := fun e => by
        have : (s.ring key).live = true := hc.1.2
        rw [e, this] at hl
        exact absurd hl (by decide)
      exact (State.ringWrote_ring_ne _ hk).trans rfl
    split
    · exact h1.trans (.of_host (s1.irqFire_host 10))
    · exact h1
  · split
    · split <;> exact .of_host rfl
    · split <;> exact .of_host rfl

theorem State.putBitmap_held (k : Nat) (s : State) (slot : Nat) (e : EvRec) (idxs : List Nat) : RingHeld k s (s.putBitmap slot e idxs) := by
  unfold State.putBitmap
  extract_lets s1
  exact (RingHeld.of_host (t := s1) rfl).trans (RingHeld.forN 128 _ s1 fun _ _ => .put _ _ _ _ _)

theorem State.closePostmark_held (k : Nat) (s : State) (p : Postmark) (b : Bool) : RingHeld k s (s.closePostmark p b) := by
  unfold State.closePostmark
  extract_lets many e c0 s1 s2
  have h2 : RingHeld k s s2 := by
    simp only [s2]
    split
    · exact (RingHeld.of_host (t := s1) rfl).trans (s1.putBitmap_held k _ _ _)
    · exact .of_host rfl
  exact h2.trans ((State.deliver_held k 16 _ _).trans (State.deliver_held k 48 _ _))

theorem State.openPostmark_held (k : Nat) (s : State) (p : Postmark) : RingHeld k s (s.openPostmark p) := by
  unfold State.openPostmark
  dsimp only
  split <;> exact .of_host rfl

theorem State.ingest_held (k n c d : Nat) (r : Rep) (s : State) : RingHeld k s (State.ingest n c d r s) := by
  have early : ∀ (s : State) (p : Postmark) (ps : List Postmark) (c d : Nat) (r : Rep),
      let s1 := ((s.withSo { s.so with opened := ps }).closePostmark p true).inc .soEarlyCloses
      RingHeld k s (s1.openPostmark (s1.newPostmark c d r)) := fun s p ps c d r =>
    (((RingHeld.withSo s _).trans (State.closePostmark_held k _ p true)).trans (.put _ _ _ _ _)).trans (State.openPostmark_held k _ _)
  induction n generalizing c d r s with
  | zero =>
    unfold State.ingest
    split
    · exact .of_host rfl
    · split
      · split
        · exact early s _ _ c d r
        · exact s.openPostmark_held k _
      · exact s.openPostmark_held k _
  | succ n ih =>
    unfold State.ingest
    split
    · exact .of_host rfl
    · split
      · split
        · next p ps _ _ =>
          let s1 := ((s.withSo { s.so with opened := ps }).closePostmark p true).inc .soEarlyCloses
          exact ((early s p ps c d r).trans (.put _ _ _ _ _)).trans (ih _ _ _ _)
        · exact s.openPostmark_held k _
      · exact s.openPostmark_held k _

theorem State.report_held (k : Nat) (s : State) (c d i p t : Nat) : RingHeld k s (s.report c d i p t) := by
  unfold State.report
  split
  · exact ((RingHeld.withSo s _).trans (.put _ _ _ _ _)).trans (State.ingest_held k 2 c d _ _)
  · exact (RingHeld.withSo s _).trans (.put _ _ _ _ _)

theorem State.captureTrigger_held (k : Nat) (s : State) (t p q : Nat) : RingHeld k s (s.captureTrigger t p q).1 := by
  unfold State.captureTrigger
  dsimp only
  split
  · exact ((RingHeld.putCapture s _ _).trans (.put _ _ _ _ _)).trans (.jrnPublish _)
  · split
    · exact s.report_held k _ _ _ _ _
    · split
      · exact ((RingHeld.putCapture s _ _).trans (.put _ _ _ _ _)).trans (.jrnPublish _)
      · exact (((RingHeld.putCapture s _ _).trans (.put _ _ _ _ _)).trans (State.report_held k _ _ _ _ _ _)).trans (.jrnPublish _)

/-- Raising an event leaves a ring that is not in use, also an event ring. -/
theorem State.raise_held (k : Nat) (s : State) (c d i p : Nat) : RingHeld k s (s.raise c d i p) := by
  unfold State.raise State.raiseAt
  extract_lets s1 s2
  have h2 : RingHeld k s s2 := (s.report_held k c d i p s.now).trans (by
    simp only [s2]
    split
    · exact .of_host (s1.irqFire_host _)
    · exact fun _ => rfl)
  split
  · exact h2.trans (s2.captureTrigger_held k _ _ _)
  · exact h2

/-! ## Start, stop and fault of a ring (R333, R337) -/

/-- A ring stops with a fault code, counted and reported. -/
theorem State.ringFault_effect (s : State) (key code : Nat) : let t := s.ringFault key code
    t.ring key = { s.ring key with enable := false, fault := true, code := code, waiting := none } ∧
    t.w .devHifRingFaults 0 0 = Word.ofNat (s.n .devHifRingFaults + 1) ∧ Raised s t 0x0A04 kRing (ringNo key) ∧
    (∀ k, k ≠ key → recordRing k = false → t.ring k = s.ring k) ∧ t.env = s.env ∧ QuietPoints s t [⟨.devHifRingFaults, 0, 0⟩] := by
  let r : Ring := { s.ring key with enable := false, fault := true, code := code, waiting := none }
  let u := (s.putRing key r).inc .devHifRingFaults
  have hr : u.ring key = r := s.ring_putRing_same key r
  have hq : (u.raise 0x0A04 kRing (ringNo key) code).quiet = u.quiet := State.raise_quiet _ _ _ _ _
  have hheld := u.raise_held key 0x0A04 kRing (ringNo key) code (by rw [hr]; rfl)
  refine ⟨hheld.trans hr, (State.w_of_quiet hq _ _ _ rfl).trans (State.w_put_same _ _ _ _ _), State.raise_raised _ _ _ _ _ rfl,
    fun k hk hrec => (State.ring_of_quiet hq k hrec).trans (s.ring_putRing_ne r hk), (State.env_of_quiet hq).trans rfl, ?_⟩
  exact (QuietPoints.putN (s.putRing key r) .devHifRingFaults 0 _ 0).then fun f i j hf => State.w_of_quiet hq f i j hf

/-- A tier's record changes with its ring, and nothing else. -/
theorem State.tierStart_leaves (s : State) (a n : Nat) : s.tierStart a n = s.withEnv (s.tierStart a n).env := by
  unfold State.tierStart
  split <;> rfl

theorem State.ringStop_leaves (s : State) (key : Nat) : let t := s.ringStop key
    t.ring key = { s.ring key with enable := false, fault := false, code := 0, waiting := none } ∧
    (∀ k, k ≠ key → t.ring k = s.ring k) ∧ t = (s.withHost t.host).withEnv t.env ∧
    t.host = { s.host with rings := t.host.rings } := by
  let u := s.putRing key { s.ring key with enable := false, fault := false, code := 0, waiting := none }
  have hu : s.ringStop key = u.withEnv (s.ringStop key).env := by
    unfold State.ringStop
    dsimp only
    split <;> rfl
  dsimp only
  rw [hu]
  exact ⟨s.ring_putRing_same key _, fun k hk => s.ring_putRing_ne _ hk, rfl, rfl⟩

theorem ringEnable_startsOrFaults (a : Agent) (n : Fin 21) (v : Word) (s : State) (hex : ringExists (agentNo a) n = true)
    (hp : s.dev.powered = true) : let key := ringKey (agentNo a) n
    let r := (s.ring key).configure n v.toNat
    (s.ring key).enable = false → Yields (exec (.ringEnable a n v) s) fun t =>
      (s.ringCheck (agentNo a) n r = 0 →
        t.ring key = { r with enable := true, fault := false, code := 0, idx := 0, peer := 0, unsig := 0, unsigAt := 0, seq := 0,
                              reserved := 0, waiting := none } ∧
        Out.mirror key 0 (s.epoch % 2 ^ 32) ∈ t.out ∧ t.pts = s.pts ∧ t.irq = s.irq ∧ ∀ k, k ≠ key → t.ring k = s.ring k) ∧
      (s.ringCheck (agentNo a) n r ≠ 0 →
        (t.ring key).enable = false ∧ (t.ring key).fault = true ∧ (t.ring key).code = s.ringCheck (agentNo a) n r ∧
        t.w .devHifRingFaults 0 0 = Word.ofNat (s.n .devHifRingFaults + 1) ∧ Raised s t 0x0A04 kRing (ringNo key) ∧
        (∀ k, k ≠ key → recordRing k = false → t.ring k = s.ring k) ∧ t.env = s.env ∧
        QuietPoints s t [⟨.devHifRingFaults, 0, 0⟩]) := by
  intro key r hen
  have hstep : exec (.ringEnable a n v) s = .next (if s.ringCheck (agentNo a) n r = 0 then s.ringStart (agentNo a) n r
      else (s.putRing key r).ringFault key (s.ringCheck (agentNo a) n r)) :=
    congrArg Host.Outcome.next (if_neg (by rw [hex, hp, show (s.ring (ringKey (agentNo a) n)).enable = false from hen]; decide))
  rw [hstep]
  refine yields_next ⟨fun h0 => ?_, fun h0 => ?_⟩
  · rw [if_pos h0]
    let r1 : Ring := { r with enable := true, fault := false, code := 0, idx := 0, peer := 0, unsig := 0, unsigAt := 0, seq := 0,
                              reserved := 0, waiting := none }
    let u := s.putRing key r1
    have hu : u.ring key = r1 := s.ring_putRing_same key r1
    rw [show s.ringStart (agentNo a) n r = (u.tierStart (agentNo a) n).mirror key from rfl, u.tierStart_leaves]
    generalize (u.tierStart (agentNo a) n).env = env
    refine ⟨hu, ?_, rfl, rfl, fun k hk => s.ring_putRing_ne r1 hk⟩
    have hm : Out.mirror key ((u.ring key).spell (u.ring key).idx) (s.epoch % 2 ^ 32) ∈ ((u.withEnv env).mirror key).out :=
      List.mem_cons_self ..
    rw [hu, show r1.spell r1.idx = 0 by simp [Ring.spell, r1]] at hm
    exact hm
  · rw [if_neg h0]
    obtain ⟨hring, hw, hraised, hother, henv, hpoints⟩ := (s.putRing key r).ringFault_effect key (s.ringCheck (agentNo a) n r)
    rw [hring]
    exact ⟨rfl, rfl, rfl, hw, hraised.of_so rfl, fun k hk hrec => (hother k hk hrec).trans (s.ring_putRing_ne r hk), henv, hpoints⟩

theorem ringDisable_stops (a : Agent) (n : Fin 21) (s : State) (hex : ringExists (agentNo a) n = true) (hp : s.dev.powered = true) :
    let key := ringKey (agentNo a) n
    Yields (exec (.ringDisable a n) s) fun t =>
      t.ring key = { s.ring key with enable := false, fault := false, code := 0, waiting := none } ∧
      (∀ k, k ≠ key → t.ring k = s.ring k) ∧ t.pts = s.pts ∧ t.irq = s.irq ∧
      t.rest = ((s.withHost t.host).withEnv t.env).rest := by
  obtain ⟨hring, hother, hrest, -⟩ := s.ringStop_leaves (ringKey (agentNo a) n)
  refine yields_if (by rw [hex, hp]; rfl) ⟨hring, hother, ?_, ?_, congrArg State.rest hrest⟩
  · rw [hrest]; rfl
  · rw [hrest]; rfl

theorem doorbell_onChip (a : Agent) (n : Fin 21) (v : Word) (s : State) (hex : ringExists (agentNo a) n = true)
    (hp : s.dev.powered = true) : let key := ringKey (agentNo a) n
    (s.ring key).live = true → agentNo a = 1 → Yields (exec (.doorbell a n v) s) fun t =>
      (∀ x, s.doorbellIdx 1 n v.toNat = some x → t = s.putRing key { s.ring key with peer := x }) ∧
      (s.doorbellIdx 1 n v.toNat = none →
        (t.ring key).enable = false ∧ (t.ring key).fault = true ∧ (t.ring key).code = 3 ∧
        t.w .devHifRingFaults 0 0 = Word.ofNat (s.n .devHifRingFaults + 1) ∧
        (∀ k, k ≠ key → recordRing k = false → t.ring k = s.ring k) ∧ QuietPoints s t [⟨.devHifRingFaults, 0, 0⟩]) := by
  intro key hl ha
  cases a with
  | host => exact absurd ha (by decide)
  | logic =>
    have hbell : exec (.doorbell .logic n v) s = .next (s.ringBell 1 n v.toNat) := congrArg Host.Outcome.next (if_pos hp)
    have hcond : (ringExists 1 n && (s.ring (ringKey 1 n)).live) = true := by
      rw [show ringExists 1 n = true from hex, show (s.ring (ringKey 1 n)).live = true from hl]; rfl
    rw [hbell]
    refine yields_next ⟨fun x hx => ?_, fun hx => ?_⟩
    · unfold State.ringBell
      dsimp only
      rw [if_pos hcond, hx]
      rfl
    · obtain ⟨hring, hw, -, hother, -, hpoints⟩ := s.ringFault_effect key 3
      have hfault : s.ringBell 1 n v.toNat = s.ringFault key 3 := by
        unfold State.ringBell
        dsimp only
        rw [if_pos hcond, hx]
        rfl
      rw [hfault, hring]
      exact ⟨rfl, rfl, rfl, hw, hother, hpoints⟩

theorem doorbell_host (a : Agent) (n : Fin 21) (v : Word) (s : State) (hex : ringExists (agentNo a) n = true) (x : Nat)
    (ha : agentNo a = 0) (hup : s.endpointUp = true) (hl : (s.letterbox.ring n).live = true)
    (hx : s.letterbox.doorbellIdx 0 n v.toNat = some x) :
    Yields (exec (.doorbell a n v) s) fun t => t = s.letterbox.putRing n { s.letterbox.ring n with peer := x } := by
  cases a with
  | logic => exact absurd ha (by decide)
  | host =>
    have hbell : exec (.doorbell .host n v) s = .next (s.letterbox.ringBell 0 n v.toNat) := congrArg Host.Outcome.next (if_pos hup)
    rw [hbell]
    refine yields_next ?_
    unfold State.ringBell
    dsimp only
    rw [if_pos (by rw [show ringExists 0 n = true from hex, show (s.letterbox.ring (ringKey 0 n)).live = true from hl]; rfl), hx]
    rfl

/-- Settles O15, command by command. -/
theorem ringsStartStopAndFault : Obligations.RingsStartStopAndFault := by
  unfold Obligations.RingsStartStopAndFault
  exact fun a n v s hex hp => ⟨ringEnable_startsOrFaults a n v s hex hp, ringDisable_stops a n s hex hp, doorbell_onChip a n v s hex hp,
    doorbell_host a n v s hex⟩

end Sys2Proof.Machine
end

section
/-!
SUPPORT. Proofs/Sessions.lean: the end of a session, negotiation, resets of the interface, and the trained link (sections 11.1, 11.4 and
11.10).
-/
namespace Sys2Proof.Machine

/-! ## Every host ring stops -/

/-- A ring that is stopped without a fault. -/
def Ring.stopped (r : Ring) : Prop := r.enable = false ∧ r.fault = false ∧ r.waiting = none

theorem Ring.stopped.live {r : Ring} (h : r.stopped) : r.live = false := by simp [Ring.live, h.1]

/-- What stopping rings leaves. -/
def State.ringless (s : State) : State := (s.withHost { s.host with rings := [] }).withEnv []

theorem State.hostPart_of_ringless {α : Type} {s t : State} (h : t.ringless = s.ringless) (g : HostIf → α)
    (hg : ∀ v r, g { v with rings := r } = g v) : g t.host = g s.host := by
  exact (hg t.host []).symm.trans ((congrArg (fun x : State => g x.host) h :).trans (hg s.host []))

theorem State.ringStop_ringless (s : State) (k : Nat) : (s.ringStop k).ringless = s.ringless := by
  obtain ⟨-, -, hrest, hhost⟩ := s.ringStop_leaves k
  rw [hrest, State.ringless, State.ringless]
  generalize (s.ringStop k).host = h at hhost
  rw [hhost]
  rfl

theorem State.ringStop_stopped (s : State) (k j : Nat) (h : j = k ∨ (s.ring j).stopped) : ((s.ringStop k).ring j).stopped := by
  obtain ⟨hring, hother, -, -⟩ := s.ringStop_leaves k
  by_cases hj : j = k
  · rw [hj, hring]; exact ⟨rfl, rfl, rfl⟩
  · rw [hother j hj]; exact h.resolve_left hj

theorem forN_ringStop_stopped (n j : Nat) (s : State) (h : j < n) : ((forN n (fun n t => t.ringStop n) s).ring j).stopped := by
  induction n with
  | zero => omega
  | succ n ih => exact State.ringStop_stopped _ n j (by by_cases hj : j = n; exacts [.inl hj, .inr (ih (by omega))])

theorem State.hostRingsStop_effect (s : State) : s.hostRingsStop.ringless = s.ringless ∧
    ∀ n, n < 21 → (s.hostRingsStop.ring n).stopped :=
  ⟨forN_keeps State.ringless 21 _ s fun k t => t.ringStop_ringless k, fun n hn => forN_ringStop_stopped 21 n s hn⟩

/-! ## Poste restante and publishing -/

/-- The part of the host interface that poste restante and its notices do not write. -/
def HostIf.session' (h : HostIf) : HostIf := { h with pr := [], prFull := false, prHigh := false, msixPend := 0 }

theorem State.msixCause_host (s : State) (c : Nat) : (s.msixCause c).host = { s.host with msixPend := (s.msixCause c).host.msixPend } := by
  unfold State.msixCause
  split
  · split
    · unfold State.msix; split <;> rfl
    · rfl
  · rfl

theorem State.prPublish_effect (s : State) : let t := s.prPublish
    t.host.pr = s.host.pr ∧ t.host.session' = s.host.session' ∧ QuietFields s t [.devHifPrCount, .devHifPrPeak] ∧
      (t.dev, t.clk) = (s.dev, s.clk) := by
  let n := s.prCount
  let s1 := (s.putN .devHifPrCount 0 n).putN .devHifPrPeak 0 (max n (s.n .devHifPrPeak))
  let high := decide (3072 < n)
  let s2 := s1.withHost { s1.host with prFull := s1.host.prFull && decide (4000 ≤ n), prHigh := high }
  have hs1 : QuietFields s s2 [.devHifPrCount, .devHifPrPeak] :=
    (QuietFields.putN s .devHifPrCount 0 n 0).trans (QuietFields.putN (s.putN .devHifPrCount 0 n) .devHifPrPeak 0 _ 0)
  by_cases hc : (high && !s.host.prHigh) = true
  · have hq := s2.msixCause_quiet 3
    have hh := s2.msixCause_host 3
    rw [show s.prPublish = s2.msixCause 3 from if_pos hc]
    refine ⟨(congrArg HostIf.pr hh).trans rfl, ?_, (hs1.trans (QuietFields.of_quiet hq [])).mono (by simp), ?_⟩
    · rw [hh]; rfl
    · rw [State.dev_of_quiet hq, State.clk_of_quiet hq]; rfl
  · rw [show s.prPublish = s2 from if_neg hc]
    exact ⟨rfl, rfl, hs1, rfl⟩

theorem State.prRemove_effect (s : State) (ids : List Nat) : let t := s.prRemove ids
    t.host.pr = s.host.pr.filter (fun c => !ids.contains c.id) ∧ t.host.session' = s.host.session' ∧
      QuietFields s t [.devHifPrCount, .devHifPrPeak] ∧ (t.dev, t.clk) = (s.dev, s.clk) :=
  State.prPublish_effect (s.withHost { s.host with pr := s.host.pr.filter (fun c => !ids.contains c.id) })

/-- The points of a session. -/
def sessionFields : List Field := [.devHifVersion, .devHifSession, .devHifWdtMs, .devHifWdtState]

theorem State.hifPublish_fields (s : State) : QuietFields s s.hifPublish sessionFields := by
  let ver := if s.host.negState = 1 then s.host.negMajor * 256 + s.host.negMinor else 0
  let s1 := s.putN .devHifVersion 0 ver
  let s2 := s1.putN .devHifSession 0 s.host.session
  let s3 := s2.putN .devHifWdtMs 0 s.host.wdtMs
  exact ((((QuietFields.putN s .devHifVersion 0 ver 0).trans (QuietFields.putN s1 .devHifSession 0 _ 0)).trans
    (QuietFields.putN s2 .devHifWdtMs 0 _ 0)).trans (QuietFields.putN s3 .devHifWdtState 0 _ 0)).mono (by simp [sessionFields])

theorem State.hifPublish_leaves (s : State) : s.hifPublish = s.withPts s.hifPublish.pts := rfl

theorem State.hifPublish_version (s : State) (v : Nat) (hv : (if s.host.negState = 1 then s.host.negMajor * 256 + s.host.negMinor else 0) = v)
    (hlt : v < 2 ^ 32) : s.hifPublish.n .devHifVersion = v := by
  unfold State.hifPublish
  dsimp only
  rw [State.n_putN_field _ (by decide), State.n_putN_field _ (by decide), State.n_putN_field _ (by decide), hv]
  exact State.n_putN_same _ _ _ _ _ hlt

theorem State.hifPublish_session (s : State) (h : s.host.session < 2 ^ 32) : s.hifPublish.n .devHifSession = s.host.session := by
  unfold State.hifPublish
  dsimp only
  rw [State.n_putN_field _ (by decide), State.n_putN_field _ (by decide)]
  exact State.n_putN_same _ _ _ _ _ h

/-! ## The end of a session (R351) -/

/-- The fields that the end of a session writes, beside those of reporting. -/
def sessionEndFields : List Field := sessionFields ++ [.devHifCplDiscarded, .devHifPrCount, .devHifPrPeak]

/-- Without an open session only the negotiation is taken back. -/
theorem State.sessionEnd_closed (s : State) (cause : Nat) (h : s.host.negState ≠ 1) :
    s.sessionEnd cause = (s.withHost { s.host with negState := 0, negMinor := 0, negMajor := 0 }).hifPublish := if_pos h

/-- An ending session: its rings stopped, its negotiation taken back, its completions and exports discarded. -/
def State.sessionCut (s : State) : State :=
  let s1 := s.hostRingsStop
  let s2 := s1.withHost { s1.host with negState := 0, negMinor := 0, negMajor := 0,
                                       fins := s1.host.fins.filter (fun f => f.cmd.agent != 0) }
  s2.withJrn { s2.jrn with exports := s2.jrn.exports.filter (fun x => x.cmd.agent != 0) }

/-- The state of an ending session before its events. -/
def State.sessionDrop (s : State) : State := s.sessionCut.jrnPublish.addN .devHifCplDiscarded 0 s.discarded

/-- The events of an ending session. -/
def State.sessionTell (s : State) (cause lost : Nat) : State :=
  let s4 := s.raise 0x0A03 kDevice 0 cause
  if lost = 0 then s4 else s4.raise 0x0A06 kDevice 0 lost

/-- Poste restante at the end of a session. -/
def State.sessionPurge (s : State) : State := if s.host.prDrop then s.prRemove (s.hostWaiting.map (·.id)) else s

theorem State.sessionEnd_open (s : State) (cause : Nat) (h : s.host.negState = 1) :
    s.sessionEnd cause = ((s.sessionDrop.sessionTell cause s.discarded).sessionPurge).hifPublish := if_neg (by simp [h])

theorem State.sessionCut_effect (s : State) : let t := s.sessionCut
    (∀ n, n < 21 → (t.ring n).stopped) ∧ t.host.negState = 0 ∧
      t.host.fins = s.host.fins.filter (fun f => f.cmd.agent != 0) ∧ t.host.session = s.host.session ∧ t.host.pr = s.host.pr ∧
      t.host.prDrop = s.host.prDrop ∧ (t.dev, t.clk) = (s.dev, s.clk) ∧ t.pts = s.pts := by
  obtain ⟨hless, hstop⟩ := s.hostRingsStop_effect
  unfold State.sessionCut
  generalize s.hostRingsStop = u at hless hstop
  have hhost : ∀ {α : Type} (g : HostIf → α) (_ : ∀ v r, g { v with rings := r } = g v), g u.host = g s.host := fun g hg =>
    State.hostPart_of_ringless hless g hg
  exact ⟨hstop, rfl, congrArg (List.filter _) (hhost HostIf.fins fun _ _ => rfl), hhost HostIf.session fun _ _ => rfl,
    hhost HostIf.pr fun _ _ => rfl, hhost HostIf.prDrop fun _ _ => rfl,
    Prod.ext (congrArg State.dev hless :) (congrArg State.clk hless :), (congrArg State.pts hless :)⟩

theorem State.sessionDrop_effect (s : State) : let t := s.sessionDrop
    (∀ n, n < 21 → (t.ring n).stopped) ∧ t.host.negState = 0 ∧
      t.host.fins = s.host.fins.filter (fun f => f.cmd.agent != 0) ∧ t.host.session = s.host.session ∧ t.host.pr = s.host.pr ∧
      t.host.prDrop = s.host.prDrop ∧ t.w .devHifCplDiscarded 0 0 = Word.ofNat (s.n .devHifCplDiscarded + s.discarded) ∧
      (t.dev, t.clk) = (s.dev, s.clk) ∧ QuietFields s t [.devHifCplDiscarded] := by
  obtain ⟨hstop, hneg, hfins, hses, hpr, hdrop, hrest, hpts⟩ := s.sessionCut_effect
  unfold State.sessionDrop
  generalize s.sessionCut = u at *
  have hw : ∀ f i j, f ≠ .jrnState → u.jrnPublish.w f i j = s.w f i j := fun f i j hf => by
    rw [u.jrnPublish_w f i j hf]; simp only [State.w, hpts]
  refine ⟨hstop, hneg, hfins, hses, hpr, hdrop, (State.w_put_same _ _ _ _ _).trans ?_, hrest, ?_⟩
  · rw [show u.jrnPublish.n .devHifCplDiscarded = s.n .devHifCplDiscarded from State.n_ext (hw _ _ _ (by decide))]
  · have hu : QuietFields s u.jrnPublish [] := fun f i j _ hf => hw f i j (by rintro rfl; exact absurd hf (by decide))
    exact hu.trans (QuietFields.putN u.jrnPublish .devHifCplDiscarded 0 _ 0)

theorem State.sessionTell_quiet (s : State) (cause lost : Nat) : (s.sessionTell cause lost).quiet = s.quiet := by
  unfold State.sessionTell
  dsimp only
  split
  · exact State.raise_quiet _ _ _ _ _
  · exact (State.raise_quiet _ _ _ _ _).trans (State.raise_quiet _ _ _ _ _)

theorem State.sessionTell_held (k : Nat) (s : State) (cause lost : Nat) : RingHeld k s (s.sessionTell cause lost) := by
  unfold State.sessionTell
  dsimp only
  split
  · exact s.raise_held k _ _ _ _
  · exact (s.raise_held k _ _ _ _).trans (State.raise_held k _ _ _ _ _)

/-- What is left in poste restante: the host's commands go when `PR_DROP_ON_LOSS` asks for it. -/
theorem State.sessionPurge_effect (s : State) : let t := s.sessionPurge
    (∀ c ∈ t.host.pr, c ∈ s.host.pr ∧ (s.host.prDrop = true → c.agent ≠ 0)) ∧ (s.host.prDrop = false → t.host.pr = s.host.pr) ∧
      t.host.session' = s.host.session' ∧ QuietFields s t [.devHifPrCount, .devHifPrPeak] ∧ (t.dev, t.clk) = (s.dev, s.clk) := by
  unfold State.sessionPurge
  cases hd : s.host.prDrop with
  | false => exact ⟨fun c hc => ⟨hc, fun h => absurd h (by decide)⟩, fun _ => rfl, rfl, QuietFields.refl _ _, rfl⟩
  | true =>
    obtain ⟨hpr, hses, hpts, hrest⟩ := s.prRemove_effect (s.hostWaiting.map (·.id))
    refine ⟨fun c hc => ?_, fun h => absurd h (by decide), hses, hpts, hrest⟩
    rw [if_pos rfl, hpr, List.mem_filter] at hc
    refine ⟨hc.1, fun _ ha => ?_⟩
    have : c.id ∈ s.hostWaiting.map (·.id) := List.mem_map_of_mem (List.mem_filter.2 ⟨hc.1, by simp [ha]⟩)
    simp [this] at hc

/-- The end of an open session. -/
theorem State.sessionEnd_ends (s : State) (cause : Nat) (h : s.host.negState = 1) : let t := s.sessionEnd cause
    SessionEnded s t ∧ t.host.negState = 0 ∧ t.host.session = s.host.session ∧ t.n .devHifVersion = 0 ∧
      (t.dev, t.clk) = (s.dev, s.clk) ∧ QuietFields s t sessionEndFields := by
  obtain ⟨hstop, hneg, hfins, hses, hpr, hdrop, hw, hrest, hpts⟩ := s.sessionDrop_effect
  dsimp only
  rw [s.sessionEnd_open cause h]
  generalize s.sessionDrop = a at hstop hneg hfins hses hpr hdrop hw hrest hpts
  have hq := a.sessionTell_quiet cause s.discarded
  have hheld := fun k => a.sessionTell_held k cause s.discarded
  generalize a.sessionTell cause s.discarded = b at hq hheld
  have hb : ∀ {α : Type} (g : HostIf → α) (_ : ∀ v, g { v with rings := v.rings.filter (fun e => !recordRing e.1), msixPend := 0 } = g v),
      g b.host = g a.host := fun g hg => State.hostPart_of_quiet hq g hg
  obtain ⟨hp1, hp2, hp3, hp4, hp5⟩ := b.sessionPurge_effect
  generalize b.sessionPurge = c at hp1 hp2 hp3 hp4 hp5
  have hring : ∀ n, n < 21 → (c.ring n).stopped := fun n hn => by
    have hc : c.ring n = b.ring n := by simp only [State.ring, show c.host.rings = b.host.rings from (congrArg HostIf.rings hp3 :)]
    rw [hc, hheld n (hstop n hn).live]
    exact hstop n hn
  have hcneg : c.host.negState = 0 := (congrArg HostIf.negState hp3 :).trans ((hb HostIf.negState fun _ => rfl).trans hneg)
  refine ⟨⟨hring, ?_, ?_, fun x hx => ?_, fun hf => ?_⟩, hcneg, ?_, ?_, ?_, ?_⟩
  · exact (congrArg HostIf.fins hp3 :).trans ((hb HostIf.fins fun _ => rfl).trans hfins)
  · rw [c.hifPublish_fields _ _ _ (by decide) rfl, hp4 _ _ _ (by decide) rfl, State.w_of_quiet hq _ _ _ rfl]; exact hw
  · obtain ⟨hm, ha⟩ := hp1 x hx
    rw [hb HostIf.pr fun _ => rfl, hpr] at hm
    exact ⟨hm, fun ht => ha (by rw [hb HostIf.prDrop fun _ => rfl, hdrop]; exact ht)⟩
  · exact (hp2 (by rw [hb HostIf.prDrop fun _ => rfl, hdrop]; exact hf)).trans ((hb HostIf.pr fun _ => rfl).trans hpr)
  · exact (congrArg HostIf.session hp3 :).trans ((hb HostIf.session fun _ => rfl).trans hses)
  · exact c.hifPublish_version 0 (by rw [hcneg]; rfl) (by decide)
  · rw [show (c.hifPublish.dev, c.hifPublish.clk) = (c.dev, c.clk) from rfl, hp5, State.dev_of_quiet hq, State.clk_of_quiet hq]
    exact hrest
  · exact (((hpts.trans (QuietFields.of_quiet hq [])).trans hp4).trans c.hifPublish_fields).mono (by simp [sessionEndFields, sessionFields])

/-- The end of a session that was not open. -/
theorem State.sessionEnd_idle (s : State) (cause : Nat) (h : s.host.negState ≠ 1) : let t := s.sessionEnd cause
    t.host = { s.host with negState := 0, negMinor := 0, negMajor := 0 } ∧ t.n .devHifVersion = 0 ∧ t.so = s.so ∧
      (t.dev, t.clk) = (s.dev, s.clk) ∧ QuietFields s t sessionEndFields := by
  dsimp only
  rw [s.sessionEnd_closed cause h]
  exact ⟨rfl, State.hifPublish_version _ 0 rfl (by decide), rfl, rfl,
    (State.hifPublish_fields (s.withHost { s.host with negState := 0, negMinor := 0, negMajor := 0 })).mono
      (by simp [sessionEndFields, sessionFields])⟩

/-- Either way: no session, and the frame. -/
theorem State.sessionEnd_effect (s : State) (cause : Nat) : let t := s.sessionEnd cause
    t.host.negState = 0 ∧ t.host.session = s.host.session ∧ t.n .devHifVersion = 0 ∧ (t.dev, t.clk) = (s.dev, s.clk) ∧
      (s.host.negState = 1 → SessionEnded s t) ∧
      (s.host.negState ≠ 1 → t.host.rings = s.host.rings ∧ t.host.fins = s.host.fins ∧ t.so = s.so) ∧
      QuietFields s t sessionEndFields := by
  by_cases h : s.host.negState = 1
  · obtain ⟨hend, hneg, hses, hver, hrest, hpts⟩ := s.sessionEnd_ends cause h
    exact ⟨hneg, hses, hver, hrest, fun _ => hend, fun hn => absurd h hn, hpts⟩
  · obtain ⟨hhost, hver, hso, hrest, hpts⟩ := s.sessionEnd_idle cause h
    dsimp only
    rw [hhost]
    exact ⟨rfl, rfl, hver, hrest, fun hn => absurd hn h, fun _ => ⟨rfl, rfl, hso⟩, hpts⟩

/-- What `SessionEnded` is read from. -/
theorem SessionEnded.of {s t u : State} (h : SessionEnded s t) (hheld : ∀ n, RingHeld n t u) (hfins : u.host.fins = t.host.fins)
    (hpr : u.host.pr = t.host.pr) (hw : u.w .devHifCplDiscarded 0 0 = t.w .devHifCplDiscarded 0 0) : SessionEnded s u := by
  obtain ⟨hring, hf, hc, hp, hk⟩ := h
  refine ⟨fun n hn => ?_, hfins.trans hf, hw.trans hc, fun c hm => hp c (hpr ▸ hm), fun hd => hpr.trans (hk hd)⟩
  rw [hheld n (Ring.stopped.live (hring n hn))]
  exact hring n hn

theorem interfaceReset_ends (s : State) (h : s.endpointUp = true) :
    s.interfaceReset.host.negState = 0 ∧ s.interfaceReset.host.session = s.host.session ∧ s.interfaceReset.n .devHifVersion = 0 ∧
    s.interfaceReset.dev = s.dev ∧ (s.host.negState = 1 → SessionEnded s s.interfaceReset) ∧
    (s.host.negState ≠ 1 → s.interfaceReset.host.rings = s.host.rings ∧ s.interfaceReset.host.fins = s.host.fins) ∧
    QuietFields s s.interfaceReset [.devHifVersion, .devHifSession, .devHifWdtMs, .devHifWdtState, .devHifCplDiscarded, .devHifPrCount,
      .devHifPrPeak] := by
  obtain ⟨hneg, hses, hver, hrest, hend, hidle, hpts⟩ := s.sessionEnd_effect 2
  rw [show s.interfaceReset = s.sessionEnd 2 from if_pos h]
  exact ⟨hneg, hses, hver, congrArg Prod.fst hrest, hend, fun hn => ⟨(hidle hn).1, (hidle hn).2.1⟩, hpts⟩

/-! ## Negotiation (R335) -/

/-- A session that was negotiated, or refused: the interface as `s` has it, published and reported. -/
theorem State.negotiated (s : State) (code p : Nat) : let t := s.hifPublish.raise code kDevice 0 p
    t.quiet = s.hifPublish.quiet ∧ (∀ n, RingHeld n s t) ∧ Raised s t code kDevice 0 :=
  ⟨State.raise_quiet _ _ _ _ _, fun n => (RingHeld.of_host (s := s) (t := s.hifPublish) rfl).trans (State.raise_held n _ _ _ _ _),
    State.raise_raised s.hifPublish _ _ _ _ rfl⟩

theorem hifReqWrite_negotiates (s : State) (hup : s.endpointUp = true) (v : Word) : Yields (exec (.hifReqWrite v) s) fun t =>
    let minor := v.toNat % 256
    let major := v.toNat / 256 % 256
    t.host.reqMinor = minor ∧ t.host.reqMajor = major ∧ (s.host.negState = 1 → SessionEnded s t) ∧
    (major = 1 → t.host.negState = 1 ∧ t.host.negMajor = 1 ∧ t.host.negMinor = min minor 2 ∧
      t.host.session = (s.host.session + 1) % 2 ^ 32 ∧ t.n .devHifSession = (s.host.session + 1) % 2 ^ 32 ∧
      t.n .devHifVersion = 256 + min minor 2 ∧ (s.host.negState ≠ 1 → Raised s t 0x0A01 kDevice 0)) ∧
    (major ≠ 1 → t.host.negState = 2 ∧ t.host.session = s.host.session ∧ t.n .devHifVersion = 0 ∧
      (s.host.negState ≠ 1 → Raised s t 0x0A02 kDevice 0)) := by
  obtain ⟨-, hses, -, -, hend, hidle, -⟩ := s.sessionEnd_effect 3
  let minor := v.toNat % 256
  let major := v.toNat / 256 % 256
  let a := s.sessionEnd 3
  let h2 : HostIf := { a.host with reqMinor := minor, reqMajor := major }
  let h3 : HostIf :=
    if major = 1 then { h2 with negState := 1, negMajor := 1, negMinor := min minor 2, session := (h2.session + 1) % 2 ^ 32 }
    else { h2 with negState := 2 }
  let u := a.withHost h3
  let code := if major = 1 then 0x0A01 else 0x0A02
  let p := if major = 1 then 2 ^ 8 + min minor 2 else v.toNat % 2 ^ 16
  have hstep : exec (.hifReqWrite v) s = .next (u.hifPublish.raise code kDevice 0 p) := by
    change Host.Outcome.next (if s.endpointUp then s.negotiate v.toNat else s) = _
    rw [if_pos hup]
    unfold State.negotiate
    dsimp only [u, h3, code, p]
    by_cases hm : major = 1
    · rw [if_pos hm, if_pos hm, if_pos hm, if_pos hm]; rfl
    · rw [if_neg hm, if_neg hm, if_neg hm, if_neg hm]; rfl
  obtain ⟨hq, hheld, hraised⟩ := u.negotiated code p
  rw [hstep]
  generalize u.hifPublish.raise code kDevice 0 p = t at hq hheld hraised
  have hhost : ∀ {α : Type} (g : HostIf → α) (_ : ∀ v, g { v with rings := v.rings.filter (fun e => !recordRing e.1), msixPend := 0 } = g v),
      g t.host = g h3 := fun g hg => (State.hostPart_of_quiet hq g hg).trans rfl
  have hn : ∀ f, fieldReports f = false → t.n f = u.hifPublish.n f := fun f hf => State.n_of_quiet hq f 0 0 hf
  have hh2 : ∀ {α : Type} (g : HostIf → α) (_ : ∀ (v : HostIf) a b c d, g { v with negState := a, negMajor := b, negMinor := c, session := d } = g v),
      g h3 = g h2 := fun g hg => by
    dsimp only [h3]
    split
    · exact hg _ _ _ _ _
    · exact hg h2 2 h2.negMajor h2.negMinor h2.session
  have hso : ∀ c, Raised u t c kDevice 0 → s.host.negState ≠ 1 → Raised s t c kDevice 0 := fun c hr hne => hr.of_so (hidle hne).2.2
  refine yields_next ⟨?_, ?_, fun h1 => ?_, fun hm => ?_, fun hm => ?_⟩
  · exact (hhost HostIf.reqMinor fun _ => rfl).trans (hh2 HostIf.reqMinor fun _ _ _ _ _ => rfl)
  · exact (hhost HostIf.reqMajor fun _ => rfl).trans (hh2 HostIf.reqMajor fun _ _ _ _ _ => rfl)
  · refine (hend h1).of (fun n => ?_) ((hhost HostIf.fins fun _ => rfl).trans (hh2 HostIf.fins fun _ _ _ _ _ => rfl))
      ((hhost HostIf.pr fun _ => rfl).trans (hh2 HostIf.pr fun _ _ _ _ _ => rfl)) ?_
    · have hr : u.ring n = a.ring n := by
        simp only [State.ring, show u.host.rings = a.host.rings from hh2 HostIf.rings fun _ _ _ _ _ => rfl]
      exact RingHeld.trans (fun _ => hr) (hheld n)
    · exact (State.w_of_quiet hq _ _ _ rfl).trans (u.hifPublish_fields _ _ _ (by decide) rfl)
  · have h3eq : h3 = { h2 with negState := 1, negMajor := 1, negMinor := min minor 2, session := (h2.session + 1) % 2 ^ 32 } := if_pos hm
    have hsession : h3.session = (s.host.session + 1) % 2 ^ 32 := by rw [h3eq, ← hses]
    have hcode : code = 0x0A01 := if_pos hm
    refine ⟨(hhost HostIf.negState fun _ => rfl).trans (by rw [h3eq]), (hhost HostIf.negMajor fun _ => rfl).trans (by rw [h3eq]),
      (hhost HostIf.negMinor fun _ => rfl).trans (by rw [h3eq]), (hhost HostIf.session fun _ => rfl).trans hsession, ?_, ?_,
      hso _ (hcode ▸ hraised)⟩
    · rw [hn _ rfl, u.hifPublish_session (by rw [show u.host = h3 from rfl, hsession]; exact Nat.mod_lt _ (by decide))]
      exact hsession
    · rw [hn _ rfl]
      exact u.hifPublish_version _ (by rw [show u.host = h3 from rfl, h3eq]; simp; rfl) (by omega)
  · have h3eq : h3 = { h2 with negState := 2 } := if_neg hm
    have hcode : code = 0x0A02 := if_neg hm
    refine ⟨(hhost HostIf.negState fun _ => rfl).trans (by rw [h3eq]), (hhost HostIf.session fun _ => rfl).trans (by rw [h3eq]; exact hses),
      ?_, hso _ (hcode ▸ hraised)⟩
    rw [hn _ rfl]
    exact u.hifPublish_version 0 (by rw [show u.host = h3 from rfl, h3eq]; rfl) (by decide)

/-! ## The link (R323, R352) -/

theorem State.loseHost_held (n : Nat) (s : State) : RingHeld n s s.loseHost := by
  unfold State.loseHost
  split
  · exact fun _ => rfl
  · let u := s.withDev { s.dev with hostLost := true, hostLostEpoch := s.epoch }
    exact ((RingHeld.of_host (t := u) rfl).trans (u.raise_held n 0x0A40 kDevice 0 0)).trans (.of_host (State.irqFire_host _ 9))

theorem State.loseHost_noted (s : State) : let t := s.loseHost
    t.dev.hostLost = true ∧ (s.dev.hostLost = false → t.dev.hostLostEpoch = s.epoch) ∧
      t.dev = { s.dev with hostLost := t.dev.hostLost, hostLostEpoch := t.dev.hostLostEpoch } := by
  have hd : s.loseHost.dev = s.lostDev := (State.dev_of_quiet s.loseHost_quiet).trans rfl
  dsimp only
  rw [hd]
  unfold State.lostDev
  cases hl : s.dev.hostLost with
  | true => exact ⟨hl, fun h => absurd h (by decide), rfl⟩
  | false => exact ⟨rfl, fun _ => rfl, rfl⟩

theorem linkDown_ends (s : State) (hup : s.endpointUp = true) : Yields (exec .linkDown s) fun t =>
    t.host.linkGen = 0 ∧ t.host.linkWidth = 0 ∧ t.host.negState = 0 ∧ (s.host.negState = 1 → SessionEnded s t) ∧
    (s.up = true → t.dev.hostLost = true ∧ (s.dev.hostLost = false → t.dev.hostLostEpoch = s.epoch)) ∧
    t.dev = { s.dev with hostLost := t.dev.hostLost, hostLostEpoch := t.dev.hostLostEpoch } := by
  obtain ⟨hneg, -, -, hrest, hend, -, -⟩ := s.sessionEnd_effect 1
  let s1 := s.sessionEnd 1
  let s2 := s1.withHost { s1.host with linkGen := 0, linkWidth := 0 }
  let s3 := s2.putN .envBPBudgetBytes 0 (s2.pBudget 0)
  have hdev : s3.dev = s.dev := congrArg Prod.fst hrest
  have hclk : s3.clk = s.clk := congrArg Prod.snd hrest
  have hstep : exec .linkDown s = .next (if s3.up then s3.loseHost else s3) := congrArg Host.Outcome.next (if_pos hup)
  have hup3 : s3.up = s.up := by simp only [State.up, hdev]
  have hw3 : s3.w .devHifCplDiscarded 0 0 = s1.w .devHifCplDiscarded 0 0 := State.w_put_field s2 _ (by decide)
  have hend3 : s.host.negState = 1 → SessionEnded s s3 := fun h => (hend h).of (fun n _ => rfl) rfl rfl hw3
  have hhost3 : s3.host.linkGen = 0 ∧ s3.host.linkWidth = 0 ∧ s3.host.negState = 0 := ⟨rfl, rfl, hneg⟩
  rw [hstep, hup3]
  clear_value s3
  refine yields_next ?_
  cases hu : s.up with
  | false => exact ⟨hhost3.1, hhost3.2.1, hhost3.2.2, hend3, fun h => absurd h (by decide), hdev.trans (by rw [if_neg (by decide), hdev])⟩
  | true =>
    obtain ⟨hlost, hepoch, hd⟩ := s3.loseHost_noted
    have hq := s3.loseHost_quiet
    have hheld := fun n => s3.loseHost_held n
    rw [if_pos rfl]
    generalize s3.loseHost = t at hq hheld hlost hepoch hd
    have hh : ∀ {α : Type} (g : HostIf → α) (_ : ∀ v, g { v with rings := v.rings.filter (fun e => !recordRing e.1), msixPend := 0 } = g v),
        g t.host = g s3.host := fun g hg => (State.hostPart_of_quiet hq g hg).trans rfl
    refine ⟨(hh HostIf.linkGen fun _ => rfl).trans hhost3.1, (hh HostIf.linkWidth fun _ => rfl).trans hhost3.2.1,
      (hh HostIf.negState fun _ => rfl).trans hhost3.2.2, fun h => (hend3 h).of hheld (hh HostIf.fins fun _ => rfl)
        (hh HostIf.pr fun _ => rfl) (State.w_of_quiet hq _ _ _ rfl), fun _ => ⟨hlost, fun h => ?_⟩, by rw [← hdev]; exact hd⟩
    rw [hepoch (by rw [hdev]; exact h)]
    exact congrArg Clock.epoch hclk

theorem pcieLinkUp_shows (s : State) (hup : s.endpointUp = true) (gen : Fin 4) (width : Fin 5) (hp : s.dev.perst = true) (hg : gen ≠ 0)
    (hw : width = 1 ∨ width = 2 ∨ width = 4) : Yields (exec (.pcieLinkUp gen width) s) fun t =>
      t.host = { s.host with linkGen := gen, linkWidth := width } ∧ t.w .envBPBudgetBytes 0 0 = Word.ofNat (t.pBudget 0) ∧
      t = ((s.withHost t.host).put .envBPBudgetBytes 0 (t.w .envBPBudgetBytes 0 0)) := by
  let u := s.withHost { s.host with linkGen := gen, linkWidth := width }
  have hpow : s.dev.powered = true := by
    simp only [State.endpointUp, Bool.and_eq_true] at hup
    exact hup.1
  have hwidth : width.val = 1 ∨ width.val = 2 ∨ width.val = 4 := by
    rcases hw with rfl | rfl | rfl <;> decide
  have hgen : gen.val ≠ 0 := fun h => hg (Fin.ext h)
  have hstep : exec (.pcieLinkUp gen width) s = .next (u.putN .envBPBudgetBytes 0 (u.pBudget 0)) :=
    congrArg Host.Outcome.next (if_pos ⟨hpow, hp, hgen, hwidth⟩)
  have hval : (u.putN .envBPBudgetBytes 0 (u.pBudget 0)).w .envBPBudgetBytes 0 0 = Word.ofNat (u.pBudget 0) := State.w_put_same _ _ _ _ _
  have hbud : (u.putN .envBPBudgetBytes 0 (u.pBudget 0)).pBudget 0 = u.pBudget 0 := rfl
  rw [hstep]
  exact yields_next ⟨rfl, by rw [hbud]; exact hval, by rw [hval]; rfl⟩

/-- Settles O16, command by command. -/
theorem sessionsBeginAndEnd : Obligations.SessionsBeginAndEnd := by
  unfold Obligations.SessionsBeginAndEnd
  exact fun s hup => ⟨hifReqWrite_negotiates s hup, yields_next (interfaceReset_ends s hup), yields_next (interfaceReset_ends s hup),
    linkDown_ends s hup, pcieLinkUp_shows s hup⟩

end Sys2Proof.Machine
end

section
/-!
SUPPORT. Proofs/Registers.lean: withheld and moderated interrupts, and the writes of registers (sections 11.1, 11.2, 11.9 and 16.4).
-/
namespace Sys2Proof.Machine

/-! ## Interrupts of the host (R331, R349) -/

theorem State.rest_withHost_emit (s : State) (g h : HostIf) (o : Out) :
    (((s.withHost g).withHost h).emit o).rest = (s.withHost h).rest := by
  cases s; cases h; rfl

theorem msixUnmask_sends (s : State) (v : Fin 64) (hup : s.endpointUp = true) : Yields (exec (.msixUnmask v) s) fun t =>
    let e := Tab.get (0, 0, true) s.host.msixTab v
    Tab.get (0, 0, true) t.host.msixTab v = (e.1, e.2.1, false) ∧
    (∀ b, b ≠ v.val → Tab.get (0, 0, true) t.host.msixTab b = Tab.get (0, 0, true) s.host.msixTab b) ∧
    (Arith.bit s.host.msixPend v = true → t.out = Out.msix v :: s.out ∧ t.host.msixPend = Arith.setBit s.host.msixPend v false) ∧
    (Arith.bit s.host.msixPend v = false → t.out = s.out ∧ t.host.msixPend = s.host.msixPend) ∧
    t.host.rings = s.host.rings ∧ t.pts = s.pts ∧ t.irq = s.irq ∧ t.rest = (s.withHost t.host).rest := by
  let e := Tab.get (0, 0, true) s.host.msixTab v
  let tab := Tab.put (0, 0, true) s.host.msixTab v (e.1, e.2.1, false)
  let u := s.withHost { s.host with msixTab := tab }
  have hsame : Tab.get (0, 0, true) tab v = (e.1, e.2.1, false) := Tab.get_put_same _ _ _ _
  have hother : ∀ b, b ≠ v.val → Tab.get (0, 0, true) tab b = Tab.get (0, 0, true) s.host.msixTab b := fun b hb =>
    Tab.get_put_ne _ _ _ hb
  have hstep : exec (.msixUnmask v) s = .next (if Arith.bit s.host.msixPend v = true then
      (u.withHost { u.host with msixPend := Arith.setBit s.host.msixPend v false }).emit (.msix v) else u) :=
    congrArg Host.Outcome.next ((if_pos hup).trans rfl)
  rw [hstep]
  clear_value tab
  refine yields_next ?_
  cases hb : Arith.bit s.host.msixPend v with
  | true =>
    rw [if_pos rfl]
    exact ⟨hsame, hother, fun _ => ⟨rfl, rfl⟩, fun h => absurd h (by decide), rfl, rfl, rfl, s.rest_withHost_emit _ _ _⟩
  | false =>
    rw [if_neg (by decide)]
    exact ⟨hsame, hother, fun h => absurd h (by decide), fun _ => ⟨rfl, rfl⟩, rfl, rfl, rfl, rfl⟩

/-- A message that is sent, or withheld while its vector is masked. -/
theorem State.msix_effect (s : State) (v : Nat) : let t := s.msix v
    t.pts = s.pts ∧ t.irq = s.irq ∧ (∀ k, t.ring k = s.ring k) ∧ (s.msixOpen v = true → t.out = Out.msix v :: s.out) ∧
      (s.msixOpen v = false → Arith.bit t.host.msixPend v = true ∧ t.out = s.out) := by
  unfold State.msix
  cases ho : s.msixOpen v with
  | true => exact ⟨rfl, rfl, fun _ => rfl, fun _ => rfl, fun h => absurd h (by decide)⟩
  | false => exact ⟨rfl, rfl, fun _ => rfl, fun h => absurd h (by decide), fun _ => ⟨bit_setBit_same _ _ _, rfl⟩⟩

theorem moderationTimeout_signals (s : State) (a : Agent) (n : Fin 21) : let k := ringKey (agentNo a) n
    let r := s.ring k
    r.live = true → r.irqEn = true → 0 < r.unsig → r.modUsec ≠ 0 → r.unsigAt + 1000 * r.modUsec ≤ s.now →
    Yields (exec (.moderationTimeout a n) s) fun t =>
      t.ring k = { r with unsig := 0 } ∧ (∀ b, b ≠ k → t.ring b = s.ring b) ∧
      (k < 32 → t.pts = s.pts ∧ t.irq = s.irq ∧ (s.msixOpen r.vector = true → t.out = Out.msix r.vector :: s.out) ∧
        (s.msixOpen r.vector = false → Arith.bit t.host.msixPend r.vector = true ∧ t.out = s.out)) ∧
      (32 ≤ k → irqValid (224 + ringNo k) = true → (t.src (224 + ringNo k)).pend = true) := by
  intro k r hl hen hun hmod hdue
  let u := s.putRing k { r with unsig := 0 }
  have hu : u.ring k = { r with unsig := 0 } := s.ring_putRing_same k _
  have hcond : (r.live && r.irqEn && decide (0 < r.unsig) && r.modUsec != 0 && decide (r.unsigAt + 1000 * r.modUsec ≤ s.now)) = true := by
    simp [hl, hen, hun, hmod, hdue]
  have hstep : exec (.moderationTimeout a n) s = .next (u.ringSignal k) := congrArg Host.Outcome.next (if_pos hcond)
  rw [hstep]
  refine yields_next ⟨(u.ringSignal_ring k k).trans hu, fun b hb => (u.ringSignal_ring k b).trans (s.ring_putRing_ne _ hb),
    fun hk => ?_, fun hk hv => ?_⟩
  · obtain ⟨hpts, hirq, -, hopen, hshut⟩ := u.msix_effect r.vector
    have hsig : u.ringSignal k = u.msix r.vector := (if_pos hk).trans (by rw [hu])
    rw [hsig]
    exact ⟨hpts, hirq, hopen, hshut⟩
  · rw [show u.ringSignal k = u.irqFire (224 + ringNo k) from if_neg (by omega)]
    exact u.irqFire_self _ hv

/-! ## Registers of BAR0 (R329, R330) -/

theorem exec_barWrite (s : State) (off : Nat) (v : Word) (hup : s.endpointUp = true) :
    exec (.registerWrite .bar0 off v) s = .next (s.barWrite off v) := congrArg Host.Outcome.next (if_pos hup)

theorem bit_toNat (v : Word) (k : Nat) : Arith.bit v.toNat k = v.getLsbD k := by
  rw [bit_eq_testBit, BitVec.testBit_toNat]

theorem State.barWrite_prDrop (s : State) (v : Word) : s.barWrite 0x110 v = s.withHost { s.host with prDrop := v.getLsbD 0 } := by
  rw [← bit_toNat]
  rfl

theorem State.barWrite_msixMap (s : State) (v : Word) (c : Nat) (hc : c < 5) : s.barWrite (0x200 + 4 * c) v =
    s.withHost { s.host with msixMap := Tab.put (0, false) s.host.msixMap c (v.toNat % 64, v.getLsbD 31) } := by
  unfold State.barWrite
  dsimp only
  rw [if_neg (by omega), if_neg (by omega), if_neg (by omega), if_neg (by omega), if_neg (by omega), if_pos (by omega), bit_toNat,
    show (0x200 + 4 * c - 0x200) / 4 = c by omega]

/-- A write into the block of a host ring. -/
theorem State.barWrite_ring (s : State) (v : Word) (n reg : Nat) (hn : n < 21) (hr : reg < 0x40) (h4 : reg % 4 = 0) :
    s.barWrite (0x1000 + 64 * n + reg) v = s.ringRegWrite 0 n reg v.toNat := by
  unfold State.barWrite
  dsimp only
  rw [if_neg (by omega), if_neg (by omega), if_neg (by omega), if_neg (by omega), if_neg (by omega), if_neg (by omega), if_pos (by omega),
    show (0x1000 + 64 * n + reg - 0x1000) / 0x40 = n by omega, show (0x1000 + 64 * n + reg) % 0x40 = reg by omega]

theorem registerWrite_bar0 (s : State) (v : Word) (hup : s.endpointUp = true) :
    Yields (exec (.registerWrite .bar0 0x110 v) s) (fun t => t = s.withHost { s.host with prDrop := v.getLsbD 0 }) ∧
    (∀ c, c < 5 → Yields (exec (.registerWrite .bar0 (0x200 + 4 * c) v) s) fun t =>
      Tab.get (0, false) t.host.msixMap c = (v.toNat % 64, v.getLsbD 31) ∧
      (∀ b, b ≠ c → Tab.get (0, false) t.host.msixMap b = Tab.get (0, false) s.host.msixMap b) ∧
      t = s.withHost { s.host with msixMap := t.host.msixMap }) ∧
    (∀ n, n < 21 → Yields (exec (.registerWrite .bar0 (0x1000 + 64 * n) v) s) fun t =>
      ((s.ring n).enable = true → t = s) ∧
      ((s.ring n).enable = false → t = s.putRing n (t.ring n) ∧ t.ring n =
        { s.ring n with base := (s.ring n).base / 2 ^ 32 * 2 ^ 32 + v.toNat / 64 * 64 })) ∧
    (∀ n, n < 21 → Yields (exec (.registerWrite .bar0 (0x101C + 64 * n) v) s) fun t =>
      t = s.putRing n (t.ring n) ∧ (t.ring n).modUsec = v.toNat / 65536 ∧
      (v.toNat % 65536 ≠ 0 → (t.ring n).modCount = v.toNat % 65536)) ∧
    (∀ off, off % 4 ≠ 0 → Yields (exec (.registerWrite .bar0 off v) s) fun t => t = s) := by
  refine ⟨?_, fun c hc => ?_, fun n hn => ?_, fun n hn => ?_, fun off ho => ?_⟩
  · rw [exec_barWrite s _ v hup, s.barWrite_prDrop]; exact yields_next rfl
  · rw [exec_barWrite s _ v hup, s.barWrite_msixMap v c hc]
    exact yields_next ⟨Tab.get_put_same _ _ _ _, fun b hb => Tab.get_put_ne _ _ _ hb, rfl⟩
  · rw [exec_barWrite s _ v hup, show 0x1000 + 64 * n = 0x1000 + 64 * n + 0 from rfl, s.barWrite_ring v n 0 hn (by decide) rfl]
    let x : Ring := { s.ring n with base := (s.ring n).base / 2 ^ 32 * 2 ^ 32 + v.toNat / 64 * 64 }
    rw [show s.ringRegWrite 0 n 0 v.toNat = if (s.ring n).enable then s else s.putRing n x from rfl]
    refine yields_next ⟨fun he => if_pos he, fun he => ?_⟩
    rw [if_neg (by rw [he]; decide), s.ring_putRing_same]
    exact ⟨rfl, rfl⟩
  · rw [exec_barWrite s _ v hup, show 0x101C + 64 * n = 0x1000 + 64 * n + 0x1C by omega, s.barWrite_ring v n 0x1C hn (by decide) rfl]
    let x : Ring := { s.ring n with
      modCount := if v.toNat % 2 ^ 16 = 0 then (s.ring n).modCount else v.toNat % 2 ^ 16, modUsec := v.toNat / 2 ^ 16 }
    rw [show s.ringRegWrite 0 n 0x1C v.toNat = s.putRing n x from rfl]
    refine yields_next ?_
    rw [s.ring_putRing_same]
    exact ⟨rfl, rfl, fun h => if_neg h⟩
  · rw [exec_barWrite s _ v hup]
    exact yields_next (if_pos ho)

/-- A core's write of a source's priority (R462). -/
theorem registerWrite_priority (s : State) (c : CoreNo) (id : Nat) (v : Word) (hp : s.dev.powered = true) (hid : id < 1024) :
    Yields (exec (.registerWrite (.irq c) (4 * id) v) s) fun t =>
      t.quiet = s.quiet ∧ (s.irqMayWrite c id = true → (t.src id).prio = v.toNat % 32) ∧ (s.irqMayWrite c id = false → t = s) := by
  let x := s.src id
  let y := if irqPin id then { x with mode := Arith.bits v.toNat 9 8, filter := Arith.bits v.toNat 23 16,
                                      cond := x.cond && Arith.bits v.toNat 9 8 == 2 } else x
  let u := s.putSrc id { y with prio := v.toNat % 32 }
  have hstep : exec (.registerWrite (.irq c) (4 * id) v) s = .next (if s.irqMayWrite c id then u.irqUpdate [id] else s) := by
    refine congrArg Host.Outcome.next ((if_pos hp).trans ?_)
    unfold State.irqRegWrite
    dsimp only
    rw [if_neg (by omega), if_pos (by omega), show 4 * id / 4 = id by omega]
  rw [hstep]
  refine yields_next ?_
  cases hm : s.irqMayWrite c id with
  | false => exact ⟨rfl, fun h => absurd h (by decide), fun _ => rfl⟩
  | true =>
    have hd : (u.irqUpdate [id]).duty = u.duty := u.irqUpdate_duty [id] 0
    have hs := congrArg Src.prio (congrFun (congrArg Prod.fst hd) id)
    refine ⟨(u.irqUpdate_quiet [id] 0).trans rfl, fun _ => ?_, fun h => absurd h (by decide)⟩
    exact hs.trans (congrArg Src.prio (s.src_putSrc_same id _))

/-- Settles O18, command by command. -/
theorem interruptsAndRegisterWrites : Obligations.InterruptsAndRegisterWrites := by
  unfold Obligations.InterruptsAndRegisterWrites
  exact fun s => ⟨msixUnmask_sends s, moderationTimeout_signals s, registerWrite_bar0 s, registerWrite_priority s⟩

end Sys2Proof.Machine
end

section
/-!
SUPPORT. Proofs/ModeChange.lean: what blocks, releases, halts and faults all drives at once leaves aside, and what a change of mode does
(sections 6.1 and 10.1).
-/
namespace Sys2Proof.Machine

/-! ## All drives at once -/

/-- A state without the records of its drives. -/
def driveView (s : State) : State := s.withDrvs []

/-- The points of a drive that a change of regime or a fault writes. -/
def regimeWrites : List Field := [.drvRegime, .drvHalting, .drvCrashPhase, .drvFaultCause]

/-- What a state holds aside from its drives, their points and what reporting writes. -/
def State.exceptDrives (s : State) : State × (Field → Nat → Nat → Word) := s.aside driveView (inFields regimeWrites)

theorem DriveOnly.exceptDrives {s t : State} {d : Nat} {ps : List Pt} (h : DriveOnly s t d ps) (hp : ∀ p ∈ ps, p.f ∈ regimeWrites) :
    t.exceptDrives = s.exceptDrives := by
  refine Prod.ext ((congrArg driveView h.1 :)) ?_
  funext f i j
  simp only [State.exceptDrives, State.aside]
  by_cases hf : fieldReports f = true ∨ f ∈ regimeWrites
  · rcases hf with hf | hf <;> simp [hf, inFields]
  · obtain ⟨hr, hm⟩ := not_or.1 hf
    rw [h.w f i j (fun hq => hm (hp _ hq)) (by simpa using hr)]

theorem State.enterRegime_exceptDrives (s : State) (d new : Nat) : (s.enterRegime d new).exceptDrives = s.exceptDrives :=
  (s.enterRegime_only d new).exceptDrives (by simp [regimePoints, regimeWrites])

theorem State.haltStart_exceptDrives (s : State) (d : Nat) : (s.haltStart d).exceptDrives = s.exceptDrives :=
  (s.haltStart_only d).exceptDrives (by simp [regimePoints, regimeWrites])

theorem State.faultDrive_exceptDrives (s : State) (d c : Nat) : (s.faultDrive d c).exceptDrives = s.exceptDrives :=
  (s.faultDrive_only d c).exceptDrives (by simp [regimePoints, regimeWrites])

theorem State.unblock_exceptDrives (s : State) (d : Nat) : (s.unblock d).exceptDrives = s.exceptDrives := by
  unfold State.unblock
  dsimp only
  split
  · exact s.enterRegime_exceptDrives d 0
  · exact (State.faultDrive_exceptDrives _ _ _).trans (s.enterRegime_exceptDrives d 0)

theorem State.blockAll_exceptDrives (s : State) : s.blockAll.exceptDrives = s.exceptDrives :=
  forL_keeps State.exceptDrives _ _ _ fun d t => t.enterRegime_exceptDrives d 7

theorem State.unblockAll_exceptDrives (s : State) : s.unblockAll.exceptDrives = s.exceptDrives :=
  forL_keeps State.exceptDrives _ _ _ fun d t => by
    split
    · exact t.unblock_exceptDrives d
    · rfl

theorem State.haltAll_exceptDrives (s : State) : s.haltAll.exceptDrives = s.exceptDrives :=
  forL_keeps State.exceptDrives _ _ _ fun d t => by
    split
    · exact t.haltStart_exceptDrives d
    · rfl

theorem State.softAgain_exceptDrives (s : State) : s.softAgain.exceptDrives = s.exceptDrives :=
  forL_keeps State.exceptDrives _ _ _ fun d t => by
    split
    · split
      · rfl
      · exact t.faultDrive_exceptDrives _ _
    · rfl

/-! ## The regimes that they leave -/

/-- A drive and its regime are those of another state. -/
structure DriveKept (s t : State) (d : Nat) : Prop where
  drv : t.drv d = s.drv d
  regime : t.regime d = s.regime d
  epoch : t.epoch = s.epoch
  mode : t.mode = s.mode
  block : t.n .drvBlockCmd d = s.n .drvBlockCmd d

theorem DriveKept.trans {s t u : State} {d : Nat} (h : DriveKept s t d) (k : DriveKept t u d) : DriveKept s u d :=
  ⟨k.drv.trans h.drv, k.regime.trans h.regime, k.epoch.trans h.epoch, k.mode.trans h.mode, k.block.trans h.block⟩

theorem DriveKept.of_quiet {s t : State} (h : t.quiet = s.quiet) (d : Nat) : DriveKept s t d :=
  ⟨State.drv_of_quiet h d, State.n_of_quiet h _ _ _ rfl, congrArg Clock.epoch (State.clk_of_quiet h), State.n_of_quiet h _ _ _ rfl,
    State.n_of_quiet h _ _ _ rfl⟩

theorem DriveOnly.kept {s t : State} {a d : Nat} {ps : List Pt} (h : DriveOnly s t a ps) (hp : ∀ p ∈ ps, p.f ∈ regimeWrites ∧ p.i = a)
    (hd : d ≠ a) : DriveKept s t d :=
  ⟨h.2.1 d hd, h.n .drvRegime d 0 (fun hq => hd (hp _ hq).2) rfl, h.epoch,
    h.n .devMode 0 0 (fun hq => by have := (hp _ hq).1; simp [regimeWrites] at this) rfl,
    h.n .drvBlockCmd d 0 (fun hq => hd (hp _ hq).2) rfl⟩

/-- An operation on every drive of a list that settles a drive, and then leaves it: what holds after its own turn holds at the end. -/
theorem forL_settles {l : List Nat} {f : Nat → State → State} {s : State} {d : Nat} (P Q : State → Prop) (hm : d ∈ l) (h : P s)
    (hP : ∀ a t, a ≠ d → P t → P (f a t)) (hQ : ∀ a t, a ≠ d → Q t → Q (f a t)) (hown : ∀ t, P t → Q (f d t))
    (hagain : ∀ t, Q t → Q (f d t)) : Q (forL l f s) := by
  have hkeep : ∀ (l : List Nat) t, Q t → Q (forL l f t) := by
    intro l
    induction l with
    | nil => exact fun t ht => ht
    | cons a l ih =>
      intro t ht
      by_cases ha : a = d
      · exact ih _ (ha ▸ hagain t ht)
      · exact ih _ (hQ a t ha ht)
  induction l generalizing s with
  | nil => exact absurd hm (by simp)
  | cons a l ih =>
    by_cases ha : a = d
    · exact hkeep l _ (ha ▸ hown s h)
    · exact ih ((List.mem_cons.1 hm).resolve_left (Ne.symm ha)) (hP a s ha h)

theorem State.enterRegime_keeps_other (s : State) {a d : Nat} (new : Nat) (h : a ≠ d) : DriveKept s (s.enterRegime a new) d :=
  (s.enterRegime_only a new).kept (by simp [regimePoints, regimeWrites]) (Ne.symm h)

theorem State.haltStart_keeps_other (s : State) {a d : Nat} (h : a ≠ d) : DriveKept s (s.haltStart a) d :=
  (s.haltStart_only a).kept (by simp [regimePoints, regimeWrites]) (Ne.symm h)

theorem State.unblock_keeps_other (s : State) {a d : Nat} (h : a ≠ d) : DriveKept s (s.unblock a) d := by
  unfold State.unblock
  dsimp only
  split
  · exact s.enterRegime_keeps_other 0 h
  · exact (s.enterRegime_keeps_other 0 h).trans ((State.faultDrive_only _ _ _).kept (by simp [regimePoints, regimeWrites]) (Ne.symm h))

/-- Every drive is Blocked (Table 6.3). -/
theorem State.blockAll_regime (s : State) (d : Nat) (h : d ∈ s.drives) : s.blockAll.regime d = 7 := by
  have hblock : ∀ t : State, (t.enterRegime d 7).regime d = 7 := fun t =>
    t.enterRegime_regime d 7 (t.mayTurn_of_rank d 7 (Nat.zero_le _)) (by decide)
  exact forL_settles (fun _ => True) (fun t => t.regime d = 7) h trivial (fun _ _ _ _ => trivial)
    (fun a t ha ht => (t.enterRegime_keeps_other 7 ha).regime.trans ht) (fun t _ => hblock t) (fun t _ => hblock t)

/-- A running drive halts (R189). -/
theorem State.haltAll_regime (s : State) (d : Nat) (h : d ∈ s.drives) (h1 : 1 ≤ s.regime d) (h4 : s.regime d ≤ 4) :
    s.haltAll.regime d = 0 ∧ s.haltAll.halting d = true := by
  refine forL_settles (fun t => 1 ≤ t.regime d ∧ t.regime d ≤ 4) (fun t => t.regime d = 0 ∧ t.halting d = true) h ⟨h1, h4⟩
    (fun a t ha ht => ?_) (fun a t ha ht => ?_) (fun t ht => ?_) (fun t ht => ?_)
  · split
    · rw [(t.haltStart_keeps_other ha).regime]; exact ht
    · exact ht
  · split
    · refine ⟨(t.haltStart_keeps_other ha).regime.trans ht.1, ?_⟩
      rw [State.halting, (t.haltStart_only a).n .drvHalting d 0 (by simp [regimePoints, Ne.symm ha]) rfl]
      exact ht.2
    · exact ht
  · rw [if_pos ht]
    have hmt := t.mayTurn_stop d ht.1 ht.2
    exact ⟨t.haltStart_regime d hmt, by rw [State.halting, t.haltStart_halting d hmt]; rfl⟩
  · rw [if_neg (by omega)]; exact ht

/-- A Blocked drive with `block_cmd` 0 becomes Stopped, or Faulted where a cause stands (R187, R189). -/
theorem State.unblockAll_regime (s : State) (d : Nat) (h : d ∈ s.drives) (h7 : s.regime d = 7) (hb : s.n .drvBlockCmd d = 0)
    (ht : (s.drv d).turnAt ≠ some s.epoch) : s.unblockAll.regime d = if s.standing d = 0 then 0 else 6 := by
  have hne : (if s.standing d = 0 then 0 else 6) ≠ 7 := by split <;> decide
  refine forL_settles (DriveKept s · d) (fun t => t.regime d = if s.standing d = 0 then 0 else 6) h ⟨rfl, rfl, rfl, rfl, rfl⟩
    (fun a t ha hk => ?_) (fun a t ha hk => ?_) (fun t hk => ?_) (fun t hk => ?_)
  · split
    · exact hk.trans (t.unblock_keeps_other ha)
    · exact hk
  · split
    · exact (t.unblock_keeps_other ha).regime.trans hk
    · exact hk
  · obtain ⟨hdrv, hreg, hep, hmode, hcmd⟩ := hk
    rw [if_pos ⟨hreg.trans h7, hcmd.trans hb⟩, (t.unblock_effect d (by rw [hdrv, hep]; exact ht) (hreg.trans h7)).1]
    have hst : t.standing d = s.standing d := by simp only [State.standing, hdrv, hmode]
    rw [hst]
  · rw [if_neg (fun hc => hne (hk.symm.trans hc.1))]; exact hk

end Sys2Proof.Machine
end

section
/-!
SUPPORT. Proofs/SetMode.lean: what a change of the device mode does (section 10.1).
-/
namespace Sys2Proof.Machine

/-- The points of `exceptDrives` and of the mode. -/
def modeWrites : List Field := [.devMode, .devModePrev, .drvRegime, .drvHalting, .drvCrashPhase, .drvFaultCause]

/-- What a state holds aside from its drives, the mode and what reporting writes. -/
def State.exceptMode (s : State) : State × (Field → Nat → Nat → Word) := s.aside driveView (inFields modeWrites)

theorem State.exceptMode_of {s t : State} (h : t.exceptDrives = s.exceptDrives) : t.exceptMode = s.exceptMode :=
  State.aside_fields_mono h (by decide)

/-- The tokens of a mode and the note of the change (R299). -/
def State.entering (s : State) (m : Nat) : State :=
  (s.withJrn { s.jrn with modeChanged := true }).withDev { s.dev with tokenOn := modeRuns m }

theorem State.irqWakeAll_quiet (s : State) (old : Nat) : (s.irqWakeAll old).quiet = s.quiet := by
  unfold State.irqWakeAll
  split
  · exact forL_quiet _ _ _ fun id t => t.irqWakeFor_quiet id
  · rfl

theorem State.stopTokens_quiet (s : State) : s.stopTokens.quiet = (s.withDev { s.dev with tokenOn := false }).quiet := by
  unfold State.stopTokens
  split
  · exact State.emit_quiet _ _
  · next h =>
    have hd : ({ s.dev with tokenOn := false } : Dev) = s.dev := by
      rw [← (by simpa using h : s.dev.tokenOn = false)]
    rw [hd, State.withDev_self]

/-- The change of mode up to the token generator. -/
def State.modeNoted (s : State) (m : Nat) : State :=
  ((s.putN .devModePrev 0 s.mode).putN .devMode 0 m).entering m

/-- The drives that follow the mode. -/
def State.modeDrives (s : State) (old m : Nat) : State :=
  if modeRuns m ∧ ¬modeRuns old then s.unblockAll else if modeRuns old ∧ ¬modeRuns m then s.blockAll else s

theorem State.modeDrives_exceptDrives (s : State) (old m : Nat) : (s.modeDrives old m).exceptDrives = s.exceptDrives := by
  unfold State.modeDrives
  split
  · exact s.unblockAll_exceptDrives
  · split
    · exact s.blockAll_exceptDrives
    · rfl

/-- The token generator follows the mode. -/
theorem State.tokens_follow {u t : State} (m : Nat) (h : t.quiet = u.quiet) :
    (if modeRuns m then t.withDev { t.dev with tokenOn := true } else t.stopTokens).quiet =
      (u.withDev { u.dev with tokenOn := modeRuns m }).quiet := by
  have hd : t.dev = u.dev := State.dev_of_quiet h
  cases hm : modeRuns m with
  | true =>
    rw [if_pos rfl, hd]
    exact State.withDev_quiet h _
  | false =>
    rw [if_neg (by decide), State.stopTokens_quiet, hd]
    exact State.withDev_quiet h _

/-- A change of mode: the points and the tokens of the mode, the drives that follow it, and soft protections at the end of Override. -/
theorem State.setMode_shape (s : State) (m : Nat) (h : s.mode ≠ m) : ∃ u v w : State,
    u.quiet = (s.modeNoted m).quiet ∧ v.quiet = (u.modeDrives s.mode m).quiet ∧
    w = (if s.mode = 4 ∧ modeRuns m then v.softAgain else v) ∧ (s.setMode m).quiet = w.quiet := by
  unfold State.setMode
  rw [if_neg h]
  extract_lets s1 j s2 s3 d s5 s6 s7 s8
  refine ⟨s5, s7, s8, ?_, ?_, rfl, State.jrnPublish_quiet _⟩
  · exact State.tokens_follow (u := s2) m ((State.msixCause_quiet _ _).trans ((State.irqWakeAll_quiet _ _).trans
      ((State.irqFire_quiet _ _).trans (State.raise_quiet _ _ _ _ _))))
  · simp only [s7]
    split
    · exact State.raise_quiet _ _ _ _ _
    · rfl

theorem State.modeNoted_plant (s : State) (m : Nat) : (s.modeNoted m).plant = s.plant := rfl

theorem State.modeNoted_clk (s : State) (m : Nat) : (s.modeNoted m).clk = s.clk := rfl

theorem State.modeNoted_mode (s : State) (m : Nat) (hm : m < 2 ^ 32) : (s.modeNoted m).mode = m :=
  State.n_putN_same _ _ _ _ _ hm

theorem State.modeNoted_prev (s : State) (m : Nat) : (s.modeNoted m).n .devModePrev = s.mode :=
  (State.n_putN_field (s.putN .devModePrev 0 s.mode) (by decide)).trans (State.n_putN_same _ _ _ _ _ (s.n_lt .devMode 0 0))

theorem State.modeNoted_exceptMode (s : State) (m : Nat) : (s.modeNoted m).exceptMode = (s.entering m).exceptMode :=
  (State.aside_putN (s := (s.entering m).putN .devModePrev 0 s.mode) .devMode 0 m 0 rfl).trans
    (State.aside_putN .devModePrev 0 s.mode 0 rfl)

theorem State.setMode_same {s : State} {m : Nat} (h : s.mode = m) : s.setMode m = s := if_pos h

/-- Another mode is entered: the mode before it is shown, and the tokens flow as the mode says. -/
theorem State.setMode_enters (s : State) (m : Nat) (h : s.mode ≠ m) (hm : m < 2 ^ 32) : let t := s.setMode m
    t.mode = m ∧ t.n .devModePrev = s.mode ∧ t.exceptMode = (s.entering m).exceptMode := by
  obtain ⟨u, v, w, hu, hv, hw, ht⟩ := s.setMode_shape m h
  have hvd : v.exceptDrives = (s.modeNoted m).exceptDrives :=
    (State.aside_of_quiet hv).trans ((u.modeDrives_exceptDrives _ m).trans (State.aside_of_quiet hu))
  have hwd : w.exceptDrives = v.exceptDrives := by
    rw [hw]
    split
    · exact v.softAgain_exceptDrives
    · rfl
  have htd : (s.setMode m).exceptDrives = (s.modeNoted m).exceptDrives := (State.aside_of_quiet ht).trans (hwd.trans hvd)
  exact ⟨(State.aside_n htd .devMode 0 0 rfl rfl).trans (s.modeNoted_mode m hm),
    (State.aside_n htd .devModePrev 0 0 rfl rfl).trans (s.modeNoted_prev m),
    (State.exceptMode_of htd).trans (s.modeNoted_exceptMode m)⟩

/-! ## What the change leaves of the drives -/

theorem State.modeNoted_kept (s : State) (m d : Nat) : (s.modeNoted m).drv d = s.drv d ∧ (s.modeNoted m).regime d = s.regime d ∧
    (s.modeNoted m).n .drvBlockCmd d = s.n .drvBlockCmd d := by
  have hn : ∀ f : Field, f ≠ .devMode → f ≠ .devModePrev → (s.modeNoted m).n f d = s.n f d := fun f h k =>
    (State.n_putN_field (s.putN .devModePrev 0 s.mode) h).trans (State.n_putN_field s k)
  exact ⟨rfl, hn _ (by decide) (by decide), hn _ (by decide) (by decide)⟩

/-- Where tokens stop, every drive is Blocked (Table 10.1). -/
theorem State.setMode_blocks (s : State) (m d : Nat) (ho : modeRuns s.mode = true) (hm : modeRuns m = false) (hd : d ∈ s.drives) :
    (s.setMode m).regime d = 7 := by
  obtain ⟨u, v, w, hu, hv, hw, ht⟩ := s.setMode_shape m (fun h => by rw [h, hm] at ho; cases ho)
  have hud : d ∈ u.drives := by
    rw [State.drives, State.plant_of_quiet hu, s.modeNoted_plant m]
    exact hd
  rw [if_neg (by simp [hm])] at hw
  subst hw
  rw [State.modeDrives, if_neg (by simp [hm]), if_pos (by simp [hm, ho])] at hv
  exact (State.n_of_quiet ht .drvRegime d 0 rfl).trans ((State.n_of_quiet hv .drvRegime d 0 rfl).trans (u.blockAll_regime d hud))

/-- Where tokens flow on, or stay off, the drives stay as they are, but for a change out of Override. -/
theorem State.setMode_steady (s : State) (m d : Nat) (h : modeRuns s.mode = modeRuns m) (h4 : s.mode ≠ 4 ∨ modeRuns m = false) :
    (s.setMode m).drv d = s.drv d ∧ (s.setMode m).regime d = s.regime d := by
  by_cases hs : s.mode = m
  · rw [State.setMode_same hs]; exact ⟨rfl, rfl⟩
  · obtain ⟨u, v, w, hu, hv, hw, ht⟩ := s.setMode_shape m hs
    rw [if_neg (fun hc => h4.elim (· hc.1) (fun hf => by rw [hf] at hc; cases hc.2))] at hw
    subst hw
    rw [State.modeDrives, if_neg (by rw [h]; simp), if_neg (by rw [h]; simp)] at hv
    have hq := ht.trans (hv.trans hu)
    exact ⟨(State.drv_of_quiet hq d).trans (s.modeNoted_kept m d).1,
      (State.n_of_quiet hq .drvRegime d 0 rfl).trans (s.modeNoted_kept m d).2.1⟩

/-- Into Run from Ready: a Blocked drive with `block_cmd` 0 becomes Stopped, or Faulted where a cause stands (R187, R189). -/
theorem State.setMode_releases (s : State) (d : Nat) (h2 : s.mode = 2) (hd : d ∈ s.drives) (h7 : s.regime d = 7)
    (hb : s.n .drvBlockCmd d = 0) (ht : (s.drv d).turnAt ≠ some s.epoch) :
    (s.setMode 3).regime d = if s.standing d = 0 then 0 else 6 := by
  obtain ⟨u, v, w, hu, hv, hw, hq⟩ := s.setMode_shape 3 (by rw [h2]; decide)
  obtain ⟨hdrv, hreg, hcmd⟩ := s.modeNoted_kept 3 d
  have hdrv' : u.drv d = s.drv d := (State.drv_of_quiet hu d).trans hdrv
  have hep : u.epoch = s.epoch := congrArg Clock.epoch ((State.clk_of_quiet hu).trans (s.modeNoted_clk 3))
  have hmode : u.mode = 3 := (State.n_of_quiet hu .devMode 0 0 rfl).trans (s.modeNoted_mode 3 (by decide))
  have hud : d ∈ u.drives := by
    rw [State.drives, State.plant_of_quiet hu, s.modeNoted_plant 3]
    exact hd
  have hst : u.standing d = s.standing d := by simp [State.standing, hdrv', hmode, h2]
  rw [if_neg (by rw [h2]; decide)] at hw
  subst hw
  rw [h2, State.modeDrives, if_pos (by decide)] at hv
  rw [show (s.setMode 3).regime d = _ from State.n_of_quiet hq .drvRegime d 0 rfl,
    show w.n .drvRegime d = _ from State.n_of_quiet hv .drvRegime d 0 rfl, ← hst]
  exact u.unblockAll_regime d hud ((State.n_of_quiet hu _ _ _ rfl).trans (hreg.trans h7))
    ((State.n_of_quiet hu _ _ _ rfl).trans (hcmd.trans hb)) (by rw [hdrv', hep]; exact ht)

end Sys2Proof.Machine
end

section
/-!
SUPPORT. Proofs/ModeCommands.lean: the mode commands (Table 10.2).
-/
namespace Sys2Proof.Machine

/-- A mode has been entered by its command. -/
def Entered (s t : State) (m : Nat) : Prop :=
  t.mode = m ∧ t.n .devModePrev = s.mode ∧ t.n .devModeCmd = m ∧ t.dev.tokenOn = modeRuns m ∧ t.jrn.modeChanged = true ∧
    t.plant = s.plant ∧ t.rnds = s.rnds

theorem State.records_of_exceptMode {s t : State} (h : t.exceptMode = s.exceptMode) :
    t.dev = s.dev ∧ t.jrn.modeChanged = s.jrn.modeChanged ∧ t.plant = s.plant ∧ t.rnds = s.rnds :=
  have hr : t.rest.withDrvs [] = s.rest.withDrvs [] := State.aside_rest h
  ⟨(congrArg State.dev hr :), (congrArg (fun x : State => x.jrn.modeChanged) hr :), (congrArg State.plant hr :),
    (congrArg State.rnds hr :)⟩

/-- A change of mode enters it, and so does one after which only drives change. -/
theorem Entered.of {s u t : State} {m : Nat} (hmode : u.mode = s.mode) (hcmd : u.n .devModeCmd = m) (hplant : u.plant = s.plant)
    (hrnds : u.rnds = s.rnds) (h : s.mode ≠ m) (hm : m < 2 ^ 32) (ht : t.exceptDrives = (u.setMode m).exceptDrives) : Entered s t m := by
  obtain ⟨h1, h2, h3⟩ := u.setMode_enters m (by rw [hmode]; exact h) hm
  obtain ⟨hdev, hch, hpl, hrn⟩ := State.records_of_exceptMode ((State.exceptMode_of ht).trans h3)
  exact ⟨(State.aside_n ht .devMode 0 0 rfl rfl).trans h1,
    (State.aside_n ht .devModePrev 0 0 rfl rfl).trans (h2.trans hmode),
    (State.aside_n ht .devModeCmd 0 0 rfl rfl).trans ((State.aside_n h3 .devModeCmd 0 0 rfl rfl).trans hcmd),
    (congrArg Dev.tokenOn hdev).trans rfl, hch, hpl.trans hplant, hrn.trans hrnds⟩

/-! ## Admission (Table 10.2, R300) -/

theorem State.modeCmd_admitted {s : State} {v reason : Nat} (h : s.modeJudge v reason = 0) : s.modeCmd v reason = s.modeDo v reason :=
  if_pos h

theorem State.modeCmd_refused {s : State} {v reason : Nat} (h : s.modeJudge v reason ≠ 0) : s.modeCmd v reason = s := if_neg h

theorem State.modeJudge_configure (s : State) (ht : s.dev.modeTaken = false) (h : s.mode = 2 ∨ s.mode = 6 ∨ s.mode = 7) :
    s.modeJudge 1 0 = 0 := by
  rcases h with h | h | h <;> simp [State.modeJudge, ht, h]

theorem State.modeJudge_ready (s : State) (ht : s.dev.modeTaken = false)
    (h : s.mode = 1 ∧ s.readyOk = true ∨ s.mode = 3 ∧ s.allAtRest = true ∧ s.dev.haltCmd = false ∨ s.mode = 6 ∧ s.readyOk = true) :
    s.modeJudge 2 0 = 0 := by
  rcases h with ⟨h, k⟩ | ⟨h, k, l⟩ | ⟨h, k⟩
  · simp [State.modeJudge, ht, h, k]
  · simp [State.modeJudge, ht, h, k, l]
  · simp [State.modeJudge, ht, h, k]

theorem State.modeJudge_run (s : State) (ht : s.dev.modeTaken = false)
    (h : s.mode = 2 ∧ s.dev.stoA = true ∧ s.dev.stoB = true ∧ s.n .devSafeCause = 0 ∨ s.mode = 4 ∧ s.dev.haltCmd = false ∨ s.mode = 5) :
    s.modeJudge 3 0 = 0 := by
  rcases h with ⟨h, k, l, e⟩ | ⟨h, k⟩ | h
  · simp [State.modeJudge, ht, h, k, l, e]
  · simp [State.modeJudge, ht, h, k]
  · simp [State.modeJudge, ht, h]

theorem State.modeJudge_override (s : State) (reason : Nat) (ht : s.dev.modeTaken = false) (hh : s.dev.haltCmd = false)
    (h : s.mode = 3) (he : s.n .devOverrideEnable = 1) (hr : 0 < reason) : s.modeJudge 4 reason = 0 := by
  simp [State.modeJudge, ht, hh, h, he]; omega

theorem State.modeJudge_halt (s : State) (ht : s.dev.modeTaken = false) (h : s.mode = 3 ∨ s.mode = 4) : s.modeJudge 5 0 = 0 := by
  rcases h with h | h <;> simp [State.modeJudge, ht, h]

theorem State.modeJudge_dormant (s : State) (ht : s.dev.modeTaken = false) (h : s.mode = 1 ∨ s.mode = 2)
    (hw : s.n .devWakeMask % 128 ≠ 0) : s.modeJudge 0 0 = 0 := by
  rcases h with h | h <;> simp [State.modeJudge, ht, h, hw]

theorem State.modeJudge_replay (s : State) (ht : s.dev.modeTaken = false) (h : s.mode = 1) (hp : s.dev.pdActive = true)
    (he : s.jrn.exports = []) : s.modeJudge 7 0 = 0 := by
  simp [State.modeJudge, ht, h, hp, he]

/-! ## Configure and Ready -/

theorem State.mode_putN (s : State) {f : Field} (i v : Nat) (h : f ≠ .devMode) : (s.putN f i v).mode = s.mode :=
  State.n_putN_field _ h.symm

theorem State.clearDiscrepancy_leaves (s : State) : let t := s.clearDiscrepancy
    t.rest = s.rest ∧ QuietPoints s t [⟨.devSafeCause, 0, 0⟩] := by
  unfold State.clearDiscrepancy
  split
  · exact ⟨s.safeMark_rest 3 false, s.safeMark_points 3 false⟩
  · exact ⟨rfl, QuietPoints.refl _ _⟩

theorem State.clearDiscrepancy_n (s : State) (f : Field) (i j : Nat) (hf : f ≠ .devSafeCause) (hr : fieldReports f = false) :
    s.clearDiscrepancy.n f i j = s.n f i j :=
  s.clearDiscrepancy_leaves.2.n f i j (by simp [hf]) hr

/-- The command's point is written, a discrepancy that is over is cleared, and the mode is entered. -/
theorem State.cleared_enters (s : State) (m : Nat) (h : s.mode ≠ m) (hm : m < 2 ^ 32) :
    Entered s (((s.putN .devModeCmd 0 m).clearDiscrepancy).setMode m) m := by
  obtain ⟨hrest, -⟩ := (s.putN .devModeCmd 0 m).clearDiscrepancy_leaves
  refine Entered.of (u := (s.putN .devModeCmd 0 m).clearDiscrepancy) ?_ ?_ (congrArg State.plant hrest :)
    (congrArg State.rnds hrest :) h hm rfl
  · exact (State.clearDiscrepancy_n _ _ _ _ (by decide) rfl).trans (s.mode_putN 0 m (by decide))
  · exact (State.clearDiscrepancy_n _ _ _ _ (by decide) rfl).trans (State.n_putN_same _ _ _ _ _ hm)

theorem modeCmdConfigure_enters (s : State) (ht : s.dev.modeTaken = false) (h : s.mode = 2 ∨ s.mode = 6) :
    Yields (exec .modeCmdConfigure s) (Entered s · 1) := by
  have hadm := State.modeCmd_admitted (s.modeJudge_configure ht (h.imp_right .inl))
  have h7 : (s.putN .devModeCmd 0 1).mode ≠ 7 := by rw [s.mode_putN 0 1 (by decide)]; omega
  refine yields_next (t := s.modeCmd 1 0) ?_
  rw [hadm, show s.modeDo 1 0 = ((s.putN .devModeCmd 0 1).clearDiscrepancy).setMode 1 from if_neg h7]
  exact s.cleared_enters 1 (by omega) (by decide)

theorem State.modeDo_ready (s : State) (h : s.mode ≠ 6) :
    s.modeDo 2 0 = ((s.putN .devModeCmd 0 2).clearDiscrepancy).setMode 2 := by
  have h6 : ((s.putN .devModeCmd 0 2).clearDiscrepancy).mode ≠ 6 := by
    rw [State.mode, State.clearDiscrepancy_n _ _ _ _ (by decide) rfl]
    exact fun hc => h ((s.mode_putN 0 2 (by decide)).symm.trans hc)
  exact congrArg (fun x : State => x.setMode 2) (if_neg h6)

theorem modeCmdReady_enters (s : State) (ht : s.dev.modeTaken = false)
    (h : s.mode = 1 ∧ s.readyOk = true ∨ s.mode = 3 ∧ s.allAtRest = true ∧ s.dev.haltCmd = false) :
    Yields (exec .modeCmdReady s) (Entered s · 2) := by
  have hadm := State.modeCmd_admitted (s.modeJudge_ready ht (h.imp_right .inl))
  refine yields_next (t := s.modeCmd 2 0) ?_
  rw [hadm, s.modeDo_ready (by omega)]
  exact s.cleared_enters 2 (by omega) (by decide)

/-- GATES directives go into the queues of the rounds, and nothing else changes. -/
theorem State.releaseCells_leaves (s : State) : s.releaseCells.pts = s.pts ∧ s.releaseCells.dev = s.dev :=
  ⟨forL_keeps State.pts _ _ _ fun _ _ => rfl, forL_keeps State.dev _ _ _ fun _ _ => rfl⟩

theorem modeCmdReady_leavesSafe (s : State) (ht : s.dev.modeTaken = false) (h6 : s.mode = 6) (hok : s.readyOk = true) :
    Yields (exec .modeCmdReady s) fun t =>
      t.mode = 2 ∧ t.n .devModeCmd = 2 ∧ t.dev.tokenOn = false ∧ Arith.bit (t.n .devSafeCause) 2 = false := by
  have hadm := State.modeCmd_admitted (s.modeJudge_ready ht (.inr (.inr ⟨h6, hok⟩)))
  let u := s.putN .devModeCmd 0 2
  let c := u.clearDiscrepancy
  have hmode : c.mode = 6 := (State.clearDiscrepancy_n _ _ _ _ (by decide) rfl).trans ((s.mode_putN 0 2 (by decide)).trans h6)
  have hcmd : c.n .devModeCmd = 2 := (State.clearDiscrepancy_n _ _ _ _ (by decide) rfl).trans (State.n_putN_same _ _ _ _ _ (by decide))
  have hsto : (u.dev.stoA && u.dev.stoB) = true := by
    simp only [State.readyOk, Bool.and_eq_true] at hok
    exact Bool.and_eq_true_iff.2 ⟨hok.1.1.2, hok.1.2⟩
  have hbit : Arith.bit (c.n .devSafeCause) 2 = false := by
    simp only [c]
    rw [State.clearDiscrepancy, if_pos hsto]
    exact u.safeMark_bit 3 false (by decide)
  have hpts : ∀ f, c.releaseCells.n f = c.n f := fun f => by
    simp only [State.n, State.w, c.releaseCells_leaves.1]
  have hdo : s.modeDo 2 0 = c.releaseCells.setMode 2 := congrArg (fun x : State => x.setMode 2) (if_pos hmode)
  obtain ⟨h1, -, h3⟩ := c.releaseCells.setMode_enters 2 (by rw [State.mode, hpts]; exact hmode.trans_ne (by decide)) (by decide)
  refine yields_next (t := s.modeCmd 2 0) ?_
  rw [hadm, hdo]
  exact ⟨h1, (State.aside_n h3 .devModeCmd 0 0 rfl rfl).trans ((hpts .devModeCmd).trans hcmd),
    (congrArg Dev.tokenOn (State.records_of_exceptMode h3).1).trans rfl,
    (congrArg (Arith.bit · 2) ((State.aside_n h3 .devSafeCause 0 0 rfl rfl).trans (hpts .devSafeCause))).trans hbit⟩

/-! ## Run, Override and Halt -/

theorem State.putN_enters (s : State) (m : Nat) (h : s.mode ≠ m) (hm : m < 2 ^ 32) :
    Entered s ((s.putN .devModeCmd 0 m).setMode m) m :=
  Entered.of (s.mode_putN 0 m (by decide)) (State.n_putN_same _ _ _ _ _ hm) rfl rfl h hm rfl

theorem modeCmdRun_enters (s : State) (ht : s.dev.modeTaken = false)
    (h : s.mode = 2 ∧ s.dev.stoA = true ∧ s.dev.stoB = true ∧ s.n .devSafeCause = 0 ∨ s.mode = 4 ∧ s.dev.haltCmd = false ∨ s.mode = 5) :
    Yields (exec .modeCmdRun s) (Entered s · 3) ∧ Yields (exec .modeCmdRun s) fun t =>
      s.mode = 2 → ∀ d ∈ s.drives, s.regime d = 7 → s.n .drvBlockCmd d = 0 → (s.drv d).turnAt ≠ some s.epoch →
        t.regime d = (if s.standing d = 0 then 0 else 6) := by
  have hadm : s.modeCmd 3 0 = (s.putN .devModeCmd 0 3).setMode 3 := State.modeCmd_admitted (s.modeJudge_run ht h)
  have hn : ∀ f : Field, f ≠ .devModeCmd → ∀ i, (s.putN .devModeCmd 0 3).n f i = s.n f i := fun f hf i => State.n_putN_field _ hf
  refine ⟨yields_next (t := s.modeCmd 3 0) ?_, yields_next (t := s.modeCmd 3 0) ?_⟩
  · rw [hadm]; exact s.putN_enters 3 (by omega) (by decide)
  · rw [hadm]
    intro h2 d hd h7 hb hturn
    have hst : (s.putN .devModeCmd 0 3).standing d = s.standing d := by
      simp only [State.standing, State.mode, hn .devMode (by decide), State.drv_putN]
    rw [← hst]
    exact State.setMode_releases _ d ((hn _ (by decide) _).trans h2) hd ((hn _ (by decide) _).trans h7) ((hn _ (by decide) _).trans hb) hturn

/-- Override is about to be entered: its command, its count and its event (R314). -/
def State.overriding (s : State) (reason : Nat) : State :=
  (((s.putN .devModeCmd 0 4).putN .devOverrideReason 0 reason).inc .devOverrideCount).raise 0x0C44 kDevice 0 reason

/-- The event `OVERRIDE_ACTIVE` comes again from here on. -/
def State.overrideTimed (s : State) : State := s.withDev { s.dev with overrideAt := s.clk.t0 }

theorem State.modeDo_override (s : State) (reason : Nat) : s.modeDo 4 reason = (s.overriding reason).overrideTimed.setMode 4 := rfl

theorem State.overriding_w (s : State) (reason : Nat) (f : Field) (i j : Nat) (hf : fieldReports f = false) :
    (s.overriding reason).w f i j = (((s.putN .devModeCmd 0 4).putN .devOverrideReason 0 reason).inc .devOverrideCount).w f i j :=
  State.w_of_quiet (State.raise_quiet _ _ _ _ _) f i j hf

theorem State.overriding_other (s : State) (reason : Nat) (f : Field) (i j : Nat) (hf : fieldReports f = false)
    (h : f ≠ .devOverrideCount ∧ f ≠ .devOverrideReason) : (s.overriding reason).n f i j = (s.putN .devModeCmd 0 4).n f i j :=
  State.n_ext ((s.overriding_w reason f i j hf).trans ((State.w_put_field _ _ h.1).trans (State.w_putN_field _ h.2)))

theorem State.overriding_reason (s : State) (reason : Nat) (hl : reason < 2 ^ 32) : (s.overriding reason).n .devOverrideReason = reason :=
  (State.n_ext ((s.overriding_w reason _ 0 0 rfl).trans (State.w_put_field _ _ (by decide)))).trans
    (State.n_putN_same _ _ _ _ _ hl)

theorem State.overriding_count (s : State) (reason : Nat) :
    (s.overriding reason).w .devOverrideCount 0 0 = Word.ofNat (s.n .devOverrideCount + 1) := by
  refine (s.overriding_w reason _ 0 0 rfl).trans ((State.w_put_same _ _ _ _ _).trans ?_)
  rw [State.n_putN_field _ (by decide), State.n_putN_field _ (by decide)]

theorem State.overriding_rest (s : State) (reason : Nat) : (s.overriding reason).rest = s.rest :=
  (State.raise_rest _ _ _ _ _).trans rfl

theorem modeCmdOverride_enters (s : State) (reason : Nat) (ht : s.dev.modeTaken = false) (hh : s.dev.haltCmd = false) (h3 : s.mode = 3)
    (he : s.n .devOverrideEnable = 1) (hr : 0 < reason) (hl : reason < 2 ^ 32) :
    Yields (exec (.modeCmdOverride reason) s) (Entered s · 4) ∧ Yields (exec (.modeCmdOverride reason) s) fun t =>
      t.n .devOverrideReason = reason ∧ t.w .devOverrideCount 0 0 = Word.ofNat (s.n .devOverrideCount + 1) ∧
      t.dev.overrideAt = s.clk.t0 := by
  have hadm : s.modeCmd 4 reason = (s.overriding reason).overrideTimed.setMode 4 :=
    (State.modeCmd_admitted (s.modeJudge_override reason ht hh h3 he hr)).trans (s.modeDo_override reason)
  have hmode : (s.overriding reason).mode = s.mode :=
    (s.overriding_other reason .devMode 0 0 rfl (by decide)).trans (s.mode_putN 0 4 (by decide))
  have hcmd : (s.overriding reason).n .devModeCmd = 4 :=
    (s.overriding_other reason _ 0 0 rfl (by decide)).trans (State.n_putN_same _ _ _ _ _ (by decide))
  have hrest := s.overriding_rest reason
  have hreason := s.overriding_reason reason hl
  have hcount := s.overriding_count reason
  refine ⟨yields_next (t := s.modeCmd 4 reason) ?_, yields_next (t := s.modeCmd 4 reason) ?_⟩ <;> rw [hadm] <;>
    generalize s.overriding reason = b at hmode hcmd hrest hreason hcount
  · exact Entered.of (u := b.overrideTimed) hmode hcmd (congrArg State.plant hrest :) (congrArg State.rnds hrest :) (by omega) (by decide) rfl
  · obtain ⟨-, -, hex⟩ := b.overrideTimed.setMode_enters 4 (show b.mode ≠ 4 by rw [hmode]; omega) (by decide)
    refine ⟨(State.aside_n hex _ _ _ rfl rfl).trans hreason, (State.aside_w hex _ _ _ rfl rfl).trans hcount, ?_⟩
    exact (congrArg Dev.overrideAt (State.records_of_exceptMode hex).1).trans (congrArg (fun x : State => x.clk.t0) hrest :)

theorem modeCmdHalt_enters (s : State) (ht : s.dev.modeTaken = false) (h : s.mode = 3 ∨ s.mode = 4) :
    Yields (exec .modeCmdHalt s) (Entered s · 5) ∧ Yields (exec .modeCmdHalt s) fun t =>
      t.dev.haltEpoch = s.epoch ∧
      (s.mode = 3 → ∀ d ∈ s.drives, 1 ≤ s.regime d → s.regime d ≤ 4 → t.regime d = 0 ∧ t.halting d = true) := by
  let a := s.putN .devModeCmd 0 5
  let b := a.withDev { a.dev with haltEpoch := a.epoch, modeTaken := true }
  have hadm : s.modeCmd 5 0 = (b.setMode 5).haltAll := State.modeCmd_admitted (s.modeJudge_halt ht h)
  have hmode : b.mode = s.mode := s.mode_putN 0 5 (by decide)
  have hex := (b.setMode 5).haltAll_exceptDrives
  obtain ⟨-, -, hen⟩ := b.setMode_enters 5 (by rw [hmode]; omega) (by decide)
  have hdev : (b.setMode 5).haltAll.dev.haltEpoch = s.epoch :=
    (congrArg Dev.haltEpoch (State.records_of_exceptMode ((State.exceptMode_of hex).trans hen)).1).trans rfl
  refine ⟨yields_next (t := s.modeCmd 5 0) ?_, yields_next (t := s.modeCmd 5 0) ?_⟩
  · rw [hadm]
    exact Entered.of hmode (State.n_putN_same _ _ _ _ _ (by decide)) rfl rfl (by omega) (by decide) hex
  · rw [hadm]
    refine ⟨hdev, fun h3 d hd h1 h4 => ?_⟩
    obtain ⟨-, hreg⟩ := b.setMode_steady 5 d (by rw [hmode, h3]; rfl) (.inl (by rw [hmode]; omega))
    have hr : (b.setMode 5).regime d = s.regime d := hreg.trans (s.regime_putN 0 5 d (by decide))
    have hdr : d ∈ (b.setMode 5).drives := by
      rw [State.drives, (State.records_of_exceptMode hen).2.2.1]; exact hd
    exact (b.setMode 5).haltAll_regime d hdr (by omega) (by omega)

end Sys2Proof.Machine
end

section
/-!
SUPPORT. Proofs/SleepAndReplay.lean: the mode commands for Dormant and Replay, and the way out of Replay (sections 10.7 and 13.6).
-/
namespace Sys2Proof.Machine

/-! ## Dormant and Replay are asked for -/

theorem modeCmdDormant_asks (s : State) (ht : s.dev.modeTaken = false) (h : s.mode = 1 ∨ s.mode = 2) (hw : s.n .devWakeMask % 128 ≠ 0) :
    Yields (exec .modeCmdDormant s) fun t =>
      t.dev = { s.dev with sleepReq := true } ∧ t.mode = s.mode ∧ t.n .devWakeRace = 0 ∧ t.n .devModeCmd = 0 ∧
      SamePoints s t [⟨.devModeCmd, 0, 0⟩, ⟨.devWakeRace, 0, 0⟩] := by
  let a := s.putN .devModeCmd 0 0
  let b := a.withDev { a.dev with sleepReq := true }
  have hadm : s.modeCmd 0 0 = b.putN .devWakeRace 0 0 := State.modeCmd_admitted (s.modeJudge_dormant ht h hw)
  refine yields_next (t := s.modeCmd 0 0) ?_
  rw [hadm]
  refine ⟨rfl, (b.mode_putN 0 0 (by decide)).trans (s.mode_putN 0 0 (by decide)), State.n_putN_same _ _ _ _ _ (by decide),
    (State.n_putN_field b (by decide)).trans (State.n_putN_same _ _ _ _ _ (by decide)), ?_⟩
  exact (SamePoints.put s _ _ _ _).trans (SamePoints.put b _ _ _ _)

/-- The replay unit is set up and its points start at 0 (R397). -/
def State.replayReady (s : State) : State :=
  let s1 := (s.withRep { Replay.idle with phase := 1, saved := some (s.heldPts, s.image) }).putN .repEpochs 0 0
  let s2 := ((s1.put64 .repDivEpoch 0 0).putN .repDivLane 0 0).putN .repDivLanes 0 0
  (s2.put64 .repDivRecorded 0 0).put64 .repDivComputed 0 0

/-- The points of Replay. -/
def replayFields : List Field := [.repEpochs, .repDivEpoch, .repDivLane, .repDivLanes, .repDivRecorded, .repDivComputed]

theorem State.replayReady_aside (s : State) : s.replayReady.aside (fun x => x.withRep Replay.idle) (inFields replayFields) =
    s.aside (fun x => x.withRep Replay.idle) (inFields replayFields) := by
  unfold State.replayReady
  refine (State.aside_put64 _ _ _ rfl rfl).trans ((State.aside_put64 _ _ _ rfl rfl).trans ((State.aside_putN _ _ _ _ rfl).trans
    ((State.aside_putN _ _ _ _ rfl).trans ((State.aside_put64 _ _ _ rfl rfl).trans ((State.aside_putN _ _ _ _ rfl).trans
      (State.aside_record ?_ rfl))))))
  rw [State.withRep_rest]
  rfl

theorem State.replayReady_rep (s : State) : s.replayReady.rep.phase = 1 ∧ s.replayReady.rep.queue = [] := ⟨rfl, rfl⟩

theorem State.replayReady_epochs (s : State) : s.replayReady.n .repEpochs = 0 := by
  unfold State.replayReady State.put64
  simp only [State.n_putN_field _ (show Field.repEpochs ≠ .repDivComputed by decide),
    State.n_putN_field _ (show Field.repEpochs ≠ .repDivRecorded by decide),
    State.n_putN_field _ (show Field.repEpochs ≠ .repDivLanes by decide),
    State.n_putN_field _ (show Field.repEpochs ≠ .repDivLane by decide),
    State.n_putN_field _ (show Field.repEpochs ≠ .repDivEpoch by decide)]
  exact State.n_putN_same _ _ _ _ _ (by decide)

theorem State.rep_of_exceptMode {s t : State} (h : t.exceptMode = s.exceptMode) : t.rep = s.rep :=
  (congrArg State.rep (State.aside_rest h) :)

theorem State.entering_rep (s : State) (m : Nat) : (s.entering m).rep = s.rep := rfl

theorem modeCmdReplay_enters (s : State) (ht : s.dev.modeTaken = false) (h1 : s.mode = 1) (hp : s.dev.pdActive = true)
    (he : s.jrn.exports = []) : Yields (exec .modeCmdReplay s) (Entered s · 7) ∧
      Yields (exec .modeCmdReplay s) fun t => t.rep.phase = 1 ∧ t.rep.queue = [] ∧ t.n .repEpochs = 0 := by
  have hadm : s.modeCmd 7 0 = (s.putN .devModeCmd 0 7).replayReady.setMode 7 :=
    State.modeCmd_admitted (s.modeJudge_replay ht h1 hp he)
  have hs := (s.putN .devModeCmd 0 7).replayReady_aside
  obtain ⟨hphase, hqueue⟩ := (s.putN .devModeCmd 0 7).replayReady_rep
  have hep := (s.putN .devModeCmd 0 7).replayReady_epochs
  have hmode : (s.putN .devModeCmd 0 7).replayReady.mode = s.mode :=
    (State.aside_n hs .devMode 0 0 rfl rfl).trans (s.mode_putN 0 7 (by decide))
  have hcmd : (s.putN .devModeCmd 0 7).replayReady.n .devModeCmd = 7 :=
    (State.aside_n hs .devModeCmd 0 0 rfl rfl).trans (State.n_putN_same _ _ _ _ _ (by decide))
  have hrec := (congrArg (fun x : State => (x.plant, x.rnds)) (State.aside_rest hs) :)
  refine ⟨yields_next (t := s.modeCmd 7 0) ?_, yields_next (t := s.modeCmd 7 0) ?_⟩ <;> rw [hadm] <;>
    generalize (s.putN .devModeCmd 0 7).replayReady = b at hphase hqueue hep hmode hcmd hrec
  · exact Entered.of hmode hcmd (congrArg Prod.fst hrec) (congrArg Prod.snd hrec) (by omega) (by decide) rfl
  · obtain ⟨-, -, hex⟩ := b.setMode_enters 7 (by rw [hmode]; omega) (by decide)
    rw [State.rep_of_exceptMode hex, b.entering_rep]
    exact ⟨hphase, hqueue, (State.aside_n hex _ _ _ rfl rfl).trans hep⟩

/-! ## The way out of Replay -/

theorem Store.get_filter (t : Store) (q : Pt × Word → Bool) (p : Pt) (h : ∀ w, q (p, w) = true) :
    Store.get (t.filter q) p = Store.get t p := by
  induction t with
  | nil => rfl
  | cons e t ih =>
    obtain ⟨r, w⟩ := e
    by_cases hr : r = p
    · subst hr
      rw [List.filter_cons_of_pos (h w)]
      simp [Store.get]
    · have hne : Store.get ((r, w) :: t) p = Store.get t p := if_neg hr
      rw [hne, ← ih, List.filter_cons]
      split
      · exact if_neg hr
      · rfl

theorem forL_putPt_get (l : List (Pt × Word)) (t : State) (p : Pt) (h : ∀ e ∈ l, e.1 ≠ p) :
    Store.get (forL l (fun e t => t.putPt e.1 e.2) t).pts p = Store.get t.pts p := by
  induction l generalizing t with
  | nil => rfl
  | cons e l ih =>
    exact (ih (t.putPt e.1 e.2) fun x hx => h x (by simp [hx])).trans (Store.get_put_ne _ _ (Ne.symm (h e (by simp))))

/-- A point of neither part of a carried state keeps its value. -/
theorem State.takeImage_get (s : State) (pts : List (Pt × Word)) (i : LaneImage) (p : Pt) (hc : checkpointed p = false)
    (hl : laneHeld p = false) (hn : ∀ e ∈ pts ++ i.held, e.1 ≠ p) : Store.get (s.takeImage pts i).pts p = Store.get s.pts p := by
  unfold State.takeImage
  extract_lets keep s1
  have hs1 : Store.get s1.pts p = Store.get keep p := forL_putPt_get (pts ++ i.held) _ p hn
  have hkeep : Store.get keep p = Store.get s.pts p := Store.get_filter _ _ _ fun w => by simp [hc, hl]
  simp only [State.withLevels_pts, State.withGuards_pts, State.withAxes_pts, State.withEngs_pts, State.withPowers_pts,
    State.withShafts_pts, State.withArms_pts, State.withSets_pts, State.withDrvs_pts]
  exact hs1.trans hkeep

/-- The state that a replay gives back: what was saved, with the present mode command (R400). -/
def State.replayRestored (s : State) : State :=
  match s.rep.saved with
  | some (pts, i) =>
    ((s.takeImage (pts.filter (fun e => !ofModeCmd e.1)) i).put .devModeCmd 0 (s.w .devModeCmd)).put .devOverrideReason 0
      (s.w .devOverrideReason)
  | none => s

theorem State.replayRestored_mode (s : State) (h : ∀ p i, s.rep.saved = some (p, i) → ∀ e ∈ p ++ i.held, e.1.f ≠ .devMode) :
    s.replayRestored.mode = s.mode := by
  unfold State.replayRestored
  split
  · next p i he =>
    refine State.n_ext ((State.w_put_field _ _ (by decide)).trans ((State.w_put_field _ _ (by decide)).trans ?_))
    refine State.takeImage_get _ _ _ _ rfl rfl fun e hm hp => ?_
    refine h p i he e ?_ (congrArg Pt.f hp)
    simp only [List.mem_append, List.mem_filter] at hm ⊢
    exact hm.imp_left And.left
  · rfl

theorem State.replayRestored_command (s : State) : s.replayRestored.n .devModeCmd = s.n .devModeCmd := by
  unfold State.replayRestored
  split
  · exact State.n_ext ((State.w_put_field _ _ (by decide)).trans (State.w_put_same _ _ _ _ _))
  · rfl

theorem State.replayLeave_leaves (s : State) (h : ∀ p i, s.rep.saved = some (p, i) → ∀ e ∈ p ++ i.held, e.1.f ≠ .devMode) :
    let t := s.replayLeave
    t.mode = s.mode ∧ t.n .devModeCmd = s.n .devModeCmd ∧ t.rep = Replay.idle :=
  ⟨s.replayRestored_mode h, s.replayRestored_command, rfl⟩

theorem modeCmdConfigure_endsReplay (s : State) (ht : s.dev.modeTaken = false) (h7 : s.mode = 7)
    (h : ∀ p i, s.rep.saved = some (p, i) → ∀ e ∈ p ++ i.held, e.1.f ≠ .devMode) :
    Yields (exec .modeCmdConfigure s) fun t => t.mode = 1 ∧ t.rep = Replay.idle ∧ t.n .devModeCmd = 1 ∧ t.n .devModePrev = 7 := by
  let a := s.putN .devModeCmd 0 1
  have ha : a.mode = 7 := (s.mode_putN 0 1 (by decide)).trans h7
  let b := a.settle (fun f => f.wait.isFeed) 0 noItem 3 .ready
  have hadm : s.modeCmd 1 0 = ((b.replayLeave.raise 0x0B08 kDevice 0 3).setMode 1).blockAll :=
    (State.modeCmd_admitted (s.modeJudge_configure ht (.inr (.inr h7)))).trans (if_pos ha)
  obtain ⟨hmode, hcmd, hrep⟩ := b.replayLeave_leaves h
  have hcmd' : b.replayLeave.n .devModeCmd = 1 := hcmd.trans (State.n_putN_same _ _ _ _ _ (by decide))
  have hq : (b.replayLeave.raise 0x0B08 kDevice 0 3).quiet = b.replayLeave.quiet := State.raise_quiet _ _ _ _ _
  have hmode' := (State.n_of_quiet hq .devMode 0 0 rfl).trans (hmode.trans ha)
  have hcmd'' := (State.n_of_quiet hq .devModeCmd 0 0 rfl).trans hcmd'
  have hrep' := (State.rep_of_quiet hq).trans hrep
  refine yields_next (t := s.modeCmd 1 0) ?_
  rw [hadm]
  generalize b.replayLeave.raise 0x0B08 kDevice 0 3 = e at hmode' hcmd'' hrep'
  obtain ⟨h1, h2, h3⟩ := e.setMode_enters 1 (fun hc => by rw [show e.mode = 7 from hmode'] at hc; cases hc) (by decide)
  have hb := (e.setMode 1).blockAll_exceptDrives
  refine ⟨(State.aside_n hb _ _ _ rfl rfl).trans h1, ?_, ?_, ?_⟩
  · rw [State.rep_of_exceptMode (State.exceptMode_of hb), State.rep_of_exceptMode h3, e.entering_rep]
    exact hrep'
  · exact (State.aside_n hb _ _ _ rfl rfl).trans ((State.aside_n h3 .devModeCmd 0 0 rfl rfl).trans hcmd'')
  · exact (State.aside_n hb _ _ _ rfl rfl).trans (h2.trans hmode')

/-! ## Refusal -/

theorem modeCmd_refusedKeeps (s : State) (e : Instr × Nat × Nat) (h : e ∈ [(Instr.modeCmdConfigure, 1, 0), (.modeCmdReady, 2, 0),
      (.modeCmdRun, 3, 0), (.modeCmdOverride 9, 4, 9), (.modeCmdHalt, 5, 0), (.modeCmdDormant, 0, 0), (.modeCmdReplay, 7, 0)])
    (hj : s.modeJudge e.2.1 e.2.2 ≠ 0) : Yields (exec e.1 s) fun t => t = s := by
  have hx : exec e.1 s = .next (s.modeCmd e.2.1 e.2.2) := by
    simp only [List.mem_cons, List.not_mem_nil, or_false] at h
    rcases h with h | h | h | h | h | h | h <;> rw [h] <;> rfl
  rw [hx]
  exact yields_next (State.modeCmd_refused hj)

/-- Settles O19, command by command. -/
theorem modeCommandsEnterTheirModes : Obligations.ModeCommandsEnterTheirModes := by
  unfold Obligations.ModeCommandsEnterTheirModes
  intro s
  exact ⟨modeCmdConfigure_enters s, modeCmdConfigure_endsReplay s, modeCmdReady_enters s,
    fun ht h6 hok => (modeCmdReady_leavesSafe s ht h6 hok).imp fun _ h => ⟨h.1, h.2.1, h.2.2.1, h.2.2.2.2⟩,
    modeCmdRun_enters s, modeCmdOverride_enters s, modeCmdHalt_enters s, modeCmdDormant_asks s, modeCmdReplay_enters s,
    modeCmd_refusedKeeps s⟩

end Sys2Proof.Machine
end

section
/-!
SUPPORT. Proofs/EnterSafe.lean: what a Safe cause does (section 10.5).
-/
namespace Sys2Proof.Machine

/-! ## What a Safe cause leaves aside -/

/-- A device-wide record without what a Safe cause sets. -/
def Dev.steady (d : Dev) : Dev := { d with tokenOn := false, sleepReq := false, modeTaken := false, dormantCauses := 0, haltDue := false }

/-- A state without its drives and the notes that a Safe cause sets, with a device-wide record. -/
def safeErased (d : Dev) (s : State) : State :=
  (((s.withDrvs []).withDev d).withJrn { s.jrn with modeChanged := false }).withPair { s.pair with endsIdle := false }

/-- A state without its drives and what a Safe cause sets. -/
def safeView (s : State) : State := safeErased s.dev.steady s

theorem safeView_withDev (s : State) (d : Dev) : safeView (s.withDev d) = safeErased d.steady s := by
  cases s; rfl

theorem safeView_withDrvs (s : State) (v : Tab Drv) : safeView (s.withDrvs v) = safeView s := by
  cases s; rfl

theorem safeView_endsIdle (s : State) (b : Bool) : safeView (s.withPair { s.pair with endsIdle := b }) = safeView s := by
  cases s; rfl

/-- The points that a Safe cause writes. -/
def safeFields : List Field :=
  [.devSafeCause, .pairEligible, .pairProtection, .devMode, .devModePrev, .drvRegime, .drvHalting, .drvCrashPhase, .drvFaultCause]

/-- What a state holds aside from what a Safe cause sets and what reporting writes. -/
def State.exceptSafe (s : State) : State × (Field → Nat → Nat → Word) := s.aside safeView (inFields safeFields)

theorem State.exceptSafe_of_exceptMode {s t : State} (h : t.exceptMode = s.exceptMode) : t.exceptSafe = s.exceptSafe := by
  refine Prod.ext ?_ (congrArg Prod.snd (State.aside_fields_mono (g := driveView) h (gs := safeFields) (by decide)) :)
  have hr : t.rest.withDrvs [] = s.rest.withDrvs [] := State.aside_rest h
  exact (safeView_withDrvs t.rest []).symm.trans ((congrArg safeView hr).trans (safeView_withDrvs s.rest []))

/-- Of the device-wide record only the five named parts change. -/
theorem State.withDev_exceptSafe (s : State) (d : Dev) (h : d.steady = s.dev.steady) : (s.withDev d).exceptSafe = s.exceptSafe :=
  State.aside_record (by rw [State.withDev_rest, safeView_withDev, h]; rfl) rfl

theorem State.entering_exceptSafe (s : State) (m : Nat) : (s.entering m).exceptSafe = s.exceptSafe :=
  ((s.withJrn { s.jrn with modeChanged := true }).withDev_exceptSafe _ rfl).trans
    (State.aside_record (by rw [State.withJrn_rest]; rfl) rfl)

theorem State.setMode_exceptSafe (s : State) (m : Nat) (hm : m < 2 ^ 32) : (s.setMode m).exceptSafe = s.exceptSafe := by
  by_cases h : s.mode = m
  · rw [State.setMode_same h]
  · exact (State.exceptSafe_of_exceptMode (s.setMode_enters m h hm).2.2).trans (s.entering_exceptSafe m)

theorem State.safeMark_exceptSafe (s : State) (code : Nat) (on : Bool) : (s.safeMark code on).exceptSafe = s.exceptSafe :=
  (State.aside_of_quiet (s.safeMark_quiet code on)).trans (State.aside_putN _ _ _ _ rfl)

theorem State.stopTokens_exceptSafe (s : State) : s.stopTokens.exceptSafe = s.exceptSafe :=
  (State.aside_of_quiet s.stopTokens_quiet).trans (s.withDev_exceptSafe _ rfl)

theorem State.idleEnds_exceptSafe (s : State) : s.idleEnds.exceptSafe = s.exceptSafe := by
  unfold State.idleEnds
  split
  · rfl
  · have h : (forN 16 (fun r t => t.emit (.endIdle r t.ownEnd)) s).exceptSafe = s.exceptSafe :=
      forN_keeps State.exceptSafe _ _ _ fun r t => State.aside_of_quiet (State.emit_quiet _ _)
    have hp : (forN 16 (fun r t => t.emit (.endIdle r t.ownEnd)) s).pair = s.pair := forN_keeps State.pair _ _ _ fun r t => rfl
    generalize forN 16 (fun r t => t.emit (.endIdle r t.ownEnd)) s = u at h hp ⊢
    rw [← hp]
    have hv : safeView (u.withPair { u.pair with endsIdle := true }).rest = safeView u.rest := by
      rw [State.withPair_rest]
      exact safeView_endsIdle u.rest true
    exact Eq.trans (State.aside_record hv rfl) h

theorem State.pairUnsafe_exceptSafe (s : State) : s.pairUnsafe.exceptSafe = s.exceptSafe := by
  unfold State.pairUnsafe
  extract_lets s1
  have h1 : s1.exceptSafe = s.exceptSafe := (State.aside_of_quiet (State.raise_quiet _ _ _ _ _)).trans
    ((State.aside_putN _ _ _ _ rfl).trans s.idleEnds_exceptSafe)
  split
  · exact h1
  · exact (State.aside_of_quiet (State.msixCause_quiet _ _)).trans ((State.aside_putN _ _ _ _ rfl).trans h1)

/-! ## A Safe cause -/

/-- The cause is noted and the tokens stop. -/
def State.safeNoted (s : State) (code : Nat) : State := (s.safeBit code true).withDev { s.dev with tokenOn := false }

/-- Safe takes the epoch (R300, R319). -/
def State.safeSeized (s : State) : State := s.withDev { s.dev with modeTaken := true, sleepReq := false, haltDue := false }

theorem State.safeNoted_quiet (s : State) (code : Nat) :
    (((s.safeMark code true).raise 0x0C43 kDevice 0 code).stopTokens).quiet = (s.safeNoted code).quiet := by
  have hq : ((s.safeMark code true).raise 0x0C43 kDevice 0 code).quiet = (s.safeBit code true).quiet :=
    (State.raise_quiet _ _ _ _ _).trans (s.safeMark_quiet code true)
  rw [State.stopTokens_quiet, State.dev_of_quiet hq]
  exact State.withDev_quiet hq _

theorem State.safeBit_n (s : State) (code : Nat) (on : Bool) {f : Field} (i j : Nat) (hf : f ≠ .devSafeCause) :
    (s.safeBit code on).n f i j = s.n f i j := State.n_putN_field _ hf

theorem State.safeNoted_n (s : State) (code : Nat) {f : Field} (i j : Nat) (hf : f ≠ .devSafeCause) :
    (s.safeNoted code).n f i j = s.n f i j := s.safeBit_n code true i j hf

theorem State.safeMark_n (s : State) (code : Nat) (on : Bool) (f : Field) (i j : Nat) (hf : f ≠ .devSafeCause)
    (hr : fieldReports f = false) : (s.safeMark code on).n f i j = s.n f i j := (s.safeMark_points code on).n f i j (by simp [hf]) hr

/-- The four things that a Safe cause does: at a counterfoil, in Dormant, in Safe, and elsewhere. -/
theorem State.enterSafe_cases (s : State) (code : Nat) (h7 : s.mode ≠ 7) : let t := s.enterSafe code
    let s1 := s.safeMark code true
    (s.n .pairRole = 2 ∧ 3 ≤ code ∧ t = s1.pairUnsafe) ∨
    (s.mode = 0 ∧ t = s1.withDev { s1.dev with dormantCauses := Arith.setBit s1.dev.dormantCauses (code - 1) true }) ∨
    (¬(s.n .pairRole = 2 ∧ 3 ≤ code) ∧ s.mode = 6 ∧ t.quiet = (s.safeNoted code).quiet) ∨
    (¬(s.n .pairRole = 2 ∧ 3 ≤ code) ∧ s.mode ≠ 0 ∧ s.mode ≠ 6 ∧
      ∃ u : State, u.quiet = (s.safeNoted code).quiet ∧ t = u.safeSeized.setMode 6) := by
  have hrole : (s.safeMark code true).n .pairRole = s.n .pairRole := s.safeMark_n code true _ _ _ (by decide) rfl
  have hmode : (s.safeMark code true).mode = s.mode := s.safeMark_n code true _ _ _ (by decide) rfl
  have hq := s.safeNoted_quiet code
  unfold State.enterSafe
  dsimp only
  generalize s.safeMark code true = s1 at hrole hmode hq ⊢
  generalize (s1.raise 0x0C43 kDevice 0 code).stopTokens = s2 at hq ⊢
  have hmode2 : s2.mode = s.mode := (State.n_of_quiet hq .devMode 0 0 rfl).trans (s.safeNoted_n code 0 0 (by decide))
  rw [hrole, hmode, hmode2]
  by_cases hr : s.n .pairRole = 2 ∧ 3 ≤ code
  · rw [if_pos hr]; exact .inl ⟨hr.1, hr.2, rfl⟩
  · rw [if_neg hr]
    by_cases h0 : s.mode = 0
    · rw [if_pos h0]; exact .inr (.inl ⟨h0, rfl⟩)
    · rw [if_neg h0]
      by_cases h6 : s.mode = 6
      · rw [if_pos h6]; exact .inr (.inr (.inl ⟨hr, h6, hq⟩))
      · rw [if_neg h6]
        refine .inr (.inr (.inr ⟨hr, h0, h6, _, ?_, rfl⟩))
        have hq3 : (if s2.n .jrnTrigSafe = 1 then (s2.captureTrigger s2.epoch (s2.n .jrnPreMs) (s2.n .jrnPostMs)).1 else s2).quiet =
            s2.quiet := by
          split
          · exact State.captureTrigger_quiet _ _ _ _
          · rfl
        rw [if_neg (by rw [State.mode, State.n_of_quiet hq3 _ _ _ rfl]; exact hmode2.trans_ne h7)]
        exact hq3.trans hq

theorem State.safeNoted_exceptSafe (s : State) (code : Nat) : (s.safeNoted code).exceptSafe = s.exceptSafe :=
  ((s.safeBit code true).withDev_exceptSafe _ rfl).trans (State.aside_putN _ _ _ _ rfl)

theorem State.enterSafe_exceptSafe (s : State) (code : Nat) (h7 : s.mode ≠ 7) : (s.enterSafe code).exceptSafe = s.exceptSafe := by
  have h1 := s.safeMark_exceptSafe code true
  rcases s.enterSafe_cases code h7 with ⟨-, -, h⟩ | ⟨-, h⟩ | ⟨-, -, h⟩ | ⟨-, -, -, u, hu, h⟩
  · rw [h]; exact (State.pairUnsafe_exceptSafe _).trans h1
  · rw [h]; exact (State.withDev_exceptSafe _ _ rfl).trans h1
  · exact (State.aside_of_quiet h).trans (s.safeNoted_exceptSafe code)
  · rw [h]
    exact (u.safeSeized.setMode_exceptSafe 6 (by decide)).trans
      ((u.withDev_exceptSafe _ rfl).trans ((State.aside_of_quiet hu).trans (s.safeNoted_exceptSafe code)))

end Sys2Proof.Machine
end

section
/-!
SUPPORT. Proofs/SafeCauses.lean: the Safe causes of Table 10.4 by their commands (section 10.5).
-/
namespace Sys2Proof.Machine

/-! ## What a Safe cause leaves in every mode but Replay -/

theorem State.idleEnds_leaves (s : State) : s.idleEnds.pts = s.pts ∧ s.idleEnds.dev = s.dev := by
  unfold State.idleEnds
  split
  · exact ⟨rfl, rfl⟩
  · have h : ((forN 16 (fun r t => t.emit (.endIdle r t.ownEnd)) s).pts, (forN 16 (fun r t => t.emit (.endIdle r t.ownEnd)) s).dev) =
        (s.pts, s.dev) := forN_keeps (fun x : State => (x.pts, x.dev)) _ _ _ fun _ _ => rfl
    generalize forN 16 (fun r t => t.emit (.endIdle r t.ownEnd)) s = u at h ⊢
    exact ⟨congrArg Prod.fst h, congrArg Prod.snd h⟩

theorem State.pairUnsafe_n (s : State) {f : Field} (i j : Nat) (hr : fieldReports f = false)
    (h : f ≠ .pairEligible ∧ f ≠ .pairProtection) : s.pairUnsafe.n f i j = s.n f i j := by
  have hidle : s.idleEnds.n f i j = s.n f i j := by rw [State.n, State.w, s.idleEnds_leaves.1]; rfl
  unfold State.pairUnsafe
  extract_lets s1
  have h1 : s1.n f i j = s.n f i j := (State.n_of_quiet (State.raise_quiet _ _ _ _ _) _ _ _ hr).trans
    ((State.n_putN_field _ h.1).trans hidle)
  split
  · exact h1
  · exact (State.n_of_quiet (State.msixCause_quiet _ _) _ _ _ hr).trans ((State.n_putN_field _ h.2).trans h1)

theorem State.pairUnsafe_dev (s : State) : s.pairUnsafe.dev = s.dev := by
  unfold State.pairUnsafe
  extract_lets s1
  have h1 : s1.dev = s.dev := (State.dev_of_quiet (State.raise_quiet _ _ _ _ _)).trans ((State.putN_dev _ _ _ _ _).trans s.idleEnds_leaves.2)
  split
  · exact h1
  · exact (State.dev_of_quiet (State.msixCause_quiet _ _)).trans ((State.putN_dev _ _ _ _ _).trans h1)

theorem State.safeMark_dev (s : State) (code : Nat) (on : Bool) : (s.safeMark code on).dev = s.dev :=
  (congrArg State.dev (s.safeMark_rest code on) :)

theorem State.safeMark_cause (s : State) (code : Nat) (on : Bool) :
    (s.safeMark code on).n .devSafeCause = (s.safeBit code on).n .devSafeCause :=
  State.n_of_quiet (s.safeMark_quiet code on) _ _ _ rfl

theorem State.setMode_n (s : State) (m : Nat) (hm : m < 2 ^ 32) {f : Field} (i j : Nat) (hf : f ∉ modeWrites)
    (hr : fieldReports f = false) : (s.setMode m).n f i j = s.n f i j := by
  by_cases h : s.mode = m
  · rw [State.setMode_same h]
  · exact State.aside_n (s.setMode_enters m h hm).2.2 f i j hr (by simpa [inFields] using hf)

theorem State.setMode_token (s : State) (m : Nat) (h : s.mode ≠ m) (hm : m < 2 ^ 32) :
    (s.setMode m).dev = { s.dev with tokenOn := modeRuns m } :=
  (State.records_of_exceptMode (s.setMode_enters m h hm).2.2).1.trans rfl

/-- The cause of a Safe cause. -/
theorem State.enterSafe_cause (s : State) (code : Nat) (h7 : s.mode ≠ 7) :
    (s.enterSafe code).n .devSafeCause = (s.safeBit code true).n .devSafeCause := by
  rcases s.enterSafe_cases code h7 with ⟨-, -, h⟩ | ⟨-, h⟩ | ⟨-, -, h⟩ | ⟨-, -, -, u, hu, h⟩
  · rw [h]; exact (State.pairUnsafe_n _ _ _ rfl (by decide)).trans (s.safeMark_cause code true)
  · rw [h]; exact s.safeMark_cause code true
  · exact State.n_of_quiet h _ _ _ rfl
  · rw [h]; exact (State.setMode_n _ 6 (by decide) _ _ (by decide) rfl).trans (State.n_of_quiet hu _ _ _ rfl)

/-- Tokens that have stopped stay so, and Replay is not entered. -/
theorem State.enterSafe_leaves (s : State) (code : Nat) (h7 : s.mode ≠ 7) :
    (s.dev.tokenOn = false → (s.enterSafe code).dev.tokenOn = false) ∧ (s.enterSafe code).mode ≠ 7 := by
  have hmode : (s.safeMark code true).mode = s.mode := s.safeMark_n code true _ _ _ (by decide) rfl
  have hdev := s.safeMark_dev code true
  rcases s.enterSafe_cases code h7 with ⟨-, -, h⟩ | ⟨-, h⟩ | ⟨-, h6, h⟩ | ⟨-, -, h6, u, hu, h⟩
  · rw [h, State.pairUnsafe_dev, hdev, State.mode, State.pairUnsafe_n _ _ _ rfl (by decide)]
    exact ⟨id, hmode.trans_ne h7⟩
  · rw [h]
    exact ⟨fun ht => (congrArg Dev.tokenOn hdev).trans ht, hmode.trans_ne h7⟩
  · refine ⟨fun _ => (congrArg Dev.tokenOn (State.dev_of_quiet h)).trans rfl, ?_⟩
    rw [State.mode, State.n_of_quiet h _ _ _ rfl, s.safeNoted_n code _ _ (by decide)]
    exact h7
  · have hne : u.safeSeized.mode ≠ 6 := by
      rw [State.mode, show u.safeSeized.n .devMode = u.n .devMode from rfl, State.n_of_quiet hu _ _ _ rfl,
        s.safeNoted_n code _ _ (by decide)]
      exact h6
    rw [h]
    refine ⟨fun _ => (congrArg Dev.tokenOn (State.setMode_token _ 6 hne (by decide))).trans rfl, ?_⟩
    rw [(State.setMode_enters _ 6 hne (by decide)).1]
    decide

/-! ## Safe is entered, or goes on -/

/-- In Safe a cause stops the tokens, and nothing else of the drives or the device changes. -/
theorem State.enterSafe_inSafe (s : State) (code : Nat) (h6 : s.mode = 6) (hr : ¬(s.n .pairRole = 2 ∧ 3 ≤ code)) : let t := s.enterSafe code
    t.mode = 6 ∧ t.dev = { s.dev with tokenOn := false } ∧ ∀ d, t.regime d = s.regime d := by
  rcases s.enterSafe_cases code (by rw [h6]; decide) with ⟨h2, h3, -⟩ | ⟨h0, -⟩ | ⟨-, -, h⟩ | ⟨-, -, hn, -⟩
  · exact absurd ⟨h2, h3⟩ hr
  · rw [h6] at h0; cases h0
  · exact ⟨(State.n_of_quiet h _ _ _ rfl).trans ((s.safeNoted_n code _ _ (by decide)).trans h6), (State.dev_of_quiet h).trans rfl,
      fun d => (State.n_of_quiet h _ _ _ rfl).trans (s.safeNoted_n code _ _ (by decide))⟩
  · exact absurd h6 hn

/-- From Configure, Ready, Run, Override or Halt a cause enters Safe. -/
theorem State.enterSafe_enters (s : State) (code : Nat) (h1 : 1 ≤ s.mode) (h5 : s.mode ≤ 5) (hr : ¬(s.n .pairRole = 2 ∧ 3 ≤ code)) :
    let t := s.enterSafe code
    t.mode = 6 ∧ t.dev = { s.dev with tokenOn := false, modeTaken := true, sleepReq := false, haltDue := false } ∧
      (modeRuns s.mode = true → ∀ d ∈ s.drives, t.regime d = 7) := by
  rcases s.enterSafe_cases code (by omega) with ⟨h2, h3, -⟩ | ⟨h0, -⟩ | ⟨-, h6, -⟩ | ⟨-, -, hn, u, hu, h⟩
  · exact absurd ⟨h2, h3⟩ hr
  · omega
  · omega
  · have hmode : u.safeSeized.mode = s.mode := (State.n_of_quiet hu .devMode 0 0 rfl).trans (s.safeNoted_n code _ _ (by decide))
    have hdev : u.dev = { s.dev with tokenOn := false } := (State.dev_of_quiet hu).trans rfl
    have hne : u.safeSeized.mode ≠ 6 := by rw [hmode]; exact hn
    rw [h]
    refine ⟨(State.setMode_enters _ 6 hne (by decide)).1, ?_, fun hrun d hd => ?_⟩
    · rw [State.setMode_token _ 6 hne (by decide),
        show u.safeSeized.dev = { u.dev with modeTaken := true, sleepReq := false, haltDue := false } from rfl, hdev]
      rfl
    · refine State.setMode_blocks _ 6 d (by rw [hmode]; exact hrun) rfl ?_
      have hplant : u.plant = s.plant := (State.plant_of_quiet hu).trans rfl
      rw [State.drives, show u.safeSeized.plant = u.plant from rfl, hplant]
      exact hd

theorem State.enterSafe_safeBy (s : State) (code : Nat) (h1 : 1 ≤ s.mode) (h5 : s.mode ≤ 5) (hr : ¬(s.n .pairRole = 2 ∧ 3 ≤ code))
    (hc : code - 1 < 32) : SafeBy s (s.enterSafe code) code := by
  obtain ⟨hmode, hdev, hdrives⟩ := s.enterSafe_enters code h1 h5 hr
  refine ⟨hmode, congrArg Dev.tokenOn hdev, ?_, congrArg Dev.modeTaken hdev, hdrives⟩
  rw [s.enterSafe_cause code (by omega)]
  exact s.bit_putN_setBit _ _ _ _ _ hc

theorem State.safeCause_up {s : State} (code : Nat) (h : s.up = true) : s.safeCause code = s.enterSafe code := if_pos h

/-- A cause that comes with a quiet change, or with the tokens already stopped. -/
theorem SafeBy.of {s u t : State} {code : Nat} (h : SafeBy u t code) (hm : u.mode = s.mode) (hd : u.drives = s.drives) :
    SafeBy s t code := by
  obtain ⟨h1, h2, h3, h4, h5⟩ := h
  exact ⟨h1, h2, h3, h4, by rw [← hm, ← hd]; exact h5⟩

end Sys2Proof.Machine
end

section
/-!
SUPPORT. Proofs/StoInputs.lean: the STO inputs (section 10.5).
-/
namespace Sys2Proof.Machine

/-- Safe has been entered from a state, with its drives Blocked where tokens flowed. -/
def Seized (s t : State) : Prop :=
  t.mode = 6 ∧ t.dev.tokenOn = false ∧ t.dev.modeTaken = true ∧ (modeRuns s.mode = true → ∀ d ∈ s.drives, t.regime d = 7)

theorem Seized.of_quiet {s t u : State} (h : Seized s t) (hq : u.quiet = t.quiet) : Seized s u := by
  obtain ⟨h1, h2, h3, h4⟩ := h
  exact ⟨(State.n_of_quiet hq _ _ _ rfl).trans h1, by rw [State.dev_of_quiet hq, h2], by rw [State.dev_of_quiet hq, h3],
    fun hr d hd => (State.n_of_quiet hq _ _ _ rfl).trans (h4 hr d hd)⟩

theorem Seized.safeBy {s t : State} (h : Seized s t) {code : Nat} (hb : Arith.bit (t.n .devSafeCause) (code - 1) = true) :
    SafeBy s t code := ⟨h.1, h.2.1, hb, h.2.2⟩

/-- What a level of an STO input does to its Safe cause. -/
def State.stoLevel (s : State) (code : Nat) (high fell : Bool) : State :=
  if high then s.safeMark code false else if fell then s.safeCause code else s

section
variable {s : State} {code : Nat} {high fell : Bool}

/-- A level, by its three cases. -/
theorem State.stoLevel_cases (s : State) (code : Nat) (high fell : Bool) (hup : s.up = true) : let t := s.stoLevel code high fell
    (high = true ∧ t = s.safeMark code false) ∨ (high = false ∧ fell = true ∧ t = s.enterSafe code) ∨
      (high = false ∧ fell = false ∧ t = s) := by
  cases high with
  | true => exact .inl ⟨rfl, rfl⟩
  | false =>
    cases fell with
    | true => exact .inr (.inl ⟨rfl, rfl, State.safeCause_up code hup⟩)
    | false => exact .inr (.inr ⟨rfl, rfl, rfl⟩)

theorem State.stoLevel_exceptSafe (h7 : s.mode ≠ 7) (hup : s.up = true) : (s.stoLevel code high fell).exceptSafe = s.exceptSafe := by
  rcases s.stoLevel_cases code high fell hup with ⟨-, h⟩ | ⟨-, -, h⟩ | ⟨-, -, h⟩ <;> rw [h]
  · exact s.safeMark_exceptSafe code false
  · exact s.enterSafe_exceptSafe code h7

theorem State.stoLevel_leaves (h7 : s.mode ≠ 7) (hup : s.up = true) :
    (s.dev.tokenOn = false → (s.stoLevel code high fell).dev.tokenOn = false) ∧ (s.stoLevel code high fell).mode ≠ 7 := by
  rcases s.stoLevel_cases code high fell hup with ⟨-, h⟩ | ⟨-, -, h⟩ | ⟨-, -, h⟩ <;> rw [h]
  · rw [s.safeMark_dev, State.mode, s.safeMark_n code false _ _ _ (by decide) rfl]
    exact ⟨id, h7⟩
  · exact s.enterSafe_leaves code h7
  · exact ⟨id, h7⟩

theorem State.stoLevel_mode (h : fell = false) : (s.stoLevel code high fell).mode = s.mode := by
  subst h
  cases high with
  | true => exact s.safeMark_n code false _ _ _ (by decide) rfl
  | false => rfl

theorem State.safeBit_other (s : State) (code k : Nat) (on : Bool) (h : k ≠ code - 1) (hc : code - 1 < 32) :
    Arith.bit ((s.safeBit code on).n .devSafeCause) k = Arith.bit (s.n .devSafeCause) k := by
  rw [State.safeBit, State.n_putN_same _ _ _ _ _ (setBit_lt on (s.n_lt _ _ _) hc), bit_setBit, if_neg h]

/-- The bit of the input's cause, and every other bit. -/
theorem State.stoLevel_bits (h7 : s.mode ≠ 7) (hup : s.up = true) (hc : code - 1 < 32) :
    (high = true → Arith.bit ((s.stoLevel code high fell).n .devSafeCause) (code - 1) = false) ∧
    (high = false → fell = true → Arith.bit ((s.stoLevel code high fell).n .devSafeCause) (code - 1) = true) ∧
    ∀ k, k ≠ code - 1 → Arith.bit ((s.stoLevel code high fell).n .devSafeCause) k = Arith.bit (s.n .devSafeCause) k := by
  rcases s.stoLevel_cases code high fell hup with ⟨h1, h⟩ | ⟨h1, h2, h⟩ | ⟨h1, h2, h⟩ <;> rw [h]
  · rw [s.safeMark_cause]
    exact ⟨fun _ => s.bit_putN_setBit _ _ _ _ _ hc, fun hf => absurd (h1.symm.trans hf) (by decide),
      fun k hne => s.safeBit_other code k false hne hc⟩
  · rw [s.enterSafe_cause code h7]
    exact ⟨fun hf => absurd (h1.symm.trans hf) (by decide), fun _ _ => s.bit_putN_setBit _ _ _ _ _ hc,
      fun k hne => s.safeBit_other code k true hne hc⟩
  · exact ⟨fun hf => absurd (h1.symm.trans hf) (by decide), fun _ hf => absurd (h2.symm.trans hf) (by decide), fun _ _ => rfl⟩

/-- Once Safe has been entered a level leaves it so. -/
theorem Seized.stoLevel {s t : State} (h : Seized s t) (hup : t.up = true) (hc : code < 3) :
    Seized s (t.stoLevel code high fell) := by
  obtain ⟨h1, h2, h3, h4⟩ := h
  rcases t.stoLevel_cases code high fell hup with ⟨-, h⟩ | ⟨-, -, h⟩ | ⟨-, -, h⟩ <;> rw [h]
  · refine ⟨(t.safeMark_n code false _ _ _ (by decide) rfl).trans h1, ?_, ?_, fun hr d hd =>
      (t.safeMark_n code false _ _ _ (by decide) rfl).trans (h4 hr d hd)⟩
    · rw [t.safeMark_dev]; exact h2
    · rw [t.safeMark_dev]; exact h3
  · obtain ⟨k1, k2, k3⟩ := t.enterSafe_inSafe code h1 (by omega)
    exact ⟨k1, by rw [k2], by rw [k2]; exact h3, fun hr d hd => (k3 d).trans (h4 hr d hd)⟩
  · exact ⟨h1, h2, h3, h4⟩

/-- A fall enters Safe. -/
theorem State.stoLevel_seizes (s : State) {t : State} (hm : t.mode = s.mode) (hd : t.drives = s.drives) (h1 : 1 ≤ s.mode) (h5 : s.mode ≤ 5)
    (hup : t.up = true) (hc : code < 3) : Seized s (t.stoLevel code false true) := by
  obtain ⟨k1, k2, k3⟩ := t.enterSafe_enters code (by omega) (by omega) (by omega)
  rw [show t.stoLevel code false true = t.enterSafe code from State.safeCause_up code hup]
  exact ⟨k1, by rw [k2], by rw [k2], by rw [← hm, ← hd]; exact k3⟩

end

/-! ## STO_CHANGE -/

/-- The inputs take their levels. -/
def State.stoSensed (s : State) (a b : Bool) : State :=
  s.withDev { s.dev with stoA := a, stoB := b, stoDiffAt := if a == b then none else some (s.dev.stoDiffAt.getD s.now) }

/-- The inputs take their levels, and a fall stops the tokens. -/
def State.stoTaken (s : State) (a b : Bool) : State :=
  if (s.dev.stoA && !a) || (s.dev.stoB && !b) then (s.stoSensed a b).stopTokens else s.stoSensed a b

theorem State.stoChange_eq (s : State) (a b : Bool) : s.stoChange a b =
    let t := ((s.stoTaken a b).stoLevel 1 a (s.dev.stoA && !a)).stoLevel 2 b (s.dev.stoB && !b)
    if (s.dev.stoA != a || s.dev.stoB != b) && s.up then t.irqLevel 1 true else t := rfl

theorem State.stoTaken_leaves (s : State) (a b : Bool) : let t := s.stoTaken a b
    t.dev.stoA = a ∧ t.dev.stoB = b ∧ t.up = s.up ∧ t.drives = s.drives ∧ (∀ f i j, fieldReports f = false → t.n f i j = s.n f i j) ∧
    (s.dev.stoA = true ∧ a = false ∨ s.dev.stoB = true ∧ b = false → t.dev.tokenOn = false) := by
  unfold State.stoTaken
  dsimp only
  split
  · have hq := (s.stoSensed a b).stopTokens_quiet
    have hd : (s.stoSensed a b).stopTokens.dev = { (s.stoSensed a b).dev with tokenOn := false } := (State.dev_of_quiet hq).trans rfl
    refine ⟨by rw [hd]; rfl, by rw [hd]; rfl, by rw [State.up, hd]; rfl, ?_, fun f i j hf => State.n_of_quiet hq f i j hf, fun _ => by rw [hd]⟩
    rw [State.drives, State.plant_of_quiet hq]
    rfl
  · next hn => exact ⟨rfl, rfl, rfl, rfl, fun _ _ _ _ => rfl, fun h => absurd (by rcases h with ⟨h, k⟩ | ⟨h, k⟩ <;> simp [h, k]) hn⟩

theorem safeView_reads (s : State) : (safeView s).dev = s.dev.steady ∧ (safeView s).plant = s.plant ∧ (safeView s).hw = s.hw :=
  ⟨rfl, rfl, rfl⟩

theorem State.rest_reads (s : State) : s.rest.dev = s.dev ∧ s.rest.plant = s.plant ∧ s.rest.hw = s.hw := ⟨rfl, rfl, rfl⟩

/-- Reads that a Safe cause leaves. -/
theorem State.steady_of_exceptSafe {s t : State} (h : t.exceptSafe = s.exceptSafe) : t.dev.steady = s.dev.steady ∧ t.plant = s.plant ∧
    t.hw = s.hw := by
  have hr : safeView t.rest = safeView s.rest := State.aside_rest h
  obtain ⟨h1, h2, h3⟩ := safeView_reads t.rest
  obtain ⟨k1, k2, k3⟩ := safeView_reads s.rest
  rw [hr] at h1 h2 h3
  rw [(State.rest_reads _).1] at h1 k1
  rw [(State.rest_reads _).2.1] at h2 k2
  rw [(State.rest_reads _).2.2] at h3 k3
  exact ⟨h1.symm.trans k1, h2.symm.trans k2, h3.symm.trans k3⟩

theorem State.sto_of_exceptSafe {s t : State} (h : t.exceptSafe = s.exceptSafe) :
    t.dev.stoA = s.dev.stoA ∧ t.dev.stoB = s.dev.stoB ∧ t.up = s.up ∧ t.drives = s.drives := by
  obtain ⟨hd, hp, -⟩ := State.steady_of_exceptSafe h
  have hpow : t.dev.powered = s.dev.powered := (congrArg Dev.powered hd :)
  have hboot : t.dev.boot = s.dev.boot := (congrArg Dev.boot hd :)
  exact ⟨(congrArg Dev.stoA hd :), (congrArg Dev.stoB hd :), by rw [State.up, State.up, hpow, hboot],
    by rw [State.drives, State.drives, hp]⟩

/-- STO_CHANGE while the firmware runs, outside Replay. -/
theorem State.stoChange_leaves (s : State) (a b : Bool) (hup : s.up = true) (h7 : s.mode ≠ 7) : let t := s.stoChange a b
    t.dev.stoA = a ∧ t.dev.stoB = b ∧
    (a = true → Arith.bit (t.n .devSafeCause) 0 = false) ∧ (b = true → Arith.bit (t.n .devSafeCause) 1 = false) ∧
    (s.dev.stoA = true → a = false → Arith.bit (t.n .devSafeCause) 0 = true ∧ t.dev.tokenOn = false) ∧
    (s.dev.stoB = true → b = false → Arith.bit (t.n .devSafeCause) 1 = true) ∧
    (s.dev.stoA ≠ a ∨ s.dev.stoB ≠ b → (t.src 1).cond = true) ∧
    (s.dev.stoA = false → s.dev.stoB = false → t.mode = s.mode) ∧
    (1 ≤ s.mode → s.mode ≤ 5 → s.dev.stoA = true ∧ a = false ∨ s.dev.stoB = true ∧ b = false → Seized s t) := by
  obtain ⟨hA, hB, hU, hD, hn, htok⟩ := s.stoTaken_leaves a b
  rw [s.stoChange_eq a b]
  generalize s.stoTaken a b = t0 at hA hB hU hD hn htok ⊢
  have hm0 : t0.mode = s.mode := hn _ _ _ rfl
  have hup0 : t0.up = true := hU.trans hup
  have h70 : t0.mode ≠ 7 := by rw [hm0]; exact h7
  have hex1 := State.stoLevel_exceptSafe (code := 1) (high := a) (fell := s.dev.stoA && !a) h70 hup0
  have hlv1 := State.stoLevel_leaves (code := 1) (high := a) (fell := s.dev.stoA && !a) h70 hup0
  obtain ⟨hb1, hc1, hk1⟩ := State.stoLevel_bits (code := 1) (high := a) (fell := s.dev.stoA && !a) h70 hup0 (by decide)
  have hmode1 := State.stoLevel_mode (s := t0) (code := 1) (high := a) (fell := s.dev.stoA && !a)
  have hseize1 : 1 ≤ s.mode → s.mode ≤ 5 → s.dev.stoA = true ∧ a = false → Seized s (t0.stoLevel 1 a (s.dev.stoA && !a)) := by
    rintro h1 h5 ⟨hs, rfl⟩
    rw [hs]
    exact s.stoLevel_seizes hm0 hD h1 h5 hup0 (by decide)
  generalize t0.stoLevel 1 a (s.dev.stoA && !a) = t1 at hex1 hlv1 hb1 hc1 hk1 hmode1 hseize1 ⊢
  obtain ⟨hA1, hB1, hU1, hD1⟩ := State.sto_of_exceptSafe hex1
  have hup1 : t1.up = true := hU1.trans hup0
  have hex2 := State.stoLevel_exceptSafe (code := 2) (high := b) (fell := s.dev.stoB && !b) hlv1.2 hup1
  have hlv2 := State.stoLevel_leaves (code := 2) (high := b) (fell := s.dev.stoB && !b) hlv1.2 hup1
  obtain ⟨hb2, hc2, hk2⟩ := State.stoLevel_bits (code := 2) (high := b) (fell := s.dev.stoB && !b) hlv1.2 hup1 (by decide)
  have hmode2 := State.stoLevel_mode (s := t1) (code := 2) (high := b) (fell := s.dev.stoB && !b)
  have hseize2 : 1 ≤ s.mode → s.mode ≤ 5 → s.dev.stoA = true ∧ a = false ∨ s.dev.stoB = true ∧ b = false →
      Seized s (t1.stoLevel 2 b (s.dev.stoB && !b)) := by
    intro h1 h5 hf
    by_cases hfa : s.dev.stoA = true ∧ a = false
    · exact (hseize1 h1 h5 hfa).stoLevel hup1 (by decide)
    · obtain ⟨hs, rfl⟩ := hf.resolve_left hfa
      rw [hs]
      have hno : (s.dev.stoA && !a) = false := Bool.eq_false_iff.2 fun h => hfa (by simpa using h)
      exact s.stoLevel_seizes ((hmode1 hno).trans hm0) (hD1.trans hD) h1 h5 hup1 (by decide)
  generalize t1.stoLevel 2 b (s.dev.stoB && !b) = t2 at hex2 hlv2 hb2 hc2 hk2 hmode2 hseize2 ⊢
  obtain ⟨hA2, hB2, -, -⟩ := State.sto_of_exceptSafe hex2
  have hq : (if (s.dev.stoA != a || s.dev.stoB != b) && s.up then t2.irqLevel 1 true else t2).quiet = t2.quiet := by
    split
    · exact State.irqLevel_quiet _ _ _
    · rfl
  have hcond : s.dev.stoA ≠ a ∨ s.dev.stoB ≠ b →
      ((if (s.dev.stoA != a || s.dev.stoB != b) && s.up then t2.irqLevel 1 true else t2).src 1).cond = true := by
    intro h
    rw [if_pos (by rw [hup]; simpa using h)]
    exact (t2.irqLevel_effect 1 true rfl).1
  dsimp only
  generalize (if (s.dev.stoA != a || s.dev.stoB != b) && s.up then t2.irqLevel 1 true else t2) = t at hq hcond ⊢
  rw [State.dev_of_quiet hq, State.n_of_quiet hq _ _ _ rfl, State.mode, State.n_of_quiet hq _ _ _ rfl]
  have hbit0 : Arith.bit (t2.n .devSafeCause) 0 = Arith.bit (t1.n .devSafeCause) 0 := hk2 0 (by decide)
  refine ⟨hA2.trans (hA1.trans hA), hB2.trans (hB1.trans hB), fun ha => hbit0.trans (hb1 ha), hb2, fun hs ha => ⟨?_, ?_⟩,
    fun hs hb => hc2 hb (by simp [hs, hb]), hcond, fun ha hb => ?_, fun h1 h5 hf => (hseize2 h1 h5 hf).of_quiet hq⟩
  · exact hbit0.trans (hc1 ha (by simp [hs, ha]))
  · exact hlv2.1 (hlv1.1 (htok (.inl ⟨hs, ha⟩)))
  · exact (hmode2 (by simp [hb])).trans ((hmode1 (by simp [ha])).trans hm0)

end Sys2Proof.Machine
end

section
/-!
SUPPORT. Proofs/OtherCauses.lean: the Safe causes 3, 4, 7, 8 and 9 (section 10.5).
-/
namespace Sys2Proof.Machine

theorem stoChange_safe (s : State) (hup : s.up = true) (h1 : 1 ≤ s.mode) (h5 : s.mode ≤ 5) (a b : Bool) :
    Yields (exec (.stoChange a b) s) fun t =>
      t.dev.stoA = a ∧ t.dev.stoB = b ∧
      (s.dev.stoA = true → a = false → SafeBy s t 1) ∧ (s.dev.stoB = true → b = false → SafeBy s t 2) ∧
      (a = true → Arith.bit (t.n .devSafeCause) 0 = false) ∧ (b = true → Arith.bit (t.n .devSafeCause) 1 = false) ∧
      (s.dev.stoA ≠ a ∨ s.dev.stoB ≠ b → (t.src 1).cond = true) ∧
      (s.dev.stoA = false → s.dev.stoB = false → t.mode = s.mode) := by
  obtain ⟨hA, hB, ha, hb, hfa, hfb, hc, hm, hs⟩ := s.stoChange_leaves a b hup (by omega)
  have hp : s.dev.powered = true := by simp only [State.up, Bool.and_eq_true] at hup; exact hup.1
  have hx : exec (.stoChange a b) s = .next (s.stoChange a b) := congrArg Host.Outcome.next (if_pos hp)
  rw [hx]
  exact yields_next ⟨hA, hB, fun h k => (hs h1 h5 (.inl ⟨h, k⟩)).safeBy (hfa h k).1,
    fun h k => (hs h1 h5 (.inr ⟨h, k⟩)).safeBy (hfb h k), ha, hb, hc, hm⟩

theorem exec_stoDiscrepancy (s : State) (a : Nat) (hup : s.up = true) (ha : s.dev.stoDiffAt = some a)
    (hl : a + msNs (s.n .devStoDiscrepancyMs) < s.now) (hb : Arith.bit (s.n .devSafeCause) 2 = false) :
    exec .stoDiscrepancy s = .next (s.enterSafe 3) := by
  refine congrArg Host.Outcome.next ?_
  rw [ha]
  exact (if_pos ⟨hup, hl, by rw [hb]; decide⟩).trans (State.safeCause_up 3 hup)

theorem State.stopTokens_up (s : State) : s.stopTokens.up = s.up := by
  rw [State.up, State.up, State.dev_of_quiet s.stopTokens_quiet]; rfl

theorem exec_d1TickLost (s : State) (hup : s.up = true) : exec .d1TickLost s = .next (s.stopTokens.enterSafe 4) :=
  congrArg Host.Outcome.next ((if_pos hup).trans (State.safeCause_up 4 (s.stopTokens_up.trans hup)))

theorem exec_memoryError (s : State) (hup : s.up = true) (h0 : s.mode ≠ 0) :
    exec (.memoryError false) s = .next (s.enterSafe 8) :=
  congrArg Host.Outcome.next ((if_neg (by simp [hup, h0])).trans (State.safeCause_up 8 hup))

theorem exec_holdupExhausted (s : State) (hup : s.up = true) (hv : s.hw.vLow = 3) :
    exec .holdupExhausted s = .next (s.enterSafe 7) :=
  congrArg Host.Outcome.next ((if_pos ⟨hup, hv⟩).trans (State.safeCause_up 7 hup))

/-- The rail is noted and reported. -/
def State.railNoted (s : State) (n : Fin 8) : State :=
  (s.withHw { s.hw with rails := Arith.setBit s.hw.rails n true }).raise 0x0807 kSensor (67 + n) n

theorem State.railNoted_quiet (s : State) (n : Fin 8) :
    (s.railNoted n).quiet = (s.withHw { s.hw with rails := Arith.setBit s.hw.rails n true }).quiet := State.raise_quiet _ _ _ _ _

theorem State.railNoted_reads (s : State) (n : Fin 8) : (s.railNoted n).up = s.up ∧ (s.railNoted n).drives = s.drives ∧
    (s.railNoted n).hw = { s.hw with rails := Arith.setBit s.hw.rails n true } ∧
    ∀ f i j, fieldReports f = false → (s.railNoted n).n f i j = s.n f i j := by
  have hq := s.railNoted_quiet n
  refine ⟨?_, ?_, (State.hw_of_quiet hq).trans rfl, fun f i j hf => State.n_of_quiet hq f i j hf⟩
  · rw [State.up, State.dev_of_quiet hq]; rfl
  · rw [State.drives, State.plant_of_quiet hq]; rfl

theorem exec_railFault (s : State) (n : Fin 8) (hup : s.up = true) (hb : Arith.bit s.hw.rails n = false) :
    exec (.railFault n) s = .next ((s.railNoted n).enterSafe 7).supplyIrq := by
  have hr : (s.railNoted n).safeCause 7 = (s.railNoted n).enterSafe 7 :=
    State.safeCause_up 7 ((s.railNoted_reads n).1.trans hup)
  rw [← hr]
  exact congrArg Host.Outcome.next (if_pos ⟨hup, by rw [hb]; decide⟩)

theorem State.supplyIrq_quiet (s : State) : s.supplyIrq.quiet = s.quiet := State.irqLevel_quiet _ _ _

/-! ## The Supervisor watchdog -/

theorem State.resetSupCores_quiet (s : State) : s.resetSupCores.quiet = s.quiet := by
  unfold State.resetSupCores
  extract_lets s1 ids s2
  have h2 : s2.quiet = s1.quiet := forL_quiet _ _ _ fun _ t => t.putSrc_quiet _ _
  exact (State.irqUpdate_quiet _ _ _).trans ((forL_quiet _ _ _ fun _ t => t.putCore_quiet _ _).trans (h2.trans (State.emit_quiet _ _)))

/-- Supervisor is down after its watchdog, and the first expiry is noted. -/
def State.supDown (s : State) (at_ : Option Nat) : State := s.resetSupCores.withDev { s.dev with supUp := false, supWdtAt := at_ }

theorem State.supDown_quiet (s : State) (x : Option Nat) :
    (s.supDown x).quiet = (s.withDev { s.dev with supUp := false, supWdtAt := x }).quiet :=
  State.withDev_quiet s.resetSupCores_quiet _

theorem State.supDown_reads (s : State) (x : Option Nat) : (s.supDown x).up = s.up ∧ (s.supDown x).drives = s.drives ∧
    (s.supDown x).dev = { s.dev with supUp := false, supWdtAt := x } ∧ ∀ f i j, fieldReports f = false → (s.supDown x).n f i j = s.n f i j := by
  have hq := s.supDown_quiet x
  refine ⟨rfl, ?_, rfl, fun f i j hf => State.n_of_quiet hq f i j hf⟩
  rw [State.drives, State.plant_of_quiet hq]; rfl

/-- Whether the watchdog has run out twice within 10 s (R321). -/
def State.supAgain (s : State) : Bool :=
  match s.dev.supWdtAt with
  | some t => decide (s.now ≤ t + 10000000000)
  | none => false

/-- The first expiry: a principal reports it, and Run and Override ask for Halt. -/
def State.supFirst (s : State) : State :=
  if s.isPrincipal then s.surrender (s.epoch + 2) true
  else if s.mode = 3 ∨ s.mode = 4 then s.withDev { s.dev with haltDue := true }
  else s

theorem State.supExpire_eq (s : State) : s.supExpire =
    if s.supAgain then (s.supDown s.dev.supWdtAt).safeCause 9 else (s.supDown (some s.now)).supFirst := by
  have hdev : s.resetSupCores.dev = s.dev := State.dev_of_quiet s.resetSupCores_quiet
  have hnow : s.resetSupCores.now = s.now := congrArg Clock.now (State.clk_of_quiet s.resetSupCores_quiet)
  unfold State.supExpire State.supAgain State.supDown
  dsimp only
  rw [hdev, hnow]
  generalize s.resetSupCores = r
  cases h : s.dev.supWdtAt with
  | none => simp only [Bool.false_eq_true, if_false, State.supFirst]
  | some a =>
    by_cases hb : s.now ≤ a + 10000000000 <;>
      simp only [hb, decide_true, decide_false, if_true, Bool.false_eq_true, if_false, State.supFirst]

theorem exec_supWdt (s : State) (hup : s.up = true) (hs : s.dev.supUp = true) : exec .supWdt s = .next s.supExpire :=
  congrArg Host.Outcome.next (if_pos (by rw [hup, hs]; rfl))

theorem State.supExpire_again (s : State) (hup : s.up = true) (h : s.supAgain = true) :
    s.supExpire = (s.supDown s.dev.supWdtAt).enterSafe 9 := by
  rw [s.supExpire_eq, if_pos h]
  exact State.safeCause_up 9 hup

/-- What a Safe cause leaves of Supervisor. -/
theorem State.enterSafe_supUp (s : State) (code : Nat) (h7 : s.mode ≠ 7) : (s.enterSafe code).dev.supUp = s.dev.supUp :=
  (congrArg Dev.supUp (State.steady_of_exceptSafe (s.enterSafe_exceptSafe code h7)).1 :)

/-- Settles O20, cause by cause. -/
theorem safeCausesEnterSafe : Obligations.SafeCausesEnterSafe := by
  unfold Obligations.SafeCausesEnterSafe
  intro s hup h1 h5
  refine ⟨stoChange_safe s hup h1 h5, fun hrole => ⟨fun a ha hl hb => ?_, ?_, ?_, fun hv => ?_, fun n hn => ?_, fun a hs ha hl => ?_⟩⟩
  · rw [exec_stoDiscrepancy s a hup ha hl hb]
    exact yields_next (s.enterSafe_safeBy 3 h1 h5 (fun h => hrole h.1) (by decide))
  · have hn : ∀ f i j, fieldReports f = false → s.stopTokens.n f i j = s.n f i j := fun f i j hf =>
      State.n_of_quiet s.stopTokens_quiet f i j hf
    have hm : s.stopTokens.mode = s.mode := hn _ _ _ rfl
    have hd : s.stopTokens.drives = s.drives := by
      rw [State.drives, State.plant_of_quiet s.stopTokens_quiet]; rfl
    rw [exec_d1TickLost s hup]
    refine yields_next (SafeBy.of (State.enterSafe_safeBy _ 4 (by omega) (by omega) (fun h => hrole ?_) (by decide)) hm hd)
    exact (hn _ _ _ rfl).symm.trans h.1
  · rw [exec_memoryError s hup (by omega)]
    exact yields_next (s.enterSafe_safeBy 8 h1 h5 (fun h => hrole h.1) (by decide))
  · rw [exec_holdupExhausted s hup hv]
    exact yields_next (s.enterSafe_safeBy 7 h1 h5 (fun h => hrole h.1) (by decide))
  · obtain ⟨-, hd, hw, hf⟩ := s.railNoted_reads n
    have hm : (s.railNoted n).mode = s.mode := hf _ _ _ rfl
    have hs := State.enterSafe_safeBy (s.railNoted n) 7 (by omega) (by omega) (fun h => hrole ((hf _ _ _ rfl).symm.trans h.1)) (by decide)
    have hx := (State.steady_of_exceptSafe ((s.railNoted n).enterSafe_exceptSafe 7 (by omega))).2.2
    have hq := ((s.railNoted n).enterSafe 7).supplyIrq_quiet
    rw [exec_railFault s n hup hn]
    refine yields_next ⟨SafeBy.of ?_ hm hd, (State.hw_of_quiet hq).trans (hx.trans hw)⟩
    exact Seized.safeBy (Seized.of_quiet ⟨hs.1, hs.2.1, hs.2.2.2.1, hs.2.2.2.2⟩ hq)
      ((congrArg (Arith.bit · 6) (State.n_of_quiet hq _ _ _ rfl)).trans hs.2.2.1)
  · obtain ⟨-, hd, hdev, hf⟩ := s.supDown_reads s.dev.supWdtAt
    have hm : (s.supDown s.dev.supWdtAt).mode = s.mode := hf _ _ _ rfl
    have hag : s.supAgain = true := by rw [State.supAgain, ha]; simpa using hl
    rw [exec_supWdt s hup hs, s.supExpire_again hup hag]
    refine yields_next ⟨SafeBy.of (State.enterSafe_safeBy _ 9 (by omega) (by omega) (fun h => hrole ((hf _ _ _ rfl).symm.trans h.1))
      (by decide)) hm hd, (State.enterSafe_supUp _ 9 (by omega)).trans ?_⟩
    rw [hdev]

end Sys2Proof.Machine
end

section
/-!
SUPPORT. Proofs/HaltAndWake.lean: the ends of Halt, sleep, and wake (sections 10.4 and 10.7).
-/
namespace Sys2Proof.Machine

/-! ## The ends of Halt (R309) -/

/-- Halt ends in Ready: no token is sent and every drive is Blocked. -/
theorem State.setMode_ready (s : State) (h5 : s.mode = 5) : let t := s.setMode 2
    t.mode = 2 ∧ t.dev.tokenOn = false ∧ (∀ d ∈ s.drives, t.regime d = 7) ∧ t.n .devModePrev = 5 ∧ t.n .devModeCmd = s.n .devModeCmd := by
  obtain ⟨hm, hp, -⟩ := s.setMode_enters 2 (by omega) (by decide)
  refine ⟨hm, ?_, fun d hd => s.setMode_blocks 2 d (by rw [h5]; rfl) rfl hd, hp.trans h5, s.setMode_n 2 (by decide) _ _ (by decide) rfl⟩
  rw [s.setMode_token 2 (by omega) (by decide)]
  rfl

theorem haltComplete_ends (s : State) (h5 : s.mode = 5) (hr : s.allAtRest = true) : Yields (exec .haltComplete s) fun t =>
    t.mode = 2 ∧ t.dev.tokenOn = false ∧ (∀ d ∈ s.drives, t.regime d = 7) ∧ t.n .devModePrev = 5 ∧
      t.n .devModeCmd = s.n .devModeCmd := by
  have hx : exec .haltComplete s = .next (s.setMode 2) := congrArg Host.Outcome.next (if_pos ⟨h5, hr⟩)
  rw [hx]
  exact yields_next (s.setMode_ready h5)

theorem haltTimeout_ends (s : State) (h5 : s.mode = 5) (hr : s.allAtRest = false)
    (hl : msNs (s.n .devHaltTimeoutMs) ≤ (s.epoch - s.dev.haltEpoch) * s.te) : Yields (exec .haltTimeout s) fun t =>
      t.mode = 2 ∧ t.dev.tokenOn = false ∧ ∀ d ∈ s.drives, t.regime d = 7 := by
  have hx : exec .haltTimeout s = .next ((s.raise 0x0C42 kDevice 0 0).setMode 2) :=
    congrArg Host.Outcome.next (if_pos ⟨h5, hl, by rw [hr]; decide⟩)
  have hq := s.raise_quiet 0x0C42 kDevice 0 0
  rw [hx]
  generalize s.raise 0x0C42 kDevice 0 0 = u at hq ⊢
  obtain ⟨hm, ht, hd, -⟩ := u.setMode_ready ((State.n_of_quiet hq _ _ _ rfl).trans h5)
  refine yields_next ⟨hm, ht, fun d hm => hd d ?_⟩
  rw [State.drives, State.plant_of_quiet hq]
  exact hm

/-! ## Sleep (R319) -/

/-- The sleep request is taken. -/
def State.sleepTaken (s : State) : State := s.withDev { s.dev with sleepReq := false }

theorem sleepEffective_sleeps (s : State) (fired : Nat) (hs : s.dev.sleepReq = true) (h : s.mode = 1 ∨ s.mode = 2) :
    Yields (exec (.sleepEffective fired) s) fun t =>
      t.dev.sleepReq = false ∧
      (s.wakeBits fired ≠ 0 → t.mode = s.mode ∧ t.n .devWakeRace = 1 ∧ Raised s t 0x0C41 kDevice 0 ∧
        QuietPoints s t [⟨.devWakeRace, 0, 0⟩]) ∧
      (s.wakeBits fired = 0 → t.mode = 0 ∧ t.dev.tokenOn = false) := by
  have hm : s.sleepTaken.mode = s.mode := rfl
  have hx : exec (.sleepEffective fired) s = .next (if s.wakeBits fired ≠ 0 then
      (s.sleepTaken.putN .devWakeRace 0 1).raise 0x0C41 kDevice 0 0 else s.sleepTaken.setMode 0) :=
    congrArg Host.Outcome.next ((if_neg (by rw [hs]; decide)).trans (if_neg (show ¬(s.mode ≠ 1 ∧ s.mode ≠ 2) by omega)))
  rw [hx]
  refine yields_next ?_
  by_cases hb : s.wakeBits fired = 0
  · rw [if_neg (by simp [hb])]
    obtain ⟨h1, -, -⟩ := s.sleepTaken.setMode_enters 0 (by omega) (by decide)
    have hd := s.sleepTaken.setMode_token 0 (by omega) (by decide)
    exact ⟨by rw [hd]; rfl, fun hn => absurd hb hn, fun _ => ⟨h1, by rw [hd]; rfl⟩⟩
  · rw [if_pos hb]
    have hq := (s.sleepTaken.putN .devWakeRace 0 1).raise_quiet 0x0C41 kDevice 0 0
    refine ⟨(congrArg Dev.sleepReq (State.dev_of_quiet hq)).trans rfl, fun _ => ⟨?_, ?_, ?_, ?_⟩, fun h0 => absurd h0 hb⟩
    · exact (State.n_of_quiet hq _ _ _ rfl).trans (State.n_putN_field _ (by decide))
    · exact (State.n_of_quiet hq _ _ _ rfl).trans (State.n_putN_same _ _ _ _ _ (by decide))
    · exact State.raise_raised _ _ _ _ _ rfl
    · exact (QuietPoints.putN s.sleepTaken .devWakeRace 0 1 0).then fun f i j hf => State.w_of_quiet hq f i j hf

/-! ## Wake (R318) -/

/-- The step of a round's link-up, and whether the round is late. -/
def State.roundBegun (s : State) (r : Nat) : Nat × Nat := ((s.rnd r).step, s.n .rndLate r)

theorem State.rnd_putRnd_same (s : State) (r : Nat) (x : Rnd) : (s.putRnd r x).rnd r = x := by
  simp [State.rnd, State.putRnd]

theorem State.rnd_putRnd_ne (s : State) {r q : Nat} (x : Rnd) (h : q ≠ r) : (s.putRnd r x).rnd q = s.rnd q := by
  simp [State.rnd, State.putRnd, Tab.get_put_ne _ _ _ h]

theorem State.roundBegun_putN (s : State) {f : Field} (i v j r : Nat) (h : f ≠ .rndLate) :
    (s.putN f i v j).roundBegun r = s.roundBegun r := Prod.ext rfl (State.n_putN_field _ h.symm)

theorem State.setRanges_roundBegun (s : State) (r q : Nat) (g : Option (Nat × Nat) × Option (Nat × Nat)) :
    (s.setRanges r g).roundBegun q = s.roundBegun q := by
  unfold State.setRanges State.publishDelays
  refine (forL_keeps (State.roundBegun · q) _ _ _ fun p t => ?_).trans ?_
  · split
    · exact t.roundBegun_putN _ _ _ _ (by decide)
    · split
      · exact t.roundBegun_putN _ _ _ _ (by decide)
      · rfl
  · repeat rw [State.roundBegun_putN _ _ _ _ _ (by decide)]
    refine Prod.ext ?_ rfl
    by_cases h : q = r
    · subst h; exact (congrArg Rnd.step (s.rnd_putRnd_same q _)).trans rfl
    · exact congrArg Rnd.step (s.rnd_putRnd_ne _ h)

theorem State.linkupBegin_roundBegun (s : State) (r q : Nat) :
    (s.linkupBegin r).roundBegun q = if q = r then (1, 0) else s.roundBegun q := by
  unfold State.linkupBegin
  rw [State.roundBegun_putN _ _ _ _ _ (by decide)]
  split
  · next h =>
    subst h
    refine Prod.ext ?_ (State.n_putN_same _ _ _ _ _ (by decide))
    exact (congrArg Prod.fst (State.setRanges_roundBegun _ q q (none, none))).trans (congrArg Rnd.step (s.rnd_putRnd_same q _))
  · next h =>
    refine Prod.ext ?_ ?_
    · exact (congrArg Prod.fst (State.setRanges_roundBegun _ r q (none, none))).trans (congrArg Rnd.step (s.rnd_putRnd_ne _ h))
    · refine (State.n_ext (State.w_put_ne _ _ (by simp [h]))).trans ?_
      exact congrArg Prod.snd (State.setRanges_roundBegun _ r q (none, none))

theorem State.fbWake_leaves (s : State) : s.fbWake.rnds = s.rnds ∧ s.fbWake.pts = s.pts ∧ s.fbWake.dev = s.dev := by
  have h : (s.fbWake.rnds, s.fbWake.pts, s.fbWake.dev) = (s.rnds, s.pts, s.dev) :=
    forN_keeps (fun x : State => (x.rnds, x.pts, x.dev)) _ _ _ fun n t => by
      split
      · rfl
      · simp only [State.fbFlag, State.fbStill, State.putFb, State.withFbs_rnds, State.withFbs_pts, State.withFbs_dev]
  simpa only [Prod.mk.injEq] using h

/-- At a wake every round begins to link up. -/
theorem State.woken_begun (s : State) (cause r : Nat) (h : r ∈ s.plant.rounds) : (s.woken cause).roundBegun r = (1, 0) := by
  unfold State.woken
  extract_lets d s1
  have h1 : (forL s1.plant.rounds (fun r t => t.linkupBegin r) s1).roundBegun r = (1, 0) := by
    refine forL_settles (fun _ => True) (fun t => t.roundBegun r = (1, 0)) h trivial (fun _ _ _ _ => trivial) (fun a t ha ht => ?_)
      (fun t _ => ?_) (fun t _ => ?_)
    · rw [t.linkupBegin_roundBegun, if_neg (Ne.symm ha)]; exact ht
    · rw [t.linkupBegin_roundBegun, if_pos rfl]
    · rw [t.linkupBegin_roundBegun, if_pos rfl]
  generalize forL s1.plant.rounds (fun r t => t.linkupBegin r) s1 = u at h1 ⊢
  obtain ⟨hr, hp, -⟩ := u.fbWake_leaves
  rw [State.roundBegun, State.rnd, hr, State.n, State.w, hp]
  exact h1

theorem State.linkupBegin_dev (s : State) (r : Nat) : (s.linkupBegin r).dev = s.dev := by
  unfold State.linkupBegin State.setRanges State.publishDelays
  simp only [State.putN_dev]
  refine (forL_keeps State.dev _ _ _ fun p t => ?_).trans rfl
  split
  · rfl
  · rfl

theorem State.woken_dev (s : State) (cause : Nat) : (s.woken cause).dev = { s.dev with wokeAt := s.now } := by
  unfold State.woken
  extract_lets d s1
  have h1 : (forL s1.plant.rounds (fun r t => t.linkupBegin r) s1).dev = s1.dev :=
    forL_keeps State.dev _ _ _ fun r t => t.linkupBegin_dev r
  exact (State.fbWake_leaves _).2.2.trans h1

theorem State.safeReported_quiet (s : State) : s.safeReported.quiet = s.quiet := by
  have h : (forL ((List.range 9).filter (fun k => Arith.bit s.dev.dormantCauses k)) (fun k t => t.raise 0x0C43 kDevice 0 (k + 1)) s).quiet =
      s.quiet := forL_quiet _ _ _ fun k t => t.raise_quiet _ _ _ _
  unfold State.safeReported
  dsimp only
  split
  · exact (State.captureTrigger_quiet _ _ _ _).trans h
  · exact h

/-- What a change of mode leaves of link-up and of the time of the wake. -/
theorem State.setMode_woken (s : State) (m r : Nat) (h : s.mode ≠ m) (hm : m < 2 ^ 32) :
    (s.setMode m).roundBegun r = s.roundBegun r ∧ (s.setMode m).dev.wokeAt = s.dev.wokeAt := by
  obtain ⟨-, -, hex⟩ := s.setMode_enters m h hm
  refine ⟨Prod.ext ?_ (s.setMode_n m hm _ _ (by decide) rfl), by rw [s.setMode_token m h hm]⟩
  have hr := (State.records_of_exceptMode hex).2.2.2
  show ((s.setMode m).rnd r).step = (s.rnd r).step
  rw [State.rnd, hr]
  rfl

theorem State.mode_of_watchView {s t : State} {c : Nat} (h : t.watchView = { s.watchView with wakeCause := c }) : t.mode = s.mode :=
  congrArg WatchView.mode h

/-- Every wake notes its time, and every round begins to link up. -/
theorem State.wakeUp_begins (s : State) (bits : Nat) (h0 : s.mode = 0) :
    (s.wakeUp bits).dev.wokeAt = s.now ∧ ∀ r ∈ s.plant.rounds, (s.wakeUp bits).roundBegun r = (1, 0) := by
  have hmode : ∀ c < 2 ^ 32, (s.woken c).mode = 0 := fun c hc =>
    (State.mode_of_watchView (s.woken_watchView c hc)).trans h0
  cases hb : (s.dev.dormantCauses != 0 || Arith.bit bits 7) with
  | true =>
    rw [s.wakeUp_safe bits hb]
    have hq := (s.woken 128).safeReported_quiet
    have hat : (s.woken 128).safeReported.dev.wokeAt = s.now := by rw [State.dev_of_quiet hq, s.woken_dev]
    have hr : ∀ r ∈ s.plant.rounds, (s.woken 128).safeReported.roundBegun r = (1, 0) := fun r hr => by
      rw [← s.woken_begun 128 r hr, State.roundBegun, State.rnd, State.rnds_of_quiet hq, State.n_of_quiet hq _ _ _ rfl]
      rfl
    have hm : (s.woken 128).safeReported.mode ≠ 6 := by
      rw [State.mode, State.n_of_quiet hq _ _ _ rfl, show (s.woken 128).n .devMode = 0 from hmode 128 (by decide)]
      decide
    generalize (s.woken 128).safeReported = u at hat hr hm ⊢
    exact ⟨(State.setMode_woken u.causesTaken 6 0 hm (by decide)).2.trans hat,
      fun r h => (State.setMode_woken u.causesTaken 6 r hm (by decide)).1.trans (hr r h)⟩
  | false =>
    have hl : 2 ^ lowBit bits < 2 ^ 32 := Nat.pow_lt_pow_right (by decide) (by have := lowBit_lt bits; omega)
    have hm : (s.woken (2 ^ lowBit bits)).mode ≠ 1 := by rw [hmode _ hl]; decide
    rw [s.wakeUp_configure bits hb]
    refine ⟨?_, fun r hr => ?_⟩
    · rw [(State.setMode_woken _ 1 0 hm (by decide)).2, s.woken_dev]
    · rw [(State.setMode_woken _ 1 r hm (by decide)).1]
      exact s.woken_begun _ r hr

theorem State.w_of_n {s : State} {f : Field} {i j v : Nat} (h : s.n f i j = v) : s.w f i j = Word.ofNat v := by
  rw [← h]
  simp [State.n, Word.ofNat]

theorem wake_wakes (s : State) (fired : Nat) (hd : s.wakeDue fired = true) : Yields (exec (.wake fired) s) fun t =>
    t.dev.wokeAt = s.now ∧ (∀ r ∈ s.plant.rounds, (t.rnd r).step = 1 ∧ t.n .rndLate r = 0) ∧
    (s.dev.dormantCauses = 0 → Arith.bit (s.wakeBits fired) 7 = false →
      t.mode = 1 ∧ t.w .devWakeCause 0 0 = Word.ofNat (2 ^ lowBit (s.wakeBits fired))) ∧
    (s.dev.dormantCauses ≠ 0 ∨ Arith.bit (s.wakeBits fired) 7 = true →
      t.mode = 6 ∧ t.n .devWakeCause = 128 ∧ t.dev.dormantCauses = 0) := by
  have h0 : s.mode = 0 := by
    simp only [State.wakeDue, Bool.and_eq_true, beq_iff_eq] at hd
    exact hd.1.1
  have hx : exec (.wake fired) s = .next (s.wakeUp (s.wakeBits fired)) := congrArg Host.Outcome.next (if_pos hd)
  obtain ⟨hat, hr⟩ := s.wakeUp_begins (s.wakeBits fired) h0
  rw [hx]
  refine yields_next ⟨hat, fun r hm => ⟨congrArg Prod.fst (hr r hm), congrArg Prod.snd (hr r hm)⟩, fun hc hb => ?_, fun hc => ?_⟩
  · have hv := s.wakeUp_configure_watchView (s.wakeBits fired) (by simp [hc, hb]) h0
    exact ⟨congrArg WatchView.mode hv, State.w_of_n (congrArg WatchView.wakeCause hv)⟩
  · have hv := s.wakeUp_safe_watchView (s.wakeBits fired) (by rcases hc with hc | hc <;> simp [hc]) h0
    exact ⟨congrArg WatchView.mode hv, congrArg WatchView.wakeCause hv, congrArg WatchView.dormantCauses hv⟩

/-- A wake source other than the inputs and the timer counts when it fired and is enabled; bit 7 always is (Table 10.6). -/
theorem State.wakeBits_bit (s : State) (fired k : Nat) (hk : k < 8) (h5 : k ≠ 5) (h6 : k ≠ 6) :
    Arith.bit (s.wakeBits fired) k = (Arith.bit fired k && (decide (k = 7) || Arith.bit (s.n .devWakeMask) k)) := by
  have hmask : ∀ m : Nat, (m % 128 + 128).testBit k = (decide (k = 7) || m.testBit k && decide (k < 7)) := by
    intro m
    rw [show m % 128 + 128 = 2 ^ 7 * 1 + m % 2 ^ 7 by omega, Nat.testBit_two_pow_mul_add _ (Nat.mod_lt _ (by decide))]
    by_cases h : k < 7
    · rw [if_pos h, Nat.testBit_mod_two_pow]
      simp [h]; omega
    · rw [if_neg h]
      simp [show k = 7 by omega]
  unfold State.wakeBits
  extract_lets f g
  have hf : Arith.bit f k = Arith.bit fired k := by
    simp only [f]; split
    · rw [bit_setBit, if_neg h6]
    · rfl
  have hg : Arith.bit g k = Arith.bit fired k := by
    simp only [g]; split
    · rw [bit_setBit, if_neg h5]; exact hf
    · exact hf
  rw [bit_eq_testBit] at hg
  rw [bit_eq_testBit]
  show (g % 2 ^ 8 &&& (s.n .devWakeMask % 128 + 128)).testBit k = _
  rw [Nat.testBit_and, Nat.testBit_mod_two_pow, hg, hmask, bit_eq_testBit, bit_eq_testBit]
  by_cases h7 : k = 7
  · simp [h7]
  · simp [hk, h7, show k < 7 by omega]

theorem canWakePattern_wakes (s : State) (c : CanNo) (h0 : s.mode = 0) (hup : s.up = true)
    (hb : Arith.bit (s.n .devWakeMask) c = true) (hd : s.dev.dormantCauses = 0) :
    Yields (exec (.canWakePattern c) s) fun t => t.mode = 1 ∧ t.n .devWakeCause = 2 ^ c.val ∧ t.dev.wokeAt = s.now := by
  have hx : exec (.canWakePattern c) s = .next (s.wakeUp (s.wakeBits (2 ^ c.val))) :=
    congrArg Host.Outcome.next (if_pos (by rw [h0, hup, hb]; rfl))
  have hc := c.isLt
  have hbit : ∀ k, Arith.bit (2 ^ c.val) k = decide (c.val = k) := fun k => by rw [bit_eq_testBit, Nat.testBit_two_pow]
  have h7 : Arith.bit (s.wakeBits (2 ^ c.val)) 7 = false := by
    rw [s.wakeBits_bit _ 7 (by decide) (by decide) (by decide), hbit]
    simp; omega
  have hlow : lowBit (s.wakeBits (2 ^ c.val)) = c.val := by
    refine lowBit_eq (by omega) ?_ fun i hi => ?_
    · rw [s.wakeBits_bit _ c (by omega) (by omega) (by omega), hbit, hb]
      simp
    · rw [s.wakeBits_bit _ i (by omega) (by omega) (by omega), hbit]
      simp; omega
  have hv := s.wakeUp_configure_watchView (s.wakeBits (2 ^ c.val)) (by simp [hd, h7]) h0
  rw [hlow] at hv
  rw [hx]
  exact yields_next ⟨congrArg WatchView.mode hv, congrArg WatchView.wakeCause hv, (s.wakeUp_begins _ h0).1⟩

/-- Settles O21, command by command. -/
theorem haltSleepAndWake : Obligations.HaltSleepAndWake := by
  unfold Obligations.HaltSleepAndWake
  exact fun s => ⟨haltComplete_ends s, haltTimeout_ends s, sleepEffective_sleeps s, wake_wakes s, canWakePattern_wakes s⟩

end Sys2Proof.Machine
end

section
/-!
SUPPORT. Proofs/CoreWatchdogs.lean: the watchdogs of Supervisor and of plant logic (sections 10.8 and 16.2).
-/
namespace Sys2Proof.Machine

/-! ## Supervisor and the cores through a Safe cause -/

/-- Whether Supervisor runs, and what each core holds. -/
def State.coresHeld (s : State) : Bool × (Nat → CoreIf) := (s.dev.supUp, s.duty.2)

theorem State.coresHeld_of {s t : State} (hq : t.quiet = s.quiet) (hd : t.duty = s.duty) : t.coresHeld = s.coresHeld := by
  simp only [State.coresHeld, State.dev_of_quiet hq, hd]

theorem State.irqFire_coresHeld (s : State) (id : Nat) : (s.irqFire id).coresHeld = s.coresHeld := by
  refine Prod.ext (congrArg Dev.supUp (State.dev_of_quiet (s.irqFire_quiet id))) ?_
  show (s.irqFire id).duty.2 = s.duty.2
  unfold State.irqFire
  split
  · rw [State.irqSettle_duty]; rfl
  · rfl

theorem State.report_coresHeld (s : State) (c k i p t : Nat) : (s.report c k i p t).coresHeld = s.coresHeld :=
  State.coresHeld_of (s.report_quiet c k i p t) (s.report_duty c k i p t)

theorem State.captureTrigger_coresHeld (s : State) (t p q : Nat) : (s.captureTrigger t p q).1.coresHeld = s.coresHeld :=
  State.coresHeld_of (s.captureTrigger_quiet t p q) (s.captureTrigger_duty t p q)

theorem State.raiseAt_coresHeld (s : State) (c k i p t : Nat) : (s.raiseAt c k i p t).coresHeld = s.coresHeld := by
  unfold State.raiseAt
  extract_lets s1 s2
  have h2 : s2.coresHeld = s.coresHeld := by
    simp only [s2]
    split
    · exact (State.irqFire_coresHeld _ _).trans (s.report_coresHeld c k i p t)
    · exact s.report_coresHeld c k i p t
  split
  · exact (State.captureTrigger_coresHeld _ _ _ _).trans h2
  · exact h2

theorem State.raise_coresHeld (s : State) (c k i p : Nat) : (s.raise c k i p).coresHeld = s.coresHeld := s.raiseAt_coresHeld _ _ _ _ _

theorem State.putN_coresHeld (s : State) (f : Field) (i v j : Nat) : (s.putN f i v j).coresHeld = s.coresHeld := rfl

theorem State.msixCause_coresHeld (s : State) (c : Nat) : (s.msixCause c).coresHeld = s.coresHeld := by
  refine State.coresHeld_of (s.msixCause_quiet c) ?_
  unfold State.msixCause
  split
  · split
    · exact State.msix_duty _ _
    · rfl
  · rfl

theorem State.leaveRegime_coresHeld (s : State) (d new : Nat) : (s.leaveRegime d new).coresHeld = s.coresHeld := by
  unfold State.leaveRegime
  extract_lets k old k1 s1 s2
  have h2 : s2.coresHeld = s.coresHeld := by
    simp only [s2]
    split <;> rfl
  split
  · exact (State.raiseAt_coresHeld _ _ _ _ _ _).trans h2
  · exact h2

theorem State.enterRegime_coresHeld (s : State) (d new : Nat) : (s.enterRegime d new).coresHeld = s.coresHeld := by
  unfold State.enterRegime
  extract_lets old s1 k s2
  split
  · rfl
  · have h2 : s2.coresHeld = (s.leaveRegime d new).coresHeld := rfl
    exact (State.irqFire_coresHeld _ _).trans ((State.raiseAt_coresHeld _ _ _ _ _ _).trans (h2.trans (s.leaveRegime_coresHeld d new)))

theorem State.blockAll_coresHeld (s : State) : s.blockAll.coresHeld = s.coresHeld :=
  forL_keeps State.coresHeld _ _ _ fun d t => t.enterRegime_coresHeld d 7

theorem State.safeMark_coresHeld (s : State) (code : Nat) (on : Bool) : (s.safeMark code on).coresHeld = s.coresHeld := by
  unfold State.safeMark
  dsimp only
  split
  · rfl
  · exact State.msixCause_coresHeld _ _

theorem State.stopTokens_coresHeld (s : State) : s.stopTokens.coresHeld = s.coresHeld := by
  unfold State.stopTokens
  split <;> rfl

/-- Into a mode without tokens. -/
theorem State.setMode_coresHeld (s : State) (m : Nat) (hm : modeRuns m = false) : (s.setMode m).coresHeld = s.coresHeld := by
  by_cases h : s.mode = m
  · rw [State.setMode_same h]
  · unfold State.setMode
    rw [if_neg h]
    extract_lets s1 j s2 s3 d s5 s6 s7 s8
    have h3 : s3.coresHeld = s.coresHeld := (State.msixCause_coresHeld _ _).trans (by
      unfold State.irqWakeAll
      have h2 : ((s2.raise 3136 kDevice 0 (s.mode + 2 ^ 8 * m)).irqFire 8).coresHeld = s.coresHeld :=
        (State.irqFire_coresHeld _ _).trans ((State.raise_coresHeld _ _ _ _ _).trans rfl)
      split
      · refine (forL_keeps State.coresHeld _ _ _ fun id t => ?_).trans h2
        exact State.coresHeld_of (t.irqWakeFor_quiet id) (t.irqWakeFor_duty id)
      · exact h2)
    have h5 : s5.coresHeld = s.coresHeld := by
      rw [show s5 = s3.stopTokens from if_neg (by rw [hm]; decide)]
      exact (s3.stopTokens_coresHeld).trans h3
    have h6 : s6.coresHeld = s.coresHeld := by
      simp only [s6]
      rw [if_neg (by simp [hm])]
      split
      · exact (s5.blockAll_coresHeld).trans h5
      · exact h5
    have h7 : s7.coresHeld = s.coresHeld := by
      simp only [s7]
      split
      · exact (State.raise_coresHeld _ _ _ _ _).trans h6
      · exact h6
    have h8 : s8 = s7 := if_neg (by simp [hm])
    rw [h8]
    exact (s7.putN_coresHeld _ _ _ _).trans h7

end Sys2Proof.Machine
end

section
/-!
SUPPORT. Proofs/WatchdogRestarts.lean: what the watchdogs and the restarts of the cores leave (sections 10.8 and 16.2).
-/
namespace Sys2Proof.Machine

/-! ## Supervisor and the cores through a Safe cause in any mode -/

theorem State.coresHeld_of_records {s t : State} (hd : t.dev = s.dev) (hi : t.irq = s.irq) : t.coresHeld = s.coresHeld := by
  simp only [State.coresHeld, State.duty, State.src, State.core, hd, hi]

theorem State.takeImage_records (s : State) (pts : List (Pt × Word)) (i : LaneImage) :
    (s.takeImage pts i).dev = s.dev ∧ (s.takeImage pts i).irq = s.irq := by
  unfold State.takeImage
  extract_lets keep s1
  have h1 : (s1.dev, s1.irq) = (s.dev, s.irq) := forL_keeps (fun x : State => (x.dev, x.irq)) _ _ _ fun _ _ => rfl
  clear_value s1
  simp only [Prod.mk.injEq] at h1
  simp only [State.withLevels_dev, State.withGuards_dev, State.withAxes_dev, State.withEngs_dev, State.withPowers_dev,
    State.withShafts_dev, State.withArms_dev, State.withSets_dev, State.withDrvs_dev, State.withLevels_irq, State.withGuards_irq,
    State.withAxes_irq, State.withEngs_irq, State.withPowers_irq, State.withShafts_irq, State.withArms_irq, State.withSets_irq,
    State.withDrvs_irq]
  exact h1

theorem State.replayLeave_coresHeld (s : State) : s.replayLeave.coresHeld = s.coresHeld := by
  have h : s.replayRestored.dev = s.dev ∧ s.replayRestored.irq = s.irq := by
    unfold State.replayRestored
    split
    · simp only [State.put_dev, State.put_irq]
      exact s.takeImage_records _ _
    · exact ⟨rfl, rfl⟩
  have hl : s.replayLeave = (s.replayRestored.settle (fun f => f.wait.isFeed) 0x0301 noItem 0 .ready).withRep Replay.idle := rfl
  rw [hl]
  generalize s.replayRestored = u at h
  exact State.coresHeld_of_records h.1 h.2

theorem State.pairUnsafe_coresHeld (s : State) : s.pairUnsafe.coresHeld = s.coresHeld := by
  have hidle : s.idleEnds.coresHeld = s.coresHeld := by
    refine State.coresHeld_of_records s.idleEnds_leaves.2 ?_
    unfold State.idleEnds
    split
    · rfl
    · have h : (forN 16 (fun r t => t.emit (.endIdle r t.ownEnd)) s).irq = s.irq := forN_keeps State.irq _ _ _ fun _ _ => rfl
      generalize forN 16 (fun r t => t.emit (.endIdle r t.ownEnd)) s = u at h ⊢
      exact h
  unfold State.pairUnsafe
  extract_lets s1
  have h1 : s1.coresHeld = s.coresHeld := (State.raise_coresHeld _ _ _ _ _).trans ((State.putN_coresHeld _ _ _ _ _).trans hidle)
  split
  · exact h1
  · exact (State.msixCause_coresHeld _ _).trans ((State.putN_coresHeld _ _ _ _ _).trans h1)

theorem State.enterSafe_coresHeld (s : State) (code : Nat) : (s.enterSafe code).coresHeld = s.coresHeld := by
  have h1 := s.safeMark_coresHeld code true
  unfold State.enterSafe
  dsimp only
  generalize s.safeMark code true = s1 at h1 ⊢
  have h2 : (s1.raise 0x0C43 kDevice 0 code).stopTokens.coresHeld = s.coresHeld :=
    (State.stopTokens_coresHeld _).trans ((State.raise_coresHeld _ _ _ _ _).trans h1)
  generalize (s1.raise 0x0C43 kDevice 0 code).stopTokens = s2 at h2 ⊢
  have h3 : (if s2.n .jrnTrigSafe = 1 then (s2.captureTrigger s2.epoch (s2.n .jrnPreMs) (s2.n .jrnPostMs)).1 else s2).coresHeld =
      s.coresHeld := by
    split
    · exact (State.captureTrigger_coresHeld _ _ _ _).trans h2
    · exact h2
  generalize (if s2.n .jrnTrigSafe = 1 then (s2.captureTrigger s2.epoch (s2.n .jrnPreMs) (s2.n .jrnPostMs)).1 else s2) = s3 at h3 ⊢
  have h4 : (if s3.mode = 7 then s3.replayLeave.blockAll else s3).coresHeld = s.coresHeld := by
    split
    · exact (State.blockAll_coresHeld _).trans ((State.replayLeave_coresHeld _).trans h3)
    · exact h3
  generalize (if s3.mode = 7 then s3.replayLeave.blockAll else s3) = s4 at h4 ⊢
  split
  · exact (State.pairUnsafe_coresHeld _).trans h1
  · split
    · exact h1
    · split
      · exact h2
      · exact (State.setMode_coresHeld _ 6 rfl).trans h4

theorem State.parts_of_coresHeld {s t : State} (h : t.coresHeld = s.coresHeld) : t.dev.supUp = s.dev.supUp ∧ t.duty.2 = s.duty.2 :=
  Prod.mk.inj h

/-! ## Supervisor's watchdog (R321) -/

/-- Cores 0 and 1 hold nothing. -/
def State.supCleared (s : State) : Prop := ∀ c, c < 2 → (s.core c).stack = [] ∧ (s.core c).claimed = 0 ∧ (s.core c).asleep = false

theorem State.supCleared.of_coresHeld {s t : State} (h : s.supCleared) (hd : t.duty.2 = s.duty.2) : t.supCleared := fun c hc => by
  obtain ⟨h1, h2, -⟩ := State.core_parts (congrFun hd c)
  have h3 : (t.core c).asleep = (s.core c).asleep := (congrArg CoreIf.asleep (congrFun hd c) :)
  rw [h1, h2, h3]
  exact h c hc

theorem State.resetSupCores_cleared (s : State) : s.resetSupCores.supCleared := by
  unfold State.resetSupCores
  extract_lets s1 ids s2
  have hd := State.irqUpdate_duty (forL [0, 1] (fun c t => t.putCore c { t.core c with stack := [], claimed := 0, asleep := false, waking := false }) s2) [] 0
  refine State.supCleared.of_coresHeld ?_ (congrArg Prod.snd hd)
  intro c hc
  obtain rfl | rfl : c = 0 ∨ c = 1 := by omega
  · simp only [forL]
    rw [State.core_putCore_ne _ _ (by decide), State.core_putCore_same]
    exact ⟨rfl, rfl, rfl⟩
  · simp only [forL]
    rw [State.core_putCore_same]
    exact ⟨rfl, rfl, rfl⟩

theorem State.supFirst_leaves (s : State) : let t := s.supFirst
    t.duty = s.duty ∧ t.dev.supUp = s.dev.supUp ∧ t.dev.supWdtAt = s.dev.supWdtAt ∧ t.pts = s.pts ∧
    (s.isPrincipal = false → s.mode = 3 ∨ s.mode = 4 → t.dev.haltDue = true) := by
  unfold State.supFirst State.surrender
  split
  · next hp => exact ⟨rfl, rfl, rfl, rfl, fun h => absurd (h.symm.trans hp) (by decide)⟩
  · split
    · exact ⟨rfl, rfl, rfl, rfl, fun _ _ => rfl⟩
    · next hn => exact ⟨rfl, rfl, rfl, rfl, fun _ h => absurd h hn⟩

theorem State.supExpire_leaves (s : State) (hup : s.up = true) : let t := s.supExpire
    t.dev.supUp = false ∧ t.supCleared ∧ (s.dev.supWdtAt = none → t.dev.supWdtAt = some s.now ∧
      (s.isPrincipal = false → s.mode = 3 ∨ s.mode = 4 → t.dev.haltDue = true ∧ t.mode = s.mode)) := by
  have hc : ∀ x, (s.supDown x).supCleared := fun _ => s.resetSupCores_cleared
  cases ha : s.supAgain with
  | true =>
    rw [s.supExpire_again hup ha]
    obtain ⟨h1, h2⟩ := State.parts_of_coresHeld (State.enterSafe_coresHeld (s.supDown s.dev.supWdtAt) 9)
    refine ⟨h1.trans rfl, (hc _).of_coresHeld h2, fun hn => ?_⟩
    rw [State.supAgain, hn] at ha
    cases ha
  | false =>
    obtain ⟨h1, h2, h3, h4, h5⟩ := (s.supDown (some s.now)).supFirst_leaves
    obtain ⟨-, -, hdev, hn⟩ := s.supDown_reads (some s.now)
    have hm : (s.supDown (some s.now)).mode = s.mode := hn _ _ _ rfl
    have hp : (s.supDown (some s.now)).isPrincipal = s.isPrincipal := by rw [State.isPrincipal, hn _ _ _ rfl]; rfl
    rw [s.supExpire_eq, ha, if_neg (by decide)]
    rw [hdev] at h2 h3
    refine ⟨h2, (hc _).of_coresHeld (congrArg Prod.snd h1), fun _ => ⟨h3, fun hprin hmode => ⟨h5 (hp.trans hprin) (by rw [hm]; exact hmode), ?_⟩⟩⟩
    rw [State.mode, State.n, State.w, h4]
    exact hm

end Sys2Proof.Machine
end

section
/-!
SUPPORT. Proofs/AgentWatchdogs.lean: Supervisor's restart, and the watchdog, the restart and the heartbeat of plant logic (sections 10.8
and 16.2).
-/
namespace Sys2Proof.Machine

theorem RingHeld.forL {α : Type} {k : Nat} (l : List α) (f : α → State → State) (s : State) (h : ∀ a t, RingHeld k t (f a t)) :
    RingHeld k s (forL l f s) := by
  induction l generalizing s with
  | nil => exact fun _ => rfl
  | cons a l ih => exact (h a s).trans (ih _)

theorem State.irqUpdate_held (k : Nat) (s : State) (l : List Nat) (c : Nat) : RingHeld k s (s.irqUpdate l c) :=
  (RingHeld.of_host (s.irqSettle_host l c)).trans (RingHeld.forL _ _ _ fun _ t => t.raise_held k _ _ _ _)

/-! ## Supervisor runs again (R321) -/

/-- Supervisor serves again. -/
def State.supBack (s : State) : State := (s.withDev { s.dev with supUp := true }).raise 0x0C47 kDevice 0 0

/-- The commands whose apply-epoch has passed leave poste restante. -/
def State.lateRemoved (s : State) : State :=
  let late := s.host.pr.filter (fun c => decide (c.epoch < s.e0))
  if late.isEmpty then s else s.prRemove (late.map (·.id))

theorem State.lateRemoved_leaves (s : State) :
    s.lateRemoved.dev = s.dev ∧ ∀ c ∈ s.lateRemoved.host.pr, c ∈ s.host.pr ∧ s.e0 ≤ c.epoch := by
  unfold State.lateRemoved
  extract_lets late
  split
  · next h =>
    refine ⟨rfl, fun c hc => ⟨hc, Nat.le_of_not_lt fun hl => ?_⟩⟩
    have hm : c ∈ late := List.mem_filter.2 ⟨hc, by simpa using hl⟩
    rw [List.isEmpty_iff.1 h] at hm
    cases hm
  · obtain ⟨hpr, -, -, hrec⟩ := s.prRemove_effect (late.map (·.id))
    refine ⟨congrArg Prod.fst hrec, fun c hc => ?_⟩
    rw [hpr, List.mem_filter] at hc
    refine ⟨hc.1, Nat.le_of_not_lt fun hl => ?_⟩
    have hm : c.id ∈ late.map (·.id) := List.mem_map_of_mem (List.mem_filter.2 ⟨hc.1, by simpa using hl⟩)
    simp [hm] at hc

theorem State.failed_leaves (s : State) (c : Cmd) (st : Nat) : (s.failed c st).dev = s.dev ∧ (s.failed c st).host.pr = s.host.pr := by
  unfold State.failed State.finish
  split <;> exact ⟨rfl, rfl⟩

theorem State.supRestart_eq (s : State) : s.supRestart =
    forL (s.supBack.host.pr.filter (fun c => decide (c.epoch < s.supBack.e0))) (fun c t => t.failed c stLate) s.supBack.lateRemoved := rfl

theorem State.supRestart_leaves (s : State) : let t := s.supRestart
    t.dev = { s.dev with supUp := true } ∧ ∀ c ∈ t.host.pr, c ∈ s.host.pr ∧ s.e0 ≤ c.epoch := by
  have hq : s.supBack.quiet = (s.withDev { s.dev with supUp := true }).quiet := State.raise_quiet _ _ _ _ _
  have hdev : s.supBack.dev = { s.dev with supUp := true } := (State.dev_of_quiet hq).trans rfl
  have hpr : s.supBack.host.pr = s.host.pr := (State.hostPart_of_quiet hq (·.pr) fun _ => rfl).trans rfl
  have he0 : s.supBack.e0 = s.e0 := by
    have hclk : s.supBack.clk = s.clk := (State.clk_of_quiet hq).trans rfl
    rw [State.e0, State.e0, State.epoch, State.epoch, hclk]
  rw [s.supRestart_eq]
  generalize s.supBack = u at hdev hpr he0
  obtain ⟨hd, hp⟩ := u.lateRemoved_leaves
  have h := forL_keeps (fun x : State => (x.dev, x.host.pr)) (u.host.pr.filter (fun c => decide (c.epoch < u.e0)))
    (fun c t => t.failed c stLate) u.lateRemoved fun c t => Prod.ext (t.failed_leaves c stLate).1 (t.failed_leaves c stLate).2
  simp only [Prod.mk.injEq] at h
  refine ⟨h.1.trans (hd.trans hdev), fun c hc => ?_⟩
  rw [h.2] at hc
  rw [← hpr, ← he0]
  exact hp c hc

/-! ## The watchdog of plant logic (R456, R457) -/

/-- The on-chip rings stop (R457). -/
def State.logicRingsStop (s : State) : State :=
  forN 20 (fun n t =>
    let r := t.ring (32 + n)
    if r.enable then t.putRing (32 + n) { r with enable := false, waiting := none } else t) s

theorem forN_putRing_stops (k n : Nat) (s : State) (hn : n < k) : ((forN k (fun n t =>
    let r := t.ring (32 + n)
    if r.enable then t.putRing (32 + n) { r with enable := false, waiting := none } else t) s).ring (32 + n)).enable = false := by
  induction k with
  | zero => omega
  | succ k ih =>
    simp only [forN]
    generalize forN k _ s = u at ih ⊢
    by_cases h : n = k
    · subst h
      split
      · rw [State.ring_putRing_same]
      · next he => simpa using he
    · split
      · rw [State.ring_putRing_ne _ _ (by omega)]
        exact ih (by omega)
      · exact ih (by omega)

/-- Cores 2 and 3 hold nothing. -/
def State.logicCleared (s : State) : Prop :=
  ∀ c, c = 2 ∨ c = 3 → (s.core c).stack = [] ∧ (s.core c).claimed = 0 ∧ (s.core c).asleep = false

theorem State.logicCleared.of_duty {s t : State} (h : s.logicCleared) (hd : t.duty.2 = s.duty.2) : t.logicCleared := fun c hc => by
  obtain ⟨h1, h2, -⟩ := State.core_parts (congrFun hd c)
  have h3 : (t.core c).asleep = (s.core c).asleep := (congrArg CoreIf.asleep (congrFun hd c) :)
  rw [h1, h2, h3]
  exact h c hc

/-- The cores of plant logic start over. -/
def State.logicCoresClear (s : State) : State :=
  forL [2, 3] (fun c t => t.putCore c { t.core c with stack := [], claimed := 0, asleep := false, waking := false }) s

theorem State.logicCoresClear_cleared (s : State) : s.logicCoresClear.logicCleared := by
  unfold State.logicCoresClear
  rintro c (rfl | rfl)
  · simp only [forL]
    rw [State.core_putCore_ne _ _ (by decide), State.core_putCore_same]
    exact ⟨rfl, rfl, rfl⟩
  · simp only [forL]
    rw [State.core_putCore_same]
    exact ⟨rfl, rfl, rfl⟩

/-- The sources of plant logic lose their active and enable bits. -/
def State.logicSourcesClear (s : State) : State :=
  forL ((s.irq.srcs.map (·.1)).filter s.irqLogicOwned) (fun id t => t.putSrc id { t.src id with active := false, enabled := false }) s

theorem State.resetLogicCores_eq (s : State) :
    s.resetLogicCores = ((s.emit (.coreReset 12)).logicRingsStop.logicCoresClear.logicSourcesClear).irqUpdate [] := by
  unfold State.resetLogicCores State.logicSourcesClear State.logicCoresClear State.logicRingsStop
  dsimp only

theorem State.resetLogicCores_leaves (s : State) : let t := s.resetLogicCores
    t.dev = s.dev ∧ (∀ n, n < 20 → (t.ring (32 + n)).enable = false) ∧ t.logicCleared ∧ QuietPoints s t [] := by
  rw [s.resetLogicCores_eq]
  have h1 : ((s.emit (.coreReset 12)).logicRingsStop.dev, (s.emit (.coreReset 12)).logicRingsStop.pts) = (s.dev, s.pts) :=
    forN_keeps (fun x : State => (x.dev, x.pts)) _ _ _ fun n t => by dsimp only; split <;> rfl
  have hr1 : ∀ n, n < 20 → ((s.emit (.coreReset 12)).logicRingsStop.ring (32 + n)).enable = false := fun n hn =>
    forN_putRing_stops 20 n _ hn
  generalize (s.emit (.coreReset 12)).logicRingsStop = u at h1 hr1 ⊢
  have h2 : (u.logicCoresClear.dev, u.logicCoresClear.pts, u.logicCoresClear.host) = (u.dev, u.pts, u.host) := rfl
  have hc2 := u.logicCoresClear_cleared
  generalize u.logicCoresClear = v at h2 hc2 ⊢
  have h3 : (v.logicSourcesClear.dev, v.logicSourcesClear.pts, v.logicSourcesClear.host) = (v.dev, v.pts, v.host) :=
    forL_keeps (fun x : State => (x.dev, x.pts, x.host)) _ _ _ fun _ _ => rfl
  have hc3 : v.logicSourcesClear.logicCleared := by
    have hk : (v.logicSourcesClear).duty.2 = v.duty.2 := forL_keeps (fun x : State => x.duty.2) _ _ _ fun _ _ => rfl
    exact hc2.of_duty hk
  generalize v.logicSourcesClear = w at h3 hc3 ⊢
  simp only [Prod.mk.injEq] at h1 h2 h3
  have hq := w.irqUpdate_quiet [] 0
  refine ⟨(State.dev_of_quiet hq).trans (h3.1.trans (h2.1.trans h1.1)), fun n hn => ?_, hc3.of_duty (congrArg Prod.snd (w.irqUpdate_duty [] 0)), ?_⟩
  · have hw : (w.ring (32 + n)).enable = false := by
      rw [State.ring, h3.2.2, h2.2.2]
      exact hr1 n hn
    rw [w.irqUpdate_held (32 + n) [] 0 (by rw [Ring.live, hw]; rfl)]
    exact hw
  · refine QuietPoints.trans (t := w) (ps := []) (qs := []) (fun f i j _ _ => ?_) (QuietPoints.of_quiet hq)
    rw [State.w, h3.2.1, h2.2.1, h1.2]
    rfl

theorem logicWdt_resets (s : State) (hup : s.up = true) (hl : s.dev.logicUp = true) (hms : s.n .devLogicWdtMs ≠ 0)
    (hd : s.dev.logicBeat + msNs (s.n .devLogicWdtMs) ≤ s.now) : Yields (exec .logicWdt s) fun t =>
      t.dev = { s.dev with logicUp := false } ∧ (∀ n, n < 20 → (t.ring (32 + n)).enable = false) ∧
      (∀ c, c = 2 ∨ c = 3 → (t.core c).stack = [] ∧ (t.core c).claimed = 0 ∧ (t.core c).asleep = false) ∧
      QuietPoints s t [] := by
  obtain ⟨hdev, hring, hcore, hpts⟩ := s.resetLogicCores_leaves
  have hx : exec .logicWdt s = .next ((s.resetLogicCores.withDev { s.resetLogicCores.dev with logicUp := false }).raise 0x0C48 kDevice 0 0) :=
    congrArg Host.Outcome.next (if_pos ⟨hup, hl, hms, hd⟩)
  rw [hx]
  generalize s.resetLogicCores = u at hdev hring hcore hpts ⊢
  have hq := (u.withDev { u.dev with logicUp := false }).raise_quiet 0x0C48 kDevice 0 0
  have hh := State.raise_coresHeld (u.withDev { u.dev with logicUp := false }) 0x0C48 kDevice 0 0
  have hr := fun n => State.raise_held (32 + n) (u.withDev { u.dev with logicUp := false }) 0x0C48 kDevice 0 0
  refine yields_next ⟨?_, fun n hn => ?_, ?_, hpts.then fun f i j hf => State.w_of_quiet hq f i j hf⟩
  · rw [State.dev_of_quiet hq, hdev]
    rfl
  · have hu : ((u.withDev { u.dev with logicUp := false }).ring (32 + n)).enable = false := hring n hn
    rw [hr n (by rw [Ring.live, hu]; rfl)]
    exact hu
  · exact State.logicCleared.of_duty (s := u) hcore ((State.parts_of_coresHeld hh).2.trans rfl)

/-! ## Plant logic runs again (R322, R325) -/

/-- A drive that held through the loss goes on. -/
def State.goOn (s : State) (d : Nat) : State := (s.putN .drvHostState d 0).putDrv d { s.drv d with holdHost := none }

theorem State.goOn_own (s : State) (d : Nat) : (s.goOn d).n .drvHostState d = 0 ∧ ((s.goOn d).drv d).holdHost = none :=
  ⟨State.n_putN_same s .drvHostState d 0 0 (by decide), congrArg Drv.holdHost (State.drv_putDrv_same _ d _)⟩

theorem State.goOn_other (s : State) {a d : Nat} (h : a ≠ d) : (s.goOn a).n .drvHostState d = s.n .drvHostState d ∧
    (s.goOn a).drv d = s.drv d :=
  ⟨State.n_ext (State.w_put_ne s _ (by simp [Ne.symm h])), State.drv_putDrv_ne _ _ (Ne.symm h)⟩

theorem State.agentReturn_eq (s : State) (logic : Bool) : s.agentReturn logic =
    forL (s.drives.filter (fun d => s.logicRuns d == logic && s.n .drvHostState d == 1)) (fun d t => t.goOn d) s := rfl

theorem State.agentReturn_leaves (s : State) (logic : Bool) : let t := s.agentReturn logic
    t.dev = s.dev ∧ QuietFields s t [.drvHostState] ∧
    ∀ d ∈ s.drives, s.logicRuns d = logic → s.n .drvHostState d = 1 → t.n .drvHostState d = 0 ∧ (t.drv d).holdHost = none := by
  rw [s.agentReturn_eq logic]
  refine ⟨forL_keeps State.dev _ _ _ fun _ _ => rfl, ?_, fun d hd hr h1 => ?_⟩
  · refine QuietFields.of_aside (g := driveView) (forL_keeps (State.aside driveView (inFields [.drvHostState])) _ _ _ fun d t => ?_)
    refine Eq.trans (State.aside_record (t := t.goOn d) (s := t.putN .drvHostState d 0) ?_ rfl) (State.aside_putN _ _ _ _ rfl)
    unfold State.goOn State.putDrv
    rw [State.withDrvs_rest]
    rfl
  · refine forL_settles (fun _ => True) (fun t => t.n .drvHostState d = 0 ∧ (t.drv d).holdHost = none) ?_ trivial (fun _ _ _ _ => trivial)
      (fun a t ha ht => ?_) (fun t _ => t.goOn_own d) (fun t _ => t.goOn_own d)
    · exact List.mem_filter.2 ⟨hd, by simp [hr, h1]⟩
    · obtain ⟨k1, k2⟩ := t.goOn_other ha
      rw [k1, k2]
      exact ht

theorem logicRestarted_returns (s : State) (hup : s.up = true) (hl : s.dev.logicUp = false) : Yields (exec .logicRestarted s) fun t =>
    t.dev = { s.dev with logicUp := true, logicBeat := s.now } ∧
    t.w .logicRestarts 0 0 = Word.ofNat (s.n .logicRestarts + 1) ∧
    (∀ d ∈ s.drives, s.logicRuns d = true → s.n .drvHostState d = 1 → t.n .drvHostState d = 0 ∧ (t.drv d).holdHost = none) ∧
    QuietFields s t [.logicRestarts, .drvHostState] := by
  let u := (s.withDev { s.dev with logicUp := true, logicBeat := s.now }).inc .logicRestarts
  have hx : exec .logicRestarted s = .next (u.agentReturn true) := congrArg Host.Outcome.next (if_pos ⟨hup, by rw [hl]; decide⟩)
  obtain ⟨hdev, hf, hdr⟩ := u.agentReturn_leaves true
  have hn : ∀ d, u.n .drvHostState d = s.n .drvHostState d := fun d => State.n_ext (State.w_put_field _ _ (by decide))
  rw [hx]
  refine yields_next ⟨hdev.trans rfl, (hf _ _ _ (by decide) rfl).trans (State.w_put_same _ _ _ _ _), fun d hd hr h1 =>
    hdr d hd hr ((hn d).trans h1), ?_⟩
  exact (QuietFields.put (s.withDev { s.dev with logicUp := true, logicBeat := s.now }) .logicRestarts 0 _ 0).trans hf

/-- Settles O22, command by command. -/
theorem watchdogsOfTheCores : Obligations.WatchdogsOfTheCores := by
  unfold Obligations.WatchdogsOfTheCores
  intro s hup
  refine ⟨fun hs => ?_, fun hs => ?_, logicWdt_resets s hup, logicRestarted_returns s hup, fun hl => ?_⟩
  · rw [exec_supWdt s hup hs]
    exact yields_next (s.supExpire_leaves hup)
  · have hx : exec .supervisorRestarted s = .next s.supRestart := congrArg Host.Outcome.next (if_pos (by rw [hup, hs]; rfl))
    rw [hx]
    exact yields_next s.supRestart_leaves
  · exact yields_next (if_pos hl)

end Sys2Proof.Machine
end

section
/-!
SUPPORT. Proofs/Outputs.lean: outputs are only added; what reporting sends stands before them.
-/
namespace Sys2Proof.Machine

/-- Every output of a state is an output of another. -/
def OutKept (s t : State) : Prop := s.out ⊆ t.out

section
variable {s t u : State}

theorem OutKept.of_out (h : t.out = s.out) : OutKept s t := by rw [OutKept, h]; exact List.Subset.refl _

theorem OutKept.trans (h : OutKept s t) (g : OutKept t u) : OutKept s u := List.Subset.trans h g

theorem OutKept.emit (s : State) (o : Out) : OutKept s (s.emit o) := List.subset_cons_self _ _

theorem OutKept.put (s : State) (f : Field) (i : Nat) (w : Word) (j : Nat) : OutKept s (s.put f i w j) := .of_out rfl

end

/-! ## What reporting sends -/

/-- An output that writing event records can send. -/
def recordOut : Out → Bool
  | .record _ _ | .mirror _ _ _ | .msix _ => true
  | _ => false

/-- Outputs of event records have been added, and no others. -/
def RecordsOut (s t : State) : Prop := ∃ l, t.out = l ++ s.out ∧ ∀ o ∈ l, recordOut o = true

section
variable {s t u : State}

theorem RecordsOut.of_out (h : t.out = s.out) : RecordsOut s t := ⟨[], h, by simp⟩

theorem RecordsOut.trans (h : RecordsOut s t) (g : RecordsOut t u) : RecordsOut s u := by
  obtain ⟨l, hl, hr⟩ := h
  obtain ⟨m, hm, hq⟩ := g
  refine ⟨m ++ l, by rw [hm, hl, List.append_assoc], fun o ho => ?_⟩
  rcases List.mem_append.1 ho with ho | ho
  · exact hq o ho
  · exact hr o ho

theorem RecordsOut.kept (h : RecordsOut s t) : OutKept s t := by
  obtain ⟨l, hl, -⟩ := h
  rw [OutKept, hl]
  exact List.subset_append_right _ _

/-- An output of another kind stood there before. -/
theorem RecordsOut.mem (h : RecordsOut s t) {o : Out} (ho : o ∈ t.out) (hr : recordOut o = false) : o ∈ s.out := by
  obtain ⟨l, hl, hq⟩ := h
  rw [hl] at ho
  rcases List.mem_append.1 ho with ho | ho
  · exact absurd ((hq o ho).symm.trans hr) (by decide)
  · exact ho

theorem RecordsOut.emit (s : State) {o : Out} (h : recordOut o = true) : RecordsOut s (s.emit o) := ⟨[o], rfl, by simpa using h⟩

theorem RecordsOut.put (s : State) (f : Field) (i : Nat) (w : Word) (j : Nat) : RecordsOut s (s.put f i w j) := .of_out rfl

theorem RecordsOut.withSo (s : State) (x : Sorting) : RecordsOut s (s.withSo x) := .of_out rfl

theorem RecordsOut.putRing (s : State) (k : Nat) (r : Ring) : RecordsOut s (s.putRing k r) := .of_out rfl

theorem RecordsOut.putCapture (s : State) (i : Nat) (c : Capture) : RecordsOut s (s.putCapture i c) := .of_out rfl

theorem RecordsOut.forN (n : Nat) (f : Nat → State → State) (s : State) (h : ∀ a t, RecordsOut t (f a t)) : RecordsOut s (forN n f s) := by
  induction n with
  | zero => exact .of_out rfl
  | succ n ih => exact ih.trans (h n _)

end

theorem State.irqSettle_out (s : State) (l : List Nat) (c : Nat) : (s.irqSettle l c).1.out = s.out := by
  unfold State.irqSettle
  refine (forL_keeps State.out _ _ _ fun _ _ => ?_).trans ((forL_keeps State.out _ (fun (d : Nat × Nat) t => t.inc .coreDeadLetters d.1) _ fun _ _ => rfl).trans ?_)
  · unfold State.irqWakeFor
    dsimp only
    split
    · exact forN_keeps State.out _ _ _ fun _ _ => by split <;> rfl
    · rfl
  · unfold State.represent
    split
    · rfl
    · exact forN_keeps State.out _ _ _ fun _ _ => rfl

theorem State.irqFire_out (s : State) (n : Nat) : (s.irqFire n).out = s.out := by
  unfold State.irqFire
  split
  · exact (State.irqSettle_out _ _ _).trans rfl
  · rfl

theorem State.msix_recordsOut (s : State) (v : Nat) : RecordsOut s (s.msix v) := by
  unfold State.msix
  split
  · exact .emit s rfl
  · exact .of_out rfl

theorem State.ringSignal_recordsOut (s : State) (k : Nat) : RecordsOut s (s.ringSignal k) := by
  unfold State.ringSignal
  split
  · exact s.msix_recordsOut _
  · exact .of_out (s.irqFire_out _)

theorem State.ringWrote_recordsOut (s : State) (k : Nat) : RecordsOut s (s.ringWrote k) := by
  unfold State.ringWrote
  extract_lets r r1 s1
  have h1 : RecordsOut s s1 := .emit (s.putRing k r1) rfl
  split
  · exact h1.trans ((RecordsOut.putRing s1 k _).trans (State.ringSignal_recordsOut _ k))
  · exact h1

theorem State.deliver_recordsOut (key : Nat) (s : State) (e : EvRec) : RecordsOut s (s.deliver key e) := by
  unfold State.deliver
  extract_lets q r s1
  split
  · have h1 : RecordsOut s s1 := (RecordsOut.emit s rfl).trans (State.ringWrote_recordsOut _ key)
    split
    · exact h1.trans (.of_out (s1.irqFire_out 10))
    · exact h1
  · split
    · split <;> exact .of_out rfl
    · split <;> exact .of_out rfl

theorem State.putBitmap_recordsOut (s : State) (slot : Nat) (e : EvRec) (idxs : List Nat) : RecordsOut s (s.putBitmap slot e idxs) := by
  unfold State.putBitmap
  extract_lets s1
  exact (RecordsOut.of_out (t := s1) rfl).trans (.forN 128 _ s1 fun _ _ => .put _ _ _ _ _)

theorem State.closePostmark_recordsOut (s : State) (p : Postmark) (b : Bool) : RecordsOut s (s.closePostmark p b) := by
  unfold State.closePostmark
  extract_lets many e c0 s1 s2
  have h2 : RecordsOut s s2 := by
    simp only [s2]
    split
    · exact (RecordsOut.of_out (t := s1) rfl).trans (s1.putBitmap_recordsOut _ _ _)
    · exact .of_out rfl
  exact h2.trans ((State.deliver_recordsOut 16 _ _).trans (State.deliver_recordsOut 48 _ _))

theorem State.openPostmark_recordsOut (s : State) (p : Postmark) : RecordsOut s (s.openPostmark p) := by
  unfold State.openPostmark
  dsimp only
  split <;> exact .of_out rfl

theorem State.ingest_recordsOut (n c d : Nat) (r : Rep) (s : State) : RecordsOut s (State.ingest n c d r s) := by
  have early : ∀ (s : State) (p : Postmark) (ps : List Postmark) (c d : Nat) (r : Rep),
      let s1 := ((s.withSo { s.so with opened := ps }).closePostmark p true).inc .soEarlyCloses
      RecordsOut s (s1.openPostmark (s1.newPostmark c d r)) := fun s p ps c d r =>
    (((RecordsOut.withSo s _).trans (State.closePostmark_recordsOut _ p true)).trans (.put _ _ _ _ _)).trans (State.openPostmark_recordsOut _ _)
  induction n generalizing c d r s with
  | zero =>
    unfold State.ingest
    split
    · exact .of_out rfl
    · split
      · split
        · exact early s _ _ c d r
        · exact s.openPostmark_recordsOut _
      · exact s.openPostmark_recordsOut _
  | succ n ih =>
    unfold State.ingest
    split
    · exact .of_out rfl
    · split
      · split
        · next p ps _ _ => exact ((early s p ps c d r).trans (.put _ _ _ _ _)).trans (ih _ _ _ _)
        · exact s.openPostmark_recordsOut _
      · exact s.openPostmark_recordsOut _

theorem State.report_recordsOut (s : State) (c d i p t : Nat) : RecordsOut s (s.report c d i p t) := by
  unfold State.report
  split
  · exact ((RecordsOut.withSo s _).trans (.put _ _ _ _ _)).trans (State.ingest_recordsOut 2 c d _ _)
  · exact (RecordsOut.withSo s _).trans (.put _ _ _ _ _)

theorem State.captureTrigger_recordsOut (s : State) (t p q : Nat) : RecordsOut s (s.captureTrigger t p q).1 := by
  unfold State.captureTrigger
  dsimp only
  split
  · exact ((RecordsOut.putCapture s _ _).trans (.put _ _ _ _ _)).trans (.put _ _ _ _ _)
  · split
    · exact s.report_recordsOut _ _ _ _ _
    · split
      · exact ((RecordsOut.putCapture s _ _).trans (.put _ _ _ _ _)).trans (.put _ _ _ _ _)
      · exact (((RecordsOut.putCapture s _ _).trans (.put _ _ _ _ _)).trans (State.report_recordsOut _ _ _ _ _ _)).trans (.put _ _ _ _ _)

/-- Raising an event sends nothing but event records and what tells of them. -/
theorem State.raiseAt_recordsOut (s : State) (c d i p t : Nat) : RecordsOut s (s.raiseAt c d i p t) := by
  unfold State.raiseAt
  extract_lets s1 s2
  have h2 : RecordsOut s s2 := (s.report_recordsOut c d i p t).trans (by
    simp only [s2]
    split
    · exact .of_out (s1.irqFire_out _)
    · exact .of_out rfl)
  split
  · exact h2.trans (s2.captureTrigger_recordsOut _ _ _)
  · exact h2

theorem State.raise_recordsOut (s : State) (c d i p : Nat) : RecordsOut s (s.raise c d i p) := s.raiseAt_recordsOut _ _ _ _ _

theorem State.raise_outKept (s : State) (c d i p : Nat) : OutKept s (s.raise c d i p) := (s.raise_recordsOut c d i p).kept

end Sys2Proof.Machine
end

section
/-!
SUPPORT. Proofs/CanFrame.lean: what the operations on a CAN controller leave aside, and what they do to its record (chapter 15).
-/
namespace Sys2Proof.Machine

/-! ## What stands aside -/

/-- A state without its controllers, the final completions, the clock and the count of free values. -/
def canView (s : State) : State :=
  (((s.withCans []).withHost { s.host with fins := [] }).withClk State.reset.clk).withFree 0

/-- What a state holds aside from one controller, the points of some fields and what reporting writes. -/
def State.canSide (c : Nat) (fs : List Field) (s : State) : (State × (Field → Nat → Nat → Word)) × (Nat → Can) :=
  (s.aside canView (inFields fs), fun e => if e = c then Can.init else s.can e)

/-- The parts that `canView` erases. -/
def canParts (x : State) (a : Tab Can) (b : List FinCpl) (c : Clock) (d : Nat) : State :=
  (((x.withCans a).withHost { x.host with fins := b }).withClk c).withFree d

theorem canParts_canView (x : State) (a : Tab Can) (b : List FinCpl) (c : Clock) (d : Nat) :
    canParts (canView x) a b c d = canParts x a b c d := by
  cases x; rfl

theorem canParts_self (x : State) : canParts x x.cans x.host.fins x.clk x.free = x := by
  cases x; rfl

theorem canParts_rest (x : State) (a : Tab Can) (b : List FinCpl) (c : Clock) (d : Nat) :
    (canParts x a b c d).rest = canParts x.rest a b c d := by
  cases x; rfl

theorem State.rest_canParts (t : State) : t.rest.cans = t.cans ∧ t.rest.host.fins = t.host.fins ∧ t.rest.clk = t.clk ∧ t.rest.free = t.free :=
  ⟨rfl, rfl, rfl, rfl⟩

theorem rest_of_canView {s t : State} (h : canView t.rest = canView s.rest) :
    t.rest = (canParts s t.cans t.host.fins t.clk t.free).rest := by
  obtain ⟨h1, h2, h3, h4⟩ := t.rest_canParts
  calc t.rest = canParts t.rest t.rest.cans t.rest.host.fins t.rest.clk t.rest.free := (canParts_self _).symm
    _ = canParts (canView t.rest) t.cans t.host.fins t.clk t.free := by rw [h1, h2, h3, h4, canParts_canView]
    _ = canParts s.rest t.cans t.host.fins t.clk t.free := by rw [h, canParts_canView]
    _ = _ := (canParts_rest _ _ _ _ _).symm

theorem CanOnly.of_canSide {s t : State} {c : Nat} {fs : List Field} (h : t.canSide c fs = s.canSide c fs) : CanOnly s t c fs := by
  have hs := congrArg Prod.fst h
  refine ⟨?_, fun e he => ?_, QuietFields.of_aside hs⟩
  · exact rest_of_canView (State.aside_rest hs)
  · have := congrFun (congrArg Prod.snd h) e
    simpa only [State.canSide, if_neg he] using this

section
variable {c : Nat} {fs : List Field} {s t : State}

theorem State.canSide_of_quiet (h : t.quiet = s.quiet) : t.canSide c fs = s.canSide c fs :=
  Prod.ext (State.aside_of_quiet h) (funext fun e => by simp only [State.canSide, State.can, State.cans_of_quiet h])

theorem State.canSide_put (s : State) {f : Field} (i : Nat) (w : Word) (j : Nat) (h : f ∈ fs) :
    (s.put f i w j).canSide c fs = s.canSide c fs :=
  Prod.ext (State.aside_put f i w j (by simpa [inFields] using h)) rfl

theorem State.canSide_putN (s : State) {f : Field} (i v j : Nat) (h : f ∈ fs) : (s.putN f i v j).canSide c fs = s.canSide c fs :=
  s.canSide_put i _ j h

theorem State.canSide_inc (s : State) {f : Field} (i j : Nat) (h : f ∈ fs) : (s.inc f i j).canSide c fs = s.canSide c fs :=
  s.canSide_put i _ j h

theorem State.canSide_put64 (s : State) {f : Field} (i v : Nat) (h : f ∈ fs) : (s.put64 f i v).canSide c fs = s.canSide c fs :=
  ((s.putN f i (v % 2 ^ 32) 0).canSide_put i _ 1 h).trans (s.canSide_put i _ 0 h)

theorem State.canSide_record (hv : canView t.rest = canView s.rest) (hp : t.pts = s.pts) (hc : t.cans = s.cans) :
    t.canSide c fs = s.canSide c fs :=
  Prod.ext (State.aside_record hv hp) (funext fun e => by simp only [State.canSide, State.can, hc])

theorem State.can_putCan_same (s : State) (c : Nat) (v : Can) : (s.putCan c v).can c = v := by
  simp [State.can, State.putCan]

theorem State.can_putCan_ne (s : State) {c e : Nat} (v : Can) (h : e ≠ c) : (s.putCan c v).can e = s.can e := by
  simp [State.can, State.putCan, Tab.get_put_ne _ _ _ h]

theorem State.canSide_putCan (s : State) (c : Nat) (v : Can) : (s.putCan c v).canSide c fs = s.canSide c fs := by
  refine Prod.ext (State.aside_record ?_ rfl) (funext fun e => ?_)
  · rw [State.putCan, State.withCans_rest]
    rfl
  · simp only [State.canSide]
    split
    · rfl
    · next h => rw [s.can_putCan_ne v h]

theorem State.canSide_settle (s : State) (p : FinCpl → Bool) (st item value : Nat) (w : Await) :
    (s.settle p st item value w).canSide c fs = s.canSide c fs := State.canSide_record rfl rfl rfl

theorem State.canSide_advance (s : State) (t : Nat) : (s.advance t).canSide c fs = s.canSide c fs :=
  State.canSide_record (by rw [State.advance, State.withClk_rest]; rfl) rfl rfl

theorem State.canSide_emit (s : State) (o : Out) : (s.emit o).canSide c fs = s.canSide c fs := State.canSide_of_quiet (s.emit_quiet o)

theorem State.canSide_raise (s : State) (a k i p : Nat) : (s.raise a k i p).canSide c fs = s.canSide c fs :=
  State.canSide_of_quiet (s.raise_quiet a k i p)

/-! ## The operations -/

theorem State.canSide_objFlag (s : State) (o k : Nat) (on : Bool) (h : .objStatus ∈ fs) :
    (s.objFlag c o k on).canSide c fs = s.canSide c fs := s.canSide_putN _ _ _ h

theorem State.canSide_objPending (s : State) (o : Nat) (h : .objStatus ∈ fs) : (s.objPending c o).canSide c fs = s.canSide c fs :=
  (State.canSide_objFlag _ o 2 _ h).trans (s.canSide_objFlag o 1 _ h)

theorem State.canSide_setState (s : State) (v : Nat) (h : .canState ∈ fs) : (s.canSetState c v).canSide c fs = s.canSide c fs := by
  unfold State.canSetState
  split
  · rfl
  · exact (State.canSide_of_quiet (State.irqFire_quiet _ _)).trans (s.canSide_putN _ _ _ h)

theorem State.canSide_discard (s : State) (h : .objStatus ∈ fs) (h2 : .canTxDiscarded ∈ fs) :
    (s.canDiscard c).canSide c fs = s.canSide c fs := by
  unfold State.canDiscard
  extract_lets x os n s1 s2
  have h1 : s1.canSide c fs = s.canSide c fs := (State.canSide_putN _ _ _ _ h2).trans (s.canSide_putCan c _)
  have h3 : s2.canSide c fs = s1.canSide c fs := forL_keeps (State.canSide c fs) _ _ _ fun o t => t.canSide_objPending o h
  exact (s2.canSide_settle _ _ _ _ _).trans (h3.trans h1)

theorem State.canSide_modeNow (s : State) (v : Nat) (h : .objStatus ∈ fs) (h2 : .canTxDiscarded ∈ fs) (h3 : .canState ∈ fs) :
    (s.canModeNow c v).canSide c fs = s.canSide c fs := by
  unfold State.canModeNow
  extract_lets x s1 y s2 st
  have h1 : s1.canSide c fs = s.canSide c fs := by
    simp only [s1]
    split
    · exact s.canSide_discard h h2
    · rfl
  have hs2 : s2.canSide c fs = s.canSide c fs := (s1.canSide_putCan c _).trans h1
  split
  · exact hs2
  · exact (s2.canSide_setState _ h3).trans hs2

theorem State.canSide_count (s : State) (h : .objStatus ∈ fs) (h2 : .canTxDiscarded ∈ fs) (h3 : .canState ∈ fs) (h4 : .canBusOffs ∈ fs) :
    (s.canCount c).canSide c fs = s.canSide c fs := by
  unfold State.canCount
  extract_lets st x n v s1
  split
  · rfl
  · split
    · exact (State.canSide_raise _ _ _ _ _).trans ((State.canSide_setState _ 3 h3).trans ((State.canSide_inc _ _ _ h4).trans
        (s.canSide_discard h h2)))
    · have h1 : s1.canSide c fs = s.canSide c fs := s.canSide_setState _ h3
      split
      · exact (s1.canSide_raise _ _ _ _).trans h1
      · split
        · exact (s1.canSide_raise _ _ _ _).trans h1
        · exact h1

end

end Sys2Proof.Machine
end

section
/-!
SUPPORT. Proofs/CanIdle.lean: the bus idle, and what it does with the mode that waits and the frame that wins (sections 15.3 and 15.4).
-/
namespace Sys2Proof.Machine

/-! ## The record of a controller -/

theorem State.cans_setState (s : State) (c v : Nat) : (s.canSetState c v).cans = s.cans := by
  unfold State.canSetState
  split
  · rfl
  · exact (State.cans_of_quiet (State.irqFire_quiet _ _)).trans rfl

theorem State.can_discard (s : State) (c : Nat) : (s.canDiscard c).can c = { s.can c with pend := [], aborts := [] } := by
  unfold State.canDiscard
  extract_lets x os n s1 s2
  have h2 : s2.cans = s1.cans := forL_keeps State.cans _ _ _ fun _ _ => rfl
  have h1 : s1.can c = { s.can c with pend := [], aborts := [] } := s.can_putCan_same c _
  rw [← h1]
  simp only [State.can, ← h2]
  rfl

theorem State.can_modeNow (s : State) (c v : Nat) : (s.canModeNow c v).can c =
    if (s.can c).mode = 1 ∧ v ≠ 1 then { s.can c with pend := [], aborts := [], mode := v, modeDue := none }
    else { s.can c with mode := v, modeDue := none } := by
  unfold State.canModeNow
  extract_lets x s1 y s2 st
  have h2 : s2.can c = if (s.can c).mode = 1 ∧ v ≠ 1 then { s.can c with pend := [], aborts := [], mode := v, modeDue := none }
      else { s.can c with mode := v, modeDue := none } := by
    refine (s1.can_putCan_same c _).trans ?_
    simp only [y, s1, x]
    split
    · rw [s.can_discard c]
    · rfl
  split
  · exact h2
  · rw [← h2, State.can, State.cans_setState]
    rfl

/-! ## Frames that only change their place on the bus -/

/-- The pending frames are those of another list, but for their place on the bus. -/
def SameFrames (l k : List TxFrame) : Prop :=
  ∃ g : TxFrame → TxFrame, (∀ h, (g h).obj = h.obj ∧ (g h).data = h.data ∧ (g h).next = h.next) ∧ k = l.map g

theorem SameFrames.refl (l : List TxFrame) : SameFrames l l := ⟨id, fun _ => ⟨rfl, rfl, rfl⟩, (List.map_id l).symm⟩

theorem SameFrames.length {l k : List TxFrame} (h : SameFrames l k) : k.length = l.length := by
  obtain ⟨g, -, rfl⟩ := h
  simp

theorem SameFrames.mem {l k : List TxFrame} (h : SameFrames l k) {f : TxFrame} (hf : f ∈ l) :
    ∃ e ∈ k, e.obj = f.obj ∧ e.data = f.data ∧ e.next = f.next := by
  obtain ⟨g, hg, rfl⟩ := h
  exact ⟨g f, List.mem_map_of_mem hf, hg f⟩

theorem SameFrames.objs {l k : List TxFrame} (h : SameFrames l k) {P : Nat → Prop} (hl : ∀ f ∈ l, P f.obj) : ∀ f ∈ k, P f.obj := by
  obtain ⟨g, hg, rfl⟩ := h
  intro f hf
  obtain ⟨e, he, rfl⟩ := List.mem_map.1 hf
  rw [(hg e).1]
  exact hl e he

/-! ## Bus idle -/

/-- The mode that waits comes into force. -/
def State.canDue (s : State) (c : Nat) : State :=
  match (s.can c).modeDue with
  | some v => s.canModeNow c v
  | none => s

/-- The best pending frame starts arbitration. -/
def State.canStart (s : State) (c : Nat) : State :=
  if !s.canNormal c then s
  else match s.canBest c with
    | some f =>
      (s.putCan c { s.can c with
        pend := (s.can c).pend.map (fun g => if g.obj = f.obj then { g with onBus := true } else g) }).objPending c f.obj
    | none => s

/-- Whether the bus counts as idle. -/
def State.canFree (s : State) (c : Nat) : Bool := !((s.can c).busy || (s.can c).pend.any (·.onBus))

theorem State.canIdle_eq (s : State) (c : Nat) : s.canIdle c = if s.canFree c then (s.canDue c).canStart c else s := by
  unfold State.canIdle State.canFree
  dsimp only
  by_cases h : ((s.can c).busy || (s.can c).pend.any (·.onBus)) = true
  · rw [if_pos h, if_neg (by rw [h]; decide)]
  · exact (if_neg h).trans (if_pos (by rw [Bool.eq_false_iff.2 h]; decide)).symm

/-- A start of arbitration changes frames' places only. -/
theorem State.canStart_leaves (s : State) (c : Nat) : let t := s.canStart c
    (∃ l, SameFrames (s.can c).pend l ∧ t.can c = { s.can c with pend := l }) ∧ t.so = s.so ∧ t.out = s.out ∧ t.host = s.host ∧
      (∀ f i j, f ≠ .objStatus → t.n f i j = s.n f i j) := by
  have hsame : (∃ l, SameFrames (s.can c).pend l ∧ s.can c = { s.can c with pend := l }) := ⟨_, SameFrames.refl _, rfl⟩
  unfold State.canStart
  dsimp only
  split
  · exact ⟨hsame, rfl, rfl, rfl, fun _ _ _ _ => rfl⟩
  · split
    · next f _ =>
      refine ⟨⟨_, ⟨_, fun h => ?_, rfl⟩, s.can_putCan_same c _⟩, rfl, rfl, rfl, fun f i j hf => ?_⟩
      · split <;> exact ⟨rfl, rfl, rfl⟩
      · exact (State.n_putN_field _ hf).trans (State.n_putN_field _ hf)
    · exact ⟨hsame, rfl, rfl, rfl, fun _ _ _ _ => rfl⟩

theorem State.setState_leaves (s : State) (c v : Nat) : let t := s.canSetState c v
    t.so = s.so ∧ t.out = s.out ∧ t.host.fins = s.host.fins ∧ (∀ f i j, f ≠ .canState → fieldReports f = false → t.n f i j = s.n f i j) ∧
      (v < 2 ^ 32 → t.n .canState c = v) := by
  unfold State.canSetState
  dsimp only
  split
  · next h => exact ⟨rfl, rfl, rfl, fun _ _ _ _ _ => rfl, fun _ => h⟩
  · have hq := (s.putN .canState c v).irqFire_quiet (144 + c)
    refine ⟨State.irqFire_so _ _, State.irqFire_out _ _, congrArg HostIf.fins (State.irqFire_host _ _), fun f i j hf hr => ?_, fun hv => ?_⟩
    · exact (State.n_of_quiet hq f i j hr).trans (State.n_putN_field _ hf)
    · exact (State.n_of_quiet hq _ _ _ rfl).trans (State.n_putN_same _ _ _ _ _ hv)

/-- Nothing waits for what `w` says. -/
def NoneWait (w : Await) (l : List FinCpl) : Prop := ∀ g ∈ l, g.wait ≠ w

theorem State.settle_noneWait (s : State) (p : FinCpl → Bool) (st item value : Nat) {w : Await} (h : NoneWait w s.host.fins)
    (hw : w ≠ .ready) : NoneWait w (s.settle p st item value .ready).host.fins := by
  intro g hg
  obtain ⟨f, hf, rfl⟩ := List.mem_map.1 hg
  split
  · exact fun e => hw e.symm
  · exact h f hf

theorem State.discard_leaves (s : State) (c : Nat) : let t := s.canDiscard c
    t.so = s.so ∧ t.out = s.out ∧ (∀ w, w ≠ .ready → NoneWait w s.host.fins → NoneWait w t.host.fins) ∧
      (∀ f i j, f ≠ .canTxDiscarded → f ≠ .objStatus → t.n f i j = s.n f i j) := by
  unfold State.canDiscard
  extract_lets x os n s1 s2
  have h2 : (s2.so, s2.out, s2.host) = (s.so, s.out, s.host) :=
    (forL_keeps (fun u : State => (u.so, u.out, u.host)) os (fun o t => t.objPending c o) s1 fun _ _ => rfl).trans rfl
  have hn : ∀ f i j, f ≠ .canTxDiscarded → f ≠ .objStatus → s2.n f i j = s.n f i j := fun f i j h k =>
    (forL_keeps (fun u : State => u.n f i j) os (fun o t => t.objPending c o) s1 fun _ _ =>
      (State.n_putN_field _ k).trans (State.n_putN_field _ k)).trans (State.n_putN_field _ h)
  simp only [Prod.mk.injEq] at h2
  obtain ⟨h3, h4, h5⟩ := h2
  exact ⟨h3, h4, fun w hw hf => State.settle_noneWait _ _ _ _ _ (by rw [h5]; exact hf) hw, hn⟩

theorem State.putCan_leaves (s : State) (c : Nat) (v : Can) :
    (s.putCan c v).so = s.so ∧ (s.putCan c v).out = s.out ∧ (s.putCan c v).host = s.host ∧ (s.putCan c v).pts = s.pts := ⟨rfl, rfl, rfl, rfl⟩

/-- The points that a mode or a discard writes. -/
def canIdleFields : List Field := [.canState, .canTxDiscarded, .objStatus]

/-- What an operation at the idle bus leaves besides the controller's record: reports, outputs, completions and points. -/
structure IdleLeaves (s t : State) : Prop where
  so : t.so = s.so
  out : t.out = s.out
  waits : ∀ w, w ≠ .ready → NoneWait w s.host.fins → NoneWait w t.host.fins
  points : ∀ f i j, f ∉ canIdleFields → fieldReports f = false → t.n f i j = s.n f i j

theorem IdleLeaves.refl (s : State) : IdleLeaves s s := ⟨rfl, rfl, fun _ _ h => h, fun _ _ _ _ _ => rfl⟩

theorem IdleLeaves.trans {s t u : State} (h : IdleLeaves s t) (k : IdleLeaves t u) : IdleLeaves s u :=
  ⟨k.so.trans h.so, k.out.trans h.out, fun w hw hn => k.waits w hw (h.waits w hw hn),
    fun f i j hf hr => (k.points f i j hf hr).trans (h.points f i j hf hr)⟩

theorem State.discard_idleLeaves (s : State) (c : Nat) : IdleLeaves s (s.canDiscard c) := by
  obtain ⟨h1, h2, h3, h4⟩ := s.discard_leaves c
  exact ⟨h1, h2, h3, fun f i j hf _ => h4 f i j (fun e => hf (by rw [e]; decide)) (fun e => hf (by rw [e]; decide))⟩

theorem State.putCan_idleLeaves (s : State) (c : Nat) (v : Can) : IdleLeaves s (s.putCan c v) :=
  ⟨rfl, rfl, fun _ _ h => h, fun _ _ _ _ _ => rfl⟩

theorem State.setState_idleLeaves (s : State) (c v : Nat) : IdleLeaves s (s.canSetState c v) := by
  obtain ⟨h1, h2, h3, h4, -⟩ := s.setState_leaves c v
  exact ⟨h1, h2, fun _ _ h => by rw [h3]; exact h, fun f i j hf hr => h4 f i j (fun e => hf (by rw [e]; decide)) hr⟩

theorem State.modeNow_idleLeaves (s : State) (c v : Nat) : IdleLeaves s (s.canModeNow c v) := by
  unfold State.canModeNow
  extract_lets x s1 y s2 st
  have h1 : IdleLeaves s s1 := by
    simp only [s1]
    split
    · exact s.discard_idleLeaves c
    · exact .refl s
  have h2 : IdleLeaves s s2 := h1.trans (s1.putCan_idleLeaves c _)
  split
  · exact h2
  · exact h2.trans (s2.setState_idleLeaves c _)

theorem State.start_idleLeaves (s : State) (c : Nat) : IdleLeaves s (s.canStart c) := by
  obtain ⟨-, h1, h2, h3, h4⟩ := s.canStart_leaves c
  exact ⟨h1, h2, fun _ _ h => by rw [h3]; exact h, fun f i j hf _ => h4 f i j fun e => hf (by rw [e]; decide)⟩

theorem State.idle_idleLeaves (s : State) (c : Nat) : IdleLeaves s (s.canIdle c) := by
  rw [s.canIdle_eq c]
  split
  · refine IdleLeaves.trans (t := s.canDue c) ?_ (State.start_idleLeaves _ c)
    unfold State.canDue
    split
    · exact s.modeNow_idleLeaves c _
    · exact .refl s
  · exact .refl s

/-- At the idle bus only the frames, the aborts and the mode of a controller change. -/
theorem State.canIdle_can (s : State) (c : Nat) : ∃ l a m d, (s.canIdle c).can c = { s.can c with pend := l, aborts := a, mode := m, modeDue := d } ∧
    (l = [] ∨ SameFrames (s.can c).pend l) := by
  have hself : ∃ l a m d, s.can c = { s.can c with pend := l, aborts := a, mode := m, modeDue := d } ∧
      (l = [] ∨ SameFrames (s.can c).pend l) := ⟨_, _, _, _, rfl, .inr (SameFrames.refl _)⟩
  rw [s.canIdle_eq c]
  split
  · have hdue : ∃ l a m d, (s.canDue c).can c = { s.can c with pend := l, aborts := a, mode := m, modeDue := d } ∧
        (l = [] ∨ SameFrames (s.can c).pend l) := by
      unfold State.canDue
      split
      · rw [s.can_modeNow c]
        split
        · exact ⟨_, _, _, _, rfl, .inl rfl⟩
        · exact ⟨_, _, _, _, rfl, .inr (SameFrames.refl _)⟩
      · exact hself
    obtain ⟨⟨k, hk, ht⟩, -⟩ := (s.canDue c).canStart_leaves c
    obtain ⟨l, a, m, d, hd, hl⟩ := hdue
    rw [hd] at hk ht
    refine ⟨k, a, m, d, ht, ?_⟩
    rcases hl with rfl | ⟨g, hg, rfl⟩
    · obtain ⟨e, -, rfl⟩ := hk
      exact .inl rfl
    · obtain ⟨e, he, rfl⟩ := hk
      refine .inr ⟨e ∘ g, fun h => ?_, List.map_map⟩
      obtain ⟨h1, h2, h3⟩ := hg h
      obtain ⟨k1, k2, k3⟩ := he (g h)
      exact ⟨k1.trans h1, k2.trans h2, k3.trans h3⟩
  · exact hself

/-- With no mode that waits, only the place of a frame on the bus changes, and the published state stays. -/
theorem State.canIdle_steady (s : State) (c : Nat) (h : (s.can c).modeDue = none) :
    (∃ l, SameFrames (s.can c).pend l ∧ (s.canIdle c).can c = { s.can c with pend := l }) ∧ (s.canIdle c).n .canState c = s.n .canState c := by
  rw [s.canIdle_eq c]
  have hd : s.canDue c = s := by rw [State.canDue, h]
  split
  · obtain ⟨h1, -, -, -, h2⟩ := (s.canDue c).canStart_leaves c
    rw [hd] at h1 h2 ⊢
    exact ⟨h1, h2 _ _ _ (by decide)⟩
  · exact ⟨⟨_, SameFrames.refl _, rfl⟩, rfl⟩

theorem State.canIdle_canSide {c : Nat} {fs : List Field} (s : State) (h : .objStatus ∈ fs) (h2 : .canTxDiscarded ∈ fs) (h3 : .canState ∈ fs) :
    (s.canIdle c).canSide c fs = s.canSide c fs := by
  have hstart : ∀ u : State, (u.canStart c).canSide c fs = u.canSide c fs := fun u => by
    unfold State.canStart
    split
    · rfl
    · split
      · exact (State.canSide_objPending _ _ h).trans (u.canSide_putCan c _)
      · rfl
  rw [s.canIdle_eq c]
  split
  · refine (hstart _).trans ?_
    unfold State.canDue
    split
    · exact s.canSide_modeNow _ h h2 h3
    · rfl
  · rfl

end Sys2Proof.Machine
end

section
/-!
SUPPORT. Proofs/CanSends.lean: sends that fall due, and aborts (sections 15.3 and 15.6).
-/
namespace Sys2Proof.Machine

/-- A send that finds a frame of its object: the frame takes the data, or lets it wait behind itself. -/
def TxFrame.taking (f : TxFrame) (data : List Byte) (frank : Option Nat) : TxFrame :=
  if f.onBus then { f with next := some data } else { f with data := data, frank := frank }

theorem TxFrame.taking_obj (f : TxFrame) (data : List Byte) (frank : Option Nat) : (f.taking data frank).obj = f.obj := by
  unfold TxFrame.taking
  split <;> rfl

theorem TxFrame.taking_data (f : TxFrame) (data : List Byte) (frank : Option Nat) :
    (f.taking data frank).data = data ∨ (f.taking data frank).next = some data := by
  unfold TxFrame.taking
  split
  · exact .inr rfl
  · exact .inl rfl

/-- The three things that a send which falls due does. -/
theorem State.canQueue_cases (s : State) (c o : Nat) (data : List Byte) (frank : Option Nat) : let t := s.canQueue c o data frank
    (s.canNormal c = false ∧ t = s.inc .canTxRefused c) ∨
    (s.canNormal c = true ∧ ∃ f, (s.can c).pend.find? (fun f => f.obj == o) = some f ∧
      let u := s.putCan c { s.can c with pend := (s.can c).pend.map (fun h => if h.obj = o then f.taking data frank else h) }
      (t = u ∨ t = u.objReplaced c o)) ∨
    (s.canNormal c = true ∧ (s.can c).pend.find? (fun f => f.obj == o) = none ∧
      t = ((s.putCan c { s.can c with pend := (s.can c).pend ++ [⟨o, data, false, none, frank⟩] }).objPending c o).canIdle c) := by
  unfold State.canQueue
  dsimp only
  cases hn : s.canNormal c with
  | false => exact .inl ⟨rfl, rfl⟩
  | true =>
    rw [if_neg (by decide)]
    cases hf : (s.can c).pend.find? (fun f => f.obj == o) with
    | none => exact .inr (.inr ⟨rfl, rfl, rfl⟩)
    | some f =>
      refine .inr (.inl ⟨rfl, f, rfl, ?_⟩)
      dsimp only
      split
      · exact .inl rfl
      · exact .inr rfl

theorem State.canQueue_due (s : State) (c o : Nat) (data : List Byte) (frank : Option Nat) :
    SendDue s (s.canQueue c o data frank) c o data := by
  rcases s.canQueue_cases c o data frank with ⟨hn, ht⟩ | ⟨hn, f, hf, ht⟩ | ⟨hn, hf, ht⟩
  · rw [ht]
    exact ⟨fun _ => ⟨State.w_put_same _ _ _ _ _, rfl⟩, fun h => absurd (hn.symm.trans h) (by decide)⟩
  · have hobj : f.obj = o := by simpa using List.find?_some hf
    have hmem : f ∈ (s.can c).pend := List.mem_of_find?_eq_some hf
    have hpend : ((s.canQueue c o data frank).can c).pend =
        (s.can c).pend.map (fun h => if h.obj = o then f.taking data frank else h) := by
      rcases ht with ht | ht <;> rw [ht] <;> exact congrArg Can.pend (s.can_putCan_same c _)
    refine ⟨fun h => absurd (hn.symm.trans h) (by decide), fun _ _ => ?_⟩
    rw [hpend]
    refine ⟨⟨f.taking data frank, List.mem_map.2 ⟨f, hmem, if_pos hobj⟩, (f.taking_obj _ _).trans hobj, f.taking_data _ _⟩, fun _ => ?_, fun _ => ?_⟩
    · simp only [List.all_eq_true] at *
      rename_i hall
      have := hall f hmem
      simp [hobj] at this
    · rw [List.length_map]
  · rw [ht]
    refine ⟨fun h => absurd (hn.symm.trans h) (by decide), fun _ hd => ?_⟩
    have hu := s.can_putCan_same c { s.can c with pend := (s.can c).pend ++ [⟨o, data, false, none, frank⟩] }
    generalize hv : ((s.putCan c { s.can c with pend := (s.can c).pend ++ [⟨o, data, false, none, frank⟩] }).objPending c o) = u
    have hc : u.can c = { s.can c with pend := (s.can c).pend ++ [⟨o, data, false, none, frank⟩] } := by rw [← hv]; exact hu
    obtain ⟨⟨l, hl, hcan⟩, -⟩ := u.canIdle_steady c (by rw [hc]; exact hd)
    rw [hc] at hl
    rw [hcan]
    obtain ⟨e, he, h1, h2, -⟩ := hl.mem (f := ⟨o, data, false, none, frank⟩) (by simp)
    have hlen : l.length = (s.can c).pend.length + 1 := hl.length.trans (by simp)
    refine ⟨⟨e, he, h1, .inl h2⟩, fun _ => hlen, fun ha => ?_⟩
    have hno := List.find?_eq_none.1 hf
    obtain ⟨x, hx, hxo⟩ := List.any_eq_true.1 ha
    exact absurd hxo (hno x hx)

/-- The points that a send writes. -/
def canQueueFields : List Field := [.canState, .canTxDiscarded, .canTxRefused, .objStatus]

theorem State.canSide_mono {s t : State} {c : Nat} {fs gs : List Field} (h : t.canSide c fs = s.canSide c fs) (hs : fs ⊆ gs) :
    t.canSide c gs = s.canSide c gs :=
  Prod.ext (State.aside_fields_mono (congrArg Prod.fst h) hs) (congrArg Prod.snd h :)

theorem State.canSide_n {s t : State} {c : Nat} {fs : List Field} (h : t.canSide c fs = s.canSide c fs) {f : Field} (i j : Nat)
    (hf : f ∉ fs) (hr : fieldReports f = false) : t.n f i j = s.n f i j :=
  State.aside_n (congrArg Prod.fst h) f i j hr (by simpa [inFields] using hf)

theorem State.canQueue_canSide {c : Nat} (s : State) (o : Nat) (data : List Byte) (frank : Option Nat) :
    (s.canQueue c o data frank).canSide c canQueueFields = s.canSide c canQueueFields := by
  rcases s.canQueue_cases c o data frank with ⟨-, ht⟩ | ⟨-, f, -, ht⟩ | ⟨-, -, ht⟩
  · rw [ht]; exact s.canSide_inc _ _ (by decide)
  · rcases ht with ht | ht <;> rw [ht]
    · exact s.canSide_putCan c _
    · exact (State.canSide_putN _ _ _ _ (by decide)).trans (s.canSide_putCan c _)
  · rw [ht]
    exact (State.canIdle_canSide _ (by decide) (by decide) (by decide)).trans
      ((State.canSide_objPending _ o (by decide)).trans (s.canSide_putCan c _))

/-- What a send depends on of the state before it. -/
theorem SendDue.of {s u t : State} {c o : Nat} {data : List Byte} (h : SendDue u t c o data) (hn : u.canNormal c = s.canNormal c)
    (hr : u.n .canTxRefused c = s.n .canTxRefused c) (hp : (u.can c).pend = (s.can c).pend)
    (hd : (u.can c).modeDue = (s.can c).modeDue) : SendDue s t c o data := by
  unfold SendDue at h ⊢
  rw [← hn, ← hr, ← hp, ← hd]
  exact h

/-! ## The three sends -/

theorem canPeriodicSend_due (c : CanNo) (o : ObjNo) (s : State) (hs : s.objSends c o = true) (hp : s.n .objPeriodMs (objIx c o) ≠ 0)
    (ht : s.clk.t0 % msNs (s.n .objPeriodMs (objIx c o)) = 0) (hm : s.mode ≠ 0) : Yields (exec (.canPeriodicSend c o) s) fun t =>
      SendDue s t c o (objBytes s.led c o (s.n .objLen (objIx c o))) ∧ CanOnly s t c canSendFields := by
  have hx : exec (.canPeriodicSend c o) s = .next (s.canQueue c o (objBytes s.led c o (s.n .objLen (objIx c o))) none) :=
    congrArg Host.Outcome.next (if_pos ⟨hs, hp, ht, hm⟩)
  rw [hx]
  exact yields_next ⟨s.canQueue_due _ _ _ _, CanOnly.of_canSide (State.canSide_mono (s.canQueue_canSide _ _ _) (by decide))⟩

theorem Store.get_objBytes {l k : Store} (c o len : Nat) (h : ∀ i j, Store.get l ⟨.objData, i, j⟩ = Store.get k ⟨.objData, i, j⟩) :
    objBytes l c o len = objBytes k c o len := by
  unfold objBytes
  simp only [h]

theorem canTxCmdSend_due (c : CanNo) (o : ObjNo) (s : State) (hs : s.objSends c o = true) (hp : s.n .objPeriodMs (objIx c o) = 0) :
    Yields (exec (.canTxCmdSend c o) s) fun t =>
      t.n .objTxCmd (objIx c o) = 1 ∧ SendDue s t c o (objBytes s.pts c o (s.n .objLen (objIx c o))) ∧ CanOnly s t c canSendFields := by
  let u := s.putN .objTxCmd (objIx c o) 1
  have hn : ∀ {f : Field}, f ≠ .objTxCmd → ∀ i, u.n f i = s.n f i := fun hf i => State.n_putN_field _ hf
  have hdata : objBytes u.pts c o (u.n .objLen (objIx c o)) = objBytes s.pts c o (s.n .objLen (objIx c o)) := by
    rw [hn (by decide)]
    exact Store.get_objBytes _ _ _ fun i j => State.w_putN_field s (by decide)
  have hx : exec (.canTxCmdSend c o) s = .next (u.canQueue c o (objBytes s.pts c o (s.n .objLen (objIx c o))) none) := by
    refine congrArg Host.Outcome.next ((if_pos ⟨?_, ?_⟩).trans (by rw [hdata]))
    · have := hn (f := .objDir) (by decide) (objIx c o)
      rw [State.objSends] at hs ⊢
      rw [this]
      exact hs
    · exact (hn (by decide) _).trans hp
  rw [hx]
  refine yields_next ⟨?_, SendDue.of (u.canQueue_due _ _ _ _) ?_ (hn (by decide) _) rfl rfl, CanOnly.of_canSide
    ((State.canSide_mono (u.canQueue_canSide _ _ _) (by decide)).trans (s.canSide_putN _ _ _ (by decide)))⟩
  · exact (State.canSide_n (u.canQueue_canSide _ _ _) _ _ (by decide) rfl).trans (State.n_putN_same _ _ _ _ _ (by decide))
  · rw [State.canNormal, State.canNormal, State.mode, hn (by decide), hn (by decide)]
    rfl

theorem State.canQueue_frankNext (s : State) (c o : Nat) (data : List Byte) (frank : Option Nat) :
    ((s.canQueue c o data frank).can c).frankNext = (s.can c).frankNext := by
  rcases s.canQueue_cases c o data frank with ⟨-, ht⟩ | ⟨-, f, -, ht⟩ | ⟨-, -, ht⟩
  · rw [ht]; rfl
  · rcases ht with ht | ht <;> rw [ht] <;> exact (congrArg Can.frankNext (s.can_putCan_same c _)).trans rfl
  · obtain ⟨l, a, m, d, hc, -⟩ := State.canIdle_can
      ((s.putCan c { s.can c with pend := (s.can c).pend ++ [⟨o, data, false, none, frank⟩] }).objPending c o) c
    rw [ht, hc]
    exact (congrArg Can.frankNext (s.can_putCan_same c _)).trans rfl

theorem frankingMessageSend_due (c : CanNo) (s : State) (hu : s.unitOn 4 c = true) (hf : s.n .canFrankMode c = 1) (hr : s.n .pairRole ≠ 2)
    (hm : s.mode ≠ 0) (ht : s.clk.t0 % msNs (s.n .canFrankPeriodMs c) = 0) : Yields (exec (.frankingMessageSend c) s) fun t =>
      (t.can c).frankNext = ((s.can c).frankNext + 1) % 256 ∧
      SendDue s t c (s.n .canFrankObj c) (frankBytes (s.can c).frankNext (settingOf s.te) (s.can c).frankPrev) ∧
      CanOnly s t c canSendFields := by
  let u := s.putCan c { s.can c with frankNext := ((s.can c).frankNext + 1) % 256 }
  have hc : u.can c = { s.can c with frankNext := ((s.can c).frankNext + 1) % 256 } := s.can_putCan_same c _
  have hx : exec (.frankingMessageSend c) s = .next (u.canQueue c (s.n .canFrankObj c)
      (frankBytes (s.can c).frankNext (settingOf s.te) (s.can c).frankPrev) (some (s.can c).frankNext)) :=
    congrArg Host.Outcome.next (if_pos ⟨hu, hf, hr, hm, ht⟩)
  rw [hx]
  refine yields_next ⟨?_, SendDue.of (u.canQueue_due _ _ _ _) ?_ rfl (by rw [hc]) (by rw [hc]), CanOnly.of_canSide
    ((State.canSide_mono (u.canQueue_canSide _ _ _) (by decide)).trans (s.canSide_putCan c _))⟩
  · rw [u.canQueue_frankNext, hc]
  · rw [State.canNormal, State.canNormal, hc]
    rfl

/-! ## Aborts (R438) -/

theorem State.n_objFlag (s : State) (c o k : Nat) (b : Bool) (hk : k < 32) :
    (s.objFlag c o k b).n .objStatus (objIx c o) = Arith.setBit (s.n .objStatus (objIx c o)) k b :=
  s.n_putN_same _ _ _ _ (setBit_lt b (s.n_lt _ _ _) hk)

/-- The bits of an object's status after its pending bits are written. -/
theorem State.objPending_bits (s : State) (c o k : Nat) (h2 : k ≠ 2) : Arith.bit ((s.objPending c o).n .objStatus (objIx c o)) k =
    if k = 1 then ((s.can c).pend.find? (fun x => x.obj == o)).isSome else Arith.bit (s.n .objStatus (objIx c o)) k := by
  unfold State.objPending
  rw [State.n_objFlag _ _ _ _ _ (by decide), bit_setBit, if_neg h2, State.n_objFlag _ _ _ _ _ (by decide), bit_setBit]

/-- An abort ends the episodes of its object first. -/
theorem State.episodesEnd_bits (s : State) (c o : Nat) : let w := ((s.objFlag c o 3 false).objFlag c o 4 false).n .objStatus (objIx c o)
    Arith.bit w 3 = false ∧ Arith.bit w 4 = false := by
  dsimp only
  rw [State.n_objFlag _ _ _ _ _ (by decide), bit_setBit, bit_setBit, State.n_objFlag _ _ _ _ _ (by decide), bit_setBit]
  exact ⟨rfl, rfl⟩

theorem State.canAbortObj_leaves (s : State) (c o : Nat) : let t := (s.canAbortObj c o).1
    Arith.bit (t.n .objStatus (objIx c o)) 3 = false ∧ Arith.bit (t.n .objStatus (objIx c o)) 4 = false ∧
    (∀ f, (s.can c).pend.find? (fun f => f.obj == o) = some f →
      (f.onBus = false → t.can c = { s.can c with pend := (s.can c).pend.filter (fun h => h.obj != o) } ∧
        Arith.bit (t.n .objStatus (objIx c o)) 1 = false) ∧
      (f.onBus = true → o ∈ (t.can c).aborts ∧ ∀ h ∈ (t.can c).pend, h.obj = o → h.next = none)) ∧
    ((s.can c).pend.find? (fun f => f.obj == o) = none → t.cans = s.cans) ∧ t.canSide c [.objStatus] = s.canSide c [.objStatus] := by
  obtain ⟨h3, h4⟩ := s.episodesEnd_bits c o
  have hside : ((s.objFlag c o 3 false).objFlag c o 4 false).canSide c [.objStatus] = s.canSide c [.objStatus] :=
    (State.canSide_objFlag _ o 4 false (by decide)).trans (s.canSide_objFlag o 3 false (by decide))
  unfold State.canAbortObj
  dsimp only
  have hcan0 : ((s.objFlag c o 3 false).objFlag c o 4 false).cans = s.cans := rfl
  generalize (s.objFlag c o 3 false).objFlag c o 4 false = s0 at h3 h4 hside hcan0 ⊢
  cases hf : (s.can c).pend.find? (fun f => f.obj == o) with
  | none => exact ⟨h3, h4, fun f h => absurd h.symm (Option.some_ne_none f), fun _ => hcan0, hside⟩
  | some f =>
    dsimp only
    cases hb : f.onBus with
    | true =>
      rw [if_pos rfl]
      have hc := s0.can_putCan_same c { s.can c with
        pend := (s.can c).pend.map (fun h => if h.obj = o then { h with next := none } else h),
        aborts := if (s.can c).aborts.contains o then (s.can c).aborts else o :: (s.can c).aborts }
      refine ⟨h3, h4, fun g hg => ?_, fun h => absurd h (Option.some_ne_none f), (s0.canSide_putCan c _).trans hside⟩
      obtain rfl := Option.some.inj hg
      refine ⟨fun hn => absurd (hb.symm.trans hn) (by decide), fun _ => ⟨?_, fun h hm ho => ?_⟩⟩
      · rw [hc]
        dsimp only
        split
        · next hco => simpa using hco
        · exact List.mem_cons_self
      · rw [hc] at hm
        obtain ⟨e, -, rfl⟩ := List.mem_map.1 hm
        split
        · rfl
        · next hne => rw [if_neg hne] at ho; exact absurd ho hne
    | false =>
      rw [if_neg (by decide)]
      have hc := s0.can_putCan_same c { s.can c with pend := (s.can c).pend.filter (fun h => h.obj != o) }
      refine ⟨?_, ?_, fun g hg => ?_, fun h => absurd h (Option.some_ne_none f), (State.canSide_objPending _ o (by decide)).trans ((s0.canSide_putCan c _).trans hside)⟩
      · rw [State.objPending_bits _ _ _ _ (by decide)]; exact h3
      · rw [State.objPending_bits _ _ _ _ (by decide)]; exact h4
      · obtain rfl := Option.some.inj hg
        refine ⟨fun _ => ⟨hc, ?_⟩, fun hn => absurd (hb.symm.trans hn) (by decide)⟩
        rw [State.objPending_bits _ _ _ _ (by decide), if_pos rfl, hc]
        simp

theorem canTxCmdAbort_aborts (c : CanNo) (o : ObjNo) (s : State) : Yields (exec (.canTxCmdAbort c o) s) (fun t =>
    t.n .objTxCmd (objIx c o) = 2 ∧ Arith.bit (t.n .objStatus (objIx c o)) 3 = false ∧ Arith.bit (t.n .objStatus (objIx c o)) 4 = false ∧
    (∀ f, (s.can c).pend.find? (fun f => f.obj == o.val) = some f →
      (f.onBus = false → t.can c = { s.can c with pend := (s.can c).pend.filter (fun h => h.obj != o.val) } ∧
        Arith.bit (t.n .objStatus (objIx c o)) 1 = false) ∧
      (f.onBus = true → o.val ∈ (t.can c).aborts ∧ ∀ h ∈ (t.can c).pend, h.obj = o.val → h.next = none)) ∧
    ((s.can c).pend.find? (fun f => f.obj == o.val) = none → t.cans = s.cans) ∧ CanOnly s t c [.objStatus, .objTxCmd]) := by
  let u := s.putN .objTxCmd (objIx c o) 2
  obtain ⟨h3, h4, hf, hn, hside⟩ := u.canAbortObj_leaves c o
  have hx : exec (.canTxCmdAbort c o) s = .next (u.canAbortObj c o).1 := rfl
  rw [hx]
  refine yields_next ⟨?_, h3, h4, hf, hn, CanOnly.of_canSide ((State.canSide_mono hside (by decide)).trans (s.canSide_putN _ _ _ (by decide)))⟩
  exact (State.canSide_n hside _ _ (by decide) rfl).trans (State.n_putN_same _ _ _ _ _ (by decide))

/-- Settles O24, command by command. -/
theorem canSendsFallDue : Obligations.CanSendsFallDue := by
  unfold Obligations.CanSendsFallDue
  exact fun c o s => ⟨canPeriodicSend_due c o s, canTxCmdSend_due c o s, frankingMessageSend_due c s, canTxCmdAbort_aborts c o s⟩

end Sys2Proof.Machine
end

section
/-!
SUPPORT. Proofs/CanAttempts.lean: the ends of send attempts (sections 15.3 to 15.5).
-/
namespace Sys2Proof.Machine

/-! ## The counters' consequences (R439) -/

/-- The points that a controller writes when it follows its counters. -/
def canCountFields : List Field := [.canState, .canTxDiscarded, .objStatus, .canBusOffs]

theorem State.canCount_n (s : State) (c : Nat) (f : Field) (i j : Nat) (hf : f ∉ canCountFields) (hr : fieldReports f = false) :
    (s.canCount c).n f i j = s.n f i j :=
  State.canSide_n (s.canSide_count (fs := canCountFields) (by decide) (by decide) (by decide) (by decide)) i j hf hr

theorem State.discard_outKept (s : State) (c : Nat) : OutKept s (s.canDiscard c) := .of_out (s.discard_leaves c).2.1

theorem State.setState_outKept (s : State) (c v : Nat) : OutKept s (s.canSetState c v) := .of_out (s.setState_leaves c v).2.1

theorem State.canCount_outKept (s : State) (c : Nat) : OutKept s (s.canCount c) := by
  unfold State.canCount
  extract_lets st x n v s1
  split
  · exact .of_out rfl
  · split
    · exact ((s.discard_outKept c).trans ((OutKept.put _ _ _ _ _).trans (State.setState_outKept _ c 3))).trans (State.raise_outKept _ _ _ _ _)
    · split
      · exact (s.setState_outKept c v).trans (s1.raise_outKept _ _ _ _)
      · split
        · exact (s.setState_outKept c v).trans (s1.raise_outKept _ _ _ _)
        · exact s.setState_outKept c v

theorem State.can_of_quiet {s t : State} (h : t.quiet = s.quiet) (c : Nat) : t.can c = s.can c := by
  simp only [State.can, State.cans_of_quiet h]

theorem State.can_setState (s : State) (c v e : Nat) : (s.canSetState c v).can e = s.can e := by
  simp only [State.can, State.cans_setState]

/-- Short of bus-off the controller's record stays. -/
theorem State.canCount_steady (s : State) (c : Nat) (h : s.n .canTec c < 256 ∨ (s.n .canState c ≠ 1 ∧ s.n .canState c ≠ 2)) :
    (s.canCount c).can c = s.can c := by
  unfold State.canCount
  extract_lets st x n v s1
  split
  · rfl
  · next hst =>
    rw [if_neg (by omega)]
    split
    · exact (State.can_of_quiet (State.raise_quiet _ _ _ _ _) c).trans (s.can_setState c v c)
    · split
      · exact (State.can_of_quiet (State.raise_quiet _ _ _ _ _) c).trans (s.can_setState c v c)
      · exact s.can_setState c v c

/-- At 256 the controller goes bus-off with all that was pending. -/
theorem State.canCount_busOff (s : State) (c : Nat) (h1 : s.n .canState c = 1 ∨ s.n .canState c = 2) (h : 256 ≤ s.n .canTec c) :
    let t := s.canCount c
    t.can c = { s.can c with pend := [], aborts := [] } ∧ t.n .canState c = 3 ∧ t.w .canBusOffs c = Word.ofNat (s.n .canBusOffs c + 1) := by
  unfold State.canCount
  extract_lets st x n v s1 t
  have ht : t = (((s.canDiscard c).inc .canBusOffs c).canSetState c 3).raise 0x0603 kCan c n :=
    (if_neg (show ¬(st ≠ 1 ∧ st ≠ 2) by simp only [st]; omega)).trans (if_pos h)
  have hq : t.quiet = (((s.canDiscard c).inc .canBusOffs c).canSetState c 3).quiet := by rw [ht]; exact State.raise_quiet _ _ _ _ _
  obtain ⟨-, -, -, hn, hst⟩ := ((s.canDiscard c).inc .canBusOffs c).setState_leaves c 3
  refine ⟨?_, (State.n_of_quiet hq _ _ _ rfl).trans (hst (by decide)), ?_⟩
  · rw [State.can_of_quiet hq, State.can_setState]
    exact s.can_discard c
  · have hoff : (s.canDiscard c).n .canBusOffs c = s.n .canBusOffs c := (s.discard_leaves c).2.2.2 _ _ _ (by decide) (by decide)
    have hw : (((s.canDiscard c).inc .canBusOffs c).canSetState c 3).w .canBusOffs c = ((s.canDiscard c).inc .canBusOffs c).w .canBusOffs c :=
      BitVec.eq_of_toNat_eq (hn _ _ _ (by decide) rfl)
    rw [State.w_of_quiet hq _ _ _ rfl, hw, ← hoff]
    exact State.w_put_same _ _ _ _ _

theorem State.canCount_can (s : State) (c : Nat) : ∃ l a, (s.canCount c).can c = { s.can c with pend := l, aborts := a } ∧
    (l = [] ∨ l = (s.can c).pend) := by
  by_cases h : s.n .canTec c < 256 ∨ (s.n .canState c ≠ 1 ∧ s.n .canState c ≠ 2)
  · exact ⟨_, _, s.canCount_steady c h, .inr rfl⟩
  · exact ⟨_, _, (s.canCount_busOff c (by omega) (by omega)).1, .inl rfl⟩

/-- A controller follows its counters, and then the bus is idle. -/
def State.canSettled (s : State) (c : Nat) : State := (s.canCount c).canIdle c

theorem State.canSettled_n (s : State) (c : Nat) (f : Field) (i j : Nat) (hf : f ∉ canCountFields) (hr : fieldReports f = false) :
    (s.canSettled c).n f i j = s.n f i j :=
  (((s.canCount c).idle_idleLeaves c).points f i j (fun h => hf (by revert h; simp [canIdleFields, canCountFields]; tauto)) hr).trans
    (s.canCount_n c f i j hf hr)

theorem State.canSettled_w (s : State) (c : Nat) (f : Field) (i j : Nat) (hf : f ∉ canCountFields) (hr : fieldReports f = false) :
    (s.canSettled c).w f i j = s.w f i j := BitVec.eq_of_toNat_eq (s.canSettled_n c f i j hf hr)

theorem State.canSettled_outKept (s : State) (c : Nat) : OutKept s (s.canSettled c) :=
  (s.canCount_outKept c).trans (.of_out ((s.canCount c).idle_idleLeaves c).out)

theorem State.canSettled_canSide {c : Nat} {fs : List Field} (s : State) (h : canCountFields ⊆ fs) :
    (s.canSettled c).canSide c fs = s.canSide c fs :=
  ((s.canCount c).canIdle_canSide (h (by decide)) (h (by decide)) (h (by decide))).trans
    (s.canSide_count (h (by decide)) (h (by decide)) (h (by decide)) (h (by decide)))

/-- Only the frames, the aborts and the mode of the controller change, and no frame of another object comes. -/
theorem State.canSettled_can (s : State) (c : Nat) : ∃ l a m d, (s.canSettled c).can c = { s.can c with pend := l, aborts := a, mode := m, modeDue := d } ∧
    (l = [] ∨ SameFrames (s.can c).pend l) := by
  obtain ⟨l, a, h1, hl⟩ := s.canCount_can c
  obtain ⟨k, b, m, d, h2, hk⟩ := (s.canCount c).canIdle_can c
  rw [h1] at h2 hk
  refine ⟨k, b, m, d, h2, ?_⟩
  rcases hk with hk | hk
  · exact .inl hk
  · rcases hl with rfl | rfl
    · obtain ⟨g, -, rfl⟩ := hk
      exact .inl rfl
    · exact .inr hk

theorem State.canSettled_steady (s : State) (c : Nat) (h : s.n .canTec c < 256) (hd : (s.can c).modeDue = none) :
    ∃ l, SameFrames (s.can c).pend l ∧ (s.canSettled c).can c = { s.can c with pend := l } := by
  have hc := s.canCount_steady c (.inl h)
  obtain ⟨⟨l, hl, hk⟩, -⟩ := (s.canCount c).canIdle_steady c (by rw [hc]; exact hd)
  rw [hc] at hl hk
  exact ⟨l, hl, hk⟩

end Sys2Proof.Machine
end

section
/-!
SUPPORT. Proofs/CanResults.lean: success, lost arbitration and errors of a send attempt (sections 15.3 to 15.5).
-/
namespace Sys2Proof.Machine

/-! ## Success (R438) -/

/-- The frames of a controller after one of them was sent. -/
def pendAfter (l : List TxFrame) (f : TxFrame) : List TxFrame :=
  match f.next with
  | some d => l.map (fun h => if h.obj = f.obj then h.follow d else h)
  | none => l.filter (fun h => h.obj != f.obj)

/-- The frame is on the bus and counted. -/
def State.txCounted (s : State) (c : Nat) (f : TxFrame) (t : Nat) : State :=
  (((s.inc .canTxFrames c).inc .objCount (objIx c f.obj)).put64 .objTime (objIx c f.obj) t).putN .canTec c (s.n .canTec c - 1)

/-- The episodes of the object end, and what waits for it is complete. -/
def State.txCleared (s : State) (c : Nat) (f : TxFrame) : State :=
  let s3 := ((s.objFlag c f.obj 3 false).objFlag c f.obj 4 false).objPending c f.obj
  let s4 := match f.frank with | some k => s3.putN .canFrankSeq c k | none => s3
  s4.settle (fun g => g.wait == .canGone c f.obj) 0 noItem 0 .ready

theorem State.txDone_eq (s : State) (c : Nat) (f : TxFrame) (sof t : Nat) : ∃ y : Can, y.pend = pendAfter (s.can c).pend f ∧
    y.modeDue = (s.can c).modeDue ∧
    s.txDone c f sof t = ((((s.putCan c y).emit (.canFrame c (s.objFrame c f) t)).txCounted c f t).txCleared c f).canSettled c := by
  refine ⟨_, ?_, ?_, rfl⟩
  · rfl
  · rfl

theorem State.txCleared_leaves (s : State) (c : Nat) (f : TxFrame) : let t := s.txCleared c f
    t.cans = s.cans ∧ t.out = s.out ∧ t.clk = s.clk ∧ (∀ g i j, g ≠ .objStatus → g ≠ .canFrankSeq → t.w g i j = s.w g i j) := by
  unfold State.txCleared
  extract_lets s3 s4 t
  have h3 : ∀ g i j, g ≠ .objStatus → s3.w g i j = s.w g i j := fun g i j hg =>
    (State.w_putN_field _ hg).trans ((State.w_putN_field _ hg).trans ((State.w_putN_field _ hg).trans (State.w_putN_field _ hg)))
  have h4 : s4.cans = s.cans ∧ s4.out = s.out ∧ s4.clk = s.clk ∧ (∀ g i j, g ≠ .objStatus → g ≠ .canFrankSeq → s4.w g i j = s.w g i j) := by
    simp only [s4]
    split
    · exact ⟨rfl, rfl, rfl, fun g i j hg hk => (State.w_putN_field _ hk).trans (h3 g i j hg)⟩
    · exact ⟨rfl, rfl, rfl, fun g i j hg _ => h3 g i j hg⟩
  exact h4

theorem State.clk_discard (s : State) (c : Nat) : (s.canDiscard c).clk = s.clk := by
  unfold State.canDiscard
  extract_lets x os n s1 s2
  have h : s2.clk = s1.clk := forL_keeps State.clk _ _ _ fun _ _ => rfl
  exact h.trans rfl

theorem State.clk_setState (s : State) (c v : Nat) : (s.canSetState c v).clk = s.clk := by
  unfold State.canSetState
  split
  · rfl
  · exact (State.clk_of_quiet (State.irqFire_quiet _ _)).trans rfl

theorem State.clk_count (s : State) (c : Nat) : (s.canCount c).clk = s.clk := by
  unfold State.canCount
  extract_lets st x n v s1
  have h1 : s1.clk = s.clk := s.clk_setState c v
  split
  · rfl
  · split
    · exact (State.clk_of_quiet (State.raise_quiet _ _ _ _ _)).trans ((State.clk_setState _ c 3).trans (s.clk_discard c))
    · split
      · exact (State.clk_of_quiet (State.raise_quiet _ _ _ _ _)).trans h1
      · split
        · exact (State.clk_of_quiet (State.raise_quiet _ _ _ _ _)).trans h1
        · exact h1

theorem State.clk_idle (s : State) (c : Nat) : (s.canIdle c).clk = s.clk := by
  have hstart : ∀ u : State, (u.canStart c).clk = u.clk := fun u => by
    unfold State.canStart
    split
    · rfl
    · split <;> rfl
  rw [s.canIdle_eq c]
  split
  · refine (hstart _).trans ?_
    unfold State.canDue
    split
    · unfold State.canModeNow
      extract_lets x s1 y s2 st
      have h1 : s1.clk = s.clk := by
        simp only [s1]
        split
        · exact s.clk_discard c
        · rfl
      split
      · exact h1
      · exact (s2.clk_setState c _).trans h1
    · rfl
  · rfl

theorem State.txCounted_leaves (s : State) (c : Nat) (f : TxFrame) (t : Nat) : let u := s.txCounted c f t
    u.w .canTxFrames c = Word.ofNat (s.n .canTxFrames c + 1) ∧
    u.w .objCount (objIx c f.obj) = Word.ofNat (s.n .objCount (objIx c f.obj) + 1) ∧
    u.n64 .objTime (objIx c f.obj) = t % 2 ^ 64 ∧ u.n .canTec c = s.n .canTec c - 1 := by
  unfold State.txCounted
  have htec : s.n .canTec c - 1 < 2 ^ 32 := lt_of_le_of_lt (Nat.sub_le _ _) (s.n_lt _ _ _)
  refine ⟨?_, ?_, ?_, State.n_putN_same _ _ _ _ _ htec⟩
  · rw [State.w_putN_field _ (by decide), State.put64, State.w_putN_field _ (by decide), State.w_putN_field _ (by decide)]
    exact (State.w_put_field _ _ (by decide)).trans (State.w_put_same _ _ _ _ _)
  · rw [State.w_putN_field _ (by decide), State.put64, State.w_putN_field _ (by decide), State.w_putN_field _ (by decide)]
    refine (State.w_put_same _ _ _ _ _).trans ?_
    exact congrArg (fun k => Word.ofNat (k + 1)) (State.n_ext (State.w_put_field s _ (by decide)))
  · rw [State.n64_putN_field _ (by decide), State.n64_put64_mod]

/-- The fields that a success writes. -/
def txDoneFields : List Field :=
  [.canTxFrames, .objCount, .objTime, .canTec, .objStatus, .canFrankSeq, .canState, .canTxDiscarded, .canBusOffs]

theorem State.txCleared_canSide {c : Nat} (s : State) (f : TxFrame) :
    (s.txCleared c f).canSide c txDoneFields = s.canSide c txDoneFields := by
  unfold State.txCleared
  extract_lets s3 s4
  have h3 : s3.canSide c txDoneFields = s.canSide c txDoneFields := (State.canSide_objPending _ _ (by decide)).trans
    ((State.canSide_objFlag _ _ _ _ (by decide)).trans (State.canSide_objFlag _ _ _ _ (by decide)))
  have h4 : s4.canSide c txDoneFields = s.canSide c txDoneFields := by
    simp only [s4]
    split
    · exact (s3.canSide_putN _ _ _ (by decide)).trans h3
    · exact h3
  exact (s4.canSide_settle _ _ _ _ _).trans h4

theorem State.txCounted_canSide {c : Nat} (s : State) (f : TxFrame) (t : Nat) :
    (s.txCounted c f t).canSide c txDoneFields = s.canSide c txDoneFields :=
  (State.canSide_putN _ _ _ _ (by decide)).trans ((State.canSide_put64 _ _ _ (by decide)).trans
    ((State.canSide_inc _ _ _ (by decide)).trans (s.canSide_inc _ _ (by decide))))

theorem pendAfter_gone {l : List TxFrame} {f : TxFrame} (h : f.next = none) : ∀ g ∈ pendAfter l f, g.obj ≠ f.obj := by
  intro g hg
  rw [pendAfter, h] at hg
  simpa using (List.mem_filter.1 hg).2

theorem pendAfter_follows {l : List TxFrame} {f : TxFrame} {b : List Byte} (h : f.next = some b) (hf : f ∈ l) :
    f.follow b ∈ pendAfter l f := by
  rw [pendAfter, h]
  exact List.mem_map.2 ⟨f, hf, if_pos rfl⟩

/-- The whole of a success, from the state at the end of the frame. -/
theorem State.txDone_leaves (s : State) (c : Nat) (f : TxFrame) (sof time : Nat) (hf : f ∈ (s.can c).pend) : let t := s.txDone c f sof time
    t.w .canTxFrames c 0 = Word.ofNat (s.n .canTxFrames c + 1) ∧
    t.w .objCount (objIx c f.obj) 0 = Word.ofNat (s.n .objCount (objIx c f.obj) + 1) ∧
    t.n64 .objTime (objIx c f.obj) = time % 2 ^ 64 ∧ t.n .canTec c = s.n .canTec c - 1 ∧ Out.canFrame c (s.objFrame c f) time ∈ t.out ∧
    (f.next = none → ∀ h ∈ (t.can c).pend, h.obj ≠ f.obj) ∧
    (∀ b, f.next = some b → s.n .canTec c < 256 → (s.can c).modeDue = none →
      ∃ h ∈ (t.can c).pend, h.obj = f.obj ∧ h.data = b ∧ h.next = none) ∧
    t.canSide c txDoneFields = s.canSide c txDoneFields ∧ t.clk = s.clk := by
  obtain ⟨y, hpend, hdue, ht⟩ := s.txDone_eq c f sof time
  let u := (s.putCan c y).emit (.canFrame c (s.objFrame c f) time)
  have hu : u.can c = y := s.can_putCan_same c y
  obtain ⟨h1, h2, h3, h4⟩ := u.txCounted_leaves c f time
  obtain ⟨hc, ho, hk, hw⟩ := (u.txCounted c f time).txCleared_leaves c f
  have hside : ((u.txCounted c f time).txCleared c f).canSide c txDoneFields = s.canSide c txDoneFields :=
    ((u.txCounted c f time).txCleared_canSide f).trans ((u.txCounted_canSide f time).trans
      ((State.canSide_emit _ _).trans (s.canSide_putCan c y)))
  have hv : ((u.txCounted c f time).txCleared c f).can c = y := by rw [State.can, hc]; exact hu
  have hout : Out.canFrame c (s.objFrame c f) time ∈ ((u.txCounted c f time).txCleared c f).out := by
    rw [ho]; exact List.mem_cons_self
  have hn : ∀ g i j, g ≠ .objStatus → g ≠ .canFrankSeq → ((u.txCounted c f time).txCleared c f).n g i j = (u.txCounted c f time).n g i j :=
    fun g i j hg hk => State.n_ext (hw g i j hg hk)
  have htec : ((u.txCounted c f time).txCleared c f).n .canTec c = s.n .canTec c - 1 := (hn _ _ _ (by decide) (by decide)).trans h4
  have h1' : ((u.txCounted c f time).txCleared c f).w .canTxFrames c = Word.ofNat (s.n .canTxFrames c + 1) :=
    (hw _ _ _ (by decide) (by decide)).trans h1
  have h2' : ((u.txCounted c f time).txCleared c f).w .objCount (objIx c f.obj) = Word.ofNat (s.n .objCount (objIx c f.obj) + 1) :=
    (hw _ _ _ (by decide) (by decide)).trans h2
  have h3' : ((u.txCounted c f time).txCleared c f).n64 .objTime (objIx c f.obj) = time % 2 ^ 64 := by
    rw [← h3, State.n64, State.n64, hn _ _ _ (by decide) (by decide), hn _ _ _ (by decide) (by decide)]
  have hclk : ((u.txCounted c f time).txCleared c f).clk = s.clk := hk
  rw [show s.txDone c f sof time = ((u.txCounted c f time).txCleared c f).canSettled c from ht]
  generalize (u.txCounted c f time).txCleared c f = v at hside hv hout htec h1' h2' h3' hclk ⊢
  have hvw : ∀ g i j, g ∉ canCountFields → fieldReports g = false → (v.canSettled c).w g i j = v.w g i j := fun g i j => v.canSettled_w c g i j
  refine ⟨(hvw _ _ _ (by decide) rfl).trans h1', (hvw _ _ _ (by decide) rfl).trans h2', ?_, (v.canSettled_n c _ _ _ (by decide) rfl).trans htec,
    v.canSettled_outKept c hout, fun hnone => ?_, fun b hb hlt hd => ?_, (v.canSettled_canSide (by decide)).trans hside,
    ((v.canCount c).clk_idle c).trans ((v.clk_count c).trans hclk)⟩
  · rw [← h3', State.n64, State.n64, v.canSettled_n c _ _ _ (by decide) rfl, v.canSettled_n c _ _ _ (by decide) rfl]
  · obtain ⟨l, a, m, d, hcan, hl⟩ := v.canSettled_can c
    rw [hcan]
    rw [hv, hpend] at hl
    rcases hl with rfl | hl
    · exact fun h hm => absurd hm (by simp)
    · exact hl.objs (P := (· ≠ f.obj)) (pendAfter_gone hnone)
  · obtain ⟨l, hl, hcan⟩ := v.canSettled_steady c (by omega) (by rw [hv, hdue]; exact hd)
    rw [hcan]
    rw [hv, hpend] at hl
    obtain ⟨e, he, k1, k2, k3⟩ := hl.mem (pendAfter_follows hb hf)
    exact ⟨e, he, k1, k2, k3⟩

theorem canTxAttemptEnd_success (c : CanNo) (o : ObjNo) (sof time : Nat) (f : TxFrame) (s : State)
    (hf : (s.can c).pend.find? (fun f => f.obj == o.val && f.onBus) = some f) :
    Yields (exec (.canTxAttemptEnd c o .success sof time) s) (fun t =>
      t.w .canTxFrames c 0 = Word.ofNat (s.n .canTxFrames c + 1) ∧ t.w .objCount (objIx c o) 0 = Word.ofNat (s.n .objCount (objIx c o) + 1) ∧
      t.n64 .objTime (objIx c o) = time % 2 ^ 64 ∧ t.n .canTec c = s.n .canTec c - 1 ∧ Out.canFrame c (s.objFrame c f) time ∈ t.out ∧
      t.clk = { s.clk with now := max s.clk.now time } ∧
      (f.next = none → ∀ h ∈ (t.can c).pend, h.obj ≠ o) ∧
      (∀ b, f.next = some b → s.n .canTec c < 256 → (s.can c).modeDue = none → ∃ h ∈ (t.can c).pend, h.obj = o ∧ h.data = b ∧ h.next = none) ∧
      CanOnly s t c [.canTxFrames, .objCount, .objTime, .canTec, .objStatus, .canFrankSeq, .canState, .canTxDiscarded, .canBusOffs]) := by
  have hobj : f.obj = o := by
    have := List.find?_some hf
    simp only [Bool.and_eq_true, beq_iff_eq] at this
    exact this.1
  have hx : exec (.canTxAttemptEnd c o .success sof time) s = .next ((s.advance time).txDone c f sof time) :=
    congrArg Host.Outcome.next (by rw [hf])
  obtain ⟨h1, h2, h3, h4, h5, h6, h7, h8, h9⟩ := (s.advance time).txDone_leaves c f sof time (List.mem_of_find?_eq_some hf)
  rw [hx]
  rw [hobj] at h2 h3 h6 h7
  refine yields_next ⟨h1, h2, h3, h4, h5, h9, h6, h7, CanOnly.of_canSide (h8.trans (s.canSide_advance time))⟩

end Sys2Proof.Machine
end

section
/-!
SUPPORT. Proofs/CanErrors.lean: lost arbitration and errors of a send attempt (sections 15.3 to 15.5).
-/
namespace Sys2Proof.Machine

/-! ## Lost arbitration -/

theorem State.txLost_leaves (s : State) (c : Nat) (f : TxFrame) : let t := s.txLost c f
    (t.can c).busy = true ∧ (f.obj ∈ (s.can c).aborts → ∀ h ∈ (t.can c).pend, h.obj ≠ f.obj) ∧
    (f.obj ∉ (s.can c).aborts → (t.can c).pend.length = (s.can c).pend.length ∧ ∀ h ∈ (t.can c).pend, h.obj = f.obj → h.onBus = false) ∧
    t.canSide c [.objStatus] = s.canSide c [.objStatus] := by
  unfold State.txLost
  extract_lets o x gone y s1 t
  have hc1 : s1.can c = y := s.can_putCan_same c y
  have hs1 : s1.canSide c [.objStatus] = s.canSide c [.objStatus] :=
    (State.canSide_objPending _ _ (by decide)).trans (s.canSide_putCan c y)
  have ht : t.can c = y ∧ t.canSide c [.objStatus] = s.canSide c [.objStatus] := by
    simp only [t]
    split
    · exact ⟨hc1, (s1.canSide_settle _ _ _ _ _).trans hs1⟩
    · exact ⟨hc1, hs1⟩
  rw [ht.1]
  refine ⟨rfl, fun hm h hh => ?_, fun hm => ?_, ht.2⟩
  · have hg : gone = true := List.contains_iff_mem.2 hm
    have hp : y.pend = x.pend.filter (fun h => h.obj != o) := if_pos hg
    rw [hp] at hh
    simpa using (List.mem_filter.1 hh).2
  · have hg : ¬gone = true := fun h => hm (List.contains_iff_mem.1 h)
    have hp : y.pend = x.pend.map (fun h => if h.obj = o then { h with onBus := false } else h) := if_neg hg
    rw [hp]
    refine ⟨List.length_map _, fun h hh ho => ?_⟩
    obtain ⟨e, -, rfl⟩ := List.mem_map.1 hh
    split
    · rfl
    · next hne => rw [if_neg hne] at ho; exact absurd ho hne

theorem canTxAttemptEnd_obj {c : CanNo} {o : ObjNo} {f : TxFrame} {s : State}
    (hf : (s.can c).pend.find? (fun f => f.obj == o.val && f.onBus) = some f) : f.obj = o := by
  have := List.find?_some hf
  simp only [Bool.and_eq_true, beq_iff_eq] at this
  exact this.1

theorem canTxAttemptEnd_lost (c : CanNo) (o : ObjNo) (sof time : Nat) (f : TxFrame) (s : State)
    (hf : (s.can c).pend.find? (fun f => f.obj == o.val && f.onBus) = some f) :
    Yields (exec (.canTxAttemptEnd c o .arbitrationLost sof time) s) (fun t =>
      (t.can c).busy = true ∧ t.n .canTec c = s.n .canTec c ∧
      (o.val ∈ (s.can c).aborts → ∀ h ∈ (t.can c).pend, h.obj ≠ o) ∧
      (o.val ∉ (s.can c).aborts → (t.can c).pend.length = (s.can c).pend.length ∧ ∀ h ∈ (t.can c).pend, h.obj = o → h.onBus = false) ∧
      CanOnly s t c [.objStatus]) := by
  have hx : exec (.canTxAttemptEnd c o .arbitrationLost sof time) s = .next ((s.advance time).txLost c f) :=
    congrArg Host.Outcome.next (by rw [hf])
  obtain ⟨h1, h2, h3, h4⟩ := (s.advance time).txLost_leaves c f
  have hside := h4.trans (s.canSide_advance time)
  rw [hx]
  rw [canTxAttemptEnd_obj hf] at h2 h3
  exact yields_next ⟨h1, State.canSide_n hside _ _ (by decide) rfl, h2, h3, CanOnly.of_canSide hside⟩

/-! ## Errors (R439, R442, R443) -/

/-- The fields that an error writes. -/
def txFailedFields : List Field := [.canErrors, .canTec, .objStatus, .canState, .canTxDiscarded, .canBusOffs]

/-- An error, up to the controller following its counters. -/
theorem State.txFailed_eq (s : State) (c : Nat) (f : TxFrame) (res : TxResult) : ∃ u : State, s.txFailed c f res = u.canSettled c ∧
    u.w .canErrors c = Word.ofNat (s.n .canErrors c + 1) ∧
    u.w .canTec c = (if (res == .ackError && s.n .canState c == 2) = true then s.w .canTec c else Word.ofNat (s.n .canTec c + 8)) ∧
    u.n .canState c = s.n .canState c ∧ u.n .canBusOffs c = s.n .canBusOffs c ∧ u.canSide c txFailedFields = s.canSide c txFailedFields := by
  unfold State.txFailed
  extract_lets o x inData ack nb na gone y s1 s2 s3 s4 s5
  have h1w : ∀ g i j, g ≠ .objStatus → g ≠ .canErrors → s1.w g i j = s.w g i j := fun g i j hg hk =>
    (State.w_putN_field _ hg).trans ((State.w_putN_field _ hg).trans (State.w_put_field _ _ hk))
  have h1e : s1.w .canErrors c = Word.ofNat (s.n .canErrors c + 1) :=
    (State.w_putN_field _ (by decide)).trans ((State.w_putN_field _ (by decide)).trans (State.w_put_same _ _ _ _ _))
  have h1s : s1.canSide c txFailedFields = s.canSide c txFailedFields :=
    (State.canSide_objPending _ _ (by decide)).trans ((State.canSide_inc _ _ _ (by decide)).trans (s.canSide_putCan c y))
  have h2 : s2.canSide c txFailedFields = s.canSide c txFailedFields ∧ (∀ g i j, g ≠ .canTec → s2.w g i j = s1.w g i j) ∧
      s2.w .canTec c = (if (res == .ackError && s.n .canState c == 2) = true then s.w .canTec c else Word.ofNat (s.n .canTec c + 8)) := by
    simp only [s2, ack]
    split
    · exact ⟨h1s, fun _ _ _ _ => rfl, h1w _ _ _ (by decide) (by decide)⟩
    · refine ⟨(s1.canSide_putN _ _ _ (by decide)).trans h1s, fun g i j hg => State.w_putN_field _ hg, (State.w_put_same _ _ _ _ _).trans ?_⟩
      exact congrArg (fun k => Word.ofNat (k + 8)) (State.n_ext (h1w _ _ _ (by decide) (by decide)))
  have hflag : ∀ (v : State) (k code : Nat), ((v.objFlag c o k true).raise code kCan c o).canSide c txFailedFields = v.canSide c txFailedFields ∧
      ∀ g i j, g ≠ .objStatus → fieldReports g = false → ((v.objFlag c o k true).raise code kCan c o).w g i j = v.w g i j := fun v k code =>
    ⟨(State.canSide_raise _ _ _ _ _).trans (v.canSide_objFlag _ _ _ (by decide)),
      fun g i j hg hr => (State.w_of_quiet (State.raise_quiet _ _ _ _ _) g i j hr).trans (State.w_putN_field _ hg)⟩
  have h3 : s3.canSide c txFailedFields = s2.canSide c txFailedFields ∧
      ∀ g i j, g ≠ .objStatus → fieldReports g = false → s3.w g i j = s2.w g i j := by
    simp only [s3]
    split
    · exact hflag s2 3 _
    · exact ⟨rfl, fun _ _ _ _ _ => rfl⟩
  have h4 : s4.canSide c txFailedFields = s3.canSide c txFailedFields ∧
      ∀ g i j, g ≠ .objStatus → fieldReports g = false → s4.w g i j = s3.w g i j := by
    simp only [s4]
    split
    · exact hflag s3 4 _
    · exact ⟨rfl, fun _ _ _ _ _ => rfl⟩
  have h5 : s5.canSide c txFailedFields = s4.canSide c txFailedFields ∧ s5.pts = s4.pts := by
    simp only [s5]
    split
    · exact ⟨s4.canSide_settle _ _ _ _ _, rfl⟩
    · exact ⟨rfl, rfl⟩
  have hw : ∀ g i j, g ≠ .objStatus → fieldReports g = false → s5.w g i j = s2.w g i j := fun g i j hg hr => by
    rw [← h3.2 g i j hg hr, ← h4.2 g i j hg hr, State.w, h5.2]
    rfl
  refine ⟨s5, rfl, ?_, ?_, ?_, ?_, h5.1.trans (h4.1.trans (h3.1.trans h2.1))⟩
  · exact (hw _ _ _ (by decide) rfl).trans ((h2.2.1 _ _ _ (by decide)).trans h1e)
  · exact (hw _ _ _ (by decide) rfl).trans h2.2.2
  · exact State.n_ext ((hw _ _ _ (by decide) rfl).trans ((h2.2.1 _ _ _ (by decide)).trans (h1w _ _ _ (by decide) (by decide))))
  · exact State.n_ext ((hw _ _ _ (by decide) rfl).trans ((h2.2.1 _ _ _ (by decide)).trans (h1w _ _ _ (by decide) (by decide))))

/-- A controller that is bus-off stays so at the idle bus. -/
theorem State.canIdle_off (s : State) (c : Nat) (h : s.n .canState c = 3) : (s.canIdle c).n .canState c = 3 := by
  rw [s.canIdle_eq c]
  split
  · refine ((s.canDue c).canStart_leaves c).2.2.2.2 _ _ _ (by decide) |>.trans ?_
    unfold State.canDue
    split
    · unfold State.canModeNow
      extract_lets x s1 y s2 st
      have h2 : s2.n .canState c = 3 := by
        have h1 : s1.n .canState c = s.n .canState c := by
          simp only [s1]
          split
          · exact (s.discard_leaves c).2.2.2 _ _ _ (by decide) (by decide)
          · rfl
        exact h1.trans h
      rw [if_pos (.inl h2)]
      exact h2
    · exact h
  · exact h

theorem State.canSettled_off (s : State) (c : Nat) (h1 : s.n .canState c = 1 ∨ s.n .canState c = 2) (h : 256 ≤ s.n .canTec c) :
    let t := s.canSettled c
    t.n .canState c = 3 ∧ (t.can c).pend = [] ∧ t.w .canBusOffs c 0 = Word.ofNat (s.n .canBusOffs c + 1) := by
  obtain ⟨hc, hst, hb⟩ := s.canCount_busOff c h1 h
  obtain ⟨l, a, m, d, hcan, hl⟩ := (s.canCount c).canIdle_can c
  refine ⟨(s.canCount c).canIdle_off c hst, ?_, ?_⟩
  · rw [State.canSettled, hcan]
    rw [hc] at hl
    rcases hl with rfl | ⟨g, -, rfl⟩ <;> rfl
  · rw [← hb]
    exact BitVec.eq_of_toNat_eq (((s.canCount c).idle_idleLeaves c).points _ _ _ (by decide) rfl)

theorem canTxAttemptEnd_failed (c : CanNo) (o : ObjNo) (sof time : Nat) (f : TxFrame) (s : State)
    (hf : (s.can c).pend.find? (fun f => f.obj == o.val && f.onBus) = some f) (res : TxResult)
    (hr : res ∈ [TxResult.bitError true, .bitError false, .ackError]) : Yields (exec (.canTxAttemptEnd c o res sof time) s) fun t =>
      t.w .canErrors c 0 = Word.ofNat (s.n .canErrors c + 1) ∧
      (res = .ackError → s.n .canState c = 2 → t.n .canTec c = s.n .canTec c) ∧
      (res ≠ .ackError ∨ s.n .canState c ≠ 2 → t.w .canTec c 0 = Word.ofNat (s.n .canTec c + 8)) ∧
      (res ≠ .ackError → s.n .canState c = 1 ∨ s.n .canState c = 2 → 248 ≤ s.n .canTec c → s.n .canTec c < 2 ^ 31 →
        t.n .canState c = 3 ∧ (t.can c).pend = [] ∧ t.w .canBusOffs c 0 = Word.ofNat (s.n .canBusOffs c + 1)) ∧
      CanOnly s t c [.canErrors, .canTec, .objStatus, .canState, .canTxDiscarded, .canBusOffs] := by
  have hx : exec (.canTxAttemptEnd c o res sof time) s = .next ((s.advance time).txFailed c f res) := by
    simp only [List.mem_cons, List.not_mem_nil, or_false] at hr
    rcases hr with rfl | rfl | rfl <;> exact congrArg Host.Outcome.next (by rw [hf])
  obtain ⟨u, ht, he, htec, hst, hbo, hside⟩ := (s.advance time).txFailed_eq c f res
  have htw : (u.canSettled c).w .canTec c = u.w .canTec c := u.canSettled_w c _ _ _ (by decide) rfl
  rw [hx, ht]
  refine yields_next ⟨(u.canSettled_w c _ _ _ (by decide) rfl).trans he, fun hres h2 => ?_, fun hres => ?_, fun hres h12 hlo hhi => ?_,
    CanOnly.of_canSide ((u.canSettled_canSide (by decide)).trans (hside.trans (s.canSide_advance time)))⟩
  · refine State.n_ext (htw.trans (htec.trans (if_pos ?_)))
    rw [hres, show (s.advance time).n .canState c = 2 from h2]
    rfl
  · refine htw.trans (htec.trans (if_neg ?_))
    intro h
    simp only [Bool.and_eq_true, beq_iff_eq] at h
    exact hres.elim (fun hn => hn h.1) (fun hn => hn h.2)
  · have hne : ¬(res == .ackError && (s.advance time).n .canState c == 2) = true := by
      intro h
      simp only [Bool.and_eq_true, beq_iff_eq] at h
      exact hres h.1
    rw [if_neg hne] at htec
    have hn : u.n .canTec c = s.n .canTec c + 8 := by
      rw [State.n, htec]
      exact Nat.mod_eq_of_lt (by change s.n .canTec c + 8 < 2 ^ 32; omega)
    obtain ⟨k1, k2, k3⟩ := u.canSettled_off c (by rw [hst]; exact h12) (by omega)
    exact ⟨k1, k2, k3.trans (congrArg (fun k => Word.ofNat (k + 1)) hbo)⟩

/-- Settles O25, result by result. -/
theorem canAttemptsEnd : Obligations.CanAttemptsEnd := by
  unfold Obligations.CanAttemptsEnd
  exact fun c o sof time f s hf => ⟨canTxAttemptEnd_success c o sof time f s hf, canTxAttemptEnd_lost c o sof time f s hf,
    canTxAttemptEnd_failed c o sof time f s hf⟩

end Sys2Proof.Machine
end

section
/-!
SUPPORT. Proofs/CanModes.lean: a mode that comes into force, and recovery (section 15.4).
-/
namespace Sys2Proof.Machine

/-! ## A mode comes into force (R441) -/

/-- The state that a mode other than normal gives a controller. -/
theorem State.canModeNow_state (s : State) (c v : Nat) (h3 : s.n .canState c ≠ 3) (h4 : s.n .canState c ≠ 4) (h1 : v ≠ 1) (hv : v < 3) :
    (s.canModeNow c v).n .canState c = if v = 0 then 0 else 5 := by
  unfold State.canModeNow
  extract_lets x s1 y s2 st
  have hst : st = s.n .canState c := by
    have hs1 : s1.n .canState c = s.n .canState c := by
      simp only [s1]
      split
      · exact (s.discard_leaves c).2.2.2 _ _ _ (by decide) (by decide)
      · rfl
    exact hs1
  have hmode : (s2.can c).mode = v := congrArg Can.mode (s1.can_putCan_same c _)
  have hplain : s2.canPlain c = if v = 0 then 0 else 5 := by
    unfold State.canPlain
    rw [hmode]
    obtain rfl | rfl : v = 0 ∨ v = 2 := by omega
    · rfl
    · rfl
  rw [if_neg (by omega), (s2.setState_leaves c _).2.2.2.2 (by rw [hplain]; split <;> decide), hplain]

theorem canModeWrite_takes (c : CanNo) (s : State) (v : Fin 3) : Yields (exec (.canModeWrite c v) s) fun t =>
    let wanted := if s.n .pairRole = 2 then 2 else v.val
    let idle := (s.can c).busy = false ∧ (s.can c).pend.all (fun f => !f.onBus) = true
    t.n .canMode c = v ∧
    (idle → (t.can c).mode = wanted ∧ (t.can c).modeDue = none ∧
      ((s.can c).mode = 1 → wanted ≠ 1 → (t.can c).pend = []) ∧
      (s.n .canState c ≠ 3 → s.n .canState c ≠ 4 → wanted ≠ 1 → t.n .canState c = (if wanted = 0 then 0 else 5))) ∧
    (¬idle → t.can c = { s.can c with modeDue := some wanted } ∧ t.n .canState c = s.n .canState c) ∧
    CanOnly s t c [.canMode, .canState, .canTxDiscarded, .objStatus] := by
  let wanted := if s.n .pairRole = 2 then 2 else v.val
  have hw : (s.putN .canMode c v).canWanted v = wanted := by
    rw [State.canWanted, State.n_putN_field _ (by decide)]
  have hw3 : wanted < 3 := by
    simp only [wanted]
    split
    · decide
    · exact v.isLt
  let u := (s.putN .canMode c v).putCan c { s.can c with modeDue := some wanted }
  have hx : exec (.canModeWrite c v) s = .next (u.canIdle c) := by
    refine congrArg Host.Outcome.next ?_
    show ((s.putN .canMode c v).putCan c { s.can c with modeDue := some ((s.putN .canMode c v).canWanted v) }).canIdle c = _
    rw [hw]
  have hc : u.can c = { s.can c with modeDue := some wanted } := State.can_putCan_same _ c _
  have hn : ∀ {f : Field}, f ≠ .canMode → u.n f c = s.n f c := fun hf => State.n_putN_field _ hf
  have hside : (u.canIdle c).canSide c [.canMode, .canState, .canTxDiscarded, .objStatus] = s.canSide c _ :=
    (u.canIdle_canSide (by decide) (by decide) (by decide)).trans ((State.canSide_putCan _ c _).trans (s.canSide_putN _ _ _ (by decide)))
  have hmode : (u.canIdle c).n .canMode c = v := ((u.idle_idleLeaves c).points _ _ _ (by decide) rfl).trans
    (State.n_putN_same s .canMode c v 0 (by omega))
  have hfree : u.canFree c = true ↔ (s.can c).busy = false ∧ (s.can c).pend.all (fun f => !f.onBus) = true := by
    rw [State.canFree, hc]
    simp
  rw [hx]
  refine yields_next ⟨hmode, fun hi => ?_, fun hi => ?_, CanOnly.of_canSide hside⟩
  · have hdue : u.canDue c = u.canModeNow c wanted := by rw [State.canDue, hc]
    obtain ⟨⟨l, hl, hcan⟩, -, -, -, hns⟩ := (u.canModeNow c wanted).canStart_leaves c
    rw [u.canIdle_eq c, if_pos (hfree.2 hi), hdue]
    rw [u.can_modeNow c wanted, hc] at hl hcan
    dsimp only at hl hcan
    refine ⟨?_, ?_, fun hm hne => ?_, fun h3 h4 h1 => ?_⟩
    · rw [hcan]; split <;> rfl
    · rw [hcan]; split <;> rfl
    · rw [if_pos ⟨hm, hne⟩] at hl hcan
      obtain ⟨g, -, rfl⟩ := hl
      rw [hcan]
      rfl
    · exact (hns _ _ _ (by decide)).trans (u.canModeNow_state c wanted (by rw [hn (by decide)]; exact h3) (by rw [hn (by decide)]; exact h4) h1 hw3)
  · rw [u.canIdle_eq c, if_neg (fun h => hi (hfree.1 h))]
    exact ⟨hc, hn (by decide)⟩

/-! ## Recovery (R440) -/

/-- The counters are 0, and the state is that of the mode. -/
def State.canRenewed (s : State) (c : Nat) : State :=
  let s1 := (s.putN .canTec c 0).putN .canRec c 0
  s1.canSetState c (s1.canPlain c)

theorem State.canRenewed_leaves (s : State) (c : Nat) : let t := s.canRenewed c
    t.can c = s.can c ∧ t.so = s.so ∧ t.n .canTec c = 0 ∧ t.n .canRec c = 0 ∧
    t.n .canState c = (if (s.can c).mode = 0 then 0 else if (s.can c).mode = 1 then 1 else 5) ∧
    t.canSide c [.canTec, .canRec, .canState, .canTxDiscarded, .objStatus] =
      s.canSide c [.canTec, .canRec, .canState, .canTxDiscarded, .objStatus] := by
  unfold State.canRenewed
  extract_lets s1 t
  have htec : s1.n .canTec c = 0 := (State.n_putN_field _ (by decide)).trans (State.n_putN_same _ _ _ _ _ (by decide))
  have hrec : s1.n .canRec c = 0 := State.n_putN_same _ _ _ _ _ (by decide)
  have hplain : s1.canPlain c = if (s.can c).mode = 0 then 0 else if (s.can c).mode = 1 then 1 else 5 := by
    unfold State.canPlain
    rw [htec, hrec, show s1.can c = s.can c from rfl]
    generalize (s.can c).mode = m
    match m with
    | 0 => rfl
    | 1 => rfl
    | m + 2 => rfl
  obtain ⟨hso, -, -, hn, hst⟩ := s1.setState_leaves c (s1.canPlain c)
  refine ⟨s1.can_setState c _ c, hso.trans rfl, (hn _ _ _ (by decide) rfl).trans htec, (hn _ _ _ (by decide) rfl).trans hrec, ?_, ?_⟩
  · refine (hst ?_).trans hplain
    rw [hplain]
    split
    · decide
    · split <;> decide
  · exact (s1.canSide_setState _ (by decide)).trans ((State.canSide_putN _ _ _ _ (by decide)).trans (s.canSide_putN _ _ _ (by decide)))

theorem canRecovered_recovers (c : CanNo) (s : State) (h4 : s.n .canState c = 4) : Yields (exec (.canRecovered c) s) fun t =>
    t.n .canTec c = 0 ∧ t.n .canRec c = 0 ∧ Raised s t 0x0604 kCan c ∧
    ((s.can c).modeDue = none → t.n .canState c = (if (s.can c).mode = 0 then 0 else if (s.can c).mode = 1 then 1 else 5)) ∧
    (∀ g ∈ t.host.fins, g.wait ≠ .canUp c) ∧
    CanOnly s t c [.canTec, .canRec, .canState, .canTxDiscarded, .objStatus] := by
  obtain ⟨hcan, hso, htec, hrec, hst, hside⟩ := s.canRenewed_leaves c
  have hx : exec (.canRecovered c) s = .next
      ((((s.canRenewed c).raise 0x0604 kCan c 0).settle (fun f => f.wait == .canUp c) 0 noItem 0 .ready).canIdle c) :=
    congrArg Host.Outcome.next (if_pos h4)
  rw [hx]
  generalize s.canRenewed c = a at hcan hso htec hrec hst hside
  have hq := a.raise_quiet 0x0604 kCan c 0
  have hr : Raised s (a.raise 0x0604 kCan c 0) 0x0604 kCan c := State.raise_raised _ _ _ _ _ hso
  generalize a.raise 0x0604 kCan c 0 = b at hq hr ⊢
  have hu : ∀ f i j, fieldReports f = false → (b.settle (fun f => f.wait == .canUp c) 0 noItem 0 .ready).n f i j = a.n f i j :=
    fun f i j hf => State.n_of_quiet hq f i j hf
  have huc : (b.settle (fun f => f.wait == .canUp c) 0 noItem 0 .ready).can c = s.can c := (State.can_of_quiet hq c).trans hcan
  have hnone : NoneWait (.canUp c) (b.settle (fun f => f.wait == .canUp c) 0 noItem 0 .ready).host.fins := by
    intro g hg
    obtain ⟨f, -, rfl⟩ := List.mem_map.1 hg
    split
    · exact fun e => by cases e
    · next hne => exact fun e => hne (by simpa using e)
  have hus : (b.settle (fun f => f.wait == .canUp c) 0 noItem 0 .ready).canSide c [.canTec, .canRec, .canState, .canTxDiscarded, .objStatus] =
      s.canSide c _ := (b.canSide_settle _ _ _ _ _).trans ((State.canSide_of_quiet hq).trans hside)
  have hur : Raised s (b.settle (fun f => f.wait == .canUp c) 0 noItem 0 .ready) 0x0604 kCan c := hr
  generalize b.settle (fun f => f.wait == .canUp c) 0 noItem 0 .ready = u at hu huc hnone hus hur ⊢
  obtain ⟨iso, -, ifin, inn⟩ := u.idle_idleLeaves c
  refine yields_next ⟨(inn _ _ _ (by decide) rfl).trans ((hu _ _ _ rfl).trans htec), (inn _ _ _ (by decide) rfl).trans ((hu _ _ _ rfl).trans hrec),
    ?_, fun hd => ?_, ifin _ (fun e => by cases e) hnone, CanOnly.of_canSide ((u.canIdle_canSide (by decide) (by decide) (by decide)).trans hus)⟩
  · rw [Raised, iso]; exact hur
  · rw [(u.canIdle_steady c (by rw [huc]; exact hd)).2, hu _ _ _ rfl]
    exact hst

/-- Settles O26, command by command. -/
theorem canModesAndRecovery : Obligations.CanModesAndRecovery := by
  unfold Obligations.CanModesAndRecovery
  exact fun c s => ⟨canModeWrite_takes c s, canRecovered_recovers c s⟩

end Sys2Proof.Machine
end

section
/-!
SUPPORT. Proofs/CanInputs.lean: received frames, errors on receiving and reception time-outs (sections 15.3, 15.4, 15.6, 15.7).
-/
namespace Sys2Proof.Machine

/-! ## What a reception keeps -/

/-- The points that the counters, the bus and a franking message may write. -/
def receiptFields : List Field :=
  [.canRec, .canState, .canTxDiscarded, .objStatus, .canBusOffs, .canFrankSeq, .canFrankErrorNs, .canFrankRejects, .devTimeErrorNs, .devTimeState]

/-- The waiting frames of a controller, the other controllers and all other points stay. -/
def RxKept (c : Nat) (s t : State) : Prop :=
  (t.can c).rx = (s.can c).rx ∧ (∀ e, e ≠ c → t.can e = s.can e) ∧
    ∀ f i j, f ∉ receiptFields → fieldReports f = false → t.n f i j = s.n f i j

section
variable {c : Nat} {s t u : State}

theorem RxKept.refl (c : Nat) (s : State) : RxKept c s s := ⟨rfl, fun _ _ => rfl, fun _ _ _ _ _ => rfl⟩

theorem RxKept.trans (h : RxKept c s t) (k : RxKept c t u) : RxKept c s u :=
  ⟨k.1.trans h.1, fun e he => (k.2.1 e he).trans (h.2.1 e he), fun f i j hf hr => (k.2.2 f i j hf hr).trans (h.2.2 f i j hf hr)⟩

theorem RxKept.of_quiet (h : t.quiet = s.quiet) : RxKept c s t :=
  ⟨by rw [State.can_of_quiet h], fun e _ => State.can_of_quiet h e, fun f i j _ hr => State.n_of_quiet h f i j hr⟩

theorem RxKept.put (s : State) (f : Field) (i : Nat) (w : Word) (j : Nat) (h : f ∈ receiptFields) : RxKept c s (s.put f i w j) :=
  ⟨rfl, fun _ _ => rfl, fun g _ _ hg _ => congrArg BitVec.toNat (s.w_put_field w fun e => hg (by rw [e]; exact h))⟩

theorem RxKept.putCan (s : State) (v : Can) (h : v.rx = (s.can c).rx) : RxKept c s (s.putCan c v) :=
  ⟨by rw [State.can_putCan_same]; exact h, fun _ he => s.can_putCan_ne v he, fun _ _ _ _ _ => rfl⟩

theorem RxKept.of_parts (hc : t.cans = s.cans) (hp : t.pts = s.pts) : RxKept c s t :=
  ⟨by rw [State.can, State.can, hc], fun e _ => by rw [State.can, State.can, hc], fun f i j _ _ => by rw [State.n, State.n, State.w, State.w, hp]⟩

theorem RxKept.rxObject (h : RxKept c s t) (fr : CanFrame) : t.rxObject c fr = s.rxObject c fr := by
  obtain ⟨-, -, hn⟩ := h
  simp only [State.rxObject, hn .objFmt _ _ (by decide) rfl, hn .objDir _ _ (by decide) rfl, hn .objId _ _ (by decide) rfl,
    hn .objMask _ _ (by decide) rfl]

theorem RxKept.isFrank (h : RxKept c s t) (fr : CanFrame) : t.isFrank c fr = s.isFrank c fr := by
  obtain ⟨-, -, hn⟩ := h
  simp only [State.isFrank, hn .objFmt _ _ (by decide) rfl, hn .objId _ _ (by decide) rfl, hn .canFrankObj _ _ (by decide) rfl,
    hn .canFrankMode _ _ (by decide) rfl]

end

theorem State.canCount_rxKept (s : State) (c : Nat) : RxKept c s (s.canCount c) := by
  have hside := s.canSide_count (c := c) (fs := canCountFields) (by decide) (by decide) (by decide) (by decide)
  refine ⟨?_, fun e he => ?_, fun f i j hf hr => s.canCount_n c f i j (fun h => hf ?_) hr⟩
  · obtain ⟨l, a, h, -⟩ := s.canCount_can c
    rw [h]
  · have h := congrFun (congrArg Prod.snd hside) e
    simpa only [State.canSide, if_neg he] using h
  · revert h
    simp only [canCountFields, receiptFields, List.mem_cons, List.not_mem_nil, or_false]
    tauto

/-- The receive error counter follows a good reception. -/
theorem State.canRxOk_rxKept (s : State) (c : Nat) : RxKept c s (s.canRxOk c) := by
  unfold State.canRxOk
  extract_lets r
  split
  · exact .refl c s
  · split
    · let s1 := s.withFree (s.free + 1)
      exact (RxKept.of_parts (t := s1) rfl rfl).trans ((RxKept.put s1 .canRec c _ 0 (by decide)).trans (State.canCount_rxKept _ c))
    · exact .put s .canRec c _ 0 (by decide)

theorem State.canRxOk_so (s : State) (c : Nat) (h : s.n .canRec c ≤ 127) : (s.canRxOk c).so = s.so := by
  unfold State.canRxOk
  extract_lets r
  split
  · rfl
  · rw [if_neg (show ¬127 < r from by simp only [r]; omega)]
    rfl

theorem State.sourceEvent_rxKept (s : State) (c : Nat) (e : Int) : RxKept c s (s.sourceEvent e) := by
  unfold State.sourceEvent
  extract_lets good off k s1 s2
  have h2 : RxKept c s s2 := (RxKept.of_parts (t := s1) rfl rfl).trans ((RxKept.put s1 .devTimeErrorNs 0 _ 0 (by decide)).trans
    (.put _ .devTimeState 0 _ 0 (by decide)))
  split
  · exact h2.trans (.of_quiet (State.raise_quiet _ _ _ _ _))
  · exact h2

theorem State.frankEvent_rxKept (s : State) (c : Nat) (e : Int) : RxKept c s (s.frankEvent e) := by
  unfold State.frankEvent
  extract_lets s1
  split
  · exact (s.sourceEvent_rxKept c e).trans (.of_parts rfl rfl)
  · exact s.sourceEvent_rxKept c e

theorem State.frankTake_rxKept (s : State) (c : Nat) (bs : List Byte) (sof : Nat) : RxKept c s (s.frankTake c bs sof) := by
  unfold State.frankTake
  extract_lets x q crc valid tf y s1
  have hy : ∀ b, { y with frankBad := b }.rx = (s.can c).rx := fun b => by
    simp only [y]
    split <;> rfl
  clear_value y tf
  split
  · next ts h1 h2 =>
    extract_lets e s1
    have h : RxKept c s s1 := (RxKept.putCan s { y with frankBad := false } (hy false)).trans
      ((RxKept.put _ .canFrankSeq c _ 0 (by decide)).trans (.put _ .canFrankErrorNs c _ 0 (by decide)))
    split
    · exact h.trans (s1.frankEvent_rxKept c e)
    · exact h
  · have h : RxKept c s s1 := (RxKept.putCan s { y with frankBad := true } (hy true)).trans (.put _ .canFrankRejects c _ 0 (by decide))
    split
    · exact h
    · exact h.trans (.of_quiet (State.raise_quiet _ _ _ _ _))

/-- The bus is idle again. -/
def State.rxClosed (s : State) (c : Nat) : State := (s.putCan c { s.can c with busy := false }).canIdle c

theorem State.rxClosed_leaves (s : State) (c : Nat) : let t := s.rxClosed c
    t.so = s.so ∧ (t.can c).busy = false ∧ RxKept c s t := by
  unfold State.rxClosed
  let u := s.putCan c { s.can c with busy := false }
  have hu : u.can c = { s.can c with busy := false } := s.can_putCan_same c _
  obtain ⟨l, a, m, d, hcan, -⟩ := u.canIdle_can c
  rw [hu] at hcan
  have hside := u.canIdle_canSide (c := c) (fs := canIdleFields) (by decide) (by decide) (by decide)
  obtain ⟨hso, -, -, hn⟩ := u.idle_idleLeaves c
  refine ⟨hso, by rw [hcan], by rw [hcan], fun e he => ?_, fun f i j hf hr => hn f i j (fun h => hf ?_) hr⟩
  · have h := congrFun (congrArg Prod.snd hside) e
    simp only [State.canSide, if_neg he] at h
    exact h.trans (s.can_putCan_ne _ he)
  · revert h
    simp only [canIdleFields, receiptFields, List.mem_cons, List.not_mem_nil, or_false]
    tauto

/-! ## A frame (R435, R438, R446) -/

/-- A franking message on the franking identifier. -/
def State.frankHeard (s : State) (c : Nat) (fr : CanFrame) (sof : Nat) : State :=
  if s.isFrank c fr then (if s.n .canFrankMode c = 1 then s.raise 0x060A kCan c 0 else s.frankTake c fr.data sof) else s

theorem State.frankHeard_rxKept (s : State) (c : Nat) (fr : CanFrame) (sof : Nat) : RxKept c s (s.frankHeard c fr sof) := by
  unfold State.frankHeard
  split
  · split
    · exact .of_quiet (State.raise_quiet _ _ _ _ _)
    · exact s.frankTake_rxKept c fr.data sof
  · exact .refl c s

/-- A data frame goes to the object that accepts it, or is counted as unmatched. -/
def State.rxFiled (s : State) (c : Nat) (fr : CanFrame) (t : Nat) : State :=
  match s.rxObject c fr with
  | some o => s.putCan c { s.can c with rx := (s.can c).rx ++ [⟨o, fr, t⟩], rxAt := Tab.put 0 (s.can c).rxAt o t }
  | none => s.inc .canRxUnmatched c

theorem State.canReceive_remote (s : State) (c : Nat) (fr : CanFrame) (sof t : Nat) (h : fr.remote = true) :
    s.canReceive c fr sof t = ((s.canRxOk c).inc .canRxRemote c).rxClosed c := by
  unfold State.canReceive
  extract_lets s0 s2 s3 x s1
  exact congrArg (fun u : State => u.rxClosed c) (show s1 = s0.inc .canRxRemote c from if_pos h)

theorem State.canReceive_data (s : State) (c : Nat) (fr : CanFrame) (sof t : Nat) (h : fr.remote = false) :
    s.canReceive c fr sof t = ((((s.canRxOk c).inc .canRxFrames c).frankHeard c fr sof).rxFiled c fr t).rxClosed c := by
  unfold State.canReceive
  extract_lets s0 s2 s3 x s1
  exact congrArg (fun u : State => u.rxClosed c) (show s1 = s3.rxFiled c fr t from if_neg (by simp [h]))

theorem State.rxFiled_leaves (s : State) (c : Nat) (fr : CanFrame) (t : Nat) : let u := s.rxFiled c fr t
    u.so = s.so ∧ (∀ e, e ≠ c → u.can e = s.can e) ∧ (∀ f i j, f ≠ .canRxUnmatched → u.n f i j = s.n f i j) ∧
    (∀ o, s.rxObject c fr = some o → (u.can c).rx = (s.can c).rx ++ [⟨o, fr, t⟩]) ∧
    (s.rxObject c fr = none → (u.can c).rx = (s.can c).rx ∧ u.n .canRxUnmatched c = (Word.ofNat (s.n .canRxUnmatched c + 1)).toNat) := by
  unfold State.rxFiled
  cases h : s.rxObject c fr with
  | some o =>
    refine ⟨rfl, fun e he => s.can_putCan_ne _ he, fun _ _ _ _ => rfl, fun p hp => ?_, fun hn => by simp at hn⟩
    obtain rfl := Option.some.inj hp
    dsimp only
    rw [State.can_putCan_same]
  | none =>
    exact ⟨rfl, fun _ _ => rfl, fun f i j hf => congrArg BitVec.toNat (s.w_put_field _ hf), fun o ho => by simp at ho,
      fun _ => ⟨rfl, congrArg BitVec.toNat (s.w_put_same _ _ _ _)⟩⟩

theorem State.n_inc (s : State) (f : Field) (i : Nat) : (s.inc f i).n f i = (Word.ofNat (s.n f i + 1)).toNat :=
  congrArg BitVec.toNat (s.w_put_same _ _ _ _)

theorem State.n_inc_field (s : State) {f g : Field} (i k l : Nat) (h : g ≠ f) : (s.inc f i).n g k l = s.n g k l :=
  congrArg BitVec.toNat (s.w_put_field _ h)

/-- What is heard of a data frame, after the count of good receptions. -/
theorem State.canReceive_data_leaves (s : State) (c : Nat) (fr : CanFrame) (sof t : Nat) (h : fr.remote = false) :
    let u := s.canReceive c fr sof t
    u.n .canRxFrames c = (Word.ofNat (s.n .canRxFrames c + 1)).toNat ∧
    (∀ o, s.rxObject c fr = some o → (u.can c).rx = (s.can c).rx ++ [⟨o, fr, t⟩]) ∧
    (s.rxObject c fr = none → (u.can c).rx = (s.can c).rx ∧ u.n .canRxUnmatched c = (Word.ofNat (s.n .canRxUnmatched c + 1)).toNat) ∧
    (s.isFrank c fr = true → s.n .canFrankMode c = 1 → s.n .canRec c ≤ 127 → Raised s u 0x060A kCan c) ∧
    (u.can c).busy = false ∧ ∀ e, e ≠ c → u.can e = s.can e := by
  rw [s.canReceive_data c fr sof t h]
  have h1 := s.canRxOk_rxKept c
  have h1so := s.canRxOk_so c
  generalize s.canRxOk c = s1 at h1 h1so ⊢
  let s2 := s1.inc .canRxFrames c
  have hcount : s2.n .canRxFrames c = (Word.ofNat (s.n .canRxFrames c + 1)).toNat := by
    rw [← h1.2.2 .canRxFrames c 0 (by decide) rfl]
    exact s1.n_inc .canRxFrames c
  have h2n : ∀ f i j, f ≠ .canRxFrames → s2.n f i j = s1.n f i j := fun f i j hf => s1.n_inc_field c i j hf
  have h2o : s2.rxObject c fr = s.rxObject c fr := by
    rw [← h1.rxObject fr]
    simp only [State.rxObject, h2n .objFmt _ _ (by decide), h2n .objDir _ _ (by decide), h2n .objId _ _ (by decide), h2n .objMask _ _ (by decide)]
  have h2f : s2.isFrank c fr = s.isFrank c fr := by
    rw [← h1.isFrank fr]
    simp only [State.isFrank, h2n .objFmt _ _ (by decide), h2n .objId _ _ (by decide), h2n .canFrankObj _ _ (by decide), h2n .canFrankMode _ _ (by decide)]
  have h3 := s2.frankHeard_rxKept c fr sof
  have h3r : s.isFrank c fr = true → s.n .canFrankMode c = 1 → s.n .canRec c ≤ 127 → Raised s (s2.frankHeard c fr sof) 0x060A kCan c := by
    intro hf hm hr
    have hm2 : s2.n .canFrankMode c = 1 := ((h2n _ _ _ (by decide)).trans (h1.2.2 _ _ _ (by decide) rfl)).trans hm
    rw [State.frankHeard, if_pos (h2f.trans hf), if_pos hm2]
    exact State.raise_raised _ _ _ _ _ (h1so hr)
  generalize s2.frankHeard c fr sof = s3 at h3 h3r ⊢
  have h3o : s3.rxObject c fr = s.rxObject c fr := (h3.rxObject fr).trans h2o
  have hrx : (s3.can c).rx = (s.can c).rx := h3.1.trans h1.1
  have hun : s3.n .canRxUnmatched c = s.n .canRxUnmatched c :=
    ((h3.2.2 _ _ _ (by decide) rfl).trans (h2n _ _ _ (by decide))).trans (h1.2.2 _ _ _ (by decide) rfl)
  obtain ⟨fso, foth, fn, fsome, fnone⟩ := s3.rxFiled_leaves c fr t
  rw [h3o] at fsome fnone
  generalize s3.rxFiled c fr t = s4 at fso foth fn fsome fnone ⊢
  obtain ⟨cso, cbusy, ck⟩ := s4.rxClosed_leaves c
  refine ⟨?_, fun o ho => ?_, fun ho => ⟨?_, ?_⟩, fun hf hm hr => ?_, cbusy, fun e he => ?_⟩
  · exact (ck.2.2 _ _ _ (by decide) rfl).trans ((fn _ _ _ (by decide)).trans ((h3.2.2 _ _ _ (by decide) rfl).trans hcount))
  · rw [ck.1, fsome o ho, hrx]
  · rw [ck.1, (fnone ho).1, hrx]
  · rw [ck.2.2 _ _ _ (by decide) rfl, (fnone ho).2, hun]
  · rw [Raised, cso, fso]
    exact h3r hf hm hr
  · rw [ck.2.1 e he, foth e he, h3.2.1 e he]
    exact h1.2.1 e he

theorem State.canReceive_remote_leaves (s : State) (c : Nat) (fr : CanFrame) (sof t : Nat) (h : fr.remote = true) :
    let u := s.canReceive c fr sof t
    u.n .canRxRemote c = (Word.ofNat (s.n .canRxRemote c + 1)).toNat ∧ (u.can c).rx = (s.can c).rx ∧
    (u.can c).busy = false ∧ ∀ e, e ≠ c → u.can e = s.can e := by
  rw [s.canReceive_remote c fr sof t h]
  have h1 := s.canRxOk_rxKept c
  generalize s.canRxOk c = s1 at h1 ⊢
  obtain ⟨-, cbusy, ck⟩ := (s1.inc .canRxRemote c).rxClosed_leaves c
  refine ⟨?_, ck.1.trans h1.1, cbusy, fun e he => (ck.2.1 e he).trans (h1.2.1 e he)⟩
  rw [ck.2.2 _ _ _ (by decide) rfl, s1.n_inc, h1.2.2 _ _ _ (by decide) rfl]

theorem canFrameReceived_reaches (c : CanNo) (s : State) (hu : s.unitOn 4 c = true) (fr : CanFrame) (sof time : Nat) (hh : s.canHears c sof = true) :
    Yields (exec (.canFrameReceived c fr sof time) s) fun t =>
      (fr.remote = true → t.w .canRxRemote c 0 = Word.ofNat (s.n .canRxRemote c + 1) ∧ (t.can c).rx = (s.can c).rx) ∧
      (fr.remote = false → t.w .canRxFrames c 0 = Word.ofNat (s.n .canRxFrames c + 1) ∧
        (∀ o, s.rxObject c fr = some o → (t.can c).rx = (s.can c).rx ++ [⟨o, fr, time⟩]) ∧
        (s.rxObject c fr = none → (t.can c).rx = (s.can c).rx ∧ t.w .canRxUnmatched c 0 = Word.ofNat (s.n .canRxUnmatched c + 1)) ∧
        (s.isFrank c fr = true → s.n .canFrankMode c = 1 → s.n .canRec c ≤ 127 → Raised s t 0x060A kCan c)) ∧
      (t.can c).busy = false ∧ (∀ e, e ≠ c.val → t.can e = s.can e) := by
  have hx : exec (.canFrameReceived c fr sof time) s = .next ((s.advance time).canReceive c fr sof time) :=
    congrArg Host.Outcome.next (if_pos (by rw [hu, hh]; rfl))
  rw [hx]
  cases hr : fr.remote with
  | true =>
    obtain ⟨h1, h2, h3, h4⟩ := (s.advance time).canReceive_remote_leaves c fr sof time hr
    exact yields_next ⟨fun _ => ⟨BitVec.eq_of_toNat_eq h1, h2⟩, fun h => (by cases h), h3, h4⟩
  | false =>
    obtain ⟨h1, h2, h3, h4, h5, h6⟩ := (s.advance time).canReceive_data_leaves c fr sof time hr
    exact yields_next ⟨fun h => (by cases h), fun _ => ⟨BitVec.eq_of_toNat_eq h1, h2,
      fun hn => ⟨(h3 hn).1, BitVec.eq_of_toNat_eq (h3 hn).2⟩, h4⟩, h5, h6⟩

/-! ## An error (R439, R441) -/

/-- The receive error counter follows an error. -/
def State.rxErrored (s : State) (c k : Nat) : State :=
  if (s.can c).mode = 1 then (s.putN .canRec c (s.n .canRec c + k)).canCount c else s

theorem State.rxErrored_leaves (s : State) (c k : Nat) : let t := s.rxErrored c k
    ((s.can c).mode = 1 → t.n .canRec c = (Word.ofNat (s.n .canRec c + k)).toNat) ∧ ((s.can c).mode ≠ 1 → t.n .canRec c = s.n .canRec c) ∧
    (t.can c).rx = (s.can c).rx ∧ t.n .canErrors c = s.n .canErrors c ∧
    ∀ fs, canCountFields ⊆ fs → .canRec ∈ fs → t.canSide c fs = s.canSide c fs := by
  unfold State.rxErrored
  split
  · next hm =>
    have hk := (s.putN .canRec c (s.n .canRec c + k)).canCount_rxKept c
    have hn := (s.putN .canRec c (s.n .canRec c + k)).canCount_n c
    refine ⟨fun _ => (hn _ _ _ (by decide) rfl).trans (congrArg BitVec.toNat (s.w_put_same _ _ _ _)), fun h => absurd hm h, hk.1,
      (hn _ _ _ (by decide) rfl).trans (State.n_putN_field _ (by decide)), fun fs h hr => ?_⟩
    exact (State.canSide_count _ (h (by decide)) (h (by decide)) (h (by decide)) (h (by decide))).trans (s.canSide_putN _ _ _ hr)
  · next hm => exact ⟨fun h => absurd h hm, fun _ => rfl, rfl, rfl, fun _ _ _ => rfl⟩

theorem canRxError_counts (c : CanNo) (s : State) (hu : s.unitOn 4 c = true) (dom : Bool) (hh : s.canHears c s.now = true) :
    Yields (exec (.canRxError c dom) s) fun t =>
      t.w .canErrors c 0 = Word.ofNat (s.n .canErrors c + 1) ∧ (t.can c).busy = false ∧ (t.can c).rx = (s.can c).rx ∧
      ((s.can c).mode = 1 → t.w .canRec c 0 = Word.ofNat (s.n .canRec c + (if dom then 8 else 1))) ∧
      ((s.can c).mode ≠ 1 → t.w .canRec c 0 = s.w .canRec c 0) ∧
      CanOnly s t c [.canErrors, .canRec, .canState, .canTxDiscarded, .canBusOffs, .objStatus] := by
  let s1 := s.inc .canErrors c
  have hx : exec (.canRxError c dom) s = .next ((s1.rxErrored c (if dom then 8 else 1)).rxClosed c) :=
    congrArg Host.Outcome.next (if_pos (by rw [hu, hh]; rfl))
  obtain ⟨hr1, hr2, hrx, herr, hside⟩ := s1.rxErrored_leaves c (if dom then 8 else 1)
  rw [hx]
  have hrec : s1.n .canRec c = s.n .canRec c := s.n_inc_field c c 0 (by decide)
  rw [hrec] at hr1 hr2
  generalize s1.rxErrored c (if dom then 8 else 1) = u at hr1 hr2 hrx herr hside ⊢
  obtain ⟨-, cbusy, crx, -, -⟩ := u.rxClosed_leaves c
  have hn : ∀ f i j, f ∉ canIdleFields → fieldReports f = false → (u.rxClosed c).n f i j = u.n f i j := fun f i j hf hr =>
    ((u.putCan c { u.can c with busy := false }).idle_idleLeaves c).points f i j hf hr
  refine yields_next ⟨BitVec.eq_of_toNat_eq ?_, cbusy, crx.trans hrx, fun hm => BitVec.eq_of_toNat_eq ?_, fun hm => BitVec.eq_of_toNat_eq ?_,
    CanOnly.of_canSide ?_⟩
  · exact (hn _ _ _ (by decide) rfl).trans (herr.trans (s.n_inc .canErrors c))
  · exact (hn _ _ _ (by decide) rfl).trans (hr1 hm)
  · exact (hn _ _ _ (by decide) rfl).trans (hr2 hm)
  · refine (State.canIdle_canSide _ (by decide) (by decide) (by decide)).trans ((u.canSide_putCan c _).trans ((hside _ (by decide) (by decide)).trans ?_))
    exact s.canSide_inc _ _ (by decide)

end Sys2Proof.Machine
end

section
/-!
SUPPORT. Proofs/CanStale.lean: an object without a frame for its time-out, and the drives that it commands (sections 15.3 and 15.7).
-/
namespace Sys2Proof.Machine

/-! ## A source that has fired stays pending through a change of regime -/

theorem State.raiseLane_fired (id : Nat) (s : State) (a b c d : Nat) (h : s.fired id) : (s.raiseLane a b c d).fired id :=
  s.raiseAt_fired id _ _ _ _ _ h

theorem State.leaveRegime_fired (id : Nat) (s : State) (d new : Nat) (h : s.fired id) : (s.leaveRegime d new).fired id := by
  unfold State.leaveRegime
  extract_lets k old k2 s1 s2
  have h2 : s2.fired id := by
    simp only [s2]
    split <;> exact h
  split
  · exact s2.raiseLane_fired id _ _ _ _ h2
  · exact h2

theorem State.enterRegime_fired (id : Nat) (s : State) (d new : Nat) (h : s.fired id) : (s.enterRegime d new).fired id := by
  unfold State.enterRegime
  extract_lets old s1 k s2
  split
  · exact h
  · exact State.irqFire_fired _ _ _ (s2.raiseLane_fired id _ _ _ _ (s.leaveRegime_fired id d new h))

theorem State.haltStart_fired (id : Nat) (s : State) (d : Nat) (h : s.fired id) : (s.haltStart d).fired id := by
  unfold State.haltStart
  split
  · exact h
  · exact s.enterRegime_fired id d 0 h

theorem State.lossHalt_fired (id : Nat) (s : State) (d : Nat) (h : s.fired id) : (s.lossHalt d).fired id := by
  unfold State.lossHalt
  extract_lets s1 k
  have h1 : s1.fired id := by
    simp only [s1, State.runOff]
    split
    · split
      · exact h
      · exact s.haltStart_fired id d h
    · exact h
  exact h1

/-! ## The drives on the backup path -/

/-- The points of a drive that loses its agent. -/
def agentLossFields : List Field := [.drvHostState, .drvRegime, .drvHalting, .drvCrashPhase]

def State.exceptAgentLoss (s : State) : State × (Field → Nat → Nat → Word) := s.aside (fun t => t.withDrvs []) (inFields agentLossFields)

theorem State.cans_of_exceptAgentLoss {s t : State} (h : t.exceptAgentLoss = s.exceptAgentLoss) : t.cans = s.cans :=
  (congrArg State.cans (State.aside_rest h) :)

theorem State.lossHalt_exceptAgentLoss (s : State) (d : Nat) : (s.lossHalt d).exceptAgentLoss = s.exceptAgentLoss := by
  obtain ⟨hrest, -, hq⟩ := s.lossHalt_only d
  refine Prod.ext ((congrArg (fun t : State => t.withDrvs []) hrest).trans rfl) ?_
  funext f i j
  simp only [State.exceptAgentLoss, State.aside]
  split
  · rfl
  · next hf =>
    simp only [Bool.or_eq_true, not_or, Bool.not_eq_true] at hf
    refine hq f i j (fun hm => ?_) hf.1
    have : f ∈ agentLossFields := by
      simp only [regimePoints, List.mem_cons, List.not_mem_nil, or_false, Pt.mk.injEq] at hm
      obtain ⟨rfl, -⟩ | ⟨rfl, -⟩ | ⟨rfl, -⟩ | ⟨rfl, -⟩ := hm <;> decide
    simp [inFields, this] at hf

/-- A drive on the backup path whose object is stale. -/
def State.backupStale (s : State) (d : Nat) : State := if s.n .drvHostState d = 3 then s.lossHalt d else s

theorem State.backupStale_host (s : State) (a d : Nat) :
    (s.backupStale a).n .drvHostState d = if d = a ∧ s.n .drvHostState d = 3 then 2 else s.n .drvHostState d := by
  unfold State.backupStale
  split
  · next h =>
    by_cases hd : d = a
    · rw [if_pos ⟨hd, hd ▸ h⟩, hd, s.lossHalt_state a]
    · rw [if_neg fun hx => hd hx.1]
      exact (s.lossHalt_only a).n _ _ _ (by simp [regimePoints, hd]) rfl
  · next h => rw [if_neg fun hx : d = a ∧ s.n .drvHostState d = 3 => h (hx.1 ▸ hx.2)]

theorem forL_backupStale_host (l : List Nat) (s : State) (d : Nat) :
    (forL l (fun d t => t.backupStale d) s).n .drvHostState d = if d ∈ l ∧ s.n .drvHostState d = 3 then 2 else s.n .drvHostState d := by
  induction l generalizing s with
  | nil => exact (if_neg (by simp)).symm
  | cons a l ih =>
    rw [show forL (a :: l) (fun d t => t.backupStale d) s = forL l (fun d t => t.backupStale d) (s.backupStale a) from rfl, ih,
      s.backupStale_host a d]
    by_cases hd : d = a
    · subst hd
      by_cases h3 : s.n .drvHostState d = 3 <;> simp [h3]
    · simp [hd]

theorem canRxTimeout_stale (c : CanNo) (s : State) (hu : s.unitOn 4 c = true) (o : ObjNo) : let i := objIx c o
    s.n .objDir i = 2 → s.n .objRxTimeoutMs i ≠ 0 → Arith.bit (s.n .objStatus i) 0 = false →
    Tab.get 0 (s.can c).rxAt o + msNs (s.n .objRxTimeoutMs i) ≤ s.now → Yields (exec (.canRxTimeout c o) s) fun t =>
      Arith.bit (t.n .objStatus i) 0 = true ∧ (t.src (144 + c)).pend = true ∧ t.cans = s.cans ∧
      (s.mapDrives c o = [] → Raised s t 0x0605 kCan c) ∧
      (∀ d ∈ s.mapDrives c o, s.n .drvHostState d = 3 → t.n .drvHostState d = 2) ∧
      (∀ d, d ∉ s.mapDrives c o → t.n .drvHostState d = s.n .drvHostState d) ∧
      QuietFields s t [.objStatus, .drvHostState, .drvRegime, .drvHalting, .drvCrashPhase] := by
  intro i hdir hms hb hat
  let u := s.objFlag c o 0 true
  let v := (u.raise 0x0605 kCan c o).irqFire (144 + c)
  have hx : exec (.canRxTimeout c o) s = .next (forL (v.mapDrives c o) (fun d t => t.backupStale d) v) := by
    refine congrArg Host.Outcome.next (if_pos ⟨hu, hdir, hms, ?_, hat⟩)
    rw [show (Arith.bit (s.n .objStatus (objIx c o)) 0) = false from hb]
    simp
  have hq : v.quiet = u.quiet := (State.irqFire_quiet _ _).trans (State.raise_quiet _ _ _ _ _)
  have hvn : ∀ f j k, f ≠ .objStatus → fieldReports f = false → v.n f j k = s.n f j k := fun f j k hf hr =>
    (State.n_of_quiet hq f j k hr).trans (State.n_putN_field _ hf)
  have hmap : v.mapDrives c o = s.mapDrives c o := by
    simp only [State.mapDrives, hvn .mapObj _ _ (by decide) rfl, hvn .mapTarget _ _ (by decide) rfl]
  have hvcans : v.cans = s.cans := (State.cans_of_quiet hq).trans (show u.cans = s.cans from rfl)
  have hfire : v.fired (144 + c) := State.irqFire_self _ _ (by
    have := c.isLt
    simp [irqValid]; omega)
  have hraised : Raised s v 0x0605 kCan c := by
    rw [Raised, State.irqFire_so]
    exact State.raise_raised _ _ _ _ _ rfl
  rw [hx, hmap]
  clear_value v
  have hkeep : (forL (s.mapDrives c o) (fun d t => t.backupStale d) v).exceptAgentLoss = v.exceptAgentLoss :=
    forL_keeps State.exceptAgentLoss _ _ _ fun d t => by
      unfold State.backupStale
      split
      · exact t.lossHalt_exceptAgentLoss d
      · rfl
  have hquiet : QuietFields v (forL (s.mapDrives c o) (fun d t => t.backupStale d) v) agentLossFields := QuietFields.of_aside hkeep
  have hcans := State.cans_of_exceptAgentLoss hkeep
  have hhost := fun d => forL_backupStale_host (s.mapDrives c o) v d
  simp only [hvn .drvHostState _ _ (by decide) rfl] at hhost
  have hnil : ∀ l : List Nat, l = [] → forL l (fun d t => t.backupStale d) v = v := by
    rintro _ rfl
    rfl
  refine yields_next ⟨?_, ?_, ?_, fun hnone => ?_, fun d hd h3 => ?_, fun d hd => ?_, ?_⟩
  · have hst : u.n .objStatus i = Arith.setBit (s.n .objStatus i) 0 true := s.n_objFlag c o 0 true (by decide)
    rw [show (forL (s.mapDrives c o) (fun d t => t.backupStale d) v).n .objStatus i = Arith.setBit (s.n .objStatus i) 0 true from
      (congrArg BitVec.toNat (hquiet .objStatus i 0 (by decide) rfl)).trans ((State.n_of_quiet hq _ _ _ rfl).trans hst)]
    exact bit_setBit_same _ _ _
  · refine forL_fired _ _ _ _ (fun d t ht => ?_) hfire
    unfold State.backupStale
    split
    · exact t.lossHalt_fired _ d ht
    · exact ht
  · exact hcans.trans hvcans
  · exact (congrArg (Raised s · 0x0605 kCan c) (hnil _ hnone)).mpr hraised
  · rw [hhost d, if_pos ⟨hd, h3⟩]
  · rw [hhost d, if_neg fun h => hd h.1]
  · exact ((QuietFields.putN s .objStatus i _ 0).trans ((QuietFields.of_quiet hq []).trans hquiet)).mono (by decide)

/-- Settles O27, command by command. -/
theorem canReception : Obligations.CanReception := by
  unfold Obligations.CanReception
  exact fun c s hu => ⟨fun fr sof time hh => canFrameReceived_reaches c s hu fr sof time hh, fun dom hh => canRxError_counts c s hu dom hh,
    fun o => canRxTimeout_stale c s hu o⟩

end Sys2Proof.Machine
end

section
/-!
SUPPORT. Proofs/Completes.lean: each command on a mode, an agent, a Safe cause, a session or a CAN object completes with its effect.
-/
namespace Sys2Proof.Machine

/-! ## Agents (R324, R325) -/

theorem State.lossHalt_kept_own (s : State) {a d : Nat} (h : a ≠ d) :
    (s.lossHalt a).n .drvHostState d = s.n .drvHostState d ∧ (s.lossHalt a).drv d = s.drv d :=
  ⟨(s.lossHalt_only a).n _ _ _ (by simp [regimePoints, h.symm]) rfl, (s.lossHalt_only a).2.1 d h.symm⟩

theorem forL_lossHalt_own (l : List Nat) (s : State) (d : Nat) (h : d ∈ l) :
    (forL l (fun m t => t.lossHalt m) s).n .drvHostState d = 2 ∧ ((forL l (fun m t => t.lossHalt m) s).drv d).holdHost = none :=
  forL_settles (fun _ => True) (fun t => t.n .drvHostState d = 2 ∧ (t.drv d).holdHost = none) h trivial (fun _ _ _ _ => trivial)
    (fun a t ha ht => by
      obtain ⟨h1, h2⟩ := t.lossHalt_kept_own ha
      rw [h1, h2]
      exact ht)
    (fun t _ => ⟨t.lossHalt_state d, t.lossHalt_holdHost d⟩) (fun t _ => ⟨t.lossHalt_state d, t.lossHalt_holdHost d⟩)

theorem hostHoldExpired_completes (d : DriveNo) (s : State) (hl : s.holdLapsed d = true)
    (hg : s.shaftOf d = none ∨ ∃ g, s.shaftOf d = some g ∧ d.val ∈ s.shaftMembers g) :
    ∃ t, exec (.hostHoldExpired d) s = .next t ∧ t.n .drvHostState d = 2 ∧ (t.drv d).holdHost = none := by
  have h1 : s.n .drvHostState d = 1 := by
    unfold State.holdLapsed at hl
    split at hl
    · simp only [Bool.and_eq_true, beq_iff_eq] at hl
      exact hl.1
    · cases hl
  let l := match s.shaftOf d with | some g => (s.shaftMembers g).filter (fun m => s.n .drvHostState m == 1) | none => [d.val]
  have hm : d.val ∈ l := by
    simp only [l]
    rcases hg with hg | ⟨g, hg, hd⟩
    · rw [hg]; exact List.mem_singleton_self _
    · rw [hg]; exact List.mem_filter.2 ⟨hd, by simp [h1]⟩
  obtain ⟨k1, k2⟩ := forL_lossHalt_own l s d hm
  refine ⟨_, congrArg Host.Outcome.next (if_pos hl), ?_, ?_⟩
  · rw [State.raise_n _ _ _ _ _ _ _ _ rfl]
    exact k1
  · rw [State.drv_raise]
    exact k2

/-! ## Safe causes (Table 10.4) -/

theorem State.enterSafe_bit (s : State) (code : Nat) (h7 : s.mode ≠ 7) (hc : code - 1 < 32) :
    Arith.bit ((s.enterSafe code).n .devSafeCause) (code - 1) = true := by
  rw [s.enterSafe_cause code h7]
  exact s.bit_putN_setBit _ _ _ _ _ hc

theorem d1TickLost_completes (s : State) (hup : s.up = true) (h7 : s.mode ≠ 7) :
    ∃ t, exec .d1TickLost s = .next t ∧ Arith.bit (t.n .devSafeCause) 3 = true ∧ t.dev.tokenOn = false := by
  have hm : s.stopTokens.mode ≠ 7 := by
    rw [State.mode, State.n_of_quiet s.stopTokens_quiet _ _ _ rfl]
    exact h7
  exact ⟨_, exec_d1TickLost s hup, State.enterSafe_bit _ 4 hm (by decide), (State.enterSafe_leaves _ 4 hm).1
    ((congrArg Dev.tokenOn (State.dev_of_quiet s.stopTokens_quiet)).trans rfl)⟩

theorem memoryError_surrenders (s : State) (hup : s.up = true) (h0 : s.mode ≠ 0) (hr : s.n .pairRole = 1) :
    ∃ t, exec (.memoryError true) s = .next t ∧ t.pair.handover = some (s.epoch + 2, s.epoch) ∧ Out.pairSurrender (s.epoch + 2) true ∈ t.out := by
  have hp : s.isPrincipal = true := by simp [State.isPrincipal, hr]
  refine ⟨_, congrArg Host.Outcome.next ((if_neg (by simp [hup, h0])).trans ((if_pos rfl).trans (if_pos hp))), rfl, ?_⟩
  exact List.mem_cons_self ..

theorem railFault_completes (s : State) (n : Fin 8) (hup : s.up = true) (h7 : s.mode ≠ 7) (hb : Arith.bit s.hw.rails n = false) :
    ∃ t, exec (.railFault n) s = .next t ∧ Arith.bit t.hw.rails n = true ∧ Arith.bit (t.n .devSafeCause) 6 = true := by
  obtain ⟨-, -, hhw, hn⟩ := s.railNoted_reads n
  have hm : (s.railNoted n).mode ≠ 7 := by
    rw [State.mode, hn _ _ _ rfl]
    exact h7
  have hq := ((s.railNoted n).enterSafe 7).supplyIrq_quiet
  refine ⟨_, exec_railFault s n hup hb, ?_, ?_⟩
  · rw [State.hw_of_quiet hq, (State.steady_of_exceptSafe ((s.railNoted n).enterSafe_exceptSafe 7 hm)).2.2, hhw]
    exact bit_setBit_same _ _ _
  · rw [State.n_of_quiet hq _ _ _ rfl]
    exact State.enterSafe_bit _ 7 hm (by decide)

/-! ## Modes (Table 10.2) -/

/-- Each mode command completes while no entry into Safe or Halt has taken the epoch. -/
theorem modeCommands_complete (s : State) (ht : s.dev.modeTaken = false) :
    (s.mode = 2 ∨ s.mode = 6 → ∃ t, exec .modeCmdConfigure s = .next t ∧ t.mode = 1 ∧ t.dev.tokenOn = false ∧ t.n .devModeCmd = 1) ∧
    (s.mode = 1 ∧ s.readyOk = true ∨ s.mode = 3 ∧ s.allAtRest = true ∧ s.dev.haltCmd = false ∨ s.mode = 6 ∧ s.readyOk = true →
      ∃ t, exec .modeCmdReady s = .next t ∧ t.mode = 2 ∧ t.dev.tokenOn = false ∧ t.n .devModeCmd = 2) ∧
    (s.mode = 2 ∧ s.dev.stoA = true ∧ s.dev.stoB = true ∧ s.n .devSafeCause = 0 ∨ s.mode = 4 ∧ s.dev.haltCmd = false ∨ s.mode = 5 →
      ∃ t, exec .modeCmdRun s = .next t ∧ t.mode = 3 ∧ t.dev.tokenOn = true ∧ t.n .devModeCmd = 3) ∧
    (∀ reason, s.mode = 3 → s.dev.haltCmd = false → s.n .devOverrideEnable = 1 → 0 < reason → reason < 2 ^ 32 →
      ∃ t, exec (.modeCmdOverride reason) s = .next t ∧ t.mode = 4 ∧ t.dev.tokenOn = true ∧ t.n .devOverrideReason = reason) ∧
    (s.mode = 3 ∨ s.mode = 4 → ∃ t, exec .modeCmdHalt s = .next t ∧ t.mode = 5 ∧ t.dev.tokenOn = true ∧ t.dev.haltEpoch = s.epoch) ∧
    (s.mode = 1 ∨ s.mode = 2 → s.n .devWakeMask % 128 ≠ 0 →
      ∃ t, exec .modeCmdDormant s = .next t ∧ t.dev.sleepReq = true ∧ t.n .devModeCmd = 0 ∧ t.mode = s.mode) ∧
    (s.mode = 1 → s.dev.pdActive = true → s.jrn.exports = [] →
      ∃ t, exec .modeCmdReplay s = .next t ∧ t.mode = 7 ∧ t.dev.tokenOn = false ∧ t.rep.phase = 1) := by
  refine ⟨fun h => ?_, fun h => ?_, fun h => ?_, fun reason h3 hh he hr hl => ?_, fun h => ?_, fun h hw => ?_, fun h hp he => ?_⟩
  · obtain ⟨t, hx, hm, -, hc, htok, -⟩ := modeCmdConfigure_enters s ht h
    exact ⟨t, hx, hm, htok, hc⟩
  · rcases h with h | h | ⟨h6, hok⟩
    · obtain ⟨t, hx, hm, -, hc, htok, -⟩ := modeCmdReady_enters s ht (.inl h)
      exact ⟨t, hx, hm, htok, hc⟩
    · obtain ⟨t, hx, hm, -, hc, htok, -⟩ := modeCmdReady_enters s ht (.inr h)
      exact ⟨t, hx, hm, htok, hc⟩
    · obtain ⟨t, hx, hm, hc, htok, -⟩ := modeCmdReady_leavesSafe s ht h6 hok
      exact ⟨t, hx, hm, htok, hc⟩
  · obtain ⟨t, hx, hm, -, hc, htok, -⟩ := (modeCmdRun_enters s ht h).1
    exact ⟨t, hx, hm, htok, hc⟩
  · obtain ⟨⟨t, hx, hm, -, -, htok, -⟩, u, hy, hreason, -⟩ := modeCmdOverride_enters s reason ht hh h3 he hr hl
    obtain rfl := Host.Outcome.next.inj (hx.symm.trans hy)
    exact ⟨t, hx, hm, htok, hreason⟩
  · obtain ⟨⟨t, hx, hm, -, -, htok, -⟩, u, hy, hep, -⟩ := modeCmdHalt_enters s ht h
    obtain rfl := Host.Outcome.next.inj (hx.symm.trans hy)
    exact ⟨t, hx, hm, htok, hep⟩
  · obtain ⟨t, hx, hdev, hm, -, hc, -⟩ := modeCmdDormant_asks s ht h hw
    exact ⟨t, hx, congrArg Dev.sleepReq hdev, hc, hm⟩
  · obtain ⟨⟨t, hx, hm, -, -, htok, -⟩, u, hy, hphase, -⟩ := modeCmdReplay_enters s ht h hp he
    obtain rfl := Host.Outcome.next.inj (hx.symm.trans hy)
    exact ⟨t, hx, hm, htok, hphase⟩

/-! ## Watchdogs, STO, sessions and CAN objects -/

theorem watchdogCommands_complete (s : State) (hup : s.up = true) :
    (s.dev.supUp = true → ∃ t, exec .supWdt s = .next t ∧ t.dev.supUp = false ∧ (t.core 0).stack = [] ∧ (t.core 1).stack = []) ∧
    (s.dev.supUp = false → ∃ t, exec .supervisorRestarted s = .next t ∧ t.dev.supUp = true ∧ ∀ c ∈ t.host.pr, s.e0 ≤ c.epoch) ∧
    (s.dev.logicUp = true → s.n .devLogicWdtMs ≠ 0 → s.dev.logicBeat + msNs (s.n .devLogicWdtMs) ≤ s.now →
      ∃ t, exec .logicWdt s = .next t ∧ t.dev.logicUp = false ∧ (t.core 2).stack = [] ∧ (t.core 3).stack = []) ∧
    (s.dev.logicUp = false → ∃ t, exec .logicRestarted s = .next t ∧ t.dev.logicUp = true ∧ t.dev.logicBeat = s.now) ∧
    (s.dev.logicUp = true → ∃ t, exec .logicHeartbeat s = .next t ∧ t.dev.logicBeat = s.now ∧ t.dev.logicUp = true) := by
  refine ⟨fun hs => ?_, fun hs => ?_, fun hl hms hd => ?_, fun hl => ?_, fun hl => ?_⟩
  · obtain ⟨hsup, hclear, -⟩ := s.supExpire_leaves hup
    exact ⟨_, exec_supWdt s hup hs, hsup, (hclear 0 (by decide)).1, (hclear 1 (by decide)).1⟩
  · obtain ⟨hdev, hpr⟩ := s.supRestart_leaves
    exact ⟨_, congrArg Host.Outcome.next (if_pos (by rw [hup, hs]; rfl)), congrArg Dev.supUp hdev, fun c hc => (hpr c hc).2⟩
  · obtain ⟨t, hx, hdev, -, hcore, -⟩ := logicWdt_resets s hup hl hms hd
    exact ⟨t, hx, congrArg Dev.logicUp hdev, (hcore 2 (.inl rfl)).1, (hcore 3 (.inr rfl)).1⟩
  · obtain ⟨t, hx, hdev, -⟩ := logicRestarted_returns s hup hl
    exact ⟨t, hx, congrArg Dev.logicUp hdev, congrArg Dev.logicBeat hdev⟩
  · exact ⟨_, congrArg Host.Outcome.next (if_pos hl), rfl, hl⟩

theorem safeCommands_complete (s : State) (hup : s.up = true) (h7 : s.mode ≠ 7) :
    (∀ a b : Bool, ∃ t, exec (.stoChange a b) s = .next t ∧ t.dev.stoA = a ∧ t.dev.stoB = b ∧
      (s.dev.stoA = true → a = false → Arith.bit (t.n .devSafeCause) 0 = true ∧ t.dev.tokenOn = false)) ∧
    (∀ a, s.dev.stoDiffAt = some a → a + msNs (s.n .devStoDiscrepancyMs) < s.now → Arith.bit (s.n .devSafeCause) 2 = false →
      ∃ t, exec .stoDiscrepancy s = .next t ∧ Arith.bit (t.n .devSafeCause) 2 = true) ∧
    (∃ t, exec .d1TickLost s = .next t ∧ Arith.bit (t.n .devSafeCause) 3 = true ∧ t.dev.tokenOn = false) ∧
    (s.mode ≠ 0 → ∃ t, exec (.memoryError false) s = .next t ∧ Arith.bit (t.n .devSafeCause) 7 = true) ∧
    (s.mode ≠ 0 → s.n .pairRole = 1 →
      ∃ t, exec (.memoryError true) s = .next t ∧ t.pair.handover = some (s.epoch + 2, s.epoch) ∧ Out.pairSurrender (s.epoch + 2) true ∈ t.out) ∧
    (s.hw.vLow = 3 → ∃ t, exec .holdupExhausted s = .next t ∧ Arith.bit (t.n .devSafeCause) 6 = true) ∧
    (∀ n : Fin 8, Arith.bit s.hw.rails n = false →
      ∃ t, exec (.railFault n) s = .next t ∧ Arith.bit t.hw.rails n = true ∧ Arith.bit (t.n .devSafeCause) 6 = true) := by
  have hp : s.dev.powered = true := by simp only [State.up, Bool.and_eq_true] at hup; exact hup.1
  refine ⟨fun a b => ?_, fun a ha hl hb => ⟨_, exec_stoDiscrepancy s a hup ha hl hb, s.enterSafe_bit 3 h7 (by decide)⟩,
    d1TickLost_completes s hup h7, fun h0 => ⟨_, exec_memoryError s hup h0, s.enterSafe_bit 8 h7 (by decide)⟩,
    memoryError_surrenders s hup, fun hv => ⟨_, exec_holdupExhausted s hup hv, s.enterSafe_bit 7 h7 (by decide)⟩,
    fun n => railFault_completes s n hup h7⟩
  obtain ⟨hA, hB, -, -, hfall, -⟩ := s.stoChange_leaves a b hup h7
  exact ⟨s.stoChange a b, congrArg Host.Outcome.next (if_pos hp), hA, hB, hfall⟩

theorem canCommands_complete (s : State) (c : CanNo) (o : ObjNo) :
    (s.objSends c o = true → s.n .objPeriodMs (objIx c o) = 0 → ∃ t, exec (.canTxCmdSend c o) s = .next t ∧
      t.n .objTxCmd (objIx c o) = 1 ∧ SendDue s t c o (objBytes s.pts c o (s.n .objLen (objIx c o)))) ∧
    (∃ t, exec (.canTxCmdAbort c o) s = .next t ∧ t.n .objTxCmd (objIx c o) = 2 ∧ Arith.bit (t.n .objStatus (objIx c o)) 3 = false) ∧
    (∀ v : Fin 3, ∃ t, exec (.canModeWrite c v) s = .next t ∧ t.n .canMode c = v) ∧
    (s.n .canState c = 4 → ∃ t, exec (.canRecovered c) s = .next t ∧ t.n .canTec c = 0 ∧ t.n .canRec c = 0) := by
  refine ⟨fun hs hp => ?_, ?_, fun v => ?_, fun h4 => ?_⟩
  · obtain ⟨t, hx, h1, h2, -⟩ := canTxCmdSend_due c o s hs hp
    exact ⟨t, hx, h1, h2⟩
  · obtain ⟨t, hx, h1, h2, -⟩ := canTxCmdAbort_aborts c o s
    exact ⟨t, hx, h1, h2⟩
  · obtain ⟨t, hx, h1, -⟩ := canModeWrite_takes c s v
    exact ⟨t, hx, h1⟩
  · obtain ⟨t, hx, h1, h2, -⟩ := canRecovered_recovers c s h4
    exact ⟨t, hx, h1, h2⟩

/-- Settles O60, from the lemmas on each command. -/
theorem commandsOfModesAndAgentsComplete : Obligations.CommandsOfModesAndAgentsComplete := by
  unfold Obligations.CommandsOfModesAndAgentsComplete
  refine fun s => ⟨fun d hl hg => hostHoldExpired_completes d s hl hg, fun d hd h3 hlost => ?_, modeCommands_complete s,
    fun fired hs h hb => ?_, watchdogCommands_complete s, safeCommands_complete s, fun hup => ?_, canCommands_complete s⟩
  · obtain ⟨t, hx, h1, h2, hdrv, -⟩ := hostReclaim_returns d s hd (by simp [State.reclaimOk, h3, hlost])
    exact ⟨t, hx, h2, h1, congrArg Drv.preset hdrv⟩
  · obtain ⟨t, hx, hreq, -, hsleep⟩ := sleepEffective_sleeps s fired hs h
    exact ⟨t, hx, (hsleep hb).1, hreq⟩
  · obtain ⟨hneg, -, hver, -⟩ := interfaceReset_ends s hup
    exact ⟨⟨_, rfl, hneg, hver⟩, ⟨_, rfl, hneg, hver⟩⟩

end Sys2Proof.Machine
end

section
/-!
SUPPORT. Proofs/RoundFrame.lean: what the operations on a round's record, ranges and positions leave (chapter 3).
-/
namespace Sys2Proof.Machine

/-! ## States that differ in the points and the rounds -/

/-- Only points and records of rounds differ. -/
def RoundsOnly (s t : State) : Prop := t = (s.withPts t.pts).withRnds t.rnds

theorem RoundsOnly.refl (s : State) : RoundsOnly s s := rfl

theorem RoundsOnly.trans {s t u : State} (h : RoundsOnly s t) (k : RoundsOnly t u) : RoundsOnly s u := by
  unfold RoundsOnly at h k ⊢
  rw [h] at k
  exact k

theorem RoundsOnly.putN (s : State) (f : Field) (i v j : Nat) : RoundsOnly s (s.putN f i v j) := rfl

theorem RoundsOnly.putRnd (s : State) (r : Nat) (x : Rnd) : RoundsOnly s (s.putRnd r x) := rfl

theorem RoundsOnly.forL {α : Type} (l : List α) (f : α → State → State) (s : State) (h : ∀ a t, RoundsOnly t (f a t)) :
    RoundsOnly s (forL l f s) := by
  induction l generalizing s with
  | nil => exact .refl s
  | cons a l ih => exact (h a s).trans (ih _)

theorem RoundsOnly.rest {s t : State} (h : RoundsOnly s t) : t.rest = (s.withRnds t.rnds).rest := by
  rw [RoundsOnly] at h
  rw [h]
  rfl

theorem RoundsOnly.so {s t : State} (h : RoundsOnly s t) : t.so = s.so := (congrArg State.so h :)

theorem RoundsOnly.ends {s t : State} (h : RoundsOnly s t) : t.dev = s.dev ∧ t.hw = s.hw ∧ t.pair = s.pair ∧ t.plant = s.plant ∧ t.clk = s.clk :=
  ⟨(congrArg State.dev h :), (congrArg State.hw h :), (congrArg State.pair h :), (congrArg State.plant h :), (congrArg State.clk h :)⟩

/-! ## Addresses (R4) -/

theorem cellAt_inj {r p q : Nat} (h : cellAt r p = cellAt r q) : p = q := by
  simp only [cellAt] at h
  omega

/-! ## Ranges (R62, Table 3.14) -/

/-- The points that the ranges of a round write. -/
def rangePoint (r : Nat) (q : Pt) : Prop :=
  (q.i = r ∧ q.f ∈ [Field.rndEnds, .rndTurn, .rndDelayANs, .rndDelayBNs, .rndDelayNs]) ∨ (q.f = .pos ∧ q.j = 6)

/-- The end that serves a position. -/
def State.serveAt (s : State) (r : Nat) (g : Option (Nat × Nat) × Option (Nat × Nat)) (p : Nat) : State :=
  if inRange g.2 p then s.putN .pos (cellAt r p) 1 6 else if inRange g.1 p then s.putN .pos (cellAt r p) 0 6 else s

theorem State.serveAt_w (s : State) (r : Nat) (g : Option (Nat × Nat) × Option (Nat × Nat)) (p : Nat) (f : Field) (i j : Nat)
    (h : ¬(f = .pos ∧ i = cellAt r p ∧ j = 6)) : (s.serveAt r g p).w f i j = s.w f i j := by
  unfold State.serveAt
  split
  · exact s.w_put_ne _ (by simpa using h)
  · split
    · exact s.w_put_ne _ (by simpa using h)
    · rfl

theorem State.serveAt_rounds (s : State) (r : Nat) (g : Option (Nat × Nat) × Option (Nat × Nat)) (p : Nat) :
    RoundsOnly s (s.serveAt r g p) ∧ (s.serveAt r g p).rnds = s.rnds := by
  unfold State.serveAt
  split
  · exact ⟨rfl, rfl⟩
  · split <;> exact ⟨rfl, rfl⟩

theorem State.serveAt_own (s : State) (r : Nat) (g : Option (Nat × Nat) × Option (Nat × Nat)) (p : Nat) :
    (s.serveAt r g p).n .pos (cellAt r p) 6 = if inRange g.2 p then 1 else if inRange g.1 p then 0 else s.n .pos (cellAt r p) 6 := by
  unfold State.serveAt
  split
  · exact s.n_putN_same _ _ _ _ (by decide)
  · split
    · exact s.n_putN_same _ _ _ _ (by decide)
    · rfl

theorem forL_serveAt_own (l : List Nat) (s : State) (r : Nat) (g : Option (Nat × Nat) × Option (Nat × Nat)) (p : Nat) (hp : p ∈ l) :
    (inRange g.2 p = true → (forL l (fun p t => t.serveAt r g p) s).n .pos (cellAt r p) 6 = 1) ∧
    (inRange g.2 p = false → inRange g.1 p = true → (forL l (fun p t => t.serveAt r g p) s).n .pos (cellAt r p) 6 = 0) := by
  have hown : ∀ t : State, (inRange g.2 p = true → (t.serveAt r g p).n .pos (cellAt r p) 6 = 1) ∧
      (inRange g.2 p = false → inRange g.1 p = true → (t.serveAt r g p).n .pos (cellAt r p) 6 = 0) := fun t => by
    rw [t.serveAt_own r g p]
    exact ⟨fun h => if_pos h, fun h k => by rw [if_neg (by simp [h]), if_pos k]⟩
  refine forL_settles (fun _ => True) (fun t => (inRange g.2 p = true → t.n .pos (cellAt r p) 6 = 1) ∧
    (inRange g.2 p = false → inRange g.1 p = true → t.n .pos (cellAt r p) 6 = 0)) hp trivial (fun _ _ _ _ => trivial) (fun a t ha ht => ?_)
    (fun t _ => hown t) (fun t _ => hown t)
  have hk : (t.serveAt r g a).n .pos (cellAt r p) 6 = t.n .pos (cellAt r p) 6 :=
    congrArg BitVec.toNat (t.serveAt_w r g a _ _ _ fun h => ha (cellAt_inj h.2.1).symm)
  rw [hk]
  exact ht

theorem State.present_of_pos {s t : State} {r : Nat} (h : ∀ p, t.w .pos (cellAt r p) 0 = s.w .pos (cellAt r p) 0) : t.present r = s.present r := by
  simp only [State.present, State.posState, State.n, h]

theorem State.oneWay_of_pos {s t : State} {r : Nat} (h : ∀ p j, j = 4 ∨ j = 5 → t.w .pos (cellAt r p) j = s.w .pos (cellAt r p) j) (e : End)
    (ps : List Nat) : t.oneWay r e ps = s.oneWay r e ps := by
  have hc : ∀ p, t.cum r p e = s.cum r p e := fun p => by
    cases e <;> simp only [State.cum, State.n, h _ _ (.inl rfl), h _ _ (.inr rfl)]
  simp only [State.oneWay, hc]

/-- The one-way delays that some ranges give. -/
def State.delaysOf (s : State) (r : Nat) (g : Option (Nat × Nat) × Option (Nat × Nat)) : Nat × Nat :=
  (s.oneWay r .a ((s.present r).filter (inRange g.1)), s.oneWay r .b ((s.present r).filter (inRange g.2)))

theorem State.publishDelays_leaves (s : State) (r : Nat) : let t := s.publishDelays r
    let d := s.delaysOf r ((s.rnd r).rangeA, (s.rnd r).rangeB)
    RoundsOnly s t ∧ t.rnds = s.rnds ∧ t.w .rndDelayANs r = Word.ofNat d.1 ∧ t.w .rndDelayBNs r = Word.ofNat d.2 ∧
    t.w .rndDelayNs r = Word.ofNat (max d.1 d.2) ∧ SamePoints s t [⟨.rndDelayANs, r, 0⟩, ⟨.rndDelayBNs, r, 0⟩, ⟨.rndDelayNs, r, 0⟩] := by
  unfold State.publishDelays
  refine ⟨rfl, rfl, ?_, ?_, State.w_putN_same _ _ _ _ _, ?_⟩
  · rw [State.w_putN_field _ (by decide), State.w_putN_field _ (by decide)]; exact State.w_putN_same _ _ _ _ _
  · rw [State.w_putN_field _ (by decide)]; exact State.w_putN_same _ _ _ _ _
  · exact ((SamePoints.put s .rndDelayANs r _ 0).trans (SamePoints.put _ .rndDelayBNs r _ 0)).trans (SamePoints.put _ .rndDelayNs r _ 0)

/-- Ends and first position of end B. -/
def State.rangesNoted (s : State) (r : Nat) (g : Option (Nat × Nat) × Option (Nat × Nat)) : State :=
  ((s.putRnd r { s.rnd r with rangeA := g.1, rangeB := g.2 }).putN .rndEnds r (Arith.b2n g.1.isSome + 2 * Arith.b2n g.2.isSome)).putN .rndTurn r
    ((g.2.map (·.1)).getD 256)

theorem State.setRanges_eq (s : State) (r : Nat) (g : Option (Nat × Nat) × Option (Nat × Nat)) :
    s.setRanges r g = forL (s.present r) (fun p t => t.serveAt r g p) ((s.rangesNoted r g).publishDelays r) := rfl

theorem State.rangesNoted_leaves (s : State) (r : Nat) (g : Option (Nat × Nat) × Option (Nat × Nat)) : let t := s.rangesNoted r g
    RoundsOnly s t ∧ t.rnd r = { s.rnd r with rangeA := g.1, rangeB := g.2 } ∧ (∀ q, q ≠ r → t.rnd q = s.rnd q) ∧
    t.n .rndEnds r = Arith.b2n g.1.isSome + 2 * Arith.b2n g.2.isSome ∧ t.w .rndTurn r = Word.ofNat ((g.2.map (·.1)).getD 256) ∧
    SamePoints s t [⟨.rndEnds, r, 0⟩, ⟨.rndTurn, r, 0⟩] := by
  unfold State.rangesNoted
  refine ⟨rfl, s.rnd_putRnd_same r _, fun q hq => s.rnd_putRnd_ne _ hq, ?_, State.w_putN_same _ _ _ _ _, ?_⟩
  · rw [State.n_putN_field _ (by decide)]
    refine State.n_putN_same _ _ _ _ _ ?_
    cases g.1.isSome <;> cases g.2.isSome <;> decide
  · exact (SamePoints.put (s.putRnd r _) .rndEnds r _ 0).trans (SamePoints.put _ .rndTurn r _ 0)

theorem forL_serveAt_leaves (l : List Nat) (s : State) (r : Nat) (g : Option (Nat × Nat) × Option (Nat × Nat)) :
    let t := forL l (fun p t => t.serveAt r g p) s
    RoundsOnly s t ∧ t.rnds = s.rnds ∧ ∀ f i j, ¬(f = .pos ∧ j = 6) → t.w f i j = s.w f i j :=
  ⟨.forL _ _ _ fun p t => (t.serveAt_rounds r g p).1, forL_keeps State.rnds _ _ _ fun p t => (t.serveAt_rounds r g p).2,
    fun f i j h => forL_keeps (fun x : State => x.w f i j) _ _ _ fun p t => t.serveAt_w r g p f i j fun hx => h ⟨hx.1, hx.2.2⟩⟩

/-- Setting the ranges of a round. -/
theorem State.setRanges_leaves (s : State) (r : Nat) (g : Option (Nat × Nat) × Option (Nat × Nat)) : let t := s.setRanges r g
    RoundsOnly s t ∧ t.rnd r = { s.rnd r with rangeA := g.1, rangeB := g.2 } ∧ (∀ q, q ≠ r → t.rnd q = s.rnd q) ∧ RangesSet s t r g ∧
    ∀ f i j, ¬rangePoint r ⟨f, i, j⟩ → t.w f i j = s.w f i j := by
  rw [s.setRanges_eq r g]
  obtain ⟨n1, nr, no, nends, nturn, nsame⟩ := s.rangesNoted_leaves r g
  generalize s.rangesNoted r g = u at n1 nr no nends nturn nsame ⊢
  obtain ⟨p1, pr, pa, pb, pd, psame⟩ := u.publishDelays_leaves r
  have hdel : u.delaysOf r ((u.rnd r).rangeA, (u.rnd r).rangeB) = s.delaysOf r g := by
    have hpos : ∀ p j, u.w .pos (cellAt r p) j = s.w .pos (cellAt r p) j := fun p j => nsame _ _ _ (by simp)
    rw [nr]
    simp only [State.delaysOf, State.present_of_pos fun p => hpos p 0, State.oneWay_of_pos fun p j _ => hpos p j]
  rw [hdel] at pa pb pd
  generalize u.publishDelays r = v at p1 pr pa pb pd psame ⊢
  obtain ⟨q1, qr, qw⟩ := forL_serveAt_leaves (s.present r) v r g
  have hr : (forL (s.present r) (fun p t => t.serveAt r g p) v).rnd r = { s.rnd r with rangeA := g.1, rangeB := g.2 } := by
    rw [State.rnd, qr, pr]; exact nr
  refine ⟨n1.trans (p1.trans q1), hr, fun q hq => ?_, ⟨by rw [hr], by rw [hr], ?_, ?_, ?_, ?_, ?_, fun p hp => forL_serveAt_own _ v r g p hp⟩,
    fun f i j h => ?_⟩
  · rw [State.rnd, qr, pr]; exact no q hq
  · rw [State.n, qw _ _ _ (by simp), psame _ _ _ (by simp)]; exact nends
  · rw [qw _ _ _ (by simp), psame _ _ _ (by simp)]; exact nturn
  · rw [qw _ _ _ (by simp)]; exact pa
  · rw [qw _ _ _ (by simp)]; exact pb
  · rw [qw _ _ _ (by simp)]; exact pd
  · simp only [rangePoint, List.mem_cons, List.not_mem_nil, or_false, not_or, not_and] at h
    obtain ⟨h1, h2⟩ := h
    rw [qw _ _ _ (fun hx => h2 hx.1 hx.2), psame _ _ _ (by simp; tauto), nsame _ _ _ (by simp; tauto)]

end Sys2Proof.Machine
end

section
/-!
SUPPORT. Proofs/Breaks.lean: breaks of a round, their restoration, and the end of late-round operation (sections 2.4 and 3.8).
-/
namespace Sys2Proof.Machine

theorem State.rnd_of_quiet {s t : State} (h : t.quiet = s.quiet) (r : Nat) : t.rnd r = s.rnd r := by
  rw [State.rnd, State.rnd, State.rnds_of_quiet h]

/-- A report after a change of points and rounds. -/
theorem RoundsOnly.rest_quiet {s u t : State} (h : RoundsOnly s u) (hq : t.quiet = u.quiet) : t.rest = (s.withRnds t.rnds).rest := by
  rw [State.rest_of_quiet hq, State.rnds_of_quiet hq]
  exact h.rest

theorem RangesSet.of_quiet {s u t : State} {r : Nat} {g : Option (Nat × Nat) × Option (Nat × Nat)} (h : RangesSet s u r g)
    (hq : t.quiet = u.quiet) : RangesSet s t r g := by
  have hw : ∀ f i j, fieldReports f = false → t.w f i j = u.w f i j := fun f i j hf => State.w_of_quiet hq f i j hf
  have hn : ∀ f i j, fieldReports f = false → t.n f i j = u.n f i j := fun f i j hf => State.n_of_quiet hq f i j hf
  obtain ⟨h1, h2, h3, h4, h5, h6, h7, h8⟩ := h
  refine ⟨?_, ?_, (hn _ _ _ rfl).trans h3, (hw _ _ _ rfl).trans h4, (hw _ _ _ rfl).trans h5, (hw _ _ _ rfl).trans h6, (hw _ _ _ rfl).trans h7,
    fun p hp => ?_⟩
  · rw [State.rnd_of_quiet hq]; exact h1
  · rw [State.rnd_of_quiet hq]; exact h2
  · rw [hn _ _ _ rfl]; exact h8 p hp

theorem endLockLost_records (r : RoundNo) (s : State) (e : End) : Yields (exec (.endLockLost r e) s) fun t =>
    t.rnd r = (match e with
      | .a => { s.rnd r with lockA := false, detected := true, broken := true, calm := 0 }
      | .b => { s.rnd r with lockB := false, detected := true, broken := true, calm := 0 }) ∧ t = s.withRnds t.rnds ∧
    t.rest = (s.withRnds t.rnds).rest ∧ ∀ q, q ≠ r.val → t.rnd q = s.rnd q := by
  cases e with
  | a => exact yields_next ⟨s.rnd_putRnd_same r _, rfl, rfl, fun q hq => s.rnd_putRnd_ne _ hq⟩
  | b => exact yields_next ⟨s.rnd_putRnd_same r _, rfl, rfl, fun q hq => s.rnd_putRnd_ne _ hq⟩

theorem breakBlock_records (r : RoundNo) (s : State) (e : End) (pos : Fin 256) (port : End) :
    Yields (exec (.breakBlock r e pos port) s) fun t =>
      (s.showsSilence r e pos port = true → r.val ∈ t.pair.silent ∧ t = s.withPair { s.pair with silent := t.pair.silent } ∧
        ∀ q ∈ s.pair.silent, q ∈ t.pair.silent) ∧
      (s.showsSilence r e pos port = false → t.rnd r = (match port with
        | .a => { s.rnd r with lostA := some (min ((s.rnd r).lostA.getD pos) pos), detected := true, broken := true, calm := 0 }
        | .b => { s.rnd r with lostB := some (max ((s.rnd r).lostB.getD pos) pos), detected := true, broken := true, calm := 0 }) ∧
        t = s.withRnds t.rnds ∧ t.rest = (s.withRnds t.rnds).rest ∧ ∀ q, q ≠ r.val → t.rnd q = s.rnd q) := by
  cases h : s.showsSilence r e pos port with
  | true =>
    have hx : exec (.breakBlock r e pos port) s = .next (s.withPair { s.pair with
        silent := if s.pair.silent.contains r.val then s.pair.silent else r.val :: s.pair.silent }) := congrArg Host.Outcome.next (if_pos h)
    rw [hx]
    refine yields_next ⟨fun _ => ⟨?_, rfl, fun q hq => ?_⟩, fun hf => absurd hf (by decide)⟩
    · show r.val ∈ if s.pair.silent.contains r.val then s.pair.silent else r.val :: s.pair.silent
      split
      · next hc => exact List.contains_iff_mem.1 hc
      · exact List.mem_cons_self ..
    · show q ∈ if s.pair.silent.contains r.val then s.pair.silent else r.val :: s.pair.silent
      split
      · exact hq
      · exact List.mem_cons_of_mem _ hq
  | false =>
    cases port with
    | a => exact yields_next (t := s.breakBlock r e pos .a) (by
        rw [State.breakBlock, if_neg (by simp [h])]
        exact ⟨fun hf => absurd hf (by decide), fun _ => ⟨s.rnd_putRnd_same r _, rfl, rfl, fun q hq => s.rnd_putRnd_ne _ hq⟩⟩)
    | b => exact yields_next (t := s.breakBlock r e pos .b) (by
        rw [State.breakBlock, if_neg (by simp [h])]
        exact ⟨fun hf => absurd hf (by decide), fun _ => ⟨s.rnd_putRnd_same r _, rfl, rfl, fun q hq => s.rnd_putRnd_ne _ hq⟩⟩)

/-- The break is over. -/
def State.breakOver (s : State) (r : Nat) : State := s.putRnd r { s.rnd r with broken := false, lostA := none, lostB := none, calm := 0 }

theorem State.breakOver_ok (s : State) (r : Nat) (e : End) : (s.breakOver r).endOk2 r e = s.endOk2 r e := by
  have hr : (s.breakOver r).rnd r = { s.rnd r with broken := false, lostA := none, lostB := none, calm := 0 } := s.rnd_putRnd_same r _
  cases e with
  | a => rw [State.endOk2, hr]; rfl
  | b => rw [State.endOk2, hr]; rfl

theorem roundRestored_restores (r : RoundNo) (s : State) (hb : (s.rnd r).broken = true) (hl : s.lockRegained r = true)
    (hc : s.n .rndRestoreEpochs r ≤ (s.rnd r).calm) : Yields (exec (.roundRestored r) s) fun t =>
      RangesSet s t r (s.balanced r (s.present r) (s.endOk2 r .a) (s.endOk2 r .b)) ∧
      (t.rnd r).broken = false ∧ (t.rnd r).lostA = none ∧ (t.rnd r).lostB = none ∧ (t.rnd r).calm = 0 ∧ Raised s t 0x0105 kRound r ∧
      (t.rest = (s.withRnds t.rnds).rest ∧ ∀ q, q ≠ r.val → t.rnd q = s.rnd q) ∧
      QuietFields s t [.rndEnds, .rndTurn, .rndDelayANs, .rndDelayBNs, .rndDelayNs, .pos] := by
  let g := s.balanced r (s.present r) (s.endOk2 r .a) (s.endOk2 r .b)
  have hg : (s.breakOver r).rebalance r = (s.breakOver r).setRanges r g := by
    rw [State.rebalance, s.breakOver_ok r .a, s.breakOver_ok r .b]
    rfl
  have hx : exec (.roundRestored r) s = .next (((s.breakOver r).setRanges r g).raise 0x0105 kRound r 0) := by
    rw [← hg]
    exact congrArg Host.Outcome.next (if_pos ⟨hb, hl, hc⟩)
  obtain ⟨hro, hr, ho, hset, hw⟩ := (s.breakOver r).setRanges_leaves r g
  have h0 : RoundsOnly s (s.breakOver r) := rfl
  have hr0 : (s.breakOver r).rnd r = { s.rnd r with broken := false, lostA := none, lostB := none, calm := 0 } := s.rnd_putRnd_same r _
  have ho0 : ∀ q, q ≠ r.val → (s.breakOver r).rnd q = s.rnd q := fun q hq => s.rnd_putRnd_ne _ hq
  have hp0 : (s.breakOver r).pts = s.pts := rfl
  have hset' : RangesSet s ((s.breakOver r).setRanges r g) r g := hset
  rw [hx]
  rw [hr0] at hr
  generalize (s.breakOver r).setRanges r g = u at hro hr ho hset' hw ⊢
  have hq := u.raise_quiet 0x0105 kRound r 0
  have hrt := (State.rnd_of_quiet hq r).trans hr
  refine yields_next ⟨hset'.of_quiet hq, by rw [hrt], by rw [hrt], by rw [hrt], by rw [hrt],
    State.raise_raised _ _ _ _ _ (h0.trans hro).so, ⟨(h0.trans hro).rest_quiet hq, fun q hne => ?_⟩, fun f i j hf hrep => ?_⟩
  · rw [State.rnd_of_quiet hq, ho q hne]; exact ho0 q hne
  · rw [State.w_of_quiet hq _ _ _ hrep, hw f i j, State.w, hp0]
    · rfl
    · simp only [List.mem_cons, List.not_mem_nil, or_false, not_or] at hf
      simp only [rangePoint, List.mem_cons, List.not_mem_nil, or_false]
      tauto

theorem lateRoundExit_ends (r : RoundNo) (s : State) (hl : s.n .rndLate r = 1) (hs : 4000 ≤ (s.rnd r).shortN) :
    Yields (exec (.lateRoundExit r) s) fun t =>
      t.n .rndLate r = 0 ∧ t.rnd r = { s.rnd r with shortN := 0 } ∧ Raised s t 0x0103 kRound r ∧
      (t.rest = (s.withRnds t.rnds).rest ∧ ∀ q, q ≠ r.val → t.rnd q = s.rnd q) ∧ QuietPoints s t [⟨.rndLate, r, 0⟩] := by
  let u := (s.putN .rndLate r 0).putRnd r { s.rnd r with shortN := 0 }
  have hx : exec (.lateRoundExit r) s = .next (u.raise 0x0103 kRound r 0) := congrArg Host.Outcome.next (if_pos ⟨hl, hs⟩)
  have hro : RoundsOnly s u := rfl
  have hq := u.raise_quiet 0x0103 kRound r 0
  rw [hx]
  refine yields_next ⟨?_, ?_, State.raise_raised _ _ _ _ _ hro.so, ⟨hro.rest_quiet hq, fun q hne => ?_⟩, ?_⟩
  · rw [State.n_of_quiet hq _ _ _ rfl]; exact s.n_putN_same _ _ _ _ (by decide)
  · rw [State.rnd_of_quiet hq]; exact State.rnd_putRnd_same _ _ _
  · rw [State.rnd_of_quiet hq]; exact State.rnd_putRnd_ne _ _ hne
  · exact (QuietPoints.putN s .rndLate r 0 0).then fun f i j hf => State.w_of_quiet hq f i j hf

/-- Settles O38, command by command. -/
theorem breaksAndLateRounds : Obligations.BreaksAndLateRounds := by
  unfold Obligations.BreaksAndLateRounds
  exact fun r s => ⟨endLockLost_records r s, breakBlock_records r s, roundRestored_restores r s, lateRoundExit_ends r s⟩

end Sys2Proof.Machine
end

section
/-!
SUPPORT. Proofs/Slots.lean: upstream slots, closures and lost cells (sections 3.4, 3.7 and 3.9).
-/
namespace Sys2Proof.Machine

/-! ## What slots leave aside -/

/-- A state with other points, rounds, clock, cells and commit epochs. -/
def slotParts (x : State) (a : Store) (b : Tab Rnd) (c : Clock) (d : Tab CellSt) (e : List (Pt × Nat)) : State :=
  ((((x.withPts a).withRnds b).withClk c).withCells d).withCep e

theorem slotParts_slotParts (x : State) (a a' : Store) (b b' : Tab Rnd) (c c' : Clock) (d d' : Tab CellSt) (e e' : List (Pt × Nat)) :
    slotParts (slotParts x a b c d e) a' b' c' d' e' = slotParts x a' b' c' d' e' := by
  cases x; rfl

theorem slotParts_rounds (x : State) (a : Store) (b : Tab Rnd) : slotParts x a b x.clk x.cells x.cep = (x.withPts a).withRnds b := by
  cases x; rfl

theorem slotParts_gather (x : State) (a : Store) (e : List (Pt × Nat)) : slotParts x a x.rnds x.clk x.cells e = (x.withPts a).withCep e := by
  cases x; rfl

theorem slotParts_cells (x : State) (d : Tab CellSt) : slotParts x x.pts x.rnds x.clk d x.cep = x.withCells d := by
  cases x; rfl

theorem slotParts_clk (x : State) (c : Clock) : slotParts x x.pts x.rnds c x.cells x.cep = x.withClk c := by
  cases x; rfl

/-- Only points, rounds, the clock, cells and commit epochs differ. -/
def SlotOnly (s t : State) : Prop := t = slotParts s t.pts t.rnds t.clk t.cells t.cep

theorem SlotOnly.trans {s t u : State} (h : SlotOnly s t) (k : SlotOnly t u) : SlotOnly s u :=
  calc u = slotParts t u.pts u.rnds u.clk u.cells u.cep := k
    _ = slotParts (slotParts s t.pts t.rnds t.clk t.cells t.cep) u.pts u.rnds u.clk u.cells u.cep :=
      congrArg (fun x : State => slotParts x u.pts u.rnds u.clk u.cells u.cep) h
    _ = slotParts s u.pts u.rnds u.clk u.cells u.cep := slotParts_slotParts _ _ _ _ _ _ _ _ _ _ _

theorem SlotOnly.eq {s t : State} (h : SlotOnly s t) :
    t = ((((s.withPts t.pts).withRnds t.rnds).withClk t.clk).withCells t.cells).withCep t.cep := h

theorem State.advance_slot (s : State) (time : Nat) : SlotOnly s (s.advance time) := (slotParts_clk s _).symm

theorem RoundsOnly.slot {s t : State} (h : RoundsOnly s t) : SlotOnly s t := by
  have hc : t.clk = s.clk := (congrArg State.clk h :)
  have hd : t.cells = s.cells := (congrArg State.cells h :)
  have he : t.cep = s.cep := (congrArg State.cep h :)
  rw [SlotOnly, hc, hd, he, slotParts_rounds]
  exact h

/-- One point of a slot. -/
theorem State.gather_leaves (s : State) (f : Field) (i : Nat) (w : Word) (j : Nat) : let t := s.gather f i w j
    SlotOnly s t ∧ t.rnds = s.rnds ∧ t.clk = s.clk ∧ t.w f i j = w ∧ SamePoints s t [⟨f, i, j⟩] :=
  ⟨(slotParts_gather s _ _).symm, rfl, rfl, s.w_put_same f i w j, SamePoints.put s f i w j⟩

/-! ## The points of a slot (R79 to R81, R538) -/

/-- The points of a slot are taken into the cell's block. -/
def State.slotGathered (s : State) (r : Nat) (bs : List Byte) : State :=
  let a := cellAt r (Arith.field bs 13 1)
  let status := Arith.field bs 4 4
  (((s.gather .cell a (Word.ofNat (Arith.field bs 0 2)) 0x0B).gather .cell a
    (Word.ofInt (BitVec.ofNat 16 (Arith.field bs 2 2)).toInt) 0x0C).gather .cell a (Word.ofNat status) 0x0D).gather .cell a
    (Word.ofNat (Arith.field bs 8 4)) (0x10 + status / 2 ^ 28)

/-- The event byte of a slot is taken. -/
def State.slotEvent (s : State) (r p ev : Nat) : State :=
  if ev = 0 then s else (s.gather .cell (cellAt r p) (Word.ofNat (0x0200 + ev)) 0x0E).cellEvent r p ev

/-- A round's record after a slot: `token`, whether the cell blocked for an invalid token. -/
def Rnd.slotTaken (x : Rnd) (p status : Nat) (e : End) (token : Bool) : Rnd :=
  { x with
    rejected := if token then p :: x.rejected.filter (· != p) else x.rejected.filter (· != p)
    slots := (p * 2 + (match e with | .a => 0 | .b => 1)) :: x.slots
    missing := Tab.put 0 x.missing p 0
    lostB := if Arith.bit status 14 then some (max (x.lostB.getD p) p) else x.lostB
    lostA := if Arith.bit status 13 then some (min (x.lostA.getD p) p) else x.lostA }

/-- A slot is taken, before its delay is measured. -/
def State.slotNoted (s : State) (r : Nat) (e : End) (bs : List Byte) (token : Bool) : State :=
  let p := Arith.field bs 13 1
  let status := Arith.field bs 4 4
  let s4 := ((s.slotGathered r bs).slotEvent r p (Arith.field bs 12 1)).putCellState r p (status % 16)
  (s4.putRnd r ((s4.rnd r).slotTaken p status e token)).cellShows r bs

theorem State.takeSlot_eq (s : State) (r : Nat) (e : End) (bs : List Byte) (t : Nat) :
    ∃ token, s.takeSlot r e bs t = (s.slotNoted r e bs token).slotDelay r (Arith.field bs 13 1) e t := ⟨_, rfl⟩

theorem State.slotGathered_leaves (s : State) (r : Nat) (bs : List Byte) : let t := s.slotGathered r bs
    let a := cellAt r (Arith.field bs 13 1)
    let status := Arith.field bs 4 4
    SlotOnly s t ∧ t.rnds = s.rnds ∧ t.clk = s.clk ∧ t.w .cell a 0x0B = Word.ofNat (Arith.field bs 0 2) ∧
    t.w .cell a 0x0C = Word.ofInt (BitVec.ofNat 16 (Arith.field bs 2 2)).toInt ∧ t.w .cell a 0x0D = Word.ofNat status ∧
    t.w .cell a (0x10 + status / 2 ^ 28) = Word.ofNat (Arith.field bs 8 4) ∧
    SamePoints s t [⟨.cell, a, 0x0B⟩, ⟨.cell, a, 0x0C⟩, ⟨.cell, a, 0x0D⟩, ⟨.cell, a, 0x10 + status / 2 ^ 28⟩] := by
  unfold State.slotGathered
  extract_lets a status t
  simp only [t]
  generalize status / 2 ^ 28 = k
  obtain ⟨o1, r1, c1, w1, p1⟩ := s.gather_leaves .cell a (Word.ofNat (Arith.field bs 0 2)) 0x0B
  generalize s.gather .cell a (Word.ofNat (Arith.field bs 0 2)) 0x0B = s1 at *
  obtain ⟨o2, r2, c2, w2, p2⟩ := s1.gather_leaves .cell a (Word.ofInt (BitVec.ofNat 16 (Arith.field bs 2 2)).toInt) 0x0C
  generalize s1.gather .cell a (Word.ofInt (BitVec.ofNat 16 (Arith.field bs 2 2)).toInt) 0x0C = s2 at *
  obtain ⟨o3, r3, c3, w3, p3⟩ := s2.gather_leaves .cell a (Word.ofNat status) 0x0D
  generalize s2.gather .cell a (Word.ofNat status) 0x0D = s3 at *
  obtain ⟨o4, r4, c4, w4, p4⟩ := s3.gather_leaves .cell a (Word.ofNat (Arith.field bs 8 4)) (0x10 + k)
  generalize s3.gather .cell a (Word.ofNat (Arith.field bs 8 4)) (0x10 + k) = s4 at *
  refine ⟨o1.trans (o2.trans (o3.trans o4)), r4.trans (r3.trans (r2.trans r1)), c4.trans (c3.trans (c2.trans c1)), ?_, ?_, ?_, w4,
    ((p1.trans p2).trans p3).trans p4⟩
  · rw [p4 _ _ _ (by simp; omega), p3 _ _ _ (by simp), p2 _ _ _ (by simp)]; exact w1
  · rw [p4 _ _ _ (by simp; omega), p3 _ _ _ (by simp)]; exact w2
  · rw [p4 _ _ _ (by simp; omega)]; exact w3

theorem State.cellEvent_leaves (s : State) (r p ev : Nat) : let t := s.cellEvent r p ev
    RoundsOnly s t ∧ t.pts = s.pts ∧ (∀ q, q ≠ r → t.rnd q = s.rnd q) ∧
    t.rnd r = { s.rnd r with codes := (s.rnd r).codes ++ (if ev = 0 ∨ (0x70 ≤ ev ∧ ev ≤ 0x7F) then [] else [(ev, p)]) } := by
  unfold State.cellEvent
  dsimp only
  by_cases h : ev = 0 ∨ (0x70 ≤ ev ∧ ev ≤ 0x7F)
  · rw [if_pos h, if_pos h, List.append_nil]
    exact ⟨rfl, rfl, fun _ _ => rfl, rfl⟩
  · rw [if_neg h, if_neg h]
    exact ⟨rfl, rfl, fun q hq => s.rnd_putRnd_ne _ hq, s.rnd_putRnd_same _ _⟩

theorem State.slotEvent_leaves (s : State) (r p ev : Nat) : let t := s.slotEvent r p ev
    SlotOnly s t ∧ t.clk = s.clk ∧ (∀ q, q ≠ r → t.rnd q = s.rnd q) ∧
    t.rnd r = { s.rnd r with codes := (s.rnd r).codes ++ (if ev = 0 ∨ (0x70 ≤ ev ∧ ev ≤ 0x7F) then [] else [(ev, p)]) } ∧
    (ev ≠ 0 → t.w .cell (cellAt r p) 0x0E = Word.ofNat (0x0200 + ev)) ∧
    (ev = 0 → t.w .cell (cellAt r p) 0x0E = s.w .cell (cellAt r p) 0x0E) ∧ SamePoints s t [⟨.cell, cellAt r p, 0x0E⟩] := by
  unfold State.slotEvent
  by_cases h0 : ev = 0
  · rw [if_pos h0]
    exact ⟨(RoundsOnly.refl s).slot, rfl, fun _ _ => rfl, by simp [h0], fun h => absurd h0 h, fun _ => rfl, fun _ _ _ _ => rfl⟩
  · rw [if_neg h0]
    obtain ⟨o1, r1, c1, w1, p1⟩ := s.gather_leaves .cell (cellAt r p) (Word.ofNat (0x0200 + ev)) 0x0E
    generalize s.gather .cell (cellAt r p) (Word.ofNat (0x0200 + ev)) 0x0E = u at *
    obtain ⟨o2, p2, oth, own⟩ := u.cellEvent_leaves r p ev
    have hr : ∀ q, u.rnd q = s.rnd q := fun q => by rw [State.rnd, State.rnd, r1]
    rw [hr r] at own
    refine ⟨o1.trans o2.slot, (o2.ends.2.2.2.2).trans c1, fun q hq => (oth q hq).trans (hr q), own, fun _ => ?_, fun h => absurd h h0,
      fun f i j hn => ?_⟩
    · rw [State.w, p2]; exact w1
    · rw [State.w, p2]; exact p1 f i j hn

theorem State.putCellState_leaves (s : State) (r p st : Nat) (hst : st < 2 ^ 32) : let t := s.putCellState r p st
    t = s.withPts t.pts ∧ t.n .pos (cellAt r p) 0 = st ∧ t.n .cell (cellAt r p) 0x0A = st ∧
    SamePoints s t [⟨.pos, cellAt r p, 0⟩, ⟨.cell, cellAt r p, 0x0A⟩] := by
  unfold State.putCellState
  refine ⟨rfl, ?_, State.n_putN_same _ _ _ _ _ hst, (SamePoints.put s .pos _ _ 0).trans (SamePoints.put _ .cell _ _ 0x0A)⟩
  rw [State.n_putN_field _ (by decide)]
  exact State.n_putN_same _ _ _ _ _ hst

/-! ## The measured delay (R62, R86) -/

/-- What a delay measurement keeps of a round's record. -/
def Rnd.slotKept (x y : Rnd) : Prop :=
  y.codes = x.codes ∧ y.slots = x.slots ∧ y.missing = x.missing ∧ y.rangeA = x.rangeA ∧ y.rangeB = x.rangeB

theorem State.putCum_leaves (s : State) (r p ns : Nat) (e : End) : let t := s.putCum r p ns e
    t = s.withPts t.pts ∧ SamePoints s t [⟨.pos, cellAt r p, 4⟩, ⟨.pos, cellAt r p, 5⟩] := by
  cases e with
  | a => exact ⟨rfl, (SamePoints.put s .pos (cellAt r p) _ 4).mono (by simp)⟩
  | b => exact ⟨rfl, (SamePoints.put s .pos (cellAt r p) _ 5).mono (by simp)⟩

/-- A new cumulative delay is kept and sent. -/
def State.delayKept (s : State) (r p : Nat) (e : End) (d : Nat) : State :=
  ((s.putCum r p d e).putRnd r { (s.putCum r p d e).rnd r with dirq := ((s.putCum r p d e).rnd r).dirq ++ [⟨some p, .delay e d⟩] }).publishDelays r

/-- The points of a round's delays. -/
def delayPoints (r p : Nat) : List Pt :=
  [⟨.pos, cellAt r p, 4⟩, ⟨.pos, cellAt r p, 5⟩, ⟨.rndDelayANs, r, 0⟩, ⟨.rndDelayBNs, r, 0⟩, ⟨.rndDelayNs, r, 0⟩]

theorem State.delayKept_leaves (s : State) (r p : Nat) (e : End) (d : Nat) : let t := s.delayKept r p e d
    RoundsOnly s t ∧ (∀ q, q ≠ r → t.rnd q = s.rnd q) ∧ (s.rnd r).slotKept (t.rnd r) ∧ SamePoints s t (delayPoints r p) := by
  unfold State.delayKept
  obtain ⟨hv, hs⟩ := s.putCum_leaves r p d e
  generalize s.putCum r p d e = u at hv hs ⊢
  have hrnds : u.rnds = s.rnds := by rw [hv]; rfl
  have hro : RoundsOnly s u := by rw [RoundsOnly, hrnds]; exact hv
  have hr : ∀ q, u.rnd q = s.rnd q := fun q => by rw [State.rnd, State.rnd, hrnds]
  let v := u.putRnd r { u.rnd r with dirq := (u.rnd r).dirq ++ [⟨some p, .delay e d⟩] }
  have hvr : v.rnd r = { u.rnd r with dirq := (u.rnd r).dirq ++ [⟨some p, .delay e d⟩] } := u.rnd_putRnd_same r _
  have hvo : ∀ q, q ≠ r → v.rnd q = u.rnd q := fun q hq => u.rnd_putRnd_ne _ hq
  have huv : RoundsOnly u v := rfl
  have hvs : SamePoints u v [] := fun _ _ _ _ => rfl
  obtain ⟨p1, pr, -, -, -, ps⟩ := v.publishDelays_leaves r
  refine ⟨hro.trans (huv.trans p1), fun q hq => ?_, ?_, ((hs.trans hvs).trans ps).mono (by simp [delayPoints])⟩
  · rw [State.rnd, pr]; exact (hvo q hq).trans (hr q)
  · have : (v.publishDelays r).rnd r = v.rnd r := by rw [State.rnd, pr]; rfl
    rw [this, hvr, hr r]
    exact ⟨rfl, rfl, rfl, rfl, rfl⟩

/-- The end's place among the slots of a position. -/
def endBit : End → Nat
  | .a => 0
  | .b => 1

/-- One more measurement, `k` its place. -/
def State.delayMeasured (s : State) (r p : Nat) (e : End) (time k : Nat) : State :=
  let x := s.rnd r
  let sent := s.cum r p e
  let m := ((Tab.get (0, 0) x.meas k).1 + 1, (Tab.get (0, 0) x.meas k).2 + ((time - s.clk.t0 - 1000) + sent))
  if m.1 < 64 then s.putRnd r { x with meas := Tab.put (0, 0) x.meas k m }
  else
    let s1 := s.putRnd r { x with meas := Tab.put (0, 0) x.meas k (0, 0) }
    if 1 < Arith.absR ((m.2 : Rat) / 128 - sent) then s1.delayKept r p e (Arith.round ((m.2 : Rat) / 128)).toNat else s1

theorem State.slotDelay_eq (s : State) (r p : Nat) (e : End) (time : Nat) : s.slotDelay r p e time =
    if s.n .rndState r ≠ 6 ∨ inRange ((s.rnd r).range e) p = false then s else s.delayMeasured r p e time (p * 2 + endBit e) := by
  cases e <;> rfl

theorem Rnd.slotKept.trans {x y z : Rnd} (h : x.slotKept y) (k : y.slotKept z) : x.slotKept z := by
  obtain ⟨a1, a2, a3, a4, a5⟩ := h
  obtain ⟨b1, b2, b3, b4, b5⟩ := k
  exact ⟨b1.trans a1, b2.trans a2, b3.trans a3, b4.trans a4, b5.trans a5⟩

theorem State.measPut_leaves (s : State) (r p : Nat) (m : Tab (Nat × Nat)) : let t := s.putRnd r { s.rnd r with meas := m }
    RoundsOnly s t ∧ (∀ q, q ≠ r → t.rnd q = s.rnd q) ∧ (s.rnd r).slotKept (t.rnd r) ∧ SamePoints s t (delayPoints r p) :=
  ⟨rfl, fun q hq => s.rnd_putRnd_ne _ hq, by rw [s.rnd_putRnd_same]; exact ⟨rfl, rfl, rfl, rfl, rfl⟩, fun _ _ _ _ => rfl⟩

theorem State.delayMeasured_leaves (s : State) (r p : Nat) (e : End) (time k : Nat) : let t := s.delayMeasured r p e time k
    RoundsOnly s t ∧ (∀ q, q ≠ r → t.rnd q = s.rnd q) ∧ (s.rnd r).slotKept (t.rnd r) ∧ SamePoints s t (delayPoints r p) := by
  unfold State.delayMeasured
  dsimp only
  split
  · exact s.measPut_leaves r p _
  · have h := s.measPut_leaves r p (Tab.put (0, 0) (s.rnd r).meas k (0, 0))
    split
    · generalize s.putRnd r { s.rnd r with meas := Tab.put (0, 0) (s.rnd r).meas k (0, 0) } = u at h ⊢
      obtain ⟨h1, h2, h3, h4⟩ := h
      obtain ⟨k1, k2, k3, k4⟩ := u.delayKept_leaves r p e (Arith.round _).toNat
      exact ⟨h1.trans k1, fun q hq => (k2 q hq).trans (h2 q hq), h3.trans k3, (h4.trans k4).mono (by simp)⟩
    · exact h

theorem State.slotDelay_leaves (s : State) (r p : Nat) (e : End) (time : Nat) : let t := s.slotDelay r p e time
    RoundsOnly s t ∧ (∀ q, q ≠ r → t.rnd q = s.rnd q) ∧ (s.rnd r).slotKept (t.rnd r) ∧ SamePoints s t (delayPoints r p) ∧
    (s.n .rndState r ≠ 6 ∨ inRange ((s.rnd r).range e) p = false → t = s) := by
  rw [s.slotDelay_eq]
  by_cases h : s.n .rndState r ≠ 6 ∨ inRange ((s.rnd r).range e) p = false
  · rw [if_pos h]
    exact ⟨.refl s, fun _ _ => rfl, ⟨rfl, rfl, rfl, rfl, rfl⟩, fun _ _ _ _ => rfl, fun _ => rfl⟩
  · rw [if_neg h]
    obtain ⟨h1, h2, h3, h4⟩ := s.delayMeasured_leaves r p e time (p * 2 + endBit e)
    exact ⟨h1, h2, h3, h4, fun hx => absurd hx h⟩

/-! ## A valid slot -/

/-- The points of a slot. -/
def slotPoints (a k : Nat) : List Pt :=
  [⟨.pos, a, 0⟩, ⟨.cell, a, 0x0A⟩, ⟨.cell, a, 0x0B⟩, ⟨.cell, a, 0x0C⟩, ⟨.cell, a, 0x0D⟩, ⟨.cell, a, 0x0E⟩, ⟨.cell, a, 0x10 + k⟩]

/-- The points that a slot gives. -/
def SlotGiven (s t : State) (r : Nat) (bs : List Byte) : Prop :=
  let a := cellAt r (Arith.field bs 13 1)
  let status := Arith.field bs 4 4
  let ev := Arith.field bs 12 1
  t.n .pos a 0 = status % 16 ∧ t.n .cell a 0x0A = status % 16 ∧ t.w .cell a 0x0B = Word.ofNat (Arith.field bs 0 2) ∧
  t.w .cell a 0x0C = Word.ofInt (BitVec.ofNat 16 (Arith.field bs 2 2)).toInt ∧ t.w .cell a 0x0D = Word.ofNat status ∧
  t.w .cell a (0x10 + status / 2 ^ 28) = Word.ofNat (Arith.field bs 8 4) ∧
  (ev ≠ 0 → t.w .cell a 0x0E = Word.ofNat (0x0200 + ev)) ∧ (ev = 0 → t.w .cell a 0x0E = s.w .cell a 0x0E)

theorem SlotGiven.of_w {s t u : State} {r : Nat} {bs : List Byte} (h : SlotGiven s t r bs)
    (hw : ∀ f j, f = .cell ∨ (f = .pos ∧ j = 0) → u.w f (cellAt r (Arith.field bs 13 1)) j = t.w f (cellAt r (Arith.field bs 13 1)) j) : SlotGiven s u r bs := by
  obtain ⟨h1, h2, h3, h4, h5, h6, h7, h8⟩ := h
  unfold SlotGiven
  dsimp only
  rw [State.n, State.n, hw .pos 0 (.inr ⟨rfl, rfl⟩), hw .cell 0x0A (.inl rfl), hw .cell 0x0B (.inl rfl), hw .cell 0x0C (.inl rfl),
    hw .cell 0x0D (.inl rfl), hw .cell _ (.inl rfl), hw .cell 0x0E (.inl rfl)]
  exact ⟨h1, h2, h3, h4, h5, h6, h7, h8⟩

/-- The codes that a slot adds. -/
def slotCodes (bs : List Byte) : List (Nat × Nat) :=
  if Arith.field bs 12 1 = 0 ∨ (0x70 ≤ Arith.field bs 12 1 ∧ Arith.field bs 12 1 ≤ 0x7F) then [] else [(Arith.field bs 12 1, Arith.field bs 13 1)]

theorem State.cellShows_slot (s : State) (r : Nat) (bs : List Byte) : SlotOnly s (s.cellShows r bs) :=
  (slotParts_cells s _).symm

/-- The points of a slot, its event and the state that it reports. -/
def State.slotPointed (s : State) (r p ev status : Nat) (bs : List Byte) : State :=
  ((s.slotGathered r bs).slotEvent r p ev).putCellState r p (status % 16)

theorem State.slotNoted_eq (s : State) (r : Nat) (e : End) (bs : List Byte) (token : Bool) {p ev status : Nat} (hp : Arith.field bs 13 1 = p)
    (he : Arith.field bs 12 1 = ev) (hst : Arith.field bs 4 4 = status) : s.slotNoted r e bs token = ((s.slotPointed r p ev status bs).putRnd r
      (((s.slotPointed r p ev status bs).rnd r).slotTaken p status e token)).cellShows r bs := by
  subst hp he hst
  rfl

theorem State.slotNoted_leaves (s : State) (r : Nat) (e : End) (bs : List Byte) (token : Bool) : let t := s.slotNoted r e bs token
    SlotOnly s t ∧ t.clk = s.clk ∧ (∀ q, q ≠ r → t.rnd q = s.rnd q) ∧
    t.rnd r = ({ s.rnd r with codes := (s.rnd r).codes ++ slotCodes bs } : Rnd).slotTaken (Arith.field bs 13 1) (Arith.field bs 4 4) e token ∧
    SlotGiven s t r bs ∧ SamePoints s t (slotPoints (cellAt r (Arith.field bs 13 1)) (Arith.field bs 4 4 / 2 ^ 28)) := by
  unfold SlotGiven slotCodes
  generalize hp : Arith.field bs 13 1 = p
  generalize hst : Arith.field bs 4 4 = status
  generalize hev : Arith.field bs 12 1 = ev
  rw [s.slotNoted_eq r e bs token hp hev hst, State.slotPointed]
  obtain ⟨o1, r1, c1, wB, wC, wD, wR, p1⟩ := s.slotGathered_leaves r bs
  generalize s.slotGathered r bs = s1 at *
  rw [hp] at wB wC wD wR p1
  rw [hst] at wD wR p1
  generalize hk : status / 2 ^ 28 = k at *
  obtain ⟨o2, c2, oth2, own2, ev2, ev0, p2⟩ := s1.slotEvent_leaves r p ev
  generalize s1.slotEvent r p ev = s2 at *
  obtain ⟨o3, n3, m3, p3⟩ := s2.putCellState_leaves r p (status % 16) (by omega)
  generalize s2.putCellState r p (status % 16) = s3 at *
  have hr3 : ∀ q, s3.rnd q = s2.rnd q := fun q => by rw [o3]; rfl
  have ho3 : SlotOnly s2 s3 := RoundsOnly.slot (by rw [RoundsOnly, o3]; rfl)
  have hc3 : s3.clk = s2.clk := by rw [o3]; rfl
  have hr1 : ∀ q, s1.rnd q = s.rnd q := fun q => by rw [State.rnd, State.rnd, r1]
  have h4 : SlotOnly s3 ((s3.putRnd r ((s3.rnd r).slotTaken p status e token)).cellShows r bs) :=
    (RoundsOnly.putRnd s3 r ((s3.rnd r).slotTaken p status e token)).slot.trans
    (State.cellShows_slot (s3.putRnd r ((s3.rnd r).slotTaken p status e token)) r bs)
  have hw : ∀ j, j ≠ 0x0A → s3.w .cell (cellAt r p) j = s2.w .cell (cellAt r p) j := fun j hj => p3 _ _ _ (by simp [hj])
  have hw2 : ∀ j, j ≠ 0x0A → j ≠ 0x0E → s3.w .cell (cellAt r p) j = s1.w .cell (cellAt r p) j := fun j hj hE =>
    (hw j hj).trans (p2 _ _ _ (by simp [hE]))
  have hE1 : s1.w .cell (cellAt r p) 0x0E = s.w .cell (cellAt r p) 0x0E := p1 _ _ _ (by simp; omega)
  refine ⟨o1.trans (o2.trans (ho3.trans h4)), hc3.trans (c2.trans c1), fun q hq => ?_, ?_, ⟨n3, m3, ?_, ?_, ?_, ?_, fun h => ?_, fun h => ?_⟩, ?_⟩
  · exact (s3.rnd_putRnd_ne _ hq).trans ((hr3 q).trans ((oth2 q hq).trans (hr1 q)))
  · refine (s3.rnd_putRnd_same r _).trans ?_
    rw [hr3, own2, hr1]
  · exact (hw2 _ (by decide) (by decide)).trans wB
  · exact (hw2 _ (by decide) (by decide)).trans wC
  · exact (hw2 _ (by decide) (by decide)).trans wD
  · rw [hk]; exact (hw2 _ (by omega) (by omega)).trans wR
  · exact (hw _ (by decide)).trans (ev2 h)
  · exact (hw _ (by decide)).trans ((ev0 h).trans hE1)
  · exact SamePoints.mono ((p1.trans p2).trans p3) (by simp [slotPoints])

/-- What a valid slot leaves. -/
theorem State.takeSlot_leaves (s : State) (r : Nat) (e : End) (bs : List Byte) (time : Nat) : let t := s.takeSlot r e bs time
    let p := Arith.field bs 13 1
    let x := s.rnd r
    SlotOnly s t ∧ t.clk = s.clk ∧ (∀ q, q ≠ r → t.rnd q = s.rnd q) ∧ SlotGiven s t r bs ∧ (t.rnd r).codes = x.codes ++ slotCodes bs ∧
    (p * 2 + (match e with | .a => 0 | .b => 1)) ∈ (t.rnd r).slots ∧ Tab.get 0 (t.rnd r).missing p = 0 ∧
    (t.rnd r).rangeA = x.rangeA ∧ (t.rnd r).rangeB = x.rangeB ∧
    SamePoints s t (slotPoints (cellAt r p) (Arith.field bs 4 4 / 2 ^ 28) ++ delayPoints r p) ∧
    (s.n .rndState r ≠ 6 ∨ inRange (x.range e) p = false → SamePoints s t (slotPoints (cellAt r p) (Arith.field bs 4 4 / 2 ^ 28))) := by
  obtain ⟨token, ht⟩ := s.takeSlot_eq r e bs time
  rw [ht]
  obtain ⟨o1, c1, oth1, own1, g1, p1⟩ := s.slotNoted_leaves r e bs token
  generalize s.slotNoted r e bs token = u at *
  obtain ⟨o2, oth2, ⟨k1, k2, k3, k4, k5⟩, p2, hidle⟩ := u.slotDelay_leaves r (Arith.field bs 13 1) e time
  generalize u.slotDelay r (Arith.field bs 13 1) e time = t at *
  rw [own1] at k1 k2 k3 k4 k5 hidle
  refine ⟨o1.trans o2.slot, (o2.ends.2.2.2.2).trans c1, fun q hq => (oth2 q hq).trans (oth1 q hq), g1.of_w fun f j hf => ?_, k1, ?_, ?_, k4, k5,
    p1.trans p2, fun hx => ?_⟩
  · refine p2 _ _ _ ?_
    simp only [delayPoints, List.mem_cons, List.not_mem_nil, or_false, Pt.mk.injEq]
    rcases hf with rfl | ⟨rfl, rfl⟩ <;> simp
  · rw [k2]; exact List.mem_cons_self ..
  · rw [k3]; exact Tab.get_put_same _ _ _ _
  · rw [hidle ?_]
    · exact p1
    · refine hx.imp (fun h => ?_) (fun h => ?_)
      · rw [State.n, p1 _ _ _ (by simp [slotPoints])]; exact h
      · cases e <;> exact h

/-! ## The commands -/

theorem slotPoints_delayPoints (r p k : Nat) : slotPoints (cellAt r p) k ++ delayPoints r p ⊆ [⟨.pos, cellAt r p, 0⟩, ⟨.pos, cellAt r p, 4⟩,
    ⟨.pos, cellAt r p, 5⟩, ⟨.cell, cellAt r p, 0x0A⟩, ⟨.cell, cellAt r p, 0x0B⟩, ⟨.cell, cellAt r p, 0x0C⟩, ⟨.cell, cellAt r p, 0x0D⟩,
    ⟨.cell, cellAt r p, 0x0E⟩, ⟨.cell, cellAt r p, 0x10 + k⟩, ⟨.rndDelayNs, r, 0⟩, ⟨.rndDelayANs, r, 0⟩, ⟨.rndDelayBNs, r, 0⟩] := by
  intro q hq
  simp only [slotPoints, delayPoints, List.mem_append, List.mem_cons, List.not_mem_nil, or_false] at hq ⊢
  tauto

theorem upstreamSlot_leaves (s : State) (r : RoundNo) (e : End) (pos : Fin 256) (bytes : List Byte) (time : Nat) :
    let x := s.rnd r
    let p := Arith.field bytes 13 1
    let a := cellAt r p
    let status := Arith.field bytes 4 4
    let ev := Arith.field bytes 12 1
    Yields (exec (.upstreamSlot r e pos bytes time) s) fun t =>
      t.clk = { s.clk with now := max s.clk.now time } ∧ (∀ q, q ≠ r.val → t.rnd q = s.rnd q) ∧
      (s.mode = 7 → s.rep.phase = 2 → t = s.withClk t.clk) ∧
      (¬(s.mode = 7 ∧ s.rep.phase = 2) → slotOk bytes = true →
        t.n .pos a 0 = status % 16 ∧ t.n .cell a 0x0A = status % 16 ∧ t.w .cell a 0x0B = Word.ofNat (Arith.field bytes 0 2) ∧
        t.w .cell a 0x0C = Word.ofInt (BitVec.ofNat 16 (Arith.field bytes 2 2)).toInt ∧ t.w .cell a 0x0D = Word.ofNat status ∧
        t.w .cell a (0x10 + status / 2 ^ 28) = Word.ofNat (Arith.field bytes 8 4) ∧
        (ev ≠ 0 → t.w .cell a 0x0E = Word.ofNat (0x0200 + ev)) ∧ (ev = 0 → t.w .cell a 0x0E = s.w .cell a 0x0E) ∧
        (t.rnd r).codes = x.codes ++ (if ev = 0 ∨ (0x70 ≤ ev ∧ ev ≤ 0x7F) then [] else [(ev, p)]) ∧
        (p * 2 + (match e with | .a => 0 | .b => 1)) ∈ (t.rnd r).slots ∧ Tab.get 0 (t.rnd r).missing p = 0 ∧
        (t.rnd r).rangeA = x.rangeA ∧ (t.rnd r).rangeB = x.rangeB ∧
        t = ((((s.withPts t.pts).withRnds t.rnds).withClk t.clk).withCells t.cells).withCep t.cep ∧
        SamePoints s t [⟨.pos, a, 0⟩, ⟨.pos, a, 4⟩, ⟨.pos, a, 5⟩, ⟨.cell, a, 0x0A⟩, ⟨.cell, a, 0x0B⟩, ⟨.cell, a, 0x0C⟩,
          ⟨.cell, a, 0x0D⟩, ⟨.cell, a, 0x0E⟩, ⟨.cell, a, 0x10 + status / 2 ^ 28⟩, ⟨.rndDelayNs, r, 0⟩, ⟨.rndDelayANs, r, 0⟩,
          ⟨.rndDelayBNs, r, 0⟩] ∧
        (s.n .rndState r ≠ 6 ∨ inRange (x.range e) p = false → SamePoints s t [⟨.pos, a, 0⟩, ⟨.cell, a, 0x0A⟩, ⟨.cell, a, 0x0B⟩,
          ⟨.cell, a, 0x0C⟩, ⟨.cell, a, 0x0D⟩, ⟨.cell, a, 0x0E⟩, ⟨.cell, a, 0x10 + status / 2 ^ 28⟩])) ∧
      (¬(s.mode = 7 ∧ s.rep.phase = 2) → slotOk bytes = false →
        t.w .rndSlotCrc r 0 = Word.ofNat (s.n .rndSlotCrc r + 1) ∧ Raised s t 0x0109 kRound r ∧ t.rnd r = { x with bad := pos.val :: x.bad } ∧
        t.rest = ((s.withClk t.clk).withRnds t.rnds).rest ∧ QuietPoints s t [⟨.rndSlotCrc, r, 0⟩]) := by
  intro x p a status ev
  let s1 := s.advance time
  have hx : exec (.upstreamSlot r e pos bytes time) s = .next (if s1.mode = 7 ∧ s1.rep.phase = 2 then s1
    else if slotOk bytes then s1.takeSlot r e bytes time else s1.badSlot r pos) := rfl
  rw [hx]
  by_cases hrep : s.mode = 7 ∧ s.rep.phase = 2
  · rw [if_pos (show s1.mode = 7 ∧ s1.rep.phase = 2 from hrep)]
    exact yields_next ⟨rfl, fun _ _ => rfl, fun _ _ => rfl, fun h => absurd hrep h, fun h => absurd hrep h⟩
  · rw [if_neg (show ¬(s1.mode = 7 ∧ s1.rep.phase = 2) from hrep)]
    cases hok : slotOk bytes with
    | true =>
      rw [if_pos rfl]
      obtain ⟨o1, c1, oth, hgiven, hcodes, hslot, hmiss, hA, hB, hall, hserved⟩ := s1.takeSlot_leaves r e bytes time
      generalize s1.takeSlot r e bytes time = t at *
      obtain ⟨g1, g2, g3, g4, g5, g6, g7, g8⟩ := hgiven
      have h1 : SlotOnly s s1 := s.advance_slot time
      have ho := (h1.trans o1).eq
      refine yields_next ⟨c1, oth, fun h7 h2 => absurd ⟨h7, h2⟩ hrep, fun _ _ => ?_, fun _ h => absurd h (by decide)⟩
      refine ⟨g1, g2, g3, g4, g5, g6, g7, g8, ?_, ?_, hmiss, hA, hB, ho, SamePoints.mono hall ?_, ?_⟩
      · exact hcodes
      · exact hslot
      · exact slotPoints_delayPoints r p _
      · exact hserved
    | false =>
      rw [if_neg (by decide)]
      let u := (s1.putRnd r { s1.rnd r with bad := pos.val :: (s1.rnd r).bad }).inc .rndSlotCrc r
      have hq : (s1.badSlot r pos).quiet = u.quiet := u.raise_quiet 0x0109 kRound r 0
      have hrest : u.rest = ((s.withClk u.clk).withRnds u.rnds).rest := rfl
      have hraised : Raised s (s1.badSlot r pos) 0x0109 kRound r := State.raise_raised u _ _ _ _ rfl
      have hu : u.rnd r = { s1.rnd r with bad := pos.val :: (s1.rnd r).bad } := s1.rnd_putRnd_same r _
      have huo : ∀ q, q ≠ r.val → u.rnd q = s1.rnd q := fun q hne => s1.rnd_putRnd_ne _ hne
      have huc : u.clk = s1.clk := rfl
      have huw : u.w .rndSlotCrc r = Word.ofNat (s.n .rndSlotCrc r + 1) := State.w_put_same _ _ _ _ _
      have hup : QuietPoints s u [⟨.rndSlotCrc, r, 0⟩] :=
        QuietPoints.put (s1.putRnd r { s1.rnd r with bad := pos.val :: (s1.rnd r).bad }) .rndSlotCrc r _ 0
      generalize s1.badSlot r pos = t at *
      clear_value u
      refine yields_next ⟨(State.clk_of_quiet hq).trans huc, fun q hne => (State.rnd_of_quiet hq q).trans (huo q hne),
        fun h7 h2 => absurd ⟨h7, h2⟩ hrep, fun _ h => absurd h (by decide), fun _ _ => ⟨(State.w_of_quiet hq _ _ _ rfl).trans huw, hraised,
        (State.rnd_of_quiet hq r).trans hu, ?_, hup.then fun f i j hf => State.w_of_quiet hq f i j hf⟩⟩
      rw [State.rest_of_quiet hq, State.clk_of_quiet hq, State.rnds_of_quiet hq]
      exact hrest

/-- The point that a closure publishes its time at. -/
def closeField : End → Field
  | .a => .rndCloseANs
  | .b => .rndCloseBNs

/-- The range that an end sent its frame for. -/
def Rnd.sentFor (x : Rnd) : End → Option (Nat × Nat)
  | .a => x.sentA
  | .b => x.sentB

/-- Whether an end has delivered its closure. -/
def Rnd.closedAt (x : Rnd) : End → Bool
  | .a => x.closedA
  | .b => x.closedB

/-- The closure of an end is noted. -/
def State.closureNoted (s : State) (r : Nat) (e : End) (dt : Nat) : State :=
  match e with
  | .a => (s.putRnd r { s.rnd r with closedA := true }).putN .rndCloseANs r dt
  | .b => (s.putRnd r { s.rnd r with closedB := true }).putN .rndCloseBNs r dt

/-- The served positions of an end from which nothing came. -/
def State.silentAt (s : State) (r : Nat) (e : End) : List Nat :=
  (s.present r).filter (fun p => inRange ((s.rnd r).sentFor e) p && 2 ≤ s.posState r p
    && !((s.rnd r).slots.contains (p * 2) || (s.rnd r).slots.contains (p * 2 + 1) || (s.rnd r).bad.contains p))

theorem State.closureNoted_leaves (s : State) (r : Nat) (e : End) (dt : Nat) : let t := s.closureNoted r e dt
    RoundsOnly s t ∧ (∀ q, q ≠ r → t.rnd q = s.rnd q) ∧ (t.rnd r).closedAt e = true ∧ t.silentAt r e = s.silentAt r e ∧
    t.w (closeField e) r 0 = Word.ofNat dt ∧ SamePoints s t [⟨closeField e, r, 0⟩] := by
  have hsilent : ∀ t : State, (∀ p j, t.w .pos (cellAt r p) j = s.w .pos (cellAt r p) j) → (t.rnd r).sentFor e = (s.rnd r).sentFor e →
      (t.rnd r).slots = (s.rnd r).slots → (t.rnd r).bad = (s.rnd r).bad → t.silentAt r e = s.silentAt r e := fun t h1 h2 h3 h4 => by
    have hps : ∀ p, t.posState r p = s.posState r p := fun p => congrArg BitVec.toNat (h1 p 0)
    simp only [State.silentAt, State.present_of_pos fun p => h1 p 0, h2, h3, h4, hps]
  cases e with
  | a =>
    have hr : (s.closureNoted r .a dt).rnd r = { s.rnd r with closedA := true } := s.rnd_putRnd_same r _
    exact ⟨rfl, fun q hq => s.rnd_putRnd_ne _ hq, by rw [hr]; rfl,
      hsilent _ (fun p j => State.w_putN_field _ (by decide)) (by rw [hr]; rfl) (by rw [hr]) (by rw [hr]), State.w_putN_same _ _ _ _ _,
      SamePoints.put (s.putRnd r _) _ r _ 0⟩
  | b =>
    have hr : (s.closureNoted r .b dt).rnd r = { s.rnd r with closedB := true } := s.rnd_putRnd_same r _
    exact ⟨rfl, fun q hq => s.rnd_putRnd_ne _ hq, by rw [hr]; rfl,
      hsilent _ (fun p j => State.w_putN_field _ (by decide)) (by rw [hr]; rfl) (by rw [hr]) (by rw [hr]), State.w_putN_same _ _ _ _ _,
      SamePoints.put (s.putRnd r _) _ r _ 0⟩

/-- The closure counts the positions from which nothing came. -/
theorem State.closure_eq (s : State) (r : Nat) (e : End) (time : Nat) : s.closure r e time =
    (((s.advance time).closureNoted r e (time - s.clk.t0)).addN .rndSlotMissing r
      (((s.advance time).closureNoted r e (time - s.clk.t0)).silentAt r e).length) := by
  have hr : ∀ x, ((s.advance time).putRnd r x).rnd r = x := fun x => State.rnd_putRnd_same _ r x
  cases e with
  | a =>
    unfold State.silentAt State.closureNoted
    dsimp only
    rw [show (((s.advance time).putRnd r { (s.advance time).rnd r with closedA := true }).putN .rndCloseANs r (time - s.clk.t0)).rnd r =
      { (s.advance time).rnd r with closedA := true } from hr _]
    rfl
  | b =>
    unfold State.silentAt State.closureNoted
    dsimp only
    rw [show (((s.advance time).putRnd r { (s.advance time).rnd r with closedB := true }).putN .rndCloseBNs r (time - s.clk.t0)).rnd r =
      { (s.advance time).rnd r with closedB := true } from hr _]
    rfl

/-- What a closure leaves. -/
theorem State.closure_leaves (s : State) (r : Nat) (e : End) (time : Nat) : let t := s.closure r e time
    (t.rnd r).closedAt e = true ∧ t.w (closeField e) r 0 = Word.ofNat (time - s.clk.t0) ∧
    t.w .rndSlotMissing r 0 = Word.ofNat (s.n .rndSlotMissing r + (s.silentAt r e).length) ∧ t.clk = { s.clk with now := max s.clk.now time } ∧
    (∀ q, q ≠ r → t.rnd q = s.rnd q) ∧ t = ((s.withPts t.pts).withRnds t.rnds).withClk t.clk ∧
    SamePoints s t [⟨closeField e, r, 0⟩, ⟨.rndSlotMissing, r, 0⟩] := by
  rw [s.closure_eq r e time]
  obtain ⟨o1, oth, hc, hs, hw, hp⟩ := (s.advance time).closureNoted_leaves r e (time - s.clk.t0)
  generalize (s.advance time).closureNoted r e (time - s.clk.t0) = u at *
  have hne : closeField e ≠ .rndSlotMissing := by cases e <;> decide
  have hcount : u.n .rndSlotMissing r = s.n .rndSlotMissing r :=
    congrArg BitVec.toNat (hp _ _ _ (by simpa using Ne.symm hne))
  rw [hs, show (s.advance time).silentAt r e = s.silentAt r e from rfl, State.addN, hcount]
  have hclk : u.clk = (s.advance time).clk := (congrArg State.clk o1 :)
  refine ⟨hc, (State.w_putN_field _ hne).trans hw, State.w_putN_same _ _ _ _ _, hclk, oth, ?_, ?_⟩
  · rw [RoundsOnly] at o1
    rw [o1]
    rfl
  · exact SamePoints.trans (t := u) hp (SamePoints.put u .rndSlotMissing r _ 0)

theorem upstreamClosure_counts (s : State) (r : RoundNo) (e : End) (time : Nat) : let x := s.rnd r
    let g := match e with | .a => x.sentA | .b => x.sentB
    let f := match e with | .a => Field.rndCloseANs | .b => Field.rndCloseBNs
    let gone := (s.present r).filter (fun p => inRange g p && 2 ≤ s.posState r p
      && !(x.slots.contains (p * 2) || x.slots.contains (p * 2 + 1) || x.bad.contains p))
    Yields (exec (.upstreamClosure r e time) s) fun t =>
      (match e with | .a => (t.rnd r).closedA | .b => (t.rnd r).closedB) = true ∧
      t.w f r 0 = Word.ofNat (time - s.clk.t0) ∧ t.w .rndSlotMissing r 0 = Word.ofNat (s.n .rndSlotMissing r + gone.length) ∧
      t.clk = { s.clk with now := max s.clk.now time } ∧ (∀ q, q ≠ r.val → t.rnd q = s.rnd q) ∧
      t = ((s.withPts t.pts).withRnds t.rnds).withClk t.clk ∧ SamePoints s t [⟨f, r, 0⟩, ⟨.rndSlotMissing, r, 0⟩] := by
  have hleaves := s.closure_leaves r e time
  have hx : exec (.upstreamClosure r e time) s = .next (s.closure r e time) := rfl
  rw [hx]
  generalize s.closure r e time = t at hleaves ⊢
  cases e with
  | a => exact yields_next hleaves
  | b => exact yields_next hleaves

theorem cellLost_leaves (s : State) (c : CellAddr) : let a := cellAt (c.val / 256) (c.val % 256)
    s.cellGone (c.val / 256) (c.val % 256) = true → Yields (exec (.cellLost c) s) fun t =>
      (s.n .pos a 0 = 6 → t.n .pos a 0 = 0 ∧ t.n .cell a 0x0A = 0 ∧ t = s.withPts t.pts) ∧
      (s.n .pos a 0 ≠ 6 → t.n .pos a 0 = 9 ∧ t.n .cell a 0x0A = 9 ∧ Raised s t 0x0273 kCell a) ∧
      t.rest = s.rest ∧ QuietPoints s t [⟨.pos, a, 0⟩, ⟨.cell, a, 0x0A⟩] := by
  intro a hg
  have hx : exec (.cellLost c) s = .next (s.cellLost (c.val / 256) (c.val % 256)) := congrArg Host.Outcome.next (if_pos hg)
  rw [hx, State.cellLost]
  have hpos : s.posState (c.val / 256) (c.val % 256) = s.n .pos a 0 := rfl
  by_cases h6 : s.n .pos a 0 = 6
  · rw [if_pos (hpos.trans h6)]
    obtain ⟨o, n1, n2, hp⟩ := s.putCellState_leaves (c.val / 256) (c.val % 256) 0 (by decide)
    exact yields_next ⟨fun _ => ⟨n1, n2, o⟩, fun h => absurd h6 h, (congrArg State.rest o).trans rfl, hp.quiet⟩
  · rw [if_neg (by rw [hpos]; exact h6)]
    obtain ⟨o, n1, n2, hp⟩ := s.putCellState_leaves (c.val / 256) (c.val % 256) 9 (by decide)
    generalize s.putCellState (c.val / 256) (c.val % 256) 9 = u at o n1 n2 hp ⊢
    have hq := u.raiseLane_quiet 0x0273 kCell a 0
    have hso : u.so = s.so := by rw [o]; rfl
    refine yields_next ⟨fun h => absurd h h6, fun _ => ⟨(State.n_of_quiet hq _ _ _ rfl).trans n1, (State.n_of_quiet hq _ _ _ rfl).trans n2,
      State.raiseLane_raised _ _ _ _ _ hso⟩, ?_, hp.quiet.then fun f i j hf => State.w_of_quiet hq f i j hf⟩
    rw [State.rest_of_quiet hq, o]
    rfl

/-- Settles O37, command by command. -/
theorem slotsClosuresAndLostCells : Obligations.SlotsClosuresAndLostCells := by
  unfold Obligations.SlotsClosuresAndLostCells
  exact fun s => ⟨fun r e pos bytes time => upstreamSlot_leaves s r e pos bytes time,
    fun r e time => upstreamClosure_counts s r e time, fun c => cellLost_leaves s c⟩

end Sys2Proof.Machine
end

section
/-!
SUPPORT. Proofs/SlowChannel.lean: answers and time-outs of the slow channel (section 3.5).
-/
namespace Sys2Proof.Machine

/-! ## What an answer leaves aside -/

/-- A state with other points, rounds, commit epochs and final completions. -/
def slowParts (x : State) (a : Store) (b : Tab Rnd) (e : List (Pt × Nat)) (f : List FinCpl) : State :=
  (((x.withPts a).withRnds b).withCep e).withHost { x.host with fins := f }

theorem slowParts_slowParts (x : State) (a a' : Store) (b b' : Tab Rnd) (e e' : List (Pt × Nat)) (f f' : List FinCpl) :
    slowParts (slowParts x a b e f) a' b' e' f' = slowParts x a' b' e' f' := by
  cases x; rfl

theorem slowParts_rounds (x : State) (a : Store) (b : Tab Rnd) : slowParts x a b x.cep x.host.fins = (x.withPts a).withRnds b := by
  cases x; rfl

theorem slowParts_gather (x : State) (a : Store) (e : List (Pt × Nat)) : slowParts x a x.rnds e x.host.fins = (x.withPts a).withCep e := by
  cases x; rfl

theorem slowParts_fins (x : State) (f : List FinCpl) : slowParts x x.pts x.rnds x.cep f = x.withHost { x.host with fins := f } := by
  cases x; rfl

/-- Only points, rounds, commit epochs and final completions differ. -/
def SlowOnly (s t : State) : Prop := t = slowParts s t.pts t.rnds t.cep t.host.fins

theorem SlowOnly.eq {s t : State} (h : SlowOnly s t) :
    t = (((s.withPts t.pts).withRnds t.rnds).withCep t.cep).withHost { s.host with fins := t.host.fins } := h

theorem SlowOnly.trans {s t u : State} (h : SlowOnly s t) (k : SlowOnly t u) : SlowOnly s u :=
  calc u = slowParts t u.pts u.rnds u.cep u.host.fins := k
    _ = slowParts (slowParts s t.pts t.rnds t.cep t.host.fins) u.pts u.rnds u.cep u.host.fins :=
      congrArg (fun x : State => slowParts x u.pts u.rnds u.cep u.host.fins) h
    _ = slowParts s u.pts u.rnds u.cep u.host.fins := slowParts_slowParts _ _ _ _ _ _ _ _ _

theorem State.putRnd_slow (s : State) (r : Nat) (x : Rnd) : SlowOnly s (s.putRnd r x) := (slowParts_rounds s s.pts _).symm

theorem State.gather_slow (s : State) (f : Field) (i : Nat) (w : Word) (j : Nat) : SlowOnly s (s.gather f i w j) :=
  (slowParts_gather s _ _).symm

theorem State.settle_slow (s : State) (p : FinCpl → Bool) (st item value : Nat) (w : Await) : SlowOnly s (s.settle p st item value w) :=
  (slowParts_fins s _).symm

theorem SlowOnly.refl (s : State) : SlowOnly s s := (slowParts_fins s s.host.fins).symm

/-! ## An answer (R87, R89) -/

theorem State.takeSlow_leaves (ws : List Word) (s : State) (r p off : Nat) : let t := s.takeSlow r p off ws
    let a := cellAt r p
    SlowOnly s t ∧ t.rnds = s.rnds ∧ t.host = s.host ∧ t.epoch = s.epoch ∧
    (∀ k v, ws[k]? = some v → 0x20 ≤ off + k → t.w .cell a (off + k) = v) ∧
    ∀ f i j, ¬(f = .cell ∧ i = a ∧ 0x20 ≤ j ∧ off ≤ j ∧ j < off + ws.length) → t.w f i j = s.w f i j := by
  induction ws generalizing s off with
  | nil => exact ⟨.refl s, rfl, rfl, rfl, fun k v h => by simp at h, fun _ _ _ _ => rfl⟩
  | cons w ws ih =>
    let s1 := if 0x20 ≤ off then s.gather .cell (cellAt r p) w off else s
    have h1 : SlowOnly s s1 ∧ s1.rnds = s.rnds ∧ s1.host = s.host ∧ s1.epoch = s.epoch ∧ (0x20 ≤ off → s1.w .cell (cellAt r p) off = w) ∧
        ∀ f i j, ¬(f = .cell ∧ i = cellAt r p ∧ 0x20 ≤ j ∧ j = off) → s1.w f i j = s.w f i j := by
      by_cases ho : 0x20 ≤ off
      · rw [show s1 = s.gather .cell (cellAt r p) w off from if_pos ho]
        exact ⟨s.gather_slow _ _ _ _, rfl, rfl, rfl, fun _ => s.w_put_same _ _ _ _,
          fun f i j h => s.w_put_ne _ fun e => h (by simp only [Pt.mk.injEq] at e; exact ⟨e.1, e.2.1, e.2.2 ▸ ho, e.2.2⟩)⟩
      · rw [show s1 = s from if_neg ho]
        exact ⟨.refl s, rfl, rfl, rfl, fun h => absurd h ho, fun _ _ _ _ => rfl⟩
    obtain ⟨a1, a2, a3, a4, aw, af⟩ := h1
    obtain ⟨b1, b2, b3, b4, bw, bf⟩ := ih s1 (off + 1)
    rw [show s.takeSlow r p off (w :: ws) = s1.takeSlow r p (off + 1) ws from rfl]
    generalize s1.takeSlow r p (off + 1) ws = t at *
    refine ⟨a1.trans b1, b2.trans a2, b3.trans a3, b4.trans a4, fun k v hk ho => ?_, fun f i j h => ?_⟩
    · cases k with
      | zero =>
        obtain rfl : w = v := by simpa using hk
        exact (bf _ _ _ (by omega)).trans (aw (by simpa using ho))
      | succ k =>
        have := bw k v (by simpa using hk) (by omega)
        rwa [show off + 1 + k = off + (k + 1) from by omega] at this
    · simp only [List.length_cons] at h
      rw [bf f i j fun hx => h ⟨hx.1, hx.2.1, hx.2.2.1, by omega, by omega⟩,
        af f i j fun hx => h ⟨hx.1, hx.2.1, hx.2.2.1, by omega, by omega⟩]

theorem slowResp_answers (r : RoundNo) (s : State) (pos : Fin 256) (tag : Nat) (vals : List Word) (q : SlowTx)
    (hf : (s.rnd r).txs.find? (fun t => t.req.tag == tag && t.req.pos == pos.val && t.age != 0) = some q) (hl : vals.length = q.req.count) :
    Yields (exec (.slowResp r pos tag 0 ⟨vals, slowCrc vals⟩) s) fun t => let a := cellAt r pos
      t.rnd r = { s.rnd r with txs := (s.rnd r).txs.filter (fun u => u != q) } ∧ (∀ m, m ≠ r.val → t.rnd m = s.rnd m) ∧
      (∀ k v, vals[k]? = some v → 0x20 ≤ q.req.off + k → t.w .cell a (q.req.off + k) = v) ∧
      (∀ f i j, ¬(f = .cell ∧ i = a ∧ 0x20 ≤ j ∧ q.req.off ≤ j ∧ j < q.req.off + vals.length) → t.w f i j = s.w f i j) ∧
      t.host.fins = (if q.host then s.host.fins.map (fun f => if awaitsSlow a q.req.off q.req.count f
        then { f with status := 0, item := noItem, value := 0, wait := .commit s.epoch } else f) else s.host.fins) ∧
      t = (((s.withPts t.pts).withRnds t.rnds).withCep t.cep).withHost { s.host with fins := t.host.fins } := by
  let u := s.putRnd r { s.rnd r with txs := (s.rnd r).txs.filter (fun u => u != q) }
  let v := u.takeSlow r pos q.req.off vals
  have hx : exec (.slowResp r pos tag 0 ⟨vals, slowCrc vals⟩) s = .next (if q.host then
      v.settle (awaitsSlow (cellAt r pos) q.req.off q.req.count) 0 noItem 0 (.commit s.epoch) else v) := by
    refine congrArg Host.Outcome.next ?_
    show s.slowResp r pos tag 0 vals (slowCrc vals) = _
    unfold State.slowResp
    dsimp only
    rw [hf]
    exact if_pos ⟨rfl, hl, rfl⟩
  obtain ⟨b1, b2, b3, b4, bw, bf⟩ := u.takeSlow_leaves vals r pos q.req.off
  have hu : u.rnd r = { s.rnd r with txs := (s.rnd r).txs.filter (fun u => u != q) } := s.rnd_putRnd_same r _
  have hou : ∀ m, m ≠ r.val → u.rnd m = s.rnd m := fun m hm => s.rnd_putRnd_ne _ hm
  have hslow : SlowOnly s v := (s.putRnd_slow r _).trans b1
  have hr : ∀ m, v.rnd m = u.rnd m := fun m => by rw [State.rnd, State.rnd, b2]
  have hfins : v.host.fins = s.host.fins := congrArg HostIf.fins b3
  rw [hx]
  refine yields_next ?_
  change ∀ f i j, _ → v.w f i j = s.w f i j at bf
  change ∀ k x, _ → _ → v.w _ _ _ = _ at bw
  clear_value v
  by_cases hq : q.host = true
  · rw [if_pos hq]
    intro a
    rw [if_pos hq]
    exact ⟨(hr r).trans hu, fun m hm => (hr m).trans (hou m hm), bw, bf, congrArg (List.map _) hfins, (hslow.trans (v.settle_slow _ _ _ _ _)).eq⟩
  · rw [if_neg hq]
    intro a
    rw [if_neg hq]
    exact ⟨(hr r).trans hu, fun m hm => (hr m).trans (hou m hm), bw, bf, hfins, hslow.eq⟩

/-! ## Transactions without an answer (R87) -/

/-- What an abandoned transaction does. -/
def State.slowGone (s : State) (r : Nat) (q : SlowTx) : State :=
  let u := (s.inc .rndSlowTimeouts r).raise 0x0108 kRound r (q.req.pos + 2 ^ 16 * q.req.off)
  if q.host then u.settle (awaitsSlow (cellAt r q.req.pos) q.req.off q.req.count) 0x0402 noItem 1 .ready else u

/-- A completion that fails with its transaction. -/
def FinCpl.slowFailed (f : FinCpl) : FinCpl := { f with status := 0x0402, item := noItem, value := 1, wait := .ready }

/-- Whether a transaction is the one that a completion waits for. -/
def SlowTx.settles (q : SlowTx) (r : Nat) (f : FinCpl) : Bool := q.host && awaitsSlow (cellAt r q.req.pos) q.req.off q.req.count f

theorem FinCpl.slowFailed_settled (f : FinCpl) (q : SlowTx) (r : Nat) : q.settles r f.slowFailed = false := by
  cases h : q.host <;> simp [SlowTx.settles, h, awaitsSlow, FinCpl.slowFailed]

theorem rest_withHost_fins {s t : State} (h : t.rest = s.rest) (f : List FinCpl) :
    (t.withHost { t.host with fins := f }).rest = (s.withHost { s.host with fins := f }).rest :=
  (congrArg (fun x : State => x.withHost { x.host with fins := f }) h :)

theorem rest_withHost_again {s t : State} {f : List FinCpl} (h : t.rest = (s.withHost { s.host with fins := f }).rest) (g : List FinCpl) :
    (t.withHost { t.host with fins := g }).rest = (s.withHost { s.host with fins := g }).rest :=
  (rest_withHost_fins h g).trans rfl

theorem State.ofNat_n (s : State) (f : Field) (i : Nat) : Word.ofNat (s.n f i) = s.w f i :=
  BitVec.eq_of_toNat_eq ((Word.toNat_ofNat' _).trans (Nat.mod_eq_of_lt (s.n_lt f i 0)))

theorem State.slowGone_leaves (s : State) (r : Nat) (q : SlowTx) : let t := s.slowGone r q
    t.rest = (s.withHost { s.host with fins := t.host.fins }).rest ∧ t.rnds = s.rnds ∧
    t.host.fins = s.host.fins.map (fun f => if q.settles r f then f.slowFailed else f) ∧
    t.w .rndSlowTimeouts r = Word.ofNat (s.n .rndSlowTimeouts r + 1) ∧ QuietPoints s t [⟨.rndSlowTimeouts, r, 0⟩] ∧
    Raised s t 0x0108 kRound r := by
  let u := s.inc .rndSlowTimeouts r
  have hq := u.raise_quiet 0x0108 kRound r (q.req.pos + 2 ^ 16 * q.req.off)
  have hraised := State.raise_raised (s := s) u 0x0108 kRound r (q.req.pos + 2 ^ 16 * q.req.off) rfl
  have hx : s.slowGone r q = if q.host then (u.raise 0x0108 kRound r (q.req.pos + 2 ^ 16 * q.req.off)).settle
    (awaitsSlow (cellAt r q.req.pos) q.req.off q.req.count) 0x0402 noItem 1 .ready
    else u.raise 0x0108 kRound r (q.req.pos + 2 ^ 16 * q.req.off) := rfl
  rw [hx]
  generalize u.raise 0x0108 kRound r (q.req.pos + 2 ^ 16 * q.req.off) = v at hq hraised ⊢
  have hfins : v.host.fins = s.host.fins := (State.hostPart_of_quiet hq (·.fins) fun _ => rfl).trans rfl
  have hrest : v.rest = s.rest := (State.rest_of_quiet hq).trans rfl
  have hrnds : v.rnds = s.rnds := (State.rnds_of_quiet hq).trans rfl
  have hw : v.w .rndSlowTimeouts r = Word.ofNat (s.n .rndSlowTimeouts r + 1) := (State.w_of_quiet hq _ _ _ rfl).trans (s.w_put_same _ _ _ _)
  have hp : QuietPoints s v [⟨.rndSlowTimeouts, r, 0⟩] := (QuietPoints.put s .rndSlowTimeouts r _ 0).then fun f i j hf => State.w_of_quiet hq f i j hf
  cases h : q.host with
  | true =>
    rw [if_pos rfl]
    refine ⟨rest_withHost_fins hrest _, hrnds, ?_, hw, hp, hraised⟩
    simp only [State.settle, State.withHost, SlowTx.settles, h, Bool.true_and]
    rw [hfins]
    rfl
  | false =>
    rw [if_neg (by decide)]
    refine ⟨?_, hrnds, ?_, hw, hp, hraised⟩
    · rw [hfins]; exact hrest
    · simp only [SlowTx.settles, h, Bool.false_and, Bool.false_eq_true, if_false, List.map_id']
      exact hfins

theorem forL_slowGone_leaves (l : List SlowTx) (s : State) (r : Nat) : let t := forL l (fun q u => u.slowGone r q) s
    t.rest = (s.withHost { s.host with fins := t.host.fins }).rest ∧ t.rnds = s.rnds ∧ t.host.fins.length = s.host.fins.length ∧
    t.w .rndSlowTimeouts r = Word.ofNat (s.n .rndSlowTimeouts r + l.length) ∧ QuietPoints s t [⟨.rndSlowTimeouts, r, 0⟩] ∧
    (∀ f ∈ s.host.fins, (∀ q : SlowTx, q.settles r f = false) → f ∈ t.host.fins) ∧
    (∀ q ∈ l, ∀ f ∈ s.host.fins, q.settles r f = true → f.slowFailed ∈ t.host.fins) := by
  induction l generalizing s with
  | nil =>
    refine ⟨rfl, rfl, rfl, (s.ofNat_n .rndSlowTimeouts r).symm, QuietPoints.refl _ _, fun _ h _ => h, fun q hq => absurd hq (by simp)⟩
  | cons q l ih =>
    obtain ⟨a1, a2, a3, a4, a5, -⟩ := s.slowGone_leaves r q
    obtain ⟨b1, b2, b3, b4, b5, b6, b7⟩ := ih (s.slowGone r q)
    rw [show forL (q :: l) (fun q u => u.slowGone r q) s = forL l (fun q u => u.slowGone r q) (s.slowGone r q) from rfl]
    generalize s.slowGone r q = u at *
    generalize forL l (fun q u => u.slowGone r q) u = t at *
    refine ⟨b1.trans (rest_withHost_again a1 _), b2.trans a2, ?_, ?_, (a5.trans b5).mono (by simp), fun f hf hn => b6 f ?_ hn, fun p hp f hf hs => ?_⟩
    · rw [b3, a3, List.length_map]
    · rw [b4, State.n, a4]
      refine BitVec.eq_of_toNat_eq ?_
      rw [Word.toNat_ofNat', Word.toNat_ofNat', Word.toNat_ofNat', List.length_cons]
      omega
    · rw [a3]
      exact List.mem_map.2 ⟨f, hf, by rw [hn q]; rfl⟩
    · by_cases hq : q.settles r f = true
      · refine b6 _ ?_ fun p => f.slowFailed_settled p r
        rw [a3]
        exact List.mem_map.2 ⟨f, hf, if_pos hq⟩
      · refine b7 p ((List.mem_cons.1 hp).resolve_left fun e => hq (e ▸ hs)) f ?_ hs
        rw [a3]
        exact List.mem_map.2 ⟨f, hf, if_neg hq⟩

/-- The transactions that go on: one that is late goes out again. -/
def slowKeep (l : List SlowTx) : List SlowTx :=
  (l.filter (fun q => !decide (5 ≤ q.age ∧ 3 ≤ q.reissues))).map (fun q => if 5 ≤ q.age then { q with age := 0, reissues := q.reissues + 1 } else q)

/-- The transactions that are abandoned. -/
def slowLost (l : List SlowTx) : List SlowTx := l.filter (fun q => decide (5 ≤ q.age ∧ 3 ≤ q.reissues))

theorem State.slowTimeout_eq (s : State) (r : Nat) : s.slowTimeout r =
    forL (slowLost (s.rnd r).txs) (fun q u => u.slowGone r q) (s.putRnd r { s.rnd r with txs := slowKeep (s.rnd r).txs }) := by
  have h1 : ∀ q : SlowTx, (decide (5 ≤ q.age) && decide (3 ≤ q.reissues)) = decide (5 ≤ q.age ∧ 3 ≤ q.reissues) := fun q => by
    rw [Bool.decide_and]
  unfold State.slowTimeout slowLost slowKeep
  simp only [h1, decide_eq_true_eq]
  rfl

theorem slowTimeout_repeats (r : RoundNo) (s : State) : let x := s.rnd r
    Yields (exec (.slowTimeout r) s) (fun t =>
      let gone := x.txs.filter (fun q => decide (5 ≤ q.age ∧ 3 ≤ q.reissues))
      (t.rnd r).txs = (x.txs.filter (fun q => !decide (5 ≤ q.age ∧ 3 ≤ q.reissues))).map
        (fun q => if 5 ≤ q.age then { q with age := 0, reissues := q.reissues + 1 } else q) ∧
      (∀ m, m ≠ r.val → t.rnd m = s.rnd m) ∧
      t.w .rndSlowTimeouts r 0 = Word.ofNat (s.n .rndSlowTimeouts r + gone.length) ∧
      (gone.length = 1 → Raised s t 0x0108 kRound r) ∧ t.host.fins.length = s.host.fins.length ∧
      (∀ q ∈ gone, q.host = true → ∀ f ∈ s.host.fins, awaitsSlow (cellAt r q.req.pos) q.req.off q.req.count f = true →
        { f with status := 0x0402, item := noItem, value := 1, wait := .ready } ∈ t.host.fins) ∧
      t.rest = ((s.withRnds t.rnds).withHost { s.host with fins := t.host.fins }).rest ∧ QuietPoints s t [⟨.rndSlowTimeouts, r, 0⟩]) := by
  intro x
  let u := s.putRnd r { s.rnd r with txs := slowKeep (s.rnd r).txs }
  have hx : exec (.slowTimeout r) s = .next (forL (slowLost (s.rnd r).txs) (fun q u => u.slowGone r q) u) :=
    congrArg Host.Outcome.next (s.slowTimeout_eq r)
  have hu : u.rnd r = { s.rnd r with txs := slowKeep (s.rnd r).txs } := s.rnd_putRnd_same r _
  have huo : ∀ m, m ≠ r.val → u.rnd m = s.rnd m := fun m hm => s.rnd_putRnd_ne _ hm
  obtain ⟨a1, a2, a3, a4, a5, -, a7⟩ := forL_slowGone_leaves (slowLost (s.rnd r).txs) u r
  have hone : (slowLost (s.rnd r).txs).length = 1 → Raised s (forL (slowLost (s.rnd r).txs) (fun q u => u.slowGone r q) u) 0x0108 kRound r := by
    intro h
    obtain ⟨q, hq⟩ := List.length_eq_one_iff.1 h
    rw [hq]
    exact (u.slowGone_leaves r q).2.2.2.2.2
  rw [hx]
  generalize forL (slowLost (s.rnd r).txs) (fun q u => u.slowGone r q) u = t at *
  have hr : ∀ m, t.rnd m = u.rnd m := fun m => by rw [State.rnd, State.rnd, a2]
  refine yields_next ⟨?_, fun m hm => (hr m).trans (huo m hm), a4, hone, a3, fun q hq hh f hf hw => ?_, ?_, a5⟩
  · rw [hr, hu]; rfl
  · exact a7 q hq f hf (by rw [SlowTx.settles, hh, hw]; rfl)
  · rw [a2]; exact a1

/-- Settles O39: the answer from the transaction it ends, the time-out by induction on the abandoned transactions. -/
theorem slowChannelAnswers : Obligations.SlowChannelAnswers := by
  unfold Obligations.SlowChannelAnswers
  exact fun r s => ⟨fun pos tag vals q hf hl => slowResp_answers r s pos tag vals q hf hl, slowTimeout_repeats r s⟩

end Sys2Proof.Machine
end

section
/-!
SUPPORT. Proofs/LinkupReplies.lean: the answers of link-up (sections 3.6 and 3.9).
-/
namespace Sys2Proof.Machine

/-! ## The walk (R91) -/

theorem discoverArrived_atB (r : RoundNo) (s : State) (next : Option (Fin 256)) (h1 : (s.rnd r).step = 1) (hw : (s.rnd r).waits = false)
    (hs : (s.rnd r).seg = none) : Yields (exec (.discoverArrived r .b next) s) fun t =>
      t.rnd r = { s.rnd r with walkA := true, through := true, top := (next.map (·.val)).getD 256, reportB := s.epoch } ∧
      (∀ q, q ≠ r.val → t.rnd q = s.rnd q) ∧
      ((s.rnd r).walkB = false → (∃ k, Out.blocks r .b [discoverBlock k (s.n .pairGeneration)] ∈ t.out) ∧
        t = (s.withRnds t.rnds).withOut t.out) ∧ ((s.rnd r).walkB = true → t = s.withRnds t.rnds) := by
  let u := s.putRnd r { s.rnd r with walkA := true, through := true, top := (next.map (·.val)).getD 256, reportB := s.epoch }
  have hx : exec (.discoverArrived r .b next) s = .next (if (s.rnd r).walkB then u else u.sendDiscover r .b (u.walkStart r .b)) :=
    congrArg Host.Outcome.next (if_pos ⟨h1, hw, hs⟩)
  have hu := s.rnd_putRnd_same r { s.rnd r with walkA := true, through := true, top := (next.map (·.val)).getD 256, reportB := s.epoch }
  have huo : ∀ q, q ≠ r.val → u.rnd q = s.rnd q := fun q hq => s.rnd_putRnd_ne _ hq
  rw [hx]
  by_cases hB : (s.rnd r).walkB = true
  · rw [if_pos hB]
    exact yields_next ⟨hu, huo, fun h => absurd (h.symm.trans hB) (by decide), fun _ => rfl⟩
  · rw [if_neg hB]
    exact yields_next ⟨hu, huo, fun _ => ⟨⟨u.walkStart r .b, List.mem_cons_self ..⟩, rfl⟩, fun h => absurd h hB⟩

theorem discoverArrived_atA (r : RoundNo) (s : State) (next : Option (Fin 256)) (h1 : (s.rnd r).step = 1) (hw : (s.rnd r).waits = false)
    (hs : (s.rnd r).seg = none) : Yields (exec (.discoverArrived r .a next) s) fun t =>
      t.rnd r = { s.rnd r with walkB := true, throughB := true } ∧ (∀ q, q ≠ r.val → t.rnd q = s.rnd q) ∧ t = s.withRnds t.rnds := by
  have hx : exec (.discoverArrived r .a next) s = .next (s.putRnd r { s.rnd r with walkB := true, throughB := true }) :=
    congrArg Host.Outcome.next (if_pos ⟨h1, hw, hs⟩)
  rw [hx]
  exact yields_next ⟨s.rnd_putRnd_same r _, fun q hq => s.rnd_putRnd_ne _ hq, rfl⟩

/-! ## Discovery replies (R92, R102) -/

theorem report_unplaced (r : RoundNo) (s : State) (e : End) (pos : Fin 256) (serial : BitVec 64) (versions : Word)
    (hs : (s.rnd r).seg = none) (h1 : (s.rnd r).step = 1) (hw : (s.rnd r).waits = false) :
    Yields (exec (.report r e pos (.discovery serial versions false true)) s) fun t =>
      (s.n .rndState r ≠ 6 → Raised s t 0x0104 kRound r) ∧ (s.n .rndState r = 6 → Raised s t 0x0274 kCell (cellAt r pos)) ∧
      t.rest = s.rest ∧ QuietPoints s t [] := by
  have hx : exec (.report r e pos (.discovery serial versions false true)) s = .next (if s.n .rndState r = 6 then
      s.raise 0x0274 kCell (cellAt r pos) 0 else s.raise 0x0104 kRound r 0) := by
    refine congrArg Host.Outcome.next ?_
    show s.discoveryReply r e pos serial versions false = _
    unfold State.discoveryReply
    dsimp only
    rw [if_pos rfl, if_pos (.inl ⟨h1, hw⟩), State.unplaced, hs]
    simp only [and_true]
  rw [hx]
  by_cases h6 : s.n .rndState r = 6
  · rw [if_pos h6]
    have hq := s.raise_quiet 0x0274 kCell (cellAt r pos) 0
    exact yields_next ⟨fun h => absurd h6 h, fun _ => State.raise_raised _ _ _ _ _ rfl, State.rest_of_quiet hq, QuietPoints.keep hq []⟩
  · rw [if_neg h6]
    have hq := s.raise_quiet 0x0104 kRound r 0
    exact yields_next ⟨fun _ => State.raise_raised _ _ _ _ _ rfl, fun h => absurd h h6, State.rest_of_quiet hq, QuietPoints.keep hq []⟩

/-- A round's record after the discovery reply of a position. -/
def Rnd.found (x : Rnd) (e : End) (p epoch : Nat) : Rnd :=
  match e with
  | .a => { x with reachA := if x.reachA.contains p then x.reachA else x.reachA ++ [p], reportA := epoch }
  | .b => { x with reachB := if x.reachB.contains p then x.reachB else x.reachB ++ [p], reportB := epoch }

theorem mem_reached (l : List Nat) (p : Nat) : p ∈ if l.contains p then l else l ++ [p] := by
  split
  · next h => exact List.contains_iff_mem.1 h
  · simp

/-- The points of a discovery reply. -/
def State.foundPoints (s : State) (r p : Nat) (serial : BitVec 64) (versions : Word) : State :=
  (((s.put .cell (cellAt r p) versions 0x01).putN .cell (cellAt r p) (serial.toNat % 2 ^ 32) 0x02).putN .cell (cellAt r p)
    (serial.toNat / 2 ^ 32) 0x03).putN .pos (cellAt r p) (((s.posDesc r p).bind (·.arm)).getD 0xFFFFFFFF) 3

theorem State.discovered_eq (s : State) (r : Nat) (e : End) (p : Nat) (serial : BitVec 64) (versions : Word) :
    s.discovered r e p serial versions = ((((s.putRnd r ((s.rnd r).found e p s.epoch)).foundPoints r p serial versions).cellDiscover r p).putCellState
      r p (if (s.rnd r).bypassed.contains p && s.serialOf r p == serial.toNat then 6 else 1)) := by
  cases e <;> rfl

theorem State.foundPoints_leaves (s : State) (r p : Nat) (serial : BitVec 64) (versions : Word) : let t := s.foundPoints r p serial versions
    let a := cellAt r p
    t = s.withPts t.pts ∧ t.w .cell a 0x01 = versions ∧ t.n .cell a 0x02 + 2 ^ 32 * t.n .cell a 0x03 = serial.toNat ∧
    t.w .pos a 3 = Word.ofNat (((s.posDesc r p).bind (·.arm)).getD 0xFFFFFFFF) ∧
    SamePoints s t [⟨.cell, a, 0x01⟩, ⟨.cell, a, 0x02⟩, ⟨.cell, a, 0x03⟩, ⟨.pos, a, 3⟩] := by
  unfold State.foundPoints
  have hlo : serial.toNat % 2 ^ 32 < 2 ^ 32 := Nat.mod_lt _ (by decide)
  have hhi : serial.toNat / 2 ^ 32 < 2 ^ 32 := Nat.div_lt_of_lt_mul (by have := serial.isLt; omega)
  generalize hl : serial.toNat % 2 ^ 32 = lo at *
  generalize hh : serial.toNat / 2 ^ 32 = hi at *
  have hser : lo + 2 ^ 32 * hi = serial.toNat := by omega
  refine ⟨rfl, ?_, ?_, State.w_putN_same _ _ _ _ _, (((SamePoints.put s .cell _ _ 0x01).trans (SamePoints.put _ .cell _ _ 0x02)).trans
    (SamePoints.put _ .cell _ _ 0x03)).trans (SamePoints.put _ .pos _ _ 3)⟩
  · exact (State.w_putN_field _ (by decide)).trans ((State.w_put_ne _ _ (by simp)).trans ((State.w_put_ne _ _ (by simp)).trans
      (s.w_put_same _ _ _ _)))
  · rw [← hser]
    have h3 : ∀ j, State.n ((((s.put .cell (cellAt r p) versions 0x01).putN .cell (cellAt r p) lo 0x02).putN .cell (cellAt r p) hi 0x03).putN .pos
        (cellAt r p) (((s.posDesc r p).bind (·.arm)).getD 0xFFFFFFFF) 3) .cell (cellAt r p) j =
        State.n (((s.put .cell (cellAt r p) versions 0x01).putN .cell (cellAt r p) lo 0x02).putN .cell (cellAt r p) hi 0x03) .cell (cellAt r p) j :=
      fun j => State.n_putN_field _ (by decide)
    have h2 : State.n (((s.put .cell (cellAt r p) versions 0x01).putN .cell (cellAt r p) lo 0x02).putN .cell (cellAt r p) hi 0x03) .cell
        (cellAt r p) 0x02 = lo :=
      (congrArg BitVec.toNat (State.w_put_ne _ _ (by simp))).trans (State.n_putN_same _ _ _ _ _ hlo)
    rw [h3, h3, h2, State.n_putN_same _ _ _ _ _ hhi]

/-! ## What a discovery reply leaves aside -/

/-- A state with other points, rounds and cells. -/
def cellParts (x : State) (a : Store) (b : Tab Rnd) (d : Tab CellSt) : State := ((x.withPts a).withRnds b).withCells d

theorem cellParts_cellParts (x : State) (a a' : Store) (b b' : Tab Rnd) (d d' : Tab CellSt) :
    cellParts (cellParts x a b d) a' b' d' = cellParts x a' b' d' := by
  cases x; rfl

theorem cellParts_rounds (x : State) (a : Store) (b : Tab Rnd) : cellParts x a b x.cells = (x.withPts a).withRnds b := by
  cases x; rfl

theorem cellParts_cells (x : State) (d : Tab CellSt) : cellParts x x.pts x.rnds d = x.withCells d := by
  cases x; rfl

/-- Only points, rounds and cells differ. -/
def CellsOnly (s t : State) : Prop := t = cellParts s t.pts t.rnds t.cells

theorem CellsOnly.eq {s t : State} (h : CellsOnly s t) : t = ((s.withPts t.pts).withRnds t.rnds).withCells t.cells := h

theorem CellsOnly.trans {s t u : State} (h : CellsOnly s t) (k : CellsOnly t u) : CellsOnly s u :=
  calc u = cellParts t u.pts u.rnds u.cells := k
    _ = cellParts (cellParts s t.pts t.rnds t.cells) u.pts u.rnds u.cells := congrArg (fun x : State => cellParts x u.pts u.rnds u.cells) h
    _ = cellParts s u.pts u.rnds u.cells := cellParts_cellParts _ _ _ _ _ _ _

theorem State.putRnd_cells (s : State) (r : Nat) (x : Rnd) : CellsOnly s (s.putRnd r x) := (cellParts_rounds s s.pts _).symm

theorem State.putCellSt_cells (s : State) (a : Nat) (c : CellSt) : CellsOnly s (s.putCellSt a c) := (cellParts_cells s _).symm

theorem CellsOnly.of_pts {s t : State} (h : t = s.withPts t.pts) : CellsOnly s t := by
  have hr : t.rnds = s.rnds := (congrArg State.rnds h :)
  have hc : t.cells = s.cells := (congrArg State.cells h :)
  rw [CellsOnly, hr, hc, cellParts_rounds]
  exact h.trans (by cases s; rfl)

/-- What a discovery reply that takes a position leaves. -/
theorem State.discovered_leaves (s : State) (r : Nat) (e : End) (p : Nat) (serial : BitVec 64) (versions : Word) :
    let t := s.discovered r e p serial versions
    let a := cellAt r p
    let kept := (s.rnd r).bypassed.contains p = true ∧ s.serialOf r p = serial.toNat
    t.w .cell a 0x01 = versions ∧ t.n .cell a 0x02 + 2 ^ 32 * t.n .cell a 0x03 = serial.toNat ∧
    t.w .pos a 3 = Word.ofNat (((s.posDesc r p).bind (·.arm)).getD 0xFFFFFFFF) ∧
    (¬kept → t.n .pos a 0 = 1 ∧ t.n .cell a 0x0A = 1) ∧ (kept → t.n .pos a 0 = 6 ∧ t.n .cell a 0x0A = 6) ∧
    t.rnd r = (s.rnd r).found e p s.epoch ∧ (∀ q, q ≠ r → t.rnd q = s.rnd q) ∧
    t = ((s.withPts t.pts).withRnds t.rnds).withCells t.cells ∧ (∀ m, m ≠ a → t.cellSt m = s.cellSt m) ∧
    SamePoints s t [⟨.cell, a, 0x01⟩, ⟨.cell, a, 0x02⟩, ⟨.cell, a, 0x03⟩, ⟨.cell, a, 0x0A⟩, ⟨.pos, a, 0⟩, ⟨.pos, a, 3⟩] := by
  rw [s.discovered_eq r e p serial versions]
  have h0r : (s.putRnd r ((s.rnd r).found e p s.epoch)).rnd r = (s.rnd r).found e p s.epoch := s.rnd_putRnd_same r _
  have h0o : ∀ q, q ≠ r → (s.putRnd r ((s.rnd r).found e p s.epoch)).rnd q = s.rnd q := fun q hq => s.rnd_putRnd_ne _ hq
  have h0 := s.putRnd_cells r ((s.rnd r).found e p s.epoch)
  have h0w : ∀ f i j, (s.putRnd r ((s.rnd r).found e p s.epoch)).w f i j = s.w f i j := fun _ _ _ => rfl
  have h0c : (s.putRnd r ((s.rnd r).found e p s.epoch)).cells = s.cells := rfl
  have hd : (s.putRnd r ((s.rnd r).found e p s.epoch)).posDesc r p = s.posDesc r p := rfl
  generalize s.putRnd r ((s.rnd r).found e p s.epoch) = s0 at *
  obtain ⟨o1, w1, w23, w3, p1⟩ := s0.foundPoints_leaves r p serial versions
  rw [hd] at w3
  generalize s0.foundPoints r p serial versions = s1 at *
  have h2 : CellsOnly s1 (s1.cellDiscover r p) := s1.putCellSt_cells _ _
  have h2w : ∀ f i j, (s1.cellDiscover r p).w f i j = s1.w f i j := fun _ _ _ => rfl
  have h2r : (s1.cellDiscover r p).rnds = s1.rnds := rfl
  have h2c : ∀ m, m ≠ cellAt r p → (s1.cellDiscover r p).cellSt m = s1.cellSt m := fun m hm => Tab.get_put_ne _ _ _ hm
  generalize s1.cellDiscover r p = s2 at *
  obtain ⟨o3, n3, m3, p3⟩ := s2.putCellState_leaves r p
    (if (s.rnd r).bypassed.contains p && s.serialOf r p == serial.toNat then 6 else 1) (by split <;> decide)
  generalize s2.putCellState r p (if (s.rnd r).bypassed.contains p && s.serialOf r p == serial.toNat then 6 else 1) = t at *
  have hk : ((s.rnd r).bypassed.contains p && s.serialOf r p == serial.toNat) = true ↔
      (s.rnd r).bypassed.contains p = true ∧ s.serialOf r p = serial.toNat := by
    rw [Bool.and_eq_true, beq_iff_eq]
  have hw : ∀ f j, ¬(f = .pos ∧ j = 0) → ¬(f = .cell ∧ j = 0x0A) → t.w f (cellAt r p) j = s1.w f (cellAt r p) j := fun f j ha hb =>
    (p3 _ _ _ (by simp; exact ⟨fun x y => ha ⟨x, y⟩, fun x y => hb ⟨x, y⟩⟩)).trans (h2w _ _ _)
  have hr : ∀ q, t.rnd q = s0.rnd q := fun q => by
    have h3 : t.rnds = s2.rnds := (congrArg State.rnds o3 :)
    have h1 : s1.rnds = s0.rnds := (congrArg State.rnds o1 :)
    rw [State.rnd, State.rnd, h3, h2r, h1]
  have hcell : ∀ m, m ≠ cellAt r p → t.cellSt m = s.cellSt m := fun m hm => by
    have h3 : t.cells = s2.cells := (congrArg State.cells o3 :)
    have h1 : s1.cells = s0.cells := (congrArg State.cells o1 :)
    rw [State.cellSt, h3]
    refine (h2c m hm).trans ?_
    rw [State.cellSt, State.cellSt, h1, h0c]
  refine ⟨(hw _ _ (by simp) (by simp)).trans w1, ?_, (hw _ _ (by simp) (by simp)).trans w3, fun h => ?_, fun h => ?_, (hr r).trans h0r,
    fun q hq => (hr q).trans (h0o q hq), (h0.trans ((CellsOnly.of_pts o1).trans (h2.trans (CellsOnly.of_pts o3)))).eq, hcell, ?_⟩
  · rw [State.n, State.n, hw _ _ (by simp) (by simp), hw _ _ (by simp) (by simp)]
    exact w23
  · rw [n3, m3, if_neg (fun hx => h (hk.1 hx))]
    exact ⟨rfl, rfl⟩
  · rw [n3, m3, if_pos (hk.2 h)]
    exact ⟨rfl, rfl⟩
  · have h01 : SamePoints s s0 [] := fun f i j _ => h0w f i j
    have h12 : SamePoints s1 s2 [] := fun f i j _ => h2w f i j
    exact SamePoints.mono ((h01.trans p1).trans (h12.trans p3)) (by simp)

/-- A discovery reply that takes its position. -/
theorem report_discovered (r : RoundNo) (s : State) (e : End) (pos : Fin 256) (serial : BitVec 64) (versions : Word)
    (h1 : (s.rnd r).step = 1) (hw : (s.rnd r).waits = false) (hs : (s.rnd r).seg = none) (he : e = .a ∨ (s.rnd r).through = true) :
    Yields (exec (.report r e pos (.discovery serial versions true true)) s) fun t => let a := cellAt r pos
      let x := s.rnd r
      let kept := x.bypassed.contains pos.val = true ∧ s.serialOf r pos = serial.toNat
      t.w .cell a 0x01 = versions ∧ t.n .cell a 0x02 + 2 ^ 32 * t.n .cell a 0x03 = serial.toNat ∧
      t.w .pos a 3 = Word.ofNat (((s.posDesc r pos).bind (·.arm)).getD 0xFFFFFFFF) ∧
      (¬kept → t.n .pos a 0 = 1 ∧ t.n .cell a 0x0A = 1) ∧ (kept → t.n .pos a 0 = 6 ∧ t.n .cell a 0x0A = 6) ∧
      (e = .a → pos.val ∈ (t.rnd r).reachA ∧ (t.rnd r).reportA = s.epoch ∧ (t.rnd r).reachB = x.reachB) ∧
      (e = .b → pos.val ∈ (t.rnd r).reachB ∧ (t.rnd r).reportB = s.epoch ∧ (t.rnd r).reachA = x.reachA) ∧
      (∀ q, q ≠ r.val → t.rnd q = s.rnd q) ∧ t = ((s.withPts t.pts).withRnds t.rnds).withCells t.cells ∧
      (∀ m, m ≠ a → t.cellSt m = s.cellSt m) ∧
      SamePoints s t [⟨.cell, a, 0x01⟩, ⟨.cell, a, 0x02⟩, ⟨.cell, a, 0x03⟩, ⟨.cell, a, 0x0A⟩, ⟨.pos, a, 0⟩, ⟨.pos, a, 3⟩] := by
  have hplace : s.placeOf r e pos serial.toNat = some pos.val := by
    unfold State.placeOf
    dsimp only
    rw [if_neg]
    rintro ⟨rfl, ht, -⟩
    rcases he with he | he
    · cases he
    · rw [he] at ht; cases ht
  have hx : exec (.report r e pos (.discovery serial versions true true)) s = .next (s.discovered r e pos serial versions) := by
    refine congrArg Host.Outcome.next ?_
    show s.discoveryReply r e pos serial versions true = _
    unfold State.discoveryReply
    dsimp only
    rw [if_neg (by decide), if_neg (not_not.2 ⟨h1, hw⟩), hs]
    dsimp only
    rw [hplace]
  obtain ⟨k1, k2, k3, k4, k5, k6, k7, k8, k9, k10⟩ := s.discovered_leaves r e pos serial versions
  rw [hx]
  generalize s.discovered r e pos serial versions = t at *
  refine yields_next ⟨k1, k2, k3, k4, k5, fun ha => ?_, fun hb => ?_, k7, k8, k9, k10⟩
  · subst ha
    rw [k6]
    exact ⟨mem_reached _ _, rfl, rfl⟩
  · subst hb
    rw [k6]
    exact ⟨mem_reached _ _, rfl, rfl⟩

/-! ## Class reports (Table 3.8) -/

/-- The points of a class report: offset in the block, first byte, length. -/
def classFields : List (Nat × Nat × Nat) :=
  [(0x00, 0, 4), (0x04, 4, 4), (0x05, 8, 4), (0x06, 12, 4), (0x07, 16, 1), (0x08, 17, 1), (0x09, 20, 4)]

/-- The points of a class report are written one after the other. -/
def State.classPoints (s : State) (a : Nat) (bs : List Byte) (l : List (Nat × Nat × Nat)) : State :=
  forL l (fun e t => t.putN .cell a (Arith.field bs e.2.1 e.2.2) e.1) s

theorem State.classPoints_leaves (s : State) (a : Nat) (bs : List Byte) (l : List (Nat × Nat × Nat)) : let t := s.classPoints a bs l
    t = s.withPts t.pts ∧ ((l.map (·.1)).Nodup → ∀ e ∈ l, t.w .cell a e.1 = Word.ofNat (Arith.field bs e.2.1 e.2.2)) ∧
    SamePoints s t (l.map fun e => ⟨.cell, a, e.1⟩) := by
  unfold State.classPoints
  induction l generalizing s with
  | nil => exact ⟨by cases s; rfl, fun _ e he => absurd he (by simp), fun _ _ _ _ => rfl⟩
  | cons e l ih =>
    rw [show forL (e :: l) (fun e t => t.putN .cell a (Arith.field bs e.2.1 e.2.2) e.1) s =
      forL l (fun e t => t.putN .cell a (Arith.field bs e.2.1 e.2.2) e.1) (s.putN .cell a (Arith.field bs e.2.1 e.2.2) e.1) from rfl]
    have h1 : s.putN .cell a (Arith.field bs e.2.1 e.2.2) e.1 = s.withPts (s.putN .cell a (Arith.field bs e.2.1 e.2.2) e.1).pts := rfl
    have hw : (s.putN .cell a (Arith.field bs e.2.1 e.2.2) e.1).w .cell a e.1 = Word.ofNat (Arith.field bs e.2.1 e.2.2) := s.w_put_same _ _ _ _
    have hp := SamePoints.put s .cell a (Word.ofNat (Arith.field bs e.2.1 e.2.2)) e.1
    obtain ⟨k1, k2, k3⟩ := ih (s.putN .cell a (Arith.field bs e.2.1 e.2.2) e.1)
    change SamePoints s (s.putN .cell a (Arith.field bs e.2.1 e.2.2) e.1) _ at hp
    generalize s.putN .cell a (Arith.field bs e.2.1 e.2.2) e.1 = u at *
    generalize forL l (fun e t => t.putN .cell a (Arith.field bs e.2.1 e.2.2) e.1) u = t at *
    refine ⟨?_, fun hn f hf => ?_, SamePoints.mono (hp.trans k3) (by simp)⟩
    · rw [h1] at k1
      exact k1
    · simp only [List.map_cons, List.nodup_cons] at hn
      rcases List.mem_cons.1 hf with rfl | hf
      · rw [k3 _ _ _ (by simpa using hn.1)]
        exact hw
      · exact k2 hn.2 f hf

/-- A round's record after a class report. -/
def Rnd.classed (x : Rnd) (p : Nat) (bs : List Byte) : Rnd :=
  { x with
    classes := if x.classes.contains p then x.classes else p :: x.classes
    classN := Tab.put 0 x.classN p (Arith.field bs 18 2) }

/-- The points of a class report, in the cell's block and in the directory. -/
def State.classPointed (s : State) (r p : Nat) (bs : List Byte) : State :=
  (s.classPoints (cellAt r p) bs classFields).putN .pos (cellAt r p) (Arith.field bs 0 4) 2

theorem State.classReport_eq (s : State) (r p : Nat) (bs : List Byte) : s.classReport r p bs =
    (s.classPointed r p bs).putRnd r (((s.classPointed r p bs).rnd r).classed p bs) := rfl

theorem report_class (r : RoundNo) (s : State) (e : End) (pos : Fin 256) (bytes : List Byte) (h4 : (s.rnd r).step = 4)
    (hw : (s.rnd r).waits = false) (hok : classOk bytes = true) : Yields (exec (.report r e pos (.cls bytes)) s) fun t => let a := cellAt r pos
      (∀ k o m, (k, o, m) ∈ [(0x00, 0, 4), (0x04, 4, 4), (0x05, 8, 4), (0x06, 12, 4), (0x07, 16, 1), (0x08, 17, 1), (0x09, 20, 4)] →
        t.w .cell a k = Word.ofNat (Arith.field bytes o m)) ∧
      t.w .pos a 2 = Word.ofNat (Arith.field bytes 0 4) ∧ pos.val ∈ (t.rnd r).classes ∧
      Tab.get 0 (t.rnd r).classN pos = Arith.field bytes 18 2 ∧ (∀ q, q ≠ r.val → t.rnd q = s.rnd q) ∧
      t = (s.withPts t.pts).withRnds t.rnds ∧
      SamePoints s t [⟨.cell, a, 0x00⟩, ⟨.cell, a, 0x04⟩, ⟨.cell, a, 0x05⟩, ⟨.cell, a, 0x06⟩, ⟨.cell, a, 0x07⟩, ⟨.cell, a, 0x08⟩,
        ⟨.cell, a, 0x09⟩, ⟨.pos, a, 2⟩] := by
  have hx : exec (.report r e pos (.cls bytes)) s = .next (s.classReport r pos bytes) := congrArg Host.Outcome.next (if_pos ⟨h4, hw, hok⟩)
  rw [hx, s.classReport_eq r pos bytes, State.classPointed]
  obtain ⟨k1, k2, k3⟩ := s.classPoints_leaves (cellAt r pos) bytes classFields
  generalize s.classPoints (cellAt r pos) bytes classFields = u at *
  have hro : RoundsOnly s u := by
    have hr : u.rnds = s.rnds := (congrArg State.rnds k1 :)
    rw [RoundsOnly, hr]
    exact k1.trans (by cases s; rfl)
  have huo : ∀ q, u.rnd q = s.rnd q := fun q => by
    have hr : u.rnds = s.rnds := (congrArg State.rnds k1 :)
    rw [State.rnd, State.rnd, hr]
  have hv : SamePoints u (u.putN .pos (cellAt r pos) (Arith.field bytes 0 4) 2) [⟨.pos, cellAt r pos, 2⟩] := SamePoints.put u _ _ _ 2
  have hvw : (u.putN .pos (cellAt r pos) (Arith.field bytes 0 4) 2).w .pos (cellAt r pos) 2 = Word.ofNat (Arith.field bytes 0 4) :=
    u.w_put_same _ _ _ _
  have hvo : ∀ q, (u.putN .pos (cellAt r pos) (Arith.field bytes 0 4) 2).rnd q = s.rnd q := huo
  have hvr : RoundsOnly s (u.putN .pos (cellAt r pos) (Arith.field bytes 0 4) 2) := hro.trans (RoundsOnly.putN u .pos _ _ 2)
  generalize u.putN .pos (cellAt r pos) (Arith.field bytes 0 4) 2 = v at *
  have hr := v.rnd_putRnd_same r ((v.rnd r).classed pos bytes)
  refine yields_next ⟨fun k o m hm => ?_, hvw, ?_, ?_, fun q hq => ?_, ?_, ?_⟩
  · exact (hv _ _ _ (by simp)).trans (k2 (by decide) (k, o, m) hm)
  · rw [hr, Rnd.classed]
    dsimp only
    split
    · next h => exact List.contains_iff_mem.1 h
    · exact List.mem_cons_self ..
  · rw [hr]
    exact Tab.get_put_same _ _ _ _
  · exact (State.rnd_putRnd_ne _ _ hq).trans (hvo q)
  · exact hvr.trans (RoundsOnly.putRnd _ r _)
  · exact SamePoints.mono (k3.trans hv) (by simp [classFields])

/-! ## Round trips (R92) -/

theorem echoRet_counts (r : RoundNo) (s : State) (e : End) (pos : Fin 256) (rtt : Nat) :
    let k := pos.val * 2 + (match e with | .a => 0 | .b => 1)
    let m := Tab.get (0, 0) (s.rnd r).echoes k
    (s.rnd r).step = 2 → (s.rnd r).waits = false → m.1 < 16 → Yields (exec (.echoRet r e pos rtt) s) fun t =>
      Tab.get (0, 0) (t.rnd r).echoes k = (m.1 + 1, m.2 + rtt) ∧ t.rnd r = { s.rnd r with echoes := (t.rnd r).echoes } ∧
      (∀ k', k' ≠ k → Tab.get (0, 0) (t.rnd r).echoes k' = Tab.get (0, 0) (s.rnd r).echoes k') ∧ (∀ q, q ≠ r.val → t.rnd q = s.rnd q) ∧
      t = s.withRnds t.rnds := by
  intro k m h2 hw hm
  have hx : exec (.echoRet r e pos rtt) s = .next (s.putRnd r { s.rnd r with echoes := Tab.put (0, 0) (s.rnd r).echoes k (m.1 + 1, m.2 + rtt) }) := by
    cases e <;> exact congrArg Host.Outcome.next (if_pos ⟨h2, hw, hm⟩)
  clear_value m
  rw [hx]
  have hr := s.rnd_putRnd_same r { s.rnd r with echoes := Tab.put (0, 0) (s.rnd r).echoes k (m.1 + 1, m.2 + rtt) }
  refine yields_next ⟨?_, ?_, fun k' hk => ?_, fun q hq => s.rnd_putRnd_ne _ hq, rfl⟩
  · rw [hr]; exact Tab.get_put_same _ _ _ _
  · rw [hr]
  · rw [hr]; exact Tab.get_put_ne _ _ _ hk

/-! ## A lane that is up again (R103) -/

/-- An end has lock. -/
def Rnd.locked (x : Rnd) : End → Rnd
  | .a => { x with lockA := true }
  | .b => { x with lockB := true }

/-- The walk of a segment from an end begins. -/
def Rnd.growing (x : Rnd) (e : End) : Rnd :=
  { x with
    step := 1, seg := some e, waits := true, reachA := [], reachB := [], classes := [], echoes := [], through := false, top := 0
    throughB := false }

theorem segmentLaneUp_grows (r : RoundNo) (s : State) (e : End) (count : Nat) (h6 : s.n .rndState r = 6) :
    Yields (exec (.segmentLaneUp r e count) s) fun t => let x := s.rnd r
      (match e with | .a => (t.rnd r).lockA | .b => (t.rnd r).lockB) = true ∧
      (count = 0 ∨ x.step ≠ 0 ∨ (x.range e).isSome → (t.rnd r).step = x.step ∧ (t.rnd r).seg = x.seg ∧ (t.rnd r).waits = x.waits) ∧
      (count ≠ 0 → x.step = 0 → x.range e = none → (t.rnd r).step = 1 ∧ (t.rnd r).seg = some e ∧ (t.rnd r).waits = true ∧ (t.rnd r).reachA = [] ∧
        (t.rnd r).reachB = [] ∧ (t.rnd r).echoes = []) ∧
      (t.rnd r).rangeA = x.rangeA ∧ (t.rnd r).rangeB = x.rangeB ∧ (∀ q, q ≠ r.val → t.rnd q = s.rnd q) ∧ t = s.withRnds t.rnds := by
  have hx : exec (.segmentLaneUp r e count) s = .next (s.putRnd r (if count = 0 ∨ (s.rnd r).step ≠ 0 ∨ ((s.rnd r).range e).isSome then
      (s.rnd r).locked e else ((s.rnd r).locked e).growing e)) := by
    rw [apply_ite (s.putRnd r)]
    cases e <;> exact congrArg Host.Outcome.next (if_pos h6)
  rw [hx]
  have hr := fun x => s.rnd_putRnd_same r x
  by_cases h : count = 0 ∨ (s.rnd r).step ≠ 0 ∨ ((s.rnd r).range e).isSome
  · rw [if_pos h]
    refine yields_next ⟨?_, fun _ => ?_, fun h0 h1 h2 => ?_, ?_, ?_, fun q hq => s.rnd_putRnd_ne _ hq, rfl⟩
    · rw [hr]; cases e <;> rfl
    · rw [hr]; cases e <;> exact ⟨rfl, rfl, rfl⟩
    · rw [h2] at h
      simp [h0, h1] at h
    · rw [hr]; cases e <;> rfl
    · rw [hr]; cases e <;> rfl
  · rw [if_neg h]
    refine yields_next ⟨?_, fun hx => absurd hx h, fun _ _ _ => ?_, ?_, ?_, fun q hq => s.rnd_putRnd_ne _ hq, rfl⟩
    · rw [hr]; cases e <;> rfl
    · rw [hr]; exact ⟨rfl, rfl, rfl, rfl, rfl, rfl⟩
    · rw [hr]; cases e <;> rfl
    · rw [hr]; cases e <;> rfl

/-- Settles O40, answer by answer. -/
theorem linkupAnswers : Obligations.LinkupAnswers := by
  unfold Obligations.LinkupAnswers
  exact fun r s => ⟨fun next h1 hw hs => ⟨discoverArrived_atB r s next h1 hw hs, discoverArrived_atA r s next h1 hw hs⟩,
    fun e pos serial versions placed => yields_next rfl,
    fun e pos serial versions hs h1 hw => report_unplaced r s e pos serial versions hs h1 hw,
    fun e pos serial versions h1 hw hs he => report_discovered r s e pos serial versions h1 hw hs he,
    fun e pos bytes h4 hw hok => report_class r s e pos bytes h4 hw hok,
    fun e pos rtt => echoRet_counts r s e pos rtt, fun e count h6 => segmentLaneUp_grows r s e count h6⟩

end Sys2Proof.Machine
end

section
/-!
SUPPORT. Proofs/LinkupDelay.lean: the end of step 2 of link-up: delays and ranges (section 3.6).
-/
namespace Sys2Proof.Machine

/-- What every turn of a loop keeps holds at its end. -/
theorem forL_holds {α : Type} (P : State → Prop) (l : List α) (f : α → State → State) (s : State) (h : ∀ a ∈ l, ∀ t, P t → P (f a t))
    (hs : P s) : P (forL l f s) := by
  induction l generalizing s with
  | nil => exact hs
  | cons a l ih => exact ih _ (fun b hb => h b (List.mem_cons_of_mem _ hb)) (h a (List.mem_cons_self ..) s hs)

/-- The index of an end's cumulative delay among the points of a position. -/
def cumIx : End → Nat
  | .a => 4
  | .b => 5

/-- A cumulative delay is kept and sent. -/
def State.sendDelay (s : State) (r : Nat) (e : End) (d : Nat → Nat) (p : Nat) : State :=
  (s.putCum r p (d p) e).direct r (some p) (.delay e (d p))

theorem State.putCum_eq (s : State) (r p ns : Nat) (e : End) : s.putCum r p ns e = s.putN .pos (cellAt r p) ns (cumIx e) := by
  cases e <;> rfl

/-- What a directive leaves. -/
theorem State.direct_leaves (s : State) (r : Nat) (p : Option Nat) (d : Directive) : let t := s.direct r p d
    RoundsOnly s t ∧ t.rnd r = { s.rnd r with dirq := (s.rnd r).dirq ++ [⟨p, d⟩] } ∧ (∀ q, q ≠ r → t.rnd q = s.rnd q) ∧ t.pts = s.pts :=
  ⟨rfl, s.rnd_putRnd_same r _, fun _ hq => s.rnd_putRnd_ne _ hq, rfl⟩

theorem State.sendDelay_leaves (s : State) (r : Nat) (e : End) (d : Nat → Nat) (p : Nat) : let t := s.sendDelay r e d p
    RoundsOnly s t ∧ t.rnd r = { s.rnd r with dirq := (s.rnd r).dirq ++ [⟨some p, .delay e (d p)⟩] } ∧ (∀ q, q ≠ r → t.rnd q = s.rnd q) ∧
    t.w .pos (cellAt r p) (cumIx e) = Word.ofNat (d p) ∧ SamePoints s t [⟨.pos, cellAt r p, cumIx e⟩] := by
  unfold State.sendDelay
  rw [s.putCum_eq]
  obtain ⟨h1, h2, h3, h4⟩ := (s.putN .pos (cellAt r p) (d p) (cumIx e)).direct_leaves r (some p) (.delay e (d p))
  refine ⟨(RoundsOnly.putN s _ _ _ _).trans h1, h2, h3, ?_, fun f i j hn => ?_⟩
  · rw [State.w, h4]; exact s.w_put_same _ _ _ _
  · rw [State.w, h4]; exact SamePoints.put s .pos (cellAt r p) _ (cumIx e) f i j hn

theorem forL_sendDelay_leaves (l : List Nat) (s : State) (r : Nat) (e : End) (d : Nat → Nat) : let t := forL l (fun p u => u.sendDelay r e d p) s
    RoundsOnly s t ∧ t.rnd r = { s.rnd r with dirq := (s.rnd r).dirq ++ l.map fun p => ⟨some p, .delay e (d p)⟩ } ∧
    (∀ q, q ≠ r → t.rnd q = s.rnd q) ∧ (∀ p ∈ l, t.w .pos (cellAt r p) (cumIx e) = Word.ofNat (d p)) ∧
    ∀ f i j, ¬(f = .pos ∧ j = cumIx e) → t.w f i j = s.w f i j := by
  induction l generalizing s with
  | nil => exact ⟨.refl s, by simp [forL], fun _ _ => rfl, fun p hp => absurd hp (by simp), fun _ _ _ _ => rfl⟩
  | cons p l ih =>
    rw [show forL (p :: l) (fun p u => u.sendDelay r e d p) s = forL l (fun p u => u.sendDelay r e d p) (s.sendDelay r e d p) from rfl]
    obtain ⟨a1, a2, a3, a4, a5⟩ := s.sendDelay_leaves r e d p
    have hagain : ∀ u : State, u.w .pos (cellAt r p) (cumIx e) = Word.ofNat (d p) →
        (forL l (fun p u => u.sendDelay r e d p) u).w .pos (cellAt r p) (cumIx e) = Word.ofNat (d p) := fun u hu =>
      forL_holds (fun t => t.w .pos (cellAt r p) (cumIx e) = Word.ofNat (d p)) _ _ _
        (fun q _ t ht => by
          obtain ⟨-, -, -, b4, b5⟩ := t.sendDelay_leaves r e d q
          by_cases hq : p = q
          · subst hq; exact b4
          · exact (b5 _ _ _ (by simpa using fun h => hq (cellAt_inj h))).trans ht) hu
    have hown := hagain _ a4
    obtain ⟨b1, b2, b3, b4, b5⟩ := ih (s.sendDelay r e d p)
    generalize s.sendDelay r e d p = u at *
    generalize forL l (fun p u => u.sendDelay r e d p) u = t at *
    refine ⟨a1.trans b1, ?_, fun q hq => (b3 q hq).trans (a3 q hq), fun q hq => ?_, fun f i j h => ?_⟩
    · rw [b2, a2, List.map_cons, List.append_assoc]
      rfl
    · rcases List.mem_cons.1 hq with rfl | hq
      · exact hown
      · exact b4 q hq
    · rw [b5 f i j h, a5 f i j (by simpa using fun hf _ hj => h ⟨hf, hj⟩)]

/-- The delays of the cells that each end reached are kept and sent. -/
def State.delaysSent (s : State) (r : Nat) : State :=
  forL (s.rnd r).reachB (fun p u => u.sendDelay r .b (fun p => echoDelay (Tab.get (0, 0) (s.rnd r).echoes (p * 2 + 1)).2) p)
    (forL (s.rnd r).reachA (fun p u => u.sendDelay r .a (fun p => echoDelay (Tab.get (0, 0) (s.rnd r).echoes (p * 2)).2) p) s)

/-- The round has a break at link-up. -/
def State.brokenAtLinkup (s : State) (r : Nat) (g : Option (Nat × Nat) × Option (Nat × Nat)) : State :=
  let u := (s.setRanges r g).inc .rndBreaks r
  u.putRnd r { u.rnd r with broken := true, calm := 0 }

theorem State.endDelay_eq (s : State) (r : Nat) : (s.endDelay r = s.delaysSent r ∧ (s.rnd r).seg.isSome = true) ∨
    (s.endDelay r = (s.delaysSent r).rebalance r ∧ (s.rnd r).seg = none ∧ (s.rnd r).through = true) ∨
    ∃ g p, s.endDelay r = ((s.delaysSent r).brokenAtLinkup r g).raise 0x0101 kRound r p ∧ (s.rnd r).seg = none ∧ (s.rnd r).through = false := by
  unfold State.endDelay
  extract_lets x put s1 s2
  cases hs : (s.rnd r).seg with
  | some e =>
    exact .inl ⟨rfl, rfl⟩
  | none =>
    by_cases ht : (s.rnd r).through = true
    · refine .inr (.inl ⟨?_, rfl, ht⟩)
      exact if_pos ht
    · exact .inr (.inr ⟨_, _, if_neg ht, rfl, by simpa using ht⟩)

theorem State.delaysSent_leaves (s : State) (r : Nat) : let t := s.delaysSent r
    let x := s.rnd r
    let dA := fun p => echoDelay (Tab.get (0, 0) x.echoes (p * 2)).2
    let dB := fun p => echoDelay (Tab.get (0, 0) x.echoes (p * 2 + 1)).2
    RoundsOnly s t ∧ (∃ q, t.rnd r = { x with dirq := q } ∧ (∀ p ∈ x.reachA, (⟨some p, .delay .a (dA p)⟩ : DirEntry) ∈ q) ∧
      ∀ p ∈ x.reachB, (⟨some p, .delay .b (dB p)⟩ : DirEntry) ∈ q) ∧ (∀ q, q ≠ r → t.rnd q = s.rnd q) ∧
    (∀ p ∈ x.reachA, t.w .pos (cellAt r p) 4 = Word.ofNat (dA p)) ∧ (∀ p ∈ x.reachB, t.w .pos (cellAt r p) 5 = Word.ofNat (dB p)) ∧
    ∀ f i j, f ≠ .pos → t.w f i j = s.w f i j := by
  intro t x dA dB
  obtain ⟨a1, a2, a3, a4, a5⟩ := forL_sendDelay_leaves x.reachA s r .a dA
  have ht : t = forL x.reachB (fun p u => u.sendDelay r .b dB p) (forL x.reachA (fun p u => u.sendDelay r .a dA p) s) := rfl
  rw [ht]
  generalize forL x.reachA (fun p u => u.sendDelay r .a dA p) s = u at *
  obtain ⟨b1, b2, b3, b4, b5⟩ := forL_sendDelay_leaves x.reachB u r .b dB
  generalize forL x.reachB (fun p u => u.sendDelay r .b dB p) u = v at *
  refine ⟨a1.trans b1, ⟨_, b2.trans (by rw [a2]), fun p hp => ?_, fun p hp => ?_⟩, fun q hq => (b3 q hq).trans (a3 q hq), fun p hp => ?_, b4,
    fun f i j hf => ?_⟩
  · exact List.mem_append_left _ (List.mem_append_right _ (List.mem_map.2 ⟨p, hp, rfl⟩))
  · exact List.mem_append_right _ (List.mem_map.2 ⟨p, hp, rfl⟩)
  · rw [b5 _ _ _ (by simp [cumIx])]
    exact a4 p hp
  · rw [b5 _ _ _ (fun h => hf h.1), a5 _ _ _ (fun h => hf h.1)]

end Sys2Proof.Machine
end

section
/-!
SUPPORT. Proofs/LinkupRanges.lean: the ranges and the break after step 2 of link-up (section 3.6).
-/
namespace Sys2Proof.Machine

/-! ## Balanced ranges depend on the delays and the locks only -/

theorem State.balanced_of_pos {s t : State} {r : Nat} (h : ∀ p j, j = 4 ∨ j = 5 → t.w .pos (cellAt r p) j = s.w .pos (cellAt r p) j)
    (ps : List Nat) (a b : Bool) : t.balanced r ps a b = s.balanced r ps a b := by
  have hc : t.splitCost r = s.splitCost r := funext fun ps => funext fun p => by
    rw [State.splitCost, State.splitCost, State.oneWay_of_pos h, State.oneWay_of_pos h]
  have hs : t.splitAt r ps = s.splitAt r ps := by rw [State.splitAt, State.splitAt, hc]
  rw [State.balanced, State.balanced, hs]

theorem State.endOk2_of {s t : State} {r : Nat} (hd : t.dev = s.dev) (hh : t.hw = s.hw) (hp : t.pair = s.pair)
    (hr : t.n .pairRole = s.n .pairRole) (ha : (t.rnd r).lockA = (s.rnd r).lockA) (hb : (t.rnd r).lockB = (s.rnd r).lockB) (e : End) :
    t.endOk2 r e = s.endOk2 r e := by
  cases e
  · simp only [State.endOk2, State.endHere, State.ownEnd, hd, hh, hp, hr, ha]
  · simp only [State.endOk2, State.endHere, State.ownEnd, hd, hh, hp, hr, hb]

/-- The ranges that the present delays and ends give a round. -/
def State.balancedNow (s : State) (r : Nat) : Option (Nat × Nat) × Option (Nat × Nat) :=
  s.balanced r (s.present r) (s.endOk2 r .a) (s.endOk2 r .b)

theorem State.balancedNow_of {s t : State} {r : Nat} (h : RoundsOnly s t) (hw : ∀ f i j, ¬rangePoint r ⟨f, i, j⟩ → t.w f i j = s.w f i j)
    (ha : (t.rnd r).lockA = (s.rnd r).lockA) (hb : (t.rnd r).lockB = (s.rnd r).lockB) : t.balancedNow r = s.balancedNow r := by
  obtain ⟨hd, hh, hp, -, -⟩ := h.ends
  have hpos : ∀ p j, j ≠ 6 → t.w .pos (cellAt r p) j = s.w .pos (cellAt r p) j := fun p j hj => hw _ _ _ (by simp [rangePoint, hj])
  have hrole : t.n .pairRole = s.n .pairRole := congrArg BitVec.toNat (hw _ _ _ (by simp [rangePoint]))
  unfold State.balancedNow
  rw [State.balanced_of_pos fun p j hj => hpos p j (by omega), State.present_of_pos fun p => hpos p 0 (by decide),
    State.endOk2_of hd hh hp hrole ha hb, State.endOk2_of hd hh hp hrole ha hb]

theorem State.rebalance_eq (s : State) (r : Nat) : s.rebalance r = s.setRanges r (s.balancedNow r) := rfl

/-- What the ranges of a round write. -/
def rangeFields : List Field := [.pos, .rndEnds, .rndTurn, .rndDelayANs, .rndDelayBNs, .rndDelayNs, .rndBreaks]

theorem rangePoint_field {r : Nat} {q : Pt} (h : rangePoint r q) : q.f ∈ rangeFields := by
  rcases h with ⟨-, h⟩ | ⟨h, -⟩
  · simp only [List.mem_cons, List.not_mem_nil, or_false] at h
    rcases h with h | h | h | h | h <;> rw [h] <;> decide
  · rw [h]; decide

/-- What the ranges that are set after step 2 leave: `u`, the state before them. -/
structure RangesAfter (s u t : State) (r : Nat) : Prop where
  rest : t.rest = (u.withRnds t.rnds).rest
  others : ∀ q, q ≠ r → t.rnd q = u.rnd q
  step : (t.rnd r).step = (u.rnd r).step
  dirq : (t.rnd r).dirq = (u.rnd r).dirq
  cum : ∀ p j, j = 4 ∨ j = 5 → t.w .pos (cellAt r p) j = u.w .pos (cellAt r p) j
  points : QuietFields u t rangeFields
  segment : (s.rnd r).seg.isSome = true → (t.rnd r).rangeA = (u.rnd r).rangeA ∧ (t.rnd r).rangeB = (u.rnd r).rangeB
  whole : (s.rnd r).seg = none → (s.rnd r).through = true → ((t.rnd r).rangeA, (t.rnd r).rangeB) = t.balancedNow r
  split : (s.rnd r).seg = none → (s.rnd r).through = false → Raised u t 0x0101 kRound r ∧ (t.rnd r).broken = true ∧
    t.w .rndBreaks r 0 = Word.ofNat (u.n .rndBreaks r + 1)

theorem State.brokenAtLinkup_leaves (s : State) (r : Nat) (g : Option (Nat × Nat) × Option (Nat × Nat)) : let t := s.brokenAtLinkup r g
    RoundsOnly s t ∧ (∀ q, q ≠ r → t.rnd q = s.rnd q) ∧ t.rnd r = { s.rnd r with rangeA := g.1, rangeB := g.2, broken := true, calm := 0 } ∧
    (∀ f i j, ¬rangePoint r ⟨f, i, j⟩ → f ≠ .rndBreaks → t.w f i j = s.w f i j) ∧
    t.w .rndBreaks r 0 = Word.ofNat (s.n .rndBreaks r + 1) := by
  unfold State.brokenAtLinkup
  obtain ⟨o1, r1, oth, -, w1⟩ := s.setRanges_leaves r g
  generalize s.setRanges r g = u at *
  have hb : u.n .rndBreaks r = s.n .rndBreaks r := congrArg BitVec.toNat (w1 _ _ _ (by simp [rangePoint]))
  have hi : (u.inc .rndBreaks r).w .rndBreaks r 0 = Word.ofNat (s.n .rndBreaks r + 1) := by rw [← hb]; exact u.w_put_same _ _ _ _
  have hw : ∀ f i j, f ≠ .rndBreaks → (u.inc .rndBreaks r).w f i j = u.w f i j := fun f i j hf => u.w_put_field _ hf
  have ho : RoundsOnly u (u.inc .rndBreaks r) := RoundsOnly.putN u .rndBreaks r _ 0
  have hr : ∀ q, (u.inc .rndBreaks r).rnd q = u.rnd q := fun _ => rfl
  generalize u.inc .rndBreaks r = v at *
  have hv := v.rnd_putRnd_same r { v.rnd r with broken := true, calm := 0 }
  refine ⟨(o1.trans ho).trans (RoundsOnly.putRnd v r _), fun q hq => ?_, ?_, fun f i j h hf => ?_, hi⟩
  · exact (v.rnd_putRnd_ne _ hq).trans ((hr q).trans (oth q hq))
  · refine hv.trans ?_
    rw [hr r, r1]
  · exact (hw f i j hf).trans (w1 f i j h)

theorem State.endDelay_after (s : State) (r : Nat) : RangesAfter s (s.delaysSent r) (s.endDelay r) r := by
  rcases s.endDelay_eq r with ⟨h, hs⟩ | ⟨h, hs, ht⟩ | ⟨g, p, h, hs, ht⟩
  · rw [h]
    generalize s.delaysSent r = u
    exact ⟨rfl, fun _ _ => rfl, rfl, rfl, fun _ _ _ => rfl, QuietFields.refl _ _, fun _ => ⟨rfl, rfl⟩,
      fun hn => by simp [hn] at hs, fun hn => by simp [hn] at hs⟩
  · rw [h, State.rebalance_eq]
    generalize s.delaysSent r = u
    obtain ⟨o1, r1, oth, -, w1⟩ := u.setRanges_leaves r (u.balancedNow r)
    generalize hg : u.balancedNow r = g at *
    generalize u.setRanges r g = t at *
    have hbal := State.balancedNow_of o1 w1 (by rw [r1]) (by rw [r1])
    refine ⟨o1.rest, oth, by rw [r1], by rw [r1], fun p j hj => w1 _ _ _ (by simp [rangePoint]; omega),
      fun f i j hf _ => w1 f i j fun hx => hf (rangePoint_field hx), fun hn => by simp [hs] at hn, fun _ _ => ?_,
      fun _ hf => absurd (ht.symm.trans hf) (by decide)⟩
    rw [hbal, hg, r1]
  · rw [h]
    generalize s.delaysSent r = u
    obtain ⟨o1, oth, r1, w1, wb⟩ := u.brokenAtLinkup_leaves r g
    generalize u.brokenAtLinkup r g = v at *
    have hq := v.raise_quiet 0x0101 kRound r p
    have hraised : Raised u (v.raise 0x0101 kRound r p) 0x0101 kRound r := State.raise_raised _ _ _ _ _ o1.so
    generalize v.raise 0x0101 kRound r p = t at *
    have hr := State.rnd_of_quiet hq
    refine ⟨o1.rest_quiet hq, fun q hne => (hr q).trans (oth q hne), by rw [hr, r1], by rw [hr, r1], fun p j hj => ?_, fun f i j hf hrep => ?_,
      fun hn => by simp [hs] at hn, fun _ hf => absurd (ht.symm.trans hf) (by decide), fun _ _ => ⟨hraised, by rw [hr, r1], ?_⟩⟩
    · rw [State.w_of_quiet hq _ _ _ rfl]
      exact w1 _ _ _ (by simp [rangePoint]; omega) (by decide)
    · rw [State.w_of_quiet hq _ _ _ hrep]
      exact w1 f i j (fun hx => hf (rangePoint_field hx)) (fun hx => hf (by rw [hx]; decide))
    · rw [State.w_of_quiet hq _ _ _ rfl]
      exact wb

end Sys2Proof.Machine
end

section
/-!
SUPPORT. Proofs/LinkupClass.lean: the end of step 4 of link-up: classes, assignments and carriers (section 3.6).
-/
namespace Sys2Proof.Machine

/-! ## What the queue of a round gains -/

/-- Only a round's queued directives and accepted cells have grown, and reports were made. -/
structure LinkGrown (r : Nat) (s t : State) : Prop where
  rest : t.rest = (s.withRnds t.rnds).rest
  others : ∀ q, q ≠ r → t.rnd q = s.rnd q
  own : ∃ d a, t.rnd r = { s.rnd r with dirq := (s.rnd r).dirq ++ d, accepted := (s.rnd r).accepted ++ a }
  points : QuietPoints s t []

section
variable {r : Nat} {s t u : State}

theorem LinkGrown.refl (r : Nat) (s : State) : LinkGrown r s s := ⟨rfl, fun _ _ => rfl, ⟨[], [], by simp⟩, QuietPoints.refl _ _⟩

theorem LinkGrown.of_quiet (r : Nat) (h : t.quiet = s.quiet) : LinkGrown r s t :=
  ⟨by rw [State.rest_of_quiet h, State.rnds_of_quiet h]; rfl, fun q _ => State.rnd_of_quiet h q, ⟨[], [], by rw [State.rnd_of_quiet h]; simp⟩,
    QuietPoints.of_quiet h⟩

theorem rest_withRnds_again (h : t.rest = (s.withRnds t.rnds).rest) (b : Tab Rnd) : (t.withRnds b).rest = (s.withRnds b).rest :=
  (congrArg (fun x : State => x.withRnds b) h :)

theorem LinkGrown.trans (h : LinkGrown r s t) (k : LinkGrown r t u) : LinkGrown r s u := by
  obtain ⟨d, a, hr⟩ := h.own
  obtain ⟨e, b, kr⟩ := k.own
  refine ⟨k.rest.trans (rest_withRnds_again h.rest _), fun q hq => (k.others q hq).trans (h.others q hq), ⟨d ++ e, a ++ b, ?_⟩,
    (h.points.trans k.points).mono (by simp)⟩
  rw [kr, hr, List.append_assoc, List.append_assoc]

theorem LinkGrown.dirq (h : LinkGrown r s t) {x : DirEntry} (hx : x ∈ (s.rnd r).dirq) : x ∈ (t.rnd r).dirq := by
  obtain ⟨d, a, hr⟩ := h.own
  rw [hr]
  exact List.mem_append_left _ hx

theorem LinkGrown.accepted (h : LinkGrown r s t) {p : Nat} (hp : p ∈ (s.rnd r).accepted) : p ∈ (t.rnd r).accepted := by
  obtain ⟨d, a, hr⟩ := h.own
  rw [hr]
  exact List.mem_append_left _ hp

theorem LinkGrown.plant (h : LinkGrown r s t) : t.plant = s.plant := (congrArg State.plant h.rest :)

theorem LinkGrown.clk (h : LinkGrown r s t) : t.clk = s.clk := (congrArg State.clk h.rest :)

theorem LinkGrown.n (h : LinkGrown r s t) (f : Field) (i j : Nat) (hf : fieldReports f = false) : t.n f i j = s.n f i j :=
  congrArg BitVec.toNat (h.points f i j (by simp) hf)

theorem LinkGrown.raise (r : Nat) (s : State) (a k i p : Nat) : LinkGrown r s (s.raise a k i p) := .of_quiet r (s.raise_quiet a k i p)

theorem LinkGrown.direct (s : State) (p : Option Nat) (d : Directive) : LinkGrown r s (s.direct r p d) := by
  obtain ⟨h1, h2, h3, -⟩ := s.direct_leaves r p d
  exact ⟨h1.rest, h3, ⟨[⟨p, d⟩], [], by rw [h2]; simp⟩, fun _ _ _ _ _ => rfl⟩

theorem LinkGrown.accept (s : State) (p : Nat) : LinkGrown r s (s.putRnd r { s.rnd r with accepted := (s.rnd r).accepted ++ [p] }) :=
  ⟨rfl, fun _ hq => s.rnd_putRnd_ne _ hq, ⟨[], [p], by rw [s.rnd_putRnd_same]; simp⟩, fun _ _ _ _ _ => rfl⟩

theorem LinkGrown.forL {α : Type} (l : List α) (f : α → State → State) (s : State) (h : ∀ a ∈ l, ∀ t, LinkGrown r t (f a t)) :
    LinkGrown r s (forL l f s) :=
  forL_holds (LinkGrown r s) l f s (fun a ha t ht => ht.trans (h a ha t)) (.refl r s)

end

theorem State.direct_mem (s : State) (r : Nat) (p : Option Nat) (d : Directive) : (⟨p, d⟩ : DirEntry) ∈ ((s.direct r p d).rnd r).dirq := by
  rw [(s.direct_leaves r p d).2.1]
  simp

/-! ## One cell (R12, R94) -/

/-- A cell that fits is assigned. -/
def State.assignCell (s : State) (r p slot idx coast : Nat) : State :=
  let u := (s.direct r (some p) (.assign slot idx)).direct r (some p) (.coast coast)
  u.putRnd r { u.rnd r with accepted := (u.rnd r).accepted ++ [p] }

theorem State.assignCell_leaves (s : State) (r p slot idx coast : Nat) : let t := s.assignCell r p slot idx coast
    LinkGrown r s t ∧ p ∈ (t.rnd r).accepted ∧ (⟨some p, .assign slot idx⟩ : DirEntry) ∈ (t.rnd r).dirq ∧
    (⟨some p, .coast coast⟩ : DirEntry) ∈ (t.rnd r).dirq := by
  unfold State.assignCell
  have h1 := LinkGrown.direct (r := r) s (some p) (.assign slot idx)
  have m1 := s.direct_mem r (some p) (.assign slot idx)
  generalize s.direct r (some p) (.assign slot idx) = u at *
  have h2 := LinkGrown.direct (r := r) u (some p) (.coast coast)
  have m2 := u.direct_mem r (some p) (.coast coast)
  generalize u.direct r (some p) (.coast coast) = v at *
  have h3 := LinkGrown.accept (r := r) v p
  refine ⟨(h1.trans h2).trans h3, ?_, h3.dirq (h2.dirq m1), h3.dirq m2⟩
  rw [v.rnd_putRnd_same]
  simp

theorem State.compareCell_eq (s : State) (r p : Nat) : s.compareCell r p =
    if s.n .pos (cellAt r p) 1 = 0 then s
    else match s.posDesc r p, s.armAt r p with
      | some d, some a =>
        if s.classBad r p d a then (s.direct r (some p) (.gates false)).raise 0x0271 kCell (cellAt r p) 0
        else s.assignCell r p (s.armSlot a) (s.localIdx a p) (s.n .rndCoastLimit r)
      | _, _ => (s.direct r (some p) (.assign 0xFF 0)).direct r (some p) (.coast (s.n .rndCoastLimit r)) := by
  unfold State.compareCell State.assignCell
  rfl

theorem State.compareCell_grown (s : State) (r p : Nat) : LinkGrown r s (s.compareCell r p) := by
  rw [s.compareCell_eq r p]
  split
  · exact .refl r s
  · split
    · split
      · exact (LinkGrown.direct s _ _).trans (.raise r _ _ _ _ _)
      · exact (s.assignCell_leaves r p _ _ _).1
    · exact (LinkGrown.direct s _ _).trans (.direct _ _ _)

/-- What step 4 gives a cell. -/
def CellJudged (s t : State) (r p : Nat) (d : PosDesc) (a : ArmDesc) : Prop :=
  (s.classBad r p d a = true → (⟨some p, .gates false⟩ : DirEntry) ∈ (t.rnd r).dirq) ∧
  (s.classBad r p d a = false → p ∈ (t.rnd r).accepted ∧ (⟨some p, .assign (s.armSlot a) (s.localIdx a p)⟩ : DirEntry) ∈ (t.rnd r).dirq ∧
    (⟨some p, .coast (s.n .rndCoastLimit r)⟩ : DirEntry) ∈ (t.rnd r).dirq)

theorem CellJudged.grown {s t u : State} {r p : Nat} {d : PosDesc} {a : ArmDesc} (h : CellJudged s t r p d a) (k : LinkGrown r t u) :
    CellJudged s u r p d a :=
  ⟨fun hb => k.dirq (h.1 hb), fun hb => ⟨k.accepted (h.2 hb).1, k.dirq (h.2 hb).2.1, k.dirq (h.2 hb).2.2⟩⟩

theorem State.compareCell_judges (s : State) (r p : Nat) (d : PosDesc) (a : ArmDesc) (h1 : s.n .pos (cellAt r p) 1 ≠ 0)
    (hd : s.posDesc r p = some d) (ha : s.armAt r p = some a) : CellJudged s (s.compareCell r p) r p d a := by
  rw [s.compareCell_eq r p, if_neg h1, hd, ha]
  dsimp only
  by_cases hb : s.classBad r p d a = true
  · rw [if_pos hb]
    exact ⟨fun _ => (LinkGrown.raise r _ _ _ _ _).dirq (s.direct_mem r _ _), fun h => absurd (hb.symm.trans h) (by decide)⟩
  · rw [if_neg hb]
    exact ⟨fun h => absurd h hb, fun _ => (s.assignCell_leaves r p _ _ _).2⟩

/-- A cell is judged by what the beginning of the step held. -/
theorem CellJudged.of_grown {s t u : State} {r p : Nat} {d : PosDesc} {a : ArmDesc} (h : CellJudged t u r p d a) (k : LinkGrown r s t) :
    CellJudged s u r p d a := by
  have hb : t.classBad r p d a = s.classBad r p d a := by
    unfold State.classBad
    rw [k.n .armCarrierCode _ _ rfl, k.n .cell _ 0 rfl, k.n .cell _ 9 rfl, State.te, State.te, k.clk]
  have hs : t.armSlot a = s.armSlot a := by simp only [State.armSlot, State.roundArms, k.plant]
  have hl : t.localIdx a p = s.localIdx a p := by simp only [State.localIdx, State.armPositions, k.plant]
  unfold CellJudged at h
  rw [hb, hs, hl, k.n .rndCoastLimit _ _ rfl] at h
  exact h

theorem forL_compareCell_judges (l : List Nat) (s : State) (r p : Nat) (d : PosDesc) (a : ArmDesc) (hp : p ∈ l)
    (h1 : s.n .pos (cellAt r p) 1 ≠ 0) (hd : s.posDesc r p = some d) (ha : s.armAt r p = some a) :
    CellJudged s (forL l (fun p t => t.compareCell r p) s) r p d a := by
  refine forL_settles (LinkGrown r s) (fun t => CellJudged s t r p d a) hp (.refl r s) (fun q t _ ht => ht.trans (t.compareCell_grown r q))
    (fun q t _ ht => ht.grown (t.compareCell_grown r q)) (fun t ht => ?_) (fun t ht => ht.grown (t.compareCell_grown r p))
  have hpos : t.posDesc r p = s.posDesc r p := by simp only [State.posDesc, ht.plant]
  have harm : t.armAt r p = s.armAt r p := by simp only [State.armAt, State.posDesc, ht.plant]
  refine (t.compareCell_judges r p d a ?_ (hpos.trans hd) (harm.trans ha)).of_grown ht
  rw [ht.n .pos _ _ rfl]
  exact h1

/-! ## The step (R94, R153) -/

theorem mem_sortBy {α : Type} {le : α → α → Bool} {x : α} {l : List α} (h : x ∈ sortBy le l) : x ∈ l := by
  induction l with
  | nil => exact h
  | cons y l ih =>
    rcases (mem_insertBy _ _ _ _).1 h with rfl | h
    · exact List.mem_cons_self ..
    · exact List.mem_cons_of_mem _ (ih h)

theorem State.roundArms_round (s : State) {r : Nat} {a : ArmDesc} (h : a ∈ s.roundArms r) : a.round = r := by
  have := mem_sortBy h
  simpa using (List.mem_filter.1 this).2

/-- What the end of step 4 leaves. -/
theorem State.endClass_leaves (s : State) (r : Nat) : LinkGrown r s (s.endClass r) ∧
    ∀ p ∈ (s.rnd r).reached, s.n .pos (cellAt r p) 1 ≠ 0 → ∀ d a, s.posDesc r p = some d → s.armAt r p = some a →
      CellJudged s (s.endClass r) r p d a := by
  unfold State.endClass
  extract_lets x gone s1 s2
  have h1 : LinkGrown r s s1 := .forL _ _ _ fun p _ t => .raise r t _ _ _ _
  have h2 : LinkGrown r s1 s2 := .forL _ _ _ fun p _ t => t.compareCell_grown r p
  have h3 : LinkGrown r s2 (forL (s2.roundArms r) (fun a t =>
      let ps := (t.armPositions a).filter (fun p => (t.rnd r).accepted.contains p)
      forL (t.carrierPlan a ps) (fun e u => if x.reached.contains e.1 then u.sendCarrier a e.1 e.2 else u) t) s2) :=
    .forL _ _ _ fun a ha t => .forL _ _ _ fun e _ u => by
      split
      · rw [State.sendCarrier, s2.roundArms_round ha]
        exact .direct _ _ _
      · exact .refl r u
  refine ⟨(h1.trans h2).trans h3, fun p hp hn d a hd ha => CellJudged.grown ?_ h3⟩
  have hpos : s1.posDesc r p = s.posDesc r p := by simp only [State.posDesc, h1.plant]
  have harm : s1.armAt r p = s.armAt r p := by simp only [State.armAt, State.posDesc, h1.plant]
  refine (forL_compareCell_judges _ s1 r p d a hp ?_ (hpos.trans hd) (harm.trans ha)).of_grown h1
  rw [h1.n .pos _ _ rfl]
  exact hn

end Sys2Proof.Machine
end

section
/-!
SUPPORT. Proofs/LinkupFailures.lean: the end of a step of link-up, its failure, and cells that do not charge in time (sections 3.6, 3.9).
-/
namespace Sys2Proof.Machine

/-! ## An empty directory (R106, R307) -/

/-- One position of the directory is emptied. -/
def State.clearPlace (s : State) (r p : Nat) : State :=
  let a := cellAt r p
  let t1 := (((s.putCellState r p 0).putN .pos a 0 1).putN .pos a 0 2).putN .pos a ((((s.posDesc r p).bind (·.arm)).getD 0xFFFFFFFF)) 3
  ((((t1.putN .pos a 0 4).putN .pos a 0 5).putN .pos a 0 6).putN .pos a 0 7).putN .cell a 0 0x0F

theorem State.clearDirectory_eq (s : State) (r : Nat) : s.clearDirectory r = forN 256 (fun p t => t.clearPlace r p) s :=
  congrArg (fun f => forN 256 f s) (funext fun _ => funext fun _ => rfl)

theorem State.clearPlace_rounds (s : State) (r p : Nat) : RoundsOnly s (s.clearPlace r p) :=
  (RoundsOnly.putN s _ _ _ _).trans <| (RoundsOnly.putN _ _ _ _ _).trans <| (RoundsOnly.putN _ _ _ _ _).trans <|
    (RoundsOnly.putN _ _ _ _ _).trans <| (RoundsOnly.putN _ _ _ _ _).trans <| (RoundsOnly.putN _ _ _ _ _).trans <|
    (RoundsOnly.putN _ _ _ _ _).trans <| (RoundsOnly.putN _ _ _ _ _).trans <| (RoundsOnly.putN _ _ _ _ _).trans (RoundsOnly.putN _ _ _ _ _)

theorem State.clearPlace_rnds (s : State) (r p : Nat) : (s.clearPlace r p).rnds = s.rnds := by
  unfold State.clearPlace State.putCellState
  rfl

theorem State.clearPlace_state (s : State) (r p q : Nat) :
    (s.clearPlace r p).n .pos (cellAt r q) 0 = (s.putN .pos (cellAt r p) 0 0).n .pos (cellAt r q) 0 := by
  have hput : ∀ (u : State) (v j : Nat), j ≠ 0 → (u.putN .pos (cellAt r p) v j).n .pos (cellAt r q) 0 = u.n .pos (cellAt r q) 0 :=
    fun u v j hj => congrArg BitVec.toNat (u.w_put_ne _ (by simp [hj.symm]))
  have hcell : ∀ (u : State) (v j : Nat), (u.putN .cell (cellAt r p) v j).n .pos (cellAt r q) 0 = u.n .pos (cellAt r q) 0 :=
    fun u v j => State.n_putN_field _ (by decide)
  unfold State.clearPlace State.putCellState
  dsimp only
  rw [hcell, hput _ _ 7 (by decide), hput _ _ 6 (by decide), hput _ _ 5 (by decide), hput _ _ 4 (by decide), hput _ _ 3 (by decide),
    hput _ _ 2 (by decide), hput _ _ 1 (by decide), hcell]

theorem State.clearPlace_field (s : State) (r p : Nat) {f : Field} (hp : f ≠ .pos) (hc : f ≠ .cell) (i j : Nat) :
    (s.clearPlace r p).w f i j = s.w f i j := by
  unfold State.clearPlace State.putCellState
  dsimp only
  simp only [State.w_putN_field _ hp, State.w_putN_field _ hc]

theorem State.clearPlace_leaves (s : State) (r p : Nat) : let t := s.clearPlace r p
    RoundsOnly s t ∧ t.rnds = s.rnds ∧ t.n .pos (cellAt r p) 0 = 0 ∧ (∀ q, q ≠ p → t.n .pos (cellAt r q) 0 = s.n .pos (cellAt r q) 0) ∧
    ∀ f i j, f ≠ .pos → f ≠ .cell → t.w f i j = s.w f i j := by
  refine ⟨s.clearPlace_rounds r p, s.clearPlace_rnds r p, (s.clearPlace_state r p p).trans (s.n_putN_same _ _ _ _ (by decide)), fun q hq => ?_,
    fun f i j hp hc => s.clearPlace_field r p hp hc i j⟩
  exact (s.clearPlace_state r p q).trans (congrArg BitVec.toNat (s.w_put_ne _ (by simpa using fun h => hq (cellAt_inj h))))

theorem forN_clearPlace_leaves (n : Nat) (s : State) (r : Nat) : let t := forN n (fun p t => t.clearPlace r p) s
    RoundsOnly s t ∧ t.rnds = s.rnds ∧ (∀ p, p < n → t.n .pos (cellAt r p) 0 = 0) ∧ ∀ f i j, f ≠ .pos → f ≠ .cell → t.w f i j = s.w f i j := by
  induction n with
  | zero => exact ⟨.refl s, rfl, fun p hp => absurd hp (by omega), fun _ _ _ _ _ => rfl⟩
  | succ n ih =>
    obtain ⟨a1, a2, a3, a4⟩ := ih
    rw [show forN (n + 1) (fun p t => t.clearPlace r p) s = (forN n (fun p t => t.clearPlace r p) s).clearPlace r n from rfl]
    generalize forN n (fun p t => t.clearPlace r p) s = u at *
    obtain ⟨b1, b2, b3, b4, b5⟩ := u.clearPlace_leaves r n
    refine ⟨a1.trans b1, b2.trans a2, fun p hp => ?_, fun f i j h1 h2 => (b5 f i j h1 h2).trans (a4 f i j h1 h2)⟩
    by_cases hn : p = n
    · rw [hn]; exact b3
    · exact (b4 p hn).trans (a3 p (by omega))

theorem State.clearDirectory_leaves (s : State) (r : Nat) : let t := s.clearDirectory r
    RoundsOnly s t ∧ t.rnds = s.rnds ∧ (∀ p, p < 256 → t.n .pos (cellAt r p) 0 = 0) ∧ ∀ f i j, f ≠ .pos → f ≠ .cell → t.w f i j = s.w f i j := by
  rw [s.clearDirectory_eq]
  exact forN_clearPlace_leaves 256 s r

/-! ## Failure (R91, R307) -/

/-- Round `r` stops with its record `x`. -/
def State.stopRound (u : State) (r : Nat) (x : Rnd) : State := (u.putRnd r x).putN .rndState r 7

theorem State.stopRound_leaves (u : State) (r : Nat) (x : Rnd) : let t := u.stopRound r x
    RoundsOnly u t ∧ (∀ q, q ≠ r → t.rnd q = u.rnd q) ∧ t.rnd r = x ∧ t.n .rndState r = 7 ∧
    ∀ f i j, f ≠ .rndState → t.w f i j = u.w f i j :=
  ⟨(RoundsOnly.putRnd u r x).trans (.putN _ _ _ _ _), fun _ hq => u.rnd_putRnd_ne _ hq, u.rnd_putRnd_same r x,
    State.n_putN_same _ _ _ _ _ (by decide), fun _ _ _ hf => State.w_putN_field _ hf⟩

/-- The record of a round whose link-up failed, but for its ranges. -/
def Rnd.failed (x : Rnd) : Rnd := { x with step := 0, seg := none, waits := false, dirq := [] }

/-- The round stops, before its ranges are taken away. -/
def State.linkupStopped (s : State) (r : Nat) : State := (s.clearDirectory r).stopRound r (s.rnd r).failed

theorem State.linkupStopped_leaves (s : State) (r : Nat) : let t := s.linkupStopped r
    RoundsOnly s t ∧ (∀ q, q ≠ r → t.rnd q = s.rnd q) ∧ t.rnd r = (s.rnd r).failed ∧
    t.n .rndState r = 7 ∧ (∀ p, p < 256 → t.n .pos (cellAt r p) 0 = 0) ∧
    ∀ f i j, f ≠ .pos → f ≠ .cell → f ≠ .rndState → t.w f i j = s.w f i j := by
  unfold State.linkupStopped
  obtain ⟨a1, a2, a3, a4⟩ := s.clearDirectory_leaves r
  generalize s.clearDirectory r = u at *
  have hr : ∀ q, u.rnd q = s.rnd q := fun q => by rw [State.rnd, State.rnd, a2]
  obtain ⟨b1, bo, br, b7, bw⟩ := u.stopRound_leaves r (s.rnd r).failed
  exact ⟨a1.trans b1, fun q hq => (bo q hq).trans (hr q), br, b7,
    fun p hp => (congrArg BitVec.toNat (bw _ _ _ (by decide))).trans (a3 p hp), fun f i j h1 h2 h3 => (bw f i j h3).trans (a4 f i j h1 h2)⟩

theorem roundLinkupFail_fails (r : RoundNo) (s : State) (h1 : 1 ≤ (s.rnd r).step) (h4 : (s.rnd r).step ≤ 4) (hw : (s.rnd r).waits = false)
    (ht : (s.rnd r).stepAt + 100000000 ≤ s.now) (hd : s.linkupDone r = false) : Yields (exec (.roundLinkupFail r) s) fun t =>
      t.n .rndState r = 7 ∧ (t.rnd r).step = 0 ∧ (t.rnd r).seg = none ∧ (t.rnd r).rangeA = none ∧ (t.rnd r).rangeB = none ∧
      (t.rnd r).dirq = [] ∧ t.n .rndEnds r = 0 ∧ (∀ p, p < 256 → t.n .pos (cellAt r p) 0 = 0) ∧ Raised s t 0x0106 kRound r ∧
      (t.rest = (s.withRnds t.rnds).rest ∧ ∀ q, q ≠ r.val → t.rnd q = s.rnd q) ∧
      QuietFields s t [.rndState, .pos, .cell, .rndEnds, .rndTurn, .rndDelayANs, .rndDelayBNs, .rndDelayNs] := by
  have hx : exec (.roundLinkupFail r) s = .next (((s.linkupStopped r).setRanges r (none, none)).raise 0x0106 kRound r (s.rnd r).step) :=
    congrArg Host.Outcome.next (if_pos ⟨h1, h4, hw, ht, hd⟩)
  obtain ⟨a1, ao, ar, a7, apos, aw⟩ := s.linkupStopped_leaves r
  rw [hx]
  generalize s.linkupStopped r = u at *
  obtain ⟨b1, br, bo, ⟨-, -, bends, -⟩, bw⟩ := u.setRanges_leaves r (none, none)
  generalize u.setRanges r (none, none) = v at *
  have hq := v.raise_quiet 0x0106 kRound r (s.rnd r).step
  have hraised : Raised s (v.raise 0x0106 kRound r (s.rnd r).step) 0x0106 kRound r := State.raise_raised _ _ _ _ _ (a1.trans b1).so
  generalize v.raise 0x0106 kRound r (s.rnd r).step = t at *
  have hr : t.rnd r = { u.rnd r with rangeA := none, rangeB := none } := (State.rnd_of_quiet hq r).trans br
  have hn : ∀ f i j, fieldReports f = false → ¬rangePoint r ⟨f, i, j⟩ → t.n f i j = u.n f i j := fun f i j hf h =>
    (State.n_of_quiet hq f i j hf).trans (congrArg BitVec.toNat (bw f i j h))
  refine yields_next ⟨(hn _ _ _ rfl (by simp [rangePoint])).trans a7, by rw [hr, ar]; rfl, by rw [hr, ar]; rfl, by rw [hr], by rw [hr], by rw [hr, ar]; rfl,
    (State.n_of_quiet hq _ _ _ rfl).trans bends, fun p hp => (hn _ _ _ rfl (by simp [rangePoint])).trans (apos p hp), hraised,
    ⟨(a1.trans b1).rest_quiet hq, fun q hne => (State.rnd_of_quiet hq q).trans ((bo q hne).trans (ao q hne))⟩, fun f i j hf hrep => ?_⟩
  simp only [List.mem_cons, List.not_mem_nil, or_false, not_or] at hf
  rw [State.w_of_quiet hq _ _ _ hrep, bw f i j (by simp [rangePoint]; tauto), aw f i j (by tauto) (by tauto) (by tauto)]

/-! ## The next step (R91) -/

/-- The step is over, and the next one waits for the boundary. -/
def State.stepOver (s : State) (r : Nat) : State := s.putRnd r { s.rnd r with step := (s.rnd r).step + 1, waits := true }

theorem State.linkupNext_plain (s : State) (r : Nat) (h2 : (s.rnd r).step ≠ 2) (h4 : (s.rnd r).step ≠ 4) : s.linkupNext r = s.stepOver r := by
  unfold State.linkupNext
  dsimp only
  split
  · next h => exact absurd h h2
  · next h => exact absurd h h4
  · rfl

theorem State.linkupNext_delay (s : State) (r : Nat) (h : (s.rnd r).step = 2) : s.linkupNext r = (s.endDelay r).stepOver r := by
  unfold State.linkupNext
  dsimp only
  rw [h]
  rfl

theorem State.linkupNext_class (s : State) (r : Nat) (h : (s.rnd r).step = 4) : s.linkupNext r = (s.endClass r).stepOver r := by
  unfold State.linkupNext
  dsimp only
  rw [h]
  rfl

theorem State.stepOver_leaves (s : State) (r : Nat) : let t := s.stepOver r
    RoundsOnly s t ∧ t.rnd r = { s.rnd r with step := (s.rnd r).step + 1, waits := true } ∧ (∀ q, q ≠ r → t.rnd q = s.rnd q) ∧
    t.pts = s.pts ∧ t.so = s.so ∧ t.rest = (s.withRnds t.rnds).rest ∧ t = s.withRnds t.rnds :=
  ⟨rfl, s.rnd_putRnd_same r _, fun _ hq => s.rnd_putRnd_ne _ hq, rfl, rfl, rfl, rfl⟩

theorem roundChargeTimeout_goesOn (r : RoundNo) (s : State) :
    let late := (s.rnd r).charging.filter (fun p => let st := s.posState r p; !(st == 4 || st == 5 || st == 6))
    (s.rnd r).step = 5 → (s.rnd r).waits = false → (s.rnd r).stepAt + msNs (s.n .rndChargeTimeoutMs r) ≤ s.now → late ≠ [] →
      Yields (exec (.roundChargeTimeout r) s) fun t =>
        (t.rnd r).step = 6 ∧ (t.rnd r).waits = true ∧ (∀ p ∈ late, (⟨some p, .gates false⟩ : DirEntry) ∈ (t.rnd r).dirq) ∧
        Raised s t 0x0107 kRound r ∧ (t.rest = (s.withRnds t.rnds).rest ∧ ∀ q, q ≠ r.val → t.rnd q = s.rnd q) ∧ QuietPoints s t [] := by
  intro late h5 hw ht hl
  let u := forL late (fun p t => t.direct r (some p) (.gates false)) s
  have hx : exec (.roundChargeTimeout r) s = .next ((u.raise 0x0107 kRound r late.length).linkupNext r) :=
    congrArg Host.Outcome.next (if_pos ⟨h5, hw, ht, List.isEmpty_eq_false_iff.2 hl⟩)
  have hu : LinkGrown r s u := .forL _ _ _ fun p _ t => .direct t _ _
  have hso : u.so = s.so := forL_keeps State.so _ _ _ fun _ _ => rfl
  have hmem : ∀ p ∈ late, (⟨some p, .gates false⟩ : DirEntry) ∈ (u.rnd r).dirq := fun p hp =>
    forL_settles (fun _ => True) (fun t => (⟨some p, .gates false⟩ : DirEntry) ∈ (t.rnd r).dirq) hp trivial (fun _ _ _ _ => trivial)
      (fun q t _ h => (LinkGrown.direct t (some q) (.gates false)).dirq h) (fun t _ => t.direct_mem r _ _)
      (fun t h => (LinkGrown.direct t (some p) (.gates false)).dirq h)
  rw [hx]
  clear_value u late
  have hraised : Raised s (u.raise 0x0107 kRound r late.length) 0x0107 kRound r := State.raise_raised _ _ _ _ _ hso
  have hv := hu.trans (.raise r u 0x0107 kRound r late.length)
  have hvm := fun p hp => (LinkGrown.raise r u 0x0107 kRound r late.length).dirq (hmem p hp)
  generalize u.raise 0x0107 kRound r late.length = v at *
  obtain ⟨d, a, hr⟩ := hv.own
  have hstep : (v.rnd r).step = 5 := by rw [hr]; exact h5
  rw [v.linkupNext_plain r (by omega) (by omega)]
  obtain ⟨-, br, bo, bp, bso, brest, -⟩ := v.stepOver_leaves r
  generalize v.stepOver r = t at *
  refine yields_next ⟨by rw [br, hstep], by rw [br], fun p hp => by rw [br]; exact hvm p hp, by rw [Raised, bso]; exact hraised,
    ⟨brest.trans (rest_withRnds_again hv.rest _), fun q hne => (bo q hne).trans (hv.others q hne)⟩, fun f i j hn hf => ?_⟩
  rw [State.w, bp]
  exact hv.points f i j hn hf

/-! ## The end of a step (R91 to R94) -/

/-- What the end of a step of link-up leaves. -/
structure StepEnded (s t : State) (r : Nat) : Prop where
  step : (t.rnd r).step = (s.rnd r).step + 1
  waits : (t.rnd r).waits = true
  rest : t.rest = (s.withRnds t.rnds).rest
  others : ∀ q, q ≠ r → t.rnd q = s.rnd q
  points : QuietFields s t rangeFields

/-- What the end of step 2 leaves, beyond `StepEnded`. -/
structure DelaysEnded (s t : State) (r : Nat) : Prop where
  a : ∀ p ∈ (s.rnd r).reachA, let d := echoDelay (Tab.get (0, 0) (s.rnd r).echoes (p * 2)).2
    t.w .pos (cellAt r p) 4 = Word.ofNat d ∧ (⟨some p, .delay .a d⟩ : DirEntry) ∈ (t.rnd r).dirq
  b : ∀ p ∈ (s.rnd r).reachB, let d := echoDelay (Tab.get (0, 0) (s.rnd r).echoes (p * 2 + 1)).2
    t.w .pos (cellAt r p) 5 = Word.ofNat d ∧ (⟨some p, .delay .b d⟩ : DirEntry) ∈ (t.rnd r).dirq
  segment : (s.rnd r).seg.isSome = true → (t.rnd r).rangeA = (s.rnd r).rangeA ∧ (t.rnd r).rangeB = (s.rnd r).rangeB
  whole : (s.rnd r).seg = none → (s.rnd r).through = true →
    ((t.rnd r).rangeA, (t.rnd r).rangeB) = t.balanced r (t.present r) (t.endOk2 r .a) (t.endOk2 r .b)
  split : (s.rnd r).seg = none → (s.rnd r).through = false → Raised s t 0x0101 kRound r ∧ (t.rnd r).broken = true ∧
    t.w .rndBreaks r 0 = Word.ofNat (s.n .rndBreaks r + 1)

theorem State.linkupNext_plain_ends (s : State) (r : Nat) (h2 : (s.rnd r).step ≠ 2) (h4 : (s.rnd r).step ≠ 4) : let t := s.linkupNext r
    StepEnded s t r ∧ t = s.withRnds t.rnds ∧ (t.rnd r).dirq = (s.rnd r).dirq := by
  rw [s.linkupNext_plain r h2 h4]
  obtain ⟨-, br, bo, bp, -, brest, bt⟩ := s.stepOver_leaves r
  generalize s.stepOver r = t at *
  exact ⟨⟨by rw [br], by rw [br], brest, bo, fun f i j _ _ => by rw [State.w, bp]; rfl⟩, bt, by rw [br]⟩

theorem State.linkupNext_class_ends (s : State) (r : Nat) (h4 : (s.rnd r).step = 4) : let t := s.linkupNext r
    StepEnded s t r ∧ ∀ p ∈ (s.rnd r).reached, s.n .pos (cellAt r p) 1 ≠ 0 → ∀ d a, s.posDesc r p = some d → s.armAt r p = some a →
      CellJudged s t r p d a := by
  rw [s.linkupNext_class r h4]
  obtain ⟨hg, hj⟩ := s.endClass_leaves r
  generalize s.endClass r = u at *
  obtain ⟨-, br, bo, bp, -, brest, -⟩ := u.stepOver_leaves r
  generalize u.stepOver r = t at *
  obtain ⟨d, a, hr⟩ := hg.own
  refine ⟨⟨by rw [br, hr], by rw [br], brest.trans (rest_withRnds_again hg.rest _), fun q hq => (bo q hq).trans (hg.others q hq), ?_⟩,
    fun p hp h1 d a hd ha => ?_⟩
  · intro f i j _ hf
    rw [State.w, bp]
    exact hg.points f i j (by simp) hf
  · have hc := hj p hp h1 d a hd ha
    unfold CellJudged at hc ⊢
    rwa [br]

theorem State.linkupNext_delay_ends (s : State) (r : Nat) (h2 : (s.rnd r).step = 2) : let t := s.linkupNext r
    StepEnded s t r ∧ DelaysEnded s t r := by
  rw [s.linkupNext_delay r h2]
  obtain ⟨a1, ⟨q, ar, qa, qb⟩, ao, wa, wb, aw⟩ := s.delaysSent_leaves r
  obtain ⟨crest, co, cstep, cdirq, ccum, cpts, cseg, cwhole, csplit⟩ := s.endDelay_after r
  generalize s.delaysSent r = u at *
  generalize s.endDelay r = v at *
  obtain ⟨d1, dr, do', dp, dso, drest, -⟩ := v.stepOver_leaves r
  generalize v.stepOver r = t at *
  have hw : ∀ f i j, t.w f i j = v.w f i j := fun f i j => by rw [State.w, State.w, dp]
  have hbreaks : u.n .rndBreaks r = s.n .rndBreaks r := congrArg BitVec.toNat (aw _ _ _ (by decide))
  refine ⟨⟨by rw [dr, cstep, ar], by rw [dr],
      drest.trans (rest_withRnds_again (crest.trans (rest_withRnds_again a1.rest _)) _),
      fun q hq => (do' q hq).trans ((co q hq).trans (ao q hq)), fun f i j hf hrep => ?_⟩,
    ⟨fun p hp => ⟨?_, ?_⟩, fun p hp => ⟨?_, ?_⟩, fun hs => ?_, fun hs ht => ?_, fun hs ht => ?_⟩⟩
  · rw [hw, cpts f i j hf hrep]
    exact aw f i j fun h => hf (h ▸ (by decide))
  · rw [hw, ccum p 4 (.inl rfl), wa p hp]
  · rw [dr, cdirq, ar]
    exact qa p hp
  · rw [hw, ccum p 5 (.inr rfl), wb p hp]
  · rw [dr, cdirq, ar]
    exact qb p hp
  · have := cseg hs
    rw [ar] at this
    rw [dr]
    exact this
  · refine Eq.trans ?_ ((cwhole hs ht).trans (State.balancedNow_of d1 (fun f i j _ => hw f i j) (by rw [dr]) (by rw [dr])).symm)
    rw [dr]
  · obtain ⟨e1, e2, e3⟩ := csplit hs ht
    refine ⟨?_, by rw [dr]; exact e2, by rw [hw, e3, hbreaks]⟩
    rw [Raised, dso]
    exact e1.of_so a1.so

theorem linkupStepComplete_ends (r : RoundNo) (s : State) (hd : s.linkupDone r = true) : Yields (exec (.linkupStepComplete r) s) fun t =>
    StepEnded s t r ∧ ((s.rnd r).step = 1 ∨ (s.rnd r).step = 3 ∨ (s.rnd r).step = 5 → t = s.withRnds t.rnds ∧ (t.rnd r).dirq = (s.rnd r).dirq) ∧
    ((s.rnd r).step = 2 → DelaysEnded s t r) ∧
    ((s.rnd r).step = 4 → ∀ p ∈ (s.rnd r).reached, s.n .pos (cellAt r p) 1 ≠ 0 → ∀ d a, s.posDesc r p = some d → s.armAt r p = some a →
      CellJudged s t r p d a) := by
  have hx : exec (.linkupStepComplete r) s = .next (s.linkupNext r) := congrArg Host.Outcome.next (if_pos hd)
  rw [hx]
  refine yields_next ?_
  by_cases h2 : (s.rnd r).step = 2
  · obtain ⟨e1, e2⟩ := s.linkupNext_delay_ends r h2
    exact ⟨e1, fun h => by omega, fun _ => e2, fun h => by omega⟩
  by_cases h4 : (s.rnd r).step = 4
  · obtain ⟨e1, e2⟩ := s.linkupNext_class_ends r h4
    exact ⟨e1, fun h => by omega, fun h => absurd h h2, fun _ => e2⟩
  · obtain ⟨e1, e2⟩ := s.linkupNext_plain_ends r h2 h4
    exact ⟨e1, fun _ => e2, fun h => absurd h h2, fun h => absurd h h4⟩

/-- Settles O41, command by command. -/
theorem linkupStepsEndOrFail : Obligations.LinkupStepsEndOrFail := by
  unfold Obligations.LinkupStepsEndOrFail
  refine fun r s => ⟨fun hd => ?_, fun h1 h4 hw ht hd => roundLinkupFail_fails r s h1 h4 hw ht hd, roundChargeTimeout_goesOn r s⟩
  obtain ⟨t, ht, he, hplain, hdelay, hclass⟩ := linkupStepComplete_ends r s hd
  exact ⟨t, ht, he.step, he.waits, ⟨he.rest, he.others⟩, hplain, fun h => (hdelay h).a, fun h => (hdelay h).b, fun h => (hdelay h).segment,
    fun h => (hdelay h).whole, fun h => (hdelay h).split, hclass, he.points⟩

end Sys2Proof.Machine
end

section
/-!
SUPPORT. Proofs/SendFrame.lean: what the downstream send of one round leaves aside (section 3.2).
-/
namespace Sys2Proof.Machine

/-! ## The records that a send writes -/

/-- A state with the records that a send writes. -/
def sendParts (x : State) (a : Tab ArmSt) (b : Tab CellSt) (c : List (Pt × Nat)) (d : Nat) (e : Tab Rnd) (f : List FinCpl) : State :=
  (((((x.withArms a).withCells b).withCep c).withFree d).withRnds e).withHost { x.host with fins := f }

/-- A state without them. -/
def sendView (x : State) : State := sendParts x [] [] [] 0 [] []

theorem sendParts_sendView (x : State) (a : Tab ArmSt) (b : Tab CellSt) (c : List (Pt × Nat)) (d : Nat) (e : Tab Rnd) (f : List FinCpl) :
    sendParts (sendView x) a b c d e f = sendParts x a b c d e f := by
  cases x; rfl

theorem sendParts_self (x : State) : sendParts x x.arms x.cells x.cep x.free x.rnds x.host.fins = x := by
  cases x; rfl

theorem sendParts_rest (x : State) (a : Tab ArmSt) (b : Tab CellSt) (c : List (Pt × Nat)) (d : Nat) (e : Tab Rnd) (f : List FinCpl) :
    (sendParts x a b c d e f).rest = sendParts x.rest a b c d e f := by
  cases x; rfl

theorem State.rest_sendParts (t : State) : t.rest.arms = t.arms ∧ t.rest.cells = t.cells ∧ t.rest.cep = t.cep ∧ t.rest.free = t.free ∧
    t.rest.rnds = t.rnds ∧ t.rest.host.fins = t.host.fins :=
  ⟨rfl, rfl, rfl, rfl, rfl, rfl⟩

theorem rest_of_sendView {s t : State} (h : sendView t.rest = sendView s.rest) :
    t.rest = (sendParts s t.arms t.cells t.cep t.free t.rnds t.host.fins).rest := by
  obtain ⟨h1, h2, h3, h4, h5, h6⟩ := t.rest_sendParts
  calc t.rest = sendParts t.rest t.rest.arms t.rest.cells t.rest.cep t.rest.free t.rest.rnds t.rest.host.fins := (sendParts_self _).symm
    _ = sendParts (sendView t.rest) t.arms t.cells t.cep t.free t.rnds t.host.fins := by rw [h1, h2, h3, h4, h5, h6, sendParts_sendView]
    _ = sendParts s.rest t.arms t.cells t.cep t.free t.rnds t.host.fins := by rw [h, sendParts_sendView]
    _ = _ := (sendParts_rest _ _ _ _ _ _ _).symm

/-- What the frames of a round read of the block, beside its record and points. -/
theorem parts_of_sendView {s t : State} (h : sendView t.rest = sendView s.rest) :
    t.clk = s.clk ∧ t.dev = s.dev ∧ t.plant = s.plant ∧ t.hw = s.hw ∧ t.pair = s.pair := by
  have hp : ∀ x : State, ((sendView x.rest).clk, (sendView x.rest).dev, (sendView x.rest).plant, (sendView x.rest).hw, (sendView x.rest).pair) =
      (x.clk, x.dev, x.plant, x.hw, x.pair) := fun x => by cases x; rfl
  have := (hp t).symm.trans ((congrArg (fun v : State => (v.clk, v.dev, v.plant, v.hw, v.pair)) h).trans (hp s))
  simpa only [Prod.mk.injEq] using this

theorem sendView_of_rnds {s t : State} (h : t.rest = (s.withRnds t.rnds).rest) : sendView t.rest = sendView s.rest := by
  rw [h]
  rfl

/-! ## What the send of one round leaves aside -/

/-- The part of a round's record by which its ends send. -/
def Rnd.ends (x : Rnd) : (Bool × Bool) × (Option (Nat × Nat) × Option (Nat × Nat)) × (List Nat × List Nat) × Nat × Option End :=
  ((x.lockA, x.lockB), (x.rangeA, x.rangeB), (x.reachA, x.reachB), x.step, x.seg)

/-- What the frames of round `r` leave aside. -/
def State.sendSide (r : Nat) (s : State) : (State × (Field → Nat → Nat → Word)) × (Nat → Rnd) ×
    ((Bool × Bool) × (Option (Nat × Nat) × Option (Nat × Nat)) × (List Nat × List Nat) × Nat × Option End) :=
  (s.aside sendView (inFields [.armRephase, .slot]), fun q => if q = r then Rnd.init else s.rnd q, (s.rnd r).ends)

/-- Round `r` sends: nothing else changes, and outputs are only added. -/
structure Sends (r : Nat) (s t : State) : Prop where
  side : t.sendSide r = s.sendSide r
  out : OutKept s t

section
variable {r : Nat} {s t u : State}

theorem Sends.refl (r : Nat) (s : State) : Sends r s s := ⟨rfl, .of_out rfl⟩

theorem Sends.trans (h : Sends r s t) (k : Sends r t u) : Sends r s u := ⟨k.side.trans h.side, h.out.trans k.out⟩

theorem Sends.forL {α : Type} (l : List α) (f : α → State → State) (s : State) (h : ∀ a ∈ l, ∀ t, Sends r t (f a t)) :
    Sends r s (forL l f s) := forL_holds (Sends r s) l f s (fun a ha t ht => ht.trans (h a ha t)) (.refl r s)

/-- A record that the view erases, other than those of rounds. -/
theorem Sends.of_view (hv : sendView t.rest = sendView s.rest) (hp : t.pts = s.pts) (hr : t.rnds = s.rnds) (ho : t.out = s.out) : Sends r s t :=
  ⟨Prod.ext (State.aside_record hv hp) (by simp only [State.sendSide, State.rnd, hr]), .of_out ho⟩

theorem Sends.emit (s : State) (o : Out) : Sends r s (s.emit o) :=
  ⟨Prod.ext (State.aside_record rfl rfl) rfl, .emit s o⟩

theorem Sends.putArm (s : State) (i : Nat) (x : ArmSt) : Sends r s (s.putArm i x) := .of_view rfl rfl rfl rfl

theorem Sends.putCellSt (s : State) (i : Nat) (x : CellSt) : Sends r s (s.putCellSt i x) := .of_view rfl rfl rfl rfl

theorem Sends.settle (s : State) (p : FinCpl → Bool) (st item v : Nat) (w : Await) : Sends r s (s.settle p st item v w) :=
  .of_view rfl rfl rfl rfl

theorem Sends.drawWord (s : State) : Sends r s s.drawWord.2 := .of_view rfl rfl rfl rfl

theorem Sends.putN (s : State) {f : Field} (i v j : Nat) (h : f ∈ [Field.armRephase, .slot]) : Sends r s (s.putN f i v j) :=
  ⟨Prod.ext (State.aside_putN f i v j (by simpa [inFields] using h)) rfl, .of_out rfl⟩

theorem Sends.gather (s : State) (i : Nat) (w : Word) (j : Nat) : Sends r s (s.gather .slot i w j) :=
  ⟨Prod.ext ((State.aside_record (g := sendView) (s := s.put .slot i w j) rfl rfl).trans
    (State.aside_put (p := inFields [.armRephase, .slot]) .slot i w j (by simp [inFields]))) rfl, .of_out rfl⟩

/-- The record of the round itself, but for what its ends send by. -/
theorem Sends.putRnd (s : State) (x : Rnd) (h : x.ends = (s.rnd r).ends) : Sends r s (s.putRnd r x) := by
  refine ⟨Prod.ext (State.aside_record rfl rfl) (Prod.ext (funext fun q => ?_) ?_), .of_out rfl⟩
  · by_cases hq : q = r
    · simp only [State.sendSide, if_pos hq]
    · simp only [State.sendSide, if_neg hq]
      exact s.rnd_putRnd_ne x hq
  · refine Eq.trans ?_ h
    exact congrArg Rnd.ends (s.rnd_putRnd_same r x)

theorem Sends.view (h : Sends r s t) : sendView t.rest = sendView s.rest := State.aside_rest (congrArg Prod.fst h.side)

theorem Sends.points (h : Sends r s t) : QuietFields s t [.armRephase, .slot] := QuietFields.of_aside (congrArg Prod.fst h.side)

theorem Sends.others (h : Sends r s t) : ∀ q, q ≠ r → t.rnd q = s.rnd q := fun q hq => by
  have := congrFun (congrArg (fun x => x.2.1) h.side) q
  simpa only [State.sendSide, if_neg hq] using this

theorem Sends.ends (h : Sends r s t) : (t.rnd r).ends = (s.rnd r).ends := congrArg (fun x => x.2.2) h.side

theorem Sends.n (h : Sends r s t) {f : Field} (i j : Nat) (hf : f ∉ [Field.armRephase, .slot]) (hr : fieldReports f = false) :
    t.n f i j = s.n f i j := congrArg BitVec.toNat (h.points f i j hf hr)

end

/-! ## The pieces of a send -/

theorem State.slowFill_sends (n : Nat) (r : Nat) (s : State) : Sends r s (State.slowFill r n s) := by
  induction n generalizing s with
  | zero => exact .refl r s
  | succ n ih =>
    unfold State.slowFill
    dsimp only
    split
    · exact .refl r s
    · split
      · refine Sends.trans ?_ (ih _)
        exact .putRnd s _ rfl
      · split
        · split
          · exact .refl r s
          · refine Sends.trans ?_ (ih _)
            exact .putRnd s _ rfl
        · exact .refl r s

theorem State.armsStarted_sends (s : State) (r : Nat) (f : Frame) : Sends r s (s.armsStarted r f) :=
  .forL _ _ _ fun a _ t => by
    split
    · exact .putArm t _ _
    · exact .refl r t

theorem foldl_gather_sends (l : List (Nat × Nat)) (s : State) (r i : Nat) :
    Sends r s (l.foldl (fun t w => t.gather .slot i (Word.ofNat w.1) w.2) s) := by
  induction l generalizing s with
  | nil => exact .refl r s
  | cons w l ih => exact (Sends.gather s i _ _).trans (ih _)

theorem State.slotPublish_sends (s : State) (r epoch : Nat) (e : ArmEntry) : Sends r s (s.slotPublish r epoch e) := by
  unfold State.slotPublish
  extract_lets i s1 s2
  have h2 : Sends r s s2 := (foldl_gather_sends _ s r i).trans (.gather s1 i _ _)
  split
  · exact h2.trans (.gather s2 i _ _)
  · exact h2

theorem State.cellFrame_sends (s : State) (r : Nat) (e : End) (f : Frame) (p : Nat) : Sends r s (s.cellFrame r e f p) := by
  unfold State.cellFrame
  extract_lets a c tail inst near late s1
  split
  · exact .refl r s
  · have h1 : Sends r s s1 := by
      simp only [s1]
      split
      · exact .drawWord s
      · exact .refl r s
    split
    · exact h1.trans (.putCellSt s1 _ _)
    · exact h1.trans (.putCellSt s1 _ _)

theorem State.cellsReceive_sends (s : State) (r : Nat) (e : End) (f : Frame) : Sends r s (s.cellsReceive r e f) :=
  .forL _ _ _ fun p _ t => t.cellFrame_sends r e f p

theorem State.sendFrame_sends (s : State) (r : Nat) (e : End) (f : Frame) :
    Sends r s (s.sendFrame r e f) ∧ Out.frame r e f (frameWire f) ∈ (s.sendFrame r e f).out := by
  unfold State.sendFrame
  extract_lets s1
  have h0 : Out.frame r e f (frameWire f) ∈ (s.emit (.frame r e f (frameWire f))).out := List.mem_cons_self ..
  have h1 : Sends r (s.emit (.frame r e f (frameWire f))) s1 := State.armsStarted_sends _ r f
  have h2 : Sends r s1 (forL f.arms (fun x t => t.slotPublish r f.epoch x) s1) := .forL _ _ _ fun x _ t => t.slotPublish_sends r f.epoch x
  have h3 := (h1.trans h2).trans (State.cellsReceive_sends _ r e f)
  exact ⟨(Sends.emit s _).trans h3, h3.out h0⟩

theorem State.carrierSent_sends (s : State) (r p off : Nat) : Sends r s (s.carrierSent r p off) := by
  unfold State.carrierSent
  extract_lets x s1
  have h1 : Sends r s s1 := .putRnd s _ rfl
  split
  · exact h1.trans (.putArm s1 _ _)
  · exact h1

theorem State.bypassSent_sends (s : State) (r p : Nat) : Sends r s (s.bypassSent r p) := by
  unfold State.bypassSent
  split
  · dsimp only
    split
    · exact .putArm s _ _
    · exact .refl r s
  · exact .refl r s

theorem State.dirSent_sends (s : State) (r : Nat) (q : DirEntry) : Sends r s (s.dirSent r q) := by
  unfold State.dirSent
  split
  · exact s.carrierSent_sends r _ _
  · refine Sends.trans ?_ (.settle _ _ _ _ _ _)
    split
    · exact s.bypassSent_sends r _
    · exact .refl r s
  · exact .settle s _ _ _ _ _
  · exact .refl r s

theorem State.dropSent_sends (s : State) (r : Nat) (l : List DirEntry) : Sends r s (s.dropSent r l) := .putRnd s _ rfl

theorem State.trimSent_sends (s : State) (r : Nat) (e : TrimEntry) : Sends r s (s.trimSent r e) := by
  unfold State.trimSent
  split
  · split
    · exact .putArm s _ _
    · exact .refl r s
  · exact .refl r s

theorem State.rephaseCount_sends (s : State) (r : Nat) : Sends r s (s.rephaseCount r) ∧ (s.rephaseCount r).rnds = s.rnds :=
  ⟨.forL _ _ _ fun a _ t => by
    split
    · exact .putN t _ _ _ (by decide)
    · exact .refl r t, forL_keeps State.rnds _ _ _ fun a t => by split <;> rfl⟩

end Sys2Proof.Machine
end

section
/-!
SUPPORT. Proofs/SendRound.lean: the frames that one round sends (section 3.2).
-/
namespace Sys2Proof.Machine

/-! ## Frames -/

/-- What leaves an end in the epoch that `s` is in; `t`, the state after it. -/
def FrameLeft (s t : State) (r : Nat) (e : End) (o : Option Frame) : Prop :=
  t.endSends r e = true → ∃ f, o = some f ∧ Out.frame r e f (frameWire f) ∈ t.out ∧
    f.franking = s.nextT0 ∧ f.epoch = s.epoch ∧ f.generation = s.n .pairGeneration ∧ f.setting = settingOf s.te ∧
    f.offset = (if t.n .rndLate r = 1 then 2 else 1) ∧ f.linkup = t.linkupEnd r e ∧
    (f.linkup = true → f.token = 0 ∧ f.check = 0 ∧ f.arms = []) ∧ (f.linkup = false → (f.token, f.check) = s.token) ∧
    f.dirs.length ≤ 8 ∧ f.trims.length ≤ 32 ∧ ∀ q ∈ f.trims, (t.rnd r).endFor q.pos = e

/-- What leaves a round that sends frames. -/
def RoundFrames (s t : State) (r : Nat) : Prop :=
  FrameLeft s t r .a (t.rnd r).frameA ∧ FrameLeft s t r .b (t.rnd r).frameB ∧
  (t.endSends r .a = false → (t.rnd r).sentA = none ∧ Out.blocks r .a [idleBlock] ∈ t.out) ∧
  (t.endSends r .b = false → (t.rnd r).sentB = none ∧ Out.blocks r .b [idleBlock] ∈ t.out) ∧
  (t.endSends r .a = true → (t.rnd r).sentA = (t.rnd r).rangeA) ∧ (t.endSends r .b = true → (t.rnd r).sentB = (t.rnd r).rangeB)

/-- What leaves a round that carries no frames. -/
def RoundIdle (t : State) (r : Nat) : Prop :=
  (t.rnd r).sentA = none ∧ (t.rnd r).sentB = none ∧ Out.blocks r .a [idleBlock] ∈ t.out ∧ Out.blocks r .b [idleBlock] ∈ t.out

section
variable {r : Nat} {s t : State}

/-! ## What frames depend on -/

/-- Two states send the frames of round `r` alike: its ends, delay and state, and the block around them. -/
structure SameEnds (r : Nat) (s t : State) : Prop where
  view : sendView t.rest = sendView s.rest
  ends : (t.rnd r).ends = (s.rnd r).ends
  role : t.n .pairRole = s.n .pairRole
  mode : t.n .devMode = s.n .devMode
  state : t.n .rndState r = s.n .rndState r
  late : t.n .rndLate r = s.n .rndLate r
  generation : t.n .pairGeneration = s.n .pairGeneration

theorem Sends.sameEnds (h : Sends r s t) : SameEnds r s t :=
  ⟨h.view, h.ends, h.n _ _ (by decide) rfl, h.n _ _ (by decide) rfl, h.n _ _ (by decide) rfl, h.n _ _ (by decide) rfl, h.n _ _ (by decide) rfl⟩

theorem SameEnds.symm (h : SameEnds r s t) : SameEnds r t s :=
  ⟨h.view.symm, h.ends.symm, h.role.symm, h.mode.symm, h.state.symm, h.late.symm, h.generation.symm⟩

theorem Rnd.endFor_of_ends {x y : Rnd} (h : y.ends = x.ends) (p : Nat) : y.endFor p = x.endFor p := by
  simp only [Rnd.ends, Prod.mk.injEq] at h
  obtain ⟨-, ⟨hA, hB⟩, ⟨hr, -⟩, -⟩ := h
  simp only [Rnd.endFor, hA, hB, hr]

theorem SameEnds.linkupEnd (h : SameEnds r s t) (e : End) : t.linkupEnd r e = s.linkupEnd r e := by
  have he := h.ends
  simp only [Rnd.ends, Prod.mk.injEq] at he
  obtain ⟨-, -, -, hstep, hseg⟩ := he
  simp only [State.linkupEnd, State.linkupFrames, Rnd.segmentAt, State.mode, h.state, h.mode, hstep, hseg]

theorem SameEnds.endSends (h : SameEnds r s t) (e : End) : t.endSends r e = s.endSends r e := by
  have he := h.ends
  simp only [Rnd.ends, Prod.mk.injEq] at he
  obtain ⟨⟨hlA, hlB⟩, ⟨hA, hB⟩, -, hstep, hseg⟩ := he
  obtain ⟨-, hd, -, hh, hp⟩ := parts_of_sendView h.view
  have hok := State.endOk2_of hd hh hp h.role hlA hlB e
  have hrange : (t.rnd r).range e = (s.rnd r).range e := by
    cases e
    · exact hA
    · exact hB
  simp only [State.endSends, hok, h.state, hrange, Rnd.segmentAt, hstep, hseg]

theorem SameEnds.token (h : SameEnds r s t) : t.token = s.token := by
  obtain ⟨hc, hd, -, -, -⟩ := parts_of_sendView h.view
  simp only [State.token, State.epoch, hc, hd, h.generation]

theorem SameEnds.clk (h : SameEnds r s t) : t.clk = s.clk := (parts_of_sendView h.view).1

end

/-! ## The frame of an end (Table 3.2) -/

theorem State.frameFor_header (s : State) (r : Nat) (e : End) (ts : List TrimEntry) (qs : List SlowReq) : let f := s.frameFor r e ts qs
    f.franking = s.nextT0 ∧ f.epoch = s.epoch ∧ f.generation = s.n .pairGeneration ∧ f.setting = settingOf s.te ∧
    f.offset = (if s.n .rndLate r = 1 then 2 else 1) ∧ f.linkup = s.linkupEnd r e ∧ f.dirs = s.dirsFor r e ∧
    f.trims = ts.filter (fun t => (s.rnd r).endFor t.pos == e) ∧ (f.token, f.check) = if s.linkupEnd r e then (0, 0) else s.token :=
  ⟨rfl, rfl, rfl, rfl, rfl, rfl, rfl, rfl, rfl⟩

theorem State.frameFor_arms (s : State) (r : Nat) (e : End) (ts : List TrimEntry) (qs : List SlowReq) (h : s.linkupEnd r e = true) :
    (s.frameFor r e ts qs).arms = [] := if_pos h

/-- The frame of an end is as the rules have it, once it has left. -/
theorem FrameLeft.of_frame {r : Nat} {s u t : State} {e : End} {ts : List TrimEntry} {qs : List SlowReq} (hsu : SameEnds r s u)
    (hut : SameEnds r u t) (hts : ts.length ≤ 32) {o : Option Frame}
    (ho : u.endSends r e = true → o = some (u.frameFor r e ts qs) ∧ Out.frame r e (u.frameFor r e ts qs) (frameWire (u.frameFor r e ts qs)) ∈ t.out) :
    FrameLeft s t r e o := by
  intro hsends
  obtain ⟨hsome, hout⟩ := ho ((hut.endSends e).symm.trans hsends)
  obtain ⟨h1, h2, h3, h4, h5, h6, h7, h8, h9⟩ := u.frameFor_header r e ts qs
  have harms := u.frameFor_arms r e ts qs
  generalize u.frameFor r e ts qs = f at *
  have hnext : u.nextT0 = s.nextT0 := by simp only [State.nextT0, State.te, hsu.clk]
  have hepoch : u.epoch = s.epoch := by simp only [State.epoch, hsu.clk]
  have hte : u.te = s.te := by simp only [State.te, hsu.clk]
  refine ⟨f, hsome, hout, h1.trans hnext, h2.trans hepoch, h3.trans hsu.generation, h4.trans (congrArg settingOf hte),
    by rw [h5, hut.late], h6.trans (hut.linkupEnd e).symm, fun hl => ?_, fun hl => ?_, ?_, ?_, fun q hq => ?_⟩
  · rw [← h6, hl, if_pos rfl] at h9
    exact ⟨congrArg Prod.fst h9, congrArg Prod.snd h9, harms (h6.symm.trans hl)⟩
  · rw [← h6, hl, if_neg (by decide)] at h9
    exact h9.trans hsu.token
  · rw [h7]
    exact List.length_take_le _ _
  · rw [h8]
    exact (List.length_filter_le _ _).trans hts
  · rw [h8] at hq
    rw [Rnd.endFor_of_ends hut.ends]
    simpa using (List.mem_filter.1 hq).2

/-! ## The send -/

/-- A frame leaves an end, or IDLE does. -/
def State.sendEnd (s : State) (r : Nat) (e : End) (ok : Bool) (f : Frame) : State :=
  if ok then s.sendFrame r e f else s.emit (.blocks r e [idleBlock])

theorem State.sendEnd_sends (s : State) (r : Nat) (e : End) (ok : Bool) (f : Frame) : Sends r s (s.sendEnd r e ok f) ∧
    (ok = true → Out.frame r e f (frameWire f) ∈ (s.sendEnd r e ok f).out) ∧
    (ok = false → Out.blocks r e [idleBlock] ∈ (s.sendEnd r e ok f).out) := by
  cases ok with
  | true => exact ⟨(s.sendFrame_sends r e f).1, fun _ => (s.sendFrame_sends r e f).2, fun h => absurd h (by decide)⟩
  | false => exact ⟨.emit s _, fun h => absurd h (by decide), fun _ => List.mem_cons_self ..⟩

/-- The record of a round after its frames left. -/
def Rnd.sentWith (y : Rnd) (okA okB : Bool) (fa fb : Frame) (trims : List TrimEntry) : Rnd :=
  { y with sentA := if okA then y.rangeA else none, sentB := if okB then y.rangeB else none,
           frameA := if okA then some fa else none, frameB := if okB then some fb else none,
           trimPos := ((trims.getLast?).map (·.pos)).getD y.trimPos,
           txs := y.txs.map (fun t => { t with age := t.age + 1 }) }

/-- What frames carried counts as sent. -/
def State.countSent (s : State) (r : Nat) (sent : List DirEntry) (trims : List TrimEntry) : State :=
  forL trims (fun q t => t.trimSent r q) (forL sent (fun q t => t.dirSent r q) (s.dropSent r sent))

theorem State.countSent_sends (s : State) (r : Nat) (sent : List DirEntry) (trims : List TrimEntry) : Sends r s (s.countSent r sent trims) :=
  ((s.dropSent_sends r sent).trans (.forL _ _ _ fun q _ t => t.dirSent_sends r q)).trans (.forL _ _ _ fun q _ t => t.trimSent_sends r q)

/-- The state whose frames a round sends. -/
def State.chosen (s : State) (r : Nat) : State := if !s.linkupFrames r then State.slowFill r 9 s else s

theorem State.chosen_sends (s : State) (r : Nat) : Sends r s (s.chosen r) := by
  unfold State.chosen
  split
  · exact s.slowFill_sends 9 r
  · exact .refl r s

/-- The trims of an epoch. -/
def State.trimsChosen (s u : State) (r : Nat) : List TrimEntry := if !s.linkupFrames r then (u.trimTurn r).map (u.trimFor r) else []

/-- The slow requests of an epoch. -/
def State.slowsChosen (s u : State) (r : Nat) : List SlowReq :=
  if !s.linkupFrames r then ((u.rnd r).txs.filter (fun t => t.age == 0)).map (·.req) else []

theorem State.trimsChosen_length (s u : State) (r : Nat) : (s.trimsChosen u r).length ≤ 32 := by
  unfold State.trimsChosen
  split
  · rw [List.length_map]
    exact List.length_take_le _ _
  · exact Nat.zero_le _

/-- The directives that leave in the frames of the ends that send. -/
def dirsLeaving (okA okB : Bool) (fa fb : Frame) : List DirEntry :=
  (if okA then fa.dirs else []) ++ (if okB then fb.dirs.filter (fun q => !(okA && q.pos.isNone)) else [])

/-- The send of a round, its frames given. -/
def State.sendWith (u : State) (r : Nat) (okA okB : Bool) (fa fb : Frame) (trims : List TrimEntry) : State :=
  let v := ((u.sendEnd r .a okA fa).sendEnd r .b okB fb).countSent r (dirsLeaving okA okB fa fb) trims
  (v.putRnd r ((v.rnd r).sentWith okA okB fa fb trims)).rephaseCount r

theorem State.sendRound_eq (s : State) (r : Nat) : let u := s.chosen r
    s.sendRound r = u.sendWith r (u.endSends r .a) (u.endSends r .b) (u.frameFor r .a (s.trimsChosen u r) (s.slowsChosen u r))
      (u.frameFor r .b (s.trimsChosen u r) (s.slowsChosen u r)) (s.trimsChosen u r) := by
  unfold State.sendRound State.sendWith
  rfl

theorem State.sendRound_sends (s : State) (r : Nat) : Sends r s (s.sendRound r) ∧ RoundFrames s (s.sendRound r) r := by
  rw [s.sendRound_eq r]
  have h1 := s.chosen_sends r
  generalize s.chosen r = u at *
  have hlen := s.trimsChosen_length u r
  generalize s.trimsChosen u r = trims at *
  generalize s.slowsChosen u r = slows at *
  generalize hga : u.frameFor r .a trims slows = fa at *
  generalize hgb : u.frameFor r .b trims slows = fb at *
  generalize hoa : u.endSends r .a = okA at *
  generalize hob : u.endSends r .b = okB at *
  unfold State.sendWith
  dsimp only
  obtain ⟨a1, a2, a3⟩ := u.sendEnd_sends r .a okA fa
  generalize u.sendEnd r .a okA fa = v at *
  obtain ⟨b1, b2, b3⟩ := v.sendEnd_sends r .b okB fb
  generalize v.sendEnd r .b okB fb = w at *
  have c1 := w.countSent_sends r (dirsLeaving okA okB fa fb) trims
  generalize w.countSent r (dirsLeaving okA okB fa fb) trims = x at *
  have d1 : Sends r x (x.putRnd r ((x.rnd r).sentWith okA okB fa fb trims)) := .putRnd x _ rfl
  have dr := x.rnd_putRnd_same r ((x.rnd r).sentWith okA okB fa fb trims)
  generalize x.putRnd r ((x.rnd r).sentWith okA okB fa fb trims) = y at *
  obtain ⟨e1, er⟩ := y.rephaseCount_sends r
  generalize y.rephaseCount r = t at *
  have hrnd : t.rnd r = (x.rnd r).sentWith okA okB fa fb trims := by rw [State.rnd, er]; exact dr
  have hvt : Sends r v t := ((b1.trans c1).trans d1).trans e1
  have hwt : Sends r w t := (c1.trans d1).trans e1
  have hut : Sends r u t := a1.trans hvt
  have hsA : t.endSends r .a = okA := (hut.sameEnds.endSends .a).trans hoa
  have hsB : t.endSends r .b = okB := (hut.sameEnds.endSends .b).trans hob
  refine ⟨h1.trans hut, ?_, ?_, fun h => ?_, fun h => ?_, fun h => ?_, fun h => ?_⟩
  · refine FrameLeft.of_frame h1.sameEnds hut.sameEnds hlen (qs := slows) fun h => ?_
    rw [hoa] at h
    rw [hga, hrnd]
    exact ⟨if_pos h, hvt.out (a2 h)⟩
  · refine FrameLeft.of_frame h1.sameEnds hut.sameEnds hlen (qs := slows) fun h => ?_
    rw [hob] at h
    rw [hgb, hrnd]
    exact ⟨if_pos h, hwt.out (b2 h)⟩
  · rw [hsA] at h
    rw [hrnd]
    exact ⟨by simp [Rnd.sentWith, h], hvt.out (a3 h)⟩
  · rw [hsB] at h
    rw [hrnd]
    exact ⟨by simp [Rnd.sentWith, h], hwt.out (b3 h)⟩
  · rw [hsA] at h
    rw [hrnd]
    simp [Rnd.sentWith, h]
  · rw [hsB] at h
    rw [hrnd]
    simp [Rnd.sentWith, h]

theorem State.idleRound_sends (s : State) (r : Nat) : Sends r s (s.idleRound r) ∧ RoundIdle (s.idleRound r) r := by
  unfold State.idleRound
  dsimp only
  have h1 : Sends r s (s.putRnd r { s.rnd r with sentA := none, sentB := none, frameA := none, frameB := none }) := .putRnd s _ rfl
  have hr := s.rnd_putRnd_same r { s.rnd r with sentA := none, sentB := none, frameA := none, frameB := none }
  generalize s.putRnd r { s.rnd r with sentA := none, sentB := none, frameA := none, frameB := none } = u at *
  refine ⟨(h1.trans (.emit u _)).trans (.emit _ _), ?_, ?_, List.mem_cons_of_mem _ (List.mem_cons_self ..), List.mem_cons_self ..⟩
  · exact congrArg Rnd.sentA hr
  · exact congrArg Rnd.sentB hr

end Sys2Proof.Machine
end

section
/-!
SUPPORT. Proofs/DownstreamSend.lean: breaks and delays are judged, every round sends, and nothing else changes (sections 2.4 and 3.2).
-/
namespace Sys2Proof.Machine

/-! ## Breaks and delays before the send (R44 to R46, R100) -/

/-- The points that a break or a judged delay of round `r` writes. -/
def judgedPoint (r : Nat) (q : Pt) : Prop := rangePoint r q ∨ (q.i = r ∧ q.f ∈ [Field.rndBreaks, .rndState, .rndLate])

/-- Breaks and delays of round `r` were judged. -/
structure Judged (r : Nat) (s t : State) : Prop where
  rest : t.rest = (s.withRnds t.rnds).rest
  others : ∀ q, q ≠ r → t.rnd q = s.rnd q
  points : ∀ f i j, ¬judgedPoint r ⟨f, i, j⟩ → fieldReports f = false → t.w f i j = s.w f i j
  out : RecordsOut s t

section
variable {r : Nat} {s t u : State}

theorem Judged.refl (r : Nat) (s : State) : Judged r s s := ⟨rfl, fun _ _ => rfl, fun _ _ _ _ _ => rfl, .of_out rfl⟩

theorem Judged.trans (h : Judged r s t) (k : Judged r t u) : Judged r s u :=
  ⟨k.rest.trans (rest_withRnds_again h.rest _), fun q hq => (k.others q hq).trans (h.others q hq),
    fun f i j hp hf => (k.points f i j hp hf).trans (h.points f i j hp hf), h.out.trans k.out⟩

theorem Judged.putRnd (s : State) (x : Rnd) : Judged r s (s.putRnd r x) :=
  ⟨rfl, fun _ hq => s.rnd_putRnd_ne x hq, fun _ _ _ _ _ => rfl, .of_out rfl⟩

theorem Judged.putN (s : State) {f : Field} (v : Nat) (h : f ∈ [Field.rndBreaks, .rndState, .rndLate]) : Judged r s (s.putN f r v) :=
  ⟨(RoundsOnly.putN s f r v 0).rest, fun _ _ => rfl,
    fun g i j hp _ => s.w_put_ne _ fun he => hp (.inr (by obtain ⟨rfl, rfl, rfl⟩ := Pt.mk.inj he; exact ⟨rfl, h⟩)), .of_out rfl⟩

theorem Judged.raise (r : Nat) (s : State) (c k i p : Nat) : Judged r s (s.raise c k i p) := by
  have hq := s.raise_quiet c k i p
  exact ⟨(RoundsOnly.refl s).rest_quiet hq, fun q _ => State.rnd_of_quiet hq q, fun f i j _ hf => State.w_of_quiet hq f i j hf,
    s.raise_recordsOut c k i p⟩

theorem State.setRanges_out (s : State) (r : Nat) (g : Option (Nat × Nat) × Option (Nat × Nat)) : (s.setRanges r g).out = s.out :=
  (congrArg State.out (s.setRanges_leaves r g).1 :)

theorem Judged.setRanges (s : State) (r : Nat) (g : Option (Nat × Nat) × Option (Nat × Nat)) : Judged r s (s.setRanges r g) := by
  obtain ⟨h1, -, h3, -, h5⟩ := s.setRanges_leaves r g
  exact ⟨h1.rest, h3, fun f i j hp _ => h5 f i j fun hr => hp (.inl hr), .of_out (s.setRanges_out r g)⟩

end

theorem State.applyBreak_judged (s : State) (r : Nat) : Judged r s (s.applyBreak r) := by
  unfold State.applyBreak
  extract_lets x s0 g s1
  have h0 : Judged r s s0 := .putRnd s _
  split
  · refine h0.trans (Judged.trans ?_ (.raise r s1 _ _ _ _))
    exact (Judged.setRanges s0 r g).trans (.putN _ _ (by decide))
  · exact h0

/-- Without a break of this epoch only the record of the round changes. -/
theorem State.applyBreak_calm (s : State) (r : Nat) (h : (s.rnd r).detected = false) : (s.applyBreak r).pts = s.pts ∧ (s.applyBreak r).clk = s.clk := by
  unfold State.applyBreak
  dsimp only
  rw [h]
  exact ⟨rfl, rfl⟩

/-- The round's delay is too long. -/
def State.roundDead (s : State) (r d : Nat) : State :=
  let u := (((s.putN .rndState r 7).putN .rndLate r 0).setRanges r (none, none)).raise 0x0102 kRound r d
  u.putRnd r { u.rnd r with deadAt := some (u.epoch + 1 + min 2 (u.n .rndCoastLimit r)) }

theorem State.roundDead_judged (s : State) (r d : Nat) : Judged r s (s.roundDead r d) ∧ (s.roundDead r d).n .rndState r = 7 := by
  unfold State.roundDead
  dsimp only
  have h1 : Judged r s ((s.putN .rndState r 7).putN .rndLate r 0) := (Judged.putN s 7 (by decide)).trans (.putN _ _ (by decide))
  have n1 : ((s.putN .rndState r 7).putN .rndLate r 0).n .rndState r = 7 :=
    (State.n_putN_field _ (by decide)).trans (s.n_putN_same _ _ _ _ (by decide))
  generalize (s.putN .rndState r 7).putN .rndLate r 0 = a at *
  have h2 := Judged.setRanges a r (none, none)
  have n2 : (a.setRanges r (none, none)).n .rndState r = 7 :=
    (congrArg BitVec.toNat ((a.setRanges_leaves r (none, none)).2.2.2.2 _ _ _ (by simp [rangePoint]))).trans n1
  generalize a.setRanges r (none, none) = b at *
  have h3 := Judged.raise r b 0x0102 kRound r d
  have n3 : (b.raise 0x0102 kRound r d).n .rndState r = 7 := (State.n_of_quiet (b.raise_quiet _ _ _ _) _ _ _ rfl).trans n2
  generalize b.raise 0x0102 kRound r d = c at *
  exact ⟨((h1.trans h2).trans h3).trans (.putRnd c _), n3⟩

theorem State.judgeDelay_eq (s : State) (r : Nat) : s.judgeDelay r =
    if s.n .rndState r ≠ 6 then s
    else if overDelay (s.n .rndDelayNs r) s.te 122 then s.roundDead r (s.n .rndDelayNs r)
    else if s.n .rndLate r = 0 then
      if overDelay (s.n .rndDelayNs r) s.te 22 then
        ((s.putN .rndLate r 1).putRnd r { s.rnd r with shortN := 0 }).raise 0x0103 kRound r 1
      else s
    else s.putRnd r { s.rnd r with shortN := if overDelay (s.n .rndDelayNs r) s.te 20 then 0 else (s.rnd r).shortN + 1 } := rfl

theorem State.judgeDelay_judged (s : State) (r : Nat) : Judged r s (s.judgeDelay r) := by
  rw [s.judgeDelay_eq r]
  split
  · exact .refl r s
  · split
    · exact (s.roundDead_judged r _).1
    · split
      · split
        · exact ((Judged.putN s 1 (by decide)).trans (.putRnd _ _)).trans (.raise r _ _ _ _ _)
        · exact .refl r s
      · exact .putRnd s _

theorem State.judgeDelay_fails (s : State) (r : Nat) (h6 : s.n .rndState r = 6) (ho : overDelay (s.n .rndDelayNs r) s.te 122 = true) :
    (s.judgeDelay r).n .rndState r = 7 := by
  rw [s.judgeDelay_eq r, if_neg (fun h => h h6), if_pos ho]
  exact (s.roundDead_judged r _).2

theorem State.judgeDelay_late (s : State) (r : Nat) (h6 : s.n .rndState r = 6) (hn : overDelay (s.n .rndDelayNs r) s.te 122 = false)
    (ho : overDelay (s.n .rndDelayNs r) s.te 22 = true) : (s.judgeDelay r).n .rndState r = 6 ∧
    (s.n .rndLate r = 0 ∨ s.n .rndLate r = 1 → (s.judgeDelay r).n .rndLate r = 1) := by
  rw [s.judgeDelay_eq r, if_neg (fun h => h h6), if_neg (by simp [hn])]
  by_cases h0 : s.n .rndLate r = 0
  · rw [if_pos h0, if_pos ho]
    have hq := ((s.putN .rndLate r 1).putRnd r { s.rnd r with shortN := 0 }).raise_quiet 0x0103 kRound r 1
    exact ⟨(State.n_of_quiet hq _ _ _ rfl).trans ((State.n_putN_field s (by decide)).trans h6),
      fun _ => (State.n_of_quiet hq _ _ _ rfl).trans (s.n_putN_same _ _ _ _ (by decide))⟩
  · rw [if_neg h0]
    exact ⟨h6, fun h => h.resolve_left h0⟩

theorem State.followRound_judged (s : State) (r : Nat) : Judged r s (s.followRound r) := by
  unfold State.followRound
  extract_lets s1 x
  exact ((s.applyBreak_judged r).trans (State.judgeDelay_judged _ r)).trans (.putRnd s1 _)

/-! ## One round, and what it leaves to the others -/

/-- What the send of the rounds writes. -/
def sendFields : List Field :=
  [.armRephase, .pos, .rndBreaks, .rndDelayANs, .rndDelayBNs, .rndDelayNs, .rndEnds, .rndLate, .rndState, .rndTurn, .slot]

/-- The sends of rounds as round `q`, which is none of them, sees them. -/
structure SendsBeside (q : Nat) (s t : State) : Prop where
  view : sendView t.rest = sendView s.rest
  rnd : t.rnd q = s.rnd q
  points : QuietFields s t sendFields
  own : ∀ f ∈ [Field.rndState, .rndLate, .rndDelayNs], t.n f q = s.n f q
  out : OutKept s t

section
variable {q r : Nat} {s t u : State}

theorem SendsBeside.refl (q : Nat) (s : State) : SendsBeside q s s := ⟨rfl, rfl, QuietFields.refl _ _, fun _ _ => rfl, .of_out rfl⟩

theorem SendsBeside.trans (h : SendsBeside q s t) (k : SendsBeside q t u) : SendsBeside q s u :=
  ⟨k.view.trans h.view, k.rnd.trans h.rnd, (h.points.trans k.points).mono (by decide), fun f hf => (k.own f hf).trans (h.own f hf),
    h.out.trans k.out⟩

theorem judgedPoint_field {p : Pt} (h : judgedPoint r p) : p.f ∈ sendFields := by
  rcases h with h | ⟨-, h⟩
  · exact (by decide : rangeFields ⊆ sendFields) (rangePoint_field h)
  · exact (by decide : [Field.rndBreaks, .rndState, .rndLate] ⊆ sendFields) h

theorem Judged.fields (h : Judged r s t) : QuietFields s t sendFields := fun f i j hn hf =>
  h.points f i j (fun hp => hn (judgedPoint_field hp)) hf

theorem Judged.beside (h : Judged r s t) (hq : q ≠ r) : SendsBeside q s t :=
  ⟨sendView_of_rnds h.rest, h.others q hq, h.fields, fun f hf => by
    simp only [List.mem_cons, List.not_mem_nil, or_false] at hf
    refine congrArg BitVec.toNat (h.points f q 0 (fun hp => ?_) (by rcases hf with rfl | rfl | rfl <;> rfl))
    rcases hp with (hp | hp) | hp
    · exact hq hp.1
    · rcases hf with rfl | rfl | rfl <;> simp at hp
    · exact hq hp.1, h.out.kept⟩

theorem Sends.fields (h : Sends r s t) : QuietFields s t sendFields := h.points.mono (by decide)

theorem Sends.beside (h : Sends r s t) (hq : q ≠ r) : SendsBeside q s t :=
  ⟨h.view, h.others q hq, h.fields, fun f hf => by
    simp only [List.mem_cons, List.not_mem_nil, or_false] at hf
    rcases hf with rfl | rfl | rfl <;> exact h.n _ _ (by decide) rfl, h.out⟩

theorem SendsBeside.n (h : SendsBeside q s t) {f : Field} (i j : Nat) (hf : f ∉ sendFields) (hr : fieldReports f = false) :
    t.n f i j = s.n f i j := congrArg BitVec.toNat (h.points f i j hf hr)

theorem SendsBeside.sameEnds (h : SendsBeside q s t) : SameEnds q s t :=
  ⟨h.view, congrArg Rnd.ends h.rnd, h.n _ _ (by decide) rfl, h.n _ _ (by decide) rfl, h.own _ (by decide), h.own _ (by decide),
    h.n _ _ (by decide) rfl⟩

end

/-! ## What leaves a round, seen from before and from after -/

section
variable {r : Nat} {s s0 t u : State}

theorem FrameLeft.from_clock {e : End} {o : Option Frame} (h : FrameLeft s t r e o)
    (hp : s.clk = s0.clk ∧ s.dev = s0.dev ∧ s.plant = s0.plant ∧ s.hw = s0.hw ∧ s.pair = s0.pair)
    (hg : s.n .pairGeneration = s0.n .pairGeneration) : FrameLeft s0 t r e o := by
  obtain ⟨hc, hd, -, -, -⟩ := hp
  have hte : s.te = s0.te := by rw [State.te, State.te, hc]
  have hnext : s.nextT0 = s0.nextT0 := by rw [State.nextT0, State.nextT0, hte, hc]
  have hepoch : s.epoch = s0.epoch := by rw [State.epoch, State.epoch, hc]
  have htoken : s.token = s0.token := by rw [State.token, State.token, hd, hg, hepoch]
  unfold FrameLeft at h ⊢
  rwa [hte, hnext, hepoch, htoken, hg] at h

theorem RoundFrames.from_clock (h : RoundFrames s t r)
    (hp : s.clk = s0.clk ∧ s.dev = s0.dev ∧ s.plant = s0.plant ∧ s.hw = s0.hw ∧ s.pair = s0.pair)
    (hg : s.n .pairGeneration = s0.n .pairGeneration) : RoundFrames s0 t r :=
  ⟨h.1.from_clock hp hg, h.2.1.from_clock hp hg, h.2.2⟩

theorem FrameLeft.kept {e : End} {o : Option Frame} (h : FrameLeft s t r e o) (k : SendsBeside r t u) : FrameLeft s u r e o := by
  intro hs
  have hk := k.sameEnds
  obtain ⟨f, h1, h2, h3, h4, h5, h6, h7, h8, h9, h10, h11, h12, h13⟩ := h ((hk.endSends e).symm.trans hs)
  exact ⟨f, h1, k.out h2, h3, h4, h5, h6, by rw [h7, hk.late], h8.trans (hk.linkupEnd e).symm, h9, h10, h11, h12,
    fun q hq => (Rnd.endFor_of_ends hk.ends _).trans (h13 q hq)⟩

theorem RoundFrames.kept (h : RoundFrames s t r) (k : SendsBeside r t u) : RoundFrames s u r := by
  obtain ⟨h1, h2, h3, h4, h5, h6⟩ := h
  have hA := k.sameEnds.endSends .a
  have hB := k.sameEnds.endSends .b
  unfold RoundFrames
  rw [k.rnd, hA, hB]
  exact ⟨h1.kept k, h2.kept k, fun h => ⟨(h3 h).1, k.out (h3 h).2⟩, fun h => ⟨(h4 h).1, k.out (h4 h).2⟩, h5, h6⟩

theorem RoundIdle.kept (h : RoundIdle t r) (k : SendsBeside r t u) : RoundIdle u r := by
  obtain ⟨h1, h2, h3, h4⟩ := h
  unfold RoundIdle
  rw [k.rnd]
  exact ⟨h1, h2, k.out h3, k.out h4⟩

end

/-- One round's part of the send. -/
def State.sendOne (r : Nat) (t : State) : State :=
  if !t.plant.rounds.contains r then t
  else if t.n .pairRole = 2 then t.followRound r
  else
    let t1 := (t.applyBreak r).judgeDelay r
    if t1.mode = 0 ∨ t1.n .rndState r = 7 then t1.idleRound r else t1.sendRound r

theorem State.sendAll_eq (s : State) : s.sendAll = forL (List.range 16) State.sendOne s := rfl

theorem State.sendOne_beside (s : State) {q r : Nat} (hq : q ≠ r) : SendsBeside q s (s.sendOne r) := by
  unfold State.sendOne
  split
  · exact .refl q s
  · split
    · exact (s.followRound_judged r).beside hq
    · extract_lets t1
      have h1 : SendsBeside q s t1 := ((s.applyBreak_judged r).trans (State.judgeDelay_judged _ r)).beside hq
      split
      · exact h1.trans ((t1.idleRound_sends r).1.beside hq)
      · exact h1.trans ((t1.sendRound_sends r).1.beside hq)

/-- What the send of a round leaves that is part of the description; `s` the state of the round when it is its turn. -/
structure RoundSent (s t : State) (r : Nat) : Prop where
  frames : s.mode ≠ 0 ∧ t.n .rndState r ≠ 7 → RoundFrames s t r
  idle : ¬(s.mode ≠ 0 ∧ t.n .rndState r ≠ 7) → RoundIdle t r
  dead : s.n .rndState r = 6 → (s.rnd r).detected = false → overDelay (s.n .rndDelayNs r) s.te 122 = true → t.n .rndState r = 7
  late : s.n .rndState r = 6 → (s.rnd r).detected = false → overDelay (s.n .rndDelayNs r) s.te 122 = false →
    overDelay (s.n .rndDelayNs r) s.te 22 = true → t.n .rndState r = 6 ∧ (s.n .rndLate r = 0 ∨ s.n .rndLate r = 1 → t.n .rndLate r = 1)


theorem State.sendOne_sent (s : State) (r : Nat) (hc : s.plant.rounds.contains r = true) (hrole : s.n .pairRole ≠ 2) :
    RoundSent s (s.sendOne r) r := by
  unfold State.sendOne
  rw [if_neg (by simp only [hc]; decide), if_neg hrole]
  have ha := s.applyBreak_judged r
  have hcalm := s.applyBreak_calm r
  generalize s.applyBreak r = u at *
  have hb := u.judgeDelay_judged r
  have hfails := u.judgeDelay_fails r
  have hlate := u.judgeDelay_late r
  generalize u.judgeDelay r = v at *
  have hv := ha.trans hb
  have hmode : v.mode = s.mode := congrArg BitVec.toNat (hv.fields _ _ _ (by decide) rfl)
  have hun : (s.rnd r).detected = false → (∀ f i j, u.n f i j = s.n f i j) ∧ u.te = s.te := fun h =>
    ⟨fun f i j => by rw [State.n, State.n, State.w, State.w, (hcalm h).1], by rw [State.te, State.te, (hcalm h).2]⟩
  have hdead : s.n .rndState r = 6 → (s.rnd r).detected = false → overDelay (s.n .rndDelayNs r) s.te 122 = true → v.n .rndState r = 7 :=
    fun h6 hd ho => hfails (((hun hd).1 _ _ _).trans h6) (by rw [(hun hd).1, (hun hd).2]; exact ho)
  have hlater : s.n .rndState r = 6 → (s.rnd r).detected = false → overDelay (s.n .rndDelayNs r) s.te 122 = false →
      overDelay (s.n .rndDelayNs r) s.te 22 = true → v.n .rndState r = 6 ∧ (s.n .rndLate r = 0 ∨ s.n .rndLate r = 1 → v.n .rndLate r = 1) :=
    fun h6 hd hn ho => by
      have := hlate (((hun hd).1 _ _ _).trans h6) (by rw [(hun hd).1, (hun hd).2]; exact hn) (by rw [(hun hd).1, (hun hd).2]; exact ho)
      rwa [(hun hd).1 .rndLate r 0] at this
  dsimp only
  split
  · next hi =>
    obtain ⟨h1, h2⟩ := v.idleRound_sends r
    generalize v.idleRound r = t at *
    have hs := h1.sameEnds
    refine ⟨fun h => ?_, fun _ => h2, fun h6 hd ho => hs.state.trans (hdead h6 hd ho), fun h6 hd hn ho => ?_⟩
    · rw [hmode, ← hs.state] at hi
      exact absurd hi (not_or.2 h)
    · rw [hs.state, hs.late]
      exact hlater h6 hd hn ho
  · next hi =>
    obtain ⟨h1, h2⟩ := v.sendRound_sends r
    generalize v.sendRound r = t at *
    have hs := h1.sameEnds
    refine ⟨fun _ => ?_, fun h => ?_, fun h6 hd ho => hs.state.trans (hdead h6 hd ho), fun h6 hd hn ho => ?_⟩
    · exact h2.from_clock (parts_of_sendView (sendView_of_rnds hv.rest)) (congrArg BitVec.toNat (hv.fields _ _ _ (by decide) rfl))
    · rw [hmode, ← hs.state] at hi
      exact absurd (not_or.1 hi) h
    · rw [hs.state, hs.late]
      exact hlater h6 hd hn ho


theorem State.sendOne_leaves (s : State) (r : Nat) : sendView (s.sendOne r).rest = sendView s.rest ∧ QuietFields s (s.sendOne r) sendFields := by
  have h := s.sendOne_beside (show r + 1 ≠ r by omega)
  exact ⟨h.view, h.points⟩

/-! ## All rounds -/

/-- An element of a list without repetitions gets its turn once. -/
theorem forL_once {α : Type} {l : List α} (hl : l.Nodup) {a : α} (ha : a ∈ l) (f : α → State → State) (s : State) :
    ∃ l1 l2, a ∉ l1 ∧ a ∉ l2 ∧ forL l f s = forL l2 f (f a (forL l1 f s)) := by
  induction l generalizing s with
  | nil => exact absurd ha (by simp)
  | cons b l ih =>
    obtain ⟨hb, hl⟩ := List.nodup_cons.1 hl
    by_cases hab : a = b
    · subst hab
      exact ⟨[], l, by simp, hb, rfl⟩
    · obtain ⟨l1, l2, h1, h2, he⟩ := ih hl ((List.mem_cons.1 ha).resolve_left hab) (f b s)
      exact ⟨b :: l1, l2, fun h => h1 ((List.mem_cons.1 h).resolve_left hab), h2, he⟩

theorem forL_sendOne_beside (l : List Nat) (s : State) {q : Nat} (hq : q ∉ l) : SendsBeside q s (forL l State.sendOne s) :=
  forL_holds (SendsBeside q s) l _ s (fun r hr t ht => ht.trans (t.sendOne_beside fun he => hq (he ▸ hr))) (.refl q s)

theorem RoundSent.kept {s s0 t u : State} {r : Nat} (h : RoundSent s t r) (k0 : SendsBeside r s0 s) (k : SendsBeside r t u) : RoundSent s0 u r := by
  have hp := parts_of_sendView k0.view
  have hmode : s.mode = s0.mode := k0.n (f := .devMode) 0 0 (by decide) rfl
  have hstate := k.own .rndState (by decide)
  have hlate := k.own .rndLate (by decide)
  have hte : s.te = s0.te := by rw [State.te, State.te, hp.1]
  obtain ⟨h1, h2, h3, h4⟩ := h
  rw [hmode] at h1 h2
  rw [k0.own .rndState (by decide), k0.own .rndDelayNs (by decide), k0.rnd, hte] at h3 h4
  rw [k0.own .rndLate (by decide)] at h4
  refine ⟨fun hs => ?_, fun hs => ?_, fun h6 hd ho => hstate.trans (h3 h6 hd ho), fun h6 hd hn ho => ?_⟩
  · rw [hstate] at hs
    exact ((h1 hs).from_clock hp (k0.n (f := .pairGeneration) 0 0 (by decide) rfl)).kept k
  · rw [hstate] at hs
    exact (h2 hs).kept k
  · rw [hstate, hlate]
    exact h4 h6 hd hn ho

theorem State.sendAll_sent (s : State) {r : Nat} (hr : r < 16) (hc : s.plant.rounds.contains r = true) (hrole : s.n .pairRole ≠ 2) :
    RoundSent s s.sendAll r := by
  rw [s.sendAll_eq]
  obtain ⟨l1, l2, h1, h2, he⟩ := forL_once List.nodup_range (List.mem_range.2 hr) State.sendOne s
  rw [he]
  have k1 := forL_sendOne_beside l1 s h1
  generalize forL l1 State.sendOne s = u at *
  have hs := u.sendOne_sent r (by rw [(parts_of_sendView k1.view).2.2.1]; exact hc) (by rw [k1.n (f := .pairRole) 0 0 (by decide) rfl]; exact hrole)
  exact hs.kept k1 (forL_sendOne_beside l2 _ h2)

theorem State.sendAll_absent (s : State) {r : Nat} (hr : r < 16) (hc : s.plant.rounds.contains r = false) : s.sendAll.rnd r = s.rnd r := by
  rw [s.sendAll_eq]
  obtain ⟨l1, l2, h1, h2, he⟩ := forL_once List.nodup_range (List.mem_range.2 hr) State.sendOne s
  rw [he]
  have k1 := forL_sendOne_beside l1 s h1
  generalize forL l1 State.sendOne s = u at *
  have hu : u.sendOne r = u := by
    unfold State.sendOne
    rw [(parts_of_sendView k1.view).2.2.1, hc]
    rfl
  rw [hu]
  exact (forL_sendOne_beside l2 u h2).rnd.trans k1.rnd

theorem State.sendAll_leaves (s : State) : sendView s.sendAll.rest = sendView s.rest ∧ QuietFields s s.sendAll sendFields := by
  rw [s.sendAll_eq]
  exact forL_holds (fun t => sendView t.rest = sendView s.rest ∧ QuietFields s t sendFields) _ _ s
    (fun r _ t ht => ⟨(State.sendOne_leaves t r).1.trans ht.1, (ht.2.trans (t.sendOne_leaves r).2).mono (by decide)⟩) ⟨rfl, QuietFields.refl _ _⟩

/-- A counterfoil sends nothing of its own (R406). -/
theorem State.sendAll_counterfoil (s : State) (hrole : s.n .pairRole = 2) : RecordsOut s s.sendAll := by
  rw [s.sendAll_eq]
  refine (forL_holds (fun t => RecordsOut s t ∧ t.n .pairRole = 2) _ _ s (fun r _ t ht => ?_) ⟨.of_out rfl, hrole⟩).1
  refine ⟨?_, (congrArg BitVec.toNat ((t.sendOne_leaves r).2 _ _ _ (by decide) rfl)).trans ht.2⟩
  unfold State.sendOne
  split
  · exact ht.1
  · rw [if_pos ht.2]
    exact ht.1.trans (t.followRound_judged r).out

theorem rest_withClk (s : State) (c : Clock) (a : Tab ArmSt) (b : Tab CellSt) (e : List (Pt × Nat)) (d : Nat) (x : Tab Rnd) (f : List FinCpl) :
    sendParts (s.withClk c) a b e d x f = ((((((s.withArms a).withCells b).withCep e).withClk c).withFree d).withRnds x).withHost
      { s.host with fins := f } := by
  cases s; rfl

/-- Settles O42, round by round. -/
theorem downstreamSendLeaves : Obligations.DownstreamSendLeaves := by
  unfold Obligations.DownstreamSendLeaves
  intro s ht hph
  let u := s.withClk { s.clk with phase := 2, now := max s.clk.now ((s.nextT0 - s.te / 4 + 3) / 4 * 4) }
  have hx : exec .downstreamSend s = .next u.sendAll := congrArg Host.Outcome.next (if_pos ⟨ht, hph⟩)
  rw [hx]
  obtain ⟨hv, hf⟩ := u.sendAll_leaves
  have habsent := fun r hr hc => u.sendAll_absent (r := r) hr hc
  have hsent := fun r hr hc hrole => u.sendAll_sent (r := r) hr hc hrole
  have hidle := u.sendAll_counterfoil
  generalize u.sendAll = t at *
  refine yields_next ⟨(parts_of_sendView hv).1, habsent, fun r hr hc hrole => ?_, fun hrole r e f bs hm => (hidle hrole).mem hm rfl, ?_, hf⟩
  · obtain ⟨h1, h2, h3, h4⟩ := hsent r hr hc hrole
    exact ⟨h1, h2, h3, h4⟩
  · rw [(parts_of_sendView hv).1]
    exact (rest_of_sendView hv).trans (congrArg State.rest (rest_withClk s u.clk t.arms t.cells t.cep t.free t.rnds t.host.fins))

end Sys2Proof.Machine
end

section
/-!
SUPPORT. Proofs/CommitView.lean: what the operations of a commit leave of the clock, the numbers of the envelopes and the mode (chapter 12).
-/
namespace Sys2Proof.Machine

/-- The clock, the numbers of the envelopes and the mode. -/
def State.commitView (s : State) : Clock × (Nat → Nat → Word) × Word := (s.clk, fun k j => s.w .envSeq k j, s.w .devMode 0 0)

section
variable {s t : State}

/-- A change of records other than the clock. -/
theorem State.commitView_of (hc : t.clk = s.clk) (hp : t.pts = s.pts) : t.commitView = s.commitView := by
  simp only [State.commitView, State.w, hc, hp]

theorem State.commitView_of_points (hc : t.clk = s.clk) (hp : ∀ f i j, f = .envSeq ∨ f = .devMode → t.w f i j = s.w f i j) :
    t.commitView = s.commitView :=
  Prod.ext hc (Prod.ext (funext fun _ => funext fun _ => hp _ _ _ (.inl rfl)) (hp _ _ _ (.inr rfl)))

theorem State.commitView_of_quiet (h : t.quiet = s.quiet) : t.commitView = s.commitView :=
  State.commitView_of_points (State.clk_of_quiet h) fun f i j hf => State.w_of_quiet h f i j (by rcases hf with rfl | rfl <;> rfl)

end

@[simp] theorem State.put_commitView (s : State) {f : Field} (i : Nat) (w : Word) (j : Nat) (h1 : f ≠ .envSeq) (h2 : f ≠ .devMode) :
    (s.put f i w j).commitView = s.commitView :=
  State.commitView_of_points rfl fun g k l hg => s.w_put_field w (by rcases hg with rfl | rfl; exacts [h1.symm, h2.symm])

@[simp] theorem State.putN_commitView (s : State) {f : Field} (i v j : Nat) (h1 : f ≠ .envSeq) (h2 : f ≠ .devMode) :
    (s.putN f i v j).commitView = s.commitView := s.put_commitView i _ j h1 h2

@[simp] theorem State.put64_commitView (s : State) {f : Field} (i v : Nat) (h1 : f ≠ .envSeq) (h2 : f ≠ .devMode) :
    (s.put64 f i v).commitView = s.commitView :=
  (State.putN_commitView _ i _ 1 h1 h2).trans (s.putN_commitView i _ 0 h1 h2)

@[simp] theorem State.inc_commitView (s : State) {f : Field} (i j : Nat) (h1 : f ≠ .envSeq) (h2 : f ≠ .devMode) :
    (s.inc f i j).commitView = s.commitView := s.put_commitView i _ j h1 h2

@[simp] theorem State.raise_commitView (s : State) (c k i p : Nat) : (s.raise c k i p).commitView = s.commitView :=
  State.commitView_of_quiet (s.raise_quiet c k i p)

@[simp] theorem State.irqFire_commitView (s : State) (n : Nat) : (s.irqFire n).commitView = s.commitView :=
  State.commitView_of_quiet (s.irqFire_quiet n)

@[simp] theorem State.msixCause_commitView (s : State) (n : Nat) : (s.msixCause n).commitView = s.commitView :=
  State.commitView_of_quiet (s.msixCause_quiet n)

@[simp] theorem State.emit_commitView (s : State) (o : Out) : (s.emit o).commitView = s.commitView := State.commitView_of rfl rfl

@[simp] theorem State.withPair_commitView (s : State) (v : PairSt) : (s.withPair v).commitView = s.commitView := State.commitView_of rfl rfl

@[simp] theorem State.withHost_commitView (s : State) (v : HostIf) : (s.withHost v).commitView = s.commitView := State.commitView_of rfl rfl

@[simp] theorem State.withJrn_commitView (s : State) (v : Journal) : (s.withJrn v).commitView = s.commitView := State.commitView_of rfl rfl

@[simp] theorem State.putCan_commitView (s : State) (c : Nat) (v : Can) : (s.putCan c v).commitView = s.commitView := State.commitView_of rfl rfl

@[simp] theorem State.putFb_commitView (s : State) (c : Nat) (v : Fb) : (s.putFb c v).commitView = s.commitView := State.commitView_of rfl rfl

@[simp] theorem State.putTier_commitView (s : State) (c : Nat) (v : Tier) : (s.putTier c v).commitView = s.commitView :=
  State.commitView_of rfl rfl

@[simp] theorem State.putRing_commitView (s : State) (c : Nat) (v : Ring) : (s.putRing c v).commitView = s.commitView :=
  State.commitView_of rfl rfl

@[simp] theorem State.settle_commitView (s : State) (p : FinCpl → Bool) (st item v : Nat) (w : Await) :
    (s.settle p st item v w).commitView = s.commitView := State.commitView_of rfl rfl

/-! ## CAN sends (R437) -/

@[simp] theorem State.objFlag_commitView (s : State) (c o k : Nat) (b : Bool) : (s.objFlag c o k b).commitView = s.commitView :=
  s.putN_commitView _ _ _ (by decide) (by decide)

@[simp] theorem State.objPending_commitView (s : State) (c o : Nat) : (s.objPending c o).commitView = s.commitView := by
  simp [State.objPending]

theorem State.canDiscard_commitView (s : State) (c : Nat) : (s.canDiscard c).commitView = s.commitView := by
  unfold State.canDiscard
  dsimp only
  rw [State.settle_commitView, forL_keeps State.commitView _ _ _ fun o t => t.objPending_commitView c o, State.addN, State.putN_commitView _ _ _ _ (by decide) (by decide),
    State.putCan_commitView]

theorem State.canSetState_commitView (s : State) (c v : Nat) : (s.canSetState c v).commitView = s.commitView := by
  unfold State.canSetState
  split
  · rfl
  · simp

theorem State.canModeNow_commitView (s : State) (c v : Nat) : (s.canModeNow c v).commitView = s.commitView := by
  unfold State.canModeNow
  extract_lets x s1 y s2 st
  have h1 : s1.commitView = s.commitView := by
    simp only [s1]
    split
    · exact s.canDiscard_commitView c
    · rfl
  have h2 : s2.commitView = s.commitView := (s1.putCan_commitView c _).trans h1
  split
  · exact h2
  · exact (s2.canSetState_commitView c _).trans h2

@[simp] theorem State.canIdle_commitView (s : State) (c : Nat) : (s.canIdle c).commitView = s.commitView := by
  unfold State.canIdle
  extract_lets x s1
  split
  · rfl
  · have h1 : s1.commitView = s.commitView := by
      simp only [s1]
      split
      · exact s.canModeNow_commitView c _
      · rfl
    split
    · exact h1
    · split
      · rw [State.objPending_commitView, State.putCan_commitView, h1]
      · exact h1

theorem State.canQueue_commitView (s : State) (c o : Nat) (data : List Byte) (frank : Option Nat) :
    (s.canQueue c o data frank).commitView = s.commitView := by
  rcases s.canQueue_cases c o data frank with ⟨-, ht⟩ | ⟨-, f, -, ht⟩ | ⟨-, -, ht⟩
  · rw [ht]
    exact s.inc_commitView _ _ (by decide) (by decide)
  · rcases ht with ht | ht <;> rw [ht]
    · exact s.putCan_commitView c _
    · exact (State.putN_commitView _ _ _ _ (by decide) (by decide)).trans (s.putCan_commitView c _)
  · rw [ht, State.canIdle_commitView, State.objPending_commitView, State.putCan_commitView]

theorem State.canSends_commitView (s : State) : s.canSends.commitView = s.commitView := by
  unfold State.canSends
  refine forN_keeps State.commitView _ _ _ fun c t => ?_
  refine (forL_keeps State.commitView _ _ _ fun o u => ?_).trans (t.putCan_commitView c _)
  unfold State.canSendNow
  split
  · exact u.canQueue_commitView c o _ _
  · rfl

/-! ## Completions (R346) -/

@[simp] theorem State.ringSignal_commitView (s : State) (k : Nat) : (s.ringSignal k).commitView = s.commitView :=
  State.commitView_of_quiet (s.ringSignal_quiet k)

@[simp] theorem State.ringWrote_commitView (s : State) (k : Nat) : (s.ringWrote k).commitView = s.commitView := by
  unfold State.ringWrote
  extract_lets r r1 s1
  have h1 : s1.commitView = s.commitView :=
    (State.commitView_of_quiet (State.mirror_quiet _ _)).trans (s.putRing_commitView k r1)
  split
  · exact (State.ringSignal_commitView _ k).trans ((s1.putRing_commitView k _).trans h1)
  · exact h1

theorem State.unreserve_commitView (s : State) (c : Cmd) : (s.unreserve c).commitView = s.commitView := by
  unfold State.unreserve
  split
  · exact s.putRing_commitView _ _
  · rfl

theorem State.cplCount_commitView (s : State) (st : Nat) : (s.cplCount st).commitView = s.commitView := by
  unfold State.cplCount
  repeat' split
  all_goals simp

theorem State.cplWrite_commitView (s : State) (c : Cmd) (b : Bool) (st item v e : Nat) : (s.cplWrite c b st item v e).commitView = s.commitView := by
  unfold State.cplWrite
  extract_lets s1 r x s2
  have h1 : s1.commitView = s.commitView := s.unreserve_commitView c
  have h2 : s2.commitView = s.commitView := (State.ringWrote_commitView _ _).trans ((s1.emit_commitView _).trans h1)
  split
  · split
    · exact h2
    · exact (s2.cplCount_commitView st).trans h2
  · exact h1

theorem State.writeFins_commitView (s : State) : s.writeFins.commitView = s.commitView := by
  unfold State.writeFins
  dsimp only
  refine (forL_keeps State.commitView _ _ _ fun f t => ?_).trans (s.withHost_commitView _)
  have h1 : (t.readResults f).commitView = t.commitView := by
    unfold State.readResults
    split
    · split
      · exact t.emit_commitView _
      · rfl
    · rfl
  unfold State.finalWrite
  split
  · exact (State.unreserve_commitView _ _).trans h1
  · exact (State.cplWrite_commitView _ _ _ _ _ _ _).trans h1

/-! ## The hash message (R416, R417) -/

@[simp] theorem State.pubEligible_commitView (s : State) : s.pubEligible.commitView = s.commitView :=
  s.putN_commitView _ _ _ (by decide) (by decide)

theorem State.setPairField_commitView (s : State) {f : Field} (v : Nat) (h1 : f ≠ .envSeq) (h2 : f ≠ .devMode) :
    (s.setPairField f v).commitView = s.commitView := by
  unfold State.setPairField
  split
  · rfl
  · exact (State.msixCause_commitView _ _).trans (s.putN_commitView _ _ _ h1 h2)

@[simp] theorem State.setProt_commitView (s : State) (p : Nat) : (s.setProt p).commitView = s.commitView := by
  unfold State.setProt
  split
  · exact s.pubEligible_commitView
  · extract_lets s1 s2
    have h1 : s1.commitView = s.commitView := s.setPairField_commitView p (by decide) (by decide)
    have h2 : s2.commitView = s1.commitView := by
      simp only [s2]
      split
      · exact s1.raise_commitView _ _ _ _
      · split
        · exact s1.raise_commitView _ _ _ _
        · rfl
    exact s2.pubEligible_commitView.trans (h2.trans h1)

theorem State.hashCompare_commitView (s : State) : s.hashCompare.commitView = s.commitView := by
  unfold State.hashCompare
  split
  · split
    · dsimp only
      split
      · exact s.withPair_commitView _
      · split
        · unfold State.hashMatch
          split
          · simp
          · exact s.withPair_commitView _
        · unfold State.hashMismatch
          dsimp only
          split <;> split <;> simp
    · rfl
  · rfl

theorem State.hashSend_commitView (s : State) : s.hashSend.commitView = s.commitView := by
  unfold State.hashSend
  split
  · rfl
  · extract_lets live h s1 s2
    have h1 : s1.commitView = s.commitView := by
      simp only [s1]
      split
      · exact s.put64_commitView _ _ (by decide) (by decide)
      · rfl
    refine (State.hashCompare_commitView _).trans ((s2.withPair_commitView _).trans ?_)
    exact (s1.emit_commitView _).trans h1

theorem State.warmSend_commitView (s : State) : s.warmSend.commitView = s.commitView := by
  unfold State.warmSend
  split
  · exact s.emit_commitView _
  · rfl

/-! ## The mailbag (chapter 13) -/

@[simp] theorem State.putCapture_commitView (s : State) (i : Nat) (c : Capture) : (s.putCapture i c).commitView = s.commitView :=
  State.commitView_of_quiet (s.putCapture_quiet i c)

theorem State.shortenCapture_commitView (i n : Nat) (s : State) : (State.shortenCapture i n s).commitView = s.commitView := by
  induction n generalizing s with
  | zero => rfl
  | succ n ih =>
    unfold State.shortenCapture
    dsimp only
    split
    · exact (ih _).trans (s.putCapture_commitView i _)
    · rfl

@[simp] theorem State.append_commitView (s : State) (m : MailRec) : (s.append m).commitView = s.commitView := by
  unfold State.append
  dsimp only
  split
  · have h1 := fun (t : State) (i : Nat) (c : Capture) (n : Nat) => (State.shortenCapture_commitView i n (t.putCapture i c)).trans (t.putCapture_commitView i c)
    split
    · exact (State.raise_commitView _ _ _ _ _).trans ((h1 _ _ _ _).trans (s.withJrn_commitView _))
    · exact (h1 _ _ _ _).trans (s.withJrn_commitView _)
  · exact s.withJrn_commitView _

@[simp] theorem State.jrnFigures_commitView (s : State) : s.jrnFigures.commitView = s.commitView := by
  unfold State.jrnFigures
  extract_lets s1
  have h1 : s1.commitView = s.commitView := by
    simp only [s1]
    split <;> simp
  refine (State.commitView_of_quiet (State.jrnPublish_quiet _)).trans ?_
  exact (State.put_commitView _ _ _ _ (by decide) (by decide)).trans ((s1.put_commitView _ _ _ (by decide) (by decide)).trans h1)

@[simp] theorem State.fitWindow_commitView (s : State) : s.fitWindow.commitView = s.commitView := s.withJrn_commitView _

theorem State.journalReleaseDo_commitView (s : State) : s.journalReleaseDo.commitView = s.commitView := by
  unfold State.journalReleaseDo
  dsimp only
  split
  · exact s.raise_commitView _ _ _ _
  · rw [State.raise_commitView, State.jrnFigures_commitView, State.fitWindow_commitView]
    exact forL_keeps State.commitView _ _ _ fun e t => by simp

theorem State.recordEpoch_commitView (s : State) (n : Nat) : (s.recordEpoch n).commitView = s.commitView := by
  unfold State.recordEpoch
  split
  · extract_lets s1 s2 s3
    have h1 : s1.commitView = s.commitView := s.append_commitView _
    have h2 : s2.commitView = s1.commitView := by
      simp only [s2]
      split
      · simp [State.writeConfig]
      · split
        · exact s1.append_commitView _
        · rfl
    rw [State.jrnFigures_commitView, State.fitWindow_commitView]
    exact (s2.withJrn_commitView _).trans (h2.trans h1)
  · exact s.withJrn_commitView _

end Sys2Proof.Machine
end

section
/-!
SUPPORT. Proofs/CommitAndSeal.lean: the ledger commit, and the seal of an envelope (sections 12.1 and 12.5).
-/
namespace Sys2Proof.Machine

/-! ## Numbers of envelopes (R370) -/

theorem State.n64_of_commitView {s t : State} (h : t.commitView = s.commitView) (k : Nat) : t.n64 .envSeq k = s.n64 .envSeq k := by
  have hw := fun j => congrFun (congrFun (congrArg (fun v => v.2.1) h) k) j
  exact congrArg₂ (fun a b : Word => BitVec.toNat a + 2 ^ 32 * BitVec.toNat b) (hw 0) (hw 1)

theorem State.mode_of_commitView {s t : State} (h : t.commitView = s.commitView) : t.mode = s.mode :=
  congrArg (fun v : Clock × (Nat → Nat → Word) × Word => BitVec.toNat v.2.2) h

theorem State.compose_commitView (s : State) (a tier : Nat) : (s.compose a tier).commitView =
    (s.put64 .envSeq (tierKey a tier) (s.n64 .envSeq (tierKey a tier) + 1)).commitView := by
  have hwrite : ∀ (u : State) (e : Envelope), (u.envWrite a tier e).commitView = u.commitView := fun u e => by
    have hroom : ∀ k, (u.envRoom k).commitView = u.commitView := fun k => by
      unfold State.envRoom
      dsimp only
      split
      · exact (State.putRing_commitView _ _ _).trans (u.emit_commitView _)
      · rfl
    exact (State.putTier_commitView _ _ _).trans ((State.emit_commitView _ _).trans (hroom _))
  have hskip : ∀ (u : State) (c : Nat), (u.envSkip a tier c).commitView = u.commitView := fun u c => by
    unfold State.envSkip
    extract_lets k x s1 s2 s3
    have h2 : s2.commitView = u.commitView :=
      (State.putN_commitView _ _ _ _ (by decide) (by decide)).trans ((State.inc_commitView _ _ _ (by decide) (by decide)).trans (u.putTier_commitView k _))
    have h3 : s3.commitView = u.commitView := by
      simp only [s3]
      split
      · exact h2
      · exact (s2.raise_commitView _ _ _ _).trans h2
    split
    · exact (s3.settle_commitView _ _ _ _ _).trans h3
    · exact h3
  unfold State.compose
  extract_lets k seq s1 e c s2
  have h2 : s2.commitView = s1.commitView := by
    simp only [s2]
    split
    · split
      · exact hwrite s1 _
      · exact hskip s1 _
    · split
      · exact s1.settle_commitView _ _ _ _ _
      · rfl
  split
  · exact (s2.putTier_commitView _ _).trans h2
  · exact h2

/-- Composing an envelope counts it, and no other. -/
theorem State.compose_counts (s : State) (a tier : Nat) : let t := s.compose a tier
    t.clk = s.clk ∧ t.mode = s.mode ∧ t.n64 .envSeq (tierKey a tier) = (s.n64 .envSeq (tierKey a tier) + 1) % 2 ^ 64 ∧
    ∀ k, k ≠ tierKey a tier → t.n64 .envSeq k = s.n64 .envSeq k := by
  have h := s.compose_commitView a tier
  refine ⟨congrArg Prod.fst h, (State.mode_of_commitView h).trans ?_, (State.n64_of_commitView h _).trans (s.n64_put64_mod _ _ _), fun k hk =>
    (State.n64_of_commitView h k).trans ?_⟩
  · exact (State.n_putN_field _ (by decide)).trans (State.n_putN_field _ (by decide))
  · have hw : ∀ v j, (s.put64 .envSeq (tierKey a tier) v).n .envSeq k j = s.n .envSeq k j := fun v j =>
      (State.n_ext (State.w_put_ne _ _ (by simp [hk]))).trans (State.n_ext (State.w_put_ne _ _ (by simp [hk])))
    simp only [State.n64, hw]

/-- Both agents' envelopes of a tier. -/
def State.composeTier (s : State) (tier : Nat) : State := forL [0, 1] (fun a v => if v.sealDue a tier then v.compose a tier else v) s

theorem State.composeAll_eq (s : State) : s.composeAll =
    if s.mode = 0 ∨ (s.mode = 7 ∧ ¬s.rep.done) then s else ((s.composeTier 0).composeTier 1).composeTier 2 := by
  have h : ∀ (F : Nat → State → State) (u : State), forL [0, 1, 2] F u = F 2 (F 1 (F 0 u)) := fun _ _ => rfl
  unfold State.composeAll State.composeTier
  rw [h]

/-- Composing what is due of a tier leaves the tiers P alone, when it is another tier. -/
theorem State.composeTier_keeps (s : State) (tier : Nat) : let t := s.composeTier tier
    t.clk = s.clk ∧ (1 ≤ tier → tier ≤ 2 → ∀ a, a < 2 → t.n64 .envSeq (tierKey a 0) = s.n64 .envSeq (tierKey a 0)) := by
  refine forL_holds (fun t => t.clk = s.clk ∧ (1 ≤ tier → tier ≤ 2 → ∀ a, a < 2 → t.n64 .envSeq (tierKey a 0) = s.n64 .envSeq (tierKey a 0)))
    _ _ s (fun b _ t ht => ?_) ⟨rfl, fun _ _ _ _ => rfl⟩
  split
  · obtain ⟨c1, -, -, c4⟩ := t.compose_counts b tier
    exact ⟨c1.trans ht.1, fun h1 h2 a ha => (c4 _ (by simp only [tierKey]; omega)).trans (ht.2 h1 h2 a ha)⟩
  · exact ht

theorem State.composeTier_zero (s : State) : s.composeTier 0 = (s.compose 0 0).compose 1 0 := by
  simp only [State.composeTier, forL, State.sealDue, if_true]

theorem State.composeAll_clk (s : State) : s.composeAll.clk = s.clk := by
  rw [s.composeAll_eq]
  split
  · rfl
  · exact (State.composeTier_keeps _ 2).1.trans ((State.composeTier_keeps _ 1).1.trans (s.composeTier_keeps 0).1)

theorem State.composeAll_counts (s : State) (h0 : s.mode ≠ 0) (h7 : s.mode ≠ 7) {a : Nat} (ha : a < 2) :
    s.composeAll.n64 .envSeq (tierKey a 0) = (s.n64 .envSeq (tierKey a 0) + 1) % 2 ^ 64 := by
  rw [s.composeAll_eq, if_neg (not_or.2 ⟨h0, fun h => h7 h.1⟩), s.composeTier_zero]
  obtain ⟨-, -, a3, a4⟩ := s.compose_counts 0 0
  generalize s.compose 0 0 = u at *
  obtain ⟨-, -, b3, b4⟩ := u.compose_counts 1 0
  generalize u.compose 1 0 = v at *
  have c := (v.composeTier_keeps 1).2 (by decide) (by decide) a ha
  generalize v.composeTier 1 = w at *
  refine ((w.composeTier_keeps 2).2 (by decide) (by decide) a ha).trans (c.trans ?_)
  match a, ha with
  | 0, _ => exact (b4 _ (by decide)).trans a3
  | 1, _ => exact b3.trans (by rw [a4 _ (by decide)])

/-! ## The commit (R355, R360) -/

/-- The part of a commit before the envelopes. -/
def State.beforeEnvelopes (s : State) : State :=
  let s1 := (s.irqFire 7).canSends.writeFins
  if s1.n .pairRole = 0 then s1 else (s1.hashSend).warmSend

/-- The part of a commit after the envelopes. -/
def State.afterEnvelopes (s : State) : State :=
  let s3 := if s.released then s.journalReleaseDo else s
  s3.recordEpoch s3.recordFlags

theorem State.afterCommit_eq (s : State) : s.afterCommit = s.beforeEnvelopes.composeAll.afterEnvelopes := rfl

theorem State.beforeEnvelopes_commitView (s : State) : s.beforeEnvelopes.commitView = s.commitView := by
  unfold State.beforeEnvelopes
  extract_lets s1
  have h1 : s1.commitView = s.commitView :=
    (State.writeFins_commitView _).trans ((State.canSends_commitView _).trans (s.irqFire_commitView 7))
  split
  · exact h1
  · exact (State.warmSend_commitView _).trans (s1.hashSend_commitView.trans h1)

theorem State.afterEnvelopes_commitView (s : State) : s.afterEnvelopes.commitView = s.commitView := by
  unfold State.afterEnvelopes
  extract_lets s3
  have h3 : s3.commitView = s.commitView := by
    simp only [s3]
    split
    · exact s.journalReleaseDo_commitView
    · rfl
  exact (s3.recordEpoch_commitView _).trans h3

theorem State.afterCommit_counts (s : State) : s.afterCommit.clk = s.clk ∧
    (s.mode ≠ 0 → s.mode ≠ 7 → ∀ a, a < 2 → s.afterCommit.n64 .envSeq (tierKey a 0) = (s.n64 .envSeq (tierKey a 0) + 1) % 2 ^ 64) := by
  rw [s.afterCommit_eq]
  have h1 := s.beforeEnvelopes_commitView
  generalize s.beforeEnvelopes = u at *
  have h2 := u.composeAll_clk
  have h3 := fun h0 h7 a ha => u.composeAll_counts h0 h7 (a := a) ha
  generalize u.composeAll = v at *
  have h4 := v.afterEnvelopes_commitView
  generalize v.afterEnvelopes = w at *
  have hm := State.mode_of_commitView h1
  refine ⟨(congrArg Prod.fst h4 :).trans (h2.trans (congrArg Prod.fst h1 :)), fun h0 h7 a ha => (State.n64_of_commitView h4 _).trans ?_⟩
  rw [h3 (by rwa [hm]) (by rwa [hm]) a ha, State.n64_of_commitView h1]

/-- The counts of the cells of some rounds. -/
theorem forL_countCells (l : List Nat) (s : State) : let t := forL l (fun r t => t.countCells r) s
    t = s.withPts t.pts ∧ (∀ f i j, f ≠ .rndCellsPresent → f ≠ .rndCellsActive → t.w f i j = s.w f i j) ∧
    ∀ r ∈ l, t.w .rndCellsPresent r = Word.ofNat (s.present r).length ∧
      t.w .rndCellsActive r = Word.ofNat ((s.present r).filter (fun p => s.posState r p == 5)).length := by
  have hstep : ∀ (u : State) (r : Nat), let t := u.countCells r
      t = u.withPts t.pts ∧ (∀ f i j, f ≠ .rndCellsPresent → f ≠ .rndCellsActive → t.w f i j = u.w f i j) ∧
      t.w .rndCellsPresent r = Word.ofNat (u.present r).length ∧
      t.w .rndCellsActive r = Word.ofNat ((u.present r).filter (fun p => u.posState r p == 5)).length ∧
      ∀ q, q ≠ r → t.w .rndCellsPresent q = u.w .rndCellsPresent q ∧ t.w .rndCellsActive q = u.w .rndCellsActive q := fun u r => by
    unfold State.countCells
    refine ⟨rfl, fun f i j h1 h2 => (State.w_putN_field _ h2).trans (State.w_putN_field _ h1), ?_, State.w_putN_same _ _ _ _ _, fun q hq => ⟨?_, ?_⟩⟩
    · exact (State.w_putN_field _ (by decide)).trans (State.w_putN_same _ _ _ _ _)
    · exact (State.w_putN_field _ (by decide)).trans (State.w_put_ne _ _ (by simp [hq]))
    · exact (State.w_put_ne _ _ (by simp [hq])).trans (State.w_putN_field _ (by decide))
  have hsame : ∀ (u t : State), (∀ f i j, f ≠ .rndCellsPresent → f ≠ .rndCellsActive → t.w f i j = u.w f i j) → ∀ r,
      t.present r = u.present r ∧ t.posState r = u.posState r := fun u t h r =>
    ⟨State.present_of_pos fun p => h _ _ _ (by decide) (by decide),
      funext fun p => congrArg BitVec.toNat (h _ _ _ (by decide) (by decide))⟩
  have hone : ∀ (l : List Nat) (u : State) (r : Nat), r ∉ l → (forL l (fun r t => t.countCells r) u).w .rndCellsPresent r = u.w .rndCellsPresent r ∧
      (forL l (fun r t => t.countCells r) u).w .rndCellsActive r = u.w .rndCellsActive r := fun l u r hr =>
    forL_holds (fun t => t.w .rndCellsPresent r = u.w .rndCellsPresent r ∧ t.w .rndCellsActive r = u.w .rndCellsActive r) l _ u
      (fun q hq t ht => by
        obtain ⟨-, -, -, -, h5⟩ := hstep t q
        have hne : r ≠ q := fun he => hr (he ▸ hq)
        exact ⟨(h5 r hne).1.trans ht.1, (h5 r hne).2.trans ht.2⟩) ⟨rfl, rfl⟩
  induction l generalizing s with
  | nil => exact ⟨rfl, fun _ _ _ _ _ => rfl, fun r hr => absurd hr (by simp)⟩
  | cons q l ih =>
    obtain ⟨a1, a2, a3, a4, -⟩ := hstep s q
    obtain ⟨b1, b2, b3⟩ := ih (s.countCells q)
    have hq := hone l (s.countCells q) q
    rw [show forL (q :: l) (fun r t => t.countCells r) s = forL l (fun r t => t.countCells r) (s.countCells q) from rfl]
    generalize s.countCells q = u at *
    generalize forL l (fun r t => t.countCells r) u = t at *
    refine ⟨?_, fun f i j h1 h2 => (b2 f i j h1 h2).trans (a2 f i j h1 h2), fun r hr => ?_⟩
    · rw [a1] at b1
      exact b1
    · obtain ⟨c1, c2⟩ := hsame s u a2 r
      by_cases hl : r ∈ l
      · have := b3 r hl
        rwa [c1, c2] at this
      · obtain rfl : r = q := (List.mem_cons.1 hr).resolve_right hl
        exact ⟨(hq hl).1.trans a3, (hq hl).2.trans a4⟩

/-- What the ledger holds after the commit of a state. -/
def Committed (s t : State) : Prop :=
  (∀ f i j, f ≠ .rndCellsPresent → f ≠ .rndCellsActive → Store.get t.led ⟨f, i, j⟩ = s.w f i j) ∧
  ∀ r ∈ s.plant.rounds, Store.get t.led ⟨.rndCellsPresent, r, 0⟩ = Word.ofNat (s.present r).length ∧
    Store.get t.led ⟨.rndCellsActive, r, 0⟩ = Word.ofNat ((s.present r).filter (fun p => s.posState r p == 5)).length

theorem State.publishLedger_commits (s : State) : let t := s.publishLedger
    t.led = t.pts ∧ t = (s.withPts t.pts).withLed t.pts ∧ Committed s t ∧
    ∀ f i j, f ≠ .rndCellsPresent → f ≠ .rndCellsActive → t.w f i j = s.w f i j := by
  unfold State.publishLedger
  obtain ⟨h1, h2, h3⟩ := forL_countCells s.plant.rounds s
  generalize forL s.plant.rounds (fun r t => t.countCells r) s = u at *
  refine ⟨rfl, ?_, ⟨h2, h3⟩, h2⟩
  rw [h1]
  rfl

theorem State.fbStart_leaves (s : State) : s.fbStart.commitView = s.commitView ∧ s.fbStart.led = s.led :=
  ⟨forN_keeps State.commitView _ _ _ fun n t => by split; exacts [t.putFb_commitView n _, rfl],
    forN_keeps State.led _ _ _ fun n t => by split <;> rfl⟩

theorem State.led_of_kept {s t : State} (h : t.kept = s.kept) : t.led = s.led := by
  simp only [State.kept, Prod.mk.injEq] at h
  exact h.2.2.2.2.2.2.2

theorem ledgerCommit_commits (s : State) (ht : s.ticking = true) (hp : s.clk.phase = 2) : Yields (exec .ledgerCommit s) fun t =>
    t.clk = { s.clk with now := max s.clk.now (min (s.clk.t0 + s.te * 4 / 5) s.nextT0), phase := 3 } ∧ Committed s t ∧
    (s.mode = 0 → t.led = t.pts ∧ t = ((s.withClk t.clk).withPts t.pts).withLed t.pts) ∧
    (s.mode ≠ 0 → s.mode ≠ 7 → ∀ a, a < 2 → t.n64 .envSeq (tierKey a 0) = (s.n64 .envSeq (tierKey a 0) + 1) % 2 ^ 64) := by
  let u := s.withClk { s.clk with now := max s.clk.now (min (s.clk.t0 + s.te * 4 / 5) s.nextT0), phase := 3 }
  have hx : exec .ledgerCommit s = .next (if u.mode = 0 then u.publishLedger else u.publishLedger.fbStart.afterCommit) :=
    congrArg Host.Outcome.next (if_pos ⟨ht, hp⟩)
  rw [hx]
  refine yields_next ?_
  obtain ⟨p1, p2, p3, p4⟩ := u.publishLedger_commits
  generalize u.publishLedger = v at *
  have hclk : v.clk = u.clk := (congrArg State.clk p2 :)
  by_cases h0 : s.mode = 0
  · rw [if_pos (show u.mode = 0 from h0), hclk]
    exact ⟨rfl, p3, fun _ => ⟨p1, p2⟩, fun h => absurd h0 h⟩
  · rw [if_neg (show ¬u.mode = 0 from h0)]
    have hw := fun f i j hf hg => (p4 f i j hf hg).trans (show u.w f i j = s.w f i j from rfl)
    obtain ⟨f1, f2⟩ := v.fbStart_leaves
    generalize v.fbStart = w at *
    have hled : w.afterCommit.led = v.led := (State.led_of_kept w.afterCommit_kept).trans f2
    have hmode : w.mode = s.mode := (State.mode_of_commitView f1).trans (congrArg BitVec.toNat (p4 _ _ _ (by decide) (by decide)))
    obtain ⟨hkeep, hcount⟩ := w.afterCommit_counts
    have hseq : ∀ k, w.n64 .envSeq k = s.n64 .envSeq k := fun k => (State.n64_of_commitView f1 k).trans (by
      simp only [State.n64, State.n, hw .envSeq _ _ (by decide) (by decide)])
    generalize w.afterCommit = t at *
    refine ⟨hkeep.trans ((congrArg Prod.fst f1 :).trans hclk), ?_, fun h => absurd h h0, fun _ h7 a ha => ?_⟩
    · unfold Committed at p3 ⊢
      rw [hled]
      exact p3
    · rw [hcount (hmode ▸ h0) (hmode ▸ h7) a ha, hseq]

/-! ## The seal (R369) -/

/-- What the write of a ring leaves alone, beside the rings and the outputs. -/
def State.sealView (s : State) : Clock × Journal × Sorting × Store × PairSt × Tab Drv × Tab Rnd × Tab Tier × List FinCpl :=
  (s.clk, s.jrn, s.so, s.led, s.pair, s.drvs, s.rnds, s.env, s.host.fins)

theorem State.irqFire_sealView (s : State) (n : Nat) : (s.irqFire n).sealView = s.sealView := by
  have hrep : ∀ (u : State) (c : Nat), (u.represent c).1.sealView = u.sealView := fun u c => by
    unfold State.represent
    split
    · rfl
    · exact forN_keeps State.sealView _ _ _ fun _ _ => rfl
  have hwake : ∀ (u : State) (m : Nat), (u.irqWakeFor m).sealView = u.sealView := fun u m => by
    unfold State.irqWakeFor
    dsimp only
    split
    · exact forN_keeps State.sealView _ _ _ fun _ _ => by split <;> rfl
    · rfl
  unfold State.irqFire
  split
  · unfold State.irqSettle
    exact (forL_keeps State.sealView _ _ _ fun _ _ => hwake _ _).trans
      ((forL_keeps State.sealView _ (fun (d : Nat × Nat) t => t.inc .coreDeadLetters d.1) _ fun _ _ => rfl).trans ((hrep _ _).trans rfl))
  · rfl

theorem State.ringSignal_sealView (s : State) (k : Nat) : (s.ringSignal k).sealView = s.sealView := by
  unfold State.ringSignal
  split
  · unfold State.msix
    split <;> rfl
  · exact s.irqFire_sealView _

theorem State.ringSignal_points (s : State) (k : Nat) : QuietPoints s (s.ringSignal k) [] :=
  QuietPoints.of_quiet (s.ringSignal_quiet k)

/-- A ring after one more entry. -/
def Ring.wrote (r : Ring) (now : Nat) : Ring :=
  { r with idx := (r.idx + 1) % (2 * r.size), seq := r.seq + 1, unsig := r.unsig + 1, unsigAt := if r.unsig = 0 then now else r.unsigAt }

/-- The ring and its mirror after one more entry. -/
def State.ringMoved (s : State) (k : Nat) : State := (s.putRing k ((s.ring k).wrote s.now)).mirror k

theorem State.ringWrote_eq (s : State) (k : Nat) : s.ringWrote k = s.ringMoved k ∨
    s.ringWrote k = ((s.ringMoved k).putRing k { (s.ring k).wrote s.now with unsig := 0 }).ringSignal k := by
  unfold State.ringWrote
  dsimp only
  split
  · exact .inr rfl
  · exact .inl rfl

/-- The write of an entry into a ring (R334, R349). -/
theorem State.ringWrote_leaves (s : State) (k : Nat) : let t := s.ringWrote k
    let r := s.ring k
    t.sealView = s.sealView ∧ QuietPoints s t [] ∧ OutKept s t ∧
    Out.mirror k (r.spell ((r.idx + 1) % (2 * r.size))) (s.epoch % 2 ^ 32) ∈ t.out ∧
    (t.ring k).idx = (r.idx + 1) % (2 * r.size) ∧ (t.ring k).seq = r.seq + 1 ∧ ∀ m, m ≠ k → t.ring m = s.ring m := by
  intro t r
  have hne := fun m hm => s.ringWrote_ring_ne (k := k) (j := m) hm
  have h1 : (s.ringMoved k).ring k = r.wrote s.now := s.ring_putRing_same k _
  have hv1 : (s.ringMoved k).sealView = s.sealView := rfl
  have hm1 : Out.mirror k (r.spell ((r.idx + 1) % (2 * r.size))) (s.epoch % 2 ^ 32) ∈ (s.ringMoved k).out := by
    have hm : (s.ringMoved k).out = Out.mirror k (((s.ringMoved k).ring k).spell ((s.ringMoved k).ring k).idx) (s.epoch % 2 ^ 32) :: s.out := rfl
    rw [hm, h1]
    exact List.mem_cons_self ..
  have hp1 : QuietPoints s (s.ringMoved k) [] := fun _ _ _ _ _ => rfl
  rcases s.ringWrote_eq k with he | he
  · exact ⟨(congrArg State.sealView he).trans hv1, by rw [show t = _ from he]; exact hp1, (s.ringWrote_recordsOut k).kept, by rw [show t = _ from he]; exact hm1,
      by rw [show t = _ from he, h1]; rfl, by rw [show t = _ from he, h1]; rfl, hne⟩
  · have hx := (s.ringMoved k).ring_putRing_same k { r.wrote s.now with unsig := 0 }
    have hrv : ((s.ringMoved k).putRing k { r.wrote s.now with unsig := 0 }).sealView = (s.ringMoved k).sealView := rfl
    have hrp : QuietPoints (s.ringMoved k) ((s.ringMoved k).putRing k { r.wrote s.now with unsig := 0 }) [] := fun _ _ _ _ _ => rfl
    have hro : OutKept (s.ringMoved k) ((s.ringMoved k).putRing k { r.wrote s.now with unsig := 0 }) := .of_out rfl
    have ht : t = ((s.ringMoved k).putRing k { r.wrote s.now with unsig := 0 }).ringSignal k := he
    generalize (s.ringMoved k).putRing k { r.wrote s.now with unsig := 0 } = u at *
    have hring : t.ring k = { r.wrote s.now with unsig := 0 } := by rw [ht, State.ringSignal_ring, hx]
    refine ⟨?_, ?_, (s.ringWrote_recordsOut k).kept, ?_, by rw [hring]; rfl, by rw [hring]; rfl, hne⟩
    · rw [ht]
      exact (u.ringSignal_sealView k).trans (hrv.trans hv1)
    · rw [ht]
      exact ((hp1.trans hrp).trans (u.ringSignal_points k)).mono (by simp)
    · rw [ht]
      exact (hro.trans (u.ringSignal_recordsOut k).kept) hm1

theorem envelopeSealed_seals (agent : Agent) (tier : Fin 3) (time seq epoch t0 : Nat) (s : State) :
    let k := tierKey (agentNo agent) tier
    let key := ringKey (agentNo agent) (17 + tier)
    let r := s.ring key
    (s.tier k).writing = some (seq, epoch, t0) → r.live = true → t0 ≤ time →
    Yields (exec (.envelopeSealed agent tier time) s) fun t =>
      (t.tier k).writing = none ∧ (∀ m, m ≠ k → t.tier m = s.tier m) ∧
      t.n64 .envSealedEpoch k = (s.tier k).prevEpoch % 2 ^ 64 ∧ t.w .envSealNs k 0 = Word.ofNat (time - t0) ∧
      Out.seal key seq ∈ t.out ∧ Out.mirror key (r.spell ((r.idx + 1) % (2 * r.size))) (s.epoch % 2 ^ 32) ∈ t.out ∧
      (t.ring key).idx = (r.idx + 1) % (2 * r.size) ∧ (t.ring key).seq = r.seq + 1 ∧ (∀ m, m ≠ key → t.ring m = s.ring m) ∧
      (∀ f ∈ s.host.fins, f.cmd.agent = agentNo agent → tier = 2 → ∀ e, e ≤ epoch → f.wait = .sealF e →
        { f with status := 0, item := noItem, value := 0, wait := .ready } ∈ t.host.fins) ∧
      t.host.fins.length = s.host.fins.length ∧ t.clk = { s.clk with now := max s.clk.now time } ∧
      QuietPoints s t [⟨.envSealedEpoch, k, 0⟩, ⟨.envSealedEpoch, k, 1⟩, ⟨.envSealNs, k, 0⟩] ∧
      t.jrn = s.jrn ∧ t.so = s.so ∧ t.led = s.led ∧ t.pair = s.pair ∧ t.drvs = s.drvs ∧ t.rnds = s.rnds := by
  intro k key r hwr hlive htime
  let u := ((s.advance time).putTier k { s.tier k with writing := none }).emit (.seal key seq)
  let p : FinCpl → Bool := fun f => tier.val == 2 && f.sealIn (agentNo agent) 0 epoch
  have hx : exec (.envelopeSealed agent tier time) s =
      .next ((((u.ringWrote key).put64 .envSealedEpoch k (s.tier k).prevEpoch).putN .envSealNs k (time - t0)).settle p 0 noItem 0 .ready) := by
    refine congrArg Host.Outcome.next ?_
    unfold State.envSeal
    dsimp only
    rw [hwr]
    exact if_pos ⟨hlive, htime⟩
  obtain ⟨c1, c2, c3, c4, c5, c6, c7⟩ := u.ringWrote_leaves key
  rw [hx]
  generalize u.ringWrote key = v at *
  simp only [State.sealView, Prod.mk.injEq] at c1
  obtain ⟨g1, g2, g3, g4, g5, g6, g7, g8, g9⟩ := c1
  have htier : ∀ m, v.tier m = if m = k then { s.tier k with writing := none } else s.tier m := fun m => by
    rw [State.tier, g8]
    by_cases hm : m = k
    · rw [if_pos hm, hm]
      exact Tab.get_put_same ..
    · rw [if_neg hm]
      exact Tab.get_put_ne _ _ _ hm
  refine yields_next ⟨?_, fun m hm => ?_, ?_, State.w_putN_same _ _ _ _ _, c3 (List.mem_cons_self ..), c4, c5, c6, c7, ?_, ?_, g1, ?_, g2, g3, g4, g5, g6, g7⟩
  · exact (congrArg Tier.writing ((htier k).trans (if_pos rfl)) :)
  · exact (htier m).trans (if_neg hm)
  · exact (State.n64_putN_field _ (by decide)).trans (State.n64_put64_mod _ _ _ _)
  · intro f hf hag ht e he hw
    refine List.mem_map.2 ⟨f, by rw [show (((v.put64 .envSealedEpoch k (s.tier k).prevEpoch).putN .envSealNs k (time - t0))).host.fins = v.host.fins from rfl, g9]; exact hf, if_pos ?_⟩
    simp [p, ht, FinCpl.sealIn, hag, hw, he]
  · exact (List.length_map _).trans (congrArg List.length g9)
  · have hu : QuietPoints s u [] := fun _ _ _ _ _ => rfl
    exact ((hu.trans c2).trans (((SamePoints.put64 v .envSealedEpoch k _).trans (SamePoints.put _ .envSealNs k _ 0)).quiet)).mono (by simp)

/-- Settles O47: the commit publishes all points at once and counts the envelopes of tier P, and a seal ends the envelope. -/
theorem commitAndEnvelopes : Obligations.CommitAndEnvelopes := by
  unfold Obligations.CommitAndEnvelopes
  refine ⟨fun s ht hp => ?_, envelopeSealed_seals⟩
  obtain ⟨t, hx, h1, ⟨h2, h3⟩, h4, h5⟩ := ledgerCommit_commits s ht hp
  exact ⟨t, hx, h1, h2, h3, h4, h5⟩

end Sys2Proof.Machine
end

section
/-!
SUPPORT. Proofs/DescriptorRefused.lean: a descriptor that finds poste restante full, with the sorting office full of open postmarks
(sections 11.7 and 17.5).
-/
namespace Sys2Proof.Machine

/-! ## PR_FULL closes a postmark, whose record goes into the host's event ring (R345, R486, R487) -/

/-- A descriptor of an operation, for the earliest possible apply-epoch or a given one. -/
def plainDesc (apply : Nat) (op : Op) : Desc :=
  ⟨{ major := 1, minor := 0, formOk := true, opcode := none, notice := false, quiet := false, tag := 5, apply := apply }, op⟩

/-- A descriptor that waits for a later apply-epoch. -/
def lateNop : Desc := plainDesc 2 .nop

/-- A ring of 16 entries in use. -/
def usedRing : Ring := { Ring.init with logSize := 4, enable := true }

/-- A descriptor of the host is offered. -/
def State.offering (s : State) : State := (s.putRing 0 { usedRing with peer := 1 }).putRing 8 usedRing

/-- Poste restante is full, 64 postmarks are open, and the host's event ring has room. -/
def fullOffer : State :=
  let waiting : Cmd := { id := 1, agent := 0, ring := 0, cpl := 8, slot := 0, hdr := lateNop.hdr, op := .nop, epoch := 2, session := 0, kept := true }
  let s := deadLetterTriggers.offering.putRing 16 usedRing
  (s.withHost { s.host with pr := List.replicate 4096 waiting }).withSo { s.so with opened := (List.range 64).map guardMark }

theorem fullOffer_full : fullOffer.fetchable 0 0 = true ∧ fullOffer.hasRoom 0 0 lateNop = true ∧ (fullOffer.judge 0 lateNop).1 = 0 ∧
    fullOffer.dev.boot ≠ 2 ∧ fullOffer.waitsLong lateNop = true ∧ 4096 ≤ fullOffer.prCount ∧ fullOffer.cplKey 0 0 = 8 := by decide +kernel

theorem fullOffer_writes : ∃ t, exec (.nop .host 0 lateNop.hdr) fullOffer = .next t ∧ (t.ring 16).idx ≠ (fullOffer.ring 16).idx := by
  refine ⟨_, rfl, ?_⟩
  decide +kernel

/-- Refutes O48: PR_FULL, reported while 64 postmarks are open, closes one of them early, and its record goes into ring 16 of the host, which a
refusal may not touch. -/
theorem not_descriptorsAreJudged : ¬ Obligations.DescriptorsAreJudged := by
  unfold Obligations.DescriptorsAreJudged
  intro h
  obtain ⟨hfetch, hroom, hjudge, hboot, hlong, hfull, hcpl⟩ := fullOffer_full
  obtain ⟨u, hu, hne⟩ := fullOffer_writes
  obtain ⟨-, -, -, hrefused, -⟩ := ((h .host 0 lateNop fullOffer).1 hfetch).2 hroom
  obtain ⟨t, ht, -, ⟨hrings, -⟩, -⟩ := hrefused hjudge hboot rfl ⟨hlong, hfull⟩
  obtain rfl : u = t := Host.Outcome.next.inj (hu.symm.trans ht)
  exact hne (congrArg Ring.idx (hrings 16 (by decide) (by rw [show agentNo .host = 0 from rfl, show ((0 : Fin 8) : Nat) = 0 from rfl, hcpl]; decide)))

end Sys2Proof.Machine
end

section
/-!
SUPPORT. Proofs/CancelRefused.lean: CANCEL of a command whose completions go to the ring that CANCEL stands on (section 11.6).
-/
namespace Sys2Proof.Machine

/-- Plant logic offers a CANCEL on its command ring 0, which names itself as the completion ring of the command that waits there (no
acceptance makes such a command, but the statement speaks of every state); the ring has a place to write. -/
def selfCompleting : State :=
  let waiting : Cmd := { id := 1, agent := 1, ring := 0, cpl := 32, slot := 0, hdr := lateNop.hdr, op := .nop, epoch := 2, session := 0, kept := true }
  let s := (deadLetterTriggers.putRing 32 { usedRing with peer := 17 }).putRing 40 usedRing
  s.withHost { s.host with pr := [waiting] }

/-- The header of the CANCEL. -/
def cancelHdr : DescHdr := (plainDesc 0 (.cancel 5 0)).hdr

theorem selfCompleting_ready : selfCompleting.fetchable 1 0 = true ∧ selfCompleting.hasRoom 1 0 ⟨cancelHdr, .cancel 5 0⟩ = true ∧
    (selfCompleting.judge 1 ⟨cancelHdr, .cancel 5 0⟩).1 = 0 ∧ selfCompleting.dev.boot ≠ 2 ∧ (selfCompleting.check6 (.cancel 5 0)).1 = 0 := by
  decide +kernel

theorem selfCompleting_movesTwice : ∃ t, exec (.cancel .logic 0 cancelHdr 5 0) selfCompleting = .next t ∧ (t.ring 32).idx = 2 ∧
    ((selfCompleting.ring 32).idx + 1) % (2 * (selfCompleting.ring 32).size) = 1 := by
  refine ⟨_, rfl, ?_⟩
  decide +kernel

/-- Refutes O49: the completion of the command that CANCEL takes out is written to the command ring itself, whose index then moves by two. -/
theorem not_immediateCommands : ¬ Obligations.ImmediateCommands := by
  unfold Obligations.ImmediateCommands
  intro h
  obtain ⟨hfetch, hroom, hjudge, hboot, hmode⟩ := selfCompleting_ready
  obtain ⟨u, hu, htwo, hone⟩ := selfCompleting_movesTwice
  obtain ⟨t, ht, ⟨hidx, -⟩, -⟩ := (h .logic 0 cancelHdr selfCompleting).1 5 0 ⟨hfetch, hroom, hjudge, by rw [if_neg hboot]; exact hmode⟩
  obtain rfl : u = t := Host.Outcome.next.inj (hu.symm.trans ht)
  exact absurd (htwo.symm.trans (hidx.trans hone)) (by decide)

end Sys2Proof.Machine
end

section
/-!
SUPPORT. Proofs/ApplyEpoch.lean: a command at its apply-epoch (sections 11.6 and 11.7).
-/
namespace Sys2Proof.Machine

/-! ## Judgements (Table 11.8) -/

theorem firstFail_pass {l : List Verdict} : (firstFail l).1 = 0 ↔ ∀ v ∈ l, v.1 = 0 := by
  induction l with
  | nil => exact ⟨fun _ _ h => absurd h (by simp), fun _ => rfl⟩
  | cons v l ih =>
    unfold firstFail
    by_cases h : v.1 = 0
    · rw [if_pos h, ih]
      simp [h]
    · rw [if_neg h]
      exact ⟨fun hv => absurd hv h, fun hv => hv v (List.mem_cons_self ..)⟩

theorem verdict_pass {ok : Bool} {status : Nat} (h : status ≠ 0) : (verdict ok status).1 = 0 ↔ ok = true := by
  cases ok with
  | true => exact ⟨fun _ => rfl, fun _ => rfl⟩
  | false => exact ⟨fun hv => absurd hv h, fun hv => absurd hv (by decide)⟩

/-- The judgement of a command at its apply-epoch. -/
def State.judgeDue (s : State) (c : Cmd) : Verdict :=
  firstFail [s.checkItin c.op, verdict (decide (s.epoch ≤ c.epoch)) stLate, s.check4 c.op 0 0, s.check5 c.agent c.op, s.check6 c.op,
    s.check7 c.op, s.checkSet c.agent c.op]

theorem State.applyCmd_eq (s : State) (c : Cmd) : s.applyCmd c =
    if (s.judgeDue c).1 ≠ 0 then s.failed c (s.judgeDue c).1 (s.judgeDue c).2 else s.effect c := rfl

theorem State.judgeDue_pass (s : State) (c : Cmd) : (s.judgeDue c).1 = 0 ↔ (s.checkItin c.op).1 = 0 ∧ s.epoch ≤ c.epoch ∧
    (s.check4 c.op 0 0).1 = 0 ∧ (s.check5 c.agent c.op).1 = 0 ∧ (s.check6 c.op).1 = 0 ∧ (s.check7 c.op).1 = 0 ∧
    (s.checkSet c.agent c.op).1 = 0 := by
  rw [State.judgeDue, firstFail_pass]
  simp only [List.forall_mem_cons, List.not_mem_nil, false_implies, implies_true, and_true, verdict_pass (show stLate ≠ 0 by decide), decide_eq_true_eq]

theorem State.judgeDue_late (s : State) (c : Cmd) (hi : (s.checkItin c.op).1 = 0) (he : c.epoch < s.epoch) : s.judgeDue c = (stLate, noItem) := by
  unfold State.judgeDue firstFail
  rw [if_pos hi]
  unfold firstFail
  have hv : verdict (decide (s.epoch ≤ c.epoch)) stLate = (stLate, noItem) := by
    rw [decide_eq_false (by omega)]
    rfl
  rw [hv, if_neg (by decide)]

theorem verdict_cases (ok : Bool) (status : Nat) : (verdict ok status).1 = 0 ∨ verdict ok status = (status, noItem) := by
  cases ok with
  | true => exact .inl rfl
  | false => exact .inr rfl

theorem State.checkItin_cases (s : State) (op : Op) : (s.checkItin op).1 = 0 ∨ s.checkItin op = (stFormat, noItem) := verdict_cases _ _

theorem State.judgeDue_format (s : State) (c : Cmd) (hi : (s.checkItin c.op).1 ≠ 0) : s.judgeDue c = (stFormat, noItem) := by
  have hv := (s.checkItin_cases c.op).resolve_left hi
  unfold State.judgeDue firstFail
  rw [if_neg hi, hv]

/-! ## Completions that wait (R346) -/

/-- What noting a final completion leaves alone. -/
def State.finView (s : State) : Store × Journal × Tab Rnd × Tab Eng × Tab Tier × PairSt × List Out × List Cmd :=
  (s.pts, s.jrn, s.rnds, s.engs, s.env, s.pair, s.out, s.host.pr)

theorem State.finish_finView (s : State) (c : Cmd) (w : Await) (st item v : Nat) : (s.finish c w st item v).finView = s.finView := by
  unfold State.finish
  split <;> rfl

theorem State.finish_length (s : State) (c : Cmd) (w : Await) (st item v : Nat) (h : s.sessionLive c = true) :
    (s.finish c w st item v).host.fins.length = s.host.fins.length + 1 := by
  unfold State.finish
  rw [if_pos h]
  exact List.length_append

/-- A command that took effect is recorded and completes later. -/
def State.noted (s : State) (c : Cmd) (w : Await) : State := (s.recorded c []).finish c w

/-- What recording and noting leave alone. -/
structure NotedAfter (u t : State) : Prop where
  pts : t.pts = u.pts
  rnds : t.rnds = u.rnds
  engs : t.engs = u.engs
  env : t.env = u.env
  pair : t.pair = u.pair
  out : t.out = u.out

theorem State.noted_after (u : State) (c : Cmd) (w : Await) : NotedAfter u (u.noted c w) := by
  have h := (u.recorded c []).finish_finView c w 0 noItem 0
  simp only [State.finView, Prod.mk.injEq] at h
  obtain ⟨h1, -, h3, h4, h5, h6, h7, -⟩ := h
  exact ⟨h1, h3, h4, h5, h6, h7⟩

/-! ## Sets of the envelopes (R361, R362) -/

theorem mem_setAdd (l set : List Nat) (x : Nat) : x ∈ setAdd set l ↔ x ∈ set ∨ x ∈ l := by
  induction l generalizing set with
  | nil => simp [setAdd]
  | cons y l ih =>
    rw [setAdd, ih]
    by_cases hy : set.contains y = true
    · rw [if_pos hy]
      have : y ∈ set := List.contains_iff_mem.1 hy
      constructor
      · rintro (h | h)
        · exact .inl h
        · exact .inr (List.mem_cons_of_mem _ h)
      · rintro (h | h)
        · exact .inl h
        · rcases List.mem_cons.1 h with rfl | h
          · exact .inl this
          · exact .inr h
    · rw [if_neg hy, mem_insertBy, List.mem_cons]
      tauto

theorem mem_rangeSet (ranges : List (Nat × Nat)) (x : Nat) : x ∈ rangeSet ranges ↔ ∃ r ∈ ranges, r.1 ≤ x ∧ x < r.1 + r.2 := by
  rw [rangeSet, mem_setAdd]
  simp only [List.not_mem_nil, false_or, List.mem_flatMap, List.mem_range'_1]

theorem State.tier_putTier_same (s : State) (k : Nat) (v : Tier) : (s.putTier k v).tier k = v := Tab.get_put_same ..

theorem State.envPublish_env (s : State) (a t : Nat) : (s.envPublish a t).env = s.env := rfl

/-- A set command gives its tier the set that it names. -/
theorem State.setDo_set (s : State) (agent : Nat) (op : Op) (t : Nat) (set : List Nat) (h : s.newSet agent op = some (t, set)) :
    ((s.setDo agent op).tier (tierKey agent t)).set = set := by
  unfold State.setDo
  rw [h]
  dsimp only
  by_cases hs : (s.tier (tierKey agent t)).set = set
  · rw [if_pos hs]
    exact hs
  · rw [if_neg hs, State.tier, State.envPublish_env]
    exact congrArg Tier.set (s.tier_putTier_same (tierKey agent t) { s.tier (tierKey agent t) with set := set, setChanged := true })

/-- An operation that changes a set. -/
def SetsPoints (op : Op) : Prop := (∃ idx, op = .subscribeP idx) ∨ (∃ idx, op = .unsubscribeP idx) ∨ ∃ ranges, op = .setM ranges

theorem State.effect_setsPoints (s : State) (c : Cmd) (h : SetsPoints c.op) : s.effect c = (s.setDo c.agent c.op).noted c (.commit s.epoch) := by
  unfold State.effect State.noted
  rcases h with ⟨_, hop⟩ | ⟨_, hop⟩ | ⟨_, hop⟩ <;> rw [hop]

theorem State.effect_set (s : State) (c : Cmd) (h : SetsPoints c.op) (t : Nat) (set : List Nat) (hs : s.newSet c.agent c.op = some (t, set)) :
    ((s.effect c).tier (tierKey c.agent t)).set = set := by
  rw [s.effect_setsPoints c h, State.tier, (State.noted_after _ c _).env]
  exact s.setDo_set c.agent c.op t set hs

/-! ## Effects (Table 11.7) -/

/-- A write applies all of its items, and is recorded, or none (R344). -/
theorem State.effect_write (s : State) (c : Cmd) (items : List (Nat × Word × Word)) (h : opItems c.op = some items) :
    s.effect c = s.writeDo c items := by
  unfold State.effect
  cases hop : c.op with
  | writePoints l =>
    rw [hop] at h
    rw [← Option.some.inj h]
  | writeMasked l =>
    rw [hop] at h
    rw [← Option.some.inj h]
  | _ =>
    rw [hop] at h
    exact absurd h (by simp [opItems])

theorem State.writeDo_refused (s : State) (c : Cmd) (items : List (Nat × Word × Word)) (st k : Nat)
    (h : State.applyItems c.agent (some c.id) items 0 [] s = .error (st, k)) : s.writeDo c items = s.failed c st k := by
  unfold State.writeDo
  rw [h]

theorem State.writeDo_applies (s : State) (c : Cmd) (items : List (Nat × Word × Word)) (u : State) (done : List (Nat × Nat))
    (h : State.applyItems c.agent (some c.id) items 0 [] s = .ok (u, done)) : let t := s.writeDo c items
    t.pts = u.pts ∧ t.host.pr = u.host.pr ∧
    t.jrn.applied = u.jrn.applied ++ [{ agent := c.agent, ring := c.ring, opcode := c.code, tag := c.hdr.tag, items := done }] := by
  unfold State.writeDo
  rw [h]
  have hv := (u.recorded c done).finish_finView c (.commit s.epoch) 0 noItem 0
  simp only [State.finView, Prod.mk.injEq] at hv
  obtain ⟨h1, h2, -, -, -, -, -, h8⟩ := hv
  exact ⟨h1, h8, congrArg Journal.applied h2⟩

theorem State.effect_noted (s : State) (c : Cmd) (h : c.op = .nop ∨ c.op = .journalRelease ∨ ∃ addr idx, c.op = .readPoints addr idx) :
    s.effect c = s.noted c (.commit s.epoch) := by
  unfold State.effect State.noted
  rcases h with hop | hop | ⟨_, _, hop⟩ <;> rw [hop]

theorem State.effect_bypass (s : State) (c : Cmd) (a v : Nat) (hop : c.op = .cellBypass a v) : s.effect c =
    if s.twoLevelCell a then s.noted c (.commit s.epoch) else (s.direct (a / 256) (some (a % 256)) (.bypass (v == 1))).noted c (.directive a 5) := by
  unfold State.effect State.noted
  rw [hop]

theorem State.effect_gates (s : State) (c : Cmd) (a v : Nat) (hop : c.op = .cellGates a v) : s.effect c =
    (s.direct (a / 256) (some (a % 256)) (.gates (v == 1))).noted c (.directive a 6) := by
  unfold State.effect State.noted
  rw [hop]

theorem State.effect_slowRead (s : State) (c : Cmd) (a off n : Nat) (hop : c.op = .slowRead a off n) :
    s.effect c = (s.recorded c []).slowReadDo c a off n := by
  unfold State.effect
  rw [hop]

theorem State.effect_itinLoad (s : State) (c : Cmd) (e : Nat) (l : List (Nat × Int × Int)) (hop : c.op = .itinLoad e l) :
    s.effect c = (s.itinDo e l).noted c (.commit s.epoch) := by
  unfold State.effect State.noted
  rw [hop]

theorem State.effect_requestF (s : State) (c : Cmd) (hop : c.op = .requestF) : s.effect c =
    (s.putTier (tierKey c.agent 2) { s.tier (tierKey c.agent 2) with requested := true }).noted c (.sealF s.epoch) := by
  unfold State.effect State.noted
  rw [hop]

theorem State.effect_envPolicy (s : State) (c : Cmd) (tier policy : Nat) (hop : c.op = .envPolicy tier policy) :
    s.effect c = (s.putN .envPolicy (tierKey c.agent tier) policy).noted c (.commit s.epoch) := by
  unfold State.effect State.noted
  rw [hop]

theorem State.effect_handover (s : State) (c : Cmd) (hop : c.op = .pairHandover) : s.effect c = s.handoverBegin.noted c .handover := by
  unfold State.effect State.noted
  rw [hop]

theorem State.effect_resync (s : State) (c : Cmd) (hop : c.op = .pairResync) : s.effect c = s.resyncBegin.noted c .resync := by
  unfold State.effect State.noted
  rw [hop]

theorem State.slowReadDo_reads (s : State) (c : Cmd) (a off n : Nat) : let t := (s.recorded c []).slowReadDo c a off n
    (t.rnd (a / 256)).reads = (s.rnd (a / 256)).reads ++ [{ pos := a % 256, off := off, count := n, tag := 0 }] ∧ t.pts = s.pts := by
  unfold State.slowReadDo
  dsimp only
  have hs := (s.recorded c []).rnd_putRnd_same (a / 256)
    { (s.recorded c []).rnd (a / 256) with reads := ((s.recorded c []).rnd (a / 256)).reads ++ [{ pos := a % 256, off := off, count := n, tag := 0 }] }
  generalize hu : (s.recorded c []).putRnd (a / 256) _ = u at *
  have hp : u.pts = s.pts := by rw [← hu]; rfl
  have hv := u.finish_finView c (.slow a off n) 0 noItem 0
  simp only [State.finView, Prod.mk.injEq] at hv
  obtain ⟨h1, -, h3, -⟩ := hv
  refine ⟨?_, h1.trans hp⟩
  rw [State.rnd, h3]
  exact congrArg Rnd.reads hs

theorem State.itinDo_shadow (s : State) (e : Nat) (l : List (Nat × Int × Int)) :
    ((s.itinDo e l).eng e).shadow = l.map (fun p => (p.1, p.2.1, Arith.decF32 (Word.ofInt p.2.2))) :=
  congrArg Eng.shadow (Tab.get_put_same ..)

theorem State.resyncBegin_pair (s : State) : s.resyncBegin.pair.resync = 1 ∧ s.resyncBegin.pair.resyncAt = s.now := by
  unfold State.resyncBegin
  dsimp only
  split <;> exact ⟨rfl, rfl⟩

theorem State.check4_envPolicy (s : State) (tier policy apply e0 : Nat) (h : (s.check4 (.envPolicy tier policy) apply e0).1 = 0) : policy ≤ 1 := by
  have hv := (firstFail_pass.1 h) (verdict (decide (tier ≤ 2) && decide (policy ≤ 1)) stRange) (by simp)
  have := (verdict_pass (by decide)).1 hv
  simp at this
  exact this.2

/-! ## The obligation -/

/-- Every check passes at the apply-epoch. -/
def DueGood (s : State) (c : Cmd) : Prop :=
  s.epoch ≤ c.epoch ∧ (s.check4 c.op 0 0).1 = 0 ∧ (s.check5 c.agent c.op).1 = 0 ∧ (s.check6 c.op).1 = 0 ∧
    (s.check7 c.op).1 = 0 ∧ (s.checkSet c.agent c.op).1 = 0 ∧ (s.checkItin c.op).1 = 0

theorem State.judgeDue_good (s : State) (c : Cmd) : (s.judgeDue c).1 = 0 ↔ DueGood s c := by
  rw [s.judgeDue_pass c, DueGood]
  tauto

theorem State.applyCmd_good (s : State) (c : Cmd) (h : DueGood s c) : s.applyCmd c = s.effect c := by
  rw [s.applyCmd_eq c, if_neg (fun hn => hn ((s.judgeDue_good c).2 h))]

theorem State.applyCmd_bad (s : State) (c : Cmd) (h : (s.judgeDue c).1 ≠ 0) : s.applyCmd c = s.failed c (s.judgeDue c).1 (s.judgeDue c).2 := by
  rw [s.applyCmd_eq c, if_pos h]

/-- Settles O50, opcode by opcode. -/
theorem commandsAtTheirApplyEpoch : Obligations.CommandsAtTheirApplyEpoch := by
  unfold Obligations.CommandsAtTheirApplyEpoch
  intro c s t good set
  refine ⟨fun hi he => ?_, fun hi => ?_, fun hn => ?_, fun hg => ?_⟩
  · have hj := s.judgeDue_late c hi he
    exact (s.applyCmd_bad c (by rw [hj]; decide)).trans (by rw [hj])
  · have hj := s.judgeDue_format c hi
    exact (s.applyCmd_bad c (by rw [hj]; decide)).trans (by rw [hj])
  · have hj : (s.judgeDue c).1 ≠ 0 := fun h => hn ((s.judgeDue_good c).1 h)
    have ht : t = s.failed c (s.judgeDue c).1 (s.judgeDue c).2 := s.applyCmd_bad c hj
    have hv := s.finish_finView c (.commit s.epoch) (s.judgeDue c).1 (s.judgeDue c).2 0
    simp only [State.finView, Prod.mk.injEq] at hv
    exact ⟨_, _, hj, ht, by rw [ht]; exact hv.1, by rw [ht]; exact hv.2.1⟩
  · have ht : t = s.effect c := s.applyCmd_good c hg
    obtain ⟨-, h4, -⟩ := hg
    clear_value t
    subst ht
    have hnoted := fun (u : State) (w : Await) => u.noted_after c w
    refine ⟨fun items st k ho he => (s.effect_write c items ho).trans (s.writeDo_refused c items st k he), fun items u done ho he => ?_,
      fun a v hop h2 => ?_, fun a v hop h2 => ?_, fun a v hop => ?_, fun a off n hop => ?_, fun e l hop => ?_, fun idx hop x => ?_, fun idx hop x => ?_,
      fun ranges hop x => ?_, fun hop => ?_, fun tier policy hop => ?_, fun hop => ?_, fun hop => ?_, fun hop => ?_⟩
    · rw [s.effect_write c items ho]
      obtain ⟨h1, h2, h3⟩ := s.writeDo_applies c items u done he
      exact ⟨h1, fun _ => h2, h3⟩
    · rw [s.effect_bypass c a v hop, if_pos h2]
      exact ⟨(hnoted s _).pts, (hnoted s _).rnds⟩
    · rw [s.effect_bypass c a v hop, if_neg (by simp [h2])]
      have hm := s.direct_mem (a / 256) (some (a % 256)) (.bypass (v == 1))
      exact ⟨by rw [State.rnd, (hnoted _ _).rnds]; exact hm, (hnoted _ _).pts⟩
    · rw [s.effect_gates c a v hop]
      have hm := s.direct_mem (a / 256) (some (a % 256)) (.gates (v == 1))
      exact ⟨by rw [State.rnd, (hnoted _ _).rnds]; exact hm, (hnoted _ _).pts⟩
    · rw [s.effect_slowRead c a off n hop]
      exact s.slowReadDo_reads c a off n
    · rw [s.effect_itinLoad c e l hop]
      exact ⟨by rw [State.eng, (hnoted _ _).engs]; exact s.itinDo_shadow e l, (hnoted _ _).pts⟩
    · rw [show set (s.effect c) 0 = _ from s.effect_set c (.inl ⟨idx, hop⟩) 0 _ (by rw [hop]; rfl), mem_setAdd]
    · rw [show set (s.effect c) 0 = _ from s.effect_set c (.inr (.inl ⟨idx, hop⟩)) 0 _ (by rw [hop]; rfl), List.mem_filter]
      simp [set]
    · rw [show set (s.effect c) 1 = _ from s.effect_set c (.inr (.inr ⟨ranges, hop⟩)) 1 _ (by rw [hop]; rfl), mem_rangeSet]
    · rw [s.effect_requestF c hop]
      refine ⟨?_, (hnoted _ _).pts⟩
      rw [State.tier, (hnoted _ _).env]
      exact congrArg Tier.requested (s.tier_putTier_same (tierKey c.agent 2) { s.tier (tierKey c.agent 2) with requested := true })
    · rw [s.effect_envPolicy c tier policy hop, State.n, State.w, (hnoted _ _).pts]
      rw [hop] at h4
      exact s.n_putN_same _ _ _ _ (by have := s.check4_envPolicy tier policy 0 0 h4; omega)
    · rw [s.effect_handover c hop]
      exact ⟨_, Nat.le_add_right _ _, by rw [(hnoted _ _).pair]; rfl, by rw [(hnoted _ _).out]; exact List.mem_cons_self ..⟩
    · rw [s.effect_resync c hop, (hnoted _ _).pair]
      exact s.resyncBegin_pair
    · rw [s.effect_noted c hop]
      exact ⟨(hnoted s _).pts, fun hl => (s.recorded c []).finish_length c _ 0 noItem 0 hl⟩

end Sys2Proof.Machine
end

section
/-!
SUPPORT. Proofs/PairLayer.lean: role, protection, transmitters and the partner's presence (sections 14.1, 14.4 and 14.6), and the settlement of
completions.
-/
namespace Sys2Proof.Machine

/-! ## Completions that settle -/

theorem State.settle_mem (s : State) {p : FinCpl → Bool} {st item v : Nat} {w : Await} {f : FinCpl} (h : f ∈ s.host.fins) (hp : p f = true) :
    { f with status := st, item := item, value := v, wait := w } ∈ (s.settle p st item v w).host.fins :=
  List.mem_map.2 ⟨f, h, if_pos hp⟩

/-! ## The partner's presence -/

theorem State.hear_rest (s : State) (on : Bool) :
    (s.hear on).rest = (s.withPair { s.pair with heard := on, heardAt := if on then s.epoch else s.pair.heardAt }).rest := by
  unfold State.hear
  dsimp only
  split
  · rfl
  · exact State.rest_of_quiet (State.msixCause_quiet _ 2)

theorem State.hear_pair (s : State) (on : Bool) :
    (s.hear on).pair = { s.pair with heard := on, heardAt := if on then s.epoch else s.pair.heardAt } := by
  unfold State.hear
  dsimp only
  split
  · rfl
  · exact State.pair_of_quiet (State.msixCause_quiet _ 2)

theorem State.msixCause_pts (s : State) (c : Nat) : (s.msixCause c).pts = s.pts := by
  unfold State.msixCause
  split
  · split
    · unfold State.msix
      split <;> rfl
    · rfl
  · rfl

theorem State.hear_pts (s : State) (on : Bool) : (s.hear on).pts = s.pts := by
  unfold State.hear
  dsimp only
  split
  · rfl
  · exact State.msixCause_pts _ 2

theorem State.hear_w (s : State) (on : Bool) (f : Field) (i j : Nat) : (s.hear on).w f i j = s.w f i j := by
  simp only [State.w, State.hear_pts]

theorem State.hear_n (s : State) (on : Bool) (f : Field) (i j : Nat) : (s.hear on).n f i j = s.n f i j := State.n_ext (s.hear_w on f i j)

theorem State.hear_rnds (s : State) (on : Bool) : (s.hear on).rnds = s.rnds := (congrArg State.rnds (s.hear_rest on) :)

/-! ## Fields of `PAIR` and protection -/

theorem State.setPairField_rest (s : State) (f : Field) (v : Nat) : (s.setPairField f v).rest = s.rest := by
  unfold State.setPairField
  split
  · rfl
  · exact (State.rest_of_quiet (State.msixCause_quiet (s.putN f 0 v) 2)).trans rfl

theorem State.setPairField_points (s : State) (f : Field) (v : Nat) : SamePoints s (s.setPairField f v) [⟨f, 0, 0⟩] := by
  unfold State.setPairField
  split
  · exact fun _ _ _ _ => rfl
  · exact (SamePoints.put s f 0 _ 0).trans (SamePoints.of_pts [] (State.msixCause_pts _ 2))

theorem State.setPairField_w (s : State) (f : Field) (v : Nat) : (s.setPairField f v).w f 0 0 = Word.ofNat v := by
  unfold State.setPairField
  split
  · next h => exact State.w_of_n h
  · simp only [State.w, State.msixCause_pts]
    exact State.w_put_same s f 0 _ 0

theorem State.setPairField_n (s : State) (f : Field) {v : Nat} (h : v < 2 ^ 32) : (s.setPairField f v).n f = v := by
  rw [State.n, State.setPairField_w, Word.ofNat, BitVec.toNat_ofNat, Nat.mod_eq_of_lt h]

/-- The points that a change of protection writes. -/
def protPoints : List Pt := [⟨.pairProtection, 0, 0⟩, ⟨.pairEligible, 0, 0⟩]

/-- What a change of protection reports. -/
def State.protRaise (s : State) (p : Nat) : State :=
  if p = 2 then s.raise 0x0904 kDevice 0 0 else if p = 0 then s.raise 0x0905 kDevice 0 0 else s

theorem State.protRaise_quiet (s : State) (p : Nat) : (s.protRaise p).quiet = s.quiet := by
  unfold State.protRaise
  split
  · exact s.raise_quiet _ _ _ _
  · split
    · exact s.raise_quiet _ _ _ _
    · rfl

theorem State.setProt_eq (s : State) (p : Nat) : s.setProt p =
    if s.n .pairProtection = p then s.pubEligible else ((s.setPairField .pairProtection p).protRaise p).pubEligible := rfl

theorem State.setProt_rest (s : State) (p : Nat) : (s.setProt p).rest = s.rest := by
  rw [State.setProt_eq]
  split
  · rfl
  · exact (State.rest_of_quiet (State.protRaise_quiet (s.setPairField .pairProtection p) p)).trans (s.setPairField_rest _ p)

theorem State.setProt_points (s : State) (p : Nat) : QuietPoints s (s.setProt p) protPoints := by
  rw [State.setProt_eq]
  split
  · exact (QuietPoints.putN s .pairEligible 0 _ 0).mono (by decide)
  · exact ((s.setPairField_points .pairProtection p).quiet.trans
      ((QuietPoints.of_quiet (State.protRaise_quiet _ p)).trans (QuietPoints.putN _ .pairEligible 0 _ 0)))

theorem State.setProt_n (s : State) {p : Nat} (h : p < 2 ^ 32) : (s.setProt p).n .pairProtection = p := by
  rw [State.setProt_eq]
  split
  · next hp => exact (State.n_ext (s.w_put_field _ (by decide))).trans hp
  · refine (State.n_ext (State.w_put_field _ _ (by decide))).trans ?_
    exact (State.n_of_quiet (State.protRaise_quiet _ p) _ _ _ rfl).trans (s.setPairField_n _ h)

theorem State.setProt_keeps (s : State) (p : Nat) {f : Field} {i j : Nat} (h : (⟨f, i, j⟩ : Pt) ∉ protPoints) (hf : fieldReports f = false) :
    (s.setProt p).n f i j = s.n f i j := (s.setProt_points p).n f i j h hf

/-! ## Transmitters -/

/-- A step that only emits, over a loop. -/
theorem forN_emits (n : Nat) (g : Nat → State → State) (h : ∀ r u, ∃ l, g r u = u.withOut (l ++ u.out)) (s : State) :
    ∃ l, forN n g s = s.withOut (l ++ s.out) := by
  induction n with
  | zero => exact ⟨[], rfl⟩
  | succ n ih =>
    obtain ⟨l, hl⟩ := ih
    obtain ⟨m, hm⟩ := h n (forN n g s)
    refine ⟨m ++ l, ?_⟩
    rw [forN, hm, hl, List.append_assoc]
    rfl

/-- A loop that only emits has emitted what each of its turns emits. -/
theorem forN_emitted {n r : Nat} {g : Nat → State → State} {o : Out} (h : ∀ r u, ∃ l, g r u = u.withOut (l ++ u.out))
    (ho : ∀ u, o ∈ (g r u).out) (hr : r < n) (s : State) : o ∈ (forN n g s).out := by
  induction n with
  | zero => omega
  | succ n ih =>
    by_cases hn : r = n
    · exact hn ▸ ho _
    · obtain ⟨l, hl⟩ := h n (forN n g s)
      rw [forN, hl]
      exact List.mem_append_right _ (ih (by omega))

theorem State.idleEnds_eq (s : State) : s.idleEnds = (s.withPair { s.pair with endsIdle := true }).withOut s.idleEnds.out := by
  unfold State.idleEnds
  split
  · next h =>
    rw [← h]
    rfl
  · obtain ⟨l, hl⟩ := forN_emits 16 (fun r t => t.emit (.endIdle r t.ownEnd)) (fun r u => ⟨[.endIdle r u.ownEnd], rfl⟩) s
    rw [hl]
    rfl

theorem State.emitted_ownEnd (n : Nat) (s : State) {r : Nat} (hr : r < n) :
    Out.endIdle r s.ownEnd ∈ (forN n (fun r t => t.emit (.endIdle r t.ownEnd)) s).out := by
  induction n with
  | zero => omega
  | succ n ih =>
    by_cases hn : r = n
    · have hown : (forN n (fun r t => t.emit (.endIdle r t.ownEnd)) s).ownEnd = s.ownEnd :=
        forN_keeps State.ownEnd n _ s fun _ _ => rfl
      rw [forN, hn, ← hown]
      exact List.mem_cons_self ..
    · exact List.mem_cons_of_mem _ (ih (by omega))

theorem State.idleEnds_idle (s : State) (h : s.pair.endsIdle = false) {r : Nat} (hr : r < 16) : Out.endIdle r s.ownEnd ∈ s.idleEnds.out := by
  unfold State.idleEnds
  rw [h]
  exact s.emitted_ownEnd 16 hr

theorem State.idleEnds_rest (s : State) : s.idleEnds.rest = (s.withPair { s.pair with endsIdle := true }).rest := by
  rw [State.idleEnds_eq]
  rfl

/-! ## The loss of a pair's link (Table 14.4) -/

/-- A served round counts as broken at the partner's end. -/
def State.breakServed (s : State) (r : Nat) : State :=
  if s.n .rndState r = 6 then s.putRnd r { s.rnd r with detected := true, broken := true, calm := 0 } else s

theorem State.breakServed_rest (s : State) (r : Nat) : (s.breakServed r).rest = (s.withRnds (s.breakServed r).rnds).rest := by
  unfold State.breakServed
  split <;> rfl

theorem State.breakServed_pts (s : State) (r : Nat) : (s.breakServed r).pts = s.pts := by
  unfold State.breakServed
  split <;> rfl

theorem State.breakServed_n (s : State) (r : Nat) (f : Field) (i j : Nat) : (s.breakServed r).n f i j = s.n f i j := by
  simp only [State.n, State.w, State.breakServed_pts]

theorem State.breakServed_pair (s : State) (r : Nat) : (s.breakServed r).pair = s.pair := by
  unfold State.breakServed
  split <;> rfl

theorem State.breakServed_ne (s : State) {a r : Nat} (h : a ≠ r) : (s.breakServed a).rnd r = s.rnd r := by
  unfold State.breakServed
  split
  · exact State.rnd_putRnd_ne s _ (Ne.symm h)
  · rfl

theorem State.breakServed_same (s : State) (r : Nat) (h : s.n .rndState r = 6) :
    ((s.breakServed r).rnd r).detected = true ∧ ((s.breakServed r).rnd r).broken = true := by
  unfold State.breakServed
  rw [if_pos h, State.rnd_putRnd_same]
  exact ⟨rfl, rfl⟩

theorem forL_breakServed {l : List Nat} {r : Nat} (s : State) (hr : r ∈ l) (h : s.n .rndState r = 6) :
    ((forL l (fun r t => t.breakServed r) s).rnd r).detected = true ∧ ((forL l (fun r t => t.breakServed r) s).rnd r).broken = true := by
  refine forL_settles (fun t => t.n .rndState r = 6) (fun t => (t.rnd r).detected = true ∧ (t.rnd r).broken = true ∧ t.n .rndState r = 6)
    hr h (fun a t _ ht => (t.breakServed_n a _ _ _).trans ht) (fun a t ha ht => ?_) (fun t ht => ?_) (fun t ht => ?_) |>.imp_right And.left
  · rw [State.breakServed_ne t ha, State.breakServed_n]
    exact ht
  · exact ⟨(t.breakServed_same r ht).1, (t.breakServed_same r ht).2, (t.breakServed_n r _ _ _).trans ht⟩
  · exact ⟨(t.breakServed_same r ht.2.2).1, (t.breakServed_same r ht.2.2).2, (t.breakServed_n r _ _ _).trans ht.2.2⟩

theorem State.linkLose_eq (s : State) : s.linkLose =
    if (s.hear false).isPrincipal then
      (forL (s.hear false).plant.rounds (fun r t => if (s.hear false).pair.joined then t.breakServed r else t)
        ((s.hear false).withPair { (s.hear false).pair with joined := false, resync := 0, resyncDue := false })).setProt 2
    else (s.hear false).idleEnds := by
  unfold State.linkLose
  dsimp only
  cases (s.hear false).pair.joined <;> simp [State.breakServed]

theorem State.serveAlone_frame (l : List Nat) (c : Bool) (s : State) :
    (forL l (fun r t => if c then t.breakServed r else t) s).pair = s.pair ∧
    (forL l (fun r t => if c then t.breakServed r else t) s).pts = s.pts := by
  have h := forL_keeps (fun t : State => (t.pair, t.pts)) l (fun r t => if c then t.breakServed r else t) s fun r t => by
    split
    · rw [t.breakServed_pair, t.breakServed_pts]
    · rfl
  exact ⟨congrArg Prod.fst h, congrArg Prod.snd h⟩

/-- A principal whose link is lost serves from its own ends alone. -/
theorem State.linkLose_principal (s : State) (h : s.n .pairRole = 1) :
    s.linkLose.pair = { (s.hear false).pair with joined := false, resync := 0, resyncDue := false } ∧
    s.linkLose.n .pairRole = 1 ∧ s.linkLose.n .pairProtection = 2 ∧
    (s.pair.joined = true → ∀ r ∈ s.plant.rounds, s.n .rndState r = 6 →
      (s.linkLose.rnd r).detected = true ∧ (s.linkLose.rnd r).broken = true) ∧
    (s.pair.joined = false → s.linkLose.rnds = s.rnds) := by
  have hheard : ∀ f i j, (s.hear false).n f i j = s.n f i j := fun f i j => s.hear_n false f i j
  have hp : (s.hear false).isPrincipal = true := by simp [State.isPrincipal, hheard, h]
  have hplant : (s.hear false).plant = s.plant := (congrArg State.plant (s.hear_rest false) :)
  have hjoined : (s.hear false).pair.joined = s.pair.joined := by rw [s.hear_pair false]
  have hrnds := s.hear_rnds false
  rw [State.linkLose_eq, if_pos hp, hplant, hjoined]
  generalize s.hear false = u at hheard hrnds
  obtain ⟨hpair, hpts⟩ := State.serveAlone_frame s.plant.rounds s.pair.joined
    (u.withPair { u.pair with joined := false, resync := 0, resyncDue := false })
  have hends : ∀ x : State, (x.setProt 2).rnds = x.rnds ∧ (x.setProt 2).pair = x.pair := fun x =>
    ⟨(congrArg State.rnds (x.setProt_rest 2) :), (congrArg State.pair (x.setProt_rest 2) :)⟩
  refine ⟨(hends _).2.trans hpair, ?_, State.setProt_n _ (by omega), fun hj r hr hn => ?_, fun hj => ?_⟩
  · rw [State.setProt_keeps _ 2 (by decide) rfl]
    exact (State.n_ext (by simp only [State.w, hpts]; rfl)).trans ((hheard _ 0 0).trans h)
  · simp only [State.rnd, (hends _).1, hj, if_true]
    exact forL_breakServed (r := r) (u.withPair { u.pair with joined := false, resync := 0, resyncDue := false }) hr
      ((hheard _ r 0).trans hn)
  · rw [(hends _).1, hj]
    exact (forL_keeps State.rnds _ _ _ fun _ _ => rfl).trans hrnds

theorem State.linkLose_counterfoil (s : State) (h : s.n .pairRole = 2) :
    s.linkLose.pair = { (s.hear false).pair with endsIdle := true } ∧ s.linkLose.pts = s.pts ∧ s.linkLose.rnds = s.rnds := by
  have hp : ¬(s.hear false).isPrincipal = true := by simp [State.isPrincipal, s.hear_n, h]
  rw [State.linkLose_eq, if_neg hp]
  have hrnds := s.hear_rnds false
  have hpts := s.hear_pts false
  generalize s.hear false = u at hrnds hpts
  rw [State.idleEnds_eq]
  exact ⟨rfl, hpts, hrnds⟩

theorem State.linkLose_gone (s : State) (h : s.n .pairRole = 1 ∨ s.n .pairRole = 2) : LinkGone s s.linkLose := by
  rcases h with h | h
  · obtain ⟨hpair, hrole, hprot, hserved, hrnds⟩ := s.linkLose_principal h
    rw [s.hear_pair false] at hpair
    refine ⟨by rw [hpair], hrole.trans h.symm, fun _ => ⟨by rw [hpair], by rw [hpair], by rw [hpair], hprot, hserved, hrnds⟩, ?_⟩
    intro h2
    exact absurd (h.symm.trans h2) (by decide)
  · obtain ⟨hpair, hpts, hrnds⟩ := s.linkLose_counterfoil h
    rw [s.hear_pair false] at hpair
    have hn : ∀ f, s.linkLose.n f = s.n f := fun f => by simp only [State.n, State.w, hpts]
    refine ⟨by rw [hpair], by rw [hn], fun h1 => ?_, fun _ => ⟨by rw [hpair], by rw [hn], hrnds⟩⟩
    exact absurd (h.symm.trans h1) (by decide)

/-- The loss of the link after a report of it. -/
theorem LinkGone.of_reported {s u t : State} (h : LinkGone u t) (hpair : u.pair = s.pair) (hrnds : u.rnds = s.rnds) (hplant : u.plant = s.plant)
    (hn : ∀ f i, f = .pairRole ∨ f = .pairProtection ∨ f = .rndState → u.n f i = s.n f i) : LinkGone s t := by
  unfold LinkGone at h ⊢
  simp only [hpair, hrnds, hplant, hn .pairRole 0 (.inl rfl), hn .pairProtection 0 (.inr (.inl rfl)),
    fun r => hn .rndState r (.inr (.inr rfl))] at h
  exact h

end Sys2Proof.Machine
end

section
/-!
SUPPORT. Proofs/PairLinkAndTransfers.lean: the loss of a pair's link, state envelopes, transfers and the resumption after a cold takeover
(sections 14.1, 14.5 and 14.6).
-/
namespace Sys2Proof.Machine

/-! ## Loss of the link -/

theorem State.linkLost_gone (s : State) (h : s.n .pairRole = 1 ∨ s.n .pairRole = 2) : LinkGone s (s.raise 0x0907 kDevice 0 0).linkLose := by
  have hq := s.raise_quiet 0x0907 kDevice 0 0
  have hn : ∀ f i, f = .pairRole ∨ f = .pairProtection ∨ f = .rndState → (s.raise 0x0907 kDevice 0 0).n f i = s.n f i :=
    fun f i hf => State.n_of_quiet hq f i 0 (by rcases hf with rfl | rfl | rfl <;> rfl)
  refine (State.linkLose_gone _ ?_).of_reported (State.pair_of_quiet hq) (State.rnds_of_quiet hq) (State.plant_of_quiet hq) hn
  rw [hn .pairRole 0 (.inl rfl)]
  exact h

theorem State.linkSlow_gone (s : State) (lp : Nat) (h : s.n .pairRole = 1 ∨ s.n .pairRole = 2) :
    LinkGone s ((s.putN .pairLinkNs 0 lp).raise 0x0908 kDevice 0 lp).linkLose := by
  have hq := (s.putN .pairLinkNs 0 lp).raise_quiet 0x0908 kDevice 0 lp
  have hn : ∀ f i, f = .pairRole ∨ f = .pairProtection ∨ f = .rndState →
      ((s.putN .pairLinkNs 0 lp).raise 0x0908 kDevice 0 lp).n f i = s.n f i := fun f i hf =>
    (State.n_of_quiet hq f i 0 (by rcases hf with rfl | rfl | rfl <;> rfl)).trans
      (State.n_put_field s _ (by rcases hf with rfl | rfl | rfl <;> decide))
  refine (State.linkLose_gone _ ?_).of_reported ((State.pair_of_quiet hq).trans rfl) ((State.rnds_of_quiet hq).trans rfl)
    ((State.plant_of_quiet hq).trans rfl) hn
  rw [hn .pairRole 0 (.inl rfl)]
  exact h

/-- The loss of the link writes no point but protection, eligibility and what reporting writes. -/
theorem State.linkLose_points (s : State) (h : s.n .pairRole = 1 ∨ s.n .pairRole = 2) : QuietPoints s s.linkLose protPoints := by
  rcases h with h | h
  · have hp : (s.hear false).isPrincipal = true := by simp [State.isPrincipal, s.hear_n, h]
    rw [State.linkLose_eq, if_pos hp]
    have hpts := s.hear_pts false
    generalize s.hear false = u at hpts
    obtain ⟨-, hl⟩ := State.serveAlone_frame u.plant.rounds u.pair.joined
      (u.withPair { u.pair with joined := false, resync := 0, resyncDue := false })
    exact (SamePoints.of_pts [] (hl.trans hpts)).quiet.trans (State.setProt_points _ 2)
  · exact (SamePoints.of_pts _ (s.linkLose_counterfoil h).2.1).quiet

/-- A module that is unprotected from here on, with its report. -/
theorem State.unprotected_reported (s : State) (p : Nat) :
    ((s.setProt 2).raise 0x090C kDevice 0 p).rest = s.rest ∧ ((s.setProt 2).raise 0x090C kDevice 0 p).n .pairProtection = 2 ∧
    QuietPoints s ((s.setProt 2).raise 0x090C kDevice 0 p) protPoints := by
  have hq := (s.setProt 2).raise_quiet 0x090C kDevice 0 p
  exact ⟨(State.rest_of_quiet hq).trans (s.setProt_rest 2), (State.n_of_quiet hq _ _ _ rfl).trans (s.setProt_n (by omega)),
    QuietPoints.raise (s.setProt_points 2) _ _ _ _⟩

theorem State.stateEnvelope_unreadable (s : State) (epoch : Nat) (pts : List (Pt × Word)) (i : LaneImage) :
    s.stateEnvelope epoch false pts i = ((s.withPair { s.pair with image := none }).setProt 2).raise 0x090C kDevice 0 10 := rfl

/-! ## The state that a transfer carries -/

theorem State.takeImage_carried (s : State) (pts : List (Pt × Word)) (i : LaneImage) :
    (s.takeImage pts i).drvs = i.drvs ∧ (s.takeImage pts i).engs = i.engs ∧ (s.takeImage pts i).host = s.host ∧
    (s.takeImage pts i).jrn = s.jrn := by
  unfold State.takeImage
  extract_lets keep s1
  have h : (s1.host, s1.jrn) = (s.host, s.jrn) := forL_keeps (fun x : State => (x.host, x.jrn)) _ _ _ fun _ _ => rfl
  clear_value s1
  simp only [Prod.mk.injEq] at h
  simp only [State.withLevels_host, State.withGuards_host, State.withAxes_host, State.withEngs_host, State.withPowers_host,
    State.withShafts_host, State.withArms_host, State.withSets_host, State.withDrvs_host, State.withLevels_jrn, State.withGuards_jrn,
    State.withAxes_jrn, State.withEngs_jrn, State.withPowers_jrn, State.withShafts_jrn, State.withArms_jrn, State.withSets_jrn,
    State.withDrvs_jrn]
  exact ⟨rfl, rfl, h⟩

/-- A counterfoil after a transfer, before it publishes. -/
def State.transferred (s u : State) (epoch : Nat) (pts : List (Pt × Word)) (i : LaneImage) : State :=
  (u.withPair { u.pair with resync := 2, image := some { epoch := epoch, pts := pts, image := i }, imageAt := s.captureTime epoch,
                            stored := s.pair.stored.filter (fun m => decide (epoch < m.epoch)) }).withJrn { u.jrn with ckptDue := true }

theorem State.transferDone_counterfoil (s : State) (epoch : Nat) (pts : List (Pt × Word)) (i : LaneImage) (h : s.n .pairRole = 2) :
    s.transferDone epoch pts i = (s.transferred ((s.settle (fun f => f.wait == .resync) 0 noItem 0 .ready).takeImage pts i) epoch pts
      i).pubEligible :=
  if_pos (show (s.settle (fun f => f.wait == .resync) 0 noItem 0 .ready).isCounterfoil = true from beq_iff_eq.2 h)

theorem State.transferDone_principal (s : State) (epoch : Nat) (pts : List (Pt × Word)) (i : LaneImage) (h : s.n .pairRole = 1) :
    let s1 := s.settle (fun f => f.wait == .resync) 0 noItem 0 .ready
    s.transferDone epoch pts i = s1.withPair { s1.pair with resync := 2 } :=
  if_neg (Bool.eq_false_iff.1 (beq_eq_false_iff_ne.2 fun h2 => absurd (h.symm.trans h2) (by decide)))

/-! ## The resumption after a cold takeover (R422) -/

/-- A drive resumes from its load torque. -/
def State.resumeDrive (s : State) (d : Nat) : State := s.putDrv d { s.drv d with tEff := s.tPct d (s.drv d).tlHat, preset := true }

/-- Whether a drive has its load estimate, or what it resumes from, as in a state before. -/
def Resumes (s : State) (d : Nat) (t : State) : Prop := t.pts = s.pts ∧ (t.drv d).tlHat = (s.drv d).tlHat

theorem Resumes.other {s : State} {d a : Nat} {t : State} (ha : a ≠ d) (h : Resumes s d t) : Resumes s d (t.resumeDrive a) :=
  ⟨h.1, by rw [State.resumeDrive, State.drv_putDrv_ne _ _ (Ne.symm ha)]; exact h.2⟩

theorem Resumes.own {s : State} {d : Nat} {t : State} (h : Resumes s d t) : Resumes s d (t.resumeDrive d) ∧
    ((t.resumeDrive d).drv d).preset = true ∧ ((t.resumeDrive d).drv d).tEff = s.tPct d (s.drv d).tlHat := by
  have hr : t.r .drvRatedTorqueNm d = s.r .drvRatedTorqueNm d := by simp only [State.r, State.w, h.1]
  rw [State.resumeDrive]
  refine ⟨⟨h.1, ?_⟩, ?_, ?_⟩
  · rw [State.drv_putDrv_same]
    exact h.2
  · rw [State.drv_putDrv_same]
  · rw [State.drv_putDrv_same, ← h.2]
    simp only [State.tPct, hr]

theorem forL_resumed {l : List Nat} {d : Nat} (s : State) (hd : d ∈ l) :
    ((forL l (fun d t => t.resumeDrive d) s).drv d).preset = true ∧
    ((forL l (fun d t => t.resumeDrive d) s).drv d).tEff = s.tPct d (s.drv d).tlHat := by
  refine And.right (forL_settles (Resumes s d) (fun t => Resumes s d t ∧ (t.drv d).preset = true ∧ (t.drv d).tEff = s.tPct d (s.drv d).tlHat)
    hd ⟨rfl, rfl⟩ (fun a t ha ht => ht.other ha) (fun a t ha ht => ⟨ht.1.other ha, ?_⟩) (fun t ht => ht.own) fun t ht => ht.1.own)
  rw [State.resumeDrive, State.drv_putDrv_ne _ _ (Ne.symm ha)]
  exact ht.2

theorem forL_resume_other (l : List Nat) {d : Nat} (s : State) (hd : d ∉ l) : (forL l (fun d t => t.resumeDrive d) s).drv d = s.drv d := by
  induction l generalizing s with
  | nil => rfl
  | cons a l ih =>
    simp only [List.mem_cons, not_or] at hd
    exact (ih _ hd.2).trans (State.drv_putDrv_ne _ _ hd.1)

theorem forL_resume_frame (l : List Nat) (s : State) :
    forL l (fun d t => t.resumeDrive d) s = s.withDrvs (forL l (fun d t => t.resumeDrive d) s).drvs := by
  induction l generalizing s with
  | nil => rfl
  | cons a l ih =>
    rw [forL, ih]
    rfl

/-- Settles O55: each loss goes over `linkLose`, a transfer over `takeImage`, and the resumption over its loop of drives. -/
theorem pairLinkAndTransfers : Obligations.PairLinkAndTransfers := by
  unfold Obligations.PairLinkAndTransfers
  intro s
  refine ⟨fun hup hrole hheard hage => ?_, fun lp hup hrole hheard hlp => ?_, fun epoch pts image hup hrole hj => ⟨?_, ?_⟩,
    fun epoch pts image hup hrole hj => ?_, fun a ha hnow => ?_⟩
  · have hr : s.n .pairRole ≠ 0 := by omega
    exact yields_if (by simp [hup, hr, hheard, hage]) (s.linkLost_gone hrole)
  · have hr : s.n .pairRole ≠ 0 := by omega
    refine yields_if (by simp [hup, hr, hheard, hlp]) ⟨s.linkSlow_gone lp hrole, ?_⟩
    let u := (s.putN .pairLinkNs 0 lp).raise 0x0908 kDevice 0 lp
    have hu : u.n .pairRole = 1 ∨ u.n .pairRole = 2 := by
      rw [show u.n .pairRole = s.n .pairRole from (State.raise_n _ _ _ _ _ _ _ _ rfl).trans (State.n_put_field s _ (by decide))]
      exact hrole
    refine (u.linkLose_points hu .pairLinkNs 0 0 (by decide) rfl).trans ((State.raise_w _ _ _ _ _ _ _ _ rfl).trans ?_)
    exact State.w_put_same s _ _ _ _
  · refine yields_if (by simp [hup, State.isCounterfoil, hrole, hj]) ?_
    exact ⟨rfl, rfl, rfl, (State.w_put_field _ _ (by decide)).trans (State.w_put_same _ _ _ _ _), rfl,
      (SamePoints.put _ .pairWarmAgeMs 0 _ 0).trans (SamePoints.put _ .pairEligible 0 _ 0)⟩
  · refine yields_if (by simp [hup, State.isCounterfoil, hrole, hj]) ?_
    obtain ⟨hrest, hprot, hpoints⟩ := (s.withPair { s.pair with image := none }).unprotected_reported 10
    rw [s.stateEnvelope_unreadable epoch pts image]
    generalize ((s.withPair { s.pair with image := none }).setProt 2).raise 0x090C kDevice 0 10 = t at hrest hprot hpoints
    have hpair : t.pair = { s.pair with image := none } := (congrArg State.pair hrest :)
    refine ⟨hpair, hprot, ?_, hpoints⟩
    rw [hpair]
    exact hrest
  · have hr : s.n .pairRole ≠ 0 := by omega
    refine yields_if (by simp [hup, hr, hj]) ?_
    have hfin : ∀ f ∈ s.host.fins, f.wait = .resync → { f with status := 0, item := noItem, value := 0, wait := .ready } ∈
        (s.settle (fun f => f.wait == .resync) 0 noItem 0 .ready).host.fins := fun f hf hw => s.settle_mem hf (beq_iff_eq.2 hw)
    rcases hrole with h | h
    · rw [s.transferDone_principal epoch pts image h]
      refine ⟨rfl, hfin, fun h2 => ?_, fun _ => ⟨rfl, rfl⟩⟩
      exact absurd (h.symm.trans h2) (by decide)
    · rw [s.transferDone_counterfoil epoch pts image h]
      obtain ⟨hdrvs, hengs, hhost, -⟩ := (s.settle (fun f => f.wait == .resync) 0 noItem 0 .ready).takeImage_carried pts image
      rw [← hhost] at hfin
      generalize (s.settle (fun f => f.wait == .resync) 0 noItem 0 .ready).takeImage pts image = u at hdrvs hengs hfin
      refine ⟨rfl, hfin, fun _ => ⟨rfl, rfl, hdrvs, hengs, rfl⟩, fun h1 => ?_⟩
      exact absurd (h.symm.trans h1) (by decide)
  · let u := s.withPair { s.pair with blockUntil := none }
    have he : s.warmResume = forL s.drives (fun d t => t.resumeDrive d) u := by
      unfold State.warmResume
      rw [ha]
      exact if_pos hnow
    have hf := forL_resume_frame s.drives u
    refine yields_next ?_
    rw [he]
    refine ⟨?_, fun d hd => forL_resumed u hd, fun d hd => forL_resume_other _ u hd, ?_⟩
    · rw [hf]
      rfl
    · rw [hf]
      rfl

end Sys2Proof.Machine
end

section
/-!
SUPPORT. Proofs/PowerUp.lean: the power-on sequence (section 10.3): what outlives power, the choice of a bank, self-test, and the mode in which
the firmware starts.
-/
namespace Sys2Proof.Machine

/-! ## Without power -/

theorem State.stopTokens_frame (s : State) : ∃ l, s.stopTokens = (s.withDev { s.dev with tokenOn := false }).withOut (l ++ s.out) := by
  unfold State.stopTokens
  split
  · exact ⟨[.tokenStop s.now], rfl⟩
  · next h =>
    have h : s.dev.tokenOn = false := Bool.eq_false_iff.2 h
    exact ⟨[], by rw [← h]; rfl⟩

/-- Both transmitters of a round go to electrical idle. -/
def State.roundOff (r : Nat) (s : State) : State := (s.emit (.endIdle r .a)).emit (.endIdle r .b)

theorem State.roundOff_emits (r : Nat) (s : State) : ∃ l, s.roundOff r = s.withOut (l ++ s.out) :=
  ⟨[.endIdle r .b, .endIdle r .a], rfl⟩

theorem State.outputsOff_frame (s : State) : ∃ l, s.outputsOff = (s.withDev { s.dev with tokenOn := false }).withOut l := by
  obtain ⟨m, hm⟩ := s.stopTokens_frame
  obtain ⟨l, hl⟩ := forN_emits 16 State.roundOff (fun r u => u.roundOff_emits r) (s.stopTokens.emit (.coreReset 15))
  refine ⟨l ++ (s.stopTokens.emit (.coreReset 15)).out, ?_⟩
  rw [show s.outputsOff = forN 16 State.roundOff (s.stopTokens.emit (.coreReset 15)) from rfl, hl, hm]
  rfl

/-- Without power every core is reset and every transmitter idle. -/
theorem State.outputsOff_out (s : State) :
    Out.coreReset 15 ∈ s.outputsOff.out ∧ ∀ r e, r < 16 → Out.endIdle r e ∈ s.outputsOff.out := by
  refine ⟨?_, fun r e hr => ?_⟩
  · obtain ⟨l, hl⟩ := forN_emits 16 State.roundOff (fun r u => u.roundOff_emits r) (s.stopTokens.emit (.coreReset 15))
    rw [show s.outputsOff = forN 16 State.roundOff (s.stopTokens.emit (.coreReset 15)) from rfl, hl]
    exact List.mem_append_right _ (List.mem_cons_self ..)
  · exact forN_emitted (g := State.roundOff) (fun r u => u.roundOff_emits r)
      (fun u => by cases e <;> simp [State.roundOff, State.emit]) hr _

/-- What is dark does not depend on the tokens that flowed. -/
theorem State.outputsOff_dark (s : State) : s.outputsOff.dark = s.dark.withOut s.outputsOff.out := by
  obtain ⟨l, hl⟩ := s.outputsOff_frame
  rw [hl]
  rfl

theorem Store.get_absent (t : Store) (q : Pt × Word → Bool) (p : Pt) (h : ∀ w, q (p, w) = false) :
    Store.get (t.filter q) p = ptDflt p := by
  induction t with
  | nil => rfl
  | cons e t ih =>
    obtain ⟨r, w⟩ := e
    by_cases hr : r = p
    · rw [hr, List.filter_cons_of_neg (by simp [h w])]
      exact ih
    · by_cases hq : q (r, w) = true
      · rw [List.filter_cons_of_pos hq]
        exact (if_neg hr).trans ih
      · rw [List.filter_cons_of_neg hq]
        exact ih

theorem State.dark_w (s : State) (f : Field) (i j : Nat) : s.dark.w f i j = if otpPoint ⟨f, i, j⟩ then s.w f i j else ptDflt ⟨f, i, j⟩ := by
  rw [show s.dark.w f i j = Store.get (s.pts.filter (fun e => otpPoint e.1)) ⟨f, i, j⟩ from rfl]
  split
  · next h => exact Store.get_filter _ _ _ fun _ => h
  · next h => exact Store.get_absent _ _ _ fun _ => Bool.eq_false_iff.2 h

/-! ## The choice of a bank (R303) -/

/-- Whether a bank boots does not depend on the code that a failed one shows. -/
theorem bankCode_boots (b : Bank) (floor x y : Nat) : bankCode b floor x = 0 ↔ bankCode b floor y = 0 := by
  unfold bankCode
  split
  · exact Iff.rfl
  · split <;> simp

theorem chooseBank_pick (a b : Bank) (floor x y u v : Nat) : (chooseBank a b floor x y).1 = (chooseBank a b floor u v).1 := by
  simp only [chooseBank, bankCode_boots a floor x u, bankCode_boots b floor y v]
  split
  · split
    · rfl
    · rfl
  · split
    · rfl
    · rfl

/-! ## What the firmware's start leaves (R302, R304) -/

/-- A state without the units that self-test takes out of service. -/
def bootErase (s : State) : State := s.withDev { s.dev with unitsOut := [], lanesOk := 0, endsOk := 0 }

/-- The records that the start of the firmware leaves, and the points of some fields. -/
def State.bootView (ks : List Field) (s : State) : State × (Field → Nat → Nat → Word) := s.aside bootErase fun q => !ks.contains q.f

section
variable {ks : List Field} {s t : State}

theorem State.bootView_of_quiet (h : t.quiet = s.quiet) : t.bootView ks = s.bootView ks := State.aside_of_quiet h

theorem State.bootView_put (s : State) {f : Field} (h : ks.contains f = false) (i : Nat) (w : Word) (j : Nat) :
    (s.put f i w j).bootView ks = s.bootView ks := State.aside_put f i w j (by rw [h]; rfl)

theorem State.bootView_units (s : State) (u : List UnitDesc) (l e : Nat) :
    (s.withDev { s.dev with unitsOut := u, lanesOk := l, endsOk := e }).bootView ks = s.bootView ks := State.aside_record rfl rfl

end

theorem State.dev_of_bootView {s t : State} {ks : List Field} (h : t.bootView ks = s.bootView ks) :
    t.dev.tokenOn = s.dev.tokenOn ∧ t.dev.stoA = s.dev.stoA ∧ t.dev.stoB = s.dev.stoB := by
  have hr : bootErase t.rest = bootErase s.rest := State.aside_rest h
  exact ⟨(congrArg (fun x : State => x.dev.tokenOn) hr :), (congrArg (fun x : State => x.dev.stoA) hr :),
    (congrArg (fun x : State => x.dev.stoB) hr :)⟩

/-- A unit that fails self-test goes out of service. -/
def State.unitOut (s : State) (u : TestUnit) : State :=
  let out := fun (k n : Nat) => s.withDev { s.dev with unitsOut := { kind := k, idx := n } :: s.dev.unitsOut }
  match u with
  | .lane n => s.withDev { s.dev with lanesOk := Arith.setBit s.dev.lanesOk n false }
  | .groupLane => s.withDev { s.dev with lanesOk := Arith.setBit s.dev.lanesOk 16 false }
  | .roundEnd r e => s.withDev { s.dev with endsOk := Arith.setBit s.dev.endsOk (r * 2 + (match e with | .a => 0 | .b => 1)) false }
  | .feedback n => out 2 n
  | .can c => out 4 c
  | .aux n => out 3 n
  | .analog n => out 8 (16 + n)
  | _ => s

theorem State.unitOut_frame (s : State) (u : TestUnit) :
    ∃ x l e, s.unitOut u = s.withDev { s.dev with unitsOut := x, lanesOk := l, endsOk := e } := by
  cases u <;> exact ⟨_, _, _, rfl⟩

theorem State.testFailed_eq (s : State) (u : TestUnit) : s.testFailed u =
    ((s.putN .devSelftest 0 (Arith.setBit (s.n .devSelftest) (testBit u).1 true)).unitOut u).raise 0x0C49 kDevice 0
      ((testBit u).1 + 2 ^ 8 * (testBit u).2) := by
  cases u <;> rfl

theorem State.unitOut_pts (s : State) (u : TestUnit) : (s.unitOut u).pts = s.pts := by
  obtain ⟨x, l, e, h⟩ := s.unitOut_frame u
  rw [h]
  rfl

theorem State.testFailed_bootView {ks : List Field} (s : State) (u : TestUnit) (h : ks.contains .devSelftest = false) :
    (s.testFailed u).bootView ks = s.bootView ks := by
  obtain ⟨x, l, e, hu⟩ := (s.putN .devSelftest 0 (Arith.setBit (s.n .devSelftest) (testBit u).1 true)).unitOut_frame u
  rw [State.testFailed_eq, hu]
  exact (State.bootView_of_quiet (State.raise_quiet _ _ _ _ _)).trans ((State.bootView_units _ x l e).trans (State.bootView_put s h 0 _ 0))

theorem State.testFailed_selftest (s : State) (u : TestUnit) :
    (s.testFailed u).n .devSelftest = (s.putN .devSelftest 0 (Arith.setBit (s.n .devSelftest) (testBit u).1 true)).n .devSelftest := by
  rw [State.testFailed_eq, State.raise_n _ _ _ _ _ _ _ _ rfl]
  simp only [State.n, State.w, State.unitOut_pts]

theorem testBit_lt (u : TestUnit) : (testBit u).1 < 32 := by
  cases u with
  | lane n => exact n.isLt.trans (by decide)
  | _ => simp [testBit]

theorem State.testFailed_bit (s : State) (u : TestUnit) : Arith.bit ((s.testFailed u).n .devSelftest) (testBit u).1 = true := by
  rw [State.testFailed_selftest]
  exact s.bit_putN_setBit _ _ _ _ _ (testBit_lt u)

/-- Self-test reports stand. -/
theorem State.testFailed_keeps_bit (s : State) (u : TestUnit) {b : Nat} (h : Arith.bit (s.n .devSelftest) b = true) :
    Arith.bit ((s.testFailed u).n .devSelftest) b = true := by
  rw [State.testFailed_selftest, State.n_putN_same _ _ _ _ _ (setBit_lt _ (s.n_lt _ _ _) (testBit_lt u)), bit_setBit]
  split <;> simp [h]

theorem forL_testFailed_bit {l : List TestUnit} {u : TestUnit} (s : State) (h : u ∈ l ∨ Arith.bit (s.n .devSelftest) (testBit u).1 = true) :
    Arith.bit ((forL l (fun u t => t.testFailed u) s).n .devSelftest) (testBit u).1 = true := by
  induction l generalizing s with
  | nil => exact h.resolve_left (by simp)
  | cons v l ih =>
    refine ih (s.testFailed v) ?_
    rcases h with h | h
    · rcases List.mem_cons.1 h with rfl | h
      · exact .inr (s.testFailed_bit u)
      · exact .inl h
    · exact .inr (s.testFailed_keeps_bit v h)

/-! ## The start of the firmware -/

/-- The boot record with a bank chosen, and the two points that the firmware starts with. -/
def State.bankTaken (s : State) (bank : Bool) : State :=
  let s1 := s.withHw { s.hw with bankB := bank }
  let s2 := (s1.withDev { s1.dev with boot := 0, supUp := true, logicUp := true, logicBeat := s1.now }).withPair
    { s1.pair with listenAt := s1.now }
  (s2.putN .devMode 0 1).putN .hwHwInsert 0 1

/-- What the image and the board give. -/
def State.boardPoints (s : State) : State := s.imagePoints.envStart.hifPublish.jrnPublish

/-- The image has started, before the Safe causes of the start. -/
def State.imageUp (s : State) (bank fell : Bool) (failed : List TestUnit) : State :=
  let s4 := (s.bankTaken bank).boardPoints
  let s5 := (if fell then s4.raise 0x0C4A kDevice 0 0 else s4)
  (forL failed (fun u t => t.testFailed u) s5).lanePublish

/-- The Safe causes of the start. -/
def State.startSafe (s : State) (failed : List TestUnit) : State :=
  let s7 := if failed.any testCritical then s.enterSafe 9 else s
  let s8 := if s7.dev.stoA then s7 else s7.enterSafe 1
  if s8.dev.stoB then s8 else s8.enterSafe 2

theorem State.firmware_eq (s : State) (bank fell : Bool) (failed : List TestUnit) : s.firmware bank fell failed =
    let t := (s.imageUp bank fell failed).startSafe failed
    t.putN .hwFwSecurityFloor 0 (max (t.n .hwFwSecurityFloor) (if bank then t.hw.bank1 else t.hw.bank0).security) := rfl

section
variable {ks : List Field}

/-- Fields whose points the start of the firmware writes. -/
def imageFields : List Field :=
  [.devCatalogueVersion, .devBootBank, .devKernelCompat, .pairHandoverHold, .thmWarnC, .thmThrottleC, .thmShutdownC, .thmHystK, .thmK,
   .thmFloor, .envPolicy, .envPoints, .envNeedBytes, .envBPBudgetBytes, .devHifVersion, .devHifSession, .devHifWdtMs, .devHifWdtState,
   .jrnState]

/-- Fields of the lanes' points. -/
def laneFields : List Field :=
  [.laneDrive, .laneInService, .laneCyclesLimit, .laneCyclesUsed, .laneSkipEpochs, .laneSkipRunMax, .drvLaneCost]

theorem State.imagePoints_bootView (s : State) (hk : ∀ f ∈ imageFields, ks.contains f = false) : s.imagePoints.bootView ks = s.bootView ks := by
  have put : ∀ (t : State) (f : Field) (i : Nat) (w : Word) (j : Nat), f ∈ imageFields → (t.put f i w j).bootView ks = t.bootView ks :=
    fun t f i w j hf => t.bootView_put (hk f hf) i w j
  have compat : ∀ t : State, (forN 8 (fun j t => t.putN .devKernelCompat 0 (Config.kernelCompat j).toNat j) t).bootView ks = t.bootView ks :=
    fun t => forN_keeps (State.bootView ks) 8 _ t fun j u => put u _ _ _ _ (by decide)
  unfold State.imagePoints State.classDefaults
  dsimp only
  simp only [State.putR, State.putN] at compat ⊢
  simp (disch := decide) only [put, compat]

theorem State.envStart_bootView (s : State) (hk : ∀ f ∈ imageFields, ks.contains f = false) : s.envStart.bootView ks = s.bootView ks := by
  have put : ∀ (t : State) (f : Field) (i : Nat) (w : Word) (j : Nat), f ∈ imageFields → (t.put f i w j).bootView ks = t.bootView ks :=
    fun t f i w j hf => t.bootView_put (hk f hf) i w j
  refine forN_keeps (State.bootView ks) 6 _ s fun k t => ?_
  unfold State.envPublish
  dsimp only
  simp only [State.putN]
  rw [put _ _ _ _ _ (by decide), put _ _ _ _ _ (by decide), put _ _ _ _ _ (by decide)]
  split
  · exact put _ _ _ _ _ (by decide)
  · rfl

theorem State.boardPoints_bootView (s : State) (hk : ∀ f ∈ imageFields, ks.contains f = false) : s.boardPoints.bootView ks = s.bootView ks := by
  have put : ∀ (t : State) (f : Field) (i : Nat) (w : Word) (j : Nat), f ∈ imageFields → (t.put f i w j).bootView ks = t.bootView ks :=
    fun t f i w j hf => t.bootView_put (hk f hf) i w j
  unfold State.boardPoints State.hifPublish State.jrnPublish
  dsimp only
  simp only [State.putN]
  simp (disch := decide) only [put]
  exact (s.imagePoints.envStart_bootView hk).trans (s.imagePoints_bootView hk)

theorem State.lanePublish_bootView (s : State) (hk : ∀ f ∈ laneFields, ks.contains f = false) : s.lanePublish.bootView ks = s.bootView ks := by
  have put : ∀ (t : State) (f : Field) (i : Nat) (w : Word) (j : Nat), f ∈ laneFields → (t.put f i w j).bootView ks = t.bootView ks :=
    fun t f i w j hf => t.bootView_put (hk f hf) i w j
  unfold State.lanePublish
  dsimp only
  refine (forL_keeps (State.bootView ks) _ _ _ fun d t => put t _ _ _ _ (by decide)).trans
    (forN_keeps (State.bootView ks) 16 _ s fun n t => ?_)
  simp only [State.putN]
  simp (disch := decide) only [put]

theorem State.imageUp_bootView (s : State) (bank fell : Bool) (failed : List TestUnit)
    (hk : ∀ f ∈ .devSelftest :: imageFields ++ laneFields, ks.contains f = false) :
    (s.imageUp bank fell failed).bootView ks = (s.bankTaken bank).bootView ks := by
  have himage : ∀ f ∈ imageFields, ks.contains f = false := fun f hf => hk f (by simp [hf])
  have hlane : ∀ f ∈ laneFields, ks.contains f = false := fun f hf => hk f (by simp [hf])
  unfold State.imageUp
  dsimp only
  refine (State.lanePublish_bootView _ hlane).trans
    ((forL_keeps (State.bootView ks) failed _ _ fun u t => t.testFailed_bootView u (hk _ (by simp))).trans ?_)
  refine Eq.trans ?_ ((s.bankTaken bank).boardPoints_bootView himage)
  split
  · exact State.bootView_of_quiet (State.raise_quiet _ _ _ _ _)
  · rfl

end

theorem State.imageUp_selftest (s : State) (bank fell : Bool) {failed : List TestUnit} {u : TestUnit} (hu : u ∈ failed) :
    Arith.bit ((s.imageUp bank fell failed).n .devSelftest) (testBit u).1 = true := by
  unfold State.imageUp
  dsimp only
  rw [show ∀ t : State, t.lanePublish.n .devSelftest = t.n .devSelftest from fun t =>
    State.aside_n (t.lanePublish_bootView (ks := [.devSelftest]) (by decide)) _ _ _ rfl rfl]
  exact forL_testFailed_bit _ (.inl hu)

/-! ## The Safe causes of the start (Table 10.4) -/

/-- The firmware starts: Configure, or Safe once a cause arose. -/
structure Starting (s : State) (safe : Bool) : Prop where
  mode : s.mode = if safe then 6 else 1
  role : s.n .pairRole = 0
  token : s.dev.tokenOn = false

/-- A state without the units that self-test takes out of service, and without what a Safe cause sets. -/
def startErase (s : State) : State := safeView (bootErase s)

/-- The records that the start of the firmware and its Safe causes leave, and the points of some fields. -/
def State.startView (ks : List Field) (s : State) : State × (Field → Nat → Nat → Word) := s.aside startErase fun q => !ks.contains q.f

theorem not_contains_mono {ks ls : List Field} (hs : ls ⊆ ks) (q : Pt) (h : (!ks.contains q.f) = true) : (!ls.contains q.f) = true := by
  simp only [Bool.not_eq_true', List.contains_eq_mem, decide_eq_false_iff_not] at h ⊢
  exact fun hm => h (hs hm)

theorem State.startView_of_bootView {s t : State} {ks : List Field} (h : t.bootView ks = s.bootView ks) : t.startView ks = s.startView ks :=
  Prod.ext (congrArg safeView (State.aside_rest h)) (congrArg Prod.snd h :)

theorem startErase_safeView (s : State) :
    startErase s = (safeView s).withDev { (safeView s).dev with unitsOut := [], lanesOk := 0, endsOk := 0 } := by
  cases s; rfl

theorem State.startView_of_exceptSafe {s t : State} {ks : List Field} (h : t.exceptSafe = s.exceptSafe)
    (hk : ∀ f ∈ safeFields, ks.contains f = false) : t.startView ks = s.startView ks := by
  have hr : safeView t.rest = safeView s.rest := State.aside_rest h
  have hb : t.aside startErase (inFields safeFields) = s.aside startErase (inFields safeFields) :=
    Prod.ext ((startErase_safeView t.rest).trans ((by rw [hr] : _ = _).trans (startErase_safeView s.rest).symm)) (congrArg Prod.snd h :)
  refine State.aside_mono hb fun x hx => ?_
  rw [hk _ (by simpa [inFields] using hx)]
  rfl

/-- What a Safe cause at the start leaves. -/
def bootKept : List Field := [.hwFwKeySlots, .hwFwSecurityFloor, .devSelftest, .pairRole]

theorem Starting.enterSafe {s : State} {b : Bool} (h : Starting s b) (code : Nat) :
    Starting (s.enterSafe code) true ∧ (s.enterSafe code).startView bootKept = s.startView bootKept := by
  have h7 : s.mode ≠ 7 := by rw [h.mode]; cases b <;> decide
  have hr : ¬(s.n .pairRole = 2 ∧ 3 ≤ code) := by rw [h.role]; omega
  have hview := State.startView_of_exceptSafe (s.enterSafe_exceptSafe code h7) (ks := bootKept) (by decide)
  have hrole : (s.enterSafe code).n .pairRole = 0 := (State.aside_n hview _ _ _ rfl rfl).trans h.role
  cases b with
  | true => exact ⟨⟨(s.enterSafe_inSafe code h.mode hr).1, hrole, (s.enterSafe_leaves code h7).1 h.token⟩, hview⟩
  | false =>
    have hm : s.mode = 1 := h.mode
    exact ⟨⟨(s.enterSafe_enters code (by omega) (by omega) hr).1, hrole, (s.enterSafe_leaves code h7).1 h.token⟩, hview⟩

/-- A cause that arises or not. -/
theorem Starting.whether {s : State} {b : Bool} (h : Starting s b) (c : Bool) (code : Nat) :
    let t := if c then s.enterSafe code else s
    Starting t (b || c) ∧ t.startView bootKept = s.startView bootKept := by
  cases c with
  | true => rw [Bool.or_true]; exact h.enterSafe code
  | false => rw [Bool.or_false]; exact ⟨h, rfl⟩

theorem State.sto_of_startView {s t : State} {ks : List Field} (h : t.startView ks = s.startView ks) :
    t.dev.stoA = s.dev.stoA ∧ t.dev.stoB = s.dev.stoB :=
  ⟨congrArg (fun x : State × (Field → Nat → Nat → Word) => x.1.dev.stoA) h, congrArg (fun x : State × (Field → Nat → Nat → Word) => x.1.dev.stoB) h⟩

theorem Starting.startSafe {s : State} (h : Starting s false) (failed : List TestUnit) :
    Starting (s.startSafe failed) (failed.any testCritical || !s.dev.stoA || !s.dev.stoB) ∧
    (s.startSafe failed).startView bootKept = s.startView bootKept := by
  obtain ⟨h1, v1⟩ := h.whether (failed.any testCritical) 9
  unfold State.startSafe
  dsimp only
  generalize (if failed.any testCritical = true then s.enterSafe 9 else s) = s1 at h1 v1
  obtain ⟨h2, v2⟩ := h1.whether (!s1.dev.stoA) 1
  rw [(State.sto_of_startView v1).1] at h2 v2 ⊢
  rw [show (if s.dev.stoA = true then s1 else s1.enterSafe 1) = if (!s.dev.stoA) = true then s1.enterSafe 1 else s1 by cases s.dev.stoA <;> rfl]
  generalize (if (!s.dev.stoA) = true then s1.enterSafe 1 else s1) = s2 at h2 v2
  obtain ⟨h3, v3⟩ := h2.whether (!s2.dev.stoB) 2
  rw [(State.sto_of_startView v2).2, (State.sto_of_startView v1).2] at h3 v3 ⊢
  rw [show (if s.dev.stoB = true then s2 else s2.enterSafe 2) = if (!s.dev.stoB) = true then s2.enterSafe 2 else s2 by cases s.dev.stoB <;> rfl]
  exact ⟨by simpa using h3, v3.trans (v2.trans v1)⟩

end Sys2Proof.Machine
end

section
/-!
SUPPORT. Proofs/PowerAndReset.lean: power good, device reset, PERST and the loss of power (sections 10.3, 10.5, 18.9 and 18.10).
-/
namespace Sys2Proof.Machine

/-! ## Outputs stand through the start of the firmware -/

theorem OutKept.refl (s : State) : OutKept s s := List.Subset.refl _

theorem OutKept.forN (n : Nat) (f : Nat → State → State) (s : State) (h : ∀ a t, OutKept t (f a t)) : OutKept s (forN n f s) := by
  induction n with
  | zero => exact .refl s
  | succ n ih => exact ih.trans (h n _)

theorem OutKept.forL {α : Type} (l : List α) (f : α → State → State) (s : State) (h : ∀ a t, OutKept t (f a t)) : OutKept s (forL l f s) := by
  induction l generalizing s with
  | nil => exact .refl s
  | cons a l ih => exact (h a s).trans (ih _)

theorem State.imagePoints_out (s : State) : s.imagePoints.out = s.out := by
  have h : ∀ t : State, (Machine.forN 8 (fun j t => t.putN .devKernelCompat 0 (Config.kernelCompat j).toNat j) t).out = t.out :=
    fun t => forN_keeps State.out 8 _ t fun _ _ => rfl
  unfold State.imagePoints State.classDefaults
  dsimp only
  simp only [State.putR, State.putN] at h ⊢
  simp only [State.put_out, h]

theorem State.envPublish_out (s : State) (agent tier : Nat) : (s.envPublish agent tier).out = s.out := by
  unfold State.envPublish
  simp only [State.putN_out]

theorem State.envStart_out (s : State) : s.envStart.out = s.out := by
  unfold State.envStart
  refine forN_keeps State.out 6 _ s fun k t => ?_
  refine (State.envPublish_out _ _ _).trans ?_
  split
  · exact State.putN_out _ _ _ _ _
  · rfl

theorem State.hifPublish_out (s : State) : s.hifPublish.out = s.out := by
  unfold State.hifPublish
  simp only [State.putN_out]

theorem State.jrnPublish_out (s : State) : s.jrnPublish.out = s.out := State.putN_out _ _ _ _ _

theorem State.boardPoints_out (s : State) : s.boardPoints.out = s.out := by
  unfold State.boardPoints
  rw [State.jrnPublish_out, State.hifPublish_out, State.envStart_out, State.imagePoints_out]

theorem State.testFailed_outKept (s : State) (u : TestUnit) : OutKept s (s.testFailed u) := by
  obtain ⟨x, l, e, hu⟩ := (s.putN .devSelftest 0 (Arith.setBit (s.n .devSelftest) (testBit u).1 true)).unitOut_frame u
  rw [State.testFailed_eq, hu]
  refine OutKept.trans ?_ (State.raise_outKept _ _ _ _ _)
  exact .of_out rfl

theorem State.lanePublish_out (s : State) : s.lanePublish.out = s.out := by
  unfold State.lanePublish
  dsimp only
  refine (forL_keeps State.out _ _ _ fun d t => ?_).trans (forN_keeps State.out 16 _ s fun n t => ?_)
  · rfl
  · simp only [State.putN, State.put_out]

theorem State.imageUp_outKept (s : State) (bank fell : Bool) (failed : List TestUnit) : OutKept s (s.imageUp bank fell failed) := by
  unfold State.imageUp
  dsimp only
  have h4 : OutKept s (s.bankTaken bank).boardPoints := .of_out (s.bankTaken bank).boardPoints_out
  generalize (s.bankTaken bank).boardPoints = s4 at h4
  have h5 : OutKept s4 (if fell then s4.raise 0x0C4A kDevice 0 0 else s4) := by
    split
    · exact State.raise_outKept _ _ _ _ _
    · exact .refl _
  exact (h4.trans h5).trans ((OutKept.forL failed _ _ fun u t => t.testFailed_outKept u).trans (.of_out (State.lanePublish_out _)))

theorem State.msixCause_outKept (s : State) (c : Nat) : OutKept s (s.msixCause c) := by
  unfold State.msixCause
  split
  · split
    · exact (State.msix_recordsOut s _).kept
    · exact .of_out rfl
  · exact .refl s

theorem State.safeMark_outKept (s : State) (code : Nat) (on : Bool) : OutKept s (s.safeMark code on) := by
  unfold State.safeMark
  dsimp only
  split
  · exact .of_out rfl
  · exact OutKept.trans (s := s) (t := s.safeBit code on) (.of_out rfl) (State.msixCause_outKept _ 4)

theorem State.stopTokens_outKept (s : State) : OutKept s s.stopTokens := by
  obtain ⟨l, hl⟩ := s.stopTokens_frame
  rw [hl]
  exact List.subset_append_right _ _

/-- Safe entered from Configure. -/
theorem State.setMode_outKept (s : State) (h : s.mode = 1) : OutKept s (s.setMode 6) := by
  unfold State.setMode
  extract_lets old s1 src s2 s3 src5 s5 s6 s7 s8
  rw [if_neg (by rw [show old = 1 from h]; decide)]
  have h3 : OutKept s s3 := by
    refine OutKept.trans ?_ (State.msixCause_outKept _ 0)
    have hw : ∀ t : State, t.irqWakeAll old = t := fun t => if_neg (by rw [show old = 1 from h]; decide)
    rw [hw]
    refine OutKept.trans ?_ (.of_out (State.irqFire_out _ 8))
    exact OutKept.trans (s := s) (t := s2) (.of_out rfl) (State.raise_outKept _ _ _ _ _)
  have h5 : OutKept s s5 := by
    rw [show s5 = s3.stopTokens from if_neg (by decide)]
    exact h3.trans s3.stopTokens_outKept
  have h6 : s6 = s5 := by
    rw [show s6 = _ from if_neg (by rintro ⟨hm, -⟩; exact absurd hm (by decide))]
    exact if_neg (by rw [show old = 1 from h]; decide)
  have h8 : s8 = s5 := by
    rw [show s8 = s7 from if_neg (by rw [show old = 1 from h]; decide), show s7 = s6 from if_neg fun hm => absurd hm.2 (by decide), h6]
  exact h5.trans (.of_out (by rw [h8]; rfl))

/-- The journal's trigger of a Safe cause. -/
def State.safeCapture (s : State) : State :=
  if s.n .jrnTrigSafe = 1 then (s.captureTrigger s.epoch (s.n .jrnPreMs) (s.n .jrnPostMs)).1 else s

theorem State.safeCapture_leaves (s : State) : OutKept s s.safeCapture ∧ s.safeCapture.mode = s.mode := by
  unfold State.safeCapture
  split
  · exact ⟨(State.captureTrigger_recordsOut _ _ _ _).kept, State.n_of_quiet (State.captureTrigger_quiet _ _ _ _) _ _ _ rfl⟩
  · exact ⟨.refl s, rfl⟩

/-- Safe from a mode that runs no replay. -/
theorem State.enterSafe_eq (s : State) (code : Nat) (hr : ¬((s.safeMark code true).n .pairRole = 2 ∧ 3 ≤ code))
    (h0 : (s.safeMark code true).mode ≠ 0) : s.enterSafe code =
      let s2 := ((s.safeMark code true).raise 0x0C43 kDevice 0 code).stopTokens
      if s2.mode = 6 then s2
      else
        let s4 := if s2.safeCapture.mode = 7 then s2.safeCapture.replayLeave.blockAll else s2.safeCapture
        (s4.withDev { s4.dev with modeTaken := true, sleepReq := false, haltDue := false }).setMode 6 := by
  unfold State.enterSafe State.safeCapture
  generalize s.safeMark code true = s1 at hr h0
  dsimp only
  rw [if_neg hr, if_neg h0]

theorem Starting.enterSafe_outKept {s : State} {b : Bool} (h : Starting s b) (code : Nat) : OutKept s (s.enterSafe code) := by
  have hm1 : (s.safeMark code true).mode = s.mode := s.safeMark_n code true _ _ _ (by decide) rfl
  have hr1 : (s.safeMark code true).n .pairRole = 0 := (s.safeMark_n code true _ _ _ (by decide) rfl).trans h.role
  rw [s.enterSafe_eq code (by rw [hr1]; omega) (by rw [hm1, h.mode]; cases b <;> decide)]
  have h1 : OutKept s (s.safeMark code true) := s.safeMark_outKept code true
  generalize s.safeMark code true = s1 at hm1 h1
  have h2 : OutKept s1 (s1.raise 0x0C43 kDevice 0 code).stopTokens := (State.raise_outKept _ _ _ _ _).trans (State.stopTokens_outKept _)
  have hm2 : (s1.raise 0x0C43 kDevice 0 code).stopTokens.mode = s1.mode :=
    (State.n_of_quiet (State.stopTokens_quiet _) _ _ _ rfl).trans (State.n_of_quiet (s1.raise_quiet _ _ _ _) _ _ _ rfl)
  generalize (s1.raise 0x0C43 kDevice 0 code).stopTokens = s2 at h2 hm2
  dsimp only
  split
  · exact h1.trans h2
  · next h6 =>
    have hm : s.mode = 1 := by
      have hb := h.mode
      rw [hm2, hm1, hb] at h6
      rw [hb]
      cases b
      · rfl
      · exact absurd rfl h6
    obtain ⟨h3, hm3⟩ := s2.safeCapture_leaves
    generalize s2.safeCapture = s3 at h3 hm3
    have hm3' : s3.mode = 1 := hm3.trans (hm2.trans (hm1.trans hm))
    rw [if_neg (by rw [hm3']; decide)]
    refine (h1.trans (h2.trans h3)).trans ?_
    exact OutKept.trans (.of_out rfl) ((s3.withDev { s3.dev with modeTaken := true, sleepReq := false, haltDue := false }).setMode_outKept hm3')

theorem Starting.whether_outKept {s : State} {b : Bool} (h : Starting s b) (c : Bool) (code : Nat) :
    OutKept s (if c then s.enterSafe code else s) := by
  cases c with
  | true => exact h.enterSafe_outKept code
  | false => exact .refl s

theorem Starting.startSafe_outKept {s : State} (h : Starting s false) (failed : List TestUnit) : OutKept s (s.startSafe failed) := by
  have h1 := (h.whether (failed.any testCritical) 9).1
  have k1 := h.whether_outKept (failed.any testCritical) 9
  unfold State.startSafe
  dsimp only
  generalize (if failed.any testCritical = true then s.enterSafe 9 else s) = s1 at h1 k1
  have h2 := (h1.whether (!s1.dev.stoA) 1).1
  have k2 := h1.whether_outKept (!s1.dev.stoA) 1
  rw [show (if s1.dev.stoA = true then s1 else s1.enterSafe 1) = if (!s1.dev.stoA) = true then s1.enterSafe 1 else s1 by
    cases s1.dev.stoA <;> rfl]
  generalize (if (!s1.dev.stoA) = true then s1.enterSafe 1 else s1) = s2 at h2 k2
  have k3 := h2.whether_outKept (!s2.dev.stoB) 2
  rw [show (if s2.dev.stoB = true then s2 else s2.enterSafe 2) = if (!s2.dev.stoB) = true then s2.enterSafe 2 else s2 by
    cases s2.dev.stoB <;> rfl]
  exact k1.trans (k2.trans k3)

/-! ## The power-on sequence (Table 10.3) -/

/-- Power stands, and both banks have been tried, with what they show. -/
def State.banksTried (s : State) (permit detail : Nat) : State :=
  let s3 := (s.withFree (s.free + 1 + 1)).withHw { s.hw with inputOn := true, bootDetail := detail }
  (s3.withClk { s.clk with running := true }).withDev
    { s.dev with powered := true, permit := permit, stoDiffAt := if s.dev.stoA == s.dev.stoB then none else some 0 }

theorem State.powerUp_eq (s : State) (permit : Nat) (failed : List TestUnit) : ∃ x y detail, s.powerUp permit failed =
    match (chooseBank s.hw.bank0 s.hw.bank1 (s.n .hwFwSecurityFloor) x y).1 with
    | some b => (s.banksTried permit detail).firmware b (fellBack s.hw.bank0 s.hw.bank1 b) failed
    | none => (s.banksTried permit detail).withDev { (s.banksTried permit detail).dev with boot := 2 } :=
  ⟨_, _, _, rfl⟩

theorem State.powerUp_cases (s : State) (permit : Nat) (failed : List TestUnit) :
    ∃ detail, (∀ b, (chooseBank s.hw.bank0 s.hw.bank1 (s.n .hwFwSecurityFloor) 0 0).1 = some b →
        s.powerUp permit failed = (s.banksTried permit detail).firmware b (fellBack s.hw.bank0 s.hw.bank1 b) failed) ∧
      ((chooseBank s.hw.bank0 s.hw.bank1 (s.n .hwFwSecurityFloor) 0 0).1 = none →
        s.powerUp permit failed = (s.banksTried permit detail).withDev { (s.banksTried permit detail).dev with boot := 2 }) := by
  obtain ⟨x, y, detail, h⟩ := s.powerUp_eq permit failed
  refine ⟨detail, fun b hb => ?_, fun hb => ?_⟩
  · rw [h, chooseBank_pick _ _ _ x y 0 0, hb]
  · rw [h, chooseBank_pick _ _ _ x y 0 0, hb]

/-- The firmware starts: the mode, self-test, and what it leaves. -/
theorem State.firmware_started (s : State) (bank fell : Bool) (failed : List TestUnit) (hrole : s.n .pairRole = 0)
    (htoken : s.dev.tokenOn = false) : let t := s.firmware bank fell failed
    t.startView [.hwFwKeySlots] = (s.bankTaken bank).startView [.hwFwKeySlots] ∧
    t.mode = (if failed.any testCritical || !s.dev.stoA || !s.dev.stoB then 6 else 1) ∧ t.dev.tokenOn = false ∧
    (∀ u ∈ failed, Arith.bit (t.n .devSelftest) (testBit u).1 = true) ∧ OutKept s t := by
  have hview := s.imageUp_bootView bank fell failed (ks := [.hwFwKeySlots, .hwFwSecurityFloor, .pairRole, .devMode]) (by decide)
  have htested : ∀ u ∈ failed, Arith.bit ((s.imageUp bank fell failed).n .devSelftest) (testBit u).1 = true := fun u hu =>
    s.imageUp_selftest bank fell hu
  have hout := s.imageUp_outKept bank fell failed
  rw [State.firmware_eq]
  generalize s.imageUp bank fell failed = x at hview htested hout
  have hdev := State.dev_of_bootView hview
  have hst : Starting x false :=
    ⟨(State.aside_n hview .devMode 0 0 rfl rfl).trans ((State.n_put_field _ _ (by decide)).trans (State.n_putN_same _ _ _ _ _ (by decide))),
      (State.aside_n hview .pairRole 0 0 rfl rfl).trans
      ((State.n_put_field _ _ (by decide)).trans ((State.n_put_field _ _ (by decide)).trans hrole)), hdev.1.trans htoken⟩
  obtain ⟨hsafe, hkept⟩ := hst.startSafe failed
  have hout2 := hst.startSafe_outKept failed
  rw [hdev.2.1, hdev.2.2] at hsafe
  dsimp only
  generalize x.startSafe failed = y at hsafe hkept hout2
  refine ⟨?_, (State.n_put_field _ _ (by decide)).trans hsafe.mode, hsafe.token, fun u hu => ?_, hout.trans (hout2.trans (.of_out rfl))⟩
  · refine (State.aside_putN _ _ _ _ rfl).trans ?_
    exact (State.aside_mono hkept (not_contains_mono (by decide))).trans
      (State.startView_of_bootView (State.aside_mono hview (not_contains_mono (by decide))))
  · rw [State.putN, State.n_put_field _ _ (by decide), State.aside_n hkept .devSelftest 0 0 rfl rfl]
    exact htested u hu

/-- The records that a start is judged by. -/
def State.bootReads (s : State) : (Bool × Nat × Bool × Bool × Nat) × Clock × Plant × (List Cmd × List FinCpl × List MailRec) × Tab Rnd × Tab CellSt ×
    List Instr × Hw :=
  ((s.dev.powered, s.dev.boot, s.dev.supUp, s.dev.pdActive, s.dev.permit), s.clk, s.plant, (s.host.pr, s.host.fins, s.jrn.live), s.rnds,
    s.cells, s.pending, s.hw)

theorem startErase_bootReads (s : State) : (startErase s.rest).bootReads = s.bootReads := by
  cases s; rfl

theorem State.bootReads_of_startView {s t : State} {ks : List Field} (h : t.startView ks = s.startView ks) : t.bootReads = s.bootReads :=
  (startErase_bootReads t).symm.trans ((congrArg State.bootReads (State.aside_rest h)).trans (startErase_bootReads s))

/-- A state holds what is left of another without power. -/
structure Dark (s d : State) : Prop where
  dev : d.dev = { State.reset.dev with stoA := s.dev.stoA, stoB := s.dev.stoB, perst := s.dev.perst, permit := s.dev.permit }
  records : (d.clk, d.plant, d.host, d.jrn, d.rnds) = (State.reset.clk, .none, State.reset.host, State.reset.jrn, [])
  kept : (d.cells, d.pending, d.hw.keys, d.hw.bank0, d.hw.bank1) = (s.cells, s.pending, s.hw.keys, s.hw.bank0, s.hw.bank1)
  role : d.n .pairRole = 0
  points : ∀ f i j, otpPoint ⟨f, i, j⟩ = true → d.n f i j = s.n f i j

theorem State.dark_dark (s : State) : Dark s s.dark where
  dev := rfl
  records := rfl
  kept := rfl
  role := by
    rw [State.n, State.dark_w, if_neg (by decide)]
    decide +kernel
  points f i j h := by rw [State.n, State.dark_w, if_pos h]; rfl

theorem Dark.booted {s d : State} (h : Dark s d) (permit : Nat) (failed : List TestUnit) : let t := d.powerUp permit failed
    Booted s t failed ∧ t.dev.permit = permit ∧ t.hw.posB = d.hw.posB ∧ OutKept d t := by
  have hdev := h.dev
  have hrec := h.records
  have hkept := h.kept
  simp only [Prod.mk.injEq] at hrec hkept
  obtain ⟨hclk, hplant, hhost, hjrn, hrnds⟩ := hrec
  obtain ⟨hcells, hpending, hkeys, hb0, hb1⟩ := hkept
  have hfloor : d.n .hwFwSecurityFloor = s.n .hwFwSecurityFloor := h.points .hwFwSecurityFloor 0 0 rfl
  obtain ⟨detail, hsome, hnone⟩ := d.powerUp_cases permit failed
  rw [hb0, hb1, hfloor] at hsome hnone
  have hreads : (d.banksTried permit detail).bootReads =
      ((true, d.dev.boot, d.dev.supUp, d.dev.pdActive, permit), { d.clk with running := true }, d.plant,
        (d.host.pr, d.host.fins, d.jrn.live), d.rnds, d.cells, d.pending, (d.banksTried permit detail).hw) := rfl
  have hhw : (d.banksTried permit detail).hw.keys = d.hw.keys ∧ (d.banksTried permit detail).hw.bank0 = d.hw.bank0 ∧
      (d.banksTried permit detail).hw.bank1 = d.hw.bank1 ∧ (d.banksTried permit detail).hw.posB = d.hw.posB := ⟨rfl, rfl, rfl, rfl⟩
  have hslots : (d.banksTried permit detail).n .hwFwKeySlots = s.n .hwFwKeySlots := h.points .hwFwKeySlots 0 0 rfl
  have hrole : (d.banksTried permit detail).n .pairRole = 0 := h.role
  have hd : (d.banksTried permit detail).dev.tokenOn = false ∧ (d.banksTried permit detail).dev.stoA = s.dev.stoA ∧
      (d.banksTried permit detail).dev.stoB = s.dev.stoB := ⟨by rw [show (d.banksTried permit detail).dev.tokenOn = d.dev.tokenOn from rfl, hdev]; rfl,
        by rw [show (d.banksTried permit detail).dev.stoA = d.dev.stoA from rfl, hdev],
        by rw [show (d.banksTried permit detail).dev.stoB = d.dev.stoB from rfl, hdev]⟩
  have hout : OutKept d (d.banksTried permit detail) := .of_out rfl
  rw [hdev, hclk, hplant, hhost, hjrn, hrnds, hcells, hpending] at hreads
  rw [hkeys, hb0, hb1] at hhw
  generalize d.banksTried permit detail = u at hsome hnone hreads hhw hslots hrole hd hout
  simp only [State.bootReads, Prod.mk.injEq] at hreads
  obtain ⟨⟨rpow, rboot, rsup, rpd, rpermit⟩, rclk, rplant, ⟨rpr, rfins, rlive⟩, rrnds, rcells, rpending, -⟩ := hreads
  obtain ⟨hwk, hw0, hw1, hwp⟩ := hhw
  cases hp : (chooseBank s.hw.bank0 s.hw.bank1 (s.n .hwFwSecurityFloor) 0 0).1 with
  | none =>
    rw [hnone hp]
    refine ⟨⟨rpow, rclk, rplant, rpd, rpr, rfins, rlive, rrnds, rcells, rpending, hwk, hw0, hw1, hslots, fun _ => ⟨rfl, rsup⟩, fun b hb => ?_⟩,
      rpermit, hwp, hout⟩
    exact absurd (hp.symm.trans hb) (by simp)
  | some b =>
    rw [hsome b hp]
    obtain ⟨hview, hmode, htoken, htested, hout2⟩ := u.firmware_started b (fellBack s.hw.bank0 s.hw.bank1 b) failed hrole hd.1
    rw [hd.2.1, hd.2.2] at hmode
    generalize u.firmware b (fellBack s.hw.bank0 s.hw.bank1 b) failed = t at hview hmode htoken htested hout2
    have ht : t.bootReads = ((u.dev.powered, 0, true, u.dev.pdActive, u.dev.permit), u.clk, u.plant, (u.host.pr, u.host.fins, u.jrn.live),
      u.rnds, u.cells, u.pending, { u.hw with bankB := b }) := State.bootReads_of_startView hview
    simp only [State.bootReads, Prod.mk.injEq] at ht
    obtain ⟨⟨tpow, tboot, tsup, tpd, tpermit⟩, tclk, tplant, ⟨tpr, tfins, tlive⟩, trnds, tcells, tpending, thw⟩ := ht
    have tslots : t.n .hwFwKeySlots = s.n .hwFwKeySlots := (State.aside_n hview .hwFwKeySlots 0 0 rfl rfl).trans
      ((State.n_put_field _ _ (by decide)).trans ((State.n_put_field _ _ (by decide)).trans hslots))
    refine ⟨⟨tpow.trans rpow, tclk.trans rclk, tplant.trans rplant, tpd.trans rpd, tpr.trans rpr, tfins.trans rfins, tlive.trans rlive,
      trnds.trans rrnds, tcells.trans rcells, tpending.trans rpending, ?_, ?_, ?_, tslots, fun hn => ?_, fun c hc => ?_⟩,
      tpermit.trans rpermit, ?_, hout.trans hout2⟩
    · rw [thw]; exact hwk
    · rw [thw]; exact hw0
    · rw [thw]; exact hw1
    · exact absurd (hp.symm.trans hn) (by simp)
    · obtain rfl : b = c := Option.some.inj (hp.symm.trans hc)
      exact ⟨tboot, tsup, by rw [thw], hmode, htoken, htested⟩
    · rw [thw]; exact hwp

/-- Settles O52: a start runs on what is left without power, and the loss of power leaves just that. -/
theorem powerAndReset : Obligations.PowerAndReset := by
  unfold Obligations.PowerAndReset
  intro s
  refine ⟨fun permit posB failed hoff hne => ?_, fun failed hup => ?_, ⟨_, rfl, rfl, rfl⟩, fun hon => ?_⟩
  · have hd : Dark s (s.dark.withHw { s.dark.hw with posB := posB }) := ⟨rfl, rfl, rfl, s.dark_dark.role, s.dark_dark.points⟩
    obtain ⟨hb, hpermit, hpos, -⟩ := hd.booted permit.toNat failed
    refine ⟨_, congrArg Host.Outcome.next (if_neg ?_), hb, hpermit, hpos⟩
    rintro (h | h)
    · exact absurd (hoff.symm.trans h) (by decide)
    · exact hne h
  · have hd : Dark s (s.dark.withOut s.outputsOff.out) := ⟨rfl, rfl, rfl, s.dark_dark.role, s.dark_dark.points⟩
    rw [← s.outputsOff_dark] at hd
    obtain ⟨hb, hpermit, hpos, hout⟩ := hd.booted s.dev.permit failed
    refine yields_if hup ⟨hb, hpermit, hpos.trans ?_, hout ?_⟩
    · rw [s.outputsOff_dark]
      rfl
    · rw [s.outputsOff_dark]
      exact s.outputsOff_out.1
  · refine yields_if hon ?_
    rw [s.outputsOff_dark]
    refine ⟨rfl, rfl, rfl, rfl, rfl, rfl, fun f i j => s.dark_w f i j, rfl, rfl, rfl, rfl, rfl, s.outputsOff_out.1, s.outputsOff_out.2⟩

end Sys2Proof.Machine
end

section
/-!
SUPPORT. Proofs/RoleTaken.lean: what a change of role does to a module and what it leaves (sections 14.3 and 14.7).
-/
namespace Sys2Proof.Machine

/-! ## What a change of role leaves -/

/-- A state without its controllers, the final completions, the clock, the count of free values, the bridges and VAUX. -/
def roleErase (r : State) : State := auxView (canView r)

theorem roleErase_eq (r : State) : roleErase r = canView (auxView r) := by
  cases r; rfl

/-- The points that a change of role writes. -/
def roleFields : List Field :=
  [.pairRole, .canState, .canTxDiscarded, .objStatus, .auxState, .auxCause, .vauxChopState, .pairEligible, .devTimeState]

/-- What a state holds aside from what a change of role sets and what reporting writes. -/
def State.roleView (s : State) : State × (Field → Nat → Nat → Word) := s.aside roleErase (inFields roleFields)

section
variable {s t : State}

theorem State.roleView_of_quiet (h : t.quiet = s.quiet) : t.roleView = s.roleView := State.aside_of_quiet h

theorem State.roleView_of_canView {fs : List Field} (hs : fs ⊆ roleFields) (h : t.aside canView (inFields fs) = s.aside canView (inFields fs)) :
    t.roleView = s.roleView :=
  Prod.ext (congrArg auxView (State.aside_rest h)) (congrArg Prod.snd (State.aside_fields_mono h hs) :)

theorem State.roleView_of_auxView {fs : List Field} (hs : fs ⊆ roleFields) (h : t.aside auxView (inFields fs) = s.aside auxView (inFields fs)) :
    t.roleView = s.roleView :=
  Prod.ext ((roleErase_eq _).trans ((congrArg canView (State.aside_rest h)).trans (roleErase_eq _).symm))
    (congrArg Prod.snd (State.aside_fields_mono h hs) :)

end

theorem State.putN_roleView (s : State) {f : Field} (h : roleFields.contains f = true) (i v j : Nat) : (s.putN f i v j).roleView = s.roleView :=
  State.aside_putN f i v j h

theorem State.canIdle_roleView (s : State) (c : Nat) : (s.canIdle c).roleView = s.roleView :=
  State.roleView_of_canView (fs := canIdleFields) (by decide)
    (congrArg Prod.fst (s.canIdle_canSide (c := c) (fs := canIdleFields) (by decide) (by decide) (by decide)))

theorem State.putCan_roleView (s : State) (c : Nat) (x : Can) : (s.putCan c x).roleView = s.roleView :=
  State.roleView_of_canView (fs := []) (by decide) (congrArg Prod.fst (State.canSide_putCan (fs := []) s c x))

theorem State.setBr_roleView (s : State) (n st : Nat) (x : Br) : (s.setBr n st x).roleView = s.roleView :=
  State.roleView_of_auxView (by decide) (s.setBr_aside n st x)

theorem State.brRestart_roleView (s : State) (n : Nat) : (s.brRestart n).roleView = s.roleView := s.setBr_roleView _ _ _

theorem State.putBr_roleView (s : State) (n : Nat) (x : Br) : (s.putBr n x).roleView = s.roleView :=
  State.roleView_of_auxView (fs := []) (by decide) (s.putBr_aside n x)

/-- A bridge as a role and a description configure it. -/
def State.stageOne (s : State) (n : Nat) : State :=
  match s.axisOf n with
  | some _ =>
    if s.n .pairRole = 2 then s.setBr n 0 { Br.init with holds := (s.br n).holds }
    else if s.brState n = 0 then
      (s.putBr n { Br.init with holds := Nat.lor s.vaux.holds (Nat.land (s.br n).holds 64) }).brRestart n
    else s
  | none => s.setBr n 0 Br.init

/-- The stage as a role and a description configure it, by its bridges. -/
theorem State.stageConfigure_eq (s : State) : s.stageConfigure =
    let s1 := forN 12 (fun n t => t.stageOne n) s
    if s1.brState 12 = 0 then s1.brRestart 12 else s1 := rfl

theorem State.stageOne_cases (s : State) (n : Nat) :
    (∃ st x, s.stageOne n = s.setBr n st x) ∨ (∃ x, s.stageOne n = (s.putBr n x).brRestart n) ∨ s.stageOne n = s := by
  unfold State.stageOne
  split
  · split
    · exact .inl ⟨_, _, rfl⟩
    · split
      · exact .inr (.inl ⟨_, rfl⟩)
      · exact .inr (.inr rfl)
  · exact .inl ⟨_, _, rfl⟩

/-- What the bridges' operations keep, configuring the stage keeps. -/
theorem State.stageConfigure_keeps {α : Type} (g : State → α) (hset : ∀ (t : State) n st x, g (t.setBr n st x) = g t)
    (hput : ∀ (t : State) n x, g (t.putBr n x) = g t) (s : State) : g s.stageConfigure = g s := by
  have hre : ∀ (t : State) n, g (t.brRestart n) = g t := fun t n => hset t n _ _
  have hone : ∀ n (t : State), g (t.stageOne n) = g t := fun n t => by
    rcases t.stageOne_cases n with ⟨st, x, h⟩ | ⟨x, h⟩ | h
    · rw [h, hset]
    · rw [h, hre, hput]
    · rw [h]
  rw [State.stageConfigure_eq]
  dsimp only
  have h1 : g (forN 12 (fun n t => t.stageOne n) s) = g s := forN_keeps g 12 _ s hone
  generalize forN 12 (fun n t => t.stageOne n) s = s1 at h1
  split
  · rw [hre, h1]
  · exact h1

theorem State.stageConfigure_roleView (s : State) : s.stageConfigure.roleView = s.roleView :=
  s.stageConfigure_keeps State.roleView State.setBr_roleView State.putBr_roleView

/-- A controller takes the mode that the role allows. -/
def State.roleCan (s : State) (c : Nat) : State :=
  if s.unitOn 4 c then (s.putCan c { s.can c with modeDue := some (s.canWanted (s.n .canMode c)) }).canIdle c else s

theorem State.roleUnits_eq (s : State) : s.roleUnits = (forN 4 (fun c t => t.roleCan c) s).stageConfigure := rfl

theorem State.roleCan_roleView (s : State) (c : Nat) : (s.roleCan c).roleView = s.roleView := by
  unfold State.roleCan
  split
  · exact (State.canIdle_roleView _ c).trans (s.putCan_roleView c _)
  · rfl

theorem State.roleUnits_roleView (s : State) : s.roleUnits.roleView = s.roleView := by
  rw [State.roleUnits_eq]
  exact (State.stageConfigure_roleView _).trans (forN_keeps State.roleView 4 _ s fun c t => t.roleCan_roleView c)

theorem State.setPairField_roleView (s : State) (v : Nat) : (s.setPairField .pairRole v).roleView = s.roleView := by
  unfold State.setPairField
  split
  · rfl
  · exact (State.roleView_of_quiet (State.msixCause_quiet _ 2)).trans (s.putN_roleView rfl _ _ _)

/-- A module in its role, before its time source is judged. -/
def State.roleTaken (s : State) (role : Nat) : State := (((s.setPairField .pairRole role).irqFire 2).roleUnits).pubEligible

theorem State.takeRole_eq (s : State) (role : Nat) (h : s.n .pairRole ≠ role) : s.takeRole role = (s.roleTaken role).sourceChosen s.timeSource :=
  if_neg h

theorem State.roleTaken_roleView (s : State) (role : Nat) : (s.roleTaken role).roleView = s.roleView :=
  (State.putN_roleView _ rfl _ _ _).trans ((State.roleUnits_roleView _).trans
    ((State.roleView_of_quiet (State.irqFire_quiet _ 2)).trans (s.setPairField_roleView role)))

theorem State.sourceChosen_roleView (s : State) (old : Nat) : (s.sourceChosen old).roleView = s.roleView := by
  unfold State.sourceChosen
  split
  · rfl
  · exact (State.putN_roleView _ rfl _ _ _).trans (State.aside_record (by cases s; rfl) rfl)

theorem State.takeRole_roleView (s : State) (role : Nat) : (s.takeRole role).roleView = s.roleView := by
  unfold State.takeRole
  split
  · rfl
  · exact (State.sourceChosen_roleView _ _).trans (s.roleTaken_roleView role)

/-! ## The clock and the mode -/

theorem State.roleUnits_clk (s : State) : s.roleUnits.clk = s.clk := by
  rw [State.roleUnits_eq]
  refine (State.stageConfigure_keeps State.clk (fun t n st x => clk_of_auxView (State.aside_rest (t.setBr_aside n st x))) (fun _ _ _ => rfl) _).trans
    (forN_keeps State.clk 4 _ s fun c t => ?_)
  unfold State.roleCan
  split
  · exact (congrArg Prod.fst (State.canIdle_commitView _ c) :).trans rfl
  · rfl

theorem State.roleTaken_clk (s : State) (role : Nat) : (s.roleTaken role).clk = s.clk := by
  unfold State.roleTaken State.pubEligible
  rw [State.putN_clk, State.roleUnits_clk, State.clk_of_quiet (State.irqFire_quiet _ 2)]
  exact (congrArg State.clk (s.setPairField_rest .pairRole role) :)

/-! ## The role itself -/

theorem State.stageConfigure_n (s : State) (f : Field) (i : Nat) (hf : fieldReports f = false) (h : auxStateFields.contains f = false) :
    s.stageConfigure.n f i = s.n f i :=
  s.stageConfigure_keeps (fun t => t.n f i) (fun t n st x => t.setBr_n n st x f i hf h) fun _ _ _ => rfl

theorem State.roleUnits_n (s : State) (f : Field) (i : Nat) (hf : fieldReports f = false) (h : auxStateFields.contains f = false)
    (hc : f ∉ canIdleFields) : s.roleUnits.n f i = s.n f i := by
  rw [State.roleUnits_eq, State.stageConfigure_n _ f i hf h]
  refine forN_keeps (fun t : State => t.n f i) 4 _ s fun c t => ?_
  unfold State.roleCan
  split
  · exact (State.idle_idleLeaves _ c).points f i 0 hc hf
  · rfl

theorem State.roleTaken_role (s : State) {role : Nat} (h : role < 2 ^ 32) : (s.roleTaken role).n .pairRole = role := by
  unfold State.roleTaken State.pubEligible
  rw [State.putN, State.n_put_field _ _ (by decide), State.roleUnits_n _ _ _ rfl rfl (by decide),
    State.n_of_quiet (State.irqFire_quiet _ 2) _ _ _ rfl, State.setPairField_n s _ h]

theorem State.sourceChosen_n (s : State) (old : Nat) {f : Field} (i j : Nat) (h : f ≠ .devTimeState) : (s.sourceChosen old).n f i j = s.n f i j := by
  unfold State.sourceChosen
  split
  · rfl
  · exact State.n_put_field _ _ h

theorem State.takeRole_role (s : State) {role : Nat} (h : role < 2 ^ 32) : (s.takeRole role).n .pairRole = role := by
  by_cases hr : s.n .pairRole = role
  · rw [State.takeRole, if_pos hr]
    exact hr
  · rw [s.takeRole_eq role hr, State.sourceChosen_n _ _ _ _ (by decide), s.roleTaken_role h]

/-! ## Source 2 (Table 16.2) -/

theorem State.irq_fired {s t : State} (id : Nat) (h : t.irq = s.irq) (hs : s.fired id) : t.fired id := by
  unfold State.fired State.src at hs ⊢
  rw [h]
  exact hs

theorem State.canSetState_fired (id : Nat) (s : State) (c v : Nat) (h : s.fired id) : (s.canSetState c v).fired id := by
  unfold State.canSetState
  split
  · exact h
  · exact State.irqFire_fired id _ _ h

theorem State.canDiscard_irq (s : State) (c : Nat) : (s.canDiscard c).irq = s.irq := by
  unfold State.canDiscard
  extract_lets x os n s1 s2
  exact forL_keeps State.irq os (fun o t => t.objPending c o) s1 fun _ _ => rfl

theorem State.canModeNow_fired (id : Nat) (s : State) (c v : Nat) (h : s.fired id) : (s.canModeNow c v).fired id := by
  unfold State.canModeNow
  extract_lets x s1 y s2 st
  have h1 : s1.fired id := by
    simp only [s1]
    split
    · exact State.irq_fired id (s.canDiscard_irq c) h
    · exact h
  have h2 : s2.fired id := h1
  clear_value s2
  split
  · exact h2
  · exact s2.canSetState_fired id c _ h2

theorem State.canStart_irq (s : State) (c : Nat) : (s.canStart c).irq = s.irq := by
  unfold State.canStart
  split
  · rfl
  · split <;> rfl

theorem State.canIdle_fired (id : Nat) (s : State) (c : Nat) (h : s.fired id) : (s.canIdle c).fired id := by
  rw [s.canIdle_eq c]
  split
  · refine State.irq_fired id (State.canStart_irq _ c) ?_
    unfold State.canDue
    split
    · exact s.canModeNow_fired id c _ h
    · exact h
  · exact h

theorem State.setBr_fired (id : Nat) (s : State) (n st : Nat) (x : Br) (h : s.fired id) : (s.setBr n st x).fired id := by
  unfold State.setBr
  dsimp only
  split
  · exact h
  · split
    · exact State.irqFire_fired id _ _ h
    · exact h

theorem State.stageOne_fired (id : Nat) (s : State) (n : Nat) (h : s.fired id) : (s.stageOne n).fired id := by
  rcases s.stageOne_cases n with ⟨st, x, he⟩ | ⟨x, he⟩ | he
  · rw [he]; exact s.setBr_fired id n st x h
  · rw [he]; exact State.setBr_fired id (s.putBr n x) n _ _ h
  · rw [he]; exact h

theorem State.stageConfigure_fired (id : Nat) (s : State) (h : s.fired id) : s.stageConfigure.fired id := by
  rw [State.stageConfigure_eq]
  dsimp only
  have h1 : (forN 12 (fun n t => t.stageOne n) s).fired id := forN_fired id 12 _ s (fun n t ht => t.stageOne_fired id n ht) h
  generalize forN 12 (fun n t => t.stageOne n) s = s1 at h1
  split
  · exact State.setBr_fired id s1 12 _ _ h1
  · exact h1

theorem State.roleUnits_fired (id : Nat) (s : State) (h : s.fired id) : s.roleUnits.fired id := by
  rw [State.roleUnits_eq]
  refine State.stageConfigure_fired id _ (forN_fired id 4 _ s (fun c t ht => ?_) h)
  unfold State.roleCan
  split
  · exact State.canIdle_fired id _ c ht
  · exact ht

theorem State.roleTaken_fires (s : State) (role : Nat) : (s.roleTaken role).fired 2 := by
  have h := State.roleUnits_fired 2 _ (State.irqFire_self (s.setPairField .pairRole role) 2 (by decide))
  unfold State.roleTaken State.pubEligible
  generalize ((s.setPairField .pairRole role).irqFire 2).roleUnits = u at h
  exact State.irq_fired 2 (State.putN_irq _ _ _ _ _) h

theorem State.sourceChosen_irq (s : State) (old : Nat) : (s.sourceChosen old).irq = s.irq := by
  unfold State.sourceChosen
  split <;> rfl

theorem State.takeRole_fires (s : State) (role : Nat) (h : s.n .pairRole ≠ role) : (s.takeRole role).fired 2 := by
  rw [s.takeRole_eq role h]
  exact State.irq_fired 2 (State.sourceChosen_irq _ _) (s.roleTaken_fires role)

/-! ## Completions that wait -/

/-- Every completion that does not wait for a CAN object to be gone stands. -/
def FinsStand (s t : State) : Prop := ∀ f ∈ s.host.fins, (∀ c o, f.wait ≠ .canGone c o) → f ∈ t.host.fins

section
variable {s t u : State}

theorem FinsStand.of_fins (h : t.host.fins = s.host.fins) : FinsStand s t := fun _ hf _ => h ▸ hf

theorem FinsStand.trans (h : FinsStand s t) (k : FinsStand t u) : FinsStand s u := fun f hf hw => k f (h f hf hw) hw

theorem FinsStand.of_quiet (h : t.quiet = s.quiet) : FinsStand s t := .of_fins (congrArg (fun r : State => r.host.fins) (State.rest_of_quiet h) :)

end

theorem State.canDiscard_finsStand (s : State) (c : Nat) : FinsStand s (s.canDiscard c) := by
  unfold State.canDiscard
  extract_lets x os n s1 s2
  have h2 : s2.host.fins = s.host.fins :=
    forL_keeps (fun u : State => u.host.fins) os (fun o t => t.objPending c o) s1 fun _ _ => rfl
  clear_value s2
  intro f hf hw
  refine List.mem_map.2 ⟨f, h2 ▸ hf, if_neg ?_⟩
  cases he : f.wait with
  | canGone d o => exact absurd he (hw d o)
  | _ => simp

theorem State.canSetState_finsStand (s : State) (c v : Nat) : FinsStand s (s.canSetState c v) := .of_fins (s.setState_leaves c v).2.2.1

theorem State.canModeNow_finsStand (s : State) (c v : Nat) : FinsStand s (s.canModeNow c v) := by
  unfold State.canModeNow
  extract_lets x s1 y s2 st
  have h1 : FinsStand s s1 := by
    simp only [s1]
    split
    · exact s.canDiscard_finsStand c
    · exact .of_fins rfl
  have h2 : FinsStand s s2 := h1
  clear_value s2
  split
  · exact h2
  · exact h2.trans (s2.canSetState_finsStand c _)

theorem State.canIdle_finsStand (s : State) (c : Nat) : FinsStand s (s.canIdle c) := by
  rw [s.canIdle_eq c]
  split
  · refine FinsStand.trans (t := s.canDue c) ?_ (.of_fins (congrArg HostIf.fins (State.canStart_leaves _ c).2.2.2.1))
    unfold State.canDue
    split
    · exact s.canModeNow_finsStand c _
    · exact .of_fins rfl
  · exact .of_fins rfl

theorem State.roleUnits_finsStand (s : State) : FinsStand s s.roleUnits := by
  rw [State.roleUnits_eq]
  have h : FinsStand s (forN 4 (fun c t => t.roleCan c) s) := by
    have hone : ∀ c (t : State), FinsStand t (t.roleCan c) := fun c t => by
      unfold State.roleCan
      split
      · refine FinsStand.trans (t := t.putCan c _) ?_ (State.canIdle_finsStand _ c)
        exact .of_fins rfl
      · exact .of_fins rfl
    have hall : ∀ n, FinsStand s (forN n (fun c t => t.roleCan c) s) := fun n => by
      induction n with
      | zero => exact .of_fins rfl
      | succ n ih => exact ih.trans (hone n _)
    exact hall 4
  refine h.trans (.of_fins (State.stageConfigure_keeps (fun t => t.host.fins) (fun t n st x => ?_) (fun _ _ _ => rfl) _))
  have hr := State.aside_rest (t.setBr_aside n st x)
  exact (congrArg (fun r : State => r.host.fins) hr :)

theorem State.sourceChosen_fins (s : State) (old : Nat) : (s.sourceChosen old).host.fins = s.host.fins := by
  unfold State.sourceChosen
  split <;> rfl

theorem State.takeRole_finsStand (s : State) (role : Nat) : FinsStand s (s.takeRole role) := by
  unfold State.takeRole
  split
  · exact .of_fins rfl
  · have h0 : (s.setPairField .pairRole role).host.fins = s.host.fins :=
      (congrArg (fun r : State => r.host.fins) (s.setPairField_rest .pairRole role) :)
    have h1 : FinsStand s ((s.setPairField .pairRole role).irqFire 2) := by
      generalize s.setPairField .pairRole role = v at h0
      exact (FinsStand.of_fins h0).trans (FinsStand.of_quiet (v.irqFire_quiet 2))
    have h2 := h1.trans (State.roleUnits_finsStand _)
    generalize ((s.setPairField .pairRole role).irqFire 2).roleUnits = u at h2
    have h3 : FinsStand u (u.pubEligible.sourceChosen s.timeSource) := .of_fins ((State.sourceChosen_fins _ _).trans rfl)
    exact h2.trans h3

end Sys2Proof.Machine
end

section
/-!
SUPPORT. Proofs/PairRoles.lean: the roles that modules take and give up (sections 14.3, 14.6 and 14.7).
-/
namespace Sys2Proof.Machine

/-! ## Reads that a change of role leaves -/

/-- Records that a change of role leaves. -/
def State.roleReads (s : State) : PairSt × Tab Drv × Tab Rnd × Plant × Dev × Hw := (s.pair, s.drvs, s.rnds, s.plant, s.dev, s.hw)

theorem roleErase_reads (s : State) : (roleErase s.rest).roleReads = s.roleReads := by
  cases s; rfl

theorem State.roleReads_of_roleView {s t : State} (h : t.roleView = s.roleView) : t.roleReads = s.roleReads :=
  (roleErase_reads t).symm.trans ((congrArg State.roleReads (State.aside_rest h)).trans (roleErase_reads s))

theorem State.takeRole_reads (s : State) (role : Nat) : (s.takeRole role).roleReads = s.roleReads :=
  State.roleReads_of_roleView (s.takeRole_roleView role)

theorem State.rest_roleReads {s t : State} (h : t.rest = s.rest) : t.roleReads = s.roleReads := (congrArg State.roleReads h :)

theorem State.takeRole_n (s : State) (role : Nat) {f : Field} (i : Nat) (hf : fieldReports f = false) (h : roleFields.contains f = false) :
    (s.takeRole role).n f i = s.n f i := State.aside_n (s.takeRole_roleView role) f i 0 hf h

theorem State.setPairField_fired (id : Nat) (s : State) (f : Field) (v : Nat) (h : s.fired id) : (s.setPairField f v).fired id := by
  unfold State.setPairField
  split
  · exact h
  · unfold State.msixCause
    split
    · split
      · exact State.msix_fired id _ _ h
      · exact h
    · exact h

theorem State.setProt_fired (id : Nat) (s : State) (p : Nat) (h : s.fired id) : (s.setProt p).fired id := by
  rw [State.setProt_eq]
  split
  · exact h
  · have h1 := s.setPairField_fired id .pairProtection p h
    generalize s.setPairField .pairProtection p = u at h1
    have h2 : (u.protRaise p).fired id := by
      unfold State.protRaise
      split
      · exact State.raise_fired id u _ _ _ _ h1
      · split
        · exact State.raise_fired id u _ _ _ _ h1
        · exact h1
    exact h2

theorem State.idleEnds_fired (id : Nat) (s : State) (h : s.fired id) : s.idleEnds.fired id := by
  rw [s.idleEnds_eq]
  exact h

/-! ## Protection 2 in a new role -/

/-- A module takes a role without protection. -/
def State.roleAlone (s : State) (role : Nat) : State := (s.takeRole role).setProt 2

theorem State.roleAlone_reads (s : State) (role : Nat) : (s.roleAlone role).roleReads = s.roleReads :=
  (State.rest_roleReads (State.setProt_rest _ 2)).trans (s.takeRole_reads role)

theorem State.clk_of_rest {s t : State} (h : t.rest = s.rest) : t.clk = s.clk := (congrArg State.clk h :)

theorem State.roleAlone_clk (s : State) (role : Nat) : (s.roleAlone role).clk = (s.takeRole role).clk :=
  State.clk_of_rest (State.setProt_rest (s.takeRole role) 2)

theorem State.roleAlone_n (s : State) (role : Nat) {f : Field} (h : f ≠ .pairProtection) (h2 : f ≠ .pairEligible) (hf : fieldReports f = false) :
    (s.roleAlone role).n f = (s.takeRole role).n f := by
  refine State.setProt_keeps _ 2 ?_ hf
  simp [protPoints, h, h2]

theorem FinsStand.of_rest {s t : State} (h : t.rest = s.rest) : FinsStand s t :=
  .of_fins (congrArg (fun r : State => r.host.fins) h :)

theorem State.setProt_finsStand (s : State) : FinsStand s (s.setProt 2) := .of_rest (s.setProt_rest 2)

theorem State.roleAlone_finsStand (s : State) (role : Nat) : FinsStand s (s.roleAlone role) := by
  have h := s.takeRole_finsStand role
  unfold State.roleAlone
  generalize s.takeRole role = u at h
  exact h.trans u.setProt_finsStand

/-! ## The principal gives up its role (R421) -/

theorem State.idleEnds_finsStand (s : State) : FinsStand s s.idleEnds := by
  refine .of_fins ?_
  rw [s.idleEnds_eq]
  rfl

theorem State.idleEnds_n (s : State) (f : Field) (i j : Nat) : s.idleEnds.n f i j = s.n f i j := by
  rw [s.idleEnds_eq]
  rfl

theorem State.demote_leaves (s : State) :
    s.demote.pair = { s.pair with handover := none, confirmed := false, lastStream := s.epoch, lastHash := s.epoch, endsIdle := true } ∧
    s.demote.n .pairRole = 2 ∧ s.demote.n .pairProtection = 2 ∧
    FinsStand (s.settle (fun f => f.wait == .handover) stMode noItem 0 .ready) s.demote := by
  unfold State.demote
  dsimp only
  generalize hs1 : s.settle (fun f => f.wait == .handover) stMode noItem 0 .ready = s1
  have hp1 : s1.pair = s.pair := by rw [← hs1]; rfl
  let s2 := s1.withPair { s1.pair with handover := none, confirmed := false, lastStream := s.epoch, lastHash := s.epoch }
  have hpair : (s2.roleAlone 2).pair = s2.pair := congrArg Prod.fst (s2.roleAlone_reads 2)
  have hrole : (s2.roleAlone 2).n .pairRole = 2 := (s2.roleAlone_n 2 (by decide) (by decide) rfl).trans (s2.takeRole_role (by decide))
  have hprot : (s2.roleAlone 2).n .pairProtection = 2 := State.setProt_n _ (by decide)
  have hfins : FinsStand s1 (s2.roleAlone 2) := FinsStand.trans (FinsStand.of_fins rfl) (s2.roleAlone_finsStand 2)
  rw [show ∀ u : State, (u.takeRole 2).setProt 2 = u.roleAlone 2 from fun _ => rfl]
  have hq := (s2.roleAlone 2).idleEnds.raise_quiet 0x0902 kDevice 0 0
  have hidle : (s2.roleAlone 2).idleEnds.pair = { (s2.roleAlone 2).pair with endsIdle := true } := by
    rw [(s2.roleAlone 2).idleEnds_eq]
    rfl
  refine ⟨?_, ?_, ?_, ?_⟩
  · rw [State.pair_of_quiet hq, hidle, hpair]
    rw [← hp1]
    rfl
  · exact (State.n_of_quiet hq _ _ _ rfl).trans ((State.idleEnds_n _ _ _ _).trans hrole)
  · exact (State.n_of_quiet hq _ _ _ rfl).trans ((State.idleEnds_n _ _ _ _).trans hprot)
  · exact hfins.trans ((State.idleEnds_finsStand _).trans (.of_quiet hq))

/-- Giving up the role, for a state that reads as another. -/
theorem State.demote_demoted (s : State) : Demoted s s.demote := by
  obtain ⟨hpair, hrole, hprot, hfins⟩ := s.demote_leaves
  refine ⟨hrole, hprot, by rw [hpair], by rw [hpair], by rw [hpair], fun f hf hw => ?_⟩
  refine hfins _ (s.settle_mem hf (beq_iff_eq.2 hw)) fun c o h => ?_
  exact absurd h (by simp)

/-! ## A module without a role takes one (R411) -/

/-- What a decision leaves. -/
structure Decided (s t : State) (role : Nat) : Prop where
  role : t.n .pairRole = role
  prot : t.n .pairProtection = 2
  fires : t.fired 2
  mode : t.mode = s.mode
  drvs : t.drvs = s.drvs
  rnds : t.rnds = s.rnds

theorem Decided.quiet {s t u : State} {role : Nat} (h : Decided s t role) (hq : u.quiet = t.quiet) (hf : t.fired 2 → u.fired 2) :
    Decided s u role :=
  ⟨(State.n_of_quiet hq _ _ _ rfl).trans h.role, (State.n_of_quiet hq _ _ _ rfl).trans h.prot, hf h.fires,
    (State.n_of_quiet hq _ _ _ rfl).trans h.mode, (State.drvs_of_quiet hq).trans h.drvs, (State.rnds_of_quiet hq).trans h.rnds⟩

theorem State.roleAlone_decided (s : State) {role : Nat} (h : s.n .pairRole ≠ role) (hr : role < 2 ^ 32) : Decided s (s.roleAlone role) role := by
  have hreads := s.roleAlone_reads role
  simp only [State.roleReads, Prod.mk.injEq] at hreads
  obtain ⟨-, hdrvs, hrnds, -, -, -⟩ := hreads
  exact ⟨(s.roleAlone_n role (by decide) (by decide) rfl).trans (s.takeRole_role hr), State.setProt_n _ (by decide),
    State.setProt_fired 2 _ 2 (s.takeRole_fires role h),
    (s.roleAlone_n role (by decide) (by decide) rfl).trans (s.takeRole_n role 0 rfl rfl), hdrvs, hrnds⟩

theorem State.sourceChosen_same (s : State) {old : Nat} (h : s.timeSource = old) : s.sourceChosen old = s := if_pos h

theorem State.roleTaken_timeSource (s : State) {role : Nat} (hr : role < 2 ^ 32) :
    (s.roleTaken role).timeSource = if role = 2 then 6 else s.n .devTimeSource := by
  have h2 : (s.roleTaken role).n .devTimeSource = s.n .devTimeSource := State.aside_n (s.roleTaken_roleView role) _ _ _ rfl rfl
  rw [State.timeSource, s.roleTaken_role hr, h2]
  simp

/-- A module that starts as principal keeps its time. -/
theorem State.takeRole_one_clk (s : State) (h : s.n .pairRole = 0) : (s.takeRole 1).clk = s.clk := by
  rw [s.takeRole_eq 1 (by omega), State.sourceChosen_same, s.roleTaken_clk]
  rw [s.roleTaken_timeSource (by decide), State.timeSource, h]
  rfl

/-- A module that starts as counterfoil follows its principal's time. -/
theorem State.takeRole_two_time (s : State) (h : s.n .pairRole = 0) : (s.takeRole 2).now = s.now ∧
    (s.n .devTimeSource ≠ 6 → (s.takeRole 2).n .devTimeState = 1) := by
  have hold : s.timeSource = s.n .devTimeSource := by
    rw [State.timeSource, h]
    rfl
  have hnew : (s.roleTaken 2).timeSource = 6 := s.roleTaken_timeSource (by decide)
  have hclk := s.roleTaken_clk 2
  rw [s.takeRole_eq 2 (by omega), hold]
  generalize s.roleTaken 2 = u at hnew hclk
  unfold State.sourceChosen
  rw [hnew]
  constructor
  · split
    · exact congrArg Clock.now hclk
    · exact (congrArg Clock.now hclk :)
  · intro hs
    rw [if_neg (Ne.symm hs)]
    exact State.n_putN_same _ _ _ _ _ (by decide)

end Sys2Proof.Machine
end

section
/-!
SUPPORT. Proofs/Activation.lean: what a description that takes effect sets and what it leaves (sections 1.7 and 3.6).
-/
namespace Sys2Proof.Machine

/-! ## Records and points that the parts of an activation leave -/

/-- Time, completions, pair, device record, description, guards and levels. -/
def State.loadReads (s : State) : (Nat × Nat × Option Nat) × List FinCpl × PairSt × Dev × Plant × Tab Guard × Tab Nat :=
  ((s.clk.now, s.clk.te, s.clk.teNext), s.host.fins, s.pair, s.dev, s.plant, s.guards, s.levels)

/-- These records, and the regimes, the epoch setting and the report of a load. -/
def State.loadView (s : State) :
    ((Nat × Nat × Option Nat) × List FinCpl × PairSt × Dev × Plant × Tab Guard × Tab Nat) × (Nat → Word) × Word × Word :=
  (s.loadReads, fun d => s.w .drvRegime d 0, s.w .devEpochSetting 0 0, s.w .devPdReportCheck 0 0)

section
variable {s t : State}

theorem State.loadReads_of_rest (h : t.rest = s.rest) : t.loadReads = s.loadReads := (congrArg State.loadReads h :)

theorem State.loadView_of (h : t.loadReads = s.loadReads)
    (hw : ∀ f i, f = .drvRegime ∨ f = .devEpochSetting ∨ f = .devPdReportCheck → t.w f i 0 = s.w f i 0) : t.loadView = s.loadView :=
  Prod.ext h (Prod.ext (funext fun _ => hw _ _ (.inl rfl)) (Prod.ext (hw _ _ (.inr (.inl rfl))) (hw _ _ (.inr (.inr rfl)))))

theorem State.loadView_of_quiet (h : t.quiet = s.quiet) : t.loadView = s.loadView :=
  State.loadView_of (State.loadReads_of_rest (State.rest_of_quiet h)) fun f i hf =>
    State.w_of_quiet h f i 0 (by rcases hf with rfl | rfl | rfl <;> rfl)

/-- A change of other records. -/
theorem State.loadView_of_pts (h : t.loadReads = s.loadReads) (hp : t.pts = s.pts) : t.loadView = s.loadView :=
  State.loadView_of h fun f i _ => by simp only [State.w, hp]

end

section
variable (s : State)

@[simp] theorem State.put_loadReads (f : Field) (i : Nat) (w : Word) (j : Nat) : (s.put f i w j).loadReads = s.loadReads := rfl
@[simp] theorem State.putDrv_loadReads (d : Nat) (x : Drv) : (s.putDrv d x).loadReads = s.loadReads := rfl

@[simp] theorem State.put_loadView {f : Field} (i : Nat) (w : Word) (j : Nat) (h1 : f ≠ .drvRegime) (h2 : f ≠ .devEpochSetting)
    (h3 : f ≠ .devPdReportCheck) : (s.put f i w j).loadView = s.loadView :=
  State.loadView_of rfl fun g k hg => s.w_put_field w (by rcases hg with rfl | rfl | rfl; exacts [h1.symm, h2.symm, h3.symm])

@[simp] theorem State.irqFire_loadView (n : Nat) : (s.irqFire n).loadView = s.loadView := State.loadView_of_quiet (s.irqFire_quiet n)
@[simp] theorem State.raise_loadView (c k i p : Nat) : (s.raise c k i p).loadView = s.loadView := State.loadView_of_quiet (s.raise_quiet c k i p)
@[simp] theorem State.putBr_loadView (n : Nat) (x : Br) : (s.putBr n x).loadView = s.loadView := rfl
@[simp] theorem State.putFb_loadView (n : Nat) (x : Fb) : (s.putFb n x).loadView = s.loadView := rfl
@[simp] theorem State.putCan_loadView (n : Nat) (x : Can) : (s.putCan n x).loadView = s.loadView := rfl
@[simp] theorem State.putRnd_loadView (n : Nat) (x : Rnd) : (s.putRnd n x).loadView = s.loadView := rfl
@[simp] theorem State.putTier_loadView (n : Nat) (x : Tier) : (s.putTier n x).loadView = s.loadView := rfl
@[simp] theorem State.withFree_loadView (x : Nat) : (s.withFree x).loadView = s.loadView := rfl
@[simp] theorem State.withCep_loadView (x : List (Pt × Nat)) : (s.withCep x).loadView = s.loadView := rfl
@[simp] theorem State.withJrn_loadView (x : Journal) : (s.withJrn x).loadView = s.loadView := rfl
@[simp] theorem State.putN_loadView {f : Field} (i v j : Nat) (h1 : f ≠ .drvRegime) (h2 : f ≠ .devEpochSetting)
    (h3 : f ≠ .devPdReportCheck) : (s.putN f i v j).loadView = s.loadView := s.put_loadView i _ j h1 h2 h3

@[simp] theorem State.putR_loadView {f : Field} (i : Nat) (v : Rat) (j : Nat) (h1 : f ≠ .drvRegime) (h2 : f ≠ .devEpochSetting)
    (h3 : f ≠ .devPdReportCheck) : (s.putR f i v j).loadView = s.loadView := s.put_loadView i _ j h1 h2 h3

@[simp] theorem State.putCapture_loadView (i : Nat) (x : Capture) : (s.putCapture i x).loadView = s.loadView :=
  State.loadView_of_quiet (s.putCapture_quiet i x)

/-! ## Units -/

@[simp] theorem State.setBr_loadView (n st : Nat) (x : Br) : (s.setBr n st x).loadView = s.loadView := by
  unfold State.setBr
  dsimp only
  split
  · simp
  · split <;> simp

theorem State.stageConfigure_loadView : s.stageConfigure.loadView = s.loadView :=
  s.stageConfigure_keeps State.loadView State.setBr_loadView State.putBr_loadView

theorem State.fbConfigure_loadView (n : Nat) (fresh : Bool) : (s.fbConfigure n fresh).loadView = s.loadView := by
  have hflag : ∀ (t : State) (k b : Nat) (on : Bool), (t.fbFlag k b on).loadView = t.loadView := fun _ _ _ _ => rfl
  unfold State.fbConfigure State.fbStill
  dsimp only
  split
  · simp
  · simp [hflag]

theorem State.canSetState_loadView (c v : Nat) : (s.canSetState c v).loadView = s.loadView := by
  unfold State.canSetState
  split
  · rfl
  · simp

end

/-- The counters of a controller that starts anew. -/
def canCounters : List Field :=
  [.canRxFrames, .canRxUnmatched, .canRxRemote, .canTxFrames, .canErrors, .canBusOffs, .canTxDiscarded, .canTxRefused, .canFrankSeq,
   .canFrankRejects, .canFrankErrorNs]

theorem canCounters_loadView (s : State) (c : Nat) : (forL canCounters (fun f t => t.putN f c 0) s).loadView = s.loadView := by
  simp [canCounters, forL]

theorem State.canConfigure_loadView (s : State) (c : Nat) : (s.canConfigure c).loadView = s.loadView := by
  unfold State.canConfigure
  extract_lets off s0 s1 s2 rxAt
  have h0 : s0.loadView = s.loadView := by
    simp only [s0]
    split <;> simp
  have h1 : s1.loadView = s0.loadView := canCounters_loadView s0 c
  have h2 : s2.loadView = s.loadView := by
    rw [← h0, ← h1]
    simp [s2]
  clear_value s2 off
  rw [show s2.drawRat = (Config.freeRat s2.free, s2.withFree (s2.free + 1)) from rfl]
  dsimp only
  split
  · simp [h2]
  · rw [State.canSetState_loadView]
    simp [h2]

theorem State.configureUnits_loadView (s old : State) : (s.configureUnits old).loadView = s.loadView := by
  unfold State.configureUnits
  dsimp only
  refine (forN_keeps State.loadView 4 _ _ fun c t => ?_).trans
    ((State.stageConfigure_loadView _).trans ((forN_keeps State.loadView 16 _ _ fun n t => ?_).trans
      (forN_keeps State.loadView 12 _ s fun n t => by simp)))
  · split
    · exact t.canConfigure_loadView c
    · simp
  · split
    · exact t.fbConfigure_loadView n _
    · simp

/-! ## Drives (R305) -/

/-- A drive of a new description. -/
def State.freshDrive (old : State) (d : Nat) (t : State) : State :=
  let t1 := (((t.putN .drvRegime d 7).putN .drvHalting d 0).putN .drvFaultCause d 0).putN .drvLimpCause d 0
  let t2 := ((t1.putR .drvThermalFactor d 1).put .drvVcapRefEff d (t1.w .drvVcapRefPct d)).putN .drvHostState d 0
  let t3 := if (t2.driveFb d).isNone then (t2.putN .drvFbUse d 0).putN .drvFbInUse d 0
            else if (old.driveFb d).isSome then t2 else t2.putN .drvFbUse d 1
  let t3 := if old.drives.contains d then t3 else t3.putR .drvBalCmV d (t3.phasePeak d / 10)
  (t3.putDrv d { t3.drv d with jHat := t3.r .drvJKgm2 d }).putR .drvJEst d (t3.r .drvJKgm2 d)

theorem State.freshDrive_loadView (old : State) (d : Nat) (t : State) : (State.freshDrive old d t).loadView = (t.putN .drvRegime d 7).loadView := by
  unfold State.freshDrive
  extract_lets t1 t2 t3 t4
  have h2 : t2.loadView = (t.putN .drvRegime d 7).loadView := by simp [t2, t1]
  have h3 : t3.loadView = t2.loadView := by
    simp only [t3]
    split
    · simp
    · split <;> simp
  have h4 : t4.loadView = t3.loadView := by
    simp only [t4]
    split <;> simp
  clear_value t4
  rw [State.putR_loadView _ _ _ _ (by decide) (by decide) (by decide), ← h2, ← h3, ← h4]
  rfl

theorem State.regime_of_loadView {s t : State} (h : t.loadView = s.loadView) (d : Nat) : t.n .drvRegime d = s.n .drvRegime d :=
  State.n_ext (congrFun (congrArg (fun x => x.2.1) h) d)

theorem State.reads_of_loadView {s t : State} (h : t.loadView = s.loadView) : t.loadReads = s.loadReads := congrArg Prod.fst h

/-- Every drive of a new description is Blocked, and its records stay. -/
theorem forL_freshDrive (old : State) (l : List Nat) (s : State) :
    (forL l (State.freshDrive old) s).loadReads = s.loadReads ∧ ∀ d ∈ l, (forL l (State.freshDrive old) s).n .drvRegime d = 7 := by
  have hone : ∀ d t, (State.freshDrive old d t).loadReads = t.loadReads := fun d t =>
    (State.reads_of_loadView (State.freshDrive_loadView old d t)).trans rfl
  have hreg : ∀ d t, (State.freshDrive old d t).n .drvRegime d = 7 := fun d t =>
    (State.regime_of_loadView (State.freshDrive_loadView old d t) d).trans (t.n_putN_same _ _ _ _ (by decide))
  refine ⟨forL_keeps State.loadReads l _ s hone, fun d hd => ?_⟩
  refine forL_settles (fun _ => True) (fun t => t.n .drvRegime d = 7) hd trivial (fun _ _ _ _ => trivial) (fun a t ha ht => ?_)
    (fun t _ => hreg d t) fun t _ => hreg d t
  exact (State.regime_of_loadView (State.freshDrive_loadView old a t) d).trans
    ((State.n_ext (State.w_put_ne t _ (by simp [Ne.symm ha]))).trans ht)

/-- The records of drives, sets, shafts and powers start anew, with the arms that keep their link. -/
def State.freshRecords (s : State) (arms : Tab ArmSt) : State :=
  ((((s.withDrvs []).withSets []).withShafts []).withPowers []).withArms arms

theorem State.freshRecords_leaves (s : State) (arms : Tab ArmSt) :
    (s.freshRecords arms).loadReads = s.loadReads ∧ (s.freshRecords arms).drives = s.drives := by
  cases s
  exact ⟨rfl, rfl⟩

theorem State.freshDrives_eq (s old : State) (linked : List Nat) : ∃ arms, s.freshDrives old linked =
    forL (s.freshRecords arms).drives (State.freshDrive old) (s.freshRecords arms) := by
  unfold State.freshDrives State.freshDrive
  exact ⟨_, rfl⟩

theorem State.freshDrives_leaves (s old : State) (linked : List Nat) : (s.freshDrives old linked).loadReads = s.loadReads ∧
    ∀ d ∈ s.drives, (s.freshDrives old linked).regime d = 7 := by
  obtain ⟨arms, h⟩ := s.freshDrives_eq old linked
  obtain ⟨hr, hd⟩ := s.freshRecords_leaves arms
  rw [h]
  generalize s.freshRecords arms = u at hr hd
  obtain ⟨h1, h2⟩ := forL_freshDrive old u.drives u
  rw [hd] at h1 h2 ⊢
  exact ⟨h1.trans hr, h2⟩

/-! ## Points of lanes and arms -/

theorem State.lanePublish_loadView (s : State) : s.lanePublish.loadView = s.loadView := by
  unfold State.lanePublish
  dsimp only
  exact (forL_keeps State.loadView _ _ _ fun d t => by simp).trans (forN_keeps State.loadView 16 _ s fun n t => by simp)

theorem foldl_keeps {α β : Type} (g : State → α) (l : List β) (f : State → β → State) (s : State) (h : ∀ t b, g (f t b) = g t) :
    g (l.foldl f s) = g s := by
  induction l generalizing s with
  | nil => rfl
  | cons b l ih => exact (ih _).trans (h s b)

theorem State.armPoints_loadView (s : State) (rounds : List Nat) : (s.armPoints rounds).loadView = s.loadView := by
  unfold State.armPoints
  dsimp only
  refine (forL_keeps State.loadView _ _ _ fun a t => foldl_keeps State.loadView _ _ t fun u b => by simp).trans
    ((forN_keeps State.loadView 768 _ _ fun ix t => ?_).trans (forL_keeps State.loadView _ _ s fun r t => ?_))
  · split
    · rfl
    · exact forN_keeps State.loadView 128 _ t fun j u => by simp
  · exact forN_keeps State.loadView 16 _ t fun k u => forN_keeps State.loadView 8 _ u fun j v => by simp

/-! ## Rounds -/

theorem State.setRanges_loadView (s : State) (r : Nat) (g : Option (Nat × Nat) × Option (Nat × Nat)) :
    (s.setRanges r g).loadView = s.loadView := by
  unfold State.setRanges State.publishDelays
  dsimp only
  refine (forL_keeps State.loadView _ _ _ fun p t => ?_).trans (by simp)
  split
  · simp
  · split <;> simp

theorem State.linkupBegin_loadView (s : State) (r : Nat) : (s.linkupBegin r).loadView = s.loadView := by
  unfold State.linkupBegin
  dsimp only
  rw [State.putN_loadView _ _ _ _ (by decide) (by decide) (by decide), State.putN_loadView _ _ _ _ (by decide) (by decide) (by decide),
    State.setRanges_loadView, State.putRnd_loadView]

/-! ## Envelopes and the journal -/

theorem State.envPublish_loadView (s : State) (a t : Nat) : (s.envPublish a t).loadView = s.loadView := by
  unfold State.envPublish
  simp

theorem State.setsPruned_loadView (s : State) : s.setsPruned.loadView = s.loadView := by
  unfold State.setsPruned
  extract_lets keys gone s1 s2 s3 large
  have h1 : s1.loadView = s.loadView := forL_keeps State.loadView _ _ s fun e t => by
    dsimp only
    split
    · rfl
    · simp
  have h2 : s2.loadView = s1.loadView := forN_keeps State.loadView 6 _ s1 fun k t => by simp [State.envPublish_loadView]
  have h3 : s3.loadView = s2.loadView := by
    simp only [s3]
    split <;> simp
  clear_value s3
  split
  · simp [h3, h2, h1]
  · rw [h3, h2, h1]

theorem State.shortenCapture_loadView (i n : Nat) (s : State) : (State.shortenCapture i n s).loadView = s.loadView := by
  induction n generalizing s with
  | zero => rfl
  | succ n ih =>
    unfold State.shortenCapture
    dsimp only
    split
    · exact (ih _).trans (s.putCapture_loadView i _)
    · rfl

theorem State.append_loadView (s : State) (m : MailRec) : (s.append m).loadView = s.loadView := by
  unfold State.append
  dsimp only
  split
  · split <;> simp [State.shortenCapture_loadView]
  · simp

theorem State.writeConfig_loadView (s : State) : s.writeConfig.loadView = s.loadView := by
  unfold State.writeConfig
  dsimp only
  rw [State.append_loadView, State.append_loadView, State.withJrn_loadView]

/-! ## The whole (R34) -/

/-- A state in which a description's drives are Blocked, with the records that an activation is judged by. -/
structure Loaded (s t : State) : Prop where
  now : t.now = s.now
  te : t.te = s.te
  fins : t.host.fins = s.host.fins
  pair : t.pair = s.pair
  dev : t.dev = s.dev
  plant : t.plant = s.plant
  blocked : ∀ d ∈ s.drives, t.regime d = 7

theorem Loaded.of_loadView {s t u : State} (h : Loaded s t) (hv : u.loadView = t.loadView) : Loaded s u := by
  have hr := State.reads_of_loadView hv
  simp only [State.loadReads, Prod.mk.injEq] at hr
  obtain ⟨⟨hnow, hte, -⟩, hfins, hpair, hdev, hplant, -, -⟩ := hr
  exact ⟨hnow.trans h.now, hte.trans h.te, hfins.trans h.fins, hpair.trans h.pair, hdev.trans h.dev, hplant.trans h.plant,
    fun d hd => (State.regime_of_loadView hv d).trans (h.blocked d hd)⟩

/-- A change of records that are no part of it. -/
theorem Loaded.of_parts {s t u : State} (h : Loaded s t) (hc : (u.clk.now, u.clk.te) = (t.clk.now, t.clk.te))
    (hr : (u.host.fins, u.pair, u.dev, u.plant) = (t.host.fins, t.pair, t.dev, t.plant)) (hreg : ∀ d, u.regime d = t.regime d) :
    Loaded s u := by
  simp only [Prod.mk.injEq] at hc hr
  obtain ⟨hfins, hpair, hdev, hplant⟩ := hr
  exact ⟨hc.1.trans h.now, hc.2.trans h.te, hfins.trans h.fins, hpair.trans h.pair, hdev.trans h.dev, hplant.trans h.plant,
    fun d hd => (hreg d).trans (h.blocked d hd)⟩

theorem State.activateUnits_loaded (s old : State) (link : List Nat) :
    Loaded s (s.activateUnits old link) ∧ (s.activateUnits old link).guards = [] := by
  unfold State.activateUnits
  dsimp only
  obtain ⟨hreads, hblocked⟩ := s.freshDrives_leaves old link
  simp only [State.loadReads, Prod.mk.injEq] at hreads
  obtain ⟨⟨hnow, hte, -⟩, hfins, hpair, hdev, hplant, -, -⟩ := hreads
  have h1 : Loaded s (s.freshDrives old link) := ⟨hnow, hte, hfins, hpair, hdev, hplant, hblocked⟩
  have h2 := h1.of_loadView ((s.freshDrives old link).configureUnits_loadView old)
  generalize (s.freshDrives old link).configureUnits old = u at h2
  have h3 : Loaded s (u.withGuards []) := h2.of_parts rfl rfl fun _ => rfl
  generalize hg : u.withGuards [] = v at h3
  have hv : v.guards = [] := by rw [← hg]; rfl
  have hloop : (forL v.plant.shafts (fun g u => u.putN .shaftLeader g.group (u.n .shaftLeaderOrder g.group 0)) v).loadView = v.loadView :=
    forL_keeps State.loadView _ _ v fun g t => by simp
  refine ⟨h3.of_loadView hloop, ?_⟩
  have hr := State.reads_of_loadView hloop
  simp only [State.loadReads, Prod.mk.injEq] at hr
  exact hr.2.2.2.2.2.1.trans hv

theorem State.activatePoints_view (t : State) (rounds : List Nat) :
    ∃ v : State, t.activatePoints rounds = v.withLevels [] ∧ v.loadView = t.loadView := by
  unfold State.activatePoints
  have hv := t.armPoints_loadView rounds
  generalize t.armPoints rounds = u at hv
  refine ⟨_, rfl, ?_⟩
  rw [State.lanePublish_loadView, State.put_loadView _ _ _ _ (by decide) (by decide) (by decide), State.withFree_loadView, hv]

theorem State.activatePoints_loaded {s t : State} (h : Loaded s t) (rounds : List Nat) (hg : t.guards = []) :
    Loaded s (t.activatePoints rounds) ∧ (t.activatePoints rounds).guards = [] ∧ (t.activatePoints rounds).levels = [] := by
  obtain ⟨v, he, hv⟩ := t.activatePoints_view rounds
  rw [he]
  have hr := State.reads_of_loadView hv
  simp only [State.loadReads, Prod.mk.injEq] at hr
  exact ⟨(h.of_loadView hv).of_parts rfl rfl fun _ => rfl, hr.2.2.2.2.2.1.trans hg, rfl⟩

theorem State.activateLinks_loaded {s t : State} (h : Loaded s t) (link : List Nat) (hg : t.guards = []) (hl : t.levels = []) :
    let u := t.activateLinks link
    Loaded s u ∧ u.guards = [] ∧ u.levels = [] ∧ u.clk.teNext = some (settingNs (u.n .devEpochSetting)) := by
  unfold State.activateLinks
  dsimp only
  have hx : (if t.n .pairRole = 2 then t else forL link (fun r u => u.linkupBegin r) t).loadView = t.loadView := by
    split
    · rfl
    · exact forL_keeps State.loadView link _ t fun r u => u.linkupBegin_loadView r
  generalize (if t.n .pairRole = 2 then t else forL link (fun r u => u.linkupBegin r) t) = v at hx
  have hr := State.reads_of_loadView hx
  simp only [State.loadReads, Prod.mk.injEq] at hr
  exact ⟨(h.of_loadView hx).of_parts rfl rfl fun _ => rfl, hr.2.2.2.2.2.1.trans hg, hr.2.2.2.2.2.2.trans hl, rfl⟩

theorem State.sourceChosen_leaves (s : State) (old : Nat) : (s.sourceChosen old).loadReads = s.loadReads ∧
    ∀ f i, f ≠ .devTimeState → (s.sourceChosen old).n f i = s.n f i := by
  refine ⟨?_, fun f i hf => s.sourceChosen_n old i 0 hf⟩
  unfold State.sourceChosen
  split <;> rfl

theorem State.pdReport_leaves (s : State) (f : PdFault) : (s.pdReport f).loadReads = s.loadReads ∧
    (s.pdReport f).n .devPdReportCheck = (Word.ofNat f.check).toNat ∧
    ∀ g i, g ≠ .devPdReportCheck → g ≠ .devPdReportEntity → g ≠ .devPdReportIndex → g ≠ .devPdReportDetail → g ≠ .devPdReportLaneDrives →
      (s.pdReport f).n g i = s.n g i := by
  unfold State.pdReport
  refine ⟨rfl, ?_, fun g i h1 h2 h3 h4 h5 => ?_⟩
  · simp only [State.putN]
    rw [State.n_put_field _ _ (by decide), State.n_put_field _ _ (by decide), State.n_put_field _ _ (by decide),
      State.n_put_field _ _ (by decide), State.n, State.w_put_same]
  · simp only [State.putN]
    rw [State.n_put_field _ _ h5, State.n_put_field _ _ h4, State.n_put_field _ _ h3, State.n_put_field _ _ h2, State.n_put_field _ _ h1]

/-- What stands after a description took effect. -/
structure Active (s t : State) : Prop where
  loaded : Loaded s t
  guards : t.guards = []
  levels : t.levels = []
  teNext : t.clk.teNext = some (settingNs (t.n .devEpochSetting))

theorem Active.of_reads {s t u : State} (h : Active s t) (hr : u.loadReads = t.loadReads) (hreg : ∀ d, u.regime d = t.regime d)
    (he : u.n .devEpochSetting = t.n .devEpochSetting) : Active s u := by
  simp only [State.loadReads, Prod.mk.injEq] at hr
  obtain ⟨⟨hnow, hte, hnext⟩, hfins, hpair, hdev, hplant, hguards, hlevels⟩ := hr
  exact ⟨⟨hnow.trans h.loaded.now, hte.trans h.loaded.te, hfins.trans h.loaded.fins, hpair.trans h.loaded.pair, hdev.trans h.loaded.dev,
    hplant.trans h.loaded.plant, fun d hd => (hreg d).trans (h.loaded.blocked d hd)⟩, hguards.trans h.guards, hlevels.trans h.levels,
    by rw [hnext, he, h.teNext]⟩

theorem Active.of_loadView {s t u : State} (h : Active s t) (hv : u.loadView = t.loadView) : Active s u :=
  h.of_reads (State.reads_of_loadView hv) (State.regime_of_loadView hv) (State.n_ext (congrArg (fun x => x.2.2.1) hv))

/-- A description takes effect. -/
theorem State.activate_active (s t : State) (digest : List Byte) :
    let t1 := t.withDev { t.dev with pdActive := true, pdDigest := digest, pdEpoch := t.epoch, loading := none }
    Active t1 (s.activate t digest) ∧ (s.activate t digest).n .devPdReportCheck = 0 := by
  unfold State.activate
  extract_lets src t1 old gone s2 link s8
  have h2 : s2.loadReads = t1.loadReads := forL_keeps State.loadReads gone _ t1 fun r u => rfl
  have hd2 : s2.drives = t1.drives := by
    have hp : s2.plant = t1.plant := congrArg (fun x => x.2.2.2.2.1) h2
    rw [State.drives, State.drives, hp]
  have hA : Active t1 s8 := by
    obtain ⟨hu, hug⟩ := s2.activateUnits_loaded s link
    obtain ⟨hp, hpg, hpl⟩ := State.activatePoints_loaded hu (gone ++ link) hug
    obtain ⟨hl, hlg, hll, hte⟩ := State.activateLinks_loaded hp link hpg hpl
    simp only [State.loadReads, Prod.mk.injEq] at h2
    obtain ⟨⟨hnow, htt, -⟩, hfins, hpair, hdev, hplant, -, -⟩ := h2
    exact ⟨⟨hl.now.trans hnow, hl.te.trans htt, hl.fins.trans hfins, hl.pair.trans hpair, hl.dev.trans hdev, hl.plant.trans hplant,
      fun d hd => hl.blocked d (hd2 ▸ hd)⟩, hlg, hll, hte⟩
  clear_value s8
  obtain ⟨hcr, hcn⟩ := s8.sourceChosen_leaves s.timeSource
  have hB : Active t1 (s8.sourceChosen s.timeSource) := hA.of_reads hcr (fun d => hcn _ _ (by decide)) (hcn _ _ (by decide))
  have hC := hB.of_loadView (State.setsPruned_loadView _)
  generalize (s8.sourceChosen s.timeSource).setsPruned = u at hC
  obtain ⟨hdr, hdc, hdn⟩ := u.pdReport_leaves (pdFault 0 0 0 0 0)
  have hD : Active t1 (u.pdReport (pdFault 0 0 0 0 0)) := hC.of_reads hdr
    (fun d => hdn _ _ (by decide) (by decide) (by decide) (by decide) (by decide))
    (hdn _ _ (by decide) (by decide) (by decide) (by decide) (by decide))
  generalize u.pdReport (pdFault 0 0 0 0 0) = v at hD hdc
  have hv := v.writeConfig_loadView
  exact ⟨hD.of_loadView hv, (State.n_ext (congrArg (fun x => x.2.2.2) hv)).trans hdc⟩

end Sys2Proof.Machine
end

section
/-!
SUPPORT. Proofs/PairRolesAndJoining.lean: roles, joining, surrender and insertion of a pair's modules (sections 14.3, 14.6, 14.7, 18.2 and 18.9).
-/
namespace Sys2Proof.Machine

/-! ## A module without a role takes one (R411) -/

theorem State.startPrincipal_decided (s : State) (h : s.n .pairRole = 0) :
    Decided s s.startPrincipal 1 ∧ s.startPrincipal.pair = s.pair ∧ s.startPrincipal.clk = s.clk := by
  refine ⟨s.roleAlone_decided (by omega) (by decide), congrArg Prod.fst (s.roleAlone_reads 1), ?_⟩
  exact (s.roleAlone_clk 1).trans (s.takeRole_one_clk h)

theorem State.startCounterfoil_decided (s : State) (h : s.n .pairRole = 0) :
    Decided s s.startCounterfoil 2 ∧ s.startCounterfoil.pair = { s.pair with endsIdle := true } ∧ s.startCounterfoil.now = s.now ∧
    (s.n .devTimeSource ≠ 6 → s.startCounterfoil.n .devTimeState = 1) := by
  have hd := s.roleAlone_decided (role := 2) (by omega) (by decide)
  have hp : (s.roleAlone 2).pair = s.pair := congrArg Prod.fst (s.roleAlone_reads 2)
  obtain ⟨hnow, htime⟩ := s.takeRole_two_time h
  have hclk := s.roleAlone_clk 2
  have hstate : (s.roleAlone 2).n .devTimeState = (s.takeRole 2).n .devTimeState := s.roleAlone_n 2 (by decide) (by decide) rfl
  rw [show s.startCounterfoil = (s.roleAlone 2).idleEnds from rfl]
  generalize s.roleAlone 2 = u at hd hp hclk hstate
  rw [u.idleEnds_eq]
  refine ⟨⟨hd.role, hd.prot, hd.fires, hd.mode, hd.drvs, hd.rnds⟩, ?_, (congrArg Clock.now hclk).trans hnow, fun hs => hstate.trans (htime hs)⟩
  rw [← hp]
  rfl

/-- What a decision to be principal, or counterfoil, shows. -/
def Outcome (s t : State) (foil : Prop) (heard : Bool) : Prop :=
  (foil → t.n .pairRole = 2 ∧ t.pair.endsIdle = true) ∧ (¬foil → t.n .pairRole = 1) ∧ t.n .pairProtection = 2 ∧
  t.pair.heard = heard ∧ (t.src 2).pend = true ∧ t.mode = 1 ∧ (¬foil → t.clk = s.clk) ∧ t.now = s.now ∧
  (foil → s.n .devTimeSource ≠ 6 → t.n .devTimeState = 1) ∧ t.drvs = s.drvs ∧ t.rnds = s.rnds

theorem Outcome.principal {s t : State} {foil : Prop} (on : Bool) (hf : ¬foil) (h : s.n .pairRole = 0) (hm : s.mode = 1)
    (ht : t = (s.hear on).startPrincipal) : Outcome s t foil on := by
  obtain ⟨hd, hpair, hclk⟩ := (s.hear on).startPrincipal_decided ((s.hear_n on _ _ _).trans h)
  have hc : (s.hear on).clk = s.clk := (congrArg State.clk (s.hear_rest on) :)
  rw [← ht] at hd hpair hclk
  exact ⟨fun f => absurd f hf, fun _ => hd.role, hd.prot, by rw [hpair, s.hear_pair on], hd.fires,
    hd.mode.trans ((s.hear_n on _ _ _).trans hm), fun _ => hclk.trans hc, congrArg Clock.now (hclk.trans hc), fun f => absurd f hf,
    hd.drvs.trans (congrArg State.drvs (s.hear_rest on) :), hd.rnds.trans (s.hear_rnds on)⟩

theorem Outcome.counterfoil {s t : State} {foil : Prop} (on : Bool) (hf : foil) (hm : s.mode = 1)
    (hd : Decided (s.hear on) t 2) (hp : t.pair = { (s.hear on).pair with endsIdle := true }) (hnow : t.now = (s.hear on).now)
    (htime : (s.hear on).n .devTimeSource ≠ 6 → t.n .devTimeState = 1) : Outcome s t foil on :=
  ⟨fun _ => ⟨hd.role, by rw [hp]⟩, fun f => absurd hf f, hd.prot, by rw [hp, s.hear_pair on], hd.fires,
    hd.mode.trans ((s.hear_n on _ _ _).trans hm), fun f => absurd hf f,
    hnow.trans (congrArg State.now (s.hear_rest on) :), fun _ hs => htime (by rw [s.hear_n on]; exact hs),
    hd.drvs.trans (congrArg State.drvs (s.hear_rest on) :), hd.rnds.trans (s.hear_rnds on)⟩

theorem Outcome.startCounterfoil {s : State} {foil : Prop} (on : Bool) (hf : foil) (h : s.n .pairRole = 0) (hm : s.mode = 1) :
    Outcome s (s.hear on).startCounterfoil foil on := by
  obtain ⟨hd, hp, hnow, htime⟩ := (s.hear on).startCounterfoil_decided ((s.hear_n on _ _ _).trans h)
  exact Outcome.counterfoil on hf hm hd hp hnow htime

/-- The counterfoil without a partner is reported. -/
theorem Outcome.reported {s : State} {foil : Prop} (on : Bool) (hf : foil) (h : s.n .pairRole = 0) (hm : s.mode = 1) :
    Outcome s ((s.hear on).startCounterfoil.raise 0x090A kDevice 0 0) foil on := by
  obtain ⟨hd, hp, hnow, htime⟩ := (s.hear on).startCounterfoil_decided ((s.hear_n on _ _ _).trans h)
  generalize (s.hear on).startCounterfoil = u at hd hp hnow htime
  have hq := u.raise_quiet 0x090A kDevice 0 0
  exact Outcome.counterfoil on hf hm (hd.quiet hq (State.raise_fired 2 u _ _ _ _)) ((State.pair_of_quiet hq).trans hp)
    ((congrArg Clock.now (State.clk_of_quiet hq)).trans hnow) fun hs => (State.n_of_quiet hq _ _ _ rfl).trans (htime hs)

theorem State.roleDecision_eq (s : State) (traffic : Bool) (hup : s.up = true) (hm : s.mode = 1) (h : s.n .pairRole = 0) :
    (s.roleDecision 0 traffic =
      if (s.hear false).n .pairEnable = 1 ∧ (s.hear false).pair.listenAt + (s.hear false).listenNs ≤ (s.hear false).now then
        if traffic then ((s.hear false).startCounterfoil).raise 0x090A kDevice 0 0 else (s.hear false).startPrincipal
      else s) ∧
    (s.roleDecision 1 traffic = if (s.hear true).hw.posB then (s.hear true).startCounterfoil else (s.hear true).startPrincipal) ∧
    s.roleDecision 2 traffic = (s.hear true).startCounterfoil := by
  have hc : ¬((!s.up || s.mode != 1 || s.n .pairRole != 0) = true) := by simp [hup, hm, h]
  exact ⟨if_neg hc, if_neg hc, if_neg hc⟩

theorem State.hear_hw (s : State) (on : Bool) : (s.hear on).hw = s.hw := (congrArg State.hw (s.hear_rest on) :)

theorem State.roleDecision_outcome (s : State) (partner : Fin 3) (traffic : Bool) (hup : s.up = true) (hm : s.mode = 1)
    (h : s.n .pairRole = 0) (hp : partner ≠ 0 ∨ (s.n .pairEnable = 1 ∧ s.pair.listenAt + s.listenNs ≤ s.now)) :
    Outcome s (s.roleDecision partner traffic)
      (partner = 2 ∨ (partner = 1 ∧ s.hw.posB = true) ∨ (partner = 0 ∧ traffic = true)) (decide (partner ≠ 0)) := by
  obtain ⟨h0, h1, h2⟩ := s.roleDecision_eq traffic hup hm h
  have hall : ∀ p : Fin 3, p = 0 ∨ p = 1 ∨ p = 2 := by decide
  obtain rfl | rfl | rfl := hall partner
  · have hnow : (s.hear false).now = s.now := (congrArg State.now (s.hear_rest false) :)
    have he : (s.hear false).n .pairEnable = 1 ∧ (s.hear false).pair.listenAt + (s.hear false).listenNs ≤ (s.hear false).now := by
      rw [s.hear_n, State.listenNs, s.hear_hw, hnow, s.hear_pair]
      exact hp.resolve_left fun hn => hn rfl
    rw [if_pos he] at h0
    rw [show ((0 : Fin 3) : Nat) = 0 from rfl, h0]
    cases traffic with
    | true =>
      rw [if_pos rfl]
      exact Outcome.reported false (by simp) h hm
    | false =>
      rw [if_neg (by decide)]
      exact Outcome.principal false (by simp) h hm rfl
  · rw [show ((1 : Fin 3) : Nat) = 1 from rfl, h1, s.hear_hw]
    cases hb : s.hw.posB with
    | true =>
      rw [if_pos rfl]
      exact Outcome.startCounterfoil true (by simp) h hm
    | false =>
      rw [if_neg (by decide)]
      exact Outcome.principal true (by simp) h hm rfl
  · rw [show ((2 : Fin 3) : Nat) = 2 from rfl, h2]
    exact Outcome.startCounterfoil true (by simp) h hm

/-! ## Joining (R412, R413) -/

/-- Clock, interface and pair, which a candidate leaves. -/
def State.besidePoints (s : State) : Clock × HostIf × PairSt := (s.clk, s.host, s.pair)

theorem State.put_besidePoints (s : State) (f : Field) (i : Nat) (w : Word) (j : Nat) : (s.put f i w j).besidePoints = s.besidePoints := rfl

theorem State.mirrorParts_besidePoints (s : State) : s.mirrorParts.besidePoints = s.besidePoints := by
  unfold State.mirrorParts
  dsimp only
  refine (forL_keeps State.besidePoints _ _ _ fun g t => ?_).trans
    ((forL_keeps State.besidePoints _ _ _ fun a t => ?_).trans (forL_keeps State.besidePoints _ _ _ fun d t => ?_))
  all_goals rfl

theorem State.clearC_besidePoints (s : State) : s.clearC.besidePoints = s.besidePoints := by
  unfold State.clearC State.classDefaults
  simp only [State.putR, State.put_besidePoints]
  rfl

theorem State.candidate_besidePoints (s : State) (p : Plant) (setting : Nat) : (s.candidate p setting).besidePoints = s.besidePoints := by
  unfold State.candidate
  dsimp only
  refine (forL_keeps State.besidePoints _ _ _ fun e t => ?_).trans ((State.mirrorParts_besidePoints _).trans ?_)
  · split
    · split <;> rfl
    · rfl
  · rw [State.putN, State.put_besidePoints, State.clearC_besidePoints]
    rfl

theorem State.validate_ok {s c : State} {bs : List Byte} {n : Nat} {k : Nat → Bool} (h : s.validate bs n k = .ok c) :
    ∃ p setting, c = s.candidate p setting := by
  unfold State.validate at h
  split at h
  · cases h
  · split at h
    · cases h
    · next p _ =>
      dsimp only at h
      split at h
      · cases h
      · exact ⟨_, _, (Except.ok.inj h).symm⟩

theorem State.validate_leaves {s c : State} {bs : List Byte} {n : Nat} {k : Nat → Bool} (h : s.validate bs n k = .ok c) :
    c.clk = s.clk ∧ c.host = s.host ∧ c.pair = s.pair := by
  obtain ⟨p, setting, rfl⟩ := State.validate_ok h
  have h := s.candidate_besidePoints p setting
  simp only [State.besidePoints, Prod.mk.injEq] at h
  exact h

theorem State.resyncBegin_principal (s : State) (h : s.n .pairRole = 1) :
    s.resyncBegin = (s.withPair { s.pair with resync := 1, resyncAt := s.now }).emit (.pairState s.epoch) :=
  if_pos (beq_iff_eq.2 h)

theorem State.joinPrincipal_joins (s : State) (kernel : Nat) (h : s.n .pairRole = 1) : let t := s.joinPrincipal kernel
    t.pair.joined = true ∧ t.pair.heard = true ∧ t.pair.heardAt = s.epoch ∧
    (kernel = Config.kernelVersion.toNat → t.pair.resync = 1 ∧ t.pair.resyncAt = s.now ∧ Out.pairState s.epoch ∈ t.out) ∧
    (kernel ≠ Config.kernelVersion.toNat → t.n .pairProtection = 1) ∧ t.plant = s.plant ∧ t.clk = s.clk := by
  have hrole := (s.hear_n true .pairRole 0 0).trans h
  have hpair := s.hear_pair true
  have hclk : (s.hear true).clk = s.clk := (congrArg State.clk (s.hear_rest true) :)
  have hplant : (s.hear true).plant = s.plant := (congrArg State.plant (s.hear_rest true) :)
  unfold State.joinPrincipal
  dsimp only
  generalize s.hear true = u at hrole hpair hclk hplant
  let v := u.withPair { u.pair with joined := true }
  by_cases hk : kernel = Config.kernelVersion.toNat
  · rw [if_pos hk, State.resyncBegin_principal v hrole]
    exact ⟨rfl, (congrArg PairSt.heard hpair :), (congrArg PairSt.heardAt hpair :), fun _ => ⟨rfl, (congrArg Clock.now hclk :),
      by rw [← show v.epoch = s.epoch from (congrArg Clock.epoch hclk :)]; exact List.mem_cons_self ..⟩, fun hn => absurd hk hn, hplant, hclk⟩
  · rw [if_neg hk]
    have hprot := v.setProt_n (p := 1) (by decide)
    have hr := v.setProt_rest 1
    generalize v.setProt 1 = w at hprot hr
    have hp : w.pair = v.pair := (congrArg State.pair hr :)
    rw [hp]
    exact ⟨rfl, (congrArg PairSt.heard hpair :), (congrArg PairSt.heardAt hpair :), fun hn => absurd hn hk, fun _ => hprot,
      (congrArg State.plant hr :).trans hplant, (State.clk_of_rest hr).trans hclk⟩

/-- A counterfoil notes that it has joined. -/
def State.joinNoted (s : State) (epoch now resync : Nat) : State :=
  s.withPair { s.pair with joined := true, lastStream := epoch, lastHash := epoch, fwd := [], stored := [], image := none,
                           resync := resync, resyncAt := now }

theorem State.joinDone_eq (s : State) (warm : Bool) : s.joinDone warm =
    (((s.hear true).joinNoted s.epoch s.now (if warm then 0 else 1)).setProt (if warm then 1 else 2)).raise 0x090B kDevice 0 (Arith.b2n warm) := rfl

theorem State.joinDone_joined (s : State) (warm : Bool) : let t := s.joinDone warm
    t.pair.joined = true ∧ t.pair.fwd = [] ∧ t.pair.stored = [] ∧ t.n .pairProtection = (if warm then 1 else 2) ∧ t.plant = s.plant ∧
    t.dev = s.dev ∧ t.clk = s.clk := by
  have hrest := s.hear_rest true
  rw [State.joinDone_eq]
  have hclk : (s.hear true).clk = s.clk := (congrArg State.clk hrest :)
  have hplant : (s.hear true).plant = s.plant := (congrArg State.plant hrest :)
  have hdev : (s.hear true).dev = s.dev := (congrArg State.dev hrest :)
  generalize s.hear true = u at hclk hplant hdev
  generalize hv : u.joinNoted s.epoch s.now (if warm then 0 else 1) = v
  have hp : v.pair.joined = true ∧ v.pair.fwd = [] ∧ v.pair.stored = [] ∧ v.clk = u.clk ∧ v.plant = u.plant ∧ v.dev = u.dev := by
    rw [← hv]
    exact ⟨rfl, rfl, rfl, rfl, rfl, rfl⟩
  have hprot := v.setProt_n (p := if warm then 1 else 2) (by split <;> decide)
  have hr := v.setProt_rest (if warm then 1 else 2)
  generalize v.setProt (if warm then 1 else 2) = w at hprot hr
  have hq := w.raise_quiet 0x090B kDevice 0 (Arith.b2n warm)
  have hpair : (w.raise 0x090B kDevice 0 (Arith.b2n warm)).pair = v.pair := (State.pair_of_quiet hq).trans (congrArg State.pair hr :)
  refine ⟨?_, ?_, ?_, (State.n_of_quiet hq _ _ _ rfl).trans hprot, ?_, ?_, ?_⟩
  · rw [hpair]; exact hp.1
  · rw [hpair]; exact hp.2.1
  · rw [hpair]; exact hp.2.2.1
  · exact (State.plant_of_quiet hq).trans ((congrArg State.plant hr :).trans (hp.2.2.2.2.1.trans hplant))
  · exact (State.dev_of_quiet hq).trans ((congrArg State.dev hr :).trans (hp.2.2.2.2.2.trans hdev))
  · exact (State.clk_of_quiet hq).trans ((congrArg State.clk hr :).trans (hp.2.2.2.1.trans hclk))

/-- A counterfoil that steps to the principal's time. -/
theorem State.adoptTime_steps (s : State) (t epoch te : Nat) : let u := s.adoptTime t epoch te
    u.now = t ∧ u.epoch = epoch - 1 ∧ u.te = te ∧ u.plant = s.plant := ⟨rfl, rfl, rfl, rfl⟩

/-- The state that a counterfoil validates a description in. -/
def State.adopted (s : State) (desc : List Byte) (t epoch : Nat) : State :=
  if s.pair.joined then s else s.adoptTime t epoch (settingNs (hdrField desc 8 1))

theorem State.adopted_clk (s : State) (desc : List Byte) (t epoch : Nat) (h : s.pair.joined = false) :
    (s.adopted desc t epoch).now = t ∧ (s.adopted desc t epoch).epoch = epoch - 1 ∧
    (s.adopted desc t epoch).te = settingNs (hdrField desc 8 1) := by
  unfold State.adopted
  rw [h]
  exact ⟨rfl, rfl, rfl⟩

theorem State.adopted_plant (s : State) (desc : List Byte) (t epoch : Nat) : (s.adopted desc t epoch).plant = s.plant := by
  unfold State.adopted
  split <;> rfl

theorem State.joinCounterfoil_eq (s : State) (desc : List Byte) (kernel t epoch : Nat) :
    (∀ f, (s.adopted desc t epoch).validate desc desc.length (s.adopted desc t epoch).kernelAccepted = .error f →
      s.joinCounterfoil desc kernel t epoch =
        (((s.adopted desc t epoch).withPair { (s.adopted desc t epoch).pair with joined := false }).setProt 2).raise 0x090C kDevice 0 f.check) ∧
    (∀ c, (s.adopted desc t epoch).validate desc desc.length (s.adopted desc t epoch).kernelAccepted = .ok c →
      s.joinCounterfoil desc kernel t epoch =
        ((s.adopted desc t epoch).activate c ((desc.drop 24).take 32)).joinDone (kernel != Config.kernelVersion.toNat)) := by
  have he : s.joinCounterfoil desc kernel t epoch =
      match (s.adopted desc t epoch).validate desc desc.length (s.adopted desc t epoch).kernelAccepted with
      | .error f => (((s.adopted desc t epoch).withPair { (s.adopted desc t epoch).pair with joined := false }).setProt 2).raise 0x090C kDevice 0 f.check
      | .ok c => ((s.adopted desc t epoch).activate c ((desc.drop 24).take 32)).joinDone (kernel != Config.kernelVersion.toNat) := by
    unfold State.joinCounterfoil State.adopted
    rfl
  exact ⟨fun f hf => by rw [he, hf], fun c hc => by rw [he, hc]⟩

/-- A description that is not accepted. -/
theorem State.joinRefused (u : State) (x : Nat) : let t := ((u.withPair { u.pair with joined := false }).setProt 2).raise 0x090C kDevice 0 x
    t.pair.joined = false ∧ t.n .pairProtection = 2 ∧ t.plant = u.plant ∧ t.clk = u.clk := by
  obtain ⟨hrest, hprot, -⟩ := (u.withPair { u.pair with joined := false }).unprotected_reported x
  generalize ((u.withPair { u.pair with joined := false }).setProt 2).raise 0x090C kDevice 0 x = t at hrest hprot
  have hpair : t.pair = { u.pair with joined := false } := (congrArg State.pair hrest :)
  exact ⟨by rw [hpair], hprot, (congrArg State.plant hrest :), (congrArg State.clk hrest :)⟩

theorem State.epoch_of_kept {s t : State} (h : t.kept = s.kept) : t.epoch = s.epoch := by
  simp only [State.kept, Prod.mk.injEq] at h
  exact h.2.2.2.2.2.1

/-- A description that is accepted, once it is active. -/
theorem Loaded.joins {s v : State} (h : Loaded s v) (warm : Bool) : let t := v.joinDone warm
    t.pair.joined = true ∧ t.plant = s.plant ∧ t.dev = s.dev ∧ t.pair.fwd = [] ∧ t.pair.stored = [] ∧
    t.n .pairProtection = (if warm then 1 else 2) ∧ t.now = s.now ∧ t.epoch = v.epoch ∧ t.te = s.te := by
  obtain ⟨hj, hf, hs, hp, hplant, hdev, hc⟩ := v.joinDone_joined warm
  exact ⟨hj, hplant.trans h.plant, hdev.trans h.dev, hf, hs, hp, (congrArg Clock.now hc).trans h.now, congrArg Clock.epoch hc,
    (congrArg Clock.te hc).trans h.te⟩

theorem State.joinAccepted (u c : State) (desc : List Byte) (kernel : Nat)
    (h : u.validate desc desc.length u.kernelAccepted = .ok c) :
    let t := (u.activate c ((desc.drop 24).take 32)).joinDone (kernel != Config.kernelVersion.toNat)
    t.pair.joined = true ∧ t.plant = c.plant ∧ t.dev.pdDigest = (desc.drop 24).take 32 ∧ t.pair.fwd = [] ∧ t.pair.stored = [] ∧
    t.n .pairProtection = (if kernel = Config.kernelVersion.toNat then 2 else 1) ∧ t.now = u.now ∧ t.epoch = u.epoch ∧ t.te = u.te := by
  obtain ⟨hj, hplant, hdev, hf, hs, hp, hnow, hepoch, hte⟩ :=
    (u.activate_active c ((desc.drop 24).take 32)).1.loaded.joins (kernel != Config.kernelVersion.toNat)
  have hkept := State.epoch_of_kept (State.activate_kept u c ((desc.drop 24).take 32))
  obtain ⟨hclk, -, -⟩ := State.validate_leaves h
  refine ⟨hj, hplant, congrArg Dev.pdDigest hdev, hf, hs, hp.trans ?_, hnow.trans (congrArg Clock.now hclk),
    hepoch.trans (hkept.trans (congrArg Clock.epoch hclk)), hte.trans (congrArg Clock.te hclk)⟩
  by_cases hk : kernel = Config.kernelVersion.toNat
  · rw [hk]
    simp
  · simp [hk]

/-- A counterfoil joins with the principal's description and time, or stays unprotected. -/
theorem State.joinCounterfoil_joins (s : State) (desc : List Byte) (kernel time epoch : Nat) : let t := s.joinCounterfoil desc kernel time epoch
    let s1 := s.adopted desc time epoch
    (s.pair.joined = false → t.now = time ∧ t.epoch = epoch - 1 ∧ t.te = settingNs (hdrField desc 8 1)) ∧
    (∀ f, s1.validate desc desc.length s1.kernelAccepted = .error f →
      t.pair.joined = false ∧ t.n .pairProtection = 2 ∧ t.plant = s.plant) ∧
    (∀ c, s1.validate desc desc.length s1.kernelAccepted = .ok c → t.pair.joined = true ∧ t.plant = c.plant ∧
      t.dev.pdDigest = (desc.drop 24).take 32 ∧ t.pair.fwd = [] ∧ t.pair.stored = [] ∧
      t.n .pairProtection = (if kernel = Config.kernelVersion.toNat then 2 else 1)) := by
  obtain ⟨herr, hok⟩ := s.joinCounterfoil_eq desc kernel time epoch
  have hclk := s.adopted_clk desc time epoch
  have hplant := s.adopted_plant desc time epoch
  dsimp only
  cases hv : (s.adopted desc time epoch).validate desc desc.length (s.adopted desc time epoch).kernelAccepted with
  | error f =>
    rw [herr f hv]
    obtain ⟨hj, hprot, hpl, hc⟩ := (s.adopted desc time epoch).joinRefused f.check
    refine ⟨fun h => ?_, fun g _ => ⟨hj, hprot, hpl.trans hplant⟩, fun c hcon => absurd hcon (by simp)⟩
    obtain ⟨h1, h2, h3⟩ := hclk h
    exact ⟨(congrArg Clock.now hc).trans h1, (congrArg Clock.epoch hc).trans h2, (congrArg Clock.te hc).trans h3⟩
  | ok c =>
    rw [hok c hv]
    obtain ⟨hj, hpl, hd, hf, hs, hprot, hnow, hep, hte⟩ := (s.adopted desc time epoch).joinAccepted c desc kernel hv
    refine ⟨fun h => ?_, fun f hcon => absurd hcon (by simp), fun d hd' => ?_⟩
    · obtain ⟨h1, h2, h3⟩ := hclk h
      exact ⟨hnow.trans h1, hep.trans h2, hte.trans h3⟩
    · obtain rfl : c = d := Except.ok.inj hd'
      exact ⟨hj, hpl, hd, hf, hs, hprot⟩

/-! ## SURRENDER and extraction (R421, R497, R515) -/

theorem State.surrenderHeard_counterfoil (s : State) (h : Nat) (fault : Bool) (hr : s.n .pairRole = 2) :
    let k := if fault then 3 else if s.epoch + 3 ≤ h then 2 else 4
    let s1 := s.withPair { s.pair with surrender := some (h, k) }
    s.surrenderHeard h fault = if s.eligibleNow then s1.emit (.pairSurrender h fault) else s1 :=
  if_pos (show s.isCounterfoil = true from beq_iff_eq.2 hr)

theorem State.surrenderHeard_principal (s : State) (h : Nat) (fault : Bool) (hr : s.n .pairRole = 1) :
    ((∃ k, s.pair.handover = some (h, k)) → s.surrenderHeard h fault = s.withPair { s.pair with confirmed := true }) ∧
    ((∀ k, s.pair.handover ≠ some (h, k)) → s.surrenderHeard h fault = s.demote) := by
  have hc : s.isCounterfoil = false := beq_eq_false_iff_ne.2 (by omega)
  have hp : s.isPrincipal = true := beq_iff_eq.2 hr
  unfold State.surrenderHeard
  rw [hc, hp]
  constructor
  · rintro ⟨k, hk⟩
    simp [hk]
  · intro hn
    cases he : s.pair.handover with
    | none => simp
    | some e =>
      obtain ⟨k, x⟩ := e
      have hk : k ≠ h := fun hk => hn x (by rw [he, hk])
      simp [hk]

/-- The input stage is off, and reported. -/
def State.inserting (s : State) : State := ((s.withHw { s.hw with inputOn := false }).putN .hwHwInsert 0 0).raise 0x0810 kDevice 0 0

theorem State.inserting_leaves (s : State) :
    s.inserting.quiet = ((s.withHw { s.hw with inputOn := false }).putN .hwHwInsert 0 0).quiet ∧ Raised s s.inserting 0x0810 kDevice 0 :=
  ⟨State.raise_quiet _ _ _ _ _, State.raise_raised _ _ _ _ _ rfl⟩

theorem State.inserting_reads (s : State) : s.inserting.n .pairRole = s.n .pairRole ∧ s.inserting.epoch = s.epoch := by
  have hq := s.inserting_leaves.1
  generalize s.inserting = u at hq
  have hc : u.clk = s.clk := (State.clk_of_quiet hq).trans rfl
  exact ⟨(State.n_of_quiet hq _ _ _ rfl).trans (State.n_put_field _ _ (by decide)), congrArg Clock.epoch hc⟩

/-- What follows an extraction. -/
def State.insertFollows (s : State) : State :=
  if s.isPrincipal then s.surrender (s.epoch + 2) false else if s.isCounterfoil then s.idleEnds.pubEligible else s

theorem State.insertFollows_cases (s : State) :
    (s.n .pairRole = 1 → s.insertFollows = (s.withPair { s.pair with handover := some (s.epoch + 2, s.epoch), confirmed := false }).emit
      (.pairSurrender (s.epoch + 2) false)) ∧
    (s.n .pairRole = 2 → s.insertFollows = s.idleEnds.pubEligible) ∧
    (s.n .pairRole ≠ 1 → s.n .pairRole ≠ 2 → s.insertFollows = s) := by
  unfold State.insertFollows
  refine ⟨fun h => ?_, fun h => ?_, fun h1 h2 => ?_⟩
  · have hp : s.isPrincipal = true := beq_iff_eq.2 h
    rw [if_pos hp, State.surrender, if_pos hp]
  · rw [if_neg (by simp [State.isPrincipal, h]), if_pos (show s.isCounterfoil = true from beq_iff_eq.2 h)]
  · rw [if_neg (by simpa [State.isPrincipal] using h1), if_neg (by simpa [State.isCounterfoil] using h2)]

theorem State.insertReleased_eq (s : State) : s.insertReleased = s.inserting.insertFollows := by
  unfold State.insertReleased State.inserting State.insertFollows
  rfl

/-- A step whose records are those of another state but for the pair's. -/
theorem State.rest_pair {s u v : State} (hr : u.rest = s.rest) (hv : v.rest = (u.withPair v.pair).rest) :
    v.rest = (s.withPair v.pair).rest := by
  have h := congrArg (fun x : State => x.withPair v.pair) hr
  exact hv.trans ((by cases u; rfl : (u.withPair v.pair).rest = u.rest.withPair v.pair).trans (h.trans (by cases s; rfl)))

theorem State.insertFollows_leaves (s : State) : let t := s.insertFollows
    (∀ f i j, (⟨f, i, j⟩ : Pt) ≠ ⟨.pairEligible, 0, 0⟩ → t.w f i j = s.w f i j) ∧ t.hw = s.hw ∧ t.so = s.so ∧ t.rest = (s.withPair t.pair).rest ∧
    (s.n .pairRole = 1 → t.pair.handover = some (s.epoch + 2, s.epoch) ∧ Out.pairSurrender (s.epoch + 2) false ∈ t.out) ∧
    (s.n .pairRole = 2 → t.pair.endsIdle = true ∧ (s.n .hwHwInsert = 0 → t.n .pairEligible = 0)) := by
  obtain ⟨h1, h2, h0⟩ := s.insertFollows_cases
  dsimp only
  by_cases hr1 : s.n .pairRole = 1
  · rw [h1 hr1]
    refine ⟨fun _ _ _ _ => rfl, rfl, rfl, rfl, fun _ => ⟨rfl, List.mem_cons_self ..⟩, fun h => ?_⟩
    exact absurd (hr1.symm.trans h) (by decide)
  · by_cases hr2 : s.n .pairRole = 2
    · rw [h2 hr2, s.idleEnds_eq]
      refine ⟨fun f i j hf => State.w_put_ne _ _ hf, rfl, rfl, rfl, fun h => absurd h hr1, fun _ => ⟨rfl, fun hi => ?_⟩⟩
      have he : State.eligibleNow ((s.withPair { s.pair with endsIdle := true }).withOut s.idleEnds.out) = false := by
        have hn : State.n ((s.withPair { s.pair with endsIdle := true }).withOut s.idleEnds.out) .hwHwInsert = 0 := hi
        rw [State.eligibleNow, hn]
        simp
      rw [State.pubEligible, State.n_putN_same _ _ _ _ _ (by rw [he]; decide), he]
      rfl
    · rw [h0 hr1 hr2]
      exact ⟨fun _ _ _ _ => rfl, rfl, rfl, by cases s; rfl, fun h => absurd h hr1, fun h => absurd h hr2⟩

/-- What an extraction leaves (R515). -/
theorem State.insertReleased_leaves (s : State) : let t := s.insertReleased
    t.n .hwHwInsert = 0 ∧ t.hw = { s.hw with inputOn := false } ∧ Raised s t 0x0810 kDevice 0 ∧
    (s.n .pairRole = 1 → t.pair.handover = some (s.epoch + 2, s.epoch) ∧ Out.pairSurrender (s.epoch + 2) false ∈ t.out) ∧
    (s.n .pairRole = 2 → t.pair.endsIdle = true ∧ t.n .pairEligible = 0) ∧
    t.rest = ((s.withHw t.hw).withPair t.pair).rest ∧ QuietPoints s t [⟨.hwHwInsert, 0, 0⟩, ⟨.pairEligible, 0, 0⟩] := by
  obtain ⟨hq, hraised⟩ := s.inserting_leaves
  obtain ⟨hrole, hepoch⟩ := s.inserting_reads
  have hoff : s.inserting.n .hwHwInsert = 0 := (State.n_of_quiet hq _ _ _ rfl).trans (State.n_putN_same _ _ _ _ _ (by decide))
  have hhw : s.inserting.hw = { s.hw with inputOn := false } := State.hw_of_quiet hq
  have hrest : s.inserting.rest = (s.withHw { s.hw with inputOn := false }).rest := (State.rest_of_quiet hq).trans rfl
  have hpts : QuietPoints s s.inserting [⟨.hwHwInsert, 0, 0⟩] := by
    have h := (QuietPoints.putN (s.withHw { s.hw with inputOn := false }) .hwHwInsert 0 0 0).trans (QuietPoints.of_quiet hq)
    exact h.mono (by simp)
  rw [s.insertReleased_eq]
  generalize s.inserting = u at hraised hrole hepoch hoff hhw hrest hpts
  obtain ⟨fw, fhw, fso, frest, fprin, ffoil⟩ := u.insertFollows_leaves
  rw [hrole, hepoch] at fprin
  rw [hrole] at ffoil
  generalize u.insertFollows = t at fw fhw fso frest fprin ffoil
  dsimp only
  refine ⟨(State.n_ext (fw _ _ _ (by decide))).trans hoff, fhw.trans hhw, by rw [Raised, fso]; exact hraised, fprin, fun h => ⟨(ffoil h).1, (ffoil h).2 hoff⟩, ?_, ?_⟩
  · rw [fhw, hhw]
    exact State.rest_pair hrest frest
  · intro f i j hn hf
    simp only [List.mem_cons, List.not_mem_nil, or_false, not_or] at hn
    exact (fw f i j hn.2).trans (hpts f i j (by simpa using hn.1) hf)

theorem State.insertClosed_leaves (s : State) : Yields (exec .insertClosed s) fun t =>
    t.hw = { s.hw with inputOn := true } ∧ (s.dev.powered = true → t.n .hwHwInsert = 1) ∧
    t = (s.withHw t.hw).withPts t.pts ∧ SamePoints s t [⟨.hwHwInsert, 0, 0⟩, ⟨.pairEligible, 0, 0⟩] := by
  refine yields_next ?_
  generalize hu : s.withHw { s.hw with inputOn := true } = u
  dsimp only
  split
  · have h : SamePoints u ((u.putN .hwHwInsert 0 1).pubEligible) [⟨.hwHwInsert, 0, 0⟩, ⟨.pairEligible, 0, 0⟩] :=
      (SamePoints.put u .hwHwInsert 0 _ 0).trans (SamePoints.put _ .pairEligible 0 _ 0)
    subst hu
    exact ⟨rfl, fun _ => (State.n_put_field _ _ (by decide)).trans (State.n_putN_same _ _ _ _ _ (by decide)), rfl, h⟩
  · next hp =>
    subst hu
    exact ⟨rfl, fun h => absurd h hp, rfl, fun _ _ _ _ => rfl⟩

/-- Settles O53: a role is taken over `takeRole` and given up over `demote`; a description is activated over `activate`. -/
theorem pairRolesAndJoining : Obligations.PairRolesAndJoining := by
  unfold Obligations.PairRolesAndJoining
  intro s
  refine ⟨fun partner traffic hup hm hr hp => yields_next (s.roleDecision_outcome partner traffic hup hm hr hp),
    fun desc kernel time epoch hup => ⟨fun hr => yields_next ?_, fun hr hm => yields_next ?_⟩,
    fun h fault hup => yields_if hup ⟨fun hr => ?_, fun hr hk => ?_, fun hr hk => ?_, fun hr => ?_⟩,
    fun hup hm => yields_if (by simp [hup, hm]) s.demote_demoted, fun hup hi => yields_if (by simp [hup, hi]) s.insertReleased_leaves,
    s.insertClosed_leaves⟩
  · have hp : s.isPrincipal = true := beq_iff_eq.2 hr
    rw [show s.pairJoin desc kernel time epoch = s.joinPrincipal kernel by simp [State.pairJoin, hup, hp]]
    exact s.joinPrincipal_joins kernel hr
  · have hp : s.isPrincipal = false := beq_eq_false_iff_ne.2 (by omega)
    have hc : s.isCounterfoil = true := beq_iff_eq.2 hr
    rw [show s.pairJoin desc kernel time epoch = s.joinCounterfoil desc kernel time epoch by simp [State.pairJoin, hup, hp, hc, hm]]
    exact s.joinCounterfoil_joins desc kernel time epoch
  · rw [s.surrenderHeard_counterfoil h fault hr]
    dsimp only
    by_cases he : s.eligibleNow = true
    · rw [if_pos he]
      exact ⟨rfl, fun _ => List.mem_cons_self .., rfl⟩
    · rw [if_neg he]
      exact ⟨rfl, fun ht => absurd ht he, rfl⟩
  · exact (s.surrenderHeard_principal h fault hr).1 hk
  · rw [(s.surrenderHeard_principal h fault hr).2 hk]
    exact s.demote_demoted
  · simp [State.surrenderHeard, State.isCounterfoil, State.isPrincipal, hr]

end Sys2Proof.Machine
end

section
/-!
SUPPORT. Proofs/ReplayEnds.lean: the end of a replay, and one recorded epoch beside the live device (section 13.6).
-/
namespace Sys2Proof.Machine

/-! ## The end of a replay -/

/-- What the end of a replay passes on: its record, the completions that wait, the hashes and the plant. -/
def State.replayReads (s : State) : Replay × List FinCpl × List Nat × Plant := (s.rep, s.host.fins, s.jrn.hashes, s.plant)

theorem State.replayReads_of_exceptMode {s t : State} (h : t.exceptMode = s.exceptMode) : t.replayReads = s.replayReads := by
  have hr : t.rest.withDrvs [] = s.rest.withDrvs [] := State.aside_rest h
  exact Prod.ext (congrArg State.rep hr :) (Prod.ext (congrArg (fun x : State => x.host.fins) hr :)
    (Prod.ext (congrArg (fun x : State => x.jrn.hashes) hr :) (congrArg State.plant hr :)))

theorem State.replayReads_of_quiet {s t : State} (h : t.quiet = s.quiet) : t.replayReads = s.replayReads :=
  State.replayReads_of_exceptMode (State.aside_of_quiet h)

theorem State.entering_replayReads (s : State) (m : Nat) : (s.entering m).replayReads = s.replayReads := rfl

theorem State.setMode_replayReads (s : State) (m : Nat) (hm : m < 2 ^ 32) : (s.setMode m).replayReads = s.replayReads := by
  by_cases h : s.mode = m
  · rw [State.setMode_same h]
  · exact (State.replayReads_of_exceptMode (s.setMode_enters m h hm).2.2).trans (s.entering_replayReads m)

theorem State.setMode_mode (s : State) (m : Nat) (hm : m < 2 ^ 32) : (s.setMode m).mode = m := by
  by_cases h : s.mode = m
  · rw [State.setMode_same h, h]
  · exact (s.setMode_enters m h hm).1

theorem State.replayRestored_records (s : State) : s.replayRestored.host = s.host ∧ s.replayRestored.jrn = s.jrn := by
  unfold State.replayRestored
  split
  · simp only [State.put_host, State.put_jrn]
    exact (s.takeImage_carried _ _).2.2
  · exact ⟨rfl, rfl⟩

/-- A completion that no longer waits for a feed stands through the end of the replay. -/
theorem State.replayLeave_stands (s : State) {f : FinCpl} (hf : f ∈ s.host.fins) (hw : f.wait.isFeed = false) :
    f ∈ s.replayLeave.host.fins := by
  have hl : s.replayLeave = (s.replayRestored.settle (fun f => f.wait.isFeed) 0x0301 noItem 0 .ready).withRep Replay.idle := rfl
  rw [hl]
  obtain ⟨hhost, -⟩ := s.replayRestored_records
  generalize s.replayRestored = u at hhost
  exact List.mem_map.2 ⟨f, hhost ▸ hf, if_neg (by simp [hw])⟩

theorem State.replayLeave_records (s : State) : s.replayLeave.rep = Replay.idle ∧ s.replayLeave.jrn = s.jrn := by
  have hl : s.replayLeave = (s.replayRestored.settle (fun f => f.wait.isFeed) 0x0301 noItem 0 .ready).withRep Replay.idle := rfl
  rw [hl]
  obtain ⟨-, hj⟩ := s.replayRestored_records
  generalize s.replayRestored = u at hj
  exact ⟨rfl, hj⟩

/-- R397, R399, R400: the end of a replay. -/
theorem State.replayEnd_ends (s : State) (v : Nat) : ReplayEnded s (s.replayEnd v) v ∧ (s.replayEnd v).jrn.hashes = s.jrn.hashes := by
  unfold State.replayEnd
  extract_lets s1
  obtain ⟨hrep, hjrn⟩ := s1.replayLeave_records
  have hstand := fun f => s1.replayLeave_stands (f := f)
  generalize s1.replayLeave = s2 at hrep hjrn hstand
  generalize hs3 : s2.raise _ _ _ _ = s3
  have h3 : s3.replayReads = s2.replayReads := hs3 ▸ State.replayReads_of_quiet (State.raise_quiet _ _ _ _ _)
  have h4 := (s3.setMode_replayReads 1 (by decide)).trans h3
  have hm := s3.setMode_mode 1 (by decide)
  generalize s3.setMode 1 = s4 at h4 hm
  have hx := s4.blockAll_exceptDrives
  have h5 := (State.replayReads_of_exceptMode (State.exceptMode_of hx)).trans h4
  simp only [State.replayReads, Prod.mk.injEq] at h4 h5
  obtain ⟨hrep5, hfins5, hhash5, hplant5⟩ := h5
  refine ⟨⟨(State.aside_n hx .devMode 0 0 rfl rfl).trans hm, hrep5.trans hrep, fun d hd => s4.blockAll_regime d ?_, fun f hf hw => ?_⟩,
    hhash5.trans (congrArg Journal.hashes hjrn)⟩
  · rw [State.drives, h4.2.2.2, ← hplant5]; exact hd
  · rw [hfins5]
    exact hstand _ (s.settle_mem hf hw) rfl

/-! ## One recorded epoch -/

theorem State.feedsDone_eq (s : State) : ∃ fs, s.feedsDone = s.withHost { s.host with fins := fs } := ⟨_, rfl⟩

/-- The live device over what a recorded epoch computed (R398). -/
def State.givenBack (s u : State) : State :=
  (((((((((u.withClk s.clk).withRnds s.rnds).withDev s.dev).withSo s.so).withIrq s.irq).withOut s.out).withHost s.host).withJrn
    { s.jrn with hashes := u.jrn.hashes }).withPair s.pair)

def State.livePoints (s u : State) : State :=
  ((u.putN .devMode 0 s.mode).put .devModePrev 0 (s.w .devModePrev)).put .devSafeCause 0 (s.w .devSafeCause)

theorem State.givenBack_live (s u : State) : let t := s.livePoints (s.givenBack u)
    t.mode = s.mode ∧ t.clk = s.clk ∧ t.rnds = s.rnds ∧ t.dev = s.dev ∧ t.so = s.so ∧ t.irq = s.irq ∧ t.out = s.out ∧ t.host = s.host ∧
      t.pair = s.pair := by
  refine ⟨?_, rfl, rfl, rfl, rfl, rfl, rfl, rfl, rfl⟩
  generalize s.givenBack u = v
  exact (State.n_put_field _ _ (by decide)).trans ((State.n_put_field _ _ (by decide)).trans
    (State.n_putN_same v .devMode 0 _ 0 (s.n_lt .devMode 0 0)))

theorem State.replayCompute_givesBack (s : State) (m : MailRec) : ∃ u : State, s.replayCompute m = s.livePoints (s.givenBack u) := by
  unfold State.replayCompute State.livePoints State.givenBack
  extract_lets src s0 s1 s2 s3
  clear_value s3
  exact ⟨s3, rfl⟩

/-- A state with the records of the live device. -/
def State.Live (s t : State) : Prop :=
  t.mode = s.mode ∧ t.clk = s.clk ∧ t.rnds = s.rnds ∧ t.dev = s.dev ∧ t.so = s.so ∧ t.irq = s.irq ∧ t.out = s.out ∧ t.host = s.host ∧
    t.pair = s.pair

/-- What the computation of a recorded epoch gives back to the live device (R398). -/
theorem State.replayCompute_live (s : State) (m : MailRec) : s.Live (s.replayCompute m) := by
  obtain ⟨u, hu⟩ := s.replayCompute_givesBack m
  rw [hu]
  exact s.givenBack_live u

/-- The record of a replay after an epoch. -/
def State.epochCounted (s : State) (m : MailRec) : State :=
  (s.inc .repEpochs).withRep { (s.inc .repEpochs).rep with epoch := m.epoch, time := m.time, mode := m.mode, done := true }

theorem State.epochCounted_live (s : State) (m : MailRec) : s.Live (s.epochCounted m) :=
  ⟨s.n_put_field _ (by decide), rfl, rfl, rfl, rfl, rfl, rfl, rfl, rfl⟩

/-- The records that a divergence report leaves. -/
theorem State.diverged_records (s : State) (m : MailRec) (ls : List Nat) : ∃ u : State,
    s.diverged m ls = u.replayEnd 1 ∧ u.host = s.host ∧ u.jrn = s.jrn := ⟨_, rfl, rfl, rfl⟩

theorem State.replayNext_stops {s : State} {n : Nat} {m : MailRec} {ms : List MailRec} (hq : s.rep.queue = m :: ms) (hk : m.kind = 3)
    (hd : m.digest ≠ s.dev.pdDigest) : State.replayNext n s = s := by
  cases n with
  | zero => rfl
  | succ n => rw [State.replayNext, hq]; exact (if_pos hk).trans (if_neg hd)

/-- The comparison of the hashes (R399). -/
def State.compared (s : State) (m : MailRec) : State :=
  if (hashDiff s.jrn.hashes m.hashes).isEmpty then s.feedsDone else s.diverged m (hashDiff s.jrn.hashes m.hashes)

theorem State.replayNext_computes {s : State} (n : Nat) {m : MailRec} {ms : List MailRec} (hq : s.rep.queue = m :: ms) (h2 : m.kind ≠ 2)
    (h3 : m.kind ≠ 3) : State.replayNext (n + 1) s = (((s.feedTake ms).replayCompute m).epochCounted m).compared m := by
  rw [State.replayNext, hq]
  refine (if_neg h3).trans ((if_neg h2).trans ?_)
  generalize (s.feedTake ms).replayCompute m = c
  rfl

theorem State.feedsDone_records (s : State) : s.feedsDone = s.withHost { s.host with fins := s.feedsDone.host.fins } := rfl

/-- The comparison finds the lanes equal, or ends the replay. -/
theorem State.compared_outcome {s t : State} (m : MailRec) (h : s.Live t) (h7 : s.mode = 7) : let u := t.compared m
    (hashDiff u.jrn.hashes m.hashes = [] → u.rep = t.rep ∧ u.mode = 7 ∧ u.clk = s.clk ∧ u.rnds = s.rnds ∧ u.dev = s.dev ∧ u.so = s.so ∧
      u.irq = s.irq ∧ u.out = s.out ∧ u.pair = s.pair ∧ u.host = { s.host with fins := u.host.fins }) ∧
    (hashDiff u.jrn.hashes m.hashes ≠ [] → ReplayEnded s u 1) := by
  obtain ⟨hmode, hclk, hrnds, hdev, hso, hirq, hout, hhost, hpair⟩ := h
  unfold State.compared
  split
  · next hls =>
    rw [t.feedsDone_records]
    refine ⟨fun _ => ⟨rfl, hmode.trans h7, hclk, hrnds, hdev, hso, hirq, hout, hpair, ?_⟩, fun h => absurd (List.isEmpty_iff.1 hls) h⟩
    rw [← hhost]
    rfl
  · next hls =>
    obtain ⟨u, hu, huh, huj⟩ := t.diverged_records m (hashDiff t.jrn.hashes m.hashes)
    obtain ⟨⟨h1, h2, h3, h4⟩, hj⟩ := u.replayEnd_ends 1
    rw [huh, hhost] at h4
    rw [hu]
    refine ⟨fun h => absurd (List.isEmpty_iff.2 ?_) hls, fun _ => ⟨h1, h2, h3, h4⟩⟩
    rw [hj, huj] at h
    exact h

end Sys2Proof.Machine
end

section
/-!
SUPPORT. Proofs/Descriptions.lean: the end of a validation; settles O51 (sections 1.7 and 13.6).
-/
namespace Sys2Proof.Machine

/-- The completions of a load, with their results (R33). -/
def LoadEnded (s t : State) (st v : Nat) : Prop :=
  ∀ f ∈ s.host.fins, f.wait = .load → { f with status := st, item := noItem, value := v, wait := .ready } ∈ t.host.fins

/-- The completions of a load are given. -/
def State.loadSettled (s : State) (st v : Nat) : State := s.settle (fun f => f.wait == .load) st noItem v .ready

theorem State.loadSettled_ends {s u : State} (h : u.host.fins = s.host.fins) (st v : Nat) : LoadEnded s (u.loadSettled st v) st v :=
  fun _ hf hw => u.settle_mem (h ▸ hf) (beq_iff_eq.2 hw)

section
variable {s : State} {bs : List Byte} {n : Nat} (hl : s.dev.loading = some (bs, n))
include hl

theorem State.pdDone_outside (h : s.mode ≠ 1) : s.pdDone = (s.withDev { s.dev with loading := none }).loadSettled stMode 0 := by
  unfold State.pdDone
  rw [hl]
  exact if_pos h

theorem State.pdDone_faulty {f : PdFault} (h : s.mode = 1)
    (hv : (s.withDev { s.dev with loading := none }).validate bs n (fun k => k == Config.kernelVersion.toNat) = .error f) :
    s.pdDone = ((s.withDev { s.dev with loading := none }).pdReport f).loadSettled f.status f.detail := by
  unfold State.pdDone
  rw [hl]
  refine (if_neg (not_not.2 h)).trans ?_
  rw [hv]
  rfl

theorem State.pdDone_valid {c : State} (h : s.mode = 1)
    (hv : (s.withDev { s.dev with loading := none }).validate bs n (fun k => k == Config.kernelVersion.toNat) = .ok c) :
    s.pdDone = ((s.withDev { s.dev with loading := none }).activate c ((bs.drop 24).take 32)).loadSettled 0 0 := by
  unfold State.pdDone
  rw [hl]
  refine (if_neg (not_not.2 h)).trans ?_
  rw [hv]
  rfl

end

/-- The report of the first check that fails (R541). -/
theorem State.pdReport_reports (s : State) (f : PdFault) : let t := s.pdReport f
    t.w .devPdReportCheck 0 0 = Word.ofNat f.check ∧ t.w .devPdReportIndex 0 0 = Word.ofNat f.index ∧
    t.w .devPdReportDetail 0 0 = Word.ofNat f.detail ∧
    SamePoints s t [⟨.devPdReportCheck, 0, 0⟩, ⟨.devPdReportEntity, 0, 0⟩, ⟨.devPdReportIndex, 0, 0⟩, ⟨.devPdReportDetail, 0, 0⟩,
      ⟨.devPdReportLaneDrives, 0, 0⟩] := by
  unfold State.pdReport
  refine ⟨?_, ?_, ?_, ((((SamePoints.put s _ _ _ _).trans (SamePoints.put _ _ _ _ _)).trans (SamePoints.put _ _ _ _ _)).trans
    (SamePoints.put _ _ _ _ _)).trans (SamePoints.put _ _ _ _ _)⟩
  · rw [State.w_putN_field _ (by decide), State.w_putN_field _ (by decide), State.w_putN_field _ (by decide),
      State.w_putN_field _ (by decide)]
    exact State.w_put_same _ _ _ _ _
  · rw [State.w_putN_field _ (by decide), State.w_putN_field _ (by decide)]
    exact State.w_put_same _ _ _ _ _
  · rw [State.w_putN_field _ (by decide)]
    exact State.w_put_same _ _ _ _ _

theorem State.pdReport_records (s : State) (f : PdFault) :
    (s.pdReport f).plant = s.plant ∧ (s.pdReport f).dev = s.dev ∧ (s.pdReport f).host = s.host := ⟨rfl, rfl, rfl⟩

/-- What a valid description leaves between two states: `c` is what it decodes to (R33, R305). -/
structure Described (s c t : State) (digest : List Byte) : Prop where
  ended : LoadEnded s t 0 0
  plant : t.plant = c.plant
  active : t.dev.pdActive = true
  digest : t.dev.pdDigest = digest
  loading : t.dev.loading = none
  check : t.n .devPdReportCheck = 0
  teNext : t.clk.teNext = some (settingNs (t.n .devEpochSetting))
  guards : t.guards = []
  levels : t.levels = []
  blocked : ∀ d ∈ t.drives, t.regime d = 7

theorem Described.of_active {s c t u : State} {digest : List Byte} (ha : Active t u) (hhost : t.host.fins = s.host.fins)
    (hplant : t.plant = c.plant) (hact : t.dev.pdActive = true) (hdig : t.dev.pdDigest = digest) (hload : t.dev.loading = none)
    (hcheck : u.n .devPdReportCheck = 0) : Described s c (u.loadSettled 0 0) digest := by
  obtain ⟨hl, hg, hlv, hte⟩ := ha
  refine ⟨State.loadSettled_ends (hl.fins.trans hhost) 0 0, hl.plant.trans hplant, (congrArg Dev.pdActive hl.dev).trans hact,
    (congrArg Dev.pdDigest hl.dev).trans hdig, (congrArg Dev.loading hl.dev).trans hload, hcheck, hte, hg, hlv,
    fun d hd => hl.blocked d ?_⟩
  have hp : (u.loadSettled 0 0).plant = u.plant := rfl
  rw [State.drives, hp, hl.plant] at hd
  exact hd

/-- The state that a description takes effect in. -/
def State.describing (c : State) (digest : List Byte) : State :=
  c.withDev { c.dev with pdActive := true, pdDigest := digest, pdEpoch := c.epoch, loading := none }

theorem State.describing_leaves (c : State) (digest : List Byte) : let t := c.describing digest
    t.host = c.host ∧ t.plant = c.plant ∧ t.dev.pdActive = true ∧ t.dev.pdDigest = digest ∧ t.dev.loading = none :=
  ⟨rfl, rfl, rfl, rfl, rfl⟩

/-- A description takes effect in Configure (R33, R305). -/
theorem State.pdDone_described {s c : State} {bs : List Byte} {n : Nat} (hl : s.dev.loading = some (bs, n)) (h : s.mode = 1)
    (hv : (s.withDev { s.dev with loading := none }).validate bs n (fun k => k == Config.kernelVersion.toNat) = .ok c) :
    Described s c s.pdDone ((bs.drop 24).take 32) := by
  rw [State.pdDone_valid hl h hv]
  obtain ⟨-, hhost, -⟩ := State.validate_leaves hv
  obtain ⟨ha, hcheck⟩ := (s.withDev { s.dev with loading := none }).activate_active c ((bs.drop 24).take 32)
  obtain ⟨h1, h2, h3, h4, h5⟩ := c.describing_leaves ((bs.drop 24).take 32)
  exact .of_active (t := c.describing ((bs.drop 24).take 32)) ha ((congrArg HostIf.fins h1).trans (congrArg HostIf.fins hhost)) h2 h3 h4 h5
    hcheck

/-! ## The recorded epochs -/

theorem State.Live.trans {s t u : State} (h : s.Live t) (k : t.Live u) : s.Live u := by
  obtain ⟨h1, h2, h3, h4, h5, h6, h7, h8, h9⟩ := h
  obtain ⟨k1, k2, k3, k4, k5, k6, k7, k8, k9⟩ := k
  exact ⟨k1.trans h1, k2.trans h2, k3.trans h3, k4.trans h4, k5.trans h5, k6.trans h6, k7.trans h7, k8.trans h8, k9.trans h9⟩

theorem State.feedTake_live (s : State) (ms : List MailRec) : s.Live (s.feedTake ms) := ⟨rfl, rfl, rfl, rfl, rfl, rfl, rfl, rfl, rfl⟩

theorem State.recordedEpoch_live (s : State) (m : MailRec) (ms : List MailRec) :
    s.Live (((s.feedTake ms).replayCompute m).epochCounted m) :=
  (s.feedTake_live ms).trans ((State.replayCompute_live _ m).trans (State.epochCounted_live _ m))

theorem State.epochCounted_rep (s : State) (m : MailRec) : let r := (s.epochCounted m).rep
    r.done = true ∧ r.epoch = m.epoch ∧ r.time = m.time ∧ r.mode = m.mode := ⟨rfl, rfl, rfl, rfl⟩

theorem State.exec_replayDone {s : State} (h7 : s.mode = 7) (hp : s.rep.phase = 2) : exec .replayDone s = .next s.replayDone :=
  congrArg Host.Outcome.next (if_pos ⟨h7, hp⟩)

theorem State.replayDone_over {s : State} (hq : s.rep.queue = []) (hl : s.rep.lastFed = true) : s.replayDone = s.replayEnd 0 := by
  unfold State.replayDone
  rw [hq]
  exact if_pos hl

theorem State.replayDone_other {s : State} {m : MailRec} {ms : List MailRec} (hq : s.rep.queue = m :: ms) (hk : m.kind = 3)
    (hd : m.digest ≠ s.dev.pdDigest) : s.replayDone = s.replayEnd 2 := by
  unfold State.replayDone
  rw [hq]
  exact if_pos ⟨hk, hd⟩

/-- Settles O51: the ends of a validation by the branches of `State.pdDone`; a recorded epoch gives the live records back before its hashes
are compared, and the end of a replay blocks every drive in Configure. -/
theorem descriptionsAndReplay : Obligations.DescriptionsAndReplay := by
  intro s
  refine ⟨fun bs n hl => yields_next (t := s.pdDone) ?_, fun m ms h7 hp hd hq => ?_, fun h7 hp => ⟨fun hq hlast => ?_, fun m ms hq hk hdig => ?_⟩⟩
  · refine ⟨?_, fun h => ?_, fun f h hv => ?_, fun c h hv => ?_⟩
    · by_cases h : s.mode = 1
      · cases hv : (s.withDev { s.dev with loading := none }).validate bs n (fun k => k == Config.kernelVersion.toNat) with
        | error f => rw [State.pdDone_faulty hl h hv]; rfl
        | ok c => exact (State.pdDone_described hl h hv).loading
      · rw [State.pdDone_outside hl h]; rfl
    · rw [State.pdDone_outside hl h]
      exact ⟨State.loadSettled_ends (s := s) (u := s.withDev { s.dev with loading := none }) rfl stMode 0, rfl, rfl⟩
    · rw [State.pdDone_faulty hl h hv]
      obtain ⟨hc, hi, hdt, hsame⟩ := (s.withDev { s.dev with loading := none }).pdReport_reports f
      obtain ⟨hplant, hdev, hhost⟩ := (s.withDev { s.dev with loading := none }).pdReport_records f
      generalize (s.withDev { s.dev with loading := none }).pdReport f = u at hc hi hdt hsame hplant hdev hhost
      exact ⟨State.loadSettled_ends (s := s) (congrArg HostIf.fins hhost) f.status f.detail, hc, hi, hdt, hplant, hdev, hsame⟩
    · have hd := State.pdDone_described hl h hv
      exact ⟨hd.ended, hd.plant, hd.active, hd.digest, hd.check, hd.teNext, hd.guards, hd.levels, hd.blocked⟩
  · have hrun : exec .replayEpoch s = .next (State.replayNext (ms.length + 1) s) := by
      show Host.Outcome.next _ = _
      rw [if_pos ⟨h7, hp, by simp [hd]⟩, hq]
      rfl
    rw [hrun]
    refine yields_next ⟨fun hk hdig => State.replayNext_stops hq hk hdig, fun h2 h3 => ?_⟩
    rw [State.replayNext_computes _ hq h2 h3]
    have hlive := s.recordedEpoch_live m ms
    obtain ⟨r1, r2, r3, r4⟩ := ((s.feedTake ms).replayCompute m).epochCounted_rep m
    generalize ((s.feedTake ms).replayCompute m).epochCounted m = c at hlive r1 r2 r3 r4
    obtain ⟨hsame, hother⟩ := State.compared_outcome m hlive h7
    refine ⟨fun h => ?_, hother⟩
    obtain ⟨hr, hlive'⟩ := hsame h
    rw [hr]
    exact ⟨r1, r2, r3, r4, hlive'⟩
  · rw [State.exec_replayDone h7 hp, State.replayDone_over hq hlast]
    exact yields_next (s.replayEnd_ends 0).1
  · rw [State.exec_replayDone h7 hp, State.replayDone_other hq hk hdig]
    exact yields_next (s.replayEnd_ends 2).1

end Sys2Proof.Machine
end

section
/-!
SUPPORT. Proofs/BoundaryAfterReplay.lean: a boundary at which the token generator ends a replay; refutes O46 (section 2.1).
-/
namespace Sys2Proof.Machine

/-- The module in Configure when a replay begins, at a time at which end A of round 0 had delivered its closure 1000 ns into the epoch; the
last link-up of each round began 1 ns after the start of device time. -/
def replayWithClosure : State :=
  let s := ((State.reset.withDev { State.reset.dev with powered := true, boot := 0, supUp := true, stoA := true, stoB := true }).withClk
    { State.reset.clk with running := true, started := true }).withRnds ((List.range 16).map (fun r => (r, { Rnd.init with stepAt := 1 })))
  ((s.putN .devMode 0 1).putN .rndCloseANs 0 1000).replayBegin

/-- Samples with a token generator that differs from its reference. -/
def differingToken : Samples :=
  { ain := List.replicate 8 0, sdm := List.replicate 16 0, di := 0, temp := List.replicate 6 0, tx := List.replicate 12 0,
    supply := List.replicate 11 0, auxI := List.replicate 12 0, vaux := 0, sinCos := List.replicate 8 (0, 0), tokenDiffers := true,
    lowV := 0, missing := 0 }

theorem replayWithClosure_runs : replayWithClosure.up = true ∧ replayWithClosure.clk.running = true ∧ replayWithClosure.mode = 7 ∧
    replayWithClosure.n .pairRole ≠ 2 := by
  decide +kernel

/-- Safe cause 5 ends the replay after the rounds were made fresh, and the points of its beginning come back with the old closure. -/
theorem boundary_restoresClosure :
    ∃ t, exec (.epochBoundary differingToken) replayWithClosure = .next t ∧ t.w .rndCloseANs 0 0 = 1000 := by
  refine ⟨_, rfl, ?_⟩
  decide +kernel

/-- Refutes O46: at a boundary in Replay at which the permit token differs from its reference, Safe cause 5 ends the replay, and the closure
time that round 0 showed when the replay began comes back after the boundary cleared it. -/
theorem not_boundaryAndCutoff : ¬ Obligations.BoundaryAndCutoff := by
  unfold Obligations.BoundaryAndCutoff
  intro h
  obtain ⟨hup, hrun, hmode, hrole⟩ := replayWithClosure_runs
  obtain ⟨u, hu, hold⟩ := boundary_restoresClosure
  obtain ⟨t, ht, hcl⟩ := h.1 differingToken replayWithClosure hup hrun
  obtain rfl : u = t := Host.Outcome.next.inj (hu.symm.trans ht)
  obtain ⟨-, -, -, -, -, -, -, -, -, -, -, -, -, -, hfresh⟩ := hcl
  obtain ⟨-, -, -, hclear, -⟩ := hfresh (by rw [hmode]; decide) hrole 0 (by decide)
  exact absurd (hold.symm.trans hclear) (by decide)

end Sys2Proof.Machine
end

section
/-!
SUPPORT. Proofs/PairStream.lean: the end-B stream, its absence, and the relays of a pair (section 14.2).
-/
namespace Sys2Proof.Machine

/-! ## The frames of a stream -/

/-- What a stream changes beside the pair: points, rounds, withheld messages of MSI-X, and what leaves the block. -/
def Streamed (s t : State) : Prop :=
  ∃ p r m o, t = (((s.withPts p).withRnds r).withHost { s.host with msixPend := m }).withOut (o ++ s.out)

theorem Streamed.withPts (s : State) (p : Store) : Streamed s (s.withPts p) := ⟨p, s.rnds, s.host.msixPend, [], rfl⟩

theorem Streamed.withRnds (s : State) (r : Tab Rnd) : Streamed s (s.withRnds r) := ⟨s.pts, r, s.host.msixPend, [], rfl⟩

theorem Streamed.pend (s : State) (m : Nat) : Streamed s (s.withHost { s.host with msixPend := m }) := ⟨s.pts, s.rnds, m, [], rfl⟩

theorem Streamed.emit (s : State) (o : Out) : Streamed s (s.emit o) := ⟨s.pts, s.rnds, s.host.msixPend, [o], rfl⟩

theorem Streamed.refl (s : State) : Streamed s s := ⟨s.pts, s.rnds, s.host.msixPend, [], rfl⟩

theorem Streamed.trans {s t u : State} (h : Streamed s t) (k : Streamed t u) : Streamed s u := by
  obtain ⟨p, r, m, o, rfl⟩ := h
  obtain ⟨p', r', m', o', rfl⟩ := k
  exact ⟨p', r', m', o' ++ o, by rw [List.append_assoc]; rfl⟩

theorem Streamed.out_mem {s t : State} (h : Streamed s t) {o : Out} (ho : o ∈ s.out) : o ∈ t.out := by
  obtain ⟨p, r, m, l, rfl⟩ := h
  exact List.mem_append_right _ ho

theorem Streamed.forL {α : Type} {f : α → State → State} (hf : ∀ a t, Streamed t (f a t)) (l : List α) (s : State) : Streamed s (forL l f s) := by
  induction l generalizing s with
  | nil => exact .refl s
  | cons a l ih => exact (hf a s).trans (ih _)

theorem State.msixCause_streamed (s : State) (c : Nat) : Streamed s (s.msixCause c) := by
  unfold State.msixCause State.msix
  split
  · split
    · split
      · exact .emit s _
      · exact .pend s _
    · exact .refl s
  · exact .refl s

theorem State.setPairField_streamed (s : State) (f : Field) (v : Nat) : Streamed s (s.setPairField f v) := by
  unfold State.setPairField
  split
  · exact .refl s
  · exact (Streamed.withPts s _).trans (State.msixCause_streamed (s.putN f 0 v) 2)

/-- The round that a frame shows. -/
def State.shownRound (s : State) (r : Nat) (f : Frame) : State :=
  let x := s.rnd r
  let g := if f.linkup then none else some (f.lo, f.hi)
  s.putRnd r (match s.ownEnd with
    | .a => { x with rangeA := g, sentA := g, frameA := some f }
    | .b => { x with rangeB := g, sentB := g, frameB := some f })

theorem State.frameShows_eq (s : State) (r : Nat) (f : Frame) : s.frameShows r f =
    if f.linkup then s.shownRound r f
    else (((s.shownRound r f).putN .rndState r 6).putN .rndLate r (Arith.b2n (f.offset == 2))).setPairField .pairGeneration f.generation := rfl

theorem State.frameShows_streamed (s : State) (r : Nat) (f : Frame) : Streamed s (s.frameShows r f) := by
  rw [State.frameShows_eq]
  have h1 : Streamed s (s.shownRound r f) := .withRnds s _
  generalize s.shownRound r f = u at h1
  split
  · exact h1
  · exact h1.trans ((Streamed.withPts u _).trans ((Streamed.withPts (u.putN .rndState r 6) _).trans (State.setPairField_streamed _ _ _)))

theorem State.setPairField_rnds (s : State) (f : Field) (v : Nat) : (s.setPairField f v).rnds = s.rnds :=
  (congrArg State.rnds (s.setPairField_rest f v) :)

theorem State.frameShows_rnds (s : State) (r : Nat) (f : Frame) : (s.frameShows r f).rnds = (s.shownRound r f).rnds := by
  rw [State.frameShows_eq]
  split
  · rfl
  · generalize s.shownRound r f = u
    exact State.setPairField_rnds ((u.putN .rndState r 6).putN .rndLate r (Arith.b2n (f.offset == 2))) _ _

theorem State.shownRound_range (s : State) (r : Nat) (f : Frame) :
    ((s.shownRound r f).rnd r).range s.ownEnd = if f.linkup then none else some (f.lo, f.hi) := by
  unfold State.shownRound
  extract_lets x g
  rw [State.rnd_putRnd_same]
  cases s.ownEnd <;> rfl

/-- What a frame outside link-up shows (R80, R405). -/
theorem State.frameShows_points (s : State) (r : Nat) (f : Frame) (h : f.linkup = false) : let t := s.frameShows r f
    t.n .rndState r = 6 ∧ t.n .rndLate r = (if f.offset = 2 then 1 else 0) ∧ t.w .pairGeneration 0 0 = Word.ofNat f.generation := by
  rw [State.frameShows_eq, h]
  generalize s.shownRound r f = u
  have hp := ((u.putN .rndState r 6).putN .rndLate r (Arith.b2n (f.offset == 2))).setPairField_points .pairGeneration f.generation
  refine ⟨State.n_ext (hp _ _ _ (by simp)) |>.trans ?_, State.n_ext (hp _ _ _ (by simp)) |>.trans ?_, State.setPairField_w _ _ _⟩
  · rw [State.n_putN_field _ (by decide)]
    exact State.n_putN_same _ _ _ _ _ (by decide)
  · rw [State.n_putN_same _ _ _ _ _ (by unfold Arith.b2n; split <;> decide)]
    by_cases ho : f.offset = 2 <;> simp [ho, Arith.b2n]

/-! ## The stream -/

/-- The frame of a round leaves the end, and shows. -/
def State.streamOne (s : State) (e : RoundNo × Frame) : State :=
  (s.emit (.frame e.1 s.ownEnd (s.streamFrame e.2) (frameWire (s.streamFrame e.2)))).frameShows e.1 e.2

theorem State.streamOne_streamed (s : State) (e : RoundNo × Frame) : Streamed s (s.streamOne e) :=
  Streamed.trans (t := s.emit (.frame e.1 s.ownEnd (s.streamFrame e.2) (frameWire (s.streamFrame e.2))))
    (.emit s _) (State.frameShows_streamed _ _ _)

/-- The frame of a round as it leaves the end of this module. -/
def State.frameOut (s : State) (e : RoundNo × Frame) : Out := .frame e.1 s.ownEnd (s.streamFrame e.2) (frameWire (s.streamFrame e.2))

theorem Streamed.frameOut {s t : State} (h : Streamed s t) (e : RoundNo × Frame) : t.frameOut e = s.frameOut e := by
  obtain ⟨p, r, m, o, rfl⟩ := h
  rfl

theorem State.streamOne_out (s : State) (e : RoundNo × Frame) : s.frameOut e ∈ (s.streamOne e).out :=
  (State.frameShows_streamed _ _ _).out_mem (List.mem_cons_self ..)

theorem State.streamed_out (l : List (RoundNo × Frame)) (s : State) {e : RoundNo × Frame} (he : e ∈ l) :
    s.frameOut e ∈ (forL l (fun e t => t.streamOne e) s).out := by
  induction l generalizing s with
  | nil => cases he
  | cons a l ih =>
    have ha := s.streamOne_streamed a
    rcases List.mem_cons.1 he with rfl | h
    · exact (Streamed.forL (fun e t => t.streamOne_streamed e) l _).out_mem (s.streamOne_out e)
    · exact ha.frameOut e ▸ ih _ h

theorem State.streamOne_rnd (s : State) (e : RoundNo × Frame) {r : Nat} (h : e.1.val ≠ r) : (s.streamOne e).rnd r = s.rnd r := by
  unfold State.streamOne
  rw [State.rnd, State.frameShows_rnds]
  exact State.rnd_putRnd_ne _ _ h.symm

theorem State.streamed_rnd (l : List (RoundNo × Frame)) (s : State) {r : Nat} (h : ∀ e ∈ l, e.1.val ≠ r) :
    (forL l (fun e t => t.streamOne e) s).rnd r = s.rnd r := by
  induction l generalizing s with
  | nil => rfl
  | cons a l ih => exact (ih _ fun e he => h e (List.mem_cons_of_mem _ he)).trans (s.streamOne_rnd a (h a (List.mem_cons_self ..)))

/-! ## Relays (R406) -/

theorem field_take (bs : List Byte) {off n k : Nat} (h : off + n ≤ k) : Arith.field (bs.take k) off n = Arith.field bs off n := by
  unfold Arith.field
  rw [List.drop_take, List.take_take, Nat.min_eq_left (by omega)]

/-- The check bytes of a slot give nothing. -/
theorem State.takeSlot_take (s : State) (r : Nat) (e : End) (bs : List Byte) (t : Nat) :
    s.takeSlot r e (bs.take 14) t = s.takeSlot r e bs t := by
  simp only [State.takeSlot, State.cellShows, field_take bs (show 0 + 2 ≤ 14 by decide), field_take bs (show 2 + 2 ≤ 14 by decide),
    field_take bs (show 4 + 4 ≤ 14 by decide), field_take bs (show 8 + 4 ≤ 14 by decide), field_take bs (show 12 + 1 ≤ 14 by decide),
    field_take bs (show 13 + 1 ≤ 14 by decide)]

theorem slotOk_length {bs : List Byte} (h : slotOk bs = true) : (bs.take 14).length = 14 := by
  simp only [slotOk, Bool.and_eq_true, beq_iff_eq] at h
  rw [List.length_take, h.1]
  rfl

theorem State.relayed_slot (s : State) (r : RoundNo) (e : End) (pos : Nat) {bs : List Byte} (t : Nat)
    (h : slotOk bs = true) :
    s.relayed r e (.slot pos (bs.take 14)) t = (s.advance t).takeSlot r e bs t :=
  (if_pos (slotOk_length h)).trans (State.takeSlot_take _ _ _ _ _)

end Sys2Proof.Machine
end

section
/-!
SUPPORT. Proofs/HashMessages.lean: the heartbeat of a pair with hash, mode and generation (sections 14.2 and 14.6).
-/
namespace Sys2Proof.Machine

/-! ## The comparison of the hashes -/

/-- The points that a comparison of hashes writes. -/
def hashPoints : List Pt := [⟨.pairResyncMs, 0, 0⟩, ⟨.pairMismatches, 0, 0⟩, ⟨.pairProtection, 0, 0⟩, ⟨.pairEligible, 0, 0⟩]

/-- What a module hears of its partner. -/
def PairSt.news (p : PairSt) : Bool × Nat × Nat × Nat × Bool := (p.heard, p.heardAt, p.lastHash, p.partnerGen, p.joined)

/-- A comparison of hashes changes of the pair what the resynchronisation needs, and its own points. -/
structure HashJudged (s t : State) : Prop where
  rest : t.rest = (s.withPair t.pair).rest
  news : t.pair.news = s.pair.news
  points : QuietPoints s t hashPoints

theorem HashJudged.of_rest {s t : State} (h : t.rest = s.rest) (hp : QuietPoints s t hashPoints) : HashJudged s t := by
  have hpair : t.pair = s.pair := (congrArg State.pair h :)
  refine ⟨?_, by rw [hpair], hp⟩
  rw [h, hpair]
  cases s; rfl

theorem HashJudged.trans {s t u : State} (h : HashJudged s t) (k : HashJudged t u) : HashJudged s u := by
  refine ⟨?_, k.news.trans h.news, (h.points.trans k.points).mono (by simp)⟩
  have hr := congrArg (fun x : State => x.withPair u.pair) h.rest
  exact k.rest.trans ((by cases t; rfl : (t.withPair u.pair).rest = t.rest.withPair u.pair).trans (hr.trans (by cases s; rfl)))

theorem HashJudged.refl (s : State) : HashJudged s s := .of_rest rfl (QuietPoints.refl s _)

theorem HashJudged.of_quiet {s t : State} (h : t.quiet = s.quiet) : HashJudged s t := .of_rest (State.rest_of_quiet h) (.keep h _)

theorem HashJudged.withPair (s : State) {p : PairSt} (h : p.news = s.pair.news) : HashJudged s (s.withPair p) :=
  ⟨rfl, h, QuietPoints.refl s _⟩

theorem HashJudged.put (s : State) (f : Field) (w : Word) (h : (⟨f, 0, 0⟩ : Pt) ∈ hashPoints) : HashJudged s (s.put f 0 w 0) :=
  .of_rest rfl ((QuietPoints.put s f 0 w 0).mono (by simpa using h))

theorem State.setProt_judged (s : State) (p : Nat) : HashJudged s (s.setProt p) :=
  .of_rest (s.setProt_rest p) ((s.setProt_points p).mono (by decide))

theorem State.hashMatch_judged (s : State) : HashJudged s s.hashMatch := by
  unfold State.hashMatch
  split
  · extract_lets src s1
    have h1 : HashJudged s s1 := .withPair s rfl
    clear_value s1
    exact (h1.trans (HashJudged.put s1 .pairResyncMs _ (by decide))).trans (State.setProt_judged _ 0)
  · exact .refl s

theorem State.hashMismatch_judged (s : State) (e : Nat) : HashJudged s (s.hashMismatch e) := by
  unfold State.hashMismatch
  extract_lets s1 again src s2
  have h1 : HashJudged s s1 := (HashJudged.of_quiet (State.raise_quiet s _ _ _ _)).trans
    ((HashJudged.put _ .pairMismatches _ (by decide)).trans (State.setProt_judged _ 2))
  have h2 : HashJudged s s2 := h1.trans (HashJudged.withPair s1 rfl)
  split
  · exact h2.trans (HashJudged.of_quiet (State.raise_quiet s2 _ _ _ _))
  · exact h2

theorem State.hashCompare_judged (s : State) : HashJudged s s.hashCompare := by
  unfold State.hashCompare
  split
  · next e h f g _ _ =>
    split
    · extract_lets src s1
      have h1 : HashJudged s s1 := .withPair s rfl
      clear_value s1
      split
      · exact h1
      · split
        · exact h1.trans s1.hashMatch_judged
        · exact h1.trans (s1.hashMismatch_judged e)
    · exact .refl s
  · exact .refl s

/-! ## The principal's mode -/

/-- What a module reads of its state when a heartbeat arrives: records, and the points of role and generation. -/
def State.beatReads (s : State) : PairSt × List FinCpl × Nat × Nat × Nat := (s.pair, s.host.fins, s.epoch, s.n .pairRole, s.n .pairGeneration)

theorem State.beatReads_of_exceptMode {s t : State} (h : t.exceptMode = s.exceptMode) : t.beatReads = s.beatReads := by
  have hr : t.rest.withDrvs [] = s.rest.withDrvs [] := State.aside_rest h
  exact Prod.ext (congrArg State.pair hr :) (Prod.ext (congrArg (fun x : State => x.host.fins) hr :)
    (Prod.ext (congrArg State.epoch hr :) (Prod.ext (State.aside_n h .pairRole 0 0 rfl rfl) (State.aside_n h .pairGeneration 0 0 rfl rfl))))

theorem State.entering_beatReads (s : State) (m : Nat) : (s.entering m).beatReads = s.beatReads := rfl

theorem State.setMode_beatReads (s : State) {m : Nat} (h : s.mode ≠ m) (hm : m < 2 ^ 32) : (s.setMode m).beatReads = s.beatReads :=
  (State.beatReads_of_exceptMode (s.setMode_enters m h hm).2.2).trans (s.entering_beatReads m)

theorem State.haltAll_beatReads (s : State) : s.haltAll.beatReads = s.beatReads :=
  State.beatReads_of_exceptMode (State.exceptMode_of s.haltAll_exceptDrives)

theorem State.haltAll_mode (s : State) : s.haltAll.mode = s.mode := State.aside_n s.haltAll_exceptDrives .devMode 0 0 rfl rfl

theorem State.mirrorMode_beatReads (s : State) {m : Nat} (hm : m < 2 ^ 32) : (s.mirrorMode m).beatReads = s.beatReads := by
  unfold State.mirrorMode
  split
  · next h =>
    have h1 := s.setMode_beatReads h.2.1 hm
    dsimp only
    split
    · exact (State.haltAll_beatReads _).trans h1
    · exact h1
  · rfl

/-- R412: a counterfoil takes the principal's mode, but for its own Safe. -/
theorem State.mirrorMode_mode (s : State) {m : Nat} (hm : m < 2 ^ 32) (hr : s.n .pairRole = 2)
    (h6 : ¬(s.mode = 6 ∧ ¬(s.dev.stoA = true ∧ s.dev.stoB = true))) : (s.mirrorMode m).mode = m := by
  have hc : s.isCounterfoil = true := beq_iff_eq.2 hr
  unfold State.mirrorMode
  split
  · next h =>
    have h1 := (s.setMode_enters m h.2.1 hm).1
    dsimp only
    split
    · exact (State.haltAll_mode _).trans h1
    · exact h1
  · next h =>
    by_contra hne
    exact h ⟨hc, hne, h6⟩

/-! ## The heartbeat -/

/-- The news of a heartbeat are noted. -/
def State.beatNoted (s : State) (epoch hash gen : Nat) : State :=
  (s.hear true).withPair { (s.hear true).pair with lastHash := s.epoch, partnerGen := gen, partnerHash := some (epoch, hash) }

theorem State.beatNoted_leaves (s : State) (epoch hash gen : Nat) : let t := s.beatNoted epoch hash gen
    t.pair = { s.pair with heard := true, heardAt := s.epoch, lastHash := s.epoch, partnerGen := gen, partnerHash := some (epoch, hash) } ∧
    t.host.fins = s.host.fins ∧ t.epoch = s.epoch ∧ t.dev = s.dev ∧ ∀ f i j, t.n f i j = s.n f i j := by
  have hr := s.hear_rest true
  unfold State.beatNoted
  refine ⟨?_, ?_, ?_, ?_, fun f i j => s.hear_n true f i j⟩
  · rw [s.hear_pair true]; rfl
  · exact (congrArg (fun x : State => x.host.fins) hr :)
  · exact (congrArg State.epoch hr :)
  · exact (congrArg State.dev hr :)

/-- The judgement of a heartbeat of a joined module. -/
def State.beatJudged (s : State) (mode : Nat) : State := if s.pair.joined then (s.mirrorMode mode).hashCompare else s

theorem State.hashMessage_eq (s : State) (epoch hash mode gen : Nat) : s.hashMessage epoch hash mode gen =
    if ((s.beatNoted epoch hash gen).beatJudged mode).mustDemote then ((s.beatNoted epoch hash gen).beatJudged mode).demote
    else (s.beatNoted epoch hash gen).beatJudged mode := rfl

/-- What the judgement of a heartbeat leaves. -/
theorem State.beatJudged_leaves (s : State) {mode : Nat} (hm : mode < 2 ^ 32) : let t := s.beatJudged mode
    t.pair.news = s.pair.news ∧ t.host.fins = s.host.fins ∧ t.epoch = s.epoch ∧ t.n .pairRole = s.n .pairRole ∧
    t.n .pairGeneration = s.n .pairGeneration := by
  unfold State.beatJudged
  split
  · have h1 := s.mirrorMode_beatReads hm
    have h2 := (s.mirrorMode mode).hashCompare_judged
    generalize s.mirrorMode mode = u at h1 h2
    simp only [State.beatReads, Prod.mk.injEq] at h1
    obtain ⟨hpair, hfins, hepoch, hrole, hgen⟩ := h1
    exact ⟨h2.news.trans (congrArg PairSt.news hpair), (congrArg (fun x : State => x.host.fins) h2.rest :).trans hfins,
      (congrArg State.epoch h2.rest :).trans hepoch, (h2.points.n _ _ _ (by decide) rfl).trans hrole,
      (h2.points.n _ _ _ (by decide) rfl).trans hgen⟩
  · exact ⟨rfl, rfl, rfl, rfl, rfl⟩

theorem State.beatJudged_mode (s : State) {mode : Nat} (hm : mode < 2 ^ 32) (hr : s.n .pairRole = 2) :
    (s.pair.joined = true → ¬(s.mode = 6 ∧ ¬(s.dev.stoA = true ∧ s.dev.stoB = true)) → (s.beatJudged mode).mode = mode) ∧
    (s.pair.joined = false → (s.beatJudged mode).mode = s.mode) := by
  unfold State.beatJudged
  refine ⟨fun hj h6 => ?_, fun hj => by simp [hj]⟩
  rw [if_pos hj]
  exact ((s.mirrorMode mode).hashCompare_judged.points.n .devMode 0 0 (by decide) rfl).trans (s.mirrorMode_mode hm hr h6)

/-- R410, R412, R416, R421: a heartbeat. -/
theorem State.hashMessage_brings (s : State) (epoch hash gen : Nat) {mode : Nat} (hm : mode < 2 ^ 32) :
    let t := s.hashMessage epoch hash mode gen
    t.pair.heard = true ∧ t.pair.heardAt = s.epoch ∧ t.pair.lastHash = s.epoch ∧ t.pair.partnerGen = gen ∧
    (s.n .pairRole = 1 → newerGen gen (s.n .pairGeneration) = true → Demoted s t) ∧
    (s.n .pairRole = 2 → t.n .pairRole = 2 ∧
      (s.pair.joined = true → ¬(s.mode = 6 ∧ ¬(s.dev.stoA = true ∧ s.dev.stoB = true)) → t.mode = mode) ∧
      (s.pair.joined = false → t.mode = s.mode)) := by
  intro t
  have ht : t = _ := s.hashMessage_eq epoch hash mode gen
  clear_value t
  obtain ⟨npair, nfins, nepoch, ndev, nn⟩ := s.beatNoted_leaves epoch hash gen
  generalize s.beatNoted epoch hash gen = a at ht npair nfins nepoch ndev nn
  obtain ⟨jnews, jfins, jepoch, jrole, jgen⟩ := a.beatJudged_leaves hm
  have hmode := a.beatJudged_mode hm
  generalize a.beatJudged mode = b at ht jnews jfins jepoch jrole jgen hmode
  have hnews : b.pair.news = (true, s.epoch, s.epoch, gen, s.pair.joined) := by rw [jnews, npair]; rfl
  simp only [PairSt.news, Prod.mk.injEq] at hnews
  obtain ⟨hheard, hat, hlast, hgen, -⟩ := hnews
  have hrole : b.n .pairRole = s.n .pairRole := jrole.trans (nn _ _ _)
  have hmust : b.mustDemote = true → b.n .pairRole = 1 := fun h => by
    simp only [State.mustDemote, State.isPrincipal, Bool.and_eq_true, beq_iff_eq] at h
    exact h.1
  split at ht
  · next hd =>
    have h1 := hrole.symm.trans (hmust hd)
    obtain ⟨dpair, -⟩ := b.demote_leaves
    obtain ⟨d1, d2, d3, d4, d5, d6⟩ := b.demote_demoted
    subst ht
    refine ⟨by rw [dpair]; exact hheard, by rw [dpair]; exact hat, by rw [dpair]; exact jepoch.trans nepoch, by rw [dpair]; exact hgen,
      fun _ _ => ⟨d1, d2, d3, d4, d5, fun f hf => d6 f (by rw [jfins, nfins]; exact hf)⟩, fun h2 => ?_⟩
    rw [h1] at h2
    cases h2
  · next hd =>
    subst ht
    refine ⟨hheard, hat, hlast, hgen, fun h1 hg => absurd ?_ hd, fun h2 => ⟨hrole.trans h2, ?_⟩⟩
    · have hb1 : t.isPrincipal = true := beq_iff_eq.2 (hrole.trans h1)
      rw [State.mustDemote, hb1, hgen, jgen.trans (nn _ _ _), hg]
      rfl
    · obtain ⟨hj, hnj⟩ := hmode ((nn _ _ _).trans h2)
      rw [npair] at hj hnj
      rw [ndev, State.mode, nn] at hj
      exact ⟨hj, fun h => (hnj h).trans (nn _ _ _)⟩

end Sys2Proof.Machine
end

section
/-!
SUPPORT. Proofs/FedInputs.lean: reports, regimes, feedback, bridges and profiles leave alone what `State.fedView` lists (section 14.4).
-/
namespace Sys2Proof.Machine

/-- What a pair has of the epoch's input message: whether it came, and the forwarded commands that wait (R414). -/
def State.fedView (s : State) : Bool × List Cmd := (s.pair.fed, s.pair.fwd)

theorem State.fedView_of_rest {s t : State} (h : t.rest = s.rest) : t.fedView = s.fedView :=
  Prod.ext (congrArg (fun x : State => x.pair.fed) h :) (congrArg (fun x : State => x.pair.fwd) h :)

theorem State.fedView_of_quiet {s t : State} (h : t.quiet = s.quiet) : t.fedView = s.fedView := State.fedView_of_rest (State.rest_of_quiet h)

@[simp] theorem State.fedView_fold (s : State) : (s.pair.fed, s.pair.fwd) = s.fedView := rfl

@[simp] theorem ite_fedView (c : Prop) [Decidable c] (a b : State) :
    (if c then a else b).fedView = if c then a.fedView else b.fedView := by split <;> rfl

@[simp] theorem forN_fedView (n : Nat) (f : Nat → State → State) (s : State) (h : ∀ a t, (f a t).fedView = t.fedView) :
    (forN n f s).fedView = s.fedView := forN_keeps State.fedView n f s h

@[simp] theorem forL_fedView {α : Type} (l : List α) (f : α → State → State) (s : State)
    (h : ∀ a t, (f a t).fedView = t.fedView) : (forL l f s).fedView = s.fedView := forL_keeps State.fedView l f s h

@[simp] theorem State.withPending_fedView (s : State) (v : List Instr) : (s.withPending v).fedView = s.fedView := rfl
@[simp] theorem State.withClk_fedView (s : State) (v : Clock) : (s.withClk v).fedView = s.fedView := rfl
@[simp] theorem State.withPts_fedView (s : State) (v : Store) : (s.withPts v).fedView = s.fedView := rfl
@[simp] theorem State.withLed_fedView (s : State) (v : Store) : (s.withLed v).fedView = s.fedView := rfl
@[simp] theorem State.withCep_fedView (s : State) (v : List (Pt × Nat)) : (s.withCep v).fedView = s.fedView := rfl
@[simp] theorem State.withDev_fedView (s : State) (v : Dev) : (s.withDev v).fedView = s.fedView := rfl
@[simp] theorem State.withPlant_fedView (s : State) (v : Plant) : (s.withPlant v).fedView = s.fedView := rfl
@[simp] theorem State.withIrq_fedView (s : State) (v : Irq) : (s.withIrq v).fedView = s.fedView := rfl
@[simp] theorem State.withSo_fedView (s : State) (v : Sorting) : (s.withSo v).fedView = s.fedView := rfl
@[simp] theorem State.withGuards_fedView (s : State) (v : Tab Guard) : (s.withGuards v).fedView = s.fedView := rfl
@[simp] theorem State.withLevels_fedView (s : State) (v : Tab Nat) : (s.withLevels v).fedView = s.fedView := rfl
@[simp] theorem State.withHost_fedView (s : State) (v : HostIf) : (s.withHost v).fedView = s.fedView := rfl
@[simp] theorem State.withEnv_fedView (s : State) (v : Tab Tier) : (s.withEnv v).fedView = s.fedView := rfl
@[simp] theorem State.withJrn_fedView (s : State) (v : Journal) : (s.withJrn v).fedView = s.fedView := rfl
@[simp] theorem State.withRep_fedView (s : State) (v : Replay) : (s.withRep v).fedView = s.fedView := rfl
@[simp] theorem State.withPair_fedView (s : State) (v : PairSt) : (s.withPair v).fedView = (v.fed, v.fwd) := rfl
@[simp] theorem State.withRnds_fedView (s : State) (v : Tab Rnd) : (s.withRnds v).fedView = s.fedView := rfl
@[simp] theorem State.withCells_fedView (s : State) (v : Tab CellSt) : (s.withCells v).fedView = s.fedView := rfl
@[simp] theorem State.withDrvs_fedView (s : State) (v : Tab Drv) : (s.withDrvs v).fedView = s.fedView := rfl
@[simp] theorem State.withSets_fedView (s : State) (v : Tab SetSt) : (s.withSets v).fedView = s.fedView := rfl
@[simp] theorem State.withArms_fedView (s : State) (v : Tab ArmSt) : (s.withArms v).fedView = s.fedView := rfl
@[simp] theorem State.withShafts_fedView (s : State) (v : Tab ShaftSt) : (s.withShafts v).fedView = s.fedView := rfl
@[simp] theorem State.withPowers_fedView (s : State) (v : Tab PowerSt) : (s.withPowers v).fedView = s.fedView := rfl
@[simp] theorem State.withFbs_fedView (s : State) (v : Tab Fb) : (s.withFbs v).fedView = s.fedView := rfl
@[simp] theorem State.withCmps_fedView (s : State) (v : Tab CmpSt) : (s.withCmps v).fedView = s.fedView := rfl
@[simp] theorem State.withPtOut_fedView (s : State) (v : Tab Nat) : (s.withPtOut v).fedView = s.fedView := rfl
@[simp] theorem State.withTokens_fedView (s : State) (v : Nat) : (s.withTokens v).fedView = s.fedView := rfl
@[simp] theorem State.withHw_fedView (s : State) (v : Hw) : (s.withHw v).fedView = s.fedView := rfl
@[simp] theorem State.withBrs_fedView (s : State) (v : Tab Br) : (s.withBrs v).fedView = s.fedView := rfl
@[simp] theorem State.withVaux_fedView (s : State) (v : Vaux) : (s.withVaux v).fedView = s.fedView := rfl
@[simp] theorem State.withEngs_fedView (s : State) (v : Tab Eng) : (s.withEngs v).fedView = s.fedView := rfl
@[simp] theorem State.withAxes_fedView (s : State) (v : Tab Axis) : (s.withAxes v).fedView = s.fedView := rfl
@[simp] theorem State.withCans_fedView (s : State) (v : Tab Can) : (s.withCans v).fedView = s.fedView := rfl
@[simp] theorem State.withFree_fedView (s : State) (v : Nat) : (s.withFree v).fedView = s.fedView := rfl
@[simp] theorem State.withOut_fedView (s : State) (v : List Out) : (s.withOut v).fedView = s.fedView := rfl

/-! ## Operations of Ops.lean -/

@[simp] theorem State.put_fedView (s : State) (f : Field) (i : Nat) (w : Word) (j : Nat) : (s.put f i w j).fedView = s.fedView := by
  unfold State.put
  simp

@[simp] theorem State.putN_fedView (s : State) (f : Field) (i v j : Nat) : (s.putN f i v j).fedView = s.fedView := by
  unfold State.putN
  simp

@[simp] theorem State.putZ_fedView (s : State) (f : Field) (i : Nat) (v : Int) (j : Nat) : (s.putZ f i v j).fedView = s.fedView := by
  unfold State.putZ
  simp

@[simp] theorem State.putR_fedView (s : State) (f : Field) (i : Nat) (v : Rat) (j : Nat) : (s.putR f i v j).fedView = s.fedView := by
  unfold State.putR
  simp

@[simp] theorem State.put64_fedView (s : State) (f : Field) (i v : Nat) : (s.put64 f i v).fedView = s.fedView := by unfold State.put64; simp

@[simp] theorem State.putZ64_fedView (s : State) (f : Field) (i : Nat) (v : Int) : (s.putZ64 f i v).fedView = s.fedView := by
  unfold State.putZ64
  simp

@[simp] theorem State.inc_fedView (x0 : State) (x1 : Field) (x2 x3 : Nat) : (State.inc x0 x1 x2 x3).fedView = x0.fedView := by
  unfold State.inc
  simp

@[simp] theorem State.addN_fedView (s : State) (f : Field) (i v j : Nat) : (s.addN f i v j).fedView = s.fedView := by
  unfold State.addN
  simp

@[simp] theorem State.emit_fedView (s : State) (o : Out) : (s.emit o).fedView = s.fedView := by unfold State.emit; simp

/-! ## Operations of Irq.lean -/

@[simp] theorem State.irqFire_fedView (s : State) (id : Nat) : (s.irqFire id).fedView = s.fedView := State.fedView_of_quiet (s.irqFire_quiet id)

/-! ## Operations of Rings.lean -/

@[simp] theorem State.msixCause_fedView (s : State) (c : Nat) : (s.msixCause c).fedView = s.fedView := State.fedView_of_quiet (s.msixCause_quiet c)

@[simp] theorem State.settle_fedView (s : State) (p : FinCpl → Bool) (status item value : Nat) (w : Await) :
    (s.settle p status item value w).fedView = s.fedView := rfl

@[simp] theorem State.logWrite_fedView (s : State) (cmd : Option Nat) (item : Nat) (p : Pt) : (s.logWrite cmd item p).fedView = s.fedView := by
  unfold State.logWrite
  simp

@[simp] theorem State.gather_fedView (s : State) (f : Field) (i : Nat) (w : Word) (j : Nat) : (s.gather f i w j).fedView = s.fedView := by
  unfold State.gather
  simp

/-! ## Operations of So.lean -/

@[simp] theorem State.jrnPublish_fedView (s : State) : s.jrnPublish.fedView = s.fedView := State.fedView_of_quiet (s.jrnPublish_quiet)

@[simp] theorem State.captureTrigger_fedView (s : State) (t pre post : Nat) : (s.captureTrigger t pre post).1.fedView = s.fedView :=
  State.fedView_of_quiet (s.captureTrigger_quiet t pre post)

@[simp] theorem State.raiseAt_fedView (s : State) (code kind idx param : Nat) (t : Nat) : (s.raiseAt code kind idx param t).fedView = s.fedView :=
  State.fedView_of_quiet (s.raiseAt_quiet code kind idx param t)

@[simp] theorem State.raise_fedView (s : State) (code kind idx param : Nat) : (s.raise code kind idx param).fedView = s.fedView :=
  State.fedView_of_quiet (s.raise_quiet code kind idx param)

@[simp] theorem State.raiseLane_fedView (s : State) (code kind idx param : Nat) : (s.raiseLane code kind idx param).fedView = s.fedView :=
  State.fedView_of_quiet (s.raiseLane_quiet code kind idx param)

@[simp] theorem State.irqLevel_fedView (s : State) (id : Nat) (on : Bool) : (s.irqLevel id on).fedView = s.fedView :=
  State.fedView_of_quiet (s.irqLevel_quiet id on)

/-! ## Operations of Flags.lean -/

@[simp] theorem State.drvFlag_fedView (s : State) (d bit : Nat) (on : Bool) : (s.drvFlag d bit on).fedView = s.fedView := by
  unfold State.drvFlag
  simp

@[simp] theorem State.engFlag_fedView (s : State) (e bit : Nat) (on : Bool) : (s.engFlag e bit on).fedView = s.fedView := by
  unfold State.engFlag
  simp

@[simp] theorem State.axFlag_fedView (s : State) (a bit : Nat) (on : Bool) : (s.axFlag a bit on).fedView = s.fedView := by
  unfold State.axFlag
  simp

@[simp] theorem State.objFlag_fedView (s : State) (c o k : Nat) (on : Bool) : (s.objFlag c o k on).fedView = s.fedView := by
  unfold State.objFlag
  simp

@[simp] theorem State.safeBit_fedView (s : State) (code : Nat) (on : Bool) : (s.safeBit code on).fedView = s.fedView := by unfold State.safeBit; simp

/-! ## Operations of Regimes.lean -/

@[simp] theorem State.putDrv_fedView (s : State) (d : Nat) (v : Drv) : (s.putDrv d v).fedView = s.fedView := by unfold State.putDrv; simp
@[simp] theorem State.putGov_fedView (s : State) (d : Nat) (v : Gov) : (s.putGov d v).fedView = s.fedView := by unfold State.putGov; split <;> simp

@[simp] theorem State.leaveRegime_fedView (s : State) (d new : Nat) : (s.leaveRegime d new).fedView = s.fedView := by
  unfold State.leaveRegime
  simp

@[simp] theorem State.enterRegime_fedView (s : State) (d new : Nat) : (s.enterRegime d new).fedView = s.fedView := by
  unfold State.enterRegime
  simp

@[simp] theorem State.haltStart_fedView (s : State) (d : Nat) : (s.haltStart d).fedView = s.fedView := by unfold State.haltStart; simp
@[simp] theorem State.haltAlone_fedView (s : State) (d : Nat) : (s.haltAlone d).fedView = s.fedView := by unfold State.haltAlone; split <;> simp
@[simp] theorem State.setLimp_fedView (s : State) (d bit : Nat) : (s.setLimp d bit).fedView = s.fedView := by unfold State.setLimp; simp
@[simp] theorem State.clearLimp_fedView (s : State) (d bit : Nat) : (s.clearLimp d bit).fedView = s.fedView := by unfold State.clearLimp; simp

@[simp] theorem State.markCause_fedView (s : State) (d c : Nat) (on : Bool) : (s.markCause d c on).fedView = s.fedView := by
  unfold State.markCause
  simp

@[simp] theorem State.faultDrive_fedView (s : State) (d c : Nat) : (s.faultDrive d c).fedView = s.fedView := by unfold State.faultDrive; simp

@[simp] theorem State.turn_fedView (s : State) (d new : Nat) (eff : State → State) (h : ∀ t : State, (eff t).fedView = t.fedView) :
    (s.turn d new eff).fedView = s.fedView := by
  unfold State.turn
  split <;> simp [h]

@[simp] theorem State.unblock_fedView (s : State) (d : Nat) : (s.unblock d).fedView = s.fedView := by unfold State.unblock; simp

@[simp] theorem State.runOn_fedView (s : State) (d : Nat) : (s.runOn d).fedView = s.fedView := by
  unfold State.runOn
  refine State.turn_fedView _ _ _ _ (fun t => ?_)
  dsimp only
  split <;> split <;> simp

@[simp] theorem State.runOff_fedView (s : State) (d : Nat) : (s.runOff d).fedView = s.fedView := by unfold State.runOff; simp
@[simp] theorem State.blockOn_fedView (s : State) (d : Nat) : (s.blockOn d).fedView = s.fedView := by unfold State.blockOn; simp
@[simp] theorem State.blockOff_fedView (s : State) (d : Nat) : (s.blockOff d).fedView = s.fedView := by unfold State.blockOff; simp
@[simp] theorem State.faultResetDo_fedView (s : State) (d : Nat) : (s.faultResetDo d).fedView = s.fedView := by unfold State.faultResetDo; simp
@[simp] theorem State.renderOn_fedView (s : State) (d : Nat) : (s.renderOn d).fedView = s.fedView := by unfold State.renderOn; simp
@[simp] theorem State.renderOff_fedView (s : State) (d : Nat) : (s.renderOff d).fedView = s.fedView := by unfold State.renderOff; simp
@[simp] theorem State.crashOn_fedView (s : State) (d : Nat) : (s.crashOn d).fedView = s.fedView := by unfold State.crashOn; simp
@[simp] theorem State.crashOff_fedView (s : State) (d : Nat) : (s.crashOff d).fedView = s.fedView := by unfold State.crashOff; simp
@[simp] theorem State.releaseArmDo_fedView (s : State) (d : Nat) : (s.releaseArmDo d).fedView = s.fedView := by unfold State.releaseArmDo; simp
@[simp] theorem State.releaseDo_fedView (s : State) (d : Nat) : (s.releaseDo d).fedView = s.fedView := by unfold State.releaseDo; simp
@[simp] theorem State.endDo_fedView (s : State) (d : Nat) : (s.endDo d).fedView = s.fedView := by unfold State.endDo; simp
@[simp] theorem State.haltAll_fedView (s : State) : s.haltAll.fedView = s.fedView := by unfold State.haltAll; simp
@[simp] theorem State.blockAll_fedView (s : State) : s.blockAll.fedView = s.fedView := by unfold State.blockAll; simp
@[simp] theorem State.unblockAll_fedView (s : State) : s.unblockAll.fedView = s.fedView := by unfold State.unblockAll; simp

/-! ## Operations of Rounds.lean -/

@[simp] theorem State.putRnd_fedView (s : State) (r : Nat) (v : Rnd) : (s.putRnd r v).fedView = s.fedView := by unfold State.putRnd; simp

@[simp] theorem State.putCellState_fedView (s : State) (r p st : Nat) : (s.putCellState r p st).fedView = s.fedView := by
  unfold State.putCellState
  simp

@[simp] theorem State.idleEnds_fedView (s : State) : s.idleEnds.fedView = s.fedView := by unfold State.idleEnds; simp

/-! ## Operations of Linkup.lean -/

@[simp] theorem State.direct_fedView (s : State) (r : Nat) (p : Option Nat) (d : Directive) : (s.direct r p d).fedView = s.fedView := by
  unfold State.direct
  simp

@[simp] theorem State.sendCarrier_fedView (s : State) (a : ArmDesc) (p off : Nat) : (s.sendCarrier a p off).fedView = s.fedView := by
  unfold State.sendCarrier
  simp

/-! ## Operations of Time.lean -/

@[simp] theorem State.stepTime_fedView (s : State) (t : Nat) : (s.stepTime t).fedView = s.fedView := by unfold State.stepTime; simp
@[simp] theorem State.timeSetDo_fedView (s : State) (t : Nat) : (s.timeSetDo t).fedView = s.fedView := by unfold State.timeSetDo; simp

/-! ## Operations of Feedback.lean -/

@[simp] theorem State.putFb_fedView (s : State) (n : Nat) (v : Fb) : (s.putFb n v).fedView = s.fedView := by unfold State.putFb; simp
@[simp] theorem State.putCmp_fedView (s : State) (u : Nat) (v : CmpSt) : (s.putCmp u v).fedView = s.fedView := by unfold State.putCmp; simp

@[simp] theorem State.fbFlag_fedView (s : State) (n bit : Nat) (on : Bool) : (s.fbFlag n bit on).fedView = s.fedView := by
  unfold State.fbFlag
  simp

@[simp] theorem State.fbFault_fedView (s : State) (n cause : Nat) : (s.fbFault n cause).fedView = s.fedView := by unfold State.fbFault; simp

@[simp] theorem State.cmpFire_fedView (x0 x1 x2 : Nat) (x3 : State) : (State.cmpFire x0 x1 x2 x3).fedView = x3.fedView := by
  induction x2 generalizing x3 with
  | zero => rfl
  | succ n ih =>
    unfold State.cmpFire
    simp only [ite_fedView, ih]
    simp

@[simp] theorem State.cmpEnableDo_fedView (s : State) (u v : Nat) : (s.cmpEnableDo u v).fedView = s.fedView := by unfold State.cmpEnableDo; simp
@[simp] theorem State.cmpLoad_fedView (s : State) (u : Nat) (v : Int) : (s.cmpLoad u v).fedView = s.fedView := by unfold State.cmpLoad; simp
@[simp] theorem State.fbStill_fedView (s : State) (n : Nat) : (s.fbStill n).fedView = s.fedView := by unfold State.fbStill; simp
@[simp] theorem State.fbClear_fedView (s : State) (n : Nat) : (s.fbClear n).fedView = s.fedView := by unfold State.fbClear; simp

/-! ## Operations of ModuleHw.lean -/

@[simp] theorem State.encPwr_fedView (s : State) (g v : Nat) : (s.encPwr g v).fedView = s.fedView := by unfold State.encPwr; simp

/-! ## Operations of AuxPower.lean -/

@[simp] theorem State.putBr_fedView (s : State) (n : Nat) (v : Br) : (s.putBr n v).fedView = s.fedView := by unfold State.putBr; simp
@[simp] theorem State.putTries_fedView (s : State) (n v : Nat) : (s.putTries n v).fedView = s.fedView := by unfold State.putTries; simp
@[simp] theorem State.setBr_fedView (s : State) (n st : Nat) (x : Br) : (s.setBr n st x).fedView = s.fedView := by unfold State.setBr; simp
@[simp] theorem State.brRestart_fedView (s : State) (n : Nat) : (s.brRestart n).fedView = s.fedView := by unfold State.brRestart; simp
@[simp] theorem State.auxHold_fedView (s : State) (n cause : Nat) : (s.auxHold n cause).fedView = s.fedView := by unfold State.auxHold; simp

@[simp] theorem State.auxRelease_fedView (s : State) (n cause : Nat) : (s.auxRelease n cause).fedView = s.fedView := by
  unfold State.auxRelease
  simp

@[simp] theorem State.auxClear_fedView (s : State) (n : Nat) : (s.auxClear n).fedView = s.fedView := by unfold State.auxClear; simp

@[simp] theorem State.bridgeOut_fedView (s : State) (n : Nat) (duty : Option Rat) : (s.bridgeOut n duty).fedView = s.fedView := by
  unfold State.bridgeOut
  simp

/-! ## Operations of Profiles.lean -/

@[simp] theorem State.putEng_fedView (s : State) (e : Nat) (v : Eng) : (s.putEng e v).fedView = s.fedView := by unfold State.putEng; simp
@[simp] theorem State.putAx_fedView (s : State) (a : Nat) (v : Axis) : (s.putAx a v).fedView = s.fedView := by unfold State.putAx; simp
@[simp] theorem State.engRebase_fedView (s : State) (e : Nat) : (s.engRebase e).fedView = s.fedView := by unfold State.engRebase; simp

@[simp] theorem State.engEvent_fedView (s : State) (e code param : Nat) : (s.engEvent e code param).fedView = s.fedView := by
  unfold State.engEvent
  simp

@[simp] theorem State.engStart_fedView (s : State) (e : Nat) (x : Eng) (go : Bool) : (s.engStart e x go).fedView = s.fedView := by
  unfold State.engStart
  simp

@[simp] theorem State.engGo_fedView (s : State) (e : Nat) : (s.engGo e).fedView = s.fedView := by unfold State.engGo; simp

@[simp] theorem State.engBrake_fedView (s : State) (e : Nat) (aborted : Bool) : (s.engBrake e aborted).fedView = s.fedView := by
  unfold State.engBrake
  simp

@[simp] theorem State.engStop_fedView (s : State) (e : Nat) : (s.engStop e).fedView = s.fedView := by unfold State.engStop; split <;> simp
@[simp] theorem State.engResume_fedView (s : State) (e : Nat) : (s.engResume e).fedView = s.fedView := by unfold State.engResume; simp
@[simp] theorem State.engAbort_fedView (s : State) (e : Nat) : (s.engAbort e).fedView = s.fedView := by unfold State.engAbort; split <;> simp

@[simp] theorem State.homeRun_fedView (s : State) (e stage : Nat) (v : Rat) : (s.homeRun e stage v).fedView = s.fedView := by
  unfold State.homeRun
  simp

@[simp] theorem State.homeFail_fedView (s : State) (e cause : Nat) : (s.homeFail e cause).fedView = s.fedView := by
  unfold State.homeFail
  simp

@[simp] theorem State.engHome_fedView (s : State) (e : Nat) : (s.engHome e).fedView = s.fedView := by unfold State.engHome; simp

@[simp] theorem State.engCmd_fedView (s : State) (e cmd : Nat) : (s.engCmd e cmd).fedView = s.fedView := by
  unfold State.engCmd
  (repeat' split) <;> simp

@[simp] theorem State.issueTok_fedView (s : State) (e t : Nat) : (s.issueTok e t).fedView = s.fedView := by unfold State.issueTok; simp
@[simp] theorem State.engPublish_fedView (s : State) (e : Nat) : (s.engPublish e).fedView = s.fedView := by unfold State.engPublish; simp

@[simp] theorem State.engSuspend_fedView (s : State) (e cause : Nat) : (s.engSuspend e cause).fedView = s.fedView := by
  unfold State.engSuspend
  simp

@[simp] theorem State.engRested_fedView (s : State) (e : Nat) : (s.engRested e).fedView = s.fedView := by unfold State.engRested; simp
@[simp] theorem State.itinStep_fedView (s : State) (e : Nat) (dt : Rat) : (s.itinStep e dt).fedView = s.fedView := by unfold State.itinStep; simp
@[simp] theorem State.engMove_fedView (s : State) (e : Nat) (dt : Rat) : (s.engMove e dt).fedView = s.fedView := by unfold State.engMove; simp
@[simp] theorem State.homeEvent_fedView (s : State) (e : Nat) (src : Int) : (s.homeEvent e src).fedView = s.fedView := by unfold State.homeEvent; simp

@[simp] theorem State.homeJudge_fedView (s : State) (e : Nat) : (s.homeJudge e).fedView = s.fedView := by
  unfold State.homeJudge
  (split <;> try simp) <;> split <;> simp

@[simp] theorem State.engHoming_fedView (s : State) (e : Nat) (dt : Rat) : (s.engHoming e dt).fedView = s.fedView := by unfold State.engHoming; simp

@[simp] theorem State.engEval_fedView (s : State) (e : Nat) : (s.engEval e).fedView = s.fedView := by
  unfold State.engEval
  dsimp only
  (repeat' split) <;> simp

@[simp] theorem State.engTurns_fedView (s : State) (e d : Nat) : (s.engTurns e d).fedView = s.fedView := by unfold State.engTurns; simp

@[simp] theorem State.profileUnit_fedView (s : State) : s.profileUnit.fedView = s.fedView := by
  unfold State.profileUnit
  rw [State.withTokens_fedView]
  refine forN_fedView _ _ _ fun e t => ?_
  split
  · rfl
  · rw [State.engEval_fedView]
    split <;> simp

@[simp] theorem State.engNewLimits_fedView (s : State) (e : Nat) : (s.engNewLimits e).fedView = s.fedView := by unfold State.engNewLimits; simp

end Sys2Proof.Machine
end

section
/-!
SUPPORT. Proofs/FedUnits.lean: auxiliary axes, modes, guards and CAN leave alone what `State.fedView` lists (section 14.4).
-/
namespace Sys2Proof.Machine

/-! ## Operations of AuxAxes.lean -/

@[simp] theorem State.coilOn_fedView (s : State) (a : Nat) : (s.coilOn a).fedView = s.fedView := by unfold State.coilOn; simp
@[simp] theorem State.coilOff_fedView (s : State) (a : Nat) : (s.coilOff a).fedView = s.fedView := by unfold State.coilOff; simp
@[simp] theorem State.axBridges_fedView (s : State) (a : Nat) : (s.axBridges a).fedView = s.fedView := by unfold State.axBridges; simp

@[simp] theorem State.gearStep_fedView (s : State) (a : Nat) : (s.gearStep a).2.fedView = s.fedView := by
  unfold State.gearStep
  dsimp only
  split
  · simp
  · split <;> simp

@[simp] theorem State.stepDev_fedView (s : State) (a : Nat) : (s.stepDev a).2.fedView = s.fedView := by
  unfold State.stepDev
  dsimp only
  split
  · rfl
  · split
    · split <;> simp
    · split <;> simp

@[simp] theorem State.stepRegulate_fedView (s : State) (a : Nat) (k : Rat) : (s.stepRegulate a k).fedView = s.fedView := by
  unfold State.stepRegulate
  simp

@[simp] theorem State.servoStep_fedView (s : State) (a : Nat) : (s.servoStep a).fedView = s.fedView := by unfold State.servoStep; simp
@[simp] theorem State.brakeFollow_fedView (s : State) (a : Nat) : (s.brakeFollow a).fedView = s.fedView := by unfold State.brakeFollow; split <;> simp
@[simp] theorem State.coilStep_fedView (s : State) (a : Nat) : (s.coilStep a).fedView = s.fedView := by unfold State.coilStep; simp

@[simp] theorem State.axTarget_fedView (s : State) (a : Nat) : (s.axTarget a).2.fedView = s.fedView := by
  unfold State.axTarget
  dsimp only
  split
  · rfl
  · split
    · split <;> simp
    · rfl
    · split <;> rfl

@[simp] theorem State.axDuty_fedView (s : State) (a : Nat) : (s.axDuty a).fedView = s.fedView := by unfold State.axDuty; simp

@[simp] theorem State.axEval_fedView (s : State) (a : Nat) : (s.axEval a).fedView = s.fedView := by
  have h : ((if s.n .axisKind a = 3 then s.brakeFollow a else s).axBridges a).fedView = s.fedView := by simp
  unfold State.axEval
  dsimp only
  generalize ((if s.n .axisKind a = 3 then s.brakeFollow a else s).axBridges a) = s1 at h
  split
  · simp [h]
  · simp [h]
  · split <;> simp [h]
  · exact h

@[simp] theorem State.axisUnit_fedView (s : State) : s.axisUnit.fedView = s.fedView := by unfold State.axisUnit; simp

@[simp] theorem State.axisPlan_fedView (s : State) : s.axisPlan.fedView = s.fedView := by
  unfold State.axisPlan
  refine forL_fedView _ _ _ fun a t => ?_
  simp

/-! ## Operations of Image.lean -/

@[simp] theorem State.putPt_fedView (s : State) (p : Pt) (w : Word) : (s.putPt p w).fedView = s.fedView := by unfold State.putPt; simp

@[simp] theorem State.takeImage_fedView (s : State) (pts : List (Pt × Word)) (i : LaneImage) : (s.takeImage pts i).fedView = s.fedView := by
  unfold State.takeImage
  simp

/-! ## Operations of Modes.lean -/

@[simp] theorem State.stopTokens_fedView (s : State) : s.stopTokens.fedView = s.fedView := by unfold State.stopTokens; simp

@[simp] theorem State.softAgain_fedView (s : State) : s.softAgain.fedView = s.fedView := by
  unfold State.softAgain
  refine forL_fedView _ _ _ fun a t => ?_
  split
  · split <;> simp
  · rfl

@[simp] theorem State.safeMark_fedView (s : State) (code : Nat) (on : Bool) : (s.safeMark code on).fedView = s.fedView := by
  unfold State.safeMark
  simp

@[simp] theorem State.irqWakeAll_fedView (s : State) (old : Nat) : (s.irqWakeAll old).fedView = s.fedView :=
  State.fedView_of_quiet (s.irqWakeAll_quiet old)

@[simp] theorem State.setMode_fedView (s : State) (m : Nat) : (s.setMode m).fedView = s.fedView := by unfold State.setMode; simp
@[simp] theorem State.replayLeave_fedView (s : State) : s.replayLeave.fedView = s.fedView := by unfold State.replayLeave; split <;> simp
@[simp] theorem State.pairUnsafe_fedView (s : State) : s.pairUnsafe.fedView = s.fedView := by unfold State.pairUnsafe; simp
@[simp] theorem State.enterSafe_fedView (s : State) (code : Nat) : (s.enterSafe code).fedView = s.fedView := by unfold State.enterSafe; simp
@[simp] theorem State.safeCause_fedView (s : State) (code : Nat) : (s.safeCause code).fedView = s.fedView := by unfold State.safeCause; simp
@[simp] theorem State.haltBegin_fedView (s : State) : s.haltBegin.fedView = s.fedView := by unfold State.haltBegin; simp
@[simp] theorem State.replayBegin_fedView (s : State) : s.replayBegin.fedView = s.fedView := by unfold State.replayBegin; simp
@[simp] theorem State.replayEnd_fedView (s : State) (value : Nat) : (s.replayEnd value).fedView = s.fedView := by unfold State.replayEnd; simp
@[simp] theorem State.clearDiscrepancy_fedView (s : State) : s.clearDiscrepancy.fedView = s.fedView := by unfold State.clearDiscrepancy; simp
@[simp] theorem State.releaseCells_fedView (s : State) : s.releaseCells.fedView = s.fedView := by unfold State.releaseCells; simp

@[simp] theorem State.modeDo_fedView (s : State) (v reason : Nat) : (s.modeDo v reason).fedView = s.fedView := by
  unfold State.modeDo
  split <;> simp

@[simp] theorem State.lossHalt_fedView (s : State) (d : Nat) : (s.lossHalt d).fedView = s.fedView := by unfold State.lossHalt; simp

@[simp] theorem State.lossPolicy_fedView (s : State) (d : Nat) : (s.lossPolicy d).fedView = s.fedView := by
  unfold State.lossPolicy
  (repeat' split) <;> simp

@[simp] theorem State.lossPolicies_fedView (s : State) : s.lossPolicies.fedView = s.fedView := by unfold State.lossPolicies; simp
@[simp] theorem State.agentReturn_fedView (s : State) (logic : Bool) : (s.agentReturn logic).fedView = s.fedView := by unfold State.agentReturn; simp
@[simp] theorem State.reclaim_fedView (s : State) (d : Nat) : (s.reclaim d).fedView = s.fedView := by unfold State.reclaim; simp

/-! ## Operations of Guards.lean -/

@[simp] theorem State.deriveRunOff_fedView (s : State) (d : Nat) : (s.deriveRunOff d).fedView = s.fedView := by
  unfold State.deriveRunOff
  split <;> simp

@[simp] theorem State.deriveHalt_fedView (s : State) : s.deriveHalt.fedView = s.fedView := by unfold State.deriveHalt; simp
@[simp] theorem State.putGuard_fedView (s : State) (k : Nat) (g : Guard) : (s.putGuard k g).fedView = s.fedView := by unfold State.putGuard; simp
@[simp] theorem State.guardTouch_fedView (s : State) (p : Pt) : (s.guardTouch p).fedView = s.fedView := by unfold State.guardTouch; split <;> simp

@[simp] theorem State.guardEvents_fedView (s : State) (g : Nat) (rep : Nat × Nat) (old : Guard) (new : Guard) (own : Bool) :
    (s.guardEvents g rep old new own).fedView = s.fedView := by
  unfold State.guardEvents
  (split <;> try simp) <;> split <;> simp

@[simp] theorem State.guardJudge_fedView (s : State) (g : Nat) (p : Pt) : (s.guardJudge g p).fedView = s.fedView := by unfold State.guardJudge; simp

@[simp] theorem State.cellGuardJudge_fedView (s : State) (g r field p : Nat) : (s.cellGuardJudge g r field p).fedView = s.fedView := by
  unfold State.cellGuardJudge
  simp

@[simp] theorem State.cellGuardsJudge_fedView (s : State) (g : Nat) : (s.cellGuardsJudge g).fedView = s.fedView := by
  unfold State.cellGuardsJudge
  dsimp only
  split <;> simp

@[simp] theorem State.guardsJudge_fedView (s : State) : s.guardsJudge.fedView = s.fedView := by
  unfold State.guardsJudge
  refine forL_fedView _ _ _ fun a t => ?_
  split
  · simp
  · split <;> simp

@[simp] theorem State.putLevel_fedView (s : State) (k v : Nat) : (s.putLevel k v).fedView = s.fedView := by unfold State.putLevel; simp

@[simp] theorem State.sensorJudge_fedView (s : State) (k kind idx c : Nat) (t : Rat) (bad : Bool) :
    (s.sensorJudge k kind idx c t bad).fedView = s.fedView := by
  unfold State.sensorJudge
  simp

@[simp] theorem State.sensorsJudge_fedView (s : State) : s.sensorsJudge.fedView = s.fedView := by unfold State.sensorsJudge; simp

@[simp] theorem State.driveThermal_fedView (s : State) (d : Nat) (dev : Rat) : (s.driveThermal d dev).fedView = s.fedView := by
  unfold State.driveThermal
  simp

@[simp] theorem State.bridgeThermal_fedView (s : State) : s.bridgeThermal.fedView = s.fedView := by unfold State.bridgeThermal; simp

@[simp] theorem State.bridgeOverridden_fedView (s old : State) : (s.bridgeOverridden old).fedView = s.fedView := by
  unfold State.bridgeOverridden
  refine forL_fedView _ _ _ fun a t => ?_
  split <;> simp

@[simp] theorem State.boardThermal_fedView (s : State) : s.boardThermal.fedView = s.fedView := by unfold State.boardThermal; simp
@[simp] theorem State.thermalJudge_fedView (s : State) : s.thermalJudge.fedView = s.fedView := by unfold State.thermalJudge; simp

/-! ## Operations of Can.lean -/

@[simp] theorem State.putCan_fedView (s : State) (c : Nat) (v : Can) : (s.putCan c v).fedView = s.fedView := by unfold State.putCan; simp
@[simp] theorem State.objPending_fedView (s : State) (c o : Nat) : (s.objPending c o).fedView = s.fedView := by unfold State.objPending; simp

@[simp] theorem State.canSetState_fedView (s : State) (c v : Nat) : (s.canSetState c v).fedView = s.fedView := by
  unfold State.canSetState
  simp

@[simp] theorem State.canDiscard_fedView (s : State) (c : Nat) : (s.canDiscard c).fedView = s.fedView := by unfold State.canDiscard; simp
@[simp] theorem State.canModeNow_fedView (s : State) (c v : Nat) : (s.canModeNow c v).fedView = s.fedView := by unfold State.canModeNow; simp

@[simp] theorem State.canIdle_fedView (s : State) (c : Nat) : (s.canIdle c).fedView = s.fedView := by
  unfold State.canIdle
  dsimp only
  (repeat' split) <;> simp

@[simp] theorem State.canAbortObj_fedView (s : State) (c o : Nat) : (s.canAbortObj c o).1.fedView = s.fedView := by
  unfold State.canAbortObj
  dsimp only
  (repeat' split) <;> simp

@[simp] theorem State.canModeWrite_fedView (s : State) (c v : Nat) : (s.canModeWrite c v).fedView = s.fedView := by
  unfold State.canModeWrite
  simp

@[simp] theorem State.canRecoverStart_fedView (s : State) (c : Nat) : (s.canRecoverStart c).1.fedView = s.fedView := by
  unfold State.canRecoverStart
  split <;> simp

@[simp] theorem State.rxPlace_fedView (s : State) (c : Nat) (f : RxFrame) : (s.rxPlace c f).fedView = s.fedView := by unfold State.rxPlace; simp
@[simp] theorem State.mapEnds_fedView (s : State) (x : Nat) : (s.mapEnds x).fedView = s.fedView := by unfold State.mapEnds; simp

end Sys2Proof.Machine
end

section
/-!
SUPPORT. Proofs/FedLanes.lean: what the lanes compute leaves alone what `State.fedView` lists (section 14.4).
-/
namespace Sys2Proof.Machine

/-! ## Operations of Arms.lean -/

@[simp] theorem State.putArm_fedView (s : State) (ix : Nat) (v : ArmSt) : (s.putArm ix v).fedView = s.fedView := by unfold State.putArm; simp
@[simp] theorem State.putSet_fedView (s : State) (ix : Nat) (v : SetSt) : (s.putSet ix v).fedView = s.fedView := by unfold State.putSet; simp
@[simp] theorem State.rejoin_fedView (s : State) (a : ArmDesc) : (s.rejoin a).fedView = s.fedView := by unfold State.rejoin; simp
@[simp] theorem State.leaveService_fedView (s : State) (a : ArmDesc) : (s.leaveService a).fedView = s.fedView := by unfold State.leaveService; simp
@[simp] theorem State.keepService_fedView (s : State) (a : ArmDesc) : (s.keepService a).fedView = s.fedView := by unfold State.keepService; simp

theorem State.judgeCause_fedView (s : State) (d c : Nat) (now : Bool) (ev : State → State) (h : (ev s).fedView = s.fedView) :
    (s.judgeCause d c now ev).fedView = s.fedView := by
  unfold State.judgeCause
  simp only
  split
  · simp [h]
  · split <;> simp

@[simp] theorem State.redundancy_fedView (s : State) (d : Nat) : (s.redundancy d).fedView = s.fedView := by unfold State.redundancy; simp

@[simp] theorem State.armFaults_fedView (s : State) (d : Nat) : (s.armFaults d).fedView = s.fedView := by
  unfold State.armFaults
  simp only
  rw [State.judgeCause_fedView _ _ _ _ _ rfl, State.judgeCause_fedView _ _ _ _ _ rfl, State.judgeCause_fedView]
  simp

@[simp] theorem State.bypassBlocked_fedView (s : State) (a : ArmDesc) : (s.bypassBlocked a).fedView = s.fedView := by unfold State.bypassBlocked; simp
@[simp] theorem State.bypassSeen_fedView (s : State) (a : ArmDesc) : (s.bypassSeen a).fedView = s.fedView := by unfold State.bypassSeen; simp
@[simp] theorem State.bypassCause_fedView (s : State) (d : Nat) : (s.bypassCause d).fedView = s.fedView := by unfold State.bypassCause; simp

@[simp] theorem State.consensus_fedView (s : State) (a : ArmDesc) (valid : List (Nat × Nat)) (med : Rat) :
    (s.consensus a valid med).fedView = s.fedView := by
  unfold State.consensus
  simp

@[simp] theorem State.measureArm_fedView (s : State) (a : ArmDesc) : (s.measureArm a).fedView = s.fedView := by unfold State.measureArm; simp
@[simp] theorem State.vcapRef_fedView (s : State) (d : Nat) : (s.vcapRef d).fedView = s.fedView := by unfold State.vcapRef; simp
@[simp] theorem State.armFigures_fedView (s : State) (a : ArmDesc) : (s.armFigures a).fedView = s.fedView := by unfold State.armFigures; simp

@[simp] theorem State.armsInput_fedView (s : State) (d : Nat) : (s.armsInput d).fedView = s.fedView := by
  unfold State.armsInput
  dsimp only
  refine (forN_fedView _ _ _ fun a t => by simp).trans ?_
  refine (State.judgeCause_fedView _ _ _ _ _ (by simp)).trans ?_
  refine (forL_fedView _ _ _ fun a t => by simp).trans ?_
  refine (State.vcapRef_fedView _ _).trans ?_
  refine (State.judgeCause_fedView _ _ _ _ _ (congrArg State.fedView (id_eq _))).trans ?_
  refine (State.armFaults_fedView _ _).trans ?_
  refine (State.redundancy_fedView _ _).trans ?_
  refine (forL_fedView _ _ _ fun a t => by simp).trans ?_
  refine (State.bypassCause_fedView _ _).trans ?_
  refine (forL_fedView _ _ _ fun a t => by simp).trans ?_
  exact State.drvFlag_fedView _ _ _ _

/-! ## Operations of Demand.lean -/

@[simp] theorem State.runObserver_fedView (s : State) (d gap : Nat) : (s.runObserver d gap).fedView = s.fedView := by
  unfold State.runObserver
  simp

@[simp] theorem State.toSensorless_fedView (s : State) (d n : Nat) : (s.toSensorless d n).fedView = s.fedView := by
  unfold State.toSensorless
  simp

@[simp] theorem State.plausible_fedView (s : State) (d n : Nat) : (s.plausible d n).fedView = s.fedView := by unfold State.plausible; simp
@[simp] theorem State.chooseFb_fedView (s : State) (d n : Nat) : (s.chooseFb d n).fedView = s.fedView := by unfold State.chooseFb; simp
@[simp] theorem State.selectFb_fedView (s : State) (d : Nat) : (s.selectFb d).fedView = s.fedView := by unfold State.selectFb; split <;> simp
@[simp] theorem State.slLow_fedView (s : State) (d : Nat) : (s.slLow d).fedView = s.fedView := by unfold State.slLow; simp
@[simp] theorem State.takeSpeed_fedView (s : State) (d gap : Nat) : (s.takeSpeed d gap).fedView = s.fedView := by unfold State.takeSpeed; simp
@[simp] theorem State.takePhases_fedView (s : State) (d : Nat) : (s.takePhases d).fedView = s.fedView := by unfold State.takePhases; simp
@[simp] theorem State.takeCurrents_fedView (s : State) (d : Nat) : (s.takeCurrents d).fedView = s.fedView := by unfold State.takeCurrents; simp
@[simp] theorem State.takeTorque_fedView (s : State) (d : Nat) : (s.takeTorque d).fedView = s.fedView := by unfold State.takeTorque; simp
@[simp] theorem State.i2t_fedView (s : State) (d : Nat) : (s.i2t d).fedView = s.fedView := by unfold State.i2t; simp
@[simp] theorem State.capability_fedView (s : State) (d : Nat) : (s.capability d).fedView = s.fedView := by unfold State.capability; simp

@[simp] theorem State.softTrips_fedView (s : State) (d : Nat) : (s.softTrips d).fedView = s.fedView := by
  unfold State.softTrips
  simp only
  rw [State.judgeCause_fedView _ _ _ _ _ (by simp), State.judgeCause_fedView _ _ _ _ _ (by simp)]
  simp

@[simp] theorem State.refStep_fedView (s : State) (d gap : Nat) : (s.refStep d gap).fedView = s.fedView := by unfold State.refStep; simp
@[simp] theorem State.speedLoop_fedView (s : State) (d : Nat) : (s.speedLoop d).fedView = s.fedView := by unfold State.speedLoop; simp
@[simp] theorem State.trackLoop_fedView (s : State) (d : Nat) : (s.trackLoop d).fedView = s.fedView := by unfold State.trackLoop; simp
@[simp] theorem State.inertia_fedView (s : State) (d : Nat) : (s.inertia d).fedView = s.fedView := by unfold State.inertia; simp

@[simp] theorem State.loadObserver_fedView (s : State) (d gap : Nat) : (s.loadObserver d gap).fedView = s.fedView := by
  unfold State.loadObserver
  simp

@[simp] theorem State.shockSeen_fedView (s : State) (d hit : Nat) : (s.shockSeen d hit).fedView = s.fedView := by unfold State.shockSeen; simp
@[simp] theorem State.shockBegin_fedView (s : State) (d : Nat) : (s.shockBegin d).fedView = s.fedView := by unfold State.shockBegin; split <;> simp

@[simp] theorem State.govFlags_fedView (s : State) (d : Nat) (sl lv : Bool) : (s.govFlags d sl lv).fedView = s.fedView := by
  unfold State.govFlags
  simp

@[simp] theorem State.governor_fedView (s : State) (d : Nat) (tl slope : Rat) : (s.governor d tl slope).fedView = s.fedView := by
  unfold State.governor
  simp

@[simp] theorem State.governOwn_fedView (s : State) (d : Nat) : (s.governOwn d).fedView = s.fedView := by unfold State.governOwn; simp

@[simp] theorem State.demand_fedView (s : State) (d : Nat) : (s.demand d).fedView = s.fedView := by
  unfold State.demand
  (repeat' split) <;> simp

@[simp] theorem State.payWatch_fedView (s : State) (d : Nat) : (s.payWatch d).fedView = s.fedView := by unfold State.payWatch; simp

@[simp] theorem State.crashPhases_fedView (s : State) (d : Nat) : (s.crashPhases d).fedView = s.fedView := by
  unfold State.crashPhases
  (repeat' split) <;> simp

@[simp] theorem State.stopWatch_fedView (s : State) (d : Nat) : (s.stopWatch d).fedView = s.fedView := by unfold State.stopWatch; simp
@[simp] theorem State.demandEnd_fedView (s : State) (d : Nat) : (s.demandEnd d).fedView = s.fedView := by unfold State.demandEnd; simp
@[simp] theorem State.demandMotor_fedView (s : State) (d : Nat) : (s.demandMotor d).fedView = s.fedView := by unfold State.demandMotor; simp

/-! ## Operations of GroupLane.lean -/

@[simp] theorem State.putShaft_fedView (s : State) (g : Nat) (v : ShaftSt) : (s.putShaft g v).fedView = s.fedView := by unfold State.putShaft; simp
@[simp] theorem State.putPower_fedView (s : State) (g : Nat) (v : PowerSt) : (s.putPower g v).fedView = s.fedView := by unfold State.putPower; simp
@[simp] theorem State.putRun_fedView (s : State) (d : Nat) (v : Drv) : (s.putRun d v).fedView = s.fedView := by unfold State.putRun; simp

@[simp] theorem State.putRunR_fedView (s : State) (f : Field) (d : Nat) (x : Rat) : (s.putRunR f d x).fedView = s.fedView := by
  unfold State.putRunR
  simp

@[simp] theorem State.runFlag_fedView (s : State) (d bit : Nat) (on : Bool) : (s.runFlag d bit on).fedView = s.fedView := by
  unfold State.runFlag
  simp

@[simp] theorem State.slackWatch_fedView (s : State) (g : Nat) : (s.slackWatch g).fedView = s.fedView := by unfold State.slackWatch; simp
@[simp] theorem State.apartWatch_fedView (s : State) (g : Nat) : (s.apartWatch g).fedView = s.fedView := by unfold State.apartWatch; simp

@[simp] theorem State.shaftWatch_fedView (s : State) (g : Nat) : (s.shaftWatch g).fedView = s.fedView := by
  unfold State.shaftWatch
  dsimp only
  refine (forL_fedView _ _ _ fun a t => State.demandEnd_fedView _ _).trans ?_
  rw [State.putR_fedView, State.apartWatch_fedView, State.slackWatch_fedView, State.governor_fedView]

@[simp] theorem State.shaftLead_fedView (s : State) (g : Nat) : (s.shaftLead g).fedView = s.fedView := by unfold State.shaftLead; simp

@[simp] theorem State.shaftShare_fedView (s : State) (g : Nat) (ask tg : Rat) : (s.shaftShare g ask tg).fedView = s.fedView := by
  unfold State.shaftShare
  simp

@[simp] theorem State.shaftStep_fedView (s : State) (g : Nat) : (s.shaftStep g).fedView = s.fedView := by unfold State.shaftStep; simp
@[simp] theorem State.blackout_fedView (s : State) (g : Nat) : (s.blackout g).fedView = s.fedView := by unfold State.blackout; simp

@[simp] theorem State.shed_fedView (s : State) (g : Nat) : (s.shed g).fedView = s.fedView := by
  unfold State.shed
  dsimp only
  split <;> simp

@[simp] theorem State.routePool_fedView (s : State) (g : Nat) (q : List Nat × Option Nat) (r : Rest) : (s.routePool g q r).1.fedView = s.fedView := by
  unfold State.routePool
  split <;> simp

@[simp] theorem State.routePools_fedView (x0 : Nat) (x1 : List (List Nat × Option Nat)) (x2 : State) (x3 : Rest) :
    (State.routePools x0 x1 x2 x3).1.fedView = x2.fedView := by
  induction x1 generalizing x2 x3 with
  | nil => rfl
  | cons q qs ih =>
    unfold State.routePools
    simp only [ih]
    simp

@[simp] theorem State.route_fedView (s : State) (g : Nat) : (s.route g).fedView = s.fedView := by unfold State.route; simp
@[simp] theorem State.shareFinal_fedView (s : State) (g : Nat) : (s.shareFinal g).fedView = s.fedView := by unfold State.shareFinal; simp
@[simp] theorem State.effective_fedView (s : State) (d : Nat) : (s.effective d).fedView = s.fedView := by unfold State.effective; simp
@[simp] theorem State.groupLane_fedView (s : State) : s.groupLane.fedView = s.fedView := by unfold State.groupLane; simp

/-! ## Operations of Control.lean -/

@[simp] theorem State.fluxStep_fedView (s : State) (d gap : Nat) : (s.fluxStep d gap).fedView = s.fedView := by unfold State.fluxStep; simp
@[simp] theorem State.weaken_fedView (s : State) (d : Nat) : (s.weaken d).fedView = s.fedView := by unfold State.weaken; simp

@[simp] theorem State.lineWatch_fedView (s : State) (d : Nat) : (s.lineWatch d).fedView = s.fedView := by
  unfold State.lineWatch
  dsimp only
  split <;> simp

@[simp] theorem State.demandLine_fedView (s : State) (d : Nat) : (s.demandLine d).fedView = s.fedView := by unfold State.demandLine; simp
@[simp] theorem State.fluxControl_fedView (s : State) (d : Nat) : (s.fluxControl d).fedView = s.fedView := by unfold State.fluxControl; simp

@[simp] theorem State.refsOf_fedView (s : State) (d k : Nat) : (s.refsOf d k).2.2.2.fedView = s.fedView := by
  unfold State.refsOf
  split
  · simp [State.lineRefs]
  · rfl

@[simp] theorem State.setControl_fedView (s : State) (d k gap : Nat) : (s.setControl d k gap).fedView = s.fedView := by
  unfold State.setControl
  dsimp only
  simp only [ite_fedView, State.putDrv_fedView, State.drvFlag_fedView, State.raiseLane_fedView, State.putR_fedView, State.putSet_fedView,
    State.refsOf_fedView, ite_self]

@[simp] theorem State.circPublish_fedView (s : State) (d k l : Nat) (ref i : Rat) : (s.circPublish d k l ref i).fedView = s.fedView := by
  unfold State.circPublish
  split <;> simp

@[simp] theorem State.legs_fedView (s : State) (d k : Nat) (va vb vc amp : Rat) : (s.legs d k va vb vc amp).1.fedView = s.fedView := by
  unfold State.legs
  refine (forL_fedView _ _ _ fun a t => ?_).trans (State.putSet_fedView _ _ _)
  simp

@[simp] theorem State.countSwitching_fedView (s : State) (ix : Nat) (per : Rat) : (s.countSwitching ix per).fedView = s.fedView := by
  unfold State.countSwitching
  simp

@[simp] theorem State.sendCarrierRef_fedView (s : State) (a : ArmDesc) (m : Rat) : (s.sendCarrierRef a m).fedView = s.fedView := by
  unfold State.sendCarrierRef
  simp

@[simp] theorem State.sendMask_fedView (s : State) (a : ArmDesc) (v ip : Rat) : (s.sendMask a v ip).1.fedView = s.fedView := by
  unfold State.sendMask
  simp

@[simp] theorem State.sendBlocked_fedView (s : State) (a : ArmDesc) : (s.sendBlocked a).fedView = s.fedView := by unfold State.sendBlocked; simp

@[simp] theorem State.sendSeries_fedView (s : State) (a : ArmDesc) (v ip : Rat) : (s.sendSeries a v ip).1.fedView = s.fedView := by
  unfold State.sendSeries
  split <;> simp

@[simp] theorem State.sendRoles_fedView (x0 x1 : Nat) (x2 : Nat → Rat) (x3 : List (Nat × Rat)) (x4 : State) :
    (State.sendRoles x0 x1 x2 x3 x4).1.fedView = x4.fedView := by
  induction x3 generalizing x4 with
  | nil => rfl
  | cons e l ih =>
    unfold State.sendRoles
    split
    · simp only [ih]; simp
    · exact ih _

@[simp] theorem State.realised_fedView (s : State) (d k : Nat) (a b : Rat) (c : Rat) : (s.realised d k a b c).fedView = s.fedView := by
  unfold State.realised
  simp

@[simp] theorem State.modulateSet_fedView (s : State) (d k : Nat) : (s.modulateSet d k).fedView = s.fedView := by
  unfold State.modulateSet
  dsimp only
  split
  · simp
  · split
    · rw [State.realised_fedView]
      refine forL_fedView _ _ _ fun a t => ?_
      split <;> simp
    · simp
    · simp

@[simp] theorem State.chopArms_fedView (s : State) (d : Nat) : (s.chopArms d).fedView = s.fedView := by unfold State.chopArms; simp
@[simp] theorem State.rephase_fedView (s : State) (a : ArmDesc) : (s.rephase a).fedView = s.fedView := by unfold State.rephase; simp
@[simp] theorem State.delayComp_fedView (s : State) (d : Nat) : (s.delayComp d).fedView = s.fedView := by unfold State.delayComp; simp
@[simp] theorem State.hfiStep_fedView (s : State) (d : Nat) : (s.hfiStep d).fedView = s.fedView := by unfold State.hfiStep; simp
@[simp] theorem State.controlPath_fedView (s : State) (d : Nat) : (s.controlPath d).fedView = s.fedView := by unfold State.controlPath; simp

@[simp] theorem State.tailPath_fedView (s : State) (d : Nat) : (s.tailPath d).fedView = s.fedView := by
  unfold State.tailPath
  dsimp only
  refine (forL_fedView _ _ _ fun a t => by simp).trans ?_
  rw [State.hfiStep_fedView, State.chopArms_fedView]
  refine (forN_fedView _ _ _ fun a t => by simp).trans ?_
  refine (forN_fedView _ _ _ fun a t => by simp).trans ?_
  rw [State.fluxControl_fedView, State.vcapRef_fedView]
  split <;> simp

@[simp] theorem State.setCtrlMode_fedView (s : State) (d v : Nat) : (s.setCtrlMode d v).fedView = s.fedView := by
  unfold State.setCtrlMode
  simp

@[simp] theorem State.setFbUse_fedView (s : State) (d v : Nat) : (s.setFbUse d v).fedView = s.fedView := by unfold State.setFbUse; simp
@[simp] theorem State.idBegin_fedView (s : State) (d step : Nat) : (s.idBegin d step).fedView = s.fedView := by unfold State.idBegin; simp
@[simp] theorem State.identDo_fedView (s : State) (d : Nat) : (s.identDo d).fedView = s.fedView := by unfold State.identDo; simp
@[simp] theorem State.identFail_fedView (s : State) (d : Nat) : (s.identFail d).fedView = s.fedView := by unfold State.identFail; simp
@[simp] theorem State.identAbortDo_fedView (s : State) (d : Nat) : (s.identAbortDo d).fedView = s.fedView := by unfold State.identAbortDo; simp
@[simp] theorem State.identWatch_fedView (s : State) (d : Nat) : (s.identWatch d).fedView = s.fedView := by unfold State.identWatch; simp

/-! ## Operations of Lanes.lean -/

@[simp] theorem State.skipDrive_fedView (s : State) (d : Nat) : (s.skipDrive d).fedView = s.fedView := by unfold State.skipDrive; simp
@[simp] theorem State.laneSkips_fedView (s : State) (n : Nat) : (s.laneSkips n).fedView = s.fedView := by unfold State.laneSkips; simp
@[simp] theorem State.demandPath_fedView (s : State) (d : Nat) : (s.demandPath d).fedView = s.fedView := by unfold State.demandPath; simp
@[simp] theorem State.endDrive_fedView (s : State) (d : Nat) : (s.endDrive d).fedView = s.fedView := by unfold State.endDrive; simp
@[simp] theorem State.judgeInputs_fedView (s : State) : s.judgeInputs.fedView = s.fedView := by unfold State.judgeInputs; simp
@[simp] theorem State.lanesCompute_fedView (s : State) : s.lanesCompute.fedView = s.fedView := by unfold State.lanesCompute; simp
@[simp] theorem State.hashLanes_fedView (s : State) : s.hashLanes.fedView = s.fedView := by unfold State.hashLanes; simp
@[simp] theorem State.lanesRun_fedView (s : State) : s.lanesRun.fedView = s.fedView := by unfold State.lanesRun; simp

end Sys2Proof.Machine
end

section
/-!
SUPPORT. Proofs/FedEpoch.lean: commands and recorded inputs of an epoch leave alone what `State.fedView` lists (section 14.4).
-/
namespace Sys2Proof.Machine

/-! ## Operations of Apply.lean -/

@[simp] theorem State.regimeDo_fedView (s : State) (f : Field) (d v : Nat) : (s.regimeDo f d v).fedView = s.fedView := by
  unfold State.regimeDo
  split <;> simp

@[simp] theorem State.setShaftMode_fedView (s : State) (g v : Nat) : (s.setShaftMode g v).fedView = s.fedView := by
  unfold State.setShaftMode
  simp

@[simp] theorem State.canSendDue_fedView (s : State) (i : Nat) : (s.canSendDue i).fedView = s.fedView := by unfold State.canSendDue; simp

@[simp] theorem State.writeEffect_fedView (s : State) (p : Pt) (w : Word) : (s.writeEffect p w).fedView = s.fedView := by
  unfold State.writeEffect
  dsimp only
  (repeat' split) <;> simp

@[simp] theorem State.applyItem_fedView (s : State) (agent x : Nat) (w : Word) (cmd : Option Nat) (item : Nat) :
    (s.applyItem agent x w cmd item).fedView = s.fedView := by
  unfold State.applyItem
  split <;> simp

@[simp] theorem State.newLimits_fedView (s : State) : s.newLimits.fedView = s.fedView := by unfold State.newLimits; simp
@[simp] theorem State.afterWrites_fedView (s : State) : s.afterWrites.fedView = s.fedView := by unfold State.afterWrites; simp
@[simp] theorem State.mapsWrite_fedView (s : State) : s.mapsWrite.fedView = s.fedView := by unfold State.mapsWrite; simp

theorem State.applyItems_fedView (a : Nat) (cmd : Option Nat) (l : List (Nat × Word × Word)) (k : Nat) (done : List (Nat × Nat))
    (s : State) (r : State × List (Nat × Nat)) (h : State.applyItems a cmd l k done s = .ok r) : r.1.fedView = s.fedView := by
  induction l generalizing k done s with
  | nil => cases h; rfl
  | cons e l ih =>
    unfold State.applyItems at h
    dsimp only at h
    split at h
    · rw [ih _ _ _ h]; simp
    · cases h

/-! ## Operations of Ledger.lean -/

@[simp] theorem State.putTier_fedView (s : State) (k : Nat) (v : Tier) : (s.putTier k v).fedView = s.fedView := by unfold State.putTier; simp

@[simp] theorem State.envPublish_fedView (s : State) (agent tier : Nat) : (s.envPublish agent tier).fedView = s.fedView := by
  unfold State.envPublish
  simp

@[simp] theorem State.setDo_fedView (s : State) (agent : Nat) (op : Op) : (s.setDo agent op).fedView = s.fedView := by
  unfold State.setDo
  split <;> simp

/-! ## Operations of PairLink.lean -/

@[simp] theorem State.handoverBegin_fedView (s : State) : s.handoverBegin.fedView = s.fedView := by unfold State.handoverBegin; simp
@[simp] theorem State.resyncBegin_fedView (s : State) : s.resyncBegin.fedView = s.fedView := by unfold State.resyncBegin; simp

/-! ## Operations of Host.lean -/

@[simp] theorem State.finish_fedView (s : State) (c : Cmd) (w : Await) (st item v : Nat) : (s.finish c w st item v).fedView = s.fedView := by
  unfold State.finish
  split <;> rfl

@[simp] theorem State.failed_fedView (s : State) (c : Cmd) (st item v : Nat) : (s.failed c st item v).fedView = s.fedView := by
  unfold State.failed
  simp

@[simp] theorem State.recorded_fedView (s : State) (c : Cmd) (items : List (Nat × Nat)) : (s.recorded c items).fedView = s.fedView := by
  unfold State.recorded
  simp

@[simp] theorem State.writeDo_fedView (s : State) (c : Cmd) (items : List (Nat × Word × Word)) : (s.writeDo c items).fedView = s.fedView := by
  unfold State.writeDo
  split
  · next s1 done h => simp [applyItems_fedView _ _ _ _ _ _ _ h]
  · simp

@[simp] theorem State.slowReadDo_fedView (s : State) (c : Cmd) (a off n : Nat) : (s.slowReadDo c a off n).fedView = s.fedView := by
  unfold State.slowReadDo
  simp

@[simp] theorem State.itinDo_fedView (s : State) (e : Nat) (pts : List (Nat × Int × Int)) : (s.itinDo e pts).fedView = s.fedView := by
  unfold State.itinDo
  simp

@[simp] theorem State.effect_fedView (s : State) (c : Cmd) : (s.effect c).fedView = s.fedView := by
  unfold State.effect
  dsimp only
  split
  case h_14 pre post _ =>
    have h := State.captureTrigger_fedView s s.epoch pre post
    split
    · next h1 => rw [h1] at h; simp [h]
    · next h1 => rw [h1] at h; simp [h]
  all_goals (repeat' split) <;> simp

/-! ## Operations of Replay.lean -/

@[simp] theorem State.replaySlot_fedView (s : State) (r p : Nat) (bs : List Byte) : (s.replaySlot r p bs).fedView = s.fedView := by
  unfold State.replaySlot
  simp

@[simp] theorem State.replaySlots_fedView (x0 : Nat) (x1 : List Nat) (x2 : List Byte) (x3 : State) :
    (State.replaySlots x0 x1 x2 x3).fedView = x3.fedView := by
  induction x1 generalizing x2 x3 with
  | nil => rfl
  | cons p ps ih => unfold State.replaySlots; rw [ih]; simp

@[simp] theorem State.replayRound_fedView (s : State) (r : Nat) (bs : List Byte) : (s.replayRound r bs).fedView = s.fedView := by
  unfold State.replayRound
  simp

@[simp] theorem State.replayFb_fedView (s : State) (ws : List Nat) : (s.replayFb ws).fedView = s.fedView := by unfold State.replayFb; simp

@[simp] theorem State.replayFrame_fedView (s : State) (c : Nat) (f : RxFrame) : (s.replayFrame c f).fedView = s.fedView := by
  unfold State.replayFrame
  simp

@[simp] theorem State.replayDevice_fedView (s : State) (ws : List Nat) : (s.replayDevice ws).fedView = s.fedView := by
  unfold State.replayDevice
  dsimp only
  split
  · simp
  · simp

@[simp] theorem State.replaySection_fedView (s : State) (x : InSec) : (s.replaySection x).fedView = s.fedView := by
  unfold State.replaySection
  split <;> simp

@[simp] theorem State.computeEpoch_fedView (s : State) : s.computeEpoch.fedView = s.fedView := by unfold State.computeEpoch; simp
@[simp] theorem State.clearInputs_fedView (s : State) : s.clearInputs.fedView = s.fedView := rfl

/-! ## Operations of Pair.lean -/

@[simp] theorem State.applyFwd_fedView (s : State) (c : Cmd) : (s.applyFwd c).fedView = s.fedView := by unfold State.applyFwd; simp

@[simp] theorem State.pairOffsets_fedView (x0 x1 : State) : (State.pairOffsets x0 x1).fedView = x0.fedView := by
  unfold State.pairOffsets
  refine forL_fedView _ _ _ fun a t => ?_
  dsimp only
  split <;> simp

@[simp] theorem State.verdicts_fedView (s : State) (vs : List (Nat × Bool × Bool)) : (s.verdicts vs).fedView = s.fedView := by
  unfold State.verdicts
  simp

@[simp] theorem State.feedInputs_fedView (s : State) (m : PairInput) : (s.feedInputs m).fedView = s.fedView := by
  unfold State.feedInputs
  extract_lets s1 s2 lost a s3
  have h2 : s2.fedView = s.fedView := by simp only [s2, s1]; simp
  have h3 : s3.fedView = s.fedView := h2
  clear_value s3
  split <;> simp [h3]

end Sys2Proof.Machine
end

section
/-!
SUPPORT. Proofs/PairInputs.lean: what input and time messages of a pair bring (sections 14.2, 14.4 and 2.7).
-/
namespace Sys2Proof.Machine

/-! ## Input messages (R414, R417) -/

theorem State.applyForwarded_fedView (s : State) (p : Cmd → Bool) :
    (s.applyForwarded p).fedView = (s.pair.fed, s.pair.fwd.filter (fun c => !p c)) := by
  have h : (forL (s.pair.fwd.filter p) (fun c t => t.applyFwd c) (s.withPair { s.pair with fwd := s.pair.fwd.filter (fun c => !p c) })).fedView =
      (s.pair.fed, s.pair.fwd.filter (fun c => !p c)) := forL_fedView _ _ _ fun c t => t.applyFwd_fedView c
  unfold State.applyForwarded
  extract_lets due src s1
  exact (show (s1.withHost _).fedView = s1.fedView from rfl).trans h

/-- The commands that an input message names. -/
def PairInput.names (m : PairInput) (c : Cmd) : Bool := m.nos.any (fun n => c.id == 2 ^ 64 + n)

theorem State.computeFed_eq (s : State) (m : PairInput) : ∃ u : State,
    u.fedView = ((s.feedInputs m).applyForwarded m.names).fedView ∧ s.computeFed m = u.withDev { u.dev with hostLost := s.dev.hostLost } := by
  unfold State.computeFed
  extract_lets s1 src s2 s3
  refine ⟨s3, ?_, rfl⟩
  have h2 : s2.fedView = s1.fedView := rfl
  have hc : s3.fedView = s2.fedView :=
    (State.computeEpoch_fedView _).trans ((State.mapsWrite_fedView _).trans (State.afterWrites_fedView s2))
  exact hc.trans h2

/-- R414: the commands that the message names leave those that wait, and the module's own host stays. -/
theorem State.computeFed_fed (s : State) (m : PairInput) : let t := s.computeFed m
    t.pair.fed = s.pair.fed ∧ t.pair.fwd = s.pair.fwd.filter (fun c => !m.names c) ∧ t.dev.hostLost = s.dev.hostLost := by
  obtain ⟨u, hu, ht⟩ := s.computeFed_eq m
  have hf := s.feedInputs_fedView m
  have ha := (s.feedInputs m).applyForwarded_fedView m.names
  simp only [State.fedView, Prod.mk.injEq] at hu hf ha
  intro t
  have hpair : t.pair = u.pair := (congrArg State.pair ht).trans rfl
  rw [hpair, hu.1, hu.2, ha.1, ha.2, hf.1, hf.2]
  exact ⟨rfl, rfl, (congrArg (fun x : State => x.dev.hostLost) ht).trans rfl⟩

theorem State.catchOne_fed (s : State) : s.catchOne.pair.fed = s.pair.fed := by
  unfold State.catchOne
  split
  · rfl
  · next m ms _ =>
    extract_lets src s0 t0 c s1
    have h1 : s1.pair.fed = s.pair.fed := (State.computeFed_fed _ m).1
    clear_value s1
    split <;> exact h1

/-- The input message is noted. -/
def State.fedNoted (s : State) : State := s.withPair { s.pair with fed := true }

theorem State.inputMessage_eq (s : State) (m : PairInput) : s.inputMessage m =
    if s.n .pairProtection = 0 then s.fedNoted.computeFed m
    else if s.n .pairProtection = 1 then s.fedNoted
    else if (s.fedNoted.keepInput m).pair.resync = 2 then (s.fedNoted.keepInput m).catchOne.catchOne else s.fedNoted.keepInput m := rfl

theorem State.inputMessage_fed (s : State) (m : PairInput) : (s.inputMessage m).pair.fed = true := by
  rw [State.inputMessage_eq]
  split
  · exact (s.fedNoted.computeFed_fed m).1
  · split
    · rfl
    · split
      · exact (State.catchOne_fed _).trans (State.catchOne_fed _)
      · rfl

theorem drop_getLast? {α : Type} (l : List α) (a : α) {k : Nat} (h : k ≤ l.length) : ((l ++ [a]).drop k).getLast? = some a := by
  rw [List.drop_append_of_le_length h, List.getLast?_append]
  rfl

/-- Messages wait for the catch-up. -/
def State.storing (s : State) (l : List PairInput) : State := s.withPair { s.pair with stored := l }

theorem State.storing_stored (s : State) (l : List PairInput) : (s.storing l).pair.stored = l := rfl

theorem State.keepInput_storing (s : State) (m : PairInput) : ∃ k : PairInput, k.epoch = m.epoch ∧ k.nos = m.nos ∧
    s.keepInput m = s.storing ((s.pair.stored ++ [k]).drop ((s.pair.stored ++ [k]).length - 2400)) := by
  unfold State.keepInput
  extract_lets slots all
  exact ⟨{ m with secs := m.secs ++ slots }, rfl, rfl, rfl⟩

/-- R417: a message is kept, with the slots of its epoch. -/
theorem State.keepInput_keeps (s : State) (m : PairInput) : let t := s.keepInput m
    t.pair.stored.length = min 2400 (s.pair.stored.length + 1) ∧ (∃ k, t.pair.stored.getLast? = some k ∧ k.epoch = m.epoch ∧ k.nos = m.nos) ∧
    t = s.storing t.pair.stored := by
  obtain ⟨k, he, hn, hk⟩ := s.keepInput_storing m
  have hlen : (s.pair.stored ++ [k]).length = s.pair.stored.length + 1 := List.length_append
  have hcut : (s.pair.stored ++ [k]).length - 2400 ≤ s.pair.stored.length := by omega
  intro t
  rw [show t = _ from hk, State.storing_stored]
  exact ⟨by rw [List.length_drop]; omega, ⟨k, drop_getLast? s.pair.stored k hcut, he, hn⟩, rfl⟩

/-! ## Time messages (R54) -/

/-- The latency of the link and the offset, as a time message gives them. -/
def State.timeNoted (s : State) (lp : Nat) (offset : Int) : State :=
  (((s.hear true).putN .pairLinkNs 0 lp).putZ .pairTimeOffsetNs 0 offset)

theorem State.timeNoted_leaves (s : State) (lp : Nat) (offset : Int) : let t := s.timeNoted lp offset
    t.rest = (s.withPair { s.pair with heard := true, heardAt := s.epoch }).rest ∧ t.w .pairLinkNs 0 0 = Word.ofNat lp ∧
    t.w .pairTimeOffsetNs 0 0 = Word.ofInt offset ∧ SamePoints s t [⟨.pairLinkNs, 0, 0⟩, ⟨.pairTimeOffsetNs, 0, 0⟩] := by
  have hr := s.hear_rest true
  have hp : SamePoints s (s.hear true) [] := SamePoints.of_pts [] (s.hear_pts true)
  unfold State.timeNoted State.putZ State.putN
  generalize s.hear true = u at hr hp
  generalize Word.ofNat lp = v
  generalize Word.ofInt offset = w
  refine ⟨hr, ?_, ?_, (hp.trans (SamePoints.put u .pairLinkNs 0 v 0)).trans (SamePoints.put _ .pairTimeOffsetNs 0 w 0)⟩
  · rw [State.w_put_field _ _ (by decide), State.w_put_same]
  · rw [State.w_put_same]

end Sys2Proof.Machine
end

section
/-!
SUPPORT. Proofs/PairMessages.lean: settles O54 (sections 14.1, 14.2, 14.4 and 2.7).
-/
namespace Sys2Proof.Machine

/-! ## Commands under their guards -/

section
variable {s : State} (hup : s.up = true)
include hup

theorem State.exec_endBStream (frames : List (RoundNo × Frame)) (hr : s.n .pairRole = 2) (hj : s.pair.joined = true)
    (hi : s.n .hwHwInsert = 1) : exec (.endBStream frames) s = .next (s.stream frames) :=
  congrArg Host.Outcome.next (if_pos (by simp [hup, State.isCounterfoil, hr, hj, hi]))

theorem State.exec_streamAbsent (hr : s.n .pairRole = 2) (hs : s.pair.streamed = false) :
    exec .endBStreamAbsent s = .next s.idleEnds :=
  congrArg Host.Outcome.next (if_pos (by simp [hup, State.isCounterfoil, hr, hs]))

theorem State.exec_slotRelay (r : RoundNo) (e : End) (rel : Relay) (time : Nat) (hr : s.n .pairRole ≠ 0) (hh : s.pair.heard = true) :
    exec (.slotRelay r e rel time) s = .next (s.relayed r e rel time) :=
  congrArg Host.Outcome.next (if_pos (by simp [hup, hr, hh]))

theorem State.exec_inputMessage (secs : List InSec) (verdicts : List (RoundNo × Bool × Bool)) (nos : List Nat) (hr : s.n .pairRole = 2)
    (hj : s.pair.joined = true) (hf : s.pair.fed = false) (hu : s.pair.unfed = false) :
    exec (.inputMessage s.epoch secs verdicts nos) s =
      .next (s.inputMessage { epoch := s.epoch, secs := secs, verdicts := verdicts.map (fun v => (v.1.val, v.2)), nos := nos }) :=
  congrArg Host.Outcome.next (if_pos (by simp [hup, State.isCounterfoil, hr, hj, hf, hu]))

theorem State.exec_hashMessage (epoch : Nat) (hash : BitVec 64) (mode : Fin 8) (gen : BitVec 16) (prot : Fin 4) (hr : s.n .pairRole ≠ 0) :
    exec (.hashMessage epoch hash mode gen prot) s = .next (s.hashMessage epoch hash.toNat mode gen.toNat) :=
  congrArg Host.Outcome.next (if_pos (by simp [hup, hr]))

theorem State.exec_timeMessage (offset : Int) (lp : Nat) (hr : s.n .pairRole ≠ 0) : exec (.timeMessage offset lp) s =
    .next (if s.n .pairRole = 2 then (s.timeNoted lp (satS32 offset)).sourceEvent offset else s.timeNoted lp 0) := by
  refine congrArg Host.Outcome.next ((if_pos (by simp [hup, hr])).trans ?_)
  have hn : ((s.hear true).putN .pairLinkNs 0 lp).n .pairRole = s.n .pairRole :=
    ((s.hear true).n_putN_field (by decide)).trans (s.hear_n true _ _ _)
  have hc : ((s.hear true).putN .pairLinkNs 0 lp).isCounterfoil = decide (s.n .pairRole = 2) := by
    rw [State.isCounterfoil, hn]; rfl
  dsimp only
  rw [hc]
  simp only [decide_eq_true_eq]
  rfl

end

/-! ## The stream -/

/-- The pair when a stream begins. -/
def State.streaming (s : State) : State := s.withPair { s.pair with endsIdle := false, streamed := true, lastStream := s.epoch, silent := [] }

theorem State.stream_streamed (s : State) (frames : List (RoundNo × Frame)) :
    s.stream frames = forL frames (fun e t => t.streamOne e) s.streaming := rfl

theorem Streamed.whole {s t : State} {p : PairSt} (h : Streamed (s.withPair p) t) : t.pair = p ∧
    t = ((((s.withPts t.pts).withPair t.pair).withRnds t.rnds).withHost { s.host with msixPend := t.host.msixPend }).withOut t.out := by
  obtain ⟨ps, r, m, o, rfl⟩ := h
  exact ⟨rfl, rfl⟩

/-- The stream of one round. -/
theorem State.streamOne_shows (s : State) (r : RoundNo) (f : Frame) : let t := s.streamOne (r, f)
    (t.rnd r).range s.ownEnd = (if f.linkup then none else some (f.lo, f.hi)) ∧
    (f.linkup = false → t.n .rndState r = 6 ∧ t.n .rndLate r = (if f.offset = 2 then 1 else 0) ∧
      t.w .pairGeneration 0 0 = Word.ofNat f.generation) := by
  refine ⟨?_, fun h => State.frameShows_points _ r f h⟩
  show ((State.frameShows _ _ _).rnd r).range _ = _
  rw [State.rnd, State.frameShows_rnds]
  exact State.shownRound_range (s.emit (.frame r s.ownEnd (s.streamFrame f) (frameWire (s.streamFrame f)))) r f

/-! ## The offset of a time message -/

theorem State.rest_records {s u : State} {p : PairSt} (h : u.rest = (s.withPair p).rest) : u.pair = p ∧ u.clk = s.clk :=
  ⟨(congrArg State.pair h :), (congrArg State.clk h :)⟩

theorem State.rest_withClk {s u t : State} {p : PairSt} (h : u.rest = (s.withPair p).rest) (k : t.rest = (u.withClk t.clk).rest) :
    t.rest = ((s.withPair t.pair).withClk t.clk).rest ∧ t.pair = p := by
  have hp : t.pair = p := (congrArg State.pair k :).trans (State.rest_records h).1
  have hc := congrArg (fun x : State => x.withClk t.clk) h
  rw [hp]
  exact ⟨k.trans ((by cases u; rfl : (u.withClk t.clk).rest = u.rest.withClk t.clk).trans (hc.trans (by cases s; rfl))), rfl⟩

theorem State.timeMessage_brings (s : State) (offset : Int) (lp : Nat) :
    let t := if s.n .pairRole = 2 then (s.timeNoted lp (satS32 offset)).sourceEvent offset else s.timeNoted lp 0
    t.w .pairLinkNs 0 0 = Word.ofNat lp ∧ t.pair = { s.pair with heard := true, heardAt := s.epoch } ∧
    (s.n .pairRole = 2 → t.w .pairTimeOffsetNs 0 0 = Word.ofInt (satS32 offset) ∧ t.clk.slewLeft = offset * 1000 ∧
      t.w .devTimeErrorNs 0 0 = Word.ofInt (satS32 offset) ∧ t.clk.srcAt = s.now) ∧
    (s.n .pairRole ≠ 2 → t.w .pairTimeOffsetNs 0 0 = 0 ∧ t.clk = s.clk) ∧
    t.rest = ((s.withPair t.pair).withClk t.clk).rest ∧
    QuietPoints s t [⟨.pairLinkNs, 0, 0⟩, ⟨.pairTimeOffsetNs, 0, 0⟩, ⟨.devTimeErrorNs, 0, 0⟩, ⟨.devTimeState, 0, 0⟩] := by
  split
  · next h2 =>
    obtain ⟨hrest, hlink, hoff, hpts⟩ := s.timeNoted_leaves lp (satS32 offset)
    generalize s.timeNoted lp (satS32 offset) = u at hrest hlink hoff hpts
    obtain ⟨herr, -, hclk, -, -, hr, hq⟩ := u.sourceEvent_measured offset
    generalize u.sourceEvent offset = t at herr hclk hr hq
    obtain ⟨hr', hpair⟩ := State.rest_withClk hrest hr
    have hnow : u.now = s.now := congrArg Clock.now (State.rest_records hrest).2
    refine ⟨(hq _ _ _ (by decide) rfl).trans hlink, hpair, fun _ => ⟨(hq _ _ _ (by decide) rfl).trans hoff, by rw [hclk], herr,
      by rw [hclk]; exact hnow⟩, fun h => absurd h2 h, hr', hpts.quiet.trans hq⟩
  · next h2 =>
    obtain ⟨hrest, hlink, hoff, hpts⟩ := s.timeNoted_leaves lp 0
    generalize s.timeNoted lp 0 = t at hrest hlink hoff hpts
    obtain ⟨hpair, hclk⟩ := State.rest_records hrest
    refine ⟨hlink, hpair, fun h => absurd h h2, fun _ => ⟨hoff, hclk⟩, ?_, hpts.quiet.mono (by simp)⟩
    rw [hrest, hpair, hclk]
    cases s; rfl

/-- Settles O54: each message by what its function leaves; a relayed block runs the function of the block itself, and an input message keeps
the pair's record through everything that the lanes compute. -/
theorem pairMessages : Obligations.PairMessages := by
  intro s hup
  refine ⟨fun frames hr hj hi => ?_, fun hr hs => ?_, fun r e time hr hh => ⟨fun pos bytes hm hok => ?_, ?_, fun pos tag status vals crc => ?_,
    fun pos serial versions placed ok => ?_, fun pos bytes => ?_, fun pos rtt => ?_, fun pos port => ?_⟩,
    fun no epoch tag agent ring op hr hj => ?_, fun secs verdicts nos hr hj hf hu => ?_, fun hr hj hf hu => ?_,
    fun epoch hash mode gen prot hr => ?_, fun offset lp hr => ?_⟩
  · rw [State.exec_endBStream hup frames hr hj hi, s.stream_streamed]
    have hst : Streamed s.streaming (forL frames (fun e t => t.streamOne e) s.streaming) :=
      Streamed.forL (fun e t => t.streamOne_streamed e) frames _
    obtain ⟨hpair, hrest⟩ := hst.whole
    refine yields_next ⟨hpair, fun e he => State.streamed_out frames s.streaming he, fun r f h => ?_, hrest,
      fun r h => State.streamed_rnd frames s.streaming h⟩
    subst h
    exact State.streamOne_shows s.streaming r f
  · rw [State.exec_streamAbsent hup hr hs]
    have hp : s.idleEnds.pair = { s.pair with endsIdle := true } := by rw [s.idleEnds_eq]; rfl
    refine yields_next ⟨hp, fun h r hr => s.idleEnds_idle h hr, ?_⟩
    rw [hp]
    exact s.idleEnds_eq
  · rw [State.exec_slotRelay hup r e _ time hr hh, s.relayed_slot r e pos time hok]
    refine yields_next (congrArg Host.Outcome.next ?_)
    exact (if_neg hm).trans (if_pos hok)
  · rw [State.exec_slotRelay hup r e _ time hr hh]; exact yields_next rfl
  · rw [State.exec_slotRelay hup r e _ time hr hh]; exact yields_next rfl
  · rw [State.exec_slotRelay hup r e _ time hr hh]; exact yields_next rfl
  · rw [State.exec_slotRelay hup r e _ time hr hh]; exact yields_next rfl
  · rw [State.exec_slotRelay hup r e _ time hr hh]; exact yields_next rfl
  · rw [State.exec_slotRelay hup r e _ time hr hh]; exact yields_next rfl
  · have hc : exec (.commandForward no epoch tag agent ring op) s = .next _ :=
      congrArg Host.Outcome.next (if_pos (by simp [hup, State.isCounterfoil, hr, hj]))
    rw [hc]
    exact yields_next ⟨⟨_, rfl, rfl, rfl, rfl, rfl, rfl, rfl⟩, rfl⟩
  · rw [State.exec_inputMessage hup secs verdicts nos hr hj hf hu]
    refine yields_next ⟨State.inputMessage_fed _ _, fun h => ?_, fun h => ?_, fun h hre => ?_⟩
    · rw [State.inputMessage_eq, if_neg (by omega), if_pos h]; rfl
    · rw [State.inputMessage_eq, if_pos h]
      obtain ⟨-, hfwd, hlost⟩ := s.fedNoted.computeFed_fed
        { epoch := s.epoch, secs := secs, verdicts := verdicts.map (fun v => (v.1.val, v.2)), nos := nos }
      refine ⟨hlost, fun c hc => ?_⟩
      rw [hfwd] at hc
      simpa [PairInput.names] using (List.mem_filter.1 hc).2
    · obtain ⟨hlen, hlast, heq⟩ := s.fedNoted.keepInput_keeps
        { epoch := s.epoch, secs := secs, verdicts := verdicts.map (fun v => (v.1.val, v.2)), nos := nos }
      rw [State.inputMessage_eq, if_neg (by omega), if_neg (by omega), if_neg (by rw [heq]; exact hre)]
      exact ⟨hlen, hlast, heq⟩
  · have hc : exec .unfedEpoch s = .next _ := congrArg Host.Outcome.next (if_pos (by simp [hup, State.isCounterfoil, hr, hj, hf, hu]))
    rw [hc]
    exact yields_next ⟨rfl, rfl, rfl⟩
  · rw [State.exec_hashMessage hup epoch hash mode gen prot hr]
    exact yields_next (s.hashMessage_brings epoch hash.toNat gen.toNat (by omega))
  · rw [State.exec_timeMessage hup offset lp hr]
    exact yields_next (s.timeMessage_brings offset lp)

end Sys2Proof.Machine
end
